-- ==== Sys2Proof/Word.lean ====
section
/-! DEFINITION. Word types and the plainest arithmetic of the AX-9160 model (R3): bytes, ranges,
sequence comparison. -/

namespace Sys2Proof

/-- One byte, as the manual numbers bytes (bit 0 least significant, R3). -/
abbrev Byte := BitVec 8

/-- A 16-bit link sequence (R123). -/
abbrev Seq16 := BitVec 16

/-- The number a list of bytes spells, byte 0 most significant (the wire order of R405). -/
def beNat (bs : List Byte) : Nat := bs.foldl (fun n b => n * 256 + b.toNat) 0

/-- The `n` bytes that spell `v`, byte 0 most significant (the wire order of R405). -/
def beBytes : Nat → Nat → List Byte
  | 0, _ => []
  | n + 1, v => BitVec.ofNat 8 (v / 256 ^ n) :: beBytes n v

/-- Bit field `[hi:lo]` of a number (R3). -/
def field (v hi lo : Nat) : Nat := v / 2 ^ lo % 2 ^ (hi - lo + 1)

/-- Bit `k` of a number (R3). -/
def bitOf (v k : Nat) : Bool := v / 2 ^ k % 2 == 1

/-- Rounding a division up. -/
def ceilDiv (a b : Nat) : Nat := (a + b - 1) / b

end Sys2Proof
end

