-- ==== Sys2Proof/Syntax.lean ====
section
/-! DEFINITION. The commands of the AX-9160 crown module: one constructor of `Instr` per row of
`spec/opcode_table.json`, in the table's order, and the data the commands carry.
Every command carries `t`, the instant at which it happens, in nanoseconds of the module's local count
(the count that starts when the standby domain comes up, R85). The table gives no row an operand and no
bits; the operands are what the rows' rules name (DESIGN CHOICE, log entry 2). -/

namespace Sys2Proof

/-- Who makes a request: the roles of R438, or nobody (R406). The number is the key slot. -/
inductive Role where
  | anonymous
  | operator (slot : Nat)
  | installer (slot : Nat)
  | maker (slot : Nat)
  deriving DecidableEq, Repr

/-- The reset and containment levels of R28 and R377, with the number of the unit (R10). -/
inductive UnitId where
  | twig (g : Nat)
  | bough (b : Nat)
  | limb (l : Nat)
  | die (d : Nat)
  | crown
  deriving DecidableEq, Repr

/-- A die-to-die link (R5, R6). -/
inductive DieLinkId where
  | stemStem (k : Nat)
  | stemHeartwood (s : Nat)
  deriving DecidableEq, Repr

/-- Transport on which a Bocel request arrives (R430). -/
inductive Transport where
  | mctpPcie (part : Nat)
  | i3c
  | udp
  | inBand (source : Nat)
  | mailbox (part : Nat)
  deriving DecidableEq, Repr

/-- A signature block (R420): its KEY_ID, KEY_SEQ, the public key under which SIG verifies over the bytes
of R420 (0: under none), and the SHA-384 of those bytes. -/
structure SigBlock where
  keyId : Nat
  keySeq : Nat
  key : Nat
  digest : Nat
  deriving DecidableEq, Repr

/-- A MAC block (R422): the session, its SESSION_SEQ, and whether the MAC verifies under the session key. -/
structure MacBlock where
  session : Nat
  sessionSeq : Nat
  ok : Bool
  deriving DecidableEq, Repr

/-- What every Bocel request carries beside its body (R414). `wellFormed` is false when the bytes break
R414 to R416. -/
structure Req where
  via : Transport
  reqId : Nat
  target : Nat
  wellFormed : Bool
  sig : Option SigBlock
  mac : Option MacBlock
  deriving DecidableEq, Repr

/-- One of the two signatures in a COMMIT or CANCEL_SET body (R425): KEY_ID and the public key under
which it verifies over COMMIT_DIGEST (0: under none). -/
structure SetSig where
  keyId : Nat
  key : Nat
  deriving DecidableEq, Repr

/-- The time announcement of R39. -/
structure Announce where
  hops : Nat
  key : Nat
  masterState : Nat
  seq : Seq16
  ft : Nat
  sender : Nat
  deriving DecidableEq, Repr

/-- What a lane marker says (R114). `checkOk`: MARKER_CHECK passes. -/
structure Marker where
  checkOk : Bool
  timeState : Nat
  sender : Nat
  ftStamp : Nat
  count : Nat
  deriving DecidableEq, Repr

/-- CONTENT of a CAPS frame (R104). -/
structure Caps where
  crown : Nat
  trunk : Nat
  rateCeiling : Nat
  cryptPolicy : Nat
  cryptSupport : Bool
  version : Nat
  deriving DecidableEq, Repr

/-- CONTENT of a DELAY frame (R104). Counts are in units of 2⁻⁸ ns. -/
structure DelayContent where
  role : Nat
  exchange : Nat
  t1 : Nat
  t2 : Nat
  t3 : Nat
  deriving DecidableEq, Repr

/-- CONTENT of an EQ frame (R104). -/
structure EqContent where
  lane : Nat
  kind : Nat
  preset : Nat
  coeff : List Int
  reqNo : Nat
  deriving DecidableEq, Repr

/-- The flow-unit header of R119. -/
structure FuHeader where
  type : Nat
  cls : Nat
  pool : Bool
  nak : Bool
  keyPhase : Bool
  first : Bool
  last : Bool
  ackSeq : Seq16
  crClass : Nat
  crRsv : BitVec 8
  crShared : BitVec 13
  nonceCtr : BitVec 24
  destCrown : Nat
  srcCrown : Nat
  gpart : Nat
  flow : Nat
  len : Nat
  hops : Nat
  deriving DecidableEq, Repr

/-- Kinds of a TLP (R244, R159). -/
inductive TlpKind where
  | memRead
  | memReadLocked
  | memWrite
  | fetchAdd
  | swap
  | cas
  | ioRequest
  | config
  | unlock
  | vdmMirath
  | message
  | completion
  | datagram
  | engine
  deriving DecidableEq, Repr

/-- What a request of the management bridge names (R299): a gate of this crown and an address behind it, an address in the address space
of the crown partition for which the firmware acts, or a target of the grove as a carrier header names it (R288). -/
inductive BridgeTarget where
  | gate (gate : Nat)
  | part
  | grove (crown : Nat) (tkind : Nat) (select : Nat)
  deriving DecidableEq, Repr

/-- Statuses of a completion (R34, R264, R300). -/
inductive CplStatus where
  | successful
  | unsupported
  | aborted
  | retry
  deriving DecidableEq, Repr

/-- A TLP, datagram or engine message. `hdrLen` is its header bytes, `lenBytes` the bytes it asks for or carries. Of a completion `lenBytes`
is its byte count (the bytes still to come, its own among them), `addr` its lower address, `status` its status and `completer` the completer
ID; `code` is the message code of a message; `ide`: it belongs to a selective IDE stream that does not end at the module. `specOk`: it breaks no format rule of the specification (row 0x01 of R391 but the 4 KiB
rule). -/
structure Tlp where
  kind : TlpKind
  tc : Nat
  addr : Nat
  lenBytes : Nat
  hdrLen : Nat
  reqId : Nat
  tag : Nat
  data : List Byte
  ro : Bool
  ido : Bool
  ns : Bool
  poisoned : Bool
  specOk : Bool
  status : CplStatus := .successful
  completer : Nat := 0
  code : Nat := 0
  ide : Bool := false
  deriving DecidableEq, Repr

/-- Requester classes of R261. -/
inductive RClass where
  | host
  | device
  | engine
  | func
  | fwuser
  | fw
  | debug
  deriving DecidableEq, Repr

/-- The carrier header of R288. -/
structure Carrier where
  ckind : Nat
  mcast : Bool
  lock : Bool
  rclass : Nat
  tkind : Nat
  select : Nat
  faddr : Nat
  mcgroup : Nat
  track : Nat
  reservedOk : Bool
  deriving DecidableEq, Repr

/-- The capability structures that R69 and R205 name, and any other of the specification (R70). -/
inductive Capability where
  | express
  | powerManagement
  | msix
  | aer
  | acs
  | ari
  | multicast
  | dpc
  | slot
  | l1Substates
  | margining
  | sriov
  | doe
  | ide
  | other (id : Nat)
  deriving DecidableEq, Repr

/-- The fields of a virtual bridge or module function that software reads and writes by configuration
requests, as far as a rule of the manual gives them an effect (R69, R70, R72, R74, R91, R205 to R207, R254, R255, R337, R338). -/
inductive CfgField where
  | memEnable
  | secondaryBus
  | subordinateBus
  | memBase
  | memLimit
  | prefBase
  | prefLimit
  | barAddr
  | targetLinkSpeed
  | aspmControl
  | l1pmControl
  | acsRedirect
  | acsCompletion
  | acsUpstream
  | acsEgress
  | acsEgressVector
  | ariForwarding
  | headerType
  | capability (c : Capability)
  | supportedSpeeds
  | l1ExitLatency
  | tPowerOn
  | mcBase
  | mcReceive
  | mcBlockAll
  | attentionIndicator
  | powerIndicator
  | slotStatus
  | aerStatus
  | dpcStatus
  | numVfs
  | vfEnable
  | powerState
  | completionTimeout
  | busMaster
  | msixControl
  | linkStatus
  | headerLog
  | other (offset : Nat)
  deriving DecidableEq, Repr

/-- Whose configuration space a configuration request names (R203, R337). -/
inductive CfgTarget where
  | upstream
  | vdp (n : Nat)
  | function (f : Nat)
  | device (vdp : Nat) (fn : Nat)
  deriving DecidableEq, Repr

/-- Outcome of a read that an engine or function issues, as the completion brings it (R346). -/
inductive ReadResult where
  | data (bs : List Byte)
  | poison
  | refused
  | timeout
  deriving DecidableEq, Repr

/-- What one read of a line brought from its device, against what is stored there (R312, R328): the row that served it if another than its
own, the bits that differ at positions of the line, in the owner fields of its side tag, and in its CHECK. -/
structure LineGot where
  row : Option Nat
  err : List (Nat × Byte)
  own : BitVec 24
  chk : BitVec 40
  deriving DecidableEq, Repr

/-- How a pool line came back from its device (R327, R328): `retries` transfer retries, and what the line's first read, and the second one
after a failed first, brought. -/
structure LineRead where
  retries : Nat
  first : LineGot
  second : LineGot
  deriving DecidableEq, Repr

/-- The 64-byte engine descriptor of R341. -/
structure Descriptor where
  opcode : Nat
  format : Nat
  redop : Nat
  cls : Nat
  sat : Bool
  intr : Bool
  len : Nat
  src : Nat
  dst : Nat
  aux : Nat
  round : Nat
  contrib : Nat
  ctx : Nat
  user : Nat
  reservedOk : Bool
  deriving DecidableEq, Repr

/-- Where an engine descriptor runs: crown partition, VF of that partition, and index in the ring. -/
structure RingPos where
  part : Nat
  vf : Nat
  index : Nat
  deriving DecidableEq, Repr

/-- A scatter-gather entry of R343: address, length, and whether bytes 12 to 15 are zero. -/
structure SgEntry where
  addr : Nat
  len : Nat
  zeroOk : Bool
  deriving DecidableEq, Repr

/-- A send descriptor of R358. -/
structure SendDesc where
  buf : Nat
  len : Nat
  dstCrown : Nat
  dstFn : Nat
  dstQueue : Nat
  ect : Bool
  intr : Bool
  user : Nat
  zeroOk : Bool
  payload : ReadResult
  deriving DecidableEq, Repr

/-- A datagram (R359). -/
structure Datagram where
  dstCrown : Nat
  dstFn : Nat
  dstQueue : Nat
  srcCrown : Nat
  srcFn : Nat
  srcQueue : Nat
  len : Nat
  cong : Nat
  payload : List Byte
  deriving DecidableEq, Repr

/-- An engine message on a trunk (R352): a partial, a result chunk or an abort of a reduction round. -/
structure EngineMsg where
  kind : Nat
  ctx : Nat
  round : Nat
  chunk : Nat
  slot : Nat
  data : List Byte
  deriving DecidableEq, Repr

/-- A whole trunk message (R121), as its bytes spell it. -/
inductive Msg where
  | tlp (c : Carrier) (x : Tlp)
  | datagram (d : Datagram)
  | engine (e : EngineMsg)
  deriving DecidableEq, Repr

/-- A flow unit (R118): header, payload as sent (R124), tag and check. -/
structure Fu where
  hdr : FuHeader
  wire : List Byte
  tag : BitVec 64
  check : BitVec 64
  deriving DecidableEq, Repr

/-- A notice that crowns forward and number (R285, R286). -/
structure FenceMsg where
  crown : Nat
  issuer : Nat
  set : Bool
  number : Seq16
  ft : Nat
  deriving DecidableEq, Repr

/-- A far-failure notice (R293). -/
structure FarMsg where
  reporter : Nat
  gpart : Nat
  cause : Nat
  more : Nat
  ft : Nat
  rclass : Nat
  vdp : Nat
  desc : Nat
  header : Nat
  deriving DecidableEq, Repr

/-- A containment message (R380). -/
structure ContainMsg where
  reporter : Nat
  kind : Nat
  contained : Bool
  twig : Nat
  gpart : Nat
  number : Seq16
  ft : Nat
  deriving DecidableEq, Repr

/-- A snapshot scheduling message (R531). -/
structure SnapMsg where
  origin : Nat
  number : Seq16
  ft : Nat
  snapId : Nat
  deriving DecidableEq, Repr

/-- Errors of an H-link (R97, R98, R391): a replay, an entry to Recovery, FLITs corrected by FEC, a replay asked of the partner (NAK sent, or
LCRC failure in non-FLIT mode), a Data Link Protocol Error or FLIT sequence error, and a Receiver Overflow or Flow Control Protocol
Error (DESIGN CHOICE, log entry 158). -/
inductive LinkError where
  | replay
  | recovery
  | fec (flits : Nat)
  | nakSent
  | protocol
  | overflow
  deriving DecidableEq, Repr

/-- A request that a link partner makes of the transmit FFE (R86): one of the specification's presets, or coefficients. -/
inductive CoeffReq where
  | preset (n : Nat)
  | coefficients (c : List Int)
  deriving DecidableEq, Repr

/-- Lane Margining at the Receiver (R69): of timing or of voltage. -/
inductive Margin where
  | timing
  | voltage
  deriving DecidableEq, Repr

/-- Partition-manager signalling about a VDP whose twig another crown holds (R215). From the crown that holds the twig: its slot and link,
with the event that they bring (0 presence, 1 button, 2 latch, 3 power fault, 4 link, 5 none: the values alone) (R207, R74). From the
home crown: slot and link controls, Secondary Bus Reset, a link register, Retrain Link (R74, R207, R223, R230). -/
inductive SlotMsg where
  | state (present linkActive powerOn latch : Bool) (rate width event : Nat)
  | power (on : Bool)
  | linkDisable (on : Bool)
  | busReset (on : Bool)
  | indicator (power : Bool) (val : Nat)
  | register (f : CfgField) (val : Nat)
  | retrain
  deriving DecidableEq, Repr

/-- One poll's answer of the expander inputs of a port: the six levels in the order of R301, true meaning
asserted; `none` when the expander did not answer. -/
structure PortPoll where
  port : Nat
  levels : Option (List Bool)
  deriving DecidableEq, Repr

/-- The error a source signals on its pair (R374): its event source, code, class, and the unit it names. -/
structure ErrorSig where
  source : Nat
  code : Nat
  cls : Nat
  unit : Option UnitId
  part : Option Nat
  f4cause : Nat
  injSlot : Option Nat
  deriving DecidableEq, Repr

/-- The causes of an upward reset of the crown (R28, R35, R384, R485, R487, R497, R542). -/
inductive WarmCause where
  | request (who : Role)
  | watchdog
  | resetPin
  | inputLoss
  | faultWindow
  | activation
  deriving DecidableEq, Repr

/-- What a start reads from flash (R469, R475, R476, R481, R486, R488): whether each copy of the boot record has a good CRC; whether
the image of the slot that it names verifies, whether the other slot's does, and whether the subordinate images agree with the manifest;
whether each device answered its reads; and where replay stops early, with true for SEAL. -/
structure StartReads where
  copy0 : Bool
  copy1 : Bool
  imageOk : Bool
  otherOk : Bool
  subordinateOk : Bool
  flash0 : Bool
  flash1 : Bool
  truncatedAt : Option (Nat × Bool)
  deriving DecidableEq, Repr

/-- The commands: one per row of the opcode table, in its order. The rule named is the row's own. -/
inductive Instr where
  /-- R7 -/ | dieLinkLaneFail (t : Nat) (link : DieLinkId)
  /-- R30 -/ | twigReset (t : Nat) (who : Role) (g : Nat)
  /-- R18 -/ | boughReset (t : Nat) (who : Role) (b : Nat)
  /-- R19 -/ | limbReset (t : Nat) (who : Role) (l : Nat)
  /-- R19 -/ | dieReset (t : Nat) (who : Role) (d : Nat)
  /-- R35 -/ | warmReset (t : Nat) (cause : WarmCause)
  /-- R31 -/ | resetComplete (t : Nat) (u : UnitId)
  /-- R39 -/ | timeAnnounceSend (t : Nat)
  /-- R39 -/ | timeAnnounceReceive (t : Nat) (q : Nat) (a : Announce)
  /-- R40 -/ | masterLost (t : Nat)
  /-- R40 -/ | electionSettled (t : Nat)
  /-- R551 -/ | takeOffice (t : Nat)
  /-- R42 -/ | selfElect (t : Nat)
  /-- R43 -/ | timeRefPulse (t : Nat) (spacing : Nat)
  /-- R43 -/ | timeRefPulseMissing (t : Nat)
  /-- R45 -/ | alignmentMarkerReceive (t : Nat) (q : Nat) (lanes : List (List Byte))
  /-- R47 -/ | markerLoss (t : Nat)
  /-- R50 -/ | timeOpenMode (t : Nat)
  /-- R50 -/ | scheduledModeReturn (t : Nat)
  /-- R54 -/ | dictionaryChangeFire (t : Nat) (slot : Nat)
  /-- R64 -/ | slotSwapRequest (t : Nat) (who : Role) (ft : Nat)
  /-- R552 -/ | slotSwap (t : Nat)
  /-- R63 -/ | pruneSetReceive (t : Nat) (q : Nat) (number : Seq16) (ft : Nat) (prune : BitVec 128)
  /-- R63 -/ | pruneSetApply (t : Nat) (q : Nat)
  /-- R85 -/ | hLaneMaintenance (t : Nat) (lane : Nat) (dur : Nat) (eye : Nat) (corrected : Bool)
  /-- R110 -/ | trunkTxMaintenanceStep (t : Nat) (q : Nat) (dur : Nat)
  /-- R63 -/ | trunkRxMaintenanceStep (t : Nat) (q : Nat) (dur : Nat)
  /-- R324 -/ | refreshBatch (t : Nat) (dur : Nat) (retries : List Nat) (failed : List Nat)
  /-- R71 -/ | hpSymbolLockTimeout (t : Nat) (lane : Nat) (left : Nat)
  /-- R73 -/ | hpL0Reached (t : Nat) (p : Nat) (rate : Nat) (lanes : Nat) (partnerMax : Nat) (flit : Bool)
      (reversed : Bool) (polarity : BitVec 16)
  /-- R75 -/ | hpEqAttemptEnd (t : Nat) (p : Nat) (preset : Nat) (ok : Bool)
  /-- R86 -/ | hpCoeffRequest (t : Nat) (p : Nat) (req : CoeffReq)
  /-- R98 -/ | hpLinkRecovery (t : Nat) (p : Nat) (e : LinkError)
  /-- R99 -/ | hpLinkDown (t : Nat) (p : Nat) (cause : Nat)
  /-- R82 -/ | dfeUpdate (t : Nat) (lane : Nat) (sums : List Int)
  /-- R81 -/ | refclkLost (t : Nat) (b : Nat)
  /-- R81 -/ | refclkRestored (t : Nat) (b : Nat)
  /-- R87 -/ | l0pNarrow (t : Nat) (p : Nat)
  /-- R87 -/ | l0pWiden (t : Nat) (p : Nat)
  /-- R87 -/ | l0pPartnerRequest (t : Nat) (p : Nat) (width : Nat)
  /-- R90 -/ | l1EntryInitiate (t : Nat) (p : Nat)
  /-- R90 -/ | l1PartnerRequest (t : Nat) (p : Nat)
  /-- R92 -/ | l1Exit (t : Nat) (p : Nat)
  /-- R102 -/ | trunkSignalDetect (t : Nat) (q : Nat)
  /-- R116 -/ | trunkAlignComplete (t : Nat) (q : Nat) (lanes : List (List Byte × Nat))
  /-- R104 -/ | capsFrame (t : Nat) (q : Nat) (frame : List Byte)
  /-- R105 -/ | keyexFrame (t : Nat) (q : Nat) (frame : List Byte)
  /-- R106 -/ | delayFrame (t : Nat) (q : Nat) (frame : List Byte) (at_ : Nat)
  /-- R104 -/ | stepFrame (t : Nat) (q : Nat) (frame : List Byte)
  /-- R104 -/ | eqFrame (t : Nat) (q : Nat) (frame : List Byte)
  /-- R107 -/ | holdFrame (t : Nat) (q : Nat) (frame : List Byte)
  /-- R107 -/ | holdFramesCeased (t : Nat) (q : Nat)
  /-- R107 -/ | heldReevaluate (t : Nat) (q : Nat)
  /-- R102 -/ | trunkStateTimeout (t : Nat) (q : Nat)
  /-- R148 -/ | linkInitExchange (t : Nat) (q : Nat) (resume : Bool) (rxLast : Seq16) (rsv : List (BitVec 8)) (shared : BitVec 13)
  /-- R125 -/ | fuReceive (t : Nat) (q : Nat) (fu : Fu) (errs : Nat)
  /-- R126 -/ | nakRepeat (t : Nat) (q : Nat)
  /-- R129 -/ | replayTimer (t : Nat) (q : Nat)
  /-- R117 -/ | trunkLinkLoss (t : Nat) (q : Nat)
  /-- R142 -/ | tpRetrain (t : Nat) (who : Role) (q : Nat)
  /-- R139 -/ | rekeyOfferSend (t : Nat) (q : Nat)
  /-- R139 -/ | rekeyOffer (t : Nat) (q : Nat) (epoch : Nat) (key : Nat)
  /-- R139 -/ | rekeyAccept (t : Nat) (q : Nat) (epoch : Nat) (key : Nat)
  /-- R139 -/ | keyPhaseToggle (t : Nat) (q : Nat)
  /-- R144 -/ | fateQuery (t : Nat) (via : Nat) (querier : Nat) (trunk : Nat) (queryNo : Seq16)
  /-- R144 -/ | fateQueryHoldExpire (t : Nat) (trunk : Nat)
  /-- R143 -/ | fateQueryResend (t : Nat) (q : Nat)
  /-- R145 -/ | fateAnswer (t : Nat) (via : Nat) (trunk : Nat) (answerer : Nat) (queryNo : Seq16) (rxLast : Seq16)
  /-- R146 -/ | trunkDiscard (t : Nat) (q : Nat)
  /-- R133 -/ | rxSlotFreed (t : Nat) (q : Nat) (cls : Nat) (shared : Bool)
  /-- R244 -/ | tlpIngress (t : Nat) (g : Nat) (tlp : Tlp)
  /-- R171 -/ | admissionRetry (t : Nat) (g : Nat) (kind : Nat)
  /-- R174 -/ | cutThroughStart (t : Nat) (id : Nat) (arrived : Nat) (tailOk : Bool)
  /-- R233 -/ | egressStart (t : Nat) (g : Nat) (bufError : Nat)
  /-- R175 -/ | cutResend (t : Nat) (id : Nat)
  /-- R186 -/ | bufStructFault (t : Nat) (l : Nat)
  /-- R187 -/ | cellFreeDone (t : Nat) (l : Nat)
  /-- R164 -/ | classMapRelease (t : Nat) (part : Nat) (tc : Nat)
  /-- R164 -/ | classMapHold (t : Nat) (part : Nat) (tc : Nat)
  /-- R210 -/ | configRequest (t : Nat) (part : Nat) (reqId : Nat) (tag : Nat) (target : CfgTarget) (fld : CfgField) (val : Option Nat)
  /-- R223 -/ | secondaryBusReset (t : Nat) (part : Nat) (vdp : Option Nat) (set : Bool)
  /-- R223 -/ | hotResetReceived (t : Nat) (part : Nat) (linkDown : Bool)
  /-- R226 -/ | partResetStepsDone (t : Nat) (part : Nat)
  /-- R226 -/ | partResetCauseEnd (t : Nat) (part : Nat)
  /-- R226 -/ | resetNotice (t : Nat) (home : Nat) (gpart : Nat)
  /-- R207 -/ | powerControllerControl (t : Nat) (part : Nat) (vdp : Nat) (on : Bool)
  /-- R230 -/ | linkDisable (t : Nat) (part : Nat) (vdp : Nat) (set : Bool)
  /-- R75 -/ | retrainLink (t : Nat) (part : Nat) (vdp : Option Nat)
  /-- R220 -/ | msixEnable (t : Nat) (part : Nat)
  /-- R220 -/ | vectorUnmask (t : Nat) (part : Nat) (vec : Nat)
  /-- R220 -/ | forwardedEvent (t : Nat) (gpart : Nat) (vec : Nat) (source : Nat) (code : Nat) (cls : Nat) (ft : Nat)
  /-- R222 -/ | eventSoft (t : Nat) (who : Role) (source : Nat)
  /-- R214 -/ | bindingCopy (t : Nat) (sender : Nat) (gpart : Nat) (vdp : Nat) (value : Nat)
  /-- R229 -/ | sharedResetRequest (t : Nat) (who : Role) (g : Nat)
  /-- R231 -/ | sharedResetForce (t : Nat) (who : Role) (g : Nat)
  /-- R232 -/ | sharedPerstEnd (t : Nat) (g : Nat)
  /-- R232 -/ | sharedEnumDone (t : Nat) (g : Nat) (rid : Nat) (stride : Nat)
  /-- R232 -/ | sharedResetFail (t : Nat) (g : Nat)
  /-- R224 -/ | sliceFlrDone (t : Nat) (part : Nat) (vdp : Nat)
  /-- R235 -/ | allotmentGrant (t : Nat)
  /-- R252 -/ | winFetchDone (t : Nat) (stem : Nat) (w : Nat) (tagOk : Bool)
  /-- R270 -/ | protDrainComplete (t : Nat) (epoch : Nat)
  /-- R270 -/ | protDrainSlow (t : Nat)
  /-- R271 -/ | gateScrubVisit (t : Nat) (gate : Nat) (copyOk : Bool)
  /-- R272 -/ | gateCopyError (t : Nat) (stem : Nat) (gate : Nat) (correctable : Bool)
  /-- R272 -/ | gateReloadDone (t : Nat) (stem : Nat) (gate : Nat)
  /-- R282 -/ | rebalanceStart (t : Nat) (q : Nat)
  /-- R282 -/ | routeRebalance (t : Nat) (who : Role) (dest : Nat)
  /-- R282 -/ | rebalanceComplete (t : Nat) (r : Nat)
  /-- R282 -/ | rebalanceAbandoned (t : Nat) (r : Nat)
  /-- R284 -/ | routeUnreachable (t : Nat) (dest : Nat)
  /-- R285 -/ | fenceByTrunkLoss (t : Nat) (crown : Nat)
  /-- R286 -/ | fenceNotice (t : Nat) (q : Nat) (n : FenceMsg)
  /-- R285 -/ | fenceForceSet (t : Nat) (who : Role) (crown : Nat)
  /-- R304 -/ | fenceForceClear (t : Nat) (who : Role) (crown : Nat)
  /-- R291 -/ | npTimeoutExpired (t : Nat) (track : Nat)
  /-- R291 -/ | trackQuarantineEnd (t : Nat) (track : Nat)
  /-- R290 -/ | proxyTagTimeout (t : Nat) (p : Nat) (tag : Nat)
  /-- R293 -/ | farFailureSend (t : Nat) (crown : Nat) (gpart : Nat)
  /-- R294 -/ | farFailureNotice (t : Nat) (q : Nat) (n : FarMsg)
  /-- R298 -/ | lockTimeout (t : Nat) (b : Nat)
  /-- R297 -/ | unlock (t : Nat) (part : Nat)
  /-- R299 -/ | bridgeRead (t : Nat) (core : Nat) (part : Option Nat) (target : BridgeTarget) (addr : Nat) (len : Nat)
  /-- R299 -/ | bridgeWrite (t : Nat) (core : Nat) (part : Option Nat) (target : BridgeTarget) (addr : Nat) (data : List Byte)
  /-- R299 -/ | bridgeReadTimeout (t : Nat) (core : Nat)
  /-- R300 -/ | bridgeReadRetry (t : Nat) (core : Nat)
  /-- R301 -/ | sidebandPoll (t : Nat) (answers : List PortPoll)
  /-- R315 -/ | poolRead (t : Nat) (cls : RClass) (part : Nat) (addr : Nat) (len : Nat) (rd : LineRead)
  /-- R316 -/ | poolWrite (t : Nat) (cls : RClass) (part : Nat) (addr : Nat) (data : List Byte) (retries : Nat)
      (readBackOk : Bool)
  /-- R316 -/ | poolPartialWrite (t : Nat) (cls : RClass) (part : Nat) (addr : Nat) (data : List Byte) (rd : LineRead)
  /-- R316 -/ | poolAtomic (t : Nat) (cls : RClass) (part : Nat) (op : TlpKind) (addr : Nat) (size : Nat)
      (operand : Nat) (compare : Nat) (rd : LineRead)
  /-- R322 -/ | epochSweepDone (t : Nat) (gp : Nat)
  /-- R330 -/ | memTrainingDone (t : Nat) (ok : Bool) (failed : List Nat)
  /-- R323 -/ | memInitSweepDone (t : Nat)
  /-- R331 -/ | patrolScrubRead (t : Nat) (pla : Nat) (rd : LineRead)
  /-- R324 -/ | memHotChange (t : Nat) (device : Nat) (temp : Nat)
  /-- R339 -/ | ringTail (t : Nat) (part : Nat) (vf : Nat) (tail : BitVec 16)
  /-- R340 -/ | ringEnable (t : Nat) (part : Nat) (vf : Nat)
  /-- R340 -/ | ringReset (t : Nat) (part : Nat) (vf : Nat)
  /-- R345 -/ | descriptorFetchDone (t : Nat) (part : Nat) (vf : Nat) (count : Nat)
  /-- R342 -/ | nop (t : Nat) (at_ : RingPos) (d : Descriptor)
  /-- R342 -/ | copy (t : Nat) (at_ : RingPos) (d : Descriptor) (src : ReadResult)
  /-- R342 -/ | fill (t : Nat) (at_ : RingPos) (d : Descriptor)
  /-- R343 -/ | gather (t : Nat) (at_ : RingPos) (d : Descriptor) (list : List SgEntry) (src : List ReadResult)
  /-- R343 -/ | scatter (t : Nat) (at_ : RingPos) (d : Descriptor) (list : List SgEntry) (src : ReadResult)
  /-- R342 -/ | crcGen (t : Nat) (at_ : RingPos) (d : Descriptor) (src : ReadResult)
  /-- R342 -/ | crcCheck (t : Nat) (at_ : RingPos) (d : Descriptor) (src : ReadResult)
  /-- R344 -/ | afcGen (t : Nat) (at_ : RingPos) (d : Descriptor) (src : ReadResult)
  /-- R344 -/ | afcCheck (t : Nat) (at_ : RingPos) (d : Descriptor) (src : ReadResult) (arr : ReadResult)
  /-- R354 -/ | reduceContrib (t : Nat) (at_ : RingPos) (d : Descriptor) (src : ReadResult)
  /-- R342 -/ | reducePair (t : Nat) (at_ : RingPos) (d : Descriptor) (src : ReadResult) (dst : ReadResult)
  /-- R346 -/ | descriptorComplete (t : Nat) (at_ : RingPos) (status : Nat) (result : BitVec 32) (user : Nat) (intr : Bool)
  /-- R352 -/ | reducePartial (t : Nat) (q : Nat) (ctx : Nat) (child : Nat) (round : Nat) (chunk : Nat) (data : List Byte)
  /-- R353 -/ | resultChunk (t : Nat) (ctx : Nat) (round : Nat) (chunk : Nat) (data : List Byte)
  /-- R355 -/ | reduceTimeout (t : Nat) (ctx : Nat)
  /-- R355 -/ | reduceAbortMessage (t : Nat) (ctx : Nat) (round : Nat)
  /-- R366 -/ | engFault (t : Nat) (e : Nat)
  /-- R358 -/ | sendDoorbell (t : Nat) (part : Nat) (m : Nat) (k : Nat) (tail : BitVec 16) (descs : List SendDesc)
  /-- R361 -/ | receiveDoorbell (t : Nat) (part : Nat) (m : Nat) (k : Nat) (tail : BitVec 16) (bufs : List (Nat × Nat))
  /-- R361 -/ | datagramReceive (t : Nat) (part : Nat) (d : Datagram)
  /-- R363 -/ | busMasterEnableClear (t : Nat) (part : Nat) (f : Nat)
  /-- R364 -/ | functionLevelReset (t : Nat) (part : Nat) (f : Nat)
  /-- R364 -/ | flrComplete (t : Nat) (part : Nat) (f : Nat)
  /-- R338 -/ | functionCompletionTimeout (t : Nat) (part : Nat) (f : Nat) (tag : Nat)
  /-- R374 -/ | errorSignal (t : Nat) (e : ErrorSig)
  /-- R374 -/ | pathBroken (t : Nat) (u : UnitId)
  /-- R372 -/ | f1Interval (t : Nat)
  /-- R390 -/ | violationInterval (t : Nat)
  /-- R383 -/ | faultWindowExpire (t : Nat) (seq : BitVec 15)
  /-- R384 -/ | f3WindowExpire (t : Nat)
  /-- R382 -/ | faultAck (t : Nat) (who : Role) (seq : BitVec 15)
  /-- R386 -/ | partRelease (t : Nat) (who : Role) (part : Nat)
  /-- R400 -/ | partContain (t : Nat) (who : Role) (part : Nat)
  /-- R380 -/ | containmentMessage (t : Nat) (q : Nat) (m : ContainMsg)
  /-- R393 -/ | injectArm (t : Nat) (who : Role) (slot : Nat) (value : Nat)
  /-- R393 -/ | injectDisarm (t : Nat) (who : Role) (slot : Nat)
  /-- R396 -/ | bypass (t : Nat)
  /-- R396 -/ | idcode (t : Nat)
  /-- R396 -/ | samplePreload (t : Nat) (contacts : List Bool)
  /-- R396 -/ | extest (t : Nat)
  /-- R396 -/ | dbgAccess (t : Nat)
  /-- R397 -/ | dbgCmdUpdate (t : Nat) (cmd : BitVec 96) (data : BitVec 64)
  /-- R416 -/ | read (t : Nat) (r : Req) (index : Nat) (subFirst : Nat) (subLast : Nat)
  /-- R409 -/ | write (t : Nat) (r : Req) (index : Nat) (sub : Nat) (type : Nat) (value : Nat) (len : Nat)
  /-- R423 -/ | openSet (t : Nat) (r : Req) (partition : Bool) (part : Nat) (joint : Bool)
  /-- R424 -/ | stage (t : Nat) (r : Req) (setId : Nat) (stageNo : Nat) (index : Nat) (sub : Nat) (type : Nat)
      (value : Nat) (len : Nat)
  /-- R450 -/ | commit (t : Nat) (r : Req) (setId : Nat) (commitNo : Nat) (ft : Nat) (digest : Nat) (sigA : SetSig)
      (sigB : SetSig)
  /-- R450 -/ | setValidated (t : Nat) (setId : Nat)
  /-- R426 -/ | cancelSet (t : Nat) (r : Req) (setId : Nat) (commitNo : Nat) (sigA : SetSig) (sigB : SetSig)
  /-- R427 -/ | setStatus (t : Nat) (r : Req) (setId : Nat)
  /-- R423 -/ | setExpire (t : Nat) (setId : Nat)
  /-- R422 -/ | openSession (t : Nat) (r : Req) (ephemeral : Nat)
  /-- R422 -/ | closeSession (t : Nat) (r : Req)
  /-- R422 -/ | sessionIdleClose (t : Nat) (session : Nat)
  /-- R429 -/ | subscribe (t : Nat) (r : Req)
  /-- R416 -/ | unsubscribe (t : Nat) (r : Req)
  /-- R454 -/ | journalRead (t : Nat) (r : Req) (first : Nat) (count : Nat)
  /-- R433 -/ | mbDoorbell (t : Nat) (part : Nat) (len : Nat)
  /-- R433 -/ | mbReadyClear (t : Nat) (part : Nat)
  /-- R431 -/ | bocelGatewayForward (t : Nat) (r : Req) (op : Nat)
  /-- R431 -/ | bocelInbandResponse (t : Nat) (reqId : Nat) (source : Nat) (message : List Byte)
  /-- R431 -/ | bocelInbandTimeout (t : Nat) (reqId : Nat)
  /-- R431 -/ | bocelRetryDelay (t : Nat) (reqId : Nat)
  /-- R430 -/ | setEndpointId (t : Nat) (eid : Nat)
  /-- R430 -/ | getEndpointId (t : Nat)
  /-- R430 -/ | getMctpVersionSupport (t : Nat)
  /-- R430 -/ | getMessageTypeSupport (t : Nat)
  /-- R430 -/ | icmpEcho (t : Nat) (data : List Byte)
  /-- R430 -/ | neighbourDiscovery (t : Nat) (target : Nat)
  /-- R456 -/ | getVersion (t : Nat) (part : Nat)
  /-- R456 -/ | getCapabilities (t : Nat) (part : Nat)
  /-- R456 -/ | negotiateAlgorithms (t : Nat) (part : Nat)
  /-- R456 -/ | getDigests (t : Nat) (part : Nat)
  /-- R456 -/ | getCertificate (t : Nat) (part : Nat) (slot : Nat)
  /-- R456 -/ | challenge (t : Nat) (part : Nat) (nonce : Nat)
  /-- R457 -/ | getMeasurements (t : Nat) (part : Nat) (nonce : Nat)
  /-- R456 -/ | keyExchange (t : Nat) (part : Nat) (id : Nat)
  /-- R456 -/ | finish (t : Nat) (part : Nat) (id : Nat) (macOk : Bool)
  /-- R456 -/ | heartbeat (t : Nat) (part : Nat) (id : Nat)
  /-- R456 -/ | keyUpdate (t : Nat) (part : Nat) (id : Nat)
  /-- R456 -/ | endSession (t : Nat) (part : Nat) (id : Nat)
  /-- R459 -/ | ideKmRequest (t : Nat) (part : Nat) (session : Nat) (stream : Nat) (start : Bool)
  /-- R460 -/ | ideEstablishTimeout (t : Nat) (g : Nat)
  /-- R460 -/ | ideStreamInsecure (t : Nat) (g : Nat)
  /-- R461 -/ | ideCheckFail (t : Nat) (g : Nat)
  /-- R373 -/ | tamper (t : Nat)
  /-- R463 -/ | testUnlock (t : Nat) (r : Req) (nonce : Nat)
  /-- R462 -/ | testHoldTimeout (t : Nat)
  /-- R462 -/ | testStrapRelease (t : Nat)
  /-- R473 -/ | recordWhole (t : Nat) (flash0 : Bool) (flash1 : Bool)
  /-- R477 -/ | compactNow (t : Nat) (who : Role)
  /-- R477 -/ | compactionSnapEnd (t : Nat)
  /-- R477 -/ | ringEraseDone (t : Nat) (flash0 : Bool) (flash1 : Bool)
  /-- R483 -/ | graftChunk (t : Nat) (who : Role) (offset : Nat) (data : List Byte)
  /-- R483 -/ | graftApply (t : Nat) (who : Role)
  /-- R483 -/ | graftApplyDone (t : Nat)
  /-- R484 -/ | graftActFt (t : Nat) (who : Role) (ft : Nat)
  /-- R485 -/ | firmwareActivation (t : Nat)
  /-- R486 -/ | bootStart (t : Nat) (reads : StartReads)
  /-- R487 -/ | startOk (t : Nat)
  /-- R487 -/ | startWatchdog (t : Nat)
  /-- R498 -/ | intakeInputRise (t : Nat) (millivolts : Nat)
  /-- R504 -/ | intakeEnAssert (t : Nat)
  /-- R498 -/ | intakeEnDeassert (t : Nat)
  /-- R498 -/ | precheckEnd (t : Nat) (outPercent : Nat)
  /-- R503 -/ | gateFullyOn (t : Nat)
  /-- R500 -/ | fastTrip (t : Nat) (pathA : Nat) (pathB : Nat)
  /-- R500 -/ | rampTimeout (t : Nat)
  /-- R501 -/ | intakeOvercurrent (t : Nat) (pathA : Nat) (pathB : Nat)
  /-- R501 -/ | curveTrip (t : Nat) (k : Nat)
  /-- R504 -/ | tripRestart (t : Nat)
  /-- R499 -/ | fetDamageDetect (t : Nat)
  /-- R553 -/ | inputRemoved (t : Nat)
  /-- R497 -/ | inputLoss (t : Nat) (inputBelow : Bool)
  /-- R497 -/ | inputLossWarningEnd (t : Nat)
  /-- R496 -/ | storeSupplyLimit (t : Nat) (millivolts : Nat) (milliwatts : Nat)
  /-- R496 -/ | governorStepDown (t : Nat) (millivolts : Nat) (draw : Nat)
  /-- R496 -/ | intakeDip (t : Nat) (ns : Nat) (millivolts : Nat) (milliwatts : Nat) (after : Nat)
  /-- R506 -/ | intakeSenseDiverge (t : Nat) (pathA : Nat) (pathB : Nat)
  /-- R516 -/ | intakePeakClear (t : Nat) (who : Role)
  /-- R509 -/ | slotDemandChange (t : Nat) (p : Nat)
  /-- R510 -/ | slotClear (t : Nat) (who : Role) (c : Nat)
  /-- R507 -/ | slotFastTrip (t : Nat) (c : Nat) (milliamps : Nat)
  /-- R507 -/ | slotCurveTrip (t : Nat) (c : Nat) (k : Nat) (millivolts : Nat) (milliamps : Nat) (dur : Nat)
  /-- R507 -/ | slotRampFail (t : Nat) (c : Nat)
  /-- R507 -/ | slotFetFailed (t : Nat) (c : Nat)
  /-- R511 -/ | slotPg (t : Nat) (p : Nat) (millivolts : Nat)
  /-- R511 -/ | perstRelease (t : Nat) (p : Nat)
  /-- R512 -/ | limbGate (t : Nat) (who : Role) (l : Nat)
  /-- R512 -/ | limbPowerOn (t : Nat) (who : Role) (l : Nat)
  /-- R512 -/ | limbRunning (t : Nat) (l : Nat)
  /-- R515 -/ | partStartActive (t : Nat) (part : Nat)
  /-- R547 -/ | thermHigh (t : Nat) (die : Nat)
  /-- R547 -/ | thermTrip (t : Nat) (die : Nat)
  /-- R547 -/ | thermCool (t : Nat)
  /-- R541 -/ | reftLost (t : Nat) (stem : Nat)
  /-- R541 -/ | reftRestored (t : Nat) (stem : Nat)
  /-- R541 -/ | ref25Lost (t : Nat)
  /-- R541 -/ | ref25Good (t : Nat)
  /-- R542 -/ | resetNAssert (t : Nat)
  /-- R526 -/ | cntEventSelect (t : Nat) (who : Role) (n : Nat) (value : Nat)
  /-- R526 -/ | cntClear (t : Nat) (who : Role) (n : Nat)
  /-- R525 -/ | cntOvfClear (t : Nat) (who : Role) (n : Nat)
  /-- R529 -/ | cntFreezeSet (t : Nat) (who : Role) (mask : BitVec 16)
  /-- R529 -/ | cntFreezeResume (t : Nat) (who : Role) (mask : BitVec 16)
  /-- R531 -/ | snapRequest (t : Nat) (who : Role) (ft : Nat) (snapId : Nat) (grove : Bool)
  /-- R531 -/ | snapshotMessage (t : Nat) (q : Nat) (m : SnapMsg)
  /-- R530 -/ | snapshotFire (t : Nat) (slot : Nat)
  /-- R532 -/ | snapComplete (t : Nat)
  /-- R542 -/ | resetNRelease (t : Nat) (strap : Bool) (slew0 : Bool) (slew1 : Bool)
  /-- R43 -/ | timeRef10mLost (t : Nat)
  /-- R497 -/ | storeExhausted (t : Nat)
  /-- R90 -/ | l1PartnerExit (t : Nat) (p : Nat)
  /-- R84 -/ | marginCommand (t : Nat) (lane : Nat) (m : Option Margin)
  /-- R301 -/ | indicatorBlink (t : Nat) (p : Nat) (power : Bool)
  /-- R215 -/ | remoteSlotState (t : Nat) (sender : Nat) (gpart : Nat) (vdp : Nat) (m : SlotMsg)
  deriving DecidableEq, Repr

end Sys2Proof
end

