-- ==== Sys2Proof/Config.lean ====
section
/-! DEFINITION. What one part fixes and what the manual leaves open: uninterpreted constants, none with a
value (DEDUCED, log entries 4, 6 and 7; DESIGN CHOICE, log entry 5). A statement that names one holds whatever it is. -/

namespace Sys2Proof.Config

/-- R434: values that the manual gives as "per part". -/
opaque orderCode : Nat
opaque deviceSerial : Nat
opaque idcodeVersion : BitVec 4
opaque idcodeMaker : BitVec 11
opaque vendorId : Nat
opaque mgmtMac : Nat
opaque makerRoot : Nat → Nat
opaque identityKey : Nat
opaque identityCert : Nat

/-- R7: data lanes of a stem-to-stem and of a stem-to-heartwood link; the manual gives no number. -/
opaque stemLinkLanes : Nat
opaque heartLinkLanes : Nat

/-- R481, R489: the images of slots A and B that a part leaves the maker with. -/
opaque imageVersion : Nat → Nat
opaque imageDigest : Nat → Nat
opaque imageSvn : Nat → Nat
opaque imageBytes : Nat → List Byte

/-- R137, R422, R457, R471: SHA-384 as its published standard defines it. -/
opaque sha384 : List Byte → Nat

/-- R138: AES-256-GCM as its published standard defines it: the ciphertext, the first 64 bits of its tag, and the plaintext of a
ciphertext, for a key, a nonce, the additional authenticated data, and the text. -/
opaque gcmCipher : Nat → Nat → List Byte → List Byte → List Byte
opaque gcmTag : Nat → Nat → List Byte → List Byte → BitVec 64
opaque gcmPlain : Nat → Nat → List Byte → List Byte → List Byte

/-- R318: AES-256 in XTS mode as IEEE 1619 defines it: the ciphertext of a line for a key pair and a tweak. R319: the key pair of a grove
partition (4,096 for the module): the draw at which the keys of all were generated, the ID, how often its epoch has wrapped, and its
epoch. -/
opaque xtsCipher : Nat → Nat → List Byte → List Byte
opaque memKey : Nat → Nat → Nat → Nat → Nat

/-- R318: what decryption makes of 256 bytes that are not a line's ciphertext. -/
opaque xtsNoise : Nat → Nat → List Byte → List Byte

/-- R309: what firmware keeps in a scratch line; R249, R309: the 16 bytes of a window entry in its table, from WIN_MAP and WIN_TARGET. -/
opaque scratchLine : Nat → List Byte
opaque windowBytes : Nat → Nat → List Byte

/-- R137, R139: ECDH on P-384 (private key, the other end's point; the x-coordinate), and HKDF-SHA-384 (input key material, salt, info,
bytes of output) as its published standard defines it. -/
opaque ecdh : Nat → Nat → Nat
opaque hkdf : Nat → Nat → List Byte → Nat → Nat

/-- R105, R107: a certificate verifies against the maker root keys; a signature over a digest verifies under a certificate's key. -/
opaque certOk : List Byte → Bool
opaque certVerify : List Byte → Nat → List Byte → Bool

/-- R101: the PAM4 level of two bits; the manual gives the mapping no table. -/
opaque pam4Level : Nat → Nat

/-- R104, R110: the preset that a near receiver asks for, and a tap that it finds or moves to, one per draw. -/
opaque trunkPreset : Nat → Nat
opaque trunkTap : Nat → Int

/-- R121: the FLIT-mode header with OHC of a TLP, as the PCI Express specification lays it out. -/
opaque tlpHeader : Tlp → List Byte

/-- R121: the TLP, and the engine message, that the bytes of a message after its carrier header spell, if they spell one. -/
opaque tlpRead : List Byte → Option Tlp
opaque engineRead : List Byte → Option EngineMsg

/-- R139, R318, R422, R470: values that the module draws from its random source, one per draw. -/
opaque random : Nat → Nat

/-- R300, R431, R178: a free value per draw where the manual says "random". -/
opaque randomDelay : Nat → Nat

/-- R397, R299: what a read of a heartwood register behind gates 0x91 to 0x9C returns; the manual gives those
address spaces no contents. -/
opaque gateSpace : Nat → Nat → Nat → Nat

/-- R396: the levels on the covered contacts that SAMPLE captures. -/
opaque contacts : Nat → List Bool

/-- R456: answer bodies that the published SPDM standard fixes. -/
opaque spdmBody : Nat → Nat → Nat

/-- R210: what a configuration read of a field that no rule of the manual describes returns. -/
opaque configSpace : Nat → Nat → Nat → Nat

/-- R98, R152, R197 and the other event tables: the code of an event whose rule gives none (DEDUCED, log entry 21). -/
opaque eventCode : Nat → Nat

/-- R101, R113: pool of the bytes of an engine message's header, whose layout the manual leaves to the engines. -/
opaque engineHeader : EngineMsg → List Byte

/-- R159: the index of the first cell of a descriptor; the manual does not say which cells are taken. -/
opaque cell : Nat → Nat → Nat → BitVec 18

/-- R250, R253: the address and the size of a memory BAR of a function of a shared device, which heartwood firmware
assigns: twig, physical routing ID, BAR select. -/
opaque functionBar : Nat → Nat → Nat → Nat
opaque functionBarSize : Nat → Nat → Nat → Nat

/-- R154: how far above its slowest a core clock has run, by clock domain and instant. -/
opaque clockDrift : Nat → Nat → Nat

/-- R313, R335: whether an access misses its controller's tag cache; the manual gives the cache no replacement rule. -/
opaque tagMiss : Nat → Bool

/-- R86: whether coefficients lie in the legal space of the specification at a rate, and the coefficients of a preset there. -/
opaque legalCoeff : Nat → List Int → Bool
opaque presetCoeff : Nat → Nat → List Int

/-- R82, R85: the CTLE setting and the sampling phase that an equalization or a maintenance step finds, one per draw. -/
opaque ctleSetting : Nat → Nat
opaque samplePhase : Nat → Nat

/-- R290: the proxy requester ID of a port. -/
opaque proxyId : Nat → Nat

/-- R405: a P-384 point in the form of KEY384 lies on the curve. -/
opaque onCurve : Nat → Bool

/-- R422: the public point of a private key drawn by the module, the session key that both ends derive from it (private key,
the requester's point, SESSION), and the first 16 bytes of the HMAC under a session key. -/
opaque publicKey : Nat → Nat
opaque sessionKey : Nat → Nat → Nat → Nat
opaque sessionMac : Nat → List Byte → List Byte

/-- R422, R455: the identity key's signature over a digest. -/
opaque identitySign : Nat → Nat

/-- R460: whether link IDE has been established on a twig's link; the manual gives no event for it. -/
opaque linkIde : Nat → Nat → Bool

/-- R385, R403: the event source of an F4 whose rule names none. -/
opaque rootSource : Nat

/-- R457: the digest of the subordinate images as loaded, and of the boot ROM. -/
opaque romDigest : Nat
opaque subordinateDigest : Nat → Nat

/-- R425, R472: the 96 bytes of a commit's signature: its KEY_ID, and the digest that it covers (DESIGN CHOICE, log entry 141). -/
opaque setSignature : Nat → Nat → Nat

/-- R470: the key that the fused seed gives for wrapping, AES-256 key wrap of a key under another, and the sealing key with which a new part's
journal was created. R471: HMAC-SHA-384 as its published standard defines it, and the SEAL of the last record erased before a given
RNO, whose bytes are gone (DESIGN CHOICE, log entry 141). -/
opaque wrapKey : Nat
opaque keyWrap : Nat → Nat → Nat
opaque firstSealKey : Nat
opaque hmac384 : Nat → List Byte → List Byte
opaque erasedSeal : Nat → List Byte

/-- R469: whether both flash devices work when a power cycle tries a lost mirror, one per draw. -/
opaque flashWorks : Nat → Bool

/-- R430, R434: the link-local IPv6 address of the management port. -/
opaque linkLocal : Nat

/-- R456: the digest of the certificate chain in slot 0, and the maker root certificate at its head. -/
opaque chainDigest : Nat
opaque rootCert : Nat

/-- R457: what another member crown of a grove partition reports of its blocks 0x04 and 0x05 and of the hops to it: crown, grove
partition, and draw. -/
opaque farMeasure : Nat → Nat → Nat → Nat × Nat × Bool

/-- R482: ECDSA P-384 as its published standard defines it: a signature of some bytes verifies under a public key. R481: an image's own
signature by a maker root key verifies. -/
opaque signatureOk : Nat → List Byte → List Byte → Bool
opaque imageSigned : List Byte → Bool

/-- R479, R549: whether the header and the body of the record in the making are programmed when a warning or a reset comes, one per draw. -/
opaque bodyProgrammed : Nat → Bool

end Sys2Proof.Config
end

