-- ==== Sys2Proof/Machine/State.lean ====
section
/-! DEFINITION. The state of the crown module as plain data, its faults and refusals, and the state after
power-on. Every piece names the rule that gives it. -/

namespace Sys2Proof.Machine

/-! ### Outputs -/

/-- C7 CONTROL and REKEY FUs that the module itself sends (R120). -/
inductive Control where
  | announce (a : Announce)
  | farFailure (dest : Nat) (n : FarMsg)
  | containment (m : ContainMsg)
  | prune (number : Seq16) (ft : Nat) (slots : BitVec 128)
  | snapshot (m : SnapMsg)
  | fateQuery (dest : Nat) (querier : Nat) (trunk : Nat) (queryNo : Seq16)
  | fateAnswer (dest : Nat) (querier : Nat) (trunk : Nat) (queryNo : Seq16) (rxLast : Seq16) (answerer : Nat)
  | fence (n : FenceMsg)
  | rekeyOffer (epoch : Nat) (key : Nat)
  | rekeyAccept (epoch : Nat) (key : Nat)
  /-- A control message of another crown on its way to `dest`, as it came (R283). -/
  | transit (dest : Nat) (src : Nat) (hops : Nat) (payload : List Byte)
  deriving DecidableEq, Repr

/-- The answer to a Bocel request (R414 to R417): the request's opcode, STATUS, DETAIL, MORE, SESSION where no session carried the
request, and the body's bytes in wire order (of an answer with a status other than OK, its 8-byte detail). -/
structure Answer where
  op : Nat
  status : Nat
  detail : Nat
  more : Bool
  session : Nat
  body : List Byte
  deriving DecidableEq, Repr

/-- What leaves the module while a command takes effect (DESIGN CHOICE, log entry 100) (DESIGN CHOICE, log entry 103). -/
inductive Output where
  /-- A flow unit on trunk `q` (R101). -/
  | fu (q : Nat) (f : Fu)
  /-- A training frame on one lane of trunk `q`: its 128 bytes (R103). -/
  | frame (q : Nat) (lane : Nat) (bytes : List Byte)
  /-- What this end states in LINK_INIT: RESUME, RX_LAST, and the first grants (R133, R148). -/
  | linkInit (q : Nat) (resume : Bool) (rxLast : Seq16) (rsv : List (BitVec 8)) (shared : BitVec 13)
  /-- A codeword on the four lanes of trunk `q`: the levels of each lane (R101, R112). -/
  | line (q : Nat) (lanes : List (List Nat))
  /-- A TLP on the H-port of twig `g`; `whole` is false when it was ended by nullification (R175, R555). -/
  | tlp (g : Nat) (x : Tlp) (whole : Bool)
  /-- A completion of the module's own to a requester of the crown partition, in the class of its request (R165). -/
  | completion (part : Nat) (reqId : Nat) (tag : Nat) (cls : Nat) (status : CplStatus) (data : List Byte)
  /-- A completion of the module's own sent over trunks to another crown, for its tracking index, in the class of its request (R165, R289). -/
  | remoteCompletion (crown : Nat) (track : Nat) (cls : Nat) (status : CplStatus) (data : List Byte)
  /-- Flow-control credits of a type of twig `g`: the initial ones at link-up or the running totals as they grow, and the scale factors of
  the header and data counts (R171, R172). -/
  | credits (g : Nat) (initial : Bool) (type : Nat) (hdr : Nat) (data : Nat) (hdrScale : Nat) (dataScale : Nat)
  /-- An MSI-X message of a function of a partition (R220, R346). -/
  | msix (part : Nat) (fn : Nat) (vec : Nat)
  /-- A memory write that a module function issues in its partition's host space (R338). -/
  | hostWrite (part : Nat) (addr : Nat) (data : List Byte)
  /-- A record that PF0 writes into a partition's event queue (R362). -/
  | eventWrite (part : Nat) (addr : Nat) (data : List Byte)
  /-- An error report in the AER of a virtual port: VDP number, or `none` for the upstream port (R391). -/
  | aer (part : Nat) (vdp : Option Nat) (kind : Nat)
  /-- A hot-plug event of a VDP slot (R207, R302): 0 presence, 1 button, 2 latch, 3 power fault, 4 link. -/
  | slotEvent (part : Nat) (vdp : Nat) (kind : Nat)
  /-- A PME message to a partition (R302). -/
  | pme (part : Nat)
  /-- A link action on the H-port `p`: hot reset, width request, rate change, L1 entry and so on. -/
  | link (p : Nat) (what : String) (arg : Nat)
  /-- The firmware gives a shared device's link its bus number and enables SR-IOV with a number of virtual functions (R211). -/
  | enumerate (g : Nat) (bus : Nat) (numVfs : Nat)
  /-- A function-level reset of a physical function below twig `g` (R225). -/
  | flr (g : Nat) (rid : Nat)
  /-- A Bocel response (R417). -/
  | response (via : Transport) (reqId : Nat) (a : Answer)
  /-- A response sent again from the cache (R421). -/
  | replayed (via : Transport) (reqId : Nat) (a : Answer)
  /-- A response that a gateway passes on to its requester as it came (R431). -/
  | passed (via : Transport) (reqId : Nat) (message : List Byte)
  /-- A NOTIFY to a session (R429). -/
  | notify (session : Nat) (source : Nat) (code : Nat) (cls : Nat) (ft : Nat) (noteSeq : BitVec 32)
  /-- A request forwarded in band (R431). -/
  | forward (target : Nat) (reqId : Nat) (cls : Nat) (gpart : Nat)
  /-- Partition-manager signalling to another crown (R215). -/
  | signal (crown : Nat) (gpart : Nat) (what : String) (args : List Nat)
  /-- An answer of another protocol: MCTP control, ICMP, neighbour discovery, SPDM, IDE_KM, boundary scan. -/
  | answer (what : String) (args : List Nat)
  /-- A board output driven through an expander: PERST#, CLKREQ#, attention or power indicator (R301). -/
  | sideband (p : Nat) (signal : Nat) (asserted : Bool)
  deriving DecidableEq, Repr

/-! ### Units, hierarchy -/

/-- State codes of dies and limbs (R36). -/
inductive UnitState where
  | running
  | inReset
  | offline
  | gated
  deriving DecidableEq, Repr

/-- The hierarchy's own state: R7, R13, R18, R31, R36, R79. -/
structure Hier where
  dies : List UnitState
  limbs : List UnitState
  stemLinkSpares : List Nat
  heartLinkSpares : List Nat
  widthActive : List Nat
  refclkMode : List Nat
  resets : List UnitId
  contained : List UnitId
  powering : List Nat
  deriving DecidableEq, Repr

/-! ### Time -/

/-- The five time states of R48. -/
inductive TimeMode where
  | free
  | acquiring
  | locked
  | holdover
  | master
  deriving DecidableEq, Repr

/-- The fabric time unit: R37 to R53. `offset` is local FT less the master's as far as it is still to be removed; `fresh`:
FT was seeded from an announcement and takes the master's value at the first marker (R51). `slewRem` is slewing time not yet spent
(R51); `rateNum` over `rateDen` the rate of the 10 MHz reference against the 25 MHz oscillator, as the last two good pulses give it,
`rateRem` what it has not yet yielded, `pulseAt` the local count at the latest good pulse (R44); `lastFtJournaled` the largest FT of a
record formed while FT was valid (R42). -/
structure TimeUnit where
  mode : TimeMode
  ft : Nat
  running : Bool
  offset : Int
  fast : Bool
  fresh : Bool
  goodMarkers : Nat
  master : Option Nat
  masterKey : Nat
  hops : Nat
  upstream : Option Nat
  lastSeq : List (Nat × Seq16)
  heardMaster : Nat
  heardAny : Nat
  lowestKey : Nat
  lowestSince : Nat
  officeSince : Option Nat
  holdBase : Nat
  holdSince : Nat
  annSeq : Seq16
  ref10m : Bool
  goodPulses : Nat
  refValid : Bool
  openMode : Bool
  lastFtJournaled : Option Nat
  slewRem : Nat
  rateNum : Nat
  rateDen : Nat
  rateRem : Nat
  pulseAt : Option Nat
  deriving DecidableEq, Repr

/-- Kinds of an activation queue entry (R59). -/
inductive ActKind where
  | change
  | swap
  | snapshot
  | firmware
  deriving DecidableEq, Repr

/-- States of an activation queue slot (R59). -/
inductive ActState where
  | freeSlot
  | pending
  | postponed
  | firedInHoldover
  | fired
  deriving DecidableEq, Repr

/-- One slot of the activation queue (R54, R59). `ref` is the change set or the SNAP_ID; `stamp` orders the
reuse of fired slots; `origin` is the crown that took a snapshot request (R531). -/
structure ActSlot where
  ft : Nat
  kind : ActKind
  joint : Bool
  state : ActState
  seq : BitVec 16
  ref : Nat
  origin : Nat
  stamp : Nat
  deriving DecidableEq, Repr

/-- The activation queue and the message counters of scheduling messages (R54, R63, R531). -/
structure Activation where
  slots : List ActSlot
  nextSeq : BitVec 16
  stamp : Nat
  pruneNumber : Seq16
  snapNumber : Seq16
  snapSeen : List (Nat × Seq16)
  deriving DecidableEq, Repr

/-! ### Host ports -/

/-- LSTATE codes of R94. -/
inductive LState where
  | detect
  | polling
  | configuration
  | l0
  | recovery
  | l1
  | l11
  | l12
  | disabled
  | hotReset
  | loopback
  deriving DecidableEq, Repr

/-- One H-port's link: R68, R74 to R78, R87 to R95, R173, R391 row 0x09. `txCoeff` holds the transmit FFE's coefficients (R86); `eqTries`
the attempts at the next rate up and `eqOk` whether one ended well (R73, R75), `eqUsed` the attempts that each rate took (R95);
`ceiling` HP_RATE_CEILING as the latest retrain found it (R93); `railEvents` the DFE_RAIL events (R83); `narrowedAt` when the link was last
narrowed (R87); `pciPm` that the L1 is a PCI-PM L1 (R69); `fcRcvd` and `fcFreed` the header and data credits of each type that the partner
has used, and that have been returned to it, since link-up (R171, R172). -/
structure HPort where
  lstate : LState
  rate : Nat
  width : Nat
  flit : Bool
  reversed : Bool
  l0pWidth : Nat
  polarity : BitVec 16
  txPreset : Nat
  partnerPreset : Nat
  txCoeff : List Int
  eqTries : Nat
  eqOk : Bool
  eqUsed : List (Nat × Nat)
  eqCeiling : Nat
  ceiling : Nat
  partnerMax : Nat
  railRaised : Bool
  railEvents : Nat
  badLanes : List Nat
  detectAt : Nat
  lastTlp : Nat
  narrowedAt : Nat
  pciPm : Bool
  protoErrors : List Nat
  l0At : Nat
  order : BitVec 32
  fcRcvd : List (Nat × Nat)
  fcFreed : List (Nat × Nat)
  deriving DecidableEq, Repr

/-- One H-lane's receiver: the 12 taps and accumulators of R82, its CTLE setting and sampling phase (R82, R85), its eye height from the last
maintenance step, and the margining that runs on it (R69, R84). -/
structure HLane where
  taps : List Int
  acc : List Int
  ctle : Nat
  phase : Nat
  eye : Nat
  margining : Option Margin
  deriving DecidableEq, Repr

/-! ### Trunks -/

/-- TSTATE codes of R102. -/
inductive TState where
  | disabled
  | detect
  | align
  | negotiate
  | step106
  | step212
  | linkInit
  | l0
  | held
  deriving DecidableEq, Repr

/-- A sequenced FU's copy in a replay buffer (R128). `desc` is the queued descriptor it came from, `ctl` the control message that it carries. -/
structure TxCopy where
  seq : Seq16
  hdr : FuHeader
  payload : List Byte
  desc : Option Nat
  ctl : Option Control
  deriving DecidableEq, Repr

/-- A message that waits in a trunk's receive pool (R132, R171): its class, the slots of each kind that it
holds, and the message. -/
structure PoolMsg where
  cls : Nat
  rsv : Nat
  shared : Nat
  gpart : Nat
  src : Nat
  dest : Nat
  flow : Nat
  hops : Nat
  order : BitVec 32
  refused : Bool
  msg : Msg
  deriving DecidableEq, Repr

/-- A class's open message at a trunk receiver (R121): accepted FUs, the slots they hold, payload bytes. -/
structure OpenMsg where
  cls : Nat
  type : Nat
  rsv : Nat
  shared : Nat
  bytes : List Byte
  deriving DecidableEq, Repr

/-- A crown's announcement heard on a trunk (R39). -/
structure Heard where
  crown : Nat
  hops : Nat
  key : Nat
  at_ : Nat
  deriving DecidableEq, Repr

/-- The training side of a trunk: R102 to R110, R116. `farTarget` is the TARGET that the far end is ready for, 0 none;
`settled` the rate at which R108 settles the trunk; `keyBad`: the far certificate or signature failed; `frameSeq` the FRAME_SEQ of each type's
next frame; `farRaw` the far CAPS content; `eph` this end's ephemeral private key; `eqNear` the lanes on which this end's receiver is
done, `eqReq` each lane's request that waits for its answer, with the preset asked for; `reqNo` the last REQ_NO; `txRate` and `rxRate` the
rates of the two directions. -/
structure Training where
  since : Nat
  failed : Nat
  target : Nat
  farCaps : Option Caps
  keyex : List (Nat × Nat × List (Nat × List Byte))
  keyexOk : Bool
  delayDone : Bool
  exchange : Nat
  readySent : Bool
  farTarget : Nat
  countSent : Bool
  countSeen : Bool
  eqFar : List Nat
  retried : Bool
  settled : Option Nat
  keyBad : Bool
  lastHold : Option Nat
  heldCause : Nat
  laneMap : BitVec 8
  polarity : BitVec 4
  frameSeq : List Nat
  farRaw : List Byte
  eph : Nat
  eqNear : List Nat
  eqReq : List (Nat × Nat × Nat)
  reqNo : Nat
  txRate : Nat
  rxRate : Nat
  deriving DecidableEq, Repr

/-- The line side of a trunk's transmitter (R111 to R114): the scrambler's last 58 bits, FUs of this marker period sent, message bits that
wait for their codeword, and markers sent. -/
structure LineTx where
  scr : BitVec 58
  fus : Nat
  bits : List Bool
  markers : BitVec 32
  deriving DecidableEq, Repr

/-- The line side of its receiver (R112, R117): FUs of this marker period received, whether the codeword in progress is uncorrectable,
uncorrectable codewords in a row, and marker periods in a row in which a comma word was missing. -/
structure LineRx where
  fus : Nat
  bad : Bool
  badRun : Nat
  missRun : Nat
  deriving DecidableEq, Repr

/-- The transmit direction of a trunk: `resend` are the messages that LINK_INIT lets go first (R148), `offerOut` the epoch and the private
key of an offer without its answer, `discarded` the FUs discarded under R146; R119, R122, R123, R126, R128 to R131, R134, R139, R143 to R148. -/
structure TrunkTx where
  nextTx : Seq16
  oldest : Seq16
  buf : List TxCopy
  replayAt : Option Seq16
  replayRun : Nat
  lastAdvance : Nat
  usedRsv : List (BitVec 8)
  usedShared : BitVec 13
  farRsv : List (BitVec 8)
  farShared : BitVec 13
  crClass : Nat
  txCount : Nat
  keyPhase : Bool
  keyEpoch : BitVec 32
  keyNo : Nat
  offerOut : Option (Nat × Nat)
  newKey : Option Nat
  ctl : List Control
  openDesc : List (Nat × Nat)
  paused : Bool
  frozen : Bool
  lostAt : Nat
  fateNo : Seq16
  fateSent : Nat
  handedOver : Bool
  resend : List Nat
  discarded : Nat
  deriving DecidableEq, Repr

/-- The receive direction of a trunk: R123, R125, R126, R132, R133, R136, R139, R141, R144, R281. -/
structure TrunkRx where
  expect : Seq16
  rxLast : Seq16
  nakPending : Bool
  nakSince : Nat
  nakToSend : Bool
  grantedRsv : List (BitVec 8)
  grantedShared : BitVec 13
  freeRsv : List Nat
  freeShared : Nat
  takenRsv : List (BitVec 8)
  takenShared : BitVec 13
  openMsgs : List OpenMsg
  pool : List PoolMsg
  keyPhase : Bool
  keyEpoch : BitVec 32
  keyNo : Nat
  count : Nat
  rekeyKey : Option Nat
  violations : List Nat
  violRetrains : List Nat
  queries : List (Nat × Nat × Seq16 × Nat)
  order : BitVec 32
  deriving DecidableEq, Repr

/-- One trunk (R100 to R150), with its far pruning set (R63): `farStamp` is the far slot clock at `lastMarker`, when the
latest marker whose check passed came; `validAt` is when the latest valid one came (R47, R114); `txCoeff` each lane's transmit coefficients (R104, R110);
`taps` each lane receiver's 32 FFE taps in 1/1,024 and 16 DFE taps in 1/256 of full scale, as of `tapsAt`, with the
offsets of its ADC and the phases of its CDR (R110); `transcript` the
transcript hash (R105). -/
structure Trunk where
  tstate : TState
  rate : Nat
  crypt : Bool
  peer : Option (Nat × Nat)
  delayPs : Nat
  train : Training
  tx : TrunkTx
  rx : TrunkRx
  heard : List Heard
  lastMarker : Nat
  farStamp : Nat
  validAt : Nat
  farPrune : BitVec 128
  nextPrune : Option (Nat × BitVec 128)
  txCoeff : List (List Int)
  taps : List (List Int)
  tapsAt : Nat
  adc : List Int
  cdr : List Int
  transcript : Nat
  lineTx : LineTx
  lineRx : LineRx
  deriving DecidableEq, Repr

/-! ### Switch core -/

/-- A descriptor (R159; `heart`: for a heartwood target, its gate, 0x100 for PF0's own registers and 0x101 for a multicast copy,
and the owner of a pool access, R314, as grove partition ID plus one, 0 for the module) with the message that its header slot and cells hold (R158), and its state in the
queue: how far a cut-through or trunk sending has come (R173 to R175, R281, R555). `egress` is a module twig
0 to 159, or 160 + s for the heartwood intake behind stem s (R157). -/
structure Desc where
  id : Nat
  egress : Nat
  cells : Nat
  cls : Nat
  kind : Nat
  ro : Bool
  ido : Bool
  ns : Bool
  mcast : Option Nat
  cut : Bool
  colour : Nat
  mark : Bool
  poison : Bool
  part : Nat
  src : Nat
  reqId : Nat
  len : Nat
  order : BitVec 32
  destCrown : Nat
  gpart : Nat
  flow : Nat
  hops : Nat
  srcCrown : Nat
  msg : Msg
  rclass : RClass
  arrived : Nat
  eligible : Bool
  nullified : Bool
  endedOnce : Bool
  sentFus : Nat
  lastSeq : Option Seq16
  epoch : BitVec 32
  heart : Option (Nat × Nat)
  deriving DecidableEq, Repr

/-- A TLP that waits at its ingress (R164, R171): twig, flow-control type (0 posted, 1 non-posted,
2 completion), the descriptors it will enqueue, the hold it waits for, and whether R169 has refused it (R196). -/
structure Waiting where
  src : Nat
  fcType : Nat
  descs : List Desc
  classHold : Option (Nat × Nat)
  refused : Bool
  deriving DecidableEq, Repr

/-- Cells of a discarded descriptor that are being freed (R187): its queue, its units, and whether they are a multicast copy's. -/
structure Freeing where
  egress : Nat
  cls : Nat
  units : Nat
  mcast : Bool
  deriving DecidableEq, Repr

/-- A hold of a partition and traffic class while its class changes (R164). -/
structure ClassHold where
  part : Nat
  tc : Nat
  since : Nat
  raised : Bool
  deriving DecidableEq, Repr

/-- A token bucket: level in bytes and the instant it was brought up to date (R162, R192, R235). -/
structure Bucket where
  level : Int
  at_ : Nat
  deriving DecidableEq, Repr

/-- What the completions of a request must match (R391): the bytes still to come, the lower address of the next one, whether the data may
come in parts, as a read's does, and the completer ID where the request names it. -/
structure Expect where
  left : Nat
  lower : Nat
  parts : Bool
  completer : Option Nat
  deriving DecidableEq, Repr

/-- A non-posted request that the crown passed to a target of its own and whose completion has not come: requester's
partition, ID and tag, its class (R165), its source twig (R159), its target (egress number as in `Desc`), and when it was taken in. -/
structure NpReq where
  part : Nat
  reqId : Nat
  tag : Nat
  cls : Nat
  src : Nat
  target : Nat
  since : Nat
  want : Expect
  deriving DecidableEq, Repr

/-- The switch core: R153 to R187, R233 to R235. Sparse lists hold what differs from its start value. `portTraffic` and `partTraffic` hold the
instant of the latest traffic towards an egress port and of a partition (R87, R90), `drops` the counts for each limb that rules ask for and
R196 gives no event number: 0 cut-through TLPs discarded (R175), 1 datagrams with an uncorrectable cell (R185), 2 other datagrams, and
engine messages, discarded, 3 Unlocks after the break of their lock (R298). -/
structure Core where
  nextId : Nat
  queues : List Desc
  waiting : List Waiting
  holds : List ClassHold
  freeing : List Freeing
  c7 : List (Nat × Bucket)
  shapers : List ((Nat × Nat) × Bucket)
  meters : List ((Nat × Nat × Nat) × (Bucket × Bucket))
  avgs : List (Nat × Rat)
  deficits : List ((Nat × Nat × Nat) × Int)
  lastServed : List (Nat × (Nat × Nat))
  partBuckets : List (Nat × Bucket)
  allotments : List ((Nat × Nat) × Int)
  exhaustedAt : List (Nat × Nat)
  inFlight : List (Nat × Nat)
  outstanding : List NpReq
  portTraffic : List (Nat × Nat)
  partTraffic : List (Nat × Nat)
  drops : List ((Nat × Nat) × Nat)
  deriving DecidableEq, Repr

/-! ### Partitions -/

/-- PART_STATE codes of R202. -/
inductive PartState where
  | unused
  | active
  | resetting
  | held
  | contained
  deriving DecidableEq, Repr

/-- A virtual bridge and its slot (R203 to R207, R224, R231): configuration fields, and slot state; of a twig on another crown also the
rate and width that its crown reports (R74, R215). -/
structure Bridge where
  fields : List (CfgField × Nat)
  sbr : Bool
  linkDisable : Bool
  powerOff : Bool
  present : Bool
  linkActive : Bool
  quarantined : Bool
  flrRunning : Bool
  live : Bool
  farCopy : Option Nat
  latch : Bool
  farRate : Nat
  farWidth : Nat
  deriving DecidableEq, Repr

/-- A descriptor or send ring of a module function (R339, R340, R357). -/
structure Ring where
  base : Nat
  cplBase : Nat
  enable : Bool
  log2Size : Nat
  head : BitVec 16
  tail : BitVec 16
  state : Nat
  errIndex : BitVec 16
  abortHead : BitVec 16
  abortCount : BitVec 16
  fetched : Nat
  passes : Nat
  deriving DecidableEq, Repr

/-- A module function (R337, R338, R357, R362 to R364): fields, tags outstanding and quarantined, MSI-X: the vectors
that software has unmasked (every vector is masked at reset, as the specification has it) and those pending. -/
structure Function where
  fields : List (CfgField × Nat)
  busMaster : Bool
  msixEnable : Bool
  unmasked : List Nat
  pendingVecs : List Nat
  outstanding : List (Nat × Nat × Nat)
  quarantined : List (Nat × Nat)
  timedOut : List (Nat × Nat)
  flrRunning : Bool
  ring : Ring
  sendQ : List (Nat × Ring)
  recvQ : List (Nat × Ring)
  posted : List (Nat × List (Nat × Nat))
  deriving DecidableEq, Repr

/-- PF0's event queue (R362). -/
structure EventQueue where
  base : Nat
  log2Size : Nat
  head : Nat
  tail : Nat
  overflow : Nat
  deriving DecidableEq, Repr

/-- The mailbox of a home partition (R433): MB_REQUEST's bytes that are not zero, and MB_RESPONSE's bytes. -/
structure Mailbox where
  busy : Bool
  ready : Bool
  respLen : Nat
  vector : BitVec 32
  request : List Host.Cell
  response : List Byte
  deriving DecidableEq, Repr

/-- An SPDM session (R456): number, and whether the handshake has finished. -/
structure SpdmSession where
  id : Nat
  finished : Bool
  keyPhase : Nat
  deriving DecidableEq, Repr

/-- One crown partition: R202, R220, R225, R226, R228, R238, R240, R255, R433, R456, R458, R466. -/
structure Part where
  state : PartState
  cause : Nat
  count : BitVec 32
  causeOn : Bool
  installerHeld : Bool
  messageHeld : Option Nat
  discardEvents : Bool
  upstream : Bridge
  vdps : List (Nat × Bridge)
  fns : List (Nat × Function)
  evq : EventQueue
  mailbox : Mailbox
  spdm : List SpdmSession
  ideStreams : List Nat
  fabricBar : Nat
  vfMax : Nat
  mqCount : Nat
  measGen : BitVec 32
  quarantinedTags : List (Nat × Nat)
  deriving DecidableEq, Repr

/-- SHARED_STATE codes of R241. -/
inductive SharedMode where
  | idle
  | pending
  | resetting
  | enumerating
  | notShared
  deriving DecidableEq, Repr

/-- A shared twig (R211, R229 to R232, R241). -/
structure Shared where
  mode : SharedMode
  cause : Nat
  rid : Nat
  stride : Nat
  since : Nat
  deriving DecidableEq, Repr

/-! ### Gates and windows -/

/-- A miss of a window lookup that waits for its fetch (R252), with the order stamp of its TLP; of the heartwood's own work the partition,
requester class and class. -/
structure WinMiss where
  stem : Nat
  window : Nat
  src : Nat
  tlp : Tlp
  order : BitVec 32
  work : Option (Nat × RClass × Nat)
  deriving DecidableEq, Repr

/-- Windows and gates: R252, R270 to R272. The caches list cached windows per stem, 4 for the heartwood. -/
structure Gates where
  cache : List (Nat × Nat)
  misses : List WinMiss
  epoch : BitVec 32
  drained : BitVec 32
  epochAt : Nat
  slowRaised : Bool
  scrubPass : BitVec 32
  scrubbed : List Nat
  heldGates : List (Nat × Nat)
  heldTlps : List (Nat × Tlp × BitVec 32)
  deriving DecidableEq, Repr

/-! ### Fabric -/

/-- A ground on which a fence on a crown stands (R285, R304). -/
inductive FenceCode where
  | notice
  | trunkLoss
  | installer
  deriving DecidableEq, Repr

/-- A tracking entry (R289, R291), with the descriptor and header that R291 reports. -/
structure Track where
  index : Nat
  part : Nat
  reqId : Nat
  tag : Nat
  cls : Nat
  dest : Nat
  src : Nat
  descBits : Nat
  header : Nat
  sent : Nat
  quarantined : Option Nat
  deriving DecidableEq, Repr

/-- A proxy tag in use at a port (R290). -/
structure Proxy where
  port : Nat
  tag : Nat
  part : Nat
  crown : Nat
  track : Nat
  reqId : Nat
  reqTag : Nat
  cls : Nat
  at_ : Nat
  want : Expect
  deriving DecidableEq, Repr

/-- A rebalance pause on a trunk (R282). -/
structure Rebalance where
  interim : Nat
  home : Nat
  since : Nat
  deriving DecidableEq, Repr

/-- A lock (R296 to R298): its bough, partition, target twig, the trunk of its path when the target is on another crown,
and when the first locked read was taken in. -/
structure LockState where
  bough : Nat
  part : Nat
  twig : Nat
  via : Option Nat
  since : Nat
  deriving DecidableEq, Repr

/-- A far-failure notice that is being folded (R293). -/
structure FarPending where
  crown : Nat
  note : FarMsg
  deriving DecidableEq, Repr

/-- A part of a bridge read, within one 4 KiB page, that has no completion yet (R268); `retryAt` is the instant of a retry-later response. -/
structure BridgePart where
  tag : Nat
  addr : Nat
  len : Nat
  retryAt : Option Nat
  deriving DecidableEq, Repr

/-- A bridge read that holds the interconnect (R299, R300). -/
structure BridgeRead where
  core : Nat
  since : Nat
  part : Option Nat
  target : BridgeTarget
  parts : List BridgePart
  deriving DecidableEq, Repr

/-- Slot sideband state of a port (R301 to R303). -/
structure Sideband where
  levels : List Bool
  seen : List Bool
  misses : Nat
  lost : Bool
  perst : Bool
  clkreq : Bool
  attnOn : Bool
  powerOn : Bool
  attnBlink : Bool
  powerBlink : Bool
  deriving DecidableEq, Repr

/-- Routing and bridging: R279 to R303. `fences` lists each ground of each fence, oldest first; `lateReads`
the IDs and tags of bridge reads and of proxy requests that ended without a completion (R290, R299). -/
structure Fabric where
  unreachable : List Nat
  fences : List (Nat × FenceCode)
  ownFenced : Bool
  fenceNumber : Seq16
  fenceSeen : List ((Nat × Nat) × Seq16)
  containNumber : Seq16
  containSeen : List (Nat × Seq16)
  interim : List (Nat × Nat × Nat)
  rebalances : List Rebalance
  settleAt : List (Nat × Nat)
  tracks : List Track
  proxies : List Proxy
  farPending : List FarPending
  locks : List LockState
  broken : List Nat
  bridge : List BridgeRead
  lateReads : List (Nat × Nat)
  sidebands : List Sideband
  deriving DecidableEq, Repr

/-! ### Fabric memory -/

/-- The owner fields of a pool line (R311). -/
structure Owner where
  gp : BitVec 12
  epoch : BitVec 12
  deriving DecidableEq, Repr

/-- One GDDR7 device's channel: R324, R329, R333. -/
structure Channel where
  state : Nat
  temp : Nat
  hot : Bool
  debt : Int
  spares : Nat
  suspects : List Nat
  deriving DecidableEq, Repr

/-- One entry of MEM_ERROR_LOG (R334). -/
structure MemError where
  kind : Nat
  gp : Nat
  pla : Nat
  deriving DecidableEq, Repr

/-- Fabric memory: R308 to R334. `cells` holds the bytes that are not zero, by pool offset; `owners` the
lines that are not module-owned; `epochs` the epochs that are not 0x001; `refreshRing` the slot ring up to which refresh debts
are counted, `refreshSlot` the slot, counted from time zero, of the latest refresh batch. -/
structure Memory where
  cells : List Host.Cell
  owners : List (Nat × Owner)
  epochs : List (Nat × BitVec 12)
  keyDraw : Nat
  keyWraps : List (Nat × Nat)
  mode : Nat
  progress : Nat
  sweeping : List Nat
  channels : List Channel
  remaps : List (Nat × Nat)
  errors : List MemError
  refreshRing : Nat
  refreshSlot : Option Nat
  deriving DecidableEq, Repr

/-! ### Engines -/

/-- An input taken into a reduction round (R351, R352, R354): input number, chunk, and its elements' bytes. -/
structure RedInput where
  input : Nat
  chunk : Nat
  data : List Byte
  deriving DecidableEq, Repr

/-- A local contributor that waits for its result (R353): where its descriptor runs, its round and input, its DST, and how
many result chunks are still to come; `live` is false once its function has stopped (R363), `read` true once its contribution has been
read and its ring released (R345). -/
structure RedWaiter where
  pos : RingPos
  round : BitVec 4
  left : Nat
  input : Nat
  dst : Nat
  user : Nat
  intr : Bool
  live : Bool
  read : Bool
  deriving DecidableEq, Repr

/-- A reduction context's round at this node (R354, R355). `held` are chunks that wait for a staging slot of their input (R352), `early`
those of the next round. -/
structure RedRound where
  ctx : Nat
  round : BitVec 4
  started : Option Nat
  inputs : List RedInput
  folded : List Nat
  held : List RedInput
  waiters : List RedWaiter
  early : List (Nat × RedInput)
  cls : Nat
  deriving DecidableEq, Repr

/-- Engines (R345, R366, R368): which are offline, which serve a ring (engine, partition, function) and how much they have moved
of it, and whose turn it is: the partition served last, the turns it has left, and the last ring of each partition. -/
structure Engines where
  offline : List Nat
  busy : List (Nat × Nat × Nat)
  moved : List (Nat × Nat)
  turn : Nat
  credit : Nat
  lastVf : List (Nat × Nat)
  rounds : List RedRound
  deriving DecidableEq, Repr

/-! ### Faults -/

/-- One history entry (R388) and its window (R381). -/
structure HistEntry where
  ft : Nat
  inj : Bool
  seq : BitVec 15
  cls : Nat
  level : Nat
  unit : Option UnitId
  source : Nat
  action : Nat
  code : Nat
  window : Option Nat
  deriving DecidableEq, Repr

/-- One TLP log entry (R389). -/
structure LogEntry where
  desc : Nat
  header : Nat
  ft : Nat
  source : Nat
  cause : Nat
  histSeq : Option (BitVec 15)
  inj : Bool
  deriving DecidableEq, Repr

/-- What a count of partner violations belongs to (R390). -/
inductive ViolKey where
  | twig (g : Nat)
  | holder (g : Nat) (part : Nat)
  | part (p : Nat)
  deriving DecidableEq, Repr

/-- FAULT_STATE CROWN codes of R401. -/
inductive CrownFault where
  | normal
  | f3Open
  | f3Acked
  | f4Latched
  deriving DecidableEq, Repr

/-- Debug port instructions of R396. -/
inductive DebugInstr where
  | bypass
  | idcode
  | sample
  | extest
  | dbgAccess
  deriving DecidableEq, Repr

/-- Fault collection: R372 to R401. `stormed` and `violDone` hold the sources and counts that have passed their limit in
this interval, `due` the worst class, 3 or 4, whose crown-wide steps are still to come. `inject` holds an armed slot's value and the clean items still to pass. -/
structure Faults where
  f1Second : Nat
  violSecond : Nat
  f1Counts : List (Nat × Nat)
  violCounts : List (ViolKey × Nat)
  stormed : List Nat
  violDone : List ViolKey
  due : Nat
  history : List HistEntry
  nextSeq : BitVec 15
  lost : BitVec 32
  frozen : Bool
  crown : CrownFault
  f4cause : Nat
  tlpLog : List LogEntry
  inject : List (BitVec 32)
  injectLeft : List Nat
  debugInstr : DebugInstr
  debugShut : Bool
  dbgData : BitVec 64
  dbgErr : Bool
  boundary : List Bool
  deriving DecidableEq, Repr

/-! ### Dictionary, Bocel, security -/

/-- States of a change set (R426). -/
inductive SetState where
  | open_
  | sealed
  | queued
  | postponed
  | fired
  | refused
  | cancelled
  | expired
  deriving DecidableEq, Repr

/-- One STAGE body (R424). -/
structure StageBody where
  index : Nat
  sub : Nat
  value : Nat
  deriving DecidableEq, Repr

/-- A change set (R423 to R427). `prior` is the state before a COMMIT that is being validated; `answerTo`
is where the answer to that COMMIT goes (R450). -/
structure ChangeSet where
  id : Nat
  partition : Bool
  part : Nat
  joint : Bool
  stages : List StageBody
  state : SetState
  prior : SetState
  commitNo : Nat
  ft : Nat
  digest : Nat
  sigA : SetSig
  sigB : SetSig
  opener : Nat
  order : BitVec 16
  lastReq : Nat
  claim : Bool
  answerTo : Option Req
  deriving DecidableEq, Repr

/-- An open Bocel session (R422): the SESSION_SEQ last taken and last sent. -/
structure Session where
  id : Nat
  keyId : Nat
  key : Nat
  lastSeq : Nat
  outSeq : Nat
  lastReq : Nat
  subscribed : Bool
  deriving DecidableEq, Repr

/-- A queued installer notification (R429). -/
structure Note where
  source : Nat
  code : Nat
  cls : Nat
  ft : Nat
  seq : BitVec 32
  deriving DecidableEq, Repr

/-- A cached response (R421). -/
structure CachedResponse where
  keyId : Nat
  keySeq : Nat
  digest : Nat
  answer : Answer
  deriving DecidableEq, Repr

/-- A request that the gateway has forwarded (R431). -/
structure Forwarded where
  op : Nat
  reqId : Nat
  via : Transport
  target : Nat
  since : Nat
  busySeen : Bool
  busyAt : Option Nat
  deriving DecidableEq, Repr

/-- Bocel and the management transports: R410, R421 to R434. -/
structure Bocel where
  gen : BitVec 32
  queue : List Instr
  cache : List CachedResponse
  sessions : List Session
  sets : List ChangeSet
  nextSet : Nat
  notes : List Note
  noteSeq : BitVec 32
  notesLost : BitVec 32
  overflowAt : Option Nat
  forwards : List Forwarded
  eid : Nat
  mbIgnored : Nat
  inbandDropped : Nat
  deriving DecidableEq, Repr

/-- The security unit: R319, R373, R460 to R463. -/
structure Security where
  testMode : Bool
  strap : Bool
  hold : Option (Nat × Nat)
  ide : List (Nat × Nat)
  zeroized : Bool
  slew : Nat
  deriving DecidableEq, Repr

/-! ### Journal, update -/

/-- Bodies of journal records, as far as replay or a reader needs them (R472). -/
inductive JBody where
  | write (index : Nat) (sub : Nat) (old : Nat) (new : Nat) (keySeq : Nat)
  | keySeq (keySeq : Nat)
  | set (cs : ChangeSet) (consent : List Nat)
  | setState (setId : Nat) (state : SetState) (ft : Nat)
  | history (word : Nat) (entries : List HistEntry)
  | graft (code : Nat) (slot : Nat) (version : Nat) (digest : Nat)
  | start (slot : Nat) (attempt : Nat) (cause : Nat)
  | zeroize (keyId : Nat)
  | ringOpen (gen : Nat) (ringSeq : Nat)
  | snapBegin (gen : Nat) (rno : Nat)
  | snapEnd (gen : Nat) (rno : Nat)
  deriving DecidableEq, Repr

/-- A journal record (R471). -/
structure JRecord where
  rno : Nat
  timeState : Nat
  ft : Nat
  keyId : Nat
  parts : BitVec 64
  body : JBody
  deriving DecidableEq, Repr

/-- What waits for a record whose trailer is not yet whole (R473): the record; the request that formed it and its role;
the value that takes effect with it (R409 step 10), by dictionary key; and the answer then sent. -/
structure PendingRecord where
  record : JRecord
  req : Option Req
  who : Role
  write : Option (Nat × Nat)
  answer : Option Answer
  deriving DecidableEq, Repr

/-- One copy of the boot record (R481). -/
structure BootRecord where
  active : Nat
  attempts : Nat
  seqNo : Nat
  deriving DecidableEq, Repr

/-- The journal and the images: R468 to R489. `base` is what the live set's SNAP_VALUES carry; `bodyDone`: the record in the making was past
its body when the intake's warning came; `heldAnswers` wait for the end of that warning. -/
structure Journal where
  base : List (Nat × Nat)
  records : List JRecord
  inFlight : List PendingRecord
  nextRno : Nat
  oldest : Nat
  setGen : Nat
  mode : Nat
  usedRings : Nat
  ringBytes : Nat
  oldRings : Nat
  compactFrom : Nat
  warned : Bool
  bodyDone : Bool
  heldAnswers : List (Req × Answer)
  flash : List Bool
  flashFails : List Nat
  sealKey : Nat
  secret : List Nat
  boot : List BootRecord
  images : List (List Byte)
  versions : List Nat
  digests : List Nat
  svns : List Nat
  graftState : Nat
  graftReason : Nat
  graftReceived : Nat
  staged : List Byte
  startSince : Nat
  started : Bool
  fellBack : Bool
  recovery : Bool
  lastStop : Nat
  deriving DecidableEq, Repr

/-! ### Power -/

/-- The intake controller's states (R498 to R504). -/
inductive IntakePhase where
  | off
  | precheck
  | ramp
  | on
  | tripped
  | lockedOut
  | damaged
  deriving DecidableEq, Repr

/-- A slot channel (R507 to R511, R519). -/
structure SlotChannel where
  state : Nat
  cause : Nat
  point : Nat
  demand : Bool
  pgAt : Nat
  rampAt : Nat
  offAt : Nat
  timers : List Nat
  runAt : Option Nat
  volts : Nat
  amps : Nat
  /-- R506, R507: the energy count, in fJ. -/
  energy : Nat
  deriving DecidableEq, Repr

/-- Intake, slot power and the board's clocks and pins: R493 to R519, R541, R542, R547, R553. -/
structure Power where
  phase : IntakePhase
  powerGood : Bool
  pgAt : Nat
  enabled : Bool
  inputUp : Bool
  inputLost : Bool
  warningEnd : Bool
  prior : Nat
  keptCause : Nat
  lastTrip : Option Nat
  offSince : Nat
  /-- R501: the curve timers, in µs, up to the instant of the latest sample. -/
  timers : List Nat
  curveRunAt : Option Nat
  govLevel : Nat
  /-- R494: the module's load, in mW. -/
  load : Nat
  /-- R492, R494: what the energy store lacks of being full, in fJ. -/
  lack : Nat
  steppedAt : Nat
  dipAt : Option Nat
  volts : Nat
  /-- R506: the mean of the two readings, in mA, and the higher of them, on which the breaker acts. -/
  amps : Int
  highAmps : Nat
  /-- R516: the samples that the mean of the last 1 ms needs, newest first: instant, mV and mA. -/
  samples : List (Nat × Nat × Int)
  voltsMin : Nat
  ampsMax : Int
  /-- R506: the energy count, in fJ, up to the instant of the latest sample. -/
  energy : Nat
  sampledAt : Nat
  rampAt : Nat
  slots : List SlotChannel
  hotDies : List Nat
  thermTripped : Bool
  reft : List Bool
  ref25 : Bool
  refclk : List Bool
  resetPin : Bool
  standby : Bool
  standbyAt : Nat
  startUp : Bool
  deriving DecidableEq, Repr

/-! ### Counters -/

/-- A counter (R522, R527). -/
structure Counter where
  value : BitVec 48
  ovf : Bool
  deriving DecidableEq, Repr

/-- The counters and the snapshot bank: R522 to R534. Sparse lists hold what is not zero. -/
structure Counters where
  values : List (Nat × Counter)
  freeze : BitVec 16
  ovfRaised : List (Nat × Nat)
  bank : List (Nat × Counter)
  staging : Option (List (Nat × Counter) × Nat × Nat × Nat × Nat)
  snapSeq : BitVec 32
  snapFt : Nat
  snapId : Nat
  snapOrigin : Nat
  snapTime : Nat
  deriving DecidableEq, Repr

/-! ### The whole -/

/-- The state of the module. `pending` is the queue of waiting commands; `out` what left the module while
the latest command took effect; `draws` counts the free values taken (both the model's own: DESIGN CHOICE, log
entries 1 and 5). -/
structure State where
  pending : List Instr
  out : List Output
  draws : Nat
  now : Nat
  dict : List (Nat × Nat)
  hier : Hier
  time : TimeUnit
  act : Activation
  hports : List HPort
  lanes : List HLane
  trunks : List Trunk
  core : Core
  parts : List Part
  shared : List Shared
  gates : Gates
  fabric : Fabric
  mem : Memory
  engines : Engines
  faults : Faults
  bocel : Bocel
  sec : Security
  journal : Journal
  power : Power
  counters : Counters
  deriving DecidableEq, Repr

/-- The reasons the module stops. The manual gives every command an effect, so no meaning raises one; the
type has the one constructor below for a command that is out of every range of its operands, which no meaning
raises either (safe). -/
inductive Fault where
  /-- No meaning raises it. Safe: it would stop where the hardware goes on. -/
  | noSuchUnit
  deriving DecidableEq, Repr

/-- The reasons a command has no meaning here. -/
inductive Refusal where
  /-- Raised only by an arm of `exec` whose command has no meaning yet. Safe. -/
  | notModelled (mnemonic : String)
  deriving DecidableEq, Repr

/-! ### The state after power-on -/

/-- An H-port in Detect (R71, R93 to R95) (DESIGN CHOICE, log entry 11). -/
def HPort.reset : HPort :=
  { lstate := .detect, rate := 0, width := 0, flit := false, reversed := false, l0pWidth := 0, polarity := 0,
    txPreset := 0, partnerPreset := 0, txCoeff := [], eqTries := 0, eqOk := false, eqUsed := [], eqCeiling := 7, ceiling := 7,
    partnerMax := 0, railRaised := false, railEvents := 0, badLanes := [], detectAt := 0, lastTlp := 0, narrowedAt := 0, pciPm := false,
    protoErrors := [],
    l0At := 0, order := 0, fcRcvd := List.replicate 3 (0, 0), fcFreed := List.replicate 3 (0, 0) }

/-- A lane with every tap at zero (DESIGN CHOICE, log entry 10). -/
def HLane.reset : HLane :=
  { taps := List.replicate 12 0, acc := List.replicate 12 0, ctle := 0, phase := 0, eye := 0, margining := none }

/-- Training state of a trunk in DETECT (R102). -/
def Training.reset : Training :=
  { since := 0, failed := 0, target := 0, farCaps := none, keyex := [], keyexOk := false, delayDone := false,
    exchange := 0, readySent := false, farTarget := 0, countSent := false, countSeen := false,
    eqFar := [], retried := false, settled := none, keyBad := false, lastHold := none, heldCause := 0, laneMap := 0, polarity := 0,
    frameSeq := List.replicate 6 0, farRaw := [], eph := 0, eqNear := [], eqReq := [], reqNo := 0, txRate := 0, rxRate := 0 }

/-- The line side as an epoch starts (R111, R114); the scrambler's first bits are a choice of the model (DESIGN CHOICE, log entry 173). -/
def LineTx.reset : LineTx := { scr := 0, fus := 0, bits := [], markers := 0 }
def LineRx.reset : LineRx := { fus := 0, bad := false, badRun := 0, missRun := 0 }

/-- Transmit state at LINK_INIT without resume (R123, R133, R134). -/
def TrunkTx.reset : TrunkTx :=
  { nextTx := 0, oldest := 0, buf := [], replayAt := none, replayRun := 0, lastAdvance := 0,
    usedRsv := List.replicate 8 0, usedShared := 0, farRsv := List.replicate 8 0, farShared := 0, crClass := 0,
    txCount := 0, keyPhase := false, keyEpoch := 0, keyNo := 0, offerOut := none, newKey := none, ctl := [],
    openDesc := [], paused := false, frozen := false, lostAt := 0, fateNo := 0, fateSent := 0,
    handedOver := false, resend := [], discarded := 0 }

/-- Receive state at LINK_INIT without resume: an empty pool (R123, R132, R133). -/
def TrunkRx.reset : TrunkRx :=
  { expect := 0, rxLast := 0xFFFF, nakPending := false, nakSince := 0, nakToSend := false,
    grantedRsv := List.replicate 8 0, grantedShared := 0, freeRsv := List.replicate 8 64, freeShared := 3584,
    takenRsv := List.replicate 8 0, takenShared := 0, openMsgs := [], pool := [], keyPhase := false, keyEpoch := 0,
    keyNo := 0, count := 0, rekeyKey := none, violations := [], violRetrains := [], queries := [], order := 0 }

/-- A trunk before its limb runs: TP_LINK_STATUS reads zero (R149, R150). -/
def Trunk.reset : Trunk :=
  { tstate := .disabled, rate := 0, crypt := false, peer := none, delayPs := 0,
    train := Training.reset, tx := TrunkTx.reset, rx := TrunkRx.reset, heard := [], lastMarker := 0,
    farStamp := 0, validAt := 0, farPrune := 0, nextPrune := none,
    txCoeff := List.replicate 4 [0, 0, 64, 0], taps := List.replicate 4 (List.replicate 48 0), tapsAt := 0,
    adc := List.replicate 4 0, cdr := List.replicate 4 0, transcript := 0,
    lineTx := LineTx.reset, lineRx := LineRx.reset }

/-- A bridge after a partition reset: slot power reads on (R509), nothing bound behind it yet. -/
def Bridge.reset : Bridge :=
  { fields := [], sbr := false, linkDisable := false, powerOff := false, present := false, linkActive := false,
    quarantined := false, flrRunning := false, live := true, farCopy := none, latch := false, farRate := 0, farWidth := 0 }

/-- A ring at its reset values (R339, R340). -/
def Ring.reset : Ring :=
  { base := 0, cplBase := 0, enable := false, log2Size := 0, head := 0, tail := 0, state := 0, errIndex := 0,
    abortHead := 0, abortCount := 0, fetched := 0, passes := 0 }

/-- A module function at its reset values (R220, R339, R364). -/
def Function.reset : Function :=
  { fields := [], busMaster := false, msixEnable := false, unmasked := [], pendingVecs := [], outstanding := [],
    quarantined := [], timedOut := [], flrRunning := false, ring := Ring.reset, sendQ := [], recvQ := [], posted := [] }

/-- An unused partition (R202, R240). -/
def Part.reset : Part :=
  { state := .unused, cause := 0, count := 0, causeOn := false, installerHeld := false, messageHeld := none,
    discardEvents := false, upstream := Bridge.reset, vdps := [], fns := [],
    evq := { base := 0, log2Size := 0, head := 0, tail := 0, overflow := 0 },
    mailbox := { busy := false, ready := false, respLen := 0, vector := 0, request := [], response := [] }, spdm := [], ideStreams := [],
    fabricBar := 0, vfMax := 0x10, mqCount := 2, measGen := 0, quarantinedTags := [] }

/-- A twig that is not shared (R241). -/
def Shared.reset : Shared := { mode := .notShared, cause := 0, rid := 0, stride := 0, since := 0 }

/-- Sideband state of a port before its first poll (R304): nothing asserted but PERST# (R511). -/
def Sideband.reset : Sideband :=
  { levels := List.replicate 6 false, seen := List.replicate 6 false, misses := 0, lost := false, perst := true,
    clkreq := false, attnOn := false, powerOn := false, attnBlink := false, powerBlink := false }

/-- A channel before its training (R333). -/
def Channel.reset : Channel := { state := 0, temp := 0, hot := false, debt := 0, spares := 0, suspects := [] }

/-- A free slot of the activation queue (R59). -/
def ActSlot.reset : ActSlot :=
  { ft := 0, kind := .change, joint := false, state := .freeSlot, seq := 0, ref := 0, origin := 0xFFFF,
    stamp := 0 }

/-- An unmapped slot channel (R519). -/
def SlotChannel.reset : SlotChannel :=
  { state := 5, cause := 0, point := 0, demand := false, pgAt := 0, rampAt := 0, offAt := 0, timers := List.replicate 16 0,
    runAt := none, volts := 0, amps := 0, energy := 0 }

/-- The state right after power-on, when the heartwood first runs: every entry at its default, the time unit FREE, every link in Detect,
every limb running, fabric memory untrained, no journal but the three records that open a new one (R475), the intake on with power-good
(R516) (DESIGN CHOICE, log entry 11) (DESIGN CHOICE, log entry 13). -/
def State.reset : State :=
  { pending := [], out := [], draws := 0, now := 0, dict := [],
    hier := { dies := List.replicate 5 .running, limbs := List.replicate 8 .running,
              stemLinkSpares := List.replicate 6 (Config.stemLinkLanes / 32),
              heartLinkSpares := List.replicate 4 (Config.heartLinkLanes / 32),
              widthActive := List.replicate 40 0, refclkMode := List.replicate 40 0, resets := [],
              contained := [], powering := [] },
    time := { mode := .free, ft := 0, running := true, offset := 0, fast := false, fresh := false, goodMarkers := 0,
              master := none, masterKey := 0, hops := 0xFF, upstream := none, lastSeq := [], heardMaster := 0,
              heardAny := 0, lowestKey := 0x7FFFF, lowestSince := 0, officeSince := none, holdBase := 0,
              holdSince := 0, annSeq := 0, ref10m := true, goodPulses := 0, refValid := false,
              openMode := false, lastFtJournaled := none, slewRem := 0, rateNum := 1, rateDen := 1, rateRem := 0, pulseAt := none },
    act := { slots := List.replicate 256 ActSlot.reset, nextSeq := 0, stamp := 0, pruneNumber := 0,
             snapNumber := 0, snapSeen := [] },
    hports := List.replicate 144 HPort.reset,
    lanes := List.replicate 576 HLane.reset,
    trunks := List.replicate 16 Trunk.reset,
    core := { nextId := 0, queues := [], waiting := [], holds := [], freeing := [], c7 := [], shapers := [],
              meters := [], avgs := [], deficits := [], lastServed := [], partBuckets := [], allotments := [],
              exhaustedAt := [], inFlight := [], outstanding := [], portTraffic := [], partTraffic := [],
              drops := [] },
    parts := List.replicate 64 Part.reset,
    shared := List.replicate 160 Shared.reset,
    gates := { cache := [], misses := [], epoch := 0, drained := 0, epochAt := 0, slowRaised := false,
               scrubPass := 0, scrubbed := [], heldGates := [], heldTlps := [] },
    fabric := { unreachable := [], fences := [], ownFenced := false, fenceNumber := 0, fenceSeen := [],
                containNumber := 0, containSeen := [], interim := [], rebalances := [], settleAt := [],
                tracks := [], proxies := [], farPending := [], locks := [], broken := [], bridge := [], lateReads := [],
                sidebands := List.replicate 144 Sideband.reset },
    mem := { cells := [], owners := [], epochs := [], keyDraw := 0, keyWraps := [], mode := 0, progress := 0, sweeping := [],
             channels := List.replicate 24 Channel.reset, remaps := [], errors := [], refreshRing := 0, refreshSlot := none },
    engines := { offline := [], busy := [], moved := [], turn := 0, credit := 0, lastVf := [], rounds := [] },
    faults := { f1Second := 0, violSecond := 0, f1Counts := [], violCounts := [], stormed := [], violDone := [], due := 0, history := [], nextSeq := 0, lost := 0, frozen := false,
                crown := .normal, f4cause := 0, tlpLog := [], inject := List.replicate 16 0,
                injectLeft := List.replicate 16 0, debugInstr := .idcode, debugShut := false, dbgData := 0,
                dbgErr := false, boundary := [] },
    bocel := { gen := 0, queue := [], cache := [], sessions := [], sets := [], nextSet := 1, notes := [],
               noteSeq := 0, notesLost := 0, overflowAt := none, forwards := [], eid := 0, mbIgnored := 0,
               inbandDropped := 0 },
    sec := { testMode := false, strap := false, hold := none, ide := [], zeroized := false, slew := 0 },
    journal := { base := [],
                 records := [{ rno := 1, timeState := 0, ft := 0, keyId := 0, parts := 0, body := .ringOpen 1 0 },
                             { rno := 2, timeState := 0, ft := 0, keyId := 0, parts := 0, body := .snapBegin 1 1 },
                             { rno := 3, timeState := 0, ft := 0, keyId := 0, parts := 0, body := .snapEnd 1 2 }],
                 inFlight := [], nextRno := 4, oldest := 1, setGen := 1, mode := 0, usedRings := 1,
                 ringBytes := 216, oldRings := 0, compactFrom := 0, warned := false, bodyDone := false, heldAnswers := [], flash := [true, true], flashFails := [0, 0],
                 sealKey := Config.firstSealKey, secret := List.replicate 2 (Config.keyWrap Config.wrapKey Config.firstSealKey),
                 boot := [{ active := 0, attempts := 0, seqNo := 1 }, { active := 0, attempts := 0, seqNo := 0 }],
                 images := [Config.imageBytes 0, Config.imageBytes 1], versions := [Config.imageVersion 0, Config.imageVersion 1],
                 digests := [Config.imageDigest 0, Config.imageDigest 1],
                 svns := [Config.imageSvn 0, Config.imageSvn 1], graftState := 0, graftReason := 0,
                 graftReceived := 0, staged := [], startSince := 0, started := false, fellBack := false,
                 recovery := false, lastStop := 0 },
    power := { phase := .on, powerGood := true, pgAt := 0, enabled := true, inputUp := true, inputLost := false,
               warningEnd := false, prior := 0, keptCause := 0, lastTrip := none, offSince := 0,
               timers := List.replicate 16 0, curveRunAt := none, govLevel := 0, load := 0, lack := 0,
               steppedAt := 0, dipAt := none, volts := 0, amps := 0, highAmps := 0, samples := [], voltsMin := 0xFFFFFFFF,
               ampsMax := 0, energy := 0, sampledAt := 0, rampAt := 0, slots := List.replicate 48 SlotChannel.reset,
               hotDies := [], thermTripped := false, reft := List.replicate 4 true, ref25 := true,
               refclk := List.replicate 40 false, resetPin := false, standby := true, standbyAt := 0, startUp := true },
    counters := { values := [], freeze := 0, ovfRaised := [], bank := [], staging := none, snapSeq := 0,
                  snapFt := 0, snapId := 0, snapOrigin := 0xFFFF, snapTime := 0xFFFFFFFF } }

end Sys2Proof.Machine
end

