-- ==== Sys2Proof/Machine/Entries.lean ====
section
/-! DEFINITION. The object dictionary's entries as the chapters' tables give them (R15, R25, R28, R36, R53, R59, R65, R93,
R149, R192, R240, R274, R304, R332, R368, R400, R434, R465, R489, R516, R518, R534): index and subindex ranges, type,
access of operator, installer and maker, persistence, activation and default. A key is 256 times the index plus the
subindex. -/

namespace Sys2Proof.Machine

/-- Entry types of R405. -/
inductive EType where
  | bool | u8 | u16 | u32 | u64 | i32 | ft64 | str | blob | key384
  deriving DecidableEq, Repr

/-- Access of one role (R406). -/
inductive Access where
  | none_ | r | w | rw
  deriving DecidableEq, Repr

/-- Persistence of R407. -/
inductive Persist where
  | volatile | journaled | staged
  deriving DecidableEq, Repr

/-- Activation of R408. -/
inductive Activ where
  | immediate | atFt | nextRetrain
  deriving DecidableEq, Repr

/-- One row of a dictionary table. -/
structure Entry where
  name : String
  idxLo : Nat
  subLo : Nat
  idxHi : Nat
  subHi : Nat
  ty : EType
  op : Access
  inst : Access
  maker : Access
  persist : Persist
  activ : Activ
  default : Nat
  deriving DecidableEq, Repr

/-- Entries of chapter 01. -/
def entries01_0 : List Entry :=
  [⟨"CROWN_ID", 0x1010, 0x00, 0x1010, 0x00, .u16, .r, .rw, .r, .staged, .atFt, 0xFFFF⟩,
   ⟨"DIE_STATE", 0x1020, 0x00, 0x1020, 0x04, .u8, .r, .r, .r, .volatile, .immediate, 0⟩,
   ⟨"LIMB_STATE", 0x1021, 0x00, 0x1021, 0x07, .u8, .r, .r, .r, .volatile, .immediate, 0⟩,
   ⟨"RESET_REQUEST", 0x1030, 0x00, 0x1030, 0x00, .u32, .w, .w, .none_, .volatile, .immediate, 0⟩,
   ⟨"BOUGH_WIDTH", 0x3100, 0x00, 0x3100, 0x27, .u8, .r, .rw, .r, .journaled, .nextRetrain, 0⟩,
   ⟨"BOUGH_WIDTH_ACTIVE", 0x3101, 0x00, 0x3101, 0x27, .u8, .r, .r, .r, .volatile, .immediate, 0⟩]

/-- Entries of chapter 02. -/
def entries02_0 : List Entry :=
  [⟨"TRUNK_SLOT", 0x6800, 0x00, 0x680F, 0x7F, .u8, .r, .rw, .r, .journaled, .atFt, 0⟩,
   ⟨"SHARE_PARTITION", 0x6810, 0x00, 0x6810, 0x3F, .u16, .r, .rw, .r, .journaled, .atFt, 0xFFFF⟩,
   ⟨"CROWN_PRUNE_MASK", 0x6820, 0x00, 0x6820, 0x01, .u64, .r, .rw, .r, .journaled, .atFt, 0x0000000100000001⟩,
   ⟨"SLOT_SWAP_FT", 0x6830, 0x00, 0x6830, 0x00, .ft64, .r, .rw, .r, .journaled, .immediate, 0⟩,
   ⟨"SLOT_BANK", 0x6830, 0x01, 0x6830, 0x01, .u8, .r, .r, .r, .journaled, .immediate, 0⟩,
   ⟨"SLOT_MODE", 0x6830, 0x02, 0x6830, 0x02, .u8, .r, .r, .r, .volatile, .immediate, 0⟩,
   ⟨"TRUNK_SLOT_ACTIVE", 0x6840, 0x00, 0x684F, 0x7F, .u8, .r, .r, .r, .journaled, .immediate, 0⟩,
   ⟨"SHARE_PARTITION_ACTIVE", 0x6850, 0x00, 0x6850, 0x3F, .u16, .r, .r, .r, .journaled, .immediate, 0xFFFF⟩,
   ⟨"CROWN_PRUNE_MASK_ACTIVE", 0x6860, 0x00, 0x6860, 0x01, .u64, .r, .r, .r, .journaled, .immediate, 0x0000000100000001⟩,
   ⟨"TIME_STATE", 0xC000, 0x00, 0xC000, 0x00, .u8, .r, .r, .r, .volatile, .immediate, 0⟩,
   ⟨"TIME_UNCERTAINTY", 0xC000, 0x01, 0xC000, 0x01, .u32, .r, .r, .r, .volatile, .immediate, 0xFFFFFFFF⟩,
   ⟨"FT_NOW", 0xC000, 0x02, 0xC000, 0x02, .ft64, .r, .r, .r, .volatile, .immediate, 0⟩,
   ⟨"MASTER_CROWN", 0xC000, 0x03, 0xC000, 0x03, .u16, .r, .r, .r, .volatile, .immediate, 0xFFFF⟩,
   ⟨"TIME_HOPS", 0xC000, 0x04, 0xC000, 0x04, .u8, .r, .r, .r, .volatile, .immediate, 0xFF⟩,
   ⟨"TIME_UPSTREAM", 0xC000, 0x05, 0xC000, 0x05, .u8, .r, .r, .r, .volatile, .immediate, 0xFF⟩,
   ⟨"TIME_PRIORITY", 0xC010, 0x00, 0xC010, 0x00, .u8, .r, .rw, .r, .journaled, .immediate, 0x80⟩,
   ⟨"TIME_REF_ENABLE", 0xC010, 0x01, 0xC010, 0x01, .bool, .r, .rw, .r, .journaled, .immediate, 0⟩,
   ⟨"TIME_REF_VALID", 0xC010, 0x02, 0xC010, 0x02, .bool, .r, .r, .r, .volatile, .immediate, 0⟩,
   ⟨"FT_FLOOR", 0xC010, 0x03, 0xC010, 0x03, .ft64, .r, .rw, .r, .journaled, .immediate, 0⟩,
   ⟨"TRUNK_ASYMMETRY", 0xC020, 0x00, 0xC020, 0x0F, .i32, .r, .rw, .r, .journaled, .immediate, 0⟩,
   ⟨"ACT_COUNT", 0xC100, 0x00, 0xC100, 0x00, .u16, .r, .r, .r, .volatile, .immediate, 0⟩,
   ⟨"ACT_NEXT_FT", 0xC100, 0x01, 0xC100, 0x01, .ft64, .r, .r, .r, .volatile, .immediate, 0xFFFFFFFFFFFFFFFF⟩,
   ⟨"ACT_FT", 0xC101, 0x00, 0xC101, 0xFF, .ft64, .r, .r, .r, .volatile, .immediate, 0⟩,
   ⟨"ACT_STATUS", 0xC102, 0x00, 0xC102, 0xFF, .u32, .r, .r, .r, .volatile, .immediate, 0⟩]

/-- Entries of chapter 03. -/
def entries03_0 : List Entry :=
  [⟨"HP_RATE_CEILING", 0x3000, 0x00, 0x3000, 0x8F, .u8, .r, .rw, .r, .journaled, .nextRetrain, 0x07⟩,
   ⟨"HP_RATE_ACTIVE", 0x3001, 0x00, 0x3001, 0x8F, .u8, .r, .r, .r, .volatile, .immediate, 0⟩,
   ⟨"HP_WIDTH_ACTIVE", 0x3002, 0x00, 0x3002, 0x8F, .u8, .r, .r, .r, .volatile, .immediate, 0⟩,
   ⟨"HP_LINK_STATUS", 0x3003, 0x00, 0x3003, 0x8F, .u32, .r, .r, .r, .volatile, .immediate, 0⟩,
   ⟨"HP_L1_IDLE", 0x3004, 0x00, 0x3004, 0x8F, .u16, .r, .rw, .r, .journaled, .immediate, 0x0020⟩,
   ⟨"HP_L0P_IDLE", 0x3005, 0x00, 0x3005, 0x8F, .u16, .r, .rw, .r, .journaled, .immediate, 0x0008⟩,
   ⟨"HP_POWER_CTL", 0x3006, 0x00, 0x3006, 0x8F, .u8, .r, .rw, .r, .journaled, .immediate, 0x0F⟩,
   ⟨"HP_EQ_STATUS", 0x3007, 0x00, 0x3007, 0x8F, .u32, .r, .r, .r, .volatile, .immediate, 0⟩,
   ⟨"BOUGH_REFCLK", 0x3110, 0x00, 0x3110, 0x27, .u8, .r, .rw, .r, .journaled, .nextRetrain, 0⟩,
   ⟨"BOUGH_REFCLK_OK", 0x3111, 0x00, 0x3111, 0x27, .bool, .r, .r, .r, .volatile, .immediate, 0⟩]

/-- Entries of chapter 04. -/
def entries04_0 : List Entry :=
  [⟨"TP_ENABLE", 0x3800, 0x00, 0x3800, 0x0F, .bool, .r, .rw, .r, .journaled, .nextRetrain, 1⟩,
   ⟨"TP_RATE_CEILING", 0x3801, 0x00, 0x3801, 0x0F, .u8, .r, .rw, .r, .journaled, .nextRetrain, 0x03⟩,
   ⟨"TP_RATE_ACTIVE", 0x3802, 0x00, 0x3802, 0x0F, .u8, .r, .r, .r, .volatile, .immediate, 0⟩,
   ⟨"TP_LINK_STATUS", 0x3803, 0x00, 0x3803, 0x0F, .u32, .r, .r, .r, .volatile, .immediate, 0⟩,
   ⟨"TP_PEER", 0x3804, 0x00, 0x3804, 0x0F, .u32, .r, .r, .r, .volatile, .immediate, 0⟩,
   ⟨"TP_PEER_EXPECT", 0x3805, 0x00, 0x3805, 0x0F, .u16, .r, .rw, .r, .journaled, .nextRetrain, 0xFFFF⟩,
   ⟨"TP_CRYPT_POLICY", 0x3806, 0x00, 0x3806, 0x0F, .u8, .r, .rw, .r, .staged, .atFt, 0x01⟩,
   ⟨"TP_DELAY", 0x3807, 0x00, 0x3807, 0x0F, .u32, .r, .r, .r, .volatile, .immediate, 0⟩,
   ⟨"TP_RETRAIN", 0x3808, 0x00, 0x3808, 0x0F, .bool, .none_, .w, .none_, .volatile, .immediate, 0⟩,
   ⟨"TP_KEY_EPOCH", 0x3809, 0x00, 0x3809, 0x0F, .u32, .r, .r, .r, .volatile, .immediate, 0⟩]

/-- Entries of chapter 05. -/
def entries05_0 : List Entry :=
  [⟨"TC_CLASS_MAP", 0x6000, 0x00, 0x6000, 0x3F, .u32, .r, .rw, .r, .journaled, .immediate, 0x55543210⟩,
   ⟨"BUF_MIN", 0x6100, 0x00, 0x6107, 0x9F, .u32, .r, .rw, .r, .journaled, .immediate, 128⟩,
   ⟨"BUF_MAX", 0x6108, 0x00, 0x610F, 0x9F, .u32, .r, .rw, .r, .journaled, .immediate, 16384⟩,
   ⟨"EGRESS_SHAPE", 0x6110, 0x00, 0x6116, 0x9F, .u32, .r, .rw, .r, .journaled, .immediate, 0xFFFF0100⟩,
   ⟨"COLOUR_METER", 0x6200, 0x00, 0x6207, 0x3F, .u64, .r, .rw, .r, .journaled, .immediate, 0xFFFFFFFF01000100⟩,
   ⟨"C6_PROFILE", 0x6300, 0x00, 0x6302, 0x9F, .u64, .r, .rw, .r, .journaled, .immediate, 0xFFFFBFFFF0090000⟩,
   ⟨"MCAST_GROUP", 0x6400, 0x00, 0x640F, 0xFF, .blob, .r, .rw, .r, .staged, .atFt, 0⟩,
   ⟨"BUF_SHARED_FREE", 0x6500, 0x00, 0x6500, 0x07, .i32, .r, .r, .r, .volatile, .immediate, 0⟩,
   ⟨"BUF_RESERVED_SUM", 0x6501, 0x00, 0x6501, 0x07, .u32, .r, .r, .r, .volatile, .immediate, 20480⟩]

/-- Entries of chapter 06. -/
def entries06_0 : List Entry :=
  [⟨"PART_GROVE_ID", 0x4000, 0x00, 0x4000, 0x3F, .u16, .r, .rw, .r, .staged, .atFt, 0xFFFF⟩,
   ⟨"PART_UPSTREAM", 0x4001, 0x00, 0x4001, 0x3F, .u32, .r, .rw, .r, .staged, .atFt, 0xFFFFFFFF⟩,
   ⟨"PART_STATE", 0x4002, 0x00, 0x4002, 0x3F, .u8, .r, .r, .r, .volatile, .immediate, 0⟩,
   ⟨"PART_RESET_CAUSE", 0x4003, 0x00, 0x4003, 0x3F, .u8, .r, .r, .r, .volatile, .immediate, 0⟩,
   ⟨"PART_RESET_COUNT", 0x4004, 0x00, 0x4004, 0x3F, .u32, .r, .r, .r, .volatile, .immediate, 0⟩,
   ⟨"VDP_BIND", 0x4100, 0x00, 0x413F, 0xFF, .u64, .r, .rw, .r, .staged, .atFt, 0⟩,
   ⟨"SHARED_DEV", 0x4200, 0x00, 0x4200, 0x9F, .u32, .r, .rw, .r, .staged, .atFt, 0⟩,
   ⟨"SHARED_STATE", 0x4201, 0x00, 0x4201, 0x9F, .u32, .r, .r, .r, .volatile, .immediate, 0x40000000⟩,
   ⟨"SHARED_RESET", 0x4202, 0x00, 0x4202, 0x9F, .u8, .w, .w, .none_, .volatile, .immediate, 0⟩,
   ⟨"SHARED_RID", 0x4203, 0x00, 0x4203, 0x9F, .u32, .r, .r, .r, .volatile, .immediate, 0⟩,
   ⟨"EVENT_MAP", 0x4400, 0x00, 0x440F, 0xFF, .u32, .r, .rw, .r, .journaled, .immediate, 0x40000000⟩,
   ⟨"EVENT_SOFT", 0x4410, 0x00, 0x4410, 0x00, .u16, .w, .w, .none_, .volatile, .immediate, 0⟩,
   ⟨"PART_MCAST_MAP", 0x4500, 0x00, 0x453F, 0x3F, .u16, .r, .rw, .r, .staged, .atFt, 0xFFFF⟩,
   ⟨"PART_WEIGHT", 0x6600, 0x00, 0x6606, 0x3F, .u16, .rw, .rw, .r, .journaled, .immediate, 0x0010⟩,
   ⟨"PART_WEIGHT_CAP", 0x6608, 0x00, 0x660E, 0x3F, .u16, .r, .rw, .r, .journaled, .immediate, 0x0400⟩,
   ⟨"PART_MAX_RATE", 0x6610, 0x00, 0x6610, 0x3F, .u16, .rw, .rw, .r, .journaled, .immediate, 0xFFFF⟩,
   ⟨"PART_RATE_CAP", 0x6611, 0x00, 0x6611, 0x3F, .u16, .r, .rw, .r, .journaled, .immediate, 0xFFFF⟩,
   ⟨"PART_BURST", 0x6612, 0x00, 0x6612, 0x3F, .u16, .r, .rw, .r, .journaled, .immediate, 0x0100⟩]

/-- Entries of chapter 07. -/
def entries07_0 : List Entry :=
  [⟨"GATE_REG_ADDR", 0x5000, 0x00, 0x509F, 0xFF, .u64, .r, .rw, .r, .staged, .atFt, 0⟩,
   ⟨"GATE_REG_PARTS", 0x5100, 0x00, 0x519F, 0xFF, .u64, .r, .rw, .r, .staged, .atFt, 0⟩,
   ⟨"GATE_REG_RIGHTS", 0x5200, 0x00, 0x529F, 0xFF, .u64, .r, .rw, .r, .staged, .atFt, 0⟩,
   ⟨"GATE_REGION_COUNT", 0x5300, 0x00, 0x5300, 0x9F, .u16, .r, .r, .r, .volatile, .immediate, 0⟩,
   ⟨"GATE_SCRUB_PASS", 0x5400, 0x00, 0x5400, 0x00, .u32, .r, .r, .r, .volatile, .immediate, 0⟩,
   ⟨"WIN_MAP", 0x5800, 0x00, 0x58FF, 0xFF, .u64, .r, .rw, .r, .staged, .atFt, 0⟩,
   ⟨"WIN_TARGET", 0x5900, 0x00, 0x59FF, 0xFF, .u64, .r, .rw, .r, .staged, .atFt, 0⟩,
   ⟨"PORT_XLATE", 0x5A00, 0x00, 0x5A00, 0x9F, .u64, .r, .rw, .r, .staged, .atFt, 0⟩,
   ⟨"FABRIC_BAR_SIZE", 0x5B00, 0x00, 0x5B00, 0x3F, .u8, .r, .rw, .r, .journaled, .nextRetrain, 0⟩,
   ⟨"FABRIC_BAR_ACTIVE", 0x5B01, 0x00, 0x5B01, 0x3F, .u8, .r, .r, .r, .volatile, .immediate, 0⟩,
   ⟨"PROT_EPOCH", 0x5F00, 0x00, 0x5F00, 0x00, .u32, .r, .r, .r, .volatile, .immediate, 0⟩,
   ⟨"PROT_DRAINED", 0x5F00, 0x01, 0x5F00, 0x01, .u32, .r, .r, .r, .volatile, .immediate, 0⟩]

/-- Entries of chapter 08. -/
def entries08_0 : List Entry :=
  [⟨"SIDEBAND_IN", 0x3010, 0x00, 0x3010, 0x8F, .u32, .r, .rw, .r, .journaled, .immediate, 0⟩,
   ⟨"SIDEBAND_OUT", 0x3011, 0x00, 0x3011, 0x8F, .u32, .r, .rw, .r, .journaled, .immediate, 0⟩,
   ⟨"SLOT_SIGNALS", 0x3012, 0x00, 0x3012, 0x8F, .u8, .r, .r, .r, .volatile, .immediate, 0⟩,
   ⟨"ROUTE", 0x7000, 0x00, 0x7003, 0xFF, .u32, .r, .rw, .r, .staged, .atFt, 0⟩,
   ⟨"ROUTE_HOP_LIMIT", 0x7010, 0x00, 0x7010, 0x00, .u8, .r, .rw, .r, .journaled, .immediate, 0x08⟩,
   ⟨"ROUTE_SETTLE", 0x7010, 0x01, 0x7010, 0x01, .u16, .r, .rw, .r, .journaled, .immediate, 0x03E8⟩,
   ⟨"ROUTE_REBALANCE", 0x7010, 0x02, 0x7010, 0x02, .u16, .none_, .w, .none_, .volatile, .immediate, 0⟩,
   ⟨"FENCE_STATE", 0x7100, 0x00, 0x7103, 0xFF, .u8, .r, .r, .r, .volatile, .immediate, 0⟩,
   ⟨"FENCE_FORCE", 0x7110, 0x00, 0x7110, 0x00, .u16, .none_, .w, .none_, .volatile, .immediate, 0⟩,
   ⟨"NP_TIMEOUT", 0x7200, 0x00, 0x7200, 0x3F, .u16, .r, .rw, .r, .journaled, .immediate, 0x00C8⟩,
   ⟨"NP_TRACK_USED", 0x7201, 0x00, 0x7201, 0x00, .u16, .r, .r, .r, .volatile, .immediate, 0⟩,
   ⟨"LOCK_STATE", 0x7300, 0x00, 0x7300, 0x27, .u32, .r, .r, .r, .volatile, .immediate, 0⟩]

/-- Entries of chapter 09. -/
def entries09_0 : List Entry :=
  [⟨"MEM_STATE", 0x8000, 0x00, 0x8000, 0x00, .u8, .r, .r, .r, .volatile, .immediate, 0⟩,
   ⟨"MEM_SWEEP_PROGRESS", 0x8000, 0x01, 0x8000, 0x01, .u8, .r, .r, .r, .volatile, .immediate, 0⟩,
   ⟨"CHAN_STATE", 0x8001, 0x00, 0x8001, 0x17, .u32, .r, .r, .r, .volatile, .immediate, 0⟩,
   ⟨"MEM_KEY_EPOCH", 0x8100, 0x00, 0x810F, 0xFF, .u16, .r, .r, .r, .volatile, .immediate, 0x0001⟩,
   ⟨"MEM_KEY_ROLL", 0x8200, 0x00, 0x8200, 0x00, .u16, .w, .w, .none_, .staged, .atFt, 0⟩,
   ⟨"MEM_SCRUB_PERIOD", 0x8300, 0x00, 0x8300, 0x00, .u8, .r, .rw, .r, .journaled, .immediate, 0x08⟩,
   ⟨"MEM_ERROR_LOG", 0x8400, 0x00, 0x8400, 0x0F, .u64, .r, .r, .r, .volatile, .immediate, 0⟩]

/-- Entries of chapter 10. -/
def entries10_0 : List Entry :=
  [⟨"ENG_VF_MAX", 0x9000, 0x00, 0x9000, 0x3F, .u8, .r, .rw, .r, .journaled, .nextRetrain, 0x10⟩,
   ⟨"MQ_COUNT", 0x9001, 0x00, 0x9001, 0x3F, .u8, .r, .rw, .r, .journaled, .nextRetrain, 0x02⟩,
   ⟨"ENG_SHARE", 0x9002, 0x00, 0x9002, 0x3F, .u16, .r, .rw, .r, .journaled, .immediate, 0x0010⟩,
   ⟨"ENG_STATE", 0x9010, 0x00, 0x9010, 0x1F, .u8, .r, .r, .r, .volatile, .immediate, 0⟩,
   ⟨"REDUCE_CTX", 0x9100, 0x00, 0x9103, 0xFF, .blob, .r, .rw, .r, .staged, .atFt, 0⟩,
   ⟨"REDUCE_ROUND", 0x9104, 0x00, 0x9107, 0xFF, .u8, .r, .r, .r, .volatile, .immediate, 0⟩]

/-- Entries of chapter 11. -/
def entries11_0 : List Entry :=
  [⟨"FAULT_WINDOW_F2", 0xB000, 0x00, 0xB000, 0x00, .u32, .r, .rw, .r, .journaled, .immediate, 0x000186A0⟩,
   ⟨"FAULT_WINDOW_F3", 0xB000, 0x01, 0xB000, 0x01, .u32, .r, .rw, .r, .journaled, .immediate, 0x000F4240⟩,
   ⟨"F1_LIMIT", 0xB001, 0x00, 0xB001, 0x00, .u16, .r, .rw, .r, .journaled, .immediate, 0x0064⟩,
   ⟨"VIOL_LIMIT", 0xB001, 0x01, 0xB001, 0x01, .u16, .r, .rw, .r, .journaled, .immediate, 0x0040⟩,
   ⟨"PART_VIOL_LIMIT", 0xB001, 0x02, 0xB001, 0x02, .u16, .r, .rw, .r, .journaled, .immediate, 0x0040⟩,
   ⟨"F2_CEILING", 0xB001, 0x03, 0xB001, 0x03, .u8, .r, .rw, .r, .journaled, .immediate, 0x04⟩,
   ⟨"FAULT_ACK", 0xB002, 0x00, 0xB002, 0x00, .u16, .w, .w, .none_, .volatile, .immediate, 0⟩,
   ⟨"PART_RELEASE", 0xB003, 0x00, 0xB003, 0x00, .u8, .none_, .w, .none_, .volatile, .immediate, 0⟩,
   ⟨"PART_CONTAIN", 0xB004, 0x00, 0xB004, 0x00, .u8, .w, .w, .none_, .volatile, .immediate, 0⟩,
   ⟨"FAULT_STATE", 0xB010, 0x00, 0xB010, 0x00, .u32, .r, .r, .r, .volatile, .immediate, 0⟩,
   ⟨"HIST_LOST", 0xB011, 0x00, 0xB011, 0x00, .u32, .r, .r, .r, .volatile, .immediate, 0⟩,
   ⟨"HIST_NEXT", 0xB012, 0x00, 0xB012, 0x00, .u16, .r, .r, .r, .volatile, .immediate, 0⟩,
   ⟨"HIST_FT", 0xB100, 0x00, 0xB100, 0x3F, .ft64, .r, .r, .r, .volatile, .immediate, 0⟩,
   ⟨"HIST_ENTRY", 0xB101, 0x00, 0xB101, 0x3F, .u64, .r, .r, .r, .volatile, .immediate, 0⟩,
   ⟨"LOG_TLP", 0xB110, 0x00, 0xB110, 0x0F, .blob, .r, .r, .r, .volatile, .immediate, 0⟩,
   ⟨"INJECT_ARM", 0xB200, 0x00, 0xB200, 0x0F, .u32, .none_, .rw, .none_, .volatile, .immediate, 0⟩,
   ⟨"DEBUG_POLICY", 0xB300, 0x00, 0xB300, 0x00, .u32, .r, .rw, .r, .staged, .atFt, 0⟩,
   ⟨"DEBUG_PARTS", 0xB300, 0x01, 0xB300, 0x01, .u64, .r, .rw, .r, .staged, .atFt, 0⟩,
   ⟨"TEST_MODE", 0xB301, 0x00, 0xB301, 0x00, .bool, .r, .r, .r, .volatile, .immediate, 0⟩]

/-- Entries of chapter 12. -/
def entries12_0 : List Entry :=
  [⟨"MODULE_NAME", 0x1000, 0x00, 0x1000, 0x00, .str, .r, .r, .r, .volatile, .immediate, 18392824742491696⟩,
   ⟨"ORDER_CODE", 0x1000, 0x01, 0x1000, 0x01, .str, .r, .r, .r, .volatile, .immediate, Config.orderCode⟩,
   ⟨"DEVICE_SERIAL", 0x1000, 0x02, 0x1000, 0x02, .u64, .r, .r, .r, .volatile, .immediate, Config.deviceSerial⟩,
   ⟨"JTAG_IDCODE", 0x1000, 0x03, 0x1000, 0x03, .u32, .r, .r, .r, .volatile, .immediate, (Config.idcodeVersion.toNat * 2 ^ 28 + 0x9160 * 2 ^ 12 + Config.idcodeMaker.toNat * 2 + 1)⟩,
   ⟨"VENDOR_ID", 0x1000, 0x04, 0x1000, 0x04, .u16, .r, .r, .r, .volatile, .immediate, Config.vendorId⟩,
   ⟨"DICT_GEN", 0x1001, 0x00, 0x1001, 0x00, .u32, .r, .r, .r, .volatile, .immediate, 0⟩,
   ⟨"MGMT_IPV4", 0x1100, 0x00, 0x1100, 0x00, .u32, .r, .rw, .r, .journaled, .immediate, 0⟩,
   ⟨"MGMT_IPV4_PREFIX", 0x1100, 0x01, 0x1100, 0x01, .u8, .r, .rw, .r, .journaled, .immediate, 0x18⟩,
   ⟨"MGMT_IPV4_GW", 0x1100, 0x02, 0x1100, 0x02, .u32, .r, .rw, .r, .journaled, .immediate, 0⟩,
   ⟨"MGMT_DHCP", 0x1100, 0x03, 0x1100, 0x03, .bool, .r, .rw, .r, .journaled, .immediate, 1⟩,
   ⟨"MGMT_IPV6", 0x1101, 0x00, 0x1101, 0x00, .blob, .r, .rw, .r, .journaled, .immediate, 0⟩,
   ⟨"BOCEL_UDP_PORT", 0x1102, 0x00, 0x1102, 0x00, .u16, .r, .rw, .r, .journaled, .immediate, 0x4AD8⟩,
   ⟨"MGMT_MAC", 0x1103, 0x00, 0x1103, 0x00, .blob, .r, .r, .r, .volatile, .immediate, Config.mgmtMac⟩,
   ⟨"BOCEL_GPART", 0x1110, 0x00, 0x1110, 0x00, .u16, .r, .rw, .r, .journaled, .immediate, 0xFFFF⟩,
   ⟨"BOCEL_CLASS", 0x1110, 0x01, 0x1110, 0x01, .u8, .r, .rw, .r, .journaled, .immediate, 0x05⟩,
   ⟨"BOCEL_INBAND_TIMEOUT", 0x1110, 0x02, 0x1110, 0x02, .u16, .r, .rw, .r, .journaled, .immediate, 0x0064⟩,
   ⟨"MCTP_EID", 0x1111, 0x00, 0x1111, 0x00, .u8, .r, .r, .r, .volatile, .immediate, 0⟩,
   ⟨"SESSION_COUNT", 0x1120, 0x00, 0x1120, 0x00, .u8, .r, .r, .r, .volatile, .immediate, 0⟩,
   ⟨"NOTIFY_PENDING", 0x1121, 0x00, 0x1121, 0x00, .u16, .r, .r, .r, .volatile, .immediate, 0⟩,
   ⟨"NOTIFY_LOST", 0x1121, 0x01, 0x1121, 0x01, .u32, .r, .r, .r, .volatile, .immediate, 0⟩,
   ⟨"BOCEL_KEY_SEQ", 0x1141, 0x00, 0x1143, 0xFF, .u64, .r, .r, .r, .journaled, .immediate, 0⟩]

/-- Entries of chapter 13. -/
def entries13_0 : List Entry :=
  [⟨"OP_KEY", 0xE000, 0x00, 0xE000, 0x47, .key384, .rw, .rw, .r, .staged, .atFt, 0⟩,
   ⟨"INST_KEY", 0xE001, 0x00, 0xE001, 0x07, .key384, .r, .rw, .r, .staged, .atFt, 0⟩,
   ⟨"MAKER_ROOT", 0xE002, 0x00, 0xE002, 0x01, .key384, .r, .r, .r, .volatile, .immediate, 0⟩,
   ⟨"IDENTITY_KEY", 0xE003, 0x00, 0xE003, 0x00, .key384, .r, .r, .r, .volatile, .immediate, 0⟩,
   ⟨"IDENTITY_CERT", 0xE003, 0x01, 0xE003, 0x01, .blob, .r, .r, .r, .volatile, .immediate, 0⟩,
   ⟨"CLAIM_STATE", 0xE004, 0x00, 0xE004, 0x00, .u8, .r, .r, .r, .journaled, .immediate, 0⟩,
   ⟨"OP_CONSENT", 0xE010, 0x00, 0xE010, 0x3F, .blob, .rw, .r, .r, .journaled, .immediate, 0⟩,
   ⟨"LINK_IDE_POLICY", 0xE020, 0x00, 0xE020, 0x9F, .u8, .r, .rw, .r, .staged, .atFt, 0x01⟩,
   ⟨"LINK_IDE_STATE", 0xE021, 0x00, 0xE021, 0x9F, .u8, .r, .r, .r, .volatile, .immediate, 0⟩,
   ⟨"TEST_NONCE", 0xE030, 0x00, 0xE030, 0x00, .u64, .r, .r, .r, .volatile, .immediate, 0⟩,
   ⟨"TEST_UNLOCK", 0xE030, 0x01, 0xE030, 0x01, .u64, .none_, .none_, .w, .volatile, .immediate, 0⟩]

/-- Entries of chapter 14. -/
def entries14_0 : List Entry :=
  [⟨"JOURNAL_STATE", 0xD000, 0x00, 0xD000, 0x00, .u8, .r, .r, .r, .volatile, .immediate, 0⟩,
   ⟨"JOURNAL_FILL", 0xD000, 0x01, 0xD000, 0x01, .u8, .r, .r, .r, .volatile, .immediate, 0⟩,
   ⟨"JOURNAL_NEWEST", 0xD000, 0x02, 0xD000, 0x02, .u64, .r, .r, .r, .volatile, .immediate, 0⟩,
   ⟨"JOURNAL_OLDEST", 0xD000, 0x03, 0xD000, 0x03, .u64, .r, .r, .r, .volatile, .immediate, 0⟩,
   ⟨"JOURNAL_SET_GEN", 0xD000, 0x04, 0xD000, 0x04, .u32, .r, .r, .r, .volatile, .immediate, 0x00000001⟩,
   ⟨"COMPACT_NOW", 0xD000, 0x05, 0xD000, 0x05, .bool, .none_, .w, .none_, .volatile, .immediate, 0⟩,
   ⟨"FLASH_STATE", 0xD001, 0x00, 0xD001, 0x00, .u8, .r, .r, .r, .volatile, .immediate, 0x03⟩,
   ⟨"BOOT_ACTIVE", 0xD010, 0x00, 0xD010, 0x00, .u8, .r, .r, .r, .volatile, .immediate, 0⟩,
   ⟨"BOOT_ATTEMPTS", 0xD010, 0x01, 0xD010, 0x01, .u8, .r, .r, .r, .volatile, .immediate, 0⟩,
   ⟨"IMAGE_VERSION", 0xD011, 0x00, 0xD011, 0x01, .u32, .r, .r, .r, .volatile, .immediate, 0⟩,
   ⟨"IMAGE_DIGEST", 0xD012, 0x00, 0xD012, 0x01, .blob, .r, .r, .r, .volatile, .immediate, 0⟩,
   ⟨"IMAGE_SVN_FLOOR", 0xD013, 0x00, 0xD013, 0x00, .u16, .r, .r, .r, .journaled, .immediate, 0⟩,
   ⟨"START_OK", 0xD014, 0x00, 0xD014, 0x00, .bool, .none_, .none_, .none_, .volatile, .immediate, 0⟩,
   ⟨"GRAFT_STATE", 0xD020, 0x00, 0xD020, 0x00, .u8, .r, .r, .r, .volatile, .immediate, 0⟩,
   ⟨"GRAFT_REASON", 0xD020, 0x01, 0xD020, 0x01, .u8, .r, .r, .r, .volatile, .immediate, 0⟩,
   ⟨"GRAFT_RECEIVED", 0xD020, 0x02, 0xD020, 0x02, .u32, .r, .r, .r, .volatile, .immediate, 0⟩,
   ⟨"GRAFT_CHUNK", 0xD021, 0x00, 0xD021, 0x00, .blob, .none_, .w, .none_, .volatile, .immediate, 0⟩,
   ⟨"GRAFT_APPLY", 0xD021, 0x01, 0xD021, 0x01, .bool, .none_, .w, .none_, .volatile, .immediate, 0⟩,
   ⟨"GRAFT_ACT_FT", 0xD022, 0x00, 0xD022, 0x00, .ft64, .r, .rw, .r, .journaled, .atFt, 0⟩]

/-- Entries of chapter 15. -/
def entries15_0 : List Entry :=
  [⟨"INTAKE_STATE", 0x2000, 0x00, 0x2000, 0x00, .u8, .r, .r, .r, .volatile, .immediate, 0x03⟩,
   ⟨"INTAKE_PRIOR", 0x2000, 0x01, 0x2000, 0x01, .u8, .r, .r, .r, .volatile, .immediate, 0⟩,
   ⟨"GOV_LEVEL", 0x2000, 0x02, 0x2000, 0x02, .u8, .r, .r, .r, .volatile, .immediate, 0⟩,
   ⟨"STORE_LEVEL", 0x2000, 0x03, 0x2000, 0x03, .u8, .r, .r, .r, .volatile, .immediate, 0x64⟩,
   ⟨"INTAKE_POWER_LIMIT", 0x2001, 0x00, 0x2001, 0x00, .u16, .r, .rw, .r, .journaled, .immediate, 1100⟩,
   ⟨"INTAKE_SLEW", 0x2001, 0x01, 0x2001, 0x01, .u8, .r, .rw, .r, .journaled, .immediate, 0x0A⟩,
   ⟨"INTAKE_DVDT", 0x2001, 0x02, 0x2001, 0x02, .u8, .r, .rw, .r, .journaled, .immediate, 0x0A⟩,
   ⟨"INTAKE_INRUSH", 0x2001, 0x03, 0x2001, 0x03, .u8, .r, .rw, .r, .journaled, .immediate, 0x19⟩,
   ⟨"INTAKE_RAMP_TIMEOUT", 0x2001, 0x04, 0x2001, 0x04, .u8, .r, .rw, .r, .journaled, .immediate, 0x32⟩,
   ⟨"INTAKE_CURVE", 0x2002, 0x00, 0x2002, 0x0F, .u32, .r, .rw, .r, .journaled, .immediate, 0⟩,
   ⟨"INTAKE_V", 0x2003, 0x00, 0x2003, 0x00, .u32, .r, .r, .r, .volatile, .immediate, 0⟩,
   ⟨"INTAKE_I", 0x2003, 0x01, 0x2003, 0x01, .i32, .r, .r, .r, .volatile, .immediate, 0⟩,
   ⟨"INTAKE_P", 0x2003, 0x02, 0x2003, 0x02, .u32, .r, .r, .r, .volatile, .immediate, 0⟩,
   ⟨"INTAKE_V_MIN", 0x2003, 0x03, 0x2003, 0x03, .u32, .r, .r, .r, .volatile, .immediate, 0xFFFFFFFF⟩,
   ⟨"INTAKE_I_MAX", 0x2003, 0x04, 0x2003, 0x04, .i32, .r, .r, .r, .volatile, .immediate, 0⟩,
   ⟨"INTAKE_ENERGY", 0x2003, 0x05, 0x2003, 0x05, .u64, .r, .r, .r, .volatile, .immediate, 0⟩,
   ⟨"INTAKE_PEAK_CLEAR", 0x2003, 0x06, 0x2003, 0x06, .bool, .none_, .w, .none_, .volatile, .immediate, 0⟩,
   ⟨"LIMB_POWER", 0x2010, 0x00, 0x2010, 0x07, .bool, .r, .rw, .r, .journaled, .immediate, 1⟩,
   ⟨"SLOT_MAP", 0x2200, 0x00, 0x2200, 0x2F, .u16, .r, .rw, .r, .journaled, .immediate, 0⟩,
   ⟨"SLOT_CTL", 0x2201, 0x00, 0x2201, 0x2F, .u8, .r, .rw, .r, .journaled, .immediate, 0⟩,
   ⟨"SLOT_SHUNT", 0x2202, 0x00, 0x2202, 0x2F, .u16, .r, .rw, .r, .journaled, .immediate, 500⟩,
   ⟨"SLOT_FAST_TRIP", 0x2203, 0x00, 0x2203, 0x2F, .u8, .r, .rw, .r, .journaled, .immediate, 0x50⟩,
   ⟨"SLOT_DVDT", 0x2204, 0x00, 0x2204, 0x2F, .u8, .r, .rw, .r, .journaled, .immediate, 0x0A⟩,
   ⟨"SLOT_INRUSH", 0x2205, 0x00, 0x2205, 0x2F, .u8, .r, .rw, .r, .journaled, .immediate, 0x05⟩]

/-- Entries of chapter 15. -/
def entries15_1 : List Entry :=
  [⟨"SLOT_RAMP_TIMEOUT", 0x2206, 0x00, 0x2206, 0x2F, .u8, .r, .rw, .r, .journaled, .immediate, 0x32⟩,
   ⟨"SLOT_CURVE", 0x2210, 0x00, 0x221F, 0x2F, .u32, .r, .rw, .r, .journaled, .immediate, 0⟩,
   ⟨"SLOT_STATE", 0x2220, 0x00, 0x2220, 0x2F, .u32, .r, .r, .r, .volatile, .immediate, 0x50000000⟩,
   ⟨"SLOT_I", 0x2221, 0x00, 0x2221, 0x2F, .i32, .r, .r, .r, .volatile, .immediate, 0⟩,
   ⟨"SLOT_V", 0x2222, 0x00, 0x2222, 0x2F, .u32, .r, .r, .r, .volatile, .immediate, 0⟩,
   ⟨"SLOT_ENERGY", 0x2223, 0x00, 0x2223, 0x2F, .u64, .r, .r, .r, .volatile, .immediate, 0⟩,
   ⟨"SLOT_CLEAR", 0x2224, 0x00, 0x2224, 0x2F, .bool, .none_, .w, .none_, .volatile, .immediate, 0⟩]

/-- Entries of chapter 16. -/
def entries16_0 : List Entry :=
  [⟨"CNT_VALUE", 0xA000, 0x00, 0xA00C, 0x3F, .u64, .r, .r, .r, .volatile, .immediate, 0⟩,
   ⟨"CNT_CTL", 0xA100, 0x00, 0xA10C, 0x3F, .u32, .r, .rw, .r, .journaled, .immediate, 0⟩,
   ⟨"CNT_FREEZE", 0xA180, 0x00, 0xA180, 0x00, .u16, .r, .rw, .r, .volatile, .immediate, 0⟩,
   ⟨"SNAP_VALUE", 0xA200, 0x00, 0xA20C, 0x3F, .u64, .r, .r, .r, .volatile, .immediate, 0⟩,
   ⟨"SNAP_REQUEST", 0xA280, 0x00, 0xA280, 0x00, .blob, .none_, .w, .none_, .volatile, .immediate, 0⟩,
   ⟨"SNAP_SEQ", 0xA281, 0x00, 0xA281, 0x00, .u32, .r, .r, .r, .volatile, .immediate, 0⟩,
   ⟨"SNAP_FT", 0xA281, 0x01, 0xA281, 0x01, .ft64, .r, .r, .r, .volatile, .immediate, 0⟩,
   ⟨"SNAP_ID", 0xA281, 0x02, 0xA281, 0x02, .u32, .r, .r, .r, .volatile, .immediate, 0⟩,
   ⟨"SNAP_ORIGIN", 0xA281, 0x03, 0xA281, 0x03, .u16, .r, .r, .r, .volatile, .immediate, 0xFFFF⟩,
   ⟨"SNAP_TIME", 0xA281, 0x04, 0xA281, 0x04, .u64, .r, .r, .r, .volatile, .immediate, 0x00000000FFFFFFFF⟩]

/-- Every entry of the dictionary but the maker-private range 0xF000, whose content no chapter describes. -/
def entries : List Entry :=
  entries01_0 ++
  entries02_0 ++
  entries03_0 ++
  entries04_0 ++
  entries05_0 ++
  entries06_0 ++
  entries07_0 ++
  entries08_0 ++
  entries09_0 ++
  entries10_0 ++
  entries11_0 ++
  entries12_0 ++
  entries13_0 ++
  entries14_0 ++
  entries15_0 ++
  entries15_1 ++
  entries16_0

/-- R522: counter entries run over whole indices up to the last, which stops at its own subindex. -/
def Entry.spansIndices (e : Entry) : Bool := e.idxLo == 0xA000 || e.idxLo == 0xA100 || e.idxLo == 0xA200

/-- Whether the entry stands at this index and subindex. -/
def Entry.holds (e : Entry) (idx sub : Nat) : Bool :=
  e.idxLo ≤ idx && idx ≤ e.idxHi &&
    (if e.spansIndices && idx < e.idxHi then sub ≤ 0xFF else e.subLo ≤ sub && sub ≤ e.subHi)

/-- The entry at an index and subindex. -/
def entryAt (idx sub : Nat) : Option Entry := entries.find? (fun e => e.holds idx sub)

/-- The entry of a key. -/
def entryOf (key : Nat) : Option Entry := entryAt (key / 256) (key % 256)

/-- R517: the default points of INTAKE_CURVE. -/
def intakeCurveDefault (k : Nat) : Nat :=
  [0x1A4F4240, 0x1E030D40, 0x25804E20, 0x2D0007D0, 0x320001F4, 0x39800032].getD k 0

/-- R517: the default points of SLOT_CURVE. -/
def slotCurveDefault (k : Nat) : Nat := [0x0A8F4240, 0x0C8186A0, 0x0F002710, 0x118003E8].getD k 0

/-- The default of the entry at a key; 0 where no entry stands. Per-part values are those of Config (DEDUCED, log entry 4). -/
def defaultOf (key : Nat) : Nat :=
  let idx := key / 256
  let sub := key % 256
  if 0x6800 ≤ idx && idx ≤ 0x680F || 0x6840 ≤ idx && idx ≤ 0x684F then (if sub == 0x7F then 0xC0 else 0)
  else if idx == 0x2002 then intakeCurveDefault sub
  else if 0x2210 ≤ idx && idx ≤ 0x221F then slotCurveDefault (idx - 0x2210)
  else match entryAt idx sub with
    | some e => e.default
    | none => 0

/-! ### Keys of the entries, named as the tables name them: the key of an entry's first index and subindex -/

namespace Key

abbrev MODULE_NAME : Nat := 0x100000
abbrev ORDER_CODE : Nat := 0x100001
abbrev DEVICE_SERIAL : Nat := 0x100002
abbrev JTAG_IDCODE : Nat := 0x100003
abbrev VENDOR_ID : Nat := 0x100004
abbrev DICT_GEN : Nat := 0x100100
abbrev CROWN_ID : Nat := 0x101000
abbrev DIE_STATE : Nat := 0x102000
abbrev LIMB_STATE : Nat := 0x102100
abbrev RESET_REQUEST : Nat := 0x103000
abbrev MGMT_IPV4 : Nat := 0x110000
abbrev MGMT_IPV4_PREFIX : Nat := 0x110001
abbrev MGMT_IPV4_GW : Nat := 0x110002
abbrev MGMT_DHCP : Nat := 0x110003
abbrev MGMT_IPV6 : Nat := 0x110100
abbrev BOCEL_UDP_PORT : Nat := 0x110200
abbrev MGMT_MAC : Nat := 0x110300
abbrev BOCEL_GPART : Nat := 0x111000
abbrev BOCEL_CLASS : Nat := 0x111001
abbrev BOCEL_INBAND_TIMEOUT : Nat := 0x111002
abbrev MCTP_EID : Nat := 0x111100
abbrev SESSION_COUNT : Nat := 0x112000
abbrev NOTIFY_PENDING : Nat := 0x112100
abbrev NOTIFY_LOST : Nat := 0x112101
abbrev BOCEL_KEY_SEQ : Nat := 0x114100
abbrev INTAKE_STATE : Nat := 0x200000
abbrev INTAKE_PRIOR : Nat := 0x200001
abbrev GOV_LEVEL : Nat := 0x200002
abbrev STORE_LEVEL : Nat := 0x200003
abbrev INTAKE_POWER_LIMIT : Nat := 0x200100
abbrev INTAKE_SLEW : Nat := 0x200101
abbrev INTAKE_DVDT : Nat := 0x200102
abbrev INTAKE_INRUSH : Nat := 0x200103
abbrev INTAKE_RAMP_TIMEOUT : Nat := 0x200104
abbrev INTAKE_CURVE : Nat := 0x200200
abbrev INTAKE_V : Nat := 0x200300
abbrev INTAKE_I : Nat := 0x200301
abbrev INTAKE_P : Nat := 0x200302
abbrev INTAKE_V_MIN : Nat := 0x200303
abbrev INTAKE_I_MAX : Nat := 0x200304
abbrev INTAKE_ENERGY : Nat := 0x200305
abbrev INTAKE_PEAK_CLEAR : Nat := 0x200306
abbrev LIMB_POWER : Nat := 0x201000
abbrev SLOT_MAP : Nat := 0x220000
abbrev SLOT_CTL : Nat := 0x220100
abbrev SLOT_SHUNT : Nat := 0x220200
abbrev SLOT_FAST_TRIP : Nat := 0x220300
abbrev SLOT_DVDT : Nat := 0x220400
abbrev SLOT_INRUSH : Nat := 0x220500
abbrev SLOT_RAMP_TIMEOUT : Nat := 0x220600
abbrev SLOT_CURVE : Nat := 0x221000
abbrev SLOT_STATE : Nat := 0x222000
abbrev SLOT_I : Nat := 0x222100
abbrev SLOT_V : Nat := 0x222200
abbrev SLOT_ENERGY : Nat := 0x222300
abbrev SLOT_CLEAR : Nat := 0x222400
abbrev HP_RATE_CEILING : Nat := 0x300000
abbrev HP_RATE_ACTIVE : Nat := 0x300100
abbrev HP_WIDTH_ACTIVE : Nat := 0x300200
abbrev HP_LINK_STATUS : Nat := 0x300300
abbrev HP_L1_IDLE : Nat := 0x300400
abbrev HP_L0P_IDLE : Nat := 0x300500
abbrev HP_POWER_CTL : Nat := 0x300600
abbrev HP_EQ_STATUS : Nat := 0x300700
abbrev SIDEBAND_IN : Nat := 0x301000
abbrev SIDEBAND_OUT : Nat := 0x301100
abbrev SLOT_SIGNALS : Nat := 0x301200
abbrev BOUGH_WIDTH : Nat := 0x310000
abbrev BOUGH_WIDTH_ACTIVE : Nat := 0x310100
abbrev BOUGH_REFCLK : Nat := 0x311000
abbrev BOUGH_REFCLK_OK : Nat := 0x311100
abbrev TP_ENABLE : Nat := 0x380000
abbrev TP_RATE_CEILING : Nat := 0x380100
abbrev TP_RATE_ACTIVE : Nat := 0x380200
abbrev TP_LINK_STATUS : Nat := 0x380300
abbrev TP_PEER : Nat := 0x380400
abbrev TP_PEER_EXPECT : Nat := 0x380500
abbrev TP_CRYPT_POLICY : Nat := 0x380600
abbrev TP_DELAY : Nat := 0x380700
abbrev TP_RETRAIN : Nat := 0x380800
abbrev TP_KEY_EPOCH : Nat := 0x380900
abbrev PART_GROVE_ID : Nat := 0x400000
abbrev PART_UPSTREAM : Nat := 0x400100
abbrev PART_STATE : Nat := 0x400200
abbrev PART_RESET_CAUSE : Nat := 0x400300
abbrev PART_RESET_COUNT : Nat := 0x400400
abbrev VDP_BIND : Nat := 0x410000
abbrev SHARED_DEV : Nat := 0x420000
abbrev SHARED_STATE : Nat := 0x420100
abbrev SHARED_RESET : Nat := 0x420200
abbrev SHARED_RID : Nat := 0x420300
abbrev EVENT_MAP : Nat := 0x440000
abbrev EVENT_SOFT : Nat := 0x441000
abbrev PART_MCAST_MAP : Nat := 0x450000
abbrev GATE_REG_ADDR : Nat := 0x500000
abbrev GATE_REG_PARTS : Nat := 0x510000
abbrev GATE_REG_RIGHTS : Nat := 0x520000
abbrev GATE_REGION_COUNT : Nat := 0x530000
abbrev GATE_SCRUB_PASS : Nat := 0x540000
abbrev WIN_MAP : Nat := 0x580000
abbrev WIN_TARGET : Nat := 0x590000
abbrev PORT_XLATE : Nat := 0x5A0000
abbrev FABRIC_BAR_SIZE : Nat := 0x5B0000
abbrev FABRIC_BAR_ACTIVE : Nat := 0x5B0100
abbrev PROT_EPOCH : Nat := 0x5F0000
abbrev PROT_DRAINED : Nat := 0x5F0001
abbrev TC_CLASS_MAP : Nat := 0x600000
abbrev BUF_MIN : Nat := 0x610000
abbrev BUF_MAX : Nat := 0x610800
abbrev EGRESS_SHAPE : Nat := 0x611000
abbrev COLOUR_METER : Nat := 0x620000
abbrev C6_PROFILE : Nat := 0x630000
abbrev MCAST_GROUP : Nat := 0x640000
abbrev BUF_SHARED_FREE : Nat := 0x650000
abbrev BUF_RESERVED_SUM : Nat := 0x650100
abbrev PART_WEIGHT : Nat := 0x660000
abbrev PART_WEIGHT_CAP : Nat := 0x660800
abbrev PART_MAX_RATE : Nat := 0x661000
abbrev PART_RATE_CAP : Nat := 0x661100
abbrev PART_BURST : Nat := 0x661200
abbrev TRUNK_SLOT : Nat := 0x680000
abbrev SHARE_PARTITION : Nat := 0x681000
abbrev CROWN_PRUNE_MASK : Nat := 0x682000
abbrev SLOT_SWAP_FT : Nat := 0x683000
abbrev SLOT_BANK : Nat := 0x683001
abbrev SLOT_MODE : Nat := 0x683002
abbrev TRUNK_SLOT_ACTIVE : Nat := 0x684000
abbrev SHARE_PARTITION_ACTIVE : Nat := 0x685000
abbrev CROWN_PRUNE_MASK_ACTIVE : Nat := 0x686000
abbrev ROUTE : Nat := 0x700000
abbrev ROUTE_HOP_LIMIT : Nat := 0x701000
abbrev ROUTE_SETTLE : Nat := 0x701001
abbrev ROUTE_REBALANCE : Nat := 0x701002
abbrev FENCE_STATE : Nat := 0x710000
abbrev FENCE_FORCE : Nat := 0x711000
abbrev NP_TIMEOUT : Nat := 0x720000
abbrev NP_TRACK_USED : Nat := 0x720100
abbrev LOCK_STATE : Nat := 0x730000
abbrev MEM_STATE : Nat := 0x800000
abbrev MEM_SWEEP_PROGRESS : Nat := 0x800001
abbrev CHAN_STATE : Nat := 0x800100
abbrev MEM_KEY_EPOCH : Nat := 0x810000
abbrev MEM_KEY_ROLL : Nat := 0x820000
abbrev MEM_SCRUB_PERIOD : Nat := 0x830000
abbrev MEM_ERROR_LOG : Nat := 0x840000
abbrev ENG_VF_MAX : Nat := 0x900000
abbrev MQ_COUNT : Nat := 0x900100
abbrev ENG_SHARE : Nat := 0x900200
abbrev ENG_STATE : Nat := 0x901000
abbrev REDUCE_CTX : Nat := 0x910000
abbrev REDUCE_ROUND : Nat := 0x910400
abbrev CNT_VALUE : Nat := 0xA00000
abbrev CNT_CTL : Nat := 0xA10000
abbrev CNT_FREEZE : Nat := 0xA18000
abbrev SNAP_VALUE : Nat := 0xA20000
abbrev SNAP_REQUEST : Nat := 0xA28000
abbrev SNAP_SEQ : Nat := 0xA28100
abbrev SNAP_FT : Nat := 0xA28101
abbrev SNAP_ID : Nat := 0xA28102
abbrev SNAP_ORIGIN : Nat := 0xA28103
abbrev SNAP_TIME : Nat := 0xA28104
abbrev FAULT_WINDOW_F2 : Nat := 0xB00000
abbrev FAULT_WINDOW_F3 : Nat := 0xB00001
abbrev F1_LIMIT : Nat := 0xB00100
abbrev VIOL_LIMIT : Nat := 0xB00101
abbrev PART_VIOL_LIMIT : Nat := 0xB00102
abbrev F2_CEILING : Nat := 0xB00103
abbrev FAULT_ACK : Nat := 0xB00200
abbrev PART_RELEASE : Nat := 0xB00300
abbrev PART_CONTAIN : Nat := 0xB00400
abbrev FAULT_STATE : Nat := 0xB01000
abbrev HIST_LOST : Nat := 0xB01100
abbrev HIST_NEXT : Nat := 0xB01200
abbrev HIST_FT : Nat := 0xB10000
abbrev HIST_ENTRY : Nat := 0xB10100
abbrev LOG_TLP : Nat := 0xB11000
abbrev INJECT_ARM : Nat := 0xB20000
abbrev DEBUG_POLICY : Nat := 0xB30000
abbrev DEBUG_PARTS : Nat := 0xB30001
abbrev TEST_MODE : Nat := 0xB30100
abbrev TIME_STATE : Nat := 0xC00000
abbrev TIME_UNCERTAINTY : Nat := 0xC00001
abbrev FT_NOW : Nat := 0xC00002
abbrev MASTER_CROWN : Nat := 0xC00003
abbrev TIME_HOPS : Nat := 0xC00004
abbrev TIME_UPSTREAM : Nat := 0xC00005
abbrev TIME_PRIORITY : Nat := 0xC01000
abbrev TIME_REF_ENABLE : Nat := 0xC01001
abbrev TIME_REF_VALID : Nat := 0xC01002
abbrev FT_FLOOR : Nat := 0xC01003
abbrev TRUNK_ASYMMETRY : Nat := 0xC02000
abbrev ACT_COUNT : Nat := 0xC10000
abbrev ACT_NEXT_FT : Nat := 0xC10001
abbrev ACT_FT : Nat := 0xC10100
abbrev ACT_STATUS : Nat := 0xC10200
abbrev JOURNAL_STATE : Nat := 0xD00000
abbrev JOURNAL_FILL : Nat := 0xD00001
abbrev JOURNAL_NEWEST : Nat := 0xD00002
abbrev JOURNAL_OLDEST : Nat := 0xD00003
abbrev JOURNAL_SET_GEN : Nat := 0xD00004
abbrev COMPACT_NOW : Nat := 0xD00005
abbrev FLASH_STATE : Nat := 0xD00100
abbrev BOOT_ACTIVE : Nat := 0xD01000
abbrev BOOT_ATTEMPTS : Nat := 0xD01001
abbrev IMAGE_VERSION : Nat := 0xD01100
abbrev IMAGE_DIGEST : Nat := 0xD01200
abbrev IMAGE_SVN_FLOOR : Nat := 0xD01300
abbrev START_OK : Nat := 0xD01400
abbrev GRAFT_STATE : Nat := 0xD02000
abbrev GRAFT_REASON : Nat := 0xD02001
abbrev GRAFT_RECEIVED : Nat := 0xD02002
abbrev GRAFT_CHUNK : Nat := 0xD02100
abbrev GRAFT_APPLY : Nat := 0xD02101
abbrev GRAFT_ACT_FT : Nat := 0xD02200
abbrev OP_KEY : Nat := 0xE00000
abbrev INST_KEY : Nat := 0xE00100
abbrev MAKER_ROOT : Nat := 0xE00200
abbrev IDENTITY_KEY : Nat := 0xE00300
abbrev IDENTITY_CERT : Nat := 0xE00301
abbrev CLAIM_STATE : Nat := 0xE00400
abbrev OP_CONSENT : Nat := 0xE01000
abbrev LINK_IDE_POLICY : Nat := 0xE02000
abbrev LINK_IDE_STATE : Nat := 0xE02100
abbrev TEST_NONCE : Nat := 0xE03000
abbrev TEST_UNLOCK : Nat := 0xE03001

end Key

end Sys2Proof.Machine
end

