-- ==== Sys2Proof/Machine/Ops.lean ====
section
/-! DEFINITION. The shared operations: keyed lists, the dictionary's store, passing time, outputs, free values, the
bytes of fabric memory, the two check codes, and access to the parts of the state by number. -/

namespace Sys2Proof.Machine

/-! ### Lists keyed by something -/

/-- The value at a key. -/
def assocGet {κ α : Type} [DecidableEq κ] (l : List (κ × α)) (k : κ) : Option α :=
  (l.find? (fun e => e.1 = k)).map (·.2)

/-- Removing a key. -/
def assocErase {κ α : Type} [DecidableEq κ] (l : List (κ × α)) (k : κ) : List (κ × α) :=
  l.filter (fun e => ¬ e.1 = k)

/-- Setting a key: the entry moves to the end. -/
def assocPut {κ α : Type} [DecidableEq κ] (l : List (κ × α)) (k : κ) (v : α) : List (κ × α) :=
  assocErase l k ++ [(k, v)]

/-- The value at a key, with a default. -/
def assocGetD {κ α : Type} [DecidableEq κ] (l : List (κ × α)) (k : κ) (d : α) : α := (assocGet l k).getD d

/-- Applying a function at a key, from a default. -/
def assocMod {κ α : Type} [DecidableEq κ] (l : List (κ × α)) (k : κ) (d : α) (f : α → α) : List (κ × α) :=
  assocPut l k (f (assocGetD l k d))

/-- Adding to a set held as a list without repeats. -/
def insertNew {α : Type} [DecidableEq α] (l : List α) (a : α) : List α := if a ∈ l then l else l ++ [a]

/-- Removing from such a set. -/
def eraseAll {α : Type} [DecidableEq α] (l : List α) (a : α) : List α := l.filter (fun b => ¬ b = a)

/-! ### Sorted sparse stores: keys strictly rising -/

/-- The value at a key of a sorted store. -/
def sortedGet {α : Type} : List (Nat × α) → Nat → Option α
  | [], _ => none
  | (k, v) :: l, a => if k = a then some v else if a < k then none else sortedGet l a

/-- Inserting or replacing in a sorted store. -/
def sortedPut {α : Type} : List (Nat × α) → Nat → α → List (Nat × α)
  | [], a, v => [(a, v)]
  | (k, w) :: l, a, v => if a < k then (a, v) :: (k, w) :: l else if a = k then (a, v) :: l else (k, w) :: sortedPut l a v

/-- Erasing from a sorted store. -/
def sortedErase {α : Type} : List (Nat × α) → Nat → List (Nat × α)
  | [], _ => []
  | (k, w) :: l, a => if k = a then l else (k, w) :: sortedErase l a

/-- Keys strictly rising. -/
def sortedKeys {α : Type} : List (Nat × α) → Bool
  | [] => true
  | [_] => true
  | a :: b :: l => a.1 < b.1 && sortedKeys (b :: l)

/-! ### The dictionary's store -/

/-- The stored value of a dictionary key: what is listed, else the entry's default (DESIGN CHOICE, log entry 159). -/
def State.get (s : State) (key : Nat) : Nat := (sortedGet s.dict key).getD (defaultOf key)

/-- Storing a value in a sparse dictionary; a default value is not listed (DESIGN CHOICE, log entry 159). -/
def dictPut (d : List (Nat × Nat)) (key v : Nat) : List (Nat × Nat) :=
  if v = defaultOf key then sortedErase d key else sortedPut d key v

/-- Storing a value at a dictionary key. -/
def State.set (s : State) (key v : Nat) : State := { s with dict := dictPut s.dict key v }

/-- The dictionary's canonical form: keys rising, no default listed. -/
def dictWf (d : List (Nat × Nat)) : Bool := sortedKeys d && d.all (fun e => e.2 ≠ defaultOf e.1)

/-! ### Passing time -/

/-- R51, R49: FT after `dt` ns of the local count. While the crown removes an offset it slews, at 1,000 ppm when it
was more than 2 µs ahead, else at 100 ppm; a master corrects an offset at a pulse at 100 ppm (R44, DESIGN CHOICE, log entry 16). Slewing
time too short for a nanosecond is kept for the next command. -/
def TimeUnit.slew (u : TimeUnit) (dt : Nat) : TimeUnit :=
  let per : Nat := if u.fast then 1000 else 10000
  let take : Nat := min u.offset.natAbs ((u.slewRem + dt) / per)
  let rem : Nat := if take = u.offset.natAbs then 0 else (u.slewRem + dt) % per
  if u.offset < 0 then { u with ft := u.ft + dt + take, offset := u.offset + take, slewRem := rem }
  else { u with ft := u.ft + dt - take, offset := u.offset - take, slewRem := rem }

/-- R44: the FT that a stretch of the local count is worth: a master with a valid reference runs at the rate of its 10 MHz input, every
other crown at that of its 25 MHz oscillator. -/
def TimeUnit.worth (u : TimeUnit) (dt : Nat) : Nat :=
  if u.mode = .master && u.refValid then (dt * u.rateNum + u.rateRem) / u.rateDen else dt

/-- What of it is left over for the next command. -/
def TimeUnit.left (u : TimeUnit) (dt : Nat) : Nat :=
  if u.mode = .master && u.refValid then (dt * u.rateNum + u.rateRem) % u.rateDen else 0

/-- FT moves on with the local count; it stands while FREE, and until the pulse at which R42 starts it. -/
def TimeUnit.advance (u : TimeUnit) (dt : Nat) : TimeUnit :=
  if u.mode = .free || !u.running then u
  else
    let d := u.worth dt
    let u := { u with rateRem := u.left dt }
    if u.mode = .acquiring || u.mode = .locked || u.mode = .master then u.slew d
    else { u with ft := u.ft + d }

/-- The crown is locked: LOCKED or MASTER (R48). -/
def State.locked (s : State) : Bool := s.time.mode = .locked || s.time.mode = .master

/-- The TIME_STATE code of R48. -/
def TimeMode.code : TimeMode → Nat
  | .free => 0
  | .acquiring => 1
  | .locked => 2
  | .holdover => 3
  | .master => 4

/-- FT as stamps carry it: zero while FREE (R48). -/
def State.stampFt (s : State) : Nat := if s.time.mode = .free then 0 else s.time.ft

/-- R46: the bound for `n` hops, 1.5 ns × n + 0.5 ns, rounded up to a whole nanosecond. -/
def hopBound (n : Nat) : Nat := (3 * n + 2) / 2

/-- R49: TIME_UNCERTAINTY. -/
def State.uncertainty (s : State) : Nat :=
  min 0xFFFFFFFF <| match s.time.mode with
    | .free => 0xFFFFFFFF
    | .master => 0
    | .locked => hopBound s.time.hops
    | .acquiring => s.time.offset.natAbs + hopBound s.time.hops
    | .holdover => s.time.holdBase + (s.now - s.time.holdSince) / 10000000

/-- A time interval has passed since an instant. -/
def State.after (s : State) (since ns : Nat) : Bool := since + ns ≤ s.now

/-- R481: the copy of the boot record with the higher sequence number. -/
def Journal.bootNow (j : Journal) : BootRecord :=
  match j.boot with
  | a :: b :: _ => if a.seqNo < b.seqNo then b else a
  | _ => { active := 0, attempts := 0, seqNo := 0 }

/-- BOOT_ACTIVE and BOOT_ATTEMPTS. -/
def Journal.bootActive (j : Journal) : Nat := j.bootNow.active
def Journal.bootAttempts (j : Journal) : Nat := j.bootNow.attempts

/-- R481: each update writes the other copy. -/
def Journal.bootWrite (j : Journal) (active attempts : Nat) : Journal :=
  let n : BootRecord := { active := active, attempts := attempts, seqNo := j.bootNow.seqNo + 1 }
  match j.boot with
  | a :: b :: _ => { j with boot := if a.seqNo < b.seqNo then [n, b] else [a, n] }
  | _ => j

/-- The local ring count of R85: it starts when the standby domain comes up. -/
def State.localCount (s : State) : Nat := s.now - s.power.standbyAt

/-- The 1 s interval that counts of R372 and R390 use: FT seconds while locked or in HOLDOVER, else the local count. -/
def State.second (s : State) : Nat :=
  if s.time.mode = .free || s.time.mode = .acquiring then s.localCount / 1000000000 else s.time.ft / 1000000000

/-! ### Outputs and free values -/

/-- Something leaves the module (DESIGN CHOICE, log entry 100). -/
def State.emit (s : State) (o : Output) : State := { s with out := s.out ++ [o] }

/-- Several things leave the module, in order. -/
def State.emitAll (s : State) (os : List Output) : State := { s with out := s.out ++ os }

/-- A free value is taken (DESIGN CHOICE, log entry 5): the counter moves on. -/
def State.drew (s : State) : State := { s with draws := s.draws + 1 }

/-! ### Parts of the state by number -/

def State.trunk (s : State) (q : Nat) : Trunk := s.trunks.getD q Trunk.reset
def State.modTrunk (s : State) (q : Nat) (f : Trunk → Trunk) : State := { s with trunks := s.trunks.modify q f }
def State.modTx (s : State) (q : Nat) (f : TrunkTx → TrunkTx) : State :=
  s.modTrunk q (fun k => { k with tx := f k.tx })
def State.modRx (s : State) (q : Nat) (f : TrunkRx → TrunkRx) : State :=
  s.modTrunk q (fun k => { k with rx := f k.rx })
def State.modTrain (s : State) (q : Nat) (f : Training → Training) : State :=
  s.modTrunk q (fun k => { k with train := f k.train })
def State.hport (s : State) (p : Nat) : HPort := s.hports.getD p HPort.reset
def State.modHPort (s : State) (p : Nat) (f : HPort → HPort) : State := { s with hports := s.hports.modify p f }
def State.lane (s : State) (n : Nat) : HLane := s.lanes.getD n HLane.reset
def State.modLane (s : State) (n : Nat) (f : HLane → HLane) : State := { s with lanes := s.lanes.modify n f }
def State.part (s : State) (p : Nat) : Part := s.parts.getD p Part.reset
def State.modPart (s : State) (p : Nat) (f : Part → Part) : State := { s with parts := s.parts.modify p f }
def State.sharedOf (s : State) (g : Nat) : Shared := s.shared.getD g Shared.reset
def State.modShared (s : State) (g : Nat) (f : Shared → Shared) : State := { s with shared := s.shared.modify g f }
def State.modCore (s : State) (f : Core → Core) : State := { s with core := f s.core }
def State.modHier (s : State) (f : Hier → Hier) : State := { s with hier := f s.hier }
def State.modTime (s : State) (f : TimeUnit → TimeUnit) : State := { s with time := f s.time }
def State.modAct (s : State) (f : Activation → Activation) : State := { s with act := f s.act }
def State.modGates (s : State) (f : Gates → Gates) : State := { s with gates := f s.gates }
def State.modFabric (s : State) (f : Fabric → Fabric) : State := { s with fabric := f s.fabric }
def State.modMem (s : State) (f : Memory → Memory) : State := { s with mem := f s.mem }
def State.modEngines (s : State) (f : Engines → Engines) : State := { s with engines := f s.engines }
def State.modFaults (s : State) (f : Faults → Faults) : State := { s with faults := f s.faults }
def State.modBocel (s : State) (f : Bocel → Bocel) : State := { s with bocel := f s.bocel }
def State.modSec (s : State) (f : Security → Security) : State := { s with sec := f s.sec }
def State.modJournal (s : State) (f : Journal → Journal) : State := { s with journal := f s.journal }
def State.modPower (s : State) (f : Power → Power) : State := { s with power := f s.power }
def State.modCounters (s : State) (f : Counters → Counters) : State := { s with counters := f s.counters }
def State.sideband (s : State) (p : Nat) : Sideband := s.fabric.sidebands.getD p Sideband.reset
def State.modSideband (s : State) (p : Nat) (f : Sideband → Sideband) : State :=
  s.modFabric (fun x => { x with sidebands := x.sidebands.modify p f })
def State.slotChan (s : State) (c : Nat) : SlotChannel := s.power.slots.getD c SlotChannel.reset
def State.modSlot (s : State) (c : Nat) (f : SlotChannel → SlotChannel) : State :=
  s.modPower (fun x => { x with slots := x.slots.modify c f })

/-- The output of an expander that a port's SIDEBAND_OUT names is driven; nothing is driven where it is not VALID (R301,
R305, R511), nor while EXTEST holds the contacts (R396). -/
def State.driveOut (s : State) (p signal : Nat) (on : Bool) : State :=
  if bitOf (s.get (Key.SIDEBAND_OUT + p)) 31 && s.faults.debugInstr ≠ .extest then s.emit (.sideband p signal on) else s
/-- PERST# of a port (R511). -/
def State.perst (s : State) (p : Nat) (on : Bool) : State :=
  (s.modSideband p (fun b => { b with perst := on })).driveOut p 0 on
/-- The slot channels mapped to a port (R508). -/
def State.channelsOf (s : State) (p : Nat) : List Nat :=
  (List.range 48).filter (fun c => let v := (sortedGet s.dict (Key.SLOT_MAP + c)).getD 0; bitOf v 15 && field v 7 0 == p)

/-- A module function of a partition. Numbers of functions: 0 is PF0, 1 to 16 the engine VFs, 17 to 24 the
message-queue functions (DESIGN CHOICE, log entry 3). -/
def Part.fn (p : Part) (f : Nat) : Function := assocGetD p.fns f Function.reset
def State.modFn (s : State) (p f : Nat) (h : Function → Function) : State :=
  s.modPart p (fun x => { x with fns := assocMod x.fns f Function.reset h })
/-- A virtual downstream port of a partition. -/
def Part.vdp (p : Part) (n : Nat) : Bridge := assocGetD p.vdps n Bridge.reset
def State.modVdp (s : State) (p n : Nat) (h : Bridge → Bridge) : State :=
  s.modPart p (fun x => { x with vdps := assocMod x.vdps n Bridge.reset h })
/-- The upstream bridge (`none`) or a VDP of a partition. -/
def Part.bridge (p : Part) : Option Nat → Bridge
  | none => p.upstream
  | some n => p.vdp n
def State.modBridge (s : State) (p : Nat) (v : Option Nat) (h : Bridge → Bridge) : State :=
  match v with
  | none => s.modPart p (fun x => { x with upstream := h x.upstream })
  | some n => s.modVdp p n h
/-- A configuration field of a bridge: what software wrote, else 0. -/
def Bridge.fld (b : Bridge) (f : CfgField) : Nat := assocGetD b.fields f 0
def Function.fld (b : Function) (f : CfgField) : Nat := assocGetD b.fields f 0

/-- R337: a module function exists: PF0, an enabled engine VF, or one of the message-queue functions. -/
def Part.fnExists (x : Part) (f : Nat) : Bool :=
  f == 0 || (1 ≤ f && f ≤ 16 && f ≤ x.vfMax && (x.fn 0).fld .vfEnable == 1 && f ≤ (x.fn 0).fld .numVfs) ||
    (17 ≤ f && f < 17 + x.mqCount)

/-- Doing something for each of a list, in order. -/
def State.each {α : Type} (s : State) (l : List α) (f : State → α → State) : State := l.foldl f s

/-- Doing something if a condition holds. -/
def State.when (s : State) (c : Bool) (f : State → State) : State := if c then f s else s

/-! ### Fabric memory's bytes -/

/-- The canonical form of fabric memory: offsets strictly rising, no byte that an unlisted offset reads as; lines strictly rising, no
module owner listed, which an unlisted line has. -/
def Memory.wf (m : Memory) : Bool :=
  (sortedKeys m.cells && m.cells.all (fun c => c.2 ≠ 0)) && (sortedKeys m.owners && m.owners.all (fun e => e.2 ≠ { gp := 0, epoch := 0 }))

/-- A byte of the pool; an unlisted one reads zero (R323) (DEDUCED, log entry 160). -/
def cellGet (l : List Host.Cell) (a : Nat) : Byte := (sortedGet l a).getD 0

/-- Writing a byte of the pool. -/
def cellPut (l : List Host.Cell) (a : Nat) (b : Byte) : List Host.Cell :=
  if b = 0 then sortedErase l a else sortedPut l a b

/-- Writing bytes from an offset on. -/
def cellsPut (l : List Host.Cell) (a : Nat) : List Byte → List Host.Cell
  | [] => l
  | b :: bs => cellsPut (cellPut l a b) (a + 1) bs

/-- Reading `n` bytes from an offset on. -/
def cellsGet (l : List Host.Cell) (a : Nat) : Nat → List Byte
  | 0 => []
  | n + 1 => cellGet l a :: cellsGet l (a + 1) n

/-- Clearing `n` bytes from an offset on. -/
def cellsClear (l : List Host.Cell) (a n : Nat) : List Host.Cell := l.filter (fun c => c.1 < a || a + n ≤ c.1)

/-! ### Check codes -/

/-- One bit of the CRC-64 of R124, most significant bit first. -/
def crc64Bit (c : BitVec 64) (b : Bool) : BitVec 64 :=
  let top := c.msb != b
  if top then (c <<< 1) ^^^ 0x42F0E1EBA9EA3693#64 else c <<< 1

/-- One byte of the CRC-64 of R124. -/
def crc64Byte (c : BitVec 64) (b : Byte) : BitVec 64 :=
  [7, 6, 5, 4, 3, 2, 1, 0].foldl (fun c i => crc64Bit c (b.getLsbD i)) c

/-- The check of R124: ECMA-182, unreflected, initial value and final XOR all ones. -/
def crc64 (bs : List Byte) : BitVec 64 := ~~~ (bs.foldl crc64Byte (BitVec.allOnes 64))

/-- One byte of CRC-32C, reflected, polynomial 0x1EDC6F41. -/
def crc32cByte (c : BitVec 32) (b : Byte) : BitVec 32 :=
  let c := c ^^^ b.setWidth 32
  [0, 1, 2, 3, 4, 5, 6, 7].foldl (fun (c : BitVec 32) _ =>
    if c.getLsbD 0 then (c >>> 1) ^^^ 0x82F63B78#32 else c >>> 1) c

/-- CRC-32C (R103, R114, R342). -/
def crc32c (bs : List Byte) : BitVec 32 := ~~~ (bs.foldl crc32cByte (BitVec.allOnes 32))

/-! ### The activation queue (R54, R59) -/

/-- Entries that wait in the queue. -/
def ActSlot.waits (a : ActSlot) : Bool := a.state = .pending || a.state = .postponed

/-- ACT_COUNT. -/
def State.actCount (s : State) : Nat := (s.act.slots.filter ActSlot.waits).length

/-- R59: the slot that a new entry takes: a free one, else the fired one that is oldest. -/
def State.actFree (s : State) : Option Nat :=
  match s.act.slots.findIdx? (fun a => a.state = .freeSlot) with
  | some n => some n
  | none =>
    let fired := s.act.slots.zipIdx.filter (fun a => !a.1.waits)
    let best := fired.foldl (fun (b : Option (ActSlot × Nat)) a =>
      match b with
      | none => some a
      | some c => if a.1.stamp < c.1.stamp then some a else some c) none
    best.map (·.2)

/-- A new entry enters the queue with the next validation number; `none` when 256 entries wait (R54). -/
def State.actPut (s : State) (ft : Nat) (kind : ActKind) (joint : Bool) (ref origin : Nat) : Option State :=
  if s.actCount ≥ 256 then none
  else match s.actFree with
    | none => none
    | some n =>
      some <| s.modAct (fun x => { x with
        slots := x.slots.set n { ft := ft, kind := kind, joint := joint, state := .pending, seq := x.nextSeq, ref := ref,
                                 origin := origin, stamp := x.stamp },
        nextSeq := x.nextSeq + 1, stamp := x.stamp + 1 })

/-- The slot of the waiting entry of a kind with a reference. -/
def State.actFind (s : State) (kind : ActKind) (ref : Nat) : Option Nat :=
  s.act.slots.findIdx? (fun a => a.waits && a.kind = kind && a.ref = ref)

/-- An entry leaves the queue. -/
def State.actDrop (s : State) (n : Nat) : State :=
  s.modAct (fun x => { x with slots := x.slots.set n ActSlot.reset })

/-- Setting the state of a slot; a fired one takes a new stamp for reuse. -/
def State.actMark (s : State) (n : Nat) (st : ActState) : State :=
  s.modAct (fun x => { x with slots := x.slots.modify n (fun a => { a with state := st, stamp := x.stamp }),
                              stamp := x.stamp + 1 })

/-- ACT_NEXT_FT. -/
def State.actNextFt (s : State) : Nat :=
  (s.act.slots.filter (fun a => a.state = .pending)).foldl (fun m a => min m a.ft) 0xFFFFFFFFFFFFFFFF

/-- A 16-bit number is newer than another, modulo 2¹⁶ (R39, R286). -/
def newer16 (a b : Seq16) : Bool := a ≠ b && (a - b).toNat < 0x8000

end Sys2Proof.Machine
end

