-- ==== Sys2Proof/Machine/Operands.lean ====
section
/-! DEFINITION. Numbers of units, ports and partitions and what they stand for (R10 to R14, R198 to R212, R550), and
the role fields of requests (R438). -/

namespace Sys2Proof.Machine

/-! ### Numbering (R10) -/

/-- The stem of a module twig. -/
def stemOf (g : Nat) : Nat := g / 40
/-- The twig within its stem. -/
def twigIn (g : Nat) : Nat := g % 40
/-- The module bough of a twig. -/
def boughOf (g : Nat) : Nat := g / 4
/-- The module limb of a twig: boughs 0 to 4 of a stem are limb 0. -/
def limbOf (g : Nat) : Nat := 2 * (g / 40) + (if g % 40 < 20 then 0 else 1)
/-- The module limb of a bough. -/
def limbOfBough (b : Nat) : Nat := 2 * (b / 10) + (if b % 10 < 5 then 0 else 1)
/-- T-twigs are twigs 36 to 39 of a stem. -/
def isT (g : Nat) : Bool := 36 ≤ g % 40
/-- The T-bough of a stem is bough 9. -/
def isTBough (b : Nat) : Bool := b % 10 == 9
/-- The module twig of a host port. -/
def gOfPort (p : Nat) : Nat := 40 * (p / 36) + p % 36
/-- The host port named after a module H-twig. -/
def portOfG (g : Nat) : Nat := 36 * (g / 40) + g % 40
/-- The module twig of a trunk. -/
def gOfTrunk (q : Nat) : Nat := 40 * (q / 4) + 36 + q % 4
/-- The trunk of a module T-twig. -/
def trunkOfG (g : Nat) : Nat := 4 * (g / 40) + (g % 40 - 36)
/-- The limb that holds a trunk (R11). -/
def limbOfTrunk (q : Nat) : Nat := 2 * (q / 4) + 1

end Sys2Proof.Machine

namespace Sys2Proof

open Machine

/-- Whether a unit's scope holds a module twig (R19). -/
def UnitId.holds : UnitId → Nat → Bool
  | .twig g, h => g == h
  | .bough b, h => b == boughOf h
  | .limb l, h => l == limbOf h
  | .die d, h => d == stemOf h
  | .crown, _ => true

/-- The module twigs in a unit's scope. -/
def UnitId.twigs (u : UnitId) : List Nat := (List.range 160).filter u.holds

/-- The size of a unit: 0 twig to 4 crown. -/
def UnitId.rank : UnitId → Nat
  | .twig _ => 0
  | .bough _ => 1
  | .limb _ => 2
  | .die _ => 3
  | .crown => 4

/-- A twig inside the unit, to compare scopes by. -/
def UnitId.first : UnitId → Nat
  | .twig g => g
  | .bough b => 4 * b
  | .limb l => 40 * (l / 2) + 20 * (l % 2)
  | .die d => 40 * d
  | .crown => 0

/-- One unit lies inside another or is it. -/
def UnitId.inside (u v : UnitId) : Bool := u.rank ≤ v.rank && v.holds u.first

/-- The next unit up (R383): twig, bough, limb, die, crown. The heartwood is no stem. -/
def UnitId.up : UnitId → UnitId
  | .twig g => .bough (boughOf g)
  | .bough b => .limb (limbOfBough b)
  | .limb l => .die (l / 2)
  | .die _ => .crown
  | .crown => .crown

/-- ACTION codes 0x1 to 0x4 and 0x7 of R377 by unit. -/
def UnitId.action : UnitId → Nat
  | .twig _ => 1
  | .bough _ => 2
  | .limb _ => 3
  | .die _ => 4
  | .crown => 7

/-- LEVEL codes of R388 by unit. -/
def UnitId.level : UnitId → Nat
  | .twig _ => 0
  | .bough _ => 1
  | .limb _ => 2
  | .die _ => 3
  | .crown => 4

end Sys2Proof

namespace Sys2Proof.Machine

/-! ### Event sources (R216) -/

def srcTwig (g k : Nat) : Nat := 16 * g + k
def srcBough (b k : Nat) : Nat := 0xA00 + 4 * b + k
def srcLimb (l k : Nat) : Nat := 0xAA0 + 8 * l + k
def srcStem (d k : Nat) : Nat := 0xAE0 + 8 * d + k
def srcEngine (e k : Nat) : Nat := 0xB00 + 4 * e + k

/-- The unit whose block holds a source: twig, bough, limb or stem sources name one. -/
def unitOfSource (src : Nat) : Option UnitId :=
  if src < 0xA00 then some (.twig (src / 16))
  else if src < 0xAA0 then some (.bough ((src - 0xA00) / 4))
  else if src < 0xAE0 then some (.limb ((src - 0xAA0) / 8))
  else if src < 0xB00 then some (.die ((src - 0xAE0) / 8))
  else none

/-! ### Ports (R13) -/

/-- The lowest twig, within its bough, of the port that holds twig `k` under a width code. -/
def portLow (code k : Nat) : Nat :=
  match code with
  | 1 => if k < 2 then 0 else k
  | 2 => if 2 ≤ k then 2 else k
  | 3 => if k < 2 then 0 else 2
  | 4 => 0
  | _ => k

/-- The twigs of that port. -/
def portSpan (code k : Nat) : Nat :=
  match code with
  | 1 => if k < 2 then 2 else 1
  | 2 => if 2 ≤ k then 2 else 1
  | 3 => 2
  | 4 => 4
  | _ => 1

/-- The width code in force for a bough: BOUGH_WIDTH_ACTIVE; a T-bough forms four x4 ports (R14). -/
def State.widthCode (s : State) (b : Nat) : Nat := if isTBough b then 0 else s.hier.widthActive.getD b 0

/-- The lowest-numbered module twig of the port that holds twig `g`. -/
def State.portLowG (s : State) (g : Nat) : Nat := 4 * boughOf g + portLow (s.widthCode (boughOf g)) (g % 4)

/-- The number of twigs of that port. -/
def State.portTwigs (s : State) (g : Nat) : Nat := portSpan (s.widthCode (boughOf g)) (g % 4)

/-- A twig names a port when it is the port's lowest (R13). -/
def State.namesPort (s : State) (g : Nat) : Bool := s.portLowG g == g

/-- The module twigs of the port whose lowest twig is `g`. -/
def State.portMembers (s : State) (g : Nat) : List Nat := (List.range (s.portTwigs g)).map (g + ·)

/-- The lowest-numbered twig's port number of the port of host port name `p`. -/
def State.portName (s : State) (p : Nat) : Nat := portOfG (s.portLowG (gOfPort p))

/-! ### Which units run (R36, R377) -/

/-- The limb of a twig runs. -/
def State.limbRuns (s : State) (l : Nat) : Bool :=
  s.hier.limbs.getD l .running = .running && s.hier.dies.getD (l / 2) .running = .running

/-- A limb is power-gated. -/
def State.limbGated (s : State) (l : Nat) : Bool := s.hier.limbs.getD l .running = .gated

/-- A twig is contained, by its own or a larger containment. -/
def State.twigContained (s : State) (g : Nat) : Bool := s.hier.contained.any (fun u => u.holds g)

/-- A twig lies in a reset in progress. -/
def State.twigInReset (s : State) (g : Nat) : Bool := s.hier.resets.any (fun u => u.holds g)

/-- A twig is offline: contained, in a limb or die that does not run. -/
def State.twigOffline (s : State) (g : Nat) : Bool := s.twigContained g || !s.limbRuns (limbOf g)

/-! ### Partitions and bindings (R198 to R200, R208, R550) -/

/-- The crown's own ID; 0xFFFF unassigned (R25). -/
def State.crownId (s : State) : Nat := s.get Key.CROWN_ID

/-- PART_GROVE_ID. -/
def State.groveId (s : State) (p : Nat) : Nat := s.get (Key.PART_GROVE_ID + p)

/-- A partition is in use (R198). -/
def State.partUsed (s : State) (p : Nat) : Bool := s.groveId p ≠ 0xFFFF

/-- The crown partition that holds a grove partition. -/
def State.partOfGp (s : State) (gp : Nat) : Option Nat := (List.range 64).find? (fun p => s.groveId p == gp)

/-- PART_UPSTREAM. -/
def State.upstreamOf (s : State) (p : Nat) : Nat := s.get (Key.PART_UPSTREAM + p)

/-- The home crown of a partition; `none` for transit only (R200). -/
def State.homeCrown (s : State) (p : Nat) : Option Nat :=
  if s.upstreamOf p = 0xFFFFFFFF then none else some (field (s.upstreamOf p) 25 16)

/-- This crown is the partition's home. -/
def State.isHome (s : State) (p : Nat) : Bool := s.partUsed p && s.homeCrown p = some s.crownId

/-- The virtual upstream port's twig, on the home crown. -/
def State.upTwig (s : State) (p : Nat) : Option Nat :=
  if s.isHome p then some (field (s.upstreamOf p) 7 0) else none

/-- A VDP_BIND value's fields (R208). -/
structure Binding where
  kind : Nat
  crown : Nat
  twig : Nat
  fnFirst : Nat
  fnCount : Nat
  deriving DecidableEq, Repr

def Binding.ofNat (v : Nat) : Binding :=
  { kind := field v 63 62, crown := field v 61 52, twig := field v 51 44, fnFirst := field v 43 28,
    fnCount := field v 27 20 }

/-- The binding of a VDP. -/
def State.bind (s : State) (p n : Nat) : Binding := Binding.ofNat (s.get (Key.VDP_BIND + 256 * p + n))

/-- Every VDP that is bound: partition, VDP and binding. -/
def State.binds (s : State) : List (Nat × Nat × Binding) :=
  s.dict.filterMap (fun e =>
    if Key.VDP_BIND ≤ e.1 && e.1 < Key.VDP_BIND + 0x4000 && Binding.kind (Binding.ofNat e.2) ≠ 0 then
      some ((e.1 - Key.VDP_BIND) / 256, e.1 % 256, Binding.ofNat e.2) else none)

/-- The VDPs bound to a twig of this crown. -/
def State.bindsOf (s : State) (g : Nat) : List (Nat × Nat × Binding) :=
  s.binds.filter (fun b => b.2.2.crown == s.crownId && b.2.2.twig == g)

/-- SHARED_DEV marks a twig shared. -/
def State.isShared (s : State) (g : Nat) : Bool := bitOf (s.get (Key.SHARED_DEV + g)) 31

/-- A partition holds a twig whole (R550): the port that contains it is bound whole, or is its upstream port. -/
def State.holdsWhole (s : State) (p g : Nat) : Bool :=
  let low := s.portLowG g
  !s.isShared low &&
    ((s.bindsOf low).any (fun b => b.1 == p && b.2.2.kind == 1) ||
      (match s.upTwig p with | some u => s.portLowG u == low | none => false))

/-- The partition whose upstream port a twig's port is. -/
def State.upstreamPart (s : State) (g : Nat) : Option Nat :=
  (List.range 64).find? (fun p => match s.upTwig p with | some u => s.portLowG u == s.portLowG g | none => false)

/-- The partition and VDP that hold a twig's port whole. -/
def State.wholeVdp (s : State) (g : Nat) : Option (Nat × Nat) :=
  ((s.bindsOf (s.portLowG g)).find? (fun b => b.2.2.kind == 1)).map (fun b => (b.1, b.2.1))

/-- The slices on a shared twig: partition, VDP and binding. -/
def State.slicesOf (s : State) (g : Nat) : List (Nat × Nat × Binding) :=
  (s.bindsOf (s.portLowG g)).filter (fun b => b.2.2.kind == 2)

/-- The holders of a shared twig: each crown partition with a slice on it (R229). -/
def State.holdersOf (s : State) (g : Nat) : List Nat :=
  (s.slicesOf g).foldl (fun l b => insertNew l b.1) []

/-- The slice whose functions hold a physical routing ID (R212). -/
def State.sliceOfRid (s : State) (g rid : Nat) : Option (Nat × Nat × Binding) :=
  (s.slicesOf g).find? (fun b => b.2.2.fnFirst ≤ rid && rid ≤ b.2.2.fnFirst + b.2.2.fnCount)

/-! ### Roles (R438) -/

end Sys2Proof.Machine

namespace Sys2Proof

open Machine

/-- The slot of an operator. -/
def Role.operatorOf : Role → Option Nat
  | .operator n => some n
  | _ => none

/-- An installer makes the request. -/
def Role.isInstaller : Role → Bool
  | .installer _ => true
  | _ => false

/-- The KEY_ID of a role's key (R420): the role's digit and the slot; 0 for nobody. -/
def Role.keyId : Role → Nat
  | .anonymous => 0
  | .operator n => 0x1000 + n
  | .installer n => 0x2000 + n
  | .maker n => 0x3000 + n

end Sys2Proof

namespace Sys2Proof.Machine

/-- The role and slot that a KEY_ID names. -/
def roleOfKey (k : Nat) : Role :=
  match k / 0x1000 with
  | 1 => .operator (k % 0x1000)
  | 2 => .installer (k % 0x1000)
  | 3 => .maker (k % 0x1000)
  | _ => .anonymous

end Sys2Proof.Machine
end

