-- ==== Sys2Proof/Machine/Flags.lean ====
section
/-! DEFINITION. The flags of the block: counters (R522 to R528), delivery of events to vectors, event queues and
installer notifications (R216 to R221, R362, R429), and the history queue (R372, R387, R388). -/

namespace Sys2Proof.Machine

/-- The `n` bytes that spell `v`, byte 0 least significant, as host memory holds them (PRESUMED, log entry 8). -/
def leBytes (n v : Nat) : List Byte := (beBytes n v).reverse

/-! ### Installer notifications (R221, R429) -/

/-- Every queued notification goes to every subscribed session, in queue order; with none, the queue holds. -/
def State.drainNotes (s : State) : State :=
  let subs := s.bocel.sessions.filter (·.subscribed)
  if subs.isEmpty then s
  else
    let outs := s.bocel.notes.flatMap (fun n => subs.map (fun x => Output.notify x.id n.source n.code n.cls n.ft n.seq))
    { s.emitAll outs with bocel := { s.bocel with
      notes := [],
      sessions := s.bocel.sessions.map (fun x => if x.subscribed then { x with outSeq := x.outSeq + s.bocel.notes.length } else x) } }

/-- How many NOTIFYs a drain would send. -/
def State.notesToSend (s : State) : Nat :=
  s.bocel.notes.length * (s.bocel.sessions.filter (·.subscribed)).length

/-- A notification enters the queue; with 256 queued the oldest is dropped and NOTIFY_LOST advances (DESIGN CHOICE, log entry 54). -/
def State.pushNote (s : State) (src code cls : Nat) : State :=
  let seq := s.bocel.noteSeq + 1
  let note : Note := { source := src, code := code, cls := cls, ft := s.stampFt, seq := seq }
  let full : Bool := s.bocel.notes.length ≥ 256
  s.modBocel (fun b => { b with
    noteSeq := seq,
    notes := (if full then b.notes.drop 1 else b.notes) ++ [note],
    notesLost := if full then b.notesLost + 1 else b.notesLost })

/-! ### Delivery to a partition (R218, R220, R362) -/

/-- PF0's event queue takes a record: 32 bytes, PHASE alternating with each pass; a full queue counts the loss. A function whose Bus
Master Enable is clear issues no write (R363) (PRESUMED, log entry 55) (DEDUCED, log entry 58). -/
def State.evqRecord (s : State) (p src code cls ft : Nat) : State :=
  let q := (s.part p).evq
  let size := 2 ^ q.log2Size
  if q.log2Size < 8 || 16 < q.log2Size || !((s.part p).fn 0).busMaster || ((s.part p).fn 0).fld .powerState ≠ 0 then s
  else if (q.tail + 1) % size = q.head % size then
    s.modPart p (fun x => { x with evq := { x.evq with overflow := x.evq.overflow + 1 } })
  else
    let phase := if q.tail / size % 2 = 0 then 1 else 0
    let rec_ := leBytes 2 src ++ leBytes 2 code ++ leBytes 1 cls ++ leBytes 1 phase ++ leBytes 2 0 ++ leBytes 8 ft ++
      leBytes 16 0
    (s.emit (.eventWrite p (q.base + 32 * (q.tail % size)) rec_)).modPart p (fun x =>
      { x with evq := { x.evq with tail := (q.tail + 1) % (2 * size) } })

/-- An MSI-X message of a function, or its pending bit while the vector is masked or MSI-X is disabled (R220) (PRESUMED, log entry 55). -/
def State.vector (s : State) (p f vec : Nat) : State :=
  let fn := (s.part p).fn f
  if fn.msixEnable && fn.busMaster && vec ∈ fn.unmasked then s.emit (.msix p f vec)
  else s.modFn p f (fun x => { x with pendingVecs := insertNew x.pendingVecs vec })

/-- An event reaches the home partition: discarded from step 4 of R225 until MSI-X Enable is set again; else its event
queue record, then its message. -/
def State.deliverHome (s : State) (p vec src code cls ft : Nat) : State :=
  if (s.part p).discardEvents then s
  else ((s.evqRecord p src code cls ft).vector p 0 vec)

/-- TO_PART: nothing while UNUSED; the home partition; else the home crown, under R215. -/
def State.deliverPart (s : State) (p vec src code cls ft : Nat) : State :=
  if !s.partUsed p then s
  else if s.isHome p then s.deliverHome p vec src code cls ft
  else match s.homeCrown p with
    | none => s
    | some c => s.emit (.signal c (s.groveId p) "event" [src, code, cls, ft, vec])

/-- One event through its EVENT_MAP entry (R218), with a function that counts the NOTIFYs sent. NOTIFY_OVERFLOW follows
a dropped notification at most once per 1 s (R437). -/
def State.deliverWith (cnt : State → Nat → State) (s : State) (src code cls : Nat) : State :=
  let m := s.get (Key.EVENT_MAP + src)
  let s1 :=
    if bitOf m 30 then
      let full : Bool := s.bocel.notes.length ≥ 256
      let a := s.pushNote src code cls
      let due : Bool := full && (match s.bocel.overflowAt with | none => true | some t => s.after t 1000000000)
      let m2 := s.get (Key.EVENT_MAP + 0xC14)
      let b := if due then
          let x := a.modBocel (fun b => { b with overflowAt := some a.now })
          let y := if bitOf m2 30 then x.pushNote 0xC14 0 0 else x
          if bitOf m2 31 then y.deliverPart (field m2 29 24) (field m2 22 12) 0xC14 0 0 y.stampFt else y
        else a
      let n := b.notesToSend
      cnt b.drainNotes n
    else s
  if bitOf m 31 then s1.deliverPart (field m 29 24) (field m 22 12) src code cls s1.stampFt else s1

/-! ### Counters (R522 to R529) -/

/-- R523: the freeze group of a counter. -/
def counterGroup (n : Nat) : Nat :=
  if n < 2560 then limbOf (n / 16)
  else if n < 2880 then limbOfBough ((n - 2560) / 8)
  else if n < 3008 then (n - 2880) / 16
  else if n < 3072 then 8 + (n - 3008) / 16
  else 12

/-- R22: the limb whose power-gating holds a counter at zero. -/
def counterLimb (n : Nat) : Option Nat := if n < 3008 then some (counterGroup n) else none

/-- R528: the source of CNT_OVERFLOW of a counter. -/
def counterSource (n : Nat) : Nat :=
  if n < 2560 then srcTwig (n / 16) 14
  else if n < 2880 then 0xC1B
  else if n < 3008 then srcLimb ((n - 2880) / 16) 6
  else if n < 3072 then srcStem ((n - 3008) / 16) 6
  else 0xC1B

/-- A counter counts: enabled, its group running, its limb powered. -/
def State.counting (s : State) (n : Nat) : Bool :=
  bitOf (s.get (Key.CNT_CTL + n)) 31 && !s.counters.freeze.getLsbD (counterGroup n) &&
    (match counterLimb n with | some l => !s.limbGated l | none => true)

/-- The value of a counter. -/
def State.counter (s : State) (n : Nat) : Counter := (sortedGet s.counters.values n).getD { value := 0, ovf := false }

/-- Storing a counter; a zero counter is not listed. -/
def State.setCounter (s : State) (n : Nat) (c : Counter) : State :=
  s.modCounters (fun x => { x with
    values := if c.value = 0 && !c.ovf then sortedErase x.values n else sortedPut x.values n c })

/-- R527: an increment, modulo 2⁴⁸; a carry sets OVF. -/
def State.addCounter (s : State) (n amt : Nat) : State :=
  let c := s.counter n
  let sum := c.value.toNat + amt
  s.setCounter n { value := BitVec.ofNat 48 sum, ovf := c.ovf || decide (2 ^ 48 ≤ sum) }

/-- Counters of a unit, from `base` on, that select an event number, add an amount; wraps raise nothing here. -/
def State.countQuiet (s : State) (base per ev amt : Nat) : State :=
  s.each ((List.range per).map (base + ·)) (fun s n =>
    if field (s.get (Key.CNT_CTL + n)) 9 0 = ev && s.counting n then s.addCounter n amt else s)

/-- The NOTIFYs sent under a counter's own overflow event count without a further event (DESIGN CHOICE, log entry 12). -/
def State.deliverQuiet (s : State) (src code cls : Nat) : State :=
  s.deliverWith (fun s n => s.countQuiet 3072 64 0x3C6 n) src code cls

/-- R528: a wrap raises CNT_OVERFLOW when OVF_EVT is 1, at most once per 1 ms per counter. -/
def State.overflowEvent (s : State) (n : Nat) : State :=
  let due := match assocGet s.counters.ovfRaised n with
    | none => true
    | some t => s.after t 1000000
  if bitOf (s.get (Key.CNT_CTL + n)) 29 && due then
    (s.modCounters (fun x => { x with ovfRaised := assocPut x.ovfRaised n s.now })).deliverQuiet (counterSource n) n 0
  else s

/-- One counter adds an amount, and raises its event when it wraps. -/
def State.addCounterEv (s : State) (n amt : Nat) : State :=
  let wraps := decide (2 ^ 48 ≤ (s.counter n).value.toNat + amt)
  let s' := s.addCounter n amt
  if wraps then s'.overflowEvent n else s'

/-- Counters of a unit, from `base` on, that select an event number, add an amount. -/
def State.countFrom (s : State) (base per ev amt : Nat) : State :=
  s.each ((List.range per).map (base + ·)) (fun s n =>
    if field (s.get (Key.CNT_CTL + n)) 9 0 = ev && s.counting n then s.addCounterEv n amt else s)

/-- Counting on a twig, a bough, a limb, a stem and the heartwood (R522) (DEDUCED, log entry 66). -/
def State.countTwig (s : State) (g ev amt : Nat) : State := s.countFrom (16 * g) 16 ev amt
def State.countBough (s : State) (b ev amt : Nat) : State := s.countFrom (2560 + 8 * b) 8 ev amt
/-- DEDUCED, log entry 66. -/
def State.countLimb (s : State) (l ev amt : Nat) : State := s.countFrom (2880 + 16 * l) 16 ev amt
def State.countStem (s : State) (d ev amt : Nat) : State := s.countFrom (3008 + 16 * d) 16 ev amt
def State.countHeart (s : State) (ev amt : Nat) : State := s.countFrom 3072 64 ev amt

/-- One event through its EVENT_MAP entry. -/
def State.deliver (s : State) (src code cls : Nat) : State :=
  s.deliverWith (fun s n => s.countHeart 0x3C6 n) src code cls

/-! ### The history queue (R381, R387, R388) -/

/-- An event as a collector records it. -/
structure Ev where
  src : Nat
  code : Nat
  cls : Nat
  level : Nat
  unit : Option UnitId
  part : Option Nat
  action : Nat
  inj : Bool
  deriving DecidableEq, Repr

/-- An event of a source with its own level: that of its block, report only. -/
def Ev.plain (src code cls : Nat) : Ev :=
  { src := src, code := code, cls := cls,
    level := (match unitOfSource src with | some u => u.level | none => 6),
    unit := unitOfSource src, part := none, action := 0, inj := false }

/-- R387: a full queue gives up its oldest F1 entry, else its oldest. -/
def histMake (l : List HistEntry) : List HistEntry :=
  if l.length < 64 then l
  else match l.findIdx? (fun h => h.cls = 1) with
    | some n => l.eraseIdx n
    | none => l.drop 1

/-- The code that an entry records: for LEVEL partition or slice, the crown partition (R388). -/
def Ev.histCode (e : Ev) : Nat :=
  if e.level = 5 || e.level = 7 then e.part.getD 0 else e.code % 65536

/-- R381: the window that an entry opens. -/
def State.windowOf (s : State) (e : Ev) : Option Nat :=
  if e.level = 5 || e.level = 7 then none
  else if e.cls = 2 then some (s.now + 1000 * s.get Key.FAULT_WINDOW_F2)
  else if e.cls = 3 then some (s.now + 1000 * s.get Key.FAULT_WINDOW_F3)
  else none

/-- R387: an event of class F1 to F4 enters the history; while the queue is frozen HIST_LOST counts it. -/
def State.history (s : State) (e : Ev) : State :=
  if e.cls = 0 then s
  else if s.faults.frozen then s.modFaults (fun f => { f with lost := f.lost + 1 })
  else
    let w := s.windowOf e
    let ent : HistEntry := { ft := s.stampFt, inj := e.inj, seq := s.faults.nextSeq, cls := e.cls, level := e.level,
                             unit := e.unit, source := e.src, action := e.action, code := e.histCode, window := w }
    (s.modFaults (fun f => { f with history := histMake f.history ++ [ent], nextSeq := f.nextSeq + 1 })).countHeart 0x3B0 1

/-- R372: an interval of F1 counts begins at each whole second. -/
def State.f1Roll (s : State) : State :=
  if s.faults.f1Second = s.second then s
  else s.modFaults (fun f => { f with f1Second := s.second, f1Counts := [], stormed := [] })

/-- R390: an interval of the counts of violations begins at each whole second. -/
def State.violRoll (s : State) : State :=
  if s.faults.violSecond = s.second then s
  else s.modFaults (fun f => { f with violSecond := s.second, violCounts := [], violDone := [] })

/-- R372: an F1 event that no injection caused counts against its source. -/
def State.f1Count (s : State) (e : Ev) : State :=
  if e.cls = 1 && !e.inj then
    let s := s.f1Roll
    s.modFaults (fun f => { f with f1Counts := assocMod f.f1Counts e.src 0 (· + 1) })
  else s

/-- R384, R385: an F3 or F4 event makes the crown-wide steps due. -/
def State.markDue (s : State) (e : Ev) : State :=
  if 3 ≤ e.cls then s.modFaults (fun f => { f with due := max f.due e.cls }) else s

/-- An event is recorded, counted and delivered; a storm and the steps of F3 and F4 follow at the command's end
(`State.settle`). -/
def State.note (s : State) (e : Ev) : State :=
  (((s.history e).f1Count e).markDue e).deliver e.src (e.code % 65536) e.cls

/-- An event with the level of its source and no containment. -/
def State.noteAt (s : State) (src code cls : Nat) : State := s.note (Ev.plain src code cls)

/-- An event for which the manual gives no code: the code is a free value of the source (DEDUCED, log entry 21). -/
def State.noteFree (s : State) (src cls : Nat) : State := s.noteAt src (Config.eventCode src) cls

end Sys2Proof.Machine
end

