-- ==== Sys2Proof/Machine/Descriptors.lean ====
section
/-! DEFINITION. Descriptors (R159), header slots and carrier headers as bits (R288, R389), cells and their tags (R158), and what a
descriptor says of itself. -/

namespace Sys2Proof.Machine

/-! ### Encodings -/

/-- RCLASS codes of R288. -/
def rclassCode : RClass → Nat
  | .host => 0
  | .device => 1
  | .engine => 2
  | .func => 3
  | .fwuser => 4
  | .fw => 5
  | .debug => 6

/-- The requester class that a code names. -/
def rclassOf : Nat → Option RClass
  | 0 => some .host
  | 1 => some .device
  | 2 => some .engine
  | 3 => some .func
  | 4 => some .fwuser
  | 5 => some .fw
  | 6 => some .debug
  | _ => none

/-- The carrier of a request that never crossed a trunk: all zero. -/
def Carrier.zero : Carrier :=
  { ckind := 0, mcast := false, lock := false, rclass := 0, tkind := 0, select := 0, faddr := 0, mcgroup := 0, track := 0,
    reservedOk := true }

/-- The carrier header's 32 bytes (R288). -/
def carrierBytes (c : Carrier) : List Byte :=
  [BitVec.ofNat 8 (c.ckind * 64 + c.mcast.toNat * 32 + c.lock.toNat * 16), BitVec.ofNat 8 c.rclass, BitVec.ofNat 8 c.tkind, 0] ++
  beBytes 4 c.select ++ beBytes 8 c.faddr ++ beBytes 2 c.mcgroup ++ beBytes 2 c.track ++ List.replicate 12 0

/-- Bytes cut or padded with zeros to a length. -/
def padTo (n : Nat) (bs : List Byte) : List Byte := (bs ++ List.replicate n 0).take n

/-- The datagram header's 32 bytes (R359). -/
def datagramHeader (d : Datagram) : List Byte :=
  padTo 32 (beBytes 2 d.dstCrown ++ beBytes 1 d.dstFn ++ beBytes 1 d.dstQueue ++ beBytes 2 d.srcCrown ++ beBytes 1 d.srcFn ++
    beBytes 1 d.srcQueue ++ beBytes 2 d.len ++ beBytes 1 d.cong)

/-- The bytes of a trunk message (R121). -/
def msgBytes : Msg → List Byte
  | .tlp c x => carrierBytes c ++ Config.tlpHeader x ++ x.data
  | .datagram d => datagramHeader d ++ d.payload
  | .engine e => Config.engineHeader e ++ e.data

/-- The 64-byte header slot as a number: carrier header and TLP header for trunk traffic (R389). -/
def headerSlot (viaTrunk : Bool) : Msg → Nat
  | .tlp c x => beNat (padTo 64 ((if viaTrunk then carrierBytes c else []) ++ Config.tlpHeader x))
  | .datagram d => beNat (padTo 64 (datagramHeader d))
  | .engine e => beNat (padTo 64 (Config.engineHeader e))

/-- The stem of an egress number. -/
def egressStem (e : Nat) : Nat := if e < 160 then stemOf e else e - 160

/-- R158: the cell that holds part `k` of a descriptor's data; the members of a multicast write share a stem's cells. Which cells a TLP takes
is a free value. -/
def Desc.cell (d : Desc) (k : Nat) : BitVec 18 := Config.cell (d.mcast.getD d.id) (egressStem d.egress) k

/-- The descriptor's 128 bits (R159). -/
def Desc.bits (d : Desc) : Nat :=
  let f := fun (v w lo : Nat) => v % 2 ^ w * 2 ^ lo
  f (if d.cells = 0 then 0 else (d.cell 0).toNat) 18 110 + f d.cells 6 104 + f d.cls 3 101 + f d.kind 2 99 + f d.ro.toNat 1 98 +
    f d.ido.toNat 1 97 + f d.ns.toNat 1 96 + f d.mcast.isSome.toNat 1 95 + f d.cut.toNat 1 94 + f d.colour 2 92 +
    f d.mark.toNat 1 91 + f d.poison.toNat 1 90 + f d.part 6 84 + f d.src 8 76 + f d.reqId 16 60 + f d.len 14 46 +
    f d.order.toNat 32 14 + f d.destCrown 10 4

/-! ### What a descriptor says -/

/-- KIND codes of R159 from a TLP: posted, non-posted, completion, datagram or engine message. -/
def tlpKindCode : TlpKind → Nat
  | .memWrite | .message | .vdmMirath | .unlock => 0
  | .memRead | .memReadLocked | .fetchAdd | .swap | .cas | .ioRequest | .config => 1
  | .completion => 2
  | .datagram | .engine => 3

/-- The TLP of a message, if it is one. -/
def msgTlp : Msg → Option (Carrier × Tlp)
  | .tlp c x => some (c, x)
  | _ => none

/-- The flow-control type of a KIND: engine and datagram messages count as posted. -/
def fcOf (kind : Nat) : Nat := if kind = 1 then 1 else if kind = 2 then 2 else 0

/-- Data bytes of a message. -/
def msgData : Msg → Nat
  | .tlp _ x => x.data.length
  | .datagram d => d.payload.length
  | .engine e => e.data.length

/-- A non-posted request that carries data. -/
def npWithData : TlpKind → Bool
  | .fetchAdd | .swap | .cas => true
  | _ => false

/-- R166: the ordering table lets a completion with RO, and a non-posted request with data and RO, pass a posted TLP of its source; it lets
no read pass, and IDO acts only between different IDs, which are different sources. Which cells of the table the specification fills so is
taken from it (PRESUMED, log entry 183). -/
def Desc.passes (d : Desc) : Bool :=
  d.ro && (d.kind = 2 || (match msgTlp d.msg with | some (_, x) => npWithData x.kind || !x.data.isEmpty | none => false))

/-- R391 row 0x07: what the completions of a request must match. A read's data may come in parts; an AtomicOp answers its operand's bytes,
any other request has a byte count of four; a configuration request names its completer (PRESUMED, log entry 188). -/
def tlpWant (x : Tlp) : Expect :=
  match x.kind with
  | .memRead | .memReadLocked => { left := x.lenBytes, lower := x.addr % 128, parts := true, completer := none }
  | .fetchAdd | .swap => { left := x.data.length, lower := 0, parts := false, completer := none }
  | .cas => { left := x.data.length / 2, lower := 0, parts := false, completer := none }
  | .config => { left := 4, lower := 0, parts := false, completer := some (x.addr % 65536) }
  | _ => { left := 4, lower := 0, parts := false, completer := none }

/-- A completion passes the match checks: completer ID; where it is successful, length, byte count and lower address. -/
def Expect.meets (e : Expect) (x : Tlp) : Bool :=
  e.completer.all (· == x.completer) &&
    (x.status ≠ .successful || (x.lenBytes == e.left && x.addr % 128 == e.lower && x.data.length ≤ e.left &&
      (!e.parts || 1 ≤ x.data.length)))

/-- The last completion of its request: not successful, or with all the bytes that are still to come. -/
def lastCpl (x : Tlp) : Bool := x.status ≠ .successful || x.data.isEmpty || x.lenBytes ≤ x.data.length

/-- What the next completion must match. -/
def Expect.after (e : Expect) (x : Tlp) : Expect :=
  { e with left := e.left - x.data.length, lower := (e.lower + x.data.length) % 128 }

/-- The units a TLP or datagram is charged. -/
def Desc.charge (d : Desc) : Nat := max d.cells 1

end Sys2Proof.Machine
end

