-- ==== Sys2Proof/Machine/Queues.lean ====
section
/-! DEFINITION. Buffers, and what happens to them when a unit or a partition stops: occupancy and the shared pool (R168), enqueueing (R158,
R159), freeing (R187), routing (R277 to R281), far-failure notices (R293), and the rings of module functions when they stop (R346, R363,
R364). -/

namespace Sys2Proof.Machine

/-! ### Occupancy (R157, R168, R182) -/

/-- The units of a queue: those of its descriptors, and those that are being freed (R168, R187). -/
def State.units (s : State) (egress cls : Nat) (own : Bool) : Nat :=
  ((s.core.queues.filter (fun d => d.egress == egress && d.cls == cls && !(own && d.mcast.isSome))).map Desc.charge).sum +
    ((s.core.freeing.filter (fun f => f.egress == egress && f.cls == cls && !(own && f.mcast))).map (·.units)).sum

/-- The occupancy of an egress queue. -/
def State.occ (s : State) (egress cls : Nat) : Nat := s.units egress cls false

/-- The part of it that its reserve may hold: multicast cells come only from the shared pool. -/
def State.occOwn (s : State) (egress cls : Nat) : Nat := s.units egress cls true

/-- A stored value with the table's default given, without a search of the table. -/
def State.getDef (s : State) (key d : Nat) : Nat := (sortedGet s.dict key).getD d

/-- BUF_MIN and BUF_MAX of a queue. -/
def State.bufMin (s : State) (g c : Nat) : Nat := s.getDef (Key.BUF_MIN + 256 * c + g) 128
def State.bufMax (s : State) (g c : Nat) : Nat := s.getDef (Key.BUF_MAX + 256 * c + g) 16384

/-- The twigs of a limb that name ports. -/
def State.limbPorts (s : State) (l : Nat) : List Nat :=
  ((List.range 20).map (40 * (l / 2) + 20 * (l % 2) + ·)).filter s.namesPort

/-- BUF_RESERVED_SUM: the sum of BUF_MIN over the half's queues. -/
def State.reservedSum (s : State) (l : Nat) : Nat :=
  ((s.limbPorts l).map (fun g => ((List.range 8).map (s.bufMin g)).sum)).sum

/-- Cells of the shared pool in use by unicast queues. -/
def State.sharedUnicast (s : State) (l : Nat) : Nat :=
  ((s.limbPorts l).map (fun g => ((List.range 8).map (fun c => s.occOwn g c - s.bufMin g c)).sum)).sum

/-- Cells of multicast copies, each once per stem, in the half of the copy's lowest member (DESIGN CHOICE, log entry 20). -/
def State.sharedMulticast (s : State) (l : Nat) : Nat :=
  let ds := s.core.queues.filter (fun d => d.mcast.isSome && d.egress < 160 && stemOf d.egress == l / 2)
  let firsts := ds.filter (fun d => ds.all (fun e => e.mcast ≠ d.mcast || d.egress ≤ e.egress))
  ((firsts.filter (fun d => limbOf d.egress == l)).map Desc.charge).sum +
    ((s.core.freeing.filter (fun f => f.mcast && limbOf f.egress == l)).map (·.units)).sum

/-- shared_free of a limb's half. -/
def State.sharedFree (s : State) (l : Nat) : Int := 131072 - s.reservedSum l - s.sharedUnicast l - s.sharedMulticast l

/-- R158: a half's store of 131,072 descriptors, each with its header slot, has room for one more. -/
def State.descRoom (s : State) (l : Nat) : Bool :=
  (s.core.queues.filter (fun d => d.egress < 160 && limbOf d.egress == l)).length < 131072

/-- Free shared cells of a stem's heartwood intake queue: 16,384 cells less 512 for each class. -/
def State.intakeFree (s : State) (d : Nat) : Int :=
  12288 - (((List.range 8).map (fun c => s.occ (160 + d) c - 512)).sum : Nat)

/-! ### Descriptors -/

/-- R158: the tags of a descriptor's cells: the next-cell pointer, 0 in the last, and the count of member queues that hold the cell. -/
def State.cellTags (s : State) (d : Desc) : List (BitVec 18 × Nat) :=
  let refs := if d.mcast.isNone then 1
    else (s.core.queues.filter (fun e => e.mcast == d.mcast && egressStem e.egress == egressStem d.egress)).length
  (List.range d.cells).map (fun k => (if k + 1 < d.cells then d.cell (k + 1) else 0, refs))

/-- R197: shared_free of a half, above zero `before`, has reached zero; at most once per 1 ms per limb. -/
def State.checkExhausted (s : State) (before : State) (l : Nat) : State :=
  let due := match assocGet s.core.exhaustedAt l with
    | none => true
    | some t => s.after t 1000000
  if 0 < before.sharedFree l && s.sharedFree l ≤ 0 && due then
    (s.modCore (fun c => { c with exhaustedAt := assocPut c.exhaustedAt l s.now })).noteFree (srcLimb l 5) 0
  else s

/-- R87, R90: traffic of a partition passes to or from an egress port. -/
def State.traffic (s : State) (egress part : Nat) : State :=
  s.modCore (fun c => { c with portTraffic := assocPut c.portTraffic egress s.now, partTraffic := assocPut c.partTraffic part s.now })

/-- R181: another member of the same multicast write stands in the same stem, or the same intake: its cells have been counted. -/
def State.copyThere (s : State) (d : Desc) : Bool :=
  d.mcast.isSome && s.core.queues.any (fun e => e.mcast == d.mcast && egressStem e.egress == egressStem d.egress &&
    decide (e.egress < 160) == decide (d.egress < 160))

/-- R196: cells that cross die links count, those of a multicast write once for each stem. -/
def State.countCross (s : State) (d : Desc) : State :=
  if s.copyThere d then s
  else if 160 ≤ d.egress then
    let s := s.countStem (d.egress - 160) 0x280 d.cells
    if d.cls = 7 then s.countStem (d.egress - 160) 0x284 d.cells else s
  else if 160 ≤ d.src then s.countStem (stemOf d.egress) 0x281 d.cells
  else if stemOf d.src ≠ stemOf d.egress then
    let s := (s.countStem (stemOf d.src) 0x282 d.cells).countStem (stemOf d.egress) 0x283 d.cells
    if d.cls = 7 then s.countStem (stemOf d.src) 0x284 d.cells else s
  else s

/-- A descriptor enters its egress queue; its half counts it, its cells once for all members of a stem (R181). -/
def State.enqueue (s : State) (d : Desc) : State :=
  let d := { d with id := s.core.nextId }
  let there := s.copyThere d
  let before := s
  let s := ((s.countCross d).modCore (fun c => { c with nextId := c.nextId + 1, queues := c.queues ++ [d] })).traffic d.egress d.part
  if d.egress < 160 then
    let l := limbOf d.egress
    let s := (if there then s else s.countLimb l 0x200 d.cells).countLimb l 0x202 1
    let s := if d.cut then s.countLimb l 0x203 1 else s
    let s := if d.mcast.isSome then s.countLimb l 0x209 1 else s
    let s := s.countLimb l (0x20E + min d.colour 2) d.charge
    s.checkExhausted before l
  else s

/-- A descriptor leaves its queue for good. -/
def State.dequeue (s : State) (id : Nat) : State :=
  s.modCore (fun c => { c with queues := c.queues.filter (·.id ≠ id), inFlight := c.inFlight.filter (·.2 ≠ id) })

/-- Changing a queued descriptor. -/
def State.modDesc (s : State) (id : Nat) (f : Desc → Desc) : State :=
  s.modCore (fun c => { c with queues := c.queues.map (fun d => if d.id = id then f d else d) })

/-- A queued descriptor. -/
def State.descOf (s : State) (id : Nat) : Option Desc := s.core.queues.find? (·.id == id)

/-- R187, R181: the cells of a discarded descriptor are freed in time; a multicast copy's with its last member. -/
def State.freeCells (s : State) (d : Desc) : State :=
  let shared : Bool := d.mcast.isSome &&
    s.core.queues.any (fun e => e.id ≠ d.id && e.mcast = d.mcast && stemOf e.egress == stemOf d.egress)
  if d.egress < 160 && d.cells ≠ 0 && !shared then
    s.modCore (fun c => { c with freeing := c.freeing ++ [{ egress := d.egress, cls := d.cls, units := d.charge, mcast := d.mcast.isSome }] })
  else s

/-- A drop that rules count and R196 gives no event number, at the limb of an egress. -/
def State.countDrop (s : State) (egress kind : Nat) : State :=
  s.modCore (fun c => { c with drops := assocMod c.drops (if egress < 160 then limbOf egress else 0, kind) 0 (· + 1) })

/-! ### Routing (R277, R280) -/

/-- The configured members of a ROUTE entry, in order of member number. -/
def routeMembers (v : Nat) : List Nat :=
  ([0, 1, 2, 3].filter (fun k => bitOf v (28 + k))).map (fun k => field v (4 * k + 3) (4 * k))

/-- The members for a destination. -/
def State.membersFor (s : State) (dest : Nat) : List Nat := routeMembers (s.getDef (Key.ROUTE + dest) 0)

/-- A trunk carries traffic: L0. -/
def State.trunkUp (s : State) (q : Nat) : Bool := (s.trunk q).tstate = .l0

/-- R280: the home member of a flow. -/
def State.homeMember (s : State) (dest flow : Nat) : Option Nat :=
  let m := s.membersFor dest
  if m.isEmpty then none else m[flow % m.length]?

/-- R280: the trunk for a message among those that pass a test: the home member, else the next one taken cyclically. An interim trunk is
kept until a rebalance (R282). -/
def State.routeAmong (s : State) (ok : Nat → Bool) (dest flow : Nat) : Option Nat :=
  let m := s.membersFor dest
  let n := m.length
  if n = 0 then none
  else
    let cyc := (List.range n).map (fun i => m.getD ((flow % n + i) % n) 0)
    match s.fabric.interim.find? (fun e => e.1 == dest && e.2.1 == flow) with
    | some e => if ok e.2.2 then some e.2.2 else cyc.find? ok
    | none => cyc.find? ok

/-- The trunk in L0 for a message. -/
def State.routeUp (s : State) (dest flow : Nat) : Option Nat := s.routeAmong s.trunkUp dest flow

/-- R143: a retraining trunk holds a flow whose FUs were queued to it. -/
def State.holdsFlow (s : State) (dest flow q : Nat) : Bool :=
  (s.trunk q).tx.frozen && s.core.queues.any (fun d => d.egress == gOfTrunk q && d.destCrown == dest && d.flow == flow)

/-- R143, R280: the trunk for a new message: one in L0, or the one that holds its flow. -/
def State.routeTrunk (s : State) (dest flow : Nat) : Option Nat :=
  s.routeAmong (fun q => s.trunkUp q || s.holdsFlow dest flow q) dest flow

/-- The trunk where a message for a destination waits while no member is in L0 (R284): its home member. -/
def State.routeOrHome (s : State) (dest flow : Nat) : Option Nat :=
  (s.routeTrunk dest flow).orElse (fun _ => s.homeMember dest flow)

/-- R279: the flow hash. -/
def flowOf (crown gpart sender src cls : Nat) : Nat :=
  (crc32c (beBytes 2 crown ++ beBytes 2 gpart ++ beBytes 2 sender ++ beBytes 1 src ++ beBytes 1 cls)).toNat % 256

/-- R285: the crown is fenced here. -/
def State.fenced (s : State) (crown : Nat) : Bool := s.fabric.fences.any (·.1 == crown)

/-- R284, R287: a destination is unreachable. -/
def State.unreachable (s : State) (dest : Nat) : Bool :=
  (s.membersFor dest).isEmpty || dest ∈ s.fabric.unreachable || s.fenced dest

/-- A control message is queued at the transmitters of every trunk in L0 that passes a test (R121, R286). -/
def State.sendControl (s : State) (ok : Nat → Bool) (c : Control) : State :=
  s.each ((List.range 16).filter (fun q => s.trunkUp q && ok q)) (fun s q =>
    s.modTx q (fun x => { x with ctl := x.ctl ++ [c] }))

/-- A control message to one crown, over the trunk that routing gives. -/
def State.controlTo (s : State) (dest : Nat) (c : Control) : State :=
  match s.routeUp dest 0 with
  | some q => s.modTx q (fun x => { x with ctl := x.ctl ++ [c] })
  | none => s

/-- R293: a failure of a posted request of another crown is folded into the notice that waits for that crown and
partition, or starts one. -/
def State.farFail (s : State) (crown gpart cause rclass vdp desc header : Nat) : State :=
  match s.fabric.farPending.find? (fun p => p.crown == crown && p.note.gpart == gpart) with
  | some _ => s.modFabric (fun f => { f with farPending := f.farPending.map (fun p =>
      if p.crown == crown && p.note.gpart == gpart then
        { p with note := { p.note with more := min 0xFFFF (p.note.more + 1) } } else p) })
  | none => s.modFabric (fun f => { f with farPending := f.farPending ++
      [{ crown := crown, note := { reporter := s.crownId, gpart := gpart, cause := cause, more := 0, ft := s.stampFt,
                                   rclass := rclass, vdp := vdp, desc := desc, header := header } }] })

/-! ### Rings of module functions (R340, R346, R363, R364) -/

/-- The pass of a ring's index: the pass of the head, or the one before it for an index not yet wrapped past. -/
def Ring.passOf (r : Ring) (i : Nat) : Nat := if i < r.head.toNat then r.passes else r.passes - 1

/-- R346: STATUS codes that stop the ring. -/
def statusStops (st : Nat) : Bool := 1 ≤ st && st ≤ 5 && st ≠ 2

/-- R345: a descriptor that its engine had fetched is done with the ring. -/
def State.ringRelease (s : State) (pos : RingPos) : State :=
  s.modFn pos.part pos.vf (fun x => { x with ring := { x.ring with fetched := x.ring.fetched - 1 } })

/-- R346: a descriptor's completion record, its message, and the stop of its ring. A function that has lost Bus Master
Enable writes nothing (R363). -/
def State.ringRecord (s : State) (pos : RingPos) (status result user : Nat) (intr : Bool) : State :=
  let fn := (s.part pos.part).fn pos.vf
  let r := fn.ring
  let word := user * 2 ^ 64 + status * 2 ^ 56 + ((r.passOf pos.index + 1) % 2) * 2 ^ 48 + (pos.index % 65536) * 2 ^ 32 +
    result % 2 ^ 32
  let s := (s.modCore (fun c => { c with partTraffic := assocPut c.partTraffic pos.part s.now }))
  let s := s.countHeart 0x3A0 1
  if !fn.busMaster then s
  else
    let s := s.emit (.hostWrite pos.part (r.cplBase + 16 * pos.index) (leBytes 16 word))
    let s := if intr then s.vector pos.part pos.vf 0 else s
    if statusStops status then
      (s.modFn pos.part pos.vf (fun x => { x with ring := { x.ring with
        state := 2, errIndex := BitVec.ofNat 16 pos.index } })).vector pos.part pos.vf 1
    else s

/-- A descriptor completes and is done with the ring. -/
def State.ringComplete (s : State) (pos : RingPos) (status result user : Nat) (intr : Bool) : State :=
  (s.ringRelease pos).ringRecord pos status result user intr

/-- R363: the uncompleted descriptors of a ring are marked aborted: those not yet taken, and the contributions `taken` whose results are
still to come. The first of them in ring order is ABORT_HEAD. -/
def Ring.abort (r : Ring) (taken : List Nat) : Ring :=
  let size := 2 ^ r.log2Size
  let behind : Nat → Nat := fun i => (r.head.toNat + size - 1 - i % size) % size + 1
  let first := (r.head.toNat + size - (taken.foldl (fun n i => max n (behind i)) r.fetched) % size) % size
  let count := (r.tail.toNat + size - r.head.toNat % size) % size + r.fetched + taken.length
  { r with state := 3, abortHead := BitVec.ofNat 16 first, abortCount := BitVec.ofNat 16 count, fetched := 0 }

/-- R363: a function stops: its rings abort, the tags of its outstanding reads are quarantined until the given instant at
the latest, posted receive buffers are dropped. -/
def Function.stop (f : Function) (until_ : Nat) (taken : List Nat) : Function :=
  { f with
    busMaster := false,
    ring := f.ring.abort taken,
    sendQ := f.sendQ.map (fun e => (e.1, e.2.abort [])),
    recvQ := f.recvQ.map (fun e => (e.1, e.2.abort [])),
    posted := [],
    quarantined := f.quarantined ++ f.outstanding.map (fun o => (o.1, until_)),
    outstanding := [] }

/-- R364: registers, rings and MSI-X table return to their reset values; quarantined tags stay quarantined. -/
def Function.resetTo (f : Function) : Function := { Function.reset with quarantined := f.quarantined, timedOut := f.timedOut }

/-- R338: the completion timeout of module functions, the upper end of the range in PF0's Device Control 2 in ns; 50 ms by default. The
codes are those of the specification (PRESUMED, log entry 14). -/
def completionTimeoutNs (code : Nat) : Nat :=
  match code with
  | 1 => 100000
  | 2 => 10000000
  | 5 => 55000000
  | 6 => 210000000
  | 9 => 900000000
  | 10 => 3500000000
  | 13 => 13000000000
  | 14 => 64000000000
  | _ => 50000000

/-- The completion timeout of a partition's functions. -/
def State.cplTimeout (s : State) (p : Nat) : Nat := completionTimeoutNs (((s.part p).fn 0).fld .completionTimeout)

end Sys2Proof.Machine
end

