-- ==== Sys2Proof/Machine/Admission.lean ====
section
/-! DEFINITION. Admission: classes and colours (R163, R176), the tests of R169 and R182, the records of non-posted requests (R289, R290),
cut-through (R173, R174), waiting at ingress and flow-control credits (R164, R167, R171, R172), the module's own completions, and R34
for what is queued. -/

namespace Sys2Proof.Machine

/-! ### Rates and buckets -/

/-- The transfer rate of an H-link rate code, in tenths of GT/s (R68). -/
def gt10 : Nat → Nat
  | 1 => 25
  | 2 => 50
  | 3 => 80
  | 4 => 160
  | 5 => 320
  | 6 => 640
  | 7 => 1280
  | _ => 0

/-- R173: the rate of an H-link in force, L0p counted. -/
def State.linkRate (s : State) (g : Nat) : Nat :=
  let h := s.hport (portOfG (s.portLowG g))
  gt10 h.rate * h.l0pWidth

/-- Bringing a bucket up to date: levels are in millionths of a byte, rates in millionths of a byte per ns (DESIGN CHOICE, log entry 74).
-/
def Bucket.fill (b : Bucket) (rate cap now : Nat) : Bucket :=
  { level := min (cap : Int) (b.level + ((rate * (now - b.at_) : Nat) : Int)), at_ := now }

/-- Taking bytes out of a bucket. -/
def Bucket.take (b : Bucket) (bytes : Nat) : Bucket := { b with level := b.level - ((bytes * 1000000 : Nat) : Int) }

/-! ### Classes and colours (R163, R176) -/

/-- A link is up for HP_RATE_ACTIVE: in L0, L0p, L1 or Recovery between them. -/
def HPort.up (h : HPort) : Bool :=
  h.lstate = .l0 || h.lstate = .recovery || h.lstate = .l1 || h.lstate = .l11 || h.lstate = .l12

/-- R163: the class of a traffic class of a partition. -/
def State.classFor (s : State) (part tc : Nat) : Nat :=
  field (s.getDef (Key.TC_CLASS_MAP + part) 0x55543210) (4 * tc + 2) (4 * tc)

/-- R176: the marker of a stem, partition and class, as RFC 2698 defines it, colour-blind. Answers the colour. -/
def State.meter (s : State) (stem part cls bytes : Nat) : State × Nat :=
  let v := s.getDef (Key.COLOUR_METER + 256 * cls + part) 0xFFFFFFFF01000100
  let cir := field v 63 48
  if cir = 0xFFFF then (s, 0)
  else
    let capC := field v 31 16 * 256000000
    let capP := field v 15 0 * 256000000
    let b := assocGetD s.core.meters (stem, part, cls) ({ level := capC, at_ := s.now }, { level := capP, at_ := s.now })
    let c := b.1.fill (cir * 100000) capC s.now
    let p := b.2.fill (field v 47 32 * 100000) capP s.now
    let n : Int := ((bytes * 1000000 : Nat) : Int)
    let r : Nat × Bucket × Bucket :=
      if p.level < n then (2, c, p)
      else if c.level < n then (1, c, p.take bytes)
      else (0, c.take bytes, p.take bytes)
    (s.modCore (fun x => { x with meters := assocPut x.meters (stem, part, cls) r.2 }), r.1)

/-- R176: what a message enqueues takes the colour of the marker of the stem on which it enters; what comes from the heartwood enters on the
stem of its egress (DEDUCED, log entry 184). -/
def State.coloured (s : State) (ds : List Desc) : State × List Desc :=
  match ds with
  | [] => (s, [])
  | d :: _ =>
    let r := s.meter (if d.src < 160 then stemOf d.src else egressStem d.egress) d.part d.cls d.len
    (r.1, ds.map (fun d => { d with colour := r.2 }))

/-! ### Admission (R168, R169, R178, R182) -/

/-- R157, R158, R169: a queue, its pool and its half's descriptor store have room for `need` units. -/
def State.fits (s : State) (egress cls need : Nat) : Bool :=
  if egress < 160 then
    let occ := s.occ egress cls
    let rsv := min need (s.bufMin egress cls - s.occOwn egress cls)
    occ + need ≤ s.bufMax egress cls && ((need - rsv : Nat) : Int) ≤ s.sharedFree (limbOf egress) && s.descRoom (limbOf egress)
  else
    let d := egress - 160
    let occ := s.occ egress cls
    let rsv := min need (512 - occ)
    ((need - rsv : Nat) : Int) ≤ s.intakeFree d

/-- R289, R290: a free index of the tracking table; a free proxy tag of a port. -/
def State.freeTrack (s : State) : Option Nat :=
  if s.fabric.tracks.length ≥ 32768 then none
  else (List.range (s.fabric.tracks.length + 1)).find? (fun n => s.fabric.tracks.all (·.index ≠ n))
def State.freeProxy (s : State) (g : Nat) : Option Nat :=
  let mine := s.fabric.proxies.filter (·.port == g)
  if mine.length ≥ 16384 then none else (List.range (mine.length + 1)).find? (fun n => mine.all (·.tag ≠ n))

/-- A descriptor holds a locked read. -/
def Desc.lockedRead (d : Desc) : Bool :=
  match msgTlp d.msg with
  | some (_, x) => x.kind = .memReadLocked
  | none => false

/-- The bough whose lock a locked read takes: that of its target twig, or the T-bough of its trunk (R296, R297). -/
def lockBough (d : Desc) : Nat := boughOf d.egress

/-- R296, R297: a locked read waits while its bough's lock is another partition's. -/
def State.lockFree (s : State) (d : Desc) : Bool :=
  !d.lockedRead || s.fabric.locks.all (fun k => k.bough ≠ lockBough d || k.part = d.part)

/-- A unicast descriptor may enter its queue now. -/
def State.admits (s : State) (d : Desc) : Bool :=
  s.fits d.egress d.cls d.charge && s.lockFree d &&
    (if d.kind = 1 && d.egress < 160 && d.srcCrown = s.crownId && isT d.egress then s.freeTrack.isSome
     else if d.kind = 1 && d.egress < 160 && d.srcCrown ≠ s.crownId && !isT d.egress then (s.freeProxy d.egress).isSome
     else true)

/-- R182: the members of one stem take a multicast write. -/
def State.admitsStem (s : State) (ds : List Desc) : Bool :=
  ds.all (fun d =>
    if d.egress < 160 then s.occ d.egress d.cls + d.charge ≤ s.bufMax d.egress d.cls else s.fits d.egress d.cls d.charge) &&
    (match ds.filter (·.egress < 160) with
      | [] => true
      | d :: l =>
        let low := l.foldl (fun m e => min m e.egress) d.egress
        ((d.charge : Nat) : Int) ≤ s.sharedFree (limbOf low) && s.descRoom (limbOf low))

/-- Everything that one TLP enqueues may enter. -/
def State.admitsAll (s : State) (ds : List Desc) : Bool :=
  match ds with
  | [d] => if d.mcast.isNone then s.admits d else s.admitsStem ds
  | _ => [0, 1, 2, 3].all (fun k => s.admitsStem (ds.filter (fun d => egressStem d.egress == k)))

/-- R173: the conditions of cut-through. -/
def State.cutOk (s : State) (d : Desc) : Bool :=
  d.src < 160 && !isT d.src && d.egress < 160 && !isT d.egress && d.mcast.isNone && d.kind ≠ 3 &&
    s.core.queues.all (fun e => !(e.egress == d.egress && e.cls == d.cls)) &&
    (s.hport (portOfG (s.portLowG d.egress))).lstate = .l0 && s.linkRate d.src ≤ s.linkRate d.egress && 0 < s.linkRate d.src

/-- R174: the bytes that must have arrived, in whole FLITs. -/
def State.cutThreshold (s : State) (d : Desc) : Nat :=
  let i := s.linkRate d.src
  let e := s.linkRate d.egress
  min d.len (ceilDiv (ceilDiv (d.len * (e - i)) e) 256 * 256)

/-- The records that a non-posted request leaves as it enters its queue: a tracking entry towards a trunk (R289), a proxy
tag for a request from a trunk (R290), else an outstanding request. -/
def State.record (s : State) (d : Desc) : State × Desc :=
  let d := { d with id := s.core.nextId }
  if d.kind ≠ 1 || 160 ≤ d.egress then (s, d)
  else match msgTlp d.msg with
    | none => (s, d)
    | some (c, x) =>
      if d.srcCrown = s.crownId then
        if isT d.egress then
          match s.freeTrack with
          | some n =>
            ((s.modFabric (fun f => { f with tracks := f.tracks ++
                [{ index := n, part := d.part, reqId := d.reqId, tag := x.tag, cls := d.cls, dest := d.destCrown, src := d.src,
                   descBits := d.bits,
                   header := headerSlot true d.msg, sent := 0,
                   quarantined := none }] })).countHeart 0x380 1,
             { d with msg := .tlp { c with track := n } x })
          | none => (s, d)
        else
          (s.modCore (fun k => { k with outstanding := k.outstanding ++
            [{ part := d.part, reqId := d.reqId, tag := x.tag, cls := d.cls, src := d.src, target := d.egress, since := s.now,
               want := tlpWant x }] }), d)
      else if isT d.egress then (s, d)
      else
        match s.freeProxy d.egress with
        | some n =>
          (s.modFabric (fun f => { f with proxies := f.proxies ++
              [{ port := d.egress, tag := n, part := d.part, crown := d.srcCrown, track := c.track, reqId := d.reqId, reqTag := x.tag, cls := d.cls,
                 at_ := s.now, want := tlpWant x }] }),
           { d with msg := .tlp c { x with reqId := Config.proxyId d.egress, tag := n } })
        | none => (s, d)

/-- R296, R297: the lock that a locked read takes as it is admitted. -/
def State.takeLock (s : State) (d : Desc) : State :=
  if d.lockedRead && d.egress < 160 && s.fabric.locks.all (fun k => k.bough ≠ lockBough d) then
    (s.modFabric (fun f => { f with locks := f.locks ++
      [{ bough := lockBough d, part := d.part, twig := d.egress,
         via := if isT d.egress then some (trunkOfG d.egress) else none, since := s.now }] })).countBough (lockBough d) 0x30E 1
  else s

/-- An admitted unicast descriptor enters its queue. -/
def State.enter (s : State) (d : Desc) : State :=
  let r := s.record d
  let d := r.2
  let d := if r.1.cutOk d then
      let arrived := min 256 d.len
      { d with cut := true, arrived := arrived, eligible := decide (s.cutThreshold d ≤ arrived) }
    else d
  (r.1.takeLock d).enqueue d

/-- Everything that one TLP enqueues enters. The copies of a multicast write share one number (R181). -/
def State.enterAll (s : State) (ds : List Desc) : State :=
  match ds with
  | [d] => if d.mcast.isNone then s.enter d else s.enqueue { d with mcast := some s.core.nextId }
  | _ =>
    let m := s.core.nextId
    s.each ds (fun s d => s.enqueue { d with mcast := some m })

/-! ### Flow-control credits (R171, R172) -/

/-- R172: header and data credits of a type that a x4 port advertises. -/
def fcBase (type : Nat) : Nat × Nat := (256, if type = 1 then 256 else 4096)

/-- The header and data credits that a TLP uses: a data credit is 16 bytes. -/
def fcNeed (x : Tlp) : Nat × Nat := (1, ceilDiv x.data.length 16)

/-- Adding up credits. -/
def fcSum (l : List (Nat × Nat)) : Nat × Nat := ((l.map (·.1)).sum, (l.map (·.2)).sum)

/-- R172: the credits of a type that port `p` has given its partner since link-up. -/
def State.fcGiven (s : State) (p type : Nat) : Nat × Nat :=
  let n := s.portTwigs (gOfPort p)
  let f := (s.hport p).fcFreed.getD type (0, 0)
  (n * (fcBase type).1 + f.1, n * (fcBase type).2 + f.2)

/-- The scale factor that a count needs (R172; the specification's limits of 127 and 2,047 unscaled, PRESUMED, log entry 185). -/
def fcScale (unscaled n : Nat) : Nat := if n ≤ unscaled then 1 else if n ≤ 4 * unscaled then 4 else 16

/-- The partner is told its credits of a type: at link-up, and as they grow. -/
def State.fcTell (s : State) (p type : Nat) (initial : Bool) : State :=
  let n := s.portTwigs (gOfPort p)
  let v := s.fcGiven p type
  s.emit (.credits (gOfPort p) initial type v.1 v.2 (fcScale 127 (n * (fcBase type).1)) (fcScale 2047 (n * (fcBase type).2)))

/-- R172: the credits that a port advertises as its link comes up. -/
def State.fcInit (s : State) (p : Nat) : State := s.each [0, 1, 2] (fun s k => s.fcTell p k true)

/-- The TLPs of a type that wait at a twig's ingress: in its sub-queue, for a window entry or for a gate (R171, R252, R272). -/
def State.fcHeld (s : State) (g type : Nat) : List Tlp :=
  (s.core.waiting.filter (fun w => w.src == g && w.fcType == type)).filterMap (fun w => (w.descs.head?.bind (fun d => msgTlp d.msg)).map (·.2)) ++
    ((s.gates.misses.filter (·.src == g)).map (·.tlp) ++ (s.gates.heldTlps.filter (·.1 == g)).map (·.2.1)).filter
      (fun x => fcOf (tlpKindCode x.kind) == type)

/-- The head of an ingress sub-queue. -/
def State.fcHead (s : State) (g type : Nat) : Option Waiting := s.core.waiting.find? (fun w => w.src == g && w.fcType == type)

/-- R171: the credits of a type go back to the partner for what waits no longer, unless the head that waited before still waits. -/
def State.fcReturn (s s0 : State) (p type : Nat) : State :=
  let g := gOfPort p
  let h := s.hport p
  let r := h.fcRcvd.getD type (0, 0)
  let k := fcSum ((s.fcHeld g type).map fcNeed)
  let free : Nat × Nat := (r.1 - k.1, r.2 - k.2)
  if ((s.fcHead g type).isSome && s.fcHead g type = s0.fcHead g type) || free = h.fcFreed.getD type (0, 0) then s
  else (s.modHPort p (fun h => { h with fcFreed := h.fcFreed.set type free })).fcTell p type false

/-- R171: after a command, every port with credits out returns what it may. -/
def State.fcSettle (s s0 : State) : State :=
  s.each ((List.range 144).filter (fun p => (s.hport p).fcRcvd ≠ (s.hport p).fcFreed && (s.hport p).up)) (fun s p =>
    s.each [0, 1, 2] (fun s k => s.fcReturn s0 p k))

/-- A TLP comes within the credits given. -/
def State.fcCovers (s : State) (p : Nat) (x : Tlp) : Bool :=
  let k := fcOf (tlpKindCode x.kind)
  let r := (s.hport p).fcRcvd.getD k (0, 0)
  r.1 + (fcNeed x).1 ≤ (s.fcGiven p k).1 && r.2 + (fcNeed x).2 ≤ (s.fcGiven p k).2

/-- A TLP uses its credits. -/
def State.fcTake (s : State) (p : Nat) (x : Tlp) : State :=
  let k := fcOf (tlpKindCode x.kind)
  s.modHPort p (fun h => { h with fcRcvd := h.fcRcvd.modify k (fun r => (r.1 + (fcNeed x).1, r.2 + (fcNeed x).2)) })

/-- What a request of a port's host does, within its credits. -/
def State.withCredits (s : State) (g : Nat) (x : Tlp) (f : State → State) : State := (f (s.fcTake (portOfG g) x)).fcSettle s

/-! ### Waiting at ingress (R164, R167, R171) -/

/-- R167: a waiting TLP holds back a later one of another type: an older posted one of its source. -/
def Waiting.holdsBack (w : Waiting) (d : Desc) : Bool :=
  w.fcType == 0 && !d.passes && w.descs.any (fun e => e.part == d.part && e.reqId == d.reqId)

/-- A TLP of a type waits behind earlier ones at its twig: of its own type, or an older posted one of its source. -/
def Waiting.ahead (w : Waiting) (src fc : Nat) (d : Desc) : Bool := w.src == src && (w.fcType == fc || (fc ≠ 0 && w.holdsBack d))

/-- R164: the hold on a partition and traffic class. -/
def State.heldClass (s : State) (part tc : Nat) : Bool := s.core.holds.any (fun h => h.part == part && h.tc == tc)

/-- R196: a lossless admission is refused, counted once per TLP. -/
def State.countRefused (s : State) (d : Desc) : State := s.countLimb (limbOf (if d.egress < 160 then d.egress else 0)) 0x205 1

/-- What a TLP or engine message enqueues is admitted, or waits at the end of its ingress sub-queue; `tc` is the traffic class of a TLP that
its partition's map gave its class (R164). -/
def State.submit (s : State) (src : Nat) (tc : Option Nat) (ds : List Desc) : State :=
  let r := s.coloured ds
  let s := r.1
  match r.2 with
  | [] => s
  | d :: rest =>
    let ds := d :: rest
    let fc := fcOf d.kind
    let hold : Option (Nat × Nat) := tc.bind (fun t => if s.heldClass d.part t then some (d.part, t) else none)
    let wait (refused : Bool) : State :=
      s.modCore (fun c => { c with waiting := c.waiting ++ [{ src := src, fcType := fc, descs := ds, classHold := hold, refused := refused }] })
    if hold.isSome || s.core.waiting.any (fun w => w.ahead src fc d) then wait false
    else if s.admitsAll ds then s.enterAll ds
    else (wait true).countRefused d

/-- R171: the head of an ingress sub-queue is tried again. -/
def admissionRetryEffect (s : State) (g kind : Nat) : State :=
  match s.fcHead g kind with
  | some w =>
    match w.descs with
    | d :: _ =>
      let before := s.core.waiting.takeWhile (fun v => v ≠ w)
      if w.classHold.isSome || before.any (fun v => v.ahead g kind d) then s
      else if s.admitsAll w.descs then ((s.modCore (fun c => { c with waiting := c.waiting.erase w })).enterAll w.descs).fcSettle s
      else if w.refused then s
      else (s.modCore (fun c => { c with waiting := c.waiting.map (fun v => if v = w then { v with refused := true } else v) })).countRefused d
    | [] => s.modCore (fun c => { c with waiting := c.waiting.erase w })
  | none => s

/-! ### Completions to requesters -/

/-- R212: the physical routing ID of a requester of this crown: of a slice's function, whose partition's ID it is. -/
def State.physId (s : State) (part reqId : Nat) : Nat :=
  match s.binds.find? (fun b => b.1 == part && b.2.2.kind == 2 && b.2.2.crown == s.crownId && reqId % 256 ≤ b.2.2.fnCount &&
      reqId / 256 ≠ 0 && ((s.part part).vdp b.2.1).fld .secondaryBus == reqId / 256) with
  | some b => b.2.2.fnFirst + reqId % 256
  | none => reqId

/-- A completion to a requester of this crown, with the ID that it knows. -/
def State.cplOut (s : State) (part reqId tag cls : Nat) (st : CplStatus) (data : List Byte) : Output :=
  .completion part (s.physId part reqId) tag cls st data

/-- R165: a completion to the requester of a request, in the request's class: to a requester of this crown, or over trunks with its TRACK
(DESIGN CHOICE, log entry 100). -/
def State.complete (s : State) (part srcCrown reqId tag track cls : Nat) (st : CplStatus) (data : List Byte) : State :=
  if srcCrown = s.crownId || srcCrown = 0xFFFF then s.emit (s.cplOut part reqId tag cls st data)
  else s.emit (.remoteCompletion srcCrown track cls st data)

/-- The SRC number of a heartwood core's bridge requests (R159, R299; DESIGN CHOICE, log entry 35). -/
def srcCore (core : Nat) : Nat := 0xF8 + core % 8

/-- A part of a bridge read is answered: a retry-later response leaves it to be sent again, any other completion ends it (R300). -/
def BridgeRead.answered (b : BridgeRead) (now tag : Nat) (st : CplStatus) : BridgeRead :=
  { b with parts := if st = .retry then b.parts.map (fun k => if k.tag = tag then { k with retryAt := some now } else k)
                    else b.parts.filter (fun k => k.tag ≠ tag) }

/-- R299: a part of a core's bridge read has its completion; with the last one the core goes on. -/
def State.bridgeDone (s : State) (src tag : Nat) (st : CplStatus) : State :=
  s.modFabric (fun f => { f with bridge :=
    (f.bridge.map (fun b => if srcCore b.core = src then b.answered s.now tag st else b)).filter (fun b => !b.parts.isEmpty) })

/-- The SRC number of the debug port (DESIGN CHOICE, log entry 35). -/
def srcDebug : Nat := 0xF1

/-- R397: a debug access ends: DBG_DATA holds what was read, or ERR and zeros. -/
def State.debugEnd (s : State) (ok : Bool) (v : Nat) : State :=
  s.modFaults (fun f => { f with dbgErr := !ok, dbgData := if ok then BitVec.ofNat 64 v else 0 })

/-- The heartwood source of a request has its answer: a core goes on, a debug read holds its data. -/
def State.heartDone (s : State) (src tag : Nat) (st : CplStatus) (data : List Byte) : State :=
  if src = srcDebug then s.debugEnd (st = .successful) (beNat data.reverse) else s.bridgeDone src tag st

/-- An outstanding request of this crown completes without data. -/
def State.endNp (s : State) (r : NpReq) (st : CplStatus) : State :=
  (s.emit (s.cplOut r.part r.reqId r.tag r.cls st [])).heartDone r.src r.tag st []

/-- A tracked request of this crown completes without data. -/
def State.endTrack (s : State) (k : Track) (st : CplStatus) : State :=
  (s.emit (s.cplOut k.part k.reqId k.tag k.cls st [])).heartDone k.src k.tag st []

/-- Answering a non-posted descriptor without data. -/
def State.answerDesc (s : State) (d : Desc) (st : CplStatus) : State :=
  match msgTlp d.msg with
  | some (c, x) => (s.complete d.part d.srcCrown d.reqId x.tag c.track d.cls st []).heartDone d.src x.tag st []
  | none => s

/-- The tracking entry of a local request is freed (R289). -/
def State.untrack (s : State) (part reqId tag : Nat) : State :=
  s.modFabric (fun f => { f with tracks := f.tracks.filter (fun k =>
    !(k.part == part && k.reqId == reqId && k.tag == tag && k.quarantined.isNone)) })

/-- R34: what happens to a descriptor queued towards a unit that goes offline: a non-posted request completes with
Completer Abort, a posted one is discarded and counted; its cells are freed. -/
def State.discardDesc (s : State) (d : Desc) : State :=
  let s := s.freeCells d
  let s := s.dequeue d.id
  let l := limbOf d.egress
  let s := if d.mcast.isSome then s.countLimb l 0x20A 1 else s
  match d.kind with
  | 1 =>
    let s := s.answerDesc d .aborted
    (match msgTlp d.msg with
      | some (_, x) => s.untrack d.part d.reqId x.tag
      | none => s)
  | 0 => s.countLimb l 0x20C 1
  | 3 => s.countDrop d.egress 2
  | _ => s

/-- R34: a descriptor that waits at an ingress for a unit that goes offline: a non-posted request completes with Completer Abort, a
posted one is discarded and counted. It holds no cells and no records yet. -/
def State.refuseWaiting (s : State) (d : Desc) : State :=
  match d.kind with
  | 1 => s.answerDesc d .aborted
  | 0 => s.countLimb (limbOf d.egress) 0x20C 1
  | 3 => s.countDrop d.egress 2
  | _ => s

/-- R34: what waits at an ingress for a twig leaves; a multicast write's other copies wait on. -/
def State.drainWaiting (s : State) (g : Nat) : State :=
  let gone := (s.core.waiting.filter (·.src ≠ g)).flatMap (fun w => w.descs.filter (·.egress == g))
  let s0 := s
  let s := s.modCore (fun c => { c with waiting :=
    (c.waiting.map (fun w => { w with descs := w.descs.filter (·.egress ≠ g) })).filter (fun w => w.src ≠ g && !w.descs.isEmpty) })
  (s.each gone State.refuseWaiting).fcSettle s0

/-- A TLP in flight on a link is ended by nullification. -/
def State.nullifyFlying (s : State) (d : Desc) : State :=
  if s.core.inFlight.any (·.2 == d.id) then
    (match msgTlp d.msg with
      | some (_, x) => s.emit (.tlp d.egress x false)
      | none => s)
  else s

/-- R175: the ingress ends a cut-through TLP abnormally: what has begun to leave is nullified, with its event and count; the TLP is then
discarded, counted, and leaves no record. -/
def State.cutAbort (s : State) (d : Desc) : State :=
  let l := limbOf d.egress
  let s := if s.core.inFlight.any (·.2 == d.id) then ((s.nullifyFlying d).countLimb l 0x204 1).noteFree (srcLimb l 0) 0 else s
  let s := s.modCore (fun c => { c with outstanding := c.outstanding.filter (fun r =>
    !(d.kind == 1 && r.part == d.part && r.reqId == d.reqId && r.src == d.src && r.target == d.egress &&
      (match msgTlp d.msg with | some (_, x) => x.tag == r.tag | none => false))) })
  ((s.freeCells d).dequeue d.id).countDrop d.egress 0

/-- R34 for one twig: queued traffic, requests that wait for the target, proxied requests (R290), and what the twig's own
ingress had not handed on. -/
def State.drainTwig (s : State) (g : Nat) : State :=
  let s := s.each (s.core.queues.filter (·.egress == g)) State.discardDesc
  let s := s.each (s.core.outstanding.filter (·.target == g)) (fun s r => s.endNp r .aborted)
  let s := (s.modCore (fun c => { c with outstanding := c.outstanding.filter (·.target ≠ g) })).drainWaiting g
  let s := s.each (s.fabric.proxies.filter (fun p => p.port == g)) (fun s p =>
    s.emit (.remoteCompletion p.crown p.track p.cls .aborted []))
  let s := s.modFabric (fun f => { f with proxies := f.proxies.filter (fun p => p.port ≠ g) })
  -- R175: cut-through TLPs whose ingress ends abnormally are discarded after the nullification
  s.each (s.core.queues.filter (fun d => d.cut && d.src == g && d.arrived < d.len)) State.cutAbort

end Sys2Proof.Machine
end

