-- ==== Sys2Proof/Machine/Heads.lean ====
section
/-! DEFINITION. The heads of an egress that may leave (R162, R166, R192, R233, R235), the counter events that time brings (R524), and the
passing of time to a command's instant. -/

namespace Sys2Proof.Machine

/-- The partition number of traffic of a grove partition that no crown partition of this crown holds, and of the firmware's own (DESIGN
CHOICE, log entry 147). -/
abbrev noPart : Nat := 64

/-! ### Tokens of C7 (R162) -/

/-- R162: 2 % of an egress port's trained rate at full width. -/
def State.c7Rate (s : State) (g : Nat) : Nat :=
  if isT g then
    match (s.trunk (trunkOfG g)).rate with
    | 1 => 265625
    | 2 => 1062500
    | 3 => 2125000
    | _ => 0
  else
    let h := s.hport (portOfG (s.portLowG g))
    gt10 h.rate * h.width * 250

/-- R162: the C7 bucket of an egress port, full at link-up. -/
def State.c7Bucket (s : State) (g : Nat) : Bucket :=
  (assocGetD s.core.c7 g { level := 4096000000, at_ := s.now }).fill (s.c7Rate g) 4096000000 s.now

/-- R162: a C7 message of a length may start. -/
def State.c7May (s : State) (g len : Nat) : Bool :=
  let b := s.c7Bucket g
  ((len * 1000000 : Nat) : Int) ≤ b.level || b.level = 4096000000

/-- A trunk message whose LAST FU has been sent: it only waits to be acknowledged (R281). -/
def Desc.left (d : Desc) : Bool := d.lastSeq.isSome

/-! ### Heads that may leave (R166, R233) -/

/-- R225, R238: the partition of a descriptor has flows (DESIGN CHOICE, log entry 147). -/
def State.flows (s : State) (p : Nat) : Bool := noPart ≤ p || (s.part p).state = .active

/-- R296: a locked twig sends only the TLPs of the locked sequence. -/
def State.lockLets (s : State) (d : Desc) : Bool :=
  s.fabric.locks.all (fun k => k.twig ≠ d.egress || k.via.isSome || (d.part == k.part && d.rclass = .host))

/-- One source (R166). -/
def Desc.sameSource (d e : Desc) : Bool := d.src == e.src && d.part == e.part && d.reqId == e.reqId && d.cls == e.cls

/-- R166: `e` is older than `d`: by their order stamps modulo 2³², and by their places where the stamps agree (DESIGN CHOICE, log entry
149). -/
def olderThan (d e : Desc) (before : Bool) : Bool :=
  if e.order = d.order then before else (d.order - e.order).toNat < 2 ^ 31

/-- R166: a non-posted request or completion that no older posted TLP of its source holds back. -/
def orderLets (waiting : List Desc) (d : Desc) : Bool :=
  fcOf d.kind = 0 || d.passes ||
    (waiting.zipIdx.all (fun e => !(fcOf e.1.kind = 0 && e.1.sameSource d &&
      olderThan d e.1 (waiting.zipIdx.any (fun f => f.1.id == d.id && e.2 < f.2)))))

/-- What waits at an egress and has not begun to leave. -/
def State.waitingAt (s : State) (g : Nat) : List Desc := s.core.queues.filter (fun d => d.egress == g && d.sentFus == 0 && !d.left)

/-- The heads of an egress, oldest first: the first of each flow's sub-queues, if it may leave (DESIGN CHOICE, log entry 149). -/
def State.headsOf (s : State) (g : Nat) : List Desc :=
  let l := s.waitingAt g
  let firsts := l.foldl (fun (acc : List Desc) d =>
    if acc.any (fun e => e.cls == d.cls && e.part == d.part && fcOf e.kind == fcOf d.kind) then acc else acc ++ [d]) []
  firsts.filter (fun d => d.eligible && !d.nullified && s.flows d.part && s.lockLets d && orderLets l d)

/-! ### Shapers and allotments (R192, R235) -/

/-- A class shaper's bucket, full at first, brought up to date; none where the class is not shaped (DESIGN CHOICE, log entry 74). -/
def State.shaper (s : State) (g cls : Nat) : Option (Bucket × Nat) :=
  let v := s.getDef (Key.EGRESS_SHAPE + 256 * cls + g) 0xFFFF0100
  if field v 31 16 = 0xFFFF then none
  else
    let cap := field v 15 0 * 256000000
    let b := (assocGetD s.core.shapers (g, cls) { level := cap, at_ := s.now }).fill (field v 31 16 * 100000) cap s.now
    some (b, cap)

/-- The shaper of a head's class allows it: the bucket holds its LEN, or is full (DESIGN CHOICE, log entry 145). -/
def State.shaperLets (s : State) (g : Nat) (d : Desc) : Bool :=
  match s.shaper g d.cls with
  | none => true
  | some (b, cap) => decide (((d.len * 1000000 : Nat) : Int) ≤ b.level) || decide (b.level = (cap : Int))

/-- PART_MAX_RATE caps a partition. -/
def State.capped (s : State) (p : Nat) : Bool := p < 64 && s.getDef (Key.PART_MAX_RATE + p) 0xFFFF ≠ 0xFFFF

/-- What a limb holds for a partition. -/
def State.allotment (s : State) (l p : Nat) : Int := assocGetD s.core.allotments (l, p) 0

/-- The partition's allotment holds a head's LEN. -/
def State.allotLets (s : State) (g : Nat) (d : Desc) : Bool := !s.capped d.part || (d.len : Int) ≤ s.allotment (limbOf g) d.part

/-! ### Counter events that time brings (R97, R196, R238, R524) -/

/-- R154, R524: core cycles of a clock domain, numbered as the freeze groups, from one instant to another: between 1.990 and 2.000 to
the ns; how many is a free value (DEDUCED, log entry 66). -/
def coreCycles (domain from_ to_ : Nat) : Nat :=
  let dt := to_ - from_
  let least := ceilDiv (199 * dt) 100
  least + Config.clockDrift domain to_ % (2 * dt - least + 1)

/-- R162: how long a C7 head of an egress waits for tokens, in ns, at most `most`; 0 where none waits. -/
def State.c7Wait (s : State) (g most : Nat) : Nat :=
  ((s.headsOf g).filter (fun d => d.cls = 7 && !s.c7May g d.len)).foldl (fun n d =>
    let lack := (min ((d.len * 1000000 : Nat) : Int) 4096000000 - (s.c7Bucket g).level).toNat
    max n (if s.c7Rate g = 0 then most else min most (ceilDiv lack (s.c7Rate g)))) 0

/-- R235: an eligible head of an egress waits for its partition's allotment alone. -/
def State.allotWaits (s : State) (g : Nat) : Bool := (s.headsOf g).any (fun d => d.cls ≠ 7 && s.shaperLets g d && !s.allotLets g d)

/-- The twigs of a limb. -/
def limbTwigs (l : Nat) : List Nat := (List.range 160).filter (fun g => limbOf g == l)

/-- R171: a lossless message waits because the intake of a stem has refused it. -/
def State.intakeRefuses (s : State) (d : Nat) : Bool :=
  s.core.waiting.any (fun w => w.refused && w.descs.any (fun x => x.egress == 160 + d && x.cls ≠ 6))

/-- How much a counter's time-driven event adds up to an instant, by the state in which the time passed (DEDUCED, log entry 66). -/
def State.timeCount (s : State) (to_ n : Nat) : Nat :=
  let cycles := coreCycles (counterGroup n) s.now to_
  let port := s.hport (portOfG (n / 16))
  let owns : Bool := s.portLowG (n / 16) = n / 16
  match field (s.get (Key.CNT_CTL + n)) 9 0 with
  | 0x001 => cycles
  | 0x002 => if s.power.ref25 then to_ / 40 - s.now / 40 else 0
  | 0x10C => if owns && (port.lstate = .l1 || port.lstate = .l11 || port.lstate = .l12) then cycles else 0
  | 0x10D => if owns && port.lstate = .l0 && port.l0pWidth < port.width then cycles else 0
  | 0x20B =>
    let ns := (limbTwigs ((n - 2880) / 16)).foldl (fun m g => max m (s.c7Wait g (to_ - s.now))) 0
    coreCycles (counterGroup n) s.now (s.now + ns)
  | 0x20D => if s.sharedFree ((n - 2880) / 16) ≤ 0 then cycles else 0
  | 0x213 => if (limbTwigs ((n - 2880) / 16)).any s.allotWaits then cycles else 0
  | 0x285 => if s.intakeRefuses ((n - 3008) / 16) then cycles else 0
  | _ => 0

/-- The counters that select an event and count. -/
def State.selected (s : State) : List Nat :=
  ((s.dict.map (·.1)).filter (fun k => Key.CNT_CTL ≤ k && k < Key.CNT_CTL + 3136)).map (· - Key.CNT_CTL) |>.filter s.counting

/-! ### Passing time -/

/-- The instant of a command: the local count never runs back, and what left the module before is gone; then what the time between has
brought is counted, while the module is powered. -/
def State.reach (s : State) (t : Nat) : State :=
  { s with out := [], now := max s.now t, time := s.time.advance (max s.now t - s.now) }
def State.tick (s : State) (t : Nat) : State :=
  (s.reach t).each (if s.power.standby then s.selected else []) (fun u n => u.addCounterEv n (s.timeCount (max s.now t) n))

/-- The shape of every meaning: time passes to the command's instant, then the effect takes place; the queue is not the command's to
change (DESIGN CHOICE, log entry 1) (DESIGN CHOICE, log entry 162). -/
def act1 (s : State) (t : Nat) (f : State → State) : Host.Outcome State Fault Refusal :=
  .next { f (s.tick t) with pending := s.pending }


end Sys2Proof.Machine
end

