-- ==== Sys2Proof/Machine/Links.lean ====
section
/-! DEFINITION. What follows when links, units and partitions go down, as shared operations: the time unit's loss of its
upstream (R47, R49), an H-link going down (R33, R98), a trunk leaving L0 (R142, R143, R554), partition resets (R225 to R228),
containment (R377 to R380, R392), F3 and F4 (R384, R385), and the end of every command that may raise one
(`State.settle`). -/

namespace Sys2Proof.Machine

/-! ### Records (R405, R471, R472) -/

/-- Lengths of BLOB entries, by key. -/
def blobLen (key : Nat) : Nat :=
  if key / 0x1000 = 0x640 then 24
  else if key / 0x1000 = 0x910 then 40
  else if key / 256 = 0xE010 then 52
  else if key = Key.MGMT_IPV6 then 16
  else if key = Key.MGMT_MAC then 6
  else if key = Key.IDENTITY_CERT then 1024
  else if key / 256 = 0xD012 then 48
  else if key = Key.GRAFT_CHUNK then 1028
  else if key / 256 = 0xA280 then 16
  else 96

/-- The wire form's bytes of a type (R405), without the length field of BLOB and STR. -/
def EType.bytes (ty : EType) (key : Nat) : Nat :=
  match ty with
  | .bool | .u8 => 1
  | .u16 => 2
  | .u32 | .i32 => 4
  | .u64 | .ft64 => 8
  | .key384 => 97
  | .str => 11
  | .blob => blobLen key

/-- The bytes that a value takes in a record. -/
def valueBytes (key : Nat) : Nat :=
  match entryOf key with
  | some e => e.ty.bytes key + (if e.ty = .blob || e.ty = .str then 2 else 0)
  | none => 0

/-- Bytes of the STAGE bodies of a set. -/
def ChangeSet.stageBytes (c : ChangeSet) : Nat := (c.stages.map (fun b => 12 + valueBytes (256 * b.index + b.sub))).sum

/-- R472: the STAGE bodies of a set as its SET_STAGES records carry them: whole bodies, at most 4,024 bytes of them to a record;
each with the STAGE_NO of its first. -/
def ChangeSet.chunks (c : ChangeSet) : List (Nat × List StageBody) :=
  let r := c.stages.zipIdx.foldl (fun (a : List (Nat × List StageBody) × Nat) e =>
    let n := 12 + valueBytes (256 * e.1.index + e.1.sub)
    match a.1 with
    | (k, l) :: rest => if a.2 + n ≤ 4024 then ((k, l ++ [e.1]) :: rest, a.2 + n) else ((e.2, [e.1]) :: a.1, n)
    | [] => ([(e.2, [e.1])], n)) ([], 0)
  r.1.reverse

/-- Record numbers that one entry of the model's list stands for: a set is its SET_BEGIN, SET_STAGES and SET_END (DEDUCED, log entry 79).
-/
def JBody.numbers : JBody → Nat
  | .set cs _ => 2 + cs.chunks.length
  | _ => 1

/-- Bytes of the body; of a set, of all its records together, the further headers and trailers included (DEDUCED, log entry 79) (DESIGN
CHOICE, log entry 142). -/
def JBody.bytes : JBody → Nat
  | .write i sub _ _ _ => 16 + 2 * valueBytes (256 * i + sub)
  | .keySeq _ => 8
  | .set cs _ => 272 + 8 + cs.stageBytes + 72 * (1 + cs.chunks.length)
  | .setState _ _ _ => 13
  | .history _ _ => 4 + 64 * 16
  | .graft _ _ _ _ => 54
  | .start _ _ _ => 3
  | .zeroize _ => 10
  | .ringOpen _ _ => 8
  | .snapBegin _ _ => 12
  | .snapEnd _ _ => 12

/-- R471: bytes of a record: header, body and trailer, a multiple of 8. -/
def JRecord.bytes (r : JRecord) : Nat := ceilDiv (64 + r.body.bytes) 8 * 8

/-! ### FAULT_STATE (R401) -/

/-- R401: CROWN of FAULT_STATE. -/
def CrownFault.code : CrownFault → Nat
  | .normal => 0
  | .f3Open => 1
  | .f3Acked => 2
  | .f4Latched => 3

/-- R401: FAULT_STATE. -/
def State.faultWord (s : State) : Nat :=
  let f := s.faults
  let armed := (f.inject.filter (·.getLsbD 31)).length
  let open2 := (f.history.filter (fun h => h.cls == 2 && (match h.window with | some w => s.now < w | none => false))).length
  f.crown.code * 2 ^ 28 + f.frozen.toNat * 2 ^ 27 + f.f4cause % 8 * 2 ^ 24 + armed * 2 ^ 16 + open2 % 2 ^ 16

/-! ### Journal records formed by the module (R471, R473) -/

/-- R468: bytes of a ring. -/
def ringSize : Nat := 0x40000

/-- A record in the making: its number, and what waits for it. -/
def State.pendingRecord (s : State) (rno keyId : Nat) (parts : BitVec 64) (req : Option Req) (who : Role) (write : Option (Nat × Nat))
    (answer : Option Answer) (b : JBody) : PendingRecord :=
  { record := { rno := rno, timeState := s.time.mode.code, ft := s.stampFt, keyId := keyId, parts := parts, body := b },
    req := req, who := who, write := write, answer := answer }

/-- Rings that `n` further bytes open: no record spans two, and RING_OPEN stands first in each (R471, R472) (DESIGN CHOICE, log entry
124). -/
def Journal.opens (j : Journal) (n : Nat) : Nat :=
  if j.ringBytes + n ≤ ringSize then 0 else ceilDiv (j.ringBytes + n - ringSize) (ringSize - 72)

/-- Bytes of the last ring in use after `n` further bytes (DESIGN CHOICE, log entry 124). -/
def Journal.lastRing (j : Journal) (n : Nat) : Nat :=
  if j.opens n = 0 then j.ringBytes + n
  else if n ≤ 4096 then 72 + n
  else 72 + (j.ringBytes + n - ringSize - (j.opens n - 1) * (ringSize - 72))

/-- A record is formed with the next number, with what waits for it to be whole; the rings that it opens are opened before it. -/
def State.jForm (s : State) (keyId : Nat) (parts : BitVec 64) (req : Option Req) (who : Role) (write : Option (Nat × Nat))
    (answer : Option Answer) (b : JBody) : State :=
  let j := s.journal
  let n := JRecord.bytes { rno := 0, timeState := 0, ft := 0, keyId := 0, parts := 0, body := b }
  let k := j.opens n
  let opened := (List.range k).map (fun i =>
    s.pendingRecord (j.nextRno + i) 0 0 none .anonymous none none (.ringOpen j.setGen (j.usedRings + i)))
  s.modJournal (fun j => { j with
    inFlight := j.inFlight ++ opened ++ [s.pendingRecord (j.nextRno + k) keyId parts req who write answer b],
    nextRno := j.nextRno + k + b.numbers, usedRings := j.usedRings + k, ringBytes := j.lastRing n })

/-- A record of the module's own, for which nothing waits. -/
def State.jAppend (s : State) (b : JBody) : State := s.jForm 0 0 none .anonymous none none b

/-! ### The time unit loses or changes its upstream (R39, R45, R47, R49) -/

/-- R39: a trunk carries a crown's announcement while a copy has arrived on it within 3 ms; its least HOPS. -/
def State.carries (s : State) (q crown : Nat) : Option Nat :=
  if s.trunkUp q then
    ((s.trunk q).heard.find? (fun h => h.crown == crown && s.now ≤ h.at_ + 3000000)).map (·.hops)
  else none

/-- R45: the upstream trunk for a master: fewest hops, then lowest number; with the crown's own hop count. -/
def State.chooseUpstream (s : State) (master : Nat) : Option (Nat × Nat) :=
  (List.range 16).foldl (fun b q =>
    match s.carries q master, b with
    | some h, none => some (q, h + 1)
    | some h, some (q', h') => if h + 1 < h' then some (q, h + 1) else some (q', h')
    | none, b => b) none

/-- MASTER_CROWN changes; the event carries the new master's ID (R66). -/
def State.setMaster (s : State) (m : Option Nat) (key : Nat) : State :=
  let s' := s.modTime (fun u => { u with master := m, masterKey := key })
  if m = s.time.master then s' else s'.noteAt 0xBE2 (m.getD 0xFFFF) 0

/-- R40, R47, R49: the crown enters HOLDOVER (DESIGN CHOICE, log entry 59). -/
def State.enterHoldover (s : State) : State :=
  let base := match s.time.mode with
    | .master => 1
    | _ => s.uncertainty
  let s := s.modTime (fun u => { u with
    mode := .holdover, holdBase := base, holdSince := s.now, upstream := none, hops := 0xFF, fast := false, fresh := false, offset := 0, slewRem := 0,
    goodMarkers := 0, officeSince := none, lowestKey := 0x7FFFF, lowestSince := s.now })
  let s := s.setMaster none 0x7FFFF
  s.noteAt 0xBE1 (min base 0xFFFF) 0

/-- R47: the upstream trunk is lost: another trunk that carries the same master, else holdover. -/
def State.upstreamLost (s : State) : State :=
  match s.time.master with
  | some m =>
    match s.chooseUpstream m with
    | some (q, h) => (s.modTime (fun u => { u with upstream := some q, hops := h, goodMarkers := 0 })).modTrunk q
        (fun k => { k with validAt := s.now })
    | none => s.enterHoldover
  | none => s.enterHoldover

/-- A trunk left L0: what the time unit makes of it. -/
def State.timeTrunkDown (s : State) (q : Nat) : State :=
  let s := s.modTrunk q (fun k => { k with heard := [] })
  if s.time.upstream = some q && (s.time.mode = .locked || s.time.mode = .acquiring) then s.upstreamLost else s

/-! ### Reduction rounds abort (R355) -/

/-- A context's fields (R349) from its 40 bytes. -/
structure RedCtx where
  parts : Nat
  format : Nat
  redop : Nat
  sat : Bool
  root : Bool
  valid : Bool
  parentSlot : Nat
  localN : Nat
  childN : Nat
  parent : Nat
  mcGroup : Nat
  carrierGp : Nat
  timeout : Nat
  len : Nat
  stage : Nat
  deriving DecidableEq, Repr

/-- Byte `i` to `j` of a BLOB of `n` bytes held as the number its bytes spell. -/
def blobField (v n i j : Nat) : Nat := v / 256 ^ (n - 1 - j) % 256 ^ (j - i + 1)

def RedCtx.ofNat (v : Nat) : RedCtx :=
  let f := fun i j => blobField v 40 i j
  { parts := f 0 7, format := f 8 8, redop := f 9 9, sat := bitOf (f 10 10) 0, root := bitOf (f 10 10) 1,
    valid := bitOf (f 10 10) 7, parentSlot := f 11 11, localN := f 12 13, childN := f 14 14,
    parent := f 16 17 % 1024, mcGroup := f 18 19 % 4096, carrierGp := f 20 21 % 4096, timeout := f 22 23,
    len := f 24 27, stage := f 32 39 % 2 ^ 46 }

/-- REDUCE_CTX of a context. -/
def State.redCtx (s : State) (ctx : Nat) : RedCtx := RedCtx.ofNat (s.getDef (Key.REDUCE_CTX + ctx) 0)

/-- A context's round at this node. -/
def State.redRound (s : State) (ctx : Nat) : RedRound :=
  (s.engines.rounds.find? (·.ctx == ctx)).getD
    { ctx := ctx, round := 0, started := none, inputs := [], folded := [], held := [], waiters := [], early := [], cls := 0 }

/-- A contribution's descriptor completes; its ring is released already once the contribution has been read. -/
def State.contribDone (s : State) (w : RedWaiter) (status result : Nat) : State :=
  (if w.read then s else s.ringRelease w.pos).ringRecord w.pos status result w.user w.intr

/-- Setting it. -/
def State.setRound (s : State) (r : RedRound) : State :=
  s.modEngines (fun e => { e with rounds := e.rounds.filter (·.ctx ≠ r.ctx) ++ [r] })

/-- R195: the trunks that a multicast group lists: bytes 18 and 19 of its 24. -/
def groupTrunks (v : Nat) : List Nat :=
  (List.range 16).filter (fun q => bitOf (blobField v 24 (18 + q / 8) (18 + q / 8)) (q % 8))

/-- R195: the H-ports that it lists. -/
def groupPorts (v : Nat) : List Nat :=
  (List.range 144).filter (fun p => bitOf (blobField v 24 (p / 8) (p / 8)) (p % 8))

/-- R195: heartwood delivery. -/
def groupHeart (v : Nat) : Bool := bitOf (blobField v 24 20 20) 0

/-- MCAST_GROUP of a group. -/
def State.mcastGroup (s : State) (gr : Nat) : Nat := s.getDef (Key.MCAST_GROUP + gr) 0

/-- The descriptor of an engine message of this crown towards a trunk (R352). -/
def State.engineDesc (s : State) (q dest gp cls : Nat) (mcast : Bool) (m : EngineMsg) : Desc :=
  let len := 32 + m.data.length
  let flow := flowOf s.crownId gp 0 0xF0 cls
  { id := 0, egress := gOfTrunk q, cells := ceilDiv m.data.length 256, cls := cls, kind := 3, ro := false, ido := false,
    ns := false, mcast := if mcast then some 0 else none, cut := false, colour := 0, mark := false,
    poison := false, part := (s.partOfGp gp).getD noPart, src := 0xF0, reqId := 0, len := len, order := 0,
    destCrown := if mcast then ((s.trunk q).peer.map (·.1)).getD 0 else dest, gpart := gp, flow := flow, hops := s.getDef Key.ROUTE_HOP_LIMIT 8 - 1,
    srcCrown := s.crownId, msg := .engine m, rclass := .engine, arrived := len, eligible := true,
    nullified := false, endedOnce := false, sentFus := 0, lastSeq := none, epoch := s.gates.epoch, heart := none }

/-- R352, R161: an engine message of this crown towards another: admitted, or it waits at the heartwood's own ingress. -/
def State.engineTo (s : State) (q dest gp cls : Nat) (m : EngineMsg) : State := s.submit 0xF0 none [s.engineDesc q dest gp cls false m]

/-- R353, R182: an engine message of this crown into a group: one copy for each trunk of it, admitted together. -/
def State.engineGroup (s : State) (qs : List Nat) (gp cls : Nat) (m : EngineMsg) : State :=
  s.submit 0xF0 none (qs.map (fun q => s.engineDesc q 0 gp cls true m))

/-- R366: the engine of a context: CTX mod 32, or the first online one after it. -/
def State.ctxEngine (s : State) (ctx : Nat) : Nat :=
  ((List.range 32).map (fun k => (ctx + k) % 32)).find? (fun e => e ∉ s.engines.offline) |>.getD (ctx % 32)

/-- The REDUCE_ABORT of the waiting local descriptors of one round of a context. -/
def State.abortWaiters (s : State) (ctx : Nat) (round : BitVec 4) : State :=
  let r := s.redRound ctx
  let s := s.each (r.waiters.filter (fun w => w.live && w.round == round)) (fun s w =>
    s.contribDone w 7 round.toNat)
  s.setRound { r with waiters := r.waiters.filter (fun w => w.round ≠ round) }

/-- R354: the next round begins with the inputs that waited for it; they still want their staging slots. -/
def State.nextRound (s : State) (ctx : Nat) : State :=
  let r := s.redRound ctx
  s.setRound { r with round := r.round + 1, started := if r.early.isEmpty then none else some s.now, inputs := [],
                      folded := [], held := r.early.map (·.2), early := [] }

/-- R355: this node aborts its round: waiting local descriptors complete with REDUCE_ABORT, the node moves on to the next
round and raises REDUCE_ABORTED. -/
def State.reduceAbortHere (s : State) (ctx : Nat) : State :=
  let s := (s.abortWaiters ctx (s.redRound ctx).round).nextRound ctx
  (s.countHeart 0x3A4 1).noteAt (srcEngine (s.ctxEngine ctx) 3) ctx 0

/-- R355: the abort message to the parent and into MCGROUP. -/
def State.reduceAbortSend (s : State) (ctx round : Nat) : State :=
  let c := s.redCtx ctx
  let r := s.redRound ctx
  let m : EngineMsg := { kind := 2, ctx := ctx, round := round, chunk := 0, slot := c.parentSlot, data := [] }
  let s := if c.root then s else
    match s.routeOrHome c.parent (flowOf s.crownId c.carrierGp 0 0xF0 r.cls) with
    | some q => s.engineTo q c.parent c.carrierGp r.cls m
    | none => s
  s.engineGroup (groupTrunks (s.mcastGroup c.mcGroup)) c.carrierGp r.cls m

/-- R355: a node aborts its round in progress. -/
def State.reduceAbort (s : State) (ctx : Nat) : State :=
  let r := s.redRound ctx
  if r.started.isNone then s
  else (s.reduceAbortSend ctx r.round.toNat).reduceAbortHere ctx

/-- The descriptors of a function whose contributions have been read and wait for their results (R345). -/
def State.takenContribs (s : State) (p f : Nat) : List Nat :=
  s.engines.rounds.flatMap (fun r => (r.waiters.filter (fun w => w.live && w.read && w.pos.part == p && w.pos.vf == f)).map (·.pos.index))

/-- R363: the waiting contributors of a function write no result any more. -/
def State.deadWaiters (s : State) (p f : Nat) : State :=
  s.modEngines (fun e => { e with rounds := e.rounds.map (fun r => { r with waiters := r.waiters.map (fun w =>
    if w.pos.part = p && w.pos.vf = f then { w with live := false } else w) }) })

/-- R355: the partition of a waiting contributor resets: the round that it waits for aborts. -/
def State.reducePartReset (s : State) (p : Nat) : State :=
  s.each (s.engines.rounds.filter (fun r => r.waiters.any (fun w => w.live && w.pos.part == p))) (fun s r =>
    if r.waiters.any (fun w => w.live && w.pos.part == p && w.round == r.round) then s.reduceAbort r.ctx
    else s.each ((r.waiters.filter (fun w => w.live && w.pos.part == p)).map (·.round)) (fun s k => s.abortWaiters r.ctx k))

/-- R355: the contexts whose parent or a child lies beyond a trunk. -/
def State.reduceTrunkDown (s : State) (q : Nat) : State :=
  let far := (s.trunk q).peer
  s.each ((s.engines.rounds.filter (fun r =>
    let c := s.redCtx r.ctx
    r.started.isSome && ((!c.root && (match far with | some (x, _) => x == c.parent | none => false)) ||
      (groupTrunks (s.mcastGroup c.mcGroup)).contains q))).map (·.ctx)) State.reduceAbort

/-- R366: an engine goes offline: its descriptor completes with ENG_FAULT, the rounds of its contexts abort. -/
def State.engineOffline (s : State) (e : Nat) : State :=
  if e ∈ s.engines.offline || 32 ≤ e then s
  else
    let run := s.engines.busy.find? (·.1 == e)
    let mine := (s.engines.rounds.filter (fun r => s.ctxEngine r.ctx == e)).map (·.ctx)
    let s := s.modEngines (fun x => { x with offline := x.offline ++ [e], busy := x.busy.filter (fun b => b.1 ≠ e),
                                             moved := assocErase x.moved e })
    let s := match run with
      | some (_, p, vf) =>
        let r := ((s.part p).fn vf).ring
        if r.fetched = 0 then s
        else s.ringComplete { part := p, vf := vf,
                              index := (r.head.toNat + 2 ^ r.log2Size - r.fetched) % 2 ^ r.log2Size } 9 0 0 true
      | none => s
    s.each mine State.reduceAbort

/-! ### Locks (R20, R298) -/

/-- A lock breaks: the twig and the semaphore are released, and the next request of the sequence will be refused. -/
def State.breakLock (s : State) (b : Nat) : State :=
  match s.fabric.locks.find? (·.bough == b) with
  | none => s
  | some k =>
    let s := s.modFabric (fun f => { f with locks := f.locks.filter (·.bough ≠ b), broken := insertNew f.broken k.part })
    let s := match k.via with
      | some q => (match (s.trunk q).peer with
          | some (c, _) => s.emit (.signal c (s.groveId k.part) "unlock" [k.twig])
          | none => s)
      | none => s
    (s.countBough b 0x30F 1).noteFree (srcBough b 3) 0

/-- Locks whose target twig goes offline, or whose bough is reset or contained. -/
def State.breakLocks (s : State) (test : LockState → Bool) : State :=
  s.each ((s.fabric.locks.filter test).map (·.bough)) State.breakLock

/-! ### Trunks leave L0 (R142, R143, R554) -/

/-- R143: a fate query over another path to the far crown; each new query takes the next path. -/
def State.sendFateQuery (s : State) (q : Nat) : State :=
  match (s.trunk q).peer with
  | none => s
  | some (far, ft) =>
    let no := (s.trunk q).tx.fateNo + 1
    let s := s.modTx q (fun x => { x with fateNo := no, fateSent := s.now })
    let paths := (s.membersFor far).filter (fun r => r ≠ q && s.trunkUp r)
    match paths[no.toNat % max 1 paths.length]? with
    | some r => s.modTx r (fun x => { x with ctl := x.ctl ++ [.fateQuery far s.crownId ft no] })
    | none => s

/-- The reserve slots free once the accepted parts of open messages are dropped (R281). -/
def freedRsv (os : List OpenMsg) (l : List Nat) : List Nat :=
  l.zipIdx.map (fun e => e.1 + ((os.filter (·.cls == e.2)).map (·.rsv)).sum)

/-- The trunk goes to `to_` from whatever state: training starts afresh, TRUNK_DOWN is raised and counted (R142, R152, R554). Where it was in
L0 the receive side freezes RX_LAST and drops the accepted parts of open messages (R281), and dependants follow (DEDUCED, log entry 64). -/
def State.trunkLeave (s : State) (q : Nat) (to_ : TState) (requested : Bool) : State :=
  let wasUp := s.trunkUp q
  let g := gOfTrunk q
  let s := s.modTrunk q (fun k => { k with
    tstate := to_, rate := 0, crypt := false,
    train := { Training.reset with since := s.now, failed := k.train.failed },
    tx := { k.tx with replayAt := none, paused := false, openDesc := [], offerOut := none, newKey := none, keyPhase := false, resend := [],
                      frozen := if wasUp then true else k.tx.frozen,
                      lostAt := if wasUp then s.now else k.tx.lostAt },
    rx := { k.rx with openMsgs := [], freeRsv := freedRsv k.rx.openMsgs k.rx.freeRsv,
                      freeShared := k.rx.freeShared + (k.rx.openMsgs.map (·.shared)).sum, nakPending := false, nakToSend := false, rekeyKey := none } })
  let s := (s.countTwig g 0x18F 1).noteFree (srcTwig g 1) (if requested then 0 else 2)
  if wasUp then
    let s := s.breakLocks (fun k => k.via == some q)
    let s := s.reduceTrunkDown q
    s.timeTrunkDown q
  else s

/-- R143, R144, R281: the fate queries about a trunk that wait are answered once it has left L0 and every whole message up
to RX_LAST in its pool has been admitted or discarded. -/
def State.answerQueries (s : State) (q : Nat) : State :=
  let x := (s.trunk q).rx
  if s.trunkUp q || !x.pool.isEmpty then s
  else
    let s := s.each x.queries (fun s e =>
      s.controlTo e.2.1 (.fateAnswer e.2.1 e.2.1 q e.2.2.1 x.rxLast s.crownId))
    s.modRx q (fun x => { x with queries := [] })

/-- R554: a T-twig goes offline: a requested retrain first; then its queue and its replay buffer are discarded, so that
LINK_INIT states RESUME 0. Queries that wait are answered. A trunk whose TP_ENABLE reads 0 is held in DISABLED (R149). -/
def State.trunkOffline (s : State) (q : Nat) (to_ : TState) : State :=
  let s := s.trunkLeave q (if s.get (Key.TP_ENABLE + q) = 0 then .disabled else to_) true
  let s := s.drainTwig (gOfTrunk q)
  (s.modTx q (fun x => { x with buf := [], ctl := [], frozen := false, handedOver := true })).answerQueries q

/-! ### H-links go down (R33, R98, R99) -/

/-- R96, R97: the H-port named by a twig's port. -/
def State.hportOfG (s : State) (g : Nat) : Nat := portOfG (s.portLowG g)

/-- R84: the margining of a port's lanes ends with its link, and their accumulators are clear. -/
def State.quietLanes (s : State) (p : Nat) : State :=
  s.each (List.range (4 * s.portTwigs (gOfPort p))) (fun s k => s.modLane (4 * p + k) (fun l =>
    { l with margining := none, acc := List.replicate 12 0 }))

/-- The link of port `p` goes to Detect (or Disabled), with LINK_DOWN if it was up. A link that failed (cause 7) is an F2 event at twig
level that reports only: ACTION 0, and nothing is contained (DESIGN CHOICE, log entry 170). -/
def State.hpDownCore (s : State) (p cause : Nat) : State :=
  let h := s.hport p
  let s := (s.modHPort p (fun h => { HPort.reset with
    lstate := if cause = 2 then .disabled else .detect, detectAt := s.now, order := h.order, railEvents := h.railEvents,
    protoErrors := h.protoErrors })).quietLanes p
  if h.up then s.noteAt (srcTwig (gOfPort p) 2) cause (if cause = 7 then 2 else 0) else s

/-- The bit of the specification's Slot Status that an event of a slot sets (PRESUMED, log entry 14). -/
def slotStatusBit (kind : Nat) : Nat :=
  match kind with
  | 0 => 0x8
  | 1 => 0x1
  | 2 => 0x4
  | 3 => 0x2
  | _ => 0x100

/-- R74, R207, R215: the crown that holds a VDP's twig tells the home crown of its slot and link. -/
def State.slotSignal (s : State) (p v kind : Nat) : State :=
  match s.homeCrown p with
  | some c =>
    let b := (s.part p).vdp v
    let h := s.hport (s.hportOfG (s.bind p v).twig)
    s.emit (.signal c (s.groveId p) "slot"
      [v, b.present.toNat, b.linkActive.toNat, (!b.powerOff).toNat, b.latch.toNat, h.rate, h.width, kind])
  | none => s

/-- A slot's state as the partition that holds it sees it; the home crown shows it (R215). -/
def State.slotEvent (s : State) (p v kind : Nat) : State :=
  if s.isHome p then
    (s.modVdp p v (fun b => { b with fields := assocMod b.fields .slotStatus 0 (fun x => x ||| slotStatusBit kind) })).emit
      (.slotEvent p v kind)
  else s.slotSignal p v kind

/-- Link-down with DPC on a whole-twig VDP (R33). -/
def State.vdpLinkDown (s : State) (p v : Nat) : State :=
  (s.modVdp p v (fun b => { b with linkActive := false, fields := assocPut b.fields .dpcStatus 1 })).slotEvent p v 4

/-- Surprise-down of a slice's VDP (R33, R392): presence clear, and Data Link Layer State Changed. -/
def State.sliceDown (s : State) (p v : Nat) : State :=
  ((s.modVdp p v (fun b => { b with present := false, linkActive := false })).slotEvent p v 0).slotEvent p v 4

/-! ### Partition resets (R225 to R228) -/

/-- A bridge after a partition reset: its registers at reset; the slot's physical side stays, a quarantine lifts (R392). -/
def Bridge.partReset (b : Bridge) : Bridge :=
  { Bridge.reset with present := b.present || b.quarantined, linkActive := false, live := b.live, farCopy := b.farCopy }

/-- Steps 1 to 4 and 6 of R225 (DEDUCED, log entry 148). -/
def State.partSteps (s : State) (p : Nat) : State :=
  let up := (s.upTwig p).map s.portLowG
  -- 1: admission stops
  let held := s.core.waiting.filter (fun w => w.descs.any (fun d => d.part = p))
  let s0 := s
  let s := s.modCore (fun c => { c with waiting := c.waiting.filter (fun w => w.descs.all (fun d => d.part ≠ p)) })
  let ours : Nat → Bool := fun g => match s.upTwig p with | some u => s.portLowG g == s.portLowG u | none => false
  let s := (s.modGates (fun x => { x with
    misses := x.misses.filter (fun m => !ours m.src), heldTlps := x.heldTlps.filter (fun e => !ours e.1) })).fcSettle s0
  -- 2: outstanding requests are cancelled
  let s := s.each ((held.filter (fun w => some w.src ≠ up)).filterMap (·.descs.head?)) (fun s d =>
    if d.kind = 1 then s.answerDesc d .aborted else s)
  let mine := s.core.outstanding.filter (·.part == p)
  let s := s.each mine (fun s r =>
    if some r.src = up then s else s.endNp r .aborted)
  let s := s.modCore (fun c => { c with outstanding := c.outstanding.filter (·.part ≠ p) })
  let far := s.fabric.tracks.filter (fun k => k.part == p && k.quarantined.isNone)
  let s := s.each far (fun s k => if some k.src = up then s else s.endTrack k .aborted)
  let s := s.modFabric (fun f => { f with tracks := f.tracks.map (fun k =>
    if k.part == p && k.quarantined.isNone then { k with quarantined := some s.now } else k) })
  let s := s.modPart p (fun x => { x with quarantinedTags := x.quarantinedTags ++ mine.map (fun r => (r.reqId, r.tag)) })
  -- 3: descriptors leave the queues, but those of messages that have begun on a trunk, which end there (R121)
  let gone := s.core.queues.filter (fun d => d.part == p && !(d.egress < 160 && isT d.egress && d.sentFus ≠ 0))
  let s := s.each gone (fun s d =>
    let s := if d.cut && d.arrived < d.len then s.cutAbort d else ((s.nullifyFlying d).freeCells d).dequeue d.id
    if d.egress < 160 then s.countLimb (limbOf d.egress) 0x212 1 else s)
  -- 4: vectors
  let s := s.modPart p (fun x => { x with
    discardEvents := true, fns := x.fns.map (fun e => (e.1, if e.1 = 0 then { e.2 with pendingVecs := [] } else e.2)) })
  -- 6: budgets
  s.modCore (fun c => { c with deficits := c.deficits.filter (fun e => e.1.2.2 ≠ p) })

/-- R380: a containment message to the grove. -/
def State.containMessage (s : State) (kind : Nat) (on : Bool) (twig gpart : Nat) : State :=
  let n := s.fabric.containNumber + 1
  let s := s.modFabric (fun f => { f with containNumber := n })
  let s := s.countHeart 0x3B5 1
  s.sendControl (fun _ => true)
    (.containment { reporter := s.crownId, kind := kind, contained := on, twig := twig, gpart := gpart, number := n, ft := s.stampFt })

/-- R386, R392: the quarantine of a slice of this crown lifts; a partition of another crown hears of it. -/
def State.sliceLifted (s : State) (p g : Nat) : State := if s.isHome p then s else s.containMessage 3 false g (s.groveId p)

/-- Step 5 of R225: hot resets, function-level resets, the module's functions and every bridge register. -/
def State.partStep5 (s : State) (p : Nat) : State :=
  let mine := s.binds.filter (fun b => b.1 == p && b.2.2.crown == s.crownId)
  let s := s.each mine (fun s b =>
    if b.2.2.kind = 1 then (s.hpDownCore (portOfG b.2.2.twig) 1).emit (.link (portOfG b.2.2.twig) "hot reset" 0)
    else s.emitAll ((List.range (b.2.2.fnCount + 1)).map (fun f => Output.flr b.2.2.twig (b.2.2.fnFirst + f))))
  let s := s.each (mine.filter (fun b => b.2.2.kind == 2 && ((s.part p).vdp b.2.1).quarantined)) (fun s b => s.sliceLifted p b.2.2.twig)
  let s := s.reducePartReset p
  let until_ := s.now + s.cplTimeout p
  s.modPart p (fun x => { x with
    fns := x.fns.map (fun e => (e.1, (e.2.stop until_ []).resetTo)),
    evq := Part.reset.evq, mailbox := { x.mailbox with busy := false, ready := false, respLen := 0 }, spdm := [],
    upstream := x.upstream.partReset, vdps := x.vdps.map (fun e => (e.1, e.2.partReset)) })

/-- A holder has released a shared device (R230). -/
def State.released (s : State) (b : Nat × Nat × Binding) : Bool :=
  let st := (s.part b.1).state
  let v := (s.part b.1).vdp b.2.1
  v.powerOff || v.linkDisable || st = .resetting || st = .held || st = .contained || st = .unused

/-- R232: the conventional reset of a shared device begins: PERST# for 1 ms; the slots are empty until it is done (DEDUCED, log entry
119). -/
def State.sharedStart (s : State) (g : Nat) : State :=
  let p := portOfG g
  let s := s.modShared g (fun x => { x with mode := .resetting, since := s.now, rid := 0, stride := 0 })
  let s := s.perst p true
  let s := s.each (s.portMembers g) State.drainTwig
  let s := s.hpDownCore p 1
  s.each (s.slicesOf g) (fun s b => s.modVdp b.1 b.2.1 (fun x => { x with present := false, linkActive := false }))

/-- A deferred reset starts once every holder has released (R229). -/
def State.sharedCheck (s : State) (g : Nat) : State :=
  if (s.sharedOf g).mode = .pending && (s.slicesOf g).all s.released then s.sharedStart g else s

/-- Every shared device of which a partition holds a slice. -/
def State.sharedCheckPart (s : State) (p : Nat) : State :=
  s.each ((s.binds.filter (fun b => b.1 == p && b.2.2.kind == 2 && b.2.2.crown == s.crownId)).map (fun b => s.portLowG b.2.2.twig))
    State.sharedCheck

/-- R226: the crowns that a partition's bindings name, but this one (DEDUCED, log entry 190). -/
def State.memberCrowns (s : State) (p : Nat) : List Nat :=
  (s.binds.filter (fun b => b.1 == p && b.2.2.crown ≠ s.crownId)).foldl (fun l b => insertNew l b.2.2.crown) []

/-- R225, R226: a partition reset with its cause; absorbed while one runs or the partition is contained (R227). -/
def State.partReset (s : State) (p cause : Nat) : State :=
  if (s.part p).state = .resetting || (s.part p).state = .held || (s.part p).state = .contained || !s.partUsed p then s
  else
    let s := s.modPart p (fun x => { x with state := .resetting, cause := cause, count := x.count + 1, causeOn := true })
    let s := s.noteAt 0xBC0 p 0
    let s := (s.partSteps p).partStep5 p
    let s := if s.isHome p then
        s.emitAll ((s.memberCrowns p).map (fun c => Output.signal c (s.groveId p) "reset" []))
      else s
    s.sharedCheckPart p

/-- R226: a partition whose steps are complete returns to ACTIVE once the cause of its reset has ended; one that start-up holds
(cause 0) waits for R515. -/
def State.partCauseEnd (s : State) (p : Nat) : State :=
  let held : Bool := (s.part p).state = .held && (s.part p).cause ≠ 0
  let s := s.modPart p (fun x => { x with causeOn := false, state := if held then .active else x.state })
  if held then s.noteAt 0xBC1 p 0 else s

/-! ### Containment (R377 to R380, R228, R392) -/

/-- R228: a partition is contained; the message that R380 asks for leaves (DESIGN CHOICE, log entry 63). -/
def State.containPart (s : State) (p : Nat) (byInstaller : Bool) (byMessage : Option Nat) : State :=
  if (s.part p).state = .contained then
    s.modPart p (fun x => { x with installerHeld := x.installerHeld || byInstaller })
  else if !s.partUsed p then s
  else
    let s := (s.partSteps p).partStep5 p
    let s := s.modPart p (fun x => { x with state := .contained, cause := 5, count := x.count + 1, causeOn := true,
                                            installerHeld := byInstaller, messageHeld := byMessage })
    let s := if byMessage.isNone then s.containMessage 2 true 0 (s.groveId p) else s
    s.sharedCheckPart p

/-- R33: partitions meet the loss of a port's link. -/
def State.partsLinkDown (s : State) (g cause : Nat) : State :=
  let s := match s.upstreamPart g with
    | some p => s.partReset p cause
    | none => s
  let s := match s.wholeVdp g with
    | some (p, v) => if ((s.part p).vdp v).linkActive then s.vdpLinkDown p v else s
    | none => s
  s.each (s.slicesOf g) (fun s b => if ((s.part b.1).vdp b.2.1).present then s.sliceDown b.1 b.2.1 else s)

/-- An H-port's link goes down, with what partitions and queued traffic meet (R33, R34, R99). `cause` is that of LINK_DOWN,
`pcause` that of a partition reset (R240). -/
def State.hpDown (s : State) (p cause pcause : Nat) : State :=
  let g := gOfPort p
  let s := s.hpDownCore p cause
  let s := s.each (s.portMembers g) State.drainTwig
  let s := s.breakLocks (fun k => k.via.isNone && s.portLowG k.twig == g)
  s.partsLinkDown g pcause

/-- The ports of the H-twigs in a list of twigs, each once, by lowest twig. -/
def State.portsIn (s : State) (gs : List Nat) : List Nat :=
  (gs.filter (fun g => !isT g)).foldl (fun l g => insertNew l (s.portLowG g)) []

/-- R554: the trunks of the twigs that are about to stop leave L0, before the twigs are offline. -/
def State.stopTrunks (s : State) (gs : List Nat) (to_ : TState) : State :=
  s.each (gs.filter isT) (fun s g => s.trunkOffline (trunkOfG g) to_)

/-- The H-links of the twigs of a unit that stops go down. -/
def State.stopPorts (s : State) (gs : List Nat) (cause pcause : Nat) : State :=
  s.each (s.portsIn gs) (fun s g => s.hpDown (portOfG g) cause pcause)

/-- R379: a unit is already stopped: contained, in a reset, or power-gated, itself or within a larger unit. No die is ever power-gated
(R23, R36). -/
def State.alreadyStopped (s : State) (u : UnitId) : Bool :=
  s.hier.contained.any (fun v => u.inside v) || s.hier.resets.any (fun v => u.inside v) ||
    (match u with
      | .limb l => s.limbGated l
      | .twig g => s.limbGated (limbOf g)
      | .bough b => s.limbGated (limbOfBough b)
      | .die _ => false
      | .crown => false)

/-- LIMB_STATE of one limb changes, unless the limb is power-gated: it stays so (R22, R36). -/
def Hier.setLimb (h : Hier) (l : Nat) (st : UnitState) : Hier :=
  { h with limbs := h.limbs.modify l (fun x => if x = .gated then x else st) }

/-- LIMB_STATE and DIE_STATE of a contained unit (R36). -/
def Hier.takeDown (h : Hier) : UnitId → Hier
  | .limb l => h.setLimb l .offline
  | .die d => { (h.setLimb (2 * d) .offline).setLimb (2 * d + 1) .offline with dies := h.dies.set d .offline }
  | _ => h

/-- R377: a unit is contained; absorbed where R379 says so. -/
def State.contain (s : State) (u : UnitId) : State :=
  if s.alreadyStopped u then s
  else
    let s := (s.stopTrunks u.twigs .disabled).modHier (fun h => { Hier.takeDown h u with contained := h.contained.filter (fun v => !v.inside u) ++ [u] })
    let s := s.breakLocks (fun k => match u with
      | .bough b => k.bough == b
      | .limb l => limbOfBough k.bough == l
      | .die d => k.bough / 10 == d
      | _ => false)
    let s := s.stopPorts u.twigs 5 2
    -- R380: twigs bound to a partition whose home is another crown
    let remote := (s.binds.filter (fun b => b.2.2.crown == s.crownId && u.holds b.2.2.twig && !s.isHome b.1)).foldl
      (fun l b => insertNew l b.2.2.twig) []
    s.each remote (fun s g => s.containMessage 1 true g 0)

/-- R392: one holder of a shared twig is quarantined. -/
def State.quarantineSlice (s : State) (g p v : Nat) : State :=
  if ((s.part p).vdp v).quarantined then s
  else
    let mine := s.core.outstanding.filter (fun r => r.part == p && s.portLowG r.target == s.portLowG g)
    let s := s.each mine (fun s r => s.endNp r .aborted)
    let s := s.modCore (fun c => { c with outstanding := c.outstanding.filter (fun r =>
      !(r.part == p && s.portLowG r.target == s.portLowG g)) })
    let s := s.modPart p (fun x => { x with quarantinedTags := x.quarantinedTags ++ mine.map (fun r => (r.reqId, r.tag)) })
    let s := (s.modVdp p v (fun b => { b with quarantined := true })).sliceDown p v
    let s := s.note { src := 0xBC8, code := p, cls := 2, level := 7, unit := some (.twig g), part := some p, action := 6,
                      inj := false }
    if s.isHome p then s else s.containMessage 3 true g (s.groveId p)

/-! ### F3 and F4 (R384, R385) -/

/-- Every F2 window closes without escalation (R379). -/
def Faults.closeF2 (f : Faults) : Faults :=
  { f with history := f.history.map (fun h => if h.cls = 2 then { h with window := none } else h) }

/-- R286: the notice that sets or clears a crown's fence, numbered by this crown. -/
def State.fenceNotice (s : State) (crown : Nat) (set : Bool) : State :=
  let n := s.fabric.fenceNumber + 1
  let s := s.modFabric (fun f => { f with fenceNumber := n })
  s.sendControl (fun _ => true) (.fence { crown := crown, issuer := s.crownId, set := set, number := n, ft := s.stampFt })

/-- R384: freeze and copy the history, fence the crown, contain every partition. -/
def State.f3Steps (s : State) : State :=
  let s := (s.modFaults (fun f => { Faults.closeF2 f with frozen := true, crown := .f3Open })).modFabric (fun f => { f with ownFenced := true })
  let s := s.jAppend (.history s.faultWord s.faults.history)
  let s := s.fenceNotice s.crownId true
  s.each ((List.range 64).filter s.partUsed) (fun s p => s.containPart p false none)

/-- R385: F4 takes every step of F3, stops every twig, and latches. -/
def State.f4Steps (s : State) : State :=
  let s := if s.faults.crown = .normal then s.f3Steps else s
  let s := s.modFaults (fun f => { f with
    crown := .f4Latched,
    history := f.history.map (fun h => { h with window := none }) })
  let s := (s.stopTrunks (List.range 160) .disabled).modHier (fun h => { h with contained := [.crown] })
  s.stopPorts (List.range 160) 5 2

/-- The action of a storm (R372). -/
def State.stormAction (s : State) (src : Nat) : State × Nat × Nat × Option UnitId :=
  match unitOfSource src with
  | some u => (s.contain u, u.action, u.level, some u)
  | none =>
    if 0xB00 ≤ src && src < 0xB80 then (s.engineOffline ((src - 0xB00) / 4), 0, 6, none)
    else if 0xBF0 ≤ src && src < 0xC00 then (s.modFaults (fun f => { f with debugShut := true }), 0, 6, none)
    else (s, 0, 6, none)

/-- R372: F1_STORM for a source whose count passed F1_LIMIT in this interval. -/
def State.storm (s : State) (src : Nat) : State :=
  let s := s.modFaults (fun f => { f with stormed := f.stormed ++ [src] })
  let s := s.countHeart 0x3B1 1
  let a := s.stormAction src
  a.1.note { src := 0xBC6, code := src, cls := 2, level := a.2.2.1, unit := a.2.2.2, part := none, action := a.2.1, inj := false }

/-- R390: a count of violations passed its limit in this interval. -/
def State.violated (s : State) (k : ViolKey) : State :=
  let s := s.modFaults (fun f => { f with violDone := f.violDone ++ [k] })
  match k with
  | .twig g => (s.contain (.twig g)).note { Ev.plain (srcTwig g 15) 0 2 with action := 1 }
  | .holder g p =>
    (match (s.slicesOf g).find? (fun b => b.1 == p) with
      | some b => s.quarantineSlice g p b.2.1
      | none => s)
  | .part p => (s.containPart p false none).note
      { src := 0xBC7, code := p, cls := 2, level := 5, unit := none, part := some p, action := 5, inj := false }

/-- The limit of a count of violations. -/
def State.violLimit (s : State) : ViolKey → Nat
  | .twig _ => s.getDef Key.VIOL_LIMIT 0x40
  | _ => s.getDef Key.PART_VIOL_LIMIT 0x40

/-- Sources whose storm is due. -/
def State.stormsDue (s : State) : List Nat :=
  let lim := s.getDef Key.F1_LIMIT 100
  if lim = 0 then [] else (s.faults.f1Counts.filter (fun e => lim < e.2 && e.1 ∉ s.faults.stormed)).map (·.1)

/-- Counts of violations whose action is due. -/
def State.violsDue (s : State) : List ViolKey :=
  (s.faults.violCounts.filter (fun e => s.violLimit e.1 ≠ 0 && s.violLimit e.1 < e.2 && e.1 ∉ s.faults.violDone)).map (·.1)

/-- The crown-wide steps that an F3 or F4 event made due. F4 absorbs F3. -/
def State.crownSteps (s : State) : State :=
  let d := s.faults.due
  let s := s.modFaults (fun f => { f with due := 0 })
  if 4 ≤ d then (if s.faults.crown = .f4Latched then s else s.f4Steps)
  else if d = 3 && s.faults.crown = .normal then s.f3Steps
  else s

/-- What the collectors do within a command after its own effect: storms, limits of violations, F3 and F4 (DESIGN CHOICE, log entry 65).
-/
def State.settle (s : State) : State :=
  let s := s.each s.stormsDue State.storm
  let s := s.each s.violsDue State.violated
  s.crownSteps

/-- The shape of a meaning that may raise F1, F3 or F4 events or count violations (DESIGN CHOICE, log entry 65) (DESIGN CHOICE, log entry
162). -/
def act2 (s : State) (t : Nat) (f : State → State) : Host.Outcome State Fault Refusal :=
  .next { (f (s.tick t)).settle with pending := s.pending }

end Sys2Proof.Machine
end

