-- ==== Sys2Proof/Machine/Time.lean ====
section
/-! DEFINITION. Fabric time: election, announcements, markers, holdover, the external reference, the slot schedule and its
swap, maintenance slots (R37 to R66, R551, R552). -/

namespace Sys2Proof.Machine

/-! ### Election keys (R37, R38) -/

/-- TIME_PRIORITY. -/
def State.timePriority (s : State) : Nat := s.get Key.TIME_PRIORITY

/-- The crown counts in elections. -/
def State.electable (s : State) : Bool := s.timePriority ≠ 0xFF

/-- The external reference is enabled and valid. -/
def State.refOk (s : State) : Bool := s.get Key.TIME_REF_ENABLE ≠ 0 && s.time.refValid

/-- The crown's election key: NOREF, TIME_PRIORITY, crown ID (0x3FF while unassigned). -/
def State.ownKey (s : State) : Nat :=
  (if s.refOk then 0 else 2 ^ 18) + s.timePriority % 256 * 2 ^ 10 + (if s.crownId = 0xFFFF then 0x3FF else s.crownId % 1024)

/-- Some trunk is in L0. -/
def State.anyTrunkUp (s : State) : Bool := (List.range 16).any s.trunkUp

/-- R551: since when the crown is LOCKED with a lower key than its master's. -/
def State.officeCheck (s : State) : State :=
  s.modTime (fun u => { u with
    officeSince := if u.mode = .locked && s.electable && s.ownKey < u.masterKey then some (u.officeSince.getD s.now) else none })

/-- The lowest key of an election in holdover: the lowest heard, and the crown's own where its priority counts (R38, R40). -/
def State.electionLow (s : State) (own : Nat) : Nat :=
  if field own 17 10 = 0xFF then s.time.lowestKey else min own s.time.lowestKey

/-- R286: the notice that clears the crown's own fence once it has joined the grove again and time is locked (DESIGN CHOICE, log entry
61). -/
def State.clearOwnFence (s : State) : State :=
  if s.fabric.ownFenced && s.faults.crown = .normal && s.locked then
    (s.modFabric (fun f => { f with ownFenced := false })).fenceNotice s.crownId false
  else s

/-- R40: a crown in holdover takes part in an election only while one of its trunks is in L0: with the return of the first, the 10 ms
begin. With its first trunk in L0 a crown joins the grove, which may have fenced it meanwhile (R286; DESIGN CHOICE, log entry 61). -/
def State.timeTrunkUp (s : State) (q : Nat) : State :=
  let first : Bool := !(List.range 16).any (fun r => r ≠ q && s.trunkUp r)
  let s := (if first then s.modFabric (fun f => { f with ownFenced := true }) else s).clearOwnFence
  if s.time.mode = .holdover && first then
    s.modTime (fun u => { u with lowestKey := 0x7FFFF, lowestSince := s.now })
  else s

/-- R48: entering LOCKED or MASTER. -/
def State.enterLocked (s : State) : State := (s.noteFree 0xBE0 0).clearOwnFence

/-- R41: the crown becomes master; FT goes on from its own value. An unclaimed crown's MASTER_CROWN is the crown-ID field of its key, 0x3FF
(DESIGN CHOICE, log entry 165). -/
def State.becomeMaster (s : State) : State :=
  let s := s.modTime (fun u => { u with
    mode := .master, hops := 0, upstream := none, offset := 0, slewRem := 0, fast := false, fresh := false, officeSince := none, goodMarkers := 0 })
  let s := s.setMaster (some (s.ownKey % 1024)) s.ownKey
  s.enterLocked

/-- The crown's own key has changed from `old`: an election in holdover whose lowest key changes starts its 10 ms again (R40), a master
shows its new key, and the 10 ms of R551 begin or break. -/
def State.ownKeyChanged (s : State) (old : Nat) : State :=
  if s.ownKey = old then s
  else
    let s := if s.time.mode = .holdover && s.electionLow s.ownKey ≠ s.electionLow old then
        s.modTime (fun u => { u with lowestSince := s.now })
      else if s.time.mode = .master then s.setMaster (some (s.ownKey % 1024)) s.ownKey
      else s
    s.officeCheck

/-- R39: the announcement that this crown issues. -/
def State.ownAnnounce (s : State) (st : Nat) (seq : Seq16) : Announce :=
  { hops := 0, key := s.ownKey, masterState := st, seq := seq, ft := s.time.ft, sender := s.crownId % 1024 }

/-- The crown announces a key of its own: a master, and a crown in holdover that counts in elections (R38 to R40). -/
def State.announces (s : State) : Bool := s.time.mode = .master || (s.time.mode = .holdover && s.electable)

/-- R39, R40: a master announces every 1 ms; a crown in holdover offers its own key. -/
def timeAnnounceSendEffect (s : State) : State :=
  let st := if s.time.mode = .master then 4 else 3
  if s.announces then
    let seq := s.time.annSeq + 1
    (s.modTime (fun u => { u with annSeq := seq })).sendControl (fun _ => true) (.announce (s.ownAnnounce st seq))
  else s

/-- TIME_ANNOUNCE_SEND -/
def execTimeAnnounceSend (t : Nat) (s : State) : Host.Outcome State Fault Refusal :=
  act1 s t timeAnnounceSendEffect

/-- The upstream trunk for the present master is chosen again (R45). -/
def State.rechoose (s : State) : State :=
  match s.time.master with
  | none => s
  | some m =>
    match s.chooseUpstream m with
    | some (q, h) =>
      if s.time.upstream = some q then s.modTime (fun u => { u with hops := h })
      else (s.modTime (fun u => { u with upstream := some q, hops := h, goodMarkers := 0 })).modTrunk q
        (fun k => { k with validAt := s.now })
    | none => s

/-- R551: a new master with a lower key is followed (DESIGN CHOICE, log entry 59). -/
def State.follow (s : State) (crown key : Nat) : State := (s.setMaster (some crown) key).rechoose

/-- R39: marking a trunk with a copy of a crown's announcement. -/
def State.markHeard (s : State) (q crown hops key : Nat) : State :=
  s.modTrunk q (fun k => { k with
    heard := k.heard.filter (·.crown ≠ crown) ++ [{ crown := crown, hops := hops, key := key, at_ := s.now }] })

/-- What a taken copy does to the time unit, by its state. -/
def State.takeAnnounce (s : State) (a : Announce) : State :=
  let crown := a.key % 1024
  let counts : Bool := field a.key 17 10 ≠ 0xFF
  match s.time.mode with
  | .free =>
    if a.masterState = 4 then
      let ahead : Bool := s.time.ft < a.ft
      let s := s.modTime (fun u => { u with mode := .acquiring, ft := a.ft, fresh := true, offset := 0, goodMarkers := 0,
                                            fast := false, running := true, heardMaster := s.now })
      let s := if ahead then s.noteFree 0xBE6 0 else s
      s.follow crown a.key
    else s
  | .acquiring | .locked =>
    if s.time.master = some crown then
      let s := s.modTime (fun u => { u with masterKey := a.key, heardMaster := s.now })
      s.rechoose.officeCheck
    else if a.masterState = 4 && counts && a.key < s.time.masterKey then
      ((s.modTime (fun u => { u with heardMaster := s.now })).follow crown a.key).officeCheck
    else s
  | .holdover =>
    if counts && a.key < s.time.lowestKey then
      s.modTime (fun u => { u with lowestKey := a.key, lowestSince := if s.electable && s.ownKey < a.key then u.lowestSince else s.now })
    else s
  | .master =>
    if a.masterState = 4 && counts && a.key < s.ownKey then
      -- R551: step down; the first marker within 4 ns locks at once
      let s := s.modTime (fun u => { u with mode := .acquiring, goodMarkers := 15, offset := 0, heardMaster := s.now, upstream := none })
      let s := s.follow crown a.key
      s.modTime (fun u => { u with goodMarkers := 15 })
    else s

/-- R39: whether a taken copy is the best announcement that the crown holds: no copy that marks a trunk has a lower key, nor, of another
announcement under the same key, fewer hops; nor is the crown's own announcement better. Of one announcement only the first copy is
taken. -/
def State.bestHeld (s : State) (a : Announce) : Bool :=
  (List.range 16).all (fun q => !s.trunkUp q || (s.trunk q).heard.all (fun h =>
    h.at_ + 3000000 < s.now || a.key < h.key || (a.key = h.key && (h.crown = a.key % 1024 || a.hops ≤ h.hops)))) &&
    (!s.announces || a.key < s.ownKey)

/-- R40: no announcement of the master for 3 ms. -/
def masterLostEffect (s : State) : State :=
  if (s.time.mode = .locked || s.time.mode = .acquiring) && s.after s.time.heardMaster 3000000 then s.enterHoldover else s

/-- MASTER_LOST -/
def execMasterLost (t : Nat) (s : State) : Host.Outcome State Fault Refusal := act1 s t masterLostEffect

/-- R40: in holdover, with a trunk in L0, the lowest key heard, its own included, has stayed the same for 10 ms. -/
def electionSettledEffect (s : State) : State :=
  if s.time.mode = .holdover && s.anyTrunkUp && s.after s.time.lowestSince 10000000 then
    if s.electable && s.ownKey ≤ s.time.lowestKey then s.becomeMaster
    else if s.time.lowestKey < 0x7FFFF then
      let s := s.modTime (fun u => { u with mode := .acquiring, goodMarkers := 0, offset := 0, heardMaster := s.now })
      s.follow (s.time.lowestKey % 1024) s.time.lowestKey
    else s
  else s

/-- ELECTION_SETTLED -/
def execElectionSettled (t : Nat) (s : State) : Host.Outcome State Fault Refusal := act1 s t electionSettledEffect

/-- R551: LOCKED with a lower key than the master's for 10 ms without a break. -/
def takeOfficeEffect (s : State) : State :=
  match s.time.officeSince with
  | some t0 =>
    if s.time.mode = .locked && s.electable && s.ownKey < s.time.masterKey && s.after t0 10000000 then
      let s := s.becomeMaster
      let seq := s.time.annSeq + 1
      (s.modTime (fun u => { u with annSeq := seq })).sendControl (fun _ => true) (.announce (s.ownAnnounce 4 seq))
    else s
  | none => s

/-- TAKE_OFFICE -/
def execTakeOffice (t : Nat) (s : State) : Host.Outcome State Fault Refusal := act1 s t takeOfficeEffect

/-- R42: where FT starts at a cold start of the grove: rounded up to a whole second. -/
def State.coldFt (s : State) : Nat :=
  let j := match s.time.lastFtJournaled with | none => 0 | some ft => ft + 1000000000
  ceilDiv (max (s.get Key.FT_FLOOR) j) 1000000000 * 1000000000

/-- R42: a crown in FREE that has heard no announcement for 10 ms elects itself; with a valid reference FT starts at the
next pulse. -/
def selfElectEffect (s : State) : State :=
  if s.time.mode = .free && s.electable && s.after s.time.heardAny 10000000 then
    let s := s.modTime (fun u => { u with ft := s.coldFt, running := !s.refOk })
    s.becomeMaster
  else s

/-- SELF_ELECT -/
def execSelfElect (t : Nat) (s : State) : Host.Outcome State Fault Refusal := act1 s t selfElectEffect

/-! ### External reference (R43, R44) -/

/-- The reference becomes invalid at once, with its F1 event. A master that waited for a pulse to start FT starts it from its oscillator
(R42, R44). -/
def State.refInvalid (s : State) : State :=
  let was := s.time.refValid
  let key := s.ownKey
  let s := (s.modTime (fun u => { u with
    refValid := false, goodPulses := 0, running := u.running || s.power.ref25, rateNum := 1, rateDen := 1, rateRem := 0, pulseAt := none })).ownKeyChanged key
  if was then s.noteFree 0xBE7 1 else s

/-- R44: the rate of the reference against the local count, from two good pulses in a row. -/
def State.takeRate (s : State) (spacing : Nat) : State :=
  s.modTime (fun u =>
    let u := match u.pulseAt with
      | some t0 => if t0 < s.now then { u with rateNum := spacing, rateDen := s.now - t0, rateRem := 0 } else u
      | none => u
    { u with pulseAt := some s.now })

/-- R43: a pulse; `spacing` is what the 10 MHz input measured since the previous one, in ns. A master with a valid reference places it at
a whole second, by slewing (DEDUCED, log entry 49). -/
def timeRefPulseEffect (s : State) (spacing : Nat) : State :=
  let s := s.modTime (fun u => { u with ref10m := true })
  if s.get Key.TIME_REF_ENABLE = 0 || s.faults.debugInstr = .extest then s
  else
    let good : Bool := 999999000 ≤ spacing && spacing ≤ 1000001000
    if good then
      let key := s.ownKey
      let s := (s.modTime (fun u => { u with goodPulses := u.goodPulses + 1, refValid := u.refValid || 3 ≤ u.goodPulses + 1 })).takeRate spacing
      let s := s.ownKeyChanged key
      if s.time.mode = .master && s.time.refValid then
        if !s.time.running then s.modTime (fun u => { u with running := true })
        else
          let r := s.time.ft % 1000000000
          s.modTime (fun u => { u with offset := if r < 500000000 then (r : Int) else (r : Int) - 1000000000, fast := false, slewRem := 0 })
      else s
    else s.refInvalid

/-- TIME_REF_PULSE -/
def execTimeRefPulse (t spacing : Nat) (s : State) : Host.Outcome State Fault Refusal :=
  act2 s t (fun s => timeRefPulseEffect s spacing)

/-- TIME_REF_PULSE_MISSING (R43) -/
def execTimeRefPulseMissing (t : Nat) (s : State) : Host.Outcome State Fault Refusal :=
  act2 s t State.refInvalid

/-- R43: the 10 MHz input is lost. -/
def timeRef10mLostEffect (s : State) : State := (s.modTime (fun u => { u with ref10m := false })).refInvalid

/-- TIME_REF_10M_LOST -/
def execTimeRef10mLost (t : Nat) (s : State) : Host.Outcome State Fault Refusal := act2 s t timeRef10mLostEffect

/-! ### Markers (R45 to R51) -/

/-- R45: the one-way delay of a trunk in ns, corrected by TRUNK_ASYMMETRY (ps by which the receive delay exceeds the
transmit delay, an I32). -/
def State.oneWayNs (s : State) (q : Nat) : Int :=
  let raw := s.get (Key.TRUNK_ASYMMETRY + q)
  let asym : Int := if raw < 2 ^ 31 then (raw : Int) else (raw : Int) - 2 ^ 32
  (((s.trunk q).delayPs : Int) + asym / 2) / 1000

/-- R51, R48: a measured offset (local less master) is taken (DESIGN CHOICE, log entry 60). -/
def State.takeOffset (s : State) (off : Int) : State :=
  if s.time.fresh then
    let s := s.modTime (fun u => { u with ft := (u.ft - off).toNat, offset := 0, slewRem := 0, fresh := false, fast := false, goodMarkers := 1 })
    if off < 0 then s.noteFree 0xBE6 0 else s
  else
    let near : Bool := off.natAbs ≤ 4
    let s := s.modTime (fun u => { u with goodMarkers := if near then u.goodMarkers + 1 else 0 })
    let s :=
      if off.natAbs ≤ 2000 then s.modTime (fun u => { u with offset := off, fast := false, slewRem := if u.fast then 0 else u.slewRem })
      else if off < 0 then
        (s.modTime (fun u => { u with ft := (u.ft - off).toNat, offset := 0, slewRem := 0, fast := false })).noteFree 0xBE6 0
      else
        let was := s.time.fast
        let s := s.modTime (fun u => { u with offset := off, fast := true, slewRem := if u.fast then u.slewRem else 0 })
        if was then s else s.noteFree 0xBE8 0
    if s.time.mode = .acquiring && 16 ≤ s.time.goodMarkers then
      ((s.modTime (fun u => { u with mode := .locked })).enterLocked).officeCheck
    else if s.time.mode = .locked && !near then
      (s.modTime (fun u => { u with mode := .acquiring })).officeCheck
    else s

/-- R113: a marker period in ns by rate code. -/
def markerPeriodNs (rate : Nat) : Nat :=
  match rate with
  | 1 => 83609
  | 2 => 20902
  | _ => 10451

/-- R47: the upstream trunk has delivered no valid marker for four intervals. -/
def markerLossEffect (s : State) : State :=
  match s.time.upstream with
  | some q =>
    if (s.time.mode = .acquiring || s.time.mode = .locked) && s.after (s.trunk q).validAt (4 * markerPeriodNs (s.trunk q).rate) then
      (s.modTrunk q (fun k => { k with heard := [] })).upstreamLost
    else s
  | none => s

/-- MARKER_LOSS -/
def execMarkerLoss (t : Nat) (s : State) : Host.Outcome State Fault Refusal := act1 s t markerLossEffect

/-! ### Open mode (R50, R62) -/

/-- R50: the holdover uncertainty exceeds 1,000 ns. -/
def timeOpenModeEffect (s : State) : State :=
  if s.time.mode = .holdover && 1000 < s.uncertainty && !s.time.openMode then
    (s.modTime (fun u => { u with openMode := true })).noteFree 0xBE5 0
  else s

/-- TIME_OPEN_MODE -/
def execTimeOpenMode (t : Nat) (s : State) : Host.Outcome State Fault Refusal := act1 s t timeOpenModeEffect

/-- R50: a ring boundary with the crown locked again. -/
def scheduledModeReturnEffect (s : State) : State :=
  if s.time.openMode && s.locked && s.time.ft % 8192 = 0 then
    (s.modTime (fun u => { u with openMode := false })).noteFree 0xBE5 0
  else s

/-- SCHEDULED_MODE_RETURN -/
def execScheduledModeReturn (t : Nat) (s : State) : Host.Outcome State Fault Refusal := act1 s t scheduledModeReturnEffect

/-! ### The slot schedule (R60 to R65, R552) -/

/-- TRUNK_SLOT of the shadow bank and of the active bank. -/
def State.shadowSlot (s : State) (q n : Nat) : Nat := s.getDef (Key.TRUNK_SLOT + 256 * q + n) (if n = 0x7F then 0xC0 else 0)
def State.activeSlot (s : State) (q n : Nat) : Nat := s.getDef (Key.TRUNK_SLOT_ACTIVE + 256 * q + n) (if n = 0x7F then 0xC0 else 0)

/-- The pruning slots of a trunk's egress in the active bank, bit n for slot n. -/
def State.pruneSet (s : State) (q : Nat) : BitVec 128 :=
  BitVec.ofNat 128 (((List.range 128).map (fun n => if field (s.activeSlot q n) 7 6 = 3 then 2 ^ n else 0)).sum)

/-- Bits set in a 64-bit word. -/
def popCount (v : Nat) : Nat := ((List.range 64).filter (fun k => bitOf v k)).length

/-- R64: the rule that the shadow bank breaks: DETAIL, or none. -/
def State.slotBankFault (s : State) : Option Nat :=
  match (List.range 16).find? (fun q => (List.range 128).all (fun n => field (s.shadowSlot q n) 7 6 ≠ 3)) with
  | some q => some (0x0100 + q)
  | none =>
    if popCount (s.getDef Key.CROWN_PRUNE_MASK 0x100000001) + popCount (s.getDef (Key.CROWN_PRUNE_MASK + 1) 0x100000001) < 4 then
      some 0x0200
    else if (List.range 16).any (fun q => (List.range 128).any (fun n =>
        field (s.shadowSlot q n) 7 6 = 2 && s.getDef (Key.SHARE_PARTITION + field (s.shadowSlot q n) 5 0) 0xFFFF = 0xFFFF)) then
      some 0x0300
    else none

/-- How a request that needs the activation queue can be refused. -/
inductive QueueRefusal where
  | state (detail : Nat)
  | full
  deriving DecidableEq, Repr

/-- R64: a write of SLOT_SWAP_FT: the swap is queued at the first ring boundary at or after `ft`, or moved there. -/
def State.slotSwapWrite (s : State) (ft : Nat) : Except QueueRefusal State :=
  match s.slotBankFault with
  | some d => .error (.state d)
  | none =>
    let b := ceilDiv ft 8192 * 8192
    match s.actFind .swap 0 with
    | some n => .ok ((s.modAct (fun x => { x with slots := x.slots.modify n (fun a => { a with ft := b }) })).set Key.SLOT_SWAP_FT ft)
    | none =>
      match s.actPut b .swap false 0 0xFFFF with
      | some s' => .ok (s'.set Key.SLOT_SWAP_FT ft)
      | none => .error .full

/-- SLOT_SWAP_REQUEST: an installer's write of SLOT_SWAP_FT (R64). -/
def execSlotSwapRequest (t : Nat) (who : Role) (ft : Nat) (s : State) : Host.Outcome State Fault Refusal :=
  act1 s t (fun s =>
    if who.isInstaller then
      match s.slotSwapWrite ft with
      | .ok s' => s'.jAppend (.write 0x6830 0 (s.get Key.SLOT_SWAP_FT) ft 0)
      | .error _ => s
    else s)

/-- R552: the two banks change places: entries of the shadow bank and of the active bank, 0x40 indices apart. -/
def swapBanks (d : List (Nat × Nat)) : List (Nat × Nat) :=
  let sh : Nat × Nat → Bool := fun e => 0x680000 ≤ e.1 && e.1 < 0x683000
  let ac : Nat × Nat → Bool := fun e => 0x684000 ≤ e.1 && e.1 < 0x687000
  let rest := d.filter (fun e => !sh e && !ac e)
  let d1 := (d.filter ac).foldl (fun x e => dictPut x (e.1 - 0x4000) e.2) rest
  (d.filter sh).foldl (fun x e => dictPut x (e.1 + 0x4000) e.2) d1

/-- R55: how an entry that is due fares in the present time state: it fires, fires in HOLDOVER, waits, or is postponed. -/
inductive DueFate where
  | fire
  | inHoldover
  | wait
  | postpone
  deriving DecidableEq, Repr

def State.dueFate (s : State) (joint : Bool) : DueFate :=
  if s.locked then .fire
  else if joint then .postpone
  else if s.time.mode = .holdover then .inHoldover
  else .wait

/-- R55: a joint entry due while the crown is not locked moves to POSTPONED. -/
def State.postpone (s : State) (n : Nat) : State := (s.actMark n .postponed).noteAt 0xBE4 n 2

/-- An entry fires: its slot's state, and the event of a firing in HOLDOVER with the uncertainty. -/
def State.markFired (s : State) (n : Nat) : State :=
  if s.locked then s.actMark n .fired
  else (s.actMark n .firedInHoldover).noteAt 0xBE3 (min s.uncertainty 0xFFFF) 0

/-- R54: nothing of a kind that goes first at the same FT or an earlier one is still to fire. -/
def State.actTurn (s : State) (n : Nat) : Bool :=
  let a := s.act.slots.getD n ActSlot.reset
  let rank : ActKind → Nat := fun k => match k with | .snapshot => 0 | .swap => 1 | .change => 2 | .firmware => 3
  a.state = .pending && a.ft ≤ s.time.ft &&
    s.act.slots.all (fun b => b.state ≠ .pending || b = a || a.ft < b.ft || s.time.ft < b.ft ||
      (b.joint && !s.locked) || (!b.joint && s.dueFate false = .wait) ||
      (b.ft = a.ft && (rank a.kind < rank b.kind || (rank a.kind = rank b.kind && (b.seq - a.seq).toNat < 0x8000))))

/-- R63: the pruning-slot sets go to the far ends of every trunk in L0. -/
def State.sendPruneSets (s : State) (ft : Nat) : State :=
  s.each ((List.range 16).filter s.trunkUp) (fun s q =>
    let n := s.act.pruneNumber + 1
    (s.modAct (fun a => { a with pruneNumber := n })).modTx q (fun x => { x with ctl := x.ctl ++ [.prune n ft (s.pruneSet q)] }))

/-- R552: the swap itself: banks and SLOT_BANK exchanged and journaled, sets exchanged with the far ends. -/
def State.swapNow (s : State) : State :=
  let old := s.get Key.SLOT_BANK
  let s := { s with dict := swapBanks s.dict }
  let s := s.set Key.SLOT_BANK (1 - old)
  let s := s.jAppend (.write 0x6830 1 old (1 - old) 0)
  s.sendPruneSets (s.time.ft / 8192 * 8192)

/-- R54, R55, R64: the queued swap fires when it is due. -/
def slotSwapEffect (s : State) : State :=
  match s.actFind .swap 0 with
  | some n =>
    if s.actTurn n && s.dueFate false ≠ .wait then (s.markFired n).swapNow else s
  | none => s

/-- SLOT_SWAP -/
def execSlotSwap (t : Nat) (s : State) : Host.Outcome State Fault Refusal := act1 s t slotSwapEffect

/-- R63: a far end's pruning set: at once for FT 0, else from the boundary it names. -/
def pruneSetReceiveEffect (s : State) (q ft : Nat) (prune : BitVec 128) : State :=
  if s.trunkUp q then
    if ft = 0 then s.modTrunk q (fun k => { k with farPrune := prune, nextPrune := none })
    else s.modTrunk q (fun k => { k with nextPrune := some (ft, prune) })
  else s

/-- PRUNE_SET_RECEIVE -/
def execPruneSetReceive (t q : Nat) (_number : Seq16) (ft : Nat) (prune : BitVec 128) (s : State) : Host.Outcome State Fault Refusal :=
  act1 s t (fun s => pruneSetReceiveEffect s q ft prune)

/-- R63: the far end's slot clock: the stamp of the latest marker plus TP_DELAY, and the time since. -/
def State.farClock (s : State) (q : Nat) : Nat := (s.trunk q).farStamp + (s.now - (s.trunk q).lastMarker)

/-- R63: the boundary that the message named is reached on the far slot clock. -/
def pruneSetApplyEffect (s : State) (q : Nat) : State :=
  match (s.trunk q).nextPrune with
  | some (ft, p) => if ft ≤ s.farClock q then s.modTrunk q (fun k => { k with farPrune := p, nextPrune := none }) else s
  | none => s

/-- PRUNE_SET_APPLY -/
def execPruneSetApply (t q : Nat) (s : State) : Host.Outcome State Fault Refusal := act1 s t (fun s => pruneSetApplyEffect s q)

/-- R60, R85: the clock of the slot ring: FT, or the local ring count while FREE. -/
def State.ringClock (s : State) : Nat := if s.time.mode = .free then s.localCount else s.time.ft

/-- Where the ring stands now. -/
def State.ringNow (s : State) : Nat := s.ringClock % 8192

/-- The slot of the ring now. -/
def State.slotNow (s : State) : Nat := s.ringNow / 64

/-- R63: a step of `dur` ns that starts now, at most 64 ns long, lies inside one slot. -/
def State.stepFits (s : State) (dur : Nat) : Bool := s.ringNow % 64 + dur ≤ 64

/-- R63, R85: the slot now is set in the crown maintenance mask of the active bank. -/
def State.inCrownPrune (s : State) : Bool :=
  let n := s.slotNow
  bitOf (s.getDef (Key.CROWN_PRUNE_MASK_ACTIVE + n / 64) 0x100000001) (n % 64)

/-- R63, R110: a transmit-side step of `dur` ns of a trunk's lanes runs only inside one of the trunk's own pruning slots; it changes
no state that the manual names. The output says that the step ran, and in which slot. -/
def trunkTxMaintenanceEffect (s : State) (q dur : Nat) : State :=
  if s.trunkUp q && (s.pruneSet q).getLsbD s.slotNow && s.stepFits dur then s.emit (.answer "trunk tx maintenance" [q, s.slotNow]) else s

/-- TRUNK_TX_MAINTENANCE_STEP -/
def execTrunkTxMaintenanceStep (t q dur : Nat) (s : State) : Host.Outcome State Fault Refusal :=
  act1 s t (fun s => trunkTxMaintenanceEffect s q dur)

/-- A free value per tap, of a given count, within a bound. -/
def freeTaps (draw n : Nat) (bound : Int) : List Int :=
  (List.range n).map (fun i => max (-bound) (min bound (Config.trunkTap (64 * draw + i))))

/-- R110: the update interval of a trunk lane's taps in ns, 2²⁰ UI, by rate code. -/
def tapIntervalNs (rate : Nat) : Nat :=
  match rate with
  | 1 => 39476
  | 2 => 19738
  | _ => 9869

/-- R110: the updates since the last command that looked at a trunk's taps: in each, an FFE tap moves by at most 1/1,024 of full scale, a
DFE tap by at most 1/256; by how much is a free value (DESIGN CHOICE, log entry 180). -/
def State.adaptTaps (s : State) (q : Nat) : State :=
  let k := s.trunk q
  let n := (s.now - k.tapsAt) / tapIntervalNs k.rate
  if n = 0 then s
  else
    let move : Nat → List Int → List Int := fun lane l =>
      let d := freeTaps (s.draws + lane) 48 n
      l.zipIdx.map (fun (e : Int × Nat) =>
        let full : Int := if e.2 < 32 then 1024 else 256
        max (-full) (min full (e.1 + d.getD e.2 0)))
    ({ s with draws := s.draws + 4 }).modTrunk q (fun k => { k with
      taps := k.taps.zipIdx.map (fun (e : List Int × Nat) => move e.2 e.1), tapsAt := k.tapsAt + n * tapIntervalNs k.rate })

/-- R63, R110: a receive-side step of `dur` ns runs in a slot that the far end marks as pruning, on the far slot clock, from
4 ns after its start to 4 ns before its end. The DFE is re-centred, with the ADC's offset and the CDR's phase, to values that the
manual leaves open; the taps are held while the step runs (DESIGN CHOICE, log entry 180). -/
def trunkRxMaintenanceEffect (s : State) (q dur : Nat) : State :=
  let c := s.farClock q
  if s.trunkUp q && (s.trunk q).farPrune.getLsbD (c % 8192 / 64) && 4 ≤ c % 64 && c % 64 + dur ≤ 60 then
    let s := s.adaptTaps q
    let dfe := freeTaps s.draws 16 256
    let s := s.drew.modTrunk q (fun k => { k with
      taps := k.taps.map (fun l => l.take 32 ++ dfe), tapsAt := k.tapsAt + dur,
      adc := (List.range 4).map (fun l => Config.trunkTap (64 * s.draws + 16 + l)),
      cdr := (List.range 4).map (fun l => Config.trunkTap (64 * s.draws + 20 + l)) })
    s.emit (.answer "trunk rx maintenance" [q, c % 8192 / 64])
  else s

/-- TRUNK_RX_MAINTENANCE_STEP -/
def execTrunkRxMaintenanceStep (t q dur : Nat) (s : State) : Host.Outcome State Fault Refusal :=
  act1 s t (fun s => trunkRxMaintenanceEffect s q dur)

end Sys2Proof.Machine
end

