-- ==== Sys2Proof/Machine/HostPorts.lean ====
section
/-! DEFINITION. Host ports: bring-up, equalization, reference clocks, DFE, L0p and L1 (R67 to R99). -/

namespace Sys2Proof.Machine

/-! ### Which registers govern a link (R74) -/

/-- The partition and bridge whose registers govern the link of a port; none for a shared or unbound twig. -/
def State.governor (s : State) (p : Nat) : Option (Nat × Option Nat) :=
  let g := gOfPort p
  if s.isShared (s.portLowG g) then none
  else match s.upstreamPart g with
    | some x => some (x, none)
    | none => (s.wholeVdp g).map (fun b => (b.1, some b.2))

/-- A configuration field of the governing registers. -/
def State.govField (s : State) (p : Nat) (f : CfgField) : Option Nat :=
  (s.governor p).map (fun b => ((s.part b.1).bridge b.2).fld f)

/-- R72: the target rate: the lowest of HP_RATE_CEILING as the link's latest retrain found it (R93), a Target Link Speed that names a
defined speed, and the highest rate that both ends advertise; without FLIT mode at most 32.0 GT/s (R68). -/
def State.targetRate (s : State) (p partnerMax : Nat) (flit : Bool) : Nat :=
  let c := (s.hport p).ceiling
  let tls := match s.govField p .targetLinkSpeed with
    | some v => if 1 ≤ v && v ≤ 7 then v else 7
    | none => 7
  min (min c tls) (min partnerMax (if flit then 7 else 5))

/-- R76: the widest width that a number of working lanes, counted from lane 0, allows. -/
def widthFor (lanes : Nat) : Nat :=
  if 16 ≤ lanes then 16 else if 8 ≤ lanes then 8 else if 4 ≤ lanes then 4 else if 2 ≤ lanes then 2 else min lanes 1

/-- The lanes of the port that H-port `p` names. -/
def State.formedLanes (s : State) (p : Nat) : Nat := 4 * s.portTwigs (gOfPort p)

/-- R76: a port's lane, by its own number, as logical lane of the link: with the lanes reversed the count runs from the other end (DEDUCED,
log entry 167). -/
def logicalLane (reversed : Bool) (full k : Nat) : Nat := if reversed then full - 1 - k else k

/-- R71, R76: the working lanes, counted from logical lane 0 upward: `lanes` as training found them, up to the first that found no symbol
lock. -/
def workingLanes (bad : List Nat) (reversed : Bool) (full lanes : Nat) : Nat :=
  bad.foldl (fun n k => min n (logicalLane reversed full k)) (min lanes full)

/-- A port may train: it names a port, its units run, its reference is good, nothing holds it in Detect; a port with slot
channels waits for the release of its PERST# (R511). -/
def State.mayTrain (s : State) (p : Nat) : Bool :=
  p < 144 && s.namesPort (gOfPort p) && !s.twigOffline (gOfPort p) && !s.twigInReset (gOfPort p) &&
    s.power.refclk.getD (boughOf (gOfPort p)) false && (s.hport p).lstate ≠ .disabled &&
    (s.hport p).lstate ≠ .hotReset &&
    !((s.sideband p).perst && !(s.channelsOf p).isEmpty && (s.upstreamPart (gOfPort p)).isNone)

/-- R211, R232: the firmware enumerates a shared device: its link is bus 0x01, and SR-IOV is enabled with the NumVFs of SHARED_DEV. -/
def State.enumerate (s : State) (g : Nat) : State :=
  (s.modShared g (fun x => { x with mode := .enumerating })).emit (.enumerate g 1 (field (s.get (Key.SHARED_DEV + g)) 8 0))

/-- What a port's first L0 brings to partitions: the cause of an upstream partition's reset ends (R226), a shared device is enumerated
(R241), the sizes of the module functions that R255 and R410 hold for a retrain take effect, Data Link Layer Link Active sets (DEDUCED,
log entry 56). -/
def State.partsLinkUp (s : State) (g : Nat) : State :=
  let s := match s.upstreamPart g with
    | some p => (s.modPart p (fun x => { x with
        fabricBar := s.get (Key.FABRIC_BAR_SIZE + p), vfMax := s.get (Key.ENG_VF_MAX + p),
        mqCount := s.get (Key.MQ_COUNT + p) })).partCauseEnd p
    | none => s
  let s := if (s.sharedOf g).mode = .resetting then s.enumerate g else s
  match s.wholeVdp g with
  | some (p, v) => (s.modVdp p v (fun b => { b with linkActive := true })).slotEvent p v 4
  | none => s

/-- R93: a retrain of the link takes HP_RATE_CEILING up. -/
def State.takeCeiling (s : State) (p : Nat) : State := s.modHPort p (fun h => { h with ceiling := s.get (Key.HP_RATE_CEILING + p) })

/-- R74, R215: the home crowns of the bindings that show a link of this crown learn its rate and width. -/
def State.tellRate (s : State) (g : Nat) : State :=
  s.each ((s.bindsOf (s.portLowG g)).filter (fun b => !s.isHome b.1)) (fun s b => s.slotSignal b.1 b.2.1 5)

/-- R76: the link is narrower than it could be. -/
def State.widthLess (s : State) (p w than : Nat) : State := if w < than then s.noteFree (srcTwig (gOfPort p) 4) 1 else s

/-- R71, R76, R78, R172: the first L0 after Detect, at 2.5 GT/s; the partner is given its credits. -/
def State.hpFirstL0 (s : State) (p w full partnerMax : Nat) (flit reversed : Bool) (polarity : BitVec 16) : State :=
  let g := gOfPort p
  let s := s.modHPort p (fun h => { h with
    lstate := .l0, rate := 1, width := w, l0pWidth := w, flit := flit, reversed := reversed, polarity := polarity,
    partnerMax := partnerMax, railRaised := false, eqTries := 0, eqOk := false, eqUsed := [], lastTlp := s.now, narrowedAt := s.now, l0At := s.now,
    fcRcvd := HPort.reset.fcRcvd, fcFreed := HPort.reset.fcFreed })
  let s := (s.takeCeiling p).fcInit p
  let s := s.modSec (fun x => { x with ide := assocErase x.ide g })
  let s := s.modCore (fun c => { c with c7 := assocErase c.c7 g, avgs := assocErase c.avgs g })
  ((s.noteFree (srcTwig g 0) 0).widthLess p w full).partsLinkUp g

/-- R73, R95: the link runs at another rate; a rate from 8.0 GT/s upward took the attempts made for it. -/
def State.hpNewRate (s : State) (p rate w : Nat) : State :=
  let h := s.hport p
  let s := s.modHPort p (fun h => { h with
    lstate := .l0, rate := rate, width := w, l0pWidth := min h.l0pWidth w, eqTries := 0, eqOk := false,
    eqUsed := if 3 ≤ rate && h.rate < rate then assocPut h.eqUsed rate h.eqTries else h.eqUsed })
  ((s.noteFree (srcTwig (gOfPort p) 1) 0).widthLess p w h.width).tellRate (gOfPort p)

/-- R71 to R78: an H-link reaches L0 at a rate. From Detect only at 2.5 GT/s; then one step up at a time to the target, from 8.0 GT/s
upward only after an equalization attempt that ended well; back from Recovery at the same rate; or down to a lowered target. -/
def hpL0ReachedEffect (s : State) (p rate lanes partnerMax : Nat) (flit reversed : Bool) (polarity : BitVec 16) : State :=
  let h := s.hport p
  let g := gOfPort p
  let full := s.formedLanes p
  if !s.mayTrain p then s
  else if !h.up then
    let w := widthFor (workingLanes h.badLanes reversed full lanes)
    if rate ≠ 1 || w = 0 then s else s.hpFirstL0 p w full partnerMax flit reversed polarity
  else
    let target := min (s.targetRate p h.partnerMax h.flit) h.eqCeiling
    let w := min (widthFor (workingLanes h.badLanes h.reversed full lanes)) h.width
    if w = 0 then s
    else if rate = h.rate then
      let s := s.modHPort p (fun h => { h with lstate := .l0, width := w, l0pWidth := min h.l0pWidth w, l0At := s.now })
      let s := s.modSec (fun x => { x with ide := assocErase x.ide g })
      if w < h.width then (s.widthLess p w h.width).tellRate g else s
    else if (rate = h.rate + 1 && rate ≤ target && (rate < 3 || h.eqOk)) || (1 ≤ rate && rate < h.rate && rate = target) then s.hpNewRate p rate w
    else s

/-- HP_L0_REACHED -/
def execHpL0Reached (t p rate lanes partnerMax : Nat) (flit reversed : Bool) (polarity : BitVec 16) (s : State) :
    Host.Outcome State Fault Refusal :=
  act2 s t (fun s => hpL0ReachedEffect s p rate lanes partnerMax flit reversed polarity)

/-- R71: a lane without symbol lock within 24 ms of leaving Detect, at `left`, takes no part in the link. The port is in Polling then
(R94). -/
def hpSymbolLockTimeoutEffect (s : State) (lane left : Nat) : State :=
  let g := gOfPort (lane / 4)
  let low := s.portLowG g
  let p := portOfG low
  let h := s.hport p
  if lane < 576 && (h.lstate = .detect || h.lstate = .polling) && h.detectAt ≤ left && s.after left 24000000 then
    s.modHPort p (fun h => { h with lstate := .polling, badLanes := insertNew h.badLanes (4 * (g - low) + lane % 4) })
  else s

/-- HP_SYMBOL_LOCK_TIMEOUT -/
def execHpSymbolLockTimeout (t lane left : Nat) (s : State) : Host.Outcome State Fault Refusal :=
  act1 s t (fun s => hpSymbolLockTimeoutEffect s lane left)

/-- R82, R85: a lane's CTLE setting and sampling phase are found anew: free values. -/
def State.recalibrate (s : State) (lane : Nat) : State :=
  (s.modLane lane (fun l => { l with ctle := Config.ctleSetting s.draws, phase := Config.samplePhase s.draws })).drew

/-- The lanes of port `p`. -/
def State.lanesOf (s : State) (p : Nat) : List Nat := (List.range (s.formedLanes p)).map (4 * p + ·)

/-- R75: an equalization attempt at the next rate up ends; an attempt that ends well sets the receivers' CTLE (R82); the third failure
settles the link at the rate in force until the next retrain. `preset`: the last one that the module asked of its partner (R94). -/
def hpEqAttemptEndEffect (s : State) (p preset : Nat) (ok : Bool) : State :=
  let h := s.hport p
  if p < 144 && h.up && 2 ≤ h.rate && !h.eqOk && h.rate < min (s.targetRate p h.partnerMax h.flit) h.eqCeiling then
    let n := h.eqTries + 1
    let s := (s.modHPort p (fun h => { h with
      eqTries := n, eqOk := ok, partnerPreset := if preset ≤ 10 then preset else h.partnerPreset })).countTwig (gOfPort p) 0x10F 1
    if ok then s.each (s.lanesOf p) State.recalibrate
    else if 3 ≤ n then (s.modHPort p (fun h => { h with eqCeiling := h.rate, eqTries := 0 })).noteFree (srcTwig (gOfPort p) 3) 1
    else s
  else s

/-- HP_EQ_ATTEMPT_END -/
def execHpEqAttemptEnd (t p preset : Nat) (ok : Bool) (s : State) : Host.Outcome State Fault Refusal :=
  act2 s t (fun s => hpEqAttemptEndEffect s p preset ok)

/-- R86: a legal coefficient or preset request is answered and applied, one outside the legal space at the rate rejected. -/
def hpCoeffRequestEffect (s : State) (p : Nat) (req : CoeffReq) : State :=
  let r := (s.hport p).rate
  if 144 ≤ p then s
  else match req with
    | .preset n =>
      if n ≤ 10 then
        (s.modHPort p (fun h => { h with txPreset := n, txCoeff := Config.presetCoeff r n })).emit (.link p "preset accepted" n)
      else s.emit (.link p "preset rejected" n)
    | .coefficients c =>
      if Config.legalCoeff r c then (s.modHPort p (fun h => { h with txCoeff := c })).emit (.link p "coefficients accepted" 0)
      else s.emit (.link p "coefficients rejected" 0)

/-- HP_COEFF_REQUEST -/
def execHpCoeffRequest (t p : Nat) (req : CoeffReq) (s : State) : Host.Outcome State Fault Refusal :=
  act1 s t (fun s => hpCoeffRequestEffect s p req)

/-- R229, R230: a conventional reset of a shared device is requested; absorbed while one is pending or running. Holders
that have not released see Attention Button Pressed once. -/
def State.sharedRequest (s : State) (g cause : Nat) : State :=
  if (s.sharedOf g).mode = .idle then
    let s := s.modShared g (fun x => { x with mode := .pending, cause := cause, since := s.now })
    let s := if (s.slicesOf g).all s.released then s else s.noteAt 0xBC3 g 0
    let s := s.each ((s.slicesOf g).filter (fun b => !s.released b)) (fun s b => s.slotEvent b.1 b.2.1 1)
    s.sharedCheck g
  else s

/-- R98, R99: an H-link leaves L0 for Detect. A shared device whose link failed asks for the deferred reset (R213). -/
def hpLinkDownEffect (s : State) (p cause : Nat) : State :=
  if p < 144 && (s.hport p).up && 1 ≤ cause && cause ≤ 7 then
    let g := gOfPort p
    let s := s.hpDown p cause 2
    if s.isShared g && cause = 7 then s.sharedRequest g 3 else s
  else s

/-- HP_LINK_DOWN -/
def execHpLinkDown (t p cause : Nat) (s : State) : Host.Outcome State Fault Refusal :=
  act2 s t (fun s => hpLinkDownEffect s p cause)

/-! ### DFE (R82 to R85) -/

/-- R82: one tap's update from its accumulator. -/
def tapStep (tap acc : Int) : Int :=
  if 4096 ≤ acc && tap < 127 then tap + 1 else if acc ≤ -4096 && -128 < tap then tap - 1 else tap

/-- R83: the accumulator pushes a tap that is at its limit. -/
def tapRail (tap acc : Int) : Bool := (4096 ≤ acc && tap = 127) || (acc ≤ -4096 && tap = -128)

/-- A lane's port and its logical number there. -/
def State.laneOf (s : State) (lane : Nat) : Nat × Nat :=
  let g := gOfPort (lane / 4)
  let low := s.portLowG g
  (portOfG low, 4 * (g - low) + lane % 4)

/-- R84: adaptation runs on a lane: in L0, the lane active, not margining. A narrowed link keeps its logical lanes from lane 0 upward, and
with the lanes reversed they are counted from the port's highest (DESIGN CHOICE, log entry 167). -/
def State.laneAdapts (s : State) (lane : Nat) : Bool :=
  let (p, k) := s.laneOf lane
  let h := s.hport p
  h.lstate = .l0 && logicalLane h.reversed (s.formedLanes p) k < h.l0pWidth && (s.lane lane).margining.isNone

/-- R82: 2²⁰ UI have passed on a lane, with these sums of sign products. A paused lane holds its taps and clears the sums. -/
def dfeUpdateEffect (s : State) (lane : Nat) (sums : List Int) : State :=
  if 576 ≤ lane then s
  else if s.laneAdapts lane then
    let old := (s.lane lane).taps
    let acc := (List.range 12).map (fun k => (s.lane lane).acc.getD k 0 + sums.getD k 0)
    let new := (old.zip acc).map (fun e => tapStep e.1 e.2)
    let moved := ((old.zip new).filter (fun e => e.1 ≠ e.2)).length
    let rail := (old.zip acc).any (fun e => tapRail e.1 e.2)
    let s := s.modLane lane (fun l => { l with taps := new, acc := List.replicate 12 0 })
    let s := s.countTwig (gOfPort (lane / 4)) 0x10E moved
    let p := (s.laneOf lane).1
    if rail && !(s.hport p).railRaised then
      (s.modHPort p (fun h => { h with railRaised := true, railEvents := h.railEvents + 1 })).noteFree (srcTwig (gOfPort p) 6) 0
    else s
  else s.modLane lane (fun l => { l with acc := List.replicate 12 0 })

/-- DFE_UPDATE -/
def execDfeUpdate (t lane : Nat) (sums : List Int) (s : State) : Host.Outcome State Fault Refusal :=
  act1 s t (fun s => dfeUpdateEffect s lane sums)

/-- R85: a maintenance step of `dur` ns on a lane, only in the slots of CROWN_PRUNE_MASK: the CTLE and the sampling phase are calibrated
anew; the swap may cost one corrected error. -/
def hLaneMaintenanceEffect (s : State) (lane dur eye : Nat) (corrected : Bool) : State :=
  if lane < 576 && s.inCrownPrune && s.stepFits dur then
    let s := (s.modLane lane (fun l => { l with eye := min eye 0xFF, acc := List.replicate 12 0 })).recalibrate lane
    if corrected then s.countTwig (gOfPort (lane / 4)) 0x104 1 else s
  else s

/-- H_LANE_MAINTENANCE -/
def execHLaneMaintenance (t lane dur eye : Nat) (corrected : Bool) (s : State) : Host.Outcome State Fault Refusal :=
  act1 s t (fun s => hLaneMaintenanceEffect s lane dur eye corrected)

/-- R69, R84: Lane Margining of timing or of voltage starts or ends on a lane, at 16.0 GT/s and above; adaptation pauses while it runs. -/
def marginCommandEffect (s : State) (lane : Nat) (m : Option Margin) : State :=
  let h := s.hport (s.laneOf lane).1
  if lane < 576 && (m.isNone || (h.lstate = .l0 && 4 ≤ h.rate)) then
    s.modLane lane (fun l => { l with margining := m, acc := List.replicate 12 0 })
  else s

/-- MARGIN_COMMAND -/
def execMarginCommand (t lane : Nat) (m : Option Margin) (s : State) : Host.Outcome State Fault Refusal :=
  act1 s t (fun s => marginCommandEffect s lane m)

/-! ### Reference clocks (R81) -/

/-- The ports of a bough, by host port name. -/
def State.boughPorts (s : State) (b : Nat) : List Nat :=
  (((List.range 4).map (4 * b + ·)).filter s.namesPort).map portOfG

/-- R81: an H-bough's reference is absent or astray. The one event for the bough's four twigs is raised by the source of its lowest twig, at
that twig's level (DESIGN CHOICE, log entry 168). -/
def refclkLostEffect (s : State) (b : Nat) : State :=
  if b < 40 && !isTBough b && s.power.refclk.getD b false then
    let s := s.modPower (fun x => { x with refclk := x.refclk.set b false })
    let s := s.noteFree (srcTwig (4 * b) 5) 2
    s.each (s.boughPorts b) (fun s p => s.hpDown p 4 2)
  else s

/-- REFCLK_LOST -/
def execRefclkLost (t b : Nat) (s : State) : Host.Outcome State Fault Refusal := act2 s t (fun s => refclkLostEffect s b)

/-- R81: the reference has been good for 1 ms: the links start again from Detect. -/
def refclkRestoredEffect (s : State) (b : Nat) : State :=
  if b < 40 && !isTBough b then
    let s := s.modPower (fun x => { x with refclk := x.refclk.set b true })
    s.each (s.boughPorts b) (fun s p => s.modHPort p (fun h => if h.up then h else { h with detectAt := s.now }))
  else s

/-- REFCLK_RESTORED -/
def execRefclkRestored (t b : Nat) (s : State) : Host.Outcome State Fault Refusal := act1 s t (fun s => refclkRestoredEffect s b)

/-! ### L0p and L1 (R87 to R92) -/

/-- R89: a power state, by its bit of HP_POWER_CTL (0 L1, 1 L1.1, 2 L1.2, 3 L0p), is enabled: also in the governing registers, where there
are any: ASPM Control bit 1 for L1, bit 0 for L0p, L1 PM Substates Control bits 3 and 2 for L1.1 and L1.2, of a PCI-PM L1 bits 1 and 0
(PRESUMED, log entry 18). -/
def State.powerEnabled (s : State) (p bit : Nat) : Bool :=
  let pm := (s.hport p).pciPm
  bitOf (s.get (Key.HP_POWER_CTL + p)) bit &&
    (match bit with
      | 0 => (match s.govField p .aspmControl with | some v => bitOf v 1 | none => true)
      | 3 => (match s.govField p .aspmControl with | some v => bitOf v 0 | none => true)
      | 1 => (match s.govField p .l1pmControl with | some v => bitOf v (if pm then 1 else 3) | none => true)
      | _ => (match s.govField p .l1pmControl with | some v => bitOf v (if pm then 0 else 2) | none => true))

/-- The L0p minimum width. -/
def State.l0pMin (s : State) (p : Nat) : Nat := 2 ^ field (s.get (Key.HP_POWER_CTL + p)) 5 4

/-- The instant of the latest TLP on a port's link, in either direction (R87, R90). -/
def State.lastTlp (s : State) (p : Nat) : Nat := max (s.hport p).lastTlp (assocGetD s.core.portTraffic (gOfPort p) 0)

/-- The link runs at a width under L0p; a narrowing counts. -/
def State.l0pTo (s : State) (p width : Nat) : State :=
  let s' := s.modHPort p (fun h => { h with l0pWidth := width, narrowedAt := s.now })
  if width < (s.hport p).l0pWidth then s'.countTwig (gOfPort p) 0x109 1 else s'

/-- R87: no TLP for HP_L0P_IDLE in either direction of a FLIT-mode link: the module requests narrowing. -/
def l0pNarrowEffect (s : State) (p : Nat) : State :=
  let h := s.hport p
  let idle := s.get (Key.HP_L0P_IDLE + p)
  if p < 144 && h.lstate = .l0 && h.flit && s.powerEnabled p 3 && idle ≠ 0 && s.after (s.lastTlp p) (1000 * idle) &&
      s.l0pMin p < h.l0pWidth then
    (s.l0pTo p (s.l0pMin p)).emit (.link p "L0p width" (s.l0pMin p))
  else s

/-- L0P_NARROW -/
def execL0pNarrow (t p : Nat) (s : State) : Host.Outcome State Fault Refusal := act1 s t (fun s => l0pNarrowEffect s p)

/-- Bytes queued for an egress port. -/
def State.queuedBytes (s : State) (g : Nat) : Nat := ((s.core.queues.filter (·.egress == g)).map (·.len)).sum

/-- R87: more than 2 KiB queued, or a TLP in a direction since it was narrowed: the module requests full width, unless the governor
withholds it (R495). -/
def l0pWidenEffect (s : State) (p : Nat) : State :=
  let h := s.hport p
  if p < 144 && h.lstate = .l0 && h.l0pWidth < h.width && s.power.govLevel < 3 && (2048 < s.queuedBytes (gOfPort p) || h.narrowedAt ≤ s.lastTlp p) then
    (s.l0pTo p h.width).emit (.link p "L0p width" h.width)
  else s

/-- L0P_WIDEN -/
def execL0pWiden (t p : Nat) (s : State) : Host.Outcome State Fault Refusal := act1 s t (fun s => l0pWidenEffect s p)

/-- R87: every legal L0p request of the partner is granted; where R89 does not enable L0p, none is. -/
def l0pPartnerRequestEffect (s : State) (p width : Nat) : State :=
  let h := s.hport p
  if p < 144 && h.lstate = .l0 && h.flit && s.powerEnabled p 3 && [1, 2, 4, 8, 16].contains width && width ≤ h.width then
    (s.l0pTo p width).emit (.link p "L0p granted" width)
  else s

/-- L0P_PARTNER_REQUEST -/
def execL0pPartnerRequest (t p width : Nat) (s : State) : Host.Outcome State Fault Refusal :=
  act1 s t (fun s => l0pPartnerRequestEffect s p width)

/-- L1 or a substate. -/
def HPort.inL1 (h : HPort) : Bool := h.lstate = .l1 || h.lstate = .l11 || h.lstate = .l12

/-- R90: a whole-twig VDP of a partition on this crown keeps the upstream link awake. -/
def State.partAwake (s : State) (x : Nat) : Bool :=
  (s.binds.filter (fun b => b.1 == x && b.2.2.crown == s.crownId && b.2.2.kind == 1)).any (fun b =>
    let h := s.hport (s.hportOfG b.2.2.twig)
    h.up && !h.inL1)

/-- R90: no traffic of the partition waits anywhere, and none has passed to or from slices, engines, fabric memory or trunks for a time. -/
def State.partQuiet (s : State) (x ns : Nat) : Bool :=
  s.core.queues.all (fun d => d.part ≠ x) && s.after (assocGetD s.core.partTraffic x 0) ns

/-- R69: every module function of the partition is in D3hot: PCI-PM L1 is due on its upstream link. -/
def State.partAsleep (s : State) (x : Nat) : Bool :=
  (List.range 25).all (fun f => !(s.part x).fnExists f || ((s.part x).fn f).fld .powerState ≠ 0)

/-- The link goes to L1, counted. -/
def State.enterL1 (s : State) (p : Nat) (pciPm : Bool) : State :=
  (s.modHPort p (fun h => { h with lstate := .l1, pciPm := pciPm })).countTwig (gOfPort p) 0x10A 1

/-- R90, R367: the module initiates L1 on a partition's upstream link: idle for HP_L1_IDLE, every whole-twig VDP of the partition in L1 or
down; and PCI-PM L1, which HP_POWER_CTL alone enables, once the partition's module functions sleep (R69) (DESIGN CHOICE, log entry
169). -/
def l1EntryInitiateEffect (s : State) (p : Nat) : State :=
  let h := s.hport p
  let idle := s.get (Key.HP_L1_IDLE + p)
  match s.upstreamPart (gOfPort p) with
  | some x =>
    if p < 144 && h.lstate = .l0 && !s.partAwake x then
      if s.powerEnabled p 0 && idle ≠ 0 && s.after (s.lastTlp p) (1000 * idle) && s.partQuiet x (1000 * idle) then
        (s.enterL1 p false).emit (.link p "L1 entry" 0)
      else if bitOf (s.get (Key.HP_POWER_CTL + p)) 0 && s.partAsleep x && s.partQuiet x 0 then (s.enterL1 p true).emit (.link p "PCI-PM L1 entry" 0)
      else s
    else s
  | none => s

/-- L1_ENTRY_INITIATE -/
def execL1EntryInitiate (t p : Nat) (s : State) : Host.Outcome State Fault Refusal := act1 s t (fun s => l1EntryInitiateEffect s p)

/-- R90: the partner below asks for L1: accepted when the egress queue is empty and the link has been idle for HP_L1_IDLE,
else PM_Active_State_Nak. -/
def l1PartnerRequestEffect (s : State) (p : Nat) : State :=
  let h := s.hport p
  let idle := s.get (Key.HP_L1_IDLE + p)
  if p < 144 && h.lstate = .l0 && (s.upstreamPart (gOfPort p)).isNone then
    if s.powerEnabled p 0 && idle ≠ 0 && s.after (s.lastTlp p) (1000 * idle) && s.queuedBytes (gOfPort p) = 0 &&
        s.core.queues.all (fun d => d.egress ≠ gOfPort p) then
      (s.enterL1 p false).emit (.link p "L1 accepted" 0)
    else s.emit (.link p "PM_Active_State_Nak" 0)
  else s

/-- L1_PARTNER_REQUEST -/
def execL1PartnerRequest (t p : Nat) (s : State) : Host.Outcome State Fault Refusal := act1 s t (fun s => l1PartnerRequestEffect s p)

/-- R91, R92: a TLP has arrived for a port in L1 or a substate: the exit starts at once; from a substate the module asserts
its CLKREQ#. The TLP waits in its queue until the link is in L0. -/
def l1ExitEffect (s : State) (p : Nat) : State :=
  let h := s.hport p
  if p < 144 && h.inL1 then
    let s := s.modHPort p (fun h => { h with lstate := .recovery })
    if h.lstate = .l1 then s.emit (.link p "L1 exit" 0)
    else ((s.modSideband p (fun b => { b with clkreq := true })).driveOut p 1 true).emit (.link p "L1 exit" 0)
  else s

/-- L1_EXIT -/
def execL1Exit (t p : Nat) (s : State) : Host.Outcome State Fault Refusal := act1 s t (fun s => l1ExitEffect s p)

/-- R90: the partner leaves L1. -/
def l1PartnerExitEffect (s : State) (p : Nat) : State :=
  if p < 144 && (s.hport p).inL1 then s.modHPort p (fun h => { h with lstate := .recovery }) else s

/-- L1_PARTNER_EXIT -/
def execL1PartnerExit (t p : Nat) (s : State) : Host.Outcome State Fault Refusal := act1 s t (fun s => l1PartnerExitEffect s p)

/-- R74, R75, R93: a port's link retrains: it passes through Recovery, takes HP_RATE_CEILING up, and attempts again a rate that failed
equalization. -/
def State.hpRetrain (s : State) (p : Nat) : State :=
  if (s.hport p).up then
    ((s.modHPort p (fun h => { h with lstate := .recovery, eqCeiling := 7, eqTries := 0, eqOk := false })).takeCeiling p).emit (.link p "retrain" 0)
  else s

/-- R74: Retrain Link in the registers that govern a link; the crown that holds the twig of a whole-twig VDP learns of it (R215). A copy
that governs nothing changes only itself. -/
def retrainLinkEffect (s : State) (part : Nat) (vdp : Option Nat) : State :=
  match vdp with
  | none => (match s.upTwig part with
    | some u => s.hpRetrain (s.hportOfG u)
    | none => s)
  | some v =>
    let b := s.bind part v
    if b.kind ≠ 1 then s
    else if b.crown = s.crownId then s.hpRetrain (s.hportOfG b.twig)
    else if s.isHome part then s.emit (.signal b.crown (s.groveId part) "retrain" [v])
    else s

/-- RETRAIN_LINK -/
def execRetrainLink (t part : Nat) (vdp : Option Nat) (s : State) : Host.Outcome State Fault Refusal :=
  act1 s t (fun s => retrainLinkEffect s part vdp)

end Sys2Proof.Machine
end

