-- ==== Sys2Proof/Machine/Counters.lean ====
section
/-! DEFINITION. Performance counters: selection, clearing, freezing and snapshots (R522 to R535). -/

namespace Sys2Proof.Machine

/-- R524: the event numbers that a counter may select. -/
def cntEventAllowed (n ev : Nat) : Bool :=
  ev ≤ 2 ||
    (if n < 2560 then (if isT (n / 16) then 0x180 ≤ ev && ev ≤ 0x190 else 0x100 ≤ ev && ev ≤ 0x110)
     else if n < 2880 then 0x300 ≤ ev && ev ≤ 0x30F
     else if n < 3008 then 0x200 ≤ ev && ev ≤ 0x214
     else if n < 3072 then 0x280 ≤ ev && ev ≤ 0x285
     else (0x300 ≤ ev && ev ≤ 0x307) || (0x380 ≤ ev && ev ≤ 0x387) || (0x390 ≤ ev && ev ≤ 0x399) ||
       (0x3A0 ≤ ev && ev ≤ 0x3AB) || (0x3B0 ≤ ev && ev ≤ 0x3B7) || (0x3C0 ≤ ev && ev ≤ 0x3C7) ||
       (0x3D0 ≤ ev && ev ≤ 0x3D3) || (0x3E0 ≤ ev && ev ≤ 0x3E3))

/-- CNT_CTL as it reads: the stored selection with OVF. -/
def State.cntCtl (s : State) (n : Nat) : Nat :=
  s.getDef (Key.CNT_CTL + n) 0 + (if (s.counter n).ovf then 2 ^ 30 else 0)

/-- Whether R525 and R524 let a value be written to CNT_CTL of a counter. -/
def cntCtlLegal (n v : Nat) : Bool := n < 3136 && v < 2 ^ 32 && field v 27 10 == 0 && cntEventAllowed n (field v 9 0)

/-- R525, R526: a write of CNT_CTL: a change of EVENT zeroes value and OVF, CLEAR zeroes the value, a 1 in OVF clears it. -/
def State.cntCtlWrite (s : State) (n v : Nat) : State :=
  let change : Bool := field (s.getDef (Key.CNT_CTL + n) 0) 9 0 ≠ field v 9 0
  let c := s.counter n
  let c : Counter :=
    { value := if change || bitOf v 28 then 0 else c.value, ovf := c.ovf && !change && !bitOf v 30 }
  let keep := (if bitOf v 31 then 2 ^ 31 else 0) + (if bitOf v 29 then 2 ^ 29 else 0) + field v 9 0
  (s.set (Key.CNT_CTL + n) keep).setCounter n c

/-- A write of CNT_CTL by a role: only the installer, and only a legal value (R533). -/
def State.cntCtlBy (s : State) (who : Role) (n v : Nat) : State :=
  if who.isInstaller && cntCtlLegal n v then
    let key := Key.CNT_CTL + n
    let s' := s.cntCtlWrite n v
    s'.jAppend (.write (key / 256) (key % 256) (s.getDef key 0) (s'.getDef key 0) 0)
  else s

/-- CNT_EVENT_SELECT: a write of CNT_CTL that chooses the event. -/
def execCntEventSelect (t : Nat) (who : Role) (n value : Nat) (s : State) : Host.Outcome State Fault Refusal :=
  act1 s t (fun s => s.cntCtlBy who n value)

/-- CNT_CLEAR: a write of 1 to CLEAR beside the selection as it stands. -/
def execCntClear (t : Nat) (who : Role) (n : Nat) (s : State) : Host.Outcome State Fault Refusal :=
  act1 s t (fun s => s.cntCtlBy who n (s.getDef (Key.CNT_CTL + n) 0 + 2 ^ 28))

/-- CNT_OVF_CLEAR: a write of 1 to OVF beside the selection as it stands. -/
def execCntOvfClear (t : Nat) (who : Role) (n : Nat) (s : State) : Host.Outcome State Fault Refusal :=
  act1 s t (fun s => s.cntCtlBy who n (s.getDef (Key.CNT_CTL + n) 0 + 2 ^ 30))

/-- R529: CNT_FREEZE takes a value; bits [15:13] must be zero. -/
def State.cntFreezeWrite (s : State) (v : BitVec 16) : State := s.modCounters (fun c => { c with freeze := v })

/-- CNT_FREEZE_SET: freezing the groups of a mask. -/
def execCntFreezeSet (t : Nat) (who : Role) (mask : BitVec 16) (s : State) : Host.Outcome State Fault Refusal :=
  act1 s t (fun s => if who.isInstaller && mask.toNat < 2 ^ 13 then s.cntFreezeWrite (s.counters.freeze ||| mask) else s)

/-- CNT_FREEZE_RESUME: resuming the groups of a mask. -/
def execCntFreezeResume (t : Nat) (who : Role) (mask : BitVec 16) (s : State) : Host.Outcome State Fault Refusal :=
  act1 s t (fun s => if who.isInstaller && mask.toNat < 2 ^ 13 then s.cntFreezeWrite (s.counters.freeze &&& ~~~mask) else s)

/-! ### Snapshots (R530 to R532) -/

/-- Snapshots that wait in the activation queue. -/
def State.snapsPending (s : State) : List ActSlot := s.act.slots.filter (fun a => a.waits && a.kind = .snapshot)

/-- A snapshot is queued, or absorbed into a pending one of the same FT; the SNAP_ID it then has. -/
def State.snapQueue (s : State) (ft id origin : Nat) : Option (State × Nat) :=
  match s.snapsPending.find? (fun a => a.ft = ft) with
  | some a => some (s, a.ref)
  | none =>
    if 8 ≤ s.snapsPending.length then none
    else (s.actPut ft .snapshot false id origin).map (fun s' => (s', id))

/-- R531: a write of SNAP_REQUEST. -/
def State.snapWrite (s : State) (ft id : Nat) (grove : Bool) : Except QueueRefusal State :=
  if grove && ft < s.stampFt + 1000000 then .error (.state 0)
  else match s.snapQueue ft id s.crownId with
    | none => .error .full
    | some (s', kept) =>
      if grove then
        let n := s'.act.snapNumber + 1
        .ok ((s'.modAct (fun a => { a with snapNumber := n })).sendControl (fun _ => true)
          (.snapshot { origin := s.crownId % 1024, number := n, ft := ft, snapId := kept }))
      else .ok s'

/-- SNAP_REQUEST: an installer's write (R531, R533). -/
def execSnapRequest (t : Nat) (who : Role) (ft snapId : Nat) (grove : Bool) (s : State) : Host.Outcome State Fault Refusal :=
  act1 s t (fun s =>
    if who.isInstaller then
      match s.snapWrite ft snapId grove with
      | .ok s' => s'
      | .error _ => s
    else s)

/-- R531: a scheduling message of kind 0x02: forwarded once, and the same snapshot queued; SNAP_MISSED where it cannot be. -/
def snapshotMessageEffect (s : State) (q : Nat) (m : SnapMsg) : State :=
  let fresh : Bool := match assocGet s.act.snapSeen m.origin with
    | none => true
    | some l => newer16 m.number l
  if s.trunkUp q && fresh && m.origin ≠ s.crownId then
    let s := s.modAct (fun a => { a with snapSeen := assocPut a.snapSeen m.origin m.number })
    let s := s.sendControl (fun r => r ≠ q) (.snapshot m)
    match s.snapQueue m.ft m.snapId m.origin with
    | some (s', _) => s'
    | none => s.noteAt 0xC1C (m.snapId % 65536) 0
  else s

/-- SNAPSHOT_MESSAGE -/
def execSnapshotMessage (t q : Nat) (m : SnapMsg) (s : State) : Host.Outcome State Fault Refusal :=
  act1 s t (fun s => snapshotMessageEffect s q m)

/-- R22, R529: every counter as a reader sees it: those of a power-gated limb read zero. -/
def State.counterCopy (s : State) : List (Nat × Counter) :=
  s.counters.values.filter (fun e => match counterLimb e.1 with | some l => !s.limbGated l | none => true)

/-- R530: the snapshot activation of a queue slot fires. -/
def snapshotFireEffect (s : State) (slot : Nat) : State :=
  let a := s.act.slots.getD slot ActSlot.reset
  if a.kind = .snapshot && slot < 256 && s.actTurn slot && s.dueFate false ≠ .wait then
    let time := s.time.mode.code * 2 ^ 32 + s.uncertainty
    (s.modCounters (fun c => { c with staging := some (s.counterCopy, a.ft, a.ref, a.origin, time) })).markFired slot
  else s

/-- SNAPSHOT_FIRE -/
def execSnapshotFire (t slot : Nat) (s : State) : Host.Outcome State Fault Refusal :=
  act1 s t (fun s => snapshotFireEffect s slot)

/-- R532: the whole bank is written; SNAP_SEQ advances. -/
def snapCompleteEffect (s : State) : State :=
  match s.counters.staging with
  | some (vs, ft, id, origin, time) =>
    s.modCounters (fun c => { c with
      bank := vs, staging := none, snapSeq := c.snapSeq + 1, snapFt := ft, snapId := id, snapOrigin := origin, snapTime := time })
  | none => s

/-- SNAP_COMPLETE -/
def execSnapComplete (t : Nat) (s : State) : Host.Outcome State Fault Refusal := act1 s t snapCompleteEffect

end Sys2Proof.Machine
end

