-- ==== Sys2Proof/Machine/Hierarchy.lean ====
section
/-! DEFINITION. Die-to-die links and the resets of twig, bough, limb and die (R7 to R9, R18, R28 to R34, R386). -/

namespace Sys2Proof.Machine

/-- The stem that a stem-to-stem link's event names: the lower of its two (DEDUCED, log entry 15). -/
def stemPairLow (k : Nat) : Nat := [0, 0, 0, 1, 1, 2].getD k 0

/-- R7 to R9: a lane of a die-to-die link fails: a spare takes its place with an F1 event, else a die fault of the stem
(heartwood link) or F3 (stem-to-stem link). -/
def dieLinkLaneFailEffect (s : State) (link : DieLinkId) : State :=
  match link with
  | .stemStem k =>
    if 6 ≤ k then s
    else if 0 < s.hier.stemLinkSpares.getD k 0 then
      (s.modHier (fun h => { h with stemLinkSpares := h.stemLinkSpares.modify k (· - 1) })).noteFree (srcStem (stemPairLow k) 0) 1
    else s.note { Ev.plain (srcStem (stemPairLow k) 0) k 3 with level := 4, unit := some .crown, action := 7 }
  | .stemHeartwood d =>
    if 4 ≤ d then s
    else if 0 < s.hier.heartLinkSpares.getD d 0 then
      (s.modHier (fun h => { h with heartLinkSpares := h.heartLinkSpares.modify d (· - 1) })).noteFree (srcStem d 0) 1
    else (s.contain (.die d)).note { Ev.plain (srcStem d 0) 4 2 with action := 4 }

/-- DIE_LINK_LANE_FAIL -/
def execDieLinkLaneFail (t : Nat) (link : DieLinkId) (s : State) : Host.Outcome State Fault Refusal :=
  act2 s t (fun s => dieLinkLaneFailEffect s link)

/-- R384, R385: whether a reset request below the crown is refused in the crown's fault state. -/
def State.resetsBarred (s : State) : Bool := s.faults.crown = .f3Acked || s.faults.crown = .f4Latched

/-- R29: who may request a reset of a unit: an installer any; an operator only a twig that its partition holds whole. -/
def State.mayReset (s : State) (who : Role) (u : UnitId) : Bool :=
  match who, u with
  | .installer _, _ => true
  | .operator p, .twig g => p < 64 && s.holdsWhole p g
  | _, _ => false

/-- The units that a reset covers: a twig reset covers every twig of its port (R30). -/
def State.resetUnits (s : State) (u : UnitId) : List UnitId :=
  match u with
  | .twig g => (s.portMembers (s.portLowG g)).map UnitId.twig
  | u => [u]

/-- The twigs in the scope of a list of units. -/
def unitTwigs (us : List UnitId) : List Nat := (List.range 160).filter (fun g => us.any (fun u => u.holds g))

/-- R386: a reset releases the containments inside its scope, closes their windows and says so where R380 said otherwise. -/
def State.releaseUnits (s : State) (us : List UnitId) : State :=
  let inScope : UnitId → Bool := fun v => us.any (fun u => v.inside u)
  let gone := s.hier.contained.filter inScope
  let s := s.modHier (fun h => { h with contained := h.contained.filter (fun v => !inScope v) })
  let s := s.modFaults (fun f => { f with
    history := f.history.map (fun h =>
      match h.unit with
      | some v => if h.cls = 2 && 1 ≤ h.action && h.action ≤ 4 && gone.contains v then { h with window := none } else h
      | none => h) })
  let remote := (s.binds.filter (fun b => b.2.2.crown == s.crownId && gone.any (fun v => v.holds b.2.2.twig) && !s.isHome b.1)).foldl
    (fun l b => insertNew l b.2.2.twig) []
  s.each remote (fun s g => s.containMessage 1 false g 0)

/-- LIMB_STATE and DIE_STATE when a reset begins or ends (R36): a power-gated limb stays so, and a limb whose reset ends inside a die
that is still contained reads offline. -/
def Hier.mark (h : Hier) (u : UnitId) (st : UnitState) : Hier :=
  match u with
  | .limb l => h.setLimb l (if st = .running && h.contained.any (fun v => u.inside v) then .offline else st)
  | .die d => { (h.setLimb (2 * d) st).setLimb (2 * d + 1) st with dies := h.dies.set d st }
  | _ => h

/-- R19, R30: the port engine of a twig is cleared: its link, lanes, taps and counts of protocol errors. The switch core's count of the
TLPs that it parsed from the twig (R159) is the bough's parse stage's and goes on. -/
def State.clearEngine (s : State) (g : Nat) : State :=
  if isT g then s.modTrunk (trunkOfG g) (fun k => { k with txCoeff := Trunk.reset.txCoeff, taps := Trunk.reset.taps, adc := Trunk.reset.adc, cdr := Trunk.reset.cdr })
  else
    (s.modHPort (portOfG g) (fun h => { HPort.reset with detectAt := s.now, order := h.order })).each
      ((List.range 4).map (4 * portOfG g + ·)) (fun s n => s.modLane n (fun _ => HLane.reset))

/-- R28 to R34: a reset begins. One inside a reset in progress is absorbed; a smaller one inside it is abandoned (R31). -/
def State.startReset (s : State) (u : UnitId) : State :=
  let us := s.resetUnits u
  if us.any (fun v => s.hier.resets.any (fun w => v.inside w)) then s
  else
    let gs := unitTwigs us
    let s := (s.stopTrunks gs .detect).modHier (fun h => { h with resets := h.resets.filter (fun w => !us.any (fun v => w.inside v)) ++ us })
    let s := s.releaseUnits us
    let s := s.modHier (fun h => us.foldl (fun h v => Hier.mark h v .inReset) h)
    let s := s.breakLocks (fun k => us.any (fun v => match v with
      | .bough b => k.bough == b
      | .limb l => limbOfBough k.bough == l
      | .die d => k.bough / 10 == d
      | _ => false))
    let s := (s.stopPorts gs 1 3).each gs State.clearEngine
    s.modCore (fun c => { c with
      deficits := c.deficits.filter (fun e => e.1.1 ∉ gs), shapers := c.shapers.filter (fun e => e.1.1 ∉ gs),
      c7 := c.c7.filter (fun e => e.1 ∉ gs), avgs := c.avgs.filter (fun e => e.1 ∉ gs),
      lastServed := c.lastServed.filter (fun e => e.1 ∉ gs) })

/-- A reset request of a role: refused where R29, R384 or R385 says so, or for a unit out of range. -/
def State.requestReset (s : State) (who : Role) (u : UnitId) : Option State :=
  let ok : Bool := match u with
    | .twig g => g < 160
    | .bough b => b < 40
    | .limb l => l < 8
    | .die d => d < 4
    | .crown => false
  if ok && s.mayReset who u && !s.resetsBarred then some (s.startReset u) else none

/-- TWIG_RESET -/
def execTwigReset (t : Nat) (who : Role) (g : Nat) (s : State) : Host.Outcome State Fault Refusal :=
  act2 s t (fun s => (s.requestReset who (.twig g)).getD s)

/-- BOUGH_RESET -/
def execBoughReset (t : Nat) (who : Role) (b : Nat) (s : State) : Host.Outcome State Fault Refusal :=
  act2 s t (fun s => (s.requestReset who (.bough b)).getD s)

/-- LIMB_RESET -/
def execLimbReset (t : Nat) (who : Role) (l : Nat) (s : State) : Host.Outcome State Fault Refusal :=
  act2 s t (fun s => (s.requestReset who (.limb l)).getD s)

/-- DIE_RESET -/
def execDieReset (t : Nat) (who : Role) (d : Nat) (s : State) : Host.Outcome State Fault Refusal :=
  act2 s t (fun s => (s.requestReset who (.die d)).getD s)

/-- R18, R79: where all four links of a bough retrain together, its new width and reference clock mode take effect (DEDUCED, log entry
62). -/
def State.formBough (s : State) (b : Nat) : State :=
  if isTBough b then s
  else s.modHier (fun h => { h with
    widthActive := h.widthActive.set b (s.get (Key.BOUGH_WIDTH + b)),
    refclkMode := h.refclkMode.set b (s.get (Key.BOUGH_REFCLK + b)) })

/-- The boughs wholly inside a unit. -/
def UnitId.boughs : UnitId → List Nat
  | .twig _ => []
  | .bough b => [b]
  | .limb l => (List.range 40).filter (fun b => limbOfBough b == l)
  | .die d => (List.range 40).filter (fun b => b / 10 == d)
  | .crown => List.range 40

/-- R31: a reset completes, and with it every request that it absorbed; its links start from Detect (DEDUCED, log entry 62). -/
def resetCompleteEffect (s : State) (u : UnitId) : State :=
  let us := s.resetUnits u
  if us.all (fun v => v ∈ s.hier.resets) then
    let s := s.modHier (fun h => { us.foldl (fun h v => Hier.mark h v .running) h with
      resets := h.resets.filter (fun v => v ∉ us) })
    let s := s.each (us.flatMap UnitId.boughs) State.formBough
    let s := s.each ((unitTwigs us).filter isT) (fun s g => s.modTrunk (trunkOfG g) (fun k =>
      if s.get (Key.TP_ENABLE + trunkOfG g) = 0 then { k with tstate := .disabled }
      else { k with tstate := .detect, train := { k.train with since := s.now } }))
    s.each ((unitTwigs us).filter (fun g => !isT g)) (fun s g => s.modHPort (portOfG g) (fun h => { h with detectAt := s.now }))
  else s

/-- RESET_COMPLETE -/
def execResetComplete (t : Nat) (u : UnitId) (s : State) : Host.Outcome State Fault Refusal :=
  act1 s t (fun s => resetCompleteEffect s u)

end Sys2Proof.Machine
end

