-- ==== Sys2Proof/Machine/Logs.lean ====
section
/-! DEFINITION. What the module writes down when it refuses or discards a request: descriptors and headers as bits
(R159, R288), the TLP log (R389), AER reports and partner violations (R390, R391), gate faults (R264), far failures
(R293, R294), and injection hits (R393 to R395). -/

namespace Sys2Proof.Machine

/-! ### The TLP log and AER -/

/-- R389: an entry enters the log of 16, newest first. -/
def State.logEntry (s : State) (e : LogEntry) : State :=
  s.modFaults (fun f => { f with tlpLog := (e :: f.tlpLog).take 16 })

/-- A discarded TLP or datagram is logged with its descriptor and header (R160). -/
def State.logDiscard (s : State) (d : Desc) (viaTrunk : Bool) (src cause : Nat) : State :=
  s.logEntry { desc := d.bits, header := headerSlot viaTrunk d.msg, ft := s.stampFt, source := src, cause := cause, histSeq := none,
               inj := false }

/-- AER kinds: the bit of the specification's uncorrectable status register; 45 is the advisory non-fatal error. -/
def aerMalformed : Nat := 18
def aerUnsupported : Nat := 20
def aerAcs : Nat := 21
def aerUnexpected : Nat := 16
def aerAdvisory : Nat := 45

/-- An AER report on a virtual port of a partition, shown by its home crown. -/
def State.aerTo (s : State) (p : Nat) (v : Option Nat) (kind : Nat) : State :=
  let s := s.modBridge p v (fun b => { b with fields := assocMod b.fields .aerStatus 0 (fun x => x ||| 2 ^ kind) })
  if s.isHome p then s.emit (.aer p v kind)
  else match s.homeCrown p with
    | some c => s.emit (.signal c (s.groveId p) "aer" [v.getD 0x100, kind])
    | none => s

/-- An AER report with its header in the port's Header Log. -/
def State.aerWith (s : State) (p : Nat) (v : Option Nat) (kind header : Nat) : State :=
  (s.modBridge p v (fun b => { b with fields := assocPut b.fields .headerLog header })).aerTo p v kind

/-! ### Where a request came in -/

/-- What the parse stage knows of a TLP or message: ingress twig (0xF0 to 0xFF for heartwood sources), crown partition,
class, translated requester ID, the virtual port it entered by (`none` of this crown's), whose violations count it,
the trunk it came on, and what its flow unit carried; its order stamp (R159), the requester ID as it came, and the class
that the work or the request behind it names (R165). -/
structure Ingress where
  src : Nat
  part : Nat
  rclass : RClass
  reqId : Nat
  entry : Option (Option Nat)
  key : Option ViolKey
  trunk : Option Nat
  srcCrown : Nat
  gpart : Nat
  track : Nat
  flow : Nat
  hops : Nat
  order : BitVec 32 := 0
  rid : Nat := 0
  cls : Option Nat := none
  deriving DecidableEq, Repr

/-- R163, R165: the class of what comes in: that of its traffic class, or the one that its work names. -/
def State.classIn (s : State) (i : Ingress) (x : Tlp) : Nat := i.cls.getD (s.classFor i.part x.tc)

/-- A completion of the module's own to the requester of a non-posted request. -/
def State.refuseNp (s : State) (i : Ingress) (x : Tlp) (st : CplStatus) : State :=
  if tlpKindCode x.kind = 1 then (s.complete i.part i.srcCrown i.reqId x.tag i.track (s.classIn i x) st []).heartDone i.src x.tag st []
  else s

/-- The descriptor of a TLP (R159). POISON tells of a cell that fails its check here, not of a TLP that came poisoned. -/
def mkDesc (s : State) (i : Ingress) (c : Carrier) (x : Tlp) (egress cls : Nat) : Desc :=
  { id := 0, egress := egress, cells := ceilDiv x.data.length 256, cls := cls, kind := tlpKindCode x.kind, ro := x.ro, ido := x.ido,
    ns := x.ns, mcast := none, cut := false, colour := 0, mark := false, poison := false, part := i.part, src := i.src,
    reqId := i.reqId, len := x.hdrLen + x.data.length, order := i.order, destCrown := 0, gpart := i.gpart, flow := i.flow,
    hops := i.hops, srcCrown := i.srcCrown, msg := .tlp c x, rclass := i.rclass,
    arrived := x.hdrLen + x.data.length, eligible := true, nullified := false, endedOnce := false, sentFus := 0, lastSeq := none,
    epoch := s.gates.epoch, heart := none }

/-- R160: the descriptor of a TLP that is refused where it came in, in its class. -/
def State.descIn (s : State) (i : Ingress) (c : Carrier) (x : Tlp) : Desc := mkDesc s i c x i.src (s.classIn i x)

/-- R390, R402: a violation counts once, in the count its source has. -/
def State.countViol (s : State) (k : Option ViolKey) : State :=
  match k with
  | some k =>
    let s := s.violRoll.modFaults (fun f => { f with violCounts := assocMod f.violCounts k 0 (· + 1) })
    (match k with
      | .twig g => s.countTwig g (if isT g then 0x190 else 0x110) 1
      | _ => s.countHeart 0x3B4 1)
  | none => s

/-- The event source under which a request's discard is logged: of its twig, or of its bough for gate faults. -/
def Ingress.logSource (i : Ingress) : Nat := if i.src < 160 then srcTwig i.src 15 else 0xBCB

/-- R391: a partner violation: logged, counted, reported in the AER of the port by which it entered. -/
def State.violation (s : State) (i : Ingress) (c : Carrier) (x : Tlp) (row : Nat) (aer : Option Nat) : State :=
  let s := s.logDiscard (s.descIn i c x) i.trunk.isSome i.logSource row
  let s := s.countViol i.key
  match aer, i.entry with
  | some k, some v => s.aerWith i.part v k (headerSlot false (.tlp c x))
  | _, _ => s

/-- R391 row 0x0B: a fate query or containment message whose fields contradict TP_PEER: discarded, logged and counted. -/
def State.contradicts (s : State) (via : Nat) : State :=
  let s := s.logEntry { desc := 0, header := 0, ft := s.stampFt, source := srcTwig (gOfTrunk via) 15, cause := 0x0B, histSeq := none,
                        inj := false }
  s.countViol (some (.twig (gOfTrunk via)))

/-! ### Far failures (R293, R294) -/

/-- The virtual port on which R294 raises the advisory error: PF0 stands behind VDP 0xFF. -/
def advisoryPort (r : RClass) (v : Nat) : Option Nat :=
  match r with
  | .host => none
  | .device => some v
  | _ => some 0xFF

/-- A posted request of this crown failed: FAR_FAILURE, and the advisory error in its partition (R284, R294). -/
def State.farFailureHere (s : State) (p : Nat) (r : RClass) (v header : Nat) : State :=
  if (s.part p).state = .active then (s.aerWith p (advisoryPort r v) aerAdvisory header).noteAt 0xC00 p 0 else s

/-- A posted request failed here: its originating crown is told; a local one is this crown's own. The `local_` flag is
false for failures that a local requester learns of in another way. -/
def State.postedFailed (s : State) (d : Desc) (cause vdp : Nat) (local_ : Bool) : State :=
  if d.srcCrown = s.crownId then
    if local_ then s.farFailureHere d.part d.rclass vdp (headerSlot true d.msg) else s
  else if s.fenced d.srcCrown then s
  else s.farFail d.srcCrown d.gpart cause (rclassCode d.rclass) vdp d.bits (headerSlot true d.msg)

/-! ### Gate faults (R264) -/

/-- GATE_FAULT's code: the cause in bits [15:8], the gate in bits [7:0] (DESIGN CHOICE, log entry 22). -/
def gateFaultCode (cause gate : Nat) : Nat := cause * 256 + gate

/-- R275: an event of windows and gates counts on the bough of ingress; of lookups made on the heartwood, there. -/
def State.countLookup (s : State) (i : Ingress) (ev : Nat) : State :=
  if i.src < 160 then s.countBough (boughOf i.src) ev 1 else s.countHeart ev 1

/-- A request that a gate refuses: 1 NO_REGION, 2 DENIED, 3 NO_WINDOW. -/
def State.gateFault (s : State) (i : Ingress) (c : Carrier) (x : Tlp) (gate cause : Nat) : State :=
  let d := s.descIn i c x
  let s := s.refuseNp i x .unsupported
  let s := s.logDiscard d i.trunk.isSome (if i.src < 160 then srcBough (boughOf i.src) 0 else 0xBCB) (0x100 + cause)
  let s := if tlpKindCode x.kind = 1 then s else s.postedFailed d cause 0 false
  let ev := match cause with
    | 1 => 0x303
    | 2 => 0x304
    | _ => 0x306
  let s := s.countLookup i ev
  let s := s.noteAt (if i.src < 160 then srcBough (boughOf i.src) 0 else 0xBCB) (gateFaultCode cause gate) 0
  let s := s.countViol i.key
  match i.entry with
  | some v => s.aerWith i.part v aerUnsupported (headerSlot false (.tlp c x))
  | none => s

/-! ### Discards of queued messages -/

/-- R284: a message whose destination is unreachable leaves its queue. `cause` is that of the far-failure notice. A C6 drop counts with those of
R169 (DEDUCED, log entry 186). -/
def State.undeliverable (s : State) (d : Desc) (cause : Nat) : State :=
  let b := if d.egress < 160 then boughOf d.egress else 0
  if d.mcast.isSome then s.countBough b 0x30B 1
  else
    let s := s.countBough b 0x30B 1
    match d.kind with
    | 1 =>
      let s := s.answerDesc d .aborted
      (match msgTlp d.msg with
        | some (_, x) => if d.srcCrown = s.crownId then s.untrack d.part d.reqId x.tag else s
        | none => s)
    | 0 => (s.logDiscard d true (srcTwig (if d.egress < 160 then d.egress else 0) 8) 0).postedFailed d cause 0 true
    | 3 => if d.cls = 6 then s.countLimb (if d.egress < 160 then limbOf d.egress else 0) 0x208 1 else s.countDrop d.egress 2
    | _ => s

/-! ### Injection (R393 to R395) -/

/-- The slot whose armed checker takes the next item: KIND and SCOPE and UNIT as given. Counts a clean item down when the
slot's DELAY has not run out. -/
def State.injectFind (s : State) (kinds : List Nat) (scope unit : Nat) : Option Nat :=
  (List.range 16).find? (fun k =>
    let v := (s.faults.inject.getD k 0).toNat
    bitOf v 31 && kinds.contains (field v 30 28) && field v 27 24 == scope && field v 23 16 == unit)

/-- One item of a checker passes: whether an armed slot hits it. A hit disarms the slot and raises INJECT_HIT. -/
def State.injectItem (s : State) (kinds : List Nat) (scope unit : Nat) : State × Option Nat :=
  match s.injectFind kinds scope unit with
  | none => (s, none)
  | some k =>
    if (s.faults.injectLeft.getD k 0) = 0 then
      let s := s.modFaults (fun f => { f with inject := f.inject.modify k (fun v => v &&& 0x7FFFFFFF#32) })
      (s.noteAt 0xBD0 (scope * 16 + k) 0, some k)
    else (s.modFaults (fun f => { f with injectLeft := f.injectLeft.modify k (· - 1) }), none)

/-- An event that an injection hit caused (R395). -/
def State.noteInj (s : State) (src cls : Nat) (inj : Bool) : State :=
  s.note { Ev.plain src (Config.eventCode src) cls with inj := inj }

/-! ### Errors of H-links (R98, R391) -/

/-- R391: a violation of the link itself enters the TLP log; it names no TLP. -/
def State.linkViolation (s : State) (g row : Nat) : State :=
  s.logEntry { desc := 0, header := 0, ft := s.stampFt, source := srcTwig g 15, cause := row, histSeq := none, inj := false }

/-- VIOL_CONTAINED of a twig, at F2. -/
def State.violContained (s : State) (g : Nat) : State :=
  (s.contain (.twig g)).note { Ev.plain (srcTwig g 15) (Config.eventCode (srcTwig g 15)) 2 with action := 1 }

/-- R391 row 0x09: the link retrains; the fourth such error within 10 s contains the twig. -/
def State.protoError (s : State) (p : Nat) : State :=
  let g := gOfPort p
  let recent := (s.hport p).protoErrors.filter (fun t => s.now < t + 10000000000) ++ [s.now]
  let full : Bool := 4 ≤ recent.length
  let l0 : Bool := (s.hport p).lstate = .l0
  let s := s.modHPort p (fun h => { h with lstate := .recovery, protoErrors := if full then [] else recent })
  let s := if l0 then s.countTwig g 0x108 1 else s
  let s := ((s.linkViolation g 9).countViol (some (.twig g))).noteFree (srcTwig g 7) 1
  if full then s.violContained g else s

/-- R97, R98, R391: a replay, or an entry to Recovery from L0 that no rate change or Retrain Link caused, by itself or after a protocol error
of the partner; FLITs corrected by FEC and replays asked of the partner are counted; a partner's overflow contains its twig at once
(DESIGN CHOICE, log entry 158). -/
def hpLinkRecoveryEffect (s : State) (p : Nat) (e : LinkError) : State :=
  if p < 144 && (s.hport p).up then
    let g := gOfPort p
    match e with
    | .replay => (s.countTwig g 0x107 1).noteFree (srcTwig g 7) 1
    | .recovery =>
      if (s.hport p).lstate = .l0 then ((s.modHPort p (fun h => { h with lstate := .recovery })).countTwig g 0x108 1).noteFree (srcTwig g 7) 1
      else s
    | .fec n => s.countTwig g 0x105 n
    | .nakSent => s.countTwig g 0x106 1
    | .protocol => s.protoError p
    | .overflow => (s.linkViolation g 8).violContained g
  else s

/-- HP_LINK_RECOVERY -/
def execHpLinkRecovery (t p : Nat) (e : LinkError) (s : State) : Host.Outcome State Fault Refusal :=
  act2 s t (fun s => hpLinkRecoveryEffect s p e)

end Sys2Proof.Machine
end

