-- ==== Sys2Proof/Machine/Line.lean ====
section
/-! DEFINITION. The line of a trunk as bits and symbols (R101, R103, R111 to R116): comma words, lane markers and the marker group,
scrambling, RS(544,514), the four lanes and their levels, and training frames with their check. Every byte goes most significant bit
first, ten bits to a symbol (DESIGN CHOICE, log entry 173). -/

namespace Sys2Proof.Machine

/-! ### Bytes read -/

/-- Bytes `i` to `j` of a payload, most significant first. -/
def beField (bs : List Byte) (i j : Nat) : Nat :=
  ((bs.drop i).take (j + 1 - i)).foldl (fun v b => 256 * v + b.toNat) 0

/-- Bytes `i` to `j`, least significant first. -/
def leField (bs : List Byte) (i j : Nat) : Nat :=
  ((bs.drop i).take (j + 1 - i)).foldr (fun b v => 256 * v + b.toNat) 0

/-! ### Comma words (R115, R116) -/

/-- The words of lane 0. -/
def baseComma : List (BitVec 32) := [0xF0C3A58E, 0x1D27B64A, 0x6B90DE14, 0x37AC0F62, 0xC85D71B3]

/-- R115: the comma word of lane `k`: for lanes 1 to 3, word `k` of the base is inverted. -/
def commaWords (k : Nat) : List (BitVec 32) := if k = 0 then baseComma else baseComma.modify k (~~~ ·)

/-- Its 20 bytes. -/
def commaBytes (k : Nat) : List Byte := (commaWords k).flatMap (fun w => beBytes 4 w.toNat)

/-- R116: what a receive lane matches in 21 bytes: the far lane, and whether it is inverted. -/
def commaMatch (bs : List Byte) : Option (Nat × Bool) :=
  let as_ : Bool → List Byte := fun inv => if inv then bs.map (~~~ ·) else bs
  ((List.range 4).flatMap (fun k => [(k, false), (k, true)])).find? (fun e =>
    (as_ e.2).take 20 == commaBytes e.1 && ((as_ e.2).drop 20).head? == some (BitVec.ofNat 8 e.1))

/-- R116: the lane map and the polarity of four lanes, each with the instant in ns of its comma word: every far lane once, and no
more than 50 ns between any two. -/
def alignLanes (lanes : List (List Byte × Nat)) : Option (BitVec 8 × BitVec 4) :=
  let found := lanes.filterMap (fun e => commaMatch e.1)
  let times := lanes.map (·.2)
  if lanes.length = 4 && found.length = 4 && (found.map (·.1)).Nodup && times.all (fun a => times.all (fun b => a ≤ b + 50)) then
    some (BitVec.ofNat 8 (found.zipIdx.map (fun e => e.1.1 * 4 ^ e.2)).sum,
          BitVec.ofNat 4 (found.zipIdx.map (fun e => e.1.2.toNat * 2 ^ e.2)).sum)
  else none

/-! ### Training frames (R103) -/

/-- A frame of 128 bytes. -/
def trainingFrame (lane type seq : Nat) (content : List Byte) : List Byte :=
  let body := beBytes 1 lane ++ beBytes 1 type ++ beBytes 2 seq ++ padTo 100 content
  commaBytes lane ++ body ++ beBytes 4 (crc32c body).toNat

/-- The lane and the CONTENT of a frame of a type; `none` where its check is bad, or it is no such frame. -/
def frameContent (type : Nat) (frame : List Byte) : Option (Nat × List Byte) :=
  let lane := beField frame 20 20
  if frame.length = 128 && lane < 4 && frame.take 20 == commaBytes lane && beField frame 21 21 = type &&
      beField frame 124 127 = (crc32c ((frame.drop 20).take 104)).toNat then some (lane, (frame.drop 24).take 100)
  else none

/-- A signed byte. -/
def i8 (n : Nat) : Int := if n < 128 then n else (n : Int) - 256

/-- R104: CAPS. -/
def capsOf (c : List Byte) : Caps :=
  { crown := beField c 0 1, trunk := beField c 2 2, rateCeiling := beField c 3 3, cryptPolicy := beField c 4 4,
    cryptSupport := beField c 5 5 = 1, version := beField c 6 6 }

/-- R104: DELAY. -/
def delayOf (c : List Byte) : DelayContent :=
  { role := beField c 0 0, exchange := beField c 2 3, t1 := beField c 4 11, t2 := beField c 12 19, t3 := beField c 20 27 }

/-- R104: EQ. -/
def eqOf (c : List Byte) : EqContent :=
  { lane := beField c 0 0, kind := beField c 1 1, preset := beField c 2 2,
    coeff := [i8 (beField c 4 4), i8 (beField c 5 5), i8 (beField c 6 6), i8 (beField c 7 7)], reqNo := beField c 8 9 }

/-! ### Lane markers (R114) -/

/-- The 40 bytes of a lane's marker. -/
def markerBytes (lane timeState crown stamp count : Nat) : List Byte :=
  let body := beBytes 1 lane ++ beBytes 1 (16 * timeState) ++ beBytes 2 (crown % 1024) ++ beBytes 8 stamp ++ beBytes 4 count
  commaBytes lane ++ body ++ beBytes 4 (crc32c body).toNat

/-- What stands in a lane's place for a marker: `none` where its comma word is missing. -/
def markerOf (lane : Nat) (bs : List Byte) : Option Marker :=
  if bs.take 20 == commaBytes lane then
    some { checkOk := bs.length = 40 && beField bs 20 20 = lane && beField bs 36 39 = (crc32c ((bs.drop 20).take 16)).toNat,
           timeState := beField bs 21 21 / 16, sender := beField bs 22 23 % 1024, ftStamp := beField bs 24 31, count := beField bs 32 35 }
  else none

/-- R114: the marker that counts, of those of the four lanes: the lowest-numbered valid one, else the lowest whose check passes. -/
def markerPick (lanes : List (List Byte)) : Option Marker :=
  let ms := (lanes.zipIdx.filterMap (fun e => markerOf e.2 e.1)).filter (·.checkOk)
  (ms.find? (·.timeState ≠ 0)).orElse (fun _ => ms.head?)

/-- R117: the comma word of some lane is missing from its place. -/
def commaMissing (lanes : List (List Byte)) : Bool :=
  lanes.length ≠ 4 || lanes.zipIdx.any (fun e => (markerOf e.2 e.1).isNone)

/-! ### Scrambler (R111) -/

/-- One bit through the scrambler 1 + x³⁹ + x⁵⁸, whose register holds the last 58 bits sent, the latest in bit 0. -/
def scrBit (r : BitVec 58) (b : Bool) : Bool := b ^^ (r.getLsbD 38 ^^ r.getLsbD 57)

/-- The register after a bit has gone on the line. -/
def scrNext (r : BitVec 58) (b : Bool) : BitVec 58 := (r <<< 1) ||| BitVec.ofNat 58 b.toNat

/-- Scrambling bits. -/
def scramble : BitVec 58 → List Bool → List Bool × BitVec 58
  | r, [] => ([], r)
  | r, b :: l =>
    let o := scrBit r b
    let x := scramble (scrNext r o) l
    (o :: x.1, x.2)

/-- The receiver's undoing: its register holds the last 58 bits received. -/
def descramble : BitVec 58 → List Bool → List Bool × BitVec 58
  | r, [] => ([], r)
  | r, b :: l =>
    let x := descramble (scrNext r b) l
    (scrBit r b :: x.1, x.2)

/-! ### RS(544,514) over 10-bit symbols (R112) -/

/-- Product in GF(2¹⁰) modulo x¹⁰ + x³ + 1 (PRESUMED, log entry 173). -/
def gfMul (a b : Nat) : Nat :=
  ((List.range 10).foldl (fun (r : Nat × Nat) i =>
    (if bitOf b i then Nat.xor r.1 r.2 else r.1, if 512 ≤ r.2 then Nat.xor (2 * r.2) 0x409 else 2 * r.2)) (0, a)).1

/-- The coefficients below the leading one of the generator, the product of x + αʲ for j from 0 to 29, highest power first (PRESUMED,
log entry 173). -/
def rsGenerator : List Nat :=
  ((List.range 30).foldl (fun (r : List Nat × Nat) _ =>
    ((List.zipWith Nat.xor (r.1 ++ [0]) (0 :: r.1.map (gfMul r.2))), gfMul r.2 2)) ([1], 1)).1.drop 1

/-- The 30 parity symbols of a message. -/
def rsParity (m : List Nat) : List Nat :=
  let g := rsGenerator
  m.foldl (fun r x => List.zipWith Nat.xor (r.drop 1 ++ [0]) (g.map (gfMul (Nat.xor x (r.headD 0))))) (List.replicate 30 0)

/-- A codeword: the message, then its parity. -/
def rsEncode (m : List Nat) : List Nat := m ++ rsParity m

/-! ### Symbols, lanes and levels (R101, R112, R114) -/

/-- The bits of a byte, most significant first. -/
def byteBits (b : Byte) : List Bool := [7, 6, 5, 4, 3, 2, 1, 0].map b.getLsbD

/-- The number that bits spell. -/
def bitsNat (l : List Bool) : Nat := l.foldl (fun n b => 2 * n + b.toNat) 0

/-- `n` symbols of ten bits. -/
def toSymbols (n : Nat) (l : List Bool) : List Nat := (List.range n).map (fun i => bitsNat ((l.drop (10 * i)).take 10))

/-- R112: codeword symbol i goes to lane i mod 4. -/
def toLanes (cw : List Nat) : List (List Nat) :=
  (List.range 4).map (fun k => (cw.zipIdx.filter (fun e => e.2 % 4 = k)).map (·.1))

/-- R101: the levels of a lane's symbols: a bit each at rate code 0x01, else PAM4, two bits to a level. -/
def toLevels (rate : Nat) (l : List Nat) : List Nat :=
  if rate = 1 then l.flatMap (fun x => [9, 8, 7, 6, 5, 4, 3, 2, 1, 0].map (fun i => (bitOf x i).toNat))
  else l.flatMap (fun x => [4, 3, 2, 1, 0].map (fun i => Config.pam4Level (x / 4 ^ i % 4)))

/-- R114: the 1,280 bits of a marker group: symbol 4·j + k is symbol j of lane k's marker. -/
def markerGroup (markers : List (List Byte)) : List Bool :=
  (List.range 32).flatMap (fun j => markers.flatMap (fun m => ((m.flatMap byteBits).drop (10 * j)).take 10))

/-- R113: message bits of a marker period that stand before FU number `n`, and codewords that they fill. -/
def fuStart (n : Nat) : Nat := 1280 + 2048 * n
def codewordsBy (n : Nat) : Nat := if 4096 ≤ n then 1633 else if n = 0 then 0 else fuStart n / 5140

/-- Zero bits that fill the last codeword of a period. -/
def padBits : List Bool := List.replicate 3732 false

/-- `n` codewords are cut off the message bits that wait. -/
def cutCodewords : Nat → List Bool → List (List Nat) × List Bool
  | 0, l => ([], l)
  | n + 1, l =>
    let r := cutCodewords n (l.drop 5140)
    (rsEncode (toSymbols 514 (l.take 5140)) :: r.1, r.2)

/-- R101, R111 to R113: one FU goes on the line: at the start of a period the marker group before it, at its end the pad bits; the
codewords that it fills leave. -/
def LineTx.put (x : LineTx) (group : List Bool) (fu : List Byte) : LineTx × List (List Nat) :=
  let head := if x.fus = 0 then x.bits ++ group else x.bits
  let last : Bool := x.fus = 4095
  let sc := scramble x.scr (fu.flatMap byteBits ++ if last then padBits else [])
  let cut := cutCodewords (codewordsBy (x.fus + 1) - codewordsBy x.fus) (head ++ sc.1)
  ({ x with scr := sc.2, bits := cut.2, fus := if last then 0 else x.fus + 1, markers := if x.fus = 0 then x.markers + 1 else x.markers },
   cut.1)

/-! ### Codewords received (R112, R117) -/

/-- A codeword begins within FU number `n` of a period, or before its first. -/
def codewordBegins (n : Nat) : Bool := n = 0 || (fuStart n - 1) / 5140 ≠ (fuStart n + 2047) / 5140

/-- FU number `n` overlaps the codeword in which the FU before it ended. -/
def codewordGoesOn (n : Nat) : Bool := n ≠ 0 && fuStart n / 5140 = (fuStart n - 1) / 5140

/-- R112: the decoder corrects up to 15 symbol errors of a codeword. -/
def correctable (errs : Nat) : Bool := errs ≤ 15

/-- An FU is received; `errs` are the symbol errors of the codeword that begins with it, if one does. -/
def LineRx.take (x : LineRx) (errs : Nat) : LineRx :=
  let n := (x.fus + 1) % 4096
  if codewordBegins x.fus then
    { x with fus := n, bad := !correctable errs, badRun := if correctable errs then 0 else x.badRun + 1 }
  else { x with fus := n }

/-- R112: some codeword that the FU overlaps is uncorrectable. -/
def LineRx.fails (x : LineRx) (errs : Nat) : Bool :=
  (codewordGoesOn x.fus && x.bad) || (codewordBegins x.fus && !correctable errs)

end Sys2Proof.Machine
end

