-- ==== Sys2Proof/Machine/Fences.lean ====
section
/-! DEFINITION. Fences (R285 to R287), the discard of a trunk's frozen buffer (R146, R147), and what a trunk's return to L0
brings to routing (R282, R284), as shared operations. -/

namespace Sys2Proof.Machine

/-- Bytes of a trunk message: a TLP has its carrier header in front (R121). -/
def Desc.trunkBytes (d : Desc) : Nat :=
  match d.msg with
  | .tlp _ _ => 32 + d.len
  | _ => d.len

/-- FUs of a trunk message. -/
def Desc.fus (d : Desc) : Nat := ceilDiv d.trunkBytes 224

/-- R146: the FUs that a trunk's replay buffer and queues hold. -/
def State.heldFus (s : State) (q : Nat) : Nat :=
  let x := (s.trunk q).tx
  x.buf.length + x.ctl.length + ((s.core.queues.filter (·.egress == gOfTrunk q)).map (fun d => d.fus - d.sentFus)).sum

/-- R146, R147: the frozen buffer and everything queued to a trunk are discarded, and each FU counted; posted TLPs are reported as
"delivery uncertain", non-posted ones are left to their originators' timeouts. -/
def State.discardTrunk (s : State) (q : Nat) : State :=
  let g := gOfTrunk q
  let ds := s.core.queues.filter (·.egress == g)
  let n := s.heldFus q
  let s := s.each ds (fun s d =>
    let s := (s.freeCells d).dequeue d.id
    match d.kind with
      | 0 => (s.logDiscard d true (srcTwig g 8) 0).postedFailed d 6 0 true
      | 3 => if d.cls = 6 then s.countLimb (limbOf g) 0x208 1 else s
      | _ => s)
  let s := s.modTx q (fun x => { x with buf := [], ctl := [], openDesc := [], replayAt := none, oldest := x.nextTx,
                                        frozen := false, handedOver := true, discarded := x.discarded + n })
  if n ≠ 0 then s.noteFree (srcTwig g 8) 2 else s

/-- R142, R143, R147: a retrain: a fate query leaves, or, where the far crown is fenced, the frozen buffer is discarded at once. A trunk held
in DISABLED does not train. -/
def State.trunkRetrain (s : State) (q : Nat) (requested : Bool) : State :=
  if (s.trunk q).tstate = .disabled then s
  else
    let wasUp := s.trunkUp q
    let s := s.trunkLeave q .detect requested
    let far : Bool := match (s.trunk q).peer with
      | some (c, _) => s.fenced c
      | none => false
    let s := if !wasUp then s else if far then s.discardTrunk q else s.sendFateQuery q
    s.answerQueries q

/-- R284: a destination becomes unreachable: what waits for it leaves its queue. -/
def State.giveUp (s : State) (dest : Nat) : State :=
  if dest ∈ s.fabric.unreachable then s
  else
    let s := (s.modFabric (fun f => { f with unreachable := f.unreachable ++ [dest] })).noteAt 0xC04 dest 0
    let ds := s.core.queues.filter (fun d => d.destCrown == dest && d.egress < 160 && isT d.egress && d.mcast.isNone && d.sentFus == 0)
    s.each ds (fun s d => ((s.freeCells d).dequeue d.id).undeliverable d 7)

/-- R287: what a fence on crown `x` brings when it is set. -/
def State.fenceActions (s : State) (x : Nat) : State :=
  -- tracked requests
  let far := s.fabric.tracks.filter (fun k => k.dest == x && k.quarantined.isNone)
  let s := s.each far (fun s k => s.endTrack k .aborted)
  let s := s.modFabric (fun f => { f with tracks := f.tracks.map (fun k =>
    if k.dest == x && k.quarantined.isNone then { k with quarantined := some s.now } else k) })
  -- frozen buffers of trunks to it
  let s := s.each ((List.range 16).filter (fun q =>
    (s.trunk q).tx.frozen && (match (s.trunk q).peer with | some (c, _) => c == x | none => false))) State.discardTrunk
  -- queued messages for it
  let ds := s.core.queues.filter (fun d => d.destCrown == x && d.egress < 160 && isT d.egress && d.mcast.isNone && d.sentFus == 0)
  let s := s.each ds (fun s d => ((s.freeCells d).dequeue d.id).undeliverable d 7)
  -- partitions whose home it is
  s.each ((List.range 64).filter (fun p => s.partUsed p && s.homeCrown p == some x)) (fun s p => s.partReset p 4)

/-- R285: a ground of a fence on a crown arises. -/
def State.fenceOn (s : State) (x : Nat) (code : FenceCode) : State :=
  if (x, code) ∈ s.fabric.fences then s
  else
    let was := s.fenced x
    let s := s.modFabric (fun f => { f with fences := f.fences ++ [(x, code)] })
    if was then s else (s.noteAt 0xC06 x 0).fenceActions x

/-- R285: a ground of a fence ends; with the last one the fence clears, and so does the cause of the resets that it held. -/
def State.fenceOff (s : State) (x : Nat) (code : FenceCode) : State :=
  if (x, code) ∈ s.fabric.fences then
    let s := s.modFabric (fun f => { f with fences := eraseAll f.fences (x, code) })
    if s.fenced x then s
    else
      let s := s.noteAt 0xC07 x 0
      s.each ((List.range 64).filter (fun p => (s.part p).cause == 4 && s.homeCrown p == some x)) State.partCauseEnd
  else s

/-- FENCE_STATE of a crown: the code of its oldest ground. -/
def State.fenceState (s : State) (x : Nat) : Nat :=
  match assocGet s.fabric.fences x with
  | none => 0
  | some .notice => 1
  | some .trunkLoss => 2
  | some .installer => 3

/-- What the return of trunk `q` to L0 brings to routing: destinations are reachable again, a fence by trunk loss on its peer ends, and
the settle time of R282 starts (DEDUCED, log entry 75). -/
def State.trunkRouted (s : State) (q : Nat) : State :=
  let s := s.modFabric (fun f => { f with
    unreachable := f.unreachable.filter (fun d => q ∉ s.membersFor d),
    settleAt := assocPut f.settleAt q s.now })
  match (s.trunk q).peer with
  | some (c, _) => s.fenceOff c .trunkLoss
  | none => s

end Sys2Proof.Machine
end

