-- ==== Sys2Proof/Machine/Gates.lean ====
section
/-! DEFINITION. Decoding a request, windows and target gates (R244 to R276): where a request goes, what a gate answers, and
the commands of the gate scrubber and of the protection epoch. -/

namespace Sys2Proof.Machine

/-! ### Regions and gates (R258 to R266) -/

/-- A valid region of a gate (R259, R260). -/
structure Region where
  base : Nat
  size : Nat
  parts : Nat
  rights : Nat
  deriving DecidableEq, Repr

/-- The region holds an address. -/
def Region.holds (r : Region) (a : Nat) : Bool := r.base ≤ a && a < r.base + r.size

/-- Two regions share an address. -/
def Region.overlaps (r q : Region) : Bool := r.base < q.base + q.size && q.base < r.base + r.size

/-- R266: LOCKED as the module forces it: in a pool region that names a partition, and in every region of gates 0x98 and
0x99. -/
def lockedForced (gate parts rights : Nat) : Nat :=
  if (gate == 0x90 && parts ≠ 0) || gate == 0x98 || gate == 0x99 then rights ||| 2 ^ 50 else rights

/-- The valid regions of a gate, in order of region number. -/
def State.regions (s : State) (gate : Nat) : List Region :=
  let lo := Key.GATE_REG_ADDR + 256 * gate
  s.dict.filterMap (fun e =>
    if lo ≤ e.1 && e.1 < lo + 256 && bitOf e.2 0 then
      let n := 256 * gate + (e.1 - lo)
      let parts := s.getDef (Key.GATE_REG_PARTS + n) 0
      some { base := e.2 / 4096 * 4096, size := 2 ^ (12 + field e.2 11 6), parts := parts,
             rights := lockedForced gate parts (s.getDef (Key.GATE_REG_RIGHTS + n) 0) }
    else none)

/-- The bit of GATE_REG_RIGHTS that admits a class. -/
def rightsBit : RClass → Nat
  | .host => 63
  | .device => 62
  | .engine => 61
  | .func => 60
  | .fwuser => 59
  | .fw => 58
  | .debug => 57

/-- What a gate answers. -/
inductive GateAnswer where
  | allow (ns ro ido cache : Bool)
  | byDefault
  | fault (cause : Nat)
  | debugRefused
  deriving DecidableEq, Repr

/-- R265: the default map for FW requests that match no region. -/
def defaultMap (gate : Nat) : Bool := gate < 0x90 || (0x91 ≤ gate && gate ≤ 0x97) || (0x9A ≤ gate && gate ≤ 0x9C)

/-- R262: the decision of a gate on a request's first byte. The regions of a gate whose port names no port never match
(R258). -/
def State.gateDecide (s : State) (gate : Nat) (rc : RClass) (part addr : Nat) (rd wr : Bool) : GateAnswer :=
  let live : Bool := 144 ≤ gate || s.namesPort (gOfPort gate)
  if gate = 0x90 && s.mem.mode = 3 then .fault 2
  else match (if live then (s.regions gate).find? (·.holds addr) else none) with
  | some r =>
    let ok : Bool := bitOf r.rights (rightsBit rc) && (rc = .fw || bitOf r.parts part)
    let suffice : Bool := (!rd || bitOf r.rights 56) && (!wr || bitOf r.rights 55)
    if rc = .debug && bitOf r.rights 50 && !s.sec.testMode then .debugRefused
    else if ok && suffice then .allow (bitOf r.rights 54) (bitOf r.rights 53) (bitOf r.rights 52) (bitOf r.rights 51)
    else .fault 2
  | none =>
    if rc = .fw then (if defaultMap gate then .byDefault else .fault 2) else .fault 1

/-- Whether a request reads, and whether it writes. An AtomicOp does both. -/
def tlpReads : TlpKind → Bool
  | .memRead | .memReadLocked | .fetchAdd | .swap | .cas => true
  | _ => false
def tlpWrites : TlpKind → Bool
  | .memWrite | .fetchAdd | .swap | .cas => true
  | _ => false

/-- A memory or AtomicOp request, which the decode of R244 takes. -/
def isMemRequest (k : TlpKind) : Bool := tlpReads k || tlpWrites k

/-- R267: a request crosses a 4 KiB boundary. -/
def crosses4K (addr len : Nat) : Bool := 1 ≤ len && addr % 4096 + len > 4096

/-! ### Windows (R247 to R253) -/

/-- Where a decoded request goes. -/
inductive Target where
  | pool (off : Nat)
  | port (g : Nat) (addr : Nat)
  | registers (gate : Nat) (off : Nat)
  | pf0 (off : Nat)
  | vdp (n : Nat) (addr : Nat)
  | upstream
  | remote (crown tkind select faddr : Nat)
  | miss (w : Nat)
  | noWindow
  | resetting (g : Nat)
  | acsBlocked (m : Nat)
  | unclaimed
  deriving DecidableEq, Repr

/-- R250: the window of a partition that holds a partition offset. -/
def State.windowAt (s : State) (p off : Nat) : Option (Nat × Nat) :=
  (s.dict.find? (fun e =>
    Key.WIN_MAP ≤ e.1 && e.1 < Key.WIN_MAP + 0x10000 && bitOf e.2 63 && field e.2 62 57 == p &&
      field e.2 45 12 * 4096 ≤ off && off < field e.2 45 12 * 4096 + 2 ^ (12 + field e.2 56 52))).map
    (fun e => (e.1 - Key.WIN_MAP, e.2))

/-- R211: routing ID `rid` is a virtual function of a shared twig's device. -/
def State.sharedHas (s : State) (g rid : Nat) : Bool :=
  let x := s.sharedOf g
  let n := field (s.get (Key.SHARED_DEV + g)) 8 0
  x.rid ≠ 0 && (List.range n).any (fun k => x.rid + k * x.stride == rid)

/-- R250, R253: a target of this crown, from the selector that travels with the fabric address (DESIGN CHOICE, log entry 71). -/
def State.resolve (s : State) (kind toff select : Nat) : Target :=
  match kind with
  | 0 => .pool toff
  | 1 =>
    let g := select % 256
    let a := s.get (Key.PORT_XLATE + g) + toff
    if 160 ≤ g || isT g || !s.namesPort g || 2 ^ 64 ≤ a then .noWindow else .port g a
  | 2 =>
    let rid := field select 17 2
    let bar := select % 4
    let shared := (List.range 160).filter (fun g => !isT g && s.isShared g)
    (match shared.find? (fun g => s.sharedHas g rid) with
      | some g =>
        if bar = 3 || Config.functionBarSize g rid bar ≤ toff then .noWindow
        else if (s.sharedOf g).mode = .resetting || (s.sharedOf g).mode = .enumerating then .resetting g
        else .port g (Config.functionBar g rid bar + toff)
      | none =>
        match shared.find? (fun g => (s.sharedOf g).mode = .resetting || (s.sharedOf g).mode = .enumerating) with
        | some g => .resetting g
        | none => .noWindow)
  | _ => .noWindow

/-- The target behind a window whose entry is at hand. -/
def State.throughWindow (s : State) (w map off : Nat) : Target :=
  let v := s.get (Key.WIN_TARGET + w)
  let toff := field v 51 18 * 4096 + (off - field map 45 12 * 4096)
  let crown := field v 61 52
  if crown = s.crownId then s.resolve (field v 63 62) toff (field v 17 0)
  else .remote crown (field v 63 62) (field v 17 0) (crown * 2 ^ 46 + toff % 2 ^ 46)

/-- R252: a lookup by stem (4: the heartwood), through its cache. -/
def State.windowLookup (s : State) (stem p off : Nat) : Target :=
  match (if s.mem.mode = 3 then none else s.windowAt p off) with
  | none => .noWindow
  | some (w, map) => if (stem, w) ∈ s.gates.cache then s.throughWindow w map off else .miss w

/-- A window entry enters a cache of 16,384 entries, 4,096 on the heartwood; the oldest leaves (R252). -/
def Gates.cachePut (x : Gates) (stem w : Nat) : Gates :=
  let mine := x.cache.filter (fun e => e.1 == stem)
  let full : Bool := mine.length ≥ (if stem = 4 then 4096 else 16384)
  let base := match mine with
    | e :: _ => if full then eraseAll x.cache e else x.cache
    | [] => x.cache
  { x with cache := insertNew base (stem, w) }

/-! ### Base registers and bridges (R244, R254, R255) -/

/-- A bridge's memory or prefetchable window holds an address; the fields hold the first and the last address (DESIGN CHOICE, log entry
23). -/
def Bridge.claims (b : Bridge) (a : Nat) : Bool :=
  let inside : CfgField → CfgField → Bool := fun lo hi => b.fld lo ≤ a && a ≤ b.fld hi && b.fld hi ≠ 0
  b.fld .memEnable == 1 && (inside .memBase .memLimit || inside .prefBase .prefLimit)

/-- What the ACS controls of a VDP make of a request from below it to another VDP (R206). -/
inductive PeerWay where
  | direct
  | redirect
  | blocked
  deriving DecidableEq, Repr

/-- R206: P2P Request Redirect sends the request to the host; with P2P Egress Control the vector decides: a set bit redirects where Request
Redirect is set too, and blocks otherwise (PRESUMED, log entry 174). Source Validation is in force always (R391 row 0x05). -/
def Bridge.peerWay (b : Bridge) (n : Nat) : PeerWay :=
  if b.fld .acsEgress = 1 then
    (if !bitOf (b.fld .acsEgressVector) n then .direct else if b.fld .acsRedirect = 1 then .redirect else .blocked)
  else if b.fld .acsRedirect = 1 then .redirect
  else .direct

/-- R255: a request reaches VDP 0xFF by the routing of the virtual bridges. -/
def State.reachesFF (s : State) (i : Ingress) (a : Nat) : Bool :=
  let x := s.part i.part
  match i.entry with
  | some none => x.upstream.fld .memEnable == 1 && (x.vdp 0xFF).claims a
  | some (some m) => (x.vdp m).peerWay 0xFF = .direct && (x.vdp 0xFF).claims a
  | none => true

/-- The size of BAR0 of a module function. -/
def barSize (f : Nat) : Nat := if f = 0 || 17 ≤ f then 0x10000 else 0x4000

/-- R244 step 2: the module function whose BAR0 claims an address, with the offset. -/
def State.barClaim (s : State) (i : Ingress) (a : Nat) : Option (Nat × Nat) :=
  if s.isHome i.part && s.reachesFF i a then
    let x := s.part i.part
    ((List.range 25).find? (fun f =>
      let b := (x.fn f).fld .barAddr
      x.fnExists f && (x.fn f).fld .memEnable == 1 && b ≤ a && a < b + barSize f)).map (fun f => (f, a - (x.fn f).fld .barAddr))
  else none

/-- The offset of BAR2 in a Type 0 header: the field that holds the fabric BAR's address. -/
def fabricBarField : CfgField := .other 0x18

/-- R244 step 3: the partition offset, when the fabric BAR claims an address. -/
def State.fabricClaim (s : State) (i : Ingress) (a : Nat) : Option Nat :=
  let x := s.part i.part
  let b := (x.fn 0).fld fabricBarField
  if s.isHome i.part && x.fabricBar ≠ 0 && (x.fn 0).fld .memEnable == 1 && s.reachesFF i a && b ≤ a && a < b + 2 ^ x.fabricBar then
    some (a - b)
  else none

/-- R244 step 4: the bound VDP, other than the one of entry, whose windows hold an address. -/
def State.vdpClaim (s : State) (i : Ingress) (a : Nat) : Option Nat :=
  ((s.part i.part).vdps.find? (fun e => e.1 ≠ 0xFF && some (some e.1) ≠ i.entry && e.2.claims a && (s.bind i.part e.1).kind ≠ 0)).map (·.1)

/-- R206, R244 step 4: a request from below VDP `m`: to another VDP as the ACS controls have it, VDP 0xFF's windows among them; back below `m`
only over the host, by Upstream Forwarding, else it is an Unsupported Request (PRESUMED, log entry 174); else upstream (step 5). -/
def State.fromVdp (s : State) (i : Ingress) (m a : Nat) : Target :=
  let b := (s.part i.part).vdp m
  let go : Nat → Target → Target := fun n direct => match b.peerWay n with
    | .direct => direct
    | .redirect => .upstream
    | .blocked => .acsBlocked m
  match s.vdpClaim i a with
  | some n => go n (.vdp n a)
  | none =>
    if ((s.part i.part).vdp 0xFF).claims a then go 0xFF .upstream
    else if b.claims a && b.fld .acsUpstream = 0 then .unclaimed
    else .upstream

/-- R244 steps 4 and 5: what no BAR claims. -/
def State.routeReq (s : State) (i : Ingress) (a : Nat) : Target :=
  match i.entry with
  | some none =>
    if (s.part i.part).upstream.fld .memEnable = 1 then
      (match s.vdpClaim i a with
        | some n => .vdp n a
        | none => .unclaimed)
    else .unclaimed
  | some (some m) => s.fromVdp i m a
  | none =>
    (match s.vdpClaim i a with
      | some n => .vdp n a
      | none => .upstream)

/-- R244: the decode of a memory request, after the check of step 1. The first step that claims decides. -/
def State.decodeReq (s : State) (i : Ingress) (x : Tlp) : Target :=
  match s.barClaim i x.addr with
  | some (0, off) => if off < 0xC000 then .pf0 off else .registers 0x92 (i.part * 0x4000 + (off - 0xC000))
  | some (f, off) =>
    .registers 0x91 (i.part * 0x100000 + (if f ≤ 16 then (f - 1) * 0x4000 else 0x40000 + (f - 17) * 0x10000) + off)
  | none =>
    match s.fabricClaim i x.addr with
    | some off => s.windowLookup (if i.src < 160 then stemOf i.src else 4) i.part off
    | none => s.routeReq i x.addr

/-- A change of windows or gates takes effect at one instant (R269, R270): the epoch advances, scrubbing of the changed
gates restarts (R271). -/
def State.protChanged (s : State) (gates : List Nat) : State :=
  s.modGates (fun x => { x with epoch := x.epoch + 1, epochAt := s.now, slowRaised := false,
                                scrubbed := x.scrubbed.filter (fun g => g ∉ gates) })

/-! ### Commands -/

/-- R270: nothing parsed under an epoch before `n` is still on its way. -/
def State.drainedTo (s : State) (n : Nat) : Bool :=
  s.core.queues.all (fun d => d.lastSeq.isSome || n ≤ d.epoch.toNat) &&
    s.core.waiting.all (fun w => w.descs.all (fun d => n ≤ d.epoch.toNat))

/-- R270: PROT_DRAINED reaches an epoch. -/
def protDrainCompleteEffect (s : State) (epoch : Nat) : State :=
  if epoch ≤ s.gates.epoch.toNat && s.gates.drained.toNat < epoch && s.drainedTo epoch then
    s.modGates (fun x => { x with drained := BitVec.ofNat 32 epoch })
  else s

/-- PROT_DRAIN_COMPLETE -/
def execProtDrainComplete (t epoch : Nat) (s : State) : Host.Outcome State Fault Refusal :=
  act1 s t (fun s => protDrainCompleteEffect s epoch)

/-- R270: PROT_DRAINED has trailed PROT_EPOCH for more than 10 ms. -/
def protDrainSlowEffect (s : State) : State :=
  if s.gates.drained ≠ s.gates.epoch && !s.gates.slowRaised && s.after s.gates.epochAt 10000000 then
    (s.modGates (fun x => { x with slowRaised := true })).noteFree 0xBCF 0
  else s

/-- PROT_DRAIN_SLOW -/
def execProtDrainSlow (t : Nat) (s : State) : Host.Outcome State Fault Refusal := act1 s t protDrainSlowEffect

/-- Some two regions of a list share an address. -/
def overlapIn : List Region → Bool
  | [] => false
  | r :: rs => rs.any (·.overlaps r) || overlapIn rs

/-- R271: the scrubber visits a gate: overlaps in the master, and the stems' copies against it. The 160th gate of a pass
completes it. -/
def gateScrubVisitEffect (s : State) (gate : Nat) (copyOk : Bool) : State :=
  if 160 ≤ gate then s
  else
    let done := insertNew s.gates.scrubbed gate
    let s := s.modGates (fun x =>
      if done.length = 160 then { x with scrubbed := [], scrubPass := x.scrubPass + 1 } else { x with scrubbed := done })
    let s := if overlapIn (s.regions gate) then s.noteAt 0xBCD gate 3 else s
    if copyOk then s else s.noteAt 0xBCE gate 3

/-- GATE_SCRUB_VISIT -/
def execGateScrubVisit (t gate : Nat) (copyOk : Bool) (s : State) : Host.Outcome State Fault Refusal :=
  act2 s t (fun s => gateScrubVisitEffect s gate copyOk)

/-- R272: an error in a stem's copy of a gate; an uncorrectable one holds its requests until the reload. The event takes
the source of the stem's first bough (DESIGN CHOICE, log entry 24). -/
def gateCopyErrorEffect (s : State) (stem gate : Nat) (correctable : Bool) : State :=
  if 4 ≤ stem || 160 ≤ gate then s
  else
    let s := if correctable then s else s.modGates (fun x => { x with heldGates := insertNew x.heldGates (stem, gate) })
    s.noteFree (srcBough (10 * stem) 2) 1

/-- GATE_COPY_ERROR -/
def execGateCopyError (t stem gate : Nat) (correctable : Bool) (s : State) : Host.Outcome State Fault Refusal :=
  act2 s t (fun s => gateCopyErrorEffect s stem gate correctable)

end Sys2Proof.Machine
end

