-- ==== Sys2Proof/Machine/Switch.lean ====
section
/-! DEFINITION. The switch core's admission (R161 to R184): classes, colours, early drop, the tests of R169 and R182, waiting at
ingress, and what the parse stage does with each TLP. -/

namespace Sys2Proof.Machine

/-- R162: a C7 message draws its tokens. -/
def State.c7Take (s : State) (g len : Nat) : State :=
  let b := (s.c7Bucket g).take len
  s.modCore (fun c => { c with c7 := assocPut c.c7 g b })

/-- R360: a mark on a datagram whose CONG reads not capable is a drop. -/
def Desc.canMark (d : Desc) : Bool :=
  match d.msg with
  | .datagram x => x.cong ≠ 0
  | _ => true

/-- R177, R178, R360: the decision on a C6 datagram. -/
def State.placeC6 (s : State) (d : Desc) : State :=
  let c := s.coloured [d]
  let s := c.1
  let d := c.2.headD d
  let l := if d.egress < 160 then limbOf d.egress else 0
  let drop : State → State := fun s => s.countLimb l 0x208 1
  if 160 ≤ d.egress then (if s.fits d.egress 6 d.charge then s.enter d else drop s)
  else
    let v := s.getDef (Key.C6_PROFILE + 256 * d.colour + d.egress) 0xFFFFBFFFF0090000
    let occ : Rat := s.occ d.egress 6
    let old := assocGetD s.core.avgs d.egress 0
    let avg := old + (occ - old) / 2 ^ field v 19 16
    let s := s.modCore (fun c => { c with avgs := assocPut c.avgs d.egress avg })
    let minTh : Rat := field v 63 46
    let maxTh : Rat := field v 45 28
    if !s.fits d.egress 6 d.charge then drop s
    else if avg < minTh then s.enter d
    else if maxTh ≤ avg then s.countLimb l 0x206 1
    else
      let prob : Rat := (field v 27 20 : Rat) / 256 * (avg - minTh) / (maxTh - minTh)
      let hit : Bool := decide (((Config.randomDelay s.draws % 2 ^ 32 : Nat) : Rat) / 2 ^ 32 < prob)
      let s := s.drew
      if hit then
        if bitOf v 15 && d.canMark then (s.countLimb l 0x207 1).enter { d with mark := true } else s.countLimb l 0x206 1
      else s.enter d

/-! ### What the parse stage does -/

/-- The flow of a message (R279): its sender is the completer of a completion, else the requester. -/
def State.flowIn (s : State) (i : Ingress) (x : Tlp) : Nat :=
  if i.trunk.isSome then i.flow
  else flowOf s.crownId i.gpart (if x.kind = .completion then x.completer else i.reqId) i.src (s.classIn i x)

/-- The class and flow of what a request enqueues; a completion has its request's class (R165). -/
def State.dress (s : State) (i : Ingress) (x : Tlp) (ds : List Desc) : List Desc :=
  ds.map (fun d => if d.kind = 2 then d else { d with cls := s.classIn i x, flow := s.flowIn i x })

/-- R282: a flow that runs on another trunk than its home stays there until a rebalance. -/
def State.stick (s : State) (dest flow q : Nat) : State :=
  let rest := s.fabric.interim.filter (fun e => !(e.1 == dest && e.2.1 == flow))
  s.modFabric (fun f => { f with interim := if s.homeMember dest flow = some q then rest else rest ++ [(dest, flow, q)] })

/-- A message towards another crown: to the trunk that routing gives, or handled as unreachable (R280, R284). -/
def State.towards (s : State) (i : Ingress) (c : Carrier) (x : Tlp) (dest : Nat) : State × List Desc :=
  let flow := s.flowIn i x
  let hops := if i.trunk.isSome then i.hops - 1 else s.getDef Key.ROUTE_HOP_LIMIT 8 - 1
  let d := { mkDesc s i c x 0 (s.classIn i x) with destCrown := dest, flow := flow, hops := hops, msg := .tlp c x }
  if s.unreachable dest then (s.undeliverable { d with egress := if i.src < 160 then i.src else 36 } 7, [])
  else match s.routeOrHome dest flow with
    | some q =>
      let s := if s.homeMember dest flow = some q then s else s.countBough (boughOf (gOfTrunk q)) 0x309 1
      let s := if s.trunkUp q then s.stick dest flow q else s
      (s, [{ d with egress := gOfTrunk q }])
    | none => (s.undeliverable { d with egress := if i.src < 160 then i.src else 36 } 7, [])

/-- R34: a request towards a twig that is offline or whose link is down. -/
def State.targetGone (s : State) (i : Ingress) (c : Carrier) (x : Tlp) (g : Nat) : State :=
  let s := s.refuseNp i x .aborted
  if tlpKindCode x.kind = 1 then s
  else if tlpKindCode x.kind = 0 then
    let d := { s.descIn i c x with egress := g }
    ((s.countLimb (limbOf g) 0x20C 1).logDiscard d i.trunk.isSome i.logSource 0).postedFailed d 5 0 false
  else s

/-- R253: a request to a device that resets or is being enumerated. -/
def State.targetResetting (s : State) (i : Ingress) (c : Carrier) (x : Tlp) (g : Nat) : State :=
  let s := s.refuseNp i x .aborted
  if tlpKindCode x.kind = 1 then s
  else
    let d := { s.descIn i c x with egress := g }
    (s.countLimb (limbOf g) 0x20C 1).postedFailed d 9 0 false

/-- The TLP as the gate delivers it (R263). -/
def asGated (x : Tlp) (a : Nat) (ns ro ido : Bool) : Tlp := { x with addr := a, ns := ns, ro := ro, ido := ido }

/-- R398: a LOCKED region refuses a debug access: logged, counted, DEBUG_REFUSED. -/
def State.debugRefused (s : State) (i : Ingress) (c : Carrier) (x : Tlp) : State :=
  let s := s.logDiscard (s.descIn i c x) false 0xBF1 0x102
  (s.countHeart 0x3B7 1).noteFree 0xBF1 1

/-- R460: link IDE is required on a twig and not secure. -/
def State.ideFailed (s : State) (g : Nat) : Bool := assocGetD s.sec.ide g 0 == 2

/-- R262: one gate before one egress. Answers the descriptor that passes. -/
def State.passGate (s : State) (i : Ingress) (c : Carrier) (x : Tlp) (gate addr egress : Nat) : State × List Desc :=
  let rd := tlpReads x.kind
  let wr := tlpWrites x.kind
  match s.gateDecide gate i.rclass i.part addr rd wr with
  | .allow ns ro ido _ =>
    (s.countLookup i 0x302, [mkDesc s i c (asGated x addr ns ro ido) egress 0])
  | .byDefault => (s.countLookup i 0x305, [mkDesc s i c (asGated x addr false false false) egress 0])
  | .fault cause => (s.gateFault i c x gate cause, [])
  | .debugRefused => (s.debugRefused i c x, [])

/-- A poisoned TLP towards a heartwood target is not written (R391). -/
def State.poisonedHeart (s : State) (i : Ingress) (c : Carrier) (x : Tlp) : State :=
  if tlpKindCode x.kind = 1 then s.refuseNp i x .aborted
  else
    let d := s.descIn i c x
    (s.logDiscard d i.trunk.isSome i.logSource 0).postedFailed d 4 0 false

/-- The stem's heartwood intake for a source. -/
def intakeOf (i : Ingress) : Nat := 160 + (if i.src < 160 then stemOf i.src else 0)

/-- R272: the stem reloads a gate: the request waits at its twig as it came. -/
def State.waitsAtGate (s : State) (i : Ingress) (gate : Nat) : Bool := (stemOf i.src, gate) ∈ s.gates.heldGates && i.src < 160
def State.holdAtTwig (s : State) (i : Ingress) (x : Tlp) : State :=
  s.modGates (fun y => { y with heldTlps := y.heldTlps ++ [(i.src, { x with reqId := i.rid }, i.order)] })

/-- A request towards a port of this crown. Its link must be up; the port gate decides. A T-twig is no port. -/
def State.toPort (s : State) (i : Ingress) (c : Carrier) (x : Tlp) (g addr : Nat) (gated : Bool) : State × List Desc :=
  let low := s.portLowG g
  let p := portOfG low
  if s.twigOffline low || !(s.hport p).up then (s.targetGone i c x low, [])
  else if s.ideFailed low then (s.gateFault i c x p 2, [])
  else if gated then
    if s.waitsAtGate i p then (s.holdAtTwig i x, [])
    else s.passGate i c x p addr low
  else (s, [mkDesc s i c { x with addr := addr } low 0])

/-- R314: the grove partition, plus one, that owns a pool access through the region at an offset; 0 for the module. -/
def State.poolOwner (s : State) (gate off : Nat) : Nat :=
  if gate ≠ 0x90 then 0
  else match (s.regions gate).find? (·.holds off) with
    | some r => (match (List.range 64).find? (fun p => bitOf r.parts p) with | some p => s.groveId p + 1 | none => 0)
    | none => 0

/-- A request towards a heartwood target behind a gate. Locked requests complete as Unsupported Request (R295) (DESIGN CHOICE, log entry
45). -/
def State.toHeart (s : State) (i : Ingress) (c : Carrier) (x : Tlp) (gate off : Nat) : State × List Desc :=
  if x.kind = .memReadLocked then (s.refuseNp i x .unsupported, [])
  else if x.poisoned then (s.poisonedHeart i c x, [])
  else if s.waitsAtGate i gate then (s.holdAtTwig i x, [])
  else
    let r := s.passGate i c x gate off (intakeOf i)
    (r.1, r.2.map (fun d => { d with heart := some (gate, s.poolOwner gate off) }))

/-- R224: the slice is being reset: configuration requests see Request Retry Status, the rest is refused. -/
def State.sliceBusy (s : State) (i : Ingress) (x : Tlp) (g : Nat) : State :=
  match tlpKindCode x.kind with
  | 1 => s.refuseNp i x (if x.kind = .config then .retry else .unsupported)
  | 0 => s.countLimb (limbOf g) 0x20C 1
  | _ => s

/-- The carrier header of a TLP between the crowns of a partition: a request names the VDP, a message nothing (R288, R292). -/
def carrierTo (i : Ingress) (x : Tlp) (n crown : Nat) : Carrier :=
  if tlpKindCode x.kind = 0 && x.kind ≠ .memWrite then { Carrier.zero with ckind := 2, rclass := rclassCode i.rclass, tkind := 0xFF }
  else { Carrier.zero with lock := x.kind = .memReadLocked, rclass := rclassCode i.rclass, tkind := 3, select := n, faddr := crown * 2 ^ 46 }

/-- A request that the bridges routed to a bound VDP (R210, R212, R214): its twig here, or the crown that holds it; a configuration
request only for a whole twig (R292; DEDUCED, log entry 191). -/
def State.toVdp (s : State) (i : Ingress) (c : Carrier) (x : Tlp) (n addr : Nat) : State × List Desc :=
  let b := s.bind i.part n
  let v := (s.part i.part).vdp n
  if b.kind = 0 then (s.refuseNp i x .unsupported, [])
  else if b.crown ≠ s.crownId then
    if x.kind = .ioRequest then (s.refuseNp i x .unsupported, [])
    else if (x.kind = .memReadLocked || x.kind = .config) && b.kind = 2 then (s.refuseNp i x .unsupported, [])
    else s.towards i (carrierTo i x n b.crown) x b.crown
  else if !v.live then (s.gateFault i c x (portOfG b.twig) 1, [])
  else if b.kind = 2 then
    if x.kind = .memReadLocked then (s.refuseNp i x .unsupported, [])
    else if v.quarantined then (s.refuseNp i x .aborted, [])
    else if v.sbr || v.flrRunning then (s.sliceBusy i x b.twig, [])
    else if v.powerOff || v.linkDisable then (s.refuseNp i x .unsupported, [])
    else if x.kind = .config then
      let a := x.addr / 65536 * 65536 + b.fnFirst + x.addr % 256
      -- R212: one device on bus S with FN_COUNT + 1 functions
      if x.addr % 65536 / 256 ≠ v.fld .secondaryBus || b.fnCount < x.addr % 256 then (s.refuseNp i x .unsupported, [])
      else s.toPort i c { x with addr := a } b.twig a false
    else s.toPort i c x b.twig addr (isMemRequest x.kind)
  else s.toPort i c x b.twig addr (isMemRequest x.kind)

/-- The specification's codes of error messages: correctable, non-fatal, fatal. -/
def isErrorMsg (code : Nat) : Bool := code = 0x30 || code = 0x31 || code = 0x33

/-- A TLP that travels upstream to the host: no gate (R244 step 5). On a member crown it goes to the home crown for the VDP
it came by (DEDUCED, log entry 25); an error message travels as signalling of the partition manager (R292). -/
def State.toHost (s : State) (i : Ingress) (c : Carrier) (x : Tlp) : State × List Desc :=
  match s.upTwig i.part with
  | some u => s.toPort i c x u x.addr false
  | none =>
    match s.homeCrown i.part, i.entry with
    | some h, some (some n) =>
      if x.kind = .message && isErrorMsg x.code then (s.emit (.signal h i.gpart "error message" [n, x.code, x.reqId]), [])
      else s.towards i (carrierTo i x n h) x h
    | _, _ => (s.refuseNp i x .unsupported, [])

/-- R239, R181: the descriptors of a multicast write through a crown group. A refusing gate gives its member none; the header is logged
and one event raised once per write (R183) (DESIGN CHOICE, log entry 47). -/
def State.multicast (s : State) (i : Ingress) (x : Tlp) (gr grp : Nat) (notTo : Option Nat) : State × List Desc :=
  let v := s.mcastGroup gr
  let c : Carrier := { Carrier.zero with mcast := true, rclass := rclassCode i.rclass, tkind := 0xFF, mcgroup := gr }
  let hops := if i.trunk.isSome then i.hops - 1 else s.getDef Key.ROUTE_HOP_LIMIT 8 - 1
  let mine := fun (g : Nat) => (s.wholeVdp g).filter (fun b => b.1 == i.part)
  let wants := fun (g : Nat) => match mine g with
    | some (_, n) =>
      let b := (s.part i.part).vdp n
      bitOf (b.fld .mcReceive) grp && !bitOf (b.fld .mcBlockAll) grp
    | none => true
  let ports := ((groupPorts v).map (fun p => s.portLowG (gOfPort p))).filter (fun g =>
    g ≠ i.src && wants g && !s.twigOffline g && (s.hport (portOfG g)).up)
  let answers := ports.map (fun g => (g, s.gateDecide (portOfG g) i.rclass i.part x.addr false true))
  let toPorts := answers.filterMap (fun a =>
    match a.2 with
    | .allow ns ro ido _ => some (mkDesc s i c (asGated x x.addr ns ro ido) a.1 0)
    | .byDefault => some (mkDesc s i c (asGated x x.addr false false false) a.1 0)
    | _ => none)
  let refused := answers.find? (fun a => match a.2 with
    | .fault _ => true
    | .debugRefused => true
    | _ => false)
  let toTrunks := ((groupTrunks v).filter (fun q => notTo ≠ some q)).map (fun q =>
    { mkDesc s i c x (gOfTrunk q) 0 with hops := hops, destCrown := ((s.trunk q).peer.map (fun (c : Nat × Nat) => c.1)).getD 0 })
  let toHeart := if groupHeart v then [{ mkDesc s i c x (intakeOf i) 0 with heart := some (0x101, 0) }] else []
  let s := match refused with
    | some (g, .fault cause) =>
      let s := s.logDiscard { s.descIn i c x with egress := g } i.trunk.isSome (srcBough (if i.src < 160 then boughOf i.src else 0) 0) (0x100 + cause)
      s.noteAt (if i.src < 160 then srcBough (boughOf i.src) 0 else 0xBCB) (gateFaultCode cause (portOfG g)) 0
    | some (_, .debugRefused) => s.debugRefused i c x
    | _ => s
  (s, (toPorts ++ toTrunks ++ toHeart).map (fun d => { d with mcast := some 0 }))

/-- R239: the multicast group of an address in the partition's MC_Base window (the specification's MC_Base: its low six bits
hold the index position). -/
def State.mcGroupOf (s : State) (i : Ingress) (x : Tlp) : Option Nat :=
  let v := (s.part i.part).upstream.fld .mcBase
  let base := v / 4096 * 4096
  let pos := v % 64
  if x.kind = .memWrite && v ≠ 0 && base ≤ x.addr && (x.addr - base) / 2 ^ pos < 64 then some ((x.addr - base) / 2 ^ pos) else none

/-- R252: a request whose window entry must be fetched waits, up to 64 misses on a stem; beyond that it waits at ingress. The heartwood's
own work waits where it arose. -/
def State.holdMiss (s : State) (i : Ingress) (x : Tlp) (w : Nat) : State :=
  let miss (stem : Nat) (x : Tlp) (work : Option (Nat × RClass × Nat)) (s : State) : State :=
    s.modGates (fun y => { y with misses := y.misses ++ [{ stem := stem, window := w, src := i.src, tlp := x, order := i.order, work := work }] })
  if 160 ≤ i.src then miss 4 x (some (i.part, i.rclass, s.classIn i x)) (s.countHeart 0x301 1)
  else
    let s := s.countBough (boughOf i.src) 0x301 1
    if (s.gates.misses.filter (·.stem == stemOf i.src)).length < 64 then miss (stemOf i.src) { x with reqId := i.rid } none s
    else s.holdAtTwig i x

/-- R206: the ACS controls of the VDP of entry block a request: Completer Abort, or a logged discard, with ACS Violation in AER (PRESUMED,
log entry 174). -/
def State.acsViolation (s : State) (i : Ingress) (c : Carrier) (x : Tlp) (m : Nat) : State :=
  let s := s.refuseNp i x .aborted
  let s := if tlpKindCode x.kind = 1 then s else s.logDiscard (s.descIn i c x) i.trunk.isSome i.logSource 5
  s.aerWith i.part (some m) aerAcs (headerSlot false (.tlp c x))

/-- A decoded memory request goes to its target (DEDUCED, log entry 73). -/
def State.deliverTo (s : State) (i : Ingress) (c : Carrier) (x : Tlp) (tg : Target) : State × List Desc :=
  match tg with
  | .pool off => s.toHeart i c x 0x90 off
  | .registers gate off => s.toHeart i c x gate off
  | .pf0 off =>
    if i.rclass = .host then
      if x.kind = .memReadLocked then (s.refuseNp i x .unsupported, [])
      else (s, [{ mkDesc s i c { x with addr := off } (intakeOf i) 0 with heart := some (0x100, 0) }])
    else (s.gateFault i c x 0x92 1, [])
  | .port g a => if x.kind = .memReadLocked then (s.refuseNp i x .unsupported, []) else s.toPort i c x g a true
  | .vdp n a => s.toVdp i c x n a
  | .upstream => s.toHost i c x
  | .remote crown tkind select faddr =>
    if x.kind = .memReadLocked then (s.refuseNp i x .unsupported, [])
    else
      s.towards i { Carrier.zero with rclass := rclassCode i.rclass, tkind := tkind, select := select, faddr := faddr } x crown
  | .miss w => (s.holdMiss i x w, [])
  | .noWindow => (s.gateFault i c x 0xFF 3, [])
  | .resetting g => (s.targetResetting i c x g, [])
  | .acsBlocked m => (s.acsViolation i c x m, [])
  | .unclaimed =>
    let s := s.refuseNp i x .unsupported
    (match i.entry with
      | some v => s.aerWith i.part v aerUnsupported (headerSlot false (.tlp c x))
      | none => s, [])

/-- R244: a memory request is decoded and goes to its target; one that a window translates counts (R275). A selective IDE stream is
refused where a window would translate it (R459) (DESIGN CHOICE, log entry 194). -/
def State.decodeTo (s : State) (i : Ingress) (c : Carrier) (x : Tlp) : State × List Desc :=
  let tg := s.decodeReq i x
  let windowed : Bool := (s.barClaim i x.addr).isNone && (s.fabricClaim i x.addr).isSome
  let counts : Bool := match tg with
    | .miss _ => false
    | .noWindow => false
    | _ => windowed
  if windowed && x.ide then (s.gateFault i c x 0xFF 2, [])
  else
  (if counts then s.countLookup i 0x300 else s).deliverTo i c x tg

/-- The VDP below which a bus number lies. -/
def State.vdpOfBus (s : State) (p bus : Nat) : Option Nat :=
  ((s.part p).vdps.find? (fun e => e.1 ≠ 0xFF && (s.bind p e.1).kind ≠ 0 && e.2.fld .secondaryBus ≤ bus &&
    bus ≤ e.2.fld .subordinateBus && e.2.fld .secondaryBus ≠ 0)).map (·.1)

/-- A TLP routed by ID: configuration and message TLPs from the host, whose address operand holds the routing ID in bits [15:0] and, of a
configuration request, the register above it; from below, messages go upstream. I/O goes by the I/O range of a VDP (offsets 0x1C and 0x1D of its header). -/
def State.byBus (s : State) (i : Ingress) (c : Carrier) (x : Tlp) : State × List Desc :=
  if i.entry = some none then
    match s.vdpOfBus i.part (x.addr % 65536 / 256) with
    | some n => s.toVdp i c x n x.addr
    | none => (s, [])
  else s.toHost i c x

def State.byIo (s : State) (i : Ingress) (c : Carrier) (x : Tlp) : State × List Desc :=
  match (s.part i.part).vdps.find? (fun e => e.1 ≠ 0xFF && e.2.fld (.other 0x1C) ≤ x.addr && x.addr ≤ e.2.fld (.other 0x1D) &&
    e.2.fld (.other 0x1D) ≠ 0) with
  | some (n, _) => s.toVdp i c x n x.addr
  | none => if i.entry = some none then (s.refuseNp i x .unsupported, []) else s.toHost i c x

/-- R297: an Unlock from the host releases the twig, or follows the sequence to the crown that holds the twig and then releases
the semaphore. One that finds no lock is discarded and counted (R298). -/
def State.unlockPart (s : State) (i : Ingress) (x : Tlp) : State × List Desc :=
  match s.fabric.locks.find? (·.part == i.part) with
  | some k =>
    let s := s.modFabric (fun f => { f with locks := f.locks.filter (·.part ≠ i.part) })
    (match k.via with
      | some q => (match (s.trunk q).peer with
          | some (crown, _) =>
            s.towards i { Carrier.zero with ckind := 2, rclass := rclassCode i.rclass, tkind := 0xFF } x crown
          | none => (s, []))
      | none => (s, []))
  | none => (s.countDrop i.src 3, [])

/-! ### Completions at a port (R289, R290, R365, R391) -/

/-- The descriptor that carries a completion of a request back to its source twig, in the request's class (R165). -/
def State.backTo (s : State) (i : Ingress) (x : Tlp) (src reqId tag part cls : Nat) : State × List Desc :=
  let x := { x with reqId := reqId, tag := tag }
  if src < 160 then
    let i := { i with part := part, gpart := s.groveId part, reqId := reqId, cls := some cls }
    -- R212: the device knows its physical ID
    (s, [{ mkDesc s i Carrier.zero { x with reqId := s.physId part reqId } (s.portLowG src) cls with flow := s.flowIn i x }])
  else
    let s := s.emit (.completion part reqId tag cls x.status x.data)
    (if lastCpl x then s.heartDone src tag x.status x.data else s, [])

/-- R206: P2P Completion Redirect: a completion without RO from below a VDP to a requester below another VDP of the partition goes to the
host's link, and its request then waits for it there (PRESUMED, log entry 174). -/
def State.completionRedirect (s : State) (i : Ingress) (x : Tlp) (r : NpReq) : Option Nat :=
  match i.entry, s.upTwig i.part with
  | some (some m), some u =>
    if ((s.part i.part).vdp m).fld .acsCompletion = 1 && !x.ro && r.src < 160 && s.portLowG r.src ≠ s.portLowG u then some (s.portLowG u) else none
  | _, _ => none

/-- R337: the ARI function number of a module function (DESIGN CHOICE, log entry 3). -/
def ariOf (f : Nat) : Nat := if f = 0 then 0 else if f ≤ 16 then 15 + f else f - 16

/-- R363, R365: a completion for a module function's request that has been given up. -/
def State.lateCompletion (s : State) (p f : Nat) (h : Function) (tag : Nat) : State :=
  match assocGet h.timedOut tag with
  | some e =>
    let s := (s.modFn p f (fun y => { y with timedOut := assocErase y.timedOut tag })).countHeart 0x3AA 1
    let s := s.aerTo p (some 0xFF) aerAdvisory
    if e < 32 then s.noteAt (srcEngine e 2) 0 0 else s
  | none => (s.modFn p f (fun y => { y with quarantined := assocErase y.quarantined tag })).countHeart 0x3A9 1

/-- R212: the completer ID of a slice's function as its partition knows it. -/
def State.partCompleter (s : State) (i : Ingress) (x : Tlp) : Tlp :=
  match i.entry with
  | some (some n) =>
    let b := s.bind i.part n
    if b.kind = 2 && s.isShared i.src then { x with completer := ((s.part i.part).vdp n).fld .secondaryBus * 256 + (x.completer - b.fnFirst) } else x
  | _ => x

/-- A completion enters from a device or a host. -/
def State.completionIn (s : State) (i : Ingress) (x : Tlp) : State × List Desc :=
  let low := i.src
  -- R212: below a slice's VDP only its own partition's requests are answered
  let mine : Nat → Bool := fun p => !s.isShared low || i.entry.isNone || p == i.part
  match s.core.outstanding.find? (fun r => r.target == low && r.reqId == x.reqId && r.tag == x.tag && mine r.part) with
  | some r =>
    if !r.want.meets x then (s.violation i Carrier.zero x 7 (some aerMalformed), [])
    else
      let left : List NpReq → List NpReq := fun l => if lastCpl x then l.filter (fun e => e ≠ r)
        else l.map (fun e => if e = r then { e with want := r.want.after x } else e)
      let s := s.modCore (fun c => { c with outstanding := left c.outstanding })
      -- R187: the parse stage refuses a contained partition's TLPs
      if r.part < 64 && (s.part r.part).state = .contained then (s, [])
      else match s.completionRedirect i x r with
      | some u =>
        (s.modCore (fun c => { c with outstanding := c.outstanding.filter (fun e => e ≠ { r with want := r.want.after x }) ++
          [{ r with target := u }] })).backTo i (s.partCompleter i x) u r.reqId r.tag r.part r.cls
      | none => s.backTo i (s.partCompleter i x) r.src r.reqId r.tag r.part r.cls
  | none =>
    match s.fabric.proxies.find? (fun k => k.port == low && k.tag == x.tag) with
    | some k =>
      if !k.want.meets x then (s.violation i Carrier.zero x 7 (some aerMalformed), [])
      else
      let left : List Proxy → List Proxy := fun l => if lastCpl x then l.filter (fun e => e ≠ k)
        else l.map (fun e => if e = k then { e with want := k.want.after x } else e)
      let s := s.modFabric (fun f => { f with proxies := left f.proxies })
      if k.part < 64 && (s.part k.part).state = .contained then (s, [])
      else s.towards { i with reqId := k.reqId, part := k.part, gpart := s.groveId k.part, cls := some k.cls } { Carrier.zero with ckind := 1, rclass := rclassCode i.rclass, tkind := 0xFF, track := k.track }
        { s.partCompleter i x with reqId := k.reqId, tag := k.reqTag } k.crown
    | none =>
      if (x.reqId, x.tag) ∈ s.fabric.lateReads then
        ((s.modFabric (fun f => { f with lateReads := eraseAll f.lateReads (x.reqId, x.tag) })).countHeart 0x382 1, [])
      else match (List.range 64).find? (fun p => (x.reqId, x.tag) ∈ (s.part p).quarantinedTags) with
      | some p =>
        ((s.modPart p (fun y => { y with quarantinedTags := eraseAll y.quarantinedTags (x.reqId, x.tag) })).countLimb
          (limbOf low) 0x214 1, [])
      | none =>
        match (s.part i.part).fns.find? (fun e => ariOf e.1 == x.reqId % 256 && (e.2.quarantined ++ e.2.timedOut).any (·.1 == x.tag)) with
        | some (f, h) => (s.lateCompletion i.part f h x.tag, [])
        | none =>
          if (s.part i.part).fns.any (fun e => ariOf e.1 == x.reqId % 256 && e.2.outstanding.any (·.1 == x.tag)) then (s, [])
          else (s.violation i Carrier.zero x 6 (some aerUnexpected), [])

/-- R244 and R391: the parse stage, for a TLP that has not been translated. Answers what it enqueues (DEDUCED, log entry 73). -/
def State.parse (s : State) (i : Ingress) (x : Tlp) : State × List Desc :=
  let c := Carrier.zero
  if !x.specOk || x.kind = .datagram || x.kind = .engine then (s.violation i c x 1 (some aerMalformed), [])
  else if isMemRequest x.kind && crosses4K x.addr x.lenBytes then
    ((s.countLookup i 0x307).violation i c x 1 (some aerMalformed), [])
  else if x.kind = .completion then s.completionIn i x
  else if (s.part i.part).state ≠ .active then
    -- R378: the posted requests to a contained partition count
    let s := s.refuseNp i x .aborted
    (if (s.part i.part).state = .contained && tlpKindCode x.kind = 0 && i.src < 160 then s.countLimb (limbOf i.src) 0x20C 1 else s, [])
  else if x.kind = .config && i.entry ≠ some none then
    ((s.refuseNp i x .unsupported).violation i c x 2 (some aerUnsupported), [])
  else if x.kind = .memReadLocked && i.rclass ≠ .host then
    ((s.refuseNp i x .unsupported).violation i c x 3 (some aerUnsupported), [])
  else if x.kind = .vdmMirath then (s.violation i c x 4 (some aerUnsupported), [])
  else if x.kind = .unlock && i.entry = some none then s.unlockPart i x
  else if x.kind = .memReadLocked && i.part ∈ s.fabric.broken then
    ((s.refuseNp i x .unsupported).modFabric (fun f => { f with broken := eraseAll f.broken i.part }), [])
  else if x.kind = .ioRequest then s.byIo i c x
  else if isMemRequest x.kind then
    match s.mcGroupOf i x with
    | some grp =>
      let m := s.get (Key.PART_MCAST_MAP + 256 * i.part + grp)
      if m = 0xFFFF then (s.gateFault i c x 0xFF 3, []) else s.multicast i x (m % 4096) grp none
    | none => s.decodeTo i c x
  else s.byBus i c x

/-- Where a TLP on an H-twig comes from: the host of a partition, a device bound whole, or a function of a slice (R212). The
answer may also be a violation of row 0x05, or nobody's. -/
inductive Origin where
  | known (i : Ingress) (x : Tlp)
  | stranger (i : Ingress)
  | quarantined (i : Ingress)
  | deviceError (uncorrectable : Bool)
  | nobody
  deriving DecidableEq, Repr

/-- R213: an error of a shared device's physical function reaches the installer alone, by the twig's event source; an uncorrectable one
requests the deferred reset (DESIGN CHOICE, log entry 189). -/
def State.deviceErrorAt (s : State) (g : Nat) (uncorrectable : Bool) : State :=
  let s := s.noteAt (srcTwig g 7) (if uncorrectable then 2 else 1) 1
  if uncorrectable then s.sharedRequest g 3 else s

/-- DESIGN CHOICE, log entry 72. -/
def State.originOf (s : State) (g : Nat) (x : Tlp) : Origin :=
  let base : Ingress := { src := g, part := 0, rclass := .device, reqId := x.reqId, entry := none, key := some (.twig g), trunk := none,
                          srcCrown := s.crownId, gpart := 0xFFFF, track := 0, flow := 0, hops := 0, rid := x.reqId }
  match s.upstreamPart g with
  | some p => .known { base with part := p, rclass := .host, entry := some none, gpart := s.groveId p } x
  | none =>
    if s.isShared g then
      if x.kind = .completion then
        match s.sliceOfRid g x.completer with
        | some (p, n, _) =>
          .known { base with part := p, entry := some (some n), key := some (.holder g p), gpart := s.groveId p } x
        | none => .known { base with part := 0 } x
      else match s.sliceOfRid g x.reqId with
        | some (p, n, b) =>
          let v := (s.part p).vdp n
          let i := { base with part := p, reqId := v.fld .secondaryBus * 256 + (x.reqId - b.fnFirst), entry := some (some n),
                               key := some (.holder g p), gpart := s.groveId p }
          if v.quarantined then .quarantined i else .known i { x with reqId := i.reqId }
        | none =>
          if s.sharedHas g x.reqId then .nobody
          else if x.kind = .message && isErrorMsg x.code && x.reqId < (s.sharedOf g).rid then .deviceError (x.code ≠ 0x30)
          else .stranger base
    else match s.wholeVdp g with
      | some (p, n) =>
        let v := (s.part p).vdp n
        let i := { base with part := p, entry := some (some n), gpart := s.groveId p }
        let bus := x.reqId / 256
        if x.kind = .completion || (v.fld .secondaryBus ≤ bus && bus ≤ v.fld .subordinateBus) then .known i x else .stranger i
      | none => .nobody

/-- What the parse stage makes of a request, with its class, goes to its queues. -/
def State.route (s : State) (i : Ingress) (x : Tlp) : State :=
  let r := s.parse i x
  r.1.submit i.src (some x.tc) (r.1.dress i x r.2)

/-- R252, R272: requests of a source and class wait behind one that waits for a window entry or a gate. -/
def State.waitsBehind (s : State) (g : Nat) (x : Tlp) : Bool :=
  isMemRequest x.kind && (s.gates.misses.any (fun m => m.src == g && m.tlp.reqId == x.reqId && m.tlp.tc == x.tc) ||
    s.gates.heldTlps.any (fun e => e.1 == g && e.2.1.reqId == x.reqId && e.2.1.tc == x.tc))

/-- A TLP at an H-twig with its order stamp, from its origin on to its queues (DESIGN CHOICE, log entry 72). -/
def State.ingress (s : State) (g : Nat) (x : Tlp) (order : BitVec 32) : State :=
  match s.originOf g x with
  | .nobody => s
  | .quarantined i => s.refuseNp { i with order := order } x .aborted
  | .deviceError bad => s.deviceErrorAt g bad
  | .stranger i =>
    (s.refuseNp i x .unsupported).violation { i with order := order } Carrier.zero x 5 (if i.entry.isSome then some aerAcs else none)
  | .known i x' =>
    let i := { i with order := order }
    let bound : Bool := match i.entry with
      | some (some n) => ((s.part i.part).vdp n).live
      | _ => true
    if !bound then s.gateFault i Carrier.zero x' (portOfG g) 1
    else if s.ideFailed g then s.gateFault i Carrier.zero x' (portOfG g) 2
    else if s.waitsBehind g x then s.holdAtTwig i x'
    else s.route i x'

/-- R171, R172, R244: a TLP enters on an H-twig whose link is up and uses its credits; beyond those given it is a receiver overflow (row
0x08 of R391). -/
def tlpIngressEffect (s : State) (g : Nat) (x : Tlp) : State :=
  let low := s.portLowG g
  let p := portOfG low
  if 160 ≤ g || isT g || s.twigOffline g || !(s.hport p).up then s
  else if !s.fcCovers p x then hpLinkRecoveryEffect s p .overflow
  else
    let s0 := s
    -- R393: an armed slot feeds the FLIT check; the partner replays the FLIT
    let hit := s.injectItem [5] 0 g
    let s := if hit.2.isSome then hit.1.countTwig low 0x106 1 else hit.1
    let s := (s.fcTake p x).modHPort p (fun h => { h with order := h.order + 1, lastTlp := s.now })
    (((s.countTwig low 0x100 1).countTwig low 0x102 x.data.length).ingress low x (s.hport p).order).fcSettle s0

/-- TLP_INGRESS -/
def execTlpIngress (t g : Nat) (tlp : Tlp) (s : State) : Host.Outcome State Fault Refusal :=
  act2 s t (fun s => tlpIngressEffect s g tlp)

/-! ### Other admission commands -/

/-- R175: a cut-through TLP whose tail is malformed is a partner violation of row 0x01 (R391) and is ended. -/
def State.badTail (s : State) (d : Desc) : State :=
  let entry : Option (Option Nat) := match s.upstreamPart d.src with
    | some _ => some none
    | none => (s.wholeVdp d.src).map (fun b => some b.2)
  let s := (s.logDiscard d false (srcTwig d.src 15) 1).countViol (some (if s.isShared d.src then .holder d.src d.part else .twig d.src))
  let s := match entry with
    | some v => s.aerWith d.part v aerMalformed (headerSlot false d.msg)
    | none => s
  s.cutAbort d

/-- R174, R175: `arrived` bytes of a cut-through TLP have arrived; it becomes eligible at its threshold. A malformed tail ends it. -/
def cutThroughStartEffect (s : State) (id arrived : Nat) (tailOk : Bool) : State :=
  match s.core.queues.find? (fun d => d.id == id && d.cut && decide (d.arrived < d.len)) with
  | none => s
  | some d =>
    if !tailOk then s.badTail d
    else
      let a := max d.arrived (min arrived d.len)
      s.modDesc id (fun d => { d with arrived := a, eligible := d.eligible || decide (s.cutThreshold d ≤ a) })

/-- CUT_THROUGH_START -/
def execCutThroughStart (t id arrived : Nat) (tailOk : Bool) (s : State) : Host.Outcome State Fault Refusal :=
  act2 s t (fun s => cutThroughStartEffect s id arrived tailOk)

/-- R175: the last cell of a nullified cut-through TLP has been written: it is sent again, whole. -/
def cutResendEffect (s : State) (id : Nat) : State :=
  s.modDesc id (fun d => if d.cut then { d with arrived := d.len, eligible := true, nullified := false } else d)

/-- CUT_RESEND -/
def execCutResend (t id : Nat) (s : State) : Host.Outcome State Fault Refusal := act1 s t (fun s => cutResendEffect s id)

/-- R186: a buffer fault of the limb. -/
def bufStructFaultEffect (s : State) (l : Nat) : State :=
  if 8 ≤ l then s
  else (s.contain (.limb l)).note { Ev.plain (srcLimb l 3) (Config.eventCode (srcLimb l 3)) 2 with action := 3 }

/-- BUF_STRUCT_FAULT -/
def execBufStructFault (t l : Nat) (s : State) : Host.Outcome State Fault Refusal :=
  act2 s t (fun s => bufStructFaultEffect s l)

/-- CELL_FREE_DONE: the cells that a half was freeing are free (R187). -/
def execCellFreeDone (t l : Nat) (s : State) : Host.Outcome State Fault Refusal :=
  act1 s t (fun s => s.modCore (fun c => { c with freeing := c.freeing.filter (fun f => limbOf f.egress ≠ l) }))

/-- A descriptor of a request of a partition and traffic class. -/
def Desc.ofTc (d : Desc) (part tc : Nat) : Bool :=
  d.part == part && d.kind ≠ 2 && (match msgTlp d.msg with
    | some (_, x) => x.tc == tc
    | none => false)

/-- R164: some descriptor of a partition and traffic class is still queued under a class that is no longer theirs. -/
def State.oldClassLeft (s : State) (part tc cls : Nat) : Bool := s.core.queues.any (fun d => d.ofTc part tc && d.cls ≠ cls)

/-- R164: the hold on a partition and traffic class ends: what waits goes on under the class that the map gives now. -/
def State.reclass (s : State) (part tc cls : Nat) : State :=
  s.modCore (fun c => { c with
    holds := c.holds.filter (fun k => !(k.part == part && k.tc == tc)),
    waiting := c.waiting.map (fun w => { w with
      classHold := if w.classHold = some (part, tc) then none else w.classHold,
      descs := w.descs.map (fun d => if d.ofTc part tc then { d with cls := cls } else d) }) })

/-- R164: nothing is left under an old class: the hold ends. -/
def classMapReleaseEffect (s : State) (part tc : Nat) : State :=
  if !s.heldClass part tc || s.oldClassLeft part tc (s.classFor part tc) then s else s.reclass part tc (s.classFor part tc)

/-- CLASS_MAP_RELEASE -/
def execClassMapRelease (t part tc : Nat) (s : State) : Host.Outcome State Fault Refusal :=
  act1 s t (fun s => classMapReleaseEffect s part tc)

/-- R164: the twigs that hold TLPs of a partition and traffic class: at their ingress, or in a trunk's receive pool. -/
def State.holdTwigs (s : State) (part tc : Nat) : List Nat :=
  (s.core.waiting.filter (fun w => w.classHold = some (part, tc) && w.src < 160)).map (·.src) ++
    ((List.range 16).filter (fun q => (s.trunk q).rx.pool.any (fun m => m.gpart == s.groveId part &&
      (match m.msg with | .tlp _ x => x.tc == tc && x.kind ≠ .completion | _ => false)))).map gOfTrunk

/-- R164: the hold has lasted more than 10 ms: CLASS_MAP_HOLD once, at each limb whose twigs hold such TLPs. -/
def classMapHoldEffect (s : State) (part tc : Nat) : State :=
  match s.core.holds.find? (fun h => h.part == part && h.tc == tc) with
  | some h =>
    if h.raised || !s.after h.since 10000000 then s
    else
      let s := s.modCore (fun c => { c with holds := c.holds.map (fun k => if k = h then { k with raised := true } else k) })
      let limbs := (s.holdTwigs part tc).foldl (fun l g => insertNew l (limbOf g)) []
      s.each limbs (fun s l => s.noteFree (srcLimb l 4) 0)
  | none => s

/-- CLASS_MAP_HOLD -/
def execClassMapHold (t part tc : Nat) (s : State) : Host.Outcome State Fault Refusal :=
  act1 s t (fun s => classMapHoldEffect s part tc)

/-- The heartwood's own work of a miss, as the parse stage sees it. -/
def State.workIngress (s : State) (m : WinMiss) (w : Nat × RClass × Nat) : Ingress :=
  { src := m.src, part := w.1, rclass := w.2.1, reqId := m.tlp.reqId, entry := none, key := some (.part w.1), trunk := none,
    srcCrown := s.crownId, gpart := s.groveId w.1, track := 0, flow := 0, hops := 0, order := m.order, cls := some w.2.2 }

/-- A request behind a miss goes on: of a twig from its ingress, of the heartwood from its parse stage. -/
def State.goOn (s : State) (m : WinMiss) : State :=
  match m.work with
  | some w =>
    let i := s.workIngress m w
    let r := s.parse i m.tlp
    r.1.submit m.src none (r.1.dress i m.tlp r.2)
  | none => s.ingress m.src m.tlp m.order

/-- R252: a fetched window entry. A failed side-tag check rewrites the line and fetches again, with its F1 event; else the
entry enters the cache and the requests behind the miss go on. -/
def winFetchDoneEffect (s : State) (stem w : Nat) (tagOk : Bool) : State :=
  if !tagOk then
    -- the bough of the request that asked for the line
    let b := ((s.gates.misses.find? (fun m => m.stem == stem && m.window == w)).map (fun m => boughOf m.src)).getD (10 * stem)
    s.noteFree (if stem < 4 then srcBough b 1 else 0xBCC) 1
  else
    let s0 := s
    let s := s.modGates (fun x => x.cachePut stem w)
    let mine := s.gates.misses.filter (fun m => m.stem == stem && m.window == w)
    let onStem : Nat × Tlp × BitVec 32 → Bool := fun e => stemOf e.1 == stem
    let held := s.gates.heldTlps.filter onStem
    let s := s.modGates (fun x => { x with misses := x.misses.filter (fun m => !(m.stem == stem && m.window == w)),
                                           heldTlps := x.heldTlps.filter (fun e => !onStem e) })
    ((s.each mine State.goOn).each held (fun s e => s.ingress e.1 e.2.1 e.2.2)).fcSettle s0

/-- WIN_FETCH_DONE -/
def execWinFetchDone (t stem w : Nat) (tagOk : Bool) (s : State) : Host.Outcome State Fault Refusal :=
  act2 s t (fun s => winFetchDoneEffect s stem w tagOk)

/-- R272: a stem's gate is reloaded: held requests are decided under the reloaded regions. -/
def gateReloadDoneEffect (s : State) (stem gate : Nat) : State :=
  let held := s.gates.heldTlps.filter (fun e => e.1 < 160 && stemOf e.1 == stem)
  let s0 := s
  let s := s.modGates (fun x => { x with heldGates := eraseAll x.heldGates (stem, gate),
                                         heldTlps := x.heldTlps.filter (fun e => !(e.1 < 160 && stemOf e.1 == stem)) })
  (s.each held (fun s e => s.ingress e.1 e.2.1 e.2.2)).fcSettle s0

/-- GATE_RELOAD_DONE -/
def execGateReloadDone (t stem gate : Nat) (s : State) : Host.Outcome State Fault Refusal :=
  act2 s t (fun s => gateReloadDoneEffect s stem gate)

end Sys2Proof.Machine
end

