-- ==== Sys2Proof/Machine/Trunks.lean ====
section
/-! DEFINITION. Trunk links: training (R102 to R109, R116), the start of a link epoch (R148), replay and NAK timers (R126,
R129 to R131), keys (R139), violations (R141), retrains, handover and discard (R142 to R147). -/

namespace Sys2Proof.Machine

/-! ### Training frames (R103 to R108) -/

/-- The agreed rate: the lower of the two ceilings (R106). -/
def State.agreedRate (s : State) (q : Nat) : Nat :=
  match (s.trunk q).train.farCaps with
  | some c => max 1 (min (s.get (Key.TP_RATE_CEILING + q)) c.rateCeiling)
  | none => 1

/-- The rate at which the trunk will run: the agreed one, or where R108 settled it. -/
def State.goalRate (s : State) (q : Nat) : Nat := ((s.trunk q).train.settled).getD (s.agreedRate q)

/-- The TARGET of the STEP exchange that ends the present state (R104). -/
def State.stepTarget (s : State) (q : Nat) : Nat :=
  match (s.trunk q).tstate with
  | .step106 => if (s.trunk q).train.settled.isSome then 1 else if s.goalRate q = 2 then 2 else 3
  | .step212 => if (s.trunk q).train.settled.isSome then 2 else 3
  | _ => if s.goalRate q = 1 then 1 else 2

/-- A frame leaves on all four lanes, with the next FRAME_SEQ of its type (R103) (DESIGN CHOICE, log entry 179). -/
def State.sendFrame (s : State) (q type : Nat) (content : List Byte) : State :=
  let seq := (s.trunk q).train.frameSeq.getD (type - 1) 0
  (s.emitAll ((List.range 4).map (fun l => Output.frame q l (trainingFrame l type seq content)))).modTrain q (fun x =>
    { x with frameSeq := x.frameSeq.set (type - 1) ((seq + 1) % 65536) })

/-- The sender's CAPS content (R104). -/
def State.capsContent (s : State) (q : Nat) : List Byte :=
  beBytes 2 s.crownId ++ beBytes 1 q ++ beBytes 1 (s.get (Key.TP_RATE_CEILING + q)) ++
    beBytes 1 (s.get (Key.TP_CRYPT_POLICY + q)) ++ [1, 1]

/-- A HOLD frame's content (R104). -/
def holdContent (cause farSeen : Nat) : List Byte := [BitVec.ofNat 8 cause, 0] ++ beBytes 2 farSeen

/-- A DELAY request's content: T1 is the local count, in units of 2⁻⁸ ns. -/
def State.delayRequest (s : State) (q : Nat) : List Byte :=
  [1, 0] ++ beBytes 2 (s.trunk q).train.exchange ++ beBytes 8 (256 * s.now) ++ List.replicate 16 0

/-- A STEP frame's content. -/
def stepContent (target phase count : Nat) : List Byte :=
  [BitVec.ofNat 8 target, BitVec.ofNat 8 phase] ++ beBytes 2 count

/-- An EQ frame's content: lane, kind, preset and request number; this end asks for presets only (DESIGN CHOICE, log entry 26). -/
def eqContent (lane kind preset reqNo : Nat) : List Byte :=
  [BitVec.ofNat 8 lane, BitVec.ofNat 8 kind, BitVec.ofNat 8 preset, 0, 0, 0, 0, 0] ++ beBytes 2 reqNo

/-! ### The key exchange (R105, R137) -/

/-- The bytes of a message received so far: offsets and segments. -/
def segByte (l : List (Nat × List Byte)) (i : Nat) : Option Byte :=
  (l.find? (fun e => e.1 ≤ i && i < e.1 + e.2.length)).bind (fun e => e.2[i - e.1]?)

/-- Every byte of a message of a length is there. -/
def segWhole (l : List (Nat × List Byte)) (total : Nat) : Bool := (List.range total).all (fun i => (segByte l i).isSome)

/-- A message is whole. -/
def Training.whole (x : Training) (msg : Nat) : Bool :=
  match x.keyex.find? (·.1 == msg) with
  | some (_, total, l) => segWhole l total
  | none => false

/-- The bytes of a far message. -/
def Training.message (x : Training) (msg : Nat) : List Byte :=
  match x.keyex.find? (·.1 == msg) with
  | some (_, total, l) => (List.range total).filterMap (segByte l)
  | none => []

/-- This end has the lower crown ID of the two. -/
def State.lowerEnd (s : State) (q : Nat) : Bool := s.crownId < ((s.trunk q).train.farCaps.map (·.crown)).getD 0

/-- The messages 0x01 and 0x02 of this end: the ephemeral key, and the identity certificate. -/
def State.ownKey1 (s : State) (q : Nat) : List Byte := beBytes 97 (Config.publicKey (s.trunk q).train.eph)
def ownCert : List Byte := beBytes 1024 Config.identityCert

/-- R105: the transcript: CAPS content, message 0x01 and message 0x02 of both ends, each time that of the lower crown ID first. -/
def State.transcriptOf (s : State) (q : Nat) : Nat :=
  let x := (s.trunk q).train
  let two : List Byte → List Byte → List Byte := fun mine far => if s.lowerEnd q then mine ++ far else far ++ mine
  Config.sha384 (two (padTo 100 (s.capsContent q)) x.farRaw ++ two (s.ownKey1 q) (x.message 1) ++ two ownCert (x.message 2))

/-- R105: a message of this end; 0x03 is the identity key's signature over the transcript, r then s. -/
def State.keyexMessage (s : State) (q : Nat) : Nat → List Byte
  | 1 => s.ownKey1 q
  | 2 => ownCert
  | _ => beBytes 96 (Config.identitySign (s.transcriptOf q))

/-- The contents of the KEYEX frames that carry a message, in segments of up to 92 bytes (R105). -/
def keyexFrames (msg : Nat) (bs : List Byte) : List (List Byte) :=
  (List.range (ceilDiv bs.length 92)).map (fun k =>
    let seg := (bs.drop (92 * k)).take 92
    [BitVec.ofNat 8 msg, 0] ++ beBytes 2 bs.length ++ beBytes 2 (92 * k) ++ beBytes 2 seg.length ++ seg)

/-- This end sends a key-exchange message. -/
def State.sendKeyex (s : State) (q msg : Nat) : State :=
  s.each (keyexFrames msg (s.keyexMessage q msg)) (fun s c => s.sendFrame q 2 c)

/-- NEGOTIATE starts its key exchange from message 0x01, with a new ephemeral key (R105, R107) (DEDUCED, log entry 68). -/
def State.startKeyex (s : State) (q : Nat) : State :=
  let key := Config.random s.draws
  (((s.drew).modTrain q (fun x => { x with keyex := [], keyexOk := false, eph := key })).sendKeyex q 1).sendKeyex q 2

/-- R137: the keys of the two directions, each an AES key of 256 bits and an IV base of 96; the lower crown's sending direction comes first
(DESIGN CHOICE, log entry 70). -/
def State.epochKeys (s : State) (q : Nat) : Nat × Nat :=
  let k := s.trunk q
  let out := Config.hkdf (Config.ecdh k.train.eph (beNat (k.train.message 1))) k.transcript [] 88
  let first := out / 2 ^ 352 % 2 ^ 352
  let second := out % 2 ^ 352
  if s.lowerEnd q then (first, second) else (second, first)

/-- R139: the key of a direction after a rekey to an epoch. -/
def Trunk.rekeyed (k : Trunk) (epoch priv far : Nat) : Nat :=
  Config.hkdf (Config.ecdh priv far) k.transcript ("trunk rekey".toList.map (fun c => BitVec.ofNat 8 c.toNat) ++ beBytes 4 epoch) 44

/-! ### Holding (R107) -/

/-- R107: the hold cause that stands now, lowest code first; 0 for none. A policy of 0x01 at an end that cannot encrypt itself is cause 0x4
too (DEDUCED, log entry 176). -/
def State.holdCause (s : State) (q : Nat) : Nat :=
  let k := s.trunk q
  if s.crownId = 0xFFFF then 1
  else match k.train.farCaps with
    | none => if k.train.keyBad then 5 else 0
    | some c =>
      let expect := s.get (Key.TP_PEER_EXPECT + q)
      if c.crown = s.crownId then 2
      else if expect ≠ 0xFFFF && expect ≠ c.crown then 3
      else if !c.cryptSupport && (s.get (Key.TP_CRYPT_POLICY + q) ≠ 0 || c.cryptPolicy ≠ 0) then 4
      else if k.train.keyBad then 5
      else 0

/-- A HOLD frame leaves. -/
def State.sendHold (s : State) (q cause : Nat) : State :=
  let seen := if cause = 2 || cause = 3 then ((s.trunk q).train.farCaps.map (·.crown)).getD 0xFFFF else 0xFFFF
  s.sendFrame q 6 (holdContent cause seen)

/-- R107: the trunk enters HELD; the event once per entry. -/
def State.enterHeld (s : State) (q cause : Nat) : State :=
  let s := s.modTrunk q (fun k => { k with tstate := .held, rate := 1, train := { k.train with
    since := s.now, heldCause := cause, lastHold := none, farTarget := 0, readySent := false, countSent := false, countSeen := false } })
  (s.sendHold q cause).noteFree (srcTwig (gOfTrunk q) 2) 0

/-- The trunk enters NEGOTIATE, or goes on with it: CAPS and DELAY frames leave; the key exchange runs afresh once the far
CAPS is held. A cause of R107 holds it at once. -/
def State.enterNegotiate (s : State) (q : Nat) : State :=
  let s := s.modTrunk q (fun k => { k with tstate := .negotiate, rate := 1, train := { k.train with
    since := s.now, heldCause := 0, keyex := [], keyexOk := false, readySent := false, farTarget := 0, countSent := false,
    countSeen := false, lastHold := none, txRate := 1, rxRate := 1 } })
  let cause := s.holdCause q
  if cause ≠ 0 then s.enterHeld q cause
  else
    let s := s.sendFrame q 1 (s.capsContent q)
    let s := s.sendFrame q 3 (s.delayRequest q)
    if (s.trunk q).train.farCaps.isSome then s.startKeyex q else s

/-- R104: the near receiver of a lane asks the far end for a transmit preset. -/
def State.eqAsk (s : State) (q lane preset : Nat) : State :=
  let n := ((s.trunk q).train.reqNo + 1) % 65536
  (s.modTrain q (fun x => { x with reqNo := n, eqReq := x.eqReq.filter (·.1 ≠ lane) ++ [(lane, n, preset)] })).sendFrame q 5
    (eqContent lane 1 preset n)

/-- Equalization begins on all four lanes, each with a preset that the manual leaves to the receiver (DESIGN CHOICE, log entry 26). -/
def State.eqBegin (s : State) (q : Nat) : State :=
  let s := s.modTrain q (fun x => { x with eqFar := [], eqNear := [], eqReq := [] })
  s.each (List.range 4) (fun s lane => (s.drew).eqAsk q lane (Config.trunkPreset s.draws % 8))

/-- R104, R110: a lane's receiver is done: its 32 FFE and 16 DFE taps are set, and KIND 0x05 leaves. -/
def State.eqLaneDone (s : State) (q lane : Nat) : State :=
  let taps := freeTaps s.draws 32 1024 ++ freeTaps (s.draws + 1) 16 256
  let s := s.drew.drew.modTrunk q (fun k => { k with
    taps := k.taps.set lane taps, tapsAt := s.now,
    train := { k.train with eqNear := insertNew k.train.eqNear lane, eqReq := k.train.eqReq.filter (·.1 ≠ lane) } })
  s.sendFrame q 5 (eqContent lane 5 0 0)

/-- A step state begins (R104, R106): DELAY requests leave, and equalization begins. -/
def State.enterStep (s : State) (q : Nat) (st : TState) (rate : Nat) : State :=
  let s := s.modTrunk q (fun k => { k with tstate := st, rate := rate, train := { k.train with
    since := s.now, readySent := false, farTarget := 0, countSent := false, countSeen := false, retried := false, settled := none,
    txRate := rate, rxRate := rate } })
  (s.sendFrame q 3 (s.delayRequest q)).eqBegin q

/-- R133: the grants that this end's receiver adds at once: what is free. -/
def TrunkRx.firstRsv (x : TrunkRx) : List (BitVec 8) := x.freeRsv.map (BitVec.ofNat 8)
def TrunkRx.firstShared (x : TrunkRx) : BitVec 13 := BitVec.ofNat 13 x.freeShared

/-- LINK_INIT begins at a rate: this end states RESUME for the direction that it sends, RX_LAST, and its first grants (R133, R148)
(DESIGN CHOICE, log entry 181). -/
def State.enterLinkInit (s : State) (q rate : Nat) : State :=
  let k := s.trunk q
  (s.modTrunk q (fun k => { k with tstate := .linkInit, rate := rate, train := { k.train with since := s.now } })).emit
    (.linkInit q (!k.tx.handedOver) k.rx.rxLast k.rx.firstRsv k.rx.firstShared)

/-- R104: the STEP exchange has ended at both ends. -/
def State.stepDone (s : State) (q : Nat) : State :=
  let k := s.trunk q
  if k.train.countSent && k.train.countSeen then
    let target := s.stepTarget q
    match k.tstate with
    | .negotiate => if target = 1 then s.enterLinkInit q 1 else s.enterStep q .step106 2
    | .step106 => if target = 3 then s.enterStep q .step212 3 else s.enterLinkInit q target
    | .step212 => s.enterLinkInit q target
    | _ => s
  else s

/-- R104: this end is ready: PHASE 0x01, then, once the far end is ready too, the sixteen frames of PHASE 0x02; at the end of the one with
COUNT 0 this end's transmit rate changes. -/
def State.stepGo (s : State) (q : Nat) : State :=
  let k := s.trunk q
  let target := s.stepTarget q
  if k.train.readySent && k.train.farTarget = target && !k.train.countSent then
    let s := s.each (List.range 16) (fun s n => s.sendFrame q 4 (stepContent target 2 (15 - n)))
    (s.modTrain q (fun x => { x with countSent := true, txRate := target })).stepDone q
  else s.stepDone q

/-- This end has finished its work at the present rate. -/
def State.sayReady (s : State) (q : Nat) : State :=
  if (s.trunk q).train.readySent then s
  else
    let s := s.modTrain q (fun x => { x with readySent := true })
    (s.sendFrame q 4 (stepContent (s.stepTarget q) 1 0)).stepGo q

/-- Whether the work of NEGOTIATE or of a step state is done (R102, R104) (DEDUCED, log entry 68). -/
def State.workDone (s : State) (q : Nat) : Bool :=
  let k := s.trunk q
  match k.tstate with
  | .negotiate => k.train.farCaps.isSome && k.train.keyexOk && k.train.delayDone && s.holdCause q = 0
  | .step106 | .step212 => [0, 1, 2, 3].all (fun l => l ∈ k.train.eqFar && l ∈ k.train.eqNear)
  | _ => false

/-- Progress after a frame. -/
def State.trainOn (s : State) (q : Nat) : State := if s.workDone q then s.sayReady q else s

/-- The trunk may train: its limb runs, TP_ENABLE is 1, its stem's reference is good. -/
def State.trunkMay (s : State) (q : Nat) : Bool :=
  q < 16 && s.get (Key.TP_ENABLE + q) = 1 && !s.twigOffline (gOfTrunk q) && !s.twigInReset (gOfTrunk q) &&
    s.power.reft.getD (q / 4) false

/-- A failed training: back to DETECT (R102). -/
def State.trainFailed (s : State) (q : Nat) : State :=
  s.modTrunk q (fun k => { k with tstate := .detect, rate := 0, train := { Training.reset with
    since := s.now, failed := k.train.failed + 1 } })

/-- R102: signal on all four lanes for 1 ms. TP_ENABLE reads 1 at power-on, so that a trunk leaves DISABLED by itself (DEDUCED, log entry
182). -/
def trunkSignalDetectEffect (s : State) (q : Nat) : State :=
  if ((s.trunk q).tstate = .detect || (s.trunk q).tstate = .disabled) && s.trunkMay q then
    s.modTrunk q (fun k => { k with tstate := .align, rate := 1, train := { Training.reset with
      since := s.now, failed := k.train.failed } })
  else s

/-- TRUNK_SIGNAL_DETECT -/
def execTrunkSignalDetect (t q : Nat) (s : State) : Host.Outcome State Fault Refusal :=
  act1 s t (fun s => trunkSignalDetectEffect s q)

/-- R116: the four receive lanes have locked onto comma words, each with the 21 bytes of its comma word and LANE_ID as received and the
instant of the word in ns. A permutation of the far lanes within 50 ns is taken; with anything else ALIGN goes on. -/
def trunkAlignCompleteEffect (s : State) (q : Nat) (lanes : List (List Byte × Nat)) : State :=
  match alignLanes lanes with
  | some (laneMap, polarity) =>
    if (s.trunk q).tstate = .align then
      (s.modTrain q (fun x => { x with laneMap := laneMap, polarity := polarity })).enterNegotiate q
    else s
  | none => s

/-- TRUNK_ALIGN_COMPLETE -/
def execTrunkAlignComplete (t q : Nat) (lanes : List (List Byte × Nat)) (s : State) : Host.Outcome State Fault Refusal :=
  act1 s t (fun s => trunkAlignCompleteEffect s q lanes)

/-- R103: a training frame of a type arrives: one with a bad check is discarded. -/
def State.frameIn (s : State) (type : Nat) (frame : List Byte) (f : State → Nat → List Byte → State) : State :=
  match frameContent type frame with
  | some (lane, c) => f s lane c
  | none => s

/-- R104, R106: a CAPS frame: identities, then the causes of R107. -/
def capsFrameEffect (s : State) (q : Nat) (raw : List Byte) : State :=
  let st := (s.trunk q).tstate
  let c := capsOf raw
  if st = .negotiate || st = .held then
    let first : Bool := (s.trunk q).train.farCaps.isNone
    let s := s.modTrunk q (fun k => { k with
      peer := some (c.crown % 1024, c.trunk % 16), train := { k.train with farCaps := some c, farRaw := raw } })
    if st = .held then s
    else
      let cause := s.holdCause q
      if cause ≠ 0 then s.enterHeld q cause
      else (if first then s.startKeyex q else s).trainOn q
  else s

/-- CAPS_FRAME -/
def execCapsFrame (t q : Nat) (frame : List Byte) (s : State) : Host.Outcome State Fault Refusal :=
  act1 s t (fun s => s.frameIn 1 frame (fun s _ c => capsFrameEffect s q c))

/-- R105: the limits of the three messages. -/
def keyexLimit : Nat → Nat
  | 1 => 97
  | 2 => 1024
  | 3 => 96
  | _ => 0

/-- The exchange fails its certificate or its signature: the trunk is held under cause 0x5. -/
def State.keyFails (s : State) (q : Nat) : State :=
  let s := s.modTrain q (fun x => { x with keyBad := true })
  if (s.trunk q).tstate = .held then s else s.enterHeld q 5

/-- R105, R137: all three messages are whole: the signature is verified over the transcript, and the exchange is done. -/
def State.keyexCheck (s : State) (q : Nat) : State :=
  let x := (s.trunk q).train
  if !(x.whole 1 && x.whole 2 && x.whole 3) then s
  else
    let h := s.transcriptOf q
    if !Config.certVerify (x.message 2) h (x.message 3) then s.keyFails q
    else
      let s := s.modTrunk q (fun k => { k with transcript := h, train := { k.train with keyBad := false, keyexOk := true } })
      if (s.trunk q).tstate = .held then s else s.trainOn q

/-- A segment is stored; a message that it completes is looked at: the key lies on the curve, the certificate verifies. Message 0x03 leaves
once the far 0x01 and 0x02 are whole. -/
def State.keyexSegment (s : State) (q msg total offset : Nat) (seg : List Byte) : State :=
  let held : Bool := (s.trunk q).tstate = .held
  let old := ((s.trunk q).train.keyex.find? (·.1 == msg)).getD (msg, total, [])
  let had := (s.trunk q).train.whole 1 && (s.trunk q).train.whole 2
  let s := s.modTrain q (fun x => { x with keyex := x.keyex.filter (·.1 ≠ msg) ++ [(msg, total, old.2.2 ++ [(offset, seg)])] })
  let x := (s.trunk q).train
  if msg = 1 && x.whole 1 && !(total = 97 && Config.onCurve (beNat (x.message 1))) then (if held then s else s.trainFailed q)
  else if msg = 2 && x.whole 2 && !Config.certOk (x.message 2) then s.keyFails q
  else (if !had && x.whole 1 && x.whole 2 && !held then s.sendKeyex q 3 else s).keyexCheck q

/-- R105: one segment of a key-exchange message. One that disagrees, is too long or out of its message ends NEGOTIATE as a failed training;
so does a segment of no length or an unknown message, and segments before the far CAPS are not used (DESIGN CHOICE, log entry 175). -/
def keyexFrameEffect (s : State) (q : Nat) (c : List Byte) : State :=
  let k := s.trunk q
  let msg := beField c 0 0
  let total := beField c 2 3
  let offset := beField c 4 5
  let n := beField c 6 7
  let seg := (c.drop 8).take n
  if (k.tstate = .negotiate || (k.tstate = .held && k.train.heldCause = 5)) && k.train.farCaps.isSome then
    let old := (k.train.keyex.find? (·.1 == msg)).getD (msg, total, [])
    let clash : Bool := old.2.1 ≠ total ||
      seg.zipIdx.any (fun e => match segByte old.2.2 (offset + e.2) with | some b => b ≠ e.1 | none => false)
    if clash || keyexLimit msg < total || total < offset + n || n = 0 || 92 < n then
      if k.tstate = .held then s else s.trainFailed q
    else s.keyexSegment q msg total offset seg
  else s

/-- KEYEX_FRAME -/
def execKeyexFrame (t q : Nat) (frame : List Byte) (s : State) : Host.Outcome State Fault Refusal :=
  act1 s t (fun s => s.frameIn 2 frame (fun s _ c => keyexFrameEffect s q c))

/-- R106: the one-way delay in ps from an exchange, in counts of 2⁻⁸ ns, whose answer's comma word arrived at `t4`. -/
def oneWayPs (d : DelayContent) (t4 : Nat) : Nat :=
  let twice : Int := ((t4 : Int) - d.t1) - ((d.t3 : Int) - d.t2)
  (twice * 1000 / 512).toNat

/-- R104, R106: a DELAY frame, whose comma word arrived at the local count `at_`: every request is answered; the answer on lane 0 to this
end's latest request gives TP_DELAY. -/
def delayFrameEffect (s : State) (q lane : Nat) (d : DelayContent) (at_ : Nat) : State :=
  let st := (s.trunk q).tstate
  if st = .negotiate || st = .step106 || st = .step212 then
    if d.role = 1 then
      s.sendFrame q 3 ([2, 0] ++ beBytes 2 d.exchange ++ beBytes 8 d.t1 ++ beBytes 8 at_ ++ beBytes 8 (256 * s.now))
    else if d.role = 2 && lane = 0 && d.exchange = (s.trunk q).train.exchange then
      let s := s.modTrunk q (fun k => { k with delayPs := oneWayPs d at_, train := { k.train with
        delayDone := true, exchange := (k.train.exchange + 1) % 65536 } })
      (s.sendFrame q 3 (s.delayRequest q)).trainOn q
    else s
  else s

/-- DELAY_FRAME -/
def execDelayFrame (t q : Nat) (frame : List Byte) (at_ : Nat) (s : State) : Host.Outcome State Fault Refusal :=
  act1 s t (fun s => s.frameIn 3 frame (fun s lane c => delayFrameEffect s q lane (delayOf c) at_))

/-- R104: a STEP frame. PHASE 0x02 shows too that the far end is ready; with its COUNT 0 this end's receiver changes rate. -/
def stepFrameEffect (s : State) (q target phase count : Nat) : State :=
  let st := (s.trunk q).tstate
  if (st = .negotiate || st = .step106 || st = .step212) && (phase = 1 || phase = 2) then
    let zero : Bool := phase = 2 && count = 0 && target = s.stepTarget q
    let s := s.modTrain q (fun x => { x with
      farTarget := target, countSeen := x.countSeen || zero, rxRate := if zero then target else x.rxRate })
    s.stepGo q
  else s

/-- STEP_FRAME -/
def execStepFrame (t q : Nat) (frame : List Byte) (s : State) : Host.Outcome State Fault Refusal :=
  act1 s t (fun s => s.frameIn 4 frame (fun s _ c => stepFrameEffect s q (beField c 0 0) (beField c 1 1) (beField c 2 3)))

/-- R104: the transmit presets. -/
def presetCoeff : Nat → List Int
  | 0 => [0, 0, 64, 0]
  | 1 => [0, 0, 56, -8]
  | 2 => [0, 0, 48, -16]
  | 3 => [0, -4, 52, -8]
  | 4 => [0, -8, 56, 0]
  | 5 => [0, -8, 44, -12]
  | 6 => [2, -8, 46, -8]
  | 7 => [4, -12, 36, -12]
  | _ => []

/-- R104: a coefficient request is in order. -/
def coeffLegal (c : List Int) : Bool := c.length = 4 && (c.map Int.natAbs).sum ≤ 64 && 24 ≤ (c.getD 2 0)

/-- R104: an EQ frame in a step state: a request is answered and applied; an accept ends this end's work on its lane, after a reject it asks
for the next preset; KIND 0x05 ends the far receiver's work on a lane (DESIGN CHOICE, log entry 26). -/
def eqFrameEffect (s : State) (q : Nat) (e : EqContent) : State :=
  let st := (s.trunk q).tstate
  let reply : State → Nat → State := fun s k => s.sendFrame q 5 (eqContent e.lane k 0 e.reqNo)
  let apply : List Int → State := fun c => s.modTrunk q (fun k => { k with txCoeff := k.txCoeff.set e.lane c })
  if (st = .step106 || st = .step212) && e.lane < 4 then
    let mine := (s.trunk q).train.eqReq.find? (fun r => r.1 = e.lane && r.2.1 = e.reqNo)
    match e.kind with
    | 1 => if e.preset < 8 then reply (apply (presetCoeff e.preset)) 3 else reply s 4
    | 2 => if coeffLegal e.coeff then reply (apply e.coeff) 3 else reply s 4
    | 3 => if mine.isSome then (s.eqLaneDone q e.lane).trainOn q else s
    | 4 =>
      (match mine with
        | some r => s.eqAsk q e.lane ((r.2.2 + 1) % 8)
        | none => s)
    | 5 => (s.modTrain q (fun x => { x with eqFar := insertNew x.eqFar e.lane })).trainOn q
    | _ => s
  else s

/-- EQ_FRAME -/
def execEqFrame (t q : Nat) (frame : List Byte) (s : State) : Host.Outcome State Fault Refusal :=
  act1 s t (fun s => s.frameIn 5 frame (fun s _ c => eqFrameEffect s q (eqOf c)))

/-- R107: a HOLD frame in NEGOTIATE: this end stays there and uses only what comes after the last HOLD frame. -/
def holdFrameEffect (s : State) (q : Nat) : State :=
  if (s.trunk q).tstate = .negotiate then
    let s := s.modTrain q (fun x => { x with
      lastHold := some s.now, farCaps := none, farRaw := [], keyex := [], keyexOk := false, readySent := false, farTarget := 0,
      countSent := false, countSeen := false })
    s.sendFrame q 1 (s.capsContent q)
  else s

/-- HOLD_FRAME -/
def execHoldFrame (t q : Nat) (frame : List Byte) (s : State) : Host.Outcome State Fault Refusal :=
  act1 s t (fun s => s.frameIn 6 frame (fun s _ _ => holdFrameEffect s q))

/-- R107: no HOLD frame for 2 ms: the NEGOTIATE limit starts again from zero. -/
def holdFramesCeasedEffect (s : State) (q : Nat) : State :=
  match (s.trunk q).train.lastHold with
  | some t0 =>
    if (s.trunk q).tstate = .negotiate && s.after t0 2000000 then
      s.modTrain q (fun x => { x with lastHold := none, since := s.now })
    else s
  | none => s

/-- HOLD_FRAMES_CEASED -/
def execHoldFramesCeased (t q : Nat) (s : State) : Host.Outcome State Fault Refusal :=
  act1 s t (fun s => holdFramesCeasedEffect s q)

/-- R107: the cause is evaluated again; once it has cleared the trunk goes on with NEGOTIATE. -/
def heldReevaluateEffect (s : State) (q : Nat) : State :=
  if (s.trunk q).tstate = .held then
    let cause := s.holdCause q
    if cause = 0 then s.enterNegotiate q
    else (s.modTrain q (fun x => { x with heldCause := cause })).sendHold q cause
  else s

/-- HELD_REEVALUATE -/
def execHeldReevaluate (t q : Nat) (s : State) : Host.Outcome State Fault Refusal :=
  act1 s t (fun s => heldReevaluateEffect s q)

/-- R102: the limit of a training state in ns. -/
def trainLimit : TState → Option Nat
  | .align => some 10000000
  | .negotiate => some 50000000
  | .step106 | .step212 => some 20000000
  | .linkInit => some 1000000
  | _ => none

/-- R102, R108: a training state's limit has expired. A step is tried once more, then the trunk settles one rate lower (DEDUCED, log entry
69). -/
def trunkStateTimeoutEffect (s : State) (q : Nat) : State :=
  let k := s.trunk q
  match trainLimit k.tstate with
  | none => s
  | some lim =>
    if !s.after k.train.since lim || (k.tstate = .negotiate && k.train.lastHold.isSome) then s
    else if k.tstate = .step106 || k.tstate = .step212 then
      if !k.train.retried then
        let s := s.modTrain q (fun x => { x with retried := true, since := s.now, readySent := false, farTarget := 0,
                                                 countSent := false, countSeen := false })
        s.eqBegin q
      else if k.train.settled.isNone then
        let low := if k.tstate = .step106 then 1 else 2
        let s := s.modTrain q (fun x => { x with settled := some low, since := s.now, readySent := false, farTarget := 0,
                                                 countSent := false, countSeen := false })
        (s.noteFree (srcTwig (gOfTrunk q) 3) 1).sayReady q
      else s.trainFailed q
    else s.trainFailed q

/-- TRUNK_STATE_TIMEOUT -/
def execTrunkStateTimeout (t q : Nat) (s : State) : Host.Outcome State Fault Refusal :=
  act2 s t (fun s => trunkStateTimeoutEffect s q)

/-! ### The start of a link epoch (R133, R148) -/

/-- The messages of a trunk's queue go back to their first FU, those that were started in front (R148, R281). -/
def State.rewind (s : State) (q : Nat) : State :=
  let g := gOfTrunk q
  s.modCore (fun c =>
    let started := c.queues.filter (fun d => d.egress == g && d.sentFus ≠ 0)
    let others := c.queues.filter (fun d => !(d.egress == g && d.sentFus ≠ 0))
    { c with queues := started.map (fun d => { d with sentFus := 0, lastSeq := none }) ++ others })

/-- The far end has received up to `a`: its messages whose LAST FU lies there are done; their cells are freed (R281). -/
def State.releaseTo (s : State) (q : Nat) (a : Seq16) : State :=
  let x := (s.trunk q).tx
  let n := (a - (x.oldest - 1)).toNat
  if n = 0 || (x.nextTx - x.oldest).toNat < n then s
  else
    let done := (x.buf.filter (fun b => (b.seq - x.oldest).toNat < n && b.hdr.last)).filterMap (·.desc)
    let s := s.each done State.dequeue
    s.modTx q (fun x => { x with buf := x.buf.filter (fun b => !((b.seq - x.oldest).toNat < n)), oldest := a + 1 })

/-- The control messages that wait in the replay buffer, but those of the trunk itself. -/
def TrunkTx.heldControls (x : TrunkTx) : List Control :=
  (x.buf.filterMap (·.ctl)).filter (fun c => match c with
    | .rekeyOffer _ _ => false
    | .rekeyAccept _ _ => false
    | .prune _ _ _ => false
    | _ => true)

/-- What the ends of a link epoch bring to it: the far end's RESUME, for the direction that this end receives, and its first grants; the
first sequence that this end sends; the control messages kept from the buffer, and the messages that go first. -/
structure EpochStart where
  resume : Bool
  rsv : List (BitVec 8)
  shared : BitVec 13
  first : Seq16
  ctls : List Control
  again : List Nat

/-- R123, R133, R134, R137, R148: the registers of a trunk as a link epoch starts. -/
def State.newEpoch (s : State) (q : Nat) (e : EpochStart) : State :=
  let keys := s.epochKeys q
  s.modTrunk q (fun k => { k with
    tstate := .l0,
    crypt := (k.train.farCaps.map (·.cryptSupport)).getD true,
    tx := { k.tx with
      nextTx := e.first, oldest := e.first, buf := [], replayAt := none, replayRun := 0, lastAdvance := s.now,
      usedRsv := List.replicate 8 0, usedShared := 0, farRsv := e.rsv, farShared := e.shared, crClass := 0,
      txCount := 0, keyPhase := false, keyEpoch := 0, keyNo := keys.1, offerOut := none, newKey := none,
      ctl := e.ctls ++ k.tx.ctl, openDesc := [], paused := false, frozen := false, handedOver := false, resend := e.again },
    rx := { k.rx with
      expect := if e.resume then k.rx.rxLast + 1 else 0, rxLast := if e.resume then k.rx.rxLast else 0xFFFF,
      nakPending := false, nakToSend := false, takenRsv := List.replicate 8 0, takenShared := 0, openMsgs := [],
      grantedRsv := k.rx.firstRsv, grantedShared := k.rx.firstShared,
      keyPhase := false, keyEpoch := 0, keyNo := keys.2, count := 0, rekeyKey := none, queries := [] },
    heard := [], lastMarker := s.now, validAt := s.now, tapsAt := s.now,
    lineTx := { LineTx.reset with scr := k.lineTx.scr }, lineRx := LineRx.reset })

/-- What a trunk's entry to L0 brings: its pruning set goes out (R63), its C7 bucket and its average start afresh, the event, and
what routing and the time unit make of it. -/
def State.epochUp (s : State) (q : Nat) : State :=
  let n := s.act.pruneNumber + 1
  let s := (s.modAct (fun a => { a with pruneNumber := n })).modTx q (fun x => { x with ctl := x.ctl ++ [.prune n 0 (s.pruneSet q)] })
  let s := s.modCore (fun c => { c with c7 := assocErase c.c7 (gOfTrunk q), avgs := assocErase c.avgs (gOfTrunk q) })
  ((s.noteFree (srcTwig (gOfTrunk q) 0) 0).trunkRouted q).timeTrunkUp q

/-- R148, R133: LINK_INIT ends: `resume`, `rxLast` and the grants are the far end's. This end's own RESUME stands for the direction that
it sends: what the far end has not received goes first. -/
def linkInitExchangeEffect (s : State) (q : Nat) (resume : Bool) (rxLast : Seq16) (rsv : List (BitVec 8)) (shared : BitVec 13) : State :=
  if (s.trunk q).tstate ≠ .linkInit then s
  else
    let mine : Bool := !(s.trunk q).tx.handedOver
    let s := if mine then s.releaseTo q rxLast else s
    let x := (s.trunk q).tx
    ((s.rewind q).newEpoch q
      { resume := resume, rsv := rsv, shared := shared, first := if mine then rxLast + 1 else 0, ctls := x.heldControls,
        again := (x.buf.filterMap (·.desc)).foldl insertNew [] }).epochUp q

/-- LINK_INIT_EXCHANGE -/
def execLinkInitExchange (t q : Nat) (resume : Bool) (rxLast : Seq16) (rsv : List (BitVec 8)) (shared : BitVec 13) (s : State) :
    Host.Outcome State Fault Refusal :=
  act1 s t (fun s => linkInitExchangeEffect s q resume rxLast rsv shared)

/-! ### NAK, replay (R126, R129 to R131) -/

/-- R126: NAK_REPEAT of a trunk in ns: 2 × RTT + 1 µs, RTT twice TP_DELAY. -/
def State.nakRepeatNs (s : State) (q : Nat) : Nat := 4 * (s.trunk q).delayPs / 1000 + 1000

/-- R126: a NAK event: one reverse header will carry it. -/
def State.nakEvent (s : State) (q : Nat) : State :=
  (s.modRx q (fun x => { x with nakToSend := true })).countTwig (gOfTrunk q) 0x187 1

/-- R126: the NAK is repeated while it waits. -/
def nakRepeatEffect (s : State) (q : Nat) : State :=
  let x := (s.trunk q).rx
  if s.trunkUp q && x.nakPending && s.after x.nakSince (s.nakRepeatNs q) then
    (s.modRx q (fun x => { x with nakSince := s.now })).nakEvent q
  else s

/-- NAK_REPEAT -/
def execNakRepeat (t q : Nat) (s : State) : Host.Outcome State Fault Refusal := act1 s t (fun s => nakRepeatEffect s q)

/-- R129 to R131: a replay starts; the eighth without progress retrains the trunk. -/
def State.startReplay (s : State) (q : Nat) (sq : Seq16) : State :=
  let run := (s.trunk q).tx.replayRun + 1
  let s := s.modTx q (fun x => { x with replayRun := run, replayAt := some sq, lastAdvance := s.now })
  let s := (s.countTwig (gOfTrunk q) 0x188 1).noteFree (srcTwig (gOfTrunk q) 4) 1
  if 8 ≤ run then s.trunkRetrain q false else s

/-- R129: the acknowledged sequence has not advanced for REPLAY_TIMER, 2 × NAK_REPEAT. -/
def replayTimerEffect (s : State) (q : Nat) : State :=
  let x := (s.trunk q).tx
  if s.trunkUp q && x.nextTx ≠ x.oldest && s.after x.lastAdvance (2 * s.nakRepeatNs q) then s.startReplay q x.oldest else s

/-- REPLAY_TIMER -/
def execReplayTimer (t q : Nat) (s : State) : Host.Outcome State Fault Refusal := act2 s t (fun s => replayTimerEffect s q)

/-! ### Violations of the far end (R141) -/

/-- The 16 bytes of an FU header (R119). -/
def fuHeaderBits (h : FuHeader) : Nat :=
  let f := fun (v w lo : Nat) => v % 2 ^ w * 2 ^ lo
  f h.type 4 124 + f h.cls 3 121 + f h.pool.toNat 1 120 + f h.nak.toNat 1 119 + f h.keyPhase.toNat 1 118 + f h.first.toNat 1 117 +
    f h.last.toNat 1 116 + f h.ackSeq.toNat 16 100 + f h.crClass 3 97 + f h.crRsv.toNat 8 89 + f h.crShared.toNat 13 76 +
    f h.nonceCtr.toNat 24 52 + f h.destCrown 10 42 + f h.srcCrown 10 32 + f h.gpart 12 20 + f h.flow 8 12 + f h.len 8 4 +
    f h.hops 4 0

/-- R141: a violating FU is discarded: a NAK event, an entry in the TLP log, TRUNK_VIOLATION; the fourth within 1 s retrains
the trunk, and the fourth such retrain within 10 s contains its T-twig. What has led to a retrain, or to the containment, counts no more
towards the next (DESIGN CHOICE, log entry 177). -/
def State.fuViolation (s : State) (q : Nat) (h : FuHeader) (row : Nat) : State :=
  let g := gOfTrunk q
  let s := s.nakEvent q
  let s := s.logEntry { desc := 0, header := fuHeaderBits h * 2 ^ 384, ft := s.stampFt, source := srcTwig g 5, cause := 0x200 + row,
                        histSeq := if s.faults.frozen then none else some s.faults.nextSeq, inj := false }
  let s := s.noteFree (srcTwig g 5) 1
  let recent := (s.trunk q).rx.violations.filter (fun t => s.now < t + 1000000000) ++ [s.now]
  if recent.length < 4 then s.modRx q (fun x => { x with violations := recent })
  else
    let again := (s.trunk q).rx.violRetrains.filter (fun t => s.now < t + 10000000000) ++ [s.now]
    let s := s.modRx q (fun x => { x with violations := [], violRetrains := if 4 ≤ again.length then [] else again })
    let s := s.trunkRetrain q false
    if 4 ≤ again.length then
      (s.contain (.twig g)).note { Ev.plain (srcTwig g 15) (Config.eventCode (srcTwig g 15)) 2 with action := 1 }
    else s

/-- The header of a REKEY FU that comes as a command of its own: its other fields are not known and read zero (DESIGN CHOICE, log entry
178). -/
def rekeyHeader : FuHeader :=
  { type := 4, cls := 7, pool := false, nak := false, keyPhase := false, first := true, last := true, ackSeq := 0, crClass := 0,
    crRsv := 0, crShared := 0, nonceCtr := 0, destCrown := 0, srcCrown := 0, gpart := 0, flow := 0, len := 224, hops := 0 }

/-! ### Retrains (R117, R142) and keys (R139) -/

/-- R117: link loss in L0. -/
def trunkLinkLossEffect (s : State) (q : Nat) : State :=
  if s.trunkUp q then s.trunkRetrain q false else s

/-- TRUNK_LINK_LOSS -/
def execTrunkLinkLoss (t q : Nat) (s : State) : Host.Outcome State Fault Refusal := act2 s t (fun s => trunkLinkLossEffect s q)

/-- R142, R149: an installer writes 1 to TP_RETRAIN. -/
def tpRetrainEffect (s : State) (who : Role) (q : Nat) : State :=
  if who.isInstaller && q < 16 then s.trunkRetrain q true else s

/-- TP_RETRAIN -/
def execTpRetrain (t : Nat) (who : Role) (q : Nat) (s : State) : Host.Outcome State Fault Refusal :=
  act1 s t (fun s => tpRetrainEffect s who q)

/-- R139: the transmission count has reached 2²⁸ − 2¹⁶: an offer with a new key. -/
def rekeyOfferSendEffect (s : State) (q : Nat) : State :=
  let x := (s.trunk q).tx
  if s.trunkUp q && (s.trunk q).crypt && 2 ^ 28 - 2 ^ 16 ≤ x.txCount && x.offerOut.isNone && x.newKey.isNone then
    let e := (x.keyEpoch + 1).toNat
    let priv := Config.random s.draws
    (s.drew).modTx q (fun x => { x with offerOut := some (e, priv), ctl := x.ctl ++ [.rekeyOffer e (Config.publicKey priv)] })
  else s

/-- REKEY_OFFER_SEND -/
def execRekeyOfferSend (t q : Nat) (s : State) : Host.Outcome State Fault Refusal := act1 s t (fun s => rekeyOfferSendEffect s q)

/-- R139: a far end's offer for its direction: accepted with a key of this end, and the direction's new key is derived; another epoch than
the next is a violation. -/
def rekeyOfferEffect (s : State) (q epoch key : Nat) : State :=
  if !s.trunkUp q || !(s.trunk q).crypt then s
  else if epoch ≠ ((s.trunk q).rx.keyEpoch + 1).toNat then s.fuViolation q rekeyHeader 5
  else
    let priv := Config.random s.draws
    (s.drew).modTrunk q (fun k => { k with
      rx := { k.rx with rekeyKey := some (k.rekeyed epoch priv key) },
      tx := { k.tx with ctl := k.tx.ctl ++ [.rekeyAccept epoch (Config.publicKey priv)] } })

/-- REKEY_OFFER -/
def execRekeyOffer (t q epoch key : Nat) (s : State) : Host.Outcome State Fault Refusal :=
  act2 s t (fun s => rekeyOfferEffect s q epoch key)

/-- R139: the far end accepts: the new key of this direction is ready. -/
def rekeyAcceptEffect (s : State) (q epoch key : Nat) : State :=
  if !s.trunkUp q || !(s.trunk q).crypt then s
  else match (s.trunk q).tx.offerOut with
    | some (e, priv) =>
      if e ≠ epoch then s.fuViolation q rekeyHeader 5
      else s.modTrunk q (fun k => { k with tx := { k.tx with offerOut := none, newKey := some (k.rekeyed epoch priv key) } })
    | none => s.fuViolation q rekeyHeader 5

/-- REKEY_ACCEPT -/
def execRekeyAccept (t q epoch key : Nat) (s : State) : Host.Outcome State Fault Refusal :=
  act2 s t (fun s => rekeyAcceptEffect s q epoch key)

/-- R139: at transmission 2²⁸ the phase toggles and the count restarts; without a new key the trunk retrains. -/
def keyPhaseToggleEffect (s : State) (q : Nat) : State :=
  let x := (s.trunk q).tx
  if s.trunkUp q && (s.trunk q).crypt && 2 ^ 28 ≤ x.txCount then
    match x.newKey with
    | some k => s.modTx q (fun x => { x with keyPhase := !x.keyPhase, txCount := 0, keyEpoch := x.keyEpoch + 1, keyNo := k, newKey := none })
    | none => (s.noteFree (srcTwig (gOfTrunk q) 6) 2).trunkRetrain q false
  else s

/-- KEY_PHASE_TOGGLE -/
def execKeyPhaseToggle (t q : Nat) (s : State) : Host.Outcome State Fault Refusal :=
  act2 s t (fun s => keyPhaseToggleEffect s q)

/-! ### Fate, handover, discard (R143 to R148) -/

/-- The parse context of a message that came on a trunk. -/
def trunkIngress (q part : Nat) (h : FuHeader) (rc : RClass) (reqId track : Nat) : Ingress :=
  { src := gOfTrunk q, part := part, rclass := rc, reqId := reqId, entry := none, key := some (.twig (gOfTrunk q)), trunk := some q,
    srcCrown := h.srcCrown, gpart := h.gpart, track := track, flow := h.flow, hops := h.hops }

/-- R143, R144: a fate query about trunk `trunk` of this crown. -/
def fateQueryEffect (s : State) (via querier trunk : Nat) (no : Seq16) : State :=
  let ok : Bool := match (s.trunk trunk).peer with
    | some (c, _) => c == querier && trunk < 16
    | none => false
  if !ok then s.contradicts via
  else (s.modRx trunk (fun x => { x with queries := x.queries ++ [(via, querier, no, s.now)] })).answerQueries trunk

/-- FATE_QUERY -/
def execFateQuery (t via querier trunk : Nat) (queryNo : Seq16) (s : State) : Host.Outcome State Fault Refusal :=
  act2 s t (fun s => fateQueryEffect s via querier trunk queryNo)

/-- R144: the side has stayed in L0 for 10 µs after a query: the crown retrains the trunk, then answers. -/
def fateQueryHoldExpireEffect (s : State) (trunk : Nat) : State :=
  if s.trunkUp trunk && (s.trunk trunk).rx.queries.any (fun e => s.after e.2.2.2 10000) then
    s.trunkRetrain trunk false
  else s.answerQueries trunk

/-- FATE_QUERY_HOLD_EXPIRE -/
def execFateQueryHoldExpire (t trunk : Nat) (s : State) : Host.Outcome State Fault Refusal :=
  act2 s t (fun s => fateQueryHoldExpireEffect s trunk)

/-- R143: no answer within 16 µs: the query is sent again, until the 1 s of R146 ends. -/
def fateQueryResendEffect (s : State) (q : Nat) : State :=
  let x := (s.trunk q).tx
  if !s.trunkUp q && x.frozen && s.after x.fateSent 16000 && s.now < x.lostAt + 1000000000 then s.sendFateQuery q else s

/-- FATE_QUERY_RESEND -/
def execFateQueryResend (t q : Nat) (s : State) : Host.Outcome State Fault Refusal :=
  act1 s t (fun s => fateQueryResendEffect s q)

/-- R145, R280: one descriptor moves to the trunk that its flow takes now; at the home of another member it stays there
until a rebalance (R282). -/
def State.moveDesc (s : State) (d : Desc) : State :=
  match s.routeUp d.destCrown d.flow with
  | some r =>
    let s := s.modDesc d.id (fun e => { e with egress := gOfTrunk r })
    if s.homeMember d.destCrown d.flow = some r then s
    else s.modFabric (fun f => { f with
      interim := f.interim.filter (fun e => !(e.1 == d.destCrown && e.2.1 == d.flow)) ++ [(d.destCrown, d.flow, r)] })
  | none => s

/-- R145: the handover of a frozen trunk, whose far end received up to `rxLast`. -/
def State.handover (s : State) (q : Nat) (far : Nat) (rxLast : Seq16) : State :=
  let s := (s.releaseTo q rxLast).rewind q
  let ctls := (s.trunk q).tx.heldControls ++ (s.trunk q).tx.ctl
  let g := gOfTrunk q
  let mine := s.core.queues.filter (·.egress == g)
  -- moved messages go to the heads of their new queues
  let s := s.modCore (fun c => { c with queues := mine ++ c.queues.filter (·.egress ≠ g) })
  let s := s.each mine State.moveDesc
  let s := s.modTx q (fun x => { x with buf := [], ctl := [], frozen := false, handedOver := true })
  let s := s.each ctls (fun s c => s.controlTo far c)
  s.noteFree (srcTwig g 7) 0

/-- R145: a fate answer. One whose QUERY_NO is not the latest is discarded (R143). -/
def fateAnswerEffect (s : State) (trunk answerer : Nat) (no rxLast : Seq16) : State :=
  match (List.range 16).find? (fun q => (s.trunk q).peer == some (answerer, trunk) && (s.trunk q).tx.frozen && !s.trunkUp q) with
  | some q => if (s.trunk q).tx.fateNo = no then s.handover q answerer rxLast else s
  | none => s

/-- FATE_ANSWER -/
def execFateAnswer (t _via trunk answerer : Nat) (queryNo rxLast : Seq16) (s : State) : Host.Outcome State Fault Refusal :=
  act1 s t (fun s => fateAnswerEffect s trunk answerer queryNo rxLast)

/-- R146: 1 s after the retrain decision the trunk has not returned. -/
def trunkDiscardEffect (s : State) (q : Nat) : State :=
  if q < 16 && !s.trunkUp q && s.after (s.trunk q).tx.lostAt 1000000000 then s.discardTrunk q else s

/-- TRUNK_DISCARD -/
def execTrunkDiscard (t q : Nat) (s : State) : Host.Outcome State Fault Refusal := act2 s t (fun s => trunkDiscardEffect s q)

end Sys2Proof.Machine
end

