-- ==== Sys2Proof/Machine/Wire.lean ====
section
/-! DEFINITION. Flow units as a trunk transmitter builds them: the payloads of CONTROL and REKEY FUs (R39, R63, R139, R143,
R285, R293, R380, R531), link fields, seal and check (R122 to R124, R138), credits (R134) and the replay buffer (R128); and
the control message that a payload spells. -/

namespace Sys2Proof.Machine

/-! ### Payloads -/

/-- The content of a control message on a trunk; the rest of the 224 bytes is zero. -/
def State.controlContent (s : State) (q : Nat) : Control → List Byte
  | .announce a => [1] ++ beBytes 1 a.hops ++ beBytes 3 a.key ++ beBytes 1 a.masterState ++ beBytes 2 a.seq.toNat ++
      beBytes 8 a.ft ++ beBytes 2 a.sender
  | .farFailure _ n => [2] ++ beBytes 2 n.reporter ++ beBytes 2 n.gpart ++ beBytes 1 n.cause ++ beBytes 2 n.more ++
      beBytes 8 n.ft ++ beBytes 16 n.desc ++ beBytes 64 n.header
  | .containment m => [3] ++ beBytes 2 m.reporter ++ beBytes 1 m.kind ++ beBytes 1 m.contained.toNat ++ beBytes 1 m.twig ++
      beBytes 2 m.gpart ++ beBytes 2 m.number.toNat ++ beBytes 8 m.ft
  | .prune n ft slots => [4, 1] ++ beBytes 2 (s.crownId % 1024) ++ beBytes 1 q ++ [0] ++ beBytes 2 n.toNat ++ beBytes 8 ft ++
      leBytes 16 slots.toNat
  | .snapshot m => [4, 2] ++ beBytes 2 m.origin ++ beBytes 2 m.number.toNat ++ beBytes 8 m.ft ++ beBytes 4 m.snapId
  | .fateQuery _ qr tr no => [5] ++ beBytes 2 qr ++ beBytes 1 tr ++ beBytes 2 no.toNat
  | .fateAnswer _ qr tr no rl an => [6] ++ beBytes 2 qr ++ beBytes 1 tr ++ beBytes 2 no.toNat ++ beBytes 2 rl.toNat ++ beBytes 2 an
  | .fence n => [7] ++ beBytes 2 n.crown ++ beBytes 1 n.set.toNat ++ beBytes 2 n.number.toNat ++ beBytes 8 n.ft
  | .rekeyOffer e k => [1, 0, 0, 0] ++ beBytes 4 e ++ beBytes 97 k
  | .rekeyAccept e k => [2, 0, 0, 0] ++ beBytes 4 e ++ beBytes 97 k
  | .transit _ _ _ p => p

/-- TYPE of the FU that carries it (R120). -/
def Control.type : Control → Nat
  | .rekeyOffer _ _ => 4
  | .rekeyAccept _ _ => 4
  | _ => 3

/-- DEST_CROWN: the crown a message is for; the crown behind the trunk for those that pass from neighbour to neighbour (DESIGN CHOICE, log
entry 87) -/
def State.controlDest (s : State) (q : Nat) : Control → Nat
  | .farFailure d _ => d
  | .fateQuery d _ _ _ => d
  | .fateAnswer d _ _ _ _ _ => d
  | .transit d _ _ _ => d
  | _ => ((s.trunk q).peer.map (·.1)).getD 0

/-- SRC_CROWN: the crown that issued the message (R286, R380, R531). -/
def State.controlSrc (s : State) : Control → Nat
  | .announce a => a.key % 1024
  | .containment m => m.reporter
  | .snapshot m => m.origin
  | .fence n => n.issuer
  | .transit _ o _ _ => o
  | _ => s.crownId

/-- HOPS: one trunk crossed of ROUTE_HOP_LIMIT (R283); a message in transit keeps its own count. -/
def State.controlHops (s : State) : Control → Nat
  | .transit _ _ h _ => h
  | _ => s.getDef Key.ROUTE_HOP_LIMIT 8 - 1

/-- The header of a control FU before its link fields. -/
def State.controlHeader (s : State) (q : Nat) (c : Control) : FuHeader :=
  { rekeyHeader with type := c.type, destCrown := s.controlDest q c, srcCrown := s.controlSrc c, hops := s.controlHops c }

/-! ### Transmission -/

/-- R122: the link fields of a header, set afresh at every transmission. -/
def Trunk.linkFields (k : Trunk) (h : FuHeader) : FuHeader :=
  { h with nak := k.rx.nakToSend, keyPhase := k.tx.keyPhase, ackSeq := k.rx.rxLast, crClass := k.tx.crClass,
           crRsv := k.rx.grantedRsv.getD k.tx.crClass 0, crShared := k.rx.grantedShared, nonceCtr := BitVec.ofNat 24 k.tx.txCount }

/-- R138: the nonce of a transmission: the IV base XOR the 32-bit count; a direction's key number holds the AES key above its IV base. -/
def nonceOf (keyNo count : Nat) : Nat := Nat.xor (keyNo % 2 ^ 96) (count % 2 ^ 32)
def aesKey (keyNo : Nat) : Nat := keyNo / 2 ^ 96

/-- R138: the additional authenticated data: the sequence, then the header. -/
def fuAad (seq : Seq16) (h : FuHeader) : List Byte := beBytes 2 seq.toNat ++ beBytes 16 (fuHeaderBits h)

/-- R124: the check of an FU under a sequence (DEDUCED, log entry 29). -/
def checkOf (seq : Seq16) (h : FuHeader) (wire : List Byte) (tag : BitVec 64) : BitVec 64 :=
  crc64 (fuAad seq h ++ wire ++ beBytes 8 tag.toNat)

/-- The FU of a header and a payload under a sequence: sealed when encryption is on (R138, R140), with its check (R124) (DEDUCED, log
entry 88). -/
def Trunk.buildFu (k : Trunk) (seq : Seq16) (h : FuHeader) (payload : List Byte) : Fu :=
  let h := k.linkFields h
  let key := aesKey k.tx.keyNo
  let nonce := nonceOf k.tx.keyNo k.tx.txCount
  let wire := if k.crypt then Config.gcmCipher key nonce (fuAad seq h) payload else payload
  let tag := if k.crypt then Config.gcmTag key nonce (fuAad seq h) payload else 0
  { hdr := h, wire := wire, tag := tag, check := checkOf seq h wire tag }

/-- R118: the 256 bytes of an FU. -/
def fuBytes (f : Fu) : List Byte :=
  beBytes 16 (fuHeaderBits f.hdr) ++ f.wire ++ beBytes 8 f.tag.toNat ++ beBytes 8 f.check.toNat

/-- R114: the four lanes' markers as they leave now: FT, or the local ring count while FREE. -/
def State.markers (s : State) (q : Nat) : List (List Byte) :=
  (List.range 4).map (fun l => markerBytes l s.time.mode.code s.crownId (if s.time.mode = .free then s.localCount else s.time.ft)
    (s.trunk q).lineTx.markers.toNat)

/-- R101: an FU goes on the line; the codewords that it fills leave on the lanes. -/
def State.lineOut (s : State) (q : Nat) (f : Fu) : State :=
  let k := s.trunk q
  let r := k.lineTx.put (markerGroup (s.markers q)) (fuBytes f)
  (s.modTrunk q (fun k => { k with lineTx := r.1 })).emitAll (r.2.map (fun cw => Output.line q ((toLanes cw).map (toLevels k.rate))))

/-- One transmission of any FU: it counts under the current key, CR_CLASS advances, a waiting NAK has been sent (DEDUCED, log entry 88).
-/
def State.transmit (s : State) (q : Nat) (seq : Seq16) (h : FuHeader) (payload : List Byte) : State :=
  let f := (s.trunk q).buildFu seq h payload
  ((s.emit (.fu q f)).lineOut q f).modTrunk q (fun k => { k with
    tx := { k.tx with txCount := k.tx.txCount + 1, crClass := (k.tx.crClass + 1) % 8 },
    rx := { k.rx with nakToSend := false } })

/-- R134: from which pool an FU of a class may be debited: `some false` the reserve, `some true` the shared pool. -/
def TrunkTx.credit (x : TrunkTx) (cls : Nat) : Option Bool :=
  if x.farRsv.getD cls 0 - x.usedRsv.getD cls 0 ≠ 0 then some false
  else if x.farShared - x.usedShared ≠ 0 then some true
  else none

/-- The debit. -/
def TrunkTx.debit (x : TrunkTx) (cls : Nat) (pool : Bool) : TrunkTx :=
  if pool then { x with usedShared := x.usedShared + 1 } else { x with usedRsv := x.usedRsv.modify cls (· + 1) }

/-- R123, R128, R134: the first transmission of a sequenced FU; nothing where the class has no credit. -/
def State.sendNew (s : State) (q : Nat) (h : FuHeader) (payload : List Byte) (desc : Option Nat) (ctl : Option Control) :
    State :=
  match (s.trunk q).tx.credit h.cls with
  | none => s
  | some pool =>
    let h := { h with pool := pool }
    let seq := (s.trunk q).tx.nextTx
    let s := s.transmit q seq h payload
    let s := s.modTx q (fun x => { x.debit h.cls pool with
      nextTx := seq + 1, lastAdvance := if x.buf.isEmpty then s.now else x.lastAdvance,
      buf := x.buf ++ [{ seq := seq, hdr := h, payload := payload, desc := desc, ctl := ctl }] })
    ((s.countTwig (gOfTrunk q) 0x181 1).countTwig (gOfTrunk q) 0x183 h.len)

/-- A control message leaves on a trunk. -/
def State.sendCtl (s : State) (q : Nat) (c : Control) : State :=
  s.sendNew q (s.controlHeader q c) (padTo 224 (s.controlContent q c)) none (some c)

/-- R128, R130: a new FU may be sent: the replay buffer has room and no replay runs. -/
def TrunkTx.mayStart (x : TrunkTx) : Bool := x.buf.length < 1024 && x.replayAt.isNone

/-- The last control message that waits at the transmitter of a trunk in L0 leaves at once where a new FU may: a crown that is about to stop
its trunks has sent its notice first (R35, R497). -/
def State.flushNotice (s : State) : State :=
  s.each ((List.range 16).filter s.trunkUp) (fun s q =>
    match (if (s.trunk q).tx.mayStart then (s.trunk q).tx.ctl.getLast? else none) with
    | some c => (s.sendCtl q c).modTx q (fun x => { x with ctl := x.ctl.dropLast })
    | none => s)

/-- An IDLE FU: no field but the link fields (R120), under the sequence that the next sequenced FU will carry (R123). -/
def State.sendIdle (s : State) (q : Nat) : State :=
  let x := (s.trunk q).tx
  let h := { rekeyHeader with type := 0, cls := 0, first := false, last := false, len := 0 }
  (s.transmit q (x.replayAt.getD x.nextTx) h (List.replicate 224 0)).countTwig (gOfTrunk q) 0x18D 1

/-! ### What a payload spells -/

/-- The message of a CONTROL payload from crown `src` (R120). -/
def parseControl (src : Nat) (bs : List Byte) : Option Control :=
  let f := beField bs
  match f 0 0 with
  | 1 => some (.announce { hops := f 1 1, key := f 2 4 % 2 ^ 19, masterState := f 5 5, seq := BitVec.ofNat 16 (f 6 7), ft := f 8 15,
                           sender := f 16 17 % 1024 })
  | 2 => some (.farFailure 0 { reporter := f 1 2 % 1024, gpart := f 3 4 % 4096, cause := f 5 5, more := f 6 7, ft := f 8 15,
                               rclass := f 33 33, vdp := f 39 39, desc := f 16 31, header := f 32 95 })
  | 3 => some (.containment { reporter := f 1 2 % 1024, kind := f 3 3, contained := bitOf (f 4 4) 0, twig := f 5 5, gpart := f 6 7 % 4096,
                              number := BitVec.ofNat 16 (f 8 9), ft := f 10 17 })
  | 4 =>
    if f 1 1 = 1 then some (.prune (BitVec.ofNat 16 (f 6 7)) (f 8 15) (BitVec.ofNat 128 (leField bs 16 31)))
    else if f 1 1 = 2 then some (.snapshot { origin := f 2 3 % 1024, number := BitVec.ofNat 16 (f 4 5), ft := f 6 13, snapId := f 14 17 })
    else none
  | 5 => some (.fateQuery 0 (f 1 2 % 1024) (f 3 3) (BitVec.ofNat 16 (f 4 5)))
  | 6 => some (.fateAnswer 0 (f 1 2 % 1024) (f 3 3) (BitVec.ofNat 16 (f 4 5)) (BitVec.ofNat 16 (f 6 7)) (f 8 9 % 1024))
  | 7 => some (.fence { crown := f 1 2 % 1024, issuer := src, set := bitOf (f 3 3) 0, number := BitVec.ofNat 16 (f 4 5), ft := f 6 13 })
  | _ => none

/-- The message of a REKEY payload (R139). -/
def parseRekey (bs : List Byte) : Option Control :=
  match beField bs 0 0 with
  | 1 => some (.rekeyOffer (beField bs 4 7) (beField bs 8 104))
  | 2 => some (.rekeyAccept (beField bs 4 7) (beField bs 8 104))
  | _ => none

end Sys2Proof.Machine
end

