-- ==== Sys2Proof/Machine/Journal.lean ====
section
/-! DEFINITION. The journal, its replay and compaction (R468 to R480, R549, R552), grafts and activations (R481 to R485), the
warm reset (R35, R514) and every start (R462, R486 to R488). -/

namespace Sys2Proof.Machine

/-! ### Rings and whole records (R468, R471, R473) -/

/-- R477: the fill in percent of the 256 rings. -/
def Journal.fill (j : Journal) : Nat := j.usedRings * 100 / 256

/-- A device works (R469). -/
def Journal.works (j : Journal) (d : Nat) : Bool := j.flash.getD d false

/-- R469: one device programs, erases or reads, or fails to; the third failure running takes it out of the mirror (DEDUCED, log entry
143). -/
def State.flashProgram (s : State) (d : Nat) (ok : Bool) : State :=
  if !s.journal.works d then s
  else if ok then s.modJournal (fun j => { j with flashFails := j.flashFails.set d 0 })
  else
    let n := s.journal.flashFails.getD d 0 + 1
    if 3 ≤ n then
      (s.modJournal (fun j => { j with flash := j.flash.set d false, flashFails := j.flashFails.set d n })).noteFree 0xC15 2
    else s.modJournal (fun j => { j with flashFails := j.flashFails.set d n })

/-- R469: the areas of each device, by offset and size: the boot block, slots A and B, the graft staging area, the journal secret area, the
reserved area, and the journal. -/
def flashAreas : List (String × Nat × Nat) :=
  [("boot block", 0x0000000, 0x100000), ("slot A", 0x0100000, 0x1000000), ("slot B", 0x1100000, 0x1000000),
   ("staging", 0x2100000, 0x1000000), ("secret", 0x3100000, 0x100000), ("reserved", 0x3200000, 0xE00000), ("journal", 0x4000000, 0x4000000)]

/-- R468: where ring `n` stands. -/
def ringOffset (n : Nat) : Nat := 0x4000000 + n * 0x40000

/-- A whole record joins the live set (R473). -/
def State.jWhole (s : State) (r : JRecord) : State :=
  let s := s.modJournal (fun j => { j with records := j.records ++ [r] })
  let s := if r.timeState = 0 then s else s.modTime (fun u => { u with lastFtJournaled := some (max (u.lastFtJournaled.getD 0) r.ft) })
  (s.countHeart 0x3D0 r.body.numbers).countHeart 0x3D1 r.bytes

/-- A record of the module's own that is whole before what follows it; those formed before it are whole then, too. -/
def State.jNow (s : State) (b : JBody) : State :=
  let s := s.jAppend b
  let all := s.journal.inFlight
  (s.modJournal (fun j => { j with inFlight := [] })).each all (fun s p => s.jWhole p.record)

/-- An entry's value that the module or a command writes for itself, journaled. -/
def State.setJ (s : State) (key v : Nat) : State :=
  (s.jAppend (.write (key / 256) (key % 256) (s.get key) v 0)).set key v

/-! ### Replay (R475, R476, R552) -/

/-- The entry that holds a key's last KEY_SEQ (R434). -/
def keySeqKey (keyId : Nat) : Nat := Key.BOCEL_KEY_SEQ + 256 * (keyId / 0x1000 - 1) + keyId % 256

/-- A KEY_SEQ accepted with a record. -/
def replaySeq (d : List (Nat × Nat)) (keyId ks : Nat) : List (Nat × Nat) :=
  if keyId = 0 || keyId = 0xFFFF || ks = 0 then d else dictPut d (keySeqKey keyId) ks

/-- The sets that a list of records brings up, each in its latest state (DEDUCED, log entry 81). -/
def replaySets (rs : List JRecord) : List ChangeSet :=
  rs.foldl (fun l r => match r.body with
    | .set cs _ => l.filter (·.id ≠ cs.id) ++ [cs]
    | .setState id st ft => l.map (fun c => if c.id = id then { c with state := st, ft := ft } else c)
    | _ => l) []

/-- The staged values of a set, in order. -/
def replayStages (d : List (Nat × Nat)) (cs : ChangeSet) : List (Nat × Nat) :=
  cs.stages.foldl (fun d b => dictPut d (256 * b.index + b.sub) b.value) d

/-- Every slot that holds keys. -/
def keySlots : List Nat := (List.range 0x48).map (Key.OP_KEY + ·) ++ (List.range 8).map (Key.INST_KEY + ·)

/-- The KEY_ID of a key slot's dictionary key (R438). -/
def slotKeyId (k : Nat) : Nat := if k < Key.INST_KEY then 0x1000 + (k - Key.OP_KEY) else 0x2000 + (k - Key.INST_KEY)

/-- The partitions that a change of the dictionary makes UNUSED. -/
def unusedBy (d d' : List (Nat × Nat)) : List Nat :=
  (List.range 64).filter (fun p =>
    (sortedGet d' (Key.PART_GROVE_ID + p)).getD 0xFFFF = 0xFFFF && (sortedGet d (Key.PART_GROVE_ID + p)).getD 0xFFFF ≠ 0xFFFF)

/-- The key slots whose value a change of the dictionary empties or replaces (DEDUCED, log entry 112). -/
def keysChanged (d d' : List (Nat × Nat)) : List Nat := keySlots.filter (fun k => sortedGet d k ≠ sortedGet d' k)

/-- A dictionary once a set's values stand in it: the staged values in order, the operator slots that R441 empties; a new key's
KEY_SEQ starts at zero, and a consent by the old key no longer counts (R442); a claim set claims the crown (R444). -/
def fireDict (d : List (Nat × Nat)) (c : ChangeSet) : List (Nat × Nat) :=
  let d1 := replayStages d c
  let d2 := (unusedBy d d1).foldl (fun x p => dictPut x (Key.OP_KEY + p) 0) d1
  let d3 := (keysChanged d d2).foldl (fun x k =>
    let x := dictPut x (keySeqKey (slotKeyId k)) 0
    if k < Key.OP_KEY + 64 then dictPut x (Key.OP_CONSENT + (k - Key.OP_KEY)) 0 else x) d2
  if c.claim then dictPut d3 Key.CLAIM_STATE 1 else d3

/-- One record applied to the dictionary: a WRITE, or a set that fired; a SLOT_BANK record exchanges the banks. -/
def replayOne (sets : List ChangeSet) (d : List (Nat × Nat)) (r : JRecord) : List (Nat × Nat) :=
  match r.body with
  | .write i sub _ new ks =>
    let d := if i = 0x6830 && sub = 1 then swapBanks d else d
    replaySeq (dictPut d (256 * i + sub) new) r.keyId ks
  | .keySeq ks => replaySeq d r.keyId ks
  | .setState id .fired _ =>
    (match sets.find? (·.id == id) with
      | some cs => fireDict d cs
      | none => d)
  | .graft 0x10 _ _ _ => dictPut d Key.GRAFT_ACT_FT 0
  | _ => d

/-- The last record that the live set's SNAP_VALUES cover. -/
def Journal.baseRno (j : Journal) : Nat :=
  j.records.foldl (fun n r => match r.body with | .snapBegin g k => if g = j.setGen then k else n | _ => n) 0

/-- The dictionary as replay leaves it. -/
def Journal.replay (j : Journal) : List (Nat × Nat) :=
  let later := j.records.filter (fun r => j.baseRno < r.rno)
  later.foldl (replayOne (replaySets j.records)) j.base

/-- R552: a swap was queued and had not fired: the last SLOT_SWAP_FT record has no SLOT_BANK record behind it. -/
def Journal.swapPending (j : Journal) : Option Nat :=
  j.records.foldl (fun o r => match r.body with
    | .write 0x6830 0 _ ft _ => some ft
    | .write 0x6830 1 _ _ _ => none
    | _ => o) none

/-- An FT that the journal shows to have passed. -/
def TimeUnit.passed (u : TimeUnit) (ft : Nat) : Bool :=
  match u.lastFtJournaled with
  | some j => ft ≤ j
  | none => false

/-- R428: a journaled set that waited returns to the activation queue; a joint one whose FT has passed is POSTPONED. The latest FT in the
journal is what FT is known to have reached (DEDUCED, log entry 78). -/
def State.requeue (s : State) (cs : ChangeSet) : State :=
  if cs.state = .queued || cs.state = .postponed then
    match s.actPut cs.ft .change cs.joint cs.id 0xFFFF with
    | none => s
    | some s =>
      let late : Bool := cs.joint && (cs.state = .postponed || s.time.passed cs.ft)
      let s := s.modBocel (fun b => { b with sets := b.sets ++ [{ cs with state := if late then .postponed else .queued, answerTo := none }] })
      match s.actFind .change cs.id with
      | some n => if late then s.actMark n .postponed else s
      | none => s
  else s

/-- R475: a GRAFT_ACT_FT returns to the queue; one whose FT has passed becomes POSTPONED. -/
def State.requeueGraft (s : State) : State :=
  let ft := s.get Key.GRAFT_ACT_FT
  if ft = 0 then s
  else match s.actPut ft .firmware true 0 0xFFFF with
    | none => s
    | some s =>
      let s := s.modJournal (fun j => { j with graftState := 5 })
      match s.actFind .firmware 0 with
      | some n => if s.time.passed ft then s.actMark n .postponed else s
      | none => s

/-- R515: partitions in use read HELD until they may start; shared devices wait for their first link. -/
def State.wakeParts (s : State) : State :=
  let s := s.each ((List.range 64).filter s.partUsed) (fun s p => s.modPart p (fun x => { x with state := .held, causeOn := true }))
  s.each ((List.range 160).filter s.isShared) (fun s g => s.modShared g (fun x => { x with mode := .resetting, since := s.now }))

/-- R475: the journal is replayed into the dictionary, and what its values stand for comes back (DEDUCED, log entry 78) (DEDUCED, log
entry 81). -/
def State.replayJournal (s : State) : State :=
  let s := { s with dict := s.journal.replay }
  let s := s.each (replaySets s.journal.records) State.requeue
  let s := s.requeueGraft
  let s := match s.journal.swapPending with
    | some ft => (s.actPut (ceilDiv ft 8192 * 8192) .swap false 0 0xFFFF).getD s
    | none => s
  (s.wakeParts).modBocel (fun b => { b with gen := 0 })

/-- R470: the security unit generates a sealing key; its wrapped copy goes into the secret area of every device that works. -/
def State.newSealKey (s : State) : State :=
  let key := Config.random s.draws % 2 ^ 256
  s.drew.modJournal (fun j => { j with
    sealKey := key, secret := j.secret.zipIdx.map (fun e => if j.works e.2 then Config.keyWrap Config.wrapKey key else e.1) })

/-- R475: no set of rings has a whole SNAP_END. -/
def Journal.noSet (j : Journal) : Bool := j.records.all (fun r => match r.body with | .snapEnd g _ => g ≠ j.setGen | _ => true)

/-- R470, R475: a new journal of SET_GEN 1 opens with its three records, under a sealing key of its own. -/
def State.newJournal (s : State) : State :=
  let z := State.reset.journal
  (s.modJournal (fun j => { j with
    base := z.base, records := z.records, nextRno := z.nextRno, oldest := z.oldest, setGen := z.setGen, usedRings := z.usedRings,
    ringBytes := z.ringBytes, oldRings := z.oldRings })).newSealKey

/-- R476: replay stops at a record: those after it are erased, from the first ring that holds them. The code gives the stopping RNO in
bits [15:1] and the cause in bit 0, 1 for SEAL. The last record, torn, is no truncation (DESIGN CHOICE, log entry 80). -/
def State.truncateJournal (s : State) (rno : Nat) (bySeal : Bool) : State :=
  let last := (s.journal.records.map (·.rno)).foldl max 0
  if rno = 0 || last < rno then s
  else
    let s := s.modJournal (fun j => { j with records := j.records.filter (fun r => r.rno < rno), nextRno := rno })
    if rno = last && !bySeal then s else s.noteAt 0xC16 (rno % 2 ^ 15 * 2 + bySeal.toNat) 2

/-! ### The warm reset (R35, R514, R549) -/

/-- The records in the making are lost: the next one takes the number of the first. -/
def Journal.dropMaking (j : Journal) : Journal :=
  match j.inFlight with
  | p :: _ => { j with inFlight := [], nextRno := p.record.rno }
  | [] => j

/-- R549: the record in the making is finished when its body stands; the others never were. -/
def State.finishRecord (s : State) : State :=
  match s.journal.inFlight with
  | p :: _ =>
    let stands : Bool := if s.journal.warned then s.journal.bodyDone else Config.bodyProgrammed s.draws
    let s := s.drew
    if stands then (s.modJournal (fun j => { j with inFlight := [], nextRno := p.record.rno + p.record.body.numbers })).jWhole p.record
    else s.modJournal Journal.dropMaking
  | [] => s

/-- The power unit through a warm reset: the intake, its measurements, slots and board inputs stay (R514). -/
def Power.warm (x : Power) : Power := { x with startUp := true, govLevel := 0 }

/-- The time unit through a warm reset. The standby domain stays up, so a crown that has held FT is not FREE (R48): it has left LOCKED or
ACQUIRING for HOLDOVER before the dies reset, and a master stays master, since no rule takes it out of office (DEDUCED, log entry 166). -/
def TimeUnit.warm (u : TimeUnit) (now : Nat) : TimeUnit := if u.mode = .free then { u with heardAny := now } else u

/-- The state after all five dies are reset: what stays is the intake, the standby domain, the journal, counter values, the spares of the
die links, the remaps of fabric memory, the inputs of the board, and the numbers that this crown gives its notices, announcements and
messages (DESIGN CHOICE, log entry 30) (DESIGN CHOICE, log entry 125). -/
def State.reborn (s : State) : State :=
  let z := State.reset
  { z with
    pending := s.pending, out := s.out, draws := s.draws, now := s.now,
    hier := { z.hier with
      dies := [.inReset, .inReset, .inReset, .inReset, .running], limbs := List.replicate 8 .inReset,
      stemLinkSpares := s.hier.stemLinkSpares, heartLinkSpares := s.hier.heartLinkSpares },
    time := s.time.warm s.now,
    act := { z.act with pruneNumber := s.act.pruneNumber, snapNumber := s.act.snapNumber },
    hports := List.replicate 144 { HPort.reset with detectAt := s.now },
    trunks := List.replicate 16 { Trunk.reset with train := { Training.reset with since := s.now },
                                                   tx := { TrunkTx.reset with handedOver := true } },
    core := { z.core with nextId := s.core.nextId },
    parts := s.parts.map (fun x => { Part.reset with count := x.count }),
    fabric := { z.fabric with ownFenced := true, fenceNumber := s.fabric.fenceNumber, containNumber := s.fabric.containNumber },
    mem := { z.mem with channels := s.mem.channels.map (fun c => { c with state := 0 }), remaps := s.mem.remaps },
    faults := { z.faults with boundary := s.faults.boundary },
    bocel := { z.bocel with nextSet := s.bocel.nextSet, noteSeq := s.bocel.noteSeq },
    sec := { z.sec with testMode := s.sec.testMode, zeroized := s.sec.zeroized, strap := s.sec.strap, slew := s.sec.slew },
    journal := { s.journal with
      inFlight := [], mode := 0, compactFrom := 0, warned := false, bodyDone := false, heldAnswers := [], started := false, startSince := s.now,
      graftState := if s.journal.graftState = 4 || s.journal.graftState = 5 then 4 else 0, graftReason := 0, graftReceived := 0,
      staged := [] },
    power := s.power.warm,
    counters := { s.counters with staging := none } }

/-- R35: fence the crown from the grove, finish the record under way, reset the five dies. `stop` is the cause that the
START record will give. PERST# of every port is asserted while its limb does not run. -/
def State.warmReset (s : State) (stop : Nat) : State :=
  if s.faults.crown = .f4Latched then s
  else
    let s := (s.fenceNotice s.crownId true).flushNotice
    let s := if s.time.mode = .locked || s.time.mode = .acquiring then s.enterHoldover else s
    let s := (s.finishRecord).modJournal (fun j => { j with lastStop := stop })
    s.reborn

/-- Codes of the causes that a START record gives (DESIGN CHOICE, log entry 31). -/
def warmCode : WarmCause → Nat
  | .request _ => 1
  | .watchdog => 2
  | .resetPin => 3
  | .inputLoss => 4
  | .faultWindow => 5
  | .activation => 6

/-- The 5 s of R487 have passed without START_OK; the hold for a test unlock does not count. -/
def State.watchdogDue (s : State) : Bool :=
  !s.journal.started && !s.journal.recovery && s.sec.hold.isNone && s.after s.journal.startSince 5000000000

/-- Whether the crown performs the warm reset for a cause. -/
def State.warmAllowed (s : State) : WarmCause → Bool
  | .request w => w.isInstaller && !s.power.inputLost
  | .watchdog => s.watchdogDue
  | .resetPin => s.power.resetPin && !s.power.inputLost
  | .inputLoss => s.power.inputLost && s.power.warningEnd && s.power.inputUp
  | .faultWindow => s.faults.crown = .f3Open
  | .activation => s.journal.graftState = 5

/-- WARM_RESET -/
def execWarmReset (t : Nat) (cause : WarmCause) (s : State) : Host.Outcome State Fault Refusal :=
  act1 s t (fun s => if s.warmAllowed cause then s.warmReset (warmCode cause) else s)

/-! ### Every start (R462, R486 to R488, R513) -/

/-- The SVN of a slot's image. -/
def Journal.svn (j : Journal) (slot : Nat) : Nat := j.svns.getD slot 0

/-- R512: the next limb in ascending order begins to power up. Limbs whose LIMB_POWER reads 0 stay gated. -/
def State.startLimbs (s : State) : State :=
  let on : Nat → Bool := fun l => s.get (Key.LIMB_POWER + l) ≠ 0
  s.modHier (fun h => { h with
    dies := List.replicate 5 .running,
    limbs := h.limbs.zipIdx.map (fun e => if !on e.2 then .gated else if e.1 = .gated then .inReset else e.1),
    powering := (List.range 8).filter (fun l => on l && h.limbs.getD l .running ≠ .running) })

/-- R475, R476: the journal as a start finds it: cut off where replay stops early; without a whole set a new one. -/
def State.findJournal (s : State) (truncatedAt : Option (Nat × Bool)) : State :=
  let cut := match truncatedAt with
    | some (r, b) => s.truncateJournal r b
    | none => s
  if cut.journal.noSet then cut.newJournal else cut

/-- R333, R486: the trainer of the GDDR7 devices starts. -/
def State.startTraining (s : State) : State :=
  s.modMem (fun m => { m with channels := m.channels.map (fun c => { c with state := 1 }) })

/-- R488: what a start does once its images verify: replay, the limbs, and what waits for a later read. -/
def State.bootRun (s : State) (truncatedAt : Option (Nat × Bool)) : State :=
  let s := ((s.modJournal (fun j => { j with recovery := false })).findJournal truncatedAt).replayJournal.startLimbs
  let s := if s.power.prior = 0 then s else s.noteAt 0xB80 s.power.prior 0
  if s.sec.strap then
    ((s.modSec (fun x => { x with hold := some (Config.random s.draws, s.now) })).drew).noteFree 0xBF7 0
  else s.startTraining

/-- R481: the boot ROM takes the valid copy of the boot record with the higher sequence number; what an invalid copy held is lost. -/
def Journal.bootRead (j : Journal) (r : StartReads) : Journal :=
  let none_ : BootRecord := { active := 0, attempts := 0, seqNo := 0 }
  match j.boot with
  | a :: b :: _ => { j with boot := [if r.copy0 then a else none_, if r.copy1 then b else none_] }
  | _ => j

/-- R469: the start reads flash 0; where that fails and flash 1 answers, flash 0 is repaired from it. -/
def State.startReads (s : State) (r : StartReads) : State :=
  let mended : Bool := s.journal.works 0 && s.journal.works 1 && !r.flash0 && r.flash1
  let s := (s.flashProgram 0 r.flash0).flashProgram 1 r.flash1
  (if mended then s.countHeart 0x3D3 1 else s).modJournal (fun j => j.bootRead r)

/-- R486, R488: one start of the module. Without a valid boot record the boot ROM holds in recovery (DESIGN CHOICE, log entry 195). -/
def bootStartEffect (s : State) (r : StartReads) : State :=
  if s.journal.started || !s.power.startUp || !s.power.standby || s.power.resetPin || s.power.phase ≠ .on then s
  else
    let s := s.startReads r
    let floor := sortedGet s.journal.replay Key.IMAGE_SVN_FLOOR |>.getD 0
    let act := s.journal.bootActive
    let other := 1 - act
    let two : Bool := 2 ≤ s.journal.bootAttempts
    let swap : Bool := two && r.otherOk && floor ≤ s.journal.svn other
    if (two && !swap) || (!r.copy0 && !r.copy1) then s.modJournal (fun j => { j with recovery := true })
    else
      let s := s.modJournal (fun j => if swap then { j.bootWrite other 1 with fellBack := true } else j.bootWrite act (j.bootAttempts + 1))
      let ok := (if swap then r.otherOk else r.imageOk) && r.subordinateOk
      if !ok then s.warmReset 2 else s.bootRun r.truncatedAt

/-- BOOT_START -/
def execBootStart (t : Nat) (reads : StartReads) (s : State) : Host.Outcome State Fault Refusal :=
  act2 s t (fun s => bootStartEffect s reads)

/-- R487: the start is good: after replay and GDDR7 training, within 5 s (DEDUCED, log entry 139). -/
def startOkEffect (s : State) : State :=
  if s.journal.started || s.journal.recovery || s.sec.hold.isSome || s.mem.mode = 0 || s.watchdogDue then s
  else
    let j := s.journal
    let s := s.jAppend (.start j.bootActive j.bootAttempts j.lastStop)
    let s := s.modJournal (fun j => { j.bootWrite j.bootActive 0 with started := true })
    let s := s.modPower (fun x => { x with startUp := false })
    let s := if s.get Key.IMAGE_SVN_FLOOR < j.svn j.bootActive then s.setJ Key.IMAGE_SVN_FLOOR (j.svn j.bootActive) else s
    if j.fellBack then
      (s.modJournal (fun j => { j with fellBack := false, graftState := 7 })).noteFree 0xC1A 2
    else s

/-- START_OK -/
def execStartOk (t : Nat) (s : State) : Host.Outcome State Fault Refusal := act1 s t startOkEffect

/-- START_WATCHDOG (R487) -/
def execStartWatchdog (t : Nat) (s : State) : Host.Outcome State Fault Refusal :=
  act1 s t (fun s => if s.watchdogDue then s.warmReset 2 else s)

/-! ### Compaction (R477 to R480) -/

/-- Compaction starts: at 75 %, or when asked (DEDUCED, log entry 82). -/
def State.compactStart (s : State) : State :=
  if s.journal.mode = 0 && s.journal.oldRings = 0 then
    s.modJournal (fun j => { j with mode := 1, compactFrom := (j.records.map (·.rno)).foldl max 0 })
  else s

/-- Compaction starts by itself once the fill reaches 75 %. -/
def State.compactIfFull (s : State) : State := if 75 ≤ s.journal.fill then s.compactStart else s

/-- COMPACT_NOW: an installer writes 1. -/
def execCompactNow (t : Nat) (who : Role) (s : State) : Host.Outcome State Fault Refusal :=
  act1 s t (fun s => if who.isInstaller then s.compactStart else s)

/-- The newest records whose bytes fit in a limit, oldest first. -/
def auditTail (rs : List JRecord) (limit : Nat) : List JRecord :=
  (rs.reverse.foldl (fun (a : List JRecord × Nat) r =>
    if a.2 + r.bytes ≤ limit then (r :: a.1, a.2 + r.bytes) else (a.1, limit)) ([], 0)).1

/-- A record that compaction keeps whatever its age: a set that waits, or the latest HISTORY. -/
def keptRecord (waiting : List Nat) (lastHist : Nat) (r : JRecord) : Bool :=
  match r.body with
  | .set cs _ => waiting.contains cs.id
  | .setState id _ _ => waiting.contains id
  | .history _ _ => r.rno == lastHist
  | _ => false

/-- R477 step 4: the new set of records: values as of N, the sets that waited as of N, the latest HISTORY record, the audit tail, and
every record after N; the rings of the old set are to be erased. -/
def Journal.compacted (j : Journal) : Journal :=
  let n := j.compactFrom
  let old := j.records.filter (fun r => r.rno ≤ n && r.rno ≠ 0)
  let base := (old.filter (fun r => j.baseRno < r.rno)).foldl (replayOne (replaySets j.records)) j.base
  let waiting := ((replaySets old).filter (fun c => c.state = .queued || c.state = .postponed)).map (·.id)
  let hist := old.foldl (fun h r => match r.body with | .history _ _ => r.rno | _ => h) 0
  let tail := (auditTail old 0x200000).map (·.rno)
  let kept := old.filter (fun r => keptRecord waiting hist r || tail.contains r.rno)
  let later := j.records.filter (fun r => n < r.rno)
  let mark : JRecord := { rno := 0, timeState := 0, ft := 0, keyId := 0, parts := 0, body := .snapBegin (j.setGen + 1) n }
  let last := ((kept ++ later).map (·.rno)).foldl max n
  let end_ : JRecord := { rno := 0, timeState := 0, ft := 0, keyId := 0, parts := 0, body := .snapEnd (j.setGen + 1) last }
  let bytes := (base.map (fun e => 72 + valueBytes e.1)).sum + ((kept ++ later).map JRecord.bytes).sum + 224
  { j with
    base := base, records := mark :: (kept ++ later) ++ [end_], setGen := j.setGen + 1, mode := 0, compactFrom := 0,
    oldRings := j.usedRings, usedRings := ceilDiv bytes ringSize, ringBytes := bytes % ringSize,
    oldest := (((kept ++ later).map (·.rno)).foldl (fun m r => min m r) j.nextRno) }

/-- The copy is whole: the new set becomes the live one. -/
def compactionSnapEndEffect (s : State) : State :=
  if s.journal.mode ≠ 1 then s else (s.modJournal Journal.compacted).noteFree 0xC17 0

/-- COMPACTION_SNAP_END -/
def execCompactionSnapEnd (t : Nat) (s : State) : Host.Outcome State Fault Refusal := act1 s t compactionSnapEndEffect

/-- R477 step 5: one ring of the old set is erased. -/
def ringEraseDoneEffect (s : State) (flash0 flash1 : Bool) : State :=
  if s.journal.oldRings = 0 || s.journal.warned || !s.power.standby then s
  else
    let s := (s.flashProgram 0 flash0).flashProgram 1 flash1
    let w0 := s.journal.works 0
    let w1 := s.journal.works 1
    if (w0 || w1) && (!w0 || flash0) && (!w1 || flash1) then
      let s := (s.modJournal (fun j => { j with oldRings := j.oldRings - 1 })).countHeart 0x3D2 1
      s.compactIfFull
    else s

/-- RING_ERASE_DONE: each working device has erased the ring, or has failed to (R469). -/
def execRingEraseDone (t : Nat) (flash0 flash1 : Bool) (s : State) : Host.Outcome State Fault Refusal :=
  act1 s t (fun s => ringEraseDoneEffect s flash0 flash1)

/-! ### Grafts (R482 to R485) -/

/-- A graft is refused with a code. -/
def State.graftRefuse (s : State) (code : Nat) : State :=
  (s.modJournal (fun j => { j with graftState := 6, graftReason := code })).noteAt 0xC19 code 1

/-- The slot that a graft's result goes into: the inactive one; slot A in recovery (R488). -/
def Journal.target (j : Journal) : Nat := if j.recovery then 0 else 1 - j.bootActive

/-- R482: header and body of the staged graft; the lengths hold when the body ends within the last chunk. -/
def graftBody (b : List Byte) : List Byte := (b.drop 256).take (beField b 116 119)

def graftHeaderOk (b : List Byte) : Bool :=
  let n := beField b 116 119
  1024 ≤ b.length && beField b 0 3 == 0x47524654 && beField b 4 4 == 1 && beField b 5 7 == 0 && beField b 120 159 == 0 &&
    beField b 104 107 ≤ 0x1000000 && 256 + n ≤ b.length && b.length < 256 + n + 1024

/-- R482: SIG covers bytes 0 to 159 and the body, by a maker root key. -/
def graftSigned (b : List Byte) : Bool :=
  let k := beField b 114 115
  (k == 0x3000 || k == 0x3001) &&
    Config.signatureOk (Config.makerRoot (k % 0x1000)) (b.take 160 ++ graftBody b) ((b.drop 160).take 96)

/-- R482, R483: the operations write the result from offset 0 and stay within the base and the result; END falls at its length. -/
def graftOps (base : List Byte) (len : Nat) : Nat → List Byte → List Byte → Option (List Byte)
  | 0, _, _ => none
  | n + 1, ops, out =>
    match ops with
    | [] => none
    | op :: rest =>
      if op = 0x01 then
        let from_ := beField rest 0 3
        let k := beField rest 4 7
        if rest.length < 8 || base.length < from_ + k || len < out.length + k then none
        else graftOps base len n (rest.drop 8) (out ++ (base.drop from_).take k)
      else if op = 0x02 then
        let k := beField rest 0 3
        if rest.length < 4 + k || len < out.length + k then none
        else graftOps base len n (rest.drop (4 + k)) (out ++ (rest.drop 4).take k)
      else if op = 0x03 then (if out.length = len then some out else none)
      else none

/-- The image that a staged graft makes of a base; with a zero BASE_DIGEST the body is the image itself (DEDUCED, log entry 195). -/
def graftResult (base b : List Byte) : Option (List Byte) :=
  let body := graftBody b
  let len := beField b 104 107
  if beField b 8 55 = 0 then (if body.length = len then some body else none) else graftOps base len (body.length + 1) body []

/-- R483: a chunk is taken in order; one at offset 0 discards any earlier graft (DESIGN CHOICE, log entry 114). -/
def State.graftChunkWrite (s : State) (offset : Nat) (data : List Byte) : Option State :=
  let j := s.journal
  if j.graftState = 5 || offset % 1024 ≠ 0 || 0x1000000 < offset + 1024 then none
  else if offset = 0 then
    some (s.modJournal (fun j => { j with graftState := 1, graftReason := 0, graftReceived := 1024, staged := data }))
  else if j.graftState = 1 && offset = j.graftReceived then
    some (s.modJournal (fun j => { j with graftReceived := offset + 1024, staged := j.staged ++ data }))
  else none

/-- GRAFT_CHUNK -/
def execGraftChunk (t : Nat) (who : Role) (offset : Nat) (data : List Byte) (s : State) : Host.Outcome State Fault Refusal :=
  act1 s t (fun s => if who.isInstaller then (s.graftChunkWrite offset data).getD s else s)

/-- R483: the code of the first check that the staged graft fails, before its result is written; 0 where it passes. -/
def Journal.graftCode (j : Journal) (floor : Nat) : Nat :=
  let b := j.staged
  let base := beField b 8 55
  if !graftHeaderOk b then 1
  else if !graftSigned b then 2
  else if base ≠ 0 && (j.recovery || base ≠ j.digests.getD j.bootActive 0) then 3
  else if beField b 112 113 < floor then 4
  else if (graftResult (j.images.getD j.bootActive []) b).isNone then 5
  else 0

/-- R483: the checks in order; those of the result follow when it has been written into the inactive slot, which is erased first. -/
def State.graftApplyWrite (s : State) : Option State :=
  if s.journal.graftState = 5 then none
  else
    let code := s.journal.graftCode (s.get Key.IMAGE_SVN_FLOOR)
    if code ≠ 0 then some (s.graftRefuse code)
    else some (s.modJournal (fun j => { j with
      graftState := 3, graftReason := 0, versions := j.versions.set j.target 0, images := j.images.set j.target [],
      digests := j.digests.set j.target (Config.sha384 []) }))

/-- GRAFT_APPLY -/
def execGraftApply (t : Nat) (who : Role) (s : State) : Host.Outcome State Fault Refusal :=
  act2 s t (fun s => if who.isInstaller then (s.graftApplyWrite).getD s else s)

/-- R483: application ends. -/
def graftApplyDoneEffect (s : State) : State :=
  let j := s.journal
  let b := j.staged
  if j.graftState ≠ 3 then s
  else match graftResult (j.images.getD j.bootActive []) b with
    | none => s
    | some image =>
      let n := j.target
      let digest := Config.sha384 image
      let s := s.modJournal (fun j => { j with images := j.images.set n image, digests := j.digests.set n digest })
      if digest ≠ beField b 56 103 || !Config.imageSigned image then s.graftRefuse 6
      else
        let version := beField b 108 111
        let s := s.modJournal (fun j => { j with
          graftState := 4, versions := j.versions.set n version, svns := j.svns.set n (beField b 112 113) })
        (s.jAppend (.graft 0 n version digest)).noteFree 0xC18 0

/-- GRAFT_APPLY_DONE -/
def execGraftApplyDone (t : Nat) (s : State) : Host.Outcome State Fault Refusal := act2 s t graftApplyDoneEffect

/-- R484, R57: a write of GRAFT_ACT_FT queues, moves or cancels the joint activation. -/
def State.graftActWrite (s : State) (ft : Nat) : Except QueueRefusal State :=
  let j := s.journal
  let to_ : Nat → State → State := fun st s => s.modJournal (fun j => { j with graftState := st })
  if j.graftState ≠ 4 && j.graftState ≠ 5 then .error (.state 0)
  else if ft = 0 then
    match s.actFind .firmware 0 with
    | some n => .ok (to_ 4 (s.actDrop n))
    | none => .ok (to_ 4 s)
  else if ft < s.time.ft + 100000000 then .error (.state 0)
  else match s.actFind .firmware 0 with
    | some n => .ok (to_ 5 (s.modAct (fun x => { x with slots := x.slots.modify n (fun a => { a with ft := ft, state := .pending }) })))
    | none =>
      match s.actPut ft .firmware true 0 0xFFFF with
      | some s => .ok (to_ 5 s)
      | none => .error .full

/-- GRAFT_ACT_FT -/
def execGraftActFt (t : Nat) (who : Role) (ft : Nat) (s : State) : Host.Outcome State Fault Refusal :=
  act1 s t (fun s =>
    if who.isInstaller then
      match s.graftActWrite ft with
      | .ok s' => s'.setJ Key.GRAFT_ACT_FT ft
      | .error _ => s
    else s)

/-- R485: the activation fires: boot record, GRAFT record, warm reset; unlocked, it is postponed (R55) (DEDUCED, log entry 82). -/
def firmwareActivationEffect (s : State) : State :=
  match s.actFind .firmware 0 with
  | some n =>
    if !s.actTurn n then s
    else match s.dueFate true with
      | .postpone => s.postpone n
      | _ =>
        let s := s.markFired n
        let slot := 1 - s.journal.bootActive
        let s := s.modJournal (fun j => { j.bootWrite slot 0 with graftState := 0 })
        let s := s.jNow (.graft 0x10 slot (s.journal.versions.getD slot 0) (s.journal.digests.getD slot 0))
        s.warmReset 6
  | none => s

/-- FIRMWARE_ACTIVATION -/
def execFirmwareActivation (t : Nat) (s : State) : Host.Outcome State Fault Refusal := act2 s t firmwareActivationEffect

end Sys2Proof.Machine
end

