-- ==== Sys2Proof/Machine/Power.lean ====
section
/-! DEFINITION. The intake and its governor, input loss, slot channels and PERST#, limb power, start of partitions, die
temperature, references and RESET_N (R492 to R521, R541, R542, R547, R548, R553). -/

namespace Sys2Proof.Machine

/-! ### The energy store (R492, R516) -/

/-- R492: the store's usable energy and its reserve, in fJ. -/
def storeUsable : Nat := 200000000000000
def storeReserve : Nat := 100000000000000
def storeEnergy : Nat := storeUsable + storeReserve

/-- R516: STORE_LEVEL, in per cent of the usable energy. -/
def storeLevel (lack : Nat) : Nat := 100 * (storeUsable - lack) / storeUsable

/-! ### Power comes and goes -/

/-- R506: the energy count at an instant, in fJ: each sample's power over the time that it stands for. Fractions of a µJ carry over. -/
def Power.energyAt (x : Power) (now : Nat) : Nat := x.energy + x.volts * x.amps.toNat * (now - x.sampledAt)

/-- R469: a power cycle finds both flash devices working: the mirror is rebuilt from the good one. -/
def State.mirrorBack (s : State) : Bool := !(s.journal.flash.all (fun b => b)) && s.journal.flash.any (fun b => b) && Config.flashWorks s.draws

/-- The heartwood stops: everything but the journal, the images, the board's inputs and the intake controller is lost. The controller
keeps the F4 latch until the input is removed (R385, R553), and with it the crown starts fenced and stopped (DESIGN CHOICE, log entry 85).
-/
def State.powerOff (s : State) : State :=
  let z := State.reset
  let latched : Bool := s.faults.crown = .f4Latched
  { z with
    pending := s.pending, out := s.out, draws := s.draws + 1, now := s.now,
    hier := { z.hier with dies := [.inReset, .inReset, .inReset, .inReset, .running], limbs := List.replicate 8 .inReset,
                          contained := if latched then [.crown] else [] },
    time := { z.time with ref10m := s.time.ref10m, lastFtJournaled := s.time.lastFtJournaled, heardAny := s.now },
    trunks := List.replicate 16 { Trunk.reset with tx := { TrunkTx.reset with handedOver := true } },
    fabric := { z.fabric with ownFenced := latched },
    mem := z.mem,
    faults := { z.faults with crown := if latched then .f4Latched else .normal, f4cause := if latched then s.faults.f4cause else 0,
                              frozen := latched },
    bocel := { z.bocel with nextSet := s.bocel.nextSet },
    sec := { z.sec with slew := s.sec.slew, strap := s.sec.strap, testMode := s.sec.testMode },
    journal := { s.journal.dropMaking with
      mode := 0, compactFrom := 0, warned := false, bodyDone := false, heldAnswers := [], started := false, startSince := s.now,
      graftState := if s.journal.graftState = 4 || s.journal.graftState = 5 then 4 else 0, graftReason := 0, graftReceived := 0, staged := [],
      flashFails := if s.mirrorBack then [0, 0] else s.journal.flashFails, flash := if s.mirrorBack then [true, true] else s.journal.flash,
      secret := if s.mirrorBack then List.replicate 2 (Config.keyWrap Config.wrapKey s.journal.sealKey) else s.journal.secret, lastStop := 0 },
    power := { s.power with
      powerGood := false, inputLost := false, warningEnd := false, standby := false, startUp := true, govLevel := 0, dipAt := none,
      slots := List.replicate 48 SlotChannel.reset, hotDies := [], thermTripped := false,
      voltsMin := 0xFFFFFFFF, ampsMax := 0 } }

/-- R501: a curve timer after `us` ticks of 1 µs in which the current stood at `ma` mA, with its point at `ik` mA. -/
def timerAfter (ik ma us t : Nat) : Nat :=
  if ik = 0 then 0 else if ik < ma then t + us else if 20 * ma ≤ 19 * ik then t - us else t

/-- R517: current in mA, and time in µs, of a curve point. -/
def pointAmps (v : Nat) : Nat := 250 * field v 31 20
def pointTime (v : Nat) : Nat := field v 19 0

/-- R501: the intake's curve timers now. -/
def State.intakeTimers (s : State) : List Nat :=
  s.power.timers.zipIdx.map (fun e =>
    timerAfter (pointAmps (s.get (Key.INTAKE_CURVE + e.2))) s.power.highAmps (s.now / 1000 - s.power.sampledAt / 1000) e.1)

/-- The samples that a mean over the 1 ms before an instant still needs, newest first. -/
def recentSamples (now : Nat) : List (Nat × Nat × Int) → List (Nat × Nat × Int)
  | [] => []
  | x :: l => if x.1 + 1000000 ≤ now then [x] else x :: recentSamples now l

/-- The integral of a quantity over the samples of the 1 ms before an instant, up to `until_`. -/
def sumSamples (q : Nat × Int → Int) (now : Nat) : Nat → List (Nat × Nat × Int) → Int
  | _, [] => 0
  | until_, x :: l =>
    let lo := max x.1 (now - 1000000)
    q x.2 * ((until_ - lo : Nat) : Int) + (if x.1 + 1000000 ≤ now then 0 else sumSamples q now (min until_ lo) l)

/-- R506, R516: INTAKE_V, INTAKE_I and INTAKE_P, means of the last 1 ms. -/
def State.meanVolts (s : State) : Nat := (sumSamples (fun x => (x.1 : Int)) s.now s.now s.power.samples).toNat / 1000000
def State.meanAmps (s : State) : Int := sumSamples (fun x => x.2) s.now s.now s.power.samples / 1000000
def State.meanPower (s : State) : Nat := (sumSamples (fun x => (x.1 : Int) * x.2) s.now s.now s.power.samples).toNat / 1000000000

/-- R501, R506: a sample of the intake: voltage in mV and current in mA, mean and higher reading, of one instant. -/
def State.reading (s : State) (mv : Nat) (ma : Int) (high : Nat) : State :=
  s.modPower (fun x => { x with
    energy := x.energyAt s.now, timers := s.intakeTimers, sampledAt := s.now, volts := mv, amps := ma, highAmps := high,
    samples := (s.now, mv, ma) :: recentSamples s.now x.samples, voltsMin := min x.voltsMin mv, ampsMax := max x.ampsMax ma })

/-- The gate is off from now on. -/
def State.gateOff (s : State) (ph : IntakePhase) : State :=
  (s.reading s.power.volts 0 0).modPower (fun x => { x with phase := ph, powerGood := false, offSince := s.now })

/-- R503: every curve timer reads zero and none starts. -/
def State.timersRest (s : State) : Bool :=
  s.intakeTimers.zipIdx.all (fun e =>
    let ik := pointAmps (s.get (Key.INTAKE_CURVE + e.2))
    e.1 == 0 && (ik == 0 || s.power.highAmps ≤ ik))

/-- R498: a start begins with the pre-check. -/
def State.intakeStart (s : State) : State :=
  if s.power.enabled && s.power.inputUp && s.power.phase = .off then s.modPower (fun x => { x with phase := .precheck }) else s

/-- R503, R504, R541: power-good is given once the gate is fully on and every curve timer reads zero; the cause of the last
trip is reported; the standby domain starts where REF25 is good. -/
def State.givePowerGood (s : State) : State :=
  let x := s.power
  if x.phase = .on && !x.powerGood && s.timersRest then
    (s.modPower (fun x => { x with powerGood := true, pgAt := s.now, prior := x.keptCause, load := 0, lack := 0, energy := 0, timers := List.replicate 16 0, sampledAt := s.now, standby := x.ref25, standbyAt := s.now })).modJournal
      (fun j => { j with startSince := s.now })
  else s

/-- R504: a trip: the gate turns off; a second within 60 s locks the controller out (DEDUCED, log entry 84). -/
def State.intakeTrip (s : State) (cause : Nat) : State :=
  let again : Bool := match s.power.lastTrip with
    | some t => s.now < t + 60000000000
    | none => false
  (s.gateOff (if again then .lockedOut else .tripped)).modPower (fun x => { x with keptCause := cause, lastTrip := some s.now })

/-- R499: the pass transistor is damaged: the controller latches off; a running heartwood raises F4 with cause 0x1 (DESIGN CHOICE, log
entry 85). -/
def State.fetDamage (s : State) : State :=
  let s := s.modPower (fun x => { x with phase := .damaged })
  if s.power.standby then
    (s.modFaults (fun f => { f with f4cause := 1 })).note
      { Ev.plain 0xB86 (Config.eventCode 0xB86) 4 with level := 4, unit := some .crown, action := 7 }
  else s

/-- R506: INTAKE_ENERGY, in µJ; it saturates. -/
def State.intakeEnergy (s : State) : Nat := min (2 ^ 64 - 1) (s.power.energyAt s.now / 1000000000)

/-- A sample in which the voltage alone is new, and one in which the current is, by the two paths of R506: the mean of both is reported, the
breaker acts on the higher. -/
def State.sampleVolts (s : State) (mv : Nat) : State := s.reading mv s.power.amps s.power.highAmps
def State.sampleAmps (s : State) (a b : Nat) : State := s.reading s.power.volts (((a + b) / 2 : Nat) : Int) (max a b)

/-- The warm reset that ends an input loss (R497). -/
def State.inputBack (s : State) : State :=
  (s.modPower (fun x => { x with inputLost := false, warningEnd := false })).warmReset 4

/-! ### Intake commands -/

/-- R497, R498: the input rises through the rising threshold. -/
def intakeInputRiseEffect (s : State) (mv : Nat) : State :=
  let s := (s.sampleVolts mv).modPower (fun x => { x with inputUp := true })
  if s.power.inputLost then (if s.power.warningEnd then s.inputBack else s)
  else s.intakeStart

/-- INTAKE_INPUT_RISE -/
def execIntakeInputRise (t millivolts : Nat) (s : State) : Host.Outcome State Fault Refusal :=
  act1 s t (fun s => intakeInputRiseEffect s millivolts)

/-- INTAKE_EN_ASSERT (R498, R504) -/
def execIntakeEnAssert (t : Nat) (s : State) : Host.Outcome State Fault Refusal :=
  act1 s t (fun s => (s.modPower (fun x => { x with enabled := true })).intakeStart)

/-- R498: INTAKE_EN is deasserted: the gate turns off; the lockout ends, a damaged transistor stays latched. -/
def intakeEnDeassertEffect (s : State) : State :=
  let s := s.modPower (fun x => { x with enabled := false })
  if s.power.phase = .damaged then s
  else if s.power.phase = .off || s.power.phase = .tripped || s.power.phase = .lockedOut then s.modPower (fun x => { x with phase := .off })
  else s.gateOff .off

/-- INTAKE_EN_DEASSERT -/
def execIntakeEnDeassert (t : Nat) (s : State) : Host.Outcome State Fault Refusal := act1 s t intakeEnDeassertEffect

/-- R498, R499: the pre-check's 200 µs end: below 10 % the ramp starts; at 50 % and above, with the gate off for 5 ms, the
transistor is damaged; between, the controller waits. Whatever still ran has stopped by then. -/
def precheckEndEffect (s : State) (outPercent : Nat) : State :=
  if s.power.phase ≠ .precheck then s
  else if outPercent < 10 then
    let s := if s.power.standby then s.powerOff else s
    s.modPower (fun x => { x with phase := .ramp, rampAt := s.now })
  else if 50 ≤ outPercent && s.after s.power.offSince 5000000 then s.fetDamage
  else s

/-- PRECHECK_END -/
def execPrecheckEnd (t outPercent : Nat) (s : State) : Host.Outcome State Fault Refusal :=
  act2 s t (fun s => precheckEndEffect s outPercent)

/-- R498, R503: the gate is fully on. -/
def gateFullyOnEffect (s : State) : State :=
  if s.power.phase = .ramp then (s.modPower (fun x => { x with phase := .on })).givePowerGood else s

/-- GATE_FULLY_ON -/
def execGateFullyOn (t : Nat) (s : State) : Host.Outcome State Fault Refusal := act1 s t gateFullyOnEffect

/-- R500: the fast trip: above 250 A, or, in the ramp, above twice INTAKE_INRUSH. -/
def fastTripEffect (s : State) (a b : Nat) : State :=
  let ma := max a b
  let s := s.sampleAmps a b
  if s.power.phase = .ramp && 2000 * s.get Key.INTAKE_INRUSH < ma then s.intakeTrip 2
  else if (s.power.phase = .ramp || s.power.phase = .on) && 250000 < ma then s.intakeTrip 1
  else s

/-- FAST_TRIP -/
def execFastTrip (t pathA pathB : Nat) (s : State) : Host.Outcome State Fault Refusal := act1 s t (fun s => fastTripEffect s pathA pathB)

/-- R500: the gate is not fully on within INTAKE_RAMP_TIMEOUT of the ramp's start. -/
def rampTimeoutEffect (s : State) : State :=
  if s.power.phase = .ramp && s.after s.power.rampAt (1000000 * s.get Key.INTAKE_RAMP_TIMEOUT) then s.intakeTrip 3 else s

/-- RAMP_TIMEOUT -/
def execRampTimeout (t : Nat) (s : State) : Host.Outcome State Fault Refusal := act1 s t rampTimeoutEffect

/-- R501, R503: a sample of the current: the timers of the points that it passes leave zero, with INTAKE_CURVE_RUN at most once per 1 ms;
once all read zero again, a withheld power-good is given (DESIGN CHOICE, log entry 83). -/
def intakeOvercurrentEffect (s : State) (a b : Nat) : State :=
  let was := s.power.highAmps
  let leaves : Bool := s.intakeTimers.zipIdx.any (fun e =>
    let ik := pointAmps (s.get (Key.INTAKE_CURVE + e.2))
    e.1 == 0 && ik ≠ 0 && was ≤ ik && ik < max a b)
  let s := s.sampleAmps a b
  if s.power.phase ≠ .ramp && s.power.phase ≠ .on then s
  else if leaves then
    let due : Bool := match s.power.curveRunAt with | none => true | some t => s.after t 1000000
    if due then (s.modPower (fun x => { x with curveRunAt := some s.now })).noteFree 0xB84 1 else s
  else s.givePowerGood

/-- INTAKE_OVERCURRENT -/
def execIntakeOvercurrent (t pathA pathB : Nat) (s : State) : Host.Outcome State Fault Refusal :=
  act2 s t (fun s => intakeOvercurrentEffect s pathA pathB)

/-- R501: the timer of curve point `k` has reached its time: the gate turns off. -/
def curveTripEffect (s : State) (k : Nat) : State :=
  let v := s.get (Key.INTAKE_CURVE + k)
  if (s.power.phase = .ramp || s.power.phase = .on) && k < 16 && pointAmps v ≠ 0 && pointTime v ≤ s.intakeTimers.getD k 0 then
    s.intakeTrip (0x10 + k)
  else s

/-- CURVE_TRIP -/
def execCurveTrip (t k : Nat) (s : State) : Host.Outcome State Fault Refusal := act1 s t (fun s => curveTripEffect s k)

/-- R504: 1 s after a trip the controller starts again. -/
def tripRestartEffect (s : State) : State :=
  if s.power.phase = .tripped && s.after s.power.offSince 1000000000 then
    ((if s.power.standby then s.powerOff else s).modPower (fun x => { x with phase := .off })).intakeStart
  else s

/-- TRIP_RESTART -/
def execTripRestart (t : Nat) (s : State) : Host.Outcome State Fault Refusal := act1 s t tripRestartEffect

/-- R499: the gate has been commanded off for 5 ms and the output still stands at or above half the input. -/
def fetDamageDetectEffect (s : State) : State :=
  let ph := s.power.phase
  if (ph = .off || ph = .tripped || ph = .lockedOut || ph = .precheck) && s.after s.power.offSince 5000000 then s.fetDamage else s

/-- FET_DAMAGE_DETECT -/
def execFetDamageDetect (t : Nat) (s : State) : Host.Outcome State Fault Refusal := act2 s t fetDamageDetectEffect

/-- R553: the input is removed: the heartwood stops and the controller forgets every latch and its kept cause. It is the power
cycle of R464: test mode is left unless TEST_STRAP was last sampled asserted (DEDUCED, log entry 161). -/
def inputRemovedEffect (s : State) : State :=
  let s := (s.modFaults (fun f => { f with crown := .normal, f4cause := 0 })).modSec (fun x => { x with testMode := x.testMode && x.strap })
  (s.powerOff).modPower (fun x => { x with
    phase := .off, inputUp := false, offSince := s.now, keptCause := 0, prior := 0, lastTrip := none, timers := List.replicate 16 0,
    curveRunAt := none })

/-- INPUT_REMOVED -/
def execInputRemoved (t : Nat) (s : State) : Host.Outcome State Fault Refusal := act1 s t inputRemovedEffect

/-! ### Limbs (R22, R512) -/

/-- R22: a gated limb's counters, and those of its twigs and boughs, read zero. -/
def State.zeroLimbCounters (s : State) (l : Nat) : State :=
  s.modCounters (fun c => { c with values := c.values.filter (fun e => counterLimb e.1 ≠ some l) })

/-- R512: a limb is gated at once; what queued for it meets R34. -/
def State.gateLimb (s : State) (l : Nat) : State :=
  if s.limbGated l then s
  else
    let s := s.breakLocks (fun k => limbOfBough k.bough == l)
    let s := (s.stopTrunks (UnitId.limb l).twigs .disabled).stopPorts (UnitId.limb l).twigs 6 2
    let s := s.modHier (fun h => { h with limbs := h.limbs.set l .gated, powering := h.powering.filter (· ≠ l) })
    let s := s.zeroLimbCounters l
    let s := s.each (s.portsIn (UnitId.limb l).twigs) (fun s g => s.perst (portOfG g) (s.upstreamPart g).isNone)
    s.modCore (fun c => { c with freeing := c.freeing.filter (fun f => limbOf f.egress ≠ l) })

/-- R512: a limb may be gated by a write: none of its twigs is bound, none is an upstream port. -/
def State.mayGate (s : State) (l : Nat) : Bool :=
  (s.binds.all (fun b => b.2.2.crown ≠ s.crownId || limbOf b.2.2.twig ≠ l)) &&
    ((List.range 64).all (fun p => match s.upTwig p with | some u => limbOf u ≠ l | none => true))

/-- R512: a limb is to be powered. -/
def State.powerLimb (s : State) (l : Nat) : State :=
  if s.limbGated l then
    s.modHier (fun h => { h with limbs := h.limbs.set l .inReset, powering := h.powering.filter (· < l) ++ [l] ++ h.powering.filter (l < ·) })
  else s

/-- LIMB_GATE: an installer writes 0 to LIMB_POWER. -/
def execLimbGate (t : Nat) (who : Role) (l : Nat) (s : State) : Host.Outcome State Fault Refusal :=
  act2 s t (fun s => if who.isInstaller && l < 8 && s.mayGate l then (s.setJ (Key.LIMB_POWER + l) 0).gateLimb l else s)

/-- LIMB_POWER_ON: an installer writes 1. -/
def execLimbPowerOn (t : Nat) (who : Role) (l : Nat) (s : State) : Host.Outcome State Fault Refusal :=
  act1 s t (fun s => if who.isInstaller && l < 8 then (s.setJ (Key.LIMB_POWER + l) 1).powerLimb l else s)

/-- R512, R513: the next limb runs, or reads offline where its die is contained: its controllers are loaded, its boughs form, its links start. After a thermal trip no limb
is powered while a sensor reads 100 °C or more (R547). -/
def limbRunningEffect (s : State) (l : Nat) : State :=
  if s.hier.powering.head? = some l && !(s.power.thermTripped && !s.power.hotDies.isEmpty) then
    let down := s.hier.contained.any (fun v => (UnitId.limb l).inside v)
    let s := s.modHier (fun h => { h with limbs := h.limbs.set l (if down then .offline else .running), powering := h.powering.drop 1 })
    let s := s.each (UnitId.boughs (.limb l)) State.formBough
    let gs := if down then [] else (UnitId.limb l).twigs
    let s := s.each (gs.filter isT) (fun s g => s.modTrunk (trunkOfG g) (fun k =>
      if s.get (Key.TP_ENABLE + trunkOfG g) = 0 then { k with tstate := .disabled }
      else { k with tstate := .detect, train := { k.train with since := s.now } }))
    s.each (gs.filter (fun g => !isT g)) (fun s g => s.modHPort (portOfG g) (fun h => { h with lstate := .detect, detectAt := s.now }))
  else s

/-- LIMB_RUNNING -/
def execLimbRunning (t l : Nat) (s : State) : Host.Outcome State Fault Refusal := act1 s t (fun s => limbRunningEffect s l)

/-! ### Input loss (R497) -/

/-- R497: fence notice, warning to the journal, every twig stopped, every limb gated. -/
def inputLossEffect (s : State) (below : Bool) : State :=
  if s.power.inputLost || !s.power.standby then s
  else
    let s := ((s.modFabric (fun f => { f with ownFenced := true })).fenceNotice s.crownId true).flushNotice
    let body := Config.bodyProgrammed s.draws
    let s := s.drew.modJournal (fun j => { j with warned := true, bodyDone := !j.inFlight.isEmpty && body })
    let s := s.modPower (fun x => { x with inputLost := true, warningEnd := false, inputUp := x.inputUp && !below, lack := if below then x.lack else max x.lack storeUsable })
    let s := s.noteFree 0xB83 0
    let s := s.each (List.range 8) State.gateLimb
    (s.modEngines (fun e => { e with busy := [] })).modMem (fun m => { m with channels := m.channels.map (fun c => { c with state := 0 }) })

/-- INPUT_LOSS -/
def execInputLoss (t : Nat) (inputBelow : Bool) (s : State) : Host.Outcome State Fault Refusal :=
  act2 s t (fun s => inputLossEffect s inputBelow)

/-- R497: the store is exhausted before the input came back: the heartwood stops; the next input begins a full start-up (DEDUCED, log
entry 84). -/
def storeExhaustedEffect (s : State) : State :=
  if s.power.inputLost || !s.power.powerGood then
    let ph := s.power.phase
    (s.powerOff).modPower (fun x => { x with
      phase := if ph = .on || ph = .ramp || ph = .precheck then .off else ph, offSince := s.now, lack := storeEnergy, load := 0 })
  else s

/-- STORE_EXHAUSTED -/
def execStoreExhausted (t : Nat) (s : State) : Host.Outcome State Fault Refusal := act1 s t storeExhaustedEffect

/-! ### The governor (R493 to R496) -/

/-- R495: at level 3 and above, every FLIT-mode H-port with L0p enabled is asked down to its minimum width. -/
def State.govern (s : State) (level : Nat) : State :=
  let was := s.power.govLevel
  let s := s.modPower (fun x => { x with govLevel := level, steppedAt := s.now })
  if 3 ≤ level && was < 3 then
    s.each ((List.range 144).filter (fun p =>
      (s.hport p).lstate = .l0 && (s.hport p).flit && s.powerEnabled p 3 && s.l0pMin p < (s.hport p).l0pWidth)) (fun s p =>
        (s.l0pTo p (s.l0pMin p)).emit (.link p "L0p width" (s.l0pMin p)))
  else s

/-- The governor moves to level 4 at once. -/
def State.governFull (s : State) : State :=
  if s.power.govLevel = 4 then s else (s.govern 4).countHeart 0x3E1 1

/-- R493: the cap on the power drawn at the intake, in mW, at an input of `mv` millivolts. -/
def State.powerCap (s : State) (mv : Nat) : Nat := min (1000 * s.get Key.INTAKE_POWER_LIMIT) (95 * mv)

/-- R494: the input current the converter goes to, in whole mA: the load divided by the input voltage, rounded up, within the cap. A rail
at 0 V carries nothing. -/
def State.currentTarget (s : State) (mv load : Nat) : Nat :=
  if mv = 0 then 0 else min ((1000 * load + mv - 1) / mv) (1000 * s.powerCap mv / mv)

/-- R494: the store supplies: the load exceeds what the converter draws, by 1 mA or more (DEDUCED, log entry 187). -/
def supplies (mv load ma : Nat) : Bool := 0 < load && mv * (ma + 1) ≤ 1000 * load

/-- R494: the converter's input current after `ns` nanoseconds with its target at `goal`: it moves by at most `slew` mA per
nanosecond (INTAKE_SLEW in A/µs). A fall of the cap brings it down at that rate too, as the example after R506 has it (DEDUCED, log
entry 187). -/
def slewed (cur goal slew ns : Nat) : Nat := if cur < goal then min goal (cur + slew * ns) else max goal (cur - slew * ns)

/-- R494: the energy the converter draws in `ns` nanoseconds, in fJ: the ramp to the target, then the current reached. -/
def drawnEnergy (mv cur goal slew ns : Nat) : Nat :=
  let last := slewed cur goal slew ns
  let ramp := min ns (((max cur goal - min cur goal) + slew - 1) / slew)
  mv * ((cur + last) * ramp / 2 + last * (ns - ramp))

/-- R494, R506: `ns` nanoseconds with the rail at `mv` and the load at `load`: the current follows within its two limits, the store
supplies the difference or takes the surplus, and a full store lets the current fall at once. -/
def State.converter (s : State) (ns mv load : Nat) : State :=
  let cur := s.power.amps.toNat
  let goal := s.currentTarget mv load
  let slew := s.get Key.INTAKE_SLEW
  let last := slewed cur goal slew ns
  let lack := min storeEnergy ((s.power.lack + 1000 * load * ns) - drawnEnergy mv cur goal slew ns)
  let ends := if lack = 0 then min last goal else last
  (s.reading mv (ends : Int) ends).modPower (fun x => { x with
    load := load, lack := lack, ampsMax := max x.ampsMax ((max cur last : Nat) : Int) })

/-- R494: the time the current takes to its target, in nanoseconds. -/
def State.settleTime (s : State) (mv load : Nat) : Nat :=
  let cur := s.power.amps.toNat
  let goal := s.currentTarget mv load
  let slew := s.get Key.INTAKE_SLEW
  ((max cur goal - min cur goal) + slew - 1) / slew

/-- R496, R520: the store has supplied energy for 100 µs without a break, with the rail at `mv` and the load at `load`: the governor
moves to level 4. -/
def storeSupplyLimitEffect (s : State) (mv load : Nat) : State :=
  let u := s.converter 100000 mv load
  if s.power.standby && supplies mv load s.power.amps.toNat && supplies mv load u.power.amps.toNat then
    ((u.governFull).countHeart 0x3E0 100).noteFree 0xB82 0
  else u

/-- STORE_SUPPLY_LIMIT -/
def execStoreSupplyLimit (t millivolts milliwatts : Nat) (s : State) : Host.Outcome State Fault Refusal :=
  act1 s t (fun s => storeSupplyLimitEffect s millivolts milliwatts)

/-- R496, R547: one level down after 10 ms in which the 1 ms average of the draw, at most `draw` mW, stayed below 90 % of the cap and
the store was full, every sensor below 100 °C. -/
def governorStepDownEffect (s : State) (mv draw : Nat) : State :=
  if 0 < s.power.govLevel && s.after s.power.steppedAt 10000000 && 10 * draw < 9 * s.powerCap mv && s.power.hotDies.isEmpty then
    let ma := s.currentTarget mv draw
    ((s.reading mv (ma : Int) ma).modPower (fun x => { x with load := draw, lack := 0 })).govern (s.power.govLevel - 1)
  else s

/-- GOVERNOR_STEP_DOWN -/
def execGovernorStepDown (t millivolts draw : Nat) (s : State) : Host.Outcome State Fault Refusal :=
  act1 s t (fun s => governorStepDownEffect s millivolts draw)

/-- R496: a dip, in which the store supplied for `ns` nanoseconds with the rail at `mv` and the load at `load`, ends with the rail at
`after` and the store refilling: INTAKE_DIP, at most once per 1 ms. The microseconds of supply count (R520). -/
def intakeDipEffect (s : State) (ns mv load after : Nat) : State :=
  let u := (s.converter ns mv load).countHeart 0x3E0 (ns / 1000)
  let u := u.converter (u.settleTime after load) after load
  if supplies after load u.power.amps.toNat then u
  else
    let due : Bool := match u.power.dipAt with | none => true | some t => u.after t 1000000
    if due then (u.modPower (fun x => { x with dipAt := some u.now })).noteFree 0xB81 0 else u

/-- INTAKE_DIP -/
def execIntakeDip (t ns millivolts milliwatts after : Nat) (s : State) : Host.Outcome State Fault Refusal :=
  act1 s t (fun s => intakeDipEffect s ns millivolts milliwatts after)

/-- R506: for 1 ms the two readings have differed by more than 2 % of their mean and 1 A. -/
def intakeSenseDivergeEffect (s : State) (a b : Nat) : State :=
  let s := s.sampleAmps a b
  if (a + b) / 2 * 2 + 100000 < 100 * (max a b - min a b) then s.noteFree 0xB85 1 else s

/-- INTAKE_SENSE_DIVERGE -/
def execIntakeSenseDiverge (t pathA pathB : Nat) (s : State) : Host.Outcome State Fault Refusal :=
  act2 s t (fun s => intakeSenseDivergeEffect s pathA pathB)

/-- R516: the peaks are cleared. -/
def State.clearPeaks (s : State) : State := s.modPower (fun x => { x with voltsMin := 0xFFFFFFFF, ampsMax := 0 })

/-- INTAKE_PEAK_CLEAR -/
def execIntakePeakClear (t : Nat) (who : Role) (s : State) : Host.Outcome State Fault Refusal :=
  act1 s t (fun s => if who.isInstaller then s.clearPeaks else s)

/-! ### Slot channels (R507 to R511) -/

/-- R509: whether a port's power is demanded by its binding. -/
def State.bindDemand (s : State) (p : Nat) : Bool :=
  let g := gOfPort p
  if s.isShared (s.portLowG g) then true
  else match s.wholeVdp g with
    | some (x, v) => !((s.part x).vdp v).powerOff
    | none => (s.upstreamPart g).isSome && !s.limbGated (limbOf g)

/-- R509: a channel's demand. -/
def State.slotDemand (s : State) (p c : Nat) : Bool :=
  match s.getDef (Key.SLOT_CTL + c) 0 with
  | 1 => false
  | 2 => true
  | _ => s.bindDemand p

/-- A channel is on or ramps. -/
def SlotChannel.live (x : SlotChannel) : Bool := x.state = 1 || x.state = 2

/-- A channel's gate turns off, or its state changes with the gate off. -/
def SlotChannel.turnOff (x : SlotChannel) (now st cause point : Nat) : SlotChannel :=
  { x with state := st, cause := cause, point := point, amps := 0, offAt := if x.live then now else x.offAt }

/-- R501, R507: a channel's curve points, and its timers after `us` ticks with the current at `ma` mA. -/
def State.slotPoint (s : State) (c k : Nat) : Nat := s.get (Key.SLOT_CURVE + 256 * k + c)

def State.slotTimers (s : State) (c ma us : Nat) : List Nat :=
  (s.slotChan c).timers.zipIdx.map (fun e => timerAfter (pointAmps (s.slotPoint c e.2)) ma us e.1)

/-- R511: PERST# is asserted at once where its conditions fail. A virtual upstream port's PERST# stays deasserted. -/
def State.perstCheck (s : State) (p : Nat) : State :=
  let g := gOfPort p
  let cs := s.channelsOf p
  if (s.upstreamPart g).isSome then s
  else
    let powered : Bool := if cs.isEmpty then
        (s.isShared (s.portLowG g) || (s.wholeVdp g).isSome) && s.power.powerGood && s.bindDemand p
      else cs.all (fun c => (s.slotChan c).state = 2)
    if powered && s.limbRuns (limbOf g) || (s.sideband p).perst then s else s.perst p true

/-- R511: at start-up ports ramp one at a time, in ascending order. -/
def State.rampNext (s : State) : State :=
  let busy : Bool := s.power.slots.any (fun x => x.state = 1)
  let waiting : Nat → Bool := fun p => (s.channelsOf p).any (fun c => (s.slotChan c).state = 0 && (s.slotChan c).demand)
  let go : State → Nat → State := fun s p =>
    s.each ((s.channelsOf p).filter (fun c => (s.slotChan c).state = 0 && (s.slotChan c).demand)) (fun s c =>
      (s.modSlot c (fun x => { x with
        state := 1, cause := 0, point := 0, rampAt := s.now, timers := s.slotTimers c 0 (s.now / 1000 - x.offAt / 1000) })).countHeart 0x3E2 1)
  if s.power.startUp then
    if busy then s
    else match (List.range 144).find? waiting with
      | some p => go s p
      | none => s
  else s.each ((List.range 144).filter waiting) go

/-- R509, R510: a port's channels follow their demand: absent demand turns them off and ends a trip's latch; demand ramps
what is off. -/
def State.slotUpdate (s : State) (p : Nat) : State :=
  let s := s.each (s.channelsOf p) (fun s c =>
    let d := s.slotDemand p c
    s.modSlot c (fun x =>
      let x := { x with demand := d }
      if x.state = 5 || (!d && x.state ≠ 4) then x.turnOff s.now 0 x.cause x.point else x))
  (s.perstCheck p).rampNext

/-- SLOT_DEMAND_CHANGE (R509) -/
def execSlotDemandChange (t p : Nat) (s : State) : Host.Outcome State Fault Refusal :=
  act1 s t (fun s => if p < 144 then s.slotUpdate p else s)

/-- The port of a mapped channel. -/
def State.portOfChannel (s : State) (c : Nat) : Option Nat :=
  let v := s.getDef (Key.SLOT_MAP + c) 0
  if bitOf v 15 then some (field v 7 0) else none

/-- R521: a slot event: the code names the event, rows from zero (DESIGN CHOICE, log entry 33); one of class F2 is recorded for the port's lowest twig. -/
def State.slotNote (s : State) (p c row cls : Nat) : State :=
  s.note { src := 0xB90 + c, code := row, cls := cls, level := if cls = 2 then 0 else 6,
           unit := if cls = 2 then some (.twig (s.portLowG (gOfPort p))) else none, part := none, action := 0, inj := false }

/-- The slot's Power Fault Detected, seen by the partition that holds the port whole. -/
def State.powerFault (s : State) (p : Nat) : State :=
  match s.wholeVdp (gOfPort p) with
  | some (x, v) => s.slotEvent x v 3
  | none => s

/-- R508, R510: a channel stops in a state with a cause, and every other channel of its port turns off with it; the events of the given
rows (DEDUCED, log entry 86). -/
def State.slotStop (s : State) (p c st cause point : Nat) (rows : List Nat) : State :=
  let s := s.modSlot c (fun x => x.turnOff s.now st cause point)
  let s := s.each ((s.channelsOf p).filter (fun d => d ≠ c && (s.slotChan d).live)) (fun s d =>
    s.modSlot d (fun x => x.turnOff s.now 3 6 0))
  let s := s.countHeart 0x3E3 1
  let s := (s.perstCheck p).powerFault p
  let s := s.each rows (fun s r => s.slotNote p c r (if r = 1 then 1 else 2))
  s.rampNext

/-- A trip of a mapped channel that is on or ramps (DEDUCED, log entry 86). -/
def State.slotTrip (s : State) (c cause point : Nat) (rows : List Nat) : State :=
  match s.portOfChannel c with
  | some p => if (s.slotChan c).live then s.slotStop p c 3 cause point rows else s
  | none => s

/-- R500, R507: the fast trip of a channel: above SLOT_FAST_TRIP, or, in the ramp, above twice SLOT_INRUSH. -/
def slotFastTripEffect (s : State) (c ma : Nat) : State :=
  let x := s.slotChan c
  let s := s.modSlot c (fun x => if x.live then { x with amps := ma } else x)
  if 1000 * s.get (Key.SLOT_FAST_TRIP + c) < ma || (x.state = 1 && 2000 * s.get (Key.SLOT_INRUSH + c) < ma) then s.slotTrip c 1 0 [2] else s

/-- SLOT_FAST_TRIP -/
def execSlotFastTrip (t c milliamps : Nat) (s : State) : Host.Outcome State Fault Refusal :=
  act2 s t (fun s => slotFastTripEffect s c milliamps)

/-- R501, R506, R507: a channel's current has stood at `ma` mA, with its output at `mv` mV, for `ns` nanoseconds: its energy and its curve
timers move; one that leaves zero raises SLOT_CURVE_RUN, at most once per 1 ms; the channel trips when the timer of point `k` has reached
its time. -/
def slotCurveTripEffect (s : State) (c k mv ma ns : Nat) : State :=
  let x := s.slotChan c
  match s.portOfChannel c with
  | none => s
  | some p =>
    if !x.live then s
    else
      let timers := s.slotTimers c ma (ns / 1000)
      let leaves : Bool := x.timers.zipIdx.any (fun e => e.1 == 0 && timers.getD e.2 0 ≠ 0)
      let s := s.modSlot c (fun x => { x with timers := timers, volts := mv, amps := ma, energy := x.energy + mv * ma * ns })
      let due : Bool := match x.runAt with | none => true | some t => s.after t 1000000
      let s := if leaves && due then (s.modSlot c (fun x => { x with runAt := some s.now })).slotNote p c 1 1 else s
      let v := s.slotPoint c k
      if k < 16 && pointAmps v ≠ 0 && pointTime v ≤ timers.getD k 0 then s.slotStop p c 3 2 k [2] else s

/-- SLOT_CURVE_TRIP -/
def execSlotCurveTrip (t c k millivolts milliamps dur : Nat) (s : State) : Host.Outcome State Fault Refusal :=
  act2 s t (fun s => slotCurveTripEffect s c k millivolts milliamps dur)

/-- R500, R507: a channel is not fully on within SLOT_RAMP_TIMEOUT of its ramp's start. -/
def slotRampFailEffect (s : State) (c : Nat) : State :=
  if (s.slotChan c).state = 1 && s.after (s.slotChan c).rampAt (1000000 * s.get (Key.SLOT_RAMP_TIMEOUT + c)) then s.slotTrip c 3 0 [3] else s

/-- SLOT_RAMP_FAIL -/
def execSlotRampFail (t c : Nat) (s : State) : Host.Outcome State Fault Refusal := act2 s t (fun s => slotRampFailEffect s c)

/-- R499, R507: a channel's gate has been off for 5 ms and its output still stands at or above half the rail: its transistor is damaged. It
stays off until SLOT_CLEAR and a new pre-check. -/
def slotFetFailedEffect (s : State) (c : Nat) : State :=
  match s.portOfChannel c with
  | some p => if (s.slotChan c).state = 4 || (s.slotChan c).state = 2 || !s.after (s.slotChan c).offAt 5000000 then s else s.slotStop p c 4 5 0 [4]
  | none => s

/-- SLOT_FET_FAILED -/
def execSlotFetFailed (t c : Nat) (s : State) : Host.Outcome State Fault Refusal := act2 s t (fun s => slotFetFailedEffect s c)

/-- R302, R509: a power fault on the slot's sideband input turns every channel of the port off with cause 0x4. -/
def State.slotSidebandFault (s : State) (p : Nat) : State :=
  match (s.channelsOf p).filter (fun c => (s.slotChan c).live) with
  | [] => s
  | c :: cs =>
    let s := s.each (c :: cs) (fun s d => s.modSlot d (fun x => x.turnOff s.now 3 4 0))
    let s := (s.countHeart 0x3E3 1).perstCheck p
    (s.slotNote p c 2 2).rampNext

/-- R507, R510: a trip or a failed transistor of the channel's port is cleared. -/
def State.clearSlot (s : State) (c : Nat) : State :=
  match s.portOfChannel c with
  | some p =>
    let s := s.each (s.channelsOf p) (fun s d => s.modSlot d (fun x =>
      if x.state = 3 || x.state = 4 then { x with state := 0, cause := 0, point := 0 } else x))
    s.slotUpdate p
  | none => s

/-- SLOT_CLEAR -/
def execSlotClear (t : Nat) (who : Role) (c : Nat) (s : State) : Host.Outcome State Fault Refusal :=
  act1 s t (fun s => if who.isInstaller && c < 48 then s.clearSlot c else s)

/-- R503, R508: the channels of a port give power-good together, once the curve timers of all read zero. -/
def slotPgEffect (s : State) (p mv : Nat) : State :=
  match (s.channelsOf p).filter (fun c => (s.slotChan c).state = 1) with
  | [] => s
  | c :: cs =>
    if (c :: cs).any (fun d => (s.slotChan d).timers.any (· ≠ 0)) then s
    else
      let s := s.each (c :: cs) (fun s d => s.modSlot d (fun x => { x with state := 2, pgAt := s.now, volts := mv }))
      (s.slotNote p c 0 0).rampNext

/-- SLOT_PG -/
def execSlotPg (t p millivolts : Nat) (s : State) : Host.Outcome State Fault Refusal := act1 s t (fun s => slotPgEffect s p millivolts)

/-- R511: PERST# of a port is released. -/
def perstReleaseEffect (s : State) (p : Nat) : State :=
  let g := gOfPort p
  let cs := s.channelsOf p
  let bound : Bool := s.isShared (s.portLowG g) || (s.wholeVdp g).isSome
  let ok : Bool := if (s.upstreamPart g).isSome then true
    else if (s.sharedOf (s.portLowG g)).mode = .resetting && s.isShared (s.portLowG g) then false
    else if cs.isEmpty then bound && s.bindDemand p && s.power.powerGood && s.after s.power.pgAt 100000000 && s.limbRuns (limbOf g)
    else cs.all (fun c => (s.slotChan c).state = 2 && s.after (s.slotChan c).pgAt 100000000) && s.limbRuns (limbOf g)
  if p < 144 && ok && (s.sideband p).perst then (s.perst p false).modHPort p (fun h => if h.up then h else { h with detectAt := s.now })
  else s

/-- PERST_RELEASE -/
def execPerstRelease (t p : Nat) (s : State) : Host.Outcome State Fault Refusal := act1 s t (fun s => perstReleaseEffect s p)

/-! ### Start of partitions (R515) -/

/-- R515: a partition held by start-up becomes ACTIVE: fabric memory ready or absent, and its upstream link in L0. -/
def partStartActiveEffect (s : State) (p : Nat) : State :=
  let x := s.part p
  let up : Bool := match s.upTwig p with
    | some u => (s.hport (s.hportOfG u)).up
    | none => true
  if s.partUsed p && x.state = .held && x.cause = 0 && (s.mem.mode = 2 || s.mem.mode = 3) && up then
    (s.modPart p (fun x => { x with state := .active, causeOn := false })).noteAt 0xBC1 p 0
  else s

/-- PART_START_ACTIVE -/
def execPartStartActive (t part : Nat) (s : State) : Host.Outcome State Fault Refusal := act1 s t (fun s => partStartActiveEffect s part)

/-! ### Temperature (R547) -/

/-- R547: a die sensor reads 105 °C. -/
def thermHighEffect (s : State) (die : Nat) : State :=
  let s := s.modPower (fun x => { x with hotDies := insertNew x.hotDies die })
  (s.governFull).noteAt 0xC1D die 1

/-- THERM_HIGH -/
def execThermHigh (t die : Nat) (s : State) : Host.Outcome State Fault Refusal := act2 s t (fun s => thermHighEffect s die)

/-- R547: a die sensor reads 120 °C: F3, and every limb is gated. -/
def thermTripEffect (s : State) (die : Nat) : State :=
  let s := s.modPower (fun x => { x with hotDies := insertNew x.hotDies die, thermTripped := true })
  let s := s.note { Ev.plain 0xC1E die 3 with level := 4, unit := some .crown, action := 7 }
  s.each (List.range 8) State.gateLimb

/-- THERM_TRIP -/
def execThermTrip (t die : Nat) (s : State) : Host.Outcome State Fault Refusal := act2 s t (fun s => thermTripEffect s die)

/-- THERM_COOL: every sensor is below 100 °C (R547). -/
def execThermCool (t : Nat) (s : State) : Host.Outcome State Fault Refusal :=
  act1 s t (fun s => s.modPower (fun x => { x with hotDies := [], thermTripped := false }))

/-! ### References and RESET_N (R541, R542) -/

/-- R541: a stem's trunk reference is lost: its four trunks take it as link loss. -/
def reftLostEffect (s : State) (d : Nat) : State :=
  if d < 4 && s.power.reft.getD d false then
    let s := s.modPower (fun x => { x with reft := x.reft.set d false })
    let s := s.noteAt 0xC1F d 2
    s.each ((List.range 4).map (4 * d + ·)) (fun s q => s.trunkRetrain q false)
  else s

/-- REFT_LOST -/
def execReftLost (t stem : Nat) (s : State) : Host.Outcome State Fault Refusal := act2 s t (fun s => reftLostEffect s stem)

/-- R541: the reference has been good for 1 ms. -/
def reftRestoredEffect (s : State) (d : Nat) : State :=
  if d < 4 then
    let s := s.modPower (fun x => { x with reft := x.reft.set d true })
    s.each ((List.range 4).map (4 * d + ·)) (fun s q => s.modTrunk q (fun k =>
      if k.tstate = .detect || (k.tstate = .disabled && s.get (Key.TP_ENABLE + q) = 1 && s.limbRuns (limbOfTrunk q) && !s.twigOffline (gOfTrunk q)) then
        { k with tstate := .detect, train := { k.train with since := s.now } }
      else k))
  else s

/-- REFT_RESTORED -/
def execReftRestored (t stem : Nat) (s : State) : Host.Outcome State Fault Refusal := act1 s t (fun s => reftRestoredEffect s stem)

/-- R541: REF25 is lost in operation: F3; the time unit, the management port and the I3C buses stop. -/
def ref25LostEffect (s : State) : State :=
  if s.power.ref25 then
    let s := s.modPower (fun x => { x with ref25 := false })
    if s.power.standby then
      (s.modTime (fun u => { u with running := false })).note
        { Ev.plain 0xC20 (Config.eventCode 0xC20) 3 with level := 4, unit := some .crown, action := 7 }
    else s
  else s

/-- REF25_LOST -/
def execRef25Lost (t : Nat) (s : State) : Host.Outcome State Fault Refusal := act2 s t ref25LostEffect

/-- R541: REF25 has been good for 1 ms: a standby domain that waited for it starts. -/
def ref25GoodEffect (s : State) : State :=
  let s := s.modPower (fun x => { x with ref25 := true })
  if s.power.standby then s.modTime (fun u => { u with running := true })
  else if s.power.powerGood then (s.modPower (fun x => { x with standby := true, standbyAt := s.now })).modJournal (fun j => { j with startSince := s.now })
  else s

/-- REF25_GOOD -/
def execRef25Good (t : Nat) (s : State) : Host.Outcome State Fault Refusal := act1 s t ref25GoodEffect

/-- R542: RESET_N asserted for 1 µs: a warm reset, but not while the F4 latch holds or after input loss. Before the standby domain is up
it holds the start back, until its release samples the contacts of R462. -/
def resetNAssertEffect (s : State) : State :=
  if s.faults.crown = .f4Latched || s.power.inputLost || s.faults.debugInstr = .extest then s
  else if !s.power.standby then s.modPower (fun x => { x with resetPin := true })
  else (s.modPower (fun x => { x with resetPin := true })).warmReset 3

/-- RESET_N_ASSERT -/
def execResetNAssert (t : Nat) (s : State) : Host.Outcome State Fault Refusal := act1 s t resetNAssertEffect

/-- R462, R542: RESET_N is released: TEST_STRAP and the slew contacts are sampled; the 5 s of R487 begin. -/
def resetNReleaseEffect (s : State) (strap slew0 slew1 : Bool) : State :=
  if s.power.resetPin then
    ((s.modPower (fun x => { x with resetPin := false })).modSec (fun x => { x with strap := strap, slew := slew0.toNat + 2 * slew1.toNat })).modJournal
      (fun j => { j with startSince := s.now })
  else s

/-- RESET_N_RELEASE -/
def execResetNRelease (t : Nat) (strap slew0 slew1 : Bool) (s : State) : Host.Outcome State Fault Refusal :=
  act1 s t (fun s => resetNReleaseEffect s strap slew0 slew1)

end Sys2Proof.Machine
end

