-- ==== Sys2Proof/Machine/Partitions.lean ====
section
/-! DEFINITION. Partitions: configuration requests, resets, slots, vectors, forwarded events, bindings and shared devices
(R198 to R243). -/

namespace Sys2Proof.Machine

/-! ### Module functions stop (R363, R364) -/

/-- R363: Bus Master Enable of a function is cleared. -/
def State.masterOff (s : State) (p f : Nat) : State :=
  (s.modFn p f (fun x => x.stop (s.now + s.cplTimeout p) (s.takenContribs p f))).deadWaiters p f

/-- R364: a function-level reset of a module function. PF0 keeps its VFs (DEDUCED, log entry 57). -/
def State.fnReset (s : State) (p f : Nat) : State :=
  let s := s.masterOff p f
  let keep := fun (x : Function) => if f = 0 then x.fields.filter (fun e => e.1 = .vfEnable || e.1 = .numVfs) else []
  let s := s.modFn p f (fun x => { x.resetTo with fields := keep x, flrRunning := true })
  if f = 0 then s.modPart p (fun x => { x with evq := Part.reset.evq }) else s

/-- R220: pending vectors of a function that are unmasked send one message each. -/
def State.sendPending (s : State) (p f : Nat) : State :=
  let fn := (s.part p).fn f
  if fn.msixEnable && fn.busMaster then
    let go := fn.pendingVecs.filter (· ∈ fn.unmasked)
    (s.emitAll (go.map (fun v => Output.msix p f v))).modFn p f (fun x => { x with
      pendingVecs := x.pendingVecs.filter (· ∉ go) })
  else s

/-- R220: MSI-X Enable of a function is set; on PF0 deliveries to the partition resume. -/
def State.msixOn (s : State) (p f : Nat) : State :=
  let s := s.modFn p f (fun x => { x with msixEnable := true })
  let s := if f = 0 then s.modPart p (fun x => { x with discardEvents := false }) else s
  s.sendPending p f

/-! ### Slots and links of a VDP -/

/-- R224, R230: a slice's Data Link Layer Link Active: its functions exist, it is neither withdrawn nor being reset. -/
def Bridge.sliceUp (b : Bridge) : Bool :=
  b.present && !b.powerOff && !b.linkDisable && !b.sbr && !b.flrRunning && !b.quarantined

/-- The slot shows Link Active as it now is. -/
def State.sliceLink (s : State) (p v : Nat) : State :=
  let b := (s.part p).vdp v
  if b.linkActive = b.sliceUp then s
  else (s.modVdp p v (fun x => { x with linkActive := b.sliceUp })).slotEvent p v 4

/-- Function-level resets of a slice's functions (R223). -/
def State.sliceFlr (s : State) (b : Binding) : State :=
  s.emitAll ((List.range (b.fnCount + 1)).map (fun f => Output.flr b.twig (b.fnFirst + f)))

/-- R215: partition-manager signalling to the crown that holds a VDP's twig. -/
def State.toHolder (s : State) (p v : Nat) (what : String) (args : List Nat) : State :=
  s.emit (.signal (s.bind p v).crown (s.groveId p) what (v :: args))

/-- R223, R224: Secondary Bus Reset on a VDP (DEDUCED, log entry 57). -/
def State.vdpSbr (s : State) (p v : Nat) (on : Bool) : State :=
  let b := s.bind p v
  let s := s.modVdp p v (fun x => { x with sbr := on })
  if v = 0xFF then (if on then s.each ((List.range 25).filter (s.part p).fnExists) (fun s f => s.fnReset p f) else s)
  else if b.kind = 0 then s
  else if b.crown ≠ s.crownId then s.toHolder p v "secondary bus reset" [on.toNat]
  else if b.kind = 2 then
    if on then ((s.sliceFlr b).modVdp p v (fun x => { x with flrRunning := true })).sliceLink p v else s.sliceLink p v
  else
    let h := portOfG b.twig
    if on then ((s.hpDown h 1 2).modHPort h (fun x => { x with lstate := .hotReset })).emit (.link h "hot reset" 0)
    else s.modHPort h (fun x => if x.lstate = .hotReset then { x with lstate := .detect, detectAt := s.now } else x)

/-- R207, R230, R392: Power Controller Control of a VDP's slot. -/
def State.slotPower (s : State) (p v : Nat) (on : Bool) : State :=
  let b := s.bind p v
  let lift : Bool := !on && ((s.part p).vdp v).quarantined
  let s := s.modVdp p v (fun x => { x with powerOff := !on })
  if b.kind = 0 || v = 0xFF then s
  else if b.crown ≠ s.crownId then s.toHolder p v "power" [on.toNat]
  else if b.kind = 2 then
    let s := if lift then
        (((s.sliceFlr b).modVdp p v (fun x => { x with quarantined := false, present := true, flrRunning := true })).slotEvent p v 0).sliceLifted p b.twig
      else s
    (s.sliceLink p v).sharedCheck b.twig
  else
    let s := s.slotUpdate (portOfG b.twig)
    if !on && (s.sideband (portOfG b.twig)).perst && (s.hport (portOfG b.twig)).up then s.hpDown (portOfG b.twig) 6 2 else s

/-- R230, R98: Link Disable of a VDP. -/
def State.linkOff (s : State) (p v : Nat) (on : Bool) : State :=
  let b := s.bind p v
  let s := s.modVdp p v (fun x => { x with linkDisable := on })
  if b.kind = 0 || v = 0xFF then s
  else if b.crown ≠ s.crownId then s.toHolder p v "link disable" [on.toNat]
  else if b.kind = 2 then (s.sliceLink p v).sharedCheck b.twig
  else
    let h := portOfG b.twig
    if on then s.hpDown h 2 2
    else s.modHPort h (fun x => if x.lstate = .disabled then { x with lstate := .detect, detectAt := s.now } else x)

/-- An indicator of a slot: 1 on, 2 blinking, else off, as the specification's Slot Control codes it. -/
def State.indicator (s : State) (p v val : Nat) (power : Bool) : State :=
  let b := s.bind p v
  if b.kind ≠ 1 then s
  else if b.crown ≠ s.crownId then s.toHolder p v "indicator" [power.toNat, val]
  else
    let h := portOfG b.twig
    let on : Bool := val = 1 || val = 2
    let s := s.modSideband h (fun x => if power then { x with powerOn := on, powerBlink := decide (val = 2) }
      else { x with attnOn := on, attnBlink := decide (val = 2) })
    s.driveOut h (if power then 3 else 2) on

/-! ### Configuration requests (R74, R203 to R205, R210, R255, R300, R337, R378) -/

/-- The specification's completion status codes. -/
def cplCode : CplStatus → Nat
  | .successful => 0
  | .unsupported => 1
  | .retry => 2
  | .aborted => 4

/-- The answer to a configuration request of a partition's host. -/
def State.cfgAnswer (s : State) (p reqId tag : Nat) (st : CplStatus) (v : Nat) : State :=
  s.emit (.answer "configuration" [p, reqId, tag, cplCode st, v])

/-- R203: a VDP bridge is present: bound, or function 0 of a device of which some VDP is bound (DEDUCED, log entry 34). -/
def State.vdpPresent (s : State) (p n : Nat) : Bool :=
  let bound := fun v => v == 0xFF || (s.bind p v).kind ≠ 0
  n < 256 && (bound n || (n % 8 == 0 && (List.range 8).any (fun k => bound (n + k))))

/-- A number for a field, by which `Config.configSpace` and the signals to other crowns tell fields apart. -/
def CfgField.number : CfgField → Nat
  | .other o => o
  | .targetLinkSpeed => 0x10001
  | .aspmControl => 0x10002
  | .l1pmControl => 0x10003
  | .secondaryBus => 0x10004
  | .subordinateBus => 0x10005
  | _ => 0x10000

/-- The physical port whose rate and width a bridge reports (R74). -/
def State.cfgPort (s : State) (p : Nat) (v : Option Nat) : Option Nat :=
  match v with
  | none => (s.upTwig p).map (fun g => portOfG (s.portLowG g))
  | some n => if (s.bind p n).kind ≠ 0 && (s.bind p n).crown = s.crownId then some (portOfG (s.bind p n).twig) else none

/-- Link Status of a bridge: speed, width and Data Link Layer Link Active, as the specification places them. -/
def State.linkStatus (s : State) (p : Nat) (v : Option Nat) : Nat :=
  let b := (s.part p).bridge v
  match s.cfgPort p v with
  | some h => (s.hport h).rate + (s.hport h).width * 16 + b.linkActive.toNat * 0x2000
  | none => b.farRate + b.farWidth * 16 + b.linkActive.toNat * 0x2000

/-- R69, R70, R205: the capability structures of a virtual port: on the upstream port those of a link, on a VDP also DPC and the slot. -/
def bridgeHas (vdp : Bool) : Capability → Bool
  | .express | .aer | .acs | .ari | .multicast | .l1Substates | .margining => true
  | .dpc | .slot => vdp
  | _ => false

/-- R69, R70: those of a module function: PF0 has SR-IOV, DOE and IDE. -/
def fnHas (f : Nat) : Capability → Bool
  | .express | .powerManagement | .msix => true
  | .sriov | .doe | .ide => f == 0
  | _ => false

/-- R72: the rates that a port's link advertises, bit r − 1 for code r. -/
def State.advertised (s : State) (p : Nat) (v : Option Nat) : Nat :=
  match s.cfgPort p v with
  | some h => 2 ^ (if (s.hport h).up then (s.hport h).ceiling else s.get (Key.HP_RATE_CEILING + h)) - 1
  | none => 0

/-- R91: a port with L1.2 enabled advertises an L1 exit latency of 32 to 64 µs, code 0b110 of the specification (PRESUMED, log entry 18). -/
def State.l1Exit (s : State) (p : Nat) (v : Option Nat) : Nat :=
  let free := Config.configSpace p (match v with | none => 0x100 | some n => n) 0x20000
  match s.cfgPort p v with
  | some h => if bitOf (s.get (Key.HP_POWER_CTL + h)) 2 then 6 else free
  | none => free

/-- A field that only a VDP has: those of its slot and of DPC. -/
def slotField : CfgField → Bool
  | .slotStatus | .dpcStatus | .attentionIndicator | .powerIndicator => true
  | _ => false

/-- A read of a bridge's field; MRL Sensor State of Slot Status is the latch input (PRESUMED, log entry 172). -/
def State.bridgeRead (s : State) (p : Nat) (v : Option Nat) (f : CfgField) : Nat :=
  let b := (s.part p).bridge v
  if v.isNone && slotField f then 0
  else match f with
  | .headerType => 1
  | .capability c => (bridgeHas v.isSome c).toNat
  | .supportedSpeeds => s.advertised p v
  | .l1ExitLatency => s.l1Exit p v
  | .tPowerOn => 40
  | .slotStatus => b.fld f % 0x20 + b.latch.toNat * 0x20 + b.present.toNat * 0x40 + b.fld f / 0x100 * 0x100
  | .linkStatus => s.linkStatus p v
  | .other o => (assocGet b.fields f).getD (Config.configSpace p (match v with | none => 0x100 | some n => n) o)
  | f => b.fld f

/-- R254, R255: the size of a function's BAR that a field holds, 0 for a disabled one. -/
def State.barOf (s : State) (p f : Nat) (fld : CfgField) : Option Nat :=
  if fld = .barAddr then some (barSize f)
  else if f = 0 && fld = fabricBarField then some (if (s.part p).fabricBar = 0 then 0 else 2 ^ (s.part p).fabricBar)
  else none

/-- A read of a module function's field (R254, R255, R337): BARs with their type bits, device ID and class code. -/
def State.fnRead (s : State) (p f : Nat) (fld : CfgField) : Nat :=
  let x := (s.part p).fn f
  match s.barOf p f fld with
  | some 0 => 0
  | some _ => x.fld fld + (if fld = .barAddr then 4 else 12)
  | none =>
    match fld with
    | .busMaster => x.busMaster.toNat
    | .headerType => 0
    | .capability c => (fnHas f c).toNat
    | .msixControl => x.msixEnable.toNat * 0x8000 + (if f = 0 then 2047 else if f ≤ 16 then 15 else 63)
    | .other 2 => if f = 0 then 0x9160 else if f ≤ 16 then 0x9161 else 0x9162
    | .other 9 => if f ≤ 16 then 0x088000 else 0x028000
    | .other o => (assocGet x.fields fld).getD (Config.configSpace p (0x200 + f) o)
    | fld => x.fld fld

/-- Storing a field of a bridge (DESIGN CHOICE, log entry 19). -/
def State.bridgeStore (s : State) (p : Nat) (v : Option Nat) (f : CfgField) (x : Nat) : State :=
  s.modBridge p v (fun b => { b with fields := assocPut b.fields f x })

/-- A write of a bridge's field: status bits clear by ones; a slice ignores the fields that R74 names; indicators drive the
board. -/
def State.bridgeWrite (s : State) (p : Nat) (v : Option Nat) (f : CfgField) (x : Nat) : State :=
  let old := ((s.part p).bridge v).fld f
  if v.isNone && slotField f then s
  else match f with
  | .headerType | .capability _ | .supportedSpeeds | .l1ExitLatency | .tPowerOn => s
  | .slotStatus | .aerStatus | .dpcStatus => s.bridgeStore p v f (old - (old &&& x))
  | .linkStatus | .headerLog => s
  | .targetLinkSpeed | .aspmControl | .l1pmControl =>
    (match v with
      | some n =>
        let b := s.bind p n
        if b.kind = 2 && f ≠ .l1pmControl then s
        else
          let s := s.bridgeStore p v f x
          if b.kind = 1 && b.crown ≠ s.crownId then s.toHolder p n "register" [CfgField.number f, x] else s
      | none => s.bridgeStore p v f x)
  | .secondaryBus | .subordinateBus =>
    -- R212, R391: the crown that holds the twig translates and checks IDs by these
    let s := s.bridgeStore p v f x
    (match v with
      | some n => if (s.bind p n).kind ≠ 0 && (s.bind p n).crown ≠ s.crownId then s.toHolder p n "register" [CfgField.number f, x] else s
      | none => s)
  | .attentionIndicator => (match v with | some n => (s.bridgeStore p v f x).indicator p n x false | none => s)
  | .powerIndicator => (match v with | some n => (s.bridgeStore p v f x).indicator p n x true | none => s)
  | f => s.bridgeStore p v f x

/-- A write of a module function's field (R255, R337, R338, R363) (DESIGN CHOICE, log entry 19). -/
def State.fnWrite (s : State) (p f : Nat) (fld : CfgField) (x : Nat) : State :=
  let put : State → Nat → State := fun s v => s.modFn p f (fun h => { h with fields := assocPut h.fields fld v })
  match s.barOf p f fld with
  | some 0 => s
  | some n => put s (x / n * n)
  | none =>
    match fld with
    | .busMaster =>
      if x % 2 = 0 then (if ((s.part p).fn f).busMaster then s.masterOff p f else s)
      else (s.modFn p f (fun h => { h with busMaster := true })).sendPending p f
    | .msixControl =>
      if bitOf x 15 then (if ((s.part p).fn f).msixEnable then s else s.msixOn p f)
      else s.modFn p f (fun h => { h with msixEnable := false })
    | .numVfs => if f = 0 && ((s.part p).fn 0).fld .vfEnable = 0 && x ≤ (s.part p).vfMax then put s x else s
    | .vfEnable =>
      if f ≠ 0 then s
      else
        let s := if x % 2 = 0 then s.each ((List.range 16).map (· + 1)) (fun s v => (s.masterOff p v).modFn p v Function.resetTo) else s
        put s (x % 2)
    | .aerStatus => put s (((s.part p).fn f).fld fld - (((s.part p).fn f).fld fld &&& x))
    | .other 2 | .other 9 | .linkStatus | .headerLog | .headerType | .capability _ => s
    | .powerState => put s (x % 4)
    | _ => put s x

/-- A configuration request forwarded to a device, with the requester's ID and tag, its register (`.other` of an offset) and its data (R210,
R212, R214). -/
def State.cfgDevice (s : State) (p n fn : Nat) (fld : CfgField) (val : Option Nat) (reqId tag : Nat) : State :=
  match s.upTwig p with
  | none => s
  | some u =>
    let i : Ingress := { src := s.portLowG u, part := p, rclass := .host, reqId := reqId, entry := some none, key := none, trunk := none,
                         srcCrown := s.crownId, gpart := s.groveId p, track := 0, flow := 0, hops := 0 }
    let x : Tlp := { kind := .config, tc := 0, addr := CfgField.number fld * 65536 + ((s.part p).vdp n).fld .secondaryBus % 256 * 256 + fn % 256,
                     lenBytes := 4, hdrLen := 16, reqId := reqId, tag := tag,
                     data := (match val with | some v => leBytes 4 v | none => []), ro := false, ido := false, ns := false, poisoned := false, specOk := true }
    s.withCredits i.src x (fun s =>
      let r := s.toVdp i Carrier.zero x n x.addr
      r.1.submit i.src (some 0) (r.1.dress i x r.2))

/-- R205, R337: a configuration request reaches a module function: it exists, and with ARI Forwarding of VDP 0xFF off its ARI function number
is below 8 (PRESUMED, log entry 174). -/
def State.fnReached (s : State) (p f : Nat) : Bool :=
  (s.part p).fnExists f && (ariOf f < 8 || ((s.part p).vdp 0xFF).fld .ariForwarding = 1)

/-- R210, R300, R378: one configuration request from the host of a home partition. -/
def configRequestEffect (s : State) (p reqId tag : Nat) (target : CfgTarget) (fld : CfgField) (val : Option Nat) : State :=
  if 64 ≤ p || !s.isHome p then s
  else if (s.part p).state = .resetting || (s.part p).state = .held then s.cfgAnswer p reqId tag .aborted 0
  else match target with
    | .device n fn =>
      if (s.part p).state = .contained then s.cfgAnswer p reqId tag .aborted 0
      else if n = 0xFF || (s.bind p n).kind = 0 || (8 ≤ fn && ((s.part p).vdp n).fld .ariForwarding = 0) then
        s.cfgAnswer p reqId tag .unsupported 0
      else s.cfgDevice p n fn fld val reqId tag
    | local_ =>
      if !s.fabric.bridge.isEmpty then (s.countHeart 0x385 1).cfgAnswer p reqId tag .retry 0
      else match local_, val with
        | .upstream, none => s.cfgAnswer p reqId tag .successful (s.bridgeRead p none fld)
        | .upstream, some x => (s.bridgeWrite p none fld x).cfgAnswer p reqId tag .successful 0
        | .vdp n, none => if s.vdpPresent p n then s.cfgAnswer p reqId tag .successful (s.bridgeRead p (some n) fld) else s.cfgAnswer p reqId tag .unsupported 0
        | .vdp n, some x =>
          if s.vdpPresent p n then (s.bridgeWrite p (some n) fld x).cfgAnswer p reqId tag .successful 0 else s.cfgAnswer p reqId tag .unsupported 0
        | .function f, none =>
          if s.fnReached p f then s.cfgAnswer p reqId tag .successful (s.fnRead p f fld) else s.cfgAnswer p reqId tag .unsupported 0
        | .function f, some x =>
          if s.fnReached p f then (s.fnWrite p f fld x).cfgAnswer p reqId tag .successful 0 else s.cfgAnswer p reqId tag .unsupported 0
        | .device _ _, _ => s

/-- CONFIG_REQUEST -/
def execConfigRequest (t part reqId tag : Nat) (target : CfgTarget) (fld : CfgField) (val : Option Nat) (s : State) :
    Host.Outcome State Fault Refusal :=
  act2 s t (fun s => configRequestEffect s part reqId tag target fld val)

/-! ### Resets (R223 to R228) -/

/-- R223, R227: Secondary Bus Reset on the upstream bridge or on a VDP; absorbed while the partition resets. -/
def secondaryBusResetEffect (s : State) (p : Nat) (v : Option Nat) (on : Bool) : State :=
  if 64 ≤ p || !s.isHome p || (s.part p).state = .resetting || (s.part p).state = .held then s
  else match v with
    | some n => if s.vdpPresent p n then s.vdpSbr p n on else s
    | none =>
      let s := s.modBridge p none (fun b => { b with sbr := on })
      s.each ((List.range 256).filter (fun n => n == 0xFF || (s.bind p n).kind ≠ 0)) (fun s n => s.vdpSbr p n on)

/-- SECONDARY_BUS_RESET -/
def execSecondaryBusReset (t part : Nat) (vdp : Option Nat) (set : Bool) (s : State) : Host.Outcome State Fault Refusal :=
  act2 s t (fun s => secondaryBusResetEffect s part vdp set)

/-- R223, R98: a hot reset on the virtual upstream port's link, or its link-down, resets the partition. A hot reset takes the
link out of L0 as a requested reset. -/
def hotResetReceivedEffect (s : State) (p : Nat) (linkDown : Bool) : State :=
  match s.upTwig p with
  | some u =>
    if 64 ≤ p then s
    else if linkDown then s.partReset p 2
    else
      let h := portOfG (s.portLowG u)
      (s.partReset p 1).hpDown h 1 1
  | none => s

/-- HOT_RESET_RECEIVED -/
def execHotResetReceived (t part : Nat) (linkDown : Bool) (s : State) : Host.Outcome State Fault Refusal :=
  act2 s t (fun s => hotResetReceivedEffect s part linkDown)

/-- R226: the steps of R225 are complete: HELD while the cause persists, else ACTIVE. -/
def partResetStepsDoneEffect (s : State) (p : Nat) : State :=
  if p < 64 && (s.part p).state = .resetting then
    if (s.part p).causeOn then s.modPart p (fun x => { x with state := .held })
    else (s.modPart p (fun x => { x with state := .active })).noteAt 0xBC1 p 0
  else s

/-- PART_RESET_STEPS_DONE -/
def execPartResetStepsDone (t part : Nat) (s : State) : Host.Outcome State Fault Refusal :=
  act1 s t (fun s => partResetStepsDoneEffect s part)

/-- R226, R287: the cause of a partition's reset ends; a fence on its home crown keeps it. -/
def partResetCauseEndEffect (s : State) (p : Nat) : State :=
  let fenced : Bool := match s.homeCrown p with
    | some c => c ≠ s.crownId && s.fenced c
    | none => false
  if p < 64 && !fenced then s.partCauseEnd p else s

/-- PART_RESET_CAUSE_END -/
def execPartResetCauseEnd (t part : Nat) (s : State) : Host.Outcome State Fault Refusal :=
  act1 s t (fun s => partResetCauseEndEffect s part)

/-- R300: partition-manager signalling that meets a held bridge read is told to come again later. -/
def State.signalled (s : State) (sender gpart : Nat) (f : State → State) : State :=
  if s.fabric.bridge.isEmpty then f s else (s.countHeart 0x385 1).emit (.signal sender gpart "retry later" [])

/-- R226: a reset notice from the home crown of a grove partition. -/
def resetNoticeEffect (s : State) (home gpart : Nat) : State :=
  s.signalled home gpart (fun s =>
    match s.partOfGp gpart with
    | some p => if home ≠ s.crownId && s.homeCrown p = some home then s.partReset p 4 else s
    | none => s)

/-- RESET_NOTICE -/
def execResetNotice (t home gpart : Nat) (s : State) : Host.Outcome State Fault Refusal :=
  act2 s t (fun s => resetNoticeEffect s home gpart)

/-! ### Slot and link controls -/

/-- A slot control reaches the bridges of a home partition that serves its host. -/
def State.serves (s : State) (p v : Nat) : Bool :=
  p < 64 && s.isHome p && v < 256 && s.vdpPresent p v && (s.part p).state ≠ .resetting && (s.part p).state ≠ .held

/-- POWER_CONTROLLER_CONTROL -/
def execPowerControllerControl (t part vdp : Nat) (on : Bool) (s : State) : Host.Outcome State Fault Refusal :=
  act2 s t (fun s => if s.serves part vdp then s.slotPower part vdp on else s)

/-- LINK_DISABLE -/
def execLinkDisable (t part vdp : Nat) (set : Bool) (s : State) : Host.Outcome State Fault Refusal :=
  act2 s t (fun s => if s.serves part vdp then s.linkOff part vdp set else s)

/-- R224: the function-level resets of a slice have completed. -/
def sliceFlrDoneEffect (s : State) (p v : Nat) : State :=
  if p < 64 && ((s.part p).vdp v).flrRunning then (s.modVdp p v (fun b => { b with flrRunning := false })).sliceLink p v else s

/-- SLICE_FLR_DONE -/
def execSliceFlrDone (t part vdp : Nat) (s : State) : Host.Outcome State Fault Refusal :=
  act1 s t (fun s => sliceFlrDoneEffect s part vdp)

/-! ### Vectors and events (R216 to R222) -/

/-- MSIX_ENABLE: PF0's MSI-X Enable is set. -/
def execMsixEnable (t part : Nat) (s : State) : Host.Outcome State Fault Refusal :=
  act1 s t (fun s => if part < 64 && s.isHome part && !((s.part part).fn 0).msixEnable then s.msixOn part 0 else s)

/-- R220: a vector of PF0 is unmasked. -/
def State.unmask (s : State) (p f vec : Nat) : State :=
  (s.modFn p f (fun x => { x with unmasked := insertNew x.unmasked vec })).sendPending p f

/-- VECTOR_UNMASK -/
def execVectorUnmask (t part vec : Nat) (s : State) : Host.Outcome State Fault Refusal :=
  act1 s t (fun s => if part < 64 && s.isHome part && vec < 2048 then s.unmask part 0 vec else s)

/-- R215, R220: an event of a member partition reaches its home crown; error reports of remote devices come the same way. -/
def forwardedEventEffect (s : State) (gpart vec source code cls ft : Nat) : State :=
  match s.partOfGp gpart with
  | some p =>
    if !s.isHome p then s
    else if s.fabric.bridge.isEmpty then s.deliverHome p vec source code cls ft
    else (s.countHeart 0x385 1).emit (.answer "retry later" [gpart])
  | none => s

/-- FORWARDED_EVENT -/
def execForwardedEvent (t gpart vec source code cls ft : Nat) (s : State) : Host.Outcome State Fault Refusal :=
  act1 s t (fun s => forwardedEventEffect s gpart vec source code cls ft)

/-- R222: who may raise a software event. -/
def State.maySoft (s : State) (who : Role) (src : Nat) : Bool :=
  0xC40 ≤ src && src ≤ 0xFFF && (who.isInstaller || (match who.operatorOf with
    | some p => let m := s.get (Key.EVENT_MAP + src); bitOf m 31 && field m 29 24 == p
    | none => false))

/-- EVENT_SOFT -/
def execEventSoft (t : Nat) (who : Role) (source : Nat) (s : State) : Host.Outcome State Fault Refusal :=
  act1 s t (fun s => if s.maySoft who source then s.noteFree source 0 else s)

/-! ### Bindings to twigs of other crowns (R214, R215) -/

/-- The slot of a VDP shows presence and Link Active as given. -/
def State.showSlot (s : State) (p v : Nat) (present link : Bool) : State :=
  let b := (s.part p).vdp v
  let s := s.modVdp p v (fun x => { x with present := present, linkActive := link })
  let s := if b.present = present then s else s.slotEvent p v 0
  if b.linkActive = link then s else s.slotEvent p v 4

/-- R214: the copies of a binding are compared on the crown that holds its twig, and on its home crown, which shows the slot as empty
while they differ. `mine` is the crown's own copy (DEDUCED, log entry 113). -/
def State.compareBinding (s : State) (p v : Nat) : State :=
  let mine := s.get (Key.VDP_BIND + 256 * p + v)
  match ((s.part p).vdp v).farCopy with
  | none => s
  | some far =>
    let same : Bool := far = mine
    let holder : Bool := (Binding.ofNat mine).crown = s.crownId && (Binding.ofNat mine).kind ≠ 0 ||
      (Binding.ofNat far).crown = s.crownId && (Binding.ofNat far).kind ≠ 0
    let s := s.modVdp p v (fun b => { b with live := same })
    if s.isHome p then (if same then s else s.showSlot p v false false)
    else if !holder then s
    else if same then s.slotEvent p v 0
    else s.noteAt 0xBC2 p 1

/-- R214: a copy of a binding arrives from the other crown that has it. -/
def bindingCopyEffect (s : State) (sender gpart vdp value : Nat) : State :=
  s.signalled sender gpart (fun s =>
    match s.partOfGp gpart with
    | some p =>
      let mine := s.bind p vdp
      let expected : Bool := if s.isHome p then mine.crown = sender else s.homeCrown p = some sender
      if expected && vdp < 255 && sender ≠ s.crownId then
        (s.modVdp p vdp (fun b => { b with farCopy := some value })).compareBinding p vdp
      else s
    | none => s)

/-- BINDING_COPY -/
def execBindingCopy (t sender gpart vdp value : Nat) (s : State) : Host.Outcome State Fault Refusal :=
  act2 s t (fun s => bindingCopyEffect s sender gpart vdp value)

/-- R33, R99: the slot of a VDP on another crown's twig shows a new state; a whole twig's link that goes down sets DPC. -/
def State.showRemote (s : State) (p v : Nat) (present link latch : Bool) (rate width event : Nat) : State :=
  let was := ((s.part p).vdp v).linkActive
  let s := s.modVdp p v (fun b => { b with latch := latch, farRate := rate, farWidth := width })
  let s := if event = 1 || event = 2 || event = 3 then s.slotEvent p v event else s
  if was && !link && (s.bind p v).kind = 1 then (s.vdpLinkDown p v).showSlot p v present false else s.showSlot p v present link

/-- R207, R223, R230: a control of the home crown on a VDP whose twig this crown holds. -/
def State.slotControl (s : State) (p v : Nat) : SlotMsg → State
  | .power on => if ((s.part p).vdp v).powerOff = !on then s else s.slotPower p v on
  | .linkDisable on => s.linkOff p v on
  | .busReset on => s.vdpSbr p v on
  | .indicator power val => s.indicator p v val power
  | .register f val => s.bridgeStore p (some v) f val
  | .retrain => retrainLinkEffect s p (some v)
  | .state _ _ _ _ _ _ _ => s

/-- R74, R207, R215: remote slot state at the home crown, or a control at the crown that holds the twig. -/
def remoteSlotStateEffect (s : State) (sender gpart vdp : Nat) (m : SlotMsg) : State :=
  s.signalled sender gpart (fun s =>
    match s.partOfGp gpart with
    | some p =>
      let b := s.bind p vdp
      if b.kind = 0 then s
      else if s.isHome p then
        match m with
        | .state present link _ latch rate width event =>
          if b.crown = sender && sender ≠ s.crownId && ((s.part p).vdp vdp).live then s.showRemote p vdp present link latch rate width event else s
        | _ => s
      else if s.homeCrown p = some sender && b.crown = s.crownId then s.slotControl p vdp m
      else s
    | none => s)

/-- REMOTE_SLOT_STATE -/
def execRemoteSlotState (t sender gpart vdp : Nat) (m : SlotMsg) (s : State) : Host.Outcome State Fault Refusal :=
  act2 s t (fun s => remoteSlotStateEffect s sender gpart vdp m)

/-! ### Shared devices (R229 to R232) -/

/-- R229: the installer, or the operator of a partition that holds a slice, asks for the deferred reset. -/
def sharedResetRequestEffect (s : State) (who : Role) (g : Nat) : State :=
  if 160 ≤ g then s
  else match who with
    | .installer _ => s.sharedRequest g 1
    | .operator p => if p ∈ s.holdersOf g then s.sharedRequest g 2 else s
    | _ => s

/-- SHARED_RESET_REQUEST -/
def execSharedResetRequest (t : Nat) (who : Role) (g : Nat) (s : State) : Host.Outcome State Fault Refusal :=
  act2 s t (fun s => sharedResetRequestEffect s who g)

/-- R231: the installer forces the reset: holders that have not released see a surprise removal. -/
def State.sharedForce (s : State) (g : Nat) : State :=
  if (s.sharedOf g).mode = .idle || (s.sharedOf g).mode = .pending then
    let s := s.modShared g (fun x => { x with cause := 4 })
    let s := s.each ((s.slicesOf g).filter (fun b => !s.released b)) (fun s b => s.sliceDown b.1 b.2.1)
    s.sharedStart g
  else s

/-- SHARED_RESET_FORCE -/
def execSharedResetForce (t : Nat) (who : Role) (g : Nat) (s : State) : Host.Outcome State Fault Refusal :=
  act2 s t (fun s => if who.isInstaller && g < 160 then s.sharedForce g else s)

/-- R232: PERST# has been asserted for 1 ms; the link retrains from Detect. -/
def sharedPerstEndEffect (s : State) (g : Nat) : State :=
  if g < 160 && (s.sharedOf g).mode = .resetting && (s.sideband (portOfG g)).perst && s.after (s.sharedOf g).since 1000000 then
    (s.perst (portOfG g) false).modHPort (portOfG g) (fun h => { h with lstate := .detect, detectAt := s.now })
  else s

/-- SHARED_PERST_END -/
def execSharedPerstEnd (t g : Nat) (s : State) : Host.Outcome State Fault Refusal :=
  act1 s t (fun s => sharedPerstEndEffect s g)

/-- R211, R232: the device is enumerated and its virtual functions enabled: presence sets in every holder's slot. -/
def sharedEnumDoneEffect (s : State) (g rid stride : Nat) : State :=
  if g < 160 && (s.sharedOf g).mode = .enumerating && !s.ideFailed g then
    let s := s.modShared g (fun x => { x with mode := .idle, rid := rid, stride := stride })
    let s := s.each (s.slicesOf g) (fun s b =>
      ((s.modVdp b.1 b.2.1 (fun x => { x with present := true })).slotEvent b.1 b.2.1 0).sliceLink b.1 b.2.1)
    if (s.sharedOf g).cause = 0 then s else s.noteAt 0xBC4 g 0
  else s

/-- SHARED_ENUM_DONE -/
def execSharedEnumDone (t g rid stride : Nat) (s : State) : Host.Outcome State Fault Refusal :=
  act1 s t (fun s => sharedEnumDoneEffect s g rid stride)

/-- R232: the link has not reached L0 within 1 s: every slice slot stays empty. -/
def sharedResetFailEffect (s : State) (g : Nat) : State :=
  if g < 160 && (s.sharedOf g).mode = .resetting && !(s.hport (portOfG g)).up && s.after (s.sharedOf g).since 1000000000 then
    (s.modShared g (fun x => { x with mode := .idle })).noteAt 0xBC5 g 2
  else s

/-- SHARED_RESET_FAIL -/
def execSharedResetFail (t g : Nat) (s : State) : Host.Outcome State Fault Refusal :=
  act2 s t (fun s => sharedResetFailEffect s g)

end Sys2Proof.Machine
end

