-- ==== Sys2Proof/Machine/Fabric.lean ====
section
/-! DEFINITION. Routing across trunks and what meets it: rebalances, unreachable crowns, fences, tracking and proxy tags,
far-failure notices, locked sequences, the management bridge and the slot sideband signals (R277 to R307). -/

namespace Sys2Proof.Machine

/-! ### Rebalances (R282) -/

/-- The trunks that carry flows whose home member is `q`. -/
def State.interimOf (s : State) (q : Nat) : List Nat :=
  (s.fabric.interim.filter (fun e => s.homeMember e.1 e.2.1 == some q)).foldl (fun l e => insertNew l e.2.2) []

/-- Step 1: no first transmission starts on `r` any more. -/
def State.pauseFor (s : State) (r q : Nat) : State :=
  if s.fabric.rebalances.any (fun b => b.interim == r && b.home == q) || !s.trunkUp r then s
  else (s.modFabric (fun f => { f with rebalances := f.rebalances ++ [{ interim := r, home := q, since := s.now }] })).modTx r
    (fun x => { x with paused := true })

/-- R282: trunk `q` has been in L0 for ROUTE_SETTLE. -/
def rebalanceStartEffect (s : State) (q : Nat) : State :=
  let settle := s.get Key.ROUTE_SETTLE
  if q < 16 && s.trunkUp q && settle ≠ 0 && s.after (assocGetD s.fabric.settleAt q 0) (settle * 1000000) then
    s.each (s.interimOf q) (fun s r => s.pauseFor r q)
  else s

/-- REBALANCE_START -/
def execRebalanceStart (t q : Nat) (s : State) : Host.Outcome State Fault Refusal :=
  act1 s t (fun s => rebalanceStartEffect s q)

/-- R282, R304: the installer asks for the rebalance of one destination, or of all. -/
def routeRebalanceEffect (s : State) (dest : Nat) : State :=
  let mine := s.fabric.interim.filter (fun e => dest = 0xFFFF || e.1 = dest % 1024)
  s.each mine (fun s e =>
    match s.homeMember e.1 e.2.1 with
    | some q => if s.trunkUp q then s.pauseFor e.2.2 q else s
    | none => s)

/-- ROUTE_REBALANCE -/
def execRouteRebalance (t : Nat) (who : Role) (dest : Nat) (s : State) : Host.Outcome State Fault Refusal :=
  act1 s t (fun s => if who.isInstaller then routeRebalanceEffect s dest else s)

/-- Step 2: everything on `r` is acknowledged and its far receive pool is empty. -/
def State.drained (s : State) (r : Nat) : Bool :=
  let x := (s.trunk r).tx
  x.buf.isEmpty && (List.range 8).all (fun c => (x.farRsv.getD c 0 - x.usedRsv.getD c 0).toNat == 64) &&
    (x.farShared - x.usedShared).toNat == 3584

/-- `r` resumes: its rebalances are over. -/
def State.resumeTrunk (s : State) (r : Nat) : State :=
  (s.modFabric (fun f => { f with rebalances := f.rebalances.filter (·.interim ≠ r) })).modTx r (fun x => { x with paused := false })

/-- Step 3: the flows move back to their home, with what waits of them. -/
def State.moveHome (s : State) (r q : Nat) : State :=
  let goes : Nat → Nat → Bool := fun dest flow => s.homeMember dest flow == some q
  let s := s.modFabric (fun f => { f with interim := f.interim.filter (fun e => !(e.2.2 == r && goes e.1 e.2.1)) })
  s.modCore (fun c => { c with queues := c.queues.map (fun d =>
    if d.egress = gOfTrunk r && d.mcast.isNone && d.sentFus = 0 && goes d.destCrown d.flow then { d with egress := gOfTrunk q } else d) })

def rebalanceCompleteEffect (s : State) (r : Nat) : State :=
  let mine := s.fabric.rebalances.filter (·.interim == r)
  if !mine.isEmpty && s.drained r then
    (s.each (mine.filter (fun b => s.trunkUp b.home)) (fun s b => s.moveHome r b.home)).resumeTrunk r
  else s

/-- REBALANCE_COMPLETE -/
def execRebalanceComplete (t r : Nat) (s : State) : Host.Outcome State Fault Refusal :=
  act1 s t (fun s => rebalanceCompleteEffect s r)

/-- R282: step 2 was not met within 100 µs: the flows stay, another try follows after ROUTE_SETTLE (DESIGN CHOICE, log entry 90). -/
def rebalanceAbandonedEffect (s : State) (r : Nat) : State :=
  let mine := s.fabric.rebalances.filter (·.interim == r)
  if mine.any (fun b => s.after b.since 100000) && !s.drained r then
    let s := s.modFabric (fun f => { f with settleAt := mine.foldl (fun l b => assocPut l b.home s.now) f.settleAt })
    (s.resumeTrunk r).noteAt 0xC05 r 0
  else s

/-- REBALANCE_ABANDONED -/
def execRebalanceAbandoned (t r : Nat) (s : State) : Host.Outcome State Fault Refusal :=
  act1 s t (fun s => rebalanceAbandonedEffect s r)

/-! ### Unreachable crowns and fences (R284 to R287, R304) -/

/-- A trunk has been out of L0 for 1 s (DEDUCED, log entry 92). -/
def State.trunkLost (s : State) (q : Nat) : Bool := !s.trunkUp q && s.after (s.trunk q).tx.lostAt 1000000000

/-- R284: no member of the destination has been in L0 for 1 s (DEDUCED, log entry 92). -/
def routeUnreachableEffect (s : State) (dest : Nat) : State :=
  let m := s.membersFor dest
  if dest < 1024 && dest ≠ s.crownId && !m.isEmpty && m.all s.trunkLost then s.giveUp dest else s

/-- ROUTE_UNREACHABLE -/
def execRouteUnreachable (t dest : Nat) (s : State) : Host.Outcome State Fault Refusal :=
  act2 s t (fun s => routeUnreachableEffect s dest)

/-- The trunks whose far end is a crown. -/
def State.trunksTo (s : State) (x : Nat) : List Nat :=
  (List.range 16).filter (fun q => match (s.trunk q).peer with | some (c, _) => c == x | none => false)

/-- R285, R286: every trunk to a crown has been out of L0 for 1 s: the crown is fenced, and a notice says so. -/
def fenceByTrunkLossEffect (s : State) (crown : Nat) : State :=
  let mine := s.trunksTo crown
  if crown < 1024 && crown ≠ s.crownId && !mine.isEmpty && mine.all s.trunkLost && (s.membersFor crown).all (fun q => !s.trunkUp q) &&
      (crown, FenceCode.trunkLoss) ∉ s.fabric.fences then
    (s.fenceOn crown .trunkLoss).fenceNotice crown true
  else s

/-- FENCE_BY_TRUNK_LOSS -/
def execFenceByTrunkLoss (t crown : Nat) (s : State) : Host.Outcome State Fault Refusal :=
  act2 s t (fun s => fenceByTrunkLossEffect s crown)

/-- R286: a notice on trunk `q`: the first copy is acted on and forwarded; one that is not newer is ignored. -/
def fenceNoticeEffect (s : State) (q : Nat) (n : FenceMsg) : State :=
  let newer : Bool := match assocGet s.fabric.fenceSeen (n.crown, n.issuer) with
    | some k => newer16 n.number k
    | none => true
  if n.issuer = s.crownId || !newer then s
  else
    let s := s.modFabric (fun f => { f with fenceSeen := assocPut f.fenceSeen (n.crown, n.issuer) n.number })
    let s := s.sendControl (fun r => r ≠ q) (.fence n)
    if n.crown = s.crownId then (if n.set then s.modFabric (fun f => { f with ownFenced := true }) else s)
    else if n.set then s.fenceOn n.crown .notice else s.fenceOff n.crown .notice

/-- FENCE_NOTICE -/
def execFenceNotice (t q : Nat) (n : FenceMsg) (s : State) : Host.Outcome State Fault Refusal :=
  act2 s t (fun s => fenceNoticeEffect s q n)

/-- FENCE_FORCE_SET -/
def execFenceForceSet (t : Nat) (who : Role) (crown : Nat) (s : State) : Host.Outcome State Fault Refusal :=
  act2 s t (fun s => if who.isInstaller && crown < 1024 && crown ≠ s.crownId then s.fenceOn crown .installer else s)

/-- FENCE_FORCE_CLEAR -/
def execFenceForceClear (t : Nat) (who : Role) (crown : Nat) (s : State) : Host.Outcome State Fault Refusal :=
  act1 s t (fun s => if who.isInstaller && crown < 1024 then s.fenceOff crown .installer else s)

/-! ### Tracking and proxy tags (R289 to R291) -/

/-- NP_TIMEOUT of a partition, in ns. -/
def State.npTimeout (s : State) (p : Nat) : Nat := s.getDef (Key.NP_TIMEOUT + p) 200 * 100000

/-- R291: a tracked request has had no whole completion within NP_TIMEOUT of its first transmission. -/
def npTimeoutExpiredEffect (s : State) (n : Nat) : State :=
  match s.fabric.tracks.find? (·.index == n) with
  | some k =>
    if k.quarantined.isSome || k.sent = 0 || !s.after k.sent (s.npTimeout k.part) then s
    else
      let s := s.endTrack k .aborted
      let s := s.modFabric (fun f => { f with tracks := f.tracks.map (fun e =>
        if e.index = n then { e with quarantined := some s.now } else e) })
      let s := s.logEntry { desc := k.descBits, header := k.header, ft := s.stampFt, source := 0xC01, cause := 0, histSeq := none,
                            inj := false }
      (s.countHeart 0x381 1).noteAt 0xC01 k.part 0
  | none => s

/-- NP_TIMEOUT_EXPIRED -/
def execNpTimeoutExpired (t track : Nat) (s : State) : Host.Outcome State Fault Refusal :=
  act1 s t (fun s => npTimeoutExpiredEffect s track)

/-- R291: a quarantined entry is free after a further 2 × NP_TIMEOUT. -/
def trackQuarantineEndEffect (s : State) (n : Nat) : State :=
  match s.fabric.tracks.find? (·.index == n) with
  | some k =>
    (match k.quarantined with
      | some at_ => if s.after at_ (2 * s.npTimeout k.part) then
          s.modFabric (fun f => { f with tracks := f.tracks.filter (·.index ≠ n) }) else s
      | none => s)
  | none => s

/-- TRACK_QUARANTINE_END -/
def execTrackQuarantineEnd (t track : Nat) (s : State) : Host.Outcome State Fault Refusal :=
  act1 s t (fun s => trackQuarantineEndEffect s track)

/-- R290: no completion for a proxy tag of port `p` within 2 s: the tag returns, and what still comes for it is unexpected. -/
def proxyTagTimeoutEffect (s : State) (p tag : Nat) : State :=
  let g := gOfPort p
  let mine : Proxy → Bool := fun k => k.port == g && k.tag == tag && s.after k.at_ 2000000000
  if s.fabric.proxies.any mine then
    s.modFabric (fun f => { f with proxies := f.proxies.filter (fun k => !mine k), lateReads := f.lateReads ++ [(Config.proxyId g, tag)] })
  else s

/-- PROXY_TAG_TIMEOUT -/
def execProxyTagTimeout (t p tag : Nat) (s : State) : Host.Outcome State Fault Refusal :=
  act1 s t (fun s => proxyTagTimeoutEffect s p tag)

/-! ### Far-failure notices (R293, R294) -/

/-- R293: the notice for a crown and partition leaves, with what was folded into it; one for a fenced crown is discarded. -/
def farFailureSendEffect (s : State) (crown gpart : Nat) : State :=
  match s.fabric.farPending.find? (fun p => p.crown == crown && p.note.gpart == gpart) with
  | some k =>
    let s := s.modFabric (fun f => { f with farPending := f.farPending.filter (fun p => !(p.crown == crown && p.note.gpart == gpart)) })
    if s.fenced crown then s
    else match s.routeUp crown 0 with
      | some q => (s.modTx q (fun x => { x with ctl := x.ctl ++ [.farFailure crown k.note] })).countBough (boughOf (gOfTrunk q)) 0x30C 1
      | none => s
  | none => s

/-- FAR_FAILURE_SEND -/
def execFarFailureSend (t crown gpart : Nat) (s : State) : Host.Outcome State Fault Refusal :=
  act1 s t (fun s => farFailureSendEffect s crown gpart)

/-- R294: a notice reaches the originating crown. -/
def farFailureNoticeEffect (s : State) (q : Nat) (n : FarMsg) : State :=
  let s := s.countBough (boughOf (gOfTrunk q)) 0x30D 1
  match s.partOfGp n.gpart, rclassOf n.rclass with
  | some p, some r => s.farFailureHere p r n.vdp n.header
  | _, _ => s

/-- FAR_FAILURE_NOTICE -/
def execFarFailureNotice (t q : Nat) (n : FarMsg) (s : State) : Host.Outcome State Fault Refusal :=
  act1 s t (fun s => farFailureNoticeEffect s q n)

/-! ### Locked sequences (R295 to R298) -/

/-- LOCK_TIMEOUT: a lock has been held for 10 ms from the first locked read's admission. -/
def execLockTimeout (t b : Nat) (s : State) : Host.Outcome State Fault Refusal :=
  act1 s t (fun s => if s.fabric.locks.any (fun k => k.bough == b && s.after k.since 10000000) then s.breakLock b else s)

/-- R297: the Unlock of a partition's host: on the home crown it ends the sequence and, for a twig of another crown, follows it;
on the crown that holds the twig it releases the twig. -/
def unlockEffect (s : State) (p : Nat) : State :=
  match s.upTwig p with
  | some u =>
    let i : Ingress := { src := s.portLowG u, part := p, rclass := .host, reqId := 0, entry := some none, key := none, trunk := none,
                         srcCrown := s.crownId, gpart := s.groveId p, track := 0, flow := 0, hops := 0 }
    let x : Tlp := { kind := .unlock, tc := 0, addr := 0, lenBytes := 0, hdrLen := 16, reqId := 0, tag := 0, data := [], ro := false,
                     ido := false, ns := false, poisoned := false, specOk := true }
    s.withCredits i.src x (fun s =>
      let r := s.unlockPart i x
      r.1.submit i.src (some 0) (r.1.dress i x r.2))
  | none =>
    if s.fabric.locks.any (·.part == p) then s.modFabric (fun f => { f with locks := f.locks.filter (·.part ≠ p) })
    else s.countDrop 160 3

/-- UNLOCK -/
def execUnlock (t part : Nat) (s : State) : Host.Outcome State Fault Refusal :=
  act1 s t (fun s => if part < 64 then unlockEffect s part else s)

/-! ### The management bridge (R299, R300) -/

/-- R268: an access is split at every 4 KiB: the starts and lengths of its parts. -/
def split4K (addr : Nat) : Nat → Nat → List (Nat × Nat)
  | _, 0 => []
  | 0, n + 1 => [(addr, n + 1)]
  | k + 1, n + 1 =>
    let first := min (n + 1) (4096 - addr % 4096)
    (addr, first) :: split4K (addr + first) k (n + 1 - first)

/-- The parts of an access of `n` bytes. -/
def parts4K (addr n : Nat) : List (Nat × Nat) := split4K addr (n / 4096 + 1) n

/-- The ingress of a core's request: class FW, or FWUSER with the partition that the firmware acts for. -/
def State.coreIngress (s : State) (core : Nat) (part : Option Nat) : Ingress :=
  { src := srcCore core, part := part.getD noPart, rclass := if part.isSome then .fwuser else .fw, reqId := 0, entry := none,
    key := part.map .part,
    trunk := none, srcCrown := s.crownId, gpart := (part.map s.groveId).getD 0xFFFF, track := 0, flow := 0, hops := 0 }

/-- One part of a bridge access at its target (DESIGN CHOICE, log entry 192). -/
def State.coreAccess (s : State) (core : Nat) (part : Option Nat) (target : BridgeTarget) (kind : TlpKind) (tag addr len : Nat)
    (data : List Byte) : State :=
  let i := s.coreIngress core part
  let x : Tlp := { kind := kind, tc := 0, addr := addr, lenBytes := len, hdrLen := 16, reqId := 0, tag := tag, data := data, ro := false,
                   ido := false, ns := false, poisoned := false, specOk := true }
  let r := match target with
    | .gate gate => if gate < 144 then s.toPort i Carrier.zero x (gOfPort gate) addr true else s.toHeart i Carrier.zero x gate addr
    | .part => if part.isSome then s.decodeTo i Carrier.zero x else (s.refuseNp i x .unsupported, [])
    | .grove crown tkind select =>
      s.deliverTo i Carrier.zero x (if crown = s.crownId then s.resolve tkind addr select
        else .remote crown tkind select (crown * 2 ^ 46 + addr % 2 ^ 46))
  r.1.submit i.src (some 0) (r.1.dress i x r.2)

/-- The requests of parts of a bridge read go out. -/
def State.bridgeGo (s : State) (b : BridgeRead) (parts : List BridgePart) : State :=
  s.each parts (fun s k => s.coreAccess b.core b.part b.target .memRead k.tag k.addr k.len [])

/-- The parts of an access of a core, each with a tag of its own. -/
def bridgeParts (core addr len : Nat) : List BridgePart :=
  (parts4K addr len).zipIdx.map (fun e => { tag := core + 8 * e.2, addr := e.1.1, len := e.1.2, retryAt := none })

/-- R299: a core issues a read; it has at most one outstanding. -/
def bridgeReadEffect (s : State) (core : Nat) (part : Option Nat) (target : BridgeTarget) (addr len : Nat) : State :=
  if 8 ≤ core || s.fabric.bridge.any (·.core == core) then s
  else
    let parts := bridgeParts core addr len
    let b : BridgeRead := { core := core, since := s.now, part := part, target := target, parts := parts }
    let s := s.countHeart 0x383 1
    if parts.isEmpty then s else (s.modFabric (fun f => { f with bridge := f.bridge ++ [b] })).bridgeGo b parts

/-- BRIDGE_READ -/
def execBridgeRead (t core : Nat) (part : Option Nat) (target : BridgeTarget) (addr len : Nat) (s : State) :
    Host.Outcome State Fault Refusal :=
  act2 s t (fun s => bridgeReadEffect s core part target addr len)

/-- R299: a posted write; complete for the core at once. -/
def bridgeWriteEffect (s : State) (core : Nat) (part : Option Nat) (target : BridgeTarget) (addr : Nat) (data : List Byte) : State :=
  if 8 ≤ core then s
  else s.each (bridgeParts core addr data.length) (fun s k =>
    s.coreAccess core part target .memWrite k.tag k.addr k.len ((data.drop (k.addr - addr)).take k.len))

/-- BRIDGE_WRITE -/
def execBridgeWrite (t core : Nat) (part : Option Nat) (target : BridgeTarget) (addr : Nat) (data : List Byte) (s : State) :
    Host.Outcome State Fault Refusal :=
  act2 s t (fun s => bridgeWriteEffect s core part target addr data)

/-- R299: no completion within 50 ms: a bus error to the core. What still comes is discarded as unexpected. -/
def bridgeReadTimeoutEffect (s : State) (core : Nat) : State :=
  match s.fabric.bridge.find? (·.core == core) with
  | some b =>
    if !s.after b.since 50000000 then s
    else
      let src := srcCore core
      let late := (s.core.outstanding.filter (·.src == src)).map (fun r => (r.reqId, r.tag))
      let s := s.modCore (fun c => { c with outstanding := c.outstanding.filter (fun r => r.src ≠ src) })
      let s := s.modFabric (fun f => { f with
        lateReads := f.lateReads ++ late,
        tracks := f.tracks.map (fun k => if k.src = src && k.quarantined.isNone then { k with quarantined := some s.now } else k),
        bridge := f.bridge.filter (·.core ≠ core) })
      ((s.countHeart 0x384 1).emit (.answer "bus error" [core])).noteAt 0xC08 core 0
  | none => s

/-- BRIDGE_READ_TIMEOUT -/
def execBridgeReadTimeout (t core : Nat) (s : State) : Host.Outcome State Fault Refusal :=
  act1 s t (fun s => bridgeReadTimeoutEffect s core)

/-- R300: what had a retry-later response is sent again after a random delay of 1 µs to 16 µs; its 50 ms keep running. -/
def bridgeReadRetryEffect (s : State) (core : Nat) : State :=
  match s.fabric.bridge.find? (·.core == core) with
  | some b =>
    let due : BridgePart → Bool := fun k => match k.retryAt with
      | some at_ => s.after at_ 1000
      | none => false
    let again := b.parts.filter due
    let s := s.modFabric (fun f => { f with bridge := f.bridge.map (fun e =>
      if e.core = core then { e with parts := e.parts.map (fun k => if due k then { k with retryAt := none } else k) } else e) })
    s.bridgeGo b again
  | none => s

/-- BRIDGE_READ_RETRY -/
def execBridgeReadRetry (t core : Nat) (s : State) : Host.Outcome State Fault Refusal :=
  act2 s t (fun s => bridgeReadRetryEffect s core)

/-! ### Slot sideband signals (R301 to R303) -/

/-- R90, R91: from L1 the link enters L1.1 or L1.2: the module, too, lets go of CLKREQ#. -/
def State.enterSubstate (s : State) (p : Nat) (l12 : Bool) : State :=
  let s := s.modHPort p (fun h => { h with lstate := if l12 then .l12 else .l11 })
  let s := (s.modSideband p (fun b => { b with clkreq := false })).driveOut p 1 false
  if l12 then s.countTwig (gOfPort p) 0x10B 1 else s

/-- R302: what an accepted change of signal `k` of a port brings. -/
def State.sidebandEvent (s : State) (p k : Nat) (on : Bool) : State :=
  let g := gOfPort p
  let holder := s.wholeVdp g
  let toSlot : State → Nat → State := fun s kind => match holder with
    | some (x, v) => s.slotEvent x v kind
    | none => s
  match k with
  | 0 =>
    let s := match holder with
      | some (x, v) => s.modVdp x v (fun b => { b with present := on })
      | none => s
    let s := toSlot s 0
    if !on && (s.hport p).up then s.hpDown p 3 2 else s
  | 1 => if on then toSlot s 1 else s
  | 2 => toSlot (match holder with
      | some (x, v) => s.modVdp x v (fun b => { b with latch := on })
      | none => s) 2
  | 3 => if on then (toSlot s 3).slotSidebandFault p else s
  | 4 => if on then (match holder with | some (x, _) => s.emit (.pme x) | none => s) else s
  | _ => if on then l1PartnerExitEffect s p
    else if (s.hport p).lstate = .l1 && (s.powerEnabled p 1 || s.powerEnabled p 2) then s.enterSubstate p (s.powerEnabled p 2)
    else s

/-- R302: the levels that a poll's answer makes accepted: presence, button and latch need two polls. -/
def acceptLevels (b : Sideband) (now : List Bool) : List Bool :=
  (List.range 6).map (fun k =>
    let new := now.getD k false
    if k < 3 then (if new = b.seen.getD k false then new else b.levels.getD k false) else new)

/-- The expander of a port's inputs: bus and address. -/
def State.expander (s : State) (p : Nat) : Nat := field (s.get (Key.SIDEBAND_IN + p)) 30 23

/-- One port's poll (DEDUCED, log entry 49) (DEDUCED, log entry 91). -/
def State.pollPort (s : State) (a : PortPoll) : State :=
  let p := a.port
  if 144 ≤ p || !bitOf (s.get (Key.SIDEBAND_IN + p)) 31 then s
  else match (if s.faults.debugInstr = .extest then none else a.levels) with
    | none =>
      let s := (s.countHeart 0x387 1).modSideband p (fun b => { b with misses := b.misses + 1 })
      if 3 ≤ (s.sideband p).misses && !(s.sideband p).lost then
        let known : Bool := (List.range 144).any (fun r => (s.sideband r).lost && s.expander r == s.expander p)
        let s := s.modSideband p (fun b => { b with lost := true })
        if known then s else s.noteAt 0xC09 p 2
      else s
    | some now =>
      let b := s.sideband p
      let acc := acceptLevels b now
      let s := s.modSideband p (fun x => { x with levels := acc, seen := now, misses := 0, lost := false })
      s.each ((List.range 6).filter (fun k => acc.getD k false ≠ b.levels.getD k false)) (fun s k => s.sidebandEvent p k (acc.getD k false))

/-- R301, R541: one poll of the expanders; none while the 25 MHz reference is lost. -/
def sidebandPollEffect (s : State) (answers : List PortPoll) : State :=
  if s.power.ref25 then (s.countHeart 0x386 1).each answers State.pollPort else s

/-- SIDEBAND_POLL -/
def execSidebandPoll (t : Nat) (answers : List PortPoll) (s : State) : Host.Outcome State Fault Refusal :=
  act2 s t (fun s => sidebandPollEffect s answers)

/-- R301: a blinking indicator toggles. -/
def indicatorBlinkEffect (s : State) (p : Nat) (power : Bool) : State :=
  let b := s.sideband p
  if 144 ≤ p then s
  else if power then
    if b.powerBlink then (s.modSideband p (fun x => { x with powerOn := !x.powerOn })).driveOut p 3 (!b.powerOn) else s
  else if b.attnBlink then (s.modSideband p (fun x => { x with attnOn := !x.attnOn })).driveOut p 2 (!b.attnOn) else s

/-- INDICATOR_BLINK -/
def execIndicatorBlink (t p : Nat) (power : Bool) (s : State) : Host.Outcome State Fault Refusal :=
  act1 s t (fun s => indicatorBlinkEffect s p power)

end Sys2Proof.Machine
end

