-- ==== Sys2Proof/Machine/Elements.lean ====
section
/-! DEFINITION. The elements of reductions: formats (R347) and the step of R348. Sums are computed exactly and rounded once,
to nearest with ties to even. -/

namespace Sys2Proof.Machine

/-- R347: a format: bytes, exponent bits (0 for integers), mantissa bits. -/
structure Fmt where
  bytes : Nat
  ebits : Nat
  mbits : Nat
  deriving DecidableEq, Repr

/-- The codes of R347. -/
def fmtOf : Nat → Option Fmt
  | 0x0 => some ⟨1, 0, 0⟩
  | 0x1 => some ⟨2, 0, 0⟩
  | 0x2 => some ⟨4, 0, 0⟩
  | 0x3 => some ⟨8, 0, 0⟩
  | 0x8 => some ⟨1, 4, 3⟩
  | 0x9 => some ⟨1, 5, 2⟩
  | 0xA => some ⟨2, 8, 7⟩
  | 0xB => some ⟨2, 5, 10⟩
  | 0xC => some ⟨4, 8, 23⟩
  | 0xD => some ⟨8, 11, 52⟩
  | _ => none

/-- The format has no infinity: E4M3. -/
def Fmt.noInf (f : Fmt) : Bool := f.ebits = 4
/-- The bits of an element. -/
def Fmt.bits (f : Fmt) : Nat := 8 * f.bytes
/-- The magnitude of infinity, or of E4M3's NaN. -/
def Fmt.top (f : Fmt) : Nat := if f.noInf then 0x7F else (2 ^ f.ebits - 1) * 2 ^ f.mbits
/-- The largest finite magnitude. -/
def Fmt.largest (f : Fmt) : Nat := f.top - 1
/-- The canonical NaN (R347). -/
def Fmt.nan (f : Fmt) : Nat := if f.noInf then 0x7F else (2 ^ f.ebits - 1) * 2 ^ f.mbits + 2 ^ (f.mbits - 1)

/-- Sign and magnitude of a bit pattern. -/
def Fmt.neg (f : Fmt) (v : Nat) : Bool := v / 2 ^ (f.bits - 1) % 2 = 1
def Fmt.mag (f : Fmt) (v : Nat) : Nat := v % 2 ^ (f.bits - 1)
def Fmt.isNan (f : Fmt) (v : Nat) : Bool := if f.noInf then f.mag v = 0x7F else f.top < f.mag v
def Fmt.isInf (f : Fmt) (v : Nat) : Bool := !f.noInf && f.mag v = f.top
def Fmt.withSign (f : Fmt) (neg : Bool) (mag : Nat) : Nat := (if neg then 2 ^ (f.bits - 1) else 0) + mag

/-- The value of a finite magnitude is `mantissa × 2^shift` units of the smallest subnormal. -/
def Fmt.mant (f : Fmt) (mag : Nat) : Nat := if mag / 2 ^ f.mbits = 0 then mag else mag % 2 ^ f.mbits + 2 ^ f.mbits
def Fmt.shift (f : Fmt) (mag : Nat) : Nat := mag / 2 ^ f.mbits - 1
/-- A finite element in units of the smallest subnormal. -/
def Fmt.units (f : Fmt) (v : Nat) : Int :=
  let m : Int := ((f.mant (f.mag v) * 2 ^ f.shift (f.mag v) : Nat) : Int)
  if f.neg v then -m else m

/-- Rounding a count of units to the nearest magnitude, ties to even; it may pass the largest finite one. -/
def Fmt.round (f : Fmt) (u : Nat) : Nat :=
  let n := Nat.log2 u
  if u < 2 ^ (f.mbits + 1) then u
  else
    let k := n - f.mbits
    let q := u / 2 ^ k
    let r := u % 2 ^ k
    let up : Bool := decide (2 ^ k < 2 * r) || (decide (2 * r = 2 ^ k) && q % 2 = 1)
    -- the magnitude's bits: exponent field k + 1, mantissa q without its leading one; a carry moves on by itself
    (k + 1) * 2 ^ f.mbits + (q - 2 ^ f.mbits) + up.toNat

/-- R348: the sum of two floating-point elements. -/
def Fmt.fsum (f : Fmt) (sat : Bool) (a b : Nat) : Nat :=
  if f.isNan a || f.isNan b then f.nan
  else if f.isInf a || f.isInf b then
    if f.isInf a && f.isInf b && f.neg a ≠ f.neg b then f.nan
    else if f.isInf a then a else b
  else
    let s := f.units a + f.units b
    if s = 0 then f.withSign (f.neg a && f.neg b) 0
    else
      let neg : Bool := decide (s < 0)
      let m := f.round s.natAbs
      if m ≤ f.largest then f.withSign neg m
      else if sat then f.withSign neg f.largest
      else if f.noInf then f.nan
      else f.withSign neg f.top

/-- The order of R348, in which −0 is less than +0. -/
def Fmt.key (f : Fmt) (v : Nat) : Int := if f.neg v then -((f.mag v : Nat) : Int) - 1 else ((f.mag v : Nat) : Int)

/-- Minimum and maximum of two floating-point elements. -/
def Fmt.fpick (f : Fmt) (max_ : Bool) (a b : Nat) : Nat :=
  if f.isNan a || f.isNan b then f.nan
  else if decide (f.key a ≤ f.key b) == !max_ then a else b

/-- Two's complement value of an integer element, and back. -/
def Fmt.int (f : Fmt) (v : Nat) : Int := if v < 2 ^ (f.bits - 1) then (v : Int) else (v : Int) - ((2 ^ f.bits : Nat) : Int)
def Fmt.ofInt (f : Fmt) (v : Int) : Nat := (v % ((2 ^ f.bits : Nat) : Int)).toNat

/-- R348: the sum of two integer elements. -/
def Fmt.isum (f : Fmt) (sat : Bool) (a b : Nat) : Nat :=
  let s := f.int a + f.int b
  let hi : Int := ((2 ^ (f.bits - 1) : Nat) : Int) - 1
  if sat then f.ofInt (max (-hi - 1) (min hi s)) else f.ofInt s

/-- R348: one step; REDOP codes of R341 (DEDUCED, log entry 17). -/
def Fmt.step (f : Fmt) (redop : Nat) (sat : Bool) (a b : Nat) : Nat :=
  let a := a % 2 ^ f.bits
  let b := b % 2 ^ f.bits
  match redop with
  | 0 => if f.ebits = 0 then f.isum sat a b else f.fsum sat a b
  | 1 => if f.ebits = 0 then (if f.int a ≤ f.int b then a else b) else f.fpick false a b
  | 2 => if f.ebits = 0 then (if f.int a ≤ f.int b then b else a) else f.fpick true a b
  | 3 => a &&& b
  | 4 => a ||| b
  | _ => a ^^^ b

/-- The value that bytes spell, byte 0 least significant. -/
def leNat (bs : List Byte) : Nat := bs.foldr (fun b n => b.toNat + 256 * n) 0

/-- Bytes cut into elements of `n` bytes; `fuel` bounds their number. -/
def elements (n : Nat) : Nat → List Byte → List Nat
  | 0, _ => []
  | _, [] => []
  | k + 1, bs => leNat (bs.take n) :: elements n k (bs.drop n)

/-- Folding two vectors of bytes element by element. -/
def Fmt.combine (f : Fmt) (redop : Nat) (sat : Bool) (a b : List Byte) : List Byte :=
  (List.zipWith (fun x y => (beBytes f.bytes (f.step redop sat x y)).reverse) (elements f.bytes a.length a)
    (elements f.bytes b.length b)).flatten

end Sys2Proof.Machine
end

