-- ==== Sys2Proof/Machine/Memory.lean ====
section
/-! DEFINITION. Fabric memory: lines, owners and epochs, ciphertext and CHECK (R312, R318), the accesses of R315 and R316, errors,
remapping, sweeps, refresh and the patrol scrubber (R308 to R336). State holds the plaintext of a line under its owner and derives what is
stored from it (DESIGN CHOICE, log entry 36). -/

namespace Sys2Proof.Machine

/-! ### Lines and where they lie (R309, R310, R329) -/

/-- The device and the line within it of a pool line. -/
def lineDevice (n : Nat) : Nat := n % 24
def lineIn (n : Nat) : Nat := n / 24
/-- The first spare line of a device (R309). -/
def firstSpare : Nat := 16252928
/-- The first tag line of a device, and the first line of its training patterns (R309). -/
def firstTagLine : Nat := 16268800
def firstPattern : Nat := 16777200
/-- The bytes of the pool (R308). -/
def poolBytes : Nat := 0x1740000000
/-- The physical line address of a pool line: on its device, or at the spare that took its place. -/
def State.plaOf (s : State) (n : Nat) : Nat :=
  lineDevice n * 2 ^ 24 + (match assocGet s.mem.remaps n with | some k => firstSpare + k | none => lineIn n)

/-- The owner that a module-owned line records. -/
def Owner.module : Owner := { gp := 0, epoch := 0 }
/-- The owner fields of a pool line. -/
def State.lineOwner (s : State) (n : Nat) : Owner := (sortedGet s.mem.owners n).getD Owner.module
/-- Setting them; a module-owned line is not listed. -/
def Memory.setOwner (m : Memory) (n : Nat) (o : Owner) : Memory :=
  { m with owners := if o = Owner.module then sortedErase m.owners n else sortedPut m.owners n o }

/-- The current key epoch of a grove partition (R332). -/
def State.epochOf (s : State) (gp : Nat) : BitVec 12 := assocGetD s.mem.epochs gp 1
def Memory.setEpoch (m : Memory) (gp : Nat) (e : BitVec 12) : Memory :=
  { m with epochs := if e = 1 then assocErase m.epochs gp else assocPut m.epochs gp e }

def State.channel (s : State) (d : Nat) : Channel := s.mem.channels.getD d Channel.reset
def State.modChannel (s : State) (d : Nat) (f : Channel → Channel) : State :=
  s.modMem (fun m => { m with channels := m.channels.modify d f })

/-- R334: an error enters the log of 16, newest first. -/
def State.memLog (s : State) (kind gp pla : Nat) : State :=
  s.modMem (fun m => { m with errors := ({ kind := kind, gp := gp, pla := pla } :: m.errors).take 16 })

/-! ### Ciphertext and CHECK (R311, R312, R318, R319) -/

/-- The pool line that a row of a device holds: a line on its device, or one that was remapped to this spare. -/
def State.poolLineAt (s : State) (pla : Nat) : Option Nat :=
  let d := pla / 2 ^ 24
  let l := pla % 2 ^ 24
  if 24 ≤ d then none
  else if l < firstSpare then some (24 * l + d)
  else (s.mem.remaps.find? (fun e => lineDevice e.1 == d && firstSpare + e.2 == l)).map (·.1)

/-- The owner recorded for a row; spare and reserved lines that no pool line uses are the module's. -/
def State.ownerAt (s : State) (pla : Nat) : Owner := ((s.poolLineAt pla).map s.lineOwner).getD Owner.module

/-- R319: the key pair under which an owner's lines stand: the module's, or that of a grove partition's epoch. -/
def State.lineKey (s : State) (o : Owner) : Nat :=
  if o = Owner.module then Config.memKey s.mem.keyDraw 4096 0 0
  else Config.memKey s.mem.keyDraw o.gp.toNat (assocGetD s.mem.keyWraps o.gp.toNat 0) o.epoch.toNat

/-- R318: the tweak of a row: the number of its pool line, else PLA + 2⁶³. -/
def State.tweakOf (s : State) (pla : Nat) : Nat := (s.poolLineAt pla).getD (pla + 2 ^ 63)

/-- R309, R323: the plaintext of a row of the reserved area that no pool line uses: the window table on devices 0 and 1, firmware's
scratch, else zeros. -/
def State.reservedPlain (s : State) (pla : Nat) : List Byte :=
  let d := pla / 2 ^ 24
  let l := pla % 2 ^ 24
  if 16261120 ≤ l && l < 16263168 && d < 2 then
    (List.range 16).flatMap (fun k =>
      let w := d * 0x8000 + 16 * (l - 16261120) + k
      Config.windowBytes (s.get (Key.WIN_MAP + w)) (s.get (Key.WIN_TARGET + w)))
  else if 16263168 ≤ l && l < firstTagLine then Config.scratchLine pla
  else List.replicate 256 0

/-- The plaintext of a row. -/
def State.rowPlain (s : State) (pla : Nat) : List Byte :=
  match s.poolLineAt pla with
  | some n => cellsGet s.mem.cells (256 * n) 256
  | none => s.reservedPlain pla

/-- R318: the 256 bytes of a row as stored. -/
def State.rowStored (s : State) (pla : Nat) : List Byte := Config.xtsCipher (s.lineKey (s.ownerAt pla)) (s.tweakOf pla) (s.rowPlain pla)

/-- R311: the owner fields of a side tag. -/
def Owner.bits (o : Owner) : BitVec 24 := o.gp ++ o.epoch

/-- R312: CHECK over the PLA, the owner fields and the line as stored. -/
def checkLine (pla : Nat) (own : BitVec 24) (stored : List Byte) : BitVec 40 :=
  (crc64 (beBytes 4 pla ++ beBytes 3 own.toNat ++ stored)).setWidth 40

/-- R311, R312: the CHECK and the side tag that stand stored for a row. -/
def State.rowCheck (s : State) (pla : Nat) : BitVec 40 := checkLine pla (s.ownerAt pla).bits (s.rowStored pla)
def State.sideTag (s : State) (pla : Nat) : BitVec 64 := s.rowCheck pla ++ (s.ownerAt pla).bits

/-- A line with some of its bits turned. -/
def flipBytes (bs : List Byte) (err : List (Nat × Byte)) : List Byte := err.foldl (fun b e => b.modify e.1 (· ^^^ e.2)) bs

/-- R312, R313: a read meant for a row passes: CHECK, computed over that row's PLA, the owner fields and the bytes that came, is the one
that came. Of an undisturbed line it is the stored one. -/
def State.passes (s : State) (pla : Nat) (g : LineGot) : Bool :=
  if (g.row.getD pla = pla) && g.err.isEmpty && g.own = 0 then g.chk = 0
  else
    let row := g.row.getD pla
    checkLine pla ((s.ownerAt row).bits ^^^ g.own) (flipBytes (s.rowStored row) g.err) = s.rowCheck row ^^^ g.chk

/-- The plaintext that a read meant for a row delivers: of undisturbed bytes the line's own, else what decryption makes of them. -/
def State.gotPlain (s : State) (pla : Nat) (g : LineGot) : List Byte :=
  let row := g.row.getD pla
  if row = pla && g.err.isEmpty then s.rowPlain pla
  else Config.xtsNoise (s.lineKey (s.ownerAt pla)) (s.tweakOf pla) (flipBytes (s.rowStored row) g.err)

/-! ### Owners of accesses (R314) -/

/-- The lowest partition set in a PARTS field. -/
def lowestPart (parts : Nat) : Option Nat := (List.range 64).find? (fun p => bitOf parts p)

/-- R314: the owner of an access through a pool region with these PARTS. -/
def State.ownerFor (s : State) (parts : Nat) : Owner :=
  match lowestPart parts with
  | some p => { gp := BitVec.ofNat 12 (s.groveId p), epoch := s.epochOf (s.groveId p % 4096) }
  | none => Owner.module

/-- What the pool's gate makes of an access: an owner, or the cause of its refusal. -/
inductive PoolGrant where
  | owner (o : Owner)
  | refused (cause : Nat)
  deriving DecidableEq, Repr

def State.poolGrant (s : State) (rc : RClass) (part addr : Nat) (rd wr : Bool) : PoolGrant :=
  match s.gateDecide 0x90 rc part addr rd wr with
  | .allow _ _ _ _ =>
    (match (s.regions 0x90).find? (·.holds addr) with
      | some r => .owner (s.ownerFor r.parts)
      | none => .refused 1)
  | .byDefault => .owner Owner.module
  | .fault c => .refused c
  | .debugRefused => .refused 2

/-- R322, R323: an access of this owner waits for a sweep (DESIGN CHOICE, log entry 93). -/
def State.poolWaits (s : State) (o : Owner) : Bool := s.mem.mode ≠ 2 || o.gp.toNat ∈ s.mem.sweeping && o ≠ Owner.module

/-! ### Errors (R327 to R331) -/

/-- R330: a channel has failed: a crown-fatal fault. -/
def State.channelFail (s : State) (d cls : Nat) : State :=
  (s.modChannel d (fun c => { c with state := 3 })).note
    { Ev.plain 0xC0F d cls with level := if cls = 3 then 4 else 6, unit := if cls = 3 then some .crown else none,
                                action := if cls = 3 then 7 else 0 }

/-- R327: retries of a channel transfer; a fourth failure in a row is the channel's. -/
def State.transfers (s : State) (n retries : Nat) : State :=
  let d := lineDevice n
  let s := s.each (List.range (min retries 3)) (fun s _ => (s.countHeart 0x394 1).noteAt 0xC0A d 1)
  if 3 < retries then ((s.memLog 4 (s.lineOwner n).gp.toNat (s.plaOf n)).channelFail d 3) else s

/-- R328, R329, R331: a confirmed failure: counted, logged, suspect. KIND 1 on an access, 5 by the scrubber. -/
def State.confirmed (s : State) (dev pla gp kind : Nat) : State :=
  let s := (s.countHeart 0x395 1).memLog kind gp pla
  let s := s.modChannel dev (fun c => { c with
    suspects := if pla ∈ c.suspects then c.suspects else (if 256 ≤ c.suspects.length then c.suspects.drop 1 else c.suspects) ++ [pla] })
  s.noteAt (if kind = 5 then 0xC0C else 0xC0B) dev 1

/-- R313, R395: a line is read and checked. Answers whether the failure is confirmed. An injected hit fails the first read
only. -/
def State.fetchLine (s : State) (n kind : Nat) (rd : LineRead) : State × Bool :=
  let s := s.transfers n rd.retries
  let miss := Config.tagMiss s.draws
  let s := if miss then s.drew.countHeart 0x398 1 else s.drew
  let s := (s.injectItem [6] 3 (lineDevice n)).1
  if s.passes (s.plaOf n) rd.first || s.passes (s.plaOf n) rd.second then (s, false)
  else (s.confirmed (lineDevice n) (s.plaOf n) (s.lineOwner n).gp.toNat kind, true)

/-! ### Accesses to one line (R315, R316, R328, R329) -/

/-- Bytes of a line at offset `a`: as they lie there, or, of a confirmed failure, as the second read brought them (R328). -/
def State.lineBytes (s : State) (bad : Bool) (a len : Nat) (rd : LineRead) : List Byte :=
  if bad then
    let bs := s.gotPlain (s.plaOf (a / 256)) rd.second
    (List.range len).map (fun k => bs.getD (a % 256 + k) 0)
  else cellsGet s.mem.cells a len

/-- R315, R328: `n` bytes at offset `a`, within one line. Answers the bytes and whether they are poisoned. -/
def State.readLine (s : State) (o : Owner) (a len : Nat) (rd : LineRead) : State × List Byte × Bool :=
  let n := a / 256
  let r := (s.countHeart 0x390 1).fetchLine n 1 rd
  if s.lineOwner n = o then (r.1, s.lineBytes r.2 a len rd, r.2)
  else if r.2 then (r.1, List.replicate len 0, true)
  else (r.1.countHeart 0x393 1, List.replicate len 0, false)

/-- R329: a suspect line has been written whole: its read-back passes, or the line moves to the next spare. -/
def State.readBack (s : State) (n : Nat) (ok : Bool) : State :=
  let d := lineDevice n
  let pla := s.plaOf n
  let gp := (s.lineOwner n).gp.toNat
  if pla ∉ (s.channel d).suspects then s
  else if ok then s.modChannel d (fun c => { c with suspects := eraseAll c.suspects pla })
  else
    let k := (s.channel d).spares
    if 8192 ≤ k then s.memLog 3 gp pla
    else
      let s := s.modMem (fun m => { m with remaps := assocPut m.remaps n k })
      let s := s.modChannel d (fun c => { c with spares := k + 1, suspects := eraseAll c.suspects pla })
      let s := ((s.countHeart 0x396 1).memLog 2 gp pla).noteAt 0xC0D d 1
      if k + 1 = 7373 then s.noteAt 0xC0E d 0 else s

/-- R316: a write of a whole line. -/
def State.writeLine (s : State) (o : Owner) (n : Nat) (data : List Byte) (retries : Nat) (readBackOk : Bool) : State :=
  let s := (s.transfers n retries).countHeart 0x391 1
  let s := s.modMem (fun m => { m with cells := cellsPut m.cells (256 * n) data }.setOwner n o)
  s.readBack n readBackOk

/-- Bytes of a line under an owner: kept where the owner was the same, else zeros around them. -/
def Memory.mergeBytes (m : Memory) (same : Bool) (o : Owner) (a : Nat) (data : List Byte) : Memory :=
  let n := a / 256
  let base := if same then m.cells else cellsClear m.cells (256 * n) 256
  { m with cells := cellsPut base a data }.setOwner n o

/-- R316, R328: a write of part of a line. Answers whether it was discarded for a confirmed failure. -/
def State.writePart (s : State) (o : Owner) (a : Nat) (data : List Byte) (rd : LineRead) : State × Bool :=
  let n := a / 256
  let r := (s.countHeart 0x392 1).fetchLine n 1 rd
  if r.2 then r else (r.1.modMem (fun m => m.mergeBytes (s.lineOwner n = o) o a data), false)

/-- The new value of an AtomicOp, if it writes one (R316). -/
def atomicNew (op : TlpKind) (size old operand compare : Nat) : Option Nat :=
  match op with
  | .fetchAdd => some ((old + operand) % 256 ^ size)
  | .swap => some (operand % 256 ^ size)
  | .cas => if old = compare % 256 ^ size then some (operand % 256 ^ size) else none
  | _ => none

/-- R316, R328: an AtomicOp on `size` bytes of a line. Answers the old value and whether it is poisoned. -/
def State.atomicLine (s : State) (o : Owner) (op : TlpKind) (a size operand compare : Nat) (rd : LineRead) :
    State × List Byte × Bool :=
  let n := a / 256
  let same : Bool := s.lineOwner n = o
  let r := (s.countHeart 0x392 1).fetchLine n 1 rd
  let oldBytes := if same then s.lineBytes r.2 a size rd else List.replicate size 0
  if r.2 then (r.1, oldBytes, true)
  else match atomicNew op size (leNat oldBytes) operand compare with
    | some v => (r.1.modMem (fun m => m.mergeBytes same o a (leBytes size v)), oldBytes, false)
    | none => (r.1, oldBytes, false)

/-! ### Accesses of any length: line by line -/

/-- The parts of an access within single lines. -/
def linePieces (a : Nat) : Nat → Nat → List (Nat × Nat)
  | _, 0 => []
  | 0, n + 1 => [(a, n + 1)]
  | k + 1, n + 1 =>
    let first := min (n + 1) (256 - a % 256)
    (a, first) :: linePieces (a + first) k (n + 1 - first)

def linesOf (a len : Nat) : List (Nat × Nat) := linePieces a (len / 256 + 1) len

/-- A line that comes as it is stored; a line read without a fault (DESIGN CHOICE, log entry 48). -/
def asStored : LineGot := { row := none, err := [], own := 0, chk := 0 }
def goodRead : LineRead := { retries := 0, first := asStored, second := asStored }

/-- A read; `rd` is what the first line meets. -/
def State.poolGet (s : State) (o : Owner) (a len : Nat) (rd : LineRead) : State × List Byte × Bool :=
  (linesOf a len).zipIdx.foldl (fun acc e =>
    let r := acc.1.readLine o e.1.1 e.1.2 (if e.2 = 0 then rd else goodRead)
    (r.1, acc.2.1 ++ r.2.1, acc.2.2 || r.2.2)) (s, [], false)

/-- A write; whole lines are written whole, the rest by read-modify-write. Answers whether some part was discarded. -/
def State.poolPut (s : State) (o : Owner) (a : Nat) (data : List Byte) (rd : LineRead) (readBackOk : Bool) : State × Bool :=
  (linesOf a data.length).zipIdx.foldl (fun acc e =>
    let bs := (data.drop (e.1.1 - a)).take e.1.2
    let rd := if e.2 = 0 then rd else goodRead
    if e.1.2 = 256 then (acc.1.writeLine o (e.1.1 / 256) bs rd.retries readBackOk, acc.2)
    else
      let r := acc.1.writePart o e.1.1 bs rd
      (r.1, acc.2 || r.2)) (s, false)

/-! ### The commands of the pool -/

/-- The ingress of a pool access that a heartwood requester makes (SRC of DESIGN CHOICE, log entry 35). -/
def State.poolIngress (s : State) (rc : RClass) (part : Nat) : Ingress :=
  { src := 0xF0, part := part, rclass := rc, reqId := 0, entry := none, key := if rc = .fw then none else some (.part part), trunk := none,
    srcCrown := s.crownId, gpart := s.groveId part, track := 0, flow := 0, hops := 0 }

/-- The TLP that stands for it in logs. -/
def poolTlp (kind : TlpKind) (addr len : Nat) (data : List Byte) : Tlp :=
  { kind := kind, tc := 0, addr := addr, lenBytes := len, hdrLen := 16, reqId := 0, tag := 0, data := data, ro := false, ido := false,
    ns := false, poisoned := false, specOk := true }

/-- Bytes as an answer's numbers, with the poison mark in front (DESIGN CHOICE, log entry 93). -/
def poolAnswer (bs : List Byte) (poison : Bool) : List Nat := poison.toNat :: bs.map BitVec.toNat

/-- One access: refused by the gate, waiting for a sweep, or done. -/
def State.poolAccess (s : State) (rc : RClass) (part : Nat) (kind : TlpKind) (addr len : Nat) (data : List Byte) (rd wr : Bool)
    (go : State → Owner → State) : State :=
  if poolBytes < addr + len then s.gateFault (s.poolIngress rc part) Carrier.zero (poolTlp kind addr len data) 0x90 1
  else match s.poolGrant rc part addr rd wr with
    | .refused c => s.gateFault (s.poolIngress rc part) Carrier.zero (poolTlp kind addr len data) 0x90 c
    | .owner o => if s.poolWaits o then s.emit (.answer "pool wait" [addr]) else go s o

/-- POOL_READ -/
def execPoolRead (t : Nat) (cls : RClass) (part addr len : Nat) (rd : LineRead) (s : State) : Host.Outcome State Fault Refusal :=
  act2 s t (fun s => s.poolAccess cls part .memRead addr len [] true false (fun s o =>
    let r := s.poolGet o addr len rd
    r.1.emit (.answer "pool data" (poolAnswer r.2.1 r.2.2))))

/-- POOL_WRITE: the line that holds the offset is written whole. -/
def execPoolWrite (t : Nat) (cls : RClass) (part addr : Nat) (data : List Byte) (retries : Nat) (readBackOk : Bool) (s : State) :
    Host.Outcome State Fault Refusal :=
  act2 s t (fun s => s.poolAccess cls part .memWrite addr data.length data false true (fun s o =>
    (s.poolPut o addr data { goodRead with retries := retries } readBackOk).1))

/-- POOL_PARTIAL_WRITE: a discarded one is logged with its header (R160, R328). -/
def execPoolPartialWrite (t : Nat) (cls : RClass) (part addr : Nat) (data : List Byte) (rd : LineRead) (s : State) :
    Host.Outcome State Fault Refusal :=
  act2 s t (fun s => s.poolAccess cls part .memWrite addr data.length data false true (fun s o =>
    let r := s.poolPut o addr data rd true
    if r.2 then r.1.logDiscard (mkDesc s (s.poolIngress cls part) Carrier.zero (poolTlp .memWrite addr data.length data) 0 0) false 0xC0B 0
    else r.1))

/-- POOL_ATOMIC: the operand lies within one line, as the specification aligns it. -/
def execPoolAtomic (t : Nat) (cls : RClass) (part : Nat) (op : TlpKind) (addr size operand compare : Nat) (rd : LineRead) (s : State) :
    Host.Outcome State Fault Refusal :=
  act2 s t (fun s => s.poolAccess cls part op addr size [] true true (fun s o =>
    let r := s.atomicLine o op addr size operand compare rd
    r.1.emit (.answer "pool data" (poolAnswer r.2.1 r.2.2))))

/-! ### Epochs and sweeps (R320 to R323) -/

/-- R319, R320: a grove partition's epoch advances, which names a new key; from 0xFFF it goes to 0x001 by way of a sweep (R322) (DEDUCED, log entry
118). -/
def State.rollKey (s : State) (gp : Nat) : State :=
  let e := s.epochOf gp
  let wraps : Bool := e = 0xFFF
  let s := s.modMem (fun m => { Memory.setEpoch m gp (if wraps then 1 else e + 1) with
    keyWraps := if wraps then assocMod m.keyWraps gp 0 (· + 1) else m.keyWraps,
    sweeping := if wraps then insertNew m.sweeping gp else m.sweeping,
    progress := if wraps then 0 else m.progress })
  s.noteAt 0xC10 gp 0

/-- R322: the sweep for a grove partition is done: its lines are module-owned zero lines. -/
def epochSweepDoneEffect (s : State) (gp : Nat) : State :=
  if gp ∈ s.mem.sweeping then
    let mine := (s.mem.owners.filter (fun e => e.2.gp.toNat == gp && e.2 ≠ Owner.module)).map (·.1)
    let s := s.modMem (fun m => { m with
      cells := m.cells.filter (fun c => c.1 / 256 ∉ mine), owners := m.owners.filter (fun e => e.1 ∉ mine),
      sweeping := eraseAll m.sweeping gp, progress := 100 })
    s.noteAt 0xC11 gp 0
  else s

/-- EPOCH_SWEEP_DONE -/
def execEpochSweepDone (t gp : Nat) (s : State) : Host.Outcome State Fault Refusal :=
  act1 s t (fun s => epochSweepDoneEffect s gp)

/-- R320, R323, R330, R462: device training ends and the sweep begins under new keys, unless the test hold keeps fabric memory untrained. -/
def memTrainingDoneEffect (s : State) (ok : Bool) (failed : List Nat) : State :=
  if s.mem.mode ≠ 0 || s.sec.hold.isSome then s
  else
    let failed := if ok || !failed.isEmpty then failed.filter (· < 24) else List.range 24
    if ok && failed.isEmpty then
      s.drew.modMem (fun m => { m with
        mode := 1, progress := 0, cells := [], owners := [], epochs := [], keyDraw := s.draws, keyWraps := [],
        refreshRing := s.ringClock / 8192,
        channels := m.channels.map (fun c => { c with state := 2, debt := 0 }) })
    else
      let s := s.modMem (fun m => { m with mode := 3, channels := m.channels.map (fun c => { c with state := 2 }) })
      s.each failed (fun s d => s.channelFail d 2)

/-- MEM_TRAINING_DONE -/
def execMemTrainingDone (t : Nat) (ok : Bool) (failed : List Nat) (s : State) : Host.Outcome State Fault Refusal :=
  act2 s t (fun s => memTrainingDoneEffect s ok failed)

/-- R323: the initialization sweep is done. -/
def memInitSweepDoneEffect (s : State) : State :=
  if s.mem.mode = 1 then (s.modMem (fun m => { m with mode := 2, progress := 100 })).noteAt 0xC11 0xFFFF 0 else s

/-- MEM_INIT_SWEEP_DONE -/
def execMemInitSweepDone (t : Nat) (s : State) : Host.Outcome State Fault Refusal := act1 s t memInitSweepDoneEffect

/-! ### Scrubbing, temperature and refresh (R324, R325, R331) -/

/-- R331: the patrol scrubber reads one pool, reserved or tag line, outside maintenance slots. A tag line has no side tag of its own
(R311). -/
def patrolScrubReadEffect (s : State) (pla : Nat) (rd : LineRead) : State :=
  if 24 * 2 ^ 24 ≤ pla || firstPattern ≤ pla % 2 ^ 24 || s.mem.mode = 0 || s.mem.mode = 3 || s.inCrownPrune then s
  else
    let d := pla / 2 ^ 24
    let gp := (s.ownerAt pla).gp.toNat
    let s := s.countHeart 0x399 1
    let s := s.each (List.range (min rd.retries 3)) (fun s _ => (s.countHeart 0x394 1).noteAt 0xC0A d 1)
    let s := if 3 < rd.retries then (s.memLog 4 gp pla).channelFail d 3 else s
    if firstTagLine ≤ pla % 2 ^ 24 || s.passes pla rd.first || s.passes pla rd.second then s else s.confirmed d pla gp 5

/-- PATROL_SCRUB_READ -/
def execPatrolScrubRead (t pla : Nat) (rd : LineRead) (s : State) : Host.Outcome State Fault Refusal :=
  act2 s t (fun s => patrolScrubReadEffect s pla rd)

/-- MEM_HOT_CHANGE: a device's temperature (R324, R333). -/
def execMemHotChange (t device temp : Nat) (s : State) : Host.Outcome State Fault Refusal :=
  act1 s t (fun s => if device < 24 then s.modChannel device (fun c => { c with temp := temp, hot := decide (85 < temp) }) else s)

/-- R324: the batches that a device has come to need since the debts were last counted. -/
def State.refreshDue (s : State) (ring : Nat) : State :=
  let n : Nat := ring - s.mem.refreshRing
  s.modMem (fun m => { m with refreshRing := ring, channels := m.channels.map (fun c =>
    { c with debt := c.debt + (((if c.hot then 4 else 2) * n : Nat) : Int) }) })

/-- R324, R325: one refresh batch of every controller in a slot of the crown's maintenance mask, at most one in a slot, with one retraining
step: the devices whose swap cost a retry, and those whose retraining failed. It takes `dur` ns, at most 64, and ends within the slot
(R63) (DESIGN CHOICE, log entry 94). -/
def refreshBatchEffect (s : State) (dur : Nat) (retries failed : List Nat) : State :=
  let clock := s.ringClock
  if s.inCrownPrune && s.stepFits dur && s.mem.refreshSlot ≠ some (clock / 64) && (s.mem.mode = 1 || s.mem.mode = 2) then
    let s := s.refreshDue (clock / 8192)
    let s := s.modMem (fun m => { m with
      refreshSlot := some (clock / 64), channels := m.channels.map (fun c => { c with debt := max 0 (c.debt - 1) }) })
    let s := s.countHeart 0x397 24
    let s := s.each ((List.range 24).filter (· ∈ retries)) (fun s d => (s.countHeart 0x394 1).noteAt 0xC0A d 1)
    s.each ((List.range 24).filter (· ∈ failed)) (fun s d => s.channelFail d 3)
  else s

/-- REFRESH_BATCH -/
def execRefreshBatch (t dur : Nat) (retries failed : List Nat) (s : State) : Host.Outcome State Fault Refusal :=
  act2 s t (fun s => refreshBatchEffect s dur retries failed)

end Sys2Proof.Machine
end

