-- ==== Sys2Proof/Machine/Engines.lean ====
section
/-! DEFINITION. Engine rings, descriptors, reductions, message queues and what stops module functions (R337 to R370). In a
`RingPos` the VF is the number of its function (DESIGN CHOICE, log entry 3). -/

namespace Sys2Proof.Machine

/-! ### Writes that functions issue (R338) -/

/-- The routing ID of a module function: its ARI number on the bus below VDP 0xFF. -/
def State.fnRid (s : State) (p f : Nat) : Nat := ((s.part p).vdp 0xFF).fld .secondaryBus * 256 + ariOf f

/-- A function's request as the parse stage sees it. -/
def State.fnIngress (s : State) (p f : Nat) (rc : RClass) : Ingress :=
  { src := 0xF0, part := p, rclass := rc, reqId := s.fnRid p f, entry := none, key := some (.part p), trunk := none, srcCrown := s.crownId,
    gpart := s.groveId p, track := 0, flow := 0, hops := 0 }

/-- One part of a write, decoded under R244; its class is the one the work names (R165). The pool is at hand; the rest is queued. What follows
a window miss of the same function waits behind it (R252) (DEDUCED, log entry 99). -/
def State.issuePart (s : State) (p f : Nat) (rc : RClass) (cls addr : Nat) (bs : List Byte) : State :=
  let i := { s.fnIngress p f rc with cls := some cls }
  let x : Tlp := { poolTlp .memWrite addr bs.length bs with reqId := i.reqId }
  match s.gates.misses.find? (fun m => m.src == i.src && m.tlp.reqId == i.reqId) with
  | some m => s.modGates (fun y => { y with misses := y.misses ++ [{ m with tlp := x, work := some (p, rc, cls) }] })
  | none =>
    let r := s.parse i x
    let ds := r.1.dress i x r.2
    match ds with
    | [d] =>
      (match d.heart, d.msg with
        | some (0x90, o), .tlp _ y =>
          let own := if o = 0 then Owner.module else { gp := BitVec.ofNat 12 (o - 1), epoch := r.1.epochOf (o - 1) }
          if r.1.poolWaits own then r.1.submit i.src none ds else (r.1.poolPut own y.addr bs goodRead true).1
        | _, _ => r.1.submit i.src none ds)
    | _ => r.1.submit i.src none ds

/-- R268, R338: a write that a function issues: nothing once it has lost Bus Master Enable or sleeps in D3hot (DEDUCED, log entry 99). -/
def State.issue (s : State) (p f : Nat) (rc : RClass) (cls addr : Nat) (bs : List Byte) : State :=
  let fn := (s.part p).fn f
  if !fn.busMaster || fn.fld .powerState ≠ 0 then s
  else (parts4K addr bs.length).foldl (fun s e => s.issuePart p f rc cls e.1 ((bs.drop (e.1 - addr)).take e.2)) s

/-- The records written within a command follow its data on the same way. -/
def State.issueRecords (s : State) (f : Nat) (rc : RClass) (cls : Nat) : State :=
  let recs := s.out.filterMap (fun o => match o with | .hostWrite p a d => some (p, a, d) | _ => none)
  let s := { s with out := s.out.filter (fun o => match o with | .hostWrite _ _ _ => false | _ => true) }
  recs.foldl (fun s r => s.issue r.1 f rc cls r.2.1 r.2.2) s

/-! ### Tags (R338, R364) -/

/-- The free tag that a new read takes, if there is one. -/
def Function.freeTag (f : Function) : Option Nat :=
  (List.range 512).find? (fun t => (f.outstanding.all (·.1 ≠ t)) && (f.quarantined.all (·.1 ≠ t)) && (f.timedOut.all (·.1 ≠ t)))

/-- The index under which a descriptor fetch is outstanding. -/
def fetchMark : Nat := 0x10000

/-- A function issues a read for a descriptor index; with no free tag it waits. -/
def State.issueRead (s : State) (p f idx addr len : Nat) : State :=
  match ((s.part p).fn f).freeTag with
  | some t => (s.modFn p f (fun x => { x with outstanding := x.outstanding ++ [(t, idx, s.now)] })).emit
      (.answer "function read" [p, f, addr, len, t])
  | none => s

/-- The reads of a descriptor index have come back. -/
def State.readsDone (s : State) (p f idx : Nat) : State :=
  s.modFn p f (fun x => { x with outstanding := x.outstanding.filter (·.2.1 ≠ idx) })

/-! ### Which ring an engine serves (R345) -/

/-- Descriptors between head and tail. -/
def Ring.waiting (r : Ring) : Nat := (r.tail.toNat + 2 ^ r.log2Size - r.head.toNat % 2 ^ r.log2Size) % 2 ^ r.log2Size

/-- A ring is ready for an engine. -/
def State.ringReady (s : State) (p f : Nat) : Bool :=
  let fn := (s.part p).fn f
  fn.ring.enable && fn.ring.state = 1 && fn.ring.waiting ≠ 0 && fn.busMaster && fn.fld .powerState = 0 &&
    s.engines.busy.all (fun b => !(b.2.1 == p && b.2.2 == f))

/-- The ready rings of a partition, starting after the one served last. -/
def State.readyVf (s : State) (p : Nat) : Option Nat :=
  let last := assocGetD s.engines.lastVf p 0
  ((List.range 16).map (fun k => (last + k) % 16 + 1)).find? (s.ringReady p)

/-- Weighted round robin: the partition in turn while it has turns left, else the next with a ready ring (DESIGN CHOICE, log entry 96). -/
def State.nextRing (s : State) : Option (Nat × Nat × Nat) :=
  let e := s.engines
  match (if e.credit = 0 then none else s.readyVf e.turn) with
  | some f => some (e.turn, f, e.credit - 1)
  | none =>
    match ((List.range 64).map (fun k => (e.turn + 1 + k) % 64)).find? (fun p => (s.readyVf p).isSome) with
    | some p => (s.readyVf p).map (fun f => (p, f, s.get (Key.ENG_SHARE + p) - 1))
    | none => none

/-- R340: a fetch of up to 8 descriptors. -/
def State.fetch (s : State) (p f : Nat) : State :=
  let r := ((s.part p).fn f).ring
  if ((s.part p).fn f).outstanding.any (·.2.1 == fetchMark) || r.waiting = 0 then s
  else s.issueRead p f fetchMark (r.base + 64 * r.head.toNat) (64 * min 8 (min r.waiting (2 ^ r.log2Size - r.head.toNat)))

/-- R345, R495: free engines take ready rings; at governor level 1 and above they start nothing (DESIGN CHOICE, log entry 96). -/
def State.serveRings (s : State) : State :=
  let free := (List.range 32).filter (fun e => e ∉ s.engines.offline && s.engines.busy.all (·.1 ≠ e))
  s.each free (fun s e =>
    if s.power.govLevel ≠ 0 then s
    else match s.nextRing with
      | some (p, f, credit) =>
        (s.modEngines (fun x => { x with busy := x.busy ++ [(e, p, f)], moved := assocPut x.moved e 0, turn := p, credit := credit,
                                         lastVf := assocPut x.lastVf p f })).fetch p f
      | none => s)

/-- A ring's engine lets it go. -/
def State.letGo (s : State) (p f : Nat) : State :=
  let mine := s.engines.busy.filter (fun b => b.2.1 == p && b.2.2 == f)
  s.modEngines (fun x => { x with busy := x.busy.filter (fun b => !(b.2.1 == p && b.2.2 == f)),
                                  moved := x.moved.filter (fun m => mine.all (·.1 ≠ m.1)) })

/-- After work on a ring: the engine keeps it until it is empty, stopped, or 256 KiB have moved; it fetches more when all that
it fetched has completed. -/
def State.keepRing (s : State) (p f bytes : Nat) : State :=
  let s := s.modEngines (fun x => { x with moved := x.moved.map (fun m =>
    if x.busy.any (fun b => b.1 == m.1 && b.2.1 == p && b.2.2 == f) then (m.1, m.2 + bytes) else m) })
  let fn := (s.part p).fn f
  let spent := s.engines.moved.any (fun m => 262144 ≤ m.2 && s.engines.busy.any (fun b => b.1 == m.1 && b.2.1 == p && b.2.2 == f))
  if !fn.busMaster || fn.ring.state ≠ 1 || (fn.ring.fetched = 0 && (fn.ring.waiting = 0 || spent)) then (s.letGo p f).serveRings
  else if fn.ring.fetched = 0 then s.fetch p f
  else s

/-! ### Ring registers (R339, R340) -/

/-- An engine VF exists. -/
def State.isVf (s : State) (p f : Nat) : Bool := p < 64 && 1 ≤ f && f ≤ 16 && s.isHome p && (s.part p).fnExists f

/-- RING_TAIL: the doorbell. -/
def State.doorbell (s : State) (p f : Nat) (tail : BitVec 16) : State :=
  (s.modFn p f (fun x => { x with ring := { x.ring with tail := tail } })).serveRings

/-- RING_TAIL -/
def execRingTail (t part vf : Nat) (tail : BitVec 16) (s : State) : Host.Outcome State Fault Refusal :=
  act2 s t (fun s => if s.isVf part vf then s.doorbell part vf tail else s)

/-- R340: ENABLE is written to 1: not in STATE 0x3; after an error the ring goes on behind the descriptor that stopped it. -/
def Ring.start (r : Ring) : Ring :=
  if r.state = 3 || r.log2Size < 4 || 16 < r.log2Size then r
  else if r.state = 2 then
    let n := (r.errIndex.toNat + 1) % 2 ^ r.log2Size
    { r with enable := true, state := 1, head := BitVec.ofNat 16 n, fetched := 0,
             passes := if n = 0 && r.head.toNat ≠ 0 then r.passes + 1 else r.passes }
  else { r with enable := true, state := 1 }

/-- RING_ENABLE -/
def execRingEnable (t part vf : Nat) (s : State) : Host.Outcome State Fault Refusal :=
  act2 s t (fun s => if s.isVf part vf then (s.modFn part vf (fun x => { x with ring := x.ring.start })).serveRings else s)

/-- R340: RESET: head, tail and STATE zero, ENABLE clear; tags of reads still out stay quarantined. -/
def State.ringClear (s : State) (p f : Nat) : State :=
  let until_ := s.now + s.cplTimeout p
  let s := s.modFn p f (fun x => { x with
    ring := { Ring.reset with base := x.ring.base, cplBase := x.ring.cplBase, log2Size := x.ring.log2Size },
    quarantined := x.quarantined ++ x.outstanding.map (fun o => (o.1, until_)), outstanding := [] })
  ((s.deadWaiters p f).letGo p f).serveRings

/-- RING_RESET -/
def execRingReset (t part vf : Nat) (s : State) : Host.Outcome State Fault Refusal :=
  act2 s t (fun s => if s.isVf part vf then s.ringClear part vf else s)

/-- R340, R345: descriptors arrive and start in ring order; each holds one tag for its reads (DESIGN CHOICE, log entry 37). -/
def descriptorFetchDoneEffect (s : State) (p f count : Nat) : State :=
  let fn := (s.part p).fn f
  if !s.isVf p f || !fn.outstanding.any (·.2.1 == fetchMark) || fn.ring.state ≠ 1 then s
  else
    let r := fn.ring
    let size := 2 ^ r.log2Size
    let n := min count (min 8 r.waiting)
    let s := s.readsDone p f fetchMark
    let s := s.modFn p f (fun x => { x with ring := { x.ring with
      head := BitVec.ofNat 16 ((r.head.toNat + n) % size), fetched := x.ring.fetched + n,
      passes := if size ≤ r.head.toNat + n then x.ring.passes + 1 else x.ring.passes } })
    s.each ((List.range n).map (fun k => (r.head.toNat + k) % size)) (fun s i => s.issueRead p f i (r.base + 64 * i) 64)

/-- DESCRIPTOR_FETCH_DONE -/
def execDescriptorFetchDone (t part vf count : Nat) (s : State) : Host.Outcome State Fault Refusal :=
  act1 s t (fun s => descriptorFetchDoneEffect s part vf count)

/-! ### Descriptors (R341 to R346) -/

/-- The operand fields that an operation uses beside OPCODE, CLASS, INTR, LEN and USER. -/
structure Uses where
  src : Bool := false
  dst : Bool := false
  aux : Bool := false
  fmt : Bool := false
  red : Bool := false
  deriving DecidableEq, Repr

/-- R341, R342: reserved and unused fields are zero, the class and the opcode are right. -/
def descLegal (d : Descriptor) (code : Nat) (u : Uses) : Bool :=
  d.reservedOk && d.opcode = code && d.cls ≤ 5 && d.len < 2 ^ 32 && (u.src || d.src = 0) && (u.dst || d.dst = 0) && (u.aux || d.aux = 0) &&
    (u.fmt || (d.format = 0 && d.redop = 0 && !d.sat)) && (u.red || (d.round = 0 && d.contrib = 0 && d.ctx = 0))

/-- A descriptor at this place has been fetched and its function runs. -/
def State.started (s : State) (pos : RingPos) : Bool :=
  let fn := (s.part pos.part).fn pos.vf
  let size := 2 ^ fn.ring.log2Size
  s.isVf pos.part pos.vf && fn.busMaster && fn.fld .powerState = 0 && fn.ring.state = 1 && s.power.govLevel = 0 &&
    0 < fn.ring.fetched && (fn.ring.head.toNat + size - 1 - pos.index % size) % size < fn.ring.fetched && pos.index < size

/-- The STATUS of a read that brought no data. -/
def readStatus : ReadResult → Nat
  | .data _ => 0
  | .poison => 3
  | .refused => 4
  | .timeout => 5

/-- The tags of a descriptor whose read timed out wait for a completion that may still come (R365). -/
def State.lateTags (s : State) (p f idx : Nat) : State :=
  let e := ((s.engines.busy.find? (fun b => b.2.1 == p && b.2.2 == f)).map (·.1)).getD 32
  s.modFn p f (fun x => { x with
    timedOut := x.timedOut ++ (x.outstanding.filter (·.2.1 == idx)).map (fun o => (o.1, e)),
    outstanding := x.outstanding.filter (·.2.1 ≠ idx) })

/-- A descriptor completes with a status; its record follows its data; the ring goes on. `bytes` is what it moved. -/
def State.finish (s : State) (pos : RingPos) (d : Descriptor) (status result bytes : Nat) : State :=
  let s := if status = 5 then s.lateTags pos.part pos.vf pos.index else s.readsDone pos.part pos.vf pos.index
  let s := (s.ringComplete pos status result d.user d.intr).issueRecords pos.vf .engine d.cls
  s.keepRing pos.part pos.vf bytes

/-- Data that an engine writes for a descriptor (0x3A1). -/
def State.engineWrite (s : State) (pos : RingPos) (cls addr : Nat) (bs : List Byte) : State :=
  (s.issue pos.part pos.vf .engine cls addr bs).countHeart 0x3A1 bs.length

/-- R366, R370, R393: a descriptor's data pass the checker of its engine's buffers; an armed slot raises ENG_CORRECTED, or takes the engine
offline. Answers whether the descriptor goes on. -/
def State.engineCheck (s : State) (pos : RingPos) : State × Bool :=
  match s.engines.busy.find? (fun b => b.2.1 == pos.part && b.2.2 == pos.vf) with
  | some (e, _, _) =>
    let r := s.injectItem [1, 2] 4 e
    (match r.2 with
      | some k =>
        if field (s.faults.inject.getD k 0).toNat 30 28 = 1 then (r.1.noteInj (srcEngine e 1) 1 true, true)
        else (((r.1.engineOffline e).noteInj (srcEngine e 0) 2 true).serveRings, false)
      | none => (r.1, true))
  | none => (s, true)

/-- An operation on a descriptor that has started; one that breaks a rule completes with BAD_DESC. -/
def State.operate (s : State) (pos : RingPos) (d : Descriptor) (legal : Bool) (go : State → State) : State :=
  if !s.started pos then s
  else
    let r := s.engineCheck pos
    if !r.2 then r.1 else if legal then go r.1 else r.1.finish pos d 1 0 0

/-- NOP -/
def execNop (t : Nat) (at_ : RingPos) (d : Descriptor) (s : State) : Host.Outcome State Fault Refusal :=
  act2 s t (fun s => s.operate at_ d (descLegal d 0 {}) (fun s => s.finish at_ d 0 0 0))

/-- An operation with one source: its data, or its failure. -/
def State.withData (s : State) (pos : RingPos) (d : Descriptor) (r : ReadResult) (go : State → List Byte → State) : State :=
  match r with
  | .data bs => go s (bs.take d.len)
  | r => s.finish pos d (readStatus r) 0 0

/-- COPY -/
def execCopy (t : Nat) (at_ : RingPos) (d : Descriptor) (src : ReadResult) (s : State) : Host.Outcome State Fault Refusal :=
  act2 s t (fun s => s.operate at_ d (descLegal d 1 { src := true, dst := true } && 1 ≤ d.len && (d.src + d.len ≤ d.dst || d.dst + d.len ≤ d.src))
    (fun s => s.withData at_ d src (fun s bs => (s.engineWrite at_ d.cls d.dst bs).finish at_ d 0 0 d.len)))

/-- R342: FILL's bytes: byte i is byte (i mod 8) of AUX. -/
def fillBytes (aux len : Nat) : List Byte := (List.range len).map (fun i => BitVec.ofNat 8 (aux / 256 ^ (i % 8)))

/-- FILL -/
def execFill (t : Nat) (at_ : RingPos) (d : Descriptor) (s : State) : Host.Outcome State Fault Refusal :=
  act2 s t (fun s => s.operate at_ d (descLegal d 2 { dst := true, aux := true } && 1 ≤ d.len)
    (fun s => (s.engineWrite at_ d.cls d.dst (fillBytes d.aux d.len)).finish at_ d 0 0 d.len))

/-- R343: what a list moves: (address, offset in the data, bytes) for each entry until LEN is reached, and whether an entry broke a rule
first (DESIGN CHOICE, log entry 101). -/
def sgPlan : List SgEntry → Nat → Nat → List (Nat × Nat × Nat) × Bool
  | _, _, 0 => ([], false)
  | [], _, _ + 1 => ([], true)
  | e :: l, off, n + 1 =>
    if e.len = 0 || !e.zeroOk then ([], true)
    else
      let k := min e.len (n + 1)
      let r := sgPlan l (off + k) (n + 1 - k)
      ((e.addr, off, k) :: r.1, r.2)

/-- GATHER: entries in order; the first source that fails ends it (DESIGN CHOICE, log entry 101). -/
def State.gather (s : State) (pos : RingPos) (d : Descriptor) : List ((Nat × Nat × Nat) × ReadResult) → Nat → State × Nat
  | [], st => (s, st)
  | (e, r) :: l, st =>
    match r with
    | .data bs => (s.engineWrite pos d.cls (d.dst + e.2.1) (bs.take e.2.2)).gather pos d l st
    | r => (s, (readStatus r))

/-- GATHER -/
def execGather (t : Nat) (at_ : RingPos) (d : Descriptor) (list : List SgEntry) (src : List ReadResult) (s : State) :
    Host.Outcome State Fault Refusal :=
  act2 s t (fun s => s.operate at_ d (descLegal d 3 { dst := true, aux := true } && 1 ≤ d.len) (fun s =>
    let plan := sgPlan list 0 d.len
    let r := s.gather at_ d (plan.1.zip src) (if plan.2 then 1 else 0)
    r.1.finish at_ d r.2 0 d.len))

/-- SCATTER -/
def execScatter (t : Nat) (at_ : RingPos) (d : Descriptor) (list : List SgEntry) (src : ReadResult) (s : State) :
    Host.Outcome State Fault Refusal :=
  act2 s t (fun s => s.operate at_ d (descLegal d 4 { src := true, aux := true } && 1 ≤ d.len) (fun s =>
    s.withData at_ d src (fun s bs =>
      let plan := sgPlan list 0 d.len
      let s := s.each plan.1 (fun s e => s.engineWrite at_ d.cls e.1 ((bs.drop e.2.1).take e.2.2))
      s.finish at_ d (if plan.2 then 1 else 0) 0 d.len)))

/-- CRC_GEN -/
def execCrcGen (t : Nat) (at_ : RingPos) (d : Descriptor) (src : ReadResult) (s : State) : Host.Outcome State Fault Refusal :=
  act2 s t (fun s => s.operate at_ d (descLegal d 5 { src := true } && 1 ≤ d.len) (fun s =>
    s.withData at_ d src (fun s bs => s.finish at_ d 0 (crc32c bs).toNat d.len)))

/-- CRC_CHECK -/
def execCrcCheck (t : Nat) (at_ : RingPos) (d : Descriptor) (src : ReadResult) (s : State) : Host.Outcome State Fault Refusal :=
  act2 s t (fun s => s.operate at_ d (descLegal d 6 { src := true, aux := true } && 1 ≤ d.len) (fun s =>
    s.withData at_ d src (fun s bs =>
      let c := (crc32c bs).toNat
      s.finish at_ d (if c = d.aux % 2 ^ 32 then 0 else 2) c d.len)))

/-- R344: the address-folded check of a block of 256 bytes at an address. -/
def afc (addr : Nat) (block : List Byte) : Nat := (crc64 (beBytes 8 addr ++ block)).toNat % 2 ^ 40

/-- The checks of the blocks of a source. -/
def afcs (addr : Nat) (bs : List Byte) : List Nat :=
  (List.range (bs.length / 256)).map (fun i => afc (addr + 256 * i) ((bs.drop (256 * i)).take 256))

/-- R342: SRC and LEN are multiples of 256. -/
def descBlocks (d : Descriptor) : Bool := d.src % 256 = 0 && d.len % 256 = 0 && 1 ≤ d.len

/-- AFC_GEN -/
def execAfcGen (t : Nat) (at_ : RingPos) (d : Descriptor) (src : ReadResult) (s : State) : Host.Outcome State Fault Refusal :=
  act2 s t (fun s => s.operate at_ d (descLegal d 7 { src := true, dst := true } && descBlocks d) (fun s =>
    s.withData at_ d src (fun s bs =>
      (s.engineWrite at_ d.cls d.dst ((afcs d.src bs).flatMap (leBytes 8))).finish at_ d 0 0 d.len)))

/-- AFC_CHECK: MISCOMPARE at the first difference, RESULT the block's index. -/
def execAfcCheck (t : Nat) (at_ : RingPos) (d : Descriptor) (src arr : ReadResult) (s : State) : Host.Outcome State Fault Refusal :=
  act2 s t (fun s => s.operate at_ d (descLegal d 8 { src := true, aux := true } && descBlocks d) (fun s =>
    s.withData at_ d src (fun s bs =>
      match arr with
      | .data es =>
        let want := afcs d.src bs
        (match (List.range want.length).find? (fun i => leNat ((es.drop (8 * i)).take 8) ≠ want.getD i 0) with
          | some i => s.finish at_ d 2 i d.len
          | none => s.finish at_ d 0 0 d.len)
      | r => s.finish at_ d (readStatus r) 0 0)))

/-- REDUCE_PAIR -/
def execReducePair (t : Nat) (at_ : RingPos) (d : Descriptor) (src dst : ReadResult) (s : State) : Host.Outcome State Fault Refusal :=
  act2 s t (fun s =>
    let f := fmtOf d.format
    let size := (f.map (·.bytes)).getD 0
    s.operate at_ d (descLegal d 0x11 { src := true, dst := true, fmt := true } && f.isSome && d.redop ≤ 5 && 1 ≤ d.len && d.len % max 1 size = 0)
      (fun s => s.withData at_ d src (fun s a =>
        match dst, f with
        | .data b, some f => (s.engineWrite at_ d.cls d.dst (f.combine d.redop d.sat (b.take d.len) a)).finish at_ d 0 0 d.len
        | r, _ => s.finish at_ d (readStatus r) 0 0)))

/-- DESCRIPTOR_COMPLETE: a descriptor's writes are posted; its record is written (R345, R346). -/
def execDescriptorComplete (t : Nat) (at_ : RingPos) (status : Nat) (result : BitVec 32) (user : Nat) (intr : Bool) (s : State) :
    Host.Outcome State Fault Refusal :=
  act2 s t (fun s =>
    if s.started at_ && [0, 1, 2, 3, 4, 5, 7, 8, 9].contains status then
      let s := (s.readsDone at_.part at_.vf at_.index).ringComplete at_ status result.toNat user intr
      (s.issueRecords at_.vf .engine 0).keepRing at_.part at_.vf 0
    else s)

/-! ### Reductions (R349 to R355) -/

/-- A context's inputs and chunks. -/
def RedCtx.inputs (c : RedCtx) : Nat := c.localN + c.childN
def RedCtx.chunks (c : RedCtx) : Nat := ceilDiv c.len 65536
/-- The inputs of a round that this node has taken for one chunk. -/
def RedRound.of (r : RedRound) (input chunk : Nat) : Option (List Byte) :=
  (r.inputs.find? (fun i => i.input == input && i.chunk == chunk)).map (·.data)

/-- R352: a chunk is staged, in the slot that its number gives: an access of class FW to a module-owned line (DESIGN CHOICE, log entry
95). -/
def State.stageChunk (s : State) (c : RedCtx) (i : RedInput) : State :=
  if s.poolWaits Owner.module then s
  else (s.poolPut Owner.module (c.stage + 0x20000 * i.input + 0x10000 * (i.chunk % 2)) i.data goodRead true).1

/-- R353: a result chunk reaches the heartwood: it is written to DST of every local contributor of its round. -/
def State.result (s : State) (ctx : Nat) (round : BitVec 4) (chunk : Nat) (data : List Byte) : State :=
  let r := s.redRound ctx
  let mine := r.waiters.filter (fun w => w.round == round)
  let s := s.each mine (fun s w =>
    if w.live then (s.issue w.pos.part w.pos.vf .engine r.cls (w.dst + 65536 * chunk) data).countHeart 0x3A1 data.length
    else s.countHeart 0x3A9 1)
  let r := s.redRound ctx
  let left := (r.waiters.map (fun w => if w.round = round then { w with left := w.left - 1 } else w)).filter (fun w => w.left ≠ 0)
  let s := s.setRound { r with waiters := left }
  s.each (mine.filter (fun w => w.live && w.left == 1)) (fun s w =>
    ((s.contribDone w 0 round.toNat).issueRecords w.pos.vf .engine r.cls).keepRing w.pos.part w.pos.vf 0)

/-- R351, R353: a folded chunk leaves: to the parent as its input, or as the result into the group. -/
def State.sendFold (s : State) (ctx : Nat) (c : RedCtx) (round : BitVec 4) (chunk : Nat) (data : List Byte) : State :=
  let cls := (s.redRound ctx).cls
  if c.root then
    let m : EngineMsg := { kind := 1, ctx := ctx, round := round.toNat, chunk := chunk, slot := 0, data := data }
    let v := s.mcastGroup c.mcGroup
    let s := s.engineGroup (groupTrunks v) c.carrierGp cls m
    if groupHeart v then s.result ctx round chunk data else s
  else
    let m : EngineMsg := { kind := 0, ctx := ctx, round := round.toNat, chunk := chunk, slot := c.parentSlot, data := data }
    match s.routeOrHome c.parent (flowOf s.crownId c.carrierGp 0 0xF0 cls) with
    | some q => s.engineTo q c.parent c.carrierGp cls m
    | none => s

/-- R351: one chunk, if every input of it is there: the fold in input order. -/
def State.foldChunk (s : State) (ctx chunk : Nat) : State :=
  let c := s.redCtx ctx
  let r := s.redRound ctx
  let ins := (List.range c.inputs).map (fun k => r.of k chunk)
  match fmtOf c.format, ins with
  | some f, some first :: rest =>
    if chunk ∈ r.folded || !rest.all Option.isSome then s
    else
      let out := rest.foldl (fun acc i => f.combine c.redop c.sat acc (i.getD [])) first
      let s := s.countHeart 0x3A2 (c.inputs * first.length)
      let s := s.setRound { r with folded := r.folded ++ [chunk], inputs := r.inputs.filter (·.chunk ≠ chunk) }
      s.sendFold ctx c r.round chunk out
  | _, _ => s

/-- R354: the round has completed at this node once every chunk is folded and sent. -/
def State.foldAll (s : State) (ctx : Nat) : State :=
  let c := s.redCtx ctx
  let s := s.each (List.range c.chunks) (fun s k => s.foldChunk ctx k)
  if (s.redRound ctx).folded.length = c.chunks && c.chunks ≠ 0 then (s.countHeart 0x3A3 1).nextRound ctx else s

/-- A chunk finds a free staging slot of its input (R352). -/
def RedRound.fits (r : RedRound) (i : RedInput) : Bool := (r.inputs.filter (fun x => x.input == i.input)).length < 2

/-- R345: the ring of a contribution that has been read is released; an engine that has nothing left of it goes on to another. -/
def State.contribRead (s : State) (w : RedWaiter) : State :=
  let s := s.ringRelease w.pos
  if ((s.part w.pos.part).fn w.pos.vf).ring.fetched = 0 then (s.letGo w.pos.part w.pos.vf).serveRings else s

/-- A chunk is written into its slot; the last one of a local contribution has read it whole. -/
def State.stageIn (s : State) (ctx : Nat) (i : RedInput) : State :=
  let r := s.redRound ctx
  let s := (s.setRound { r with inputs := r.inputs ++ [i] }).stageChunk (s.redCtx ctx) i
  if r.held.any (·.input == i.input) then s
  else
    let r := s.redRound ctx
    let mine : RedWaiter → Bool := fun w => w.round == r.round && w.input == i.input && !w.read && w.live
    let s' := s.setRound { r with waiters := r.waiters.map (fun w => if mine w then { w with read := true } else w) }
    s'.each (r.waiters.filter mine) State.contribRead

/-- R352, R354: what is whole is folded, then what waits for a slot enters one that has become free, and so on. -/
def State.pump (ctx : Nat) : Nat → State → State
  | 0, s => s
  | n + 1, s =>
    let s := s.foldAll ctx
    let r := s.redRound ctx
    match r.held.find? r.fits with
    | some i => ((s.setRound { r with held := r.held.erase i }).stageIn ctx i).pump ctx n
    | none => s

/-- Everything that waits of a context goes as far as it can. -/
def State.pumpAll (s : State) (ctx : Nat) : State :=
  let r := s.redRound ctx
  s.pump ctx (2 * (r.held.length + r.early.length) + 1)

/-- Inputs enter the current round; what waited for the next round may then complete that one too. -/
def State.takeInputs (s : State) (ctx : Nat) (is : List RedInput) : State :=
  let r := s.redRound ctx
  (s.setRound { r with held := r.held ++ is, started := some (r.started.getD s.now) }).pumpAll ctx

/-- A contribution cut into chunks. -/
def chunksOf (input len : Nat) (bs : List Byte) : List RedInput :=
  (List.range (ceilDiv len 65536)).map (fun k => { input := input, chunk := k, data := (bs.drop (65536 * k)).take 65536 })

/-- R354: a local contribution has already been made to a round. -/
def RedRound.contributed (r : RedRound) (round : BitVec 4) (input : Nat) : Bool :=
  r.waiters.any (fun w => w.round == round && w.input == input)

/-- REDUCE_CONTRIB -/
def reduceContribEffect (s : State) (pos : RingPos) (d : Descriptor) (src : ReadResult) : State :=
  let c := s.redCtx d.ctx
  let r := s.redRound d.ctx
  let legal : Bool := descLegal d 0x10 { src := true, dst := true, fmt := true, red := true } && 1 ≤ d.len && c.valid && (fmtOf d.format).isSome &&
    d.format = c.format && d.redop = c.redop && d.sat = c.sat && d.len = c.len
  s.operate pos d legal (fun s =>
    let round := BitVec.ofNat 4 d.round
    let now : Bool := round = r.round
    let next : Bool := round = r.round + 1
    if !(now || next) || r.contributed round d.contrib || c.localN ≤ d.contrib || !bitOf c.parts pos.part then s.finish pos d 8 d.round 0
    else s.withData pos d src (fun s bs =>
      let s := s.readsDone pos.part pos.vf pos.index
      let r := { s.redRound d.ctx with cls := d.cls }
      let w : RedWaiter := { pos := pos, round := round, left := c.chunks, input := d.contrib, dst := d.dst, user := d.user, intr := d.intr,
                             live := true, read := false }
      let is := chunksOf d.contrib d.len bs
      let s := s.setRound { r with waiters := r.waiters ++ [w],
                                   early := if next then r.early ++ is.map (fun i => (d.round, i)) else r.early }
      if now then s.takeInputs d.ctx is else s))

/-- REDUCE_CONTRIB -/
def execReduceContrib (t : Nat) (at_ : RingPos) (d : Descriptor) (src : ReadResult) (s : State) : Host.Outcome State Fault Refusal :=
  act2 s t (fun s => reduceContribEffect s at_ d src)

/-- R352, R354: a child's partial chunk. With both slots of the input full it waits; for the next round it waits too; for any
other round it is discarded and counted. -/
def reducePartialEffect (s : State) (q ctx child round chunk : Nat) (data : List Byte) : State :=
  let c := s.redCtx ctx
  let r := s.redRound ctx
  let k := c.localN + child
  let i : RedInput := { input := k, chunk := chunk, data := data }
  let n := BitVec.ofNat 4 round
  if !c.valid || c.childN ≤ child then s.countHeart 0x3AB 1
  else if n = r.round then
    if chunk ∈ r.folded || (r.of k chunk).isSome || c.chunks ≤ chunk then s.countHeart 0x3AB 1
    else if 2 ≤ (r.inputs.filter (fun x => x.input == k)).length then s.emit (.answer "partial waits" [q, ctx, child, chunk])
    else s.takeInputs ctx [i]
  else if n = r.round + 1 then s.setRound { r with early := r.early ++ [(round, i)] }
  else s.countHeart 0x3AB 1

/-- REDUCE_PARTIAL -/
def execReducePartial (t q ctx child round chunk : Nat) (data : List Byte) (s : State) : Host.Outcome State Fault Refusal :=
  act2 s t (fun s => reducePartialEffect s q ctx child round chunk data)

/-- RESULT_CHUNK -/
def execResultChunk (t ctx round chunk : Nat) (data : List Byte) (s : State) : Host.Outcome State Fault Refusal :=
  act2 s t (fun s => s.result ctx (BitVec.ofNat 4 round) chunk data)

/-- After an abort: the records of its contributors are on their way, engines that held their rings go on, and the next round takes what
waited for it. -/
def State.reduceSettle (s : State) (ctx : Nat) : State :=
  let s := s.each s.engines.busy (fun s b =>
    let fn := (s.part b.2.1).fn b.2.2
    if fn.ring.fetched = 0 && !fn.outstanding.any (·.2.1 == fetchMark) then s.keepRing b.2.1 b.2.2 0 else s)
  s.pumpAll ctx

/-- R355: the round has not taken all its inputs within TIMEOUT of the first. -/
def reduceTimeoutEffect (s : State) (ctx : Nat) : State :=
  match (s.redRound ctx).started with
  | some t0 => if s.after t0 ((s.redCtx ctx).timeout * 100000) then (s.reduceAbort ctx).reduceSettle ctx else s
  | none => s

/-- REDUCE_TIMEOUT -/
def execReduceTimeout (t ctx : Nat) (s : State) : Host.Outcome State Fault Refusal := act2 s t (fun s => reduceTimeoutEffect s ctx)

/-- R355: an abort message: the same round aborts here, and the node passes it on; a round already complete at this node fails its waiting
contributors only (DEDUCED, log entry 102). -/
def reduceAbortMessageEffect (s : State) (ctx round : Nat) : State :=
  let n := BitVec.ofNat 4 round
  if !(s.redCtx ctx).valid then s
  else if (s.redRound ctx).round = n then ((s.reduceAbortSend ctx round).reduceAbortHere ctx).reduceSettle ctx
  else (s.abortWaiters ctx n).reduceSettle ctx

/-- REDUCE_ABORT_MESSAGE -/
def execReduceAbortMessage (t ctx round : Nat) (s : State) : Host.Outcome State Fault Refusal :=
  act2 s t (fun s => reduceAbortMessageEffect s ctx round)

/-- R366: an uncorrectable error inside an engine. -/
def engFaultEffect (s : State) (e : Nat) : State :=
  if 32 ≤ e || e ∈ s.engines.offline then s
  else
    let mine := (s.engines.rounds.filter (fun r => s.ctxEngine r.ctx == e)).map (·.ctx)
    (((s.engineOffline e).noteFree (srcEngine e 0) 2).each mine State.reduceSettle).serveRings

/-- ENG_FAULT -/
def execEngFault (t e : Nat) (s : State) : Host.Outcome State Fault Refusal := act2 s t (fun s => engFaultEffect s e)

/-! ### Message queues (R357 to R361) -/

/-- The function number of message-queue function `m`. -/
def mqFn (m : Nat) : Nat := 17 + m

/-- A queue of a function. -/
def queueOf (l : List (Nat × Ring)) (k : Nat) : Ring := assocGetD l k Ring.reset
def State.modSendQ (s : State) (p f k : Nat) (h : Ring → Ring) : State :=
  s.modFn p f (fun x => { x with sendQ := assocMod x.sendQ k Ring.reset h })
def State.modRecvQ (s : State) (p f k : Nat) (h : Ring → Ring) : State :=
  s.modFn p f (fun x => { x with recvQ := assocMod x.recvQ k Ring.reset h })

/-- A ring moves past one entry. -/
def Ring.advance (r : Ring) : Ring :=
  let n := r.head.toNat + 1
  if 2 ^ r.log2Size ≤ n then { r with head := 0, passes := r.passes + 1 } else { r with head := BitVec.ofNat 16 n }

/-- PHASE of the entry at the head: 1 on the first pass. -/
def Ring.phase (r : Ring) : Nat := (r.passes + 1) % 2

/-- R361: a datagram for a message-queue function of a partition (DEDUCED, log entry 98). -/
def datagramReceiveEffect (s : State) (p : Nat) (d : Datagram) : State :=
  let f := mqFn d.dstFn
  let fn := (s.part p).fn f
  let q := queueOf fn.recvQ d.dstQueue
  let drop := s.countHeart 0x3A7 1
  if 64 ≤ p || 8 ≤ d.dstFn || 16 ≤ d.dstQueue || !s.isHome p || !(s.part p).fnExists f || !q.enable || !fn.busMaster then drop
  else match assocGetD fn.posted d.dstQueue [] with
    | [] => drop
    | (addr, size) :: rest =>
      if size < d.len then drop
      else
        let s := s.modFn p f (fun x => { x with posted := assocPut x.posted d.dstQueue rest })
        let s := s.modRecvQ p f d.dstQueue Ring.advance
        let s := s.issue p f .func 6 addr (d.payload.take d.len)
        let rec_ := leBytes 2 d.len ++ leBytes 2 d.srcCrown ++ leBytes 1 d.srcFn ++ leBytes 1 d.srcQueue ++
          leBytes 1 ((if d.cong = 3 then 1 else 0) + 2 * q.phase) ++ leBytes 9 0
        let s := s.issue p f .func 6 (q.cplBase + 16 * q.head.toNat) rec_
        let s := (s.countHeart 0x3A6 1).when (d.cong = 3) (fun s => s.countHeart 0x3A8 1)
        s.vector p f d.dstQueue

/-- DATAGRAM_RECEIVE -/
def execDatagramReceive (t part : Nat) (d : Datagram) (s : State) : Host.Outcome State Fault Refusal :=
  act2 s t (fun s => datagramReceiveEffect s part d)

/-- R358, R359, R279: a datagram of this crown goes to its first egress queue, or to this crown's own function. -/
def State.sendDatagram (s : State) (p f : Nat) (d : Datagram) : State :=
  let s := s.countHeart 0x3A5 1
  if d.dstCrown = s.crownId then datagramReceiveEffect s p d
  else
    let gp := s.groveId p
    let flow := flowOf s.crownId gp (s.fnRid p f) 0xF0 6
    let base : Desc := { mkDesc s (s.fnIngress p f .func) Carrier.zero (poolTlp .datagram 0 d.len d.payload) 36 6 with
      kind := 3, msg := .datagram d, len := 32 + d.len, arrived := 32 + d.len, cells := ceilDiv d.len 256, destCrown := d.dstCrown, flow := flow,
      hops := s.getDef Key.ROUTE_HOP_LIMIT 8 - 1 }
    if s.unreachable d.dstCrown then s.undeliverable base 7
    else match s.routeOrHome d.dstCrown flow with
      | some q =>
        let s := if s.trunkUp q then s.stick d.dstCrown flow q else s
        s.placeC6 { base with egress := gOfTrunk q }
      | none => s.undeliverable base 7

/-- R358: a send descriptor keeps its rules. -/
def sendLegal (d : SendDesc) : Bool := d.zeroOk && 1 ≤ d.len && d.len ≤ 9216 && d.dstFn < 8 && d.dstQueue < 16 && d.dstCrown < 1024

/-- R358: one send descriptor: its datagram goes out, its completion (status and USER, laid out as R346) is written (DEDUCED, log entry
97). -/
def State.sendOne (s : State) (p m k : Nat) (d : SendDesc) : State :=
  let f := mqFn m
  let q := queueOf ((s.part p).fn f).sendQ k
  if !q.enable || q.state ≠ 1 || !((s.part p).fn f).busMaster then s
  else
    let st := if sendLegal d then readStatus d.payload else 1
    let s := match st, d.payload with
      | 0, .data bs => s.sendDatagram p f { dstCrown := d.dstCrown, dstFn := d.dstFn, dstQueue := d.dstQueue, srcCrown := s.crownId, srcFn := m,
                                            srcQueue := k, len := d.len, cong := d.ect.toNat, payload := bs.take d.len }
      | _, _ => s
    let word := d.user * 2 ^ 64 + st * 2 ^ 56 + q.phase * 2 ^ 48 + q.head.toNat * 2 ^ 32
    let s := s.modSendQ p f k Ring.advance
    let s := s.issue p f .func 6 (q.cplBase + 16 * q.head.toNat) (leBytes 16 word)
    let s := if d.intr || statusStops st then s.vector p f k else s
    if statusStops st then s.modSendQ p f k (fun r => { r with state := 2, errIndex := q.head }) else s

/-- A message-queue function exists. -/
def State.isMq (s : State) (p m k : Nat) : Bool := p < 64 && m < 8 && k < 16 && s.isHome p && (s.part p).fnExists (mqFn m)

/-- R358, R495: a send queue's doorbell; at governor level 1 and above no send starts. -/
def sendDoorbellEffect (s : State) (p m k : Nat) (tail : BitVec 16) (ds : List SendDesc) : State :=
  if !s.isMq p m k then s
  else
    let s := s.modSendQ p (mqFn m) k (fun r => { r with tail := tail })
    let q := queueOf ((s.part p).fn (mqFn m)).sendQ k
    if s.power.govLevel ≠ 0 || ((s.part p).fn (mqFn m)).fld .powerState ≠ 0 then s
    else s.each (ds.take q.waiting) (fun s d => s.sendOne p m k d)

/-- SEND_DOORBELL -/
def execSendDoorbell (t part m k : Nat) (tail : BitVec 16) (descs : List SendDesc) (s : State) : Host.Outcome State Fault Refusal :=
  act2 s t (fun s => sendDoorbellEffect s part m k tail descs)

/-- R361: a receive queue's doorbell posts buffers. -/
def receiveDoorbellEffect (s : State) (p m k : Nat) (tail : BitVec 16) (bufs : List (Nat × Nat)) : State :=
  if !s.isMq p m k then s
  else
    let q := queueOf ((s.part p).fn (mqFn m)).recvQ k
    let old := assocGetD ((s.part p).fn (mqFn m)).posted k []
    let s := s.modRecvQ p (mqFn m) k (fun r => { r with tail := tail })
    let q' := { q with tail := tail }
    if q.enable && ((s.part p).fn (mqFn m)).busMaster then
      s.modFn p (mqFn m) (fun x => { x with posted := assocPut x.posted k (old ++ bufs.take (q'.waiting - old.length)) })
    else s

/-- RECEIVE_DOORBELL -/
def execReceiveDoorbell (t part m k : Nat) (tail : BitVec 16) (bufs : List (Nat × Nat)) (s : State) : Host.Outcome State Fault Refusal :=
  act1 s t (fun s => receiveDoorbellEffect s part m k tail bufs)

/-! ### When a function stops (R363 to R365) -/

/-- A module function of a home partition. -/
def State.isFn (s : State) (p f : Nat) : Bool := p < 64 && s.isHome p && (s.part p).fnExists f

/-- BUS_MASTER_ENABLE_CLEAR -/
def execBusMasterEnableClear (t part f : Nat) (s : State) : Host.Outcome State Fault Refusal :=
  act2 s t (fun s => if s.isFn part f && ((s.part part).fn f).busMaster then ((s.masterOff part f).letGo part f).serveRings else s)

/-- FUNCTION_LEVEL_RESET -/
def execFunctionLevelReset (t part f : Nat) (s : State) : Host.Outcome State Fault Refusal :=
  act2 s t (fun s => if s.isFn part f then ((s.fnReset part f).letGo part f).serveRings else s)

/-- FLR_COMPLETE -/
def execFlrComplete (t part f : Nat) (s : State) : Host.Outcome State Fault Refusal :=
  act1 s t (fun s => if s.isFn part f then s.modFn part f (fun x => { x with flrRunning := false }) else s)

/-- R338, R365: a read of a function has no completion within its timeout: its descriptor completes with TIMEOUT, the tag is
quarantined. -/
def functionCompletionTimeoutEffect (s : State) (p f tag : Nat) : State :=
  match ((s.part p).fn f).outstanding.find? (·.1 == tag) with
  | some (_, idx, since) =>
    if !s.isFn p f || !s.after since (s.cplTimeout p) then s
    else if f = 0 || 17 ≤ f then s.lateTags p f idx
    else
      let r := ((s.part p).fn f).ring
      let i := if idx = fetchMark then r.head.toNat else idx
      let s := if idx = fetchMark then s.modFn p f (fun x => { x with ring := { x.ring with fetched := x.ring.fetched + 1 } }) else s
      let s := (s.lateTags p f idx).ringComplete { part := p, vf := f, index := i } 5 0 0 false
      (s.issueRecords f .engine 0).keepRing p f 0
  | none => s

/-- FUNCTION_COMPLETION_TIMEOUT -/
def execFunctionCompletionTimeout (t part f tag : Nat) (s : State) : Host.Outcome State Fault Refusal :=
  act2 s t (fun s => functionCompletionTimeoutEffect s part f tag)

end Sys2Proof.Machine
end

