-- ==== Sys2Proof/Machine/Heart.lean ====
section
/-! DEFINITION. What stands behind the heartwood's gates (R254, R257, R339, R340, R357, R362, R433, R466): the registers of
module functions, MSI-X tables, the event queue, the mailbox, the pool, and the commands of the mailbox. -/

namespace Sys2Proof.Machine

/-- The heartwood runs (DEDUCED, log entry 144). -/
def State.awake (s : State) : Bool := s.power.standby && s.hier.dies.getD 4 .running = .running

/-! ### Little-endian registers -/

/-- Byte `k` of a number, least significant first. -/
def byteOf (v k : Nat) : Byte := BitVec.ofNat 8 (v / 256 ^ k)

/-- An access of `len` bytes at `off` touches the `n` bytes at `r`. -/
def touches (off len r n : Nat) : Bool := r < off + len && off < r + n

/-- The value of an `n`-byte register at `r` after a write of `data` at `off` (DESIGN CHOICE, log entry 9). -/
def mergeReg (old off : Nat) (data : List Byte) (r n : Nat) : Nat :=
  leNat ((List.range n).map (fun k =>
    if off ≤ r + k && r + k < off + data.length then data.getD (r + k - off) 0 else byteOf old k))

/-- The part of a write that falls at `lo` and after, with offsets counted from `lo`. -/
def writeFrom (off : Nat) (data : List Byte) (lo : Nat) : Nat × List Byte :=
  if lo ≤ off then (off - lo, data) else (0, data.drop (lo - off))

/-! ### Ring registers (R339, R340, R357) -/

/-- RING_STATUS (DEDUCED, log entry 97). -/
def Ring.status (r : Ring) : Nat :=
  let st := if r.state = 1 && r.head = r.tail && r.fetched = 0 then 0 else r.state
  st * 2 ^ 60 + (if st = 2 then r.errIndex.toNat * 2 ^ 32 else 0) +
    (if st = 3 then r.abortHead.toNat * 2 ^ 16 + r.abortCount.toNat else 0)

/-- RING_CTL. -/
def Ring.ctl (r : Ring) : Nat := r.enable.toNat + r.log2Size * 2 ^ 16

/-- The register at an offset of a ring's block, as a read returns it. -/
def Ring.reg (r : Ring) (o : Nat) : Nat :=
  match o with
  | 0x08 => r.base
  | 0x10 => r.cplBase
  | 0x18 => r.ctl
  | 0x20 => r.head.toNat
  | 0x28 => r.status
  | _ => 0

/-- RING_BASE, CPL_BASE and LOG2_SIZE after a write; the bits that must be zero stay zero (DESIGN CHOICE, log entry 9). -/
def Ring.written (r : Ring) (off : Nat) (data : List Byte) : Ring :=
  let r := if touches off data.length 8 8 then { r with base := mergeReg r.base off data 8 8 / 64 * 64 } else r
  let r := if touches off data.length 16 8 then { r with cplBase := mergeReg r.cplBase off data 16 8 / 16 * 16 } else r
  if touches off data.length 0x18 4 then { r with log2Size := field (mergeReg r.ctl off data 0x18 4) 20 16 } else r

/-- RESET and ENABLE as a write of RING_CTL gives them. -/
def Ring.ctlWrite (r : Ring) (off : Nat) (data : List Byte) : Option (Bool × Bool) :=
  if touches off data.length 0x18 4 then
    let v := mergeReg r.ctl off data 0x18 4
    some (bitOf v 1, bitOf v 0)
  else none

/-- The new tail, when a write reaches the doorbell. -/
def tailWrite (off : Nat) (data : List Byte) : Option (BitVec 16) :=
  if touches off data.length 0 4 then some (BitVec.ofNat 16 (mergeReg 0 off data 0 4)) else none

/-! ### MSI-X tables (R220, R254, R339, R357) -/

/-- Word `w` of a function's MSI-X table: the fourth word of each entry holds the mask bit. -/
def Function.tableWord (fn : Function) (w : Nat) : Nat :=
  if w % 4 = 3 then (if w / 4 ∈ fn.unmasked then 0 else 1) else fn.fld (.other (0x10000 + 4 * w))

/-- Eight bytes of the table. -/
def Function.tableAt (fn : Function) (o : Nat) : Nat := fn.tableWord (o / 4) + fn.tableWord (o / 4 + 1) * 2 ^ 32

/-- Sixty-four pending bits from a vector on. -/
def Function.pendingAt (fn : Function) (v : Nat) : Nat :=
  ((List.range 64).map (fun k => if v + k ∈ fn.pendingVecs then 2 ^ k else 0)).sum

/-- A write of the table of `vecs` vectors; clearing a mask bit sends what is pending. -/
def State.writeTable (s : State) (p f vecs off : Nat) (data : List Byte) : State :=
  s.each ((List.range ((off % 4 + data.length + 3) / 4)).map (off / 4 + ·)) (fun s w =>
    if 4 * vecs ≤ w then s
    else
      let v := mergeReg (((s.part p).fn f).tableWord w) off data (4 * w) 4
      if w % 4 = 3 then
        if bitOf v 0 then s.modFn p f (fun x => { x with unmasked := eraseAll x.unmasked (w / 4) }) else s.unmask p f (w / 4)
      else s.modFn p f (fun x => { x with fields := assocPut x.fields (.other (0x10000 + 4 * w)) v }))

/-! ### BAR0 of module functions -/

/-- The eight bytes of a function's BAR0 from an aligned offset on. -/
def State.fnReg (s : State) (p f o : Nat) : Nat :=
  let x := s.part p
  let fn := x.fn f
  if f = 0 then
    if o < 0x8000 then fn.tableAt o
    else if o < 0x8100 then fn.pendingAt (8 * (o - 0x8000))
    else match o with
      | 0x8100 => x.evq.base
      | 0x8108 => x.evq.log2Size
      | 0x8110 => x.evq.head
      | 0x8118 => x.evq.tail
      | 0x8120 => x.evq.overflow
      | 0x8200 => x.measGen.toNat
      | _ => 0
  else if f ≤ 16 then
    if o < 0x1000 then fn.ring.reg o
    else if o < 0x1100 then fn.tableAt (o - 0x1000)
    else if o = 0x1800 then fn.pendingAt 0 % 2 ^ 16
    else 0
  else if o < 0x1000 then (queueOf fn.sendQ (o / 256)).reg (o % 256)
  else if o < 0x2000 then (queueOf fn.recvQ ((o - 0x1000) / 256)).reg (o % 256)
  else if 0x8000 ≤ o && o < 0x8400 then fn.tableAt (o - 0x8000)
  else if o = 0xA000 then s.crownId * 2 ^ 16 + (f - 17)
  else 0

/-- Bytes of BAR0 as a read returns them. -/
def State.fnBytes (s : State) (p f off len : Nat) : List Byte :=
  (List.range len).map (fun k => byteOf (s.fnReg p f ((off + k) / 8 * 8)) ((off + k) % 8))

/-- A write to the registers of an engine VF. -/
def State.vfWrite (s : State) (p f off : Nat) (data : List Byte) : State :=
  let ctl := ((s.part p).fn f).ring.ctlWrite off data
  let s := s.modFn p f (fun x => { x with ring := x.ring.written off data })
  let s := match ctl with
    | some (true, _) => s.ringClear p f
    | some (false, true) => (s.modFn p f (fun x => { x with ring := x.ring.start })).serveRings
    | some (false, false) => s.modFn p f (fun x => { x with ring := { x.ring with enable := false } })
    | none => s
  let s := match tailWrite off data with
    | some t => s.doorbell p f t
    | none => s
  if touches off data.length 0x1000 0x100 then
    let w := writeFrom off data 0x1000
    s.writeTable p f 16 w.1 w.2
  else s

/-- A write to one block of a message-queue function. Descriptors and buffers behind a new tail come with the doorbell
commands (DEDUCED, log entry 38). -/
def State.queueWrite (s : State) (p f k : Nat) (recv : Bool) (off : Nat) (data : List Byte) : State :=
  let upd := fun (s : State) (h : Ring → Ring) => if recv then s.modRecvQ p f k h else s.modSendQ p f k h
  let q := queueOf (if recv then ((s.part p).fn f).recvQ else ((s.part p).fn f).sendQ) k
  let s := upd s (fun r => r.written off data)
  let s := match q.ctlWrite off data with
    | some (true, _) =>
      let s := upd s (fun r => { Ring.reset with base := r.base, cplBase := r.cplBase, log2Size := r.log2Size })
      if recv then s.modFn p f (fun x => { x with posted := assocErase x.posted k }) else s
    | some (false, true) => upd s Ring.start
    | some (false, false) => upd s (fun r => { r with enable := false })
    | none => s
  match tailWrite off data with
  | some t => upd s (fun r => { r with tail := t })
  | none => s

/-- A write to the registers of a message-queue function. -/
def State.mqWrite (s : State) (p f off : Nat) (data : List Byte) : State :=
  let s := s.each ((List.range 32).filter (fun b => touches off data.length (256 * b) 256)) (fun s b =>
    let w := writeFrom off data (256 * b)
    s.queueWrite p f (b % 16) (16 ≤ b) w.1 w.2)
  if touches off data.length 0x8000 0x400 then
    let w := writeFrom off data 0x8000
    s.writeTable p f 64 w.1 w.2
  else s

/-- A write to PF0's table and registers. -/
def State.pf0Write (s : State) (p off : Nat) (data : List Byte) : State :=
  let s := if off < 0x8000 then s.writeTable p 0 2048 off data else s
  let upd := fun (s : State) (r : Nat) (h : EventQueue → EventQueue) =>
    if touches off data.length r 8 then s.modPart p (fun x => { x with evq := h x.evq }) else s
  let s := upd s 0x8100 (fun e => { e with base := mergeReg e.base off data 0x8100 8 })
  let s := upd s 0x8108 (fun e => { e with log2Size := mergeReg e.log2Size off data 0x8108 8 })
  upd s 0x8110 (fun e => { e with head := mergeReg e.head off data 0x8110 8 })

/-- A write to BAR0 of a module function. -/
def State.fnBarWrite (s : State) (p f off : Nat) (data : List Byte) : State :=
  if f = 0 then s.pf0Write p off data else if f ≤ 16 then s.vfWrite p f off data else s.mqWrite p f off data

/-! ### The mailbox (R433) -/

/-- MB_DOORBELL: a request of a length; one that is out of range, or comes while BUSY, is ignored and counted. -/
def mbDoorbellEffect (s : State) (p len : Nat) : State :=
  if 64 ≤ p || !s.isHome p then s
  else if (s.part p).mailbox.busy || len < 24 || 4096 < len then
    (s.modBocel (fun b => { b with mbIgnored := b.mbIgnored + 1 })).countHeart 0x3C7 1
  else s.modPart p (fun x => { x with mailbox := { x.mailbox with busy := true, ready := false } })

/-- MB_DOORBELL -/
def execMbDoorbell (t part len : Nat) (s : State) : Host.Outcome State Fault Refusal :=
  act1 s t (fun s => mbDoorbellEffect s part len)

/-- MB_STATUS: a write of 1 to READY clears it. -/
def mbReadyClearEffect (s : State) (p : Nat) : State :=
  if p < 64 && s.isHome p then s.modPart p (fun x => { x with mailbox := { x.mailbox with ready := false } }) else s

/-- MB_READY_CLEAR -/
def execMbReadyClear (t part : Nat) (s : State) : Host.Outcome State Fault Refusal :=
  act1 s t (fun s => mbReadyClearEffect s part)

/-- A register of the mailbox. -/
def Mailbox.reg (m : Mailbox) (o : Nat) : Nat :=
  match o with
  | 0x2008 => m.busy.toNat + m.ready.toNat * 2 + m.respLen * 2 ^ 16
  | 0x2010 => m.vector.toNat
  | _ => 0

/-- Bytes of the mailbox as a read returns them. -/
def Mailbox.bytes (m : Mailbox) (off len : Nat) : List Byte :=
  (List.range len).map (fun k =>
    let o := off + k
    if o < 0x1000 then cellGet m.request o
    else if o < 0x2000 then m.response.getD (o - 0x1000) 0
    else byteOf (m.reg (o / 8 * 8)) (o % 8))

/-- A write to the mailbox. -/
def State.mailboxWrite (s : State) (p off : Nat) (data : List Byte) : State :=
  let s := if off < 0x1000 then s.modPart p (fun x => { x with mailbox := { x.mailbox with
      request := cellsPut x.mailbox.request off (data.take (0x1000 - off)) } }) else s
  let s := if touches off data.length 0x2010 4 then s.modPart p (fun x => { x with mailbox := { x.mailbox with
      vector := BitVec.ofNat 32 (mergeReg x.mailbox.vector.toNat off data 0x2010 4) } }) else s
  let s := if touches off data.length 0x2008 1 && bitOf (mergeReg 0 off data 0x2008 4) 1 then mbReadyClearEffect s p else s
  if touches off data.length 0x2000 4 then mbDoorbellEffect s p (mergeReg 0 off data 0x2000 4 % 8192) else s

/-! ### Accesses to heartwood targets -/

/-- The function of the engine register gate that an offset names, and the offset in its BAR0 (R257). -/
def engineReg (off : Nat) : Option (Nat × Nat × Nat) :=
  let p := off / 2 ^ 20
  let r := off % 2 ^ 20
  if r < 0x40000 then some (p, 1 + r / 0x4000, r % 0x4000)
  else if r < 0xC0000 then some (p, 17 + (r - 0x40000) / 0x10000, (r - 0x40000) % 0x10000)
  else none

/-- A request to the pool in the name of an owner: the lines read, or the bytes before an atomic operation. -/
def State.heartPool (s : State) (o : Owner) (x : Tlp) : State × List Byte × Bool :=
  match x.kind with
  | .memRead => s.poolGet o x.addr x.lenBytes goodRead
  | .memWrite => ((s.poolPut o x.addr x.data goodRead true).1, [], false)
  | .cas =>
    let n := x.data.length / 2
    s.atomicLine o .cas x.addr n (leNat (x.data.drop n)) (leNat (x.data.take n)) goodRead
  | k => s.atomicLine o k x.addr x.data.length (leNat x.data) 0 goodRead

/-- What a target behind a heartwood gate answers to a request that its gate has let through. The numbers of gates are those of R258;
0x100 is PF0's own registers, 0x101 a multicast copy (DESIGN CHOICE, log entry 45) (DESIGN CHOICE, log entry 46) (DESIGN CHOICE, log entry
47) (DESIGN CHOICE, log entry 48). -/
def State.heartAccess (s : State) (gate own part : Nat) (x : Tlp) : State × CplStatus × List Byte :=
  let zeros := List.replicate x.lenBytes 0
  if gate = 0x90 then
    let o : Owner := if own = 0 then Owner.module else { gp := BitVec.ofNat 12 (own - 1), epoch := s.epochOf (own - 1) }
    let r := s.heartPool o x
    (r.1, .successful, r.2.1)
  else if gate = 0x101 then (s.emit (.answer "multicast to the heartwood" [x.addr]), .successful, [])
  else if x.kind = .memRead then
    if gate = 0x91 then
      match engineReg x.addr with
      | some (p, f, o) => (s, .successful, if s.isFn p f then s.fnBytes p f o x.lenBytes else zeros)
      | none => (s, .successful, zeros)
    else if gate = 0x92 then (s, .successful, (s.part (x.addr / 0x4000)).mailbox.bytes (x.addr % 0x4000) x.lenBytes)
    else if gate = 0x100 then (s, .successful, s.fnBytes part 0 x.addr x.lenBytes)
    else (s.drew, .successful, (List.range x.lenBytes).map (fun k => BitVec.ofNat 8 (Config.gateSpace gate (x.addr + k) s.draws)))
  else if x.kind = .memWrite then
    if gate = 0x91 then
      match engineReg x.addr with
      | some (p, f, o) => (if s.isFn p f then s.fnBarWrite p f o x.data else s, .successful, [])
      | none => (s, .successful, [])
    else if gate = 0x92 then (s.mailboxWrite (x.addr / 0x4000) (x.addr % 0x4000) x.data, .successful, [])
    else if gate = 0x100 then (s.pf0Write part x.addr x.data, .successful, [])
    else (s.emit (.answer "gate write" [gate, x.addr]), .successful, [])
  else (s, .unsupported, [])

/-- A pool access that must wait for a sweep (R322, R323). -/
def State.heartWaits (s : State) (gate own : Nat) : Bool :=
  gate = 0x90 && s.poolWaits (if own = 0 then Owner.module else { gp := BitVec.ofNat 12 (own - 1), epoch := s.epochOf (own - 1) })

end Sys2Proof.Machine
end

