-- ==== Sys2Proof/Machine/Faults.lean ====
section
/-! DEFINITION. Fault collection, windows, acknowledgement and release, containment messages, injection slots and the debug
port (R371 to R403). -/

namespace Sys2Proof.Machine

/-! ### Grave faults (R373, R385) -/

/-- An F4 event with its cause; the first cause stays. -/
def State.grave (s : State) (src code cause : Nat) : State :=
  let s := s.modFaults (fun f => { f with f4cause := if f.f4cause = 0 then cause else f.f4cause })
  s.note { src := src, code := code, cls := 4, level := 4, unit := some .crown, part := none, action := 8, inj := false }

/-- Tamper, or a key store that fails its integrity check: the key store is zeroized (R319, R373) (DEDUCED, log entry 44). -/
def State.tampered (s : State) : State :=
  let s := s.modSec (fun x => { x with zeroized := true, ide := [] })
  s.grave 0xBF5 (Config.eventCode 0xBF5) 2

/-- TAMPER -/
def execTamper (t : Nat) (s : State) : Host.Outcome State Fault Refusal := act2 s t State.tampered

/-! ### Error signals (R374 to R379) -/

/-- R216, R217: a source that some chapter gives an event, outside the software events: rows of R98, R152, R276 and R307, R197, R370,
R521, R66 and R467, with the sources that R403 and R528 name. Of a stem, source 0 is that of its die-to-die links (DEDUCED, log entry
15). A row that no chapter defines never fires. -/
def sourceFires (src : Nat) : Bool :=
  if src < 0xA00 then (let k := src % 16; k ≤ 7 || (k = 8 && isT (src / 16)) || k = 14 || k = 15)
  else if src < 0xAA0 then true
  else if src < 0xAE0 then true
  else if src < 0xB00 then src % 8 = 0 || 6 ≤ src % 8
  else if src < 0xB80 then true
  else if src < 0xB90 then src ≤ 0xB86
  else if src < 0xBC0 then true
  else if src < 0xBE0 then src ≤ 0xBD0
  else if src < 0xBF0 then src ≤ 0xBE8
  else if src < 0xC00 then src ≤ 0xBF8
  else src ≤ 0xC20

/-- R376: the collector of a unit in a gated limb or an offline die raises nothing. -/
def State.collectorSilent (s : State) (u : UnitId) : Bool :=
  match u with
  | .twig g => s.limbGated (limbOf g) || s.hier.dies.getD (stemOf g) .running = .offline
  | .bough b => s.limbGated (limbOfBough b) || s.hier.dies.getD (b / 10) .running = .offline
  | .limb l => s.limbGated l || s.hier.dies.getD (l / 2) .running = .offline
  | .die d => s.hier.dies.getD d .running = .offline
  | .crown => false

/-- R395: the hit of an armed slot: it disarms itself and raises INJECT_HIT. -/
def State.injectHit (s : State) (k : Nat) : State :=
  let v := (s.faults.inject.getD k 0).toNat
  if bitOf v 31 then
    (s.modFaults (fun f => { f with inject := f.inject.modify k (fun v => v &&& 0x7FFFFFFF#32) })).noteAt 0xBD0
      (field v 27 24 * 16 + k) 0
  else s

/-- R374, R377: a source signals an error of its class: F2 contains the unit or partition that it names, F3 and F4 bring the
crown-wide steps. -/
def errorSignalEffect (s : State) (e : ErrorSig) : State :=
  let silent : Bool := match unitOfSource e.source with
    | some u => s.collectorSilent u
    | none => false
  if silent || !sourceFires e.source || 4 < e.cls then s
  else
    let s := match e.injSlot with
      | some k => s.injectHit k
      | none => s
    let base := { Ev.plain e.source e.code e.cls with inj := e.injSlot.isSome }
    match e.cls with
    | 2 =>
      (match e.unit, e.part with
        | some .crown, _ => s.note base
        | some u, _ => (s.contain u).note { base with level := u.level, unit := some u, action := u.action }
        | none, some p => if p < 64 then (s.containPart p false none).note { base with level := 5, part := some p, action := 5 } else s.note base
        | none, none => s.note base)
    | 3 => s.note { base with level := 4, unit := some .crown, action := 7 }
    | 4 =>
      (match e.f4cause with
        | 1 => s.fetDamage
        | 2 => s.tampered
        | 3 => s.grave Config.rootSource (Config.eventCode Config.rootSource) 3
        | _ => s)
    | _ => s.note base

/-- ERROR_SIGNAL -/
def execErrorSignal (t : Nat) (e : ErrorSig) (s : State) : Host.Outcome State Fault Refusal :=
  act2 s t (fun s => errorSignalEffect s e)

/-- R374, R376: a pair stays broken for 3 core cycles, at the collector that takes the unit's output: F3 at a limb or stem collector, F4
at the root (DEDUCED, log entry 40) (DESIGN CHOICE, log entry 41). -/
def pathBrokenEffect (s : State) (u : UnitId) : State :=
  let at_ := fun (src : Nat) => s.note { src := src, code := Config.eventCode src, cls := 3, level := 4, unit := some .crown, part := none,
                                         action := 7, inj := false }
  if s.collectorSilent u then s
  else match u with
    | .twig g => at_ (srcLimb (limbOf g) 7)
    | .bough b => at_ (srcLimb (limbOfBough b) 7)
    | .limb l => at_ (srcStem (l / 2) 7)
    | .die _ => s.grave Config.rootSource (Config.eventCode Config.rootSource) 3
    | .crown => s.grave Config.rootSource (Config.eventCode Config.rootSource) 3

/-- PATH_BROKEN -/
def execPathBroken (t : Nat) (u : UnitId) (s : State) : Host.Outcome State Fault Refusal :=
  act2 s t (fun s => pathBrokenEffect s u)

/-- F1_INTERVAL: with a new second the counts of F1 events start afresh (R372). -/
def execF1Interval (t : Nat) (s : State) : Host.Outcome State Fault Refusal := act1 s t State.f1Roll

/-- VIOLATION_INTERVAL: with a new second the counts of violations start afresh (R390). -/
def execViolationInterval (t : Nat) (s : State) : Host.Outcome State Fault Refusal := act1 s t State.violRoll

/-! ### Windows (R381 to R384) -/

/-- The entry with a number. -/
def State.histEntry (s : State) (seq : BitVec 15) : Option HistEntry := s.faults.history.find? (·.seq == seq)

/-- Closing the window of an entry. -/
def State.closeWindow (s : State) (seq : BitVec 15) : State :=
  s.modFaults (fun f => { f with history := f.history.map (fun h => if h.seq = seq then { h with window := none } else h) })

/-- The number by which an event's code names a unit (R216) (DESIGN CHOICE, log entry 39). -/
def unitCode : UnitId → Nat
  | .twig g => g
  | .bough b => b
  | .limb l => l
  | .die d => d
  | .crown => 0

/-- The escalation code of F2_CEILING for a unit: 1 twig to 5 crown (DESIGN CHOICE, log entry 39). -/
def ceilingCode (u : UnitId) : Nat := u.rank + 1

/-- R383: an F2 window ends without acknowledgement. -/
def faultWindowExpireEffect (s : State) (seq : BitVec 15) : State :=
  match s.histEntry seq with
  | some h =>
    match h.window with
    | some w =>
      if h.cls ≠ 2 || s.now < w then s
      else
        let s := s.closeWindow seq
        match h.unit with
        | some u =>
          if 1 ≤ h.action && h.action ≤ 4 then
            let v := u.up
            if s.getDef Key.F2_CEILING 4 < ceilingCode v then s.noteAt 0xBCA (unitCode u) 0
            else if v = .crown then
              (s.countHeart 0x3B2 1).note { src := 0xBC9, code := 0, cls := 3, level := 4, unit := some .crown, part := none, action := 7,
                                            inj := false }
            else
              ((s.countHeart 0x3B2 1).contain v).note { src := 0xBC9, code := unitCode v, cls := 2, level := v.level, unit := some v,
                                                        part := none, action := v.action, inj := false }
          else s.noteAt 0xBCA (unitCode u) 0
        | none => s.noteAt 0xBCA (h.source % 65536) 0
    | none => s
  | none => s

/-- FAULT_WINDOW_EXPIRE -/
def execFaultWindowExpire (t : Nat) (seq : BitVec 15) (s : State) : Host.Outcome State Fault Refusal :=
  act2 s t (fun s => faultWindowExpireEffect s seq)

/-- The open F3 entry. -/
def State.f3Entry (s : State) : Option HistEntry := s.faults.history.find? (fun h => h.cls == 3 && h.window.isSome)

/-- R384: the F3 window ends without acknowledgement: the warm reset. -/
def f3WindowExpireEffect (s : State) : State :=
  match s.f3Entry with
  | some h =>
    (match h.window with
      | some w => if s.faults.crown = .f3Open && w ≤ s.now then s.warmReset (warmCode .faultWindow) else s
      | none => s)
  | none => s

/-- F3_WINDOW_EXPIRE -/
def execF3WindowExpire (t : Nat) (s : State) : Host.Outcome State Fault Refusal := act1 s t f3WindowExpireEffect

/-- R382: whether an operator may name an entry: a twig-level F2 entry whose twig its partition holds whole, or one of its own
partition or slice. -/
def State.operatorMayAck (s : State) (slot : Nat) (h : HistEntry) : Bool :=
  if slot < 64 then
    match h.unit with
    | some (.twig g) => if h.level = 0 then h.cls == 2 && s.holdsWhole slot g else (h.level == 5 || h.level == 7) && h.code % 64 == slot
    | _ => (h.level == 5 || h.level == 7) && h.code % 64 == slot
  else false

/-- R382: an acknowledgement counts before the last cycle of the window; a core cycle is less than the 1 ns of the local count (DESIGN
CHOICE, log entry 42). -/
def HistEntry.ackOpen (h : HistEntry) (now : Nat) : Bool :=
  match h.window with
  | some w => now + 1 < w
  | none => false

/-- Answers of a command write: done, the role may not, or the state refuses. -/
inductive Verdict where
  | done (s : State)
  | denied
  | refused
  | noResource

/-- The state after a command write, changed or not. -/
def Verdict.state (v : Verdict) (s : State) : State :=
  match v with
  | .done s' => s'
  | _ => s

/-- R382, R384, R385: FAULT_ACK. -/
def State.ackFault (s : State) (who : Role) (seq : BitVec 15) : Verdict :=
  let allowed : Bool := match who, s.histEntry seq with
    | .installer _, _ => true
    | .operator n, some h => s.operatorMayAck n h
    | _, _ => false
  if !allowed then .denied
  else match s.histEntry seq with
    | some h =>
      if !h.ackOpen s.now || h.cls = 4 then .refused
      else
        let s := (s.closeWindow seq).countHeart 0x3B3 1
        .done (if h.cls = 3 && s.faults.crown = .f3Open then s.modFaults (fun f => { f with crown := .f3Acked }) else s)
    | none => .refused

/-- FAULT_ACK -/
def execFaultAck (t : Nat) (who : Role) (seq : BitVec 15) (s : State) : Host.Outcome State Fault Refusal :=
  act1 s t (fun s => (s.ackFault who seq).state s)

/-! ### Containment and release of partitions (R378, R380, R386) -/

/-- R226: some cause still keeps a released partition from ACTIVE: the upstream link of a home partition is not in L0, or the
home crown of a member is fenced. -/
def State.causeHolds (s : State) (p : Nat) : Bool :=
  match s.upTwig p with
  | some u => (s.hport (s.hportOfG u)).lstate ≠ .l0
  | none => (match s.homeCrown p with
    | some c => s.fenced c
    | none => false)

/-- A contained partition is released: ACTIVE once the cause of R226 has ended. -/
def State.releasePart (s : State) (p : Nat) (say : Bool) : State :=
  let on := s.causeHolds p
  let s := s.modPart p (fun x => { x with state := if on then .held else .active, causeOn := on, installerHeld := false, messageHeld := none })
  let s := if say then s.containMessage 2 false 0 (s.groveId p) else s
  if on then s else s.noteAt 0xBC1 p 0

/-- R384 to R386: PART_RELEASE (DEDUCED, log entry 43). -/
def State.release (s : State) (who : Role) (p : Nat) : Verdict :=
  if !who.isInstaller then .denied
  else if 64 ≤ p || s.resetsBarred || (s.part p).state ≠ .contained then .refused
  else .done (s.releasePart p (s.part p).messageHeld.isNone)

/-- PART_RELEASE -/
def execPartRelease (t : Nat) (who : Role) (part : Nat) (s : State) : Host.Outcome State Fault Refusal :=
  act1 s t (fun s => (s.release who part).state s)

/-- R400: PART_CONTAIN, by an installer or by the partition's own operator. -/
def State.containBy (s : State) (who : Role) (p : Nat) : Verdict :=
  let allowed : Bool := match who with
    | .installer _ => true
    | .operator n => n == p && n < 64
    | _ => false
  if !allowed then .denied
  else if 64 ≤ p || !s.partUsed p then .refused
  else .done ((s.containPart p who.isInstaller none).note
    { src := 0xBC7, code := p, cls := 2, level := 5, unit := none, part := some p, action := 5, inj := false })

/-- PART_CONTAIN -/
def execPartContain (t : Nat) (who : Role) (part : Nat) (s : State) : Host.Outcome State Fault Refusal :=
  act2 s t (fun s => (s.containBy who part).state s)

/-- R380: what a containment message of another crown brings here. -/
def State.containTold (s : State) (m : ContainMsg) : State :=
  let named := s.binds.filter (fun b => b.2.2.crown == m.reporter && b.2.2.twig == m.twig)
  match m.kind with
  | 1 =>
    if m.contained then
      s.each named (fun s b => if b.2.2.kind = 1 then s.vdpLinkDown b.1 b.2.1 else s.sliceDown b.1 b.2.1)
    else s
  | 2 =>
    (match s.partOfGp m.gpart with
      | some p =>
        if m.contained then
          (s.containPart p false (some m.reporter)).note
            { src := 0xBC7, code := p, cls := 2, level := 5, unit := none, part := some p, action := 5, inj := false }
        else if (s.part p).state = .contained && (s.part p).messageHeld = some m.reporter && !(s.part p).installerHeld then s.releasePart p false
        else s
      | none => s)
  | 3 =>
    (match s.partOfGp m.gpart with
      | some p =>
        s.each (named.filter (fun b => b.1 == p && b.2.2.kind == 2)) (fun s b =>
          if m.contained then s.sliceDown b.1 b.2.1
          else (s.modVdp b.1 b.2.1 (fun x => { x with present := true })).slotEvent b.1 b.2.1 0)
      | none => s)
  | _ => s

/-- R380, R286: a containment message on trunk `q`: the first copy is acted on and forwarded. -/
def containmentMessageEffect (s : State) (q : Nat) (m : ContainMsg) : State :=
  let newer : Bool := match assocGet s.fabric.containSeen m.reporter with
    | some k => newer16 m.number k
    | none => true
  -- row 0x0B of R391: the T-twig that it names is no far end of the trunks to its reporter (DEDUCED, log entry 193)
  let ours := (List.range 16).filterMap (fun r => (s.trunk r).peer)
  let wrong : Bool := (m.kind = 1 || m.kind = 3) && isT m.twig && ours.any (fun e => e.1 == m.reporter) &&
    !ours.any (fun e => e.1 == m.reporter && e.2 == trunkOfG m.twig)
  if m.reporter = s.crownId || !newer then s
  else if wrong then s.contradicts q
  else
    let s := s.modFabric (fun f => { f with containSeen := assocPut f.containSeen m.reporter m.number })
    let s := (s.countHeart 0x3B6 1).sendControl (fun r => r ≠ q) (.containment m)
    s.containTold m

/-- CONTAINMENT_MESSAGE -/
def execContainmentMessage (t q : Nat) (m : ContainMsg) (s : State) : Host.Outcome State Fault Refusal :=
  act2 s t (fun s => containmentMessageEffect s q m)

/-! ### Injection slots (R393, R394) -/

/-- R394: KIND allowed for SCOPE, and UNIT in range. -/
def injectLegal (v : Nat) : Bool :=
  let kind := field v 30 28
  let u := field v 23 16
  match field v 27 24 with
  | 0 => u < 160 && (kind == 3 || (kind == 4 && isT u) || (kind == 5 && !isT u))
  | 1 => u < 8 && (kind == 1 || kind == 2)
  | 2 => u < 4 && kind == 3
  | 3 => u < 24 && kind == 6
  | 4 => u < 32 && (kind == 1 || kind == 2)
  | _ => false

/-- A write of INJECT_ARM. -/
def State.arm (s : State) (k v : Nat) : State :=
  s.modFaults (fun f => { f with inject := f.inject.set k (BitVec.ofNat 32 v), injectLeft := f.injectLeft.set k (field v 15 0) })

/-- INJECT_ARM -/
def execInjectArm (t : Nat) (who : Role) (slot value : Nat) (s : State) : Host.Outcome State Fault Refusal :=
  act1 s t (fun s => if who.isInstaller && slot < 16 && value < 2 ^ 32 && injectLegal value then s.arm slot value else s)

/-- INJECT_DISARM: a write of 0 to ARMED. -/
def execInjectDisarm (t : Nat) (who : Role) (slot : Nat) (s : State) : Host.Outcome State Fault Refusal :=
  act1 s t (fun s =>
    if who.isInstaller && slot < 16 then s.modFaults (fun f => { f with inject := f.inject.modify slot (fun v => v &&& 0x7FFFFFFF#32) }) else s)

/-! ### The debug port (R396 to R399) -/

/-- DEBUG_POLICY bits PORT and SCAN. -/
def State.debugBit (s : State) (b : Nat) : Bool := bitOf (s.get Key.DEBUG_POLICY) b

/-- An instruction is loaded; a port that a storm has shut takes only BYPASS and IDCODE (R372). -/
def State.debugLoad (s : State) (i : DebugInstr) (allowed : Bool) : State :=
  s.modFaults (fun f => { f with debugInstr := if allowed && !f.debugShut then i else .bypass })

/-- BYPASS -/
def execBypass (t : Nat) (s : State) : Host.Outcome State Fault Refusal :=
  act1 s t (fun s => s.modFaults (fun f => { f with debugInstr := .bypass }))

/-- IDCODE: the value of JTAG_IDCODE. -/
def execIdcode (t : Nat) (s : State) : Host.Outcome State Fault Refusal :=
  act1 s t (fun s => (s.modFaults (fun f => { f with debugInstr := .idcode })).emit (.answer "idcode" [s.get Key.JTAG_IDCODE]))

/-- SAMPLE/PRELOAD: the contacts are captured, the boundary register is loaded. -/
def execSamplePreload (t : Nat) (contacts : List Bool) (s : State) : Host.Outcome State Fault Refusal :=
  act1 s t (fun s =>
    let s := s.debugLoad .sample true
    if s.faults.debugInstr = .sample then
      (s.drew.modFaults (fun f => { f with boundary := contacts })).emit (.answer "contacts" ((Config.contacts s.draws).map Bool.toNat))
    else s)

/-- EXTEST: the boundary register drives the contacts while SCAN is 1. -/
def execExtest (t : Nat) (s : State) : Host.Outcome State Fault Refusal :=
  act1 s t (fun s =>
    let s := s.debugLoad .extest (s.debugBit 30)
    if s.faults.debugInstr = .extest then s.emit (.answer "contacts driven" (s.faults.boundary.map Bool.toNat)) else s)

/-- DBG_ACCESS: the two data registers are selected; DBG_DATA can be read (DESIGN CHOICE, log entry 157). -/
def execDbgAccess (t : Nat) (s : State) : Host.Outcome State Fault Refusal :=
  act1 s t (fun s =>
    let s := s.debugLoad .dbgAccess (s.debugBit 31)
    if s.faults.debugInstr = .dbgAccess then s.emit (.answer "DBG_DATA" [s.faults.dbgErr.toNat, s.faults.dbgData.toNat]) else s)

/-- A debug request as the gates see it. -/
def State.debugIngress (s : State) (part : Nat) : Ingress :=
  { src := srcDebug, part := part, rclass := .debug, reqId := 0, entry := none, key := none, trunk := none, srcCrown := s.crownId,
    gpart := s.groveId part, track := 0, flow := 0, hops := 0 }

/-- R397, R398: one aligned access of eight bytes. A target of the heartwood answers at once; a port's completion comes later. -/
def State.debugGo (s : State) (gate part addr : Nat) (write : Bool) : State :=
  let data := s.faults.dbgData
  let i := s.debugIngress part
  let x := poolTlp (if write then .memWrite else .memRead) addr 8 (if write then leBytes 8 data.toNat else [])
  if !bitOf (s.get Key.DEBUG_PARTS) part then (s.gateFault i Carrier.zero x gate 2).debugEnd false 0
  else
    let r := if gate < 144 then s.toPort i Carrier.zero x (gOfPort gate) addr true else s.toHeart i Carrier.zero x gate addr
    match r.2 with
    | [] => r.1.debugEnd false 0
    | d :: ds =>
      (match d.heart, d.msg with
        | some (gt, own), .tlp _ y =>
          if r.1.heartWaits gt own then r.1.submit i.src (some 0) (d :: ds)
          else
            let a := r.1.heartAccess gt own part y
            if write then a.1.debugEnd true data.toNat else a.1.debugEnd true (beNat a.2.2.reverse)
        | _, _ =>
          let s := r.1.submit i.src (some 0) (r.1.dress i x (d :: ds))
          if write then s.debugEnd true data.toNat else s.modFaults (fun f => { f with dbgErr := false }))

/-- R397: DBG_CMD is updated, after `data` has been shifted into DBG_DATA. A command whose zero fields are set, whose address is not aligned, or that names no gate performs
no access. -/
def dbgCmdUpdateEffect (s : State) (cmd : BitVec 96) (data : BitVec 64) : State :=
  if s.faults.debugInstr ≠ .dbgAccess then s
  else
    let v := cmd.toNat
    let gate := field v 95 88
    let addr := field v 63 0
    let s := s.modFaults (fun f => { f with dbgData := data })
    if s.faults.debugShut || !s.debugBit 31 || 0x9C < gate || field v 80 64 ≠ 0 || addr % 8 ≠ 0 then s.debugEnd false 0
    else s.debugGo gate (field v 87 82) addr (bitOf v 81)

/-- DBG_CMD_UPDATE -/
def execDbgCmdUpdate (t : Nat) (cmd : BitVec 96) (data : BitVec 64) (s : State) : Host.Outcome State Fault Refusal :=
  act2 s t (fun s => dbgCmdUpdateEffect s cmd data)

end Sys2Proof.Machine
end

