-- ==== Sys2Proof/Machine/Legal.lean ====
section
/-! DEFINITION. Steps 7 and 8 of a WRITE (R409): the legal values that a value meets or breaks on its own, entry by entry, and
what the module's state refuses. -/

namespace Sys2Proof.Machine

/-! ### Status codes (R417) -/

namespace Status

abbrev ok : Nat := 0x0
abbrev noEntry : Nat := 0x1
abbrev accessDenied : Nat := 0x2
abbrev valueRefused : Nat := 0x3
abbrev typeMismatch : Nat := 0x4
abbrev needsCommit : Nat := 0x5
abbrev authFailed : Nat := 0x6
abbrev staleSeq : Nat := 0x7
abbrev busyRetry : Nat := 0x8
abbrev setState : Nat := 0x9
abbrev noResource : Nat := 0xA
abbrev validationFailed : Nat := 0xB
abbrev unreachable : Nat := 0xC
abbrev noResponse : Nat := 0xD
abbrev badMessage : Nat := 0xE
abbrev stateRefused : Nat := 0xF

end Status

/-! ### Types (R405) -/

/-- The type's code. -/
def EType.code : EType → Nat
  | .bool => 0x1
  | .u8 => 0x2
  | .u16 => 0x3
  | .u32 => 0x4
  | .u64 => 0x5
  | .i32 => 0x6
  | .ft64 => 0x8
  | .str => 0x9
  | .blob => 0xA
  | .key384 => 0xB

/-- Bytes of a value of a TYPE code with a fixed length; `none` for STR, BLOB and codes that the table does not give. -/
def typeWidth (code : Nat) : Option Nat :=
  match code with
  | 0x1 | 0x2 => some 1
  | 0x3 => some 2
  | 0x4 | 0x6 => some 4
  | 0x5 | 0x7 | 0x8 => some 8
  | 0xB => some 97
  | _ => none

/-- The value field has the form that its TYPE gives it: `len` bytes that spell `v`. -/
def formOk (type v len : Nat) : Bool :=
  v < 256 ^ len && (match typeWidth type with | some w => len == w | none => len ≤ 4096)

/-- R405: limits of the type itself. -/
def typeLegal (ty : EType) (key v len : Nat) : Bool :=
  match ty with
  | .bool => v ≤ 1
  | .blob => len == blobLen key
  | .str => len ≤ 255
  | .key384 => v == 0 || Config.onCurve v
  | _ => true

/-! ### Legal values -/

/-- Legal: between two bounds. -/
def within (v lo hi : Nat) : Bool := lo ≤ v && v ≤ hi

/-- A crown ID, or 0xFFFF. -/
def crownOrNone (v : Nat) : Bool := v < 0x400 || v == 0xFFFF
/-- A 12-bit number, or 0xFFFF. -/
def idOrNone (v : Nat) : Bool := v < 0x1000 || v == 0xFFFF

/-- R28: RESET_REQUEST. -/
def resetLegal (v : Nat) : Bool :=
  let u := field v 7 0
  field v 23 8 == 0 && (match field v 31 24 with
    | 1 => u < 160
    | 2 => u < 40
    | 3 => u < 8
    | 4 => u < 4
    | 5 => true
    | _ => false)

/-- R502, R517: a point of a curve on its own: a used one has a time, and a current below the limit, in units of 0.25 A. -/
def pointLegal (first : Bool) (firstMax currentMax v : Nat) : Bool :=
  let c := field v 31 20
  c == 0 || (1 ≤ field v 19 0 && c ≤ currentMax && (!first || c ≤ firstMax))

/-- R163: TC_CLASS_MAP: no reserved bit, no class 6. -/
def classMapLegal (v : Nat) : Bool := (List.range 8).all (fun k => !bitOf v (4 * k + 3) && field v (4 * k + 2) (4 * k) ≠ 6)

/-- R61: a slot of the schedule. -/
def slotLegal (v : Nat) : Bool :=
  match field v 7 6 with
  | 1 => field v 5 0 < 8
  | 2 => true
  | _ => field v 5 0 == 0

/-- R349: a reduction context on its own: reserved bits zero, and of a valid one codes and ranges as the table gives them (DEDUCED, log
entry 108). -/
def ctxLegal (v : Nat) : Bool :=
  let c := RedCtx.ofNat v
  let f := fun i j => blobField v 40 i j
  let size : Nat := match c.format with
    | 0x0 | 0x8 | 0x9 => 1
    | 0x1 | 0xA | 0xB => 2
    | 0x2 | 0xC => 4
    | 0x3 | 0xD => 8
    | _ => 0
  f 15 15 == 0 && f 28 31 == 0 && f 10 10 / 4 % 32 == 0 && f 16 17 < 1024 && f 18 19 < 4096 && f 20 21 < 4096 &&
    f 32 39 < 2 ^ 46 && c.stage % 0x10000 == 0 && c.parentSlot < 16 && c.localN ≤ 256 && c.childN ≤ 16 && c.redop < 6 &&
    size ≠ 0 && c.len % (max 1 size) == 0 && (!c.valid || within c.timeout 1 10000)

/-- R195: every bit of a group that names nothing is zero. -/
def groupLegal (v : Nat) : Bool := blobField v 24 20 20 ≤ 1 && blobField v 24 21 23 == 0

/-- R208: the fields of a binding that are zero whatever the rest. KIND 0b11 and the twig are left to validation (R209). -/
def bindLegal (v : Nat) : Bool :=
  field v 19 0 == 0 && (field v 63 62 ≠ 1 || field v 43 20 == 0)

/-- R249: WIN_TARGET on its own. -/
def targetLegal (v : Nat) : Bool :=
  match field v 63 62 with
  | 0 => field v 17 0 == 0
  | 1 => field v 17 8 == 0
  | 2 => field v 1 0 ≠ 3
  | _ => false

/-- Identity, resets and management. -/
def legal1 (i sub v : Nat) : Bool :=
  match i with
  | 0x1010 => crownOrNone v
  | 0x1030 => resetLegal v
  | 0x1100 => if sub == 1 then within v 1 31 else true
  | 0x1102 => 1024 ≤ v
  | 0x1110 => if sub == 0 then idOrNone v else if sub == 1 then v ≤ 5 else within v 1 10000
  | _ => true

/-- Intake and slot power. -/
def legal2 (i sub v : Nat) : Bool :=
  if 0x2210 ≤ i && i ≤ 0x221F then pointLegal (i == 0x2210) 176 479 v
  else match i with
  | 0x2001 =>
    (match sub with
      | 0 => within v 100 1100
      | 3 => within v 5 50
      | 4 => within v 5 200
      | _ => within v 1 50)
  | 0x2002 => pointLegal (sub == 0) 440 999 v
  | 0x2200 => field v 14 8 == 0 && field v 7 0 ≤ 0x8F
  | 0x2201 => v ≤ 2
  | 0x2202 => within v 100 10000
  | 0x2203 => within v 10 120
  | 0x2204 => within v 1 50
  | 0x2205 => within v 1 40
  | 0x2206 => within v 5 200
  | _ => true

/-- Host ports and trunks. -/
def legal3 (i sub v : Nat) : Bool :=
  match i with
  | 0x3000 => within v 1 7
  | 0x3006 => v < 0x40
  | 0x3010 => field v 17 0 == 0 && field v 22 18 ≤ 26
  | 0x3011 => field v 17 0 == 0 && field v 22 18 ≤ 28
  | 0x3100 => v ≤ 4 && !isTBough sub
  | 0x3110 => v ≤ 2 && !isTBough sub
  | 0x3801 => within v 1 3
  | 0x3805 => crownOrNone v
  | 0x3806 => v ≤ 1
  | _ => true

/-- Partitions, bindings, events. -/
def legal4 (i sub v : Nat) : Bool :=
  if 0x4100 ≤ i && i ≤ 0x413F then bindLegal v
  else if 0x4400 ≤ i && i ≤ 0x440F then !bitOf v 23 && field v 11 0 == 0
  else if 0x4500 ≤ i && i ≤ 0x453F then idOrNone v
  else match i with
  | 0x4000 => idOrNone v
  | 0x4001 => v == 0xFFFFFFFF || (field v 31 26 == 0 && field v 15 8 == 0)
  | 0x4200 => !isT sub && field v 30 9 == 0 && field v 8 0 ≤ 256 && (!bitOf v 31 || 1 ≤ field v 8 0)
  | 0x4202 => !isT sub && within v 1 2
  | 0x4410 => within v 0xC40 0xFFF
  | _ => true

/-- Gates and windows. -/
def legal5 (i sub v : Nat) : Bool :=
  if i < 0x5100 then field v 5 1 == 0 && field v 11 6 ≤ 0x34 && field v 63 12 % 2 ^ field v 11 6 == 0
  else if i < 0x5200 then true
  else if i < 0x5300 then field v 49 0 == 0
  else if 0x5800 ≤ i && i < 0x5900 then
    field v 51 46 == 0 && field v 11 0 == 0 && field v 56 52 ≤ 0x1C && field v 45 12 % 2 ^ field v 56 52 == 0
  else if 0x5900 ≤ i && i < 0x5A00 then targetLegal v
  else if i == 0x5A00 then !isT sub && field v 11 0 == 0
  else if i == 0x5B00 then v == 0 || within v 0x20 0x2E
  else true

/-- Classes, buffers, weights, the slot schedule. -/
def legal6 (i v : Nat) : Bool :=
  if i == 0x6000 then classMapLegal v
  else if 0x6108 ≤ i && i ≤ 0x610F then 37 ≤ v
  else if 0x6110 ≤ i && i ≤ 0x6116 then field v 15 0 ≠ 0
  else if 0x6200 ≤ i && i ≤ 0x6207 then field v 63 48 ≤ field v 47 32 && field v 31 16 ≠ 0 && field v 15 0 ≠ 0
  else if 0x6300 ≤ i && i ≤ 0x6302 then field v 63 46 < field v 45 28 && field v 14 0 == 0
  else if 0x6400 ≤ i && i ≤ 0x640F then groupLegal v
  else if 0x6600 ≤ i && i ≤ 0x660E then within v 1 1024
  else if 0x6610 ≤ i && i ≤ 0x6612 then 1 ≤ v
  else if 0x6800 ≤ i && i ≤ 0x680F then slotLegal v
  else if i == 0x6810 then idOrNone v
  else true

/-- Routing and fabric memory. Reserved bits of ROUTE are left to validation (R278). -/
def legal7 (i sub v : Nat) : Bool :=
  match i with
  | 0x7010 => if sub == 0 then within v 1 15 else if sub == 2 then crownOrNone v else true
  | 0x7110 => field v 14 10 == 0
  | 0x7200 => within v 10 10000
  | 0x8200 => v < 0x1000
  | 0x8300 => within v 1 168
  | _ => true

/-- Engines and counters. -/
def legal9 (i sub v : Nat) : Bool :=
  if 0x9100 ≤ i && i ≤ 0x9103 then ctxLegal v
  else if 0xA100 ≤ i && i ≤ 0xA10C then cntCtlLegal (256 * (i - 0xA100) + sub) v
  else match i with
  | 0x9000 => v ≤ 16
  | 0x9001 => v ≤ 8
  | 0x9002 => within v 1 1024
  | 0xA180 => v < 0x2000
  | 0xA280 => blobField v 16 12 12 ≤ 1 && blobField v 16 13 15 == 0
  | _ => true

/-- Faults, journal, security. -/
def legalB (i sub v : Nat) : Bool :=
  match i with
  | 0xB000 => within v 1 10000000
  | 0xB001 => if sub == 3 then within v 1 5 else true
  | 0xB002 => v < 0x8000
  | 0xB003 | 0xB004 => v < 64
  | 0xB200 => !bitOf v 31 || injectLegal v
  | 0xB300 => if sub == 0 then field v 29 0 == 0 else true
  | 0xD021 => if sub == 0 then blobField v 1028 0 3 % 1024 == 0 && blobField v 1028 0 3 + 1024 ≤ 0x1000000 else true
  | 0xE020 => v ≤ 2 && !isT sub
  | _ => true

/-- R409 step 7: a value is legal for its entry (DESIGN CHOICE, log entry 51). -/
def legalValue (e : Entry) (key v len : Nat) : Bool :=
  let i := key / 256
  let sub := key % 256
  typeLegal e.ty key v len && (match i / 0x1000 with
    | 0x1 => legal1 i sub v
    | 0x2 => legal2 i sub v
    | 0x3 => legal3 i sub v
    | 0x4 => legal4 i sub v
    | 0x5 => legal5 i sub v
    | 0x6 => legal6 i v
    | 0x7 | 0x8 => legal7 i sub v
    | 0x9 | 0xA => legal9 i sub v
    | _ => legalB i sub v)

/-! ### What the state refuses (R409 step 8) -/

/-- What step 8 answers: the write may go on, or a status with its DETAIL. -/
inductive Admit where
  | go
  | stop (status : Nat) (detail : Nat)
  deriving DecidableEq, Repr

/-- Step 8 as a condition. -/
def Admit.ofBool (b : Bool) : Admit := if b then .go else .stop Status.stateRefused 0

/-- A refusal by the activation queue's rules. -/
def QueueRefusal.allow : QueueRefusal → Admit
  | .state d => .stop Status.stateRefused d
  | .full => .stop Status.noResource 0

/-- What a write that needs the activation queue is answered. -/
def queueAdmit (r : Except QueueRefusal State) : Admit :=
  match r with
  | .ok _ => .go
  | .error e => e.allow

/-- A command write's answer as a status. -/
def Verdict.allow : Verdict → Admit
  | .done _ => .go
  | .denied => .stop Status.accessDenied 0
  | .refused => .stop Status.stateRefused 0
  | .noResource => .stop Status.noResource 0

/-- R17: a twig of the bough is bound to a VDP or to an upstream port. -/
def State.boughBound (s : State) (b : Nat) : Bool :=
  s.binds.any (fun x => x.2.2.crown == s.crownId && boughOf x.2.2.twig == b) ||
    (List.range 64).any (fun p => match s.upTwig p with | some u => boughOf u == b | none => false)

/-- The sum of BUF_MIN over a half once `g`, `c` has another value. -/
def State.reservedWith (s : State) (g c v : Nat) : Nat :=
  ((s.limbPorts (limbOf g)).map (fun h => ((List.range 8).map (fun k => if h = g && k = c then v else s.bufMin h k)).sum)).sum

/-- R502: used points contiguous from 0, currents strictly rising, times strictly falling. -/
def curveOk : List Nat → Bool
  | [] => true
  | [_] => true
  | a :: b :: l =>
    (field b 31 20 == 0 ||
      (field a 31 20 ≠ 0 && field a 31 20 < field b 31 20 && field b 19 0 < field a 19 0)) && curveOk (b :: l)

/-- The points of the intake curve, or of a channel's, with one replaced. -/
def State.curveWith (s : State) (keyOf : Nat → Nat) (key v : Nat) : List Nat :=
  (List.range 16).map (fun k => if keyOf k = key then v else s.get (keyOf k))

/-- R516: INTAKE_RAMP_TIMEOUT is at least T_RAMP + 2, in ms; the divisions are exact, so the products are compared. -/
def rampOk (dvdt inrush timeout : Nat) : Bool := 60 + 2 * dvdt ≤ timeout * dvdt && 132 + 2 * inrush ≤ timeout * inrush

/-- R305: two ports' signals share an input or an output: the same bus and address and overlapping ranges of `n` bits. -/
def sidebandClash (a b n : Nat) : Bool :=
  bitOf a 31 && bitOf b 31 && field a 30 23 == field b 30 23 &&
    field a 22 18 < field b 22 18 + n && field b 22 18 < field a 22 18 + n

/-- R219: EVENT_MAP of a twig or bough source names only a partition that holds what the source reports on. -/
def State.mapAllowed (s : State) (src v : Nat) : Bool :=
  let p := field v 29 24
  !bitOf v 31 ||
    (if src < 0xA00 then s.holdsWhole p (src / 16)
     else if src < 0xAA0 then
       (List.range 4).all (fun k =>
         let g := 4 * ((src - 0xA00) / 4) + k
         (s.bindsOf g).isEmpty || s.holdsWhole p g)
     else true)

/-- R508: SLOT_MAP: at most four channels of a port, and only for a channel that is off. -/
def State.slotMapAllowed (s : State) (c v : Nat) : Bool :=
  let st := (s.slotChan c).state
  (st == 0 || st == 5) && (!bitOf v 15 || ((s.channelsOf (field v 7 0)).filter (· ≠ c)).length < 4)

/-- R255: FABRIC_BAR_SIZE leaves no valid window of the partition beyond it. -/
def State.barAllowed (s : State) (p v : Nat) : Bool :=
  s.dict.all (fun e => !(Key.WIN_MAP ≤ e.1 && e.1 < Key.WIN_MAP + 0x10000 && bitOf e.2 63 && field e.2 62 57 == p) ||
    (v ≠ 0 && field e.2 45 12 * 4096 + 2 ^ (12 + field e.2 56 52) ≤ 2 ^ v))

/-- R28, R29, R384, R385: RESET_REQUEST. -/
def State.resetAllowed (s : State) (who : Role) (v : Nat) : Bool :=
  let u := field v 7 0
  match field v 31 24 with
  | 1 => (s.requestReset who (.twig u)).isSome
  | 2 => (s.requestReset who (.bough u)).isSome
  | 3 => (s.requestReset who (.limb u)).isSome
  | 4 => (s.requestReset who (.die u)).isSome
  | _ => s.warmAllowed (.request who) && s.faults.crown ≠ .f4Latched

/-- R229, R231: SHARED_RESET. -/
def State.sharedResetAllowed (s : State) (who : Role) (g v : Nat) : Bool :=
  s.isShared g && (who.isInstaller || (v == 1 && (match who.operatorOf with | some p => s.holdersOf g |>.contains p | none => false)))

/-- R236: the cap that binds an operator, for an entry of class weights or for the rate. -/
def State.operatorCap (s : State) (i sub : Nat) : Nat :=
  if i = 0x6610 then s.get (Key.PART_RATE_CAP + sub) else s.get (Key.PART_WEIGHT_CAP + 256 * (i - 0x6600) + sub)

/-- Step 8 for intake and slot power. -/
def State.admit2 (s : State) (i sub v : Nat) : Admit :=
  let g := fun k => s.get (Key.INTAKE_POWER_LIMIT + k)
  if 0x2210 ≤ i && i ≤ 0x221F then
    .ofBool (curveOk (s.curveWith (fun k => Key.SLOT_CURVE + 256 * k + sub) (256 * i + sub) v) &&
      field v 31 20 < 4 * s.get (Key.SLOT_FAST_TRIP + sub))
  else match i with
  | 0x2001 =>
    (match sub with
      | 2 => .ofBool (rampOk v (g 3) (g 4))
      | 3 => .ofBool (rampOk (g 2) v (g 4))
      | 4 => .ofBool (rampOk (g 2) (g 3) v)
      | _ => .go)
  | 0x2002 => .ofBool (curveOk (s.curveWith (fun k => Key.INTAKE_CURVE + k) (256 * i + sub) v))
  | 0x2010 => .ofBool (v ≠ 0 || s.mayGate sub)
  | 0x2200 => .ofBool (s.slotMapAllowed sub v)
  | 0x2202 => .ofBool (!(s.slotChan sub).live)
  | 0x2203 => .ofBool ((List.range 16).all (fun k => field (s.get (Key.SLOT_CURVE + 256 * k + sub)) 31 20 < 4 * v))
  | 0x2204 => .ofBool (60 + 2 * v ≤ s.get (Key.SLOT_RAMP_TIMEOUT + sub) * v)
  | 0x2206 => .ofBool (60 + 2 * s.get (Key.SLOT_DVDT + sub) ≤ v * s.get (Key.SLOT_DVDT + sub))
  | _ => .go

/-- Step 8 for host ports, partitions and events, classes and buffers. -/
def State.admit3 (s : State) (who : Role) (i sub v : Nat) : Admit :=
  if 0x6100 ≤ i && i ≤ 0x6107 then
    let c := i - 0x6100
    .ofBool (v ≤ s.bufMax sub c && (!s.namesPort sub || s.reservedWith sub c v ≤ 65536))
  else if 0x6108 ≤ i && i ≤ 0x610F then .ofBool (s.bufMin sub (i - 0x6108) ≤ v)
  else if 0x4400 ≤ i && i ≤ 0x440F then .ofBool (s.mapAllowed (256 * (i - 0x4400) + sub) v)
  else if (0x6600 ≤ i && i ≤ 0x6606) || i = 0x6610 then .ofBool (who.isInstaller || v ≤ s.operatorCap i sub)
  else match i with
  | 0x3010 => .ofBool ((List.range 144).all (fun p => p = sub || !sidebandClash v (s.get (Key.SIDEBAND_IN + p)) 6))
  | 0x3011 => .ofBool ((List.range 144).all (fun p => p = sub || !sidebandClash v (s.get (Key.SIDEBAND_OUT + p)) 4))
  | 0x3100 => .ofBool (!s.boughBound sub)
  | 0x4202 => .ofBool (s.sharedResetAllowed who sub v)
  | 0x4410 => .ofBool (s.maySoft who v)
  | 0x5B00 => .ofBool (s.barAllowed sub v)
  | 0x6830 => queueAdmit (s.slotSwapWrite v)
  | _ => .go

/-- Step 8 for faults, counters, the journal and resets. -/
def State.admit4 (s : State) (who : Role) (key v : Nat) : Admit :=
  if key = Key.RESET_REQUEST then .ofBool (s.resetAllowed who v)
  else if key = Key.SNAP_REQUEST then
    queueAdmit (s.snapWrite (blobField v 16 0 7) (blobField v 16 8 11) (blobField v 16 12 12 == 1))
  else if key = Key.FAULT_ACK then (s.ackFault who (BitVec.ofNat 15 v)).allow
  else if key = Key.PART_RELEASE then (s.release who v).allow
  else if key = Key.PART_CONTAIN then (s.containBy who v).allow
  else if key = Key.GRAFT_CHUNK then .ofBool (s.graftChunkWrite (blobField v 1028 0 3) (beBytes 1024 v)).isSome
  else if key = Key.GRAFT_APPLY then .ofBool (v = 0 || s.graftApplyWrite.isSome)
  else if key = Key.GRAFT_ACT_FT then queueAdmit (s.graftActWrite v)
  else if key = Key.FENCE_FORCE then .ofBool (v ≠ s.crownId)
  else if key = Key.TEST_UNLOCK then .ofBool (match s.sec.hold with | some h => h.1 == v | none => false)
  else .go

/-- R409 step 8 (DESIGN CHOICE, log entry 51). -/
def State.writeAdmit (s : State) (who : Role) (key v : Nat) : Admit :=
  let i := key / 256
  match i / 0x1000 with
  | 0x2 => s.admit2 i (key % 256) v
  | 0x3 | 0x4 | 0x5 | 0x6 => s.admit3 who i (key % 256) v
  | _ => s.admit4 who key v

end Sys2Proof.Machine
end

