-- ==== Sys2Proof/Machine/Values.lean ====
section
/-! DEFINITION. What a READ of each entry returns (R428: the value in force): stored values, and the values that entries report
of the hardware's state, by their field maps; and what an operator is shown (R240, R274, R332, R368, R400, R533). -/

namespace Sys2Proof.Machine

/-! ### Codes -/

/-- R36: state codes of dies and limbs. -/
def UnitState.code : UnitState → Nat
  | .running => 0
  | .inReset => 1
  | .offline => 2
  | .gated => 3

/-- R94: LSTATE. -/
def LState.code : LState → Nat
  | .detect => 0x0
  | .polling => 0x1
  | .configuration => 0x2
  | .l0 => 0x3
  | .recovery => 0x4
  | .l1 => 0x5
  | .l11 => 0x6
  | .l12 => 0x7
  | .disabled => 0x8
  | .hotReset => 0x9
  | .loopback => 0xA

/-- R102: TSTATE. -/
def TState.code : TState → Nat
  | .disabled => 0x0
  | .detect => 0x1
  | .align => 0x2
  | .negotiate => 0x3
  | .step106 => 0x4
  | .step212 => 0x5
  | .linkInit => 0x6
  | .l0 => 0x7
  | .held => 0xA

/-- R202: PART_STATE. -/
def PartState.code : PartState → Nat
  | .unused => 0
  | .active => 1
  | .resetting => 2
  | .held => 3
  | .contained => 4

/-- R241: STATE of SHARED_STATE. -/
def SharedMode.code : SharedMode → Nat
  | .idle => 0
  | .pending => 1
  | .resetting => 2
  | .enumerating => 3
  | .notShared => 4

/-- R59: KIND and STATE of ACT_STATUS. -/
def ActKind.code : ActKind → Nat
  | .change => 1
  | .swap => 2
  | .snapshot => 3
  | .firmware => 4
def ActState.code : ActState → Nat
  | .freeSlot => 0
  | .pending => 1
  | .postponed => 2
  | .firedInHoldover => 3
  | .fired => 4

/-- R426: set states. -/
def SetState.code : SetState → Nat
  | .open_ => 0
  | .sealed => 1
  | .queued => 2
  | .postponed => 3
  | .fired => 4
  | .refused => 5
  | .cancelled => 6
  | .expired => 7

/-- A signed number as 32 bits. -/
def i32 (v : Int) : Nat := (BitVec.ofInt 32 v).toNat

/-! ### Hierarchy, ports, trunks -/

/-- HP_RATE_ACTIVE is not zero in L0, L0p and L1 with its substates. -/
def HPort.inForce (h : HPort) : Bool := h.lstate = .l0 || h.lstate = .l1 || h.lstate = .l11 || h.lstate = .l12

/-- R94, R96: HP_LINK_STATUS (DESIGN CHOICE, log entry 196). -/
def State.hpLinkStatus (s : State) (p : Nat) : Nat :=
  let g := gOfPort p
  if !s.namesPort g then 0xB * 2 ^ 27
  else if !s.limbRuns (limbOf g) then 0xC * 2 ^ 27
  else
    let h := s.hport p
    h.lstate.code * 2 ^ 27 + h.flit.toNat * 2 ^ 26 + h.reversed.toNat * 2 ^ 25 + h.l0pWidth % 256 * 2 ^ 16 + h.polarity.toNat

/-- The lanes of a port, by logical number. -/
def State.portLanes (s : State) (p : Nat) : List HLane := (List.range (4 * s.portTwigs (gOfPort p))).map (fun k => s.lane (4 * p + k))

/-- R95: HP_EQ_STATUS: the smallest eye, its lane, presets, attempts, and the taps at a limit. The eye is taken over the lanes of the trained
width, and of several lanes with the smallest the lowest is named (DESIGN CHOICE, log entry 171). -/
def State.hpEqStatus (s : State) (p : Nat) : Nat :=
  if !s.namesPort (gOfPort p) then 0
  else
    let ls := s.portLanes p
    let used := ls.zipIdx.filter (fun e => logicalLane (s.hport p).reversed ls.length e.2 < max 1 (s.hport p).width)
    let low := used.foldl (fun (b : Nat × Nat) e => if e.1.eye < b.1 then (e.1.eye, e.2) else b) (256, 0)
    let rail := (ls.map (fun l => (l.taps.filter (fun t => t = 127 || t = -128)).length)).sum
    let h := s.hport p
    (if low.1 = 256 then 0 else low.1) * 2 ^ 24 + low.2 % 16 * 2 ^ 20 + h.txPreset % 16 * 2 ^ 16 + h.partnerPreset % 16 * 2 ^ 12 +
      assocGetD h.eqUsed h.rate 0 % 16 * 2 ^ 8 + min rail 0xFF

/-- R150: TP_LINK_STATUS. -/
def State.tpLinkStatus (s : State) (q : Nat) : Nat :=
  if !s.limbRuns (limbOfTrunk q) then 0xB * 2 ^ 28
  else
    let k := s.trunk q
    k.tstate.code * 2 ^ 28 + k.rate % 4 * 2 ^ 26 + k.crypt.toNat * 2 ^ 25 + k.tx.keyPhase.toNat * 2 ^ 24 + k.train.laneMap.toNat * 2 ^ 16 +
      k.train.polarity.toNat * 2 ^ 12 + (if k.tstate = .held then k.train.heldCause % 16 else 0) * 2 ^ 8 + k.tx.replayRun % 16 * 2 ^ 4

/-- Views of chapters 01, 03 and 04. -/
def State.view3 (s : State) (i sub : Nat) : Option Nat :=
  let named : Bool := s.namesPort (gOfPort sub)
  match i with
  | 0x1020 => some (if sub = 4 then 0 else (s.hier.dies.getD sub .running).code)
  | 0x1021 => some (s.hier.limbs.getD sub .running).code
  | 0x3001 => some (if named && (s.hport sub).inForce then (s.hport sub).rate else 0)
  | 0x3002 => some (if named then (s.hport sub).width else 0)
  | 0x3003 => some (s.hpLinkStatus sub)
  | 0x3007 => some (s.hpEqStatus sub)
  | 0x3012 =>
    let b := s.sideband sub
    some (((List.range 6).map (fun k => if b.levels.getD k false then 2 ^ k else 0)).sum + (if b.lost then 128 else 0))
  | 0x3101 => some (s.hier.widthActive.getD sub 0)
  | 0x3111 => some (if isTBough sub then 0 else (s.power.refclk.getD sub false).toNat)
  | 0x3802 => some (if (s.trunk sub).tstate = .l0 then (s.trunk sub).rate else 0)
  | 0x3803 => some (s.tpLinkStatus sub)
  | 0x3804 => some (match (s.trunk sub).peer with
    | some (c, q) => 2 ^ 31 + c % 1024 * 2 ^ 16 + q % 16
    | none => 0)
  | 0x3807 => some ((s.trunk sub).delayPs % 2 ^ 32)
  | 0x3809 => some (s.trunk sub).tx.keyEpoch.toNat
  | _ => none

/-! ### Power -/

/-- R519: SLOT_STATE. -/
def State.slotStateWord (s : State) (c : Nat) : Nat :=
  let x := s.slotChan c
  let mapped : Bool := (s.portOfChannel c).isSome
  if !mapped then 0x50000000
  else x.state % 16 * 2 ^ 28 + x.cause % 16 * 2 ^ 24 + x.point % 16 * 2 ^ 20 + x.demand.toNat * 2 ^ 19

/-- R542: PG_OUT follows intake power-good; ALERT_N is asserted while notifications wait or FAULT_STATE CROWN is not 0. -/
def State.pgOut (s : State) : Bool := s.power.powerGood
def State.alertAsserted (s : State) : Bool := !s.bocel.notes.isEmpty || s.faults.crown ≠ .normal

/-- Views of chapter 15; a channel's readings are those of its latest sample (DESIGN CHOICE, log entry 32). -/
def State.view2 (s : State) (i sub : Nat) : Option Nat :=
  match i, sub with
  | 0x2000, 0 => some (if s.power.phase = .damaged then 5 else if s.power.inputLost then 6 else 3)
  | 0x2000, 1 => some s.power.prior
  | 0x2000, 2 => some s.power.govLevel
  | 0x2000, 3 => some (storeLevel s.power.lack)
  | 0x2003, 0 => some (s.meanVolts % 2 ^ 32)
  | 0x2003, 1 => some (i32 s.meanAmps)
  | 0x2003, 2 => some (s.meanPower % 2 ^ 32)
  | 0x2003, 3 => some (s.power.voltsMin % 2 ^ 32)
  | 0x2003, 4 => some (i32 s.power.ampsMax)
  | 0x2003, 5 => some s.intakeEnergy
  | 0x2220, c => some (s.slotStateWord c)
  | 0x2221, c => some (i32 (s.slotChan c).amps)
  | 0x2222, c => some ((s.slotChan c).volts % 2 ^ 32)
  | 0x2223, c => some (min (2 ^ 64 - 1) ((s.slotChan c).energy / 1000000000))
  | _, _ => none

/-! ### Partitions, gates, routing, memory, engines -/

/-- R241: SHARED_STATE. -/
def State.sharedWord (s : State) (g : Nat) : Nat :=
  if !s.isShared g then 0x40000000
  else
    let x := s.sharedOf g
    let hs := s.holdersOf g
    let rel := hs.filter (fun p => (s.slicesOf g).all (fun b => b.1 ≠ p || s.released b))
    x.mode.code * 2 ^ 28 + x.cause % 16 * 2 ^ 24 + hs.length % 256 * 2 ^ 16 + rel.length % 256 * 2 ^ 8

/-- R266: GATE_REG_RIGHTS of a region as it reads: LOCKED where the module forces it, once the region has been written. -/
def State.rightsRead (s : State) (gate r : Nat) : Nat :=
  let n := 256 * gate + r
  let parts := s.getDef (Key.GATE_REG_PARTS + n) 0
  let rights := s.getDef (Key.GATE_REG_RIGHTS + n) 0
  if s.getDef (Key.GATE_REG_ADDR + n) 0 = 0 && parts = 0 && rights = 0 then 0 else lockedForced gate parts rights

/-- Views of chapters 05 to 07. -/
def State.view4 (s : State) (i sub : Nat) : Option Nat :=
  if 0x5200 ≤ i && i ≤ 0x529F then some (s.rightsRead (i - 0x5200) sub)
  else match i with
  | 0x4002 => some (s.part sub).state.code
  | 0x4003 => some (s.part sub).cause
  | 0x4004 => some (s.part sub).count.toNat
  | 0x4201 => some (s.sharedWord sub)
  | 0x4203 => some (if s.isShared sub then (s.sharedOf sub).rid % 2 ^ 16 * 2 ^ 16 + (s.sharedOf sub).stride % 2 ^ 16 else 0)
  | 0x5300 => some (s.regions sub).length
  | 0x5400 => some s.gates.scrubPass.toNat
  | 0x5B01 => some (s.part sub).fabricBar
  | 0x5F00 => some (if sub = 0 then s.gates.epoch.toNat else s.gates.drained.toNat)
  | 0x6500 => some (i32 (s.sharedFree sub))
  | 0x6501 => some (s.reservedSum sub)
  | 0x6830 => if sub = 2 then some s.time.openMode.toNat else none
  | _ => none

/-- R304: LOCK_STATE of a bough. -/
def State.lockWord (s : State) (b : Nat) : Nat :=
  match s.fabric.locks.find? (·.bough == b) with
  | some k => 2 ^ 31 + k.part % 64 * 2 ^ 24 + k.twig % 256
  | none => 0

/-- Views of chapters 08 to 10. -/
def State.view7 (s : State) (i sub : Nat) : Option Nat :=
  if 0x7100 ≤ i && i ≤ 0x7103 then some (s.fenceState (256 * (i - 0x7100) + sub))
  else if 0x8100 ≤ i && i ≤ 0x810F then some (s.epochOf (256 * (i - 0x8100) + sub)).toNat
  else if 0x9104 ≤ i && i ≤ 0x9107 then some (s.redRound (256 * (i - 0x9104) + sub)).round.toNat
  else match i with
  | 0x7201 => some s.fabric.tracks.length
  | 0x7300 => some (s.lockWord sub)
  | 0x8000 => some (if sub = 0 then s.mem.mode else s.mem.progress)
  | 0x8001 =>
    let c := s.channel sub
    some (c.state % 16 * 2 ^ 28 + c.temp % 256 * 2 ^ 20 + c.hot.toNat * 2 ^ 19 + c.spares % 2 ^ 14 * 2 ^ 5)
  | 0x8400 => some (match s.mem.errors[sub]? with
    | some e => e.kind % 16 * 2 ^ 60 + e.gp % 2 ^ 12 * 2 ^ 48 + e.pla % 2 ^ 29
    | none => 0)
  | 0x9010 => some (if sub ∈ s.engines.offline then 2 else if s.engines.busy.any (fun e => e.1 = sub) then 1 else 0)
  | _ => none

/-! ### Counters and faults -/

/-- R534: a counter as CNT_VALUE and SNAP_VALUE show it. -/
def Counter.word (c : Counter) : Nat := c.ovf.toNat * 2 ^ 63 + c.value.toNat

/-- R388: HIST_ENTRY. -/
def HistEntry.word (h : HistEntry) : Nat :=
  let f := fun (v w lo : Nat) => v % 2 ^ w * 2 ^ lo
  let path : Nat := match h.unit with
    | some (.twig g) => f (g / 40) 3 39 + f (g % 40 / 20) 1 38 + f (g % 40 / 4) 4 34 + f g 2 32
    | some (.bough b) => f (b / 10) 3 39 + f (b % 10 / 5) 1 38 + f (b % 10) 4 34
    | some (.limb l) => f (l / 2) 3 39 + f l 1 38
    | some (.die d) => f d 3 39
    | some .crown => 0
    | none => if h.level = 6 then f 4 3 39 else 0
  f h.inj.toNat 1 63 + f h.seq.toNat 15 48 + f h.cls 3 45 + f h.level 3 42 + path + f h.source 12 20 + f h.action 4 16 + f h.code 16 0

/-- R389: the 96 bytes of a TLP log entry (DESIGN CHOICE, log entry 105). -/
def LogEntry.blob (e : LogEntry) : Nat :=
  beNat (beBytes 16 e.desc ++ beBytes 64 e.header ++ beBytes 8 e.ft ++ beBytes 2 e.source ++ beBytes 2 e.cause ++
    beBytes 2 ((e.histSeq.map (·.toNat)).getD 0xFFFF) ++ [0, 0])

/-- Views of chapters 11 and 16 (DEDUCED, log entry 104). -/
def State.viewA (s : State) (i sub : Nat) : Option Nat :=
  if 0xA000 ≤ i && i ≤ 0xA00C then some (s.counter (256 * (i - 0xA000) + sub)).word
  else if 0xA100 ≤ i && i ≤ 0xA10C then some (s.cntCtl (256 * (i - 0xA100) + sub))
  else if 0xA200 ≤ i && i ≤ 0xA20C then some (((sortedGet s.counters.bank (256 * (i - 0xA200) + sub)).map Counter.word).getD 0)
  else match i with
  | 0xA180 => some s.counters.freeze.toNat
  | 0xA281 =>
    (match sub with
      | 0 => some s.counters.snapSeq.toNat
      | 1 => some s.counters.snapFt
      | 2 => some s.counters.snapId
      | 3 => some s.counters.snapOrigin
      | _ => some s.counters.snapTime)
  | 0xB010 => some s.faultWord
  | 0xB011 => some s.faults.lost.toNat
  | 0xB012 => some s.faults.nextSeq.toNat
  | 0xB100 => some ((s.faults.history[sub]?.map (·.ft)).getD 0)
  | 0xB101 => some ((s.faults.history[sub]?.map HistEntry.word).getD 0)
  | 0xB110 => some ((s.faults.tlpLog[sub]?.map LogEntry.blob).getD 0)
  | 0xB200 => some (s.faults.inject.getD sub 0).toNat
  | 0xB301 => some s.sec.testMode.toNat
  | _ => none

/-! ### Time, journal, Bocel, security -/

/-- R59: ACT_STATUS of a slot. -/
def ActSlot.word (a : ActSlot) : Nat :=
  if a.state = .freeSlot then 0
  else a.kind.code * 2 ^ 28 + a.joint.toNat * 2 ^ 27 + a.state.code * 2 ^ 24 + a.seq.toNat

/-- Views of chapters 02. -/
def State.viewC (s : State) (i sub : Nat) : Option Nat :=
  match i, sub with
  | 0xC000, 0 => some s.time.mode.code
  | 0xC000, 1 => some s.uncertainty
  | 0xC000, 2 => some s.stampFt
  | 0xC000, 3 => some (s.time.master.getD 0xFFFF)
  | 0xC000, 4 => some s.time.hops
  | 0xC000, 5 => some (s.time.upstream.getD 0xFF)
  | 0xC010, 2 => some s.time.refValid.toNat
  | 0xC100, 0 => some s.actCount
  | 0xC100, 1 => some s.actNextFt
  | 0xC101, n => some (s.act.slots.getD n ActSlot.reset).ft
  | 0xC102, n => some (s.act.slots.getD n ActSlot.reset).word
  | _, _ => none

/-- JOURNAL_NEWEST: the last RNO that is whole. -/
def Journal.newest (j : Journal) : Nat := j.records.foldl (fun n r => max n (r.rno + r.body.numbers - 1)) 0

/-- Views of chapter 14. -/
def State.viewD (s : State) (i sub : Nat) : Option Nat :=
  let j := s.journal
  match i, sub with
  | 0xD000, 0 => some (if j.warned then 2 else j.mode)
  | 0xD000, 1 => some (min j.fill 100)
  | 0xD000, 2 => some j.newest
  | 0xD000, 3 => some j.oldest
  | 0xD000, 4 => some j.setGen
  | 0xD001, _ => some ((j.works 0).toNat + 2 * (j.works 1).toNat)
  | 0xD010, 0 => some j.bootActive
  | 0xD010, 1 => some j.bootAttempts
  | 0xD011, n => some (j.versions.getD n 0)
  | 0xD012, n => some (j.digests.getD n 0)
  | 0xD020, 0 => some j.graftState
  | 0xD020, 1 => some j.graftReason
  | 0xD020, 2 => some j.graftReceived
  | _, _ => none

/-- R460: LINK_IDE_STATE of a twig (DEDUCED, log entry 50). -/
def State.ideState (s : State) (g : Nat) : Nat :=
  if isT g then 0
  else match assocGet s.sec.ide g with
    | some v => v
    | none =>
      if (s.hport (s.hportOfG g)).up && s.get (Key.LINK_IDE_POLICY + g) ≠ 0 then (Config.linkIde g (s.hport (s.hportOfG g)).l0At).toNat else 0

/-- Views of chapters 12 and 13. -/
def State.viewE (s : State) (i sub : Nat) : Option Nat :=
  match i, sub with
  | 0x1001, _ => some s.bocel.gen.toNat
  | 0x1111, _ => some s.bocel.eid
  | 0x1120, _ => some s.bocel.sessions.length
  | 0x1121, 0 => some s.bocel.notes.length
  | 0x1121, _ => some s.bocel.notesLost.toNat
  | 0xE002, n => some (Config.makerRoot n)
  | 0xE003, 0 => some Config.identityKey
  | 0xE003, _ => some Config.identityCert
  | 0xE021, g => some (s.ideState g)
  | 0xE030, 0 => some ((s.sec.hold.map (·.1)).getD 0)
  | _, _ => none

/-- What an entry that reports state reads as; `none` for an entry that holds its stored value. -/
def State.view (s : State) (i sub : Nat) : Option Nat :=
  match i / 0x1000 with
  | 0x1 => if i < 0x1010 || 0x1100 ≤ i then s.viewE i sub else s.view3 i sub
  | 0x2 => s.view2 i sub
  | 0x3 => s.view3 i sub
  | 0x4 | 0x5 | 0x6 => s.view4 i sub
  | 0x7 | 0x8 | 0x9 => s.view7 i sub
  | 0xA | 0xB => s.viewA i sub
  | 0xC => s.viewC i sub
  | 0xD => s.viewD i sub
  | _ => s.viewE i sub

/-- The value in force of an entry: an entry that no role reads keeps none and returns its default. -/
def State.readValue (s : State) (e : Entry) (key : Nat) : Nat :=
  if e.op = .w || e.inst = .w || e.maker = .w then e.default
  else match s.view (key / 256) (key % 256) with
    | some v => v
    | none => s.get key

/-! ### What an operator is shown -/

/-- R400: a history or log entry of the partition, or of a twig that it holds whole (DEDUCED, log entry 106). -/
def State.histMine (s : State) (p : Nat) (h : HistEntry) : Bool :=
  if h.level = 5 || h.level = 7 then h.code % 64 == p
  else match h.unit with
    | some (.twig g) => h.level == 0 && s.holdsWhole p g
    | _ => false

def State.logMine (s : State) (p : Nat) (e : LogEntry) : Bool :=
  (e.desc ≠ 0 && field e.desc 89 84 == p) || (e.source < 0xA00 && s.holdsWhole p (e.source / 16))

/-- Whether the operator of a partition sees a subindex; where it does not, the entry reads zero to it (R406) (DEDUCED, log entry 106). -/
def State.operatorSees (s : State) (p key : Nat) : Bool :=
  let i := key / 256
  let sub := key % 256
  if (0x4000 ≤ i && i ≤ 0x4004) || (0x6600 ≤ i && i ≤ 0x6612) || (0x9000 ≤ i && i ≤ 0x9002) then sub == p
  else if 0x4100 ≤ i && i ≤ 0x413F then i - 0x4100 == p
  else if 0x4500 ≤ i && i ≤ 0x453F then i - 0x4500 == p
  else if 0x5000 ≤ i && i ≤ 0x529F then bitOf (s.get (Key.GATE_REG_PARTS + key % 0x10000)) p
  else if 0x5800 ≤ i && i ≤ 0x59FF then field (s.get (Key.WIN_MAP + key % 0x10000)) 62 57 == p
  else if 0x8100 ≤ i && i ≤ 0x810F then s.groveId p == 256 * (i - 0x8100) + sub
  else if (0xA000 ≤ i && i ≤ 0xA00C) || (0xA200 ≤ i && i ≤ 0xA20C) then
    let n := 256 * (i % 0x10) + sub
    n < 2560 && s.holdsWhole p (n / 16)
  else if i = 0xB100 || i = 0xB101 then (match s.faults.history[sub]? with | some h => s.histMine p h | none => true)
  else if i = 0xB110 then (match s.faults.tlpLog[sub]? with | some e => s.logMine p e | none => true)
  else true

/-- R406: access of a role to an entry. Nobody reads more than 0x1000.00 to 0x10FF.FF. -/
def Entry.access (e : Entry) : Role → Access
  | .operator _ => e.op
  | .installer _ => e.inst
  | .maker _ => e.maker
  | .anonymous => if 0x1000 ≤ e.idxLo && e.idxHi ≤ 0x10FF then .r else .none_

/-- The value that a role is shown. -/
def State.showValue (s : State) (who : Role) (e : Entry) (key : Nat) : Nat :=
  let v := s.readValue e key
  match who.operatorOf with
  | some p => if p < 64 && !s.operatorSees p key then 0 else v
  | none => v

/-- The wire form of a value (R405). STR values are held as the number their bytes spell. -/
def wireValue (e : Entry) (key v : Nat) : List Byte :=
  let n := if e.ty = .str then ((List.range 256).find? (fun n => v < 256 ^ n)).getD 255 else e.ty.bytes key
  if e.ty = .str || e.ty = .blob then beBytes 2 n ++ beBytes n v else beBytes n v

end Sys2Proof.Machine
end

