-- ==== Sys2Proof/Machine/Protection.lean ====
section
/-! DEFINITION. The protection set-up: scopes and affected partitions of a staged change (R445, R446), the validation of a change
set (R451) against the dictionary as the sets queued before it leave it, and the key pairs of a commit (R449). -/

namespace Sys2Proof.Machine

/-! ### Sets and their stages -/

/-- The dictionary key that a STAGE body names. -/
def StageBody.key (b : StageBody) : Nat := 256 * b.index + b.sub

/-- R425: a STAGE body as SET_DIGEST takes it. -/
def StageBody.bytes (setId no : Nat) (b : StageBody) : List Byte :=
  match entryOf b.key with
  | some e => beBytes 4 setId ++ beBytes 4 no ++ beBytes 2 b.index ++ beBytes 1 b.sub ++ beBytes 1 e.ty.code ++ wireValue e b.key b.value
  | none => []

/-- SET_DIGEST as the module computes it. -/
def ChangeSet.setDigest (c : ChangeSet) : Nat :=
  Config.sha384 (c.stages.zipIdx.flatMap (fun e => e.1.bytes c.id e.2))

/-- The number of the first stage of a set that names one of the keys; 0xFFFF where none does. -/
def ChangeSet.stageOf (c : ChangeSet) (keys : List Nat) : Nat := (c.stages.findIdx? (fun b => keys.contains b.key)).getD 0xFFFF

/-- R451: the sets queued before this one, in validation order. -/
def State.earlierSets (s : State) (c : ChangeSet) : List ChangeSet :=
  let inQueue : Bool := (s.actFind .change c.id).isSome
  let qs := s.bocel.sets.filter (fun x => (x.state = .queued || (x.state = .sealed && x.prior = .queued)) && x.id ≠ c.id &&
    (!inQueue || (x.order - c.order).toNat ≥ 0x8000))
  qs.mergeSort (fun a b => (b.order - a.order).toNat < 0x8000)

/-- The state with the dictionary that a set's checks start from. -/
def State.beforeSet (s : State) (c : ChangeSet) : State := { s with dict := (s.earlierSets c).foldl fireDict s.dict }

/-- The same once the set's values stand in it. -/
def State.afterSet (s : State) (c : ChangeSet) : State := { s with dict := fireDict (s.beforeSet c).dict c }

/-! ### Affected partitions and scope (R445, R446) -/

/-- The partitions whose bit is set. -/
def bitParts (v : Nat) : List Nat := (List.range 64).filter (fun p => bitOf v p)

/-- Two lists of partitions as one, without repeats. -/
def unionParts (a b : List Nat) : List Nat := b.foldl insertNew a

/-- The holders of a port: who holds it whole, or its slices. -/
def State.portHolders (s : State) (g : Nat) : List Nat :=
  unionParts ((List.range 64).filter (fun p => s.holdsWhole p g)) (s.holdersOf g)

/-- The holders of the member ports of a multicast group (DEDUCED, log entry 115). -/
def State.groupHolders (s : State) (v : Nat) : List Nat :=
  (groupPorts v).foldl (fun l p => unionParts l (s.portHolders (gOfPort p))) []

/-- A region names partitions once it is valid; before that, nobody. -/
def State.regionNow (s : State) (n : Nat) : Nat × Nat :=
  if bitOf (s.get (Key.GATE_REG_ADDR + n)) 0 then (s.get (Key.GATE_REG_PARTS + n), s.get (Key.GATE_REG_RIGHTS + n)) else (0, 0)

/-- The partition of a valid window. -/
def State.windowPart (s : State) (n : Nat) : List Nat :=
  let v := s.get (Key.WIN_MAP + n)
  if bitOf v 63 then [field v 62 57] else []

/-- R446: the partitions that a staged change concerns, before and after it. -/
def affectedBy (b a : State) (key v : Nat) : List Nat :=
  let i := key / 256
  let sub := key % 256
  if i = 0x4000 || i = 0x4001 || (i = 0xE000 && sub < 64) then [sub]
  else if 0x4100 ≤ i && i ≤ 0x413F then [i - 0x4100]
  else if 0x4500 ≤ i && i ≤ 0x453F then [i - 0x4500]
  else if i = 0x4200 then unionParts (b.holdersOf sub) (a.holdersOf sub)
  else if 0x5000 ≤ i && i ≤ 0x529F then
    let n := key % 0x10000
    bitParts ((b.regionNow n).1 ||| a.get (Key.GATE_REG_PARTS + n))
  else if 0x5800 ≤ i && i ≤ 0x59FF then
    let n := key % 0x10000
    unionParts (b.windowPart n) (a.windowPart n)
  else if 0x6400 ≤ i && i ≤ 0x640F then unionParts (b.groupHolders (b.get key)) (a.groupHolders v)
  else if i = 0x8200 then (List.range 64).filter (fun p => a.groveId p = v)
  else if 0x9100 ≤ i && i ≤ 0x9103 then
    let old := RedCtx.ofNat (b.get key)
    bitParts ((if old.valid then old.parts else 0) ||| (RedCtx.ofNat v).parts)
  else if key = Key.DEBUG_PARTS then bitParts (b.get key ^^^ v)
  else []

/-- R445: whether a staged change may stand in a partition-scoped set for `p` (DEDUCED, log entry 110). -/
def scopedFor (b a : State) (key v p : Nat) : Bool :=
  let i := key / 256
  let sub := key % 256
  if i = 0x4000 || i = 0x4001 then sub == p
  else if i = 0xE000 then sub == p && sub < 64
  else if 0x4100 ≤ i && i ≤ 0x413F then i - 0x4100 == p
  else if 0x4500 ≤ i && i ≤ 0x453F then i - 0x4500 == p
  else if 0x5000 ≤ i && i ≤ 0x529F then
    let n := key % 0x10000
    let was := b.regionNow n
    let rights := was.2 ||| a.get (Key.GATE_REG_RIGHTS + n)
    a.get (Key.GATE_REG_PARTS + n) == 2 ^ p && (!bitOf (b.get (Key.GATE_REG_ADDR + n)) 0 || was.1 == 2 ^ p) &&
      !bitOf rights 58 && !bitOf rights 57
  else if 0x5800 ≤ i && i ≤ 0x59FF then
    let n := key % 0x10000
    (unionParts (b.windowPart n) (a.windowPart n)).all (· == p)
  else if 0x6400 ≤ i && i ≤ 0x640F then
    (groupTrunks (b.get key)).isEmpty && (groupTrunks v).isEmpty &&
      ((groupPorts (b.get key)).all (fun h => b.holdsWhole p (gOfPort h))) && ((groupPorts v).all (fun h => a.holdsWhole p (gOfPort h)))
  else if i = 0x8200 then a.groveId p == v
  else if 0x9100 ≤ i && i ≤ 0x9103 then
    let old := RedCtx.ofNat (b.get key)
    (RedCtx.ofNat v).parts == 2 ^ p && (!old.valid || old.parts == 2 ^ p)
  else false

/-- The affected partitions of a set, from the state before its values and the state after. -/
def affectedIn (b a : State) (c : ChangeSet) : List Nat :=
  c.stages.foldl (fun l x => unionParts l (affectedBy b a x.key (a.get x.key))) []

/-- R446: the affected partitions of a set (DEDUCED, log entry 110). -/
def State.affected (s : State) (c : ChangeSet) : List Nat := affectedIn (s.beforeSet c) (s.afterSet c) c

/-! ### The checks of R451 -/

/-- R266, R258: bytes of a gate's address space. -/
def gateSize (gate : Nat) : Nat :=
  if gate < 0x90 then 2 ^ 64
  else match gate with
    | 0x90 => 93 * 2 ^ 30
    | 0x91 => 64 * 2 ^ 20
    | 0x92 | 0x93 | 0x94 | 0x98 => 2 ^ 20
    | 0x97 => 256 * 2 ^ 20
    | _ => 64 * 2 ^ 10

/-- The valid regions of a gate with the number of each. -/
def State.regionNos (s : State) (gate : Nat) : List (Nat × Region) :=
  let lo := Key.GATE_REG_ADDR + 256 * gate
  s.dict.filterMap (fun e =>
    if lo ≤ e.1 && e.1 < lo + 256 && bitOf e.2 0 then
      some (256 * gate + (e.1 - lo), { base := e.2 / 4096 * 4096, size := 2 ^ (12 + field e.2 11 6),
                                       parts := s.get (Key.GATE_REG_PARTS + (256 * gate + (e.1 - lo))), rights := 0 })
    else none)

/-- The three keys of a region. -/
def regionKeys (n : Nat) : List Nat := [Key.GATE_REG_ADDR + n, Key.GATE_REG_PARTS + n, Key.GATE_REG_RIGHTS + n]

/-- The keys of UNUSED partitions that a mask names. -/
def State.unusedKeys (s : State) (mask : Nat) : List Nat :=
  ((bitParts mask).filter (fun p => !s.partUsed p)).map (Key.PART_GROVE_ID + ·)

/-- R266: the keys concerned in a region's fault; empty when every region is sound (DEDUCED, log entry 107). -/
def State.regionFaults (s : State) : List Nat :=
  (List.range 160).flatMap (fun gate =>
    let rs := s.regionNos gate
    rs.flatMap (fun r =>
      let lap : Bool := rs.any (fun q => q.1 ≠ r.1 && q.2.overlaps r.2)
      let unused := s.unusedKeys r.2.parts
      if lap || gateSize gate < r.2.base + r.2.size || 0x9D ≤ gate || !unused.isEmpty then regionKeys r.1 ++ unused else []))

/-- The valid windows: number, WIN_MAP and WIN_TARGET. -/
def State.validWindows (s : State) : List (Nat × Nat × Nat) :=
  s.dict.filterMap (fun e =>
    if Key.WIN_MAP ≤ e.1 && e.1 < Key.WIN_MAP + 0x10000 && bitOf e.2 63 then
      some (e.1 - Key.WIN_MAP, e.2, s.get (Key.WIN_TARGET + (e.1 - Key.WIN_MAP))) else none)

/-- Bytes, and first partition offset, of a window. -/
def winSize (map : Nat) : Nat := 2 ^ (12 + field map 56 52)
def winBase (map : Nat) : Nat := field map 45 12 * 4096

/-- R251: a target of this crown is out of reach. -/
def State.targetBad (s : State) (map v : Nat) : Bool :=
  let sel := field v 17 0
  field v 61 52 == s.crownId && (match field v 63 62 with
    | 0 => 93 * 2 ^ 30 < field v 51 18 * 4096 + winSize map
    | 1 => 160 ≤ sel % 256 || isT (sel % 256) || !s.namesPort (sel % 256)
    | 2 => !(List.range 160).any (fun g => s.isShared g && s.sharedHas g (sel / 4))
    | _ => true)

/-- R251: the keys concerned in a window's fault. -/
def State.windowFaults (s : State) : List Nat :=
  let ws := s.validWindows
  ws.flatMap (fun w =>
    let p := field w.2.1 62 57
    let lap : Bool := ws.any (fun x => x.1 ≠ w.1 && field x.2.1 62 57 = p &&
      winBase x.2.1 < winBase w.2.1 + winSize w.2.1 && winBase w.2.1 < winBase x.2.1 + winSize x.2.1)
    let bar := s.get (Key.FABRIC_BAR_SIZE + p)
    let unused := s.unusedKeys (2 ^ p)
    if lap || !unused.isEmpty || bar = 0 || 2 ^ bar < winBase w.2.1 + winSize w.2.1 || s.targetBad w.2.1 w.2.2 then
      [Key.WIN_MAP + w.1, Key.WIN_TARGET + w.1] ++ unused
    else [])

/-- R249: bits of a valid window's target below the window's size (DESIGN CHOICE, log entry 109). -/
def State.targetAlignFaults (s : State) : List Nat :=
  (s.validWindows.filter (fun w => field w.2.2 51 18 * 4096 % winSize w.2.1 ≠ 0)).map (fun w => Key.WIN_TARGET + w.1)

/-- Every VDP_BIND with a KIND: its key, partition, VDP and fields. -/
def State.bindKeys (s : State) : List (Nat × Nat × Nat × Binding) :=
  s.binds.map (fun b => (Key.VDP_BIND + 256 * b.1 + b.2.1, b))

/-- The functions of a slice (DEDUCED, log entry 111). -/
def Binding.rids (b : Binding) : List Nat := (List.range (b.fnCount + 1)).map (b.fnFirst + ·)

/-- R209: what is wrong with a binding by itself or beside another. -/
def State.bindBad (s : State) (all : List (Nat × Nat × Nat × Binding)) (x : Nat × Nat × Nat × Binding) : Bool :=
  let b := x.2.2.2
  let own : Bool := b.crown = s.crownId
  let same := all.filter (fun y => y.1 ≠ x.1 && y.2.2.2.crown = b.crown && y.2.2.2.twig = b.twig)
  b.kind = 3 || x.2.2.1 = 0xFF || 160 ≤ b.twig || isT b.twig || (own && !s.namesPort b.twig) ||
    (b.kind = 1 && !same.isEmpty) ||
    (b.kind = 2 && (0x0100 ∈ b.rids ||
      same.any (fun y => y.2.2.2.kind ≠ 2 || (y.2.2.2.fnFirst ≤ b.fnFirst + b.fnCount && b.fnFirst ≤ y.2.2.2.fnFirst + y.2.2.2.fnCount)) ||
      (own && (!s.isShared b.twig || ((s.sharedOf b.twig).rid ≠ 0 && b.rids.any (fun r => !s.sharedHas b.twig r))))))

/-- R209: the keys of bindings at fault (DEDUCED, log entry 111). -/
def State.bindFaults (s : State) : List Nat :=
  let all := s.bindKeys
  (all.filter (s.bindBad all)).map (·.1)

/-- R240: staged SHARED_DEV keys whose holders are ACTIVE with their slots powered. -/
def sharedDevFaults (b : State) (c : ChangeSet) : List Nat :=
  (c.stages.filter (fun x => x.index = 0x4200 && (b.slicesOf x.sub).any (fun y =>
    (b.part y.1).state = .active && !((b.part y.1).vdp y.2.1).powerOff))).map StageBody.key

/-- R198, R200: duplicate grove partitions, and upstream ports that are no H-twigs. -/
def State.partFaults (s : State) : List Nat :=
  let used := (List.range 64).filter s.partUsed
  ((used.filter (fun p => used.any (fun q => q ≠ p && s.groveId q = s.groveId p))).map (Key.PART_GROVE_ID + ·)) ++
    (((List.range 64).filter (fun p => let u := s.upstreamOf p; u ≠ 0xFFFFFFFF && (160 ≤ field u 7 0 || isT (field u 7 0)))).map
      (Key.PART_UPSTREAM + ·))

/-- R278: a ROUTE value with a reserved bit, or a trunk named twice (DEDUCED, log entry 52). -/
def routeBad (v : Nat) : Bool :=
  let ms := ((List.range 4).filter (fun k => bitOf v (28 + k))).map (fun k => field v (4 * k + 3) (4 * k))
  field v 27 16 ≠ 0 || !ms.Nodup

/-- R350: a valid context's faults (DEDUCED, log entry 108). -/
def State.ctxBad (s : State) (v : Nat) : Bool :=
  let c := RedCtx.ofNat v
  c.valid && (c.localN + c.childN == 0 || (bitParts c.parts).any (fun p => !s.partUsed p) || (s.partOfGp c.carrierGp).isNone ||
    93 * 2 ^ 30 < c.stage + (c.localN + c.childN) * 2 ^ 17)

/-- The keys of a range of indices that a dictionary lists, with their values. -/
def State.listed (s : State) (lo hi : Nat) : List (Nat × Nat) := s.dict.filter (fun e => lo ≤ e.1 && e.1 < hi)

/-- R350, and the partitions whose end leaves a context without them. -/
def State.ctxFaults (s : State) : List Nat :=
  (s.listed Key.REDUCE_CTX (Key.REDUCE_CTX + 1024)).flatMap (fun e =>
    if s.ctxBad e.2 then e.1 :: (((List.range 64).filter (fun p => !s.partUsed p)).map (Key.PART_GROVE_ID + ·)) else [])

/-- R195: groups that name a port whose twig names none (DEDUCED, log entry 115). -/
def State.groupFaults (s : State) : List Nat :=
  ((s.listed Key.MCAST_GROUP (Key.MCAST_GROUP + 4096)).filter (fun e => (groupPorts e.2).any (fun p => !s.namesPort (gOfPort p)))).map (·.1)

/-- R440: slots whose key stands in another too; with fewer than two installer keys, every installer slot (DEDUCED, log entry 112). -/
def State.keyFaults (s : State) : List Nat :=
  let held := (keySlots.map (fun k => (k, s.get k))).filter (fun e => e.2 ≠ 0)
  let dup := held.filter (fun e => held.any (fun f => f.1 ≠ e.1 && f.2 = e.2) || e.2 = Config.makerRoot 0 || e.2 = Config.makerRoot 1)
  if !dup.isEmpty then dup.map (·.1)
  else if (held.filter (fun e => Key.INST_KEY ≤ e.1)).length < 2 then (List.range 8).map (Key.INST_KEY + ·)
  else []

/-- R447: stages that name another crown as the holder of a twig or as a home. -/
def farStages (own : Nat) (c : ChangeSet) : List Nat :=
  (c.stages.filter (fun x =>
    (0x4100 ≤ x.index && x.index ≤ 0x413F && field x.value 63 62 ≠ 0 && field x.value 61 52 ≠ own) ||
    (x.index = 0x4001 && x.value ≠ 0xFFFFFFFF && field x.value 25 16 ≠ own))).map StageBody.key

/-- R332: a rolled grove partition that no crown partition holds. -/
def State.rollFaults (s : State) (c : ChangeSet) : List Nat :=
  (c.stages.filter (fun x => x.index = 0x8200 && (s.partOfGp x.value).isNone)).map StageBody.key

/-- OP_CONSENT for a set: SET_ID, then SET_DIGEST (R448). -/
def ChangeSet.consentWord (c : ChangeSet) : Nat := c.id * 256 ^ 48 + c.setDigest

/-- R448: the affected partitions whose consent a crown-wide set needs. -/
def State.consentNeeded (s : State) (c : ChangeSet) : List Nat :=
  if c.partition || c.claim then []
  else
    let gone := unusedBy (s.beforeSet c).dict (s.afterSet c).dict
    (s.affected c).filter (fun p => p ∉ gone && s.get (Key.OP_KEY + p) ≠ 0)

/-- A claim set's own rules (R444): crown-wide, INST_KEY only, two of them at least, no two alike, FT zero (DESIGN CHOICE, log entry 116).
-/
def claimBad (c : ChangeSet) : Bool :=
  let slots := c.stages.foldl (fun l x => insertNew l x.sub) []
  let final := slots.map (fun k => ((c.stages.filter (·.sub = k)).getLast?.map (·.value)).getD 0)
  slots.length < 2 || !final.Nodup || final.contains 0 || c.ft ≠ 0

/-- One check of the table: a reason when keys are at fault, with the first stage that names one. -/
def ChangeSet.check (c : ChangeSet) (reason : Nat) (keys : List Nat) : Option (Nat × Nat) :=
  if keys.isEmpty then none else some (reason, c.stageOf keys)

/-- R451: the checks of the dictionary that a set leaves, reasons 3 to 0xB and 0xE, in order. -/
def State.validateDict (s : State) (c : ChangeSet) : Option (Nat × Nat) :=
  let b := s.beforeSet c
  let a := s.afterSet c
  let outside := (c.stages.filter (fun x =>
    if c.claim then x.index ≠ 0xE001 else c.partition && !scopedFor b a x.key (a.get x.key) c.part)).map StageBody.key
  (c.check 0x3 outside).or <| (c.check 0x4 a.regionFaults).or <| (c.check 0x5 a.windowFaults).or <|
    (c.check 0x6 (a.bindFaults ++ sharedDevFaults b c)).or <| (c.check 0x7 a.partFaults).or <|
    (c.check 0x8 ((c.stages.filter (fun x => 0x7000 ≤ x.index && x.index ≤ 0x7003 && routeBad x.value)).map StageBody.key)).or <|
    (c.check 0x9 a.ctxFaults).or <| (c.check 0xA a.groupFaults).or <| c.check 0xB a.keyFaults

/-- The refusals of entries' own rules, reason 0xE. -/
def State.validateEntries (s : State) (c : ChangeSet) : Option (Nat × Nat) :=
  let a := s.afterSet c
  (c.check 0xE (a.rollFaults c ++ a.targetAlignFaults)).or (if c.claim && claimBad c then some (0xE, 0xFFFF) else none)

/-- R451: validation of a commit: the reason and the stage number, or none (DEDUCED, log entry 52). -/
def State.validate (s : State) (c : ChangeSet) : Option (Nat × Nat) :=
  if c.digest ≠ c.setDigest then some (0x1, 0xFFFF)
  else if s.faults.crown ≠ .normal || s.sec.testMode then some (0x2, 0xFFFF)
  else
    let far := farStages s.crownId c
    (s.validateDict c).or <|
      (if (s.consentNeeded c).all (fun p => s.get (Key.OP_CONSENT + p) = c.consentWord) then none else some (0xC, 0xFFFF)).or <|
      (if c.joint then (if c.ft < s.time.ft + 100000000 then some (0xD, 0xFFFF) else none) else c.check 0xD far).or <|
      s.validateEntries c

/-- R452: validation again of a queued set, after one before it has left. -/
def State.revalidate (s : State) (c : ChangeSet) : Option (Nat × Nat) := (s.validateDict c).or (s.validateEntries c)

/-! ### Keys of a commit (R443, R444, R449) -/

/-- The public key in the slot that a KEY_ID names; none for a slot without one, and for a KEY_ID that names no slot. -/
def State.keyOf (s : State) (keyId : Nat) : Option Nat :=
  let slot := keyId % 0x1000
  let some? : Nat → Option Nat := fun v => if v = 0 then none else some v
  match keyId / 0x1000 with
  | 1 => if slot < 0x48 then some? (s.get (Key.OP_KEY + slot)) else none
  | 2 => if slot < 8 then some? (s.get (Key.INST_KEY + slot)) else none
  | 3 => if slot < 2 then some? (Config.makerRoot slot) else none
  | _ => none

/-- R444: the key that a claim set stages for the slot of a KEY_ID. -/
def ChangeSet.stagedKey (c : ChangeSet) (keyId : Nat) : Option Nat :=
  if keyId / 0x1000 ≠ 2 then none
  else match (c.stages.filter (fun x => x.index = 0xE001 && x.sub = keyId % 0x1000)).getLast? with
    | some x => if x.value = 0 then none else some x.value
    | none => none

/-- A signature of a COMMIT verifies under the key of its KEY_ID. -/
def State.sigOk (s : State) (c : ChangeSet) (x : SetSig) : Bool :=
  match (if c.claim then c.stagedKey x.keyId else s.keyOf x.keyId) with
  | some k => x.key == k
  | none => false

/-- R449: the two KEY_IDs make a pair that the set's scope allows. -/
def State.pairOk (s : State) (c : ChangeSet) (a b : Nat) : Bool :=
  let inst : Nat → Bool := fun k => k / 0x1000 == 2
  let op := 0x1000 + c.part
  a ≠ b && (if c.partition && !c.claim && s.get (Key.OP_KEY + c.part) ≠ 0 then (inst a && b == op) || (a == op && inst b)
    else inst a && inst b)

end Sys2Proof.Machine
end

