-- ==== Sys2Proof/Machine/Apply.lean ====
section
/-! DEFINITION. What a written value does as it takes effect (R408, R409 step 10), and what a change set does as it fires: its
values all at one instant (R269), what follows from each (R200, R214, R232, R240, R320, R355, R441, R442, R458), and the sets
validated after one that leaves the queue (R452). -/

namespace Sys2Proof.Machine

/-! ### Writes that take effect -/

/-- DICT_GEN advances (R434) (DEDUCED, log entry 89). -/
def State.bumpGen (s : State) : State := s.modBocel (fun b => { b with gen := b.gen + 1 })

/-- R28: RESET_REQUEST takes effect. -/
def State.applyReset (s : State) (who : Role) (v : Nat) : State :=
  let u := field v 7 0
  match field v 31 24 with
  | 1 => (s.requestReset who (.twig u)).getD s
  | 2 => (s.requestReset who (.bough u)).getD s
  | 3 => (s.requestReset who (.limb u)).getD s
  | 4 => (s.requestReset who (.die u)).getD s
  | _ => if s.warmAllowed (.request who) then s.warmReset 1 else s

/-- R142, R149: TP_ENABLE takes effect: a requested retrain, and DISABLED while it reads 0. -/
def State.applyTpEnable (s : State) (q v : Nat) : State :=
  if v = 0 then
    (s.trunkRetrain q true).modTrunk q (fun k => { k with tstate := .disabled })
  else if (s.trunk q).tstate = .disabled && s.limbRuns (limbOfTrunk q) && !s.twigOffline (gOfTrunk q) && !s.twigInReset (gOfTrunk q) then
    s.modTrunk q (fun k => { k with tstate := .detect, train := { k.train with since := s.now } })
  else s

/-- R164: a partition's map changes: each TC whose class changes is held while descriptors of it stand under the old class. -/
def State.applyClassMap (s : State) (p old v : Nat) : State :=
  s.each (List.range 8) (fun s tc =>
    let was := field old (4 * tc + 2) (4 * tc)
    let now := field v (4 * tc + 2) (4 * tc)
    if was = now then s
    else if !s.oldClassLeft p tc now then s.reclass p tc now
    else if s.heldClass p tc then s
    else s.modCore (fun c => { c with holds := c.holds ++ [{ part := p, tc := tc, since := s.now, raised := false }] }))

/-- R508: SLOT_MAP takes effect: a mapped channel is off, an unmapped one reads so; both ports' channels follow their demand. -/
def State.applySlotMap (s : State) (c old v : Nat) : State :=
  let s := s.modSlot c (fun x =>
    let r := { SlotChannel.reset with energy := x.energy, offAt := s.now }
    if bitOf v 15 then { r with state := 0 } else r)
  let ps := (if bitOf old 15 then [field old 7 0] else []) ++ (if bitOf v 15 then [field v 7 0] else [])
  s.each (ps.foldl insertNew []) State.slotUpdate

/-- R305: outputs that a new SIDEBAND_OUT names are driven at once. -/
def State.applyOutputs (s : State) (p : Nat) : State :=
  let b := s.sideband p
  (((s.driveOut p 0 b.perst).driveOut p 1 b.clkreq).driveOut p 2 b.attnOn).driveOut p 3 b.powerOn

/-- R236: lowering a cap lowers the value in force to it. -/
def State.applyCap (s : State) (key cap : Nat) : State := if cap < s.get key then s.setJ key cap else s

/-- Values whose entry only commands: what the write does; the entry holds nothing. -/
def State.applyCommand (s : State) (who : Role) (key v : Nat) : Option State :=
  let i := key / 256
  let sub := key % 256
  match i with
  | 0x1030 => some (s.applyReset who v)
  | 0x2003 => if sub = 6 then some (if v = 1 then s.clearPeaks else s) else none
  | 0x2224 => some (if v = 1 then s.clearSlot sub else s)
  | 0x3808 => some (if v = 1 then s.trunkRetrain sub true else s)
  | 0x4202 => some (if v = 2 then s.sharedForce sub else s.sharedRequest sub (if who.isInstaller then 1 else 2))
  | 0x4410 => some (if s.maySoft who v then s.noteFree v 0 else s)
  | 0x7010 => if sub = 2 then some (routeRebalanceEffect s v) else none
  | 0x7110 => some (if bitOf v 15 then s.fenceOff (v % 1024) .installer else s.fenceOn (v % 1024) .installer)
  | 0xA180 => some (s.cntFreezeWrite (BitVec.ofNat 16 v))
  | 0xA280 =>
    some (match s.snapWrite (blobField v 16 0 7) (blobField v 16 8 11) (blobField v 16 12 12 == 1) with
      | .ok s' => s'
      | .error _ => s)
  | 0xB002 => some ((s.ackFault who (BitVec.ofNat 15 v)).state s)
  | 0xB003 => some ((s.release who v).state s)
  | 0xB004 => some ((s.containBy who v).state s)
  | 0xB200 =>
    some (if bitOf v 31 then s.arm sub v
      else s.modFaults (fun f => { f with inject := f.inject.modify sub (fun x => x &&& 0x7FFFFFFF#32) }))
  | 0xD000 => if sub = 5 then some (if v = 1 then s.compactStart else s) else none
  | 0xD021 =>
    if sub = 0 then some ((s.graftChunkWrite (blobField v 1028 0 3) (beBytes 1024 v)).getD s)
    else some (if v = 1 then s.graftApplyWrite.getD s else s)
  | _ => none

/-- What follows from a stored value; `s` still holds the old one. -/
def State.applyStored (s : State) (key v : Nat) : State :=
  let i := key / 256
  let sub := key % 256
  let old := s.get key
  let put := s.set key v
  if 0xA100 ≤ i && i ≤ 0xA10C then s.cntCtlWrite (256 * (i - 0xA100) + sub) v
  else if 0x6608 ≤ i && i ≤ 0x660E then put.applyCap (key - 0x800) v
  else match i with
  | 0x2010 => if v = 0 then (if s.mayGate sub then put.gateLimb sub else put) else put.powerLimb sub
  | 0x2200 => put.applySlotMap sub old v
  | 0x2201 =>
    (match put.portOfChannel sub with
      | some p => put.slotUpdate p
      | none => put)
  | 0x3011 => put.applyOutputs sub
  | 0x3800 => if v = old then put else put.applyTpEnable sub v
  | 0x3801 | 0x3805 => if v = old then put else put.trunkRetrain sub true
  | 0x6000 => put.applyClassMap sub old v
  | 0x6100 | 0x6101 | 0x6102 | 0x6103 | 0x6104 | 0x6105 | 0x6106 | 0x6107 =>
    -- R170, R197: a raised reserve may drive shared_free to zero
    if sub < 160 then put.checkExhausted s (limbOf sub) else put
  | 0x6611 => put.applyCap (key - 0x100) v
  | 0x6830 =>
    (match s.slotSwapWrite v with
      | .ok s' => s'
      | .error _ => put)
  | 0xC010 =>
    if sub = 0 then (if v = 0xFF && s.time.mode = .master then put.enterHoldover else put.ownKeyChanged s.ownKey)
    else if sub = 1 then (if v = 0 then put.refInvalid.ownKeyChanged s.ownKey else put.ownKeyChanged s.ownKey)
    else put
  | 0xD022 =>
    (match s.graftActWrite v with
      | .ok s' => s'.set key v
      | .error _ => put)
  | _ => put

/-- R409 step 10: a value takes effect (DEDUCED, log entry 89). -/
def State.applyWrite (s : State) (who : Role) (key v : Nat) : State :=
  let s := s.bumpGen
  (s.applyCommand who key v).getD (s.applyStored key v)

/-- The value that the record of a write carries: of CNT_CTL, what the entry holds afterwards. -/
def State.recordedValue (s : State) (key v : Nat) : Nat :=
  let i := key / 256
  if 0xA100 ≤ i && i ≤ 0xA10C then (s.cntCtlWrite (256 * (i - 0xA100) + key % 256) v).getDef key 0 else v

/-! ### Change sets by number -/

/-- The set with an ID. -/
def State.setOf (s : State) (id : Nat) : Option ChangeSet := s.bocel.sets.find? (·.id == id)

/-- Changing the set with an ID. -/
def State.modSet (s : State) (id : Nat) (f : ChangeSet → ChangeSet) : State :=
  s.modBocel (fun b => { b with sets := b.sets.map (fun c => if c.id = id then f c else c) })

/-- Partitions as the PARTS field of a record (R471). -/
def partsMask (l : List Nat) : BitVec 64 := l.foldl (fun m p => m ||| BitVec.ofNat 64 (2 ^ p)) 0

/-- A SET_STATE record (R472). -/
def State.jSetState (s : State) (c : ChangeSet) (st : SetState) : State :=
  s.jForm 0 (partsMask (s.affected c)) none .anonymous none none (.setState c.id st c.ft)

/-- A set leaves the activation queue for a final state. -/
def State.setLeave (s : State) (c : ChangeSet) (st : SetState) : State :=
  let s := match s.actFind .change c.id with
    | some n => (s.jSetState c st).actDrop n
    | none => s
  s.modSet c.id (fun x => { x with state := st })

/-- A set becomes REFUSED, with its reason; the event's code carries the reason (DESIGN CHOICE, log entry 121). -/
def State.setRefuse (s : State) (c : ChangeSet) (reason : Nat) : State := (s.setLeave c .refused).noteAt 0xC12 reason 0

/-- R452: every QUEUED set validated after one that has left the queue is validated again, in queue order. -/
def State.revalidateAfter (s : State) (order : BitVec 16) : State :=
  let later := (s.bocel.sets.filter (fun x => x.state = .queued && x.order ≠ order && (x.order - order).toNat < 0x8000)).mergeSort
    (fun a b => (b.order - a.order).toNat < 0x8000)
  s.each later (fun s c =>
    match s.revalidate c with
    | some r => s.setRefuse c r.1
    | none => s)

/-! ### A set fires -/

/-- The keys that a set stages, each once. -/
def ChangeSet.keys (c : ChangeSet) : List Nat := c.stages.foldl (fun l b => insertNew l b.key) []

/-- R320, R363: a partition becomes UNUSED: its functions stop, the rounds that they wait for abort, shared devices that it held see it
released, and its memory key goes with the last partition that holds the grove partition. Requests that were parsed before go on under the
old set (R269) (DEDUCED, log entry 117). -/
def State.partGone (s : State) (gp p : Nat) : State :=
  let s := s.each ((s.part p).fns.map (·.1)) (fun s f => s.letGo p f)
  let s := s.reducePartReset p
  let s := s.modPart p (fun x => { Part.reset with count := x.count })
  let s := if (s.partOfGp gp).isNone then s.rollKey gp else s
  s.sharedCheckPart p

/-- R515, R226: a partition comes into use: ACTIVE, or HELD while its upstream link is not in L0 or its home crown is fenced (DEDUCED, log
entry 118). -/
def State.partNew (s : State) (p : Nat) : State :=
  let on := s.causeHolds p
  s.modPart p (fun x => { Part.reset with count := x.count, state := if on then .held else .active, causeOn := on })

/-- R214: this crown's copy of a binding goes to the other crown that has it: of one that ends, to the crown that had it. -/
def State.sendCopy (s : State) (p v old value : Nat) : State :=
  let b := Binding.ofNat (if (Binding.ofNat value).kind = 0 then old else value)
  if b.kind = 0 then s
  else if s.isHome p then
    (if b.crown = s.crownId then s else s.emit (.signal b.crown (s.groveId p) "binding" [v, value]))
  else match s.homeCrown p with
    | some h => if h = s.crownId then s else s.emit (.signal h (s.groveId p) "binding" [v, value])
    | none => s

/-- A binding stands on this crown alone: its home is here and so is its twig. -/
def State.ownBinding (s : State) (p : Nat) (b : Binding) : Bool := s.isHome p && b.crown = s.crownId

/-- What a slot shows of what lies behind a live binding to a twig of this crown: presence, and Link Active. -/
def State.slotNow? (s : State) (b : Binding) : Bool × Bool :=
  if b.kind = 2 then
    let up : Bool := (s.sharedOf b.twig).mode = .idle && (s.sharedOf b.twig).rid ≠ 0
    (up, up)
  else ((s.sideband (portOfG b.twig)).seen.getD 0 false, (s.hport (portOfG b.twig)).up)

/-- R208, R214: a VDP's binding has changed from `old` to `new` (DEDUCED, log entry 113) (DEDUCED, log entry 120). -/
def State.bindingChanged (s : State) (p v old new : Nat) : State :=
  let b := Binding.ofNat new
  let kept : Bool := (Binding.ofNat old).kind ≠ 0 && b.kind ≠ 0
  let live := b.kind ≠ 0 && s.ownBinding p b
  let s := s.modVdp p v (fun x =>
    let far := if x.farCopy = some new then x.farCopy else none
    let x := if kept then { x with quarantined := false, flrRunning := false } else { Bridge.reset with present := x.present, linkActive := x.linkActive }
    { x with live := live, farCopy := far, latch := live && b.kind = 1 && (s.sideband (portOfG b.twig)).seen.getD 2 false })
  if b.kind = 0 then s.showSlot p v false false
  else if live then
    let now := s.slotNow? b
    s.showSlot p v now.1 now.2
  else (s.showSlot p v false false).compareBinding p v

/-- R240: a twig's SHARED_DEV has changed (DEDUCED, log entry 119). -/
def State.sharedChanged (s : State) (g : Nat) : State :=
  if s.isShared g then (s.modShared g (fun _ => { Shared.reset with mode := .resetting })).sharedStart g
  else s.modShared g (fun _ => Shared.reset)

/-- The gate of a key of the gate tables or of PORT_XLATE. -/
def gateOfKey (key : Nat) : Option Nat :=
  let i := key / 256
  if 0x5000 ≤ i && i ≤ 0x529F then some (i % 256)
  else if i = 0x5A00 then some (key % 256)
  else none

/-- R269, R271: the gates and windows that a set changes. -/
def State.protFire (s : State) (c : ChangeSet) : State :=
  let gates := (c.keys.filterMap gateOfKey).foldl insertNew []
  let wins := c.keys.filter (fun k => 0x5800 ≤ k / 256 && k / 256 ≤ 0x59FF)
  let gone := wins.map (· % 0x10000)
  let s := s.modGates (fun x => { x with cache := x.cache.filter (fun e => e.2 ∉ gone) })
  if gates.isEmpty && wins.isEmpty then s else s.protChanged gates

/-- R442: sets signed by a replaced key are cancelled; sessions that it opened close (R422). -/
def State.keyGone (s : State) (keyId : Nat) : State :=
  let s := s.modBocel (fun b => { b with sessions := b.sessions.filter (fun x => x.keyId ≠ keyId) })
  let mine := s.bocel.sets.filter (fun c => (c.state = .queued || c.state = .postponed || (c.state = .sealed && c.prior ≠ .open_)) &&
    (c.sigA.keyId == keyId || c.sigB.keyId == keyId))
  s.each mine (fun s c => ((s.setLeave c .cancelled).noteAt 0xBF2 (c.id % 65536) 0).revalidateAfter c.order)

/-- The keys that measurement block 0x04 covers (R457). -/
def policyKey (k : Nat) : Bool :=
  let i := k / 256
  i = 0xE001 || (i = 0xE000 && 64 ≤ k % 256) || k = Key.DEBUG_PARTS || i = 0x3806 || i = 0xE020 || k = Key.DEBUG_POLICY

/-- R458: MEAS_GEN advances by one where a block of a partition changes. -/
def State.measure (s : State) (old : State) (c : ChangeSet) : State :=
  let crown : Bool := c.claim || (c.keys ++ keysChanged old.dict s.dict).any policyKey
  let own : Bool := old.crownId ≠ s.crownId
  let hit := unionParts (affectedIn old s c) (unusedBy old.dict s.dict)
  s.each ((List.range 64).filter (fun p => s.partUsed p && (crown || own || hit.contains p))) (fun s p =>
    s.modPart p (fun x => { x with measGen := x.measGen + 1 }))

/-- What follows from one fired value beside those of partitions, bindings, gates and keys. -/
def State.valueFired (s : State) (old : State) (k : Nat) : State :=
  let i := k / 256
  let sub := k % 256
  let v := s.get k
  let changed : Bool := old.get k ≠ v
  if i = 0x1010 then
    -- R26: an unclaimed crown's trunks go no further than training
    let out := fun (q : Nat) => match (s.trunk q).tstate with
      | .step106 | .step212 | .linkInit | .l0 => true
      | _ => false
    let s := if changed && v = 0xFFFF then s.each ((List.range 16).filter out) (fun s q => s.trunkRetrain q true) else s
    s.ownKeyChanged old.ownKey
  else if i = 0x8200 then s.rollKey v
  else if i = 0x3806 then
    (if v = 1 && s.trunkUp sub && !(s.trunk sub).crypt then s.trunkRetrain sub true else s)
  else if i = 0xE020 then (if v = 2 then s else s.modSec (fun x => { x with ide := assocErase x.ide sub }))
  else if 0x9100 ≤ i && i ≤ 0x9103 then
    -- R354: rounds count from 0 when a context becomes valid
    let ctx := k - Key.REDUCE_CTX
    let s := if (s.redCtx ctx).valid then s
      else s.each ((s.redRound ctx).waiters.map (·.round)) (fun s n => s.abortWaiters ctx n)
    if (old.redCtx ctx).valid && (s.redCtx ctx).valid then s
    else s.modEngines (fun e => { e with rounds := e.rounds.filter (·.ctx ≠ ctx) })
  else if 0x7000 ≤ i && i ≤ 0x7003 then
    -- R284: a destination whose entry has no member left is unreachable
    let dest := k - Key.ROUTE
    let s := if changed then s.modFabric (fun f => { f with unreachable := f.unreachable.filter (· ≠ dest) }) else s
    if changed && (s.membersFor dest).isEmpty && dest ≠ s.crownId then s.giveUp dest else s
  else s

/-- The ports whose slot power may follow from a set: those of bindings, shared devices and upstream ports that it changes. -/
def State.firedPorts (s : State) (old : State) (c : ChangeSet) : List Nat :=
  let own : Nat → List Nat := fun v =>
    let b := Binding.ofNat v
    if b.kind ≠ 0 && b.crown = s.crownId && b.twig < 160 && !isT b.twig then [portOfG b.twig] else []
  let up : Nat → List Nat := fun v => if v ≠ 0xFFFFFFFF && field v 7 0 < 160 && !isT (field v 7 0) then [portOfG (field v 7 0)] else []
  (c.keys.flatMap (fun k =>
    let i := k / 256
    if old.get k = s.get k then []
    else if 0x4100 ≤ i && i ≤ 0x413F then own (old.get k) ++ own (s.get k)
    else if i = 0x4200 then [portOfG (k % 256)]
    else if i = 0x4001 then up (old.get k) ++ up (s.get k)
    else [])).foldl insertNew []

/-- A set's values take effect at one instant, with all that follows; the set is FIRED. -/
def State.fireSet (s : State) (c : ChangeSet) : State :=
  let old := s
  -- a context that changes while its round runs: the round aborts under its old fields (R355)
  let s := s.each (c.keys.filter (fun k => 0x9100 ≤ k / 256 && k / 256 ≤ 0x9103)) (fun s k => s.reduceAbort (k - Key.REDUCE_CTX))
  let s := { s with dict := fireDict s.dict c }
  let gone := unusedBy old.dict s.dict
  let fresh := unusedBy s.dict old.dict
  let s := s.each gone (fun s p => s.partGone (old.groveId p) p)
  let s := s.each fresh State.partNew
  let s := s.protFire c
  let shared := c.keys.filter (fun k => k / 256 = 0x4200 && old.get k ≠ s.get k)
  let s := s.each shared (fun s k => s.sharedChanged (k % 256))
  let binds := c.keys.filter (fun k => 0x4100 ≤ k / 256 && k / 256 ≤ 0x413F)
  let s := s.each binds (fun s k => s.sendCopy (k / 256 - 0x4100) (k % 256) (old.get k) (s.get k))
  let s := s.each (binds.filter (fun k => old.get k ≠ s.get k)) (fun s k => s.bindingChanged (k / 256 - 0x4100) (k % 256) (old.get k) (s.get k))
  let s := s.each c.keys (fun s k => s.valueFired old k)
  let s := s.each (s.firedPorts old c) State.slotUpdate
  let s := s.measure old c
  let s := s.bumpGen
  let s := (s.jSetState c .fired).modSet c.id (fun x => { x with state := .fired })
  let s := s.noteFree 0xC13 0
  let s := if c.claim then s.noteFree 0xBF6 0 else s
  s.each ((keysChanged old.dict s.dict).filter (fun k => old.get k ≠ 0)) (fun s k => s.keyGone (slotKeyId k))

/-! ### DICTIONARY_CHANGE_FIRE -/

/-- The records of a set as it became QUEUED are not yet whole (R428, R473). -/
def State.setInFlight (s : State) (id : Nat) : Bool :=
  s.journal.inFlight.any (fun p => match p.record.body with | .set c _ => c.id == id | _ => false)

/-- R54 to R57, R428: the entry of a change set in a slot is due: it fires; a joint one is postponed while the crown is not locked (R55),
and the sets behind it are validated again (R452); one in FREE or ACQUIRING waits, and so does one whose records are not yet whole
(DEDUCED, log entry 122). -/
def dictionaryChangeFireEffect (s : State) (slot : Nat) : State :=
  let a := s.act.slots.getD slot ActSlot.reset
  if a.kind ≠ .change || !s.actTurn slot || s.setInFlight a.ref then s
  else match s.setOf a.ref with
    | none => s
    | some c =>
      match s.dueFate a.joint with
      | .wait => s
      | .postpone =>
        let s := ((s.postpone slot).jSetState c .postponed).modSet c.id (fun x =>
          if x.state = .sealed then { x with prior := .postponed } else { x with state := .postponed })
        s.revalidateAfter c.order
      | _ => (s.markFired slot).fireSet c

/-- DICTIONARY_CHANGE_FIRE -/
def execDictionaryChangeFire (t slot : Nat) (s : State) : Host.Outcome State Fault Refusal :=
  act2 s t (fun s => dictionaryChangeFireEffect s slot)

end Sys2Proof.Machine
end

