-- ==== Sys2Proof/Machine/Security.lean ====
section
/-! DEFINITION. The SPDM responder of each home partition (R456 to R458), the IDE streams that end at the module and link IDE
(R459 to R461), and maker test mode (R462 to R464). -/

namespace Sys2Proof.Machine

/-! ### The SPDM responder (R456) -/

/-- The DOE mailbox of PF0 answers: a home partition whose host's configuration requests are served (R225). -/
def State.doeServes (s : State) (p : Nat) : Bool :=
  p < 64 && s.isHome p && (s.part p).state ≠ .resetting && (s.part p).state ≠ .held && s.power.standby

/-- An SPDM answer of a partition (DEDUCED, log entry 53) (DESIGN CHOICE, log entry 136). -/
def State.spdmSay (s : State) (p : Nat) (what : String) (args : List Nat) : State := s.emit (.answer what (p :: args))

/-- A request that the responder turns away. -/
def State.spdmError (s : State) (p : Nat) : State := s.spdmSay p "SPDM ERROR" []

/-- The identity key can sign: the key store has not been zeroized by a tamper response (R373). -/
def State.canSign (s : State) : Bool := !s.sec.zeroized

/-- The session of a partition with an ID (DEDUCED, log entry 53). -/
def State.spdmOf (s : State) (p id : Nat) : Option SpdmSession := (s.part p).spdm.find? (·.id == id)

/-- Changing a session. -/
def State.modSpdm (s : State) (p id : Nat) (f : SpdmSession → SpdmSession) : State :=
  s.modPart p (fun x => { x with spdm := x.spdm.map (fun e => if e.id = id then f e else e) })

/-- A session of a partition ends. -/
def State.endSpdm (s : State) (p id : Nat) : State := s.modPart p (fun x => { x with spdm := x.spdm.filter (·.id ≠ id) })

/-- A request within a session whose handshake has finished. -/
def State.inSession (s : State) (p id : Nat) : Bool :=
  s.doeServes p && (match s.spdmOf p id with | some x => x.finished | none => false)

def getVersionEffect (s : State) (p : Nat) : State := if s.doeServes p then s.spdmSay p "VERSION" [0x13] else s

/-- GET_VERSION: SPDM 1.3. -/
def execGetVersion (t part : Nat) (s : State) : Host.Outcome State Fault Refusal := act1 s t (fun s => getVersionEffect s part)

def getCapabilitiesEffect (s : State) (p : Nat) : State :=
  if s.doeServes p then s.spdmSay p "CAPABILITIES" [Config.spdmBody 0xE1 p] else s

/-- GET_CAPABILITIES: no mutual authentication, no pre-shared key; the flags' coding is the published standard's. -/
def execGetCapabilities (t part : Nat) (s : State) : Host.Outcome State Fault Refusal := act1 s t (fun s => getCapabilitiesEffect s part)

def negotiateAlgorithmsEffect (s : State) (p : Nat) : State :=
  if s.doeServes p then s.spdmSay p "ALGORITHMS ECDSA-P384 SHA-384 secp384r1 AES-256-GCM" [] else s

/-- NEGOTIATE_ALGORITHMS -/
def execNegotiateAlgorithms (t part : Nat) (s : State) : Host.Outcome State Fault Refusal :=
  act1 s t (fun s => negotiateAlgorithmsEffect s part)

def getDigestsEffect (s : State) (p : Nat) : State := if s.doeServes p then s.spdmSay p "DIGESTS" [1, Config.chainDigest] else s

/-- GET_DIGESTS: one chain, in slot 0. -/
def execGetDigests (t part : Nat) (s : State) : Host.Outcome State Fault Refusal := act1 s t (fun s => getDigestsEffect s part)

def getCertificateEffect (s : State) (p slot : Nat) : State :=
  if !s.doeServes p then s
  else if slot = 0 then s.spdmSay p "CERTIFICATE" [Config.rootCert, Config.identityCert]
  else s.spdmError p

/-- GET_CERTIFICATE: the maker root certificate, then IDENTITY_CERT. -/
def execGetCertificate (t part slot : Nat) (s : State) : Host.Outcome State Fault Refusal :=
  act1 s t (fun s => getCertificateEffect s part slot)

def challengeEffect (s : State) (p nonce : Nat) : State :=
  if !s.doeServes p then s
  else if !s.canSign then s.spdmError p
  else
    let mine := Config.random s.draws
    let body := Config.spdmBody 0x83 (nonce + 2 ^ 256 * mine)
    (s.drew).spdmSay p "CHALLENGE_AUTH" [Config.chainDigest, mine, body, Config.identitySign body]

/-- CHALLENGE: signed by the identity key over the transcript. -/
def execChallenge (t part nonce : Nat) (s : State) : Host.Outcome State Fault Refusal :=
  act1 s t (fun s => challengeEffect s part nonce)

/-! ### Measurements (R457) -/

/-- An entry as the measurements digest it: index, subindex and value (R405). -/
def measured (key v : Nat) : List Byte :=
  match entryOf key with
  | some e => beBytes 2 (key / 256) ++ beBytes 1 (key % 256) ++ wireValue e key v
  | none => []

/-- Block 0x04: the crown policy. -/
def State.blockPolicy (s : State) : Nat :=
  let keys := (List.range 8).map (Key.INST_KEY + ·) ++ (List.range 8).map (Key.OP_KEY + 64 + ·) ++ [Key.DEBUG_POLICY, Key.DEBUG_PARTS] ++
    (List.range 16).map (Key.TP_CRYPT_POLICY + ·) ++ (List.range 160).map (Key.LINK_IDE_POLICY + ·)
  Config.sha384 (keys.flatMap (fun k => measured k (s.get k)) ++ beBytes 1 (s.get Key.CLAIM_STATE) ++ beBytes 1 s.sec.testMode.toNat)

/-- The staged entries that concern a partition by their index or subindex alone, whatever they hold: its own, and the shared devices. -/
def ownStaged (p : Nat) : List Nat :=
  [Key.PART_GROVE_ID + p, Key.PART_UPSTREAM + p] ++ (List.range 256).map (Key.VDP_BIND + 256 * p + ·) ++
    (List.range 160).map (0x420000 + ·) ++ (List.range 64).map (0x450000 + 256 * p + ·) ++ [Key.OP_KEY + p]

/-- Block 0x05: every staged entry of which the partition is an affected one, in order of index and subindex (DEDUCED, log entry 135). -/
def State.blockPart (s : State) (p : Nat) : Nat :=
  let keys := (ownStaged p ++ (s.dict.map (·.1)).filter (fun k => k ∉ ownStaged p)).mergeSort (· ≤ ·)
  let mine := keys.filter (fun k =>
    (match entryOf k with | some x => x.persist == .staged | none => false) && (affectedBy s s k (s.get k)).contains p)
  Config.sha384 (mine.flatMap (fun k => measured k (s.get k)))

/-- Block 0x07: the member crowns of the grove partition in crown ID order, with what each reports (R215); this crown's own blocks, and no
trunk hop to itself (DEDUCED, log entry 135). -/
def State.blockMembers (s : State) (p : Nat) : List Nat :=
  let crowns := ((s.memberCrowns p) ++ [s.crownId]).mergeSort (· ≤ ·)
  (crowns.take 64).flatMap (fun c =>
    if c = s.crownId then [c, s.blockPolicy, s.blockPart p, 1]
    else
      let f := Config.farMeasure c (s.groveId p) s.draws
      [c, f.1, f.2.1, f.2.2.toNat])

def getMeasurementsEffect (s : State) (p nonce : Nat) : State :=
  if !s.doeServes p then s
  else if !s.canSign then s.spdmError p
  else
    let act := s.journal.bootActive
    let blocks := [Config.romDigest, s.journal.digests.getD act 0, Config.subordinateDigest (s.journal.digests.getD act 0), s.blockPolicy,
      s.blockPart p, Config.deviceSerial, s.crownId, s.groveId p, p, (s.part p).measGen.toNat] ++ s.blockMembers p
    let transcript := Config.spdmBody 0xE0 (blocks.foldl (fun h b => Config.sha384 (beBytes 48 h ++ beBytes 48 b)) nonce)
    (s.drew).spdmSay p "MEASUREMENTS" (blocks ++ [Config.identitySign transcript])

/-- GET_MEASUREMENTS -/
def execGetMeasurements (t part nonce : Nat) (s : State) : Host.Outcome State Fault Refusal :=
  act1 s t (fun s => getMeasurementsEffect s part nonce)

/-! ### SPDM sessions (R456) -/

def keyExchangeEffect (s : State) (p id : Nat) : State :=
  if !s.doeServes p then s
  else if !s.canSign || 4 ≤ (s.part p).spdm.length || (s.spdmOf p id).isSome then s.spdmError p
  else
    let s := s.modPart p (fun x => { x with spdm := x.spdm ++ [{ id := id, finished := false, keyPhase := 0 }] })
    let body := Config.spdmBody 0xE4 (Config.random s.draws)
    (s.drew).spdmSay p "KEY_EXCHANGE_RSP" [id, body, Config.identitySign body]

/-- KEY_EXCHANGE: a session begins its handshake; at most four to a partition. -/
def execKeyExchange (t part id : Nat) (s : State) : Host.Outcome State Fault Refusal := act1 s t (fun s => keyExchangeEffect s part id)

/-- DESIGN CHOICE, log entry 136. -/
def finishEffect (s : State) (p id : Nat) (macOk : Bool) : State :=
  if !s.doeServes p then s
  else match s.spdmOf p id with
    | some x =>
      if x.finished then s.spdmError p
      else if macOk then (s.modSpdm p id (fun x => { x with finished := true })).spdmSay p "FINISH_RSP" [id]
      else (s.endSpdm p id).spdmError p
    | none => s.spdmError p

/-- FINISH: a failed check ends the handshake, as the published standard has it. -/
def execFinish (t part id : Nat) (macOk : Bool) (s : State) : Host.Outcome State Fault Refusal :=
  act1 s t (fun s => finishEffect s part id macOk)

def heartbeatEffect (s : State) (p id : Nat) : State :=
  if s.inSession p id then s.spdmSay p "HEARTBEAT_ACK" [id] else if s.doeServes p then s.spdmError p else s

/-- HEARTBEAT -/
def execHeartbeat (t part id : Nat) (s : State) : Host.Outcome State Fault Refusal := act1 s t (fun s => heartbeatEffect s part id)

def keyUpdateEffect (s : State) (p id : Nat) : State :=
  if s.inSession p id then (s.modSpdm p id (fun x => { x with keyPhase := x.keyPhase + 1 })).spdmSay p "KEY_UPDATE_ACK" [id]
  else if s.doeServes p then s.spdmError p else s

/-- KEY_UPDATE -/
def execKeyUpdate (t part id : Nat) (s : State) : Host.Outcome State Fault Refusal := act1 s t (fun s => keyUpdateEffect s part id)

def endSessionEffect (s : State) (p id : Nat) : State :=
  if s.inSession p id then (s.endSpdm p id).spdmSay p "END_SESSION_ACK" [id] else if s.doeServes p then s.spdmError p else s

/-- END_SESSION -/
def execEndSession (t part id : Nat) (s : State) : Host.Outcome State Fault Refusal := act1 s t (fun s => endSessionEffect s part id)

/-! ### IDE (R459 to R461) -/

def ideKmRequestEffect (s : State) (p session stream : Nat) (start : Bool) : State :=
  if !s.inSession p session then (if s.doeServes p then s.spdmError p else s)
  else
    let have_ := (s.part p).ideStreams
    if !start then (s.modPart p (fun x => { x with ideStreams := eraseAll x.ideStreams stream })).spdmSay p "IDE_KM" [stream, 0]
    else if stream ∈ have_ || have_.length < 8 then
      (s.modPart p (fun x => { x with ideStreams := insertNew x.ideStreams stream })).spdmSay p "IDE_KM" [stream, 1]
    else s.spdmError p

/-- IDE_KM_REQUEST: the host programs the keys of a stream that ends at the module over an SPDM session; up to eight of them. -/
def execIdeKmRequest (t part session stream : Nat) (start : Bool) (s : State) : Host.Outcome State Fault Refusal :=
  act1 s t (fun s => ideKmRequestEffect s part session stream start)

/-- R460: link IDE is required on a twig whose link is up, and has failed there. -/
def State.ideFail (s : State) (g : Nat) : State :=
  (s.modSec (fun x => { x with ide := assocPut x.ide g 2 })).noteFree 0xBF3 2

/-- R460: the policy requires link IDE on the twig, and its link is up. -/
def State.ideRequired (s : State) (g : Nat) : Bool :=
  g < 160 && !isT g && s.namesPort g && s.get (Key.LINK_IDE_POLICY + g) = 2 && (s.hport (portOfG g)).up && !s.ideFailed g

def ideEstablishTimeoutEffect (s : State) (g : Nat) : State :=
  if s.ideRequired g && s.ideState g ≠ 1 && s.after (s.hport (portOfG g)).l0At 100000000 then s.ideFail g else s

/-- IDE_ESTABLISH_TIMEOUT: 100 ms after L0 without link IDE. -/
def execIdeEstablishTimeout (t g : Nat) (s : State) : Host.Outcome State Fault Refusal := act2 s t (fun s => ideEstablishTimeoutEffect s g)

def ideStreamInsecureEffect (s : State) (g : Nat) : State :=
  if s.ideRequired g then s.ideFail g
  else if g < 160 && s.ideState g = 1 then s.modSec (fun x => { x with ide := assocPut x.ide g 0 })
  else s

/-- IDE_STREAM_INSECURE: the stream leaves the Secure state; where link IDE is not required, it is off. -/
def execIdeStreamInsecure (t g : Nat) (s : State) : Host.Outcome State Fault Refusal := act2 s t (fun s => ideStreamInsecureEffect s g)

def ideCheckFailEffect (s : State) (g : Nat) : State := if g < 160 && !isT g then s.noteFree 0xBF4 1 else s

/-- IDE_CHECK_FAIL: the event, and no partner violation (R461); what becomes of the stream is the specification's. -/
def execIdeCheckFail (t g : Nat) (s : State) : Host.Outcome State Fault Refusal := act2 s t (fun s => ideCheckFailEffect s g)

/-! ### Maker test mode (R462 to R464) -/

/-- The hold for a test unlock ends and start-up goes on; the hold does not count in the 5 s of R487 (DEDUCED, log entry 139). -/
def State.endHold (s : State) : State :=
  match s.sec.hold with
  | some (_, since) =>
    ((s.modSec (fun x => { x with hold := none })).modJournal (fun j => { j with startSince := j.startSince + (s.now - since) })).startTraining
  | none => s

def testHoldTimeoutEffect (s : State) : State :=
  match s.sec.hold with
  | some (_, since) => if s.after since 600000000000 then s.endHold else s
  | none => s

/-- TEST_HOLD_TIMEOUT: 600 s without a valid unlock. -/
def execTestHoldTimeout (t : Nat) (s : State) : Host.Outcome State Fault Refusal := act1 s t testHoldTimeoutEffect

def testStrapReleaseEffect (s : State) : State := (s.modSec (fun x => { x with strap := false })).endHold

/-- TEST_STRAP_RELEASE: the nonce is discarded and start-up continues. -/
def execTestStrapRelease (t : Nat) (s : State) : Host.Outcome State Fault Refusal := act1 s t testStrapReleaseEffect

/-- R463: zeroization: keys, sessions and secrets are gone, every entry is at its default, the journal is a new one, and test mode is on
(DEDUCED, log entry 140). -/
def State.zeroize (s : State) (keyId : Nat) : State :=
  let z := State.reset
  let j := s.journal
  let s := s.endHold
  let s := { s with
    dict := [],
    act := { z.act with pruneNumber := s.act.pruneNumber, snapNumber := s.act.snapNumber },
    parts := s.parts.map (fun (x : Part) => { Part.reset with count := x.count }),
    shared := z.shared,
    core := { s.core with queues := [], waiting := [], holds := [], outstanding := [] },
    mem := { s.mem with cells := [], owners := [], epochs := [], keyDraw := s.draws, keyWraps := [], sweeping := [] },
    bocel := { s.bocel with cache := [], sessions := [], sets := [], forwards := [] },
    sec := { s.sec with testMode := true, ide := [] },
    journal := { z.journal with
      flash := j.flash, flashFails := j.flashFails, boot := j.boot, images := j.images, versions := j.versions,
      digests := j.digests, svns := j.svns, startSince := s.journal.startSince, fellBack := j.fellBack, lastStop := j.lastStop,
      secret := j.secret } }
  let s := s.newSealKey.modTime (fun u => { u with lastFtJournaled := none })
  let s := s.each ((List.range 8).filter s.limbGated) State.powerLimb
  (s.jNow (.zeroize keyId)).noteFree 0xBF8 0

end Sys2Proof.Machine
end

