-- ==== Sys2Proof/Machine/Dictionary.lean ====
section
/-! DEFINITION. Bocel (R404 to R436): requests on their transports, authentication, the service queue, reads and writes of the
dictionary, change sets (R423 to R428, R443, R450), sessions and notifications (R422, R429), the audit (R454), in-band forwarding
(R431), and the other protocols of the management transports (R430). -/

namespace Sys2Proof.Machine

/-! ### Opcodes (R416) and transports (R430) -/

namespace Op

abbrev read : Nat := 0x01
abbrev write : Nat := 0x02
abbrev openSet : Nat := 0x03
abbrev stage : Nat := 0x04
abbrev commit : Nat := 0x05
abbrev cancelSet : Nat := 0x06
abbrev setStatus : Nat := 0x07
abbrev openSession : Nat := 0x08
abbrev closeSession : Nat := 0x09
abbrev subscribe : Nat := 0x0A
abbrev journalRead : Nat := 0x0C

end Op

/-- The heartwood serves management, in F3 and F4 too (R384, R385); EXTEST holds the contacts (R396) (DEDUCED, log entry 144). -/
def State.managed (s : State) : Bool := s.awake && s.faults.debugInstr ≠ .extest

/-- A request on a transport reaches the service queue's door: in recovery and in the hold for a test unlock only over I3C (R462,
R488); in band only with a carrier partition (R431); by a host only through a home partition. -/
def State.takes (s : State) (via : Transport) : Bool :=
  s.managed && (via = .i3c || (!s.journal.recovery && s.sec.hold.isNone)) &&
    (match via with
      | .i3c | .udp => s.power.ref25
      | .mctpPcie p | .mailbox p => p < 64 && s.isHome p
      | .inBand _ => s.get Key.BOCEL_GPART ≠ 0xFFFF)

/-! ### Answers (R414 to R417, R421, R422) -/

/-- An answer with a status other than OK: INDEX, SUB, zero, DETAIL. -/
def failing (op status detail index sub : Nat) : Answer :=
  { op := op, status := status, detail := detail, more := false, session := 0,
    body := beBytes 2 index ++ beBytes 1 sub ++ [0] ++ beBytes 4 detail }

/-- An answer with OK. -/
def passing (op : Nat) (body : List Byte) : Answer := { op := op, status := 0, detail := 0, more := false, session := 0, body := body }

/-- The open session that a request names. -/
def State.sessionOf (s : State) (n : Nat) : Option Session := s.bocel.sessions.find? (·.id == n)

/-- The header of a response (R414, R415). -/
def responseHeader (r : Req) (a : Answer) (replayed : Bool) (session : Nat) : List Byte :=
  [1, BitVec.ofNat 8 (0x80 + a.op)] ++
    beBytes 2 (a.more.toNat * 8 + replayed.toNat * 4 + (if r.mac.isSome then 2 else 0)) ++ beBytes 4 r.reqId ++ beBytes 2 r.target ++
    beBytes 2 0xFFFF ++ beBytes 2 a.body.length ++ beBytes 2 a.status ++ beBytes 8 session

/-- The whole response: header, body, and in a session its MAC block. -/
def State.responseBytes (s : State) (r : Req) (a : Answer) (replayed : Bool) : List Byte :=
  match r.mac with
  | some m =>
    let h := responseHeader r a replayed m.session
    (match s.sessionOf m.session with
      | some x =>
        let n := beBytes 8 (x.outSeq + 1)
        h ++ a.body ++ n ++ padTo 16 (Config.sessionMac x.key (h ++ a.body ++ n))
      | none => h ++ a.body)
  | none => responseHeader r a replayed a.session ++ a.body

/-- R433: a whole message stands in a mailbox's MB_RESPONSE: READY sets, with its vector (DEDUCED, log entry 132). -/
def State.mailboxAnswer (s : State) (p : Nat) (bs : List Byte) : State :=
  let s := s.modPart p (fun x => { x with mailbox := { x.mailbox with busy := false, ready := true, respLen := bs.length, response := bs } })
  let v := (s.part p).mailbox.vector
  if v.getLsbD 31 then s.vector p 0 (v.toNat % 2048) else s

/-- The response leaves on the request's transport (DEDUCED, log entry 132). -/
def State.deliverAnswer (s : State) (r : Req) (a : Answer) (replayed : Bool) : State :=
  match r.via with
  | .mailbox p => s.mailboxAnswer p (s.responseBytes r a replayed)
  | via => s.emit (if replayed then .replayed via r.reqId a else .response via r.reqId a)

/-- R437: an AUTH_FAILED answer raises BOCEL_AUTH_FAIL. -/
def State.authEvent (s : State) (status : Nat) : State := if status = Status.authFailed then s.noteFree 0xBF0 1 else s

/-- The counts of an answer (R436). -/
def State.countAnswer (s : State) (status : Nat) : State :=
  if status = Status.busyRetry then s.countHeart 0x3C4 1
  else
    let s := s.countHeart 0x3C0 1
    if status = Status.authFailed || status = Status.staleSeq then s.countHeart 0x3C2 1 else s

/-- R421: the response to a signed request that was served stays in the cache of 64 (DEDUCED, log entry 131). -/
def State.cacheAnswer (s : State) (r : Req) (a : Answer) : State :=
  match r.sig with
  | some b =>
    if a.status = Status.authFailed || a.status = Status.staleSeq || a.status = Status.busyRetry || a.status = Status.badMessage then s
    else s.modBocel (fun x =>
      let l := x.cache ++ [{ keyId := b.keyId, keySeq := b.keySeq, digest := b.digest, answer := a }]
      { x with cache := l.drop (l.length - 64) })
  | none => s

/-- Notifications go to the sessions that subscribe (R429) (DESIGN CHOICE, log entry 54). -/
def State.sendNotes (s : State) : State :=
  let n := s.notesToSend
  (s.drainNotes).countHeart 0x3C6 n

/-- A request is answered (R409 step 11): the response and its counts; a session's count moves on, and CLOSE_SESSION ends it. -/
def State.respond (s : State) (r : Req) (a : Answer) : State :=
  let s := (s.countAnswer a.status).authEvent a.status
  let s := (s.deliverAnswer r a false).cacheAnswer r a
  match r.mac with
  | some m =>
    if a.op = Op.closeSession && a.status = 0 then s.modBocel (fun b => { b with sessions := b.sessions.filter (·.id ≠ m.session) })
    else s.modBocel (fun b => { b with sessions := b.sessions.map (fun x => if x.id = m.session then { x with outSeq := x.outSeq + 1 } else x) })
  | none => s

/-- A cached response is sent again with REPLAYED (R421). -/
def State.replay (s : State) (r : Req) (a : Answer) : State :=
  let s := ((s.countHeart 0x3C0 1).countHeart 0x3C3 1).deliverAnswer r a true
  match r.mac with
  | some m => s.modBocel (fun b => { b with sessions := b.sessions.map (fun x => if x.id = m.session then { x with outSeq := x.outSeq + 1 } else x) })
  | none => s

/-! ### Authentication (R418 to R422) -/

/-- Who asks: role, KEY_ID (0xFFFF for nobody, as records have it) and KEY_SEQ of the signature, 0 without one. -/
structure Caller where
  who : Role
  keyId : Nat
  signed : Bool
  inSession : Bool
  deriving DecidableEq, Repr

/-- What authentication answers. -/
inductive Auth where
  | known (c : Caller)
  | cached (a : Answer)
  | refused (status : Nat)
  deriving DecidableEq, Repr

/-- A signature block verifies: its KEY_ID names an installed key, and the signature is by it. -/
def State.sigGood (s : State) (b : SigBlock) : Bool :=
  match s.keyOf b.keyId with
  | some k => b.key == k
  | none => false

/-- The last KEY_SEQ accepted of a key (R434). -/
def State.lastSeq (s : State) (keyId : Nat) : Nat := s.get (keySeqKey keyId)

/-- A MAC block holds: its session is open, not idle for 300 s, and the MAC verifies. -/
def State.macSession (s : State) (m : MacBlock) : Option Session :=
  match s.sessionOf m.session with
  | some x => if m.ok && s.now < x.lastReq + 300000000000 then some x else none
  | none => none

/-- R409 step 2, R418 to R422 (DEDUCED, log entry 131). -/
def State.authenticate (s : State) (r : Req) : Auth :=
  let sigBad : Bool := match r.sig with | some b => !s.sigGood b | none => false
  let sess := r.mac.bind s.macSession
  if sigBad || (r.mac.isSome && sess.isNone) then .refused Status.authFailed
  else match r.sig, r.mac, sess with
    | some b, m, _ =>
      if b.keySeq ≤ s.lastSeq b.keyId then
        (match s.bocel.cache.find? (fun x => x.keyId == b.keyId && x.keySeq == b.keySeq && x.digest == b.digest) with
          | some x => .cached x.answer
          | none => .refused Status.staleSeq)
      else if (match m, sess with | some m, some x => decide (m.sessionSeq ≤ x.lastSeq) | _, _ => false) then .refused Status.staleSeq
      else .known { who := roleOfKey b.keyId, keyId := b.keyId, signed := true, inSession := m.isSome }
    | none, some m, some x =>
      if m.sessionSeq ≤ x.lastSeq then .refused Status.staleSeq
      else .known { who := roleOfKey x.keyId, keyId := x.keyId, signed := false, inSession := true }
    | none, _, _ => .known { who := .anonymous, keyId := 0xFFFF, signed := false, inSession := false }

/-- A session's request has been taken: its SESSION_SEQ and its time. -/
def State.touchSession (s : State) (r : Req) : State :=
  match r.mac with
  | some m => s.modBocel (fun b => { b with sessions := b.sessions.map (fun x =>
      if x.id = m.session then { x with lastSeq := m.sessionSeq, lastReq := s.now } else x) })
  | none => s

/-- The crown is claimed (R443). -/
def State.claimed (s : State) : Bool := s.get Key.CLAIM_STATE = 1

/-- R416, R419: the authentication that an opcode needs, and the roles that it serves (DEDUCED, log entry 128). -/
def Caller.may (c : Caller) (op index : Nat) : Bool :=
  if op = Op.read then (0x1000 ≤ index && index ≤ 0x10FF) || 0xF000 ≤ index || c.who ≠ .anonymous
  else if op = Op.write || op = Op.openSession then c.signed
  else if op = Op.openSet || op = Op.stage then c.signed && (c.who.isInstaller || c.who.operatorOf.isSome)
  else if op = Op.commit || op = Op.cancelSet then true
  else if op = Op.closeSession then c.inSession
  else if op = Op.subscribe then c.inSession && c.who.isInstaller
  else c.who ≠ .anonymous

/-- R443, R462, R488: what an unclaimed crown, a held one and one in recovery serve beside the rest: an unclaimed crown the claim's
requests over I3C; a held one TEST_NONCE and TEST_UNLOCK; one in recovery anonymous reads of 0xD000, and the graft entries (DEDUCED, log
entry 126). -/
def State.mayServe (s : State) (c : Caller) (via : Transport) (op index sub : Nat) : Bool :=
  let plain : Bool := op = Op.read && c.who = .anonymous
  if s.sec.hold.isSome then plain || ((op = Op.read || op = Op.write) && index = 0xE030 && sub ≤ 1)
  else if s.journal.recovery then plain || ((op = Op.read || op = Op.write) && 0xD020 ≤ index && index ≤ 0xD021)
  else if s.claimed then true
  else plain || (via = .i3c && (op = Op.openSet || op = Op.stage || op = Op.commit))

/-- A claim's OPEN_SET or STAGE: taken without a trailer (R443). -/
def State.claiming (s : State) (c : Caller) (via : Transport) (op : Nat) : Bool :=
  !s.claimed && s.sec.hold.isNone && !s.journal.recovery && via = .i3c && !c.signed && (op = Op.openSet || op = Op.stage)

/-- R488: in recovery 0xD000 is read anonymously, and the graft entries are served without a key (DEDUCED, log entry 126) (DEDUCED, log
entry 127) -/
def State.recoveryServes (s : State) (op index : Nat) : Bool :=
  s.journal.recovery && ((op = Op.read && index = 0xD000) || ((op = Op.read || op = Op.write) && 0xD020 ≤ index && index ≤ 0xD021))

/-! ### Ends of a request -/

/-- An answer waits for the record of its signed request (R474): a KEY_SEQ record, or the record given; an unsigned one is sent. -/
def State.finishWith (s : State) (r : Req) (c : Caller) (a : Answer) : State :=
  match r.sig with
  | some b => if c.signed then s.jForm c.keyId 0 (some r) c.who none (some a) (.keySeq b.keySeq) else s.respond r a
  | none => s.respond r a

/-- A refusal, as an answer. -/
def State.refuseReq (s : State) (r : Req) (c : Caller) (op status detail index sub : Nat) : State :=
  s.finishWith r c (failing op status detail index sub)

/-! ### READ (R406, R416) -/

/-- The role may read an entry; what an entry that it may only write returns is its default (R406) (DEDUCED, log entry 128). -/
def Entry.readable (e : Entry) (who : Role) : Bool := e.access who ≠ .none_

/-- The values of a range from `sub` on, one TYPE to a response, as many whole ones as fit: bytes, and the last subindex served (DESIGN
CHOICE, log entry 129). -/
def State.gatherRead (s : State) (who : Role) (index ty room : Nat) : List Nat → List Byte → Nat → List Byte × Nat
  | [], out, last => (out, last)
  | sub :: rest, out, last =>
    match entryAt index sub with
    | none => (out, last)
    | some e =>
      let bs := wireValue e (256 * index + sub) (s.showValue who e (256 * index + sub))
      if e.ty.code = ty && out.length + bs.length ≤ room then s.gatherRead who index ty room rest (out ++ bs) sub else (out, last)

/-- READ: every subindex of the range exists and may be read; its values, with MORE where they do not all fit (DESIGN CHOICE, log entry
129). -/
def State.serveRead (s : State) (r : Req) (c : Caller) (index first last : Nat) : State :=
  let subs := (List.range (last + 1 - first)).map (first + ·)
  match subs.find? (fun n => (entryAt index n).isNone) with
  | some n => s.refuseReq r c Op.read Status.noEntry 0 index n
  | none =>
    let open_ := s.recoveryServes Op.read index
    match subs.find? (fun n => match entryAt index n with | some e => !open_ && !e.readable c.who | none => false) with
    | some n => s.refuseReq r c Op.read Status.accessDenied 0 index n
    | none =>
      match entryAt index first with
      | none => s
      | some e =>
        let room := 4096 - 24 - 5 - (if r.mac.isSome then 24 else 0)
        let out := s.gatherRead c.who index e.ty.code room subs [] first
        let body := beBytes 2 index ++ beBytes 1 first ++ beBytes 1 out.2 ++ beBytes 1 e.ty.code ++ out.1
        (s.drew).finishWith r c { passing Op.read body with more := decide (out.2 < last) }

/-! ### WRITE (R409) -/

/-- R240, R406, R439, R465: what an operator may write: an entry of its own partition's subindex; a crown operator nothing. -/
def operatorWrites (slot key : Nat) : Bool :=
  let i := key / 256
  let sub := key % 256
  slot < 64 &&
    (if (0x6600 ≤ i && i ≤ 0x6612) || i = 0xE000 || i = 0xE010 then sub == slot else true)

/-- R409 step 4. -/
def Entry.writable (e : Entry) (who : Role) (key : Nat) : Bool :=
  (e.access who == .w || e.access who == .rw) && (match who with
    | .operator n => operatorWrites n key
    | .anonymous => false
    | _ => true)

/-- R409 steps 3 to 5 for a WRITE or a STAGE: the entry, or a status. -/
def checkEntry (who : Role) (open_ : Bool) (index sub type : Nat) : Entry ⊕ Nat :=
  match entryAt index sub with
  | none => .inr Status.noEntry
  | some e =>
    if !open_ && !e.writable who (256 * index + sub) then .inr Status.accessDenied
    else if type ≠ e.ty.code then .inr Status.typeMismatch
    else .inl e

/-- The partitions that the record of a write concerns: of an entry with a subindex for each partition, that one (R454) (DEDUCED, log
entry 134) -/
def writeParts (key : Nat) : List Nat :=
  let i := key / 256
  if (0x6600 ≤ i && i ≤ 0x6612) || (0x9000 ≤ i && i ≤ 0x9002) || i = 0xE010 then [key % 256] else []

/-- WRITE: steps 3 to 9; the value takes effect once its record is whole. -/
def State.serveWrite (s : State) (r : Req) (c : Caller) (index sub type v len : Nat) : State :=
  let key := 256 * index + sub
  let no := fun status detail => s.refuseReq r c Op.write status detail index sub
  match checkEntry c.who (s.recoveryServes Op.write index) index sub type with
  | .inr status => no status 0
  | .inl e =>
    if e.persist = .staged then no Status.needsCommit 0
    else if !legalValue e key v len then no Status.valueRefused 0
    else match s.writeAdmit c.who key v with
      | .stop status detail => no status detail
      | .go =>
        let ks := match r.sig with | some b => b.keySeq | none => 0
        let done := passing Op.write []
        if e.persist = .journaled then
          if s.journal.warned then s.respond r (failing Op.write Status.busyRetry 0 index sub)
          else s.jForm c.keyId (partsMask (writeParts key)) (some r) c.who (some (key, v)) (some done)
            (.write index sub (s.get key) (s.recordedValue key v) ks)
        else if c.signed then s.jForm c.keyId 0 (some r) c.who (some (key, v)) (some done) (.keySeq ks)
        else (s.applyWrite c.who key v).respond r done

/-! ### Change sets (R423 to R428, R443, R450) -/

/-- Sets that count against the limit of 16 (DEDUCED, log entry 138). -/
def ChangeSet.live (c : ChangeSet) : Bool := c.state = .open_ || c.state = .sealed

/-- Sets whose contents stand in the staging store. -/
def ChangeSet.stored (c : ChangeSet) : Bool := c.live || c.state = .queued || c.state = .postponed

/-- OPEN_SET (R423, R439, R443) (DESIGN CHOICE, log entry 130). -/
def State.serveOpenSet (s : State) (r : Req) (c : Caller) (partition : Bool) (part : Nat) (joint : Bool) : State :=
  let claim := s.claiming c r.via Op.openSet
  let no := fun status => s.refuseReq r c Op.openSet status 0 0 0
  let opMay : Bool := match c.who with | .operator n => partition && n == part && n < 64 | _ => true
  if (partition && 64 ≤ part) || (claim && partition) then no Status.valueRefused
  else if !claim && !opMay then no Status.accessDenied
  else if 16 ≤ (s.bocel.sets.filter ChangeSet.live).length then no Status.noResource
  else
    let id := s.bocel.nextSet
    let x : ChangeSet := {
      id := id, partition := partition, part := part, joint := joint, stages := [], state := .open_, prior := .open_,
      commitNo := 0, ft := 0, digest := 0, sigA := { keyId := 0, key := 0 }, sigB := { keyId := 0, key := 0 },
      opener := if claim then 0 else c.keyId, order := 0, lastReq := s.now, claim := claim, answerTo := none }
    (s.modBocel (fun b => { b with sets := b.sets ++ [x], nextSet := id + 1 })).finishWith r c (passing Op.openSet (beBytes 4 id))

/-- A request names a set: the set's time. -/
def State.touchSet (s : State) (id : Nat) : State := s.modSet id (fun c => { c with lastReq := s.now })

/-- STAGE (R424). -/
def State.serveStage (s : State) (r : Req) (c : Caller) (setId stageNo index sub type v len : Nat) : State :=
  let no := fun (s : State) status detail => s.refuseReq r c Op.stage status detail index sub
  match s.setOf setId with
  | none => no s Status.setState 0xFFFFFFFF
  | some x =>
    let s := s.touchSet setId
    let claim : Bool := x.claim && s.claiming c r.via Op.stage
    let who : Role := if claim then .installer 0 else c.who
    if !claim && c.keyId ≠ x.opener then no s Status.authFailed 0
    else if x.state ≠ .open_ then no s Status.setState x.state.code
    else if stageNo ≠ x.stages.length then no s Status.setState x.stages.length
    else match checkEntry who false index sub type with
      | .inr status => no s status 0
      | .inl e =>
        if e.persist ≠ .staged || !legalValue e (256 * index + sub) v len then no s Status.valueRefused 0
        else
          let used := ((s.bocel.sets.filter ChangeSet.stored).map ChangeSet.stageBytes).sum
          if 65536 ≤ x.stages.length || 2 ^ 23 < used + 12 + valueBytes (256 * index + sub) then no s Status.noResource 0
          else (s.modSet setId (fun x => { x with stages := x.stages ++ [{ index := index, sub := sub, value := v }] })).finishWith r c
            (passing Op.stage [])

/-- A signed COMMIT or CANCEL_SET whose answer waits for something else leaves its KEY_SEQ record at once. -/
def State.keySeqNow (s : State) (r : Req) (c : Caller) : State :=
  match r.sig with
  | some b => if c.signed then s.jForm c.keyId 0 none c.who none none (.keySeq b.keySeq) else s
  | none => s

/-- COMMIT: the pseudo-code of R450 up to SEALED (DESIGN CHOICE, log entry 123). -/
def State.serveCommit (s : State) (r : Req) (c : Caller) (setId commitNo ft digest : Nat) (a b : SetSig) : State :=
  let no := fun (s : State) status detail => s.refuseReq r c Op.commit status detail 0 0
  match s.setOf setId with
  | none => no s Status.setState 0xFFFFFFFF
  | some x =>
    let s := s.touchSet setId
    if !(x.state = .open_ || x.state = .queued || x.state = .postponed) || commitNo ≠ x.commitNo then no s Status.setState x.state.code
    else if !s.sigOk x a || !s.sigOk x b || !s.pairOk x a.keyId b.keyId then no s Status.authFailed 0
    else if x.state = .open_ && 256 ≤ s.actCount then no s Status.noResource 0
    else (s.keySeqNow r c).modSet setId (fun x => { x with
      commitNo := x.commitNo + 1, prior := x.state, state := .sealed, ft := ft, digest := digest, sigA := a, sigB := b, answerTo := some r })

/-- SET_ID, STATE and, of a COMMIT, QUEUE_SLOT. -/
def stateBody (id state : Nat) (slot : Option Nat) : List Byte :=
  beBytes 4 id ++ beBytes 1 state ++ (match slot with | some n => beBytes 1 n | none => [])

/-- CANCEL_SET (R426). -/
def State.serveCancel (s : State) (r : Req) (c : Caller) (setId commitNo : Nat) (a b : SetSig) : State :=
  let no := fun (s : State) status detail => s.refuseReq r c Op.cancelSet status detail 0 0
  match s.setOf setId with
  | none => no s Status.setState 0xFFFFFFFF
  | some x =>
    let s := s.touchSet setId
    if !(x.state = .open_ || x.state = .queued || x.state = .postponed) || commitNo ≠ x.commitNo then no s Status.setState x.state.code
    else
      let ok : Bool := if x.state = .open_ then a.keyId == x.opener && s.sigOk x a && b.keyId == 0
        else s.sigOk x a && s.sigOk x b && s.pairOk x a.keyId b.keyId
      if !ok then no s Status.authFailed 0
      else
        let s := s.modSet setId (fun x => { x with commitNo := x.commitNo + 1 })
        let done := passing Op.cancelSet (stateBody setId SetState.cancelled.code none)
        if x.state = .open_ then (s.modSet setId (fun x => { x with state := .cancelled })).finishWith r c done
        else
          let s := s.keySeqNow r c
          let s := s.jForm 0 (partsMask (s.affected x)) (some r) c.who none (some done) (.setState setId .cancelled x.ft)
          let s := match s.actFind .change setId with | some n => s.actDrop n | none => s
          let s := s.modSet setId (fun x => { x with state := .cancelled })
          if x.state = .queued then s.revalidateAfter x.order else s

/-- SET_STATUS (R427) (DEDUCED, log entry 138). -/
def State.serveSetStatus (s : State) (r : Req) (c : Caller) (setId : Nat) : State :=
  match s.setOf setId with
  | none => s.refuseReq r c Op.setStatus Status.setState 0xFFFFFFFF 0 0
  | some x =>
    let may : Bool := match c.who with
      | .operator n => x.partition && x.part == n
      | .installer _ => true
      | _ => false
    if !may then s.refuseReq r c Op.setStatus Status.accessDenied 0 0 0
    else (s.touchSet setId).finishWith r c (passing Op.setStatus (beBytes 4 setId ++ beBytes 1 x.state.code ++ beBytes 1 x.partition.toNat ++
      beBytes 1 x.part ++ beBytes 1 x.joint.toNat ++ beBytes 4 x.stages.length ++ beBytes 2 x.commitNo ++
      beBytes 1 ((s.actFind .change setId).getD 0xFF) ++ [0] ++ beBytes 8 x.ft))

/-- A COMMIT is answered once its validation has ended (DEDUCED, log entry 122). -/
def State.answerCommit (s : State) (x : ChangeSet) (a : Answer) : State :=
  match x.answerTo with
  | some r => (s.modSet x.id (fun c => { c with answerTo := none })).respond r a
  | none => s

/-- SET_VALIDATED: the end of R450: REFUSED, or QUEUED with its entry placed or moved and its records formed. A set that fired under its
former commit meanwhile is answered with its state (DESIGN CHOICE, log entry 123). An entry that is moved keeps its SEQ (DESIGN CHOICE,
log entry 164). -/
def setValidatedEffect (s : State) (setId : Nat) : State :=
  match s.setOf setId with
  | none => s
  | some x =>
    if x.answerTo.isNone then s
    else if x.state ≠ .sealed then s.answerCommit x (failing Op.commit Status.setState x.state.code 0 0)
    else match s.validate x with
      | some (reason, stage) =>
        let s := s.setRefuse x reason
        let s := s.answerCommit x (failing Op.commit Status.validationFailed (reason * 65536 + stage) 0 0)
        if x.prior = .queued then s.revalidateAfter x.order else s
      | none =>
        let placed := match s.actFind .change setId with
          | some n => some (s.modAct (fun y => { y with slots := y.slots.modify n (fun e => { e with ft := x.ft, state := .pending }) }), n)
          | none =>
            match s.actFree, s.actPut x.ft .change x.joint setId 0xFFFF with
            | some n, some s' => some (s', n)
            | _, _ => none
        match placed with
        | none =>
          let s := s.modSet setId (fun c => { c with state := c.prior, commitNo := c.commitNo - 1 })
          s.answerCommit x (failing Op.commit Status.noResource 0 0 0)
        | some (s, n) =>
          let consent := s.consentNeeded x
          let order := (s.act.slots.getD n ActSlot.reset).seq
          let x' := { x with state := .queued, order := order, answerTo := none }
          let s := s.modSet setId (fun _ => x')
          let a := passing Op.commit (stateBody setId (if x.claim then SetState.fired.code else SetState.queued.code)
            (some (if x.claim then 0xFF else n)))
          s.jForm 0 (partsMask (s.affected x')) x.answerTo .anonymous none (some a) (.set x' consent)

/-- SET_VALIDATED -/
def execSetValidated (t setId : Nat) (s : State) : Host.Outcome State Fault Refusal := act2 s t (fun s => setValidatedEffect s setId)

def setExpireEffect (s : State) (setId : Nat) : State :=
  match s.setOf setId with
  | some x => if x.state = .open_ && s.after x.lastReq 600000000000 then s.modSet setId (fun c => { c with state := .expired }) else s
  | none => s

/-- SET_EXPIRE: 600 s without a request (R423). -/
def execSetExpire (t setId : Nat) (s : State) : Host.Outcome State Fault Refusal := act1 s t (fun s => setExpireEffect s setId)

/-! ### Sessions (R422) -/

/-- A SESSION number that is not zero and not in use, from one drawn. -/
def freshSession (used : List Nat) (drawn : Nat) : Nat :=
  ((List.range 64).map (fun k => (drawn + k) % 2 ^ 64)).find? (fun n => n ≠ 0 && n ∉ used) |>.getD 1

/-- OPEN_SESSION. -/
def State.serveOpenSession (s : State) (r : Req) (c : Caller) (ephemeral : Nat) : State :=
  if ephemeral = 0 || !Config.onCurve ephemeral then s.refuseReq r c Op.openSession Status.valueRefused 0 0 0
  else if 32 ≤ s.bocel.sessions.length then s.refuseReq r c Op.openSession Status.noResource 0 0 0
  else
    let n := freshSession (s.bocel.sessions.map (·.id)) (Config.random s.draws % 2 ^ 64)
    let priv := Config.random (s.draws + 1)
    let pub := Config.publicKey priv
    let sig := Config.identitySign (Config.sha384 (beBytes 97 ephemeral ++ beBytes 97 pub ++ beBytes 8 n ++ beBytes 8 Config.deviceSerial))
    let x : Session := { id := n, keyId := c.keyId, key := Config.sessionKey priv ephemeral n, lastSeq := 0, outSeq := 0, lastReq := s.now,
                         subscribed := false }
    ((s.drew).drew.modBocel (fun b => { b with sessions := b.sessions ++ [x] })).finishWith r c
      { passing Op.openSession (beBytes 97 pub ++ beBytes 96 sig) with session := n }

def sessionIdleCloseEffect (s : State) (session : Nat) : State :=
  match s.sessionOf session with
  | some x => if s.after x.lastReq 300000000000 then s.modBocel (fun b => { b with sessions := b.sessions.filter (·.id ≠ session) }) else s
  | none => s

/-- SESSION_IDLE_CLOSE: 300 s without a request. -/
def execSessionIdleClose (t session : Nat) (s : State) : Host.Outcome State Fault Refusal :=
  act1 s t (fun s => sessionIdleCloseEffect s session)

/-- SUBSCRIBE: the session's subscription; queued notifications go at once (R429). -/
def State.serveSubscribe (s : State) (r : Req) (c : Caller) (on : Bool) : State :=
  let n := match r.mac with | some m => m.session | none => 0
  let s := s.modBocel (fun b => { b with sessions := b.sessions.map (fun x => if x.id = n then { x with subscribed := on } else x) })
  (s.finishWith r c (passing Op.subscribe [])).sendNotes

/-! ### The audit (R454, R471, R472, R480) -/

/-- A value as a record carries it. -/
def recordValue (key v : Nat) : List Byte := match entryOf key with | some e => wireValue e key v | none => []

/-- TYPE of a key's entry. -/
def typeOf (key : Nat) : Nat := match entryOf key with | some e => e.ty.code | none => 0

/-- A signature of a set as its record carries it. -/
def setSigBytes (x : SetSig) (digest : Nat) : List Byte := beBytes 2 x.keyId ++ [0, 0] ++ beBytes 96 (Config.setSignature x.keyId digest)

/-- R472: KIND and body of each record that an entry of the model's list stands for (DESIGN CHOICE, log entry 142). -/
def JBody.wire (keyId : Nat) : JBody → List (Nat × List Byte)
  | .write i sub old new ks =>
    let key := 256 * i + sub
    [(0x01, beBytes 2 i ++ beBytes 1 sub ++ beBytes 1 (typeOf key) ++ beBytes 4 0 ++ beBytes 8 ks ++ recordValue key old ++ recordValue key new)]
  | .keySeq ks => [(0x02, beBytes 8 ks)]
  | .set c consent =>
    [(0x03, beBytes 4 c.id ++ beBytes 1 c.partition.toNat ++ beBytes 1 c.part ++ beBytes 1 c.joint.toNat ++ beBytes 2 c.commitNo ++
      beBytes 8 c.ft ++ beBytes 48 c.digest ++ setSigBytes c.sigA c.digest ++ setSigBytes c.sigB c.digest ++ consent.flatMap (beBytes 1))] ++
      c.chunks.map (fun k => (0x04, beBytes 4 c.id ++ beBytes 4 k.1 ++ (k.2.zipIdx.flatMap (fun e => e.1.bytes c.id (k.1 + e.2))))) ++
      [(0x05, beBytes 4 c.id ++ beBytes 4 c.stages.length)]
  | .setState id st ft => [(0x06, beBytes 4 id ++ beBytes 1 st.code ++ beBytes 8 ft)]
  | .history w es => [(0x07, beBytes 4 w ++ (List.range 64).flatMap (fun k => match es[k]? with
      | some h => beBytes 8 h.ft ++ beBytes 8 h.word
      | none => beBytes 16 0))]
  | .graft code slot v d => [(0x08, beBytes 1 code ++ beBytes 1 slot ++ beBytes 4 v ++ beBytes 48 d)]
  | .start slot n cause => [(0x09, beBytes 1 slot ++ beBytes 1 n ++ beBytes 1 cause)]
  | .zeroize k => [(0x0A, beBytes 8 Config.deviceSerial ++ beBytes 2 (if k = 0 then keyId else k))]
  | .ringOpen g n => [(0x0B, beBytes 4 g ++ beBytes 4 n)]
  | .snapBegin g n => [(0x0C, beBytes 4 g ++ beBytes 8 n)]
  | .snapEnd g n => [(0x0E, beBytes 4 g ++ beBytes 8 n)]

/-- R471: the bytes of a record from its kind and body, and its SEAL, under a sealing key and the previous record's SEAL. -/
def recordBytes (key : Nat) (prev : List Byte) (j : JRecord) (rno kind : Nat) (body : List Byte) : List Byte × List Byte :=
  let len := ceilDiv (64 + body.length) 8 * 8
  let front := beBytes 2 0x6A72 ++ beBytes 1 kind ++ beBytes 1 j.timeState ++ beBytes 4 len ++ beBytes 8 rno ++ beBytes 8 j.ft ++
    beBytes 2 j.keyId ++ List.replicate 6 0 ++ beBytes 8 j.parts.toNat ++ body ++ List.replicate (len - 64 - body.length) 0
  let mac := padTo 16 (Config.hmac384 key (prev ++ front))
  (front ++ mac ++ beBytes 4 (crc32c (front ++ mac)).toNat ++ beBytes 4 0x72746C72, mac)

/-- Every retained record as it stands, with its RNO, in order; each SEAL chains from the one before. The first record of a journal chains
from zeros (DESIGN CHOICE, log entry 141). -/
def Journal.image (j : Journal) : List (JRecord × Nat × List Byte) :=
  let rs := ((j.records.filter (·.rno ≠ 0)).mergeSort (fun a b => a.rno ≤ b.rno)).flatMap (fun x =>
    (x.body.wire x.keyId).zipIdx.map (fun e => (x, x.rno + e.2, e.1)))
  let first := match rs with
    | e :: _ => if e.2.1 ≤ 1 then List.replicate 16 0 else Config.erasedSeal e.2.1
    | [] => []
  (rs.foldl (fun (a : List (JRecord × Nat × List Byte) × List Byte) e =>
    let r := recordBytes j.sealKey a.2 e.1 e.2.1 e.2.2.1 e.2.2.2
    (a.1 ++ [(e.1, e.2.1, r.1)], r.2)) ([], first)).1

/-- R454: a record that a role may see. -/
def JRecord.seen (j : JRecord) : Role → Bool
  | .installer _ => true
  | .operator n => if n < 64 then j.parts.getLsbD n || j.keyId == 0x1000 + n else j.parts == 0
  | .maker _ => j.parts == 0
  | .anonymous => false

/-- Every retained record that a role may see, with its RNO, in order. -/
def Journal.audit (j : Journal) (who : Role) : List (Nat × List Byte) :=
  (j.image.filter (fun e => e.1.seen who)).map (fun e => e.2)

/-- R480: FIRST names the record with those low 32 bits that lies nearest JOURNAL_NEWEST. -/
def nearestRno (newest first : Nat) : Nat :=
  let base := newest / 2 ^ 32 * 2 ^ 32 + first % 2 ^ 32
  if newest + 2 ^ 31 < base then base - 2 ^ 32
  else if base + 2 ^ 31 < newest then base + 2 ^ 32
  else base

/-- Whole records that fit in a room. -/
def takeRecords : List (Nat × List Byte) → Nat → List Byte
  | [], _ => []
  | x :: l, room => if x.2.length ≤ room then x.2 ++ takeRecords l (room - x.2.length) else []

/-- JOURNAL_READ. -/
def State.serveJournalRead (s : State) (r : Req) (c : Caller) (first count : Nat) : State :=
  let from_ := nearestRno s.journal.newest first
  let rs := ((s.journal.audit c.who).filter (fun x => from_ ≤ x.1)).take count
  s.finishWith r c (passing Op.journalRead (takeRecords rs (4096 - 24 - (if r.mac.isSome then 24 else 0))))

/-! ### The service queue (R410) -/

/-- The request that a command brings, with its opcode and the index and subindex that it names. -/
def requestOf : Instr → Option (Req × Nat × Nat × Nat)
  | .read _ r i a _ => some (r, Op.read, i, a)
  | .write _ r i sub _ _ _ => some (r, Op.write, i, sub)
  | .testUnlock _ r _ => some (r, Op.write, 0xE030, 1)
  | .openSet _ r _ _ _ => some (r, Op.openSet, 0, 0)
  | .stage _ r _ _ i sub _ _ _ => some (r, Op.stage, i, sub)
  | .commit _ r _ _ _ _ _ _ => some (r, Op.commit, 0, 0)
  | .cancelSet _ r _ _ _ _ => some (r, Op.cancelSet, 0, 0)
  | .setStatus _ r _ => some (r, Op.setStatus, 0, 0)
  | .openSession _ r _ => some (r, Op.openSession, 0, 0)
  | .closeSession _ r => some (r, Op.closeSession, 0, 0)
  | .subscribe _ r => some (r, Op.subscribe, 0, 0)
  | .unsubscribe _ r => some (r, Op.subscribe, 0, 0)
  | .journalRead _ r _ _ => some (r, Op.journalRead, 0, 0)
  | _ => none

/-- What a request does once its sender is known. -/
def State.perform (s : State) (c : Caller) : Instr → State
  | .read _ r i a b => s.serveRead r c i a b
  | .write _ r i sub ty v len => s.serveWrite r c i sub ty v len
  | .testUnlock _ r nonce => s.serveWrite r c 0xE030 1 0x5 nonce 8
  | .openSet _ r p n j => s.serveOpenSet r c p n j
  | .stage _ r id n i sub ty v len => s.serveStage r c id n i sub ty v len
  | .commit _ r id n ft d a b => s.serveCommit r c id n ft d a b
  | .cancelSet _ r id n a b => s.serveCancel r c id n a b
  | .setStatus _ r id => s.serveSetStatus r c id
  | .openSession _ r e => s.serveOpenSession r c e
  | .closeSession _ r => s.finishWith r c (passing Op.closeSession [])
  | .subscribe _ r => s.serveSubscribe r c true
  | .unsubscribe _ r => s.serveSubscribe r c false
  | .journalRead _ r a n => s.serveJournalRead r c a n
  | _ => s

/-- The message keeps to R414 to R416 as far as its operands tell: lengths of values, and a range that runs upwards. -/
def bodyOk : Instr → Bool
  | .read _ _ i a b => i < 0x10000 && a ≤ b && b < 256
  | .write _ _ i sub ty v len => i < 0x10000 && sub < 256 && formOk ty v len
  | .stage _ _ _ _ i sub ty v len => i < 0x10000 && sub < 256 && formOk ty v len
  | _ => true

/-- The count of signatures that verified, event 0x3C1, moved on by a request whose signature does. -/
def State.sigCounted (s : State) (r : Req) : State :=
  match r.sig with
  | some b => if s.sigGood b then s.countHeart 0x3C1 1 else s
  | none => s

/-- A request is taken from the service queue: authenticated, then served. -/
def State.serve (s : State) (i : Instr) : State :=
  match requestOf i with
  | none => s
  | some (r, op, index, sub) =>
    if !r.wellFormed || !bodyOk i then s.respond r (failing op Status.badMessage 0 index sub)
    else
      let s := s.sigCounted r
      match s.authenticate r with
      | .refused status => s.respond r (failing op status 0 index sub)
      | .cached a => s.replay r a
      | .known c =>
        let open_ : Bool := s.claiming c r.via op || s.recoveryServes op index
        if (c.may op index || open_) && (s.mayServe c r.via op index sub || open_) then (s.touchSession r).perform c i
        else (s.touchSession r).respond r (failing op Status.authFailed 0 index sub)

/-- A request is being served: its record, or the record of the KEY_SEQ that it used, is not yet whole (R410, R474). -/
def State.serving (s : State) : Bool :=
  s.journal.inFlight.any (fun p => match p.record.body with | .write .. => p.req.isSome | .keySeq _ => true | _ => false)

/-- The service queue goes on while nothing is being served. -/
def State.serveQueue : Nat → State → State
  | 0, s => s
  | n + 1, s =>
    if s.serving then s
    else match s.bocel.queue with
      | [] => s
      | i :: rest => State.serveQueue n ((s.modBocel (fun b => { b with queue := rest })).serve i)

/-! ### The gateway (R431) -/

/-- A request for another crown goes in band, or is answered at once (DESIGN CHOICE, log entry 133). -/
def State.gateway (s : State) (r : Req) (op : Nat) : State :=
  let gp := s.get Key.BOCEL_GPART
  if gp = 0xFFFF || s.unreachable r.target || s.fenced r.target then s.respond r (failing op Status.unreachable 0 0 0)
  else
    let f : Forwarded := { op := op, reqId := r.reqId, via := r.via, target := r.target, since := s.now, busySeen := false, busyAt := none }
    ((s.modBocel (fun b => { b with forwards := b.forwards ++ [f] })).countHeart 0x3C5 1).emit
      (.forward r.target r.reqId (s.get Key.BOCEL_CLASS) gp)

/-- A request arrives on its transport. -/
def State.arrive (s : State) (i : Instr) : State :=
  match requestOf i with
  | none => s
  | some (r, op, index, sub) =>
    if !s.takes r.via then
      (match r.via with
        | .inBand _ =>
          if s.managed && s.get Key.BOCEL_GPART = 0xFFFF then s.modBocel (fun b => { b with inbandDropped := b.inbandDropped + 1 }) else s
        | _ => s)
    else if r.target ≠ 0xFFFF && r.target ≠ s.crownId then s.gateway r op
    else if (match r.via with | .inBand _ => !s.fabric.bridge.isEmpty | _ => false) then
      (s.countHeart 0x385 1).respond r (failing op Status.busyRetry 0 index sub)
    else if s.serving || !s.bocel.queue.isEmpty then
      if 64 ≤ s.bocel.queue.length then s.respond r (failing op Status.busyRetry 0 index sub)
      else s.modBocel (fun b => { b with queue := b.queue ++ [i] })
    else s.serve i

/-- READ -/
def execRead (t : Nat) (r : Req) (index subFirst subLast : Nat) (s : State) : Host.Outcome State Fault Refusal :=
  act2 s t (fun s => s.arrive (.read t r index subFirst subLast))

/-- WRITE -/
def execWrite (t : Nat) (r : Req) (index sub type value len : Nat) (s : State) : Host.Outcome State Fault Refusal :=
  act2 s t (fun s => s.arrive (.write t r index sub type value len))

/-- OPEN_SET -/
def execOpenSet (t : Nat) (r : Req) (partition : Bool) (part : Nat) (joint : Bool) (s : State) : Host.Outcome State Fault Refusal :=
  act2 s t (fun s => s.arrive (.openSet t r partition part joint))

/-- STAGE -/
def execStage (t : Nat) (r : Req) (setId stageNo index sub type value len : Nat) (s : State) : Host.Outcome State Fault Refusal :=
  act2 s t (fun s => s.arrive (.stage t r setId stageNo index sub type value len))

/-- COMMIT -/
def execCommit (t : Nat) (r : Req) (setId commitNo ft digest : Nat) (sigA sigB : SetSig) (s : State) : Host.Outcome State Fault Refusal :=
  act2 s t (fun s => s.arrive (.commit t r setId commitNo ft digest sigA sigB))

/-- CANCEL_SET -/
def execCancelSet (t : Nat) (r : Req) (setId commitNo : Nat) (sigA sigB : SetSig) (s : State) : Host.Outcome State Fault Refusal :=
  act2 s t (fun s => s.arrive (.cancelSet t r setId commitNo sigA sigB))

/-- SET_STATUS -/
def execSetStatus (t : Nat) (r : Req) (setId : Nat) (s : State) : Host.Outcome State Fault Refusal :=
  act2 s t (fun s => s.arrive (.setStatus t r setId))

/-- OPEN_SESSION -/
def execOpenSession (t : Nat) (r : Req) (ephemeral : Nat) (s : State) : Host.Outcome State Fault Refusal :=
  act2 s t (fun s => s.arrive (.openSession t r ephemeral))

/-- CLOSE_SESSION -/
def execCloseSession (t : Nat) (r : Req) (s : State) : Host.Outcome State Fault Refusal := act2 s t (fun s => s.arrive (.closeSession t r))

/-- SUBSCRIBE -/
def execSubscribe (t : Nat) (r : Req) (s : State) : Host.Outcome State Fault Refusal := act2 s t (fun s => s.arrive (.subscribe t r))

/-- UNSUBSCRIBE -/
def execUnsubscribe (t : Nat) (r : Req) (s : State) : Host.Outcome State Fault Refusal := act2 s t (fun s => s.arrive (.unsubscribe t r))

/-- JOURNAL_READ -/
def execJournalRead (t : Nat) (r : Req) (first count : Nat) (s : State) : Host.Outcome State Fault Refusal :=
  act2 s t (fun s => s.arrive (.journalRead t r first count))

/-- TEST_UNLOCK: a WRITE of 0xE030.01 (R462). -/
def execTestUnlock (t : Nat) (r : Req) (nonce : Nat) (s : State) : Host.Outcome State Fault Refusal :=
  act2 s t (fun s => s.arrive (.testUnlock t r nonce))

/-! ### In band (R431) -/

def bocelGatewayForwardEffect (s : State) (r : Req) (op : Nat) : State :=
  if s.takes r.via && r.target ≠ 0xFFFF && r.target ≠ s.crownId then s.gateway r op else s

/-- BOCEL_GATEWAY_FORWARD -/
def execBocelGatewayForward (t : Nat) (r : Req) (op : Nat) (s : State) : Host.Outcome State Fault Refusal :=
  act2 s t (fun s => bocelGatewayForwardEffect s r op)

/-- The request that a gateway has forwarded, with its requester (DESIGN CHOICE, log entry 133). -/
def State.forwarded (s : State) (reqId : Nat) : Option Forwarded := s.bocel.forwards.find? (·.reqId == reqId)

/-- It is answered. -/
def State.unforward (s : State) (reqId : Nat) : State := s.modBocel (fun b => { b with forwards := b.forwards.filter (·.reqId ≠ reqId) })

def bocelInbandResponseEffect (s : State) (reqId source : Nat) (message : List Byte) : State :=
  match s.forwarded reqId with
  | some f =>
    if f.target ≠ source then s
    else if beField message 14 15 = Status.busyRetry then
      s.modBocel (fun b => { b with forwards := b.forwards.map (fun x => if x.reqId = reqId then { x with busySeen := true, busyAt := some s.now } else x) })
    else
      let s := s.unforward reqId
      (match f.via with
        | .mailbox p => s.mailboxAnswer p message
        | via => s.emit (.passed via reqId message))
  | none => s

/-- BOCEL_INBAND_RESPONSE: the target's response goes to the requester as it came; a BUSY_RETRY makes the gateway try again. -/
def execBocelInbandResponse (t reqId source : Nat) (message : List Byte) (s : State) : Host.Outcome State Fault Refusal :=
  act1 s t (fun s => bocelInbandResponseEffect s reqId source message)

def bocelInbandTimeoutEffect (s : State) (reqId : Nat) : State :=
  match s.forwarded reqId with
  | some f =>
    if s.after f.since (1000000 * s.get Key.BOCEL_INBAND_TIMEOUT) then
      (s.unforward reqId).respond { via := f.via, reqId := reqId, target := f.target, wellFormed := true, sig := none, mac := none }
        (failing f.op (if f.busySeen then Status.busyRetry else Status.noResponse) 0 0 0)
    else s
  | none => s

/-- BOCEL_INBAND_TIMEOUT: NO_RESPONSE, or the BUSY_RETRY that the target gave. -/
def execBocelInbandTimeout (t reqId : Nat) (s : State) : Host.Outcome State Fault Refusal :=
  act2 s t (fun s => bocelInbandTimeoutEffect s reqId)

def bocelRetryDelayEffect (s : State) (reqId : Nat) : State :=
  match s.forwarded reqId with
  | some f =>
    if (match f.busyAt with | some at_ => s.after at_ 1000 | none => false) then
      (s.modBocel (fun b => { b with forwards := b.forwards.map (fun x => if x.reqId = reqId then { x with busyAt := none } else x) })).emit
        (.forward f.target reqId (s.get Key.BOCEL_CLASS) (s.get Key.BOCEL_GPART))
    else s
  | none => s

/-- BOCEL_RETRY_DELAY: the random delay of 1 µs to 16 µs after a BUSY_RETRY has passed: the request goes again, once for
each such answer (R431). -/
def execBocelRetryDelay (t reqId : Nat) (s : State) : Host.Outcome State Fault Refusal := act1 s t (fun s => bocelRetryDelayEffect s reqId)

/-! ### Other protocols of the management transports (R430) -/

/-- SET_ENDPOINT_ID: 0 and 255 are refused (PRESUMED, log entry 137). -/
def setEndpointIdEffect (s : State) (eid : Nat) : State :=
  if !s.takes .i3c then s
  else if 1 ≤ eid && eid ≤ 254 then (s.modBocel (fun b => { b with eid := eid })).emit (.answer "set endpoint ID" [0, eid])
  else s.emit (.answer "set endpoint ID" [2, s.bocel.eid])

/-- SET_ENDPOINT_ID: the reserved IDs of the MCTP specification are answered as invalid. -/
def execSetEndpointId (t eid : Nat) (s : State) : Host.Outcome State Fault Refusal := act1 s t (fun s => setEndpointIdEffect s eid)

def getEndpointIdEffect (s : State) : State := if s.takes .i3c then s.emit (.answer "endpoint ID" [s.bocel.eid]) else s

/-- GET_ENDPOINT_ID -/
def execGetEndpointId (t : Nat) (s : State) : Host.Outcome State Fault Refusal := act1 s t getEndpointIdEffect

def getMctpVersionSupportEffect (s : State) : State := if s.takes .i3c then s.emit (.answer "MCTP version support" []) else s

/-- GET_MCTP_VERSION_SUPPORT: the versions are those of the bindings' specification. -/
def execGetMctpVersionSupport (t : Nat) (s : State) : Host.Outcome State Fault Refusal := act1 s t getMctpVersionSupportEffect

def getMessageTypeSupportEffect (s : State) : State :=
  if s.takes .i3c then s.emit (.answer "message type support" [0x7E, Config.vendorId]) else s

/-- GET_MESSAGE_TYPE_SUPPORT: vendor-defined PCI messages with VENDOR_ID. -/
def execGetMessageTypeSupport (t : Nat) (s : State) : Host.Outcome State Fault Refusal := act1 s t getMessageTypeSupportEffect

def icmpEchoEffect (s : State) (data : List Byte) : State :=
  if s.takes .udp then s.emit (.answer "ICMP echo reply" (data.map (·.toNat))) else s

/-- ICMP_ECHO -/
def execIcmpEcho (t : Nat) (data : List Byte) (s : State) : Host.Outcome State Fault Refusal := act1 s t (fun s => icmpEchoEffect s data)

def neighbourDiscoveryEffect (s : State) (target : Nat) : State :=
  let mine : Bool := target = Config.linkLocal || (target ≠ 0 && (target = s.get Key.MGMT_IPV6 || target = s.get Key.MGMT_IPV4))
  if s.takes .udp && mine then s.emit (.answer "neighbour advertisement" [target, Config.mgmtMac]) else s

/-- NEIGHBOUR_DISCOVERY: the address asked for is one of the module's. -/
def execNeighbourDiscovery (t target : Nat) (s : State) : Host.Outcome State Fault Refusal :=
  act1 s t (fun s => neighbourDiscoveryEffect s target)

end Sys2Proof.Machine
end

