-- ==== Sys2Proof/Machine/Egress.lean ====
section
/-! DEFINITION. What leaves: the port scheduler of H-ports and trunks (R60 to R62, R121, R130, R166, R233 to R235), the end of TLPs
by nullification (R175, R555), buffer errors as cells are read (R185), partition allotments (R235), and the service of the
heartwood intakes (R157). One command sends one FLIT, one FU, or serves one request. -/

namespace Sys2Proof.Machine

/-! ### Messages as they leave -/

/-- Cells begun once `n` of a message's `total` bytes have left: headers stand in front of the data. -/
def Desc.cellsBy (d : Desc) (total n : Nat) : Nat := min d.cells (ceilDiv (n - (total - msgData d.msg)) 256)

/-! ### Shapers and allotments (R192, R235) -/

/-- A message starts: its class's shaper and its partition's allotment are debited; a C7 TLP draws its tokens (DESIGN CHOICE, log entry
150). -/
def State.charge (s : State) (g : Nat) (d : Desc) : State :=
  let s := if d.cls = 7 then s.c7Take g d.len
    else match s.shaper g d.cls with
      | some (b, _) => s.modCore (fun c => { c with shapers := assocPut c.shapers (g, d.cls) (b.take d.len) })
      | none => s
  if s.capped d.part then
    s.modCore (fun c => { c with allotments := assocPut c.allotments (limbOf g, d.part) (s.allotment (limbOf g) d.part - d.len) })
  else s

/-! ### The port scheduler (R233) -/

/-- A flow: a class and a partition. -/
def Desc.flowKey (d : Desc) : Nat × Nat := (d.cls, d.part)

/-- One head for each flow, in the order of class and partition. -/
def oneEach (ds : List Desc) : List Desc :=
  (ds.foldl (fun (acc : List Desc) d => if acc.any (fun e => e.flowKey = d.flowKey) then acc else acc ++ [d]) []).mergeSort
    (fun a b => 128 * a.cls + a.part ≤ 128 * b.cls + b.part)

/-- A flow's quantum: 256 × PART_WEIGHT. -/
def State.quantum (s : State) (d : Desc) : Int := 256 * (s.getDef (Key.PART_WEIGHT + 256 * d.cls + d.part) 0x10 : Nat)

/-- Flows are visited in turn until a head fits in its deficit; at most `fuel` visits. -/
def State.visits (s : State) (g : Nat) (cands : List Desc) : Nat → Nat → Option (State × Desc)
  | 0, _ => none
  | fuel + 1, i =>
    match cands[i % cands.length]? with
    | none => none
    | some d =>
      let s := s.modCore (fun c => { c with deficits := assocMod c.deficits (g, d.flowKey) 0 (· + s.quantum d) })
      if (d.len : Int) ≤ assocGetD s.core.deficits (g, d.flowKey) 0 then some (s, d) else s.visits g cands fuel (i + 1)

/-- Deficit round robin: the flow served last goes on while its head fits; else the next one is visited. -/
def State.schedule (s : State) (g : Nat) (heads : List Desc) : Option (State × Desc) :=
  let cands := oneEach heads
  let last := assocGet s.core.lastServed g
  match cands.find? (fun d => some d.flowKey = last && (d.len : Int) ≤ assocGetD s.core.deficits (g, d.flowKey) 0) with
  | some d => some (s, d)
  | none =>
    let start := match last with
      | some f => (cands.findIdx? (fun d => 128 * f.1 + f.2 < 128 * d.cls + d.part)).getD 0
      | none => 0
    s.visits g cands (40 * cands.length) start

/-- The chosen head is debited; a flow that it leaves empty has no deficit. -/
def State.served (s : State) (g : Nat) (d : Desc) : State :=
  let empty : Bool := (s.waitingAt g).all (fun e => e.id == d.id || e.flowKey ≠ d.flowKey)
  let left := assocGetD s.core.deficits (g, d.flowKey) 0 - d.len
  s.modCore (fun c => { c with
    deficits := if empty then assocErase c.deficits (g, d.flowKey) else assocPut c.deficits (g, d.flowKey) left,
    lastServed := assocPut c.lastServed g d.flowKey })

/-- The heads of C0 to C6 that their shaper and allotment let go. -/
def State.ready (s : State) (g : Nat) : List Desc :=
  (s.headsOf g).filter (fun d => d.cls ≠ 7 && s.shaperLets g d && s.allotLets g d)

/-- The C7 head that its bucket lets go. -/
def State.readyC7 (s : State) (g : Nat) : Option Desc := (s.headsOf g).find? (fun d => d.cls = 7 && s.c7May g d.len)

/-! ### Buffer errors (R185, R393) -/

/-- The worst of two results of a cell's check. -/
def worse (a b : Nat × Bool) : Nat × Bool := if a.1 < b.1 then b else a

/-- The cells of one command pass the checker of the limb: what it meets, by nature or by an armed slot. Answers 0, 1 corrected or 2
uncorrectable, and whether a slot did it. Without a cell it is the check of the descriptor and the header slot. -/
def State.checkCells (s : State) (l n bufError : Nat) : State × Nat × Bool :=
  if n = 0 then (s, min bufError 1, false)
  else (List.range n).foldl (fun (a : State × Nat × Bool) _ =>
    let r := a.1.injectItem [1, 2] 1 l
    match r.2 with
    | some k => (r.1, worse a.2 (field (s.faults.inject.getD k 0).toNat 30 28, true))
    | none => (r.1, a.2)) (s, min bufError 2, false)

/-- R185, R197: the event and its count. -/
def State.bufEvent (s : State) (l : Nat) (e : Nat × Bool) : State :=
  match e.1 with
  | 0 => s
  | 1 => (s.countLimb l 0x211 1).noteInj (srcLimb l 1) 1 e.2
  | _ => s.noteInj (srcLimb l 2) 1 e.2

/-- A message that leaves poisoned. -/
def poisoned : Msg → Msg
  | .tlp c x => .tlp c { x with poisoned := true }
  | m => m

/-- Cells are read: counted, checked; with an uncorrectable one the descriptor's message leaves poisoned. -/
def State.readCells (s : State) (d : Desc) (n bufError : Nat) : State × Nat :=
  let l := limbOf d.egress
  let r := (s.countLimb l 0x201 n).checkCells l n bufError
  let s := r.1.bufEvent l r.2
  (if r.2.1 = 2 then s.modDesc d.id (fun d => { d with poison := true, msg := poisoned d.msg }) else s, r.2.1)

/-! ### H-ports -/

/-- A TLP in flight is ended by nullification. -/
def State.nullify (s : State) (g : Nat) (d : Desc) (f : Desc → Desc) : State :=
  let s := match msgTlp d.msg with
    | some (_, x) => s.emit (.tlp g x false)
    | none => s
  (s.modDesc d.id (fun d => f { d with sentFus := 0 })).modCore (fun c => { c with inFlight := c.inFlight.filter (·.2 ≠ d.id) })

/-- R168: a TLP has been sent whole. -/
def State.sentWhole (s : State) (g : Nat) (d : Desc) : State :=
  match msgTlp d.msg with
  | some (_, x) => ((((s.traffic g d.part).emit (.tlp g x true)).countTwig g 0x101 1).countTwig g 0x103 x.data.length).dequeue d.id
  | none => s.dequeue d.id

/-- R185: the cells that a FLIT or FU reads: all of them as a stored message starts, those that it reaches of one sent by cut-through. -/
def State.readFor (s : State) (d : Desc) (reached bufError : Nat) : State × Nat :=
  if d.cut then s.readCells d reached bufError else if d.sentFus = 0 then s.readCells d d.cells bufError else (s, 0)

/-- One FLIT of a TLP. A cut-through TLP whose next cell has not arrived is ended (R175); an uncorrectable cell of one that began so ends
it, too, and it is sent again poisoned (R185) (DESIGN CHOICE, log entry 76) (DESIGN CHOICE, log entry 151). -/
def State.sendFlit (s : State) (g : Nat) (d : Desc) (bufError : Nat) : State :=
  let upTo := min d.len (256 * (d.sentFus + 1))
  if d.cut && d.arrived < upTo then
    ((s.nullify g d (fun d => { d with nullified := true, eligible := false })).countLimb (limbOf g) 0x204 1).noteFree (srcLimb (limbOf g) 0) 0
  else
    let n := d.cellsBy d.len upTo - d.cellsBy d.len (256 * d.sentFus)
    let r := s.readFor d n bufError
    let s := r.1
    let d := (s.descOf d.id).getD d
    if r.2 = 2 && d.cut then
      s.nullify g d (fun d => if d.arrived < d.len then { d with nullified := true, eligible := false } else { d with cut := false })
    else if upTo = d.len then s.sentWhole g d
    else (s.modDesc d.id (fun d => { d with sentFus := d.sentFus + 1 })).modCore (fun c =>
      { c with inFlight := c.inFlight.filter (·.1 ≠ g) ++ [(g, d.id)] })

/-- The descriptor in flight at an H-port. -/
def State.flying (s : State) (g : Nat) : Option Desc := (assocGet s.core.inFlight g).bind s.descOf

/-- A C7 TLP starts. -/
def State.startC7 (s : State) (g : Nat) (d : Desc) (bufError : Nat) : State := (s.charge g d).sendFlit g d bufError

/-- The next FLIT of an H-port: a C7 TLP ends one of another class, once (R555); the ended one is sent again before any other (DESIGN
CHOICE, log entry 150). -/
def State.sendPort (s : State) (g bufError : Nat) : State :=
  match s.flying g with
  | some d =>
    (match (if d.cls = 7 || d.endedOnce then none else s.readyC7 g) with
      | some c => (s.nullify g d (fun d => { d with endedOnce := true })).startC7 g c bufError
      | none => s.sendFlit g d bufError)
  | none =>
    match (s.waitingAt g).find? (fun d => d.endedOnce && d.eligible && !d.nullified) with
    | some d => s.sendFlit g d bufError
    | none =>
      match s.readyC7 g with
      | some c => s.startC7 g c bufError
      | none =>
        match s.schedule g (s.ready g) with
        | some (s, d) => ((s.served g d).charge g d).sendFlit g d bufError
        | none => s

/-! ### Trunks -/

/-- TYPE of a message's FUs (R120). -/
def msgType : Msg → Nat
  | .tlp _ _ => 1
  | .datagram _ => 2
  | .engine _ => 5

/-- R360: a marked datagram leaves with CONG 0b11. -/
def marked (mark : Bool) : Msg → Msg
  | .datagram d => if mark && d.cong = 1 then .datagram { d with cong := 3 } else .datagram d
  | m => m

/-- The header of a message's FU number `k`. -/
def Desc.fuHeader (d : Desc) (k : Nat) : FuHeader :=
  let last : Bool := k + 1 = d.fus
  { rekeyHeader with
    type := msgType d.msg, cls := d.cls, first := k = 0, last := last, destCrown := d.destCrown, srcCrown := d.srcCrown, gpart := d.gpart,
    flow := d.flow, len := if last then d.trunkBytes - 224 * (d.fus - 1) else 224, hops := d.hops }

/-- R291: a tracked request's first transmission. -/
def State.trackSent (s : State) (d : Desc) : State :=
  match d.msg with
  | .tlp c _ =>
    if d.kind = 1 && d.srcCrown = s.crownId then s.modFabric (fun f => { f with tracks := f.tracks.map (fun k =>
      if k.index = c.track && k.sent = 0 then { k with sent := s.now } else k) }) else s
  | _ => s

/-- One FU of a message: a first transmission. A datagram with a cell that fails its check is dropped (R185) (DESIGN CHOICE, log entry 151). -/
def State.sendFu (s : State) (q : Nat) (d : Desc) (bufError : Nat) : State :=
  let g := gOfTrunk q
  let k := d.sentFus
  let r := s.readFor d 0 bufError
  let s := r.1
  let d := (s.descOf d.id).getD d
  if r.2 = 2 && d.cls = 6 then (s.countDrop g 1).dequeue d.id
  else
    let m := marked d.mark d.msg
    let h := d.fuHeader k
    let last : Bool := k + 1 = d.fus
    let seq := (s.trunk q).tx.nextTx
    let s := s.sendNew q h (padTo 224 (((msgBytes m).drop (224 * k)).take 224)) (some d.id) none
    let s := s.modDesc d.id (fun d => { d with sentFus := k + 1, lastSeq := if last then some seq else none })
    let s := s.modTx q (fun x => { x with
      resend := if last then x.resend.filter (· ≠ d.id) else x.resend,
      openDesc := if last then x.openDesc.filter (·.1 ≠ d.cls) else if k = 0 then x.openDesc ++ [(d.cls, d.id)] else x.openDesc })
    if k = 0 then s.trackSent d else s

/-- The message of a class that has begun on a trunk. -/
def State.openOf (s : State) (q cls : Nat) : Option Desc := (assocGet (s.trunk q).tx.openDesc cls).bind s.descOf

/-- The class has credit. -/
def State.hasCredit (s : State) (q cls : Nat) : Bool := ((s.trunk q).tx.credit cls).isSome

/-- The heads that may begin on a trunk: no message of their class is open, and the class has credit. -/
def State.trunkReady (s : State) (q : Nat) : List Desc :=
  (s.ready (gOfTrunk q)).filter (fun d => (s.openOf q d.cls).isNone && s.hasCredit q d.cls)

/-- Open messages of C0 to C6 that can go on. -/
def State.trunkOpen (s : State) (q : Nat) : List Desc :=
  ((s.trunk q).tx.openDesc.filter (fun e => e.1 ≠ 7 && s.hasCredit q e.1)).filterMap (fun e => s.descOf e.2)

/-- The next FU among the messages that pass a test: one that has begun first, then the scheduler's choice (DEDUCED, log entry 152). -/
def State.trunkPick (s : State) (q : Nat) (begun waiting : Desc → Bool) : Option (State × Desc) :=
  match (s.trunkOpen q).find? begun with
  | some d => some (s, d)
  | none =>
    (s.schedule (gOfTrunk q) ((s.trunkReady q).filter waiting)).map (fun r => ((r.1.served (gOfTrunk q) r.2).charge (gOfTrunk q) r.2, r.2))

/-- Something of C0 to C6 could go but for its credit. -/
def State.starved (s : State) (q : Nat) : Bool :=
  (s.trunk q).tx.openDesc.any (fun e => !s.hasCredit q e.1) || (s.ready (gOfTrunk q)).any (fun d => !s.hasCredit q d.cls)

/-- R60 to R62: what the slot prefers: a class, a grove partition's messages, or nothing. A share of a partition without flows acts
as open (R238). -/
inductive SlotUse where
  | free
  | cls (c : Nat)
  | share (gp : Nat)
  | prune
  deriving DecidableEq, Repr

def State.slotUse (s : State) (q : Nat) : SlotUse :=
  let v := s.activeSlot q s.slotNow
  match field v 7 6 with
  | 1 => if s.time.openMode then .free else .cls (field v 5 0)
  | 2 =>
    let gp := s.getDef (Key.SHARE_PARTITION_ACTIVE + field v 5 0) 0xFFFF
    let lets : Bool := match s.partOfGp gp with
      | some p => s.flows p
      | none => true
    if s.time.openMode || gp = 0xFFFF || !lets then .free else .share gp
  | 3 => .prune
  | _ => .free

/-- R61, R121: the choice of a share slot: the partition's classes in their weighted order, a message of it that has begun counting as its
class's next FU; where another partition's message stands unfinished in the chosen class, that one goes first. -/
def State.sharePick (s : State) (q gp : Nat) : Option (State × Desc) :=
  let g := gOfTrunk q
  let begun := ((s.trunkOpen q).filter (·.gpart == gp)).map (fun d => { d with len := 0 })
  let heads := (s.ready g).filter (fun d => d.gpart == gp && s.hasCredit q d.cls && begun.all (·.cls ≠ d.cls))
  match s.schedule g (begun ++ heads) with
  | none => none
  | some (s', d) =>
    match s.openOf q d.cls with
    | some o => some (s.modCore (fun c => { c with lastServed := assocPut c.lastServed g d.flowKey }), o)
    | none => some ((s'.served g d).charge g d, d)

/-- The choice among C0 to C6. -/
def State.slotPick (s : State) (q : Nat) : SlotUse → Option (State × Desc)
  | .cls c => (s.trunkPick q (·.cls == c) (·.cls == c)).orElse (fun _ => s.trunkPick q (fun _ => true) (fun _ => true))
  | .share gp => (s.sharePick q gp).orElse (fun _ => s.trunkPick q (fun _ => true) (fun _ => true))
  | .free => s.trunkPick q (fun _ => true) (fun _ => true)
  | .prune => none

/-- R384: while the crown stands in F3 or F4 nothing but its fence notice leaves. -/
def State.ctlLets (s : State) (c : Control) : Bool :=
  s.faults.crown = .normal || (match c with | .fence _ => true | _ => false)

/-- R162: the next control message: it goes before C7 TLPs and draws tokens as one FU. -/
def State.nextCtl (s : State) (q : Nat) : Option Control :=
  if s.c7May (gOfTrunk q) 224 then (s.trunk q).tx.ctl.find? s.ctlLets else none

/-- R130: one FU of a replay; copies that an acknowledgement has taken meanwhile are skipped. -/
def State.replayFu (s : State) (q : Nat) (sq : Seq16) : State :=
  let x := (s.trunk q).tx
  match x.buf.find? (fun b => b.seq = sq) with
  | none => s.modTx q (fun x => { x with replayAt := none })
  | some b =>
    let s := (s.transmit q sq b.hdr b.payload).countTwig (gOfTrunk q) 0x189 1
    s.modTx q (fun x => { x with replayAt := if sq + 1 = x.nextTx then none else some (sq + 1) })

/-- R148: the next message of those that go before all else after LINK_INIT. -/
def State.resendNext (s : State) (q : Nat) : Option Desc :=
  ((s.trunk q).tx.resend.filterMap s.descOf).find? (fun d => !d.left)

/-- R162: a C7 TLP may start where none of the module's own messages waits. -/
def State.startsC7 (s : State) (q : Nat) : Option Desc :=
  if s.hasCredit q 7 && !(s.trunk q).tx.ctl.any s.ctlLets then s.readyC7 (gOfTrunk q) else none

/-- The next new FU of a trunk, or an IDLE (DEDUCED, log entry 152). -/
def State.newFu (s : State) (q bufError : Nat) : State :=
  let g := gOfTrunk q
  let idle : State → State := fun s => s.sendIdle q
  match s.nextCtl q with
  | some c =>
    if s.hasCredit q 7 then ((s.c7Take g 224).modTx q (fun x => { x with ctl := x.ctl.erase c })).sendCtl q c
    else idle (s.countTwig g 0x18C 1)
  | none =>
    if s.faults.crown ≠ .normal then idle s
    else match s.resendNext q with
    | some d =>
      if s.slotUse q = .prune && d.cls ≠ 7 then idle s
      else if s.hasCredit q d.cls then s.sendFu q d bufError
      else idle (s.countTwig g 0x18C 1)
    | none =>
      match s.openOf q 7 with
      | some d => if s.hasCredit q 7 then s.sendFu q d bufError else idle (s.countTwig g 0x18C 1)
      | none =>
        match s.startsC7 q with
        | some d => (s.charge g d).sendFu q d bufError
        | none =>
          match s.slotPick q (s.slotUse q) with
          | some (s, d) => s.sendFu q d bufError
          | none =>
            let wants : Bool := s.slotUse q ≠ .prune && s.starved q || ((s.readyC7 g).isSome && !s.hasCredit q 7)
            idle (if wants then s.countTwig g 0x18C 1 else s)

/-- The next FU time of a trunk. -/
def State.sendTrunk (s : State) (q bufError : Nat) : State :=
  if !s.trunkUp q then s
  else
    let s := keyPhaseToggleEffect s q
    if !s.trunkUp q then s
    else match (s.trunk q).tx.replayAt with
      | some sq => if s.slotUse q = .prune then s.sendIdle q else s.replayFu q sq
      | none =>
        if (s.trunk q).tx.paused then s.sendIdle q
        else if 1024 ≤ (s.trunk q).tx.buf.length then (s.countTwig (gOfTrunk q) 0x18B 1).sendIdle q
        else s.newFu q bufError

/-! ### The heartwood intakes (R157) -/

/-- R352: both staging slots of a child's input are full in the node's round. -/
def State.partialWaits (s : State) (e : EngineMsg) : Bool :=
  let c := s.redCtx e.ctx
  let r := s.redRound e.ctx
  let k := c.localN + e.slot
  c.valid && e.slot < c.childN && BitVec.ofNat 4 e.round = r.round && e.chunk ∉ r.folded && (r.of k e.chunk).isNone && e.chunk < c.chunks &&
    2 ≤ (r.inputs.filter (fun x => x.input == k)).length

/-- R352, R353, R355: the engines take a message: a child's partial chunk, a result for this crown's local contributors, or an abort. -/
def State.engineTake (s : State) (q : Nat) (e : EngineMsg) : State :=
  match e.kind with
  | 0 => reducePartialEffect s q e.ctx e.slot e.round e.chunk e.data
  | 1 => if (s.redCtx e.ctx).valid then s.result e.ctx (BitVec.ofNat 4 e.round) e.chunk e.data else s.countHeart 0x3AB 1
  | 2 => reduceAbortMessageEffect s e.ctx e.round
  | _ => s

/-- A request that the heartwood has taken from an intake; a completion's data crosses to the stem of its requester (R196). -/
def State.intakeTake (s : State) (d : Desc) : State :=
  let s := s.dequeue d.id
  match d.msg, d.heart with
  | .tlp c x, some (gate, own) =>
    let r := s.heartAccess gate own d.part x
    if d.kind ≠ 1 then r.1
    else if 0xF0 ≤ d.src && d.srcCrown = s.crownId then r.1.heartDone d.src x.tag r.2.1 r.2.2
    else (r.1.complete d.part d.srcCrown d.reqId x.tag c.track d.cls r.2.1 r.2.2).countStem (stemOf d.src) 0x281 (ceilDiv r.2.2.length 256)
  | .datagram y, _ => datagramReceiveEffect s d.part y
  | .engine e, _ => s.engineTake (trunkOfG d.src) e
  | _, _ => s

/-- What must wait for a sweep of the pool, or for a staging slot, lets the others pass. -/
def State.intakeLets (s : State) (d : Desc) : Bool :=
  match d.msg, d.heart with
  | .engine e, _ => !(e.kind == 0 && s.partialWaits e)
  | _, some (gate, own) => !s.heartWaits gate own
  | _, none => true

/-- The heartwood takes the next request of an intake: C7 first, then the oldest that may leave (DESIGN CHOICE, log entry 77). -/
def State.serveIntake (s : State) (g : Nat) : State :=
  let hs := (s.headsOf g).filter s.intakeLets
  match (hs.find? (·.cls == 7)).orElse (fun _ => hs.head?) with
  | some d => s.intakeTake d
  | none => s

/-! ### EGRESS_START and ALLOTMENT_GRANT -/

/-- An egress can start a FLIT or an FU: a twig, or 160 + s for the intake behind stem s (DESIGN CHOICE, log entry 76). -/
def egressStartEffect (s : State) (g bufError : Nat) : State :=
  if 164 ≤ g then s
  else if 160 ≤ g then (if s.awake then s.serveIntake g else s)
  else if isT g then s.sendTrunk (trunkOfG g) bufError
  else
    let low := s.portLowG g
    if s.twigOffline low || (s.hport (portOfG low)).lstate ≠ .l0 then s else s.sendPort low bufError

/-- EGRESS_START -/
def execEgressStart (t g bufError : Nat) (s : State) : Host.Outcome State Fault Refusal :=
  act2 s t (fun s => egressStartEffect s g bufError)

/-- R235: the bytes of a partition's eligible heads at the egress ports of a limb, at most 16 KiB. -/
def State.report (s : State) (l p : Nat) : Nat :=
  let gs := (s.core.queues.filter (fun d => d.egress < 160 && d.part == p && limbOf d.egress == l)).foldl (fun a d => insertNew a d.egress) []
  min 16384 ((gs.flatMap (fun g => (s.headsOf g).filter (fun d => d.part == p && (d.cls = 7 || s.shaperLets g d)))).map (·.len)).sum

/-- R235, R238: the bucket of a partition, in force only while it is ACTIVE (DESIGN CHOICE, log entry 146). -/
def State.partBucket (s : State) (p : Nat) : Bucket :=
  let b := assocGetD s.core.partBuckets p { level := 0, at_ := 0 }
  if (s.part p).state = .active then
    b.fill (s.getDef (Key.PART_MAX_RATE + p) 0xFFFF * 100000) (s.getDef (Key.PART_BURST + p) 0x100 * 256000000) s.now
  else { b with at_ := s.now }

/-- The grants of one partition: each limb's share of the bucket in proportion to its report, its allotment at most 16 KiB (DESIGN CHOICE,
log entry 146). -/
def State.grant (s : State) (p : Nat) : State :=
  let b := s.partBucket p
  let rs := (List.range 8).map (fun l => (l, s.report l p))
  let total := (rs.map (·.2)).sum
  let have_ : Nat := (b.level / 1000000).toNat
  if (s.part p).state ≠ .active || total = 0 then s.modCore (fun c => { c with partBuckets := assocPut c.partBuckets p b })
  else
    let gs := rs.map (fun e => (e.1, min (have_ * e.2 / total) (16384 - s.allotment e.1 p).toNat))
    s.modCore (fun c => { c with
      partBuckets := assocPut c.partBuckets p (b.take (gs.map (·.2)).sum),
      allotments := gs.foldl (fun a e => assocMod a (e.1, p) 0 (fun (v : Int) => v + (e.2 : Nat))) c.allotments })

/-- ALLOTMENT_GRANT -/
def execAllotmentGrant (t : Nat) (s : State) : Host.Outcome State Fault Refusal :=
  act1 s t (fun s => s.each ((List.range 64).filter s.capped) State.grant)

end Sys2Proof.Machine
end

