-- ==== Sys2Proof/Machine/Schedule.lean ====
section
/-! DEFINITION. The activation queue at a step of FT (R52), and the commands that may step it: an announcement and a marker (R39, R45,
R51). -/

namespace Sys2Proof.Machine

/-- R54, R55: the slot whose entry is processed next: one that is due, whose turn it is, and that does not wait. -/
def State.dueSlot (s : State) : Option Nat :=
  (List.range 256).find? (fun n =>
    let a := s.act.slots.getD n ActSlot.reset
    s.actTurn n && s.dueFate (a.joint || a.kind = .firmware) ≠ .wait && !(a.kind = .change && s.setInFlight a.ref))

/-- The entry of a slot is processed, as its own command processes it. -/
def State.fireSlot (s : State) (n : Nat) : State :=
  match (s.act.slots.getD n ActSlot.reset).kind with
  | .snapshot => snapshotFireEffect s n
  | .swap => slotSwapEffect s
  | .change => dictionaryChangeFireEffect s n
  | .firmware => firmwareActivationEffect s

/-- R52: the entries that a step passed are processed in the order of R54, at most `k` of them; the queue holds 256. -/
def State.runDue (s : State) : Nat → State
  | 0 => s
  | k + 1 =>
    match s.dueSlot with
    | none => s
    | some n => (s.fireSlot n).runDue k

/-- R39: a copy marks its trunk unless its SEQ is older than the last taken; a newer one is taken, and forwarded on the other trunks
(DESIGN CHOICE, log entry 163). A step that seeds FT processes the queued activations that it passes (R52). -/
def timeAnnounceReceiveEffect (s : State) (q : Nat) (a : Announce) : State :=
  if s.trunkUp q then
    let crown := a.key % 1024
    let last := assocGet s.time.lastSeq crown
    let newer : Bool := match last with | none => true | some l => newer16 a.seq l
    if newer || last = some a.seq then
      let s := s.markHeard q crown a.hops a.key
      if newer then
        let s := s.modTime (fun u => { u with lastSeq := assocPut u.lastSeq crown a.seq, heardAny := s.now })
        let ft := s.time.ft
        let s := s.takeAnnounce a
        let s := if s.bestHeld a then
            s.sendControl (fun r => r ≠ q) (.announce { a with hops := (a.hops + 1) % 256, sender := s.crownId % 1024 })
          else s
        if ft < s.time.ft then s.runDue 256 else s
      else s
    else s
  else s

/-- TIME_ANNOUNCE_RECEIVE -/
def execTimeAnnounceReceive (t q : Nat) (a : Announce) (s : State) : Host.Outcome State Fault Refusal :=
  act2 s t (fun s => timeAnnounceReceiveEffect s q a)

/-- R45, R52, R63, R114: a marker arrives on a trunk; where it steps FT forward, the queued activations passed are processed at once (DESIGN CHOICE, log entry 61). -/
def markerEffect (s : State) (q : Nat) (m : Marker) : State :=
  if s.trunkUp q && m.checkOk then
    let there : Int := (m.ftStamp : Int) + s.oneWayNs q
    let s := s.modTrunk q (fun k => { k with farStamp := m.ftStamp + k.delayPs / 1000, lastMarker := s.now })
    if m.timeState = 0 then s
    else
      let s := s.modTrunk q (fun k => { k with validAt := s.now })
      if s.time.upstream = some q && (s.time.mode = .acquiring || s.time.mode = .locked) then
        let ft := s.time.ft
        let s := s.takeOffset ((s.time.ft : Int) - there)
        if ft < s.time.ft then s.runDue 256 else s
      else s
  else s

/-- R114, R117: what stands in the four lanes' places for their markers: the stamp comes from the lowest-numbered lane whose marker is
valid; a comma word that is missing in two marker periods in a row is link loss. -/
def alignmentMarkerReceiveEffect (s : State) (q : Nat) (lanes : List (List Byte)) : State :=
  if !s.trunkUp q then s
  else
    let miss := if commaMissing lanes then (s.trunk q).lineRx.missRun + 1 else 0
    let s := s.modTrunk q (fun k => { k with lineRx := { k.lineRx with missRun := miss } })
    if 2 ≤ miss then s.trunkRetrain q false
    else match markerPick lanes with
      | some m => markerEffect s q m
      | none => s

/-- ALIGNMENT_MARKER_RECEIVE -/
def execAlignmentMarkerReceive (t q : Nat) (lanes : List (List Byte)) (s : State) : Host.Outcome State Fault Refusal :=
  act2 s t (fun s => alignmentMarkerReceiveEffect s q lanes)

end Sys2Proof.Machine
end

