-- ==== Sys2Proof/Machine/Receive.lean ====
section
/-! DEFINITION. What a trunk receives: the check, duplicates and NAK (R124 to R127), the rules that a flow unit must keep (R141), link
fields (R125, R129 to R131, R139), messages put together and admitted from the receive pool (R121, R132, R171, R281), control
messages (R120), transit (R283, R284), and the deliveries of R288 to R292, R352 and R361. -/

namespace Sys2Proof.Machine

/-! ### Check and tag (R124, R125, R138, R139) -/

/-- The check of a flow unit under a sequence (DEDUCED, log entry 29). -/
def fuCheck (seq : Seq16) (fu : Fu) : BitVec 64 := checkOf seq fu.hdr fu.wire fu.tag

/-- R127: the sequence, up to 1,024 behind, of an accepted flow unit whose copy this one is (DEDUCED, log entry 29). -/
def dupSeq (e : Seq16) (fu : Fu) : Option Seq16 :=
  ((List.range 1024).map (fun k => e - BitVec.ofNat 16 (k + 1))).find? (fun s => fu.check == fuCheck s fu)

/-- R138: the full transmission count: of the values with the low 24 bits of NONCE_CTR, the one nearest to the receiver's own count. -/
def nearestCount (own : Nat) (low : BitVec 24) : Nat :=
  let up := own / 2 ^ 24 * 2 ^ 24 + low.toNat
  let cands := [up, up + 2 ^ 24] ++ (if 2 ^ 24 ≤ up then [up - 2 ^ 24] else [])
  let dist : Nat → Nat := fun c => (own - c) + (c - own)
  cands.foldl (fun best c => if dist c < dist best then c else best) up

/-- R138, R139: the key and the count under which a flow unit was sealed: a new KEY_PHASE names the key that a rekey has made ready, whose
count starts at zero. -/
def TrunkRx.sealOf (x : TrunkRx) (h : FuHeader) : Option (Nat × Nat) :=
  if h.keyPhase = x.keyPhase then some (x.keyNo, nearestCount x.count h.nonceCtr)
  else x.rekeyKey.map (fun k => (k, nearestCount 0 h.nonceCtr))

/-- R138, R140: the payload in clear of a flow unit under a sequence; `none` where its tag fails. With encryption off the payload stands as
it came and no tag is looked at. -/
def Trunk.opens (k : Trunk) (seq : Seq16) (fu : Fu) : Option (List Byte) :=
  if !k.crypt then some fu.wire
  else match k.rx.sealOf fu.hdr with
    | none => none
    | some (key, count) =>
      let plain := Config.gcmPlain (aesKey key) (nonceOf key count) (fuAad seq fu.hdr) fu.wire
      if Config.gcmTag (aesKey key) (nonceOf key count) (fuAad seq fu.hdr) plain = fu.tag then some plain else none

/-! ### What a flow unit may be (R119, R120, R136, R141) -/

/-- R127: ACK_SEQ is in range. -/
def TrunkTx.inRange (x : TrunkTx) (a : Seq16) : Bool := (a - (x.oldest - 1)).toNat ≤ (x.nextTx - x.oldest).toNat

/-- R120: the classes of a type. -/
def classAllowed (type cls : Nat) : Bool :=
  match type with
  | 1 => cls ≤ 5 || cls = 7
  | 2 => cls = 6
  | 5 => cls ≤ 5
  | _ => cls = 7

/-- A type whose messages are put together from several flow units. -/
def typeRuns (type : Nat) : Bool := type = 1 || type = 2 || type = 5

/-- R141 row 4: framing. -/
def TrunkRx.badFraming (x : TrunkRx) (h : FuHeader) : Bool :=
  if typeRuns h.type then
    if h.first then x.openMsgs.any (·.cls == h.cls) else x.openMsgs.all (·.cls ≠ h.cls)
  else !(h.first && h.last)

/-- R141 row 5: a rekey out of turn. -/
def Trunk.badRekey (k : Trunk) (type : Nat) (payload : List Byte) : Bool :=
  type = 4 && (match parseRekey payload with
    | some (.rekeyOffer e _) => e ≠ (k.rx.keyEpoch + 1).toNat
    | some (.rekeyAccept e _) => k.tx.offerOut.map (·.1) ≠ some e
    | _ => false)

/-- R141 row 6: length. -/
def badLen (h : FuHeader) : Bool := h.len = 0 || 224 < h.len || (h.len < 224 && !h.last)

/-- R136: a credit overrun. -/
def TrunkRx.overrun (x : TrunkRx) (h : FuHeader) : Bool :=
  if h.pool then x.grantedShared - x.takenShared = 0 else x.grantedRsv.getD h.cls 0 - x.takenRsv.getD h.cls 0 = 0

/-- An IDLE FU has nothing but link fields. -/
def badIdle (h : FuHeader) (payload : List Byte) : Bool :=
  !(h.cls = 0 && !h.pool && !h.first && !h.last && h.destCrown = 0 && h.srcCrown = 0 && h.gpart = 0 && h.flow = 0 && h.len = 0 &&
    h.hops = 0 && payload.all (· == 0))

/-- The row of R141's table, but its last, that a flow unit at E breaks whose payload in clear is given. -/
def Trunk.badRow (k : Trunk) (h : FuHeader) (payload : List Byte) : Option Nat :=
  if h.type = 0 then (if badIdle h payload then some 3 else if !k.tx.inRange h.ackSeq then some 8 else none)
  else if 6 ≤ h.type then some 1
  else if !classAllowed h.type h.cls then some 2
  else if k.rx.badFraming h then some 4
  else if k.badRekey h.type payload then some 5
  else if badLen h then some 6
  else if k.rx.overrun h then some 7
  else if !k.tx.inRange h.ackSeq then some 8
  else none

/-! ### Link fields (R125, R129 to R131, R134, R139) -/

/-- R131, R129, R130: the acknowledged sequence advances; a replay skips what it covers. -/
def State.ackTo (s : State) (q : Nat) (a : Seq16) : State :=
  let x := (s.trunk q).tx
  let n := (a - (x.oldest - 1)).toNat
  if n = 0 || !x.inRange a then s
  else (s.releaseTo q a).modTx q (fun y => { y with
    replayRun := 0, lastAdvance := s.now,
    replayAt := match y.replayAt with
      | some r => if (r - x.oldest).toNat < n then (if a + 1 = y.nextTx then none else some (a + 1)) else some r
      | none => none })

/-- R138, R139: the receiver's own count follows, and the first flow unit of a new phase ends the old key. -/
def TrunkRx.phase (x : TrunkRx) (h : FuHeader) : TrunkRx :=
  let count := ((x.sealOf h).map (·.2 + 1)).getD x.count
  if h.keyPhase = x.keyPhase then { x with count := max x.count count }
  else { x with count := count, keyPhase := h.keyPhase, keyEpoch := x.keyEpoch + 1, keyNo := x.rekeyKey.getD x.keyNo, rekeyKey := none }

/-- take_link_fields of R125. -/
def State.takeLinkFields (s : State) (q : Nat) (h : FuHeader) : State :=
  let s := s.modTrunk q (fun k => { k with
    tx := { k.tx with farRsv := k.tx.farRsv.set h.crClass h.crRsv, farShared := h.crShared },
    rx := if k.crypt then k.rx.phase h else k.rx })
  let s := s.ackTo q h.ackSeq
  let x := (s.trunk q).tx
  if h.nak && x.inRange h.ackSeq then s.startReplay q (h.ackSeq + 1) else s

/-! ### Messages in the receive pool (R121, R132, R171, R281) -/

/-- The header fields that a message keeps. -/
def PoolMsg.header (m : PoolMsg) : FuHeader :=
  { rekeyHeader with cls := m.cls, destCrown := m.dest, srcCrown := m.src, gpart := m.gpart, flow := m.flow, hops := m.hops }

/-- KIND of a pool message (R159). -/
def PoolMsg.kind (m : PoolMsg) : Nat :=
  match m.msg with
  | .tlp _ x => tlpKindCode x.kind
  | _ => 3

/-- R166, R167: it must keep behind an older posted one of its source. -/
def PoolMsg.ordered (m e : PoolMsg) : Bool :=
  match m.msg, e.msg with
  | .tlp _ x, .tlp _ y =>
    !(x.ro && (x.kind = .completion || npWithData x.kind || !x.data.isEmpty)) && m.src == e.src && m.gpart == e.gpart && x.reqId == y.reqId
  | _, _ => false

/-- R171: messages of a class and type wait in their order. -/
def PoolMsg.behind (m : PoolMsg) (ahead : List PoolMsg) : Bool :=
  ahead.any (fun e => e.cls == m.cls && (fcOf e.kind == fcOf m.kind || (fcOf m.kind ≠ 0 && fcOf e.kind == 0 && m.ordered e)))

/-- Where a message from trunk `q` comes from. -/
def PoolMsg.ingress (m : PoolMsg) (q part : Nat) : Ingress :=
  let i := match m.msg with
    | .tlp c x => trunkIngress q part m.header ((rclassOf c.rclass).getD .device) x.reqId c.track
    | .datagram _ => trunkIngress q part m.header .func 0 0
    | .engine _ => trunkIngress q part m.header .engine 0 0
  { i with order := m.order, rid := i.reqId }

/-- The crown partition of a message's grove partition; `noPart` where this crown holds none. -/
def State.msgPart (s : State) (m : PoolMsg) : Nat := (s.partOfGp m.gpart).getD noPart

/-- The descriptor of a message as it came. -/
def State.msgDesc (s : State) (q : Nat) (m : PoolMsg) : Desc :=
  let i := m.ingress q (s.msgPart m)
  match m.msg with
  | .tlp c x => { mkDesc s i c x (gOfTrunk q) m.cls with destCrown := m.dest }
  | .datagram d =>
    { mkDesc s i Carrier.zero (poolTlp .datagram 0 d.len d.payload) (gOfTrunk q) 6 with
      kind := 3, msg := m.msg, len := 32 + d.payload.length, arrived := 32 + d.payload.length, cells := ceilDiv d.payload.length 256,
      destCrown := m.dest }
  | .engine e =>
    { mkDesc s i Carrier.zero (poolTlp .engine 0 e.data.length e.data) (gOfTrunk q) m.cls with
      kind := 3, msg := m.msg, len := 32 + e.data.length, arrived := 32 + e.data.length, cells := ceilDiv e.data.length 256,
      destCrown := m.dest }

/-- The limb at which a refused message counts. -/
def waitLimb (ds : List Desc) (q : Nat) : Nat :=
  match ds with
  | d :: _ => limbOf (if d.egress < 160 then d.egress else gOfTrunk q)
  | [] => limbOf (gOfTrunk q)

/-- R283: a message arrives with no hop left at a crown that is not its destination (DESIGN CHOICE, log entry 155). -/
def State.hopLimit (s : State) (q dest : Nat) : State := (s.countBough (boughOf (gOfTrunk q)) 0x30A 1).noteAt 0xC03 dest 1

/-- R283, R284: a message for another crown: one hop lower onto the trunk of its flow. `error` names the limb where it waits. -/
def State.transit (s : State) (q : Nat) (m : PoolMsg) : Except Nat State :=
  let d := s.msgDesc q m
  if m.hops = 0 then .ok ((s.hopLimit q m.dest).undeliverable d 8)
  else if s.unreachable m.dest then .ok (s.undeliverable d 7)
  else match s.routeOrHome m.dest m.flow with
    | none => .ok (s.undeliverable d 7)
    | some r =>
      let d := { d with egress := gOfTrunk r, hops := m.hops - 1 }
      let s := s.countBough (boughOf (gOfTrunk q)) 0x308 1
      let s := if s.homeMember m.dest m.flow = some r then s else s.countBough (boughOf (gOfTrunk r)) 0x309 1
      let s := if s.trunkUp r then s.stick m.dest m.flow r else s
      if m.cls = 6 then .ok (s.placeC6 d)
      else
        let c := s.coloured [d]
        if c.1.admitsAll c.2 then .ok (c.1.enterAll c.2) else .error (waitLimb [d] q)

/-! ### TLP messages for this crown (R288 to R292) -/

/-- R391 row 0x0A: a carrier header, or a TLP, that breaks its format. -/
def badCarrier (c : Carrier) (x : Tlp) : Bool :=
  !c.reservedOk || 2 < c.ckind || 6 < c.rclass || !(c.tkind ≤ 3 || c.tkind = 0xFF) || !x.specOk ||
    (isMemRequest x.kind && crosses4K x.addr x.lenBytes) || (c.ckind = 0 && !c.mcast && c.tkind = 0xFF)

/-- R289, R291: a completion with its tracking index (DEDUCED, log entry 154). -/
def State.trackedCompletion (s : State) (i : Ingress) (c : Carrier) (x : Tlp) : State × List Desc :=
  match s.fabric.tracks.find? (·.index == c.track) with
  | none => (s.countHeart 0x382 1, [])
  | some k =>
    let s := if lastCpl x then s.modFabric (fun f => { f with tracks := f.tracks.filter (·.index ≠ c.track) }) else s
    if k.quarantined.isSome then ((s.countHeart 0x382 1).noteAt 0xC02 k.part 0, [])
    else s.backTo i x k.src k.reqId k.tag k.part k.cls

/-- The VDP of a partition, bound to a twig of this crown, for a message routed by ID (DEDUCED, log entry 153). -/
def State.vdpHere (s : State) (p bus : Nat) : Option Nat :=
  match (s.binds.filter (fun b => b.1 == p && b.2.2.crown == s.crownId)).map (·.2.1) with
  | [n] => some n
  | ns => ns.find? (fun n =>
      let b := (s.part p).vdp n
      b.fld .secondaryBus ≤ bus && bus ≤ b.fld .subordinateBus && b.fld .secondaryBus ≠ 0)

/-- R292, R297: a message TLP; an Unlock releases the partition's twig here (DEDUCED, log entry 153). -/
def State.trunkMessage (s : State) (i : Ingress) (c : Carrier) (x : Tlp) : State × List Desc :=
  if x.kind = .unlock then
    (if s.fabric.locks.any (·.part == i.part) then s.modFabric (fun f => { f with locks := f.locks.filter (·.part ≠ i.part) })
     else s.countDrop i.src 3, [])
  else if i.rclass = .host then
    match s.vdpHere i.part (x.addr % 65536 / 256) with
    | some n => s.toVdp i c x n x.addr
    | none => (s, [])
  else s.toHost i c x

/-- R288: a request. TKIND 0x03 at the crown that holds the twig enters by the VDP; at the home crown it comes up from the VDP. -/
def State.trunkRequest (s : State) (i : Ingress) (c : Carrier) (x : Tlp) : State × List Desc :=
  if c.tkind ≠ 3 then s.deliverTo i c x (s.resolve c.tkind (c.faddr % 2 ^ 46) c.select)
  else
    let n := c.select % 256
    let b := s.bind i.part n
    if b.kind ≠ 0 && b.crown ≠ s.crownId then
      let i := { i with entry := some (some n) }
      s.decodeTo i c x
    else s.toVdp i c x n x.addr

/-- R184, R239, R283: a copy of a multicast write is replicated by this crown's own entry, but not back; one without hops left goes
onto no trunk. -/
def State.trunkMulticast (s : State) (q : Nat) (i : Ingress) (c : Carrier) (x : Tlp) : State × List Desc :=
  let grp := ((List.range 64).find? (fun k => s.getDef (Key.PART_MCAST_MAP + 256 * i.part + k) 0xFFFF == c.mcgroup)).getD 64
  let r := s.multicast i x c.mcgroup grp (some q)
  if i.hops = 0 && r.2.any (fun d => d.egress < 160 && isT d.egress) then
    (r.1.countBough (boughOf (gOfTrunk q)) 0x30A 1, r.2.filter (fun d => !(d.egress < 160 && isT d.egress)))
  else r

/-- What a TLP message for this crown enqueues. -/
def State.trunkTlp (s : State) (q : Nat) (m : PoolMsg) (c : Carrier) (x : Tlp) : State × List Desc :=
  let i := m.ingress q (s.msgPart m)
  let r :=
    if badCarrier c x then (s.violation i c x 0x0A none, [])
    else if c.mcast then s.trunkMulticast q i c x
    else if c.ckind = 1 then s.trackedCompletion i c x
    else if c.ckind = 2 then s.trunkMessage i c x
    else s.trunkRequest i c x
  (r.1, r.1.dress i x r.2)

/-- A TLP message is admitted, or keeps its slots. One that waits for a window entry, a gate's reload, a class hold or room in its queue
leaves the state as it was (DESIGN CHOICE, log entry 28). -/
def State.tryTlp (s : State) (q : Nat) (m : PoolMsg) (c : Carrier) (x : Tlp) : Except Nat State :=
  let r := s.trunkTlp q m c x
  let held : Bool := r.1.gates.misses ≠ s.gates.misses || r.1.gates.heldTlps ≠ s.gates.heldTlps ||
    r.2.any (fun d => s.heldClass d.part x.tc)
  let c := r.1.coloured r.2
  if held || !c.1.admitsAll c.2 then .error (waitLimb r.2 q) else .ok (c.1.enterAll c.2)

/-! ### Datagrams and engine messages for this crown (R352 to R355, R361) -/

/-- R361: a datagram goes to the heartwood, through its stem's intake. -/
def State.tryDatagram (s : State) (q : Nat) (m : PoolMsg) : State :=
  s.placeC6 { s.msgDesc q m with egress := 160 + stemOf (gOfTrunk q) }

/-- R184, R353: the copies of a result that go on by the group's other trunks, as it came but one hop lower. -/
def State.resultCopies (s : State) (q : Nat) (m : PoolMsg) (e : EngineMsg) : List Desc :=
  ((groupTrunks (s.mcastGroup (s.redCtx e.ctx).mcGroup)).filter (· ≠ q)).map (fun r =>
    { s.msgDesc q m with egress := gOfTrunk r, mcast := some 0, hops := m.hops - 1, destCrown := ((s.trunk r).peer.map (·.1)).getD 0 })

/-- R157, R184, R353: what an engine message for this crown enqueues: into its stem's intake, a result as its group says. -/
def State.engineDescs (s : State) (q : Nat) (m : PoolMsg) (e : EngineMsg) : List Desc :=
  let here := { s.msgDesc q m with egress := 160 + stemOf (gOfTrunk q), heart := some (0x102, 0) }
  if e.kind = 1 && (s.redCtx e.ctx).valid then
    (if m.hops = 0 then [] else s.resultCopies q m e) ++
      (if groupHeart (s.mcastGroup (s.redCtx e.ctx).mcGroup) then [{ here with mcast := some 0 }] else [])
  else [here]

/-- R157, R171, R352: an engine message enters its stem's intake, or keeps its slots. -/
def State.tryEngine (s : State) (q : Nat) (m : PoolMsg) (e : EngineMsg) : Except Nat State :=
  let ds := s.engineDescs q m e
  let c := s.coloured ds
  if (e.kind = 0 && s.partialWaits e) || !c.1.admitsAll c.2 then .error (waitLimb ds q)
  else .ok (if e.kind = 1 && m.hops = 0 && !(s.resultCopies q m e).isEmpty then (c.1.countBough (boughOf (gOfTrunk q)) 0x30A 1).enterAll c.2
    else c.1.enterAll c.2)

/-- R201: a message whose GPART matches no crown partition here, whether for this crown or on its way: no gate region matches it. -/
def State.strayMsg (s : State) (q : Nat) (m : PoolMsg) : State :=
  match m.msg with
  | .tlp c x => s.gateFault (m.ingress q noPart) c x 0xFF 1
  | _ =>
    let b := boughOf (gOfTrunk q)
    let s := (s.logDiscard (s.msgDesc q m) true (srcBough b 0) 0x101).countBough b 0x303 1
    (s.noteAt (srcBough b 0) (gateFaultCode 1 0xFF) 0).countViol (some (.twig (gOfTrunk q)))

/-- R187, R225: the parse stage refuses the messages of a partition that is not ACTIVE; a completion of an earlier request goes on. -/
def State.refusedHere (s : State) (m : PoolMsg) : Bool :=
  m.kind ≠ 2 && s.msgPart m < 64 && (s.part (s.msgPart m)).state ≠ .active

/-- A refused message: a non-posted request is answered, a posted one reported, the rest dropped and counted. -/
def State.refuseMsg (s : State) (q : Nat) (m : PoolMsg) : State :=
  match m.msg with
  | .tlp c x =>
    let i := m.ingress q (s.msgPart m)
    let s := s.refuseNp i x .aborted
    if tlpKindCode x.kind = 0 && !c.mcast then s.postedFailed (s.descIn i c x) 5 0 false else s
  | _ => s.countDrop (gOfTrunk q) 2

/-- A whole message is tried. One of a fenced crown is discarded (R287), one of no partition of this crown is a gate fault (R201). A
multicast copy is for every crown that it reaches (DEDUCED, log entry 156). -/
def State.tryMsg (s : State) (q : Nat) (m : PoolMsg) : Except Nat State :=
  if s.fenced m.src then .ok s
  else if s.msgPart m = noPart then .ok (s.strayMsg q m)
  else if s.refusedHere m then .ok (s.refuseMsg q m)
  else match m.msg with
    | .tlp c x => if m.dest = s.crownId then s.tryTlp q m c x else s.transit q m
    | .datagram _ => if m.dest = s.crownId then .ok (s.tryDatagram q m) else s.transit q m
    | .engine e => if m.dest = s.crownId then s.tryEngine q m e else s.transit q m

/-- R171: the messages of a type that wait in a trunk's pool are tried again, in their order (DESIGN CHOICE, log entry 27). -/
def State.retryPool (s : State) (q kind : Nat) : State :=
  let r := (s.trunk q).rx.pool.foldl (fun (a : State × List PoolMsg) m =>
    if fcOf m.kind ≠ kind || m.behind a.2 then (a.1, a.2 ++ [m])
    else match a.1.tryMsg q m with
      | .ok s' => (s', a.2)
      | .error l => if m.refused then (a.1, a.2 ++ [m]) else (a.1.countLimb l 0x205 1, a.2 ++ [{ m with refused := true }])) (s, [])
  (r.1.modRx q (fun x => { x with pool := r.2 })).answerQueries q

/-- A whole message arrives: admitted at once, or it waits in the pool (DESIGN CHOICE, log entry 27). -/
def State.poolArrive (s : State) (q : Nat) (m : PoolMsg) : State :=
  let wait (refused : Bool) : State := s.modRx q (fun x => { x with pool := x.pool ++ [{ m with refused := refused }] })
  if m.behind (s.trunk q).rx.pool then wait false
  else match s.tryMsg q m with
    | .ok s' => s'
    | .error l => (wait true).countLimb l 0x205 1

/-! ### Control messages (R120) -/

/-- R283: a control message for another crown. -/
def State.controlTransit (s : State) (q : Nat) (h : FuHeader) (payload : List Byte) : State :=
  if h.hops = 0 then s.hopLimit q h.destCrown
  else if s.unreachable h.destCrown then s.countBough (boughOf (gOfTrunk q)) 0x30B 1
  else (s.countBough (boughOf (gOfTrunk q)) 0x308 1).controlTo h.destCrown (.transit h.destCrown h.srcCrown (h.hops - 1) payload)

/-- What a control message for this crown, or from neighbour to neighbour, brings. -/
def State.takeControl (s : State) (q : Nat) : Control → State
  | .announce a => timeAnnounceReceiveEffect s q a
  | .farFailure _ n => farFailureNoticeEffect s q n
  | .containment m => containmentMessageEffect s q m
  | .prune _ ft slots => pruneSetReceiveEffect s q ft slots
  | .snapshot m => snapshotMessageEffect s q m
  | .fateQuery _ querier trunk no => fateQueryEffect s q querier trunk no
  | .fateAnswer _ _ trunk no rxLast answerer => fateAnswerEffect s trunk answerer no rxLast
  | .fence n => fenceNoticeEffect s q n
  | .rekeyOffer e k => rekeyOfferEffect s q e k
  | .rekeyAccept e k => rekeyAcceptEffect s q e k
  | .transit _ _ _ _ => s

/-- R287: only a fence notice passes from a fenced crown. -/
def isFence : Option Control → Bool
  | some (.fence _) => true
  | _ => false

/-- A CONTROL or REKEY FU (DEDUCED, log entry 75). -/
def State.controlIn (s : State) (q : Nat) (h : FuHeader) (payload : List Byte) : State :=
  let c := if h.type = 4 then parseRekey payload else parseControl h.srcCrown payload
  if h.type = 3 && s.fenced h.srcCrown && !isFence c then s
  else if h.type = 3 && h.destCrown ≠ s.crownId then s.controlTransit q h payload
  else match c with
    | some c => s.takeControl q c
    | none => s

/-! ### Acceptance (R121, R125, R132, R136) -/

/-- The carrier header that 32 bytes spell (R288). -/
def carrierOf (bs : List Byte) : Carrier :=
  let f := beField bs
  { ckind := f 0 0 / 64, mcast := bitOf (f 0 0) 5, lock := bitOf (f 0 0) 4, rclass := f 1 1, tkind := f 2 2, select := f 4 7, faddr := f 8 15,
    mcgroup := f 16 17 % 4096, track := f 18 19,
    reservedOk := f 0 0 % 16 = 0 && f 3 3 = 0 && f 4 7 < 2 ^ 18 && f 8 8 = 0 && f 16 17 < 4096 && f 20 31 = 0 }

/-- The datagram that bytes spell (R359). -/
def datagramOf (bs : List Byte) : Datagram :=
  let f := beField bs
  { dstCrown := f 0 1 % 1024, dstFn := f 2 2, dstQueue := f 3 3, srcCrown := f 4 5 % 1024, srcFn := f 6 6, srcQueue := f 7 7, len := f 8 9,
    cong := f 10 10 % 4, payload := bs.drop 32 }

/-- R121: the message that the bytes of a type's FUs spell. -/
def msgOf (type : Nat) (bs : List Byte) : Option Msg :=
  match type with
  | 1 => (Config.tlpRead (bs.drop 32)).map (fun x => .tlp (carrierOf bs) x)
  | 2 => if 32 < bs.length then some (.datagram (datagramOf bs)) else none
  | _ => (Config.engineRead bs).map .engine

/-- R160: the descriptor of a message whose bytes spell none. -/
def State.blindDesc (s : State) (q : Nat) (h : FuHeader) (o : OpenMsg) : Desc :=
  let i := { trunkIngress q ((s.partOfGp h.gpart).getD 0) h .device 0 0 with order := (s.trunk q).rx.order }
  { mkDesc s i Carrier.zero (poolTlp .message 0 0 []) (gOfTrunk q) h.cls with
    cells := ceilDiv (o.bytes.length - 64) 256, len := o.bytes.length, destCrown := h.destCrown }

/-- A whole message: bytes that spell none are a malformed TLP, row 0x0A (R391). It is one more taken in at the twig (R159). -/
def State.msgComplete (s : State) (q : Nat) (h : FuHeader) (o : OpenMsg) : State :=
  let s := s.modRx q (fun x => { x with order := x.order + 1 })
  match msgOf o.type o.bytes with
  | some m =>
    s.poolArrive q
      { cls := h.cls, rsv := o.rsv, shared := o.shared, gpart := h.gpart, src := h.srcCrown, dest := h.destCrown, flow := h.flow,
        hops := h.hops, order := (s.trunk q).rx.order, refused := false, msg := m }
  | none =>
    if o.type = 1 then
      (s.logEntry { desc := (s.blindDesc q h o).bits, header := beNat (padTo 64 o.bytes), ft := s.stampFt, source := srcTwig (gOfTrunk q) 15, cause := 0x0A,
                    histSeq := none, inj := false }).countViol (some (.twig (gOfTrunk q)))
    else s

/-- A flow unit of a message that is put together. -/
def State.assemble (s : State) (q : Nat) (h : FuHeader) (payload : List Byte) : State :=
  let old := ((s.trunk q).rx.openMsgs.find? (·.cls == h.cls)).getD { cls := h.cls, type := h.type, rsv := 0, shared := 0, bytes := [] }
  let o := { old with rsv := old.rsv + (if h.pool then 0 else 1), shared := old.shared + (if h.pool then 1 else 0),
                      bytes := old.bytes ++ payload.take h.len }
  let s := s.modRx q (fun x => { x with openMsgs := x.openMsgs.filter (·.cls ≠ h.cls) ++ (if h.last then [] else [o]) })
  if h.last then s.msgComplete q h o else s

/-- The receiver's own registers as a sequenced FU is accepted; its slot is taken. -/
def TrunkRx.accept (x : TrunkRx) (h : FuHeader) : TrunkRx :=
  { x with
    rxLast := x.expect, expect := x.expect + 1, nakPending := false,
    takenRsv := if h.pool then x.takenRsv else x.takenRsv.modify h.cls (· + 1),
    takenShared := if h.pool then x.takenShared + 1 else x.takenShared,
    freeRsv := if h.pool then x.freeRsv else x.freeRsv.modify h.cls (· - 1),
    freeShared := if h.pool then x.freeShared - 1 else x.freeShared }

/-- A sequenced FU is accepted: stored, then its link fields are taken while the trunk is still in L0. -/
def State.acceptFu (s : State) (q : Nat) (h : FuHeader) (payload : List Byte) : State :=
  let g := gOfTrunk q
  let s := ((s.modRx q (fun x => x.accept h)).countTwig g 0x180 1).countTwig g 0x182 h.len
  let s := if typeRuns h.type then s.assemble q h payload else s.controlIn q h payload
  if s.trunkUp q then s.takeLinkFields q h else s

/-- The check matches at E. -/
def State.fuAtE (s : State) (q : Nat) (fu : Fu) : State :=
  let k := s.trunk q
  match k.opens k.rx.expect fu with
  | none => (s.countTwig (gOfTrunk q) 0x18E 1).fuViolation q fu.hdr 9
  | some payload =>
    match k.badRow fu.hdr payload with
    | some row => s.fuViolation q fu.hdr row
    | none =>
      if fu.hdr.type = 0 then (s.modRx q (fun x => { x with nakPending := false })).takeLinkFields q fu.hdr
      else s.acceptFu q fu.hdr payload

/-- R125, R127: a duplicate: its link fields count if its tag verifies; an ACK_SEQ out of range among them is a violation. -/
def State.fuDuplicate (s : State) (q : Nat) (seq : Seq16) (fu : Fu) : State :=
  let k := s.trunk q
  let s := s.countTwig (gOfTrunk q) 0x18A 1
  if (k.opens seq fu).isNone then s
  else if k.tx.inRange fu.hdr.ackSeq then s.takeLinkFields q fu.hdr
  else s.fuViolation q fu.hdr 8

/-- No sequence matches: the check fails. -/
def State.fuCheckFail (s : State) (q : Nat) : State :=
  let s := s.countTwig (gOfTrunk q) 0x186 1
  if (s.trunk q).rx.nakPending then s
  else (s.modRx q (fun x => { x with nakPending := true, nakSince := s.now })).nakEvent q

/-! ### FU_RECEIVE, RX_SLOT_FREED, ADMISSION_RETRY -/

/-- R125: what the receiver makes of a flow unit as the line brings it; `failed`: its check fails whatever its bytes. -/
def State.fuArrive (s : State) (q : Nat) (fu : Fu) (failed : Bool) : State :=
  let e := (s.trunk q).rx.expect
  if failed then s.fuCheckFail q
  else if fu.check = fuCheck e fu then s.fuAtE q fu
  else match dupSeq e fu with
    | some seq => s.fuDuplicate q seq fu
    | none => s.fuCheckFail q

/-- R112, R117, R151: the codeword that begins with a flow unit is decoded: symbols corrected, or an uncorrectable codeword, are counted. -/
def State.takeCodeword (s : State) (q errs : Nat) : State :=
  let x := (s.trunk q).lineRx
  let s := s.modTrunk q (fun k => { k with lineRx := x.take errs })
  if !codewordBegins x.fus || errs = 0 then s
  else if correctable errs then s.countTwig (gOfTrunk q) 0x184 errs
  else s.countTwig (gOfTrunk q) 0x185 1

/-- R125: a flow unit arrives on a trunk in L0; `errs` are the symbol errors of the codeword that begins with it, if one does. One that
overlaps an uncorrectable codeword fails its check, and the eighth such codeword in a row is link loss (R112, R117). An armed slot of
kind 4 makes the check of a sequenced FU fail (R393). -/
def fuReceiveEffect (s : State) (q : Nat) (fu : Fu) (errs : Nat) : State :=
  if 16 ≤ q || !s.trunkUp q then s
  else
    let broken := (s.trunk q).lineRx.fails errs
    let s := (s.adaptTaps q).takeCodeword q errs
    if 8 ≤ (s.trunk q).lineRx.badRun then s.trunkRetrain q false
    else
      let r := if fu.hdr.type = 0 then (s, none) else s.injectItem [4] 0 (gOfTrunk q)
      (r.1.fuArrive q fu (broken || r.2.isSome)).answerQueries q

/-- FU_RECEIVE -/
def execFuReceive (t q : Nat) (fu : Fu) (errs : Nat) (s : State) : Host.Outcome State Fault Refusal :=
  act2 s t (fun s => fuReceiveEffect s q fu errs)

/-- Slots of a class's reserve, and of the shared part, that no message holds any more and that are not yet free. -/
def TrunkRx.freeable (x : TrunkRx) (cls : Nat) (shared : Bool) : Nat :=
  if shared then 3584 - x.freeShared - (x.openMsgs.map (·.shared)).sum - (x.pool.map (·.shared)).sum
  else 64 - x.freeRsv.getD cls 0 - ((x.openMsgs.filter (·.cls == cls)).map (·.rsv)).sum - ((x.pool.filter (·.cls == cls)).map (·.rsv)).sum

/-- R132, R133: a slot is freed: one more grant of its count. -/
def rxSlotFreedEffect (s : State) (q cls : Nat) (shared : Bool) : State :=
  if 16 ≤ q || 8 ≤ cls || (s.trunk q).rx.freeable cls shared = 0 then s
  else s.modRx q (fun x =>
    if shared then { x with freeShared := x.freeShared + 1, grantedShared := x.grantedShared + 1 }
    else { x with freeRsv := x.freeRsv.modify cls (· + 1), grantedRsv := x.grantedRsv.modify cls (· + 1) })

/-- RX_SLOT_FREED -/
def execRxSlotFreed (t q cls : Nat) (shared : Bool) (s : State) : Host.Outcome State Fault Refusal :=
  act1 s t (fun s => rxSlotFreedEffect s q cls shared)

/-- R171: the head of an ingress sub-queue of an H-twig, or of a trunk's pool, is tried again. -/
def retryEffect (s : State) (g kind : Nat) : State :=
  if g < 160 && isT g then s.retryPool (trunkOfG g) kind else admissionRetryEffect s g kind

/-- ADMISSION_RETRY -/
def execAdmissionRetry (t g kind : Nat) (s : State) : Host.Outcome State Fault Refusal := act2 s t (fun s => retryEffect s g kind)

end Sys2Proof.Machine
end

