-- ==== Sys2Proof/Machine/Records.lean ====
section
/-! DEFINITION. A journal record becomes whole (R469, R473, R474): what waited for it happens. -/

namespace Sys2Proof.Machine

/-- The trailer is whole on every device that works, and one does. -/
def State.programmed (s : State) (flash0 flash1 : Bool) : Bool :=
  let w0 := s.journal.works 0
  let w1 := s.journal.works 1
  (w0 || w1) && (!w0 || flash0) && (!w1 || flash1)

/-- A written value, or the KEY_SEQ of its request, takes effect (R434, R474). -/
def State.takeSeq (s : State) (x : JRecord) : State :=
  match x.body with
  | .write _ _ _ _ ks | .keySeq ks => { s with dict := replaySeq s.dict x.keyId ks }
  | _ => s

/-- R463: a write of TEST_UNLOCK zeroizes; every other value takes effect under R408. -/
def State.takeWrite (s : State) (p : PendingRecord) : State :=
  match p.write with
  | some (key, v) => if key = Key.TEST_UNLOCK then s.zeroize p.record.keyId else s.applyWrite p.who key v
  | none => s

/-- R444: a claim set fires at once when its records are whole. -/
def State.takeSet (s : State) (x : JRecord) : State :=
  match x.body with
  | .set c _ =>
    (match s.setOf c.id with
      | some c =>
        if c.claim && c.state = .queued then
          (match s.actFind .change c.id with
            | some n => (s.markFired n).fireSet c
            | none => s)
        else s
      | none => s)
  | _ => s

/-- What waited for a record happens, its answer last; under the intake's warning the answer waits for its end (R479). -/
def State.recordTaken (s : State) (p : PendingRecord) : State :=
  let s := (((s.jWhole p.record).takeSeq p.record).takeWrite p).takeSet p.record
  match p.req, p.answer with
  | some r, some a =>
    if s.journal.warned then s.modJournal (fun j => { j with heldAnswers := j.heldAnswers ++ [(r, a)] }) else s.respond r a
  | _, _ => s

/-- R473, R479: the oldest record in the making has been programmed, or a device has failed to. While the intake's warning stands nothing
is programmed but the trailer of the record whose body stood when it came. Then the service queue goes on (DEDUCED, log entry 143). -/
def recordWholeEffect (s : State) (flash0 flash1 : Bool) : State :=
  match s.journal.inFlight with
  | [] => s
  | p :: rest =>
    if (s.journal.warned && !s.journal.bodyDone) || !s.awake then s
    else
      let s := (s.flashProgram 0 flash0).flashProgram 1 flash1
      if !s.programmed flash0 flash1 then s
      else
        let s := (s.modJournal (fun j => { j with inFlight := rest, bodyDone := false })).recordTaken p
        (s.serveQueue s.bocel.queue.length).compactIfFull

/-- RECORD_WHOLE -/
def execRecordWhole (t : Nat) (flash0 flash1 : Bool) (s : State) : Host.Outcome State Fault Refusal :=
  act2 s t (fun s => recordWholeEffect s flash0 flash1)

/-- R497: the 2 ms warning ends; the answers that waited for records go (R479). -/
def inputLossWarningEndEffect (s : State) : State :=
  if s.power.inputLost && !s.power.warningEnd then
    let held := s.journal.heldAnswers
    let s := (s.modPower (fun x => { x with warningEnd := true })).modJournal (fun j => { j with warned := false, bodyDone := false, heldAnswers := [] })
    let s := s.each held (fun s e => s.respond e.1 e.2)
    if s.power.inputUp then s.inputBack else s
  else s

/-- INPUT_LOSS_WARNING_END -/
def execInputLossWarningEnd (t : Nat) (s : State) : Host.Outcome State Fault Refusal := act2 s t inputLossWarningEndEffect

end Sys2Proof.Machine
end

