-- ==== Sys2Proof/Machine/Dispatch.lean ====
section
/-! DEFINITION. One arm per command: its meaning, by one direct call. -/

namespace Sys2Proof.Machine

def exec (i : Instr) (s : State) : Host.Outcome State Fault Refusal :=
  match i with
  | .dieLinkLaneFail t link => Sys2Proof.Machine.execDieLinkLaneFail t link s
  | .twigReset t who g => Sys2Proof.Machine.execTwigReset t who g s
  | .boughReset t who b => Sys2Proof.Machine.execBoughReset t who b s
  | .limbReset t who l => Sys2Proof.Machine.execLimbReset t who l s
  | .dieReset t who d => Sys2Proof.Machine.execDieReset t who d s
  | .warmReset t cause => Sys2Proof.Machine.execWarmReset t cause s
  | .resetComplete t u => Sys2Proof.Machine.execResetComplete t u s
  | .timeAnnounceSend t => Sys2Proof.Machine.execTimeAnnounceSend t s
  | .timeAnnounceReceive t q a => Sys2Proof.Machine.execTimeAnnounceReceive t q a s
  | .masterLost t => Sys2Proof.Machine.execMasterLost t s
  | .electionSettled t => Sys2Proof.Machine.execElectionSettled t s
  | .takeOffice t => Sys2Proof.Machine.execTakeOffice t s
  | .selfElect t => Sys2Proof.Machine.execSelfElect t s
  | .timeRefPulse t spacing => Sys2Proof.Machine.execTimeRefPulse t spacing s
  | .timeRefPulseMissing t => Sys2Proof.Machine.execTimeRefPulseMissing t s
  | .alignmentMarkerReceive t q lanes => Sys2Proof.Machine.execAlignmentMarkerReceive t q lanes s
  | .markerLoss t => Sys2Proof.Machine.execMarkerLoss t s
  | .timeOpenMode t => Sys2Proof.Machine.execTimeOpenMode t s
  | .scheduledModeReturn t => Sys2Proof.Machine.execScheduledModeReturn t s
  | .dictionaryChangeFire t slot => Sys2Proof.Machine.execDictionaryChangeFire t slot s
  | .slotSwapRequest t who ft => Sys2Proof.Machine.execSlotSwapRequest t who ft s
  | .slotSwap t => Sys2Proof.Machine.execSlotSwap t s
  | .pruneSetReceive t q number ft prune => Sys2Proof.Machine.execPruneSetReceive t q number ft prune s
  | .pruneSetApply t q => Sys2Proof.Machine.execPruneSetApply t q s
  | .hLaneMaintenance t lane dur eye corrected => Sys2Proof.Machine.execHLaneMaintenance t lane dur eye corrected s
  | .trunkTxMaintenanceStep t q dur => Sys2Proof.Machine.execTrunkTxMaintenanceStep t q dur s
  | .trunkRxMaintenanceStep t q dur => Sys2Proof.Machine.execTrunkRxMaintenanceStep t q dur s
  | .refreshBatch t dur retries failed => Sys2Proof.Machine.execRefreshBatch t dur retries failed s
  | .hpSymbolLockTimeout t lane left => Sys2Proof.Machine.execHpSymbolLockTimeout t lane left s
  | .hpL0Reached t p rate lanes partnerMax flit reversed polarity => Sys2Proof.Machine.execHpL0Reached t p rate lanes partnerMax flit reversed polarity s
  | .hpEqAttemptEnd t p preset ok => Sys2Proof.Machine.execHpEqAttemptEnd t p preset ok s
  | .hpCoeffRequest t p req => Sys2Proof.Machine.execHpCoeffRequest t p req s
  | .hpLinkRecovery t p e => Sys2Proof.Machine.execHpLinkRecovery t p e s
  | .hpLinkDown t p cause => Sys2Proof.Machine.execHpLinkDown t p cause s
  | .dfeUpdate t lane sums => Sys2Proof.Machine.execDfeUpdate t lane sums s
  | .refclkLost t b => Sys2Proof.Machine.execRefclkLost t b s
  | .refclkRestored t b => Sys2Proof.Machine.execRefclkRestored t b s
  | .l0pNarrow t p => Sys2Proof.Machine.execL0pNarrow t p s
  | .l0pWiden t p => Sys2Proof.Machine.execL0pWiden t p s
  | .l0pPartnerRequest t p width => Sys2Proof.Machine.execL0pPartnerRequest t p width s
  | .l1EntryInitiate t p => Sys2Proof.Machine.execL1EntryInitiate t p s
  | .l1PartnerRequest t p => Sys2Proof.Machine.execL1PartnerRequest t p s
  | .l1Exit t p => Sys2Proof.Machine.execL1Exit t p s
  | .trunkSignalDetect t q => Sys2Proof.Machine.execTrunkSignalDetect t q s
  | .trunkAlignComplete t q lanes => Sys2Proof.Machine.execTrunkAlignComplete t q lanes s
  | .capsFrame t q frame => Sys2Proof.Machine.execCapsFrame t q frame s
  | .keyexFrame t q frame => Sys2Proof.Machine.execKeyexFrame t q frame s
  | .delayFrame t q frame at_ => Sys2Proof.Machine.execDelayFrame t q frame at_ s
  | .stepFrame t q frame => Sys2Proof.Machine.execStepFrame t q frame s
  | .eqFrame t q frame => Sys2Proof.Machine.execEqFrame t q frame s
  | .holdFrame t q frame => Sys2Proof.Machine.execHoldFrame t q frame s
  | .holdFramesCeased t q => Sys2Proof.Machine.execHoldFramesCeased t q s
  | .heldReevaluate t q => Sys2Proof.Machine.execHeldReevaluate t q s
  | .trunkStateTimeout t q => Sys2Proof.Machine.execTrunkStateTimeout t q s
  | .linkInitExchange t q resume rxLast rsv shared => Sys2Proof.Machine.execLinkInitExchange t q resume rxLast rsv shared s
  | .fuReceive t q fu errs => Sys2Proof.Machine.execFuReceive t q fu errs s
  | .nakRepeat t q => Sys2Proof.Machine.execNakRepeat t q s
  | .replayTimer t q => Sys2Proof.Machine.execReplayTimer t q s
  | .trunkLinkLoss t q => Sys2Proof.Machine.execTrunkLinkLoss t q s
  | .tpRetrain t who q => Sys2Proof.Machine.execTpRetrain t who q s
  | .rekeyOfferSend t q => Sys2Proof.Machine.execRekeyOfferSend t q s
  | .rekeyOffer t q epoch key => Sys2Proof.Machine.execRekeyOffer t q epoch key s
  | .rekeyAccept t q epoch key => Sys2Proof.Machine.execRekeyAccept t q epoch key s
  | .keyPhaseToggle t q => Sys2Proof.Machine.execKeyPhaseToggle t q s
  | .fateQuery t via querier trunk queryNo => Sys2Proof.Machine.execFateQuery t via querier trunk queryNo s
  | .fateQueryHoldExpire t trunk => Sys2Proof.Machine.execFateQueryHoldExpire t trunk s
  | .fateQueryResend t q => Sys2Proof.Machine.execFateQueryResend t q s
  | .fateAnswer t via trunk answerer queryNo rxLast => Sys2Proof.Machine.execFateAnswer t via trunk answerer queryNo rxLast s
  | .trunkDiscard t q => Sys2Proof.Machine.execTrunkDiscard t q s
  | .rxSlotFreed t q cls shared => Sys2Proof.Machine.execRxSlotFreed t q cls shared s
  | .tlpIngress t g tlp => Sys2Proof.Machine.execTlpIngress t g tlp s
  | .admissionRetry t g kind => Sys2Proof.Machine.execAdmissionRetry t g kind s
  | .cutThroughStart t id arrived tailOk => Sys2Proof.Machine.execCutThroughStart t id arrived tailOk s
  | .egressStart t g bufError => Sys2Proof.Machine.execEgressStart t g bufError s
  | .cutResend t id => Sys2Proof.Machine.execCutResend t id s
  | .bufStructFault t l => Sys2Proof.Machine.execBufStructFault t l s
  | .cellFreeDone t l => Sys2Proof.Machine.execCellFreeDone t l s
  | .classMapRelease t part tc => Sys2Proof.Machine.execClassMapRelease t part tc s
  | .classMapHold t part tc => Sys2Proof.Machine.execClassMapHold t part tc s
  | .configRequest t part reqId tag target fld val => Sys2Proof.Machine.execConfigRequest t part reqId tag target fld val s
  | .secondaryBusReset t part vdp set => Sys2Proof.Machine.execSecondaryBusReset t part vdp set s
  | .hotResetReceived t part linkDown => Sys2Proof.Machine.execHotResetReceived t part linkDown s
  | .partResetStepsDone t part => Sys2Proof.Machine.execPartResetStepsDone t part s
  | .partResetCauseEnd t part => Sys2Proof.Machine.execPartResetCauseEnd t part s
  | .resetNotice t home gpart => Sys2Proof.Machine.execResetNotice t home gpart s
  | .powerControllerControl t part vdp on => Sys2Proof.Machine.execPowerControllerControl t part vdp on s
  | .linkDisable t part vdp set => Sys2Proof.Machine.execLinkDisable t part vdp set s
  | .retrainLink t part vdp => Sys2Proof.Machine.execRetrainLink t part vdp s
  | .msixEnable t part => Sys2Proof.Machine.execMsixEnable t part s
  | .vectorUnmask t part vec => Sys2Proof.Machine.execVectorUnmask t part vec s
  | .forwardedEvent t gpart vec source code cls ft => Sys2Proof.Machine.execForwardedEvent t gpart vec source code cls ft s
  | .eventSoft t who source => Sys2Proof.Machine.execEventSoft t who source s
  | .bindingCopy t sender gpart vdp value => Sys2Proof.Machine.execBindingCopy t sender gpart vdp value s
  | .sharedResetRequest t who g => Sys2Proof.Machine.execSharedResetRequest t who g s
  | .sharedResetForce t who g => Sys2Proof.Machine.execSharedResetForce t who g s
  | .sharedPerstEnd t g => Sys2Proof.Machine.execSharedPerstEnd t g s
  | .sharedEnumDone t g rid stride => Sys2Proof.Machine.execSharedEnumDone t g rid stride s
  | .sharedResetFail t g => Sys2Proof.Machine.execSharedResetFail t g s
  | .sliceFlrDone t part vdp => Sys2Proof.Machine.execSliceFlrDone t part vdp s
  | .allotmentGrant t => Sys2Proof.Machine.execAllotmentGrant t s
  | .winFetchDone t stem w tagOk => Sys2Proof.Machine.execWinFetchDone t stem w tagOk s
  | .protDrainComplete t epoch => Sys2Proof.Machine.execProtDrainComplete t epoch s
  | .protDrainSlow t => Sys2Proof.Machine.execProtDrainSlow t s
  | .gateScrubVisit t gate copyOk => Sys2Proof.Machine.execGateScrubVisit t gate copyOk s
  | .gateCopyError t stem gate correctable => Sys2Proof.Machine.execGateCopyError t stem gate correctable s
  | .gateReloadDone t stem gate => Sys2Proof.Machine.execGateReloadDone t stem gate s
  | .rebalanceStart t q => Sys2Proof.Machine.execRebalanceStart t q s
  | .routeRebalance t who dest => Sys2Proof.Machine.execRouteRebalance t who dest s
  | .rebalanceComplete t r => Sys2Proof.Machine.execRebalanceComplete t r s
  | .rebalanceAbandoned t r => Sys2Proof.Machine.execRebalanceAbandoned t r s
  | .routeUnreachable t dest => Sys2Proof.Machine.execRouteUnreachable t dest s
  | .fenceByTrunkLoss t crown => Sys2Proof.Machine.execFenceByTrunkLoss t crown s
  | .fenceNotice t q n => Sys2Proof.Machine.execFenceNotice t q n s
  | .fenceForceSet t who crown => Sys2Proof.Machine.execFenceForceSet t who crown s
  | .fenceForceClear t who crown => Sys2Proof.Machine.execFenceForceClear t who crown s
  | .npTimeoutExpired t track => Sys2Proof.Machine.execNpTimeoutExpired t track s
  | .trackQuarantineEnd t track => Sys2Proof.Machine.execTrackQuarantineEnd t track s
  | .proxyTagTimeout t p tag => Sys2Proof.Machine.execProxyTagTimeout t p tag s
  | .farFailureSend t crown gpart => Sys2Proof.Machine.execFarFailureSend t crown gpart s
  | .farFailureNotice t q n => Sys2Proof.Machine.execFarFailureNotice t q n s
  | .lockTimeout t b => Sys2Proof.Machine.execLockTimeout t b s
  | .unlock t part => Sys2Proof.Machine.execUnlock t part s
  | .bridgeRead t core part target addr len => Sys2Proof.Machine.execBridgeRead t core part target addr len s
  | .bridgeWrite t core part target addr data => Sys2Proof.Machine.execBridgeWrite t core part target addr data s
  | .bridgeReadTimeout t core => Sys2Proof.Machine.execBridgeReadTimeout t core s
  | .bridgeReadRetry t core => Sys2Proof.Machine.execBridgeReadRetry t core s
  | .sidebandPoll t answers => Sys2Proof.Machine.execSidebandPoll t answers s
  | .poolRead t cls part addr len rd => Sys2Proof.Machine.execPoolRead t cls part addr len rd s
  | .poolWrite t cls part addr data retries readBackOk => Sys2Proof.Machine.execPoolWrite t cls part addr data retries readBackOk s
  | .poolPartialWrite t cls part addr data rd => Sys2Proof.Machine.execPoolPartialWrite t cls part addr data rd s
  | .poolAtomic t cls part op addr size operand compare rd => Sys2Proof.Machine.execPoolAtomic t cls part op addr size operand compare rd s
  | .epochSweepDone t gp => Sys2Proof.Machine.execEpochSweepDone t gp s
  | .memTrainingDone t ok failed => Sys2Proof.Machine.execMemTrainingDone t ok failed s
  | .memInitSweepDone t => Sys2Proof.Machine.execMemInitSweepDone t s
  | .patrolScrubRead t pla rd => Sys2Proof.Machine.execPatrolScrubRead t pla rd s
  | .memHotChange t device temp => Sys2Proof.Machine.execMemHotChange t device temp s
  | .ringTail t part vf tail => Sys2Proof.Machine.execRingTail t part vf tail s
  | .ringEnable t part vf => Sys2Proof.Machine.execRingEnable t part vf s
  | .ringReset t part vf => Sys2Proof.Machine.execRingReset t part vf s
  | .descriptorFetchDone t part vf count => Sys2Proof.Machine.execDescriptorFetchDone t part vf count s
  | .nop t at_ d => Sys2Proof.Machine.execNop t at_ d s
  | .copy t at_ d src => Sys2Proof.Machine.execCopy t at_ d src s
  | .fill t at_ d => Sys2Proof.Machine.execFill t at_ d s
  | .gather t at_ d list src => Sys2Proof.Machine.execGather t at_ d list src s
  | .scatter t at_ d list src => Sys2Proof.Machine.execScatter t at_ d list src s
  | .crcGen t at_ d src => Sys2Proof.Machine.execCrcGen t at_ d src s
  | .crcCheck t at_ d src => Sys2Proof.Machine.execCrcCheck t at_ d src s
  | .afcGen t at_ d src => Sys2Proof.Machine.execAfcGen t at_ d src s
  | .afcCheck t at_ d src arr => Sys2Proof.Machine.execAfcCheck t at_ d src arr s
  | .reduceContrib t at_ d src => Sys2Proof.Machine.execReduceContrib t at_ d src s
  | .reducePair t at_ d src dst => Sys2Proof.Machine.execReducePair t at_ d src dst s
  | .descriptorComplete t at_ status result user intr => Sys2Proof.Machine.execDescriptorComplete t at_ status result user intr s
  | .reducePartial t q ctx child round chunk data => Sys2Proof.Machine.execReducePartial t q ctx child round chunk data s
  | .resultChunk t ctx round chunk data => Sys2Proof.Machine.execResultChunk t ctx round chunk data s
  | .reduceTimeout t ctx => Sys2Proof.Machine.execReduceTimeout t ctx s
  | .reduceAbortMessage t ctx round => Sys2Proof.Machine.execReduceAbortMessage t ctx round s
  | .engFault t e => Sys2Proof.Machine.execEngFault t e s
  | .sendDoorbell t part m k tail descs => Sys2Proof.Machine.execSendDoorbell t part m k tail descs s
  | .receiveDoorbell t part m k tail bufs => Sys2Proof.Machine.execReceiveDoorbell t part m k tail bufs s
  | .datagramReceive t part d => Sys2Proof.Machine.execDatagramReceive t part d s
  | .busMasterEnableClear t part f => Sys2Proof.Machine.execBusMasterEnableClear t part f s
  | .functionLevelReset t part f => Sys2Proof.Machine.execFunctionLevelReset t part f s
  | .flrComplete t part f => Sys2Proof.Machine.execFlrComplete t part f s
  | .functionCompletionTimeout t part f tag => Sys2Proof.Machine.execFunctionCompletionTimeout t part f tag s
  | .errorSignal t e => Sys2Proof.Machine.execErrorSignal t e s
  | .pathBroken t u => Sys2Proof.Machine.execPathBroken t u s
  | .f1Interval t => Sys2Proof.Machine.execF1Interval t s
  | .violationInterval t => Sys2Proof.Machine.execViolationInterval t s
  | .faultWindowExpire t seq => Sys2Proof.Machine.execFaultWindowExpire t seq s
  | .f3WindowExpire t => Sys2Proof.Machine.execF3WindowExpire t s
  | .faultAck t who seq => Sys2Proof.Machine.execFaultAck t who seq s
  | .partRelease t who part => Sys2Proof.Machine.execPartRelease t who part s
  | .partContain t who part => Sys2Proof.Machine.execPartContain t who part s
  | .containmentMessage t q m => Sys2Proof.Machine.execContainmentMessage t q m s
  | .injectArm t who slot value => Sys2Proof.Machine.execInjectArm t who slot value s
  | .injectDisarm t who slot => Sys2Proof.Machine.execInjectDisarm t who slot s
  | .bypass t => Sys2Proof.Machine.execBypass t s
  | .idcode t => Sys2Proof.Machine.execIdcode t s
  | .samplePreload t contacts => Sys2Proof.Machine.execSamplePreload t contacts s
  | .extest t => Sys2Proof.Machine.execExtest t s
  | .dbgAccess t => Sys2Proof.Machine.execDbgAccess t s
  | .dbgCmdUpdate t cmd data => Sys2Proof.Machine.execDbgCmdUpdate t cmd data s
  | .read t r index subFirst subLast => Sys2Proof.Machine.execRead t r index subFirst subLast s
  | .write t r index sub type value len => Sys2Proof.Machine.execWrite t r index sub type value len s
  | .openSet t r partition part joint => Sys2Proof.Machine.execOpenSet t r partition part joint s
  | .stage t r setId stageNo index sub type value len => Sys2Proof.Machine.execStage t r setId stageNo index sub type value len s
  | .commit t r setId commitNo ft digest sigA sigB => Sys2Proof.Machine.execCommit t r setId commitNo ft digest sigA sigB s
  | .setValidated t setId => Sys2Proof.Machine.execSetValidated t setId s
  | .cancelSet t r setId commitNo sigA sigB => Sys2Proof.Machine.execCancelSet t r setId commitNo sigA sigB s
  | .setStatus t r setId => Sys2Proof.Machine.execSetStatus t r setId s
  | .setExpire t setId => Sys2Proof.Machine.execSetExpire t setId s
  | .openSession t r ephemeral => Sys2Proof.Machine.execOpenSession t r ephemeral s
  | .closeSession t r => Sys2Proof.Machine.execCloseSession t r s
  | .sessionIdleClose t session => Sys2Proof.Machine.execSessionIdleClose t session s
  | .subscribe t r => Sys2Proof.Machine.execSubscribe t r s
  | .unsubscribe t r => Sys2Proof.Machine.execUnsubscribe t r s
  | .journalRead t r first count => Sys2Proof.Machine.execJournalRead t r first count s
  | .mbDoorbell t part len => Sys2Proof.Machine.execMbDoorbell t part len s
  | .mbReadyClear t part => Sys2Proof.Machine.execMbReadyClear t part s
  | .bocelGatewayForward t r op => Sys2Proof.Machine.execBocelGatewayForward t r op s
  | .bocelInbandResponse t reqId source message => Sys2Proof.Machine.execBocelInbandResponse t reqId source message s
  | .bocelInbandTimeout t reqId => Sys2Proof.Machine.execBocelInbandTimeout t reqId s
  | .bocelRetryDelay t reqId => Sys2Proof.Machine.execBocelRetryDelay t reqId s
  | .setEndpointId t eid => Sys2Proof.Machine.execSetEndpointId t eid s
  | .getEndpointId t => Sys2Proof.Machine.execGetEndpointId t s
  | .getMctpVersionSupport t => Sys2Proof.Machine.execGetMctpVersionSupport t s
  | .getMessageTypeSupport t => Sys2Proof.Machine.execGetMessageTypeSupport t s
  | .icmpEcho t data => Sys2Proof.Machine.execIcmpEcho t data s
  | .neighbourDiscovery t target => Sys2Proof.Machine.execNeighbourDiscovery t target s
  | .getVersion t part => Sys2Proof.Machine.execGetVersion t part s
  | .getCapabilities t part => Sys2Proof.Machine.execGetCapabilities t part s
  | .negotiateAlgorithms t part => Sys2Proof.Machine.execNegotiateAlgorithms t part s
  | .getDigests t part => Sys2Proof.Machine.execGetDigests t part s
  | .getCertificate t part slot => Sys2Proof.Machine.execGetCertificate t part slot s
  | .challenge t part nonce => Sys2Proof.Machine.execChallenge t part nonce s
  | .getMeasurements t part nonce => Sys2Proof.Machine.execGetMeasurements t part nonce s
  | .keyExchange t part id => Sys2Proof.Machine.execKeyExchange t part id s
  | .finish t part id macOk => Sys2Proof.Machine.execFinish t part id macOk s
  | .heartbeat t part id => Sys2Proof.Machine.execHeartbeat t part id s
  | .keyUpdate t part id => Sys2Proof.Machine.execKeyUpdate t part id s
  | .endSession t part id => Sys2Proof.Machine.execEndSession t part id s
  | .ideKmRequest t part session stream start => Sys2Proof.Machine.execIdeKmRequest t part session stream start s
  | .ideEstablishTimeout t g => Sys2Proof.Machine.execIdeEstablishTimeout t g s
  | .ideStreamInsecure t g => Sys2Proof.Machine.execIdeStreamInsecure t g s
  | .ideCheckFail t g => Sys2Proof.Machine.execIdeCheckFail t g s
  | .tamper t => Sys2Proof.Machine.execTamper t s
  | .testUnlock t r nonce => Sys2Proof.Machine.execTestUnlock t r nonce s
  | .testHoldTimeout t => Sys2Proof.Machine.execTestHoldTimeout t s
  | .testStrapRelease t => Sys2Proof.Machine.execTestStrapRelease t s
  | .recordWhole t flash0 flash1 => Sys2Proof.Machine.execRecordWhole t flash0 flash1 s
  | .compactNow t who => Sys2Proof.Machine.execCompactNow t who s
  | .compactionSnapEnd t => Sys2Proof.Machine.execCompactionSnapEnd t s
  | .ringEraseDone t flash0 flash1 => Sys2Proof.Machine.execRingEraseDone t flash0 flash1 s
  | .graftChunk t who offset data => Sys2Proof.Machine.execGraftChunk t who offset data s
  | .graftApply t who => Sys2Proof.Machine.execGraftApply t who s
  | .graftApplyDone t => Sys2Proof.Machine.execGraftApplyDone t s
  | .graftActFt t who ft => Sys2Proof.Machine.execGraftActFt t who ft s
  | .firmwareActivation t => Sys2Proof.Machine.execFirmwareActivation t s
  | .bootStart t reads => Sys2Proof.Machine.execBootStart t reads s
  | .startOk t => Sys2Proof.Machine.execStartOk t s
  | .startWatchdog t => Sys2Proof.Machine.execStartWatchdog t s
  | .intakeInputRise t millivolts => Sys2Proof.Machine.execIntakeInputRise t millivolts s
  | .intakeEnAssert t => Sys2Proof.Machine.execIntakeEnAssert t s
  | .intakeEnDeassert t => Sys2Proof.Machine.execIntakeEnDeassert t s
  | .precheckEnd t outPercent => Sys2Proof.Machine.execPrecheckEnd t outPercent s
  | .gateFullyOn t => Sys2Proof.Machine.execGateFullyOn t s
  | .fastTrip t pathA pathB => Sys2Proof.Machine.execFastTrip t pathA pathB s
  | .rampTimeout t => Sys2Proof.Machine.execRampTimeout t s
  | .intakeOvercurrent t pathA pathB => Sys2Proof.Machine.execIntakeOvercurrent t pathA pathB s
  | .curveTrip t k => Sys2Proof.Machine.execCurveTrip t k s
  | .tripRestart t => Sys2Proof.Machine.execTripRestart t s
  | .fetDamageDetect t => Sys2Proof.Machine.execFetDamageDetect t s
  | .inputRemoved t => Sys2Proof.Machine.execInputRemoved t s
  | .inputLoss t inputBelow => Sys2Proof.Machine.execInputLoss t inputBelow s
  | .inputLossWarningEnd t => Sys2Proof.Machine.execInputLossWarningEnd t s
  | .storeSupplyLimit t millivolts milliwatts => Sys2Proof.Machine.execStoreSupplyLimit t millivolts milliwatts s
  | .governorStepDown t millivolts draw => Sys2Proof.Machine.execGovernorStepDown t millivolts draw s
  | .intakeDip t ns millivolts milliwatts after => Sys2Proof.Machine.execIntakeDip t ns millivolts milliwatts after s
  | .intakeSenseDiverge t pathA pathB => Sys2Proof.Machine.execIntakeSenseDiverge t pathA pathB s
  | .intakePeakClear t who => Sys2Proof.Machine.execIntakePeakClear t who s
  | .slotDemandChange t p => Sys2Proof.Machine.execSlotDemandChange t p s
  | .slotClear t who c => Sys2Proof.Machine.execSlotClear t who c s
  | .slotFastTrip t c milliamps => Sys2Proof.Machine.execSlotFastTrip t c milliamps s
  | .slotCurveTrip t c k millivolts milliamps dur => Sys2Proof.Machine.execSlotCurveTrip t c k millivolts milliamps dur s
  | .slotRampFail t c => Sys2Proof.Machine.execSlotRampFail t c s
  | .slotFetFailed t c => Sys2Proof.Machine.execSlotFetFailed t c s
  | .slotPg t p millivolts => Sys2Proof.Machine.execSlotPg t p millivolts s
  | .perstRelease t p => Sys2Proof.Machine.execPerstRelease t p s
  | .limbGate t who l => Sys2Proof.Machine.execLimbGate t who l s
  | .limbPowerOn t who l => Sys2Proof.Machine.execLimbPowerOn t who l s
  | .limbRunning t l => Sys2Proof.Machine.execLimbRunning t l s
  | .partStartActive t part => Sys2Proof.Machine.execPartStartActive t part s
  | .thermHigh t die => Sys2Proof.Machine.execThermHigh t die s
  | .thermTrip t die => Sys2Proof.Machine.execThermTrip t die s
  | .thermCool t => Sys2Proof.Machine.execThermCool t s
  | .reftLost t stem => Sys2Proof.Machine.execReftLost t stem s
  | .reftRestored t stem => Sys2Proof.Machine.execReftRestored t stem s
  | .ref25Lost t => Sys2Proof.Machine.execRef25Lost t s
  | .ref25Good t => Sys2Proof.Machine.execRef25Good t s
  | .resetNAssert t => Sys2Proof.Machine.execResetNAssert t s
  | .cntEventSelect t who n value => Sys2Proof.Machine.execCntEventSelect t who n value s
  | .cntClear t who n => Sys2Proof.Machine.execCntClear t who n s
  | .cntOvfClear t who n => Sys2Proof.Machine.execCntOvfClear t who n s
  | .cntFreezeSet t who mask => Sys2Proof.Machine.execCntFreezeSet t who mask s
  | .cntFreezeResume t who mask => Sys2Proof.Machine.execCntFreezeResume t who mask s
  | .snapRequest t who ft snapId grove => Sys2Proof.Machine.execSnapRequest t who ft snapId grove s
  | .snapshotMessage t q m => Sys2Proof.Machine.execSnapshotMessage t q m s
  | .snapshotFire t slot => Sys2Proof.Machine.execSnapshotFire t slot s
  | .snapComplete t => Sys2Proof.Machine.execSnapComplete t s
  | .resetNRelease t strap slew0 slew1 => Sys2Proof.Machine.execResetNRelease t strap slew0 slew1 s
  | .timeRef10mLost t => Sys2Proof.Machine.execTimeRef10mLost t s
  | .storeExhausted t => Sys2Proof.Machine.execStoreExhausted t s
  | .l1PartnerExit t p => Sys2Proof.Machine.execL1PartnerExit t p s
  | .marginCommand t lane m => Sys2Proof.Machine.execMarginCommand t lane m s
  | .indicatorBlink t p power => Sys2Proof.Machine.execIndicatorBlink t p power s
  | .remoteSlotState t sender gpart vdp m => Sys2Proof.Machine.execRemoteSlotState t sender gpart vdp m s

end Sys2Proof.Machine
end

