-- ==== Sys2Proof/Safety.lean ====
section
/-! DEFINITION. What holds of every state that a run should pass through: the sparse stores keep
their canonical forms and the crown its units. -/

namespace Sys2Proof

/-- What holds of every state of the crown: the dictionary, the values that the journal's snapshot holds and fabric memory keep their
canonical forms, every counter stands once, and the crown keeps its 16 trunks, 144 host ports with 576 lanes, 64 partitions and 160
module twigs. -/
structure Machine.State.Inv (s : Machine.State) : Prop where
  dict : Machine.dictWf s.dict = true
  base : Machine.dictWf s.journal.base = true
  mem : s.mem.wf = true
  counters : Machine.sortedKeys s.counters.values = true
  trunks : s.trunks.length = 16
  hports : s.hports.length = 144
  lanes : s.lanes.length = 576
  parts : s.parts.length = 64
  shared : s.shared.length = 160

/-- The command answers a next state, and that state is `u` with the queue as it was: `u` is what the rules make of the state at the
command's instant. -/
def Machine.After (c : Instr) (s u : Machine.State) : Prop := Machine.exec c s = .next { u with pending := s.pending }

/-- The command answers a next state: `u`, then what the collectors do within the command: storms, limits of violations, F3 and F4
(R372, R384, R385, R390). Where nothing of that is due, `u` itself. -/
def Machine.AfterAll (c : Instr) (s u : Machine.State) : Prop := Machine.exec c s = .next { u.settle with pending := s.pending }

/-- A request that is served as it comes, by a claimed crown in ordinary operation: its transport takes it, it is for this crown, it
is well formed, and nothing is being served or waits (R410). -/
def Machine.State.Heard (s : Machine.State) (r : Req) : Prop :=
  s.takes r.via = true ∧ (r.target = 0xFFFF ∨ r.target = s.crownId) ∧ r.wellFormed = true ∧ s.fabric.bridge = [] ∧ s.serving = false ∧
    s.bocel.queue = [] ∧ s.claimed = true ∧ s.sec.hold = none ∧ s.journal.recovery = false

/-- A step that goes on: neither a fault nor a refusal. -/
def Safe (s : Machine.State) : Prop := ∃ s', Machine.step s = .next s'

end Sys2Proof
end

