-- ==== Sys2Proof/Certificates/Slice0/Obligations.lean ====
section
/-! DEFINITION. The statements for the provers. `After c s v` says that the command c answers the next state v from s; AfterAll the same
with what the collectors do within the command. In every statement u is s at the command's instant. -/

open Sys2Proof Sys2Proof.Machine

/-- For every command c and state s with c at the front of its queue, a step of s answers what exec answers for c on s with the rest of the
queue. (opcode_table.json) -/
def Obligations.StepRunsTheFrontCommand : Prop :=
  ∀ (c : Instr) (s : State) (rest : List Instr), s.pending = c :: rest → step s = exec c { s with pending := rest }

/-- With no command waiting a step answers the state as it is; this is the model's choice (log entry 1), the manual rules nothing about it.
The table gives no row any bits, so decodeTableWord answers none for every word, and withFetchWord leaves the state as it is.
(opcode_table.json) -/
def Obligations.EmptyQueueIdles : Prop :=
  (∀ (s : State), s.pending = [] → step s = .next s) ∧
    (∀ (s : State) (nbits w : Nat), decodeTableWord nbits w = none ∧ s.withFetchWord nbits w = s)

/-- Whatever the command and the state, exec answers a next state, and its queue of waiting commands is the one before. (opcode_table.json) -/
def Obligations.EveryCommandAnswersNext : Prop :=
  ∀ (c : Instr) (s : State), ∃ u, exec c s = .next u ∧ u.pending = s.pending

/-- From every state, a run of exactly as many steps as commands are waiting meets no fault and no refusal and ends with an empty queue. That
the queue is first in, first out and that nothing is added to it is the model's frame (log entry 1). (opcode_table.json) -/
def Obligations.QueueDrains : Prop :=
  ∀ (s : State), ∃ u, core.run s.pending.length s = .next u ∧ u.pending = []

/-- The state after reset has its sparse stores in canonical form and the crown's units all there. (12_dictionary.md R404; 09_fabric_memory.md
R323; 16_counters.md R523) -/
def Obligations.ResetKeepsInvariant : Prop :=
  State.reset.Inv

/-- After reset every dictionary entry reads its default, so CROWN_ID is 0xFFFF and the crown is unclaimed; fabric time is FREE; no partition
is in use; no limb, partition or twig is contained and no fault state holds; every counter reads zero; nothing is queued in the switch
core, in the service queue, in the activation queue or in fabric memory. (02_fabric_time.md R48; 01_hierarchy.md R26; 06_partitions.md
R198; 13_roles_and_security.md R443; 11_faults_and_containment.md R384) -/
def Obligations.ResetValues : Prop :=
  (∀ key, State.reset.get key = defaultOf key) ∧ State.reset.get Key.CROWN_ID = 0xFFFF ∧ State.reset.claimed = false ∧ State.reset.time.mode = .free ∧
    (∀ p, p < 64 → (State.reset.part p).state = .unused) ∧ State.reset.hier.contained = [] ∧ State.reset.faults.crown = .normal ∧
    State.reset.faults.history = [] ∧ State.reset.counters.values = [] ∧ State.reset.core.queues = [] ∧ State.reset.bocel.queue = [] ∧
    State.reset.mem.cells = [] ∧ State.reset.pending = []

/-- From every state whose dictionary, journal snapshot, fabric memory and counters are in canonical form and whose crown has its 16 trunks,
144 host ports, 576 lanes, 64 partitions and 160 module twigs, a step that goes on ends in such a state, whatever command it runs.
(12_dictionary.md R404; 09_fabric_memory.md R316 R323; 14_journal_and_update.md R477; 16_counters.md R523) -/
def Obligations.StepKeepsInvariant : Prop :=
  ∀ (s u : State), s.Inv → step s = .next u → u.Inv

/-- From every state that meets the invariant, a step that goes on ends at an instant of the local count not before the one it began at, even
if a command carries an earlier instant, and over a reset of the module. (02_fabric_time.md R51) -/
def Obligations.LocalCountNeverRunsBack : Prop :=
  ∀ (s u : State), s.Inv → step s = .next u → s.now ≤ u.now

/-- From every state that meets the invariant and is in test mode, every command other than the removal of the input, which R553 makes the
power cycle, ends in test mode: no reset, write, change set, zeroization or loss of power leaves it. The removal of the input itself
leaves it exactly where TEST_STRAP was last sampled released (the sampling is the model's, log entry 161). (13_roles_and_security.md R464;
15_power_and_startup.md R553) -/
def Obligations.TestModeIsLeftOnlyByPowerCycle : Prop :=
  (∀ (c : Instr) (s u : State), s.Inv → s.sec.testMode = true → (∀ t, c ≠ .inputRemoved t) → exec c s = .next u → u.sec.testMode = true) ∧
    (∀ (t : Nat) (s u : State), s.sec.testMode = true → exec (.inputRemoved t) s = .next u → u.sec.testMode = s.sec.strap)

/-- From every state that meets the invariant and has the F4 latch, every command other than the removal of the input ends with the latch
held. While it holds, a warm reset changes nothing, PART_RELEASE changes nothing, and a FAULT_ACK that names an F4 entry changes nothing.
The removal of the input clears it. (11_faults_and_containment.md R385; 15_power_and_startup.md R553) -/
def Obligations.LatchHoldsUntilInputRemoved : Prop :=
  (∀ (c : Instr) (s u : State), s.Inv → s.faults.crown = .f4Latched → (∀ t, c ≠ .inputRemoved t) → exec c s = .next u → u.faults.crown = .f4Latched) ∧
    (∀ (t : Nat) (s u : State), exec (.inputRemoved t) s = .next u → u.faults.crown = .normal) ∧
    (∀ (s : State) (k : Nat), s.faults.crown = .f4Latched → s.warmReset k = s) ∧
    (∀ (s : State) (who : Role) (p : Nat), s.faults.crown = .f4Latched → (s.release who p).state s = s) ∧
    (∀ (s : State) (who : Role) (seq : BitVec 15) (h : HistEntry), s.histEntry seq = some h → h.cls = 4 → (s.ackFault who seq).state s = s)

/-- In every state that meets the invariant, storing a value at a key makes that key read it, leaves what every other key reads, and keeps the
canonical form; two dictionaries in canonical form that read alike everywhere are equal. (12_dictionary.md R404 R406) -/
def Obligations.DictionaryReadsBack : Prop :=
  (∀ (s : State) (k v j : Nat), s.Inv → (s.set k v).get j = (if j = k then v else s.get j) ∧ dictWf (s.set k v).dict = true) ∧
    (∀ (s u : State), s.Inv → u.Inv → (∀ k, s.get k = u.get k) → s.dict = u.dict)

/-- In fabric memory in canonical form, writing bytes from an offset on makes those offsets read them, leaves what every other offset reads,
and keeps the form; two memories in that form whose bytes and whose lines' owners read alike are equal in both. (09_fabric_memory.md R316
R323) -/
def Obligations.MemoryReadsBack : Prop :=
  (∀ (m : Memory) (a c : Nat) (bs : List Byte), m.wf = true →
      cellGet (cellsPut m.cells a bs) c = (if a ≤ c ∧ c < a + bs.length then bs.getD (c - a) 0 else cellGet m.cells c) ∧
      Memory.wf { m with cells := cellsPut m.cells a bs } = true) ∧
    (∀ (m n : Memory), m.wf = true → n.wf = true → (∀ a, cellGet m.cells a = cellGet n.cells a) → m.cells = n.cells) ∧
    (∀ (m n : Memory), m.wf = true → n.wf = true →
      (∀ l, (sortedGet m.owners l).getD Owner.module = (sortedGet n.owners l).getD Owner.module) → m.owners = n.owners)

/-- A line that an owner has written whole reads back to that owner in every read that its check passes; to any other owner it reads zeros,
passed or not; every other line keeps its owner and, in reads that pass, its bytes. After an owner's write of part of a line whose read
passed, that owner reads in a read that passes the written bytes, and around them the old bytes where the line was its own and zeros where
it was another's. (09_fabric_memory.md R315 R316) -/
def Obligations.LinesBelongToTheirOwner : Prop :=
  (∀ (s w : State) (o : Owner) (n retries : Nat) (data : List Byte) (ok : Bool) (rd : LineRead), s.Inv → data.length = 256 → w = s.writeLine o n data retries ok →
      w.passes (w.plaOf n) rd.first = true ∨ w.passes (w.plaOf n) rd.second = true → (w.readLine o (256 * n) 256 rd).2.1 = data) ∧
    (∀ (s : State) (o p : Owner) (n retries : Nat) (data : List Byte) (ok : Bool) (rd : LineRead), s.Inv → data.length = 256 → p ≠ o →
      ((s.writeLine o n data retries ok).readLine p (256 * n) 256 rd).2.1 = List.replicate 256 0) ∧
    (∀ (s w : State) (o p : Owner) (n k retries : Nat) (data : List Byte) (ok : Bool) (rd : LineRead), s.Inv → data.length = 256 → k ≠ n → w = s.writeLine o n data retries ok →
      s.passes (s.plaOf k) rd.first = true → w.passes (w.plaOf k) rd.first = true →
      w.lineOwner k = s.lineOwner k ∧ (w.readLine p (256 * k) 256 rd).2.1 = (s.readLine p (256 * k) 256 rd).2.1) ∧
    (∀ (s w : State) (o : Owner) (a : Nat) (data : List Byte) (rd rd' : LineRead), s.Inv → a % 256 + data.length ≤ 256 → 1 ≤ data.length → w = (s.writePart o a data rd).1 →
      s.passes (s.plaOf (a / 256)) rd.first = true → w.passes (w.plaOf (a / 256)) rd'.first = true →
      (w.readLine o (256 * (a / 256)) 256 rd').2.1 =
        (List.range 256).map (fun i =>
          if a % 256 ≤ i ∧ i < a % 256 + data.length then data.getD (i - a % 256) 0
          else if s.lineOwner (a / 256) = o then cellGet s.mem.cells (256 * (a / 256) + i) else 0))

/-- When the key of a grove partition is rolled, a line that stood under its old epoch reads as zeros to every owner whose epoch is the
current one, the same grove partition included, also where the epoch goes from 0xFFF to 0x001; and no byte of the pool is written for it.
(09_fabric_memory.md R315 R320 R322) -/
def Obligations.EpochErasesLines : Prop :=
  ∀ (s : State) (gp : Nat) (o : Owner) (a len : Nat) (rd : LineRead), gp < 4096 → s.lineOwner (a / 256) = { gp := BitVec.ofNat 12 gp, epoch := s.epochOf gp } →
    o.epoch = (s.rollKey gp).epochOf o.gp.toNat →
    ((s.rollKey gp).readLine o a len rd).2.1 = List.replicate len 0 ∧ (s.rollKey gp).mem.cells = s.mem.cells ∧ (s.rollKey gp).mem.owners = s.mem.owners

/-- Over the nine ASCII bytes 123456789 the check is 0x62EC_59E3_F1A4_F00A; two different sequences never yield the same check for the same
bytes; and two byte strings that differ in a single byte never yield the same check. (04_trunk_links.md R124) -/
def Obligations.CheckTellsSequences : Prop :=
  crc64 ("123456789".toList.map (fun c => BitVec.ofNat 8 c.toNat)) = 0x62EC59E3F1A4F00A#64 ∧
    (∀ (a b : Seq16) (fu : Fu), fuCheck a fu = fuCheck b fu → a = b) ∧
    (∀ (l r : List Byte) (x y : Byte), crc64 (l ++ x :: r) = crc64 (l ++ y :: r) → x = y)

/-- A WRITE to any entry of PART_WEIGHT, by whatever caller that may write, of 0 or of a value above 1,024 is answered with a refusal; a value
from 1 to 1,024 is a legal one. (R237) -/
def Obligations.WeightsRefused : Prop :=
  (∀ (s u : State) (t : Nat) (r : Req) (c : Caller) (i n v : Nat), u = s.tick t → u.Heard r → (u.sigCounted r).authenticate r = .known c →
      c.may Op.write i = true → 0x6600 ≤ i → i ≤ 0x6606 → n < 64 → v < 65536 → (v = 0 ∨ 1024 < v) →
      ∃ status, (status = Status.accessDenied ∨ status = Status.valueRefused) ∧
        AfterAll (.write t r i n 3 v 2) s (((u.sigCounted r).touchSession r).refuseReq r c Op.write status 0 i n)) ∧
    (∀ (i n v : Nat) (e : Entry), 0x6600 ≤ i → i ≤ 0x6606 → n < 64 → entryAt i n = some e → 1 ≤ v → v ≤ 1024 → legalValue e (256 * i + n) v 2 = true)

/-- A WRITE of a value above 0x04 to BOUGH_WIDTH of any bough, by whatever caller that may write, is answered with a refusal, and the entry
reads what it read. (R16) -/
def Obligations.BoughWidthRefused : Prop :=
  ∀ (s u : State) (t : Nat) (r : Req) (c : Caller) (n v : Nat), u = s.tick t → u.Heard r → (u.sigCounted r).authenticate r = .known c →
    c.may Op.write 0x3100 = true → n < 40 → 4 < v → v < 256 →
    ∃ status, (status = Status.accessDenied ∨ status = Status.valueRefused) ∧
      AfterAll (.write t r 0x3100 n 2 v 1) s (((u.sigCounted r).touchSession r).refuseReq r c Op.write status 0 0x3100 n) ∧
      (((u.sigCounted r).touchSession r).refuseReq r c Op.write status 0 0x3100 n).get (Key.BOUGH_WIDTH + n) = u.get (Key.BOUGH_WIDTH + n)

/-- A READ that names an index from 0xF000 to 0xFFFF is answered NO_ENTRY whoever calls; so are a WRITE by whoever may write, and a STAGE by
the opener into its open set. Whoever calls, a maker included, no entry changes by serving it. (R413) -/
def Obligations.MakerRangeHidden : Prop :=
  (∀ (s u : State) (t : Nat) (r : Req) (c : Caller) (i : Nat), u = s.tick t → u.Heard r → (u.sigCounted r).authenticate r = .known c → 0xF000 ≤ i → i < 65536 →
      (∀ a b, a ≤ b → b < 256 → AfterAll (.read t r i a b) s (((u.sigCounted r).touchSession r).refuseReq r c Op.read Status.noEntry 0 i a)) ∧
      (∀ n ty v len, c.may Op.write i = true → n < 256 → formOk ty v len = true →
        AfterAll (.write t r i n ty v len) s (((u.sigCounted r).touchSession r).refuseReq r c Op.write Status.noEntry 0 i n))) ∧
    (∀ (s : State) (r : Req) (c : Caller) (i : Nat), 0xF000 ≤ i →
      (∀ id n ty v len x, s.setOf id = some x → x.state = .open_ → x.opener = c.keyId →
        s.serveStage r c id x.stages.length i n ty v len = (s.touchSet id).refuseReq r c Op.stage Status.noEntry 0 i n) ∧
      (∀ a b j, (s.serveRead r c i a b).get j = s.get j) ∧ (∀ n ty v len j, (s.serveWrite r c i n ty v len).get j = s.get j) ∧
      (∀ id k n ty v len j, (s.serveStage r c id k i n ty v len).get j = s.get j))

/-- A failing lane of a die-to-die link is replaced by a spare with an F1 event, or without one becomes a die fault (heartwood link) or an F3
event (stem-to-stem link); an installer may reset any unit below the crown, an operator a twig its partition holds whole; a completed
bough reset takes the bough's new width and clock mode. Completes (exec answers the next state that the clause gives): dieLinkLaneFail,
twigReset, boughReset, limbReset, dieReset, resetComplete. (01_hierarchy.md R7 R9 R28 R29 R31; 03_host_ports.md R79) -/
def Obligations.HierarchyResults : Prop :=
  ∀ (s u : State) (t : Nat), u = s.tick t →
    (∀ k, k < 6 → 0 < u.hier.stemLinkSpares.getD k 0 →
      AfterAll (.dieLinkLaneFail t (.stemStem k)) s
        ((u.modHier (fun h => { h with stemLinkSpares := h.stemLinkSpares.modify k (· - 1) })).noteFree (srcStem (stemPairLow k) 0) 1)) ∧
    (∀ k, k < 6 → u.hier.stemLinkSpares.getD k 0 = 0 →
      AfterAll (.dieLinkLaneFail t (.stemStem k)) s
        (u.note { Ev.plain (srcStem (stemPairLow k) 0) k 3 with level := 4, unit := some .crown, action := 7 })) ∧
    (∀ d, d < 4 → 0 < u.hier.heartLinkSpares.getD d 0 →
      AfterAll (.dieLinkLaneFail t (.stemHeartwood d)) s
        ((u.modHier (fun h => { h with heartLinkSpares := h.heartLinkSpares.modify d (· - 1) })).noteFree (srcStem d 0) 1)) ∧
    (∀ d, d < 4 → u.hier.heartLinkSpares.getD d 0 = 0 →
      AfterAll (.dieLinkLaneFail t (.stemHeartwood d)) s
        ((u.contain (.die d)).note { Ev.plain (srcStem d 0) 4 2 with action := 4 })) ∧
    (∀ k g, g < 160 → u.resetsBarred = false → AfterAll (.twigReset t (.installer k) g) s (u.startReset (.twig g))) ∧
    (∀ p g, g < 160 → p < 64 → u.holdsWhole p g = true → u.resetsBarred = false →
      AfterAll (.twigReset t (.operator p) g) s (u.startReset (.twig g))) ∧
    (∀ p g, u.holdsWhole p g = false → AfterAll (.twigReset t (.operator p) g) s u) ∧
    (∀ k b, b < 40 → u.resetsBarred = false → AfterAll (.boughReset t (.installer k) b) s (u.startReset (.bough b))) ∧
    (∀ k l, l < 8 → u.resetsBarred = false → AfterAll (.limbReset t (.installer k) l) s (u.startReset (.limb l))) ∧
    (∀ k d, d < 4 → u.resetsBarred = false → AfterAll (.dieReset t (.installer k) d) s (u.startReset (.die d))) ∧
    (∀ b, b < 40 → isTBough b = false → UnitId.bough b ∈ u.hier.resets →
      ∃ v, After (.resetComplete t (.bough b)) s v ∧ v.hier.resets = u.hier.resets.filter (fun w => w ≠ UnitId.bough b) ∧
        v.hier.widthActive = u.hier.widthActive.set b (u.get (Key.BOUGH_WIDTH + b)) ∧
        v.hier.refclkMode = u.hier.refclkMode.set b (u.get (Key.BOUGH_REFCLK + b)) ∧ v.dict = u.dict)

/-- A master announces itself on every trunk in L0; a copy marks its trunk, seeds a crown in FREE; an older copy does nothing; a master lost
for 3 ms brings holdover; an election settled in holdover makes the crown master or makes it follow the lowest key; a LOCKED crown with a
lower key takes office after 10 ms; a crown alone in FREE elects itself, with FT at the cold-start value. Completes (exec answers the next
state that the clause gives): timeAnnounceSend, timeAnnounceReceive, masterLost, electionSettled, takeOffice, selfElect.
(02_fabric_time.md R38 R39 R40 R41 R42 R48 R551) -/
def Obligations.TimeElectionResults : Prop :=
  ∀ (s u : State) (t : Nat), u = s.tick t →
    (u.time.mode = .master →
      After (.timeAnnounceSend t) s ((u.modTime (fun x => { x with annSeq := u.time.annSeq + 1 })).sendControl (fun _ => true)
        (.announce { hops := 0, key := u.ownKey, masterState := 4, seq := u.time.annSeq + 1, ft := u.time.ft, sender := u.crownId % 1024 }))) ∧
    (u.time.mode = .holdover → u.timePriority ≠ 0xFF →
      After (.timeAnnounceSend t) s ((u.modTime (fun x => { x with annSeq := u.time.annSeq + 1 })).sendControl (fun _ => true)
        (.announce { hops := 0, key := u.ownKey, masterState := 3, seq := u.time.annSeq + 1, ft := u.time.ft, sender := u.crownId % 1024 }))) ∧
    (u.time.mode = .holdover → u.timePriority = 0xFF → After (.timeAnnounceSend t) s u) ∧
    (∀ q a x v w, u.trunkUp q = true → u.time.mode = .free → a.masterState = 4 → assocGet u.time.lastSeq (a.key % 1024) = none →
      x = ((u.markHeard q (a.key % 1024) a.hops a.key).modTime (fun x => { x with lastSeq := assocPut x.lastSeq (a.key % 1024) a.seq, heardAny := u.now })).modTime (fun x => { x with mode := .acquiring, ft := a.ft, fresh := true, offset := 0, goodMarkers := 0, fast := false, running := true, heardMaster := u.now }) →
      v = (if u.time.ft < a.ft then x.noteFree 0xBE6 0 else x).follow (a.key % 1024) a.key →
      w = (if v.bestHeld a then v.sendControl (fun r => r ≠ q) (.announce { a with hops := (a.hops + 1) % 256, sender := v.crownId % 1024 }) else v) →
      AfterAll (.timeAnnounceReceive t q a) s (if u.time.ft < w.time.ft then w.runDue 256 else w)) ∧
    (∀ q a l, u.trunkUp q = true → assocGet u.time.lastSeq (a.key % 1024) = some l → newer16 a.seq l = false → l ≠ a.seq →
      AfterAll (.timeAnnounceReceive t q a) s u) ∧
    (∀ q a, u.trunkUp q = true → assocGet u.time.lastSeq (a.key % 1024) = some a.seq →
      AfterAll (.timeAnnounceReceive t q a) s (u.markHeard q (a.key % 1024) a.hops a.key)) ∧
    (u.time.mode = .locked → u.after u.time.heardMaster 3000000 = true → After (.masterLost t) s u.enterHoldover) ∧
    (u.time.mode = .locked → u.after u.time.heardMaster 3000000 = false → After (.masterLost t) s u) ∧
    (u.time.mode = .holdover → u.anyTrunkUp = true → u.after u.time.lowestSince 10000000 = true → u.electable = true →
      u.ownKey ≤ u.time.lowestKey → After (.electionSettled t) s u.becomeMaster) ∧
    (u.time.mode = .holdover → u.anyTrunkUp = true → u.after u.time.lowestSince 10000000 = true → u.time.lowestKey < u.ownKey → u.time.lowestKey < 0x7FFFF →
      After (.electionSettled t) s
        ((u.modTime (fun x => { x with mode := .acquiring, goodMarkers := 0, offset := 0, heardMaster := u.now })).follow
          (u.time.lowestKey % 1024) u.time.lowestKey)) ∧
    (∀ t0, u.time.officeSince = some t0 → u.time.mode = .locked → u.electable = true → u.ownKey < u.time.masterKey → u.after t0 10000000 = true →
      After (.takeOffice t) s ((u.becomeMaster.modTime (fun x => { x with annSeq := u.becomeMaster.time.annSeq + 1 })).sendControl (fun _ => true)
        (.announce ((u.becomeMaster.modTime (fun x => { x with annSeq := u.becomeMaster.time.annSeq + 1 })).ownAnnounce 4 (u.becomeMaster.time.annSeq + 1))))) ∧
    (u.time.mode = .free → u.electable = true → u.after u.time.heardAny 10000000 = true →
      After (.selfElect t) s ((u.modTime (fun x => { x with ft := u.coldFt, running := !u.refOk })).becomeMaster))

/-- A good pulse counts towards a valid reference, a pulse out of place or missing and a lost 10 MHz input make it invalid at once; a valid
marker's stamp plus the trunk's delay as measured becomes the far slot clock and, corrected by TRUNK_ASYMMETRY, on the upstream trunk the
offset that is removed; where no lane's marker is valid nothing else changes, and a comma word missing in two marker periods in a row
retrains the trunk; a lost marker moves the crown to another trunk or into holdover; open mode begins above 1,000 ns of uncertainty and
ends at a ring boundary once locked. Completes (exec answers the next state that the clause gives): timeRefPulse, timeRefPulseMissing,
timeRef10mLost, alignmentMarkerReceive, markerLoss, timeOpenMode, scheduledModeReturn. (02_fabric_time.md R43 R44 R45 R47 R50 R51) -/
def Obligations.TimeReferenceAndMarkers : Prop :=
  ∀ (s u : State) (t : Nat), u = s.tick t →
    (∀ n, u.get Key.TIME_REF_ENABLE ≠ 0 → u.faults.debugInstr ≠ .extest → 999999000 ≤ n → n ≤ 1000001000 → u.time.mode = .free →
      ∃ v, AfterAll (.timeRefPulse t n) s v ∧ v.time.goodPulses = u.time.goodPulses + 1 ∧
        v.time.refValid = (u.time.refValid || decide (3 ≤ u.time.goodPulses + 1)) ∧ v.time.ft = u.time.ft) ∧
    (∀ n, u.get Key.TIME_REF_ENABLE ≠ 0 → u.faults.debugInstr ≠ .extest → (n < 999999000 ∨ 1000001000 < n) →
      AfterAll (.timeRefPulse t n) s (u.modTime (fun x => { x with ref10m := true })).refInvalid) ∧
    (AfterAll (.timeRefPulseMissing t) s u.refInvalid) ∧
    (AfterAll (.timeRef10mLost t) s (u.modTime (fun x => { x with ref10m := false })).refInvalid) ∧
    (∀ q lanes m v, u.trunkUp q = true → commaMissing lanes = false → markerPick lanes = some m → m.checkOk = true → m.timeState = 0 →
      v = u.modTrunk q (fun k => { k with lineRx := { k.lineRx with missRun := 0 } }) →
      AfterAll (.alignmentMarkerReceive t q lanes) s
        (v.modTrunk q (fun k => { k with farStamp := m.ftStamp + k.delayPs / 1000, lastMarker := v.now }))) ∧
    (∀ q lanes m v w, u.trunkUp q = true → commaMissing lanes = false → markerPick lanes = some m → m.checkOk = true → m.timeState ≠ 0 →
      u.time.upstream = some q → u.time.mode = .locked →
      v = (u.modTrunk q (fun k => { k with lineRx := { k.lineRx with missRun := 0 } })).modTrunk q
        (fun k => { k with farStamp := m.ftStamp + k.delayPs / 1000, lastMarker := u.now }) →
      w = (v.modTrunk q (fun k => { k with validAt := u.now })).takeOffset ((u.time.ft : Int) - ((m.ftStamp : Int) + u.oneWayNs q)) →
      AfterAll (.alignmentMarkerReceive t q lanes) s (if u.time.ft < w.time.ft then w.runDue 256 else w)) ∧
    (∀ q lanes, u.trunkUp q = true → commaMissing lanes = false → markerPick lanes = none →
      AfterAll (.alignmentMarkerReceive t q lanes) s (u.modTrunk q (fun k => { k with lineRx := { k.lineRx with missRun := 0 } }))) ∧
    (∀ q lanes, u.trunkUp q = true → commaMissing lanes = true → (u.trunk q).lineRx.missRun = 1 →
      AfterAll (.alignmentMarkerReceive t q lanes) s ((u.modTrunk q (fun k => { k with lineRx := { k.lineRx with missRun := 2 } })).trunkRetrain q false)) ∧
    (∀ q, u.time.upstream = some q → u.time.mode = .locked → u.after (u.trunk q).validAt (4 * markerPeriodNs (u.trunk q).rate) = true →
      After (.markerLoss t) s (u.modTrunk q (fun k => { k with heard := [] })).upstreamLost) ∧
    (u.time.mode = .holdover → 1000 < u.uncertainty → u.time.openMode = false →
      After (.timeOpenMode t) s ((u.modTime (fun x => { x with openMode := true })).noteFree 0xBE5 0)) ∧
    (u.time.openMode = true → u.locked = true → u.time.ft % 8192 = 0 →
      After (.scheduledModeReturn t) s ((u.modTime (fun x => { x with openMode := false })).noteFree 0xBE5 0))

/-- A change set in the activation queue whose turn has come (its FT reached, nothing that goes before it still to fire) and whose records are
whole fires when the crown is locked; when it is not, a joint one is postponed and the sets behind it are validated again, a single-crown
one fires in HOLDOVER at the local estimate and waits in FREE and ACQUIRING. An installer's write of SLOT_SWAP_FT over a valid shadow bank
queues a swap at the first ring boundary at or after it, or moves the one that is queued, and is journaled; over an invalid bank, with the
queue full, or by an operator, it changes nothing. A queued swap whose turn has come exchanges the banks when the crown is locked or in
HOLDOVER and waits otherwise. A pruning set applies at once for FT 0; else it is kept for the boundary that it names, and applied once the
far slot clock has reached it, not before. A trunk's transmit-side step runs in one of the trunk's own pruning slots, inside that slot,
and changes nothing elsewhere; a receive-side step runs in a slot that the far end marks, from 4 ns after its start to 4 ns before its
end, and changes nothing elsewhere. Completes (exec answers the next state that the clause gives): dictionaryChangeFire, slotSwapRequest,
slotSwap, pruneSetReceive, pruneSetApply, trunkTxMaintenanceStep, trunkRxMaintenanceStep. (02_fabric_time.md R54 R55 R63 R64 R552;
04_trunk_links.md R110) -/
def Obligations.ScheduleAndMaintenance : Prop :=
  ∀ (s u : State) (t : Nat), u = s.tick t →
    (∀ n c, (u.act.slots.getD n ActSlot.reset).kind = .change → u.actTurn n = true → u.setInFlight (u.act.slots.getD n ActSlot.reset).ref = false →
      u.setOf (u.act.slots.getD n ActSlot.reset).ref = some c → u.locked = true →
      AfterAll (.dictionaryChangeFire t n) s ((u.markFired n).fireSet c)) ∧
    (∀ n c, (u.act.slots.getD n ActSlot.reset).kind = .change → u.actTurn n = true → u.setInFlight (u.act.slots.getD n ActSlot.reset).ref = false →
      u.setOf (u.act.slots.getD n ActSlot.reset).ref = some c → u.locked = false → (u.act.slots.getD n ActSlot.reset).joint = true →
      AfterAll (.dictionaryChangeFire t n) s ((((u.postpone n).jSetState c .postponed).modSet c.id (fun x =>
        if x.state = .sealed then { x with prior := .postponed } else { x with state := .postponed })).revalidateAfter c.order)) ∧
    (∀ n c, (u.act.slots.getD n ActSlot.reset).kind = .change → u.actTurn n = true → u.setInFlight (u.act.slots.getD n ActSlot.reset).ref = false →
      u.setOf (u.act.slots.getD n ActSlot.reset).ref = some c → u.time.mode = .holdover → (u.act.slots.getD n ActSlot.reset).joint = false →
      AfterAll (.dictionaryChangeFire t n) s ((u.markFired n).fireSet c)) ∧
    (∀ n, (u.act.slots.getD n ActSlot.reset).kind = .change → u.time.mode = .free ∨ u.time.mode = .acquiring → (u.act.slots.getD n ActSlot.reset).joint = false →
      AfterAll (.dictionaryChangeFire t n) s u) ∧
    (∀ k ft v, u.slotBankFault = none → u.actFind .swap 0 = none → u.actPut (ceilDiv ft 8192 * 8192) .swap false 0 0xFFFF = some v →
      After (.slotSwapRequest t (.installer k) ft) s ((v.set Key.SLOT_SWAP_FT ft).jAppend (.write 0x6830 0 (u.get Key.SLOT_SWAP_FT) ft 0))) ∧
    (∀ k ft n, u.slotBankFault = none → u.actFind .swap 0 = some n →
      After (.slotSwapRequest t (.installer k) ft) s
        (((u.modAct (fun x => { x with slots := x.slots.modify n (fun a => { a with ft := ceilDiv ft 8192 * 8192 }) })).set Key.SLOT_SWAP_FT ft).jAppend
          (.write 0x6830 0 (u.get Key.SLOT_SWAP_FT) ft 0))) ∧
    (∀ k ft d, u.slotBankFault = some d → After (.slotSwapRequest t (.installer k) ft) s u) ∧
    (∀ k ft, u.slotBankFault = none → u.actFind .swap 0 = none → u.actPut (ceilDiv ft 8192 * 8192) .swap false 0 0xFFFF = none →
      After (.slotSwapRequest t (.installer k) ft) s u) ∧
    (∀ p ft, After (.slotSwapRequest t (.operator p) ft) s u) ∧
    (∀ n, u.actFind .swap 0 = some n → u.actTurn n = true → u.locked = true → After (.slotSwap t) s (u.markFired n).swapNow) ∧
    (∀ n, u.actFind .swap 0 = some n → u.actTurn n = true → u.time.mode = .holdover → After (.slotSwap t) s (u.markFired n).swapNow) ∧
    (u.time.mode = .free ∨ u.time.mode = .acquiring → After (.slotSwap t) s u) ∧
    (∀ q number prune, u.trunkUp q = true →
      After (.pruneSetReceive t q number 0 prune) s (u.modTrunk q (fun k => { k with farPrune := prune, nextPrune := none }))) ∧
    (∀ q number ft prune, u.trunkUp q = true → ft ≠ 0 →
      After (.pruneSetReceive t q number ft prune) s (u.modTrunk q (fun k => { k with nextPrune := some (ft, prune) }))) ∧
    (∀ q ft prune, (u.trunk q).nextPrune = some (ft, prune) → ft ≤ u.farClock q →
      After (.pruneSetApply t q) s (u.modTrunk q (fun k => { k with farPrune := prune, nextPrune := none }))) ∧
    (∀ q ft prune, (u.trunk q).nextPrune = some (ft, prune) → u.farClock q < ft → After (.pruneSetApply t q) s u) ∧
    (∀ q dur, u.trunkUp q = true → (u.pruneSet q).getLsbD u.slotNow = true → u.ringNow % 64 + dur ≤ 64 →
      After (.trunkTxMaintenanceStep t q dur) s (u.emit (.answer "trunk tx maintenance" [q, u.slotNow]))) ∧
    (∀ q dur, (u.pruneSet q).getLsbD u.slotNow = false ∨ 64 < u.ringNow % 64 + dur → After (.trunkTxMaintenanceStep t q dur) s u) ∧
    (∀ q dur v, u.trunkUp q = true → (u.trunk q).farPrune.getLsbD (u.farClock q % 8192 / 64) = true → 4 ≤ u.farClock q % 64 →
      u.farClock q % 64 + dur ≤ 60 → v = u.adaptTaps q →
      After (.trunkRxMaintenanceStep t q dur) s ((v.drew.modTrunk q (fun k => { k with
        taps := k.taps.map (fun l => l.take 32 ++ freeTaps v.draws 16 256), tapsAt := k.tapsAt + dur,
        adc := (List.range 4).map (fun l => Config.trunkTap (64 * v.draws + 16 + l)),
        cdr := (List.range 4).map (fun l => Config.trunkTap (64 * v.draws + 20 + l)) })).emit
        (.answer "trunk rx maintenance" [q, u.farClock q % 8192 / 64]))) ∧
    (∀ q dur, (u.trunk q).farPrune.getLsbD (u.farClock q % 8192 / 64) = false ∨ u.farClock q % 64 < 4 ∨ 60 < u.farClock q % 64 + dur →
      After (.trunkRxMaintenanceStep t q dur) s u)

/-- A lane without symbol lock 24 ms after its port left Detect is marked as taking no part, while the port still trains. A port that may
train reaches L0 from Detect at 2.5 GT/s, at the widest width that its working lanes allow; one that may not train does nothing. From L0
the rate goes up one step at a time, to the target at most, from 8.0 GT/s upward only after an equalization attempt that ended well; at
the rate in force the link comes back from Recovery at no more than its width. An attempt that ends well recalibrates the port's lanes, a
failed one counts, and the third failure in a row settles the link at the rate in force with an F1 event. A legal preset or coefficient
request is applied and answered, another one is rejected. A replay, and an entry to Recovery from L0, are counted with an F1 event each;
corrected FLITs and replays asked of the partner are counted. A link in L0 goes down with its cause; a shared device whose link failed
asks for the deferred reset besides; a link that is down does not go down again. Retrain Link in the registers that govern a link sends it
through Recovery; for a slot bound to another crown's twig that crown is told. Completes (exec answers the next state that the clause
gives): hpSymbolLockTimeout, hpL0Reached, hpEqAttemptEnd, hpCoeffRequest, hpLinkRecovery, hpLinkDown, retrainLink. (03_host_ports.md R71
R72 R73 R74 R75 R76 R86 R97 R98) -/
def Obligations.HostPortTraining : Prop :=
  ∀ (s u : State) (t : Nat), u = s.tick t →
    (∀ n left, n < 576 → (u.hport (u.laneOf n).1).lstate = .detect ∨ (u.hport (u.laneOf n).1).lstate = .polling → (u.hport (u.laneOf n).1).detectAt ≤ left →
      u.after left 24000000 = true →
      After (.hpSymbolLockTimeout t n left) s (u.modHPort (u.laneOf n).1 (fun h => { h with lstate := .polling, badLanes := insertNew h.badLanes (u.laneOf n).2 }))) ∧
    (∀ n left, (u.hport (u.laneOf n).1).up = true → After (.hpSymbolLockTimeout t n left) s u) ∧
    (∀ p lanes partnerMax flit reversed polarity w, u.mayTrain p = true → (u.hport p).up = false →
      w = widthFor (workingLanes (u.hport p).badLanes reversed (u.formedLanes p) lanes) → w ≠ 0 →
      AfterAll (.hpL0Reached t p 1 lanes partnerMax flit reversed polarity) s (u.hpFirstL0 p w (u.formedLanes p) partnerMax flit reversed polarity)) ∧
    (∀ p rate lanes partnerMax flit reversed polarity, u.mayTrain p = false → AfterAll (.hpL0Reached t p rate lanes partnerMax flit reversed polarity) s u) ∧
    (∀ p rate lanes partnerMax flit reversed polarity, (u.hport p).up = false → rate ≠ 1 → AfterAll (.hpL0Reached t p rate lanes partnerMax flit reversed polarity) s u) ∧
    (∀ p lanes partnerMax flit reversed polarity w, u.mayTrain p = true → (u.hport p).up = true →
      w = min (widthFor (workingLanes (u.hport p).badLanes (u.hport p).reversed (u.formedLanes p) lanes)) (u.hport p).width → w ≠ 0 →
      (u.hport p).rate + 1 ≤ min (u.targetRate p (u.hport p).partnerMax (u.hport p).flit) (u.hport p).eqCeiling →
      (u.hport p).rate + 1 < 3 ∨ (u.hport p).eqOk = true →
      AfterAll (.hpL0Reached t p ((u.hport p).rate + 1) lanes partnerMax flit reversed polarity) s (u.hpNewRate p ((u.hport p).rate + 1) w)) ∧
    (∀ p lanes partnerMax flit reversed polarity, (u.hport p).up = true → 3 ≤ (u.hport p).rate + 1 → (u.hport p).eqOk = false →
      AfterAll (.hpL0Reached t p ((u.hport p).rate + 1) lanes partnerMax flit reversed polarity) s u) ∧
    (∀ p lanes partnerMax flit reversed polarity w, u.mayTrain p = true → (u.hport p).up = true →
      w = widthFor (workingLanes (u.hport p).badLanes (u.hport p).reversed (u.formedLanes p) lanes) → (u.hport p).width ≤ w → (u.hport p).width ≠ 0 →
      AfterAll (.hpL0Reached t p (u.hport p).rate lanes partnerMax flit reversed polarity) s
        ((u.modHPort p (fun h => { h with lstate := .l0, width := (u.hport p).width, l0pWidth := min h.l0pWidth (u.hport p).width, l0At := u.now })).modSec
          (fun x => { x with ide := assocErase x.ide (gOfPort p) }))) ∧
    (∀ p preset, p < 144 → (u.hport p).up = true → 2 ≤ (u.hport p).rate → (u.hport p).eqOk = false →
      (u.hport p).rate < min (u.targetRate p (u.hport p).partnerMax (u.hport p).flit) (u.hport p).eqCeiling →
      AfterAll (.hpEqAttemptEnd t p preset true) s
        (((u.modHPort p (fun h => { h with eqTries := (u.hport p).eqTries + 1, eqOk := true, partnerPreset := if preset ≤ 10 then preset else h.partnerPreset })).countTwig (gOfPort p) 0x10F 1).each
          (u.lanesOf p) State.recalibrate)) ∧
    (∀ p preset, p < 144 → (u.hport p).up = true → 2 ≤ (u.hport p).rate → (u.hport p).eqOk = false →
      (u.hport p).rate < min (u.targetRate p (u.hport p).partnerMax (u.hport p).flit) (u.hport p).eqCeiling → (u.hport p).eqTries < 2 →
      AfterAll (.hpEqAttemptEnd t p preset false) s
        ((u.modHPort p (fun h => { h with eqTries := (u.hport p).eqTries + 1, eqOk := false, partnerPreset := if preset ≤ 10 then preset else h.partnerPreset })).countTwig (gOfPort p) 0x10F 1)) ∧
    (∀ p preset, p < 144 → (u.hport p).up = true → 2 ≤ (u.hport p).rate → (u.hport p).eqOk = false →
      (u.hport p).rate < min (u.targetRate p (u.hport p).partnerMax (u.hport p).flit) (u.hport p).eqCeiling → (u.hport p).eqTries = 2 →
      AfterAll (.hpEqAttemptEnd t p preset false) s
        ((((u.modHPort p (fun h => { h with eqTries := 3, eqOk := false, partnerPreset := if preset ≤ 10 then preset else h.partnerPreset })).countTwig (gOfPort p) 0x10F 1).modHPort p
          (fun h => { h with eqCeiling := h.rate, eqTries := 0 })).noteFree (srcTwig (gOfPort p) 3) 1)) ∧
    (∀ p n, p < 144 → n ≤ 10 → After (.hpCoeffRequest t p (.preset n)) s
      ((u.modHPort p (fun h => { h with txPreset := n, txCoeff := Config.presetCoeff (u.hport p).rate n })).emit (.link p "preset accepted" n))) ∧
    (∀ p n, p < 144 → 10 < n → After (.hpCoeffRequest t p (.preset n)) s (u.emit (.link p "preset rejected" n))) ∧
    (∀ p c, p < 144 → After (.hpCoeffRequest t p (.coefficients c)) s
      (if Config.legalCoeff (u.hport p).rate c then (u.modHPort p (fun h => { h with txCoeff := c })).emit (.link p "coefficients accepted" 0)
       else u.emit (.link p "coefficients rejected" 0))) ∧
    (∀ p, p < 144 → (u.hport p).up = true → AfterAll (.hpLinkRecovery t p .replay) s ((u.countTwig (gOfPort p) 0x107 1).noteFree (srcTwig (gOfPort p) 7) 1)) ∧
    (∀ p, p < 144 → (u.hport p).lstate = .l0 → AfterAll (.hpLinkRecovery t p .recovery) s
      (((u.modHPort p (fun h => { h with lstate := .recovery })).countTwig (gOfPort p) 0x108 1).noteFree (srcTwig (gOfPort p) 7) 1)) ∧
    (∀ p n, p < 144 → (u.hport p).up = true → AfterAll (.hpLinkRecovery t p (.fec n)) s (u.countTwig (gOfPort p) 0x105 n)) ∧
    (∀ p, p < 144 → (u.hport p).up = true → AfterAll (.hpLinkRecovery t p .nakSent) s (u.countTwig (gOfPort p) 0x106 1)) ∧
    (∀ p cause, p < 144 → (u.hport p).up = true → 1 ≤ cause → cause ≤ 6 → AfterAll (.hpLinkDown t p cause) s (u.hpDown p cause 2)) ∧
    (∀ p, p < 144 → (u.hport p).up = true → (u.hpDown p 7 2).isShared (gOfPort p) = false → AfterAll (.hpLinkDown t p 7) s (u.hpDown p 7 2)) ∧
    (∀ p, p < 144 → (u.hport p).up = true → (u.hpDown p 7 2).isShared (gOfPort p) = true →
      AfterAll (.hpLinkDown t p 7) s ((u.hpDown p 7 2).sharedRequest (gOfPort p) 3)) ∧
    (∀ p cause, (u.hport p).up = false → AfterAll (.hpLinkDown t p cause) s u) ∧
    (∀ p part v, u.upTwig part = some p → (u.hport (u.hportOfG p)).up = true →
      v = u.modHPort (u.hportOfG p) (fun h => { h with lstate := .recovery, eqCeiling := 7, eqTries := 0, eqOk := false }) →
      After (.retrainLink t part none) s ((v.takeCeiling (u.hportOfG p)).emit (.link (u.hportOfG p) "retrain" 0))) ∧
    (∀ part d v, (u.bind part d).kind = 1 → (u.bind part d).crown = u.crownId → (u.hport (u.hportOfG (u.bind part d).twig)).up = true →
      v = u.modHPort (u.hportOfG (u.bind part d).twig) (fun h => { h with lstate := .recovery, eqCeiling := 7, eqTries := 0, eqOk := false }) →
      After (.retrainLink t part (some d)) s ((v.takeCeiling (u.hportOfG (u.bind part d).twig)).emit (.link (u.hportOfG (u.bind part d).twig) "retrain" 0))) ∧
    (∀ part d, (u.bind part d).kind = 1 → (u.bind part d).crown ≠ u.crownId → u.isHome part = true →
      After (.retrainLink t part (some d)) s (u.emit (.signal (u.bind part d).crown (u.groveId part) "retrain" [d])))

/-- A lane that adapts moves each tap by one where its accumulator has reached 4,096 in magnitude, within its limits, counts the taps that
moved and clears the accumulators; the first tap pushed against its limit since the link came up raises an F0 event; a paused lane holds
its taps. A maintenance step runs only inside one slot of the crown maintenance mask, recalibrates the lane and counts the corrected error
that it may cost; elsewhere it changes nothing. Margining of a lane in L0 at 16.0 GT/s or above starts and ends, at a lower rate it does
not start. A lost reference is one F2 event of the bough and takes its links down; a good one lets them start again from Detect. A
FLIT-mode link without TLPs for HP_L0P_IDLE narrows to its minimum; it widens for more than 2 KiB queued or for a TLP since, unless the
governor withholds it; the partner's legal L0p requests are granted where L0p is enabled, and not elsewhere. L1 is entered on an idle
upstream link of a quiet partition, and for PCI-PM once its functions sleep; at the partner's request on an idle link with nothing queued,
else PM_Active_State_Nak is sent; an exit of L1 passes through Recovery, from a substate with CLKREQ#. Completes (exec answers the next
state that the clause gives): dfeUpdate, hLaneMaintenance, marginCommand, refclkLost, refclkRestored, l0pNarrow, l0pWiden,
l0pPartnerRequest, l1EntryInitiate, l1PartnerRequest, l1Exit, l1PartnerExit. (03_host_ports.md R69 R81 R82 R83 R84 R85 R87 R89 R90 R91
R92) -/
def Obligations.HostPortLanesAndPower : Prop :=
  ∀ (s u : State) (t : Nat), u = s.tick t →
    (∀ n sums, n < 576 → u.laneAdapts n = false → After (.dfeUpdate t n sums) s (u.modLane n (fun l => { l with acc := List.replicate 12 0 }))) ∧
    (∀ n sums acc new v, n < 576 → u.laneAdapts n = true → acc = (List.range 12).map (fun k => (u.lane n).acc.getD k 0 + sums.getD k 0) →
      new = ((u.lane n).taps.zip acc).map (fun e => tapStep e.1 e.2) →
      v = (u.modLane n (fun l => { l with taps := new, acc := List.replicate 12 0 })).countTwig (gOfPort (n / 4)) 0x10E
        (((u.lane n).taps.zip new).filter (fun e => e.1 ≠ e.2)).length →
      After (.dfeUpdate t n sums) s
        (if (((u.lane n).taps.zip acc).any (fun e => tapRail e.1 e.2) && !(v.hport (v.laneOf n).1).railRaised) = true then
          (v.modHPort (v.laneOf n).1 (fun h => { h with railRaised := true, railEvents := h.railEvents + 1 })).noteFree (srcTwig (gOfPort (v.laneOf n).1) 6) 0
        else v)) ∧
    (∀ n dur eye, n < 576 → u.inCrownPrune = true → u.ringNow % 64 + dur ≤ 64 →
      After (.hLaneMaintenance t n dur eye false) s ((u.modLane n (fun l => { l with eye := min eye 0xFF, acc := List.replicate 12 0 })).recalibrate n)) ∧
    (∀ n dur eye, n < 576 → u.inCrownPrune = true → u.ringNow % 64 + dur ≤ 64 →
      After (.hLaneMaintenance t n dur eye true) s
        (((u.modLane n (fun l => { l with eye := min eye 0xFF, acc := List.replicate 12 0 })).recalibrate n).countTwig (gOfPort (n / 4)) 0x104 1)) ∧
    (∀ n dur eye c, u.inCrownPrune = false ∨ 64 < u.ringNow % 64 + dur → After (.hLaneMaintenance t n dur eye c) s u) ∧
    (∀ n m, n < 576 → (u.hport (u.laneOf n).1).lstate = .l0 → 4 ≤ (u.hport (u.laneOf n).1).rate →
      After (.marginCommand t n (some m)) s (u.modLane n (fun l => { l with margining := some m, acc := List.replicate 12 0 }))) ∧
    (∀ n m, (u.hport (u.laneOf n).1).rate < 4 → After (.marginCommand t n (some m)) s u) ∧
    (∀ n, n < 576 → After (.marginCommand t n none) s (u.modLane n (fun l => { l with margining := none, acc := List.replicate 12 0 }))) ∧
    (∀ b v, b < 40 → isTBough b = false → u.power.refclk.getD b false = true →
      v = (u.modPower (fun x => { x with refclk := x.refclk.set b false })).noteFree (srcTwig (4 * b) 5) 2 →
      AfterAll (.refclkLost t b) s (v.each (v.boughPorts b) (fun s p => s.hpDown p 4 2))) ∧
    (∀ b, u.power.refclk.getD b false = false → AfterAll (.refclkLost t b) s u) ∧
    (∀ b v, b < 40 → isTBough b = false → v = u.modPower (fun x => { x with refclk := x.refclk.set b true }) →
      After (.refclkRestored t b) s (v.each (v.boughPorts b) (fun s p => s.modHPort p (fun h => if h.up then h else { h with detectAt := s.now })))) ∧
    (∀ p, p < 144 → (u.hport p).lstate = .l0 → (u.hport p).flit = true → u.powerEnabled p 3 = true → u.get (Key.HP_L0P_IDLE + p) ≠ 0 →
      u.after (u.lastTlp p) (1000 * u.get (Key.HP_L0P_IDLE + p)) = true → u.l0pMin p < (u.hport p).l0pWidth →
      After (.l0pNarrow t p) s (((u.modHPort p (fun h => { h with l0pWidth := u.l0pMin p, narrowedAt := u.now })).countTwig (gOfPort p) 0x109 1).emit
        (.link p "L0p width" (u.l0pMin p)))) ∧
    (∀ p, u.powerEnabled p 3 = false ∨ u.after (u.lastTlp p) (1000 * u.get (Key.HP_L0P_IDLE + p)) = false → After (.l0pNarrow t p) s u) ∧
    (∀ p, p < 144 → (u.hport p).lstate = .l0 → (u.hport p).l0pWidth < (u.hport p).width → u.power.govLevel < 3 →
      2048 < u.queuedBytes (gOfPort p) ∨ (u.hport p).narrowedAt ≤ u.lastTlp p →
      After (.l0pWiden t p) s ((u.modHPort p (fun h => { h with l0pWidth := (u.hport p).width, narrowedAt := u.now })).emit (.link p "L0p width" (u.hport p).width))) ∧
    (∀ p, 3 ≤ u.power.govLevel → After (.l0pWiden t p) s u) ∧
    (∀ p w, p < 144 → (u.hport p).lstate = .l0 → (u.hport p).flit = true → u.powerEnabled p 3 = true → w ∈ [1, 2, 4, 8, 16] → w ≤ (u.hport p).width →
      After (.l0pPartnerRequest t p w) s ((u.l0pTo p w).emit (.link p "L0p granted" w))) ∧
    (∀ p w, u.powerEnabled p 3 = false → After (.l0pPartnerRequest t p w) s u) ∧
    (∀ p part, u.upstreamPart (gOfPort p) = some part → p < 144 → (u.hport p).lstate = .l0 → u.powerEnabled p 0 = true → u.get (Key.HP_L1_IDLE + p) ≠ 0 →
      u.after (u.lastTlp p) (1000 * u.get (Key.HP_L1_IDLE + p)) = true → u.partAwake part = false → u.partQuiet part (1000 * u.get (Key.HP_L1_IDLE + p)) = true →
      After (.l1EntryInitiate t p) s (((u.modHPort p (fun h => { h with lstate := .l1, pciPm := false })).countTwig (gOfPort p) 0x10A 1).emit (.link p "L1 entry" 0))) ∧
    (∀ p part, u.upstreamPart (gOfPort p) = some part → p < 144 → (u.hport p).lstate = .l0 → u.partAwake part = false → u.powerEnabled p 0 = false →
      bitOf (u.get (Key.HP_POWER_CTL + p)) 0 = true → u.partAsleep part = true → u.partQuiet part 0 = true →
      After (.l1EntryInitiate t p) s (((u.modHPort p (fun h => { h with lstate := .l1, pciPm := true })).countTwig (gOfPort p) 0x10A 1).emit (.link p "PCI-PM L1 entry" 0))) ∧
    (∀ p, u.upstreamPart (gOfPort p) = none → p < 144 → (u.hport p).lstate = .l0 → u.powerEnabled p 0 = true → u.get (Key.HP_L1_IDLE + p) ≠ 0 →
      u.after (u.lastTlp p) (1000 * u.get (Key.HP_L1_IDLE + p)) = true → u.core.queues = [] →
      After (.l1PartnerRequest t p) s (((u.modHPort p (fun h => { h with lstate := .l1, pciPm := false })).countTwig (gOfPort p) 0x10A 1).emit (.link p "L1 accepted" 0))) ∧
    (∀ p, u.upstreamPart (gOfPort p) = none → p < 144 → (u.hport p).lstate = .l0 →
      u.powerEnabled p 0 = false ∨ u.after (u.lastTlp p) (1000 * u.get (Key.HP_L1_IDLE + p)) = false ∨ u.queuedBytes (gOfPort p) ≠ 0 →
      After (.l1PartnerRequest t p) s (u.emit (.link p "PM_Active_State_Nak" 0))) ∧
    (∀ p, p < 144 → (u.hport p).lstate = .l1 → After (.l1Exit t p) s ((u.modHPort p (fun h => { h with lstate := .recovery })).emit (.link p "L1 exit" 0))) ∧
    (∀ p, p < 144 → (u.hport p).lstate = .l11 ∨ (u.hport p).lstate = .l12 → After (.l1Exit t p) s
      ((((u.modHPort p (fun h => { h with lstate := .recovery })).modSideband p (fun b => { b with clkreq := true })).driveOut p 1 true).emit (.link p "L1 exit" 0))) ∧
    (∀ p, p < 144 → (u.hport p).inL1 = true → After (.l1PartnerExit t p) s (u.modHPort p (fun h => { h with lstate := .recovery })))

/-- Signal on a trunk that may train starts ALIGN. Comma words on all four lanes that form a permutation of the far lanes within 50 ns start
NEGOTIATE; with any others ALIGN goes on. A training frame with a bad check is discarded, whatever its type. A CAPS frame is kept with the
far identity; in NEGOTIATE a cause of R107 then holds the trunk, and without one the first starts the key exchange and the training goes
on if its work is done. A key-exchange segment within its message's limits is taken, and one that does not complete message 0x01 is only
stored; one longer than its message's limit fails the training. A DELAY request is answered with its three instants; the answer on lane 0
to the latest request sets TP_DELAY and the next request leaves. A STEP frame of phase 0x01 states the far target; one of phase 0x02 with
COUNT 0 and this end's target changes the receive rate. In a step state a preset or a legal coefficient request is applied and accepted,
another one rejected; an accept of this end's request ends its work on the lane, after a reject it asks for the next preset; KIND 0x05
ends the far receiver's work on a lane. A HOLD frame in NEGOTIATE discards what came before it and sends CAPS again; 2 ms without one
restart the limit of NEGOTIATE. A HELD trunk goes on with NEGOTIATE once its cause has cleared, else it says its cause again. An expired
limit of a step state is retried once from its equalization, then settles one rate lower with an F1 event, then fails the training; an
expired limit of ALIGN, of NEGOTIATE with no HOLD frame, or of LINK_INIT fails it; before a limit nothing happens. Completes (exec answers
the next state that the clause gives): trunkSignalDetect, trunkAlignComplete, capsFrame, keyexFrame, delayFrame, stepFrame, eqFrame,
holdFrame, holdFramesCeased, heldReevaluate, trunkStateTimeout. (04_trunk_links.md R102 R103 R104 R105 R106 R107 R108 R116) -/
def Obligations.TrunkTrainingResults : Prop :=
  ∀ (s u : State) (t : Nat), u = s.tick t →
    (∀ q, (u.trunk q).tstate = .detect ∨ (u.trunk q).tstate = .disabled → u.trunkMay q = true →
      After (.trunkSignalDetect t q) s (u.modTrunk q (fun k => { k with tstate := .align, rate := 1, train := { Training.reset with since := u.now, failed := k.train.failed } }))) ∧
    (∀ q, u.trunkMay q = false → After (.trunkSignalDetect t q) s u) ∧
    (∀ q lanes m p, alignLanes lanes = some (m, p) → (u.trunk q).tstate = .align →
      After (.trunkAlignComplete t q lanes) s ((u.modTrain q (fun x => { x with laneMap := m, polarity := p })).enterNegotiate q)) ∧
    (∀ q lanes, alignLanes lanes = none → After (.trunkAlignComplete t q lanes) s u) ∧
    (∀ q frame at_, frameContent 1 frame = none → frameContent 2 frame = none → frameContent 3 frame = none → frameContent 4 frame = none →
      frameContent 5 frame = none → frameContent 6 frame = none →
      After (.capsFrame t q frame) s u ∧ After (.keyexFrame t q frame) s u ∧ After (.delayFrame t q frame at_) s u ∧ After (.stepFrame t q frame) s u ∧
        After (.eqFrame t q frame) s u ∧ After (.holdFrame t q frame) s u) ∧
    (∀ q frame lane c, frameContent 1 frame = some (lane, c) → (u.trunk q).tstate = .held →
      After (.capsFrame t q frame) s (u.modTrunk q (fun k => { k with peer := some ((capsOf c).crown % 1024, (capsOf c).trunk % 16), train := { k.train with farCaps := some (capsOf c), farRaw := c } }))) ∧
    (∀ q frame lane c v, frameContent 1 frame = some (lane, c) → (u.trunk q).tstate = .negotiate →
      v = u.modTrunk q (fun k => { k with peer := some ((capsOf c).crown % 1024, (capsOf c).trunk % 16), train := { k.train with farCaps := some (capsOf c), farRaw := c } }) →
      v.holdCause q ≠ 0 → After (.capsFrame t q frame) s (v.enterHeld q (v.holdCause q))) ∧
    (∀ q frame lane c v, frameContent 1 frame = some (lane, c) → (u.trunk q).tstate = .negotiate →
      v = u.modTrunk q (fun k => { k with peer := some ((capsOf c).crown % 1024, (capsOf c).trunk % 16), train := { k.train with farCaps := some (capsOf c), farRaw := c } }) →
      v.holdCause q = 0 → After (.capsFrame t q frame) s ((if (u.trunk q).train.farCaps.isNone then v.startKeyex q else v).trainOn q)) ∧
    (∀ q frame lane c, frameContent 2 frame = some (lane, c) → (u.trunk q).tstate = .negotiate → (u.trunk q).train.farCaps.isSome = true →
      keyexLimit (beField c 0 0) < beField c 2 3 → After (.keyexFrame t q frame) s (u.trainFailed q)) ∧
    (∀ q frame lane c, frameContent 2 frame = some (lane, c) → (u.trunk q).tstate = .negotiate → (u.trunk q).train.farCaps.isSome = true →
      (u.trunk q).train.keyex = [] → beField c 2 3 ≤ keyexLimit (beField c 0 0) → 1 ≤ beField c 6 7 → beField c 6 7 ≤ 92 → beField c 4 5 + beField c 6 7 ≤ beField c 2 3 →
      After (.keyexFrame t q frame) s (u.keyexSegment q (beField c 0 0) (beField c 2 3) (beField c 4 5) ((c.drop 8).take (beField c 6 7)))) ∧
    (∀ q off seg, (u.trunk q).train.keyex = [] → q < u.trunks.length → 0 < seg.length → off + seg.length < 97 →
      u.keyexSegment q 1 97 off seg = u.modTrain q (fun x => { x with keyex := [(1, 97, [(off, seg)])] })) ∧
    (∀ q frame at_ lane c, frameContent 3 frame = some (lane, c) → ((u.trunk q).tstate = .negotiate ∨ (u.trunk q).tstate = .step106 ∨ (u.trunk q).tstate = .step212) →
      (delayOf c).role = 1 →
      After (.delayFrame t q frame at_) s (u.sendFrame q 3 ([2, 0] ++ beBytes 2 (delayOf c).exchange ++ beBytes 8 (delayOf c).t1 ++ beBytes 8 at_ ++ beBytes 8 (256 * u.now)))) ∧
    (∀ q frame at_ c v, frameContent 3 frame = some (0, c) → ((u.trunk q).tstate = .negotiate ∨ (u.trunk q).tstate = .step106 ∨ (u.trunk q).tstate = .step212) →
      (delayOf c).role = 2 → (delayOf c).exchange = (u.trunk q).train.exchange →
      v = u.modTrunk q (fun k => { k with delayPs := oneWayPs (delayOf c) at_, train := { k.train with delayDone := true, exchange := (k.train.exchange + 1) % 65536 } }) →
      After (.delayFrame t q frame at_) s ((v.sendFrame q 3 (v.delayRequest q)).trainOn q)) ∧
    (∀ q frame lane c, frameContent 4 frame = some (lane, c) → ((u.trunk q).tstate = .negotiate ∨ (u.trunk q).tstate = .step106 ∨ (u.trunk q).tstate = .step212) → beField c 1 1 = 1 →
      After (.stepFrame t q frame) s ((u.modTrain q (fun x => { x with farTarget := beField c 0 0 })).stepGo q)) ∧
    (∀ q frame lane c, frameContent 4 frame = some (lane, c) → ((u.trunk q).tstate = .negotiate ∨ (u.trunk q).tstate = .step106 ∨ (u.trunk q).tstate = .step212) → beField c 1 1 = 2 →
      beField c 2 3 = 0 → beField c 0 0 = u.stepTarget q →
      After (.stepFrame t q frame) s ((u.modTrain q (fun x => { x with farTarget := beField c 0 0, countSeen := true, rxRate := beField c 0 0 })).stepGo q)) ∧
    (∀ q frame lane c, frameContent 5 frame = some (lane, c) → ((u.trunk q).tstate = .step106 ∨ (u.trunk q).tstate = .step212) → (eqOf c).lane < 4 → (eqOf c).kind = 1 → (eqOf c).preset < 8 →
      After (.eqFrame t q frame) s ((u.modTrunk q (fun k => { k with txCoeff := k.txCoeff.set (eqOf c).lane (presetCoeff (eqOf c).preset) })).sendFrame q 5
        (eqContent (eqOf c).lane 3 0 (eqOf c).reqNo))) ∧
    (∀ q frame lane c, frameContent 5 frame = some (lane, c) → ((u.trunk q).tstate = .step106 ∨ (u.trunk q).tstate = .step212) → (eqOf c).lane < 4 → (eqOf c).kind = 2 → coeffLegal (eqOf c).coeff = true →
      After (.eqFrame t q frame) s ((u.modTrunk q (fun k => { k with txCoeff := k.txCoeff.set (eqOf c).lane (eqOf c).coeff })).sendFrame q 5
        (eqContent (eqOf c).lane 3 0 (eqOf c).reqNo))) ∧
    (∀ q frame lane c, frameContent 5 frame = some (lane, c) → ((u.trunk q).tstate = .step106 ∨ (u.trunk q).tstate = .step212) → (eqOf c).lane < 4 →
      ((eqOf c).kind = 1 ∧ 8 ≤ (eqOf c).preset) ∨ ((eqOf c).kind = 2 ∧ coeffLegal (eqOf c).coeff = false) →
      After (.eqFrame t q frame) s (u.sendFrame q 5 (eqContent (eqOf c).lane 4 0 (eqOf c).reqNo))) ∧
    (∀ q frame lane c r, frameContent 5 frame = some (lane, c) → ((u.trunk q).tstate = .step106 ∨ (u.trunk q).tstate = .step212) → (eqOf c).lane < 4 → (eqOf c).kind = 3 →
      (u.trunk q).train.eqReq.find? (fun r => r.1 = (eqOf c).lane && r.2.1 = (eqOf c).reqNo) = some r →
      After (.eqFrame t q frame) s ((u.eqLaneDone q (eqOf c).lane).trainOn q)) ∧
    (∀ q frame lane c r, frameContent 5 frame = some (lane, c) → ((u.trunk q).tstate = .step106 ∨ (u.trunk q).tstate = .step212) → (eqOf c).lane < 4 → (eqOf c).kind = 4 →
      (u.trunk q).train.eqReq.find? (fun r => r.1 = (eqOf c).lane && r.2.1 = (eqOf c).reqNo) = some r →
      After (.eqFrame t q frame) s (u.eqAsk q (eqOf c).lane ((r.2.2 + 1) % 8))) ∧
    (∀ q frame lane c, frameContent 5 frame = some (lane, c) → ((u.trunk q).tstate = .step106 ∨ (u.trunk q).tstate = .step212) → (eqOf c).lane < 4 → (eqOf c).kind = 5 →
      After (.eqFrame t q frame) s ((u.modTrain q (fun x => { x with eqFar := insertNew x.eqFar (eqOf c).lane })).trainOn q)) ∧
    (∀ q frame lane c v, frameContent 6 frame = some (lane, c) → (u.trunk q).tstate = .negotiate →
      v = u.modTrain q (fun x => { x with lastHold := some u.now, farCaps := none, farRaw := [], keyex := [], keyexOk := false, readySent := false, farTarget := 0, countSent := false, countSeen := false }) →
      After (.holdFrame t q frame) s (v.sendFrame q 1 (v.capsContent q))) ∧
    (∀ q t0, (u.trunk q).train.lastHold = some t0 → (u.trunk q).tstate = .negotiate → u.after t0 2000000 = true →
      After (.holdFramesCeased t q) s (u.modTrain q (fun x => { x with lastHold := none, since := u.now }))) ∧
    (∀ q, (u.trunk q).tstate = .held → u.holdCause q = 0 → After (.heldReevaluate t q) s (u.enterNegotiate q)) ∧
    (∀ q, (u.trunk q).tstate = .held → u.holdCause q ≠ 0 →
      After (.heldReevaluate t q) s ((u.modTrain q (fun x => { x with heldCause := u.holdCause q })).sendHold q (u.holdCause q))) ∧
    (∀ q, (u.trunk q).tstate = .align → u.after (u.trunk q).train.since 10000000 = true → AfterAll (.trunkStateTimeout t q) s (u.trainFailed q)) ∧
    (∀ q, (u.trunk q).tstate = .negotiate → u.after (u.trunk q).train.since 50000000 = true → (u.trunk q).train.lastHold = none →
      AfterAll (.trunkStateTimeout t q) s (u.trainFailed q)) ∧
    (∀ q, (u.trunk q).tstate = .linkInit → u.after (u.trunk q).train.since 1000000 = true → AfterAll (.trunkStateTimeout t q) s (u.trainFailed q)) ∧
    (∀ q lim, trainLimit (u.trunk q).tstate = some lim → u.after (u.trunk q).train.since lim = false → AfterAll (.trunkStateTimeout t q) s u) ∧
    (∀ q, ((u.trunk q).tstate = .step106 ∨ (u.trunk q).tstate = .step212) → u.after (u.trunk q).train.since 20000000 = true → (u.trunk q).train.retried = false →
      AfterAll (.trunkStateTimeout t q) s ((u.modTrain q (fun x => { x with retried := true, since := u.now, readySent := false, farTarget := 0, countSent := false, countSeen := false })).eqBegin q)) ∧
    (∀ q, ((u.trunk q).tstate = .step106 ∨ (u.trunk q).tstate = .step212) → u.after (u.trunk q).train.since 20000000 = true → (u.trunk q).train.retried = true → (u.trunk q).train.settled = none →
      AfterAll (.trunkStateTimeout t q) s (((u.modTrain q (fun x => { x with settled := some (if (u.trunk q).tstate = .step106 then 1 else 2), since := u.now, readySent := false, farTarget := 0, countSent := false, countSeen := false })).noteFree (srcTwig (gOfTrunk q) 3) 1).sayReady q)) ∧
    (∀ q, ((u.trunk q).tstate = .step106 ∨ (u.trunk q).tstate = .step212) → u.after (u.trunk q).train.since 20000000 = true → (u.trunk q).train.retried = true → (u.trunk q).train.settled.isSome = true →
      AfterAll (.trunkStateTimeout t q) s (u.trainFailed q))

/-- LINK_INIT ends in L0: where this end resumes, what the far end has received is released and the rest goes first, from RX_LAST + 1; where
it does not, sequences start from 0; the receiver expects the sequence after its own last one if the far end resumes, else 0; the far
end's first grants are held, and this end's counts start afresh. A flow unit on a trunk that is not up does nothing. On a trunk that is up
its codeword is taken first; the eighth uncorrectable one in a row retrains the trunk. A flow unit in an uncorrectable codeword fails its
check; one whose check matches the sequence expected is taken there; one that matches an earlier sequence of the window is a duplicate;
one that matches none starts a NAK, and while one waits it is only counted. A NAK that waits is repeated after NAK_REPEAT; an acknowledged
sequence that has not advanced for REPLAY_TIMER starts a replay. Link loss on a trunk that is up, and an installer's TP_RETRAIN, retrain
the trunk; an operator's does nothing. A slot that no message holds is freed and granted, in its class's reserve or in the shared part. A
waiting message of a trunk's pool, or of an ingress sub-queue, is tried again. Completes (exec answers the next state that the clause
gives): linkInitExchange, fuReceive, nakRepeat, replayTimer, trunkLinkLoss, tpRetrain, rxSlotFreed, admissionRetry. (04_trunk_links.md
R112 R117 R126 R127 R129 R130 R131 R132 R133 R142 R148; 05_switch_core.md R171) -/
def Obligations.TrunkEpochAndFlowUnits : Prop :=
  ∀ (s u : State) (t : Nat), u = s.tick t →
    (∀ q resume rxLast rsv shared v, (u.trunk q).tstate = .linkInit → (u.trunk q).tx.handedOver = false → v = u.releaseTo q rxLast →
      After (.linkInitExchange t q resume rxLast rsv shared) s
        (((v.rewind q).newEpoch q { resume := resume, rsv := rsv, shared := shared, first := rxLast + 1, ctls := (v.trunk q).tx.heldControls, again := ((v.trunk q).tx.buf.filterMap (·.desc)).foldl insertNew [] }).epochUp q)) ∧
    (∀ q resume rxLast rsv shared, (u.trunk q).tstate = .linkInit → (u.trunk q).tx.handedOver = true →
      After (.linkInitExchange t q resume rxLast rsv shared) s
        (((u.rewind q).newEpoch q { resume := resume, rsv := rsv, shared := shared, first := 0, ctls := (u.trunk q).tx.heldControls, again := ((u.trunk q).tx.buf.filterMap (·.desc)).foldl insertNew [] }).epochUp q)) ∧
    (∀ q e, q < u.trunks.length → ((u.newEpoch q e).trunk q).tstate = .l0 ∧
      ((u.newEpoch q e).trunk q).tx.nextTx = e.first ∧ ((u.newEpoch q e).trunk q).tx.oldest = e.first ∧ ((u.newEpoch q e).trunk q).tx.buf = [] ∧
      ((u.newEpoch q e).trunk q).tx.txCount = 0 ∧ ((u.newEpoch q e).trunk q).tx.farRsv = e.rsv ∧ ((u.newEpoch q e).trunk q).tx.farShared = e.shared ∧
      ((u.newEpoch q e).trunk q).rx.expect = (if e.resume then (u.trunk q).rx.rxLast + 1 else 0) ∧
      ((u.newEpoch q e).trunk q).rx.rxLast = (if e.resume then (u.trunk q).rx.rxLast else 0xFFFF) ∧
      ((u.newEpoch q e).trunk q).rx.openMsgs = [] ∧ ((u.newEpoch q e).trunk q).rx.pool = (u.trunk q).rx.pool) ∧
    (∀ q fu errs, u.trunkUp q = false → AfterAll (.fuReceive t q fu errs) s u) ∧
    (∀ q fu errs v, q < 16 → u.trunkUp q = true → v = (u.adaptTaps q).takeCodeword q errs → 8 ≤ (v.trunk q).lineRx.badRun →
      AfterAll (.fuReceive t q fu errs) s (v.trunkRetrain q false)) ∧
    (∀ q fu errs v, q < 16 → u.trunkUp q = true → v = (u.adaptTaps q).takeCodeword q errs → (v.trunk q).lineRx.badRun < 8 →
      (u.trunk q).lineRx.fails errs = true → fu.hdr.type = 0 →
      AfterAll (.fuReceive t q fu errs) s ((v.fuCheckFail q).answerQueries q)) ∧
    (∀ q fu errs v, q < 16 → u.trunkUp q = true → v = (u.adaptTaps q).takeCodeword q errs → (v.trunk q).lineRx.badRun < 8 →
      (u.trunk q).lineRx.fails errs = false → (fu.hdr.type = 0 ∨ v.injectItem [4] 0 (gOfTrunk q) = (v, none)) → fu.check = fuCheck (v.trunk q).rx.expect fu →
      AfterAll (.fuReceive t q fu errs) s ((v.fuAtE q fu).answerQueries q)) ∧
    (∀ q fu errs v seq, q < 16 → u.trunkUp q = true → v = (u.adaptTaps q).takeCodeword q errs → (v.trunk q).lineRx.badRun < 8 →
      (u.trunk q).lineRx.fails errs = false → (fu.hdr.type = 0 ∨ v.injectItem [4] 0 (gOfTrunk q) = (v, none)) → fu.check ≠ fuCheck (v.trunk q).rx.expect fu →
      dupSeq (v.trunk q).rx.expect fu = some seq → AfterAll (.fuReceive t q fu errs) s ((v.fuDuplicate q seq fu).answerQueries q)) ∧
    (∀ q fu errs v, q < 16 → u.trunkUp q = true → v = (u.adaptTaps q).takeCodeword q errs → (v.trunk q).lineRx.badRun < 8 →
      (u.trunk q).lineRx.fails errs = false → (fu.hdr.type = 0 ∨ v.injectItem [4] 0 (gOfTrunk q) = (v, none)) → fu.check ≠ fuCheck (v.trunk q).rx.expect fu →
      dupSeq (v.trunk q).rx.expect fu = none → AfterAll (.fuReceive t q fu errs) s ((v.fuCheckFail q).answerQueries q)) ∧
    (∀ q, (u.trunk q).rx.nakPending = true → u.fuCheckFail q = u.countTwig (gOfTrunk q) 0x186 1) ∧
    (∀ q, (u.trunk q).rx.nakPending = false →
      u.fuCheckFail q = ((u.countTwig (gOfTrunk q) 0x186 1).modRx q (fun x => { x with nakPending := true, nakSince := u.now })).nakEvent q) ∧
    (∀ q, u.trunkUp q = true → (u.trunk q).rx.nakPending = true → u.after (u.trunk q).rx.nakSince (u.nakRepeatNs q) = true →
      After (.nakRepeat t q) s ((u.modRx q (fun x => { x with nakSince := u.now })).nakEvent q)) ∧
    (∀ q, u.trunkUp q = true → (u.trunk q).tx.nextTx ≠ (u.trunk q).tx.oldest → u.after (u.trunk q).tx.lastAdvance (2 * u.nakRepeatNs q) = true →
      AfterAll (.replayTimer t q) s (u.startReplay q (u.trunk q).tx.oldest)) ∧
    (∀ q, u.trunkUp q = true → AfterAll (.trunkLinkLoss t q) s (u.trunkRetrain q false)) ∧
    (∀ k q, q < 16 → After (.tpRetrain t (.installer k) q) s (u.trunkRetrain q true)) ∧
    (∀ p q, After (.tpRetrain t (.operator p) q) s u) ∧
    (∀ q cls, q < 16 → cls < 8 → (u.trunk q).rx.freeable cls false ≠ 0 →
      After (.rxSlotFreed t q cls false) s (u.modRx q (fun x => { x with freeRsv := x.freeRsv.modify cls (· + 1), grantedRsv := x.grantedRsv.modify cls (· + 1) }))) ∧
    (∀ q cls, q < 16 → cls < 8 → (u.trunk q).rx.freeable cls true ≠ 0 →
      After (.rxSlotFreed t q cls true) s (u.modRx q (fun x => { x with freeShared := x.freeShared + 1, grantedShared := x.grantedShared + 1 }))) ∧
    (∀ q kind, q < 16 → AfterAll (.admissionRetry t (gOfTrunk q) kind) s (u.retryPool q kind)) ∧
    (∀ g kind, isT g = false → AfterAll (.admissionRetry t g kind) s (admissionRetryEffect u g kind))

/-- On an encrypted trunk that is up: at transmission 2²⁸ − 2¹⁶ an offer of the next epoch with a new key is sent once; an offer of the next
epoch is accepted with a key of this end, and the far direction's new key derived; an acceptance of the offered epoch makes this
direction's new key ready; an offer of another epoch and an acceptance of what was not offered are violations; at 2²⁸ the phase toggles,
the count restarts and the new key is used, or without a new key the trunk retrains with an F2 event. A fate query of the trunk's peer is
kept, and answered once it may be; one that names no peer of that trunk contradicts its crown. A query that has waited 10 µs at a trunk in
L0 retrains the trunk; at a trunk that is not up, it is answered as it may be. An unanswered query of a frozen trunk is sent again after
16 µs until the 1 s has run; an answer to the latest query hands the frozen trunk's messages over, one to an earlier query does nothing; 1
s after its loss a trunk that has not returned is discarded. Completes (exec answers the next state that the clause gives):
rekeyOfferSend, rekeyOffer, rekeyAccept, keyPhaseToggle, fateQuery, fateQueryHoldExpire, fateQueryResend, fateAnswer, trunkDiscard.
(04_trunk_links.md R139 R141 R143 R144 R145 R146) -/
def Obligations.TrunkKeysAndFate : Prop :=
  ∀ (s u : State) (t : Nat), u = s.tick t →
    (∀ q, u.trunkUp q = true → (u.trunk q).crypt = true → 2 ^ 28 - 2 ^ 16 ≤ (u.trunk q).tx.txCount → (u.trunk q).tx.offerOut = none → (u.trunk q).tx.newKey = none →
      After (.rekeyOfferSend t q) s (u.drew.modTx q (fun x => { x with offerOut := some (((u.trunk q).tx.keyEpoch + 1).toNat, Config.random u.draws), ctl := x.ctl ++ [.rekeyOffer ((u.trunk q).tx.keyEpoch + 1).toNat (Config.publicKey (Config.random u.draws))] }))) ∧
    (∀ q key, u.trunkUp q = true → (u.trunk q).crypt = true →
      AfterAll (.rekeyOffer t q ((u.trunk q).rx.keyEpoch + 1).toNat key) s (u.drew.modTrunk q (fun k => { k with
        rx := { k.rx with rekeyKey := some (k.rekeyed ((u.trunk q).rx.keyEpoch + 1).toNat (Config.random u.draws) key) },
        tx := { k.tx with ctl := k.tx.ctl ++ [.rekeyAccept ((u.trunk q).rx.keyEpoch + 1).toNat (Config.publicKey (Config.random u.draws))] } }))) ∧
    (∀ q epoch key, u.trunkUp q = true → (u.trunk q).crypt = true → epoch ≠ ((u.trunk q).rx.keyEpoch + 1).toNat →
      AfterAll (.rekeyOffer t q epoch key) s (u.fuViolation q rekeyHeader 5)) ∧
    (∀ q epoch priv key, u.trunkUp q = true → (u.trunk q).crypt = true → (u.trunk q).tx.offerOut = some (epoch, priv) →
      AfterAll (.rekeyAccept t q epoch key) s (u.modTrunk q (fun k => { k with tx := { k.tx with offerOut := none, newKey := some (k.rekeyed epoch priv key) } }))) ∧
    (∀ q epoch key, u.trunkUp q = true → (u.trunk q).crypt = true → (u.trunk q).tx.offerOut = none →
      AfterAll (.rekeyAccept t q epoch key) s (u.fuViolation q rekeyHeader 5)) ∧
    (∀ q key, u.trunkUp q = true → (u.trunk q).crypt = true → 2 ^ 28 ≤ (u.trunk q).tx.txCount → (u.trunk q).tx.newKey = some key →
      AfterAll (.keyPhaseToggle t q) s (u.modTx q (fun x => { x with keyPhase := !x.keyPhase, txCount := 0, keyEpoch := x.keyEpoch + 1, keyNo := key, newKey := none }))) ∧
    (∀ q, u.trunkUp q = true → (u.trunk q).crypt = true → 2 ^ 28 ≤ (u.trunk q).tx.txCount → (u.trunk q).tx.newKey = none →
      AfterAll (.keyPhaseToggle t q) s ((u.noteFree (srcTwig (gOfTrunk q) 6) 2).trunkRetrain q false)) ∧
    (∀ via x trunk far no, trunk < 16 → (u.trunk trunk).peer = some (x, far) →
      AfterAll (.fateQuery t via x trunk no) s ((u.modRx trunk (fun r => { r with queries := r.queries ++ [(via, x, no, u.now)] })).answerQueries trunk)) ∧
    (∀ via x trunk no, (u.trunk trunk).peer = none → AfterAll (.fateQuery t via x trunk no) s (u.contradicts via)) ∧
    (∀ trunk, u.trunkUp trunk = true → (u.trunk trunk).rx.queries.any (fun e => u.after e.2.2.2 10000) = true →
      AfterAll (.fateQueryHoldExpire t trunk) s (u.trunkRetrain trunk false)) ∧
    (∀ trunk, u.trunkUp trunk = false → AfterAll (.fateQueryHoldExpire t trunk) s (u.answerQueries trunk)) ∧
    (∀ q, u.trunkUp q = false → (u.trunk q).tx.frozen = true → u.after (u.trunk q).tx.fateSent 16000 = true → u.now < (u.trunk q).tx.lostAt + 1000000000 →
      After (.fateQueryResend t q) s (u.sendFateQuery q)) ∧
    (∀ via trunk x no rxLast q, (List.range 16).find? (fun q => (u.trunk q).peer == some (x, trunk) && (u.trunk q).tx.frozen && !u.trunkUp q) = some q →
      (u.trunk q).tx.fateNo = no → After (.fateAnswer t via trunk x no rxLast) s (u.handover q x rxLast)) ∧
    (∀ via trunk x no rxLast q, (List.range 16).find? (fun q => (u.trunk q).peer == some (x, trunk) && (u.trunk q).tx.frozen && !u.trunkUp q) = some q →
      (u.trunk q).tx.fateNo ≠ no → After (.fateAnswer t via trunk x no rxLast) s u) ∧
    (∀ q, q < 16 → u.trunkUp q = false → u.after (u.trunk q).tx.lostAt 1000000000 = true → AfterAll (.trunkDiscard t q) s (u.discardTrunk q))

/-- A TLP on an H-twig whose link is up counts 0x100 and its bytes, uses its credits, takes the twig's next order stamp and goes to the parse
stage; beyond its credits it is a receiver overflow; on a link that is down, on an offline twig or on no H-twig nothing happens. Arriving
bytes make a cut-through TLP eligible at its threshold, a malformed tail ends it; a nullified one is sent again whole; any other
descriptor number changes nothing. A buffer fault contains its limb with an F2 event. The cells a half was freeing are free. A class hold
ends once no TLP of it is queued under another class, and not before; after 10 ms it is reported once at each limb that holds such TLPs.
Allotments are granted to each partition with a maximum rate. A fetched window entry or a reloaded gate lets what waited for it go on; a
bad side tag is an F1 event alone. At an egress time a port in L0 sends its next FLIT; a trunk in L0 that replays sends the next copy of
its buffer, one that is paused or has a full buffer an IDLE, else its next FU, and in a slot where it is pruned a replay waits behind an
IDLE; a heartwood intake hands over its next request; any other unit does nothing. Completes (exec answers the next state that the clause
gives): tlpIngress, cutThroughStart, cutResend, bufStructFault, cellFreeDone, classMapRelease, classMapHold, allotmentGrant, winFetchDone,
gateReloadDone, egressStart. (05_switch_core.md R157 R164 R171 R174 R175 R186 R187; 06_partitions.md R235; 07_translation_and_gates.md
R244 R252 R272; 04_trunk_links.md R130) -/
def Obligations.SwitchCoreResults : Prop :=
  ∀ (s u : State) (t : Nat), u = s.tick t →
    (∀ g x i v w, g < 160 → isT g = false → u.twigOffline g = false → (u.hport (portOfG (u.portLowG g))).up = true → u.fcCovers (portOfG (u.portLowG g)) x = true →
      i = u.injectItem [5] 0 g → v = (if i.2.isSome then i.1.countTwig (u.portLowG g) 0x106 1 else i.1) →
      w = (v.fcTake (portOfG (u.portLowG g)) x).modHPort (portOfG (u.portLowG g)) (fun h => { h with order := h.order + 1, lastTlp := v.now }) →
      AfterAll (.tlpIngress t g x) s
        ((((w.countTwig (u.portLowG g) 0x100 1).countTwig (u.portLowG g) 0x102 x.data.length).ingress (u.portLowG g) x (w.hport (portOfG (u.portLowG g))).order).fcSettle u)) ∧
    (∀ g x, g < 160 → isT g = false → u.twigOffline g = false → (u.hport (portOfG (u.portLowG g))).up = true → u.fcCovers (portOfG (u.portLowG g)) x = false →
      AfterAll (.tlpIngress t g x) s (hpLinkRecoveryEffect u (portOfG (u.portLowG g)) .overflow)) ∧
    (∀ g x, (160 ≤ g ∨ isT g = true ∨ u.twigOffline g = true ∨ (u.hport (portOfG (u.portLowG g))).up = false) → AfterAll (.tlpIngress t g x) s u) ∧
    (∀ n a d, u.core.queues.find? (fun d => d.id == n && d.cut && decide (d.arrived < d.len)) = some d →
      AfterAll (.cutThroughStart t n a true) s (u.modDesc n (fun e => { e with arrived := max d.arrived (min a d.len), eligible := e.eligible || decide (u.cutThreshold e ≤ max d.arrived (min a d.len)) }))) ∧
    (∀ n a d, u.core.queues.find? (fun d => d.id == n && d.cut && decide (d.arrived < d.len)) = some d → AfterAll (.cutThroughStart t n a false) s (u.badTail d)) ∧
    (∀ n a ok, u.core.queues.find? (fun d => d.id == n && d.cut && decide (d.arrived < d.len)) = none → AfterAll (.cutThroughStart t n a ok) s u) ∧
    (∀ n, After (.cutResend t n) s (u.modDesc n (fun d => if d.cut then { d with arrived := d.len, eligible := true, nullified := false } else d))) ∧
    (∀ l, l < 8 → AfterAll (.bufStructFault t l) s ((u.contain (.limb l)).note { Ev.plain (srcLimb l 3) (Config.eventCode (srcLimb l 3)) 2 with action := 3 })) ∧
    (∀ l, 8 ≤ l → AfterAll (.bufStructFault t l) s u) ∧
    (∀ l, After (.cellFreeDone t l) s (u.modCore (fun c => { c with freeing := c.freeing.filter (fun f => limbOf f.egress ≠ l) }))) ∧
    (∀ p tc, u.heldClass p tc = true → u.oldClassLeft p tc (u.classFor p tc) = false →
      After (.classMapRelease t p tc) s (u.reclass p tc (u.classFor p tc))) ∧
    (∀ p tc, u.heldClass p tc = false ∨ u.oldClassLeft p tc (u.classFor p tc) = true → After (.classMapRelease t p tc) s u) ∧
    (∀ p tc h, u.core.holds.find? (fun h => h.part == p && h.tc == tc) = some h → h.raised = false → u.after h.since 10000000 = true →
      After (.classMapHold t p tc) s (({ u with core := { u.core with holds := u.core.holds.map (fun k => if k = h then { k with raised := true } else k) } }).each
        (({ u with core := { u.core with holds := u.core.holds.map (fun k => if k = h then { k with raised := true } else k) } }.holdTwigs p tc).foldl (fun l g => insertNew l (limbOf g)) [])
        (fun x l => x.noteFree (srcLimb l 4) 0))) ∧
    (∀ p tc, (∀ h ∈ u.core.holds, h.part = p ∧ h.tc = tc → h.raised = true ∨ u.after h.since 10000000 = false) → After (.classMapHold t p tc) s u) ∧
    (After (.allotmentGrant t) s (u.each ((List.range 64).filter u.capped) State.grant)) ∧
    (∀ st w, AfterAll (.winFetchDone t st w false) s
      (u.noteFree (if st < 4 then srcBough (((u.gates.misses.find? (fun m => m.stem == st && m.window == w)).map (fun m => boughOf m.src)).getD (10 * st)) 1 else 0xBCC) 1)) ∧
    (∀ st w v, v = (u.modGates (fun x => x.cachePut st w)).modGates (fun x => { x with misses := x.misses.filter (fun m => !(m.stem == st && m.window == w)), heldTlps := x.heldTlps.filter (fun e => !(stemOf e.1 == st)) }) →
      AfterAll (.winFetchDone t st w true) s (((v.each ((u.modGates (fun x => x.cachePut st w)).gates.misses.filter (fun m => m.stem == st && m.window == w)) State.goOn).each
        ((u.modGates (fun x => x.cachePut st w)).gates.heldTlps.filter (fun e => stemOf e.1 == st)) (fun x e => x.ingress e.1 e.2.1 e.2.2)).fcSettle u)) ∧
    (∀ st gate v, v = u.modGates (fun x => { x with heldGates := eraseAll x.heldGates (st, gate), heldTlps := x.heldTlps.filter (fun e => !(e.1 < 160 && stemOf e.1 == st)) }) →
      AfterAll (.gateReloadDone t st gate) s ((v.each (u.gates.heldTlps.filter (fun e => e.1 < 160 && stemOf e.1 == st)) (fun x e => x.ingress e.1 e.2.1 e.2.2)).fcSettle u)) ∧
    (∀ g b, g < 160 → isT g = false → u.twigOffline (u.portLowG g) = false → (u.hport (portOfG (u.portLowG g))).lstate = .l0 →
      AfterAll (.egressStart t g b) s (u.sendPort (u.portLowG g) b)) ∧
    (∀ q b sq, q < 16 → u.trunkUp q = true → (u.trunk q).crypt = false → (u.trunk q).tx.replayAt = some sq → u.slotUse q ≠ .prune →
      AfterAll (.egressStart t (gOfTrunk q) b) s (u.replayFu q sq)) ∧
    (∀ q b, q < 16 → u.trunkUp q = true → (u.trunk q).crypt = false → (u.trunk q).tx.replayAt = none → (u.trunk q).tx.paused = true →
      AfterAll (.egressStart t (gOfTrunk q) b) s (u.sendIdle q)) ∧
    (∀ q b, q < 16 → u.trunkUp q = true → (u.trunk q).crypt = false → (u.trunk q).tx.replayAt = none → (u.trunk q).tx.paused = false →
      (u.trunk q).tx.buf.length < 1024 → AfterAll (.egressStart t (gOfTrunk q) b) s (u.newFu q b)) ∧
    (∀ q b, q < 16 → u.trunkUp q = false → AfterAll (.egressStart t (gOfTrunk q) b) s u) ∧
    (∀ g b, 160 ≤ g → g < 164 → u.awake = true → AfterAll (.egressStart t g b) s (u.serveIntake g)) ∧
    (∀ g b, 164 ≤ g → AfterAll (.egressStart t g b) s u)

/-- A configuration request of a home partition that resets or is held is answered with abort. Otherwise a read of the upstream bridge, of a
present VDP and of a module function that the request reaches is answered with its register, and a write of one changes that register as
the bridge or the function does and is answered as successful; one to a VDP or function that is not there is answered as unsupported.
While a bridged access is held, one to a bridge or function is counted and told to come again later. One to a device below a bound VDP
goes to that device with the requester's ID, tag, register and data; in a contained partition it is answered with abort, and below an
unbound VDP or past an ARI function number that may not be used as unsupported. A partition that is not at home here answers nothing.
Completes (exec answers the next state that the clause gives): configRequest. (06_partitions.md R203 R210 R226; 08_fabric_bridging.md
R300; 11_faults_and_containment.md R378) -/
def Obligations.PartitionConfiguration : Prop :=
  ∀ (s u : State) (t : Nat), u = s.tick t →
    (∀ p rid tag target f val, p < 64 → u.isHome p = true → (u.part p).state = .resetting ∨ (u.part p).state = .held →
      AfterAll (.configRequest t p rid tag target f val) s (u.cfgAnswer p rid tag .aborted 0)) ∧
    (∀ p rid tag f, p < 64 → u.isHome p = true → (u.part p).state ≠ .resetting → (u.part p).state ≠ .held → u.fabric.bridge = [] →
      AfterAll (.configRequest t p rid tag .upstream f none) s (u.cfgAnswer p rid tag .successful (u.bridgeRead p none f))) ∧
    (∀ p rid tag f x, p < 64 → u.isHome p = true → (u.part p).state ≠ .resetting → (u.part p).state ≠ .held → u.fabric.bridge = [] →
      AfterAll (.configRequest t p rid tag .upstream f (some x)) s ((u.bridgeWrite p none f x).cfgAnswer p rid tag .successful 0)) ∧
    (∀ p rid tag n f, p < 64 → u.isHome p = true → (u.part p).state ≠ .resetting → (u.part p).state ≠ .held → u.fabric.bridge = [] → u.vdpPresent p n = true →
      AfterAll (.configRequest t p rid tag (.vdp n) f none) s (u.cfgAnswer p rid tag .successful (u.bridgeRead p (some n) f))) ∧
    (∀ p rid tag n f x, p < 64 → u.isHome p = true → (u.part p).state ≠ .resetting → (u.part p).state ≠ .held → u.fabric.bridge = [] → u.vdpPresent p n = true →
      AfterAll (.configRequest t p rid tag (.vdp n) f (some x)) s ((u.bridgeWrite p (some n) f x).cfgAnswer p rid tag .successful 0)) ∧
    (∀ p rid tag n f val, p < 64 → u.isHome p = true → (u.part p).state ≠ .resetting → (u.part p).state ≠ .held → u.fabric.bridge = [] → u.vdpPresent p n = false →
      AfterAll (.configRequest t p rid tag (.vdp n) f val) s (u.cfgAnswer p rid tag .unsupported 0)) ∧
    (∀ p rid tag n f, p < 64 → u.isHome p = true → (u.part p).state ≠ .resetting → (u.part p).state ≠ .held → u.fabric.bridge = [] → u.fnReached p n = true →
      AfterAll (.configRequest t p rid tag (.function n) f none) s (u.cfgAnswer p rid tag .successful (u.fnRead p n f))) ∧
    (∀ p rid tag n f x, p < 64 → u.isHome p = true → (u.part p).state ≠ .resetting → (u.part p).state ≠ .held → u.fabric.bridge = [] → u.fnReached p n = true →
      AfterAll (.configRequest t p rid tag (.function n) f (some x)) s ((u.fnWrite p n f x).cfgAnswer p rid tag .successful 0)) ∧
    (∀ p rid tag n f val, p < 64 → u.isHome p = true → (u.part p).state ≠ .resetting → (u.part p).state ≠ .held → u.fabric.bridge = [] → u.fnReached p n = false →
      AfterAll (.configRequest t p rid tag (.function n) f val) s (u.cfgAnswer p rid tag .unsupported 0)) ∧
    (∀ p rid tag target f val, p < 64 → u.isHome p = true → (u.part p).state ≠ .resetting → (u.part p).state ≠ .held → u.fabric.bridge ≠ [] →
      (∀ n m, target ≠ .device n m) → AfterAll (.configRequest t p rid tag target f val) s ((u.countHeart 0x385 1).cfgAnswer p rid tag .retry 0)) ∧
    (∀ p rid tag n m f val, p < 64 → u.isHome p = true → (u.part p).state ≠ .resetting → (u.part p).state ≠ .held → (u.part p).state ≠ .contained →
      n ≠ 0xFF → (u.bind p n).kind ≠ 0 → (m < 8 ∨ ((u.part p).vdp n).fld .ariForwarding ≠ 0) →
      AfterAll (.configRequest t p rid tag (.device n m) f val) s (u.cfgDevice p n m f val rid tag)) ∧
    (∀ p rid tag n m f val, p < 64 → u.isHome p = true → (u.part p).state ≠ .resetting → (u.part p).state ≠ .held → (u.part p).state ≠ .contained →
      (n = 0xFF ∨ (u.bind p n).kind = 0 ∨ (8 ≤ m ∧ ((u.part p).vdp n).fld .ariForwarding = 0)) →
      AfterAll (.configRequest t p rid tag (.device n m) f val) s (u.cfgAnswer p rid tag .unsupported 0)) ∧
    (∀ p rid tag n m f val, p < 64 → u.isHome p = true → (u.part p).state = .contained →
      AfterAll (.configRequest t p rid tag (.device n m) f val) s (u.cfgAnswer p rid tag .aborted 0)) ∧
    (∀ p rid tag target f val, (64 ≤ p ∨ u.isHome p = false) → AfterAll (.configRequest t p rid tag target f val) s u)

/-- Of a home partition that neither resets nor is held, Secondary Bus Reset of a present VDP acts on that VDP; that of the upstream bridge is
kept and acts on every bound VDP and on VDP 0xFF; of a partition that resets or is held, or is not at home here, and of an absent VDP, it
does nothing. A hot reset on the upstream link resets the partition as cause 1 and takes the link down; link-down resets it as cause 2; a
partition with no upstream twig is not reset by them. Completed steps leave the partition HELD while the cause lasts, else ACTIVE with its
event 0xBC1; a partition that does not reset is left as it is. The cause of a reset ends, unless the home crown is another one that is
fenced. A reset notice of the home crown resets a member partition as cause 4; one of any other sender, or for a partition that is not
here, does nothing; while a bridged access is held it is told to come again later. Slot power and Link Disable act on a VDP that is
served, and on no other. A slice's completed function-level resets are over, and its link state follows. Completes (exec answers the next
state that the clause gives): secondaryBusReset, hotResetReceived, partResetStepsDone, partResetCauseEnd, resetNotice,
powerControllerControl, linkDisable, sliceFlrDone. (03_host_ports.md R98; 06_partitions.md R207 R215 R223 R224 R225 R226 R227;
08_fabric_bridging.md R287) -/
def Obligations.PartitionResets : Prop :=
  ∀ (s u : State) (t : Nat), u = s.tick t →
    (∀ p n b, p < 64 → u.isHome p = true → (u.part p).state ≠ .resetting → (u.part p).state ≠ .held → u.vdpPresent p n = true →
      AfterAll (.secondaryBusReset t p (some n) b) s (u.vdpSbr p n b)) ∧
    (∀ p n b, u.vdpPresent p n = false → AfterAll (.secondaryBusReset t p (some n) b) s u) ∧
    (∀ p b v, p < 64 → u.isHome p = true → (u.part p).state ≠ .resetting → (u.part p).state ≠ .held → v = u.modBridge p none (fun x => { x with sbr := b }) →
      AfterAll (.secondaryBusReset t p none b) s (v.each ((List.range 256).filter (fun n => n == 0xFF || (v.bind p n).kind ≠ 0)) (fun w n => w.vdpSbr p n b))) ∧
    (∀ p n b, (64 ≤ p ∨ u.isHome p = false ∨ (u.part p).state = .resetting ∨ (u.part p).state = .held) → AfterAll (.secondaryBusReset t p n b) s u) ∧
    (∀ p g, p < 64 → u.upTwig p = some g → AfterAll (.hotResetReceived t p false) s ((u.partReset p 1).hpDown (portOfG (u.portLowG g)) 1 1)) ∧
    (∀ p g, p < 64 → u.upTwig p = some g → AfterAll (.hotResetReceived t p true) s (u.partReset p 2)) ∧
    (∀ p b, (64 ≤ p ∨ u.upTwig p = none) → AfterAll (.hotResetReceived t p b) s u) ∧
    (∀ p, p < 64 → (u.part p).state = .resetting → (u.part p).causeOn = true → After (.partResetStepsDone t p) s (u.modPart p (fun x => { x with state := .held }))) ∧
    (∀ p, p < 64 → (u.part p).state = .resetting → (u.part p).causeOn = false →
      After (.partResetStepsDone t p) s ((u.modPart p (fun x => { x with state := .active })).noteAt 0xBC1 p 0)) ∧
    (∀ p, (64 ≤ p ∨ (u.part p).state ≠ .resetting) → After (.partResetStepsDone t p) s u) ∧
    (∀ p, p < 64 → (∀ c, u.homeCrown p = some c → c = u.crownId ∨ u.fenced c = false) → After (.partResetCauseEnd t p) s (u.partCauseEnd p)) ∧
    (∀ p c, u.homeCrown p = some c → c ≠ u.crownId → u.fenced c = true → After (.partResetCauseEnd t p) s u) ∧
    (∀ c gp p, u.fabric.bridge = [] → u.partOfGp gp = some p → c ≠ u.crownId → u.homeCrown p = some c → AfterAll (.resetNotice t c gp) s (u.partReset p 4)) ∧
    (∀ c gp, u.fabric.bridge = [] → (∀ p, u.partOfGp gp = some p → c = u.crownId ∨ u.homeCrown p ≠ some c) → AfterAll (.resetNotice t c gp) s u) ∧
    (∀ c gp, u.fabric.bridge ≠ [] → AfterAll (.resetNotice t c gp) s ((u.countHeart 0x385 1).emit (.signal c gp "retry later" []))) ∧
    (∀ p n b, u.serves p n = true → AfterAll (.powerControllerControl t p n b) s (u.slotPower p n b)) ∧
    (∀ p n b, u.serves p n = true → AfterAll (.linkDisable t p n b) s (u.linkOff p n b)) ∧
    (∀ p n b, u.serves p n = false → AfterAll (.powerControllerControl t p n b) s u) ∧
    (∀ p n b, u.serves p n = false → AfterAll (.linkDisable t p n b) s u) ∧
    (∀ p n, p < 64 → ((u.part p).vdp n).flrRunning = true → After (.sliceFlrDone t p n) s ((u.modVdp p n (fun b => { b with flrRunning := false })).sliceLink p n))

/-- Setting MSI-X Enable of a home partition, where it is clear, and unmasking a vector send what is pending. An event of a grove partition at
home here is delivered to its host; while a bridged access is held it is told to come again later. A software event source raises its F0
event for an installer, and for an operator exactly where EVENT_MAP sends that source to its partition; for no one else, and outside 0xC40
to 0xFFF for nobody. A copy of a binding is taken from the home crown, and by it from the crown that the binding names, and compared. The
home crown shows a remote slot's state as its crown says it; the crown that holds the twig acts on the home crown's slot controls. The
installer, and the operator of a partition that holds a slice, ask for the deferred reset of a shared device; another operator does not.
Only an installer forces it. PERST# of a resetting device is released 1 ms after, and Detect begins; sooner nothing happens. An enumerated
device is idle and present in its holders' slots, with its event 0xBC4 if a reset caused it. Without a link 1 s after, the reset has
failed with its F2 event. Completes (exec answers the next state that the clause gives): msixEnable, vectorUnmask, forwardedEvent,
eventSoft, bindingCopy, remoteSlotState, sharedResetRequest, sharedResetForce, sharedPerstEnd, sharedEnumDone, sharedResetFail.
(06_partitions.md R207 R214 R215 R216 R220 R222 R211 R229 R230 R231 R232; 08_fabric_bridging.md R300) -/
def Obligations.PartitionEventsAndSharedDevices : Prop :=
  ∀ (s u : State) (t : Nat), u = s.tick t →
    (∀ p, p < 64 → u.isHome p = true → ((u.part p).fn 0).msixEnable = false → After (.msixEnable t p) s (u.msixOn p 0)) ∧
    (∀ p, (64 ≤ p ∨ u.isHome p = false ∨ ((u.part p).fn 0).msixEnable = true) → After (.msixEnable t p) s u) ∧
    (∀ p n, p < 64 → u.isHome p = true → n < 2048 →
      After (.vectorUnmask t p n) s ((u.modFn p 0 (fun x => { x with unmasked := insertNew x.unmasked n })).sendPending p 0)) ∧
    (∀ gp p n src code cls ft, u.partOfGp gp = some p → u.isHome p = true → u.fabric.bridge = [] →
      After (.forwardedEvent t gp n src code cls ft) s (u.deliverHome p n src code cls ft)) ∧
    (∀ gp p n src code cls ft, u.partOfGp gp = some p → u.isHome p = true → u.fabric.bridge ≠ [] →
      After (.forwardedEvent t gp n src code cls ft) s ((u.countHeart 0x385 1).emit (.answer "retry later" [gp]))) ∧
    (∀ k src, 0xC40 ≤ src → src ≤ 0xFFF → After (.eventSoft t (.installer k) src) s (u.noteFree src 0)) ∧
    (∀ p src, 0xC40 ≤ src → src ≤ 0xFFF → bitOf (u.get (Key.EVENT_MAP + src)) 31 = true → field (u.get (Key.EVENT_MAP + src)) 29 24 = p →
      After (.eventSoft t (.operator p) src) s (u.noteFree src 0)) ∧
    (∀ who src, (src < 0xC40 ∨ 0xFFF < src ∨ (who.isInstaller = false ∧ ∀ p, who.operatorOf = some p → bitOf (u.get (Key.EVENT_MAP + src)) 31 = false ∨ field (u.get (Key.EVENT_MAP + src)) 29 24 ≠ p)) →
      After (.eventSoft t who src) s u) ∧
    (∀ c gp p n v, u.fabric.bridge = [] → u.partOfGp gp = some p → (u.isHome p = true ∧ (u.bind p n).crown = c ∨ u.isHome p = false ∧ u.homeCrown p = some c) → n < 255 → c ≠ u.crownId →
      AfterAll (.bindingCopy t c gp n v) s ((u.modVdp p n (fun b => { b with farCopy := some v })).compareBinding p n)) ∧
    (∀ c gp p n pr li x la ra wi ev, u.fabric.bridge = [] → u.partOfGp gp = some p → u.isHome p = true → (u.bind p n).kind ≠ 0 → (u.bind p n).crown = c → c ≠ u.crownId →
      ((u.part p).vdp n).live = true → AfterAll (.remoteSlotState t c gp n (.state pr li x la ra wi ev)) s (u.showRemote p n pr li la ra wi ev)) ∧
    (∀ c gp p n m, u.fabric.bridge = [] → u.partOfGp gp = some p → u.isHome p = false → (u.bind p n).kind ≠ 0 → (u.bind p n).crown = u.crownId → u.homeCrown p = some c →
      AfterAll (.remoteSlotState t c gp n m) s (u.slotControl p n m)) ∧
    (∀ k g, g < 160 → AfterAll (.sharedResetRequest t (.installer k) g) s (u.sharedRequest g 1)) ∧
    (∀ p g, g < 160 → p ∈ u.holdersOf g → AfterAll (.sharedResetRequest t (.operator p) g) s (u.sharedRequest g 2)) ∧
    (∀ p g, p ∉ u.holdersOf g → AfterAll (.sharedResetRequest t (.operator p) g) s u) ∧
    (∀ k g, g < 160 → AfterAll (.sharedResetForce t (.installer k) g) s (u.sharedForce g)) ∧
    (∀ who g, who.isInstaller = false → AfterAll (.sharedResetForce t who g) s u) ∧
    (∀ g, g < 160 → (u.sharedOf g).mode = .resetting → (u.sideband (portOfG g)).perst = true → u.after (u.sharedOf g).since 1000000 = true →
      After (.sharedPerstEnd t g) s ((u.perst (portOfG g) false).modHPort (portOfG g) (fun h => { h with lstate := .detect, detectAt := u.now }))) ∧
    (∀ g, u.after (u.sharedOf g).since 1000000 = false → After (.sharedPerstEnd t g) s u) ∧
    (∀ g rid stride v w, g < 160 → (u.sharedOf g).mode = .enumerating → u.ideFailed g = false →
      v = u.modShared g (fun x => { x with mode := .idle, rid := rid, stride := stride }) →
      w = v.each (v.slicesOf g) (fun x b => ((x.modVdp b.1 b.2.1 (fun y => { y with present := true })).slotEvent b.1 b.2.1 0).sliceLink b.1 b.2.1) →
      After (.sharedEnumDone t g rid stride) s (if (w.sharedOf g).cause = 0 then w else w.noteAt 0xBC4 g 0)) ∧
    (∀ g, g < 160 → (u.sharedOf g).mode = .resetting → (u.hport (portOfG g)).up = false → u.after (u.sharedOf g).since 1000000000 = true →
      AfterAll (.sharedResetFail t g) s ((u.modShared g (fun x => { x with mode := .idle })).noteAt 0xBC5 g 2))

/-- PROT_DRAINED becomes an epoch, above it and not above PROT_EPOCH, once nothing parsed under an earlier one is left; else it stays as it
is. When it has trailed PROT_EPOCH for 10 ms, its F0 event 0xBCF is raised, once. The scrubber's visit to a gate counts towards its pass,
and a pass over all 160 gates ends with a new one begun; regions that overlap are an F3 event 0xBCD of that gate, copies that differ an F3
event 0xBCE; a gate above 159 is none. An error in a stem's copy is an F1 event of the stem's first bough, and an uncorrectable one also
holds the gate until its reload; another stem or gate is none. Completes (exec answers the next state that the clause gives):
protDrainComplete, protDrainSlow, gateScrubVisit, gateCopyError. (07_translation_and_gates.md R270 R271 R272) -/
def Obligations.GateCommands : Prop :=
  ∀ (s u : State) (t : Nat), u = s.tick t →
    (∀ n, n ≤ u.gates.epoch.toNat → u.gates.drained.toNat < n → u.drainedTo n = true →
      After (.protDrainComplete t n) s (u.modGates (fun x => { x with drained := BitVec.ofNat 32 n }))) ∧
    (∀ n, (u.gates.epoch.toNat < n ∨ n ≤ u.gates.drained.toNat ∨ u.drainedTo n = false) → After (.protDrainComplete t n) s u) ∧
    (u.gates.drained ≠ u.gates.epoch → u.gates.slowRaised = false → u.after u.gates.epochAt 10000000 = true →
      After (.protDrainSlow t) s ((u.modGates (fun x => { x with slowRaised := true })).noteFree 0xBCF 0)) ∧
    ((u.gates.drained = u.gates.epoch ∨ u.gates.slowRaised = true ∨ u.after u.gates.epochAt 10000000 = false) → After (.protDrainSlow t) s u) ∧
    (∀ gate ok v w, gate < 160 → v = u.modGates (fun x => if (insertNew u.gates.scrubbed gate).length = 160 then { x with scrubbed := [], scrubPass := x.scrubPass + 1 } else { x with scrubbed := insertNew u.gates.scrubbed gate }) →
      w = (if overlapIn (u.regions gate) then v.noteAt 0xBCD gate 3 else v) →
      AfterAll (.gateScrubVisit t gate ok) s (if ok then w else w.noteAt 0xBCE gate 3)) ∧
    (∀ gate ok, 160 ≤ gate → AfterAll (.gateScrubVisit t gate ok) s u) ∧
    (∀ st gate, st < 4 → gate < 160 →
      AfterAll (.gateCopyError t st gate false) s ((u.modGates (fun x => { x with heldGates := insertNew x.heldGates (st, gate) })).noteFree (srcBough (10 * st) 2) 1)) ∧
    (∀ st gate, st < 4 → gate < 160 → AfterAll (.gateCopyError t st gate true) s (u.noteFree (srcBough (10 * st) 2) 1)) ∧
    (∀ st gate ok, (4 ≤ st ∨ 160 ≤ gate) → AfterAll (.gateCopyError t st gate ok) s u)

/-- A trunk in L0 for ROUTE_SETTLE pauses each trunk that carries its flows, to move them home; one that is not in L0, or not so long, or with
ROUTE_SETTLE 0, does not. On an installer's ROUTE_REBALANCE each interim flow of the named destination, or of all, whose home trunk is in
L0 is so paused; on another caller's nothing is. A paused trunk that has drained moves its flows to those homes that are in L0 and
resumes; one not drained is left alone, and after 100 µs it resumes with its flows, its homes settle afresh and its F0 event 0xC05 is
raised. A destination that has members, all of them lost, is given up; while one is not lost it is not. A crown that has trunks, all of
them lost, and no member trunk in L0 is fenced with a notice; while one trunk is not lost it is not. A notice of another crown, newer than
the last of its issuer for its crown, is kept, forwarded on the other trunks and acted on: the fence of the crown set or cleared, this
crown's own fence known; one of this crown or not newer is ignored. An installer sets a fence on another crown and clears one; nobody else
does. Completes (exec answers the next state that the clause gives): rebalanceStart, routeRebalance, rebalanceComplete,
rebalanceAbandoned, routeUnreachable, fenceByTrunkLoss, fenceNotice, fenceForceSet, fenceForceClear. (08_fabric_bridging.md R280 R282 R284
R285 R286 R287) -/
def Obligations.RoutingResults : Prop :=
  ∀ (s u : State) (t : Nat), u = s.tick t →
    (∀ q, q < 16 → u.trunkUp q = true → u.get Key.ROUTE_SETTLE ≠ 0 → u.after (assocGetD u.fabric.settleAt q 0) (u.get Key.ROUTE_SETTLE * 1000000) = true →
      After (.rebalanceStart t q) s (u.each (u.interimOf q) (fun v r => v.pauseFor r q))) ∧
    (∀ q, (u.trunkUp q = false ∨ u.get Key.ROUTE_SETTLE = 0 ∨ u.after (assocGetD u.fabric.settleAt q 0) (u.get Key.ROUTE_SETTLE * 1000000) = false) → After (.rebalanceStart t q) s u) ∧
    (∀ k d, After (.routeRebalance t (.installer k) d) s (u.each (u.fabric.interim.filter (fun e => d = 0xFFFF ∨ e.1 = d % 1024)) (fun v e =>
      match v.homeMember e.1 e.2.1 with | some q => if v.trunkUp q then v.pauseFor e.2.2 q else v | none => v))) ∧
    (∀ who d, who.isInstaller = false → After (.routeRebalance t who d) s u) ∧
    (∀ r, u.fabric.rebalances.filter (·.interim == r) ≠ [] → u.drained r = true →
      After (.rebalanceComplete t r) s ((u.each ((u.fabric.rebalances.filter (·.interim == r)).filter (fun b => u.trunkUp b.home)) (fun v b => v.moveHome r b.home)).resumeTrunk r)) ∧
    (∀ r, u.drained r = false → After (.rebalanceComplete t r) s u) ∧
    (∀ r, (u.fabric.rebalances.filter (·.interim == r)).any (fun b => u.after b.since 100000) = true → u.drained r = false →
      After (.rebalanceAbandoned t r) s (((u.modFabric (fun f => { f with settleAt := (u.fabric.rebalances.filter (·.interim == r)).foldl (fun l b => assocPut l b.home u.now) f.settleAt })).resumeTrunk r).noteAt 0xC05 r 0)) ∧
    (∀ r, ((u.fabric.rebalances.filter (·.interim == r)).any (fun b => u.after b.since 100000) = false ∨ u.drained r = true) → After (.rebalanceAbandoned t r) s u) ∧
    (∀ d, d < 1024 → d ≠ u.crownId → (u.membersFor d).isEmpty = false → (u.membersFor d).all u.trunkLost = true →
      AfterAll (.routeUnreachable t d) s (u.giveUp d)) ∧
    (∀ d q, q ∈ u.membersFor d → u.trunkLost q = false → AfterAll (.routeUnreachable t d) s u) ∧
    (∀ c, c < 1024 → c ≠ u.crownId →
      (u.trunksTo c).isEmpty = false → (u.trunksTo c).all u.trunkLost = true →
      (u.membersFor c).all (fun q => !u.trunkUp q) = true → (c, FenceCode.trunkLoss) ∉ u.fabric.fences →
      AfterAll (.fenceByTrunkLoss t c) s ((u.fenceOn c .trunkLoss).fenceNotice c true)) ∧
    (∀ c q, q ∈ u.trunksTo c → u.trunkLost q = false → AfterAll (.fenceByTrunkLoss t c) s u) ∧
    (∀ q n v, n.issuer ≠ u.crownId → (∀ k, assocGet u.fabric.fenceSeen (n.crown, n.issuer) = some k → newer16 n.number k = true) →
      v = (u.modFabric (fun f => { f with fenceSeen := assocPut f.fenceSeen (n.crown, n.issuer) n.number })).sendControl (fun r => r ≠ q) (.fence n) →
      AfterAll (.fenceNotice t q n) s (if n.crown = u.crownId then (if n.set then v.modFabric (fun f => { f with ownFenced := true }) else v)
        else if n.set then v.fenceOn n.crown .notice else v.fenceOff n.crown .notice)) ∧
    (∀ q n, (n.issuer = u.crownId ∨ ∃ k, assocGet u.fabric.fenceSeen (n.crown, n.issuer) = some k ∧ newer16 n.number k = false) → AfterAll (.fenceNotice t q n) s u) ∧
    (∀ k c, c < 1024 → c ≠ u.crownId → AfterAll (.fenceForceSet t (.installer k) c) s (u.fenceOn c .installer)) ∧
    (∀ k c, c < 1024 → After (.fenceForceClear t (.installer k) c) s (u.fenceOff c .installer)) ∧
    (∀ who c, who.isInstaller = false → AfterAll (.fenceForceSet t who c) s u) ∧
    (∀ who c, who.isInstaller = false → After (.fenceForceClear t who c) s u)

/-- A tracked request that was sent and has no whole completion within NP_TIMEOUT is ended with abort, its entry quarantined, logged, counted
(0x381) and reported as F0 event 0xC01; one not sent, already quarantined, or within the time, is left. A quarantined entry is free after
2 × NP_TIMEOUT, not before. A proxy tag unanswered for 2 s is free, and a completion that still comes for it is told apart; one younger is
kept. A pending far-failure notice leaves on the trunk of the route to its crown, counted (0x30C), and is no longer pending; to a fenced
crown, or with no trunk up, it is dropped. One that arrives is counted (0x30D) and reported in its partition and resource class; one whose
partition or class is not known here is counted alone. A lock held for 10 ms at a bough is broken; younger ones stay. The host's Unlock of
a partition is a request of its upstream twig; without one it ends the partition's locks, and where there are none it is counted as a
drop. Completes (exec answers the next state that the clause gives): npTimeoutExpired, trackQuarantineEnd, proxyTagTimeout,
farFailureSend, farFailureNotice, lockTimeout, unlock. (08_fabric_bridging.md R289 R290 R291 R293 R294 R295 R296 R297) -/
def Obligations.RemoteRequests : Prop :=
  ∀ (s u : State) (t : Nat), u = s.tick t →
    (∀ n k v w, u.fabric.tracks.find? (·.index == n) = some k → k.quarantined = none → k.sent ≠ 0 → u.after k.sent (u.npTimeout k.part) = true →
      v = (u.endTrack k .aborted).modFabric (fun f => { f with tracks := f.tracks.map (fun e => if e.index = n then { e with quarantined := some (u.endTrack k .aborted).now } else e) }) →
      w = v.logEntry { desc := k.descBits, header := k.header, ft := v.stampFt, source := 0xC01, cause := 0, histSeq := none, inj := false } →
      After (.npTimeoutExpired t n) s ((w.countHeart 0x381 1).noteAt 0xC01 k.part 0)) ∧
    (∀ n k, u.fabric.tracks.find? (·.index == n) = some k → (k.quarantined.isSome = true ∨ k.sent = 0 ∨ u.after k.sent (u.npTimeout k.part) = false) →
      After (.npTimeoutExpired t n) s u) ∧
    (∀ n k at_, u.fabric.tracks.find? (·.index == n) = some k → k.quarantined = some at_ → u.after at_ (2 * u.npTimeout k.part) = true →
      After (.trackQuarantineEnd t n) s (u.modFabric (fun f => { f with tracks := f.tracks.filter (·.index ≠ n) }))) ∧
    (∀ n k at_, u.fabric.tracks.find? (·.index == n) = some k → k.quarantined = some at_ → u.after at_ (2 * u.npTimeout k.part) = false →
      After (.trackQuarantineEnd t n) s u) ∧
    (∀ p tag k, k ∈ u.fabric.proxies → k.port = gOfPort p → k.tag = tag → u.after k.at_ 2000000000 = true →
      After (.proxyTagTimeout t p tag) s (u.modFabric (fun f => { f with proxies := f.proxies.filter (fun k => !(k.port == gOfPort p && k.tag == tag && u.after k.at_ 2000000000)), lateReads := f.lateReads ++ [(Config.proxyId (gOfPort p), tag)] }))) ∧
    (∀ p tag, (∀ k ∈ u.fabric.proxies, k.port = gOfPort p → k.tag = tag → u.after k.at_ 2000000000 = false) → After (.proxyTagTimeout t p tag) s u) ∧
    (∀ c gp k q v, u.fabric.farPending.find? (fun p => p.crown == c && p.note.gpart == gp) = some k → u.fenced c = false → u.routeUp c 0 = some q →
      v = u.modFabric (fun f => { f with farPending := f.farPending.filter (fun p => !(p.crown == c && p.note.gpart == gp)) }) →
      After (.farFailureSend t c gp) s ((v.modTx q (fun x => { x with ctl := x.ctl ++ [.farFailure c k.note] })).countBough (boughOf (gOfTrunk q)) 0x30C 1)) ∧
    (∀ c gp k v, u.fabric.farPending.find? (fun p => p.crown == c && p.note.gpart == gp) = some k → (u.fenced c = true ∨ u.routeUp c 0 = none) →
      v = u.modFabric (fun f => { f with farPending := f.farPending.filter (fun p => !(p.crown == c && p.note.gpart == gp)) }) →
      After (.farFailureSend t c gp) s v) ∧
    (∀ q n p r, (u.countBough (boughOf (gOfTrunk q)) 0x30D 1).partOfGp n.gpart = some p → rclassOf n.rclass = some r →
      After (.farFailureNotice t q n) s ((u.countBough (boughOf (gOfTrunk q)) 0x30D 1).farFailureHere p r n.vdp n.header)) ∧
    (∀ q n, ((u.countBough (boughOf (gOfTrunk q)) 0x30D 1).partOfGp n.gpart = none ∨ rclassOf n.rclass = none) →
      After (.farFailureNotice t q n) s (u.countBough (boughOf (gOfTrunk q)) 0x30D 1)) ∧
    (∀ b k, k ∈ u.fabric.locks → k.bough = b → u.after k.since 10000000 = true → After (.lockTimeout t b) s (u.breakLock b)) ∧
    (∀ b, (∀ k ∈ u.fabric.locks, k.bough = b → u.after k.since 10000000 = false) → After (.lockTimeout t b) s u) ∧
    (∀ p g i x, p < 64 → u.upTwig p = some g → i = { src := u.portLowG g, part := p, rclass := .host, reqId := 0, entry := some none, key := none, trunk := none, srcCrown := u.crownId, gpart := u.groveId p, track := 0, flow := 0, hops := 0 } →
      x = { kind := .unlock, tc := 0, addr := 0, lenBytes := 0, hdrLen := 16, reqId := 0, tag := 0, data := [], ro := false, ido := false, ns := false, poisoned := false, specOk := true } →
      After (.unlock t p) s (u.withCredits i.src x (fun v => (v.unlockPart i x).1.submit i.src (some 0) ((v.unlockPart i x).1.dress i x (v.unlockPart i x).2)))) ∧
    (∀ p, p < 64 → u.upTwig p = none → u.fabric.locks.any (·.part == p) = true → After (.unlock t p) s (u.modFabric (fun f => { f with locks := f.locks.filter (·.part ≠ p) }))) ∧
    (∀ p, p < 64 → u.upTwig p = none → u.fabric.locks.any (·.part == p) = false → After (.unlock t p) s (u.countDrop 160 3))

/-- A core's bridge read is counted (0x383), held and goes out in its parts; a core with a read outstanding starts no second one; a read of no
bytes is counted alone; a posted write goes out part by part. A piece of bytes within one 4 KiB page is one part. A read not complete 50
ms after ends as a bus error, with its count 0x384 and its F0 event 0xC08: its outstanding parts are no longer waited for, and completions
that still come for them are told apart; within 50 ms it is not ended. The parts that were told to come later, and 1 µs has passed, are
sent again, and only those. A poll is counted (0x386) and takes each port's answer, but not while the 25 MHz reference is lost. A blinking
indicator toggles, at its pin too; one that does not blink stays. Completes (exec answers the next state that the clause gives):
bridgeRead, bridgeWrite, bridgeReadTimeout, bridgeReadRetry, sidebandPoll, indicatorBlink. (07_translation_and_gates.md R268;
08_fabric_bridging.md R299 R300 R301 R302; 17_electrical_and_package.md R541) -/
def Obligations.ManagementBridge : Prop :=
  ∀ (s u : State) (t : Nat), u = s.tick t →
    (∀ c p gate a n b, c < 8 → u.fabric.bridge.any (·.core == c) = false → bridgeParts c a n ≠ [] →
      b = { core := c, since := u.now, part := p, target := gate, parts := bridgeParts c a n } →
      AfterAll (.bridgeRead t c p gate a n) s (((u.countHeart 0x383 1).modFabric (fun f => { f with bridge := f.bridge ++ [b] })).bridgeGo b b.parts)) ∧
    (∀ c p gate a n, c < 8 → u.fabric.bridge.any (·.core == c) = false → bridgeParts c a n = [] → AfterAll (.bridgeRead t c p gate a n) s (u.countHeart 0x383 1)) ∧
    (∀ c p gate a n, (8 ≤ c ∨ u.fabric.bridge.any (·.core == c) = true) → AfterAll (.bridgeRead t c p gate a n) s u) ∧
    (∀ c p gate a d, c < 8 → AfterAll (.bridgeWrite t c p gate a d) s (u.each (bridgeParts c a d.length) (fun v k => v.coreAccess c p gate .memWrite k.tag k.addr k.len ((d.drop (k.addr - a)).take k.len)))) ∧
    (∀ a n, n ≤ 4096 → 0 < n → a % 4096 = 0 → parts4K a n = [(a, n)]) ∧
    (∀ c b v w, u.fabric.bridge.find? (·.core == c) = some b → u.after b.since 50000000 = true →
      v = u.modCore (fun x => { x with outstanding := x.outstanding.filter (fun r => r.src ≠ srcCore c) }) →
      w = v.modFabric (fun f => { f with lateReads := f.lateReads ++ (u.core.outstanding.filter (fun r => r.src == srcCore c)).map (fun r => (r.reqId, r.tag)), tracks := f.tracks.map (fun k => if k.src = srcCore c && k.quarantined.isNone then { k with quarantined := some u.now } else k), bridge := f.bridge.filter (·.core ≠ c) }) →
      After (.bridgeReadTimeout t c) s (((w.countHeart 0x384 1).emit (.answer "bus error" [c])).noteAt 0xC08 c 0)) ∧
    (∀ c b, u.fabric.bridge.find? (·.core == c) = some b → u.after b.since 50000000 = false → After (.bridgeReadTimeout t c) s u) ∧
    (∀ c b (due : BridgePart → Bool), u.fabric.bridge.find? (·.core == c) = some b → (∀ k, due k = (k.retryAt.any (fun at_ => u.after at_ 1000))) →
      AfterAll (.bridgeReadRetry t c) s ((u.modFabric (fun f => { f with bridge := f.bridge.map (fun e => if e.core = c then { e with parts := e.parts.map (fun k => if due k then { k with retryAt := none } else k) } else e) })).bridgeGo b (b.parts.filter due))) ∧
    (∀ l, u.power.ref25 = true → AfterAll (.sidebandPoll t l) s ((u.countHeart 0x386 1).each l State.pollPort)) ∧
    (∀ l, u.power.ref25 = false → AfterAll (.sidebandPoll t l) s u) ∧
    (∀ p, p < 144 → (u.sideband p).attnBlink = true →
      After (.indicatorBlink t p false) s ((u.modSideband p (fun x => { x with attnOn := !x.attnOn })).driveOut p 2 (!(u.sideband p).attnOn))) ∧
    (∀ p, p < 144 → (u.sideband p).powerBlink = true →
      After (.indicatorBlink t p true) s ((u.modSideband p (fun x => { x with powerOn := !x.powerOn })).driveOut p 3 (!(u.sideband p).powerOn))) ∧
    (∀ p, (u.sideband p).attnBlink = false → After (.indicatorBlink t p false) s u) ∧
    (∀ p, (u.sideband p).powerBlink = false → After (.indicatorBlink t p true) s u)

/-- An access that the pool's gate grants to an owner and for which no sweep runs reads or writes the lines as that owner: a read and an
AtomicOp answer the bytes, a partial write that meets a line in error is logged as discarded. One that the gate refuses is a gate fault
with its cause, one past the pool's end a gate fault of cause 1; one while the owner's lines are swept, or the pool is not ready, waits.
Training that succeeds starts the initialization sweep over a pool that lists no byte and no owner and draws new keys; one that fails
makes fabric memory unusable and is an F2 fault of each failed channel, of all where none is named; once trained, or while a test hold
lasts, it does nothing. The completed initialization sweep makes the pool usable, with its event; at another time it does nothing. An
epoch's completed sweep leaves the partition's lines zero and owned by the module, with its event; where none runs, nothing happens. A
patrol read is counted, with its retries, an F3 fault of the channel past three, and a failure of both reads confirmed; in a slot pruned
for maintenance, and of no line, none is made. A batch of refreshes pays one debt of every device, once in a maintenance slot it fits in;
elsewhere none is made. A temperature above 85 makes a device hot. Completes (exec answers the next state that the clause gives):
poolRead, poolWrite, poolPartialWrite, poolAtomic, memTrainingDone, memInitSweepDone, epochSweepDone, patrolScrubRead, memHotChange,
refreshBatch. (09_fabric_memory.md R308 R314 R315 R316 R322 R323 R324 R325 R330 R331 R333) -/
def Obligations.FabricMemoryResults : Prop :=
  ∀ (s u : State) (t : Nat), u = s.tick t →
    (∀ rc p a n rd o, a + n ≤ poolBytes → u.poolGrant rc p a true false = .owner o → u.poolWaits o = false →
      AfterAll (.poolRead t rc p a n rd) s ((u.poolGet o a n rd).1.emit (.answer "pool data" (poolAnswer (u.poolGet o a n rd).2.1 (u.poolGet o a n rd).2.2)))) ∧
    (∀ rc p a n rd k2, a + n ≤ poolBytes → u.poolGrant rc p a true false = .refused k2 →
      AfterAll (.poolRead t rc p a n rd) s (u.gateFault (u.poolIngress rc p) Carrier.zero (poolTlp .memRead a n []) 0x90 k2)) ∧
    (∀ rc p a n rd, poolBytes < a + n →
      AfterAll (.poolRead t rc p a n rd) s (u.gateFault (u.poolIngress rc p) Carrier.zero (poolTlp .memRead a n []) 0x90 1)) ∧
    (∀ rc p a n rd o, a + n ≤ poolBytes → u.poolGrant rc p a true false = .owner o → u.poolWaits o = true →
      AfterAll (.poolRead t rc p a n rd) s (u.emit (.answer "pool wait" [a]))) ∧
    (∀ rc p a d k b o, a + d.length ≤ poolBytes → u.poolGrant rc p a false true = .owner o → u.poolWaits o = false →
      AfterAll (.poolWrite t rc p a d k b) s ((u.poolPut o a d { goodRead with retries := k } b).1)) ∧
    (∀ rc p a d k b k2, a + d.length ≤ poolBytes → u.poolGrant rc p a false true = .refused k2 →
      AfterAll (.poolWrite t rc p a d k b) s (u.gateFault (u.poolIngress rc p) Carrier.zero (poolTlp .memWrite a d.length d) 0x90 k2)) ∧
    (∀ rc p a d k b, poolBytes < a + d.length →
      AfterAll (.poolWrite t rc p a d k b) s (u.gateFault (u.poolIngress rc p) Carrier.zero (poolTlp .memWrite a d.length d) 0x90 1)) ∧
    (∀ rc p a d k b o, a + d.length ≤ poolBytes → u.poolGrant rc p a false true = .owner o → u.poolWaits o = true →
      AfterAll (.poolWrite t rc p a d k b) s (u.emit (.answer "pool wait" [a]))) ∧
    (∀ rc p a d rd o, a + d.length ≤ poolBytes → u.poolGrant rc p a false true = .owner o → u.poolWaits o = false →
      AfterAll (.poolPartialWrite t rc p a d rd) s (if (u.poolPut o a d rd true).2 then (u.poolPut o a d rd true).1.logDiscard (mkDesc u (u.poolIngress rc p) Carrier.zero (poolTlp .memWrite a d.length d) 0 0) false 0xC0B 0 else (u.poolPut o a d rd true).1)) ∧
    (∀ rc p a d rd k2, a + d.length ≤ poolBytes → u.poolGrant rc p a false true = .refused k2 →
      AfterAll (.poolPartialWrite t rc p a d rd) s (u.gateFault (u.poolIngress rc p) Carrier.zero (poolTlp .memWrite a d.length d) 0x90 k2)) ∧
    (∀ rc p a d rd, poolBytes < a + d.length →
      AfterAll (.poolPartialWrite t rc p a d rd) s (u.gateFault (u.poolIngress rc p) Carrier.zero (poolTlp .memWrite a d.length d) 0x90 1)) ∧
    (∀ rc p a d rd o, a + d.length ≤ poolBytes → u.poolGrant rc p a false true = .owner o → u.poolWaits o = true →
      AfterAll (.poolPartialWrite t rc p a d rd) s (u.emit (.answer "pool wait" [a]))) ∧
    (∀ rc p op a n x c rd o, a + n ≤ poolBytes → u.poolGrant rc p a true true = .owner o → u.poolWaits o = false →
      AfterAll (.poolAtomic t rc p op a n x c rd) s ((u.atomicLine o op a n x c rd).1.emit (.answer "pool data" (poolAnswer (u.atomicLine o op a n x c rd).2.1 (u.atomicLine o op a n x c rd).2.2)))) ∧
    (∀ rc p op a n x c rd k2, a + n ≤ poolBytes → u.poolGrant rc p a true true = .refused k2 →
      AfterAll (.poolAtomic t rc p op a n x c rd) s (u.gateFault (u.poolIngress rc p) Carrier.zero (poolTlp op a n []) 0x90 k2)) ∧
    (∀ rc p op a n x c rd, poolBytes < a + n →
      AfterAll (.poolAtomic t rc p op a n x c rd) s (u.gateFault (u.poolIngress rc p) Carrier.zero (poolTlp op a n []) 0x90 1)) ∧
    (∀ rc p op a n x c rd o, a + n ≤ poolBytes → u.poolGrant rc p a true true = .owner o → u.poolWaits o = true →
      AfterAll (.poolAtomic t rc p op a n x c rd) s (u.emit (.answer "pool wait" [a]))) ∧
    (u.mem.mode = 0 → u.sec.hold = none →
      AfterAll (.memTrainingDone t true []) s (u.drew.modMem (fun m => { m with mode := 1, progress := 0, cells := [], owners := [], epochs := [], keyDraw := u.draws, keyWraps := [], refreshRing := u.ringClock / 8192, channels := m.channels.map (fun c => { c with state := 2, debt := 0 }) }))) ∧
    (∀ ok failed l, u.mem.mode = 0 → u.sec.hold = none → (ok = false ∨ failed.filter (· < 24) ≠ []) → l = (if ok = true ∨ failed ≠ [] then failed.filter (· < 24) else List.range 24) →
      AfterAll (.memTrainingDone t ok failed) s ((u.modMem (fun m => { m with mode := 3, channels := m.channels.map (fun c => { c with state := 2 }) })).each l (fun x d => x.channelFail d 2))) ∧
    (∀ ok failed, (u.mem.mode ≠ 0 ∨ u.sec.hold ≠ none) → AfterAll (.memTrainingDone t ok failed) s u) ∧
    (u.mem.mode = 1 → After (.memInitSweepDone t) s ((u.modMem (fun m => { m with mode := 2, progress := 100 })).noteAt 0xC11 0xFFFF 0)) ∧
    (u.mem.mode ≠ 1 → After (.memInitSweepDone t) s u) ∧
    (∀ gp l, gp ∈ u.mem.sweeping → l = (u.mem.owners.filter (fun e => e.2.gp.toNat == gp && e.2 ≠ Owner.module)).map (·.1) →
      After (.epochSweepDone t gp) s ((u.modMem (fun m => { m with cells := m.cells.filter (fun c => c.1 / 256 ∉ l), owners := m.owners.filter (fun e => e.1 ∉ l), sweeping := eraseAll m.sweeping gp, progress := 100 })).noteAt 0xC11 gp 0)) ∧
    (∀ gp, gp ∉ u.mem.sweeping → After (.epochSweepDone t gp) s u) ∧
    (∀ pla rd v w, pla < 24 * 2 ^ 24 → pla % 2 ^ 24 < firstPattern → u.mem.mode = 1 ∨ u.mem.mode = 2 → u.inCrownPrune = false →
      v = (u.countHeart 0x399 1).each (List.range (min rd.retries 3)) (fun x _ => (x.countHeart 0x394 1).noteAt 0xC0A (pla / 2 ^ 24) 1) →
      w = (if 3 < rd.retries then (v.memLog 4 (u.ownerAt pla).gp.toNat pla).channelFail (pla / 2 ^ 24) 3 else v) →
      AfterAll (.patrolScrubRead t pla rd) s (if firstTagLine ≤ pla % 2 ^ 24 || w.passes pla rd.first || w.passes pla rd.second then w else w.confirmed (pla / 2 ^ 24) pla (u.ownerAt pla).gp.toNat 5)) ∧
    (∀ pla rd, (24 * 2 ^ 24 ≤ pla ∨ firstPattern ≤ pla % 2 ^ 24 ∨ u.mem.mode = 0 ∨ u.mem.mode = 3 ∨ u.inCrownPrune = true) → AfterAll (.patrolScrubRead t pla rd) s u) ∧
    (∀ d k, d < 24 → After (.memHotChange t d k) s (u.modChannel d (fun c => { c with temp := k, hot := decide (85 < k) }))) ∧
    (∀ n l f v w x, u.inCrownPrune = true → u.stepFits n = true → u.mem.refreshSlot ≠ some (u.ringClock / 64) → u.mem.mode = 1 ∨ u.mem.mode = 2 →
      v = (u.refreshDue (u.ringClock / 8192)).modMem (fun m => { m with refreshSlot := some (u.ringClock / 64), channels := m.channels.map (fun c => { c with debt := max 0 (c.debt - 1) }) }) →
      w = v.countHeart 0x397 24 → x = w.each ((List.range 24).filter (· ∈ l)) (fun y d => (y.countHeart 0x394 1).noteAt 0xC0A d 1) →
      AfterAll (.refreshBatch t n l f) s (x.each ((List.range 24).filter (· ∈ f)) (fun y d => y.channelFail d 3))) ∧
    (∀ n l f, (u.inCrownPrune = false ∨ u.stepFits n = false ∨ u.mem.refreshSlot = some (u.ringClock / 64) ∨ (u.mem.mode ≠ 1 ∧ u.mem.mode ≠ 2)) → AfterAll (.refreshBatch t n l f) s u)

/-- A doorbell of an engine function sets its ring's tail, and free engines take ready rings. ENABLE starts the ring unless its state is 3 or
its size is out of range: from idle it runs, from an error it goes on behind the descriptor that stopped it. RESET clears the ring; of a
function that does not exist these do nothing. Descriptors that arrive for an outstanding fetch of a running ring, at most 8 and at most
those waiting, move its head on and each issues its read; without an outstanding fetch or in another state they do nothing. A fault takes
its engine offline, with its F2 event, and the rounds and rings of that engine go on; an engine offline already, or above 31, stays as it
is. Clearing Bus Master Enable of a function that has it stops the function and lets its engine go, and a function-level reset resets it
and does so; a completed one runs no more. A read without completion for the function's timeout has its tag quarantined, for an engine
function with the descriptor completed by TIMEOUT; sooner nothing happens. Completes (exec answers the next state that the clause gives):
ringTail, ringEnable, ringReset, descriptorFetchDone, engFault, busMasterEnableClear, functionLevelReset, flrComplete,
functionCompletionTimeout. (10_engines_and_functions.md R338 R339 R340 R345 R363 R364 R365 R366) -/
def Obligations.RingResults : Prop :=
  ∀ (s u : State) (t : Nat), u = s.tick t →
    (∀ p f tail, u.isVf p f = true → AfterAll (.ringTail t p f tail) s ((u.modFn p f (fun x => { x with ring := { x.ring with tail := tail } })).serveRings)) ∧
    (∀ p f tail, u.isVf p f = false → AfterAll (.ringTail t p f tail) s u) ∧
    (∀ p f, u.isVf p f = false → AfterAll (.ringEnable t p f) s u) ∧
    (∀ p f, u.isVf p f = false → AfterAll (.ringReset t p f) s u) ∧
    (∀ p f, u.isVf p f = true → AfterAll (.ringEnable t p f) s ((u.modFn p f (fun x => { x with ring := x.ring.start })).serveRings)) ∧
    (∀ r, r.state = 0 → 4 ≤ r.log2Size → r.log2Size ≤ 16 → Ring.start r = { r with enable := true, state := 1 }) ∧
    (∀ r, (r.state = 3 ∨ r.log2Size < 4 ∨ 16 < r.log2Size) → Ring.start r = r) ∧
    (∀ r n, r.state = 2 → 4 ≤ r.log2Size → r.log2Size ≤ 16 → n = (r.errIndex.toNat + 1) % 2 ^ r.log2Size →
      Ring.start r = { r with enable := true, state := 1, head := BitVec.ofNat 16 n, fetched := 0, passes := if n = 0 && r.head.toNat ≠ 0 then r.passes + 1 else r.passes }) ∧
    (∀ p f, u.isVf p f = true → AfterAll (.ringReset t p f) s (u.ringClear p f)) ∧
    (∀ p f n r m v, u.isVf p f = true → ((u.part p).fn f).outstanding.any (·.2.1 == fetchMark) = true → ((u.part p).fn f).ring.state = 1 →
      r = ((u.part p).fn f).ring → m = min n (min 8 r.waiting) →
      v = (u.readsDone p f fetchMark).modFn p f (fun x => { x with ring := { x.ring with head := BitVec.ofNat 16 ((r.head.toNat + m) % 2 ^ r.log2Size), fetched := x.ring.fetched + m, passes := if 2 ^ r.log2Size ≤ r.head.toNat + m then x.ring.passes + 1 else x.ring.passes } }) →
      After (.descriptorFetchDone t p f n) s (v.each ((List.range m).map (fun k => (r.head.toNat + k) % 2 ^ r.log2Size)) (fun x i => x.issueRead p f i (r.base + 64 * i) 64))) ∧
    (∀ p f n, (u.isVf p f = false ∨ ((u.part p).fn f).outstanding.any (·.2.1 == fetchMark) = false ∨ ((u.part p).fn f).ring.state ≠ 1) →
      After (.descriptorFetchDone t p f n) s u) ∧
    (∀ e, e < 32 → e ∉ u.engines.offline → AfterAll (.engFault t e) s ((((u.engineOffline e).noteFree (srcEngine e 0) 2).each
      ((u.engines.rounds.filter (fun r => u.ctxEngine r.ctx == e)).map (·.ctx)) State.reduceSettle).serveRings)) ∧
    (∀ e, 32 ≤ e → AfterAll (.engFault t e) s u) ∧
    (∀ e, e ∈ u.engines.offline → AfterAll (.engFault t e) s u) ∧
    (∀ p f, u.isFn p f = true → ((u.part p).fn f).busMaster = true → AfterAll (.busMasterEnableClear t p f) s (((u.masterOff p f).letGo p f).serveRings)) ∧
    (∀ p f, (u.isFn p f = false ∨ ((u.part p).fn f).busMaster = false) → AfterAll (.busMasterEnableClear t p f) s u) ∧
    (∀ p f, u.isFn p f = false → AfterAll (.functionLevelReset t p f) s u) ∧
    (∀ p f, u.isFn p f = false → After (.flrComplete t p f) s u) ∧
    (∀ p f, u.isFn p f = true → AfterAll (.functionLevelReset t p f) s (((u.fnReset p f).letGo p f).serveRings)) ∧
    (∀ p f, u.isFn p f = true → After (.flrComplete t p f) s (u.modFn p f (fun x => { x with flrRunning := false }))) ∧
    (∀ p f tag i since, ((u.part p).fn f).outstanding.find? (·.1 == tag) = some (tag, i, since) → u.isFn p f = true → u.after since (u.cplTimeout p) = true → (f = 0 ∨ 17 ≤ f) →
      AfterAll (.functionCompletionTimeout t p f tag) s (u.lateTags p f i)) ∧
    (∀ p f tag i since, ((u.part p).fn f).outstanding.find? (·.1 == tag) = some (tag, i, since) → u.isFn p f = true → u.after since (u.cplTimeout p) = true → 1 ≤ f → f ≤ 16 → i ≠ fetchMark →
      AfterAll (.functionCompletionTimeout t p f tag) s ((((u.lateTags p f i).ringComplete { part := p, vf := f, index := i } 5 0 0 false).issueRecords f .engine 0).keepRing p f 0)) ∧
    (∀ p f tag i since v, ((u.part p).fn f).outstanding.find? (·.1 == tag) = some (tag, i, since) → u.isFn p f = true → u.after since (u.cplTimeout p) = true → 1 ≤ f → f ≤ 16 → i = fetchMark →
      v = u.modFn p f (fun x => { x with ring := { x.ring with fetched := x.ring.fetched + 1 } }) →
      AfterAll (.functionCompletionTimeout t p f tag) s ((((v.lateTags p f i).ringComplete { part := p, vf := f, index := ((u.part p).fn f).ring.head.toNat } 5 0 0 false).issueRecords f .engine 0).keepRing p f 0)) ∧
    (∀ p f tag i since, ((u.part p).fn f).outstanding.find? (·.1 == tag) = some (tag, i, since) → u.after since (u.cplTimeout p) = false → AfterAll (.functionCompletionTimeout t p f tag) s u)

/-- Each operation of the engine is the shared operation on a descriptor, with the operation's own rule for a legal descriptor and its own
effect. The shared operation does nothing for a descriptor that has not started; one whose data an armed injection takes the engine
offline for ends there; one that is illegal completes with BAD_DESC; the others do the operation's effect. That effect is: NOP completes
at once; COPY, CRC_GEN, CRC_CHECK, AFC_GEN, AFC_CHECK and SCATTER go on with their source's first LEN bytes, and complete with the status
of a source that brought none; COPY writes them at DST; FILL writes the bytes of AUX, repeated; GATHER writes each entry's bytes in turn
and SCATTER writes each entry's share; CRC_GEN completes with the CRC, CRC_CHECK with OK or MISCOMPARE as the CRC is that of AUX or not;
AFC_GEN writes the address-folded checks of the blocks, AFC_CHECK completes with OK where they all agree, else with MISCOMPARE and the
index of the first that does not, or with the status of an array that brought no data. Completes (exec answers the next state that the
clause gives): nop, copy, fill, gather, scatter, crcGen, crcCheck, afcGen, afcCheck. (10_engines_and_functions.md R341 R342 R343 R344 R346
R366) -/
def Obligations.DescriptorOperations : Prop :=
  ∀ (s u : State) (t : Nat), u = s.tick t →
    (∀ x d, AfterAll (.nop t x d) s (u.operate x d (descLegal d 0 {}) (fun w => w.finish x d 0 0 0))) ∧
    (∀ x d r, AfterAll (.copy t x d r) s (u.operate x d (descLegal d 1 { src := true, dst := true } && 1 ≤ d.len && (d.src + d.len ≤ d.dst || d.dst + d.len ≤ d.src)) (fun w => w.withData x d r (fun y bs => (y.engineWrite x d.cls d.dst bs).finish x d 0 0 d.len)))) ∧
    (∀ x d, AfterAll (.fill t x d) s (u.operate x d (descLegal d 2 { dst := true, aux := true } && 1 ≤ d.len) (fun w => (w.engineWrite x d.cls d.dst (fillBytes d.aux d.len)).finish x d 0 0 d.len))) ∧
    (∀ x d l rs, AfterAll (.gather t x d l rs) s (u.operate x d (descLegal d 3 { dst := true, aux := true } && 1 ≤ d.len) (fun w => (w.gather x d ((sgPlan l 0 d.len).1.zip rs) (if (sgPlan l 0 d.len).2 then 1 else 0)).1.finish x d (w.gather x d ((sgPlan l 0 d.len).1.zip rs) (if (sgPlan l 0 d.len).2 then 1 else 0)).2 0 d.len))) ∧
    (∀ x d l r, AfterAll (.scatter t x d l r) s (u.operate x d (descLegal d 4 { src := true, aux := true } && 1 ≤ d.len) (fun w => w.withData x d r (fun y bs => (y.each (sgPlan l 0 d.len).1 (fun z e => z.engineWrite x d.cls e.1 ((bs.drop e.2.1).take e.2.2))).finish x d (if (sgPlan l 0 d.len).2 then 1 else 0) 0 d.len)))) ∧
    (∀ x d r, AfterAll (.crcGen t x d r) s (u.operate x d (descLegal d 5 { src := true } && 1 ≤ d.len) (fun w => w.withData x d r (fun y bs => y.finish x d 0 (crc32c bs).toNat d.len)))) ∧
    (∀ x d r, AfterAll (.crcCheck t x d r) s (u.operate x d (descLegal d 6 { src := true, aux := true } && 1 ≤ d.len) (fun w => w.withData x d r (fun y bs => y.finish x d (if (crc32c bs).toNat = d.aux % 2 ^ 32 then 0 else 2) (crc32c bs).toNat d.len)))) ∧
    (∀ x d r, AfterAll (.afcGen t x d r) s (u.operate x d (descLegal d 7 { src := true, dst := true } && descBlocks d) (fun w => w.withData x d r (fun y bs => (y.engineWrite x d.cls d.dst ((afcs d.src bs).flatMap (leBytes 8))).finish x d 0 0 d.len)))) ∧
    (∀ x d r r2, AfterAll (.afcCheck t x d r r2) s (u.operate x d (descLegal d 8 { src := true, aux := true } && descBlocks d) (fun w => w.withData x d r (fun y bs =>
      match r2 with
      | .data es => (match (List.range (afcs d.src bs).length).find? (fun i => leNat ((es.drop (8 * i)).take 8) ≠ (afcs d.src bs).getD i 0) with
        | some i => y.finish x d 2 i d.len
        | none => y.finish x d 0 0 d.len)
      | r => y.finish x d (readStatus r) 0 0)))) ∧
    (∀ x d ok go, u.started x = false → u.operate x d ok go = u) ∧
    (∀ x d ok go v, u.started x = true → u.engineCheck x = (v, false) → u.operate x d ok go = v) ∧
    (∀ x d go v, u.started x = true → u.engineCheck x = (v, true) → u.operate x d false go = v.finish x d 1 0 0) ∧
    (∀ x d go v, u.started x = true → u.engineCheck x = (v, true) → u.operate x d true go = go v) ∧
    (∀ x d bs go, u.withData x d (.data bs) go = go u (bs.take d.len)) ∧
    (∀ x d r go, (∀ bs, r ≠ .data bs) → u.withData x d r go = u.finish x d (readStatus r) 0 0) ∧
    (∀ x d e bs, 1 ≤ d.len → e.zeroOk = true → d.len ≤ e.len →
      u.gather x d ((sgPlan [e] 0 d.len).1.zip [.data bs]) (if (sgPlan [e] 0 d.len).2 then 1 else 0) = (u.engineWrite x d.cls (d.dst + 0) (bs.take d.len), 0)) ∧
    (∀ (d : Descriptor) (e : SgEntry), 1 ≤ d.len → (e.len = 0 ∨ e.zeroOk = false) → sgPlan [e] 0 d.len = ([], true)) ∧
    (∀ x d bs, u.started x = true → u.engineCheck x = (u, true) → descLegal d 1 { src := true, dst := true } = true → 1 ≤ d.len → d.src + d.len ≤ d.dst →
      AfterAll (.copy t x d (.data bs)) s ((u.engineWrite x d.cls d.dst (bs.take d.len)).finish x d 0 0 d.len))

/-- REDUCE_PAIR is the shared operation of a descriptor, with its own rule for a legal one: with both sources' bytes it writes their
combination at DST and completes; with one that brought none it completes with that source's status. REDUCE_CONTRIB is so too, legal only
where it agrees with a valid context: a contribution outside the current and the next round, already made, of no input of the context or
of a partition outside it completes with status 8; else its chunks enter the current round, or wait for the next, and its contributor is
kept. A child's chunk of no valid context or no child, of another round, already taken, or past the chunks is counted (0x3AB) and
discarded; one that finds both slots of its input full is told to wait; one of the next round is kept for it; else it enters the round. A
result chunk is written for its round's contributors as `result` says. A round that has begun aborts after its timeout and not before; one
that has not begun does not. An abort message of the context's round aborts it here and is passed on; of another round it fails that
round's waiting contributors alone; of no valid context it does nothing. A descriptor that has started completes with one of the nine
statuses and its record is written; no other does. Completes (exec answers the next state that the clause gives): reducePair,
reduceContrib, reducePartial, resultChunk, reduceTimeout, reduceAbortMessage, descriptorComplete. (10_engines_and_functions.md R342 R345
R349 R350 R351 R352 R353 R354 R355) -/
def Obligations.ReductionResults : Prop :=
  ∀ (s u : State) (t : Nat), u = s.tick t →
    (∀ x d r r2, AfterAll (.reducePair t x d r r2) s (u.operate x d (descLegal d 0x11 { src := true, dst := true, fmt := true } && (fmtOf d.format).isSome && d.redop ≤ 5 && 1 ≤ d.len && d.len % max 1 (((fmtOf d.format).map (·.bytes)).getD 0) = 0)
      (fun w => w.withData x d r (fun y a => match r2, fmtOf d.format with
        | .data b, some f => (y.engineWrite x d.cls d.dst (f.combine d.redop d.sat (b.take d.len) a)).finish x d 0 0 d.len
        | r, _ => y.finish x d (readStatus r) 0 0)))) ∧
    (∀ x d r, AfterAll (.reduceContrib t x d r) s (u.operate x d (descLegal d 0x10 { src := true, dst := true, fmt := true, red := true } && 1 ≤ d.len && (u.redCtx d.ctx).valid && (fmtOf d.format).isSome &&
        d.format = (u.redCtx d.ctx).format && d.redop = (u.redCtx d.ctx).redop && d.sat = (u.redCtx d.ctx).sat && d.len = (u.redCtx d.ctx).len)
      (fun w => if !(decide (BitVec.ofNat 4 d.round = (u.redRound d.ctx).round) || decide (BitVec.ofNat 4 d.round = (u.redRound d.ctx).round + 1)) || (u.redRound d.ctx).contributed (BitVec.ofNat 4 d.round) d.contrib || (u.redCtx d.ctx).localN ≤ d.contrib || !bitOf (u.redCtx d.ctx).parts x.part
        then w.finish x d 8 d.round 0
        else w.withData x d r (fun y bs =>
          if BitVec.ofNat 4 d.round = (u.redRound d.ctx).round then (((y.readsDone x.part x.vf x.index).setRound { (y.readsDone x.part x.vf x.index).redRound d.ctx with cls := d.cls, waiters := ((y.readsDone x.part x.vf x.index).redRound d.ctx).waiters ++ [{ pos := x, round := BitVec.ofNat 4 d.round, left := (u.redCtx d.ctx).chunks, input := d.contrib, dst := d.dst, user := d.user, intr := d.intr, live := true, read := false }], early := if BitVec.ofNat 4 d.round = (u.redRound d.ctx).round + 1 then ((y.readsDone x.part x.vf x.index).redRound d.ctx).early ++ (chunksOf d.contrib d.len bs).map (fun i => (d.round, i)) else ((y.readsDone x.part x.vf x.index).redRound d.ctx).early }).takeInputs d.ctx (chunksOf d.contrib d.len bs))
          else (y.readsDone x.part x.vf x.index).setRound { (y.readsDone x.part x.vf x.index).redRound d.ctx with cls := d.cls, waiters := ((y.readsDone x.part x.vf x.index).redRound d.ctx).waiters ++ [{ pos := x, round := BitVec.ofNat 4 d.round, left := (u.redCtx d.ctx).chunks, input := d.contrib, dst := d.dst, user := d.user, intr := d.intr, live := true, read := false }], early := if BitVec.ofNat 4 d.round = (u.redRound d.ctx).round + 1 then ((y.readsDone x.part x.vf x.index).redRound d.ctx).early ++ (chunksOf d.contrib d.len bs).map (fun i => (d.round, i)) else ((y.readsDone x.part x.vf x.index).redRound d.ctx).early })))) ∧
    (∀ x d v, u.started x = true → u.engineCheck x = (v, true) → u.operate x d false (fun w => w) = v.finish x d 1 0 0) ∧
    (∀ x d v go, u.started x = true → u.engineCheck x = (v, true) → u.operate x d true go = go v) ∧
    (∀ q c k r n d, ((u.redCtx c).valid = false ∨ (u.redCtx c).childN ≤ k) → AfterAll (.reducePartial t q c k r n d) s (u.countHeart 0x3AB 1)) ∧
    (∀ q c k r n d, (u.redCtx c).valid = true → k < (u.redCtx c).childN → BitVec.ofNat 4 r ≠ (u.redRound c).round → BitVec.ofNat 4 r = (u.redRound c).round + 1 →
      AfterAll (.reducePartial t q c k r n d) s (u.setRound { u.redRound c with early := (u.redRound c).early ++ [(r, { input := (u.redCtx c).localN + k, chunk := n, data := d })] })) ∧
    (∀ q c k r n d, (u.redCtx c).valid = true → k < (u.redCtx c).childN → BitVec.ofNat 4 r ≠ (u.redRound c).round → BitVec.ofNat 4 r ≠ (u.redRound c).round + 1 →
      AfterAll (.reducePartial t q c k r n d) s (u.countHeart 0x3AB 1)) ∧
    (∀ q c k r n d, (u.redCtx c).valid = true → k < (u.redCtx c).childN → BitVec.ofNat 4 r = (u.redRound c).round →
      (n ∈ (u.redRound c).folded ∨ ((u.redRound c).of ((u.redCtx c).localN + k) n).isSome = true ∨ (u.redCtx c).chunks ≤ n) → AfterAll (.reducePartial t q c k r n d) s (u.countHeart 0x3AB 1)) ∧
    (∀ q c k r n d, (u.redCtx c).valid = true → k < (u.redCtx c).childN → BitVec.ofNat 4 r = (u.redRound c).round → n ∉ (u.redRound c).folded → (u.redRound c).of ((u.redCtx c).localN + k) n = none → n < (u.redCtx c).chunks →
      AfterAll (.reducePartial t q c k r n d) s (if 2 ≤ ((u.redRound c).inputs.filter (fun x => x.input == (u.redCtx c).localN + k)).length then u.emit (.answer "partial waits" [q, c, k, n]) else u.takeInputs c [{ input := (u.redCtx c).localN + k, chunk := n, data := d }])) ∧
    (∀ c r n d, AfterAll (.resultChunk t c r n d) s (u.result c (BitVec.ofNat 4 r) n d)) ∧
    (∀ c t0, (u.redRound c).started = some t0 → u.after t0 ((u.redCtx c).timeout * 100000) = true → AfterAll (.reduceTimeout t c) s ((u.reduceAbort c).reduceSettle c)) ∧
    (∀ c t0, (u.redRound c).started = some t0 → u.after t0 ((u.redCtx c).timeout * 100000) = false → AfterAll (.reduceTimeout t c) s u) ∧
    (∀ c, (u.redRound c).started = none → AfterAll (.reduceTimeout t c) s u) ∧
    (∀ c r, (u.redCtx c).valid = true → (u.redRound c).round = BitVec.ofNat 4 r → AfterAll (.reduceAbortMessage t c r) s (((u.reduceAbortSend c r).reduceAbortHere c).reduceSettle c)) ∧
    (∀ c r, (u.redCtx c).valid = true → (u.redRound c).round ≠ BitVec.ofNat 4 r → AfterAll (.reduceAbortMessage t c r) s ((u.abortWaiters c (BitVec.ofNat 4 r)).reduceSettle c)) ∧
    (∀ c r, (u.redCtx c).valid = false → AfterAll (.reduceAbortMessage t c r) s u) ∧
    (∀ x st r n i, u.started x = true → st ∈ [0, 1, 2, 3, 4, 5, 7, 8, 9] →
      AfterAll (.descriptorComplete t x st r n i) s ((((u.readsDone x.part x.vf x.index).ringComplete x st r.toNat n i).issueRecords x.vf .engine 0).keepRing x.part x.vf 0)) ∧
    (∀ x st r n i, (u.started x = false ∨ st ∉ [0, 1, 2, 3, 4, 5, 7, 8, 9]) → AfterAll (.descriptorComplete t x st r n i) s u)

/-- A send doorbell of a message-queue function that exists sets the queue's tail and, at governor level 0 and in power state D0, sends the
descriptors that wait, in order; at a higher level or asleep it sends none; of a queue that does not exist it does nothing. A receive
doorbell sets the tail and, on an enabled queue of a bus master, posts as many buffers as then wait; on another it posts none; of a queue
that does not exist it does nothing. A datagram for an enabled queue of a bus master at home here takes the oldest posted buffer that
holds it: the queue advances, the payload and the record are written, it is counted (0x3A6, and 0x3A8 where it is marked), and the vector
is raised; without a posted buffer, with one too small, or for a function or queue that is not there it is dropped and counted (0x3A7).
Completes (exec answers the next state that the clause gives): sendDoorbell, receiveDoorbell, datagramReceive.
(10_engines_and_functions.md R357 R358 R361; 15_power_and_startup.md R495) -/
def Obligations.MessageQueueResults : Prop :=
  ∀ (s u : State) (t : Nat), u = s.tick t →
    (∀ p m k tail ds, u.isMq p m k = false → AfterAll (.sendDoorbell t p m k tail ds) s u) ∧
    (∀ p m k tail ds, u.isMq p m k = true → u.power.govLevel ≠ 0 →
      AfterAll (.sendDoorbell t p m k tail ds) s (u.modSendQ p (mqFn m) k (fun r => { r with tail := tail }))) ∧
    (∀ p m k tail ds v, u.isMq p m k = true → v = u.modSendQ p (mqFn m) k (fun r => { r with tail := tail }) → ((v.part p).fn (mqFn m)).fld .powerState ≠ 0 →
      AfterAll (.sendDoorbell t p m k tail ds) s v) ∧
    (∀ p m k tail bufs, u.isMq p m k = false → After (.receiveDoorbell t p m k tail bufs) s u) ∧
    (∀ p m k tail bufs v, u.isMq p m k = true → v = u.modRecvQ p (mqFn m) k (fun r => { r with tail := tail }) →
      ((queueOf ((u.part p).fn (mqFn m)).recvQ k).enable = false ∨ ((v.part p).fn (mqFn m)).busMaster = false) → After (.receiveDoorbell t p m k tail bufs) s v) ∧
    (∀ p m k tail bufs v l, u.isMq p m k = true → v = u.modRecvQ p (mqFn m) k (fun r => { r with tail := tail }) → l = assocGetD ((u.part p).fn (mqFn m)).posted k [] →
      (queueOf ((u.part p).fn (mqFn m)).recvQ k).enable = true → ((v.part p).fn (mqFn m)).busMaster = true →
      After (.receiveDoorbell t p m k tail bufs) s (v.modFn p (mqFn m) (fun x =>
        { x with posted := assocPut x.posted k (l ++ bufs.take (Ring.waiting { queueOf ((u.part p).fn (mqFn m)).recvQ k with tail := tail } - l.length)) }))) ∧
    (∀ p m k tail ds v, u.isMq p m k = true → v = u.modSendQ p (mqFn m) k (fun r => { r with tail := tail }) → u.power.govLevel = 0 →
      ((v.part p).fn (mqFn m)).fld .powerState = 0 →
      AfterAll (.sendDoorbell t p m k tail ds) s (v.each (ds.take (queueOf ((v.part p).fn (mqFn m)).sendQ k).waiting) (fun w d => w.sendOne p m k d))) ∧
    (∀ p d, (64 ≤ p ∨ 8 ≤ d.dstFn ∨ 16 ≤ d.dstQueue ∨ u.isHome p = false ∨ (u.part p).fnExists (mqFn d.dstFn) = false ∨ (queueOf ((u.part p).fn (mqFn d.dstFn)).recvQ d.dstQueue).enable = false ∨
      ((u.part p).fn (mqFn d.dstFn)).busMaster = false) → AfterAll (.datagramReceive t p d) s (u.countHeart 0x3A7 1)) ∧
    (∀ p d, p < 64 → d.dstFn < 8 → d.dstQueue < 16 → u.isHome p = true → (u.part p).fnExists (mqFn d.dstFn) = true →
      (queueOf ((u.part p).fn (mqFn d.dstFn)).recvQ d.dstQueue).enable = true → ((u.part p).fn (mqFn d.dstFn)).busMaster = true →
      assocGetD ((u.part p).fn (mqFn d.dstFn)).posted d.dstQueue [] = [] → AfterAll (.datagramReceive t p d) s (u.countHeart 0x3A7 1)) ∧
    (∀ p d a n rest, p < 64 → d.dstFn < 8 → d.dstQueue < 16 → u.isHome p = true → (u.part p).fnExists (mqFn d.dstFn) = true →
      (queueOf ((u.part p).fn (mqFn d.dstFn)).recvQ d.dstQueue).enable = true → ((u.part p).fn (mqFn d.dstFn)).busMaster = true →
      assocGetD ((u.part p).fn (mqFn d.dstFn)).posted d.dstQueue [] = (a, n) :: rest → n < d.len →
      AfterAll (.datagramReceive t p d) s (u.countHeart 0x3A7 1)) ∧
    (∀ p d a n rest q v w, p < 64 → d.dstFn < 8 → d.dstQueue < 16 → u.isHome p = true → (u.part p).fnExists (mqFn d.dstFn) = true →
      (queueOf ((u.part p).fn (mqFn d.dstFn)).recvQ d.dstQueue).enable = true → ((u.part p).fn (mqFn d.dstFn)).busMaster = true →
      assocGetD ((u.part p).fn (mqFn d.dstFn)).posted d.dstQueue [] = (a, n) :: rest → d.len ≤ n → q = queueOf ((u.part p).fn (mqFn d.dstFn)).recvQ d.dstQueue →
      v = (u.modFn p (mqFn d.dstFn) (fun x => { x with posted := assocPut x.posted d.dstQueue rest })).modRecvQ p (mqFn d.dstFn) d.dstQueue Ring.advance →
      w = (v.issue p (mqFn d.dstFn) .func 6 a (d.payload.take d.len)).issue p (mqFn d.dstFn) .func 6 (q.cplBase + 16 * q.head.toNat)
        (leBytes 2 d.len ++ leBytes 2 d.srcCrown ++ leBytes 1 d.srcFn ++ leBytes 1 d.srcQueue ++ leBytes 1 ((if d.cong = 3 then 1 else 0) + 2 * q.phase) ++ leBytes 9 0) →
      AfterAll (.datagramReceive t p d) s (((w.countHeart 0x3A6 1).when (d.cong = 3) (fun x => x.countHeart 0x3A8 1)).vector p (mqFn d.dstFn) d.dstQueue))

/-- A signal whose source is that of a gated or offline unit, or is no source of the tables, or whose class is above F4, does nothing. Of the
others, a named injection slot is hit first; then class F0 or F1 is recorded; an F2 error that names a unit below the crown contains that
unit at its level, one that names a partition alone contains the partition, any other is recorded; F3 is recorded at the crown with action
7; F4 by its cause is the damage of the intake's switch, tamper, or a fault of the root collector, and of no known cause nothing. A broken
path of a twig or bough is F3 at its limb's collector, of a limb at its stem's, of a die or the crown F4 at the root; of a silent unit
nothing. Tamper zeroizes the key store and its IDE keys and is F4 of source 0xBF5. With a new second the F1 counts, the storms raised and
the violation counts start afresh; within one they stay. Completes (exec answers the next state that the clause gives): errorSignal,
pathBroken, tamper, f1Interval, violationInterval. (11_faults_and_containment.md R371 R372 R373 R374 R376 R377 R384 R385 R390 R395) -/
def Obligations.ErrorSignalResults : Prop :=
  ∀ (s u : State) (t : Nat), u = s.tick t →
    (∀ e, ((∃ x, unitOfSource e.source = some x ∧ u.collectorSilent x = true) ∨ sourceFires e.source = false ∨ 4 < e.cls) → AfterAll (.errorSignal t e) s u) ∧
    (∀ e v, (∀ x, unitOfSource e.source = some x → u.collectorSilent x = false) → sourceFires e.source = true → v = (match e.injSlot with | some k => u.injectHit k | none => u) →
      e.cls < 2 → AfterAll (.errorSignal t e) s (v.note { Ev.plain e.source e.code e.cls with inj := e.injSlot.isSome })) ∧
    (∀ e v x, (∀ x, unitOfSource e.source = some x → u.collectorSilent x = false) → sourceFires e.source = true → v = (match e.injSlot with | some k => u.injectHit k | none => u) →
      e.cls = 2 → e.unit = some x → x ≠ .crown → AfterAll (.errorSignal t e) s ((v.contain x).note { Ev.plain e.source e.code e.cls with inj := e.injSlot.isSome, level := x.level, unit := some x, action := x.action })) ∧
    (∀ e v p, (∀ x, unitOfSource e.source = some x → u.collectorSilent x = false) → sourceFires e.source = true → v = (match e.injSlot with | some k => u.injectHit k | none => u) →
      e.cls = 2 → e.unit = none → e.part = some p → p < 64 → AfterAll (.errorSignal t e) s ((v.containPart p false none).note { Ev.plain e.source e.code e.cls with inj := e.injSlot.isSome, level := 5, part := some p, action := 5 })) ∧
    (∀ e v, (∀ x, unitOfSource e.source = some x → u.collectorSilent x = false) → sourceFires e.source = true → v = (match e.injSlot with | some k => u.injectHit k | none => u) →
      e.cls = 2 → (e.unit = some .crown ∨ e.unit = none ∧ ∀ p, e.part = some p → 64 ≤ p) → AfterAll (.errorSignal t e) s (v.note { Ev.plain e.source e.code e.cls with inj := e.injSlot.isSome })) ∧
    (∀ e v, (∀ x, unitOfSource e.source = some x → u.collectorSilent x = false) → sourceFires e.source = true → v = (match e.injSlot with | some k => u.injectHit k | none => u) →
      e.cls = 3 → AfterAll (.errorSignal t e) s (v.note { Ev.plain e.source e.code e.cls with inj := e.injSlot.isSome, level := 4, unit := some .crown, action := 7 })) ∧
    (∀ e v, (∀ x, unitOfSource e.source = some x → u.collectorSilent x = false) → sourceFires e.source = true → v = (match e.injSlot with | some k => u.injectHit k | none => u) →
      e.cls = 4 → e.f4cause = 1 → AfterAll (.errorSignal t e) s (v.fetDamage)) ∧
    (∀ e v, (∀ x, unitOfSource e.source = some x → u.collectorSilent x = false) → sourceFires e.source = true → v = (match e.injSlot with | some k => u.injectHit k | none => u) →
      e.cls = 4 → e.f4cause = 2 → AfterAll (.errorSignal t e) s (v.tampered)) ∧
    (∀ e v, (∀ x, unitOfSource e.source = some x → u.collectorSilent x = false) → sourceFires e.source = true → v = (match e.injSlot with | some k => u.injectHit k | none => u) →
      e.cls = 4 → e.f4cause = 3 → AfterAll (.errorSignal t e) s (v.grave Config.rootSource (Config.eventCode Config.rootSource) 3)) ∧
    (∀ e v, (∀ x, unitOfSource e.source = some x → u.collectorSilent x = false) → sourceFires e.source = true → v = (match e.injSlot with | some k => u.injectHit k | none => u) →
      e.cls = 4 → (e.f4cause = 0 ∨ 3 < e.f4cause) → AfterAll (.errorSignal t e) s (v)) ∧
    (∀ x, u.collectorSilent x = true → AfterAll (.pathBroken t x) s u) ∧
    (∀ x, u.collectorSilent (.twig x) = false → AfterAll (.pathBroken t (.twig x)) s (u.note { src := srcLimb (limbOf x) 7, code := Config.eventCode (srcLimb (limbOf x) 7), cls := 3, level := 4, unit := some .crown, part := none, action := 7, inj := false })) ∧
    (∀ x, u.collectorSilent (.bough x) = false → AfterAll (.pathBroken t (.bough x)) s (u.note { src := srcLimb (limbOfBough x) 7, code := Config.eventCode (srcLimb (limbOfBough x) 7), cls := 3, level := 4, unit := some .crown, part := none, action := 7, inj := false })) ∧
    (∀ x, u.collectorSilent (.limb x) = false → AfterAll (.pathBroken t (.limb x)) s (u.note { src := srcStem (x / 2) 7, code := Config.eventCode (srcStem (x / 2) 7), cls := 3, level := 4, unit := some .crown, part := none, action := 7, inj := false })) ∧
    (∀ x, u.collectorSilent (.die x) = false → AfterAll (.pathBroken t (.die x)) s (u.grave Config.rootSource (Config.eventCode Config.rootSource) 3)) ∧
    (AfterAll (.pathBroken t .crown) s (u.grave Config.rootSource (Config.eventCode Config.rootSource) 3)) ∧
    (AfterAll (.tamper t) s ((u.modSec (fun x => { x with zeroized := true, ide := [] })).grave 0xBF5 (Config.eventCode 0xBF5) 2)) ∧
    (u.faults.f1Second ≠ u.second → After (.f1Interval t) s (u.modFaults (fun f => { f with f1Second := u.second, f1Counts := [], stormed := [] }))) ∧
    (u.faults.f1Second = u.second → After (.f1Interval t) s u) ∧
    (u.faults.violSecond ≠ u.second → After (.violationInterval t) s (u.modFaults (fun f => { f with violSecond := u.second, violCounts := [], violDone := [] }))) ∧
    (u.faults.violSecond = u.second → After (.violationInterval t) s u)

/-- The window of an F2 entry that has ended unacknowledged is closed. An entry that contained a twig, bough, limb or die then contains the
next unit up, counted (0x3B2), with its F2 event 0xBC9, or, where the next is the crown, raises F3 there; beyond F2_CEILING, and where it
contained no unit, FAULT_UNACKED (0xBCA) alone is raised. Before its end, of an entry of another class, without a window or that is not
there, nothing happens. The window of the open F3 entry ends in the warm reset while CROWN is open; before its end, once acknowledged, or
without such an entry nothing happens. FAULT_ACK of an entry whose window is open and that is not of class F4, by an installer or by an
operator that may name it, closes its window, is counted (0x3B3) and keeps the containment; for an F3 entry while CROWN is open, CROWN
becomes acknowledged. By anybody else, of an entry not there or of one with no open window, it changes nothing. Completes (exec answers
the next state that the clause gives): faultWindowExpire, f3WindowExpire, faultAck. (11_faults_and_containment.md R382 R383 R384) -/
def Obligations.FaultWindows : Prop :=
  ∀ (s u : State) (t : Nat), u = s.tick t →
    (∀ seq h w x, u.histEntry seq = some h → h.window = some w → h.cls = 2 → w ≤ u.now → h.unit = some x → 1 ≤ h.action → h.action ≤ 4 →
      x.up ≠ .crown → ceilingCode x.up ≤ u.getDef Key.F2_CEILING 4 →
      AfterAll (.faultWindowExpire t seq) s ((((u.closeWindow seq).countHeart 0x3B2 1).contain x.up).note
        { src := 0xBC9, code := unitCode x.up, cls := 2, level := x.up.level, unit := some x.up, part := none, action := x.up.action, inj := false })) ∧
    (∀ seq h w x, u.histEntry seq = some h → h.window = some w → h.cls = 2 → w ≤ u.now → h.unit = some x → 1 ≤ h.action → h.action ≤ 4 →
      x.up = .crown → ceilingCode x.up ≤ u.getDef Key.F2_CEILING 4 →
      AfterAll (.faultWindowExpire t seq) s (((u.closeWindow seq).countHeart 0x3B2 1).note
        { src := 0xBC9, code := 0, cls := 3, level := 4, unit := some .crown, part := none, action := 7, inj := false })) ∧
    (∀ seq h w x, u.histEntry seq = some h → h.window = some w → h.cls = 2 → w ≤ u.now → h.unit = some x → (h.action = 0 ∨ 4 < h.action) →
      AfterAll (.faultWindowExpire t seq) s ((u.closeWindow seq).noteAt 0xBCA (unitCode x) 0)) ∧
    (∀ seq h w x, u.histEntry seq = some h → h.window = some w → h.cls = 2 → w ≤ u.now → h.unit = some x → 1 ≤ h.action → h.action ≤ 4 →
      u.getDef Key.F2_CEILING 4 < ceilingCode x.up →
      AfterAll (.faultWindowExpire t seq) s ((u.closeWindow seq).noteAt 0xBCA (unitCode x) 0)) ∧
    (∀ seq h w, u.histEntry seq = some h → h.window = some w → h.cls = 2 → w ≤ u.now → h.unit = none →
      AfterAll (.faultWindowExpire t seq) s ((u.closeWindow seq).noteAt 0xBCA (h.source % 65536) 0)) ∧
    (∀ seq, (∀ h w, u.histEntry seq = some h → h.window = some w → h.cls ≠ 2 ∨ u.now < w) → AfterAll (.faultWindowExpire t seq) s u) ∧
    (∀ h w, u.f3Entry = some h → h.window = some w → w ≤ u.now → u.faults.crown = .f3Open →
      After (.f3WindowExpire t) s (u.warmReset (warmCode .faultWindow))) ∧
    ((∀ h w, u.f3Entry = some h → h.window = some w → u.faults.crown ≠ .f3Open ∨ u.now < w) → After (.f3WindowExpire t) s u) ∧
    (∀ who seq h v, ((∃ k, who = .installer k) ∨ ∃ p, who = .operator p ∧ u.operatorMayAck p h = true) → u.histEntry seq = some h → h.ackOpen u.now = true → h.cls ≠ 4 → v = (u.closeWindow seq).countHeart 0x3B3 1 →
      After (.faultAck t who seq) s (if h.cls = 3 && v.faults.crown = .f3Open then v.modFaults (fun f => { f with crown := .f3Acked }) else v)) ∧
    (∀ p seq h, u.histEntry seq = some h → u.operatorMayAck p h = false → After (.faultAck t (.operator p) seq) s u) ∧
    (∀ who seq, (∀ k, who ≠ .installer k) → (∀ p, who ≠ .operator p) → After (.faultAck t who seq) s u) ∧
    (∀ who seq, (∀ h, u.histEntry seq = some h → h.ackOpen u.now = false ∨ h.cls = 4) → After (.faultAck t who seq) s u)

/-- An installer contains a used partition, and a partition's own operator contains it, each with its F2 event 0xBC7; the operator of another
partition, any other role, and a partition that is not used change nothing. An installer releases a contained partition: it is HELD while
the cause of its reset lasts, else ACTIVE with its event 0xBC1, and a release is told to the other crowns unless their message contained
it. Nobody else releases one, nothing is released while resets are barred, and a partition that is not contained stays as it is. A
containment message of another crown, newer than the last of its reporter, is kept, counted (0x3B6), sent on over the other trunks and
acted on as its kind says; one that names a T-twig which is no far end of the trunks to its reporter is a violation of the trunk it came
on instead; an old one or one of this crown changes nothing. Completes (exec answers the next state that the clause gives): partContain,
partRelease, containmentMessage. (11_faults_and_containment.md R378 R380 R384 R386 R400) -/
def Obligations.ContainmentOfPartitions : Prop :=
  ∀ (s u : State) (t : Nat), u = s.tick t →
    (∀ k p, p < 64 → u.partUsed p = true → AfterAll (.partContain t (.installer k) p) s
      ((u.containPart p true none).note { src := 0xBC7, code := p, cls := 2, level := 5, unit := none, part := some p, action := 5, inj := false })) ∧
    (∀ p, p < 64 → u.partUsed p = true → AfterAll (.partContain t (.operator p) p) s
      ((u.containPart p false none).note { src := 0xBC7, code := p, cls := 2, level := 5, unit := none, part := some p, action := 5, inj := false })) ∧
    (∀ who p, (∀ k, who ≠ .installer k) → who ≠ .operator p → AfterAll (.partContain t who p) s u) ∧
    (∀ who p, (64 ≤ p ∨ u.partUsed p = false) → AfterAll (.partContain t who p) s u) ∧
    (∀ k p v, p < 64 → u.resetsBarred = false → (u.part p).state = .contained →
      v = u.modPart p (fun x => { x with state := if u.causeHolds p then .held else .active, causeOn := u.causeHolds p, installerHeld := false, messageHeld := none }) →
      (u.part p).messageHeld = none →
      After (.partRelease t (.installer k) p) s (if u.causeHolds p then v.containMessage 2 false 0 (v.groveId p) else (v.containMessage 2 false 0 (v.groveId p)).noteAt 0xBC1 p 0)) ∧
    (∀ k p c v, p < 64 → u.resetsBarred = false → (u.part p).state = .contained →
      v = u.modPart p (fun x => { x with state := if u.causeHolds p then .held else .active, causeOn := u.causeHolds p, installerHeld := false, messageHeld := none }) →
      (u.part p).messageHeld = some c →
      After (.partRelease t (.installer k) p) s (if u.causeHolds p then v else v.noteAt 0xBC1 p 0)) ∧
    (∀ who p, who.isInstaller = false → After (.partRelease t who p) s u) ∧
    (∀ who p, (64 ≤ p ∨ u.resetsBarred = true ∨ (u.part p).state ≠ .contained) → After (.partRelease t who p) s u) ∧
    (∀ q m v, m.reporter ≠ u.crownId → (∀ k, assocGet u.fabric.containSeen m.reporter = some k → newer16 m.number k = true) →
      ((m.kind ≠ 1 ∧ m.kind ≠ 3) ∨ isT m.twig = false ∨ (∀ r p, r < 16 → (u.trunk r).peer = some p → p.1 ≠ m.reporter) ∨ (∃ r, r < 16 ∧ (u.trunk r).peer = some (m.reporter, trunkOfG m.twig))) →
      v = u.modFabric (fun f => { f with containSeen := assocPut f.containSeen m.reporter m.number }) →
      AfterAll (.containmentMessage t q m) s (((v.countHeart 0x3B6 1).sendControl (fun r => r ≠ q) (.containment m)).containTold m)) ∧
    (∀ q m, m.reporter ≠ u.crownId → (∀ k, assocGet u.fabric.containSeen m.reporter = some k → newer16 m.number k = true) →
      (m.kind = 1 ∨ m.kind = 3) → isT m.twig = true → (∃ r p, r < 16 ∧ (u.trunk r).peer = some p ∧ p.1 = m.reporter) → (∀ r, r < 16 → (u.trunk r).peer ≠ some (m.reporter, trunkOfG m.twig)) →
      AfterAll (.containmentMessage t q m) s (u.contradicts q)) ∧
    (∀ q m k, assocGet u.fabric.containSeen m.reporter = some k → newer16 m.number k = false → AfterAll (.containmentMessage t q m) s u) ∧
    (∀ q m, m.reporter = u.crownId → AfterAll (.containmentMessage t q m) s u)

/-- An installer's legal write of a slot arms it with its delay; an illegal one, one above 32 bits, of no slot, or by anyone else changes
nothing. A write of 0 to ARMED by an installer disarms the slot, by anyone else or of no slot it changes nothing. BYPASS is always taken,
and so is IDCODE, which answers JTAG_IDCODE. SAMPLE loads the boundary register and answers the contacts; EXTEST with SCAN set drives the
boundary register, DBG_ACCESS with PORT set answers DBG_DATA and its ERR; on a port that a storm has shut, without SCAN, or without PORT,
BYPASS is loaded instead. Without DBG_ACCESS loaded an update of DBG_CMD does nothing. With it, one that names no gate, has a zero field
set or an unaligned address, or comes while PORT is 0 or the port is shut, answers ERR with zeros; any other performs its access with the
data shifted in. Completes (exec answers the next state that the clause gives): injectArm, injectDisarm, bypass, idcode, samplePreload,
extest, dbgAccess, dbgCmdUpdate. (11_faults_and_containment.md R372 R393 R394 R396 R397) -/
def Obligations.InjectionAndDebug : Prop :=
  ∀ (s u : State) (t : Nat), u = s.tick t →
    (∀ k n v, n < 16 → v < 2 ^ 32 → injectLegal v = true → After (.injectArm t (.installer k) n v) s
      (u.modFaults (fun f => { f with inject := f.inject.set n (BitVec.ofNat 32 v), injectLeft := f.injectLeft.set n (v % 65536) }))) ∧
    (∀ who n v, (who.isInstaller = false ∨ 16 ≤ n ∨ 2 ^ 32 ≤ v ∨ injectLegal v = false) → After (.injectArm t who n v) s u) ∧
    (∀ k n, n < 16 → After (.injectDisarm t (.installer k) n) s (u.modFaults (fun f => { f with inject := f.inject.modify n (fun v => v &&& 0x7FFFFFFF#32) }))) ∧
    (∀ who n, (who.isInstaller = false ∨ 16 ≤ n) → After (.injectDisarm t who n) s u) ∧
    (After (.bypass t) s (u.modFaults (fun f => { f with debugInstr := .bypass }))) ∧
    (After (.idcode t) s ((u.modFaults (fun f => { f with debugInstr := .idcode })).emit (.answer "idcode" [u.get Key.JTAG_IDCODE]))) ∧
    (∀ cs, u.faults.debugShut = true → After (.samplePreload t cs) s (u.modFaults (fun f => { f with debugInstr := .bypass }))) ∧
    (∀ cs, u.faults.debugShut = false → After (.samplePreload t cs) s
      (((u.modFaults (fun f => { f with debugInstr := .sample })).drew.modFaults (fun f => { f with boundary := cs })).emit
        (.answer "contacts" ((Config.contacts u.draws).map Bool.toNat)))) ∧
    ((u.debugBit 30 = false ∨ u.faults.debugShut = true) → After (.extest t) s (u.modFaults (fun f => { f with debugInstr := .bypass }))) ∧
    (u.debugBit 30 = true → u.faults.debugShut = false → After (.extest t) s
      ((u.modFaults (fun f => { f with debugInstr := .extest })).emit (.answer "contacts driven" (u.faults.boundary.map Bool.toNat)))) ∧
    ((u.debugBit 31 = false ∨ u.faults.debugShut = true) → After (.dbgAccess t) s (u.modFaults (fun f => { f with debugInstr := .bypass }))) ∧
    (u.debugBit 31 = true → u.faults.debugShut = false → After (.dbgAccess t) s
      ((u.modFaults (fun f => { f with debugInstr := .dbgAccess })).emit (.answer "DBG_DATA" [u.faults.dbgErr.toNat, u.faults.dbgData.toNat]))) ∧
    (∀ cmd data, u.faults.debugInstr ≠ .dbgAccess → AfterAll (.dbgCmdUpdate t cmd data) s u) ∧
    (∀ cmd data, u.faults.debugInstr = .dbgAccess → (u.faults.debugShut = true ∨ u.debugBit 31 = false ∨ field cmd.toNat 80 64 ≠ 0 ∨ field cmd.toNat 63 0 % 8 ≠ 0 ∨ 0x9C < field cmd.toNat 95 88) →
      AfterAll (.dbgCmdUpdate t cmd data) s (u.modFaults (fun f => { f with dbgErr := true, dbgData := 0 }))) ∧
    (∀ cmd data, u.faults.debugInstr = .dbgAccess → u.faults.debugShut = false → u.debugBit 31 = true → field cmd.toNat 95 88 ≤ 0x9C →
      field cmd.toNat 80 64 = 0 → field cmd.toNat 63 0 % 8 = 0 → AfterAll (.dbgCmdUpdate t cmd data) s
      ((u.modFaults (fun f => { f with dbgData := data })).debugGo (field cmd.toNat 95 88) (field cmd.toNat 87 82) (field cmd.toNat 63 0) (bitOf cmd.toNat 81)))

/-- On a claimed crown in ordinary operation, with nothing being served or waiting, each Bocel request whose sender authentication makes known
and whose opcode serves that sender is performed at once: READ, WRITE, OPEN_SET, STAGE, COMMIT, CANCEL_SET, SET_STATUS, OPEN_SESSION,
CLOSE_SESSION, SUBSCRIBE, unsubscribing, JOURNAL_READ, and the write of TEST_UNLOCK. Completes (exec answers the next state that the
clause gives): read, write, testUnlock, openSet, stage, commit, cancelSet, setStatus, openSession, closeSession, subscribe, unsubscribe,
journalRead. (12_dictionary.md R409 R410 R416 R419; 13_roles_and_security.md R462) -/
def Obligations.RequestsServed : Prop :=
  ∀ (s u : State) (t : Nat), u = s.tick t →
    (∀ r c i a b, u.Heard r → (u.sigCounted r).authenticate r = .known c → (i < 65536 ∧ a ≤ b ∧ b < 256) → c.may Op.read i = true →
      AfterAll (.read t r i a b) s (((u.sigCounted r).touchSession r).serveRead r c i a b)) ∧
    (∀ r c i n ty v len, u.Heard r → (u.sigCounted r).authenticate r = .known c → (i < 65536 ∧ n < 256 ∧ formOk ty v len = true) → c.may Op.write i = true →
      AfterAll (.write t r i n ty v len) s (((u.sigCounted r).touchSession r).serveWrite r c i n ty v len)) ∧
    (∀ r c nonce, u.Heard r → (u.sigCounted r).authenticate r = .known c → c.may Op.write 0xE030 = true →
      AfterAll (.testUnlock t r nonce) s (((u.sigCounted r).touchSession r).serveWrite r c 0xE030 1 0x5 nonce 8)) ∧
    (∀ r c p n j, u.Heard r → (u.sigCounted r).authenticate r = .known c → c.may Op.openSet 0 = true →
      AfterAll (.openSet t r p n j) s (((u.sigCounted r).touchSession r).serveOpenSet r c p n j)) ∧
    (∀ r c id k i n ty v len, u.Heard r → (u.sigCounted r).authenticate r = .known c → (i < 65536 ∧ n < 256 ∧ formOk ty v len = true) → c.may Op.stage i = true →
      AfterAll (.stage t r id k i n ty v len) s (((u.sigCounted r).touchSession r).serveStage r c id k i n ty v len)) ∧
    (∀ r c id k ft d a b, u.Heard r → (u.sigCounted r).authenticate r = .known c → c.may Op.commit 0 = true →
      AfterAll (.commit t r id k ft d a b) s (((u.sigCounted r).touchSession r).serveCommit r c id k ft d a b)) ∧
    (∀ r c id k a b, u.Heard r → (u.sigCounted r).authenticate r = .known c → c.may Op.cancelSet 0 = true →
      AfterAll (.cancelSet t r id k a b) s (((u.sigCounted r).touchSession r).serveCancel r c id k a b)) ∧
    (∀ r c id, u.Heard r → (u.sigCounted r).authenticate r = .known c → c.may Op.setStatus 0 = true →
      AfterAll (.setStatus t r id) s (((u.sigCounted r).touchSession r).serveSetStatus r c id)) ∧
    (∀ r c e, u.Heard r → (u.sigCounted r).authenticate r = .known c → c.may Op.openSession 0 = true →
      AfterAll (.openSession t r e) s (((u.sigCounted r).touchSession r).serveOpenSession r c e)) ∧
    (∀ r c, u.Heard r → (u.sigCounted r).authenticate r = .known c → c.may Op.closeSession 0 = true →
      AfterAll (.closeSession t r) s (((u.sigCounted r).touchSession r).finishWith r c (passing Op.closeSession []))) ∧
    (∀ r c, u.Heard r → (u.sigCounted r).authenticate r = .known c → c.may Op.subscribe 0 = true →
      AfterAll (.subscribe t r) s (((u.sigCounted r).touchSession r).serveSubscribe r c true)) ∧
    (∀ r c, u.Heard r → (u.sigCounted r).authenticate r = .known c → c.may Op.subscribe 0 = true →
      AfterAll (.unsubscribe t r) s (((u.sigCounted r).touchSession r).serveSubscribe r c false)) ∧
    (∀ r c a n, u.Heard r → (u.sigCounted r).authenticate r = .known c → c.may Op.journalRead 0 = true →
      AfterAll (.journalRead t r a n) s (((u.sigCounted r).touchSession r).serveJournalRead r c a n))

/-- Each of the 13 request commands is the arrival of its request. A request on a transport that is not served does nothing, but that one in
band without a carrier partition is counted as dropped. One for another crown goes to the gateway: it is answered UNREACHABLE without a
carrier partition or for an unreachable or fenced crown, else it is kept, counted (0x3C5) and forwarded; BOCEL_GATEWAY_FORWARD does the
same, and nothing for this crown. For this crown, one in band that meets a held bridged access is counted and answered BUSY_RETRY; while
another is served or waits it waits too, and beyond 64 it is answered BUSY_RETRY; else it is served at once. Served, one that is not well
formed is answered BAD_MESSAGE; one whose signature or session does not verify, AUTH_FAILED; one whose KEY_SEQ is not above the last of
its key and stands in no cached answer, STALE_SEQ; whatever its authentication refuses is answered with that status. A target's response
ends the forwarding and is passed on, but BUSY_RETRY is kept for another try; one of another source or for nothing forwarded does nothing.
After BOCEL_INBAND_TIMEOUT a forwarded request is answered BUSY_RETRY where that was seen, else NO_RESPONSE, and sooner it waits; 1 µs
after a BUSY_RETRY it is forwarded again, once for each. Completes (exec answers the next state that the clause gives): read, write,
testUnlock, openSet, stage, commit, cancelSet, setStatus, openSession, closeSession, subscribe, unsubscribe, journalRead,
bocelGatewayForward, bocelInbandResponse, bocelInbandTimeout, bocelRetryDelay. (12_dictionary.md R409 R410 R419 R420 R421 R431) -/
def Obligations.RequestsAnsweredUnserved : Prop :=
  ∀ (s u : State) (t : Nat), u = s.tick t →
    (∀ r i a b, AfterAll (.read t r i a b) s (u.arrive (.read t r i a b))) ∧
    (∀ r i n ty v len, AfterAll (.write t r i n ty v len) s (u.arrive (.write t r i n ty v len))) ∧
    (∀ r nonce, AfterAll (.testUnlock t r nonce) s (u.arrive (.testUnlock t r nonce))) ∧
    (∀ r q n j, AfterAll (.openSet t r q n j) s (u.arrive (.openSet t r q n j))) ∧
    (∀ r id k i n ty v len, AfterAll (.stage t r id k i n ty v len) s (u.arrive (.stage t r id k i n ty v len))) ∧
    (∀ r id k ft d a b, AfterAll (.commit t r id k ft d a b) s (u.arrive (.commit t r id k ft d a b))) ∧
    (∀ r id k a b, AfterAll (.cancelSet t r id k a b) s (u.arrive (.cancelSet t r id k a b))) ∧
    (∀ r id, AfterAll (.setStatus t r id) s (u.arrive (.setStatus t r id))) ∧
    (∀ r e, AfterAll (.openSession t r e) s (u.arrive (.openSession t r e))) ∧
    (∀ r, AfterAll (.closeSession t r) s (u.arrive (.closeSession t r))) ∧
    (∀ r, AfterAll (.subscribe t r) s (u.arrive (.subscribe t r))) ∧
    (∀ r, AfterAll (.unsubscribe t r) s (u.arrive (.unsubscribe t r))) ∧
    (∀ r a n, AfterAll (.journalRead t r a n) s (u.arrive (.journalRead t r a n))) ∧
    (∀ (i : Instr) r op ix sub, requestOf i = some (r, op, ix, sub) → u.takes r.via = false → (∀ c, r.via ≠ .inBand c) → u.arrive i = u) ∧
    (∀ (i : Instr) r op ix sub c, requestOf i = some (r, op, ix, sub) → u.takes r.via = false → r.via = .inBand c → u.managed = true → u.get Key.BOCEL_GPART = 0xFFFF →
      u.arrive i = u.modBocel (fun b => { b with inbandDropped := b.inbandDropped + 1 })) ∧
    (∀ (i : Instr) r op ix sub, requestOf i = some (r, op, ix, sub) → u.takes r.via = true → r.target ≠ 0xFFFF → r.target ≠ u.crownId → u.arrive i = u.gateway r op) ∧
    (∀ (i : Instr) r op ix sub c, requestOf i = some (r, op, ix, sub) → u.takes r.via = true → r.target = 0xFFFF ∨ r.target = u.crownId → r.via = .inBand c → u.fabric.bridge ≠ [] →
      u.arrive i = (u.countHeart 0x385 1).respond r (failing op Status.busyRetry 0 ix sub)) ∧
    (∀ (i : Instr) r op ix sub, requestOf i = some (r, op, ix, sub) → u.takes r.via = true → r.target = 0xFFFF ∨ r.target = u.crownId → (u.fabric.bridge = [] ∨ ∀ c, r.via ≠ .inBand c) → (u.serving = true ∨ u.bocel.queue ≠ []) → u.bocel.queue.length < 64 →
      u.arrive i = u.modBocel (fun b => { b with queue := b.queue ++ [i] })) ∧
    (∀ (i : Instr) r op ix sub, requestOf i = some (r, op, ix, sub) → u.takes r.via = true → r.target = 0xFFFF ∨ r.target = u.crownId → (u.fabric.bridge = [] ∨ ∀ c, r.via ≠ .inBand c) → 64 ≤ u.bocel.queue.length →
      u.arrive i = u.respond r (failing op Status.busyRetry 0 ix sub)) ∧
    (∀ (i : Instr) r op ix sub, requestOf i = some (r, op, ix, sub) → u.takes r.via = true → r.target = 0xFFFF ∨ r.target = u.crownId → (u.fabric.bridge = [] ∨ ∀ c, r.via ≠ .inBand c) → u.serving = false → u.bocel.queue = [] → u.arrive i = u.serve i) ∧
    (∀ (i : Instr) r op ix sub, requestOf i = some (r, op, ix, sub) → (r.wellFormed = false ∨ bodyOk i = false) → u.serve i = u.respond r (failing op Status.badMessage 0 ix sub)) ∧
    (∀ (i : Instr) r op ix sub st, requestOf i = some (r, op, ix, sub) → r.wellFormed = true → bodyOk i = true → (u.sigCounted r).authenticate r = .refused st → u.serve i = (u.sigCounted r).respond r (failing op st 0 ix sub)) ∧
    (∀ r b, r.sig = some b → u.sigGood b = false → u.authenticate r = .refused Status.authFailed) ∧
    (∀ r m, r.mac = some m → u.macSession m = none → u.authenticate r = .refused Status.authFailed) ∧
    (∀ r b, r.sig = some b → u.sigGood b = true → r.mac = none → b.keySeq ≤ u.lastSeq b.keyId → (∀ x ∈ u.bocel.cache, x.keyId = b.keyId → x.keySeq = b.keySeq → x.digest ≠ b.digest) →
      u.authenticate r = .refused Status.staleSeq) ∧
    (∀ r op, (u.get Key.BOCEL_GPART = 0xFFFF ∨ u.unreachable r.target = true ∨ u.fenced r.target = true) → u.gateway r op = u.respond r (failing op Status.unreachable 0 0 0)) ∧
    (∀ r op, u.get Key.BOCEL_GPART ≠ 0xFFFF → u.unreachable r.target = false → u.fenced r.target = false →
      u.gateway r op = ((u.modBocel (fun b => { b with forwards := b.forwards ++ [{ op := op, reqId := r.reqId, via := r.via, target := r.target, since := u.now, busySeen := false, busyAt := none }] })).countHeart 0x3C5 1).emit
        (.forward r.target r.reqId (u.get Key.BOCEL_CLASS) (u.get Key.BOCEL_GPART))) ∧
    (∀ r op, u.takes r.via = true → r.target ≠ 0xFFFF → r.target ≠ u.crownId → AfterAll (.bocelGatewayForward t r op) s (u.gateway r op)) ∧
    (∀ r op, (u.takes r.via = false ∨ r.target = 0xFFFF ∨ r.target = u.crownId) → AfterAll (.bocelGatewayForward t r op) s u) ∧
    (∀ id src m f, u.forwarded id = some f → f.target = src → beField m 14 15 ≠ Status.busyRetry →
      After (.bocelInbandResponse t id src m) s (match f.via with | .mailbox p => (u.unforward id).mailboxAnswer p m | via => (u.unforward id).emit (.passed via id m))) ∧
    (∀ id src m f, u.forwarded id = some f → f.target = src → beField m 14 15 = Status.busyRetry →
      After (.bocelInbandResponse t id src m) s (u.modBocel (fun b => { b with forwards := b.forwards.map (fun x => if x.reqId = id then { x with busySeen := true, busyAt := some u.now } else x) }))) ∧
    (∀ id src m, (∀ f, u.forwarded id = some f → f.target ≠ src) → After (.bocelInbandResponse t id src m) s u) ∧
    (∀ id f, u.forwarded id = some f → u.after f.since (1000000 * u.get Key.BOCEL_INBAND_TIMEOUT) = true →
      AfterAll (.bocelInbandTimeout t id) s ((u.unforward id).respond { via := f.via, reqId := id, target := f.target, wellFormed := true, sig := none, mac := none }
        (failing f.op (if f.busySeen then Status.busyRetry else Status.noResponse) 0 0 0))) ∧
    (∀ id f, u.forwarded id = some f → u.after f.since (1000000 * u.get Key.BOCEL_INBAND_TIMEOUT) = false → AfterAll (.bocelInbandTimeout t id) s u) ∧
    (∀ id f a, u.forwarded id = some f → f.busyAt = some a → u.after a 1000 = true →
      After (.bocelRetryDelay t id) s ((u.modBocel (fun b => { b with forwards := b.forwards.map (fun x => if x.reqId = id then { x with busyAt := none } else x) })).emit (.forward f.target id (u.get Key.BOCEL_CLASS) (u.get Key.BOCEL_GPART)))) ∧
    (∀ id f, u.forwarded id = some f → (∀ a, f.busyAt = some a → u.after a 1000 = false) → After (.bocelRetryDelay t id) s u)

/-- Outside recovery, serving a WRITE answers the first refusal that holds: NO_ENTRY for an entry that does not exist, ACCESS_DENIED where the
role may not write it, TYPE_MISMATCH for another type, NEEDS_COMMIT for a staged entry, VALUE_REFUSED for a value that is not legal, and
the status that the write's admission gives. One that passes them all, of a journaled entry, forms the record of the write, with the old
and the new value, its KEY_SEQ and the answer due when it is whole; after the warning of input loss it is answered BUSY_RETRY. Of another
entry a signed one forms the record of its KEY_SEQ, and one that is not signed is applied and answered at once. Serving a READ of a range
answers NO_ENTRY at the first subindex that does not exist; else, outside recovery, ACCESS_DENIED at the first that the role may not read;
else the values of the range, with MORE where they do not fit. Completes (exec answers the next state that the clause gives): .
(12_dictionary.md R406 R408 R409 R416; 14_journal_and_update.md R474) -/
def Obligations.WritesAndReads : Prop :=
  ∀ (s u : State) (t : Nat), u = s.tick t →
    (∀ r c i n ty v len, entryAt i n = none → u.serveWrite r c i n ty v len = u.refuseReq r c Op.write Status.noEntry 0 i n) ∧
    (∀ r c i n ty v len e, u.journal.recovery = false → entryAt i n = some e → e.writable c.who (256 * i + n) = false →
      u.serveWrite r c i n ty v len = u.refuseReq r c Op.write Status.accessDenied 0 i n) ∧
    (∀ r c i n ty v len e, u.journal.recovery = false → entryAt i n = some e → e.writable c.who (256 * i + n) = true → ty ≠ e.ty.code →
      u.serveWrite r c i n ty v len = u.refuseReq r c Op.write Status.typeMismatch 0 i n) ∧
    (∀ r c i n v len e, u.journal.recovery = false → entryAt i n = some e → e.writable c.who (256 * i + n) = true → e.persist = .staged →
      u.serveWrite r c i n e.ty.code v len = u.refuseReq r c Op.write Status.needsCommit 0 i n) ∧
    (∀ r c i n v len e, u.journal.recovery = false → entryAt i n = some e → e.writable c.who (256 * i + n) = true → e.persist ≠ .staged →
      legalValue e (256 * i + n) v len = false → u.serveWrite r c i n e.ty.code v len = u.refuseReq r c Op.write Status.valueRefused 0 i n) ∧
    (∀ r c i n v len e st d, u.journal.recovery = false → entryAt i n = some e → e.writable c.who (256 * i + n) = true → e.persist ≠ .staged →
      legalValue e (256 * i + n) v len = true → u.writeAdmit c.who (256 * i + n) v = .stop st d → u.serveWrite r c i n e.ty.code v len = u.refuseReq r c Op.write st d i n) ∧
    (∀ r c i n v len e, u.journal.recovery = false → entryAt i n = some e → e.writable c.who (256 * i + n) = true → e.persist = .journaled → legalValue e (256 * i + n) v len = true → u.writeAdmit c.who (256 * i + n) v = .go →
      u.serveWrite r c i n e.ty.code v len = if u.journal.warned then u.respond r (failing Op.write Status.busyRetry 0 i n) else u.jForm c.keyId (partsMask (writeParts (256 * i + n))) (some r) c.who (some (256 * i + n, v))
        (some (passing Op.write [])) (.write i n (u.get (256 * i + n)) (u.recordedValue (256 * i + n) v) (match r.sig with | some b => b.keySeq | none => 0))) ∧
    (∀ r c i n v len e, u.journal.recovery = false → entryAt i n = some e → e.writable c.who (256 * i + n) = true → e.persist ≠ .staged → e.persist ≠ .journaled → legalValue e (256 * i + n) v len = true → u.writeAdmit c.who (256 * i + n) v = .go →
      u.serveWrite r c i n e.ty.code v len = if c.signed then u.jForm c.keyId 0 (some r) c.who (some (256 * i + n, v)) (some (passing Op.write [])) (.keySeq (match r.sig with | some b => b.keySeq | none => 0)) else (u.applyWrite c.who (256 * i + n) v).respond r (passing Op.write [])) ∧
    (∀ r c i a b n, ((List.range (b + 1 - a)).map (a + ·)).find? (fun n => (entryAt i n).isNone) = some n →
      u.serveRead r c i a b = u.refuseReq r c Op.read Status.noEntry 0 i n) ∧
    (∀ r c i a b n, u.journal.recovery = false → ((List.range (b + 1 - a)).map (a + ·)).find? (fun n => (entryAt i n).isNone) = none →
      ((List.range (b + 1 - a)).map (a + ·)).find? (fun n => match entryAt i n with | some e => !e.readable c.who | none => false) = some n →
      u.serveRead r c i a b = u.refuseReq r c Op.read Status.accessDenied 0 i n) ∧
    (∀ r c i a b e out, u.journal.recovery = false → ((List.range (b + 1 - a)).map (a + ·)).find? (fun n => (entryAt i n).isNone) = none →
      ((List.range (b + 1 - a)).map (a + ·)).find? (fun n => match entryAt i n with | some e => !e.readable c.who | none => false) = none → entryAt i a = some e →
      out = u.gatherRead c.who i e.ty.code (4096 - 24 - 5 - (if r.mac.isSome then 24 else 0)) ((List.range (b + 1 - a)).map (a + ·)) [] a →
      u.serveRead r c i a b = u.drew.finishWith r c { passing Op.read (beBytes 2 i ++ beBytes 1 a ++ beBytes 1 out.2 ++ beBytes 1 e.ty.code ++ out.1) with more := decide (out.2 < b) })

/-- OPEN_SET by an installer adds a set in state OPEN under the next SET_ID, while fewer than 16 are OPEN or SEALED, and is NO_RESOURCE
beyond; an operator opens one of its own partition, and no other. STAGE of the next number, by the opener into an OPEN set, of a legal
value of a staged entry, adds the body while there is room; of another number it is SET_STATE with the number expected, of an entry that
is not staged or a value not legal VALUE_REFUSED, by another key AUTH_FAILED. COMMIT and CANCEL_SET that name no set or another COMMIT_NO
are SET_STATE. COMMIT with two good signatures of a right pair advances COMMIT_NO and seals the set; with a wrong one it is AUTH_FAILED.
CANCEL_SET of an OPEN set, signed by its opener alone, cancels it. A sealed set that its validation refuses is refused with its reason and
its COMMIT answered VALIDATION_FAILED, and where it was queued before, what follows it is validated again; one that passes is QUEUED at
its place, kept where it had one, with its records and the answer due; without room it goes back to its prior state and its COMMIT is
NO_RESOURCE. A set no longer sealed has its COMMIT answered SET_STATE; without a COMMIT to answer, or without the set, nothing happens. An
OPEN set without a request for 600 s expires; sooner, or in another state, it stays. Completes (exec answers the next state that the
clause gives): setValidated, setExpire. (12_dictionary.md R423 R424 R425 R426 R427; 13_roles_and_security.md R450) -/
def Obligations.ChangeSetCommands : Prop :=
  ∀ (s u : State) (t : Nat), u = s.tick t →
    (∀ r k p, u.claimed = true → (u.bocel.sets.filter ChangeSet.live).length < 16 →
      u.serveOpenSet r { who := .installer k, keyId := 0x2000 + k, signed := true, inSession := false } false p false =
        (u.modBocel (fun b => { b with sets := b.sets ++ [{ id := u.bocel.nextSet, partition := false, part := p, joint := false, stages := [], state := .open_, prior := .open_, commitNo := 0, ft := 0, digest := 0, sigA := { keyId := 0, key := 0 }, sigB := { keyId := 0, key := 0 }, opener := 0x2000 + k, order := 0, lastReq := u.now, claim := false, answerTo := none }], nextSet := u.bocel.nextSet + 1 })).finishWith r
          { who := .installer k, keyId := 0x2000 + k, signed := true, inSession := false } (passing Op.openSet (beBytes 4 u.bocel.nextSet))) ∧
    (∀ r c p, c.signed = true → c.who = .operator p → (u.bocel.sets.filter ChangeSet.live).length < 16 → u.serveOpenSet r c false p false = u.refuseReq r c Op.openSet Status.accessDenied 0 0 0) ∧
    (∀ r k p, u.claimed = true → 16 ≤ (u.bocel.sets.filter ChangeSet.live).length →
      u.serveOpenSet r { who := .installer k, keyId := 0x2000 + k, signed := true, inSession := false } false p false =
        u.refuseReq r { who := .installer k, keyId := 0x2000 + k, signed := true, inSession := false } Op.openSet Status.noResource 0 0 0) ∧
    (∀ r c id k i n ty v len x e, u.claimed = true → u.setOf id = some x → c.keyId = x.opener → x.state = .open_ → k = x.stages.length →
      checkEntry c.who false i n ty = .inl e → e.persist = .staged → legalValue e (256 * i + n) v len = true → x.stages.length < 65536 →
      (((u.touchSet id).bocel.sets.filter ChangeSet.stored).map ChangeSet.stageBytes).sum + 12 + valueBytes (256 * i + n) ≤ 2 ^ 23 →
      u.serveStage r c id k i n ty v len = ((u.touchSet id).modSet id (fun x => { x with stages := x.stages ++ [{ index := i, sub := n, value := v }] })).finishWith r c (passing Op.stage [])) ∧
    (∀ r c id k i n ty v len x, u.claimed = true → u.setOf id = some x → c.keyId = x.opener → x.state = .open_ → k ≠ x.stages.length →
      u.serveStage r c id k i n ty v len = (u.touchSet id).refuseReq r c Op.stage Status.setState x.stages.length i n) ∧
    (∀ r c n, c.who = .operator n → n < 64 → u.claimed = true → (u.bocel.sets.filter ChangeSet.live).length < 16 →
      u.serveOpenSet r c true n false =
        (u.modBocel (fun b => { b with sets := b.sets ++ [{ id := u.bocel.nextSet, partition := true, part := n, joint := false, stages := [], state := .open_, prior := .open_, commitNo := 0, ft := 0, digest := 0, sigA := { keyId := 0, key := 0 }, sigB := { keyId := 0, key := 0 }, opener := c.keyId, order := 0, lastReq := u.now, claim := false, answerTo := none }], nextSet := u.bocel.nextSet + 1 })).finishWith r
          c (passing Op.openSet (beBytes 4 u.bocel.nextSet))) ∧
    (∀ r c id k i n ty v len x, u.claimed = true → u.setOf id = some x → c.keyId ≠ x.opener → u.serveStage r c id k i n ty v len = (u.touchSet id).refuseReq r c Op.stage Status.authFailed 0 i n) ∧
    (∀ r c id k i n ty v len x e, u.claimed = true → u.setOf id = some x → c.keyId = x.opener → x.state = .open_ → k = x.stages.length →
      checkEntry c.who false i n ty = .inl e → (e.persist ≠ .staged ∨ legalValue e (256 * i + n) v len = false) →
      u.serveStage r c id k i n ty v len = (u.touchSet id).refuseReq r c Op.stage Status.valueRefused 0 i n) ∧
    (∀ r c id k a b, u.setOf id = none → u.serveCancel r c id k a b = u.refuseReq r c Op.cancelSet Status.setState 0xFFFFFFFF 0 0) ∧
    (∀ r c id k a b x, u.setOf id = some x → k ≠ x.commitNo → u.serveCancel r c id k a b = (u.touchSet id).refuseReq r c Op.cancelSet Status.setState x.state.code 0 0) ∧
    (∀ r c id ft d a b x, u.setOf id = some x → x.state = .open_ → ((u.touchSet id).sigOk x a = false ∨ (u.touchSet id).sigOk x b = false ∨ (u.touchSet id).pairOk x a.keyId b.keyId = false) →
      u.serveCommit r c id x.commitNo ft d a b = (u.touchSet id).refuseReq r c Op.commit Status.authFailed 0 0 0) ∧
    (∀ r c id k ft d a b, u.setOf id = none → u.serveCommit r c id k ft d a b = u.refuseReq r c Op.commit Status.setState 0xFFFFFFFF 0 0) ∧
    (∀ r c id ft d a b x, u.setOf id = some x → x.state = .open_ → (u.touchSet id).sigOk x a = true → (u.touchSet id).sigOk x b = true →
      (u.touchSet id).pairOk x a.keyId b.keyId = true → (u.touchSet id).actCount < 256 →
      u.serveCommit r c id x.commitNo ft d a b = ((u.touchSet id).keySeqNow r c).modSet id (fun y => { y with
        commitNo := y.commitNo + 1, prior := y.state, state := .sealed, ft := ft, digest := d, sigA := a, sigB := b, answerTo := some r })) ∧
    (∀ r c id k ft d a b x, u.setOf id = some x → k ≠ x.commitNo → u.serveCommit r c id k ft d a b = (u.touchSet id).refuseReq r c Op.commit Status.setState x.state.code 0 0) ∧
    (∀ r c id a b x, u.setOf id = some x → x.state = .open_ → a.keyId = x.opener → (u.touchSet id).sigOk x a = true → b.keyId = 0 →
      u.serveCancel r c id x.commitNo a b = (((u.touchSet id).modSet id (fun x => { x with commitNo := x.commitNo + 1 })).modSet id (fun x => { x with state := .cancelled })).finishWith r c
        (passing Op.cancelSet (stateBody id SetState.cancelled.code none))) ∧
    (∀ id x r reason stage v, u.setOf id = some x → x.answerTo = some r → x.state = .sealed → u.validate x = some (reason, stage) →
      v = (u.setRefuse x reason).answerCommit x (failing Op.commit Status.validationFailed (reason * 65536 + stage) 0 0) →
      AfterAll (.setValidated t id) s (if x.prior = .queued then v.revalidateAfter x.order else v)) ∧
    (∀ id x r n v w, u.setOf id = some x → x.answerTo = some r → x.state = .sealed → u.validate x = none → u.actFind .change id = none → u.actFree = some n →
      u.actPut x.ft .change x.joint id 0xFFFF = some v → w = v.modSet id (fun _ => { x with state := .queued, order := (v.act.slots.getD n ActSlot.reset).seq, answerTo := none }) →
      AfterAll (.setValidated t id) s (w.jForm 0 (partsMask (w.affected { x with state := .queued, order := (v.act.slots.getD n ActSlot.reset).seq, answerTo := none })) (some r) .anonymous none (some (passing Op.commit (stateBody id (if x.claim then SetState.fired.code else SetState.queued.code) (some (if x.claim then 0xFF else n))))) (.set { x with state := .queued, order := (v.act.slots.getD n ActSlot.reset).seq, answerTo := none } (v.consentNeeded x)))) ∧
    (∀ id x r n v w, u.setOf id = some x → x.answerTo = some r → x.state = .sealed → u.validate x = none → u.actFind .change id = some n →
      v = u.modAct (fun y => { y with slots := y.slots.modify n (fun e => { e with ft := x.ft, state := .pending }) }) → w = v.modSet id (fun _ => { x with state := .queued, order := (v.act.slots.getD n ActSlot.reset).seq, answerTo := none }) →
      AfterAll (.setValidated t id) s (w.jForm 0 (partsMask (w.affected { x with state := .queued, order := (v.act.slots.getD n ActSlot.reset).seq, answerTo := none })) (some r) .anonymous none (some (passing Op.commit (stateBody id (if x.claim then SetState.fired.code else SetState.queued.code) (some (if x.claim then 0xFF else n))))) (.set { x with state := .queued, order := (v.act.slots.getD n ActSlot.reset).seq, answerTo := none } (v.consentNeeded x)))) ∧
    (∀ id x r, u.setOf id = some x → x.answerTo = some r → x.state = .sealed → u.validate x = none → u.actFind .change id = none → u.actFree = none →
      AfterAll (.setValidated t id) s ((u.modSet id (fun c => { c with state := c.prior, commitNo := c.commitNo - 1 })).answerCommit x (failing Op.commit Status.noResource 0 0 0))) ∧
    (∀ id x r, u.setOf id = some x → x.answerTo = some r → x.state ≠ .sealed → AfterAll (.setValidated t id) s (u.answerCommit x (failing Op.commit Status.setState x.state.code 0 0))) ∧
    (∀ id x, u.setOf id = some x → x.answerTo = none → AfterAll (.setValidated t id) s u) ∧
    (∀ id, u.setOf id = none → AfterAll (.setValidated t id) s u) ∧
    (∀ id x, u.setOf id = some x → x.state = .open_ → u.after x.lastReq 600000000000 = true → After (.setExpire t id) s (u.modSet id (fun c => { c with state := .expired }))) ∧
    (∀ id x, u.setOf id = some x → (x.state ≠ .open_ ∨ u.after x.lastReq 600000000000 = false) → After (.setExpire t id) s u)

/-- A session without a request for 300 s closes; sooner, or where it is not open, nothing happens. A doorbell of a home partition's mailbox
that is not BUSY takes a request of 24 to 4,096 bytes, with BUSY set and READY clear; any other length, or one that comes while BUSY, is
ignored and counted; of a partition that is not at home here nothing happens, and so for the mailbox's READY, which a write of 1 clears.
Over I3C, while it is served, the module takes an endpoint ID from 1 to 254 and answers it, and answers 0 or 255 as invalid with the ID
that it keeps; it answers its endpoint ID, the versions and its message types. Over the management port, while it is served, it answers
ICMP echo with the data and neighbour discovery of its own addresses, and of no other. On a transport that is not served it answers
nothing. Completes (exec answers the next state that the clause gives): sessionIdleClose, mbDoorbell, mbReadyClear, setEndpointId,
getEndpointId, getMctpVersionSupport, getMessageTypeSupport, icmpEcho, neighbourDiscovery. (12_dictionary.md R422 R430 R433) -/
def Obligations.SessionsAndTransports : Prop :=
  ∀ (s u : State) (t : Nat), u = s.tick t →
    (∀ n x, u.sessionOf n = some x → u.after x.lastReq 300000000000 = true →
      After (.sessionIdleClose t n) s (u.modBocel (fun b => { b with sessions := b.sessions.filter (·.id ≠ n) }))) ∧
    (∀ n, (∀ x, u.sessionOf n = some x → u.after x.lastReq 300000000000 = false) → After (.sessionIdleClose t n) s u) ∧
    (∀ p len, p < 64 → u.isHome p = true → (u.part p).mailbox.busy = false → 24 ≤ len → len ≤ 4096 →
      After (.mbDoorbell t p len) s (u.modPart p (fun x => { x with mailbox := { x.mailbox with busy := true, ready := false } }))) ∧
    (∀ p len, p < 64 → u.isHome p = true → (u.part p).mailbox.busy = true ∨ len < 24 ∨ 4096 < len →
      After (.mbDoorbell t p len) s ((u.modBocel (fun b => { b with mbIgnored := b.mbIgnored + 1 })).countHeart 0x3C7 1)) ∧
    (∀ p len, (64 ≤ p ∨ u.isHome p = false) → After (.mbDoorbell t p len) s u) ∧
    (∀ p, (64 ≤ p ∨ u.isHome p = false) → After (.mbReadyClear t p) s u) ∧
    (∀ p, u.isHome p = true → p < 64 → After (.mbReadyClear t p) s (u.modPart p (fun x => { x with mailbox := { x.mailbox with ready := false } }))) ∧
    (∀ e, u.takes .i3c = true → 1 ≤ e → e ≤ 254 → After (.setEndpointId t e) s ((u.modBocel (fun b => { b with eid := e })).emit (.answer "set endpoint ID" [0, e]))) ∧
    (∀ e, u.takes .i3c = true → e = 0 ∨ 254 < e → After (.setEndpointId t e) s (u.emit (.answer "set endpoint ID" [2, u.bocel.eid]))) ∧
    (u.takes .i3c = true → After (.getEndpointId t) s (u.emit (.answer "endpoint ID" [u.bocel.eid]))) ∧
    (u.takes .i3c = true → After (.getMctpVersionSupport t) s (u.emit (.answer "MCTP version support" []))) ∧
    (u.takes .i3c = true → After (.getMessageTypeSupport t) s (u.emit (.answer "message type support" [0x7E, Config.vendorId]))) ∧
    (∀ d, u.takes .udp = true → After (.icmpEcho t d) s (u.emit (.answer "ICMP echo reply" (d.map (·.toNat))))) ∧
    (∀ d, u.takes .udp = false → After (.icmpEcho t d) s u) ∧
    (∀ e, u.takes .i3c = false → After (.setEndpointId t e) s u) ∧
    (u.takes .i3c = false → After (.getEndpointId t) s u) ∧
    (u.takes .i3c = false → After (.getMctpVersionSupport t) s u) ∧
    (u.takes .i3c = false → After (.getMessageTypeSupport t) s u) ∧
    (∀ a, u.takes .udp = true → (a = Config.linkLocal ∨ a ≠ 0 ∧ (a = u.get Key.MGMT_IPV6 ∨ a = u.get Key.MGMT_IPV4)) → After (.neighbourDiscovery t a) s (u.emit (.answer "neighbour advertisement" [a, Config.mgmtMac]))) ∧
    (∀ a, (u.takes .udp = false ∨ a ≠ Config.linkLocal ∧ (a = 0 ∨ a ≠ u.get Key.MGMT_IPV6 ∧ a ≠ u.get Key.MGMT_IPV4)) → After (.neighbourDiscovery t a) s u)

/-- While the configuration requests of a home partition are served, its responder answers GET_VERSION with 1.3, GET_CAPABILITIES,
NEGOTIATE_ALGORITHMS, GET_DIGESTS, and GET_CERTIFICATE with the maker root and the identity certificate of slot 0 and for another slot
with an error. CHALLENGE and GET_MEASUREMENTS are answered with a signature of the identity key, and once the key store is zeroized with
an error, as KEY_EXCHANGE is. GET_MEASUREMENTS answers the boot ROM's digest, that of the active image, that of the subordinate images,
the crown policy, the partition's set-up, the identifiers and the member crowns' blocks. KEY_EXCHANGE begins a session where fewer than
four stand and its ID is free, else it is answered with an error. FINISH ends the handshake of a begun session, or the session where its
check fails (model's choice, log entry 136), with an error; where no such session is begun the answer is an error. HEARTBEAT, KEY_UPDATE
and END_SESSION act on a finished session: an answer, the next key phase, the session gone; without one the answer is an error. While the
configuration requests of the partition are not served, none of the twelve is answered. Completes (exec answers the next state that the
clause gives): getVersion, getCapabilities, negotiateAlgorithms, getDigests, getCertificate, challenge, getMeasurements, keyExchange,
finish, heartbeat, keyUpdate, endSession. (06_partitions.md R225; 13_roles_and_security.md R456 R457) -/
def Obligations.SpdmResults : Prop :=
  ∀ (s u : State) (t : Nat), u = s.tick t →
    (∀ p, u.doeServes p = true → After (.getVersion t p) s (u.emit (.answer "VERSION" [p, 0x13]))) ∧
    (∀ p, u.doeServes p = true → After (.getCapabilities t p) s (u.emit (.answer "CAPABILITIES" [p, Config.spdmBody 0xE1 p]))) ∧
    (∀ p, u.doeServes p = true → After (.negotiateAlgorithms t p) s (u.emit (.answer "ALGORITHMS ECDSA-P384 SHA-384 secp384r1 AES-256-GCM" [p]))) ∧
    (∀ p, u.doeServes p = true → After (.getDigests t p) s (u.emit (.answer "DIGESTS" [p, 1, Config.chainDigest]))) ∧
    (∀ p, u.doeServes p = true → After (.getCertificate t p 0) s (u.emit (.answer "CERTIFICATE" [p, Config.rootCert, Config.identityCert]))) ∧
    (∀ p n, u.doeServes p = true → n ≠ 0 → After (.getCertificate t p n) s (u.emit (.answer "SPDM ERROR" [p]))) ∧
    (∀ p n b, u.doeServes p = true → u.sec.zeroized = false → b = Config.spdmBody 0x83 (n + 2 ^ 256 * Config.random u.draws) →
      After (.challenge t p n) s (u.drew.emit (.answer "CHALLENGE_AUTH" [p, Config.chainDigest, Config.random u.draws, b, Config.identitySign b]))) ∧
    (∀ p n, u.doeServes p = true → u.sec.zeroized = true → After (.challenge t p n) s (u.emit (.answer "SPDM ERROR" [p]))) ∧
    (∀ p n b, u.doeServes p = true → u.sec.zeroized = false →
      b = [Config.romDigest, u.journal.digests.getD u.journal.bootActive 0, Config.subordinateDigest (u.journal.digests.getD u.journal.bootActive 0), u.blockPolicy, u.blockPart p, Config.deviceSerial, u.crownId, u.groveId p, p, (u.part p).measGen.toNat] ++ u.blockMembers p →
      After (.getMeasurements t p n) s (u.drew.emit (.answer "MEASUREMENTS" (p :: (b ++ [Config.identitySign (Config.spdmBody 0xE0 (b.foldl (fun h b => Config.sha384 (beBytes 48 h ++ beBytes 48 b)) n))]))))) ∧
    (∀ p id, u.doeServes p = true → u.sec.zeroized = false → (u.part p).spdm.length < 4 → u.spdmOf p id = none →
      After (.keyExchange t p id) s ((u.modPart p (fun x => { x with spdm := x.spdm ++ [{ id := id, finished := false, keyPhase := 0 }] })).drew.emit
        (.answer "KEY_EXCHANGE_RSP" [p, id, Config.spdmBody 0xE4 (Config.random u.draws), Config.identitySign (Config.spdmBody 0xE4 (Config.random u.draws))]))) ∧
    (∀ p id, u.doeServes p = true → 4 ≤ (u.part p).spdm.length → After (.keyExchange t p id) s (u.emit (.answer "SPDM ERROR" [p]))) ∧
    (∀ p id x, u.doeServes p = true → u.spdmOf p id = some x → x.finished = false →
      After (.finish t p id true) s ((u.modSpdm p id (fun x => { x with finished := true })).emit (.answer "FINISH_RSP" [p, id]))) ∧
    (∀ p id x, u.doeServes p = true → u.spdmOf p id = some x → x.finished = false → After (.finish t p id false) s ((u.endSpdm p id).emit (.answer "SPDM ERROR" [p]))) ∧
    (∀ p id, u.inSession p id = true → After (.heartbeat t p id) s (u.emit (.answer "HEARTBEAT_ACK" [p, id]))) ∧
    (∀ p id, u.inSession p id = false → u.doeServes p = true → After (.heartbeat t p id) s (u.emit (.answer "SPDM ERROR" [p]))) ∧
    (∀ p id, u.inSession p id = true → After (.keyUpdate t p id) s ((u.modSpdm p id (fun x => { x with keyPhase := x.keyPhase + 1 })).emit (.answer "KEY_UPDATE_ACK" [p, id]))) ∧
    (∀ p id, u.inSession p id = true → After (.endSession t p id) s ((u.endSpdm p id).emit (.answer "END_SESSION_ACK" [p, id]))) ∧
    (∀ p id x ok, u.doeServes p = true → u.spdmOf p id = some x → x.finished = true → After (.finish t p id ok) s (u.emit (.answer "SPDM ERROR" [p]))) ∧
    (∀ p id ok, u.doeServes p = true → u.spdmOf p id = none → After (.finish t p id ok) s (u.emit (.answer "SPDM ERROR" [p]))) ∧
    (∀ p id, u.inSession p id = false → u.doeServes p = true → After (.keyUpdate t p id) s (u.emit (.answer "SPDM ERROR" [p]))) ∧
    (∀ p id, u.inSession p id = false → u.doeServes p = true → After (.endSession t p id) s (u.emit (.answer "SPDM ERROR" [p]))) ∧
    (∀ p n, u.doeServes p = true → u.sec.zeroized = true → After (.getMeasurements t p n) s (u.emit (.answer "SPDM ERROR" [p]))) ∧
    (∀ p id, u.doeServes p = true → u.sec.zeroized = true ∨ (u.spdmOf p id).isSome = true → After (.keyExchange t p id) s (u.emit (.answer "SPDM ERROR" [p]))) ∧
    (∀ p, u.doeServes p = false → After (.getVersion t p) s u) ∧
    (∀ p, u.doeServes p = false → After (.getCapabilities t p) s u) ∧
    (∀ p, u.doeServes p = false → After (.negotiateAlgorithms t p) s u) ∧
    (∀ p, u.doeServes p = false → After (.getDigests t p) s u) ∧
    (∀ p n, u.doeServes p = false → After (.getCertificate t p n) s u) ∧
    (∀ p n, u.doeServes p = false → After (.challenge t p n) s u) ∧
    (∀ p n, u.doeServes p = false → After (.getMeasurements t p n) s u) ∧
    (∀ p id, u.doeServes p = false → After (.keyExchange t p id) s u) ∧
    (∀ p id ok, u.doeServes p = false → After (.finish t p id ok) s u) ∧
    (∀ p id, u.doeServes p = false → After (.heartbeat t p id) s u) ∧
    (∀ p id, u.doeServes p = false → After (.keyUpdate t p id) s u) ∧
    (∀ p id, u.doeServes p = false → After (.endSession t p id) s u)

/-- IDE key management over a finished session programs the keys of a stream, of at most eight, stops one, and answers with an error a ninth
or a request without a session; a partition that is not served answers nothing. Where the policy requires link IDE on a twig whose link is
up, its absence 100 ms after L0 (not sooner, and not where it is Secure), and a stream that leaves the Secure state, fail it:
LINK_IDE_STATE 0x02 and IDE_FAIL. Where it is not required, a Secure stream that leaves is off, and a twig that has none stays as it is. A
failed check of a stream that ends at the module on an H-twig raises IDE_CHECK_FAIL and nothing more; a T-twig, or none, has no such
stream. The hold for a test unlock ends after 600 s, not sooner, or at once when the strap is released: start-up then goes on to GDDR7
training, and the time of the hold does not count in the start's 5 s (DEDUCED, log entry 139); where nothing is held, neither changes
anything but the strap. Completes (exec answers the next state that the clause gives): ideKmRequest, ideEstablishTimeout,
ideStreamInsecure, ideCheckFail, testHoldTimeout, testStrapRelease. (13_roles_and_security.md R459 R460 R461 R462 R463;
14_journal_and_update.md R487) -/
def Obligations.IdeAndTestMode : Prop :=
  ∀ (s u : State) (t : Nat), u = s.tick t →
    (∀ p id n, u.inSession p id = true → (u.part p).ideStreams.length < 8 →
      After (.ideKmRequest t p id n true) s ((u.modPart p (fun x => { x with ideStreams := insertNew x.ideStreams n })).emit (.answer "IDE_KM" [p, n, 1]))) ∧
    (∀ p id n, u.inSession p id = true → n ∉ (u.part p).ideStreams → 8 ≤ (u.part p).ideStreams.length → After (.ideKmRequest t p id n true) s (u.emit (.answer "SPDM ERROR" [p]))) ∧
    (∀ p id n, u.inSession p id = true → After (.ideKmRequest t p id n false) s ((u.modPart p (fun x => { x with ideStreams := eraseAll x.ideStreams n })).emit (.answer "IDE_KM" [p, n, 0]))) ∧
    (∀ g, u.ideRequired g = true → u.ideState g = 0 → u.after (u.hport (portOfG g)).l0At 100000000 = true →
      AfterAll (.ideEstablishTimeout t g) s ((u.modSec (fun x => { x with ide := assocPut x.ide g 2 })).noteFree 0xBF3 2)) ∧
    (∀ g, (u.ideRequired g = false ∨ u.ideState g = 1 ∨ u.after (u.hport (portOfG g)).l0At 100000000 = false) → AfterAll (.ideEstablishTimeout t g) s u) ∧
    (∀ g, u.ideRequired g = true → AfterAll (.ideStreamInsecure t g) s ((u.modSec (fun x => { x with ide := assocPut x.ide g 2 })).noteFree 0xBF3 2)) ∧
    (∀ g, u.ideRequired g = false → g < 160 → u.ideState g = 1 → AfterAll (.ideStreamInsecure t g) s (u.modSec (fun x => { x with ide := assocPut x.ide g 0 }))) ∧
    (∀ g, u.ideRequired g = false → (160 ≤ g ∨ u.ideState g ≠ 1) → AfterAll (.ideStreamInsecure t g) s u) ∧
    (∀ g, g < 160 → isT g = false → AfterAll (.ideCheckFail t g) s (u.noteFree 0xBF4 1)) ∧
    (∀ g, (160 ≤ g ∨ isT g = true) → AfterAll (.ideCheckFail t g) s u) ∧
    (∀ p id n b, u.inSession p id = false → u.doeServes p = true → After (.ideKmRequest t p id n b) s (u.emit (.answer "SPDM ERROR" [p]))) ∧
    (∀ p id n b, u.doeServes p = false → After (.ideKmRequest t p id n b) s u) ∧
    (∀ p id n, u.inSession p id = true → n ∈ (u.part p).ideStreams → After (.ideKmRequest t p id n true) s ((u.modPart p (fun x => { x with ideStreams := insertNew x.ideStreams n })).emit (.answer "IDE_KM" [p, n, 1]))) ∧
    (∀ n w, u.sec.hold = some (n, w) → u.after w 600000000000 = true →
      After (.testHoldTimeout t) s ((u.modSec (fun x => { x with hold := none })).modJournal (fun j => { j with startSince := j.startSince + (u.now - w) })).startTraining) ∧
    (∀ n w, u.sec.hold = some (n, w) → u.after w 600000000000 = false → After (.testHoldTimeout t) s u) ∧
    (u.sec.hold = none → After (.testHoldTimeout t) s u) ∧
    (∀ n w, u.sec.hold = some (n, w) →
      After (.testStrapRelease t) s ((u.modSec (fun x => { x with strap := false, hold := none })).modJournal (fun j => { j with startSince := j.startSince + (u.now - w) })).startTraining) ∧
    (u.sec.hold = none → After (.testStrapRelease t) s (u.modSec (fun x => { x with strap := false })))

/-- Without a record in the making, while the intake's warning stands but for a record whose body stood when it came, and while the heartwood
does not run, RECORD_WHOLE does nothing. Else both devices program the oldest; unless its trailer is whole on every device that works, and
one does, it waits; else it joins the journal, its effect is taken, its answer sent, or kept until the warning's end, and the service
queue goes on; compaction starts by itself at 75 %. A device that programs restarts its count of failures, one that fails counts it, and
the third running takes it out of the mirror with FLASH_MIRROR_LOST; one that is out stays out. The write that a record carries is
applied, and one of TEST_UNLOCK zeroizes: TEST_MODE 1, an empty dictionary, no fabric memory. COMPACT_NOW by an installer starts
compaction from the newest record, unless one runs or rings of the old set remain; by any other it does nothing. COMPACTION_SNAP_END makes
the new set the live one and raises JOURNAL_COMPACTED: the next SET_GEN, the values as of N, every record after N and those of the sets
that wait kept, and no numbered record that was not there; without a compaction it does nothing. RING_ERASE_DONE counts a ring of the old
set as erased where every working device has erased it; where one failed the ring remains, with the failure counted; with no ring to
erase, under the intake's warning or without the standby domain it does nothing. Completes (exec answers the next state that the clause
gives): recordWhole, compactNow, compactionSnapEnd, ringEraseDone. (13_roles_and_security.md R463; 14_journal_and_update.md R469 R473 R477
R479) -/
def Obligations.RecordsAndCompaction : Prop :=
  ∀ (s u : State) (t : Nat), u = s.tick t →
    (∀ p rest f0 f1 v w, u.journal.inFlight = p :: rest → (u.journal.warned = false ∨ u.journal.bodyDone = true) → u.awake = true → v = (u.flashProgram 0 f0).flashProgram 1 f1 →
      v.programmed f0 f1 = true → w = (v.modJournal (fun j => { j with inFlight := rest, bodyDone := false })).recordTaken p →
      AfterAll (.recordWhole t f0 f1) s (w.serveQueue w.bocel.queue.length).compactIfFull) ∧
    (∀ p rest f0 f1 v, u.journal.inFlight = p :: rest → (u.journal.warned = false ∨ u.journal.bodyDone = true) → u.awake = true → v = (u.flashProgram 0 f0).flashProgram 1 f1 →
      v.programmed f0 f1 = false → AfterAll (.recordWhole t f0 f1) s v) ∧
    (∀ f0 f1, u.journal.inFlight = [] → AfterAll (.recordWhole t f0 f1) s u) ∧
    (∀ f0 f1, (u.journal.warned = true ∧ u.journal.bodyDone = false ∨ u.awake = false) → AfterAll (.recordWhole t f0 f1) s u) ∧
    (∀ (w : State) p r a, p.req = some r → p.answer = some a →
      w.recordTaken p = if (((w.jWhole p.record).takeSeq p.record).takeWrite p |>.takeSet p.record).journal.warned then (((w.jWhole p.record).takeSeq p.record).takeWrite p |>.takeSet p.record).modJournal (fun j => { j with heldAnswers := j.heldAnswers ++ [(r, a)] }) else (((w.jWhole p.record).takeSeq p.record).takeWrite p |>.takeSet p.record).respond r a) ∧
    (∀ (w : State) (p : PendingRecord), p.req = none → w.recordTaken p = (((w.jWhole p.record).takeSeq p.record).takeWrite p).takeSet p.record) ∧
    (∀ (w : State), 75 ≤ w.journal.fill → w.compactIfFull = w.compactStart) ∧
    (∀ (w : State), w.journal.fill < 75 → w.compactIfFull = w) ∧
    (∀ d, u.journal.works d = true → u.flashProgram d true = u.modJournal (fun j => { j with flashFails := j.flashFails.set d 0 })) ∧
    (∀ d, u.journal.works d = true → u.journal.flashFails.getD d 0 < 2 → u.flashProgram d false = u.modJournal (fun j => { j with flashFails := j.flashFails.set d (u.journal.flashFails.getD d 0 + 1) })) ∧
    (∀ d, u.journal.works d = true → 2 ≤ u.journal.flashFails.getD d 0 → u.flashProgram d false = (u.modJournal (fun j => { j with flash := j.flash.set d false, flashFails := j.flashFails.set d (u.journal.flashFails.getD d 0 + 1) })).noteFree 0xC15 2) ∧
    (∀ d b, u.journal.works d = false → u.flashProgram d b = u) ∧
    (∀ p key v, p.write = some (key, v) → key ≠ Key.TEST_UNLOCK → u.takeWrite p = u.applyWrite p.who key v) ∧
    (∀ p v, p.write = some (Key.TEST_UNLOCK, v) → u.takeWrite p = u.zeroize p.record.keyId) ∧
    (∀ k, (u.zeroize k).sec.testMode = true ∧ (u.zeroize k).dict = [] ∧ (u.zeroize k).mem.cells = []) ∧
    (∀ k, u.journal.mode = 0 → u.journal.oldRings = 0 →
      After (.compactNow t (.installer k)) s (u.modJournal (fun j => { j with mode := 1, compactFrom := (j.records.map (·.rno)).foldl max 0 }))) ∧
    (∀ k, (u.journal.mode ≠ 0 ∨ u.journal.oldRings ≠ 0) → After (.compactNow t (.installer k)) s u) ∧
    (∀ w, w.isInstaller = false → After (.compactNow t w) s u) ∧
    (u.journal.mode ≠ 1 → After (.compactionSnapEnd t) s u) ∧
    (u.journal.mode = 1 → After (.compactionSnapEnd t) s ((u.modJournal Journal.compacted).noteFree 0xC17 0)) ∧
    (∀ (j : Journal), j.compacted.setGen = j.setGen + 1 ∧ j.compacted.mode = 0 ∧ j.compacted.oldRings = j.usedRings ∧ j.compacted.nextRno = j.nextRno ∧
      j.compacted.base = (((j.records.filter (fun r => r.rno ≤ j.compactFrom && r.rno ≠ 0)).filter (fun r => j.baseRno < r.rno)).foldl (replayOne (replaySets j.records)) j.base)) ∧
    (∀ (j : Journal) (r : JRecord), r ∈ j.records → j.compactFrom < r.rno → r ∈ j.compacted.records) ∧
    (∀ (j : Journal) (r : JRecord) cs, r ∈ j.records → r.rno ≤ j.compactFrom → r.rno ≠ 0 → cs ∈ replaySets (j.records.filter (fun r => r.rno ≤ j.compactFrom && r.rno ≠ 0)) → (cs.state = .queued ∨ cs.state = .postponed) → (∃ x c, r.body = .set x c ∧ x.id = cs.id) → r ∈ j.compacted.records) ∧
    (∀ (j : Journal) (r : JRecord), r ∈ j.compacted.records → r.rno ≠ 0 → r ∈ j.records) ∧
    (∀ f0 f1, (u.journal.oldRings = 0 ∨ u.journal.warned = true ∨ u.power.standby = false) → After (.ringEraseDone t f0 f1) s u) ∧
    (∀ f0 f1 v, 0 < u.journal.oldRings → u.journal.warned = false → u.power.standby = true → v = (u.flashProgram 0 f0).flashProgram 1 f1 → v.programmed f0 f1 = true →
      After (.ringEraseDone t f0 f1) s ((v.modJournal (fun j => { j with oldRings := j.oldRings - 1 })).countHeart 0x3D2 1).compactIfFull) ∧
    (∀ f0 f1 v, 0 < u.journal.oldRings → u.journal.warned = false → u.power.standby = true → v = (u.flashProgram 0 f0).flashProgram 1 f1 → v.programmed f0 f1 = false →
      After (.ringEraseDone t f0 f1) s v)

/-- An installer's chunk at offset 0 begins a graft, discarding any earlier; the next in order extends it; any other offset, one while an
activation is queued, or one of another role, changes nothing. GRAFT_APPLY of an installer refuses the graft with the code of the first
check that fails, 1 to 5 in the order of R483 (recovery takes only a zero BASE_DIGEST), and GRAFT_REFUSED; else the target slot is erased
and application begins; while an activation is queued, or by another role, nothing happens. The end of application writes the result;
where its digest is not RESULT_DIGEST or its image signature fails it is refused with code 6, else GRAFT_STATE is 4, the GRAFT record is
written and GRAFT_APPLIED raised; where none is in progress nothing happens. GRAFT_ACT_FT of an installer, with GRAFT_STATE 4 or 5, queues
the activation at an FT at least 100 ms ahead, moves one that is queued, or by 0 cancels it; in another state, sooner, or with the queue
full it is refused, and by another role nothing happens. The activation waits its turn; where the crown is not locked it is postponed;
else, once due, it writes the boot record with the inactive slot and 0 attempts and the GRAFT record, and performs the warm reset; none
queued, nothing happens. Completes (exec answers the next state that the clause gives): graftChunk, graftApply, graftApplyDone,
graftActFt, firmwareActivation. (14_journal_and_update.md R483 R484 R485) -/
def Obligations.GraftResults : Prop :=
  ∀ (s u : State) (t : Nat), u = s.tick t →
    (∀ k d, u.journal.graftState ≠ 5 → After (.graftChunk t (.installer k) 0 d) s
      (u.modJournal (fun j => { j with graftState := 1, graftReason := 0, graftReceived := 1024, staged := d }))) ∧
    (∀ k d o, u.journal.graftState = 1 → o = u.journal.graftReceived → 0 < o → o % 1024 = 0 → o + 1024 ≤ 0x1000000 →
      After (.graftChunk t (.installer k) o d) s (u.modJournal (fun j => { j with graftReceived := o + 1024, staged := j.staged ++ d }))) ∧
    (∀ k d o, (u.journal.graftState = 5 ∨ o % 1024 ≠ 0 ∨ 0x1000000 < o + 1024 ∨ 0 < o ∧ (u.journal.graftState ≠ 1 ∨ o ≠ u.journal.graftReceived)) → After (.graftChunk t (.installer k) o d) s u) ∧
    (∀ w d o, w.isInstaller = false → After (.graftChunk t w o d) s u) ∧
    (∀ k c, u.journal.graftState ≠ 5 → c = u.journal.graftCode (u.get Key.IMAGE_SVN_FLOOR) → c ≠ 0 → AfterAll (.graftApply t (.installer k)) s (u.graftRefuse c)) ∧
    (∀ k, u.journal.graftState ≠ 5 → AfterAll (.graftApply t (.installer k)) s
      (if u.journal.graftCode (u.get Key.IMAGE_SVN_FLOOR) ≠ 0 then u.graftRefuse (u.journal.graftCode (u.get Key.IMAGE_SVN_FLOOR)) else
        u.modJournal (fun j => { j with graftState := 3, graftReason := 0, versions := j.versions.set j.target 0, images := j.images.set j.target [], digests := j.digests.set j.target (Config.sha384 []) }))) ∧
    (∀ k, u.journal.graftState = 5 → AfterAll (.graftApply t (.installer k)) s u) ∧
    (∀ w, w.isInstaller = false → AfterAll (.graftApply t w) s u) ∧
    (∀ (j : Journal) floor, j.graftCode floor = if graftHeaderOk j.staged = false then 1 else if graftSigned j.staged = false then 2
      else if beField j.staged 8 55 ≠ 0 ∧ (j.recovery = true ∨ beField j.staged 8 55 ≠ j.digests.getD j.bootActive 0) then 3 else if beField j.staged 112 113 < floor then 4
      else if graftResult (j.images.getD j.bootActive []) j.staged = none then 5 else 0) ∧
    (∀ n image, u.journal.graftState = 3 → graftResult (u.journal.images.getD u.journal.bootActive []) u.journal.staged = some image → n = u.journal.target →
      AfterAll (.graftApplyDone t) s
      (if Config.sha384 image ≠ beField u.journal.staged 56 103 ∨ Config.imageSigned image = false then
        (u.modJournal (fun j => { j with images := j.images.set n image, digests := j.digests.set n (Config.sha384 image) })).graftRefuse 6
      else
        (((u.modJournal (fun j => { j with images := j.images.set n image, digests := j.digests.set n (Config.sha384 image) })).modJournal (fun j => { j with graftState := 4, versions := j.versions.set n (beField u.journal.staged 108 111), svns := j.svns.set n (beField u.journal.staged 112 113) })).jAppend
        (.graft 0 n (beField u.journal.staged 108 111) (Config.sha384 image))).noteFree 0xC18 0)) ∧
    (u.journal.graftState ≠ 3 → AfterAll (.graftApplyDone t) s u) ∧
    (∀ k ft v, (u.journal.graftState = 4 ∨ u.journal.graftState = 5) → 0 < ft → u.time.ft + 100000000 ≤ ft → u.actFind .firmware 0 = none → u.actPut ft .firmware true 0 0xFFFF = some v →
      After (.graftActFt t (.installer k) ft) s ((v.modJournal (fun j => { j with graftState := 5 })).setJ Key.GRAFT_ACT_FT ft)) ∧
    (∀ k ft n, (u.journal.graftState = 4 ∨ u.journal.graftState = 5) → 0 < ft → u.time.ft + 100000000 ≤ ft → u.actFind .firmware 0 = some n →
      After (.graftActFt t (.installer k) ft) s (((u.modAct (fun x => { x with slots := x.slots.modify n (fun a => { a with ft := ft, state := .pending }) })).modJournal (fun j => { j with graftState := 5 })).setJ Key.GRAFT_ACT_FT ft)) ∧
    (∀ k n, (u.journal.graftState = 4 ∨ u.journal.graftState = 5) → u.actFind .firmware 0 = some n →
      After (.graftActFt t (.installer k) 0) s (((u.actDrop n).modJournal (fun j => { j with graftState := 4 })).setJ Key.GRAFT_ACT_FT 0)) ∧
    (∀ k, (u.journal.graftState = 4 ∨ u.journal.graftState = 5) → u.actFind .firmware 0 = none →
      After (.graftActFt t (.installer k) 0) s ((u.modJournal (fun j => { j with graftState := 4 })).setJ Key.GRAFT_ACT_FT 0)) ∧
    (∀ k ft, (u.journal.graftState ≠ 4 ∧ u.journal.graftState ≠ 5 ∨ 0 < ft ∧ ft < u.time.ft + 100000000 ∨ 0 < ft ∧ u.actFind .firmware 0 = none ∧ u.actPut ft .firmware true 0 0xFFFF = none) → After (.graftActFt t (.installer k) ft) s u) ∧
    (∀ w ft, w.isInstaller = false → After (.graftActFt t w ft) s u) ∧
    (∀ n v slot, u.actFind .firmware 0 = some n → u.actTurn n = true → u.dueFate true ≠ .postpone → v = u.markFired n → slot = 1 - v.journal.bootActive →
      AfterAll (.firmwareActivation t) s (((v.modJournal (fun j => { j.bootWrite slot 0 with graftState := 0 })).jNow
        (.graft 0x10 slot (v.journal.versions.getD slot 0) (v.journal.digests.getD slot 0))).warmReset 6)) ∧
    (∀ n, u.actFind .firmware 0 = some n → u.actTurn n = false → AfterAll (.firmwareActivation t) s u) ∧
    (∀ n, u.actFind .firmware 0 = some n → u.actTurn n = true → u.dueFate true = .postpone → AfterAll (.firmwareActivation t) s (u.postpone n)) ∧
    (u.actFind .firmware 0 = none → AfterAll (.firmwareActivation t) s u)

/-- A start in progress, or one without power, does nothing. Else the boot ROM reads the boot record and the journal's device; without a valid
record, or after two attempts where the other slot does not verify or is below the SVN floor, it holds in recovery; after two attempts it
takes that other slot, else the active one, with one attempt more; an image or subordinate image that fails ends in the warm reset, else
the journal is replayed and the limbs start. START_OK after GDDR7 training and within 5 s writes the START record, sets the attempts to 0,
ends start-up, lifts the SVN floor to the image's, and raises GRAFT_FALLBACK after a fallback; later, earlier or again it does nothing.
START_WATCHDOG restarts the module after 5 s without it, and sooner does nothing. A warm reset comes of an installer's request or the
RESET_N pin outside an input loss, the watchdog, the end of an input loss, an open F3 window or a queued activation, and else does
nothing. It fences the crown, leaves lock for HOLDOVER, finishes the record under way and resets the dies; under a latched F4 it does
nothing. The dictionary, fabric memory's lines and owners are gone; the journal's records, counter values and slot channels stay.
Completes (exec answers the next state that the clause gives): bootStart, startOk, startWatchdog, warmReset. (01_hierarchy.md R35;
14_journal_and_update.md R486 R487 R488; 15_power_and_startup.md R514) -/
def Obligations.StartResults : Prop :=
  ∀ (s u : State) (t : Nat), u = s.tick t →
    (∀ r, (u.journal.started = true ∨ u.power.startUp = false ∨ u.power.standby = false ∨ u.power.resetPin = true ∨ u.power.phase ≠ .on) → AfterAll (.bootStart t r) s u) ∧
    (∀ r v, (u.journal.started = false ∧ u.power.startUp = true ∧ u.power.standby = true ∧ u.power.resetPin = false ∧ u.power.phase = .on) → v = u.startReads r → (r.copy0 = false ∧ r.copy1 = false ∨ 2 ≤ v.journal.bootAttempts ∧ (r.otherOk = false ∨ v.journal.svn (1 - v.journal.bootActive) < (sortedGet v.journal.replay Key.IMAGE_SVN_FLOOR).getD 0)) →
      AfterAll (.bootStart t r) s (v.modJournal (fun j => { j with recovery := true }))) ∧
    (∀ r v, (u.journal.started = false ∧ u.power.startUp = true ∧ u.power.standby = true ∧ u.power.resetPin = false ∧ u.power.phase = .on) → v = u.startReads r → (r.copy0 = true ∨ r.copy1 = true) → v.journal.bootAttempts < 2 →
      AfterAll (.bootStart t r) s (if r.imageOk && r.subordinateOk then (v.modJournal (fun j => j.bootWrite v.journal.bootActive (j.bootAttempts + 1))).bootRun r.truncatedAt
        else (v.modJournal (fun j => j.bootWrite v.journal.bootActive (j.bootAttempts + 1))).warmReset 2)) ∧
    (∀ r v, (u.journal.started = false ∧ u.power.startUp = true ∧ u.power.standby = true ∧ u.power.resetPin = false ∧ u.power.phase = .on) → v = u.startReads r → (r.copy0 = true ∨ r.copy1 = true) → 2 ≤ v.journal.bootAttempts → r.otherOk = true → (sortedGet v.journal.replay Key.IMAGE_SVN_FLOOR).getD 0 ≤ v.journal.svn (1 - v.journal.bootActive) →
      AfterAll (.bootStart t r) s (if r.subordinateOk then (v.modJournal (fun j => { j.bootWrite (1 - v.journal.bootActive) 1 with fellBack := true })).bootRun r.truncatedAt
        else (v.modJournal (fun j => { j.bootWrite (1 - v.journal.bootActive) 1 with fellBack := true })).warmReset 2)) ∧
    (∀ (v w : State) a, w = ((v.modJournal (fun j => { j with recovery := false })).findJournal a).replayJournal.startLimbs → w.power.prior = 0 → w.sec.strap = false → v.bootRun a = w.startTraining) ∧
    (∀ (v w : State) a, w = ((v.modJournal (fun j => { j with recovery := false })).findJournal a).replayJournal.startLimbs → w.power.prior ≠ 0 → w.sec.strap = false → v.bootRun a = (w.noteAt 0xB80 w.power.prior 0).startTraining) ∧
    (∀ (v w : State) a, w = ((v.modJournal (fun j => { j with recovery := false })).findJournal a).replayJournal.startLimbs → w.power.prior = 0 → w.sec.strap = true → v.bootRun a = ((w.modSec (fun x => { x with hold := some (Config.random w.draws, w.now) })).drew).noteFree 0xBF7 0) ∧
    (∀ a, a = ((u.jAppend (.start u.journal.bootActive u.journal.bootAttempts u.journal.lastStop)).modJournal (fun j => { j.bootWrite j.bootActive 0 with started := true })).modPower (fun x => { x with startUp := false }) →
      u.journal.started = false → u.journal.recovery = false → u.sec.hold = none → u.mem.mode ≠ 0 → u.watchdogDue = false → u.journal.fellBack = false → u.journal.svn u.journal.bootActive ≤ a.get Key.IMAGE_SVN_FLOOR →
      After (.startOk t) s a) ∧
    (∀ a, a = ((u.jAppend (.start u.journal.bootActive u.journal.bootAttempts u.journal.lastStop)).modJournal (fun j => { j.bootWrite j.bootActive 0 with started := true })).modPower (fun x => { x with startUp := false }) →
      u.journal.started = false → u.journal.recovery = false → u.sec.hold = none → u.mem.mode ≠ 0 → u.watchdogDue = false → u.journal.fellBack = false → a.get Key.IMAGE_SVN_FLOOR < u.journal.svn u.journal.bootActive →
      After (.startOk t) s (a.setJ Key.IMAGE_SVN_FLOOR (u.journal.svn u.journal.bootActive))) ∧
    (∀ a, a = ((u.jAppend (.start u.journal.bootActive u.journal.bootAttempts u.journal.lastStop)).modJournal (fun j => { j.bootWrite j.bootActive 0 with started := true })).modPower (fun x => { x with startUp := false }) →
      u.journal.started = false → u.journal.recovery = false → u.sec.hold = none → u.mem.mode ≠ 0 → u.watchdogDue = false → u.journal.fellBack = true → u.journal.svn u.journal.bootActive ≤ a.get Key.IMAGE_SVN_FLOOR →
      After (.startOk t) s ((a.modJournal (fun j => { j with fellBack := false, graftState := 7 })).noteFree 0xC1A 2)) ∧
    ((u.journal.started = true ∨ u.journal.recovery = true ∨ u.sec.hold.isSome = true ∨ u.mem.mode = 0 ∨ u.watchdogDue = true) → After (.startOk t) s u) ∧
    (u.watchdogDue = true → After (.startWatchdog t) s (u.warmReset 2)) ∧
    (u.watchdogDue = false → After (.startWatchdog t) s u) ∧
    (∀ k, u.power.inputLost = false → After (.warmReset t (.request (.installer k))) s (u.warmReset 1)) ∧
    (u.power.resetPin = true → u.power.inputLost = false → After (.warmReset t .resetPin) s (u.warmReset 3)) ∧
    (u.watchdogDue = true → After (.warmReset t .watchdog) s (u.warmReset 2)) ∧
    (u.power.inputLost = true → u.power.warningEnd = true → u.power.inputUp = true → After (.warmReset t .inputLoss) s (u.warmReset 4)) ∧
    (u.faults.crown = .f3Open → After (.warmReset t .faultWindow) s (u.warmReset 5)) ∧
    (u.journal.graftState = 5 → After (.warmReset t .activation) s (u.warmReset 6)) ∧
    (∀ c, u.warmAllowed c = false → After (.warmReset t c) s u) ∧
    (∀ n, u.faults.crown = .f4Latched → u.warmReset n = u) ∧
    (∀ n (a b : State), u.faults.crown ≠ .f4Latched → a = (u.fenceNotice u.crownId true).flushNotice → b = (if a.time.mode = .locked ∨ a.time.mode = .acquiring then a.enterHoldover else a) →
      u.warmReset n = ((b.finishRecord).modJournal (fun j => { j with lastStop := n })).reborn) ∧
    (u.reborn.dict = [] ∧ u.reborn.hier.dies = [.inReset, .inReset, .inReset, .inReset, .running] ∧ u.reborn.fabric.ownFenced = true ∧ u.reborn.mem.cells = [] ∧ u.reborn.mem.owners = [] ∧ u.reborn.journal.records = u.journal.records ∧ u.reborn.now = u.now ∧ u.reborn.counters.values = u.counters.values ∧ u.reborn.power.slots = u.power.slots)

/-- With the input up and INTAKE_EN asserted the controller goes from off to the pre-check, and else stays; an input that rises in a loss
whose warning has ended restarts the crown. Deasserting INTAKE_EN turns an open gate off and ends the wait or the lockout after a trip,
but not a damaged transistor's latch. The pre-check's end below 10 percent starts the ramp (whatever still ran has stopped), between
waits, and from 50 percent with the gate off for 5 ms finds the transistor damaged; outside a pre-check it does nothing. Fully on from the
ramp, it gives power-good where every curve timer rests and withholds it else. The fast trip compares the higher reading with 250 A, and
in the ramp with twice INTAKE_INRUSH: above, the gate turns off with cause 1 or 2, else the sample is only taken. The ramp's time trips
with cause 3, a curve timer that has reached its point's time with 0x10 plus its point, and sooner neither does. A second trip within 60 s
locks the controller out; 1 s after a trip it starts again, and sooner not. A sample of the current that takes a timer from zero raises
INTAKE_CURVE_RUN, at most once in 1 ms, any other lets a withheld power-good be given. A gate off for 5 ms with half the input behind it
is a damaged transistor: latched off, and F4 with cause 1 where the heartwood runs; an open gate or one off for less finds none. The
removal of the input stops the heartwood and forgets the F4 latch, the lockout, the kept cause and the timers. Completes (exec answers the
next state that the clause gives): intakeInputRise, intakeEnAssert, intakeEnDeassert, precheckEnd, gateFullyOn, fastTrip, rampTimeout,
curveTrip, tripRestart, intakeOvercurrent, fetDamageDetect, inputRemoved. (15_power_and_startup.md R498 R499 R500 R501 R503 R504 R553) -/
def Obligations.IntakeResults : Prop :=
  ∀ (s u : State) (t : Nat), u = s.tick t →
    (∀ mv v, v = (u.sampleVolts mv).modPower (fun x => { x with inputUp := true }) → u.power.inputLost = false → After (.intakeInputRise t mv) s v.intakeStart) ∧
    (∀ mv v, v = (u.sampleVolts mv).modPower (fun x => { x with inputUp := true }) → u.power.inputLost = true → u.power.warningEnd = true → After (.intakeInputRise t mv) s v.inputBack) ∧
    (∀ mv v, v = (u.sampleVolts mv).modPower (fun x => { x with inputUp := true }) → u.power.inputLost = true → u.power.warningEnd = false → After (.intakeInputRise t mv) s v) ∧
    (∀ (w : State), w.power.enabled = true → w.power.inputUp = true → w.power.phase = .off → w.intakeStart = w.modPower (fun x => { x with phase := .precheck })) ∧
    (∀ (w : State), (w.power.enabled = false ∨ w.power.inputUp = false ∨ w.power.phase ≠ .off) → w.intakeStart = w) ∧
    (After (.intakeEnAssert t) s (u.modPower (fun x => { x with enabled := true })).intakeStart) ∧
    (∀ v, v = u.modPower (fun x => { x with enabled := false }) → (u.power.phase = .on ∨ u.power.phase = .ramp ∨ u.power.phase = .precheck) → After (.intakeEnDeassert t) s (v.gateOff .off)) ∧
    (∀ (w : State) ph, w.gateOff ph = (w.reading w.power.volts 0 0).modPower (fun x => { x with phase := ph, powerGood := false, offSince := w.now })) ∧
    (u.power.phase = .damaged → After (.intakeEnDeassert t) s (u.modPower (fun x => { x with enabled := false }))) ∧
    ((u.power.phase = .lockedOut ∨ u.power.phase = .tripped ∨ u.power.phase = .off) → After (.intakeEnDeassert t) s (u.modPower (fun x => { x with enabled := false, phase := .off }))) ∧
    (∀ o v, u.power.phase = .precheck → v = (if u.power.standby then u.powerOff else u) → o < 10 → AfterAll (.precheckEnd t o) s (v.modPower (fun x => { x with phase := .ramp, rampAt := v.now }))) ∧
    (∀ o, u.power.phase = .precheck → 10 ≤ o → (o < 50 ∨ u.after u.power.offSince 5000000 = false) → AfterAll (.precheckEnd t o) s u) ∧
    (∀ o, u.power.phase = .precheck → 50 ≤ o → u.after u.power.offSince 5000000 = true → AfterAll (.precheckEnd t o) s u.fetDamage) ∧
    (∀ o, u.power.phase ≠ .precheck → AfterAll (.precheckEnd t o) s u) ∧
    (u.power.phase = .ramp → After (.gateFullyOn t) s (u.modPower (fun x => { x with phase := .on })).givePowerGood) ∧
    (u.power.phase ≠ .ramp → After (.gateFullyOn t) s u) ∧
    (∀ (w : State), w.power.phase = .on → w.power.powerGood = false → w.timersRest = true → w.givePowerGood = (w.modPower (fun x => { x with powerGood := true, pgAt := w.now, prior := x.keptCause, load := 0, lack := 0, energy := 0, timers := List.replicate 16 0, sampledAt := w.now, standby := x.ref25, standbyAt := w.now })).modJournal (fun j => { j with startSince := w.now })) ∧
    (∀ (w : State), (w.power.phase ≠ .on ∨ w.power.powerGood = true ∨ w.timersRest = false) → w.givePowerGood = w) ∧
    (∀ a b v, v = u.sampleAmps a b → u.power.phase = .ramp → 2000 * v.get Key.INTAKE_INRUSH < max a b → After (.fastTrip t a b) s (v.intakeTrip 2)) ∧
    (∀ a b v, v = u.sampleAmps a b → (u.power.phase = .on ∨ u.power.phase = .ramp ∧ max a b ≤ 2000 * v.get Key.INTAKE_INRUSH) → 250000 < max a b → After (.fastTrip t a b) s (v.intakeTrip 1)) ∧
    (∀ a b v, v = u.sampleAmps a b → max a b ≤ 250000 → (u.power.phase = .ramp → max a b ≤ 2000 * v.get Key.INTAKE_INRUSH) → After (.fastTrip t a b) s v) ∧
    (∀ a b v, v = u.sampleAmps a b → u.power.phase ≠ .on → u.power.phase ≠ .ramp → After (.fastTrip t a b) s v) ∧
    (u.power.phase = .ramp → u.after u.power.rampAt (1000000 * u.get Key.INTAKE_RAMP_TIMEOUT) = true → After (.rampTimeout t) s (u.intakeTrip 3)) ∧
    ((u.power.phase ≠ .ramp ∨ u.after u.power.rampAt (1000000 * u.get Key.INTAKE_RAMP_TIMEOUT) = false) → After (.rampTimeout t) s u) ∧
    (∀ k, k < 16 → (u.power.phase = .ramp ∨ u.power.phase = .on) → pointAmps (u.get (Key.INTAKE_CURVE + k)) ≠ 0 → pointTime (u.get (Key.INTAKE_CURVE + k)) ≤ u.intakeTimers.getD k 0 → After (.curveTrip t k) s (u.intakeTrip (16 + k))) ∧
    (∀ k, (16 ≤ k ∨ u.power.phase ≠ .ramp ∧ u.power.phase ≠ .on ∨ pointAmps (u.get (Key.INTAKE_CURVE + k)) = 0 ∨ u.intakeTimers.getD k 0 < pointTime (u.get (Key.INTAKE_CURVE + k))) → After (.curveTrip t k) s u) ∧
    (∀ (w : State) cause, w.power.lastTrip = none → w.intakeTrip cause = (w.gateOff .tripped).modPower (fun x => { x with keptCause := cause, lastTrip := some w.now })) ∧
    (∀ (w : State) cause n, w.power.lastTrip = some n → w.intakeTrip cause = (w.gateOff (if w.now < n + 60000000000 then .lockedOut else .tripped)).modPower (fun x => { x with keptCause := cause, lastTrip := some w.now })) ∧
    (∀ v, u.power.phase = .tripped → u.after u.power.offSince 1000000000 = true → v = (if u.power.standby then u.powerOff else u) → After (.tripRestart t) s (v.modPower (fun x => { x with phase := .off })).intakeStart) ∧
    ((u.power.phase ≠ .tripped ∨ u.after u.power.offSince 1000000000 = false) → After (.tripRestart t) s u) ∧
    (∀ a b v, v = u.sampleAmps a b → (u.power.phase = .ramp ∨ u.power.phase = .on) → (u.intakeTimers.zipIdx.any (fun e => e.1 == 0 && pointAmps (u.get (Key.INTAKE_CURVE + e.2)) ≠ 0 && u.power.highAmps ≤ pointAmps (u.get (Key.INTAKE_CURVE + e.2)) && pointAmps (u.get (Key.INTAKE_CURVE + e.2)) < max a b)) = true → (u.power.curveRunAt = none ∨ ∃ c, u.power.curveRunAt = some c ∧ u.after c 1000000 = true) →
      AfterAll (.intakeOvercurrent t a b) s ((v.modPower (fun x => { x with curveRunAt := some v.now })).noteFree 0xB84 1)) ∧
    (∀ a b v c, v = u.sampleAmps a b → (u.power.phase = .ramp ∨ u.power.phase = .on) → (u.intakeTimers.zipIdx.any (fun e => e.1 == 0 && pointAmps (u.get (Key.INTAKE_CURVE + e.2)) ≠ 0 && u.power.highAmps ≤ pointAmps (u.get (Key.INTAKE_CURVE + e.2)) && pointAmps (u.get (Key.INTAKE_CURVE + e.2)) < max a b)) = true → u.power.curveRunAt = some c → u.after c 1000000 = false →
      AfterAll (.intakeOvercurrent t a b) s v) ∧
    (∀ a b v, v = u.sampleAmps a b → (u.power.phase = .ramp ∨ u.power.phase = .on) → (u.intakeTimers.zipIdx.any (fun e => e.1 == 0 && pointAmps (u.get (Key.INTAKE_CURVE + e.2)) ≠ 0 && u.power.highAmps ≤ pointAmps (u.get (Key.INTAKE_CURVE + e.2)) && pointAmps (u.get (Key.INTAKE_CURVE + e.2)) < max a b)) = false → AfterAll (.intakeOvercurrent t a b) s v.givePowerGood) ∧
    (∀ a b v, v = u.sampleAmps a b → u.power.phase ≠ .ramp → u.power.phase ≠ .on → AfterAll (.intakeOvercurrent t a b) s v) ∧
    ((u.power.phase = .off ∨ u.power.phase = .tripped ∨ u.power.phase = .lockedOut ∨ u.power.phase = .precheck) → u.after u.power.offSince 5000000 = true → AfterAll (.fetDamageDetect t) s u.fetDamage) ∧
    ((u.power.phase = .on ∨ u.power.phase = .ramp ∨ u.power.phase = .damaged ∨ u.after u.power.offSince 5000000 = false) → AfterAll (.fetDamageDetect t) s u) ∧
    (∀ (w : State), w.power.standby = false → w.fetDamage = w.modPower (fun x => { x with phase := .damaged })) ∧
    (∀ (w : State), w.power.standby = true → w.fetDamage = ((w.modPower (fun x => { x with phase := .damaged })).modFaults (fun f => { f with f4cause := 1 })).note { Ev.plain 0xB86 (Config.eventCode 0xB86) 4 with level := 4, unit := some .crown, action := 7 }) ∧
    (After (.inputRemoved t) s ((((u.modFaults (fun f => { f with crown := .normal, f4cause := 0 })).modSec (fun x => { x with testMode := x.testMode && x.strap })).powerOff).modPower (fun x => { x with phase := .off, inputUp := false, offSince := u.now, keptCause := 0, prior := 0, lastTrip := none, timers := List.replicate 16 0, curveRunAt := none })))

/-- Input loss fences the crown, gives the journal its warning, raises INTAKE_INPUT_LOST, gates every limb and stops the engines and the GDDR7
controllers; a second, or one without the standby domain, does nothing. At the end of the warning the held answers are sent, and the crown
restarts where the input stands, else waits for it; outside a warning nothing happens. When the store is exhausted, after a loss or before
power-good, the heartwood stops; else nothing happens. The converter's current moves towards the load over the voltage, within the cap of
INTAKE_POWER_LIMIT and 95 A, by at most INTAKE_SLEW, and the store supplies or takes the difference; a full store lets the current fall at
once. 100 µs of supply throughout move the governor to level 4, with INTAKE_THROTTLE and the 100 µs counted, and without it only the
converter moves. After 10 ms at a draw below 90 % of the cap and no hot die the governor goes one level down, and else stays. A dip counts
the microseconds of its supply and, when it ends with the store refilling, raises INTAKE_DIP, at most once in 1 ms; where the store still
supplies it is not yet over. Two paths more than 2 % of their mean plus 1 A apart raise INTAKE_SENSE_DIVERGE, others are only sampled. An
installer clears the peaks, another role does not. Completes (exec answers the next state that the clause gives): inputLoss,
inputLossWarningEnd, storeExhausted, storeSupplyLimit, governorStepDown, intakeDip, intakeSenseDiverge, intakePeakClear.
(15_power_and_startup.md R493 R494 R496 R497) -/
def Obligations.InputLossAndGovernor : Prop :=
  ∀ (s u : State) (t : Nat), u = s.tick t →
    (∀ b v w, (u.power.inputLost = false ∧ u.power.standby = true) →
      v = ((u.modFabric (fun f => { f with ownFenced := true })).fenceNotice u.crownId true).flushNotice →
      w = (v.drew.modJournal (fun j => { j with warned := true, bodyDone := !j.inFlight.isEmpty && Config.bodyProgrammed v.draws })).modPower (fun x => { x with inputLost := true, warningEnd := false, inputUp := x.inputUp && !b, lack := if b then x.lack else max x.lack storeUsable }) →
      AfterAll (.inputLoss t b) s ((((w.noteFree 0xB83 0).each (List.range 8) State.gateLimb).modEngines (fun e => { e with busy := [] })).modMem (fun m => { m with channels := m.channels.map (fun c => { c with state := 0 }) }))) ∧
    (∀ b, (u.power.inputLost = true ∨ u.power.standby = false) → AfterAll (.inputLoss t b) s u) ∧
    (∀ v, u.power.inputLost = true → u.power.warningEnd = false →
      v = ((u.modPower (fun x => { x with warningEnd := true })).modJournal (fun j => { j with warned := false, bodyDone := false, heldAnswers := [] })).each u.journal.heldAnswers (fun w e => w.respond e.1 e.2) →
      AfterAll (.inputLossWarningEnd t) s (if v.power.inputUp then v.inputBack else v)) ∧
    ((u.power.inputLost = false ∨ u.power.warningEnd = true) → AfterAll (.inputLossWarningEnd t) s u) ∧
    (∀ (w : State), w.inputBack = (w.modPower (fun x => { x with inputLost := false, warningEnd := false })).warmReset 4) ∧
    ((u.power.inputLost = true ∨ u.power.powerGood = false) → After (.storeExhausted t) s (u.powerOff.modPower (fun x => { x with phase := if u.power.phase = .on ∨ u.power.phase = .ramp ∨ u.power.phase = .precheck then .off else u.power.phase, offSince := u.now, lack := storeEnergy, load := 0 }))) ∧
    (u.power.inputLost = false → u.power.powerGood = true → After (.storeExhausted t) s u) ∧
    (∀ (w : State) mv load, w.powerCap mv = min (1000 * w.get Key.INTAKE_POWER_LIMIT) (95 * mv) ∧ w.currentTarget mv load = (if mv = 0 then 0 else min ((1000 * load + mv - 1) / mv) (1000 * w.powerCap mv / mv))) ∧
    (∀ (w : State) ns mv load lack ends, lack = min storeEnergy ((w.power.lack + 1000 * load * ns) - drawnEnergy mv w.power.amps.toNat (w.currentTarget mv load) (w.get Key.INTAKE_SLEW) ns) →
      ends = (if lack = 0 then min (slewed w.power.amps.toNat (w.currentTarget mv load) (w.get Key.INTAKE_SLEW) ns) (w.currentTarget mv load) else slewed w.power.amps.toNat (w.currentTarget mv load) (w.get Key.INTAKE_SLEW) ns) →
      (w.converter ns mv load).power.lack = lack ∧ (w.converter ns mv load).power.load = load ∧ (w.converter ns mv load).power.amps = (ends : Int) ∧ (w.converter ns mv load).power.volts = mv) ∧
    (∀ cur goal slew ns, slewed cur goal slew ns ≤ cur + slew * ns ∧ cur ≤ slewed cur goal slew ns + slew * ns) ∧
    (∀ mv load v, v = u.converter 100000 mv load → u.power.standby = true → supplies mv load u.power.amps.toNat = true → supplies mv load v.power.amps.toNat = true →
      After (.storeSupplyLimit t mv load) s ((v.governFull.countHeart 0x3E0 100).noteFree 0xB82 0)) ∧
    (∀ mv load v, v = u.converter 100000 mv load → (u.power.standby = false ∨ supplies mv load u.power.amps.toNat = false ∨ supplies mv load v.power.amps.toNat = false) →
      After (.storeSupplyLimit t mv load) s v) ∧
    (u.power.govLevel ≠ 4 → u.governFull = (u.govern 4).countHeart 0x3E1 1) ∧
    (u.power.govLevel = 4 → u.governFull = u) ∧
    (∀ mv d ma, 0 < u.power.govLevel → u.after u.power.steppedAt 10000000 = true → 10 * d < 9 * u.powerCap mv → u.power.hotDies = [] → ma = u.currentTarget mv d →
      After (.governorStepDown t mv d) s (((u.reading mv (ma : Int) ma).modPower (fun x => { x with load := d, lack := 0 })).govern (u.power.govLevel - 1))) ∧
    (∀ mv d, (u.power.govLevel = 0 ∨ u.after u.power.steppedAt 10000000 = false ∨ 9 * u.powerCap mv ≤ 10 * d ∨ u.power.hotDies ≠ []) → After (.governorStepDown t mv d) s u) ∧
    (∀ n, n < 3 → u.govern n = u.modPower (fun x => { x with govLevel := n, steppedAt := u.now })) ∧
    (∀ ns mv load a v w, v = (u.converter ns mv load).countHeart 0x3E0 (ns / 1000) → w = v.converter (v.settleTime a load) a load → supplies a load w.power.amps.toNat = true →
      After (.intakeDip t ns mv load a) s w) ∧
    (∀ ns mv load a v w, v = (u.converter ns mv load).countHeart 0x3E0 (ns / 1000) → w = v.converter (v.settleTime a load) a load → supplies a load w.power.amps.toNat = false →
      (w.power.dipAt = none ∨ ∃ c, w.power.dipAt = some c ∧ w.after c 1000000 = true) → After (.intakeDip t ns mv load a) s ((w.modPower (fun x => { x with dipAt := some w.now })).noteFree 0xB81 0)) ∧
    (∀ ns mv load a v w c, v = (u.converter ns mv load).countHeart 0x3E0 (ns / 1000) → w = v.converter (v.settleTime a load) a load → supplies a load w.power.amps.toNat = false →
      w.power.dipAt = some c → w.after c 1000000 = false → After (.intakeDip t ns mv load a) s w) ∧
    (∀ a b, (a + b) / 2 * 2 + 100000 < 100 * (max a b - min a b) → AfterAll (.intakeSenseDiverge t a b) s ((u.sampleAmps a b).noteFree 0xB85 1)) ∧
    (∀ a b, 100 * (max a b - min a b) ≤ (a + b) / 2 * 2 + 100000 → AfterAll (.intakeSenseDiverge t a b) s (u.sampleAmps a b)) ∧
    (∀ k, After (.intakePeakClear t (.installer k)) s (u.modPower (fun x => { x with voltsMin := 0xFFFFFFFF, ampsMax := 0 }))) ∧
    (∀ w, w.isInstaller = false → After (.intakePeakClear t w) s u)

/-- A port's channels follow their demand: absent, they turn off, a trip's latch with them, and wanted ones that are off ramp, at start-up one
port at a time; PERST# is asserted where its conditions fail; a port that does not exist has no demand. A mapped channel that is on or
ramps stops with its cause on a fast trip (above SLOT_FAST_TRIP, or in the ramp above twice SLOT_INRUSH), where a curve timer reaches its
point's time, or on a ramp not ended within SLOT_RAMP_TIMEOUT, and the other channels of its port turn off with it; below these limits, or
not mapped, or off, none stops: the current is only noted, the timers and the energy move, and a timer that leaves zero raises
SLOT_CURVE_RUN, at most once in 1 ms. A gate off for 5 ms, of a mapped channel that is neither on nor failed, with half the rail behind it
is a failed transistor; else nothing is found. SLOT_CLEAR of an installer ends the trip or failure of a mapped channel's port, which then
follows its demand; by another role, of no channel or one not mapped, it does nothing. The ramping channels of a port give power-good
together once their timers read zero, and not sooner; a port with none gives none. PERST# of a port is released where its conditions hold
(of an upstream port always; else powered for 100 ms, its limb running, its shared device not in reset), and not otherwise. Completes
(exec answers the next state that the clause gives): slotDemandChange, slotFastTrip, slotCurveTrip, slotRampFail, slotFetFailed,
slotClear, slotPg, perstRelease. (15_power_and_startup.md R500 R507 R509 R510 R511) -/
def Obligations.SlotChannelResults : Prop :=
  ∀ (s u : State) (t : Nat), u = s.tick t →
    (∀ p, p < 144 → After (.slotDemandChange t p) s (u.slotUpdate p)) ∧
    (∀ p, 144 ≤ p → After (.slotDemandChange t p) s u) ∧
    (∀ (w : State) p, w.slotUpdate p = (State.perstCheck (w.each (w.channelsOf p) (fun w c => w.modSlot c (fun x => if x.state = 5 || (!w.slotDemand p c && x.state ≠ 4) then { x with demand := w.slotDemand p c }.turnOff w.now 0 x.cause x.point else { x with demand := w.slotDemand p c }))) p).rampNext) ∧
    (∀ c ma v, v = u.modSlot c (fun x => if x.live then { x with amps := ma } else x) → (1000 * v.get (Key.SLOT_FAST_TRIP + c) < ma ∨ (u.slotChan c).state = 1 ∧ 2000 * v.get (Key.SLOT_INRUSH + c) < ma) →
      AfterAll (.slotFastTrip t c ma) s (v.slotTrip c 1 0 [2])) ∧
    (∀ c ma v, v = u.modSlot c (fun x => if x.live then { x with amps := ma } else x) → ma ≤ 1000 * v.get (Key.SLOT_FAST_TRIP + c) → ((u.slotChan c).state = 1 → ma ≤ 2000 * v.get (Key.SLOT_INRUSH + c)) →
      AfterAll (.slotFastTrip t c ma) s v) ∧
    (∀ (w : State) c a b r p, w.portOfChannel c = some p → (w.slotChan c).live = true → w.slotTrip c a b r = w.slotStop p c 3 a b r) ∧
    (∀ (w : State) c a b r, (w.portOfChannel c = none ∨ (w.slotChan c).live = false) → w.slotTrip c a b r = w) ∧
    (∀ c k mv ma ns p v timers leaves, u.portOfChannel c = some p → (u.slotChan c).live = true → timers = u.slotTimers c ma (ns / 1000) →
      leaves = (u.slotChan c).timers.zipIdx.any (fun e => e.1 == 0 && timers.getD e.2 0 ≠ 0) →
      v = u.modSlot c (fun x => { x with timers := timers, volts := mv, amps := ma, energy := x.energy + mv * ma * ns }) → leaves = false →
      AfterAll (.slotCurveTrip t c k mv ma ns) s (if k < 16 ∧ pointAmps (v.slotPoint c k) ≠ 0 ∧ pointTime (v.slotPoint c k) ≤ timers.getD k 0 then v.slotStop p c 3 2 k [2] else v)) ∧
    (∀ c k mv ma ns p v w timers, u.portOfChannel c = some p → (u.slotChan c).live = true → timers = u.slotTimers c ma (ns / 1000) →
      (u.slotChan c).timers.zipIdx.any (fun e => e.1 == 0 && timers.getD e.2 0 ≠ 0) = true →
      v = u.modSlot c (fun x => { x with timers := timers, volts := mv, amps := ma, energy := x.energy + mv * ma * ns }) →
      w = (if (u.slotChan c).runAt = none ∨ (∃ b, (u.slotChan c).runAt = some b ∧ v.after b 1000000 = true) then (v.modSlot c (fun x => { x with runAt := some v.now })).slotNote p c 1 1 else v) →
      AfterAll (.slotCurveTrip t c k mv ma ns) s (if k < 16 ∧ pointAmps (w.slotPoint c k) ≠ 0 ∧ pointTime (w.slotPoint c k) ≤ timers.getD k 0 then w.slotStop p c 3 2 k [2] else w)) ∧
    (∀ c k mv ma ns, (u.portOfChannel c = none ∨ (u.slotChan c).live = false) → AfterAll (.slotCurveTrip t c k mv ma ns) s u) ∧
    (∀ c, (u.slotChan c).state = 1 → u.after (u.slotChan c).rampAt (1000000 * u.get (Key.SLOT_RAMP_TIMEOUT + c)) = true → AfterAll (.slotRampFail t c) s (u.slotTrip c 3 0 [3])) ∧
    (∀ c, ((u.slotChan c).state ≠ 1 ∨ u.after (u.slotChan c).rampAt (1000000 * u.get (Key.SLOT_RAMP_TIMEOUT + c)) = false) → AfterAll (.slotRampFail t c) s u) ∧
    (∀ c p, u.portOfChannel c = some p → (u.slotChan c).state ≠ 4 → (u.slotChan c).state ≠ 2 → u.after (u.slotChan c).offAt 5000000 = true → AfterAll (.slotFetFailed t c) s (u.slotStop p c 4 5 0 [4])) ∧
    (∀ c, (u.portOfChannel c = none ∨ (u.slotChan c).state = 4 ∨ (u.slotChan c).state = 2 ∨ u.after (u.slotChan c).offAt 5000000 = false) → AfterAll (.slotFetFailed t c) s u) ∧
    (∀ (w : State) p c st cause point rows a b, a = w.modSlot c (fun x => x.turnOff w.now st cause point) →
      b = a.each ((a.channelsOf p).filter (fun d => d ≠ c && (a.slotChan d).live)) (fun x d => x.modSlot d (fun y => y.turnOff x.now 3 6 0)) →
      w.slotStop p c st cause point rows = (State.each ((State.perstCheck (b.countHeart 0x3E3 1) p).powerFault p) rows (fun x r => x.slotNote p c r (if r = 1 then 1 else 2))).rampNext) ∧
    (∀ k c p, c < 48 → u.portOfChannel c = some p → After (.slotClear t (.installer k) c) s ((u.each (u.channelsOf p) (fun w d => w.modSlot d (fun x => if x.state = 3 || x.state = 4 then { x with state := 0, cause := 0, point := 0 } else x))).slotUpdate p)) ∧
    (∀ w c, (w.isInstaller = false ∨ 48 ≤ c ∨ u.portOfChannel c = none) → After (.slotClear t w c) s u) ∧
    (∀ p mv c cs, (u.channelsOf p).filter (fun c => (u.slotChan c).state = 1) = c :: cs → (c :: cs).any (fun d => (u.slotChan d).timers.any (· ≠ 0)) = false →
      After (.slotPg t p mv) s (((u.each (c :: cs) (fun w d => w.modSlot d (fun x => { x with state := 2, pgAt := w.now, volts := mv }))).slotNote p c 0 0).rampNext)) ∧
    (∀ p mv, ((u.channelsOf p).filter (fun c => (u.slotChan c).state = 1)).any (fun d => (u.slotChan d).timers.any (· ≠ 0)) = true → After (.slotPg t p mv) s u) ∧
    (∀ p mv, (u.channelsOf p).filter (fun c => (u.slotChan c).state = 1) = [] → After (.slotPg t p mv) s u) ∧
    (∀ p ok, ok = (if (u.upstreamPart (gOfPort p)).isSome then true else if (u.sharedOf (u.portLowG (gOfPort p))).mode = .resetting && u.isShared (u.portLowG (gOfPort p)) then false else if (u.channelsOf p).isEmpty then (u.isShared (u.portLowG (gOfPort p)) || (u.wholeVdp (gOfPort p)).isSome) && u.bindDemand p && u.power.powerGood && u.after u.power.pgAt 100000000 && u.limbRuns (limbOf (gOfPort p)) else (u.channelsOf p).all (fun c => (u.slotChan c).state = 2 && u.after (u.slotChan c).pgAt 100000000) && u.limbRuns (limbOf (gOfPort p))) → p < 144 → ok = true → (u.sideband p).perst = true →
      After (.perstRelease t p) s ((u.perst p false).modHPort p (fun h => if h.up then h else { h with detectAt := u.now }))) ∧
    (∀ p ok, ok = (if (u.upstreamPart (gOfPort p)).isSome then true else if (u.sharedOf (u.portLowG (gOfPort p))).mode = .resetting && u.isShared (u.portLowG (gOfPort p)) then false else if (u.channelsOf p).isEmpty then (u.isShared (u.portLowG (gOfPort p)) || (u.wholeVdp (gOfPort p)).isSome) && u.bindDemand p && u.power.powerGood && u.after u.power.pgAt 100000000 && u.limbRuns (limbOf (gOfPort p)) else (u.channelsOf p).all (fun c => (u.slotChan c).state = 2 && u.after (u.slotChan c).pgAt 100000000) && u.limbRuns (limbOf (gOfPort p))) → (144 ≤ p ∨ ok = false ∨ (u.sideband p).perst = false) → After (.perstRelease t p) s u)

/-- An installer's write of 0 gates a limb that holds no bound twig and no upstream port, and of 1 powers it; otherwise neither command does
anything. Limbs to be powered run one at a time: the first of them begins to run, its boughs form and its links start (in a contained unit
it reads offline and none starts), but not after a thermal trip while a sensor is hot; another waits. A partition held by start-up becomes
ACTIVE once fabric memory is ready or absent and its upstream link, where it has one here, stands; until then it stays HELD. RESET_N
asserted asks for the warm reset, before the standby domain holds the start back, and is ignored under the F4 latch, after input loss and
in boundary scan; its release samples the straps and starts the 5 s, and without it asserted does nothing. A sensor at 105 C takes the
governor to level 4 with THERM_HIGH; at 120 C THERM_TRIP is F3 of the crown and every limb is gated; once all are below 100 C the marks
end. The loss of a good REFT of a stem is REFT_LOST and link loss for its four trunks, and a lost one or no stem changes nothing; its
return starts their detection, of no stem nothing. The loss of REF25 in operation is REF25_LOST at F3 and stops the time unit; before, it
is only noted, and once lost nothing more. Its return runs the time unit again, or starts the standby domain that waited for it with
power-good. Completes (exec answers the next state that the clause gives): limbGate, limbPowerOn, limbRunning, partStartActive,
resetNAssert, resetNRelease, thermHigh, thermTrip, thermCool, reftLost, reftRestored, ref25Lost, ref25Good. (15_power_and_startup.md R512
R515; 17_electrical_and_package.md R541 R547) -/
def Obligations.LimbPowerThermalAndReferences : Prop :=
  ∀ (s u : State) (t : Nat), u = s.tick t →
    (∀ k l, l < 8 → u.mayGate l = true → AfterAll (.limbGate t (.installer k) l) s ((u.setJ (Key.LIMB_POWER + l) 0).gateLimb l)) ∧
    (∀ w l, (w.isInstaller = false ∨ 8 ≤ l ∨ u.mayGate l = false) → AfterAll (.limbGate t w l) s u) ∧
    (∀ k l, l < 8 → After (.limbPowerOn t (.installer k) l) s ((u.setJ (Key.LIMB_POWER + l) 1).powerLimb l)) ∧
    (∀ w l, (w.isInstaller = false ∨ 8 ≤ l) → After (.limbPowerOn t w l) s u) ∧
    (∀ (w : State) l, w.limbGated l = true → w.powerLimb l = w.modHier (fun h => { h with limbs := h.limbs.set l .inReset, powering := h.powering.filter (· < l) ++ [l] ++ h.powering.filter (l < ·) })) ∧
    (∀ (w : State) l, w.limbGated l = false → w.powerLimb l = w) ∧
    (∀ (w : State) l, w.limbGated l = true → w.gateLimb l = w) ∧
    (∀ l v, u.hier.powering.head? = some l → (u.power.thermTripped = false ∨ u.power.hotDies = []) → u.hier.contained.any (fun v => (UnitId.limb l).inside v) = false →
      v = (u.modHier (fun h => { h with limbs := h.limbs.set l .running, powering := h.powering.drop 1 })).each (UnitId.boughs (.limb l)) State.formBough →
      After (.limbRunning t l) s ((v.each ((UnitId.limb l).twigs.filter isT) (fun w g => w.modTrunk (trunkOfG g) (fun k => if w.get (Key.TP_ENABLE + trunkOfG g) = 0 then { k with tstate := .disabled } else { k with tstate := .detect, train := { k.train with since := w.now } }))).each
        ((UnitId.limb l).twigs.filter (fun g => !isT g)) (fun w g => w.modHPort (portOfG g) (fun h => { h with lstate := .detect, detectAt := w.now })))) ∧
    (∀ l, u.hier.powering.head? = some l → (u.power.thermTripped = false ∨ u.power.hotDies = []) → u.hier.contained.any (fun v => (UnitId.limb l).inside v) = true →
      After (.limbRunning t l) s ((u.modHier (fun h => { h with limbs := h.limbs.set l .offline, powering := h.powering.drop 1 })).each (UnitId.boughs (.limb l)) State.formBough)) ∧
    (∀ l, (u.hier.powering.head? ≠ some l ∨ u.power.thermTripped = true ∧ u.power.hotDies ≠ []) → After (.limbRunning t l) s u) ∧
    (∀ p, u.partUsed p = true → (u.part p).state = .held → (u.part p).cause = 0 → (u.mem.mode = 2 ∨ u.mem.mode = 3) → (∀ g, u.upTwig p = some g → (u.hport (u.hportOfG g)).up = true) →
      After (.partStartActive t p) s ((u.modPart p (fun x => { x with state := .active, causeOn := false })).noteAt 0xBC1 p 0)) ∧
    (∀ p, (u.partUsed p = false ∨ (u.part p).state ≠ .held ∨ (u.part p).cause ≠ 0 ∨ u.mem.mode ≠ 2 ∧ u.mem.mode ≠ 3 ∨ (∃ g, u.upTwig p = some g ∧ (u.hport (u.hportOfG g)).up = false)) → After (.partStartActive t p) s u) ∧
    (u.faults.crown ≠ .f4Latched → u.power.inputLost = false → u.power.standby = true → u.faults.debugInstr ≠ .extest →
      After (.resetNAssert t) s ((u.modPower (fun x => { x with resetPin := true })).warmReset 3)) ∧
    (u.faults.crown ≠ .f4Latched → u.power.inputLost = false → u.power.standby = false → u.faults.debugInstr ≠ .extest →
      After (.resetNAssert t) s (u.modPower (fun x => { x with resetPin := true }))) ∧
    ((u.faults.crown = .f4Latched ∨ u.power.inputLost = true ∨ u.faults.debugInstr = .extest) → After (.resetNAssert t) s u) ∧
    (∀ a b c, u.power.resetPin = true → After (.resetNRelease t a b c) s
      (((u.modPower (fun x => { x with resetPin := false })).modSec (fun x => { x with strap := a, slew := b.toNat + 2 * c.toNat })).modJournal (fun j => { j with startSince := u.now }))) ∧
    (∀ a b c, u.power.resetPin = false → After (.resetNRelease t a b c) s u) ∧
    (∀ d v, v = u.modPower (fun x => { x with hotDies := insertNew x.hotDies d }) → AfterAll (.thermHigh t d) s (v.governFull.noteAt 0xC1D d 1)) ∧
    (∀ d v, v = u.modPower (fun x => { x with hotDies := insertNew x.hotDies d, thermTripped := true }) →
      AfterAll (.thermTrip t d) s ((v.note { Ev.plain 0xC1E d 3 with level := 4, unit := some .crown, action := 7 }).each (List.range 8) State.gateLimb)) ∧
    (After (.thermCool t) s (u.modPower (fun x => { x with hotDies := [], thermTripped := false }))) ∧
    (∀ d v, d < 4 → u.power.reft.getD d false = true → v = (u.modPower (fun x => { x with reft := x.reft.set d false })).noteAt 0xC1F d 2 →
      AfterAll (.reftLost t d) s (v.each ((List.range 4).map (4 * d + ·)) (fun w q => w.trunkRetrain q false))) ∧
    (∀ d, (4 ≤ d ∨ u.power.reft.getD d false = false) → AfterAll (.reftLost t d) s u) ∧
    (∀ d, d < 4 → After (.reftRestored t d) s ((u.modPower (fun x => { x with reft := x.reft.set d true })).each ((List.range 4).map (4 * d + ·)) (fun w q => w.modTrunk q (fun k =>
      if k.tstate = .detect || (k.tstate = .disabled && w.get (Key.TP_ENABLE + q) = 1 && w.limbRuns (limbOfTrunk q) && !w.twigOffline (gOfTrunk q)) then { k with tstate := .detect, train := { k.train with since := w.now } } else k)))) ∧
    (∀ d, 4 ≤ d → After (.reftRestored t d) s u) ∧
    (u.power.ref25 = true → u.power.standby = true → AfterAll (.ref25Lost t) s (((u.modPower (fun x => { x with ref25 := false })).modTime (fun x => { x with running := false })).note
      { Ev.plain 0xC20 (Config.eventCode 0xC20) 3 with level := 4, unit := some .crown, action := 7 })) ∧
    (u.power.ref25 = true → u.power.standby = false → AfterAll (.ref25Lost t) s (u.modPower (fun x => { x with ref25 := false }))) ∧
    (u.power.ref25 = false → AfterAll (.ref25Lost t) s u) ∧
    (u.power.standby = true → After (.ref25Good t) s ((u.modPower (fun x => { x with ref25 := true })).modTime (fun x => { x with running := true }))) ∧
    (u.power.standby = false → u.power.powerGood = true → After (.ref25Good t) s ((u.modPower (fun x => { x with ref25 := true, standby := true, standbyAt := u.now })).modJournal (fun j => { j with startSince := u.now }))) ∧
    (u.power.standby = false → u.power.powerGood = false → After (.ref25Good t) s (u.modPower (fun x => { x with ref25 := true })))

/-- An installer's legal write of CNT_CTL (an existing counter, zero reserved bits, an event of its unit) keeps ENABLE, OVF_EVT and the event,
zeroes the value where the event changes or CLEAR is 1, clears OVF where the event changes or OVF is written 1, and is journaled with what
the entry then holds; CNT_CLEAR and CNT_OVF_CLEAR are the write of the selection as it stands with that one bit; an illegal write, or
another role's, changes nothing. CNT_FREEZE_SET by an installer freezes the groups of its mask beside those frozen, CNT_FREEZE_RESUME
gives them back; a mask with a reserved bit, or another role's, changes nothing. Time counts by itself: where one counter alone counts,
selects event 2 and does not wrap, a command first adds to it the ticks of 40 ns of the local count since the last command's instant.
Completes (exec answers the next state that the clause gives): cntEventSelect, cntClear, cntOvfClear, cntFreezeSet, cntFreezeResume.
(16_counters.md R524 R525 R526 R529 R533) -/
def Obligations.CounterCommands : Prop :=
  ∀ (s u : State) (t : Nat), u = s.tick t →
    (∀ k n v, n < 3136 → v < 2 ^ 32 → field v 27 10 = 0 → cntEventAllowed n (field v 9 0) = true →
      After (.cntEventSelect t (.installer k) n v) s ((u.cntCtlWrite n v).jAppend (.write ((Key.CNT_CTL + n) / 256) ((Key.CNT_CTL + n) % 256) (u.getDef (Key.CNT_CTL + n) 0) ((u.cntCtlWrite n v).getDef (Key.CNT_CTL + n) 0) 0))) ∧
    (∀ n v, (u.cntCtlWrite n v).counters = (u.setCounter n { value := if field (u.getDef (Key.CNT_CTL + n) 0) 9 0 ≠ field v 9 0 ∨ bitOf v 28 = true then 0 else (u.counter n).value, ovf := (u.counter n).ovf && !(field (u.getDef (Key.CNT_CTL + n) 0) 9 0 ≠ field v 9 0 : Bool) && !bitOf v 30 }).counters) ∧
    (∀ n v, (u.cntCtlWrite n v).dict = dictPut u.dict (Key.CNT_CTL + n) ((if bitOf v 31 then 2 ^ 31 else 0) + (if bitOf v 29 then 2 ^ 29 else 0) + field v 9 0)) ∧
    (∀ w n v, (w.isInstaller = false ∨ 3136 ≤ n ∨ 2 ^ 32 ≤ v ∨ field v 27 10 ≠ 0 ∨ cntEventAllowed n (field v 9 0) = false) → After (.cntEventSelect t w n v) s u) ∧
    (∀ k n v, v = u.getDef (Key.CNT_CTL + n) 0 + 2 ^ 28 → cntCtlLegal n v = true →
      After (.cntClear t (.installer k) n) s ((u.cntCtlWrite n v).jAppend (.write ((Key.CNT_CTL + n) / 256) ((Key.CNT_CTL + n) % 256) (u.getDef (Key.CNT_CTL + n) 0) ((u.cntCtlWrite n v).getDef (Key.CNT_CTL + n) 0) 0))) ∧
    (∀ w n, (w.isInstaller = false ∨ cntCtlLegal n (u.getDef (Key.CNT_CTL + n) 0 + 2 ^ 28) = false) → After (.cntClear t w n) s u) ∧
    (∀ k n v, v = u.getDef (Key.CNT_CTL + n) 0 + 2 ^ 30 → cntCtlLegal n v = true →
      After (.cntOvfClear t (.installer k) n) s ((u.cntCtlWrite n v).jAppend (.write ((Key.CNT_CTL + n) / 256) ((Key.CNT_CTL + n) % 256) (u.getDef (Key.CNT_CTL + n) 0) ((u.cntCtlWrite n v).getDef (Key.CNT_CTL + n) 0) 0))) ∧
    (∀ w n, (w.isInstaller = false ∨ cntCtlLegal n (u.getDef (Key.CNT_CTL + n) 0 + 2 ^ 30) = false) → After (.cntOvfClear t w n) s u) ∧
    (∀ k m, m.toNat < 2 ^ 13 → After (.cntFreezeSet t (.installer k) m) s (u.modCounters (fun c => { c with freeze := u.counters.freeze ||| m }))) ∧
    (∀ k m, m.toNat < 2 ^ 13 → After (.cntFreezeResume t (.installer k) m) s (u.modCounters (fun c => { c with freeze := u.counters.freeze &&& ~~~m }))) ∧
    (∀ w m, (w.isInstaller = false ∨ 2 ^ 13 ≤ m.toNat) → After (.cntFreezeSet t w m) s u) ∧
    (∀ w m, (w.isInstaller = false ∨ 2 ^ 13 ≤ m.toNat) → After (.cntFreezeResume t w m) s u) ∧
    (∀ n, s.power.standby = true → s.power.ref25 = true → s.selected = [n] → field (s.get (Key.CNT_CTL + n)) 9 0 = 2 →
      (s.counter n).value.toNat + (max s.now t / 40 - s.now / 40) < 2 ^ 48 →
      u = (s.reach t).setCounter n { value := BitVec.ofNat 48 ((s.counter n).value.toNat + (max s.now t / 40 - s.now / 40)), ovf := (s.counter n).ovf })

/-- A snapshot request of an installer enters the activation queue, or joins the pending one of the same FT, whose SNAP_ID stays; one for the
grove at least 1 ms ahead is also sent as a numbered message to every neighbour. One that would be a ninth pending or finds the queue
full, one for the grove sooner, or another role's, changes nothing. A scheduling message that is newer than the last of its origin is
noted, forwarded to the other neighbours, and queues the same snapshot, or raises SNAP_MISSED where it cannot; one heard before, this
crown's own, or over a trunk that is not in L0 does nothing. A queued snapshot whose turn has come, in a crown that need not wait for
lock, fires: every counter is copied, those of gated limbs as zero, with the FT, the SNAP_ID, the origin and the time; else nothing
happens. Its completion writes the bank and advances SNAP_SEQ by one; with none under way nothing happens. Completes (exec answers the
next state that the clause gives): snapRequest, snapshotMessage, snapshotFire, snapComplete. (16_counters.md R530 R531 R532 R533) -/
def Obligations.SnapshotResults : Prop :=
  ∀ (s u : State) (t : Nat), u = s.tick t →
    (∀ k ft id v n, u.snapQueue ft id u.crownId = some (v, n) → After (.snapRequest t (.installer k) ft id false) s v) ∧
    (∀ k ft id v n, u.stampFt + 1000000 ≤ ft → u.snapQueue ft id u.crownId = some (v, n) →
      After (.snapRequest t (.installer k) ft id true) s ((v.modAct (fun a => { a with snapNumber := v.act.snapNumber + 1 })).sendControl (fun _ => true)
        (.snapshot { origin := u.crownId % 1024, number := v.act.snapNumber + 1, ft := ft, snapId := n }))) ∧
    (∀ k ft id b, (u.snapQueue ft id u.crownId = none ∨ b = true ∧ ft < u.stampFt + 1000000) → After (.snapRequest t (.installer k) ft id b) s u) ∧
    (∀ w ft id b, w.isInstaller = false → After (.snapRequest t w ft id b) s u) ∧
    (∀ ft id org a, u.snapsPending.find? (fun a => a.ft = ft) = some a → u.snapQueue ft id org = some (u, a.ref)) ∧
    (∀ ft id org, u.snapsPending.find? (fun a => a.ft = ft) = none → u.snapsPending.length < 8 → u.snapQueue ft id org = (u.actPut ft .snapshot false id org).map (fun v => (v, id))) ∧
    (∀ ft id org, u.snapsPending.find? (fun a => a.ft = ft) = none → 8 ≤ u.snapsPending.length → u.snapQueue ft id org = none) ∧
    (∀ q m v w n, u.trunkUp q = true → (assocGet u.act.snapSeen m.origin = none ∨ ∃ l, assocGet u.act.snapSeen m.origin = some l ∧ newer16 m.number l = true) → m.origin ≠ u.crownId →
      v = (u.modAct (fun a => { a with snapSeen := assocPut a.snapSeen m.origin m.number })).sendControl (fun r => r ≠ q) (.snapshot m) →
      v.snapQueue m.ft m.snapId m.origin = some (w, n) → After (.snapshotMessage t q m) s w) ∧
    (∀ q m v, u.trunkUp q = true → (assocGet u.act.snapSeen m.origin = none ∨ ∃ l, assocGet u.act.snapSeen m.origin = some l ∧ newer16 m.number l = true) → m.origin ≠ u.crownId →
      v = (u.modAct (fun a => { a with snapSeen := assocPut a.snapSeen m.origin m.number })).sendControl (fun r => r ≠ q) (.snapshot m) →
      v.snapQueue m.ft m.snapId m.origin = none → After (.snapshotMessage t q m) s (v.noteAt 0xC1C (m.snapId % 65536) 0)) ∧
    (∀ q m, (u.trunkUp q = false ∨ m.origin = u.crownId ∨ ∃ l, assocGet u.act.snapSeen m.origin = some l ∧ newer16 m.number l = false) → After (.snapshotMessage t q m) s u) ∧
    (∀ n a, n < 256 → a = u.act.slots.getD n ActSlot.reset → a.kind = .snapshot → u.actTurn n = true → u.dueFate false ≠ .wait →
      After (.snapshotFire t n) s ((u.modCounters (fun c => { c with staging := some (u.counterCopy, a.ft, a.ref, a.origin, u.time.mode.code * 2 ^ 32 + u.uncertainty) })).markFired n)) ∧
    (∀ n, (256 ≤ n ∨ (u.act.slots.getD n ActSlot.reset).kind ≠ .snapshot ∨ u.actTurn n = false ∨ u.dueFate false = .wait) → After (.snapshotFire t n) s u) ∧
    ((∀ e, e ∈ u.counterCopy ↔ e ∈ u.counters.values ∧ ∀ l, counterLimb e.1 = some l → u.limbGated l = false)) ∧
    (∀ vs ft id o x, u.counters.staging = some (vs, ft, id, o, x) → After (.snapComplete t) s
      (u.modCounters (fun c => { c with bank := vs, staging := none, snapSeq := c.snapSeq + 1, snapFt := ft, snapId := id, snapOrigin := o, snapTime := x }))) ∧
    (u.counters.staging = none → After (.snapComplete t) s u)
end

