-- ==== Sys2Proof/Laws/State.lean ====
section
/-! SUPPORT. What the plain updates of the state leave and what they set, each true by unfolding. -/

namespace Sys2Proof.Machine

/-! ### emit -/

@[simp] theorem State.emit_pending (s : State) (o : Output) : (s.emit o).pending = s.pending := rfl
@[simp] theorem State.emit_out (s : State) (o : Output) : (s.emit o).out = s.out ++ [o] := rfl
@[simp] theorem State.emit_draws (s : State) (o : Output) : (s.emit o).draws = s.draws := rfl
@[simp] theorem State.emit_now (s : State) (o : Output) : (s.emit o).now = s.now := rfl
@[simp] theorem State.emit_dict (s : State) (o : Output) : (s.emit o).dict = s.dict := rfl
@[simp] theorem State.emit_hier (s : State) (o : Output) : (s.emit o).hier = s.hier := rfl
@[simp] theorem State.emit_time (s : State) (o : Output) : (s.emit o).time = s.time := rfl
@[simp] theorem State.emit_act (s : State) (o : Output) : (s.emit o).act = s.act := rfl
@[simp] theorem State.emit_hports (s : State) (o : Output) : (s.emit o).hports = s.hports := rfl
@[simp] theorem State.emit_lanes (s : State) (o : Output) : (s.emit o).lanes = s.lanes := rfl
@[simp] theorem State.emit_trunks (s : State) (o : Output) : (s.emit o).trunks = s.trunks := rfl
@[simp] theorem State.emit_core (s : State) (o : Output) : (s.emit o).core = s.core := rfl
@[simp] theorem State.emit_parts (s : State) (o : Output) : (s.emit o).parts = s.parts := rfl
@[simp] theorem State.emit_shared (s : State) (o : Output) : (s.emit o).shared = s.shared := rfl
@[simp] theorem State.emit_gates (s : State) (o : Output) : (s.emit o).gates = s.gates := rfl
@[simp] theorem State.emit_fabric (s : State) (o : Output) : (s.emit o).fabric = s.fabric := rfl
@[simp] theorem State.emit_mem (s : State) (o : Output) : (s.emit o).mem = s.mem := rfl
@[simp] theorem State.emit_engines (s : State) (o : Output) : (s.emit o).engines = s.engines := rfl
@[simp] theorem State.emit_faults (s : State) (o : Output) : (s.emit o).faults = s.faults := rfl
@[simp] theorem State.emit_bocel (s : State) (o : Output) : (s.emit o).bocel = s.bocel := rfl
@[simp] theorem State.emit_sec (s : State) (o : Output) : (s.emit o).sec = s.sec := rfl
@[simp] theorem State.emit_journal (s : State) (o : Output) : (s.emit o).journal = s.journal := rfl
@[simp] theorem State.emit_power (s : State) (o : Output) : (s.emit o).power = s.power := rfl
@[simp] theorem State.emit_counters (s : State) (o : Output) : (s.emit o).counters = s.counters := rfl

/-! ### emitAll -/

@[simp] theorem State.emitAll_pending (s : State) (o : List Output) : (s.emitAll o).pending = s.pending := rfl
@[simp] theorem State.emitAll_out (s : State) (o : List Output) : (s.emitAll o).out = s.out ++ o := rfl
@[simp] theorem State.emitAll_draws (s : State) (o : List Output) : (s.emitAll o).draws = s.draws := rfl
@[simp] theorem State.emitAll_now (s : State) (o : List Output) : (s.emitAll o).now = s.now := rfl
@[simp] theorem State.emitAll_dict (s : State) (o : List Output) : (s.emitAll o).dict = s.dict := rfl
@[simp] theorem State.emitAll_hier (s : State) (o : List Output) : (s.emitAll o).hier = s.hier := rfl
@[simp] theorem State.emitAll_time (s : State) (o : List Output) : (s.emitAll o).time = s.time := rfl
@[simp] theorem State.emitAll_act (s : State) (o : List Output) : (s.emitAll o).act = s.act := rfl
@[simp] theorem State.emitAll_hports (s : State) (o : List Output) : (s.emitAll o).hports = s.hports := rfl
@[simp] theorem State.emitAll_lanes (s : State) (o : List Output) : (s.emitAll o).lanes = s.lanes := rfl
@[simp] theorem State.emitAll_trunks (s : State) (o : List Output) : (s.emitAll o).trunks = s.trunks := rfl
@[simp] theorem State.emitAll_core (s : State) (o : List Output) : (s.emitAll o).core = s.core := rfl
@[simp] theorem State.emitAll_parts (s : State) (o : List Output) : (s.emitAll o).parts = s.parts := rfl
@[simp] theorem State.emitAll_shared (s : State) (o : List Output) : (s.emitAll o).shared = s.shared := rfl
@[simp] theorem State.emitAll_gates (s : State) (o : List Output) : (s.emitAll o).gates = s.gates := rfl
@[simp] theorem State.emitAll_fabric (s : State) (o : List Output) : (s.emitAll o).fabric = s.fabric := rfl
@[simp] theorem State.emitAll_mem (s : State) (o : List Output) : (s.emitAll o).mem = s.mem := rfl
@[simp] theorem State.emitAll_engines (s : State) (o : List Output) : (s.emitAll o).engines = s.engines := rfl
@[simp] theorem State.emitAll_faults (s : State) (o : List Output) : (s.emitAll o).faults = s.faults := rfl
@[simp] theorem State.emitAll_bocel (s : State) (o : List Output) : (s.emitAll o).bocel = s.bocel := rfl
@[simp] theorem State.emitAll_sec (s : State) (o : List Output) : (s.emitAll o).sec = s.sec := rfl
@[simp] theorem State.emitAll_journal (s : State) (o : List Output) : (s.emitAll o).journal = s.journal := rfl
@[simp] theorem State.emitAll_power (s : State) (o : List Output) : (s.emitAll o).power = s.power := rfl
@[simp] theorem State.emitAll_counters (s : State) (o : List Output) : (s.emitAll o).counters = s.counters := rfl

/-! ### drew -/

@[simp] theorem State.drew_pending (s : State) : (s.drew).pending = s.pending := rfl
@[simp] theorem State.drew_out (s : State) : (s.drew).out = s.out := rfl
@[simp] theorem State.drew_draws (s : State) : (s.drew).draws = s.draws + 1 := rfl
@[simp] theorem State.drew_now (s : State) : (s.drew).now = s.now := rfl
@[simp] theorem State.drew_dict (s : State) : (s.drew).dict = s.dict := rfl
@[simp] theorem State.drew_hier (s : State) : (s.drew).hier = s.hier := rfl
@[simp] theorem State.drew_time (s : State) : (s.drew).time = s.time := rfl
@[simp] theorem State.drew_act (s : State) : (s.drew).act = s.act := rfl
@[simp] theorem State.drew_hports (s : State) : (s.drew).hports = s.hports := rfl
@[simp] theorem State.drew_lanes (s : State) : (s.drew).lanes = s.lanes := rfl
@[simp] theorem State.drew_trunks (s : State) : (s.drew).trunks = s.trunks := rfl
@[simp] theorem State.drew_core (s : State) : (s.drew).core = s.core := rfl
@[simp] theorem State.drew_parts (s : State) : (s.drew).parts = s.parts := rfl
@[simp] theorem State.drew_shared (s : State) : (s.drew).shared = s.shared := rfl
@[simp] theorem State.drew_gates (s : State) : (s.drew).gates = s.gates := rfl
@[simp] theorem State.drew_fabric (s : State) : (s.drew).fabric = s.fabric := rfl
@[simp] theorem State.drew_mem (s : State) : (s.drew).mem = s.mem := rfl
@[simp] theorem State.drew_engines (s : State) : (s.drew).engines = s.engines := rfl
@[simp] theorem State.drew_faults (s : State) : (s.drew).faults = s.faults := rfl
@[simp] theorem State.drew_bocel (s : State) : (s.drew).bocel = s.bocel := rfl
@[simp] theorem State.drew_sec (s : State) : (s.drew).sec = s.sec := rfl
@[simp] theorem State.drew_journal (s : State) : (s.drew).journal = s.journal := rfl
@[simp] theorem State.drew_power (s : State) : (s.drew).power = s.power := rfl
@[simp] theorem State.drew_counters (s : State) : (s.drew).counters = s.counters := rfl

/-! ### set -/

@[simp] theorem State.set_pending (s : State) (k v : Nat) : (s.set k v).pending = s.pending := rfl
@[simp] theorem State.set_out (s : State) (k v : Nat) : (s.set k v).out = s.out := rfl
@[simp] theorem State.set_draws (s : State) (k v : Nat) : (s.set k v).draws = s.draws := rfl
@[simp] theorem State.set_now (s : State) (k v : Nat) : (s.set k v).now = s.now := rfl
@[simp] theorem State.set_dict (s : State) (k v : Nat) : (s.set k v).dict = dictPut s.dict k v := rfl
@[simp] theorem State.set_hier (s : State) (k v : Nat) : (s.set k v).hier = s.hier := rfl
@[simp] theorem State.set_time (s : State) (k v : Nat) : (s.set k v).time = s.time := rfl
@[simp] theorem State.set_act (s : State) (k v : Nat) : (s.set k v).act = s.act := rfl
@[simp] theorem State.set_hports (s : State) (k v : Nat) : (s.set k v).hports = s.hports := rfl
@[simp] theorem State.set_lanes (s : State) (k v : Nat) : (s.set k v).lanes = s.lanes := rfl
@[simp] theorem State.set_trunks (s : State) (k v : Nat) : (s.set k v).trunks = s.trunks := rfl
@[simp] theorem State.set_core (s : State) (k v : Nat) : (s.set k v).core = s.core := rfl
@[simp] theorem State.set_parts (s : State) (k v : Nat) : (s.set k v).parts = s.parts := rfl
@[simp] theorem State.set_shared (s : State) (k v : Nat) : (s.set k v).shared = s.shared := rfl
@[simp] theorem State.set_gates (s : State) (k v : Nat) : (s.set k v).gates = s.gates := rfl
@[simp] theorem State.set_fabric (s : State) (k v : Nat) : (s.set k v).fabric = s.fabric := rfl
@[simp] theorem State.set_mem (s : State) (k v : Nat) : (s.set k v).mem = s.mem := rfl
@[simp] theorem State.set_engines (s : State) (k v : Nat) : (s.set k v).engines = s.engines := rfl
@[simp] theorem State.set_faults (s : State) (k v : Nat) : (s.set k v).faults = s.faults := rfl
@[simp] theorem State.set_bocel (s : State) (k v : Nat) : (s.set k v).bocel = s.bocel := rfl
@[simp] theorem State.set_sec (s : State) (k v : Nat) : (s.set k v).sec = s.sec := rfl
@[simp] theorem State.set_journal (s : State) (k v : Nat) : (s.set k v).journal = s.journal := rfl
@[simp] theorem State.set_power (s : State) (k v : Nat) : (s.set k v).power = s.power := rfl
@[simp] theorem State.set_counters (s : State) (k v : Nat) : (s.set k v).counters = s.counters := rfl

/-! ### modTrunk -/

@[simp] theorem State.modTrunk_pending (s : State) (n : Nat) (f : Trunk → Trunk) : (s.modTrunk n f).pending = s.pending := rfl
@[simp] theorem State.modTrunk_out (s : State) (n : Nat) (f : Trunk → Trunk) : (s.modTrunk n f).out = s.out := rfl
@[simp] theorem State.modTrunk_draws (s : State) (n : Nat) (f : Trunk → Trunk) : (s.modTrunk n f).draws = s.draws := rfl
@[simp] theorem State.modTrunk_now (s : State) (n : Nat) (f : Trunk → Trunk) : (s.modTrunk n f).now = s.now := rfl
@[simp] theorem State.modTrunk_dict (s : State) (n : Nat) (f : Trunk → Trunk) : (s.modTrunk n f).dict = s.dict := rfl
@[simp] theorem State.modTrunk_hier (s : State) (n : Nat) (f : Trunk → Trunk) : (s.modTrunk n f).hier = s.hier := rfl
@[simp] theorem State.modTrunk_time (s : State) (n : Nat) (f : Trunk → Trunk) : (s.modTrunk n f).time = s.time := rfl
@[simp] theorem State.modTrunk_act (s : State) (n : Nat) (f : Trunk → Trunk) : (s.modTrunk n f).act = s.act := rfl
@[simp] theorem State.modTrunk_hports (s : State) (n : Nat) (f : Trunk → Trunk) : (s.modTrunk n f).hports = s.hports := rfl
@[simp] theorem State.modTrunk_lanes (s : State) (n : Nat) (f : Trunk → Trunk) : (s.modTrunk n f).lanes = s.lanes := rfl
@[simp] theorem State.modTrunk_trunks (s : State) (n : Nat) (f : Trunk → Trunk) : (s.modTrunk n f).trunks = s.trunks.modify n f := rfl
@[simp] theorem State.modTrunk_core (s : State) (n : Nat) (f : Trunk → Trunk) : (s.modTrunk n f).core = s.core := rfl
@[simp] theorem State.modTrunk_parts (s : State) (n : Nat) (f : Trunk → Trunk) : (s.modTrunk n f).parts = s.parts := rfl
@[simp] theorem State.modTrunk_shared (s : State) (n : Nat) (f : Trunk → Trunk) : (s.modTrunk n f).shared = s.shared := rfl
@[simp] theorem State.modTrunk_gates (s : State) (n : Nat) (f : Trunk → Trunk) : (s.modTrunk n f).gates = s.gates := rfl
@[simp] theorem State.modTrunk_fabric (s : State) (n : Nat) (f : Trunk → Trunk) : (s.modTrunk n f).fabric = s.fabric := rfl
@[simp] theorem State.modTrunk_mem (s : State) (n : Nat) (f : Trunk → Trunk) : (s.modTrunk n f).mem = s.mem := rfl
@[simp] theorem State.modTrunk_engines (s : State) (n : Nat) (f : Trunk → Trunk) : (s.modTrunk n f).engines = s.engines := rfl
@[simp] theorem State.modTrunk_faults (s : State) (n : Nat) (f : Trunk → Trunk) : (s.modTrunk n f).faults = s.faults := rfl
@[simp] theorem State.modTrunk_bocel (s : State) (n : Nat) (f : Trunk → Trunk) : (s.modTrunk n f).bocel = s.bocel := rfl
@[simp] theorem State.modTrunk_sec (s : State) (n : Nat) (f : Trunk → Trunk) : (s.modTrunk n f).sec = s.sec := rfl
@[simp] theorem State.modTrunk_journal (s : State) (n : Nat) (f : Trunk → Trunk) : (s.modTrunk n f).journal = s.journal := rfl
@[simp] theorem State.modTrunk_power (s : State) (n : Nat) (f : Trunk → Trunk) : (s.modTrunk n f).power = s.power := rfl
@[simp] theorem State.modTrunk_counters (s : State) (n : Nat) (f : Trunk → Trunk) : (s.modTrunk n f).counters = s.counters := rfl

/-! ### modHPort -/

@[simp] theorem State.modHPort_pending (s : State) (n : Nat) (f : HPort → HPort) : (s.modHPort n f).pending = s.pending := rfl
@[simp] theorem State.modHPort_out (s : State) (n : Nat) (f : HPort → HPort) : (s.modHPort n f).out = s.out := rfl
@[simp] theorem State.modHPort_draws (s : State) (n : Nat) (f : HPort → HPort) : (s.modHPort n f).draws = s.draws := rfl
@[simp] theorem State.modHPort_now (s : State) (n : Nat) (f : HPort → HPort) : (s.modHPort n f).now = s.now := rfl
@[simp] theorem State.modHPort_dict (s : State) (n : Nat) (f : HPort → HPort) : (s.modHPort n f).dict = s.dict := rfl
@[simp] theorem State.modHPort_hier (s : State) (n : Nat) (f : HPort → HPort) : (s.modHPort n f).hier = s.hier := rfl
@[simp] theorem State.modHPort_time (s : State) (n : Nat) (f : HPort → HPort) : (s.modHPort n f).time = s.time := rfl
@[simp] theorem State.modHPort_act (s : State) (n : Nat) (f : HPort → HPort) : (s.modHPort n f).act = s.act := rfl
@[simp] theorem State.modHPort_hports (s : State) (n : Nat) (f : HPort → HPort) : (s.modHPort n f).hports = s.hports.modify n f := rfl
@[simp] theorem State.modHPort_lanes (s : State) (n : Nat) (f : HPort → HPort) : (s.modHPort n f).lanes = s.lanes := rfl
@[simp] theorem State.modHPort_trunks (s : State) (n : Nat) (f : HPort → HPort) : (s.modHPort n f).trunks = s.trunks := rfl
@[simp] theorem State.modHPort_core (s : State) (n : Nat) (f : HPort → HPort) : (s.modHPort n f).core = s.core := rfl
@[simp] theorem State.modHPort_parts (s : State) (n : Nat) (f : HPort → HPort) : (s.modHPort n f).parts = s.parts := rfl
@[simp] theorem State.modHPort_shared (s : State) (n : Nat) (f : HPort → HPort) : (s.modHPort n f).shared = s.shared := rfl
@[simp] theorem State.modHPort_gates (s : State) (n : Nat) (f : HPort → HPort) : (s.modHPort n f).gates = s.gates := rfl
@[simp] theorem State.modHPort_fabric (s : State) (n : Nat) (f : HPort → HPort) : (s.modHPort n f).fabric = s.fabric := rfl
@[simp] theorem State.modHPort_mem (s : State) (n : Nat) (f : HPort → HPort) : (s.modHPort n f).mem = s.mem := rfl
@[simp] theorem State.modHPort_engines (s : State) (n : Nat) (f : HPort → HPort) : (s.modHPort n f).engines = s.engines := rfl
@[simp] theorem State.modHPort_faults (s : State) (n : Nat) (f : HPort → HPort) : (s.modHPort n f).faults = s.faults := rfl
@[simp] theorem State.modHPort_bocel (s : State) (n : Nat) (f : HPort → HPort) : (s.modHPort n f).bocel = s.bocel := rfl
@[simp] theorem State.modHPort_sec (s : State) (n : Nat) (f : HPort → HPort) : (s.modHPort n f).sec = s.sec := rfl
@[simp] theorem State.modHPort_journal (s : State) (n : Nat) (f : HPort → HPort) : (s.modHPort n f).journal = s.journal := rfl
@[simp] theorem State.modHPort_power (s : State) (n : Nat) (f : HPort → HPort) : (s.modHPort n f).power = s.power := rfl
@[simp] theorem State.modHPort_counters (s : State) (n : Nat) (f : HPort → HPort) : (s.modHPort n f).counters = s.counters := rfl

/-! ### modLane -/

@[simp] theorem State.modLane_pending (s : State) (n : Nat) (f : HLane → HLane) : (s.modLane n f).pending = s.pending := rfl
@[simp] theorem State.modLane_out (s : State) (n : Nat) (f : HLane → HLane) : (s.modLane n f).out = s.out := rfl
@[simp] theorem State.modLane_draws (s : State) (n : Nat) (f : HLane → HLane) : (s.modLane n f).draws = s.draws := rfl
@[simp] theorem State.modLane_now (s : State) (n : Nat) (f : HLane → HLane) : (s.modLane n f).now = s.now := rfl
@[simp] theorem State.modLane_dict (s : State) (n : Nat) (f : HLane → HLane) : (s.modLane n f).dict = s.dict := rfl
@[simp] theorem State.modLane_hier (s : State) (n : Nat) (f : HLane → HLane) : (s.modLane n f).hier = s.hier := rfl
@[simp] theorem State.modLane_time (s : State) (n : Nat) (f : HLane → HLane) : (s.modLane n f).time = s.time := rfl
@[simp] theorem State.modLane_act (s : State) (n : Nat) (f : HLane → HLane) : (s.modLane n f).act = s.act := rfl
@[simp] theorem State.modLane_hports (s : State) (n : Nat) (f : HLane → HLane) : (s.modLane n f).hports = s.hports := rfl
@[simp] theorem State.modLane_lanes (s : State) (n : Nat) (f : HLane → HLane) : (s.modLane n f).lanes = s.lanes.modify n f := rfl
@[simp] theorem State.modLane_trunks (s : State) (n : Nat) (f : HLane → HLane) : (s.modLane n f).trunks = s.trunks := rfl
@[simp] theorem State.modLane_core (s : State) (n : Nat) (f : HLane → HLane) : (s.modLane n f).core = s.core := rfl
@[simp] theorem State.modLane_parts (s : State) (n : Nat) (f : HLane → HLane) : (s.modLane n f).parts = s.parts := rfl
@[simp] theorem State.modLane_shared (s : State) (n : Nat) (f : HLane → HLane) : (s.modLane n f).shared = s.shared := rfl
@[simp] theorem State.modLane_gates (s : State) (n : Nat) (f : HLane → HLane) : (s.modLane n f).gates = s.gates := rfl
@[simp] theorem State.modLane_fabric (s : State) (n : Nat) (f : HLane → HLane) : (s.modLane n f).fabric = s.fabric := rfl
@[simp] theorem State.modLane_mem (s : State) (n : Nat) (f : HLane → HLane) : (s.modLane n f).mem = s.mem := rfl
@[simp] theorem State.modLane_engines (s : State) (n : Nat) (f : HLane → HLane) : (s.modLane n f).engines = s.engines := rfl
@[simp] theorem State.modLane_faults (s : State) (n : Nat) (f : HLane → HLane) : (s.modLane n f).faults = s.faults := rfl
@[simp] theorem State.modLane_bocel (s : State) (n : Nat) (f : HLane → HLane) : (s.modLane n f).bocel = s.bocel := rfl
@[simp] theorem State.modLane_sec (s : State) (n : Nat) (f : HLane → HLane) : (s.modLane n f).sec = s.sec := rfl
@[simp] theorem State.modLane_journal (s : State) (n : Nat) (f : HLane → HLane) : (s.modLane n f).journal = s.journal := rfl
@[simp] theorem State.modLane_power (s : State) (n : Nat) (f : HLane → HLane) : (s.modLane n f).power = s.power := rfl
@[simp] theorem State.modLane_counters (s : State) (n : Nat) (f : HLane → HLane) : (s.modLane n f).counters = s.counters := rfl

/-! ### modPart -/

@[simp] theorem State.modPart_pending (s : State) (n : Nat) (f : Part → Part) : (s.modPart n f).pending = s.pending := rfl
@[simp] theorem State.modPart_out (s : State) (n : Nat) (f : Part → Part) : (s.modPart n f).out = s.out := rfl
@[simp] theorem State.modPart_draws (s : State) (n : Nat) (f : Part → Part) : (s.modPart n f).draws = s.draws := rfl
@[simp] theorem State.modPart_now (s : State) (n : Nat) (f : Part → Part) : (s.modPart n f).now = s.now := rfl
@[simp] theorem State.modPart_dict (s : State) (n : Nat) (f : Part → Part) : (s.modPart n f).dict = s.dict := rfl
@[simp] theorem State.modPart_hier (s : State) (n : Nat) (f : Part → Part) : (s.modPart n f).hier = s.hier := rfl
@[simp] theorem State.modPart_time (s : State) (n : Nat) (f : Part → Part) : (s.modPart n f).time = s.time := rfl
@[simp] theorem State.modPart_act (s : State) (n : Nat) (f : Part → Part) : (s.modPart n f).act = s.act := rfl
@[simp] theorem State.modPart_hports (s : State) (n : Nat) (f : Part → Part) : (s.modPart n f).hports = s.hports := rfl
@[simp] theorem State.modPart_lanes (s : State) (n : Nat) (f : Part → Part) : (s.modPart n f).lanes = s.lanes := rfl
@[simp] theorem State.modPart_trunks (s : State) (n : Nat) (f : Part → Part) : (s.modPart n f).trunks = s.trunks := rfl
@[simp] theorem State.modPart_core (s : State) (n : Nat) (f : Part → Part) : (s.modPart n f).core = s.core := rfl
@[simp] theorem State.modPart_parts (s : State) (n : Nat) (f : Part → Part) : (s.modPart n f).parts = s.parts.modify n f := rfl
@[simp] theorem State.modPart_shared (s : State) (n : Nat) (f : Part → Part) : (s.modPart n f).shared = s.shared := rfl
@[simp] theorem State.modPart_gates (s : State) (n : Nat) (f : Part → Part) : (s.modPart n f).gates = s.gates := rfl
@[simp] theorem State.modPart_fabric (s : State) (n : Nat) (f : Part → Part) : (s.modPart n f).fabric = s.fabric := rfl
@[simp] theorem State.modPart_mem (s : State) (n : Nat) (f : Part → Part) : (s.modPart n f).mem = s.mem := rfl
@[simp] theorem State.modPart_engines (s : State) (n : Nat) (f : Part → Part) : (s.modPart n f).engines = s.engines := rfl
@[simp] theorem State.modPart_faults (s : State) (n : Nat) (f : Part → Part) : (s.modPart n f).faults = s.faults := rfl
@[simp] theorem State.modPart_bocel (s : State) (n : Nat) (f : Part → Part) : (s.modPart n f).bocel = s.bocel := rfl
@[simp] theorem State.modPart_sec (s : State) (n : Nat) (f : Part → Part) : (s.modPart n f).sec = s.sec := rfl
@[simp] theorem State.modPart_journal (s : State) (n : Nat) (f : Part → Part) : (s.modPart n f).journal = s.journal := rfl
@[simp] theorem State.modPart_power (s : State) (n : Nat) (f : Part → Part) : (s.modPart n f).power = s.power := rfl
@[simp] theorem State.modPart_counters (s : State) (n : Nat) (f : Part → Part) : (s.modPart n f).counters = s.counters := rfl

/-! ### modShared -/

@[simp] theorem State.modShared_pending (s : State) (n : Nat) (f : Shared → Shared) : (s.modShared n f).pending = s.pending := rfl
@[simp] theorem State.modShared_out (s : State) (n : Nat) (f : Shared → Shared) : (s.modShared n f).out = s.out := rfl
@[simp] theorem State.modShared_draws (s : State) (n : Nat) (f : Shared → Shared) : (s.modShared n f).draws = s.draws := rfl
@[simp] theorem State.modShared_now (s : State) (n : Nat) (f : Shared → Shared) : (s.modShared n f).now = s.now := rfl
@[simp] theorem State.modShared_dict (s : State) (n : Nat) (f : Shared → Shared) : (s.modShared n f).dict = s.dict := rfl
@[simp] theorem State.modShared_hier (s : State) (n : Nat) (f : Shared → Shared) : (s.modShared n f).hier = s.hier := rfl
@[simp] theorem State.modShared_time (s : State) (n : Nat) (f : Shared → Shared) : (s.modShared n f).time = s.time := rfl
@[simp] theorem State.modShared_act (s : State) (n : Nat) (f : Shared → Shared) : (s.modShared n f).act = s.act := rfl
@[simp] theorem State.modShared_hports (s : State) (n : Nat) (f : Shared → Shared) : (s.modShared n f).hports = s.hports := rfl
@[simp] theorem State.modShared_lanes (s : State) (n : Nat) (f : Shared → Shared) : (s.modShared n f).lanes = s.lanes := rfl
@[simp] theorem State.modShared_trunks (s : State) (n : Nat) (f : Shared → Shared) : (s.modShared n f).trunks = s.trunks := rfl
@[simp] theorem State.modShared_core (s : State) (n : Nat) (f : Shared → Shared) : (s.modShared n f).core = s.core := rfl
@[simp] theorem State.modShared_parts (s : State) (n : Nat) (f : Shared → Shared) : (s.modShared n f).parts = s.parts := rfl
@[simp] theorem State.modShared_shared (s : State) (n : Nat) (f : Shared → Shared) : (s.modShared n f).shared = s.shared.modify n f := rfl
@[simp] theorem State.modShared_gates (s : State) (n : Nat) (f : Shared → Shared) : (s.modShared n f).gates = s.gates := rfl
@[simp] theorem State.modShared_fabric (s : State) (n : Nat) (f : Shared → Shared) : (s.modShared n f).fabric = s.fabric := rfl
@[simp] theorem State.modShared_mem (s : State) (n : Nat) (f : Shared → Shared) : (s.modShared n f).mem = s.mem := rfl
@[simp] theorem State.modShared_engines (s : State) (n : Nat) (f : Shared → Shared) : (s.modShared n f).engines = s.engines := rfl
@[simp] theorem State.modShared_faults (s : State) (n : Nat) (f : Shared → Shared) : (s.modShared n f).faults = s.faults := rfl
@[simp] theorem State.modShared_bocel (s : State) (n : Nat) (f : Shared → Shared) : (s.modShared n f).bocel = s.bocel := rfl
@[simp] theorem State.modShared_sec (s : State) (n : Nat) (f : Shared → Shared) : (s.modShared n f).sec = s.sec := rfl
@[simp] theorem State.modShared_journal (s : State) (n : Nat) (f : Shared → Shared) : (s.modShared n f).journal = s.journal := rfl
@[simp] theorem State.modShared_power (s : State) (n : Nat) (f : Shared → Shared) : (s.modShared n f).power = s.power := rfl
@[simp] theorem State.modShared_counters (s : State) (n : Nat) (f : Shared → Shared) : (s.modShared n f).counters = s.counters := rfl

/-! ### modTx -/

@[simp] theorem State.modTx_pending (s : State) (n : Nat) (f : TrunkTx → TrunkTx) : (s.modTx n f).pending = s.pending := rfl
@[simp] theorem State.modTx_out (s : State) (n : Nat) (f : TrunkTx → TrunkTx) : (s.modTx n f).out = s.out := rfl
@[simp] theorem State.modTx_draws (s : State) (n : Nat) (f : TrunkTx → TrunkTx) : (s.modTx n f).draws = s.draws := rfl
@[simp] theorem State.modTx_now (s : State) (n : Nat) (f : TrunkTx → TrunkTx) : (s.modTx n f).now = s.now := rfl
@[simp] theorem State.modTx_dict (s : State) (n : Nat) (f : TrunkTx → TrunkTx) : (s.modTx n f).dict = s.dict := rfl
@[simp] theorem State.modTx_hier (s : State) (n : Nat) (f : TrunkTx → TrunkTx) : (s.modTx n f).hier = s.hier := rfl
@[simp] theorem State.modTx_time (s : State) (n : Nat) (f : TrunkTx → TrunkTx) : (s.modTx n f).time = s.time := rfl
@[simp] theorem State.modTx_act (s : State) (n : Nat) (f : TrunkTx → TrunkTx) : (s.modTx n f).act = s.act := rfl
@[simp] theorem State.modTx_hports (s : State) (n : Nat) (f : TrunkTx → TrunkTx) : (s.modTx n f).hports = s.hports := rfl
@[simp] theorem State.modTx_lanes (s : State) (n : Nat) (f : TrunkTx → TrunkTx) : (s.modTx n f).lanes = s.lanes := rfl
@[simp] theorem State.modTx_core (s : State) (n : Nat) (f : TrunkTx → TrunkTx) : (s.modTx n f).core = s.core := rfl
@[simp] theorem State.modTx_parts (s : State) (n : Nat) (f : TrunkTx → TrunkTx) : (s.modTx n f).parts = s.parts := rfl
@[simp] theorem State.modTx_shared (s : State) (n : Nat) (f : TrunkTx → TrunkTx) : (s.modTx n f).shared = s.shared := rfl
@[simp] theorem State.modTx_gates (s : State) (n : Nat) (f : TrunkTx → TrunkTx) : (s.modTx n f).gates = s.gates := rfl
@[simp] theorem State.modTx_fabric (s : State) (n : Nat) (f : TrunkTx → TrunkTx) : (s.modTx n f).fabric = s.fabric := rfl
@[simp] theorem State.modTx_mem (s : State) (n : Nat) (f : TrunkTx → TrunkTx) : (s.modTx n f).mem = s.mem := rfl
@[simp] theorem State.modTx_engines (s : State) (n : Nat) (f : TrunkTx → TrunkTx) : (s.modTx n f).engines = s.engines := rfl
@[simp] theorem State.modTx_faults (s : State) (n : Nat) (f : TrunkTx → TrunkTx) : (s.modTx n f).faults = s.faults := rfl
@[simp] theorem State.modTx_bocel (s : State) (n : Nat) (f : TrunkTx → TrunkTx) : (s.modTx n f).bocel = s.bocel := rfl
@[simp] theorem State.modTx_sec (s : State) (n : Nat) (f : TrunkTx → TrunkTx) : (s.modTx n f).sec = s.sec := rfl
@[simp] theorem State.modTx_journal (s : State) (n : Nat) (f : TrunkTx → TrunkTx) : (s.modTx n f).journal = s.journal := rfl
@[simp] theorem State.modTx_power (s : State) (n : Nat) (f : TrunkTx → TrunkTx) : (s.modTx n f).power = s.power := rfl
@[simp] theorem State.modTx_counters (s : State) (n : Nat) (f : TrunkTx → TrunkTx) : (s.modTx n f).counters = s.counters := rfl

/-! ### modRx -/

@[simp] theorem State.modRx_pending (s : State) (n : Nat) (f : TrunkRx → TrunkRx) : (s.modRx n f).pending = s.pending := rfl
@[simp] theorem State.modRx_out (s : State) (n : Nat) (f : TrunkRx → TrunkRx) : (s.modRx n f).out = s.out := rfl
@[simp] theorem State.modRx_draws (s : State) (n : Nat) (f : TrunkRx → TrunkRx) : (s.modRx n f).draws = s.draws := rfl
@[simp] theorem State.modRx_now (s : State) (n : Nat) (f : TrunkRx → TrunkRx) : (s.modRx n f).now = s.now := rfl
@[simp] theorem State.modRx_dict (s : State) (n : Nat) (f : TrunkRx → TrunkRx) : (s.modRx n f).dict = s.dict := rfl
@[simp] theorem State.modRx_hier (s : State) (n : Nat) (f : TrunkRx → TrunkRx) : (s.modRx n f).hier = s.hier := rfl
@[simp] theorem State.modRx_time (s : State) (n : Nat) (f : TrunkRx → TrunkRx) : (s.modRx n f).time = s.time := rfl
@[simp] theorem State.modRx_act (s : State) (n : Nat) (f : TrunkRx → TrunkRx) : (s.modRx n f).act = s.act := rfl
@[simp] theorem State.modRx_hports (s : State) (n : Nat) (f : TrunkRx → TrunkRx) : (s.modRx n f).hports = s.hports := rfl
@[simp] theorem State.modRx_lanes (s : State) (n : Nat) (f : TrunkRx → TrunkRx) : (s.modRx n f).lanes = s.lanes := rfl
@[simp] theorem State.modRx_core (s : State) (n : Nat) (f : TrunkRx → TrunkRx) : (s.modRx n f).core = s.core := rfl
@[simp] theorem State.modRx_parts (s : State) (n : Nat) (f : TrunkRx → TrunkRx) : (s.modRx n f).parts = s.parts := rfl
@[simp] theorem State.modRx_shared (s : State) (n : Nat) (f : TrunkRx → TrunkRx) : (s.modRx n f).shared = s.shared := rfl
@[simp] theorem State.modRx_gates (s : State) (n : Nat) (f : TrunkRx → TrunkRx) : (s.modRx n f).gates = s.gates := rfl
@[simp] theorem State.modRx_fabric (s : State) (n : Nat) (f : TrunkRx → TrunkRx) : (s.modRx n f).fabric = s.fabric := rfl
@[simp] theorem State.modRx_mem (s : State) (n : Nat) (f : TrunkRx → TrunkRx) : (s.modRx n f).mem = s.mem := rfl
@[simp] theorem State.modRx_engines (s : State) (n : Nat) (f : TrunkRx → TrunkRx) : (s.modRx n f).engines = s.engines := rfl
@[simp] theorem State.modRx_faults (s : State) (n : Nat) (f : TrunkRx → TrunkRx) : (s.modRx n f).faults = s.faults := rfl
@[simp] theorem State.modRx_bocel (s : State) (n : Nat) (f : TrunkRx → TrunkRx) : (s.modRx n f).bocel = s.bocel := rfl
@[simp] theorem State.modRx_sec (s : State) (n : Nat) (f : TrunkRx → TrunkRx) : (s.modRx n f).sec = s.sec := rfl
@[simp] theorem State.modRx_journal (s : State) (n : Nat) (f : TrunkRx → TrunkRx) : (s.modRx n f).journal = s.journal := rfl
@[simp] theorem State.modRx_power (s : State) (n : Nat) (f : TrunkRx → TrunkRx) : (s.modRx n f).power = s.power := rfl
@[simp] theorem State.modRx_counters (s : State) (n : Nat) (f : TrunkRx → TrunkRx) : (s.modRx n f).counters = s.counters := rfl

/-! ### modTrain -/

@[simp] theorem State.modTrain_pending (s : State) (n : Nat) (f : Training → Training) : (s.modTrain n f).pending = s.pending := rfl
@[simp] theorem State.modTrain_out (s : State) (n : Nat) (f : Training → Training) : (s.modTrain n f).out = s.out := rfl
@[simp] theorem State.modTrain_draws (s : State) (n : Nat) (f : Training → Training) : (s.modTrain n f).draws = s.draws := rfl
@[simp] theorem State.modTrain_now (s : State) (n : Nat) (f : Training → Training) : (s.modTrain n f).now = s.now := rfl
@[simp] theorem State.modTrain_dict (s : State) (n : Nat) (f : Training → Training) : (s.modTrain n f).dict = s.dict := rfl
@[simp] theorem State.modTrain_hier (s : State) (n : Nat) (f : Training → Training) : (s.modTrain n f).hier = s.hier := rfl
@[simp] theorem State.modTrain_time (s : State) (n : Nat) (f : Training → Training) : (s.modTrain n f).time = s.time := rfl
@[simp] theorem State.modTrain_act (s : State) (n : Nat) (f : Training → Training) : (s.modTrain n f).act = s.act := rfl
@[simp] theorem State.modTrain_hports (s : State) (n : Nat) (f : Training → Training) : (s.modTrain n f).hports = s.hports := rfl
@[simp] theorem State.modTrain_lanes (s : State) (n : Nat) (f : Training → Training) : (s.modTrain n f).lanes = s.lanes := rfl
@[simp] theorem State.modTrain_core (s : State) (n : Nat) (f : Training → Training) : (s.modTrain n f).core = s.core := rfl
@[simp] theorem State.modTrain_parts (s : State) (n : Nat) (f : Training → Training) : (s.modTrain n f).parts = s.parts := rfl
@[simp] theorem State.modTrain_shared (s : State) (n : Nat) (f : Training → Training) : (s.modTrain n f).shared = s.shared := rfl
@[simp] theorem State.modTrain_gates (s : State) (n : Nat) (f : Training → Training) : (s.modTrain n f).gates = s.gates := rfl
@[simp] theorem State.modTrain_fabric (s : State) (n : Nat) (f : Training → Training) : (s.modTrain n f).fabric = s.fabric := rfl
@[simp] theorem State.modTrain_mem (s : State) (n : Nat) (f : Training → Training) : (s.modTrain n f).mem = s.mem := rfl
@[simp] theorem State.modTrain_engines (s : State) (n : Nat) (f : Training → Training) : (s.modTrain n f).engines = s.engines := rfl
@[simp] theorem State.modTrain_faults (s : State) (n : Nat) (f : Training → Training) : (s.modTrain n f).faults = s.faults := rfl
@[simp] theorem State.modTrain_bocel (s : State) (n : Nat) (f : Training → Training) : (s.modTrain n f).bocel = s.bocel := rfl
@[simp] theorem State.modTrain_sec (s : State) (n : Nat) (f : Training → Training) : (s.modTrain n f).sec = s.sec := rfl
@[simp] theorem State.modTrain_journal (s : State) (n : Nat) (f : Training → Training) : (s.modTrain n f).journal = s.journal := rfl
@[simp] theorem State.modTrain_power (s : State) (n : Nat) (f : Training → Training) : (s.modTrain n f).power = s.power := rfl
@[simp] theorem State.modTrain_counters (s : State) (n : Nat) (f : Training → Training) : (s.modTrain n f).counters = s.counters := rfl

/-! ### modCore -/

@[simp] theorem State.modCore_pending (s : State) (f : Core → Core) : (s.modCore f).pending = s.pending := rfl
@[simp] theorem State.modCore_out (s : State) (f : Core → Core) : (s.modCore f).out = s.out := rfl
@[simp] theorem State.modCore_draws (s : State) (f : Core → Core) : (s.modCore f).draws = s.draws := rfl
@[simp] theorem State.modCore_now (s : State) (f : Core → Core) : (s.modCore f).now = s.now := rfl
@[simp] theorem State.modCore_dict (s : State) (f : Core → Core) : (s.modCore f).dict = s.dict := rfl
@[simp] theorem State.modCore_hier (s : State) (f : Core → Core) : (s.modCore f).hier = s.hier := rfl
@[simp] theorem State.modCore_time (s : State) (f : Core → Core) : (s.modCore f).time = s.time := rfl
@[simp] theorem State.modCore_act (s : State) (f : Core → Core) : (s.modCore f).act = s.act := rfl
@[simp] theorem State.modCore_hports (s : State) (f : Core → Core) : (s.modCore f).hports = s.hports := rfl
@[simp] theorem State.modCore_lanes (s : State) (f : Core → Core) : (s.modCore f).lanes = s.lanes := rfl
@[simp] theorem State.modCore_trunks (s : State) (f : Core → Core) : (s.modCore f).trunks = s.trunks := rfl
@[simp] theorem State.modCore_core (s : State) (f : Core → Core) : (s.modCore f).core = f s.core := rfl
@[simp] theorem State.modCore_parts (s : State) (f : Core → Core) : (s.modCore f).parts = s.parts := rfl
@[simp] theorem State.modCore_shared (s : State) (f : Core → Core) : (s.modCore f).shared = s.shared := rfl
@[simp] theorem State.modCore_gates (s : State) (f : Core → Core) : (s.modCore f).gates = s.gates := rfl
@[simp] theorem State.modCore_fabric (s : State) (f : Core → Core) : (s.modCore f).fabric = s.fabric := rfl
@[simp] theorem State.modCore_mem (s : State) (f : Core → Core) : (s.modCore f).mem = s.mem := rfl
@[simp] theorem State.modCore_engines (s : State) (f : Core → Core) : (s.modCore f).engines = s.engines := rfl
@[simp] theorem State.modCore_faults (s : State) (f : Core → Core) : (s.modCore f).faults = s.faults := rfl
@[simp] theorem State.modCore_bocel (s : State) (f : Core → Core) : (s.modCore f).bocel = s.bocel := rfl
@[simp] theorem State.modCore_sec (s : State) (f : Core → Core) : (s.modCore f).sec = s.sec := rfl
@[simp] theorem State.modCore_journal (s : State) (f : Core → Core) : (s.modCore f).journal = s.journal := rfl
@[simp] theorem State.modCore_power (s : State) (f : Core → Core) : (s.modCore f).power = s.power := rfl
@[simp] theorem State.modCore_counters (s : State) (f : Core → Core) : (s.modCore f).counters = s.counters := rfl

/-! ### modHier -/

@[simp] theorem State.modHier_pending (s : State) (f : Hier → Hier) : (s.modHier f).pending = s.pending := rfl
@[simp] theorem State.modHier_out (s : State) (f : Hier → Hier) : (s.modHier f).out = s.out := rfl
@[simp] theorem State.modHier_draws (s : State) (f : Hier → Hier) : (s.modHier f).draws = s.draws := rfl
@[simp] theorem State.modHier_now (s : State) (f : Hier → Hier) : (s.modHier f).now = s.now := rfl
@[simp] theorem State.modHier_dict (s : State) (f : Hier → Hier) : (s.modHier f).dict = s.dict := rfl
@[simp] theorem State.modHier_hier (s : State) (f : Hier → Hier) : (s.modHier f).hier = f s.hier := rfl
@[simp] theorem State.modHier_time (s : State) (f : Hier → Hier) : (s.modHier f).time = s.time := rfl
@[simp] theorem State.modHier_act (s : State) (f : Hier → Hier) : (s.modHier f).act = s.act := rfl
@[simp] theorem State.modHier_hports (s : State) (f : Hier → Hier) : (s.modHier f).hports = s.hports := rfl
@[simp] theorem State.modHier_lanes (s : State) (f : Hier → Hier) : (s.modHier f).lanes = s.lanes := rfl
@[simp] theorem State.modHier_trunks (s : State) (f : Hier → Hier) : (s.modHier f).trunks = s.trunks := rfl
@[simp] theorem State.modHier_core (s : State) (f : Hier → Hier) : (s.modHier f).core = s.core := rfl
@[simp] theorem State.modHier_parts (s : State) (f : Hier → Hier) : (s.modHier f).parts = s.parts := rfl
@[simp] theorem State.modHier_shared (s : State) (f : Hier → Hier) : (s.modHier f).shared = s.shared := rfl
@[simp] theorem State.modHier_gates (s : State) (f : Hier → Hier) : (s.modHier f).gates = s.gates := rfl
@[simp] theorem State.modHier_fabric (s : State) (f : Hier → Hier) : (s.modHier f).fabric = s.fabric := rfl
@[simp] theorem State.modHier_mem (s : State) (f : Hier → Hier) : (s.modHier f).mem = s.mem := rfl
@[simp] theorem State.modHier_engines (s : State) (f : Hier → Hier) : (s.modHier f).engines = s.engines := rfl
@[simp] theorem State.modHier_faults (s : State) (f : Hier → Hier) : (s.modHier f).faults = s.faults := rfl
@[simp] theorem State.modHier_bocel (s : State) (f : Hier → Hier) : (s.modHier f).bocel = s.bocel := rfl
@[simp] theorem State.modHier_sec (s : State) (f : Hier → Hier) : (s.modHier f).sec = s.sec := rfl
@[simp] theorem State.modHier_journal (s : State) (f : Hier → Hier) : (s.modHier f).journal = s.journal := rfl
@[simp] theorem State.modHier_power (s : State) (f : Hier → Hier) : (s.modHier f).power = s.power := rfl
@[simp] theorem State.modHier_counters (s : State) (f : Hier → Hier) : (s.modHier f).counters = s.counters := rfl

/-! ### modTime -/

@[simp] theorem State.modTime_pending (s : State) (f : TimeUnit → TimeUnit) : (s.modTime f).pending = s.pending := rfl
@[simp] theorem State.modTime_out (s : State) (f : TimeUnit → TimeUnit) : (s.modTime f).out = s.out := rfl
@[simp] theorem State.modTime_draws (s : State) (f : TimeUnit → TimeUnit) : (s.modTime f).draws = s.draws := rfl
@[simp] theorem State.modTime_now (s : State) (f : TimeUnit → TimeUnit) : (s.modTime f).now = s.now := rfl
@[simp] theorem State.modTime_dict (s : State) (f : TimeUnit → TimeUnit) : (s.modTime f).dict = s.dict := rfl
@[simp] theorem State.modTime_hier (s : State) (f : TimeUnit → TimeUnit) : (s.modTime f).hier = s.hier := rfl
@[simp] theorem State.modTime_time (s : State) (f : TimeUnit → TimeUnit) : (s.modTime f).time = f s.time := rfl
@[simp] theorem State.modTime_act (s : State) (f : TimeUnit → TimeUnit) : (s.modTime f).act = s.act := rfl
@[simp] theorem State.modTime_hports (s : State) (f : TimeUnit → TimeUnit) : (s.modTime f).hports = s.hports := rfl
@[simp] theorem State.modTime_lanes (s : State) (f : TimeUnit → TimeUnit) : (s.modTime f).lanes = s.lanes := rfl
@[simp] theorem State.modTime_trunks (s : State) (f : TimeUnit → TimeUnit) : (s.modTime f).trunks = s.trunks := rfl
@[simp] theorem State.modTime_core (s : State) (f : TimeUnit → TimeUnit) : (s.modTime f).core = s.core := rfl
@[simp] theorem State.modTime_parts (s : State) (f : TimeUnit → TimeUnit) : (s.modTime f).parts = s.parts := rfl
@[simp] theorem State.modTime_shared (s : State) (f : TimeUnit → TimeUnit) : (s.modTime f).shared = s.shared := rfl
@[simp] theorem State.modTime_gates (s : State) (f : TimeUnit → TimeUnit) : (s.modTime f).gates = s.gates := rfl
@[simp] theorem State.modTime_fabric (s : State) (f : TimeUnit → TimeUnit) : (s.modTime f).fabric = s.fabric := rfl
@[simp] theorem State.modTime_mem (s : State) (f : TimeUnit → TimeUnit) : (s.modTime f).mem = s.mem := rfl
@[simp] theorem State.modTime_engines (s : State) (f : TimeUnit → TimeUnit) : (s.modTime f).engines = s.engines := rfl
@[simp] theorem State.modTime_faults (s : State) (f : TimeUnit → TimeUnit) : (s.modTime f).faults = s.faults := rfl
@[simp] theorem State.modTime_bocel (s : State) (f : TimeUnit → TimeUnit) : (s.modTime f).bocel = s.bocel := rfl
@[simp] theorem State.modTime_sec (s : State) (f : TimeUnit → TimeUnit) : (s.modTime f).sec = s.sec := rfl
@[simp] theorem State.modTime_journal (s : State) (f : TimeUnit → TimeUnit) : (s.modTime f).journal = s.journal := rfl
@[simp] theorem State.modTime_power (s : State) (f : TimeUnit → TimeUnit) : (s.modTime f).power = s.power := rfl
@[simp] theorem State.modTime_counters (s : State) (f : TimeUnit → TimeUnit) : (s.modTime f).counters = s.counters := rfl

/-! ### modAct -/

@[simp] theorem State.modAct_pending (s : State) (f : Activation → Activation) : (s.modAct f).pending = s.pending := rfl
@[simp] theorem State.modAct_out (s : State) (f : Activation → Activation) : (s.modAct f).out = s.out := rfl
@[simp] theorem State.modAct_draws (s : State) (f : Activation → Activation) : (s.modAct f).draws = s.draws := rfl
@[simp] theorem State.modAct_now (s : State) (f : Activation → Activation) : (s.modAct f).now = s.now := rfl
@[simp] theorem State.modAct_dict (s : State) (f : Activation → Activation) : (s.modAct f).dict = s.dict := rfl
@[simp] theorem State.modAct_hier (s : State) (f : Activation → Activation) : (s.modAct f).hier = s.hier := rfl
@[simp] theorem State.modAct_time (s : State) (f : Activation → Activation) : (s.modAct f).time = s.time := rfl
@[simp] theorem State.modAct_act (s : State) (f : Activation → Activation) : (s.modAct f).act = f s.act := rfl
@[simp] theorem State.modAct_hports (s : State) (f : Activation → Activation) : (s.modAct f).hports = s.hports := rfl
@[simp] theorem State.modAct_lanes (s : State) (f : Activation → Activation) : (s.modAct f).lanes = s.lanes := rfl
@[simp] theorem State.modAct_trunks (s : State) (f : Activation → Activation) : (s.modAct f).trunks = s.trunks := rfl
@[simp] theorem State.modAct_core (s : State) (f : Activation → Activation) : (s.modAct f).core = s.core := rfl
@[simp] theorem State.modAct_parts (s : State) (f : Activation → Activation) : (s.modAct f).parts = s.parts := rfl
@[simp] theorem State.modAct_shared (s : State) (f : Activation → Activation) : (s.modAct f).shared = s.shared := rfl
@[simp] theorem State.modAct_gates (s : State) (f : Activation → Activation) : (s.modAct f).gates = s.gates := rfl
@[simp] theorem State.modAct_fabric (s : State) (f : Activation → Activation) : (s.modAct f).fabric = s.fabric := rfl
@[simp] theorem State.modAct_mem (s : State) (f : Activation → Activation) : (s.modAct f).mem = s.mem := rfl
@[simp] theorem State.modAct_engines (s : State) (f : Activation → Activation) : (s.modAct f).engines = s.engines := rfl
@[simp] theorem State.modAct_faults (s : State) (f : Activation → Activation) : (s.modAct f).faults = s.faults := rfl
@[simp] theorem State.modAct_bocel (s : State) (f : Activation → Activation) : (s.modAct f).bocel = s.bocel := rfl
@[simp] theorem State.modAct_sec (s : State) (f : Activation → Activation) : (s.modAct f).sec = s.sec := rfl
@[simp] theorem State.modAct_journal (s : State) (f : Activation → Activation) : (s.modAct f).journal = s.journal := rfl
@[simp] theorem State.modAct_power (s : State) (f : Activation → Activation) : (s.modAct f).power = s.power := rfl
@[simp] theorem State.modAct_counters (s : State) (f : Activation → Activation) : (s.modAct f).counters = s.counters := rfl

/-! ### modGates -/

@[simp] theorem State.modGates_pending (s : State) (f : Gates → Gates) : (s.modGates f).pending = s.pending := rfl
@[simp] theorem State.modGates_out (s : State) (f : Gates → Gates) : (s.modGates f).out = s.out := rfl
@[simp] theorem State.modGates_draws (s : State) (f : Gates → Gates) : (s.modGates f).draws = s.draws := rfl
@[simp] theorem State.modGates_now (s : State) (f : Gates → Gates) : (s.modGates f).now = s.now := rfl
@[simp] theorem State.modGates_dict (s : State) (f : Gates → Gates) : (s.modGates f).dict = s.dict := rfl
@[simp] theorem State.modGates_hier (s : State) (f : Gates → Gates) : (s.modGates f).hier = s.hier := rfl
@[simp] theorem State.modGates_time (s : State) (f : Gates → Gates) : (s.modGates f).time = s.time := rfl
@[simp] theorem State.modGates_act (s : State) (f : Gates → Gates) : (s.modGates f).act = s.act := rfl
@[simp] theorem State.modGates_hports (s : State) (f : Gates → Gates) : (s.modGates f).hports = s.hports := rfl
@[simp] theorem State.modGates_lanes (s : State) (f : Gates → Gates) : (s.modGates f).lanes = s.lanes := rfl
@[simp] theorem State.modGates_trunks (s : State) (f : Gates → Gates) : (s.modGates f).trunks = s.trunks := rfl
@[simp] theorem State.modGates_core (s : State) (f : Gates → Gates) : (s.modGates f).core = s.core := rfl
@[simp] theorem State.modGates_parts (s : State) (f : Gates → Gates) : (s.modGates f).parts = s.parts := rfl
@[simp] theorem State.modGates_shared (s : State) (f : Gates → Gates) : (s.modGates f).shared = s.shared := rfl
@[simp] theorem State.modGates_gates (s : State) (f : Gates → Gates) : (s.modGates f).gates = f s.gates := rfl
@[simp] theorem State.modGates_fabric (s : State) (f : Gates → Gates) : (s.modGates f).fabric = s.fabric := rfl
@[simp] theorem State.modGates_mem (s : State) (f : Gates → Gates) : (s.modGates f).mem = s.mem := rfl
@[simp] theorem State.modGates_engines (s : State) (f : Gates → Gates) : (s.modGates f).engines = s.engines := rfl
@[simp] theorem State.modGates_faults (s : State) (f : Gates → Gates) : (s.modGates f).faults = s.faults := rfl
@[simp] theorem State.modGates_bocel (s : State) (f : Gates → Gates) : (s.modGates f).bocel = s.bocel := rfl
@[simp] theorem State.modGates_sec (s : State) (f : Gates → Gates) : (s.modGates f).sec = s.sec := rfl
@[simp] theorem State.modGates_journal (s : State) (f : Gates → Gates) : (s.modGates f).journal = s.journal := rfl
@[simp] theorem State.modGates_power (s : State) (f : Gates → Gates) : (s.modGates f).power = s.power := rfl
@[simp] theorem State.modGates_counters (s : State) (f : Gates → Gates) : (s.modGates f).counters = s.counters := rfl

/-! ### modFabric -/

@[simp] theorem State.modFabric_pending (s : State) (f : Fabric → Fabric) : (s.modFabric f).pending = s.pending := rfl
@[simp] theorem State.modFabric_out (s : State) (f : Fabric → Fabric) : (s.modFabric f).out = s.out := rfl
@[simp] theorem State.modFabric_draws (s : State) (f : Fabric → Fabric) : (s.modFabric f).draws = s.draws := rfl
@[simp] theorem State.modFabric_now (s : State) (f : Fabric → Fabric) : (s.modFabric f).now = s.now := rfl
@[simp] theorem State.modFabric_dict (s : State) (f : Fabric → Fabric) : (s.modFabric f).dict = s.dict := rfl
@[simp] theorem State.modFabric_hier (s : State) (f : Fabric → Fabric) : (s.modFabric f).hier = s.hier := rfl
@[simp] theorem State.modFabric_time (s : State) (f : Fabric → Fabric) : (s.modFabric f).time = s.time := rfl
@[simp] theorem State.modFabric_act (s : State) (f : Fabric → Fabric) : (s.modFabric f).act = s.act := rfl
@[simp] theorem State.modFabric_hports (s : State) (f : Fabric → Fabric) : (s.modFabric f).hports = s.hports := rfl
@[simp] theorem State.modFabric_lanes (s : State) (f : Fabric → Fabric) : (s.modFabric f).lanes = s.lanes := rfl
@[simp] theorem State.modFabric_trunks (s : State) (f : Fabric → Fabric) : (s.modFabric f).trunks = s.trunks := rfl
@[simp] theorem State.modFabric_core (s : State) (f : Fabric → Fabric) : (s.modFabric f).core = s.core := rfl
@[simp] theorem State.modFabric_parts (s : State) (f : Fabric → Fabric) : (s.modFabric f).parts = s.parts := rfl
@[simp] theorem State.modFabric_shared (s : State) (f : Fabric → Fabric) : (s.modFabric f).shared = s.shared := rfl
@[simp] theorem State.modFabric_gates (s : State) (f : Fabric → Fabric) : (s.modFabric f).gates = s.gates := rfl
@[simp] theorem State.modFabric_fabric (s : State) (f : Fabric → Fabric) : (s.modFabric f).fabric = f s.fabric := rfl
@[simp] theorem State.modFabric_mem (s : State) (f : Fabric → Fabric) : (s.modFabric f).mem = s.mem := rfl
@[simp] theorem State.modFabric_engines (s : State) (f : Fabric → Fabric) : (s.modFabric f).engines = s.engines := rfl
@[simp] theorem State.modFabric_faults (s : State) (f : Fabric → Fabric) : (s.modFabric f).faults = s.faults := rfl
@[simp] theorem State.modFabric_bocel (s : State) (f : Fabric → Fabric) : (s.modFabric f).bocel = s.bocel := rfl
@[simp] theorem State.modFabric_sec (s : State) (f : Fabric → Fabric) : (s.modFabric f).sec = s.sec := rfl
@[simp] theorem State.modFabric_journal (s : State) (f : Fabric → Fabric) : (s.modFabric f).journal = s.journal := rfl
@[simp] theorem State.modFabric_power (s : State) (f : Fabric → Fabric) : (s.modFabric f).power = s.power := rfl
@[simp] theorem State.modFabric_counters (s : State) (f : Fabric → Fabric) : (s.modFabric f).counters = s.counters := rfl

/-! ### modMem -/

@[simp] theorem State.modMem_pending (s : State) (f : Memory → Memory) : (s.modMem f).pending = s.pending := rfl
@[simp] theorem State.modMem_out (s : State) (f : Memory → Memory) : (s.modMem f).out = s.out := rfl
@[simp] theorem State.modMem_draws (s : State) (f : Memory → Memory) : (s.modMem f).draws = s.draws := rfl
@[simp] theorem State.modMem_now (s : State) (f : Memory → Memory) : (s.modMem f).now = s.now := rfl
@[simp] theorem State.modMem_dict (s : State) (f : Memory → Memory) : (s.modMem f).dict = s.dict := rfl
@[simp] theorem State.modMem_hier (s : State) (f : Memory → Memory) : (s.modMem f).hier = s.hier := rfl
@[simp] theorem State.modMem_time (s : State) (f : Memory → Memory) : (s.modMem f).time = s.time := rfl
@[simp] theorem State.modMem_act (s : State) (f : Memory → Memory) : (s.modMem f).act = s.act := rfl
@[simp] theorem State.modMem_hports (s : State) (f : Memory → Memory) : (s.modMem f).hports = s.hports := rfl
@[simp] theorem State.modMem_lanes (s : State) (f : Memory → Memory) : (s.modMem f).lanes = s.lanes := rfl
@[simp] theorem State.modMem_trunks (s : State) (f : Memory → Memory) : (s.modMem f).trunks = s.trunks := rfl
@[simp] theorem State.modMem_core (s : State) (f : Memory → Memory) : (s.modMem f).core = s.core := rfl
@[simp] theorem State.modMem_parts (s : State) (f : Memory → Memory) : (s.modMem f).parts = s.parts := rfl
@[simp] theorem State.modMem_shared (s : State) (f : Memory → Memory) : (s.modMem f).shared = s.shared := rfl
@[simp] theorem State.modMem_gates (s : State) (f : Memory → Memory) : (s.modMem f).gates = s.gates := rfl
@[simp] theorem State.modMem_fabric (s : State) (f : Memory → Memory) : (s.modMem f).fabric = s.fabric := rfl
@[simp] theorem State.modMem_mem (s : State) (f : Memory → Memory) : (s.modMem f).mem = f s.mem := rfl
@[simp] theorem State.modMem_engines (s : State) (f : Memory → Memory) : (s.modMem f).engines = s.engines := rfl
@[simp] theorem State.modMem_faults (s : State) (f : Memory → Memory) : (s.modMem f).faults = s.faults := rfl
@[simp] theorem State.modMem_bocel (s : State) (f : Memory → Memory) : (s.modMem f).bocel = s.bocel := rfl
@[simp] theorem State.modMem_sec (s : State) (f : Memory → Memory) : (s.modMem f).sec = s.sec := rfl
@[simp] theorem State.modMem_journal (s : State) (f : Memory → Memory) : (s.modMem f).journal = s.journal := rfl
@[simp] theorem State.modMem_power (s : State) (f : Memory → Memory) : (s.modMem f).power = s.power := rfl
@[simp] theorem State.modMem_counters (s : State) (f : Memory → Memory) : (s.modMem f).counters = s.counters := rfl

/-! ### modEngines -/

@[simp] theorem State.modEngines_pending (s : State) (f : Engines → Engines) : (s.modEngines f).pending = s.pending := rfl
@[simp] theorem State.modEngines_out (s : State) (f : Engines → Engines) : (s.modEngines f).out = s.out := rfl
@[simp] theorem State.modEngines_draws (s : State) (f : Engines → Engines) : (s.modEngines f).draws = s.draws := rfl
@[simp] theorem State.modEngines_now (s : State) (f : Engines → Engines) : (s.modEngines f).now = s.now := rfl
@[simp] theorem State.modEngines_dict (s : State) (f : Engines → Engines) : (s.modEngines f).dict = s.dict := rfl
@[simp] theorem State.modEngines_hier (s : State) (f : Engines → Engines) : (s.modEngines f).hier = s.hier := rfl
@[simp] theorem State.modEngines_time (s : State) (f : Engines → Engines) : (s.modEngines f).time = s.time := rfl
@[simp] theorem State.modEngines_act (s : State) (f : Engines → Engines) : (s.modEngines f).act = s.act := rfl
@[simp] theorem State.modEngines_hports (s : State) (f : Engines → Engines) : (s.modEngines f).hports = s.hports := rfl
@[simp] theorem State.modEngines_lanes (s : State) (f : Engines → Engines) : (s.modEngines f).lanes = s.lanes := rfl
@[simp] theorem State.modEngines_trunks (s : State) (f : Engines → Engines) : (s.modEngines f).trunks = s.trunks := rfl
@[simp] theorem State.modEngines_core (s : State) (f : Engines → Engines) : (s.modEngines f).core = s.core := rfl
@[simp] theorem State.modEngines_parts (s : State) (f : Engines → Engines) : (s.modEngines f).parts = s.parts := rfl
@[simp] theorem State.modEngines_shared (s : State) (f : Engines → Engines) : (s.modEngines f).shared = s.shared := rfl
@[simp] theorem State.modEngines_gates (s : State) (f : Engines → Engines) : (s.modEngines f).gates = s.gates := rfl
@[simp] theorem State.modEngines_fabric (s : State) (f : Engines → Engines) : (s.modEngines f).fabric = s.fabric := rfl
@[simp] theorem State.modEngines_mem (s : State) (f : Engines → Engines) : (s.modEngines f).mem = s.mem := rfl
@[simp] theorem State.modEngines_engines (s : State) (f : Engines → Engines) : (s.modEngines f).engines = f s.engines := rfl
@[simp] theorem State.modEngines_faults (s : State) (f : Engines → Engines) : (s.modEngines f).faults = s.faults := rfl
@[simp] theorem State.modEngines_bocel (s : State) (f : Engines → Engines) : (s.modEngines f).bocel = s.bocel := rfl
@[simp] theorem State.modEngines_sec (s : State) (f : Engines → Engines) : (s.modEngines f).sec = s.sec := rfl
@[simp] theorem State.modEngines_journal (s : State) (f : Engines → Engines) : (s.modEngines f).journal = s.journal := rfl
@[simp] theorem State.modEngines_power (s : State) (f : Engines → Engines) : (s.modEngines f).power = s.power := rfl
@[simp] theorem State.modEngines_counters (s : State) (f : Engines → Engines) : (s.modEngines f).counters = s.counters := rfl

/-! ### modFaults -/

@[simp] theorem State.modFaults_pending (s : State) (f : Faults → Faults) : (s.modFaults f).pending = s.pending := rfl
@[simp] theorem State.modFaults_out (s : State) (f : Faults → Faults) : (s.modFaults f).out = s.out := rfl
@[simp] theorem State.modFaults_draws (s : State) (f : Faults → Faults) : (s.modFaults f).draws = s.draws := rfl
@[simp] theorem State.modFaults_now (s : State) (f : Faults → Faults) : (s.modFaults f).now = s.now := rfl
@[simp] theorem State.modFaults_dict (s : State) (f : Faults → Faults) : (s.modFaults f).dict = s.dict := rfl
@[simp] theorem State.modFaults_hier (s : State) (f : Faults → Faults) : (s.modFaults f).hier = s.hier := rfl
@[simp] theorem State.modFaults_time (s : State) (f : Faults → Faults) : (s.modFaults f).time = s.time := rfl
@[simp] theorem State.modFaults_act (s : State) (f : Faults → Faults) : (s.modFaults f).act = s.act := rfl
@[simp] theorem State.modFaults_hports (s : State) (f : Faults → Faults) : (s.modFaults f).hports = s.hports := rfl
@[simp] theorem State.modFaults_lanes (s : State) (f : Faults → Faults) : (s.modFaults f).lanes = s.lanes := rfl
@[simp] theorem State.modFaults_trunks (s : State) (f : Faults → Faults) : (s.modFaults f).trunks = s.trunks := rfl
@[simp] theorem State.modFaults_core (s : State) (f : Faults → Faults) : (s.modFaults f).core = s.core := rfl
@[simp] theorem State.modFaults_parts (s : State) (f : Faults → Faults) : (s.modFaults f).parts = s.parts := rfl
@[simp] theorem State.modFaults_shared (s : State) (f : Faults → Faults) : (s.modFaults f).shared = s.shared := rfl
@[simp] theorem State.modFaults_gates (s : State) (f : Faults → Faults) : (s.modFaults f).gates = s.gates := rfl
@[simp] theorem State.modFaults_fabric (s : State) (f : Faults → Faults) : (s.modFaults f).fabric = s.fabric := rfl
@[simp] theorem State.modFaults_mem (s : State) (f : Faults → Faults) : (s.modFaults f).mem = s.mem := rfl
@[simp] theorem State.modFaults_engines (s : State) (f : Faults → Faults) : (s.modFaults f).engines = s.engines := rfl
@[simp] theorem State.modFaults_faults (s : State) (f : Faults → Faults) : (s.modFaults f).faults = f s.faults := rfl
@[simp] theorem State.modFaults_bocel (s : State) (f : Faults → Faults) : (s.modFaults f).bocel = s.bocel := rfl
@[simp] theorem State.modFaults_sec (s : State) (f : Faults → Faults) : (s.modFaults f).sec = s.sec := rfl
@[simp] theorem State.modFaults_journal (s : State) (f : Faults → Faults) : (s.modFaults f).journal = s.journal := rfl
@[simp] theorem State.modFaults_power (s : State) (f : Faults → Faults) : (s.modFaults f).power = s.power := rfl
@[simp] theorem State.modFaults_counters (s : State) (f : Faults → Faults) : (s.modFaults f).counters = s.counters := rfl

/-! ### modBocel -/

@[simp] theorem State.modBocel_pending (s : State) (f : Bocel → Bocel) : (s.modBocel f).pending = s.pending := rfl
@[simp] theorem State.modBocel_out (s : State) (f : Bocel → Bocel) : (s.modBocel f).out = s.out := rfl
@[simp] theorem State.modBocel_draws (s : State) (f : Bocel → Bocel) : (s.modBocel f).draws = s.draws := rfl
@[simp] theorem State.modBocel_now (s : State) (f : Bocel → Bocel) : (s.modBocel f).now = s.now := rfl
@[simp] theorem State.modBocel_dict (s : State) (f : Bocel → Bocel) : (s.modBocel f).dict = s.dict := rfl
@[simp] theorem State.modBocel_hier (s : State) (f : Bocel → Bocel) : (s.modBocel f).hier = s.hier := rfl
@[simp] theorem State.modBocel_time (s : State) (f : Bocel → Bocel) : (s.modBocel f).time = s.time := rfl
@[simp] theorem State.modBocel_act (s : State) (f : Bocel → Bocel) : (s.modBocel f).act = s.act := rfl
@[simp] theorem State.modBocel_hports (s : State) (f : Bocel → Bocel) : (s.modBocel f).hports = s.hports := rfl
@[simp] theorem State.modBocel_lanes (s : State) (f : Bocel → Bocel) : (s.modBocel f).lanes = s.lanes := rfl
@[simp] theorem State.modBocel_trunks (s : State) (f : Bocel → Bocel) : (s.modBocel f).trunks = s.trunks := rfl
@[simp] theorem State.modBocel_core (s : State) (f : Bocel → Bocel) : (s.modBocel f).core = s.core := rfl
@[simp] theorem State.modBocel_parts (s : State) (f : Bocel → Bocel) : (s.modBocel f).parts = s.parts := rfl
@[simp] theorem State.modBocel_shared (s : State) (f : Bocel → Bocel) : (s.modBocel f).shared = s.shared := rfl
@[simp] theorem State.modBocel_gates (s : State) (f : Bocel → Bocel) : (s.modBocel f).gates = s.gates := rfl
@[simp] theorem State.modBocel_fabric (s : State) (f : Bocel → Bocel) : (s.modBocel f).fabric = s.fabric := rfl
@[simp] theorem State.modBocel_mem (s : State) (f : Bocel → Bocel) : (s.modBocel f).mem = s.mem := rfl
@[simp] theorem State.modBocel_engines (s : State) (f : Bocel → Bocel) : (s.modBocel f).engines = s.engines := rfl
@[simp] theorem State.modBocel_faults (s : State) (f : Bocel → Bocel) : (s.modBocel f).faults = s.faults := rfl
@[simp] theorem State.modBocel_bocel (s : State) (f : Bocel → Bocel) : (s.modBocel f).bocel = f s.bocel := rfl
@[simp] theorem State.modBocel_sec (s : State) (f : Bocel → Bocel) : (s.modBocel f).sec = s.sec := rfl
@[simp] theorem State.modBocel_journal (s : State) (f : Bocel → Bocel) : (s.modBocel f).journal = s.journal := rfl
@[simp] theorem State.modBocel_power (s : State) (f : Bocel → Bocel) : (s.modBocel f).power = s.power := rfl
@[simp] theorem State.modBocel_counters (s : State) (f : Bocel → Bocel) : (s.modBocel f).counters = s.counters := rfl

/-! ### modSec -/

@[simp] theorem State.modSec_pending (s : State) (f : Security → Security) : (s.modSec f).pending = s.pending := rfl
@[simp] theorem State.modSec_out (s : State) (f : Security → Security) : (s.modSec f).out = s.out := rfl
@[simp] theorem State.modSec_draws (s : State) (f : Security → Security) : (s.modSec f).draws = s.draws := rfl
@[simp] theorem State.modSec_now (s : State) (f : Security → Security) : (s.modSec f).now = s.now := rfl
@[simp] theorem State.modSec_dict (s : State) (f : Security → Security) : (s.modSec f).dict = s.dict := rfl
@[simp] theorem State.modSec_hier (s : State) (f : Security → Security) : (s.modSec f).hier = s.hier := rfl
@[simp] theorem State.modSec_time (s : State) (f : Security → Security) : (s.modSec f).time = s.time := rfl
@[simp] theorem State.modSec_act (s : State) (f : Security → Security) : (s.modSec f).act = s.act := rfl
@[simp] theorem State.modSec_hports (s : State) (f : Security → Security) : (s.modSec f).hports = s.hports := rfl
@[simp] theorem State.modSec_lanes (s : State) (f : Security → Security) : (s.modSec f).lanes = s.lanes := rfl
@[simp] theorem State.modSec_trunks (s : State) (f : Security → Security) : (s.modSec f).trunks = s.trunks := rfl
@[simp] theorem State.modSec_core (s : State) (f : Security → Security) : (s.modSec f).core = s.core := rfl
@[simp] theorem State.modSec_parts (s : State) (f : Security → Security) : (s.modSec f).parts = s.parts := rfl
@[simp] theorem State.modSec_shared (s : State) (f : Security → Security) : (s.modSec f).shared = s.shared := rfl
@[simp] theorem State.modSec_gates (s : State) (f : Security → Security) : (s.modSec f).gates = s.gates := rfl
@[simp] theorem State.modSec_fabric (s : State) (f : Security → Security) : (s.modSec f).fabric = s.fabric := rfl
@[simp] theorem State.modSec_mem (s : State) (f : Security → Security) : (s.modSec f).mem = s.mem := rfl
@[simp] theorem State.modSec_engines (s : State) (f : Security → Security) : (s.modSec f).engines = s.engines := rfl
@[simp] theorem State.modSec_faults (s : State) (f : Security → Security) : (s.modSec f).faults = s.faults := rfl
@[simp] theorem State.modSec_bocel (s : State) (f : Security → Security) : (s.modSec f).bocel = s.bocel := rfl
@[simp] theorem State.modSec_sec (s : State) (f : Security → Security) : (s.modSec f).sec = f s.sec := rfl
@[simp] theorem State.modSec_journal (s : State) (f : Security → Security) : (s.modSec f).journal = s.journal := rfl
@[simp] theorem State.modSec_power (s : State) (f : Security → Security) : (s.modSec f).power = s.power := rfl
@[simp] theorem State.modSec_counters (s : State) (f : Security → Security) : (s.modSec f).counters = s.counters := rfl

/-! ### modJournal -/

@[simp] theorem State.modJournal_pending (s : State) (f : Journal → Journal) : (s.modJournal f).pending = s.pending := rfl
@[simp] theorem State.modJournal_out (s : State) (f : Journal → Journal) : (s.modJournal f).out = s.out := rfl
@[simp] theorem State.modJournal_draws (s : State) (f : Journal → Journal) : (s.modJournal f).draws = s.draws := rfl
@[simp] theorem State.modJournal_now (s : State) (f : Journal → Journal) : (s.modJournal f).now = s.now := rfl
@[simp] theorem State.modJournal_dict (s : State) (f : Journal → Journal) : (s.modJournal f).dict = s.dict := rfl
@[simp] theorem State.modJournal_hier (s : State) (f : Journal → Journal) : (s.modJournal f).hier = s.hier := rfl
@[simp] theorem State.modJournal_time (s : State) (f : Journal → Journal) : (s.modJournal f).time = s.time := rfl
@[simp] theorem State.modJournal_act (s : State) (f : Journal → Journal) : (s.modJournal f).act = s.act := rfl
@[simp] theorem State.modJournal_hports (s : State) (f : Journal → Journal) : (s.modJournal f).hports = s.hports := rfl
@[simp] theorem State.modJournal_lanes (s : State) (f : Journal → Journal) : (s.modJournal f).lanes = s.lanes := rfl
@[simp] theorem State.modJournal_trunks (s : State) (f : Journal → Journal) : (s.modJournal f).trunks = s.trunks := rfl
@[simp] theorem State.modJournal_core (s : State) (f : Journal → Journal) : (s.modJournal f).core = s.core := rfl
@[simp] theorem State.modJournal_parts (s : State) (f : Journal → Journal) : (s.modJournal f).parts = s.parts := rfl
@[simp] theorem State.modJournal_shared (s : State) (f : Journal → Journal) : (s.modJournal f).shared = s.shared := rfl
@[simp] theorem State.modJournal_gates (s : State) (f : Journal → Journal) : (s.modJournal f).gates = s.gates := rfl
@[simp] theorem State.modJournal_fabric (s : State) (f : Journal → Journal) : (s.modJournal f).fabric = s.fabric := rfl
@[simp] theorem State.modJournal_mem (s : State) (f : Journal → Journal) : (s.modJournal f).mem = s.mem := rfl
@[simp] theorem State.modJournal_engines (s : State) (f : Journal → Journal) : (s.modJournal f).engines = s.engines := rfl
@[simp] theorem State.modJournal_faults (s : State) (f : Journal → Journal) : (s.modJournal f).faults = s.faults := rfl
@[simp] theorem State.modJournal_bocel (s : State) (f : Journal → Journal) : (s.modJournal f).bocel = s.bocel := rfl
@[simp] theorem State.modJournal_sec (s : State) (f : Journal → Journal) : (s.modJournal f).sec = s.sec := rfl
@[simp] theorem State.modJournal_journal (s : State) (f : Journal → Journal) : (s.modJournal f).journal = f s.journal := rfl
@[simp] theorem State.modJournal_power (s : State) (f : Journal → Journal) : (s.modJournal f).power = s.power := rfl
@[simp] theorem State.modJournal_counters (s : State) (f : Journal → Journal) : (s.modJournal f).counters = s.counters := rfl

/-! ### modPower -/

@[simp] theorem State.modPower_pending (s : State) (f : Power → Power) : (s.modPower f).pending = s.pending := rfl
@[simp] theorem State.modPower_out (s : State) (f : Power → Power) : (s.modPower f).out = s.out := rfl
@[simp] theorem State.modPower_draws (s : State) (f : Power → Power) : (s.modPower f).draws = s.draws := rfl
@[simp] theorem State.modPower_now (s : State) (f : Power → Power) : (s.modPower f).now = s.now := rfl
@[simp] theorem State.modPower_dict (s : State) (f : Power → Power) : (s.modPower f).dict = s.dict := rfl
@[simp] theorem State.modPower_hier (s : State) (f : Power → Power) : (s.modPower f).hier = s.hier := rfl
@[simp] theorem State.modPower_time (s : State) (f : Power → Power) : (s.modPower f).time = s.time := rfl
@[simp] theorem State.modPower_act (s : State) (f : Power → Power) : (s.modPower f).act = s.act := rfl
@[simp] theorem State.modPower_hports (s : State) (f : Power → Power) : (s.modPower f).hports = s.hports := rfl
@[simp] theorem State.modPower_lanes (s : State) (f : Power → Power) : (s.modPower f).lanes = s.lanes := rfl
@[simp] theorem State.modPower_trunks (s : State) (f : Power → Power) : (s.modPower f).trunks = s.trunks := rfl
@[simp] theorem State.modPower_core (s : State) (f : Power → Power) : (s.modPower f).core = s.core := rfl
@[simp] theorem State.modPower_parts (s : State) (f : Power → Power) : (s.modPower f).parts = s.parts := rfl
@[simp] theorem State.modPower_shared (s : State) (f : Power → Power) : (s.modPower f).shared = s.shared := rfl
@[simp] theorem State.modPower_gates (s : State) (f : Power → Power) : (s.modPower f).gates = s.gates := rfl
@[simp] theorem State.modPower_fabric (s : State) (f : Power → Power) : (s.modPower f).fabric = s.fabric := rfl
@[simp] theorem State.modPower_mem (s : State) (f : Power → Power) : (s.modPower f).mem = s.mem := rfl
@[simp] theorem State.modPower_engines (s : State) (f : Power → Power) : (s.modPower f).engines = s.engines := rfl
@[simp] theorem State.modPower_faults (s : State) (f : Power → Power) : (s.modPower f).faults = s.faults := rfl
@[simp] theorem State.modPower_bocel (s : State) (f : Power → Power) : (s.modPower f).bocel = s.bocel := rfl
@[simp] theorem State.modPower_sec (s : State) (f : Power → Power) : (s.modPower f).sec = s.sec := rfl
@[simp] theorem State.modPower_journal (s : State) (f : Power → Power) : (s.modPower f).journal = s.journal := rfl
@[simp] theorem State.modPower_power (s : State) (f : Power → Power) : (s.modPower f).power = f s.power := rfl
@[simp] theorem State.modPower_counters (s : State) (f : Power → Power) : (s.modPower f).counters = s.counters := rfl

/-! ### modCounters -/

@[simp] theorem State.modCounters_pending (s : State) (f : Counters → Counters) : (s.modCounters f).pending = s.pending := rfl
@[simp] theorem State.modCounters_out (s : State) (f : Counters → Counters) : (s.modCounters f).out = s.out := rfl
@[simp] theorem State.modCounters_draws (s : State) (f : Counters → Counters) : (s.modCounters f).draws = s.draws := rfl
@[simp] theorem State.modCounters_now (s : State) (f : Counters → Counters) : (s.modCounters f).now = s.now := rfl
@[simp] theorem State.modCounters_dict (s : State) (f : Counters → Counters) : (s.modCounters f).dict = s.dict := rfl
@[simp] theorem State.modCounters_hier (s : State) (f : Counters → Counters) : (s.modCounters f).hier = s.hier := rfl
@[simp] theorem State.modCounters_time (s : State) (f : Counters → Counters) : (s.modCounters f).time = s.time := rfl
@[simp] theorem State.modCounters_act (s : State) (f : Counters → Counters) : (s.modCounters f).act = s.act := rfl
@[simp] theorem State.modCounters_hports (s : State) (f : Counters → Counters) : (s.modCounters f).hports = s.hports := rfl
@[simp] theorem State.modCounters_lanes (s : State) (f : Counters → Counters) : (s.modCounters f).lanes = s.lanes := rfl
@[simp] theorem State.modCounters_trunks (s : State) (f : Counters → Counters) : (s.modCounters f).trunks = s.trunks := rfl
@[simp] theorem State.modCounters_core (s : State) (f : Counters → Counters) : (s.modCounters f).core = s.core := rfl
@[simp] theorem State.modCounters_parts (s : State) (f : Counters → Counters) : (s.modCounters f).parts = s.parts := rfl
@[simp] theorem State.modCounters_shared (s : State) (f : Counters → Counters) : (s.modCounters f).shared = s.shared := rfl
@[simp] theorem State.modCounters_gates (s : State) (f : Counters → Counters) : (s.modCounters f).gates = s.gates := rfl
@[simp] theorem State.modCounters_fabric (s : State) (f : Counters → Counters) : (s.modCounters f).fabric = s.fabric := rfl
@[simp] theorem State.modCounters_mem (s : State) (f : Counters → Counters) : (s.modCounters f).mem = s.mem := rfl
@[simp] theorem State.modCounters_engines (s : State) (f : Counters → Counters) : (s.modCounters f).engines = s.engines := rfl
@[simp] theorem State.modCounters_faults (s : State) (f : Counters → Counters) : (s.modCounters f).faults = s.faults := rfl
@[simp] theorem State.modCounters_bocel (s : State) (f : Counters → Counters) : (s.modCounters f).bocel = s.bocel := rfl
@[simp] theorem State.modCounters_sec (s : State) (f : Counters → Counters) : (s.modCounters f).sec = s.sec := rfl
@[simp] theorem State.modCounters_journal (s : State) (f : Counters → Counters) : (s.modCounters f).journal = s.journal := rfl
@[simp] theorem State.modCounters_power (s : State) (f : Counters → Counters) : (s.modCounters f).power = s.power := rfl
@[simp] theorem State.modCounters_counters (s : State) (f : Counters → Counters) : (s.modCounters f).counters = f s.counters := rfl

/-! ### modSideband -/

@[simp] theorem State.modSideband_pending (s : State) (n : Nat) (f : Sideband → Sideband) : (s.modSideband n f).pending = s.pending := rfl
@[simp] theorem State.modSideband_out (s : State) (n : Nat) (f : Sideband → Sideband) : (s.modSideband n f).out = s.out := rfl
@[simp] theorem State.modSideband_draws (s : State) (n : Nat) (f : Sideband → Sideband) : (s.modSideband n f).draws = s.draws := rfl
@[simp] theorem State.modSideband_now (s : State) (n : Nat) (f : Sideband → Sideband) : (s.modSideband n f).now = s.now := rfl
@[simp] theorem State.modSideband_dict (s : State) (n : Nat) (f : Sideband → Sideband) : (s.modSideband n f).dict = s.dict := rfl
@[simp] theorem State.modSideband_hier (s : State) (n : Nat) (f : Sideband → Sideband) : (s.modSideband n f).hier = s.hier := rfl
@[simp] theorem State.modSideband_time (s : State) (n : Nat) (f : Sideband → Sideband) : (s.modSideband n f).time = s.time := rfl
@[simp] theorem State.modSideband_act (s : State) (n : Nat) (f : Sideband → Sideband) : (s.modSideband n f).act = s.act := rfl
@[simp] theorem State.modSideband_hports (s : State) (n : Nat) (f : Sideband → Sideband) : (s.modSideband n f).hports = s.hports := rfl
@[simp] theorem State.modSideband_lanes (s : State) (n : Nat) (f : Sideband → Sideband) : (s.modSideband n f).lanes = s.lanes := rfl
@[simp] theorem State.modSideband_trunks (s : State) (n : Nat) (f : Sideband → Sideband) : (s.modSideband n f).trunks = s.trunks := rfl
@[simp] theorem State.modSideband_core (s : State) (n : Nat) (f : Sideband → Sideband) : (s.modSideband n f).core = s.core := rfl
@[simp] theorem State.modSideband_parts (s : State) (n : Nat) (f : Sideband → Sideband) : (s.modSideband n f).parts = s.parts := rfl
@[simp] theorem State.modSideband_shared (s : State) (n : Nat) (f : Sideband → Sideband) : (s.modSideband n f).shared = s.shared := rfl
@[simp] theorem State.modSideband_gates (s : State) (n : Nat) (f : Sideband → Sideband) : (s.modSideband n f).gates = s.gates := rfl
@[simp] theorem State.modSideband_mem (s : State) (n : Nat) (f : Sideband → Sideband) : (s.modSideband n f).mem = s.mem := rfl
@[simp] theorem State.modSideband_engines (s : State) (n : Nat) (f : Sideband → Sideband) : (s.modSideband n f).engines = s.engines := rfl
@[simp] theorem State.modSideband_faults (s : State) (n : Nat) (f : Sideband → Sideband) : (s.modSideband n f).faults = s.faults := rfl
@[simp] theorem State.modSideband_bocel (s : State) (n : Nat) (f : Sideband → Sideband) : (s.modSideband n f).bocel = s.bocel := rfl
@[simp] theorem State.modSideband_sec (s : State) (n : Nat) (f : Sideband → Sideband) : (s.modSideband n f).sec = s.sec := rfl
@[simp] theorem State.modSideband_journal (s : State) (n : Nat) (f : Sideband → Sideband) : (s.modSideband n f).journal = s.journal := rfl
@[simp] theorem State.modSideband_power (s : State) (n : Nat) (f : Sideband → Sideband) : (s.modSideband n f).power = s.power := rfl
@[simp] theorem State.modSideband_counters (s : State) (n : Nat) (f : Sideband → Sideband) : (s.modSideband n f).counters = s.counters := rfl

/-! ### modSlot -/

@[simp] theorem State.modSlot_pending (s : State) (n : Nat) (f : SlotChannel → SlotChannel) : (s.modSlot n f).pending = s.pending := rfl
@[simp] theorem State.modSlot_out (s : State) (n : Nat) (f : SlotChannel → SlotChannel) : (s.modSlot n f).out = s.out := rfl
@[simp] theorem State.modSlot_draws (s : State) (n : Nat) (f : SlotChannel → SlotChannel) : (s.modSlot n f).draws = s.draws := rfl
@[simp] theorem State.modSlot_now (s : State) (n : Nat) (f : SlotChannel → SlotChannel) : (s.modSlot n f).now = s.now := rfl
@[simp] theorem State.modSlot_dict (s : State) (n : Nat) (f : SlotChannel → SlotChannel) : (s.modSlot n f).dict = s.dict := rfl
@[simp] theorem State.modSlot_hier (s : State) (n : Nat) (f : SlotChannel → SlotChannel) : (s.modSlot n f).hier = s.hier := rfl
@[simp] theorem State.modSlot_time (s : State) (n : Nat) (f : SlotChannel → SlotChannel) : (s.modSlot n f).time = s.time := rfl
@[simp] theorem State.modSlot_act (s : State) (n : Nat) (f : SlotChannel → SlotChannel) : (s.modSlot n f).act = s.act := rfl
@[simp] theorem State.modSlot_hports (s : State) (n : Nat) (f : SlotChannel → SlotChannel) : (s.modSlot n f).hports = s.hports := rfl
@[simp] theorem State.modSlot_lanes (s : State) (n : Nat) (f : SlotChannel → SlotChannel) : (s.modSlot n f).lanes = s.lanes := rfl
@[simp] theorem State.modSlot_trunks (s : State) (n : Nat) (f : SlotChannel → SlotChannel) : (s.modSlot n f).trunks = s.trunks := rfl
@[simp] theorem State.modSlot_core (s : State) (n : Nat) (f : SlotChannel → SlotChannel) : (s.modSlot n f).core = s.core := rfl
@[simp] theorem State.modSlot_parts (s : State) (n : Nat) (f : SlotChannel → SlotChannel) : (s.modSlot n f).parts = s.parts := rfl
@[simp] theorem State.modSlot_shared (s : State) (n : Nat) (f : SlotChannel → SlotChannel) : (s.modSlot n f).shared = s.shared := rfl
@[simp] theorem State.modSlot_gates (s : State) (n : Nat) (f : SlotChannel → SlotChannel) : (s.modSlot n f).gates = s.gates := rfl
@[simp] theorem State.modSlot_fabric (s : State) (n : Nat) (f : SlotChannel → SlotChannel) : (s.modSlot n f).fabric = s.fabric := rfl
@[simp] theorem State.modSlot_mem (s : State) (n : Nat) (f : SlotChannel → SlotChannel) : (s.modSlot n f).mem = s.mem := rfl
@[simp] theorem State.modSlot_engines (s : State) (n : Nat) (f : SlotChannel → SlotChannel) : (s.modSlot n f).engines = s.engines := rfl
@[simp] theorem State.modSlot_faults (s : State) (n : Nat) (f : SlotChannel → SlotChannel) : (s.modSlot n f).faults = s.faults := rfl
@[simp] theorem State.modSlot_bocel (s : State) (n : Nat) (f : SlotChannel → SlotChannel) : (s.modSlot n f).bocel = s.bocel := rfl
@[simp] theorem State.modSlot_sec (s : State) (n : Nat) (f : SlotChannel → SlotChannel) : (s.modSlot n f).sec = s.sec := rfl
@[simp] theorem State.modSlot_journal (s : State) (n : Nat) (f : SlotChannel → SlotChannel) : (s.modSlot n f).journal = s.journal := rfl
@[simp] theorem State.modSlot_counters (s : State) (n : Nat) (f : SlotChannel → SlotChannel) : (s.modSlot n f).counters = s.counters := rfl

/-! ### modFn -/

@[simp] theorem State.modFn_pending (s : State) (p n : Nat) (f : Function → Function) : (s.modFn p n f).pending = s.pending := rfl
@[simp] theorem State.modFn_out (s : State) (p n : Nat) (f : Function → Function) : (s.modFn p n f).out = s.out := rfl
@[simp] theorem State.modFn_draws (s : State) (p n : Nat) (f : Function → Function) : (s.modFn p n f).draws = s.draws := rfl
@[simp] theorem State.modFn_now (s : State) (p n : Nat) (f : Function → Function) : (s.modFn p n f).now = s.now := rfl
@[simp] theorem State.modFn_dict (s : State) (p n : Nat) (f : Function → Function) : (s.modFn p n f).dict = s.dict := rfl
@[simp] theorem State.modFn_hier (s : State) (p n : Nat) (f : Function → Function) : (s.modFn p n f).hier = s.hier := rfl
@[simp] theorem State.modFn_time (s : State) (p n : Nat) (f : Function → Function) : (s.modFn p n f).time = s.time := rfl
@[simp] theorem State.modFn_act (s : State) (p n : Nat) (f : Function → Function) : (s.modFn p n f).act = s.act := rfl
@[simp] theorem State.modFn_hports (s : State) (p n : Nat) (f : Function → Function) : (s.modFn p n f).hports = s.hports := rfl
@[simp] theorem State.modFn_lanes (s : State) (p n : Nat) (f : Function → Function) : (s.modFn p n f).lanes = s.lanes := rfl
@[simp] theorem State.modFn_trunks (s : State) (p n : Nat) (f : Function → Function) : (s.modFn p n f).trunks = s.trunks := rfl
@[simp] theorem State.modFn_core (s : State) (p n : Nat) (f : Function → Function) : (s.modFn p n f).core = s.core := rfl
@[simp] theorem State.modFn_shared (s : State) (p n : Nat) (f : Function → Function) : (s.modFn p n f).shared = s.shared := rfl
@[simp] theorem State.modFn_gates (s : State) (p n : Nat) (f : Function → Function) : (s.modFn p n f).gates = s.gates := rfl
@[simp] theorem State.modFn_fabric (s : State) (p n : Nat) (f : Function → Function) : (s.modFn p n f).fabric = s.fabric := rfl
@[simp] theorem State.modFn_mem (s : State) (p n : Nat) (f : Function → Function) : (s.modFn p n f).mem = s.mem := rfl
@[simp] theorem State.modFn_engines (s : State) (p n : Nat) (f : Function → Function) : (s.modFn p n f).engines = s.engines := rfl
@[simp] theorem State.modFn_faults (s : State) (p n : Nat) (f : Function → Function) : (s.modFn p n f).faults = s.faults := rfl
@[simp] theorem State.modFn_bocel (s : State) (p n : Nat) (f : Function → Function) : (s.modFn p n f).bocel = s.bocel := rfl
@[simp] theorem State.modFn_sec (s : State) (p n : Nat) (f : Function → Function) : (s.modFn p n f).sec = s.sec := rfl
@[simp] theorem State.modFn_journal (s : State) (p n : Nat) (f : Function → Function) : (s.modFn p n f).journal = s.journal := rfl
@[simp] theorem State.modFn_power (s : State) (p n : Nat) (f : Function → Function) : (s.modFn p n f).power = s.power := rfl
@[simp] theorem State.modFn_counters (s : State) (p n : Nat) (f : Function → Function) : (s.modFn p n f).counters = s.counters := rfl

/-! ### modVdp -/

@[simp] theorem State.modVdp_pending (s : State) (p n : Nat) (f : Bridge → Bridge) : (s.modVdp p n f).pending = s.pending := rfl
@[simp] theorem State.modVdp_out (s : State) (p n : Nat) (f : Bridge → Bridge) : (s.modVdp p n f).out = s.out := rfl
@[simp] theorem State.modVdp_draws (s : State) (p n : Nat) (f : Bridge → Bridge) : (s.modVdp p n f).draws = s.draws := rfl
@[simp] theorem State.modVdp_now (s : State) (p n : Nat) (f : Bridge → Bridge) : (s.modVdp p n f).now = s.now := rfl
@[simp] theorem State.modVdp_dict (s : State) (p n : Nat) (f : Bridge → Bridge) : (s.modVdp p n f).dict = s.dict := rfl
@[simp] theorem State.modVdp_hier (s : State) (p n : Nat) (f : Bridge → Bridge) : (s.modVdp p n f).hier = s.hier := rfl
@[simp] theorem State.modVdp_time (s : State) (p n : Nat) (f : Bridge → Bridge) : (s.modVdp p n f).time = s.time := rfl
@[simp] theorem State.modVdp_act (s : State) (p n : Nat) (f : Bridge → Bridge) : (s.modVdp p n f).act = s.act := rfl
@[simp] theorem State.modVdp_hports (s : State) (p n : Nat) (f : Bridge → Bridge) : (s.modVdp p n f).hports = s.hports := rfl
@[simp] theorem State.modVdp_lanes (s : State) (p n : Nat) (f : Bridge → Bridge) : (s.modVdp p n f).lanes = s.lanes := rfl
@[simp] theorem State.modVdp_trunks (s : State) (p n : Nat) (f : Bridge → Bridge) : (s.modVdp p n f).trunks = s.trunks := rfl
@[simp] theorem State.modVdp_core (s : State) (p n : Nat) (f : Bridge → Bridge) : (s.modVdp p n f).core = s.core := rfl
@[simp] theorem State.modVdp_shared (s : State) (p n : Nat) (f : Bridge → Bridge) : (s.modVdp p n f).shared = s.shared := rfl
@[simp] theorem State.modVdp_gates (s : State) (p n : Nat) (f : Bridge → Bridge) : (s.modVdp p n f).gates = s.gates := rfl
@[simp] theorem State.modVdp_fabric (s : State) (p n : Nat) (f : Bridge → Bridge) : (s.modVdp p n f).fabric = s.fabric := rfl
@[simp] theorem State.modVdp_mem (s : State) (p n : Nat) (f : Bridge → Bridge) : (s.modVdp p n f).mem = s.mem := rfl
@[simp] theorem State.modVdp_engines (s : State) (p n : Nat) (f : Bridge → Bridge) : (s.modVdp p n f).engines = s.engines := rfl
@[simp] theorem State.modVdp_faults (s : State) (p n : Nat) (f : Bridge → Bridge) : (s.modVdp p n f).faults = s.faults := rfl
@[simp] theorem State.modVdp_bocel (s : State) (p n : Nat) (f : Bridge → Bridge) : (s.modVdp p n f).bocel = s.bocel := rfl
@[simp] theorem State.modVdp_sec (s : State) (p n : Nat) (f : Bridge → Bridge) : (s.modVdp p n f).sec = s.sec := rfl
@[simp] theorem State.modVdp_journal (s : State) (p n : Nat) (f : Bridge → Bridge) : (s.modVdp p n f).journal = s.journal := rfl
@[simp] theorem State.modVdp_power (s : State) (p n : Nat) (f : Bridge → Bridge) : (s.modVdp p n f).power = s.power := rfl
@[simp] theorem State.modVdp_counters (s : State) (p n : Nat) (f : Bridge → Bridge) : (s.modVdp p n f).counters = s.counters := rfl

/-! ### Reading back by number -/

theorem getD_modify_self {α : Type} (l : List α) (n : Nat) (f : α → α) (d : α) (h : n < l.length) :
    (l.modify n f).getD n d = f (l.getD n d) := by
  simp [List.getD_eq_getElem?_getD, h]

theorem getD_modify_other {α : Type} (l : List α) (n m : Nat) (f : α → α) (d : α) (h : n ≠ m) :
    (l.modify n f).getD m d = l.getD m d := by
  simp [List.getD_eq_getElem?_getD, h]

theorem State.trunk_modTrunk (s : State) (q : Nat) (f : Trunk → Trunk) (h : q < s.trunks.length) :
    (s.modTrunk q f).trunk q = f (s.trunk q) := getD_modify_self _ _ _ _ h

theorem State.trunk_modTrunk_other (s : State) (q r : Nat) (f : Trunk → Trunk) (h : q ≠ r) :
    (s.modTrunk q f).trunk r = s.trunk r := getD_modify_other _ _ _ _ _ h

theorem State.hport_modHPort (s : State) (p : Nat) (f : HPort → HPort) (h : p < s.hports.length) :
    (s.modHPort p f).hport p = f (s.hport p) := getD_modify_self _ _ _ _ h

theorem State.hport_modHPort_other (s : State) (p r : Nat) (f : HPort → HPort) (h : p ≠ r) :
    (s.modHPort p f).hport r = s.hport r := getD_modify_other _ _ _ _ _ h

theorem State.lane_modLane (s : State) (n : Nat) (f : HLane → HLane) (h : n < s.lanes.length) :
    (s.modLane n f).lane n = f (s.lane n) := getD_modify_self _ _ _ _ h

theorem State.part_modPart (s : State) (p : Nat) (f : Part → Part) (h : p < s.parts.length) :
    (s.modPart p f).part p = f (s.part p) := getD_modify_self _ _ _ _ h

theorem State.part_modPart_other (s : State) (p r : Nat) (f : Part → Part) (h : p ≠ r) :
    (s.modPart p f).part r = s.part r := getD_modify_other _ _ _ _ _ h

/-! ### Values by key -/

theorem assocGet_put {κ α : Type} [DecidableEq κ] (l : List (κ × α)) (k : κ) (v : α) : assocGet (assocPut l k v) k = some v := by
  have h : List.find? (fun e : κ × α => decide (e.1 = k)) (l.filter (fun e => ¬ e.1 = k)) = none := by
    simp [List.find?_eq_none]
  simp only [assocGet, assocPut, assocErase, List.find?_append, h]
  simp

/-! ### Folds -/

/-- What each step of a fold keeps, the fold keeps. -/
theorem State.each_keeps {α β : Type} (g : State → β) (l : List α) (f : State → α → State) (h : ∀ s a, g (f s a) = g s) (s : State) :
    g (s.each l f) = g s := by
  unfold State.each
  induction l generalizing s with
  | nil => rfl
  | cons a l ih => simp [List.foldl_cons, ih, h]

theorem State.when_keeps {β : Type} (g : State → β) (c : Bool) (f : State → State) (h : ∀ s, g (f s) = g s) (s : State) :
    g (s.when c f) = g s := by
  unfold State.when
  split
  · exact h s
  · rfl

end Sys2Proof.Machine
end

