-- ==== Sys2Proof/Laws/Events.lean ====
section
/-! SUPPORT. What recording, counting and delivering events can change: outputs, partitions' registers, the collector, the protocol's
queues and the counters, and nothing else. -/

namespace Sys2Proof.Machine

/-- `t` is `s` but for what events reach. -/
def State.EventOnly (s t : State) : Prop :=
  t = { s with out := t.out, parts := t.parts, faults := t.faults, bocel := t.bocel, counters := t.counters }

theorem State.EventOnly.rfl' (s : State) : s.EventOnly s := rfl

theorem State.EventOnly.trans {s t u : State} (h : s.EventOnly t) (k : t.EventOnly u) : s.EventOnly u := by
  unfold State.EventOnly at *
  rw [h] at k
  exact k

theorem State.EventOnly.ite {s a b : State} {c : Prop} [Decidable c] (h : s.EventOnly a) (k : s.EventOnly b) :
    s.EventOnly (if c then a else b) := by
  split <;> assumption

theorem State.each_eventOnly {α : Type} (l : List α) (f : State → α → State) (h : ∀ (s : State) (a : α), s.EventOnly (f s a)) (s : State) :
    s.EventOnly (s.each l f) := by
  unfold State.each
  induction l generalizing s with
  | nil => exact .rfl' s
  | cons a l ih => exact (h s a).trans (ih (f s a))

theorem State.drainNotes_eventOnly (s : State) : s.EventOnly s.drainNotes := by
  unfold State.drainNotes
  exact .ite rfl rfl

theorem State.pushNote_eventOnly (s : State) (src code cls : Nat) : s.EventOnly (s.pushNote src code cls) := rfl

theorem State.evqRecord_eventOnly (s : State) (p src code cls ft : Nat) : s.EventOnly (s.evqRecord p src code cls ft) := by
  unfold State.evqRecord
  exact .ite rfl (.ite rfl rfl)

theorem State.vector_eventOnly (s : State) (p f v : Nat) : s.EventOnly (s.vector p f v) := by
  unfold State.vector
  exact .ite rfl rfl

theorem State.deliverHome_eventOnly (s : State) (p vec src code cls ft : Nat) : s.EventOnly (s.deliverHome p vec src code cls ft) := by
  unfold State.deliverHome
  exact .ite rfl ((s.evqRecord_eventOnly p src code cls ft).trans (State.vector_eventOnly _ p 0 vec))

theorem State.deliverPart_eventOnly (s : State) (p vec src code cls ft : Nat) : s.EventOnly (s.deliverPart p vec src code cls ft) := by
  unfold State.deliverPart
  refine .ite rfl (.ite (s.deliverHome_eventOnly p vec src code cls ft) ?_)
  split <;> rfl

theorem State.deliverWith_eventOnly (cnt : State → Nat → State) (h : ∀ (s : State) (n : Nat), s.EventOnly (cnt s n)) (s : State) (src code cls : Nat) :
    s.EventOnly (s.deliverWith cnt src code cls) := by
  unfold State.deliverWith
  have e : ∀ (a : State) (c : Bool) (p v x y z w : Nat), s.EventOnly a → s.EventOnly (if c then a.deliverPart p v x y z w else a) :=
    fun a c p v x y z w k => .ite (k.trans (a.deliverPart_eventOnly p v x y z w)) k
  refine e _ _ _ _ _ _ _ _ (.ite ?_ rfl)
  refine .trans (.trans ?_ (State.drainNotes_eventOnly _)) (h _ _)
  exact .ite (e _ _ _ _ _ _ _ _ (.ite rfl rfl)) rfl

theorem State.setCounter_eventOnly (s : State) (n : Nat) (c : Counter) : s.EventOnly (s.setCounter n c) := rfl

theorem State.countQuiet_eventOnly (s : State) (base per ev amt : Nat) : s.EventOnly (s.countQuiet base per ev amt) :=
  State.each_eventOnly _ _ (fun s n => .ite (s.setCounter_eventOnly n _) (.rfl' s)) s

theorem State.overflowEvent_eventOnly (s : State) (n : Nat) : s.EventOnly (s.overflowEvent n) := by
  unfold State.overflowEvent
  refine .ite (.trans ?_ (State.deliverWith_eventOnly _ (fun _ _ => State.countQuiet_eventOnly _ _ _ _ _) _ _ _ _)) rfl
  rfl

theorem State.addCounterEv_eventOnly (s : State) (n amt : Nat) : s.EventOnly (s.addCounterEv n amt) := by
  unfold State.addCounterEv
  refine .ite (.trans ?_ (State.overflowEvent_eventOnly _ n)) rfl
  rfl

theorem State.countFrom_eventOnly (s : State) (base per ev amt : Nat) : s.EventOnly (s.countFrom base per ev amt) :=
  State.each_eventOnly _ _ (fun s n => .ite (s.addCounterEv_eventOnly n amt) (.rfl' s)) s

theorem State.deliver_eventOnly (s : State) (src code cls : Nat) : s.EventOnly (s.deliver src code cls) :=
  State.deliverWith_eventOnly _ (fun _ _ => State.countFrom_eventOnly _ _ _ _ _) _ _ _ _

theorem State.history_eventOnly (s : State) (e : Ev) : s.EventOnly (s.history e) := by
  unfold State.history
  refine .ite rfl (.ite rfl (.trans ?_ (State.countFrom_eventOnly _ _ _ _ _)))
  rfl

theorem State.note_eventOnly (s : State) (e : Ev) : s.EventOnly (s.note e) := by
  have a : (s.history e).EventOnly ((s.history e).f1Count e) := .ite (.trans (t := (s.history e).f1Roll) (.ite rfl rfl) rfl) rfl
  have b : ((s.history e).f1Count e).EventOnly (((s.history e).f1Count e).markDue e) := .ite rfl rfl
  exact .trans (.trans (.trans (s.history_eventOnly e) a) b) (State.deliver_eventOnly _ _ _ _)

/-! ### Field by field -/

theorem State.EventOnly.pending {s t : State} (h : s.EventOnly t) : t.pending = s.pending := by rw [h]
theorem State.EventOnly.draws {s t : State} (h : s.EventOnly t) : t.draws = s.draws := by rw [h]
theorem State.EventOnly.now {s t : State} (h : s.EventOnly t) : t.now = s.now := by rw [h]
theorem State.EventOnly.dict {s t : State} (h : s.EventOnly t) : t.dict = s.dict := by rw [h]
theorem State.EventOnly.hier {s t : State} (h : s.EventOnly t) : t.hier = s.hier := by rw [h]
theorem State.EventOnly.time {s t : State} (h : s.EventOnly t) : t.time = s.time := by rw [h]
theorem State.EventOnly.act {s t : State} (h : s.EventOnly t) : t.act = s.act := by rw [h]
theorem State.EventOnly.hports {s t : State} (h : s.EventOnly t) : t.hports = s.hports := by rw [h]
theorem State.EventOnly.lanes {s t : State} (h : s.EventOnly t) : t.lanes = s.lanes := by rw [h]
theorem State.EventOnly.trunks {s t : State} (h : s.EventOnly t) : t.trunks = s.trunks := by rw [h]
theorem State.EventOnly.core {s t : State} (h : s.EventOnly t) : t.core = s.core := by rw [h]
theorem State.EventOnly.shared {s t : State} (h : s.EventOnly t) : t.shared = s.shared := by rw [h]
theorem State.EventOnly.gates {s t : State} (h : s.EventOnly t) : t.gates = s.gates := by rw [h]
theorem State.EventOnly.fabric {s t : State} (h : s.EventOnly t) : t.fabric = s.fabric := by rw [h]
theorem State.EventOnly.mem {s t : State} (h : s.EventOnly t) : t.mem = s.mem := by rw [h]
theorem State.EventOnly.engines {s t : State} (h : s.EventOnly t) : t.engines = s.engines := by rw [h]
theorem State.EventOnly.sec {s t : State} (h : s.EventOnly t) : t.sec = s.sec := by rw [h]
theorem State.EventOnly.journal {s t : State} (h : s.EventOnly t) : t.journal = s.journal := by rw [h]
theorem State.EventOnly.power {s t : State} (h : s.EventOnly t) : t.power = s.power := by rw [h]

/-! #### note -/

@[simp] theorem State.note_pending (s : State) (e : Ev) : (s.note e).pending = s.pending := (State.note_eventOnly s e).pending
@[simp] theorem State.note_draws (s : State) (e : Ev) : (s.note e).draws = s.draws := (State.note_eventOnly s e).draws
@[simp] theorem State.note_now (s : State) (e : Ev) : (s.note e).now = s.now := (State.note_eventOnly s e).now
@[simp] theorem State.note_dict (s : State) (e : Ev) : (s.note e).dict = s.dict := (State.note_eventOnly s e).dict
@[simp] theorem State.note_hier (s : State) (e : Ev) : (s.note e).hier = s.hier := (State.note_eventOnly s e).hier
@[simp] theorem State.note_time (s : State) (e : Ev) : (s.note e).time = s.time := (State.note_eventOnly s e).time
@[simp] theorem State.note_act (s : State) (e : Ev) : (s.note e).act = s.act := (State.note_eventOnly s e).act
@[simp] theorem State.note_hports (s : State) (e : Ev) : (s.note e).hports = s.hports := (State.note_eventOnly s e).hports
@[simp] theorem State.note_lanes (s : State) (e : Ev) : (s.note e).lanes = s.lanes := (State.note_eventOnly s e).lanes
@[simp] theorem State.note_trunks (s : State) (e : Ev) : (s.note e).trunks = s.trunks := (State.note_eventOnly s e).trunks
@[simp] theorem State.note_core (s : State) (e : Ev) : (s.note e).core = s.core := (State.note_eventOnly s e).core
@[simp] theorem State.note_shared (s : State) (e : Ev) : (s.note e).shared = s.shared := (State.note_eventOnly s e).shared
@[simp] theorem State.note_gates (s : State) (e : Ev) : (s.note e).gates = s.gates := (State.note_eventOnly s e).gates
@[simp] theorem State.note_fabric (s : State) (e : Ev) : (s.note e).fabric = s.fabric := (State.note_eventOnly s e).fabric
@[simp] theorem State.note_mem (s : State) (e : Ev) : (s.note e).mem = s.mem := (State.note_eventOnly s e).mem
@[simp] theorem State.note_engines (s : State) (e : Ev) : (s.note e).engines = s.engines := (State.note_eventOnly s e).engines
@[simp] theorem State.note_sec (s : State) (e : Ev) : (s.note e).sec = s.sec := (State.note_eventOnly s e).sec
@[simp] theorem State.note_journal (s : State) (e : Ev) : (s.note e).journal = s.journal := (State.note_eventOnly s e).journal
@[simp] theorem State.note_power (s : State) (e : Ev) : (s.note e).power = s.power := (State.note_eventOnly s e).power

/-! #### noteAt -/

@[simp] theorem State.noteAt_pending (s : State) (a b c : Nat) : (s.noteAt a b c).pending = s.pending := (State.note_eventOnly s (Ev.plain a b c)).pending
@[simp] theorem State.noteAt_draws (s : State) (a b c : Nat) : (s.noteAt a b c).draws = s.draws := (State.note_eventOnly s (Ev.plain a b c)).draws
@[simp] theorem State.noteAt_now (s : State) (a b c : Nat) : (s.noteAt a b c).now = s.now := (State.note_eventOnly s (Ev.plain a b c)).now
@[simp] theorem State.noteAt_dict (s : State) (a b c : Nat) : (s.noteAt a b c).dict = s.dict := (State.note_eventOnly s (Ev.plain a b c)).dict
@[simp] theorem State.noteAt_hier (s : State) (a b c : Nat) : (s.noteAt a b c).hier = s.hier := (State.note_eventOnly s (Ev.plain a b c)).hier
@[simp] theorem State.noteAt_time (s : State) (a b c : Nat) : (s.noteAt a b c).time = s.time := (State.note_eventOnly s (Ev.plain a b c)).time
@[simp] theorem State.noteAt_act (s : State) (a b c : Nat) : (s.noteAt a b c).act = s.act := (State.note_eventOnly s (Ev.plain a b c)).act
@[simp] theorem State.noteAt_hports (s : State) (a b c : Nat) : (s.noteAt a b c).hports = s.hports := (State.note_eventOnly s (Ev.plain a b c)).hports
@[simp] theorem State.noteAt_lanes (s : State) (a b c : Nat) : (s.noteAt a b c).lanes = s.lanes := (State.note_eventOnly s (Ev.plain a b c)).lanes
@[simp] theorem State.noteAt_trunks (s : State) (a b c : Nat) : (s.noteAt a b c).trunks = s.trunks := (State.note_eventOnly s (Ev.plain a b c)).trunks
@[simp] theorem State.noteAt_core (s : State) (a b c : Nat) : (s.noteAt a b c).core = s.core := (State.note_eventOnly s (Ev.plain a b c)).core
@[simp] theorem State.noteAt_shared (s : State) (a b c : Nat) : (s.noteAt a b c).shared = s.shared := (State.note_eventOnly s (Ev.plain a b c)).shared
@[simp] theorem State.noteAt_gates (s : State) (a b c : Nat) : (s.noteAt a b c).gates = s.gates := (State.note_eventOnly s (Ev.plain a b c)).gates
@[simp] theorem State.noteAt_fabric (s : State) (a b c : Nat) : (s.noteAt a b c).fabric = s.fabric := (State.note_eventOnly s (Ev.plain a b c)).fabric
@[simp] theorem State.noteAt_mem (s : State) (a b c : Nat) : (s.noteAt a b c).mem = s.mem := (State.note_eventOnly s (Ev.plain a b c)).mem
@[simp] theorem State.noteAt_engines (s : State) (a b c : Nat) : (s.noteAt a b c).engines = s.engines := (State.note_eventOnly s (Ev.plain a b c)).engines
@[simp] theorem State.noteAt_sec (s : State) (a b c : Nat) : (s.noteAt a b c).sec = s.sec := (State.note_eventOnly s (Ev.plain a b c)).sec
@[simp] theorem State.noteAt_journal (s : State) (a b c : Nat) : (s.noteAt a b c).journal = s.journal := (State.note_eventOnly s (Ev.plain a b c)).journal
@[simp] theorem State.noteAt_power (s : State) (a b c : Nat) : (s.noteAt a b c).power = s.power := (State.note_eventOnly s (Ev.plain a b c)).power

/-! #### noteFree -/

@[simp] theorem State.noteFree_pending (s : State) (a c : Nat) : (s.noteFree a c).pending = s.pending := (State.note_eventOnly s (Ev.plain a (Config.eventCode a) c)).pending
@[simp] theorem State.noteFree_draws (s : State) (a c : Nat) : (s.noteFree a c).draws = s.draws := (State.note_eventOnly s (Ev.plain a (Config.eventCode a) c)).draws
@[simp] theorem State.noteFree_now (s : State) (a c : Nat) : (s.noteFree a c).now = s.now := (State.note_eventOnly s (Ev.plain a (Config.eventCode a) c)).now
@[simp] theorem State.noteFree_dict (s : State) (a c : Nat) : (s.noteFree a c).dict = s.dict := (State.note_eventOnly s (Ev.plain a (Config.eventCode a) c)).dict
@[simp] theorem State.noteFree_hier (s : State) (a c : Nat) : (s.noteFree a c).hier = s.hier := (State.note_eventOnly s (Ev.plain a (Config.eventCode a) c)).hier
@[simp] theorem State.noteFree_time (s : State) (a c : Nat) : (s.noteFree a c).time = s.time := (State.note_eventOnly s (Ev.plain a (Config.eventCode a) c)).time
@[simp] theorem State.noteFree_act (s : State) (a c : Nat) : (s.noteFree a c).act = s.act := (State.note_eventOnly s (Ev.plain a (Config.eventCode a) c)).act
@[simp] theorem State.noteFree_hports (s : State) (a c : Nat) : (s.noteFree a c).hports = s.hports := (State.note_eventOnly s (Ev.plain a (Config.eventCode a) c)).hports
@[simp] theorem State.noteFree_lanes (s : State) (a c : Nat) : (s.noteFree a c).lanes = s.lanes := (State.note_eventOnly s (Ev.plain a (Config.eventCode a) c)).lanes
@[simp] theorem State.noteFree_trunks (s : State) (a c : Nat) : (s.noteFree a c).trunks = s.trunks := (State.note_eventOnly s (Ev.plain a (Config.eventCode a) c)).trunks
@[simp] theorem State.noteFree_core (s : State) (a c : Nat) : (s.noteFree a c).core = s.core := (State.note_eventOnly s (Ev.plain a (Config.eventCode a) c)).core
@[simp] theorem State.noteFree_shared (s : State) (a c : Nat) : (s.noteFree a c).shared = s.shared := (State.note_eventOnly s (Ev.plain a (Config.eventCode a) c)).shared
@[simp] theorem State.noteFree_gates (s : State) (a c : Nat) : (s.noteFree a c).gates = s.gates := (State.note_eventOnly s (Ev.plain a (Config.eventCode a) c)).gates
@[simp] theorem State.noteFree_fabric (s : State) (a c : Nat) : (s.noteFree a c).fabric = s.fabric := (State.note_eventOnly s (Ev.plain a (Config.eventCode a) c)).fabric
@[simp] theorem State.noteFree_mem (s : State) (a c : Nat) : (s.noteFree a c).mem = s.mem := (State.note_eventOnly s (Ev.plain a (Config.eventCode a) c)).mem
@[simp] theorem State.noteFree_engines (s : State) (a c : Nat) : (s.noteFree a c).engines = s.engines := (State.note_eventOnly s (Ev.plain a (Config.eventCode a) c)).engines
@[simp] theorem State.noteFree_sec (s : State) (a c : Nat) : (s.noteFree a c).sec = s.sec := (State.note_eventOnly s (Ev.plain a (Config.eventCode a) c)).sec
@[simp] theorem State.noteFree_journal (s : State) (a c : Nat) : (s.noteFree a c).journal = s.journal := (State.note_eventOnly s (Ev.plain a (Config.eventCode a) c)).journal
@[simp] theorem State.noteFree_power (s : State) (a c : Nat) : (s.noteFree a c).power = s.power := (State.note_eventOnly s (Ev.plain a (Config.eventCode a) c)).power

/-! #### deliver -/

@[simp] theorem State.deliver_pending (s : State) (a b c : Nat) : (s.deliver a b c).pending = s.pending := (State.deliver_eventOnly s a b c).pending
@[simp] theorem State.deliver_draws (s : State) (a b c : Nat) : (s.deliver a b c).draws = s.draws := (State.deliver_eventOnly s a b c).draws
@[simp] theorem State.deliver_now (s : State) (a b c : Nat) : (s.deliver a b c).now = s.now := (State.deliver_eventOnly s a b c).now
@[simp] theorem State.deliver_dict (s : State) (a b c : Nat) : (s.deliver a b c).dict = s.dict := (State.deliver_eventOnly s a b c).dict
@[simp] theorem State.deliver_hier (s : State) (a b c : Nat) : (s.deliver a b c).hier = s.hier := (State.deliver_eventOnly s a b c).hier
@[simp] theorem State.deliver_time (s : State) (a b c : Nat) : (s.deliver a b c).time = s.time := (State.deliver_eventOnly s a b c).time
@[simp] theorem State.deliver_act (s : State) (a b c : Nat) : (s.deliver a b c).act = s.act := (State.deliver_eventOnly s a b c).act
@[simp] theorem State.deliver_hports (s : State) (a b c : Nat) : (s.deliver a b c).hports = s.hports := (State.deliver_eventOnly s a b c).hports
@[simp] theorem State.deliver_lanes (s : State) (a b c : Nat) : (s.deliver a b c).lanes = s.lanes := (State.deliver_eventOnly s a b c).lanes
@[simp] theorem State.deliver_trunks (s : State) (a b c : Nat) : (s.deliver a b c).trunks = s.trunks := (State.deliver_eventOnly s a b c).trunks
@[simp] theorem State.deliver_core (s : State) (a b c : Nat) : (s.deliver a b c).core = s.core := (State.deliver_eventOnly s a b c).core
@[simp] theorem State.deliver_shared (s : State) (a b c : Nat) : (s.deliver a b c).shared = s.shared := (State.deliver_eventOnly s a b c).shared
@[simp] theorem State.deliver_gates (s : State) (a b c : Nat) : (s.deliver a b c).gates = s.gates := (State.deliver_eventOnly s a b c).gates
@[simp] theorem State.deliver_fabric (s : State) (a b c : Nat) : (s.deliver a b c).fabric = s.fabric := (State.deliver_eventOnly s a b c).fabric
@[simp] theorem State.deliver_mem (s : State) (a b c : Nat) : (s.deliver a b c).mem = s.mem := (State.deliver_eventOnly s a b c).mem
@[simp] theorem State.deliver_engines (s : State) (a b c : Nat) : (s.deliver a b c).engines = s.engines := (State.deliver_eventOnly s a b c).engines
@[simp] theorem State.deliver_sec (s : State) (a b c : Nat) : (s.deliver a b c).sec = s.sec := (State.deliver_eventOnly s a b c).sec
@[simp] theorem State.deliver_journal (s : State) (a b c : Nat) : (s.deliver a b c).journal = s.journal := (State.deliver_eventOnly s a b c).journal
@[simp] theorem State.deliver_power (s : State) (a b c : Nat) : (s.deliver a b c).power = s.power := (State.deliver_eventOnly s a b c).power

/-! #### countFrom -/

@[simp] theorem State.countFrom_pending (s : State) (a b c d : Nat) : (s.countFrom a b c d).pending = s.pending := (State.countFrom_eventOnly s a b c d).pending
@[simp] theorem State.countFrom_draws (s : State) (a b c d : Nat) : (s.countFrom a b c d).draws = s.draws := (State.countFrom_eventOnly s a b c d).draws
@[simp] theorem State.countFrom_now (s : State) (a b c d : Nat) : (s.countFrom a b c d).now = s.now := (State.countFrom_eventOnly s a b c d).now
@[simp] theorem State.countFrom_dict (s : State) (a b c d : Nat) : (s.countFrom a b c d).dict = s.dict := (State.countFrom_eventOnly s a b c d).dict
@[simp] theorem State.countFrom_hier (s : State) (a b c d : Nat) : (s.countFrom a b c d).hier = s.hier := (State.countFrom_eventOnly s a b c d).hier
@[simp] theorem State.countFrom_time (s : State) (a b c d : Nat) : (s.countFrom a b c d).time = s.time := (State.countFrom_eventOnly s a b c d).time
@[simp] theorem State.countFrom_act (s : State) (a b c d : Nat) : (s.countFrom a b c d).act = s.act := (State.countFrom_eventOnly s a b c d).act
@[simp] theorem State.countFrom_hports (s : State) (a b c d : Nat) : (s.countFrom a b c d).hports = s.hports := (State.countFrom_eventOnly s a b c d).hports
@[simp] theorem State.countFrom_lanes (s : State) (a b c d : Nat) : (s.countFrom a b c d).lanes = s.lanes := (State.countFrom_eventOnly s a b c d).lanes
@[simp] theorem State.countFrom_trunks (s : State) (a b c d : Nat) : (s.countFrom a b c d).trunks = s.trunks := (State.countFrom_eventOnly s a b c d).trunks
@[simp] theorem State.countFrom_core (s : State) (a b c d : Nat) : (s.countFrom a b c d).core = s.core := (State.countFrom_eventOnly s a b c d).core
@[simp] theorem State.countFrom_shared (s : State) (a b c d : Nat) : (s.countFrom a b c d).shared = s.shared := (State.countFrom_eventOnly s a b c d).shared
@[simp] theorem State.countFrom_gates (s : State) (a b c d : Nat) : (s.countFrom a b c d).gates = s.gates := (State.countFrom_eventOnly s a b c d).gates
@[simp] theorem State.countFrom_fabric (s : State) (a b c d : Nat) : (s.countFrom a b c d).fabric = s.fabric := (State.countFrom_eventOnly s a b c d).fabric
@[simp] theorem State.countFrom_mem (s : State) (a b c d : Nat) : (s.countFrom a b c d).mem = s.mem := (State.countFrom_eventOnly s a b c d).mem
@[simp] theorem State.countFrom_engines (s : State) (a b c d : Nat) : (s.countFrom a b c d).engines = s.engines := (State.countFrom_eventOnly s a b c d).engines
@[simp] theorem State.countFrom_sec (s : State) (a b c d : Nat) : (s.countFrom a b c d).sec = s.sec := (State.countFrom_eventOnly s a b c d).sec
@[simp] theorem State.countFrom_journal (s : State) (a b c d : Nat) : (s.countFrom a b c d).journal = s.journal := (State.countFrom_eventOnly s a b c d).journal
@[simp] theorem State.countFrom_power (s : State) (a b c d : Nat) : (s.countFrom a b c d).power = s.power := (State.countFrom_eventOnly s a b c d).power

/-! #### countTwig -/

@[simp] theorem State.countTwig_pending (s : State) (g e n : Nat) : (s.countTwig g e n).pending = s.pending := (State.countFrom_eventOnly s _ _ e n).pending
@[simp] theorem State.countTwig_draws (s : State) (g e n : Nat) : (s.countTwig g e n).draws = s.draws := (State.countFrom_eventOnly s _ _ e n).draws
@[simp] theorem State.countTwig_now (s : State) (g e n : Nat) : (s.countTwig g e n).now = s.now := (State.countFrom_eventOnly s _ _ e n).now
@[simp] theorem State.countTwig_dict (s : State) (g e n : Nat) : (s.countTwig g e n).dict = s.dict := (State.countFrom_eventOnly s _ _ e n).dict
@[simp] theorem State.countTwig_hier (s : State) (g e n : Nat) : (s.countTwig g e n).hier = s.hier := (State.countFrom_eventOnly s _ _ e n).hier
@[simp] theorem State.countTwig_time (s : State) (g e n : Nat) : (s.countTwig g e n).time = s.time := (State.countFrom_eventOnly s _ _ e n).time
@[simp] theorem State.countTwig_act (s : State) (g e n : Nat) : (s.countTwig g e n).act = s.act := (State.countFrom_eventOnly s _ _ e n).act
@[simp] theorem State.countTwig_hports (s : State) (g e n : Nat) : (s.countTwig g e n).hports = s.hports := (State.countFrom_eventOnly s _ _ e n).hports
@[simp] theorem State.countTwig_lanes (s : State) (g e n : Nat) : (s.countTwig g e n).lanes = s.lanes := (State.countFrom_eventOnly s _ _ e n).lanes
@[simp] theorem State.countTwig_trunks (s : State) (g e n : Nat) : (s.countTwig g e n).trunks = s.trunks := (State.countFrom_eventOnly s _ _ e n).trunks
@[simp] theorem State.countTwig_core (s : State) (g e n : Nat) : (s.countTwig g e n).core = s.core := (State.countFrom_eventOnly s _ _ e n).core
@[simp] theorem State.countTwig_shared (s : State) (g e n : Nat) : (s.countTwig g e n).shared = s.shared := (State.countFrom_eventOnly s _ _ e n).shared
@[simp] theorem State.countTwig_gates (s : State) (g e n : Nat) : (s.countTwig g e n).gates = s.gates := (State.countFrom_eventOnly s _ _ e n).gates
@[simp] theorem State.countTwig_fabric (s : State) (g e n : Nat) : (s.countTwig g e n).fabric = s.fabric := (State.countFrom_eventOnly s _ _ e n).fabric
@[simp] theorem State.countTwig_mem (s : State) (g e n : Nat) : (s.countTwig g e n).mem = s.mem := (State.countFrom_eventOnly s _ _ e n).mem
@[simp] theorem State.countTwig_engines (s : State) (g e n : Nat) : (s.countTwig g e n).engines = s.engines := (State.countFrom_eventOnly s _ _ e n).engines
@[simp] theorem State.countTwig_sec (s : State) (g e n : Nat) : (s.countTwig g e n).sec = s.sec := (State.countFrom_eventOnly s _ _ e n).sec
@[simp] theorem State.countTwig_journal (s : State) (g e n : Nat) : (s.countTwig g e n).journal = s.journal := (State.countFrom_eventOnly s _ _ e n).journal
@[simp] theorem State.countTwig_power (s : State) (g e n : Nat) : (s.countTwig g e n).power = s.power := (State.countFrom_eventOnly s _ _ e n).power

/-! #### countBough -/

@[simp] theorem State.countBough_pending (s : State) (g e n : Nat) : (s.countBough g e n).pending = s.pending := (State.countFrom_eventOnly s _ _ e n).pending
@[simp] theorem State.countBough_draws (s : State) (g e n : Nat) : (s.countBough g e n).draws = s.draws := (State.countFrom_eventOnly s _ _ e n).draws
@[simp] theorem State.countBough_now (s : State) (g e n : Nat) : (s.countBough g e n).now = s.now := (State.countFrom_eventOnly s _ _ e n).now
@[simp] theorem State.countBough_dict (s : State) (g e n : Nat) : (s.countBough g e n).dict = s.dict := (State.countFrom_eventOnly s _ _ e n).dict
@[simp] theorem State.countBough_hier (s : State) (g e n : Nat) : (s.countBough g e n).hier = s.hier := (State.countFrom_eventOnly s _ _ e n).hier
@[simp] theorem State.countBough_time (s : State) (g e n : Nat) : (s.countBough g e n).time = s.time := (State.countFrom_eventOnly s _ _ e n).time
@[simp] theorem State.countBough_act (s : State) (g e n : Nat) : (s.countBough g e n).act = s.act := (State.countFrom_eventOnly s _ _ e n).act
@[simp] theorem State.countBough_hports (s : State) (g e n : Nat) : (s.countBough g e n).hports = s.hports := (State.countFrom_eventOnly s _ _ e n).hports
@[simp] theorem State.countBough_lanes (s : State) (g e n : Nat) : (s.countBough g e n).lanes = s.lanes := (State.countFrom_eventOnly s _ _ e n).lanes
@[simp] theorem State.countBough_trunks (s : State) (g e n : Nat) : (s.countBough g e n).trunks = s.trunks := (State.countFrom_eventOnly s _ _ e n).trunks
@[simp] theorem State.countBough_core (s : State) (g e n : Nat) : (s.countBough g e n).core = s.core := (State.countFrom_eventOnly s _ _ e n).core
@[simp] theorem State.countBough_shared (s : State) (g e n : Nat) : (s.countBough g e n).shared = s.shared := (State.countFrom_eventOnly s _ _ e n).shared
@[simp] theorem State.countBough_gates (s : State) (g e n : Nat) : (s.countBough g e n).gates = s.gates := (State.countFrom_eventOnly s _ _ e n).gates
@[simp] theorem State.countBough_fabric (s : State) (g e n : Nat) : (s.countBough g e n).fabric = s.fabric := (State.countFrom_eventOnly s _ _ e n).fabric
@[simp] theorem State.countBough_mem (s : State) (g e n : Nat) : (s.countBough g e n).mem = s.mem := (State.countFrom_eventOnly s _ _ e n).mem
@[simp] theorem State.countBough_engines (s : State) (g e n : Nat) : (s.countBough g e n).engines = s.engines := (State.countFrom_eventOnly s _ _ e n).engines
@[simp] theorem State.countBough_sec (s : State) (g e n : Nat) : (s.countBough g e n).sec = s.sec := (State.countFrom_eventOnly s _ _ e n).sec
@[simp] theorem State.countBough_journal (s : State) (g e n : Nat) : (s.countBough g e n).journal = s.journal := (State.countFrom_eventOnly s _ _ e n).journal
@[simp] theorem State.countBough_power (s : State) (g e n : Nat) : (s.countBough g e n).power = s.power := (State.countFrom_eventOnly s _ _ e n).power

/-! #### countLimb -/

@[simp] theorem State.countLimb_pending (s : State) (g e n : Nat) : (s.countLimb g e n).pending = s.pending := (State.countFrom_eventOnly s _ _ e n).pending
@[simp] theorem State.countLimb_draws (s : State) (g e n : Nat) : (s.countLimb g e n).draws = s.draws := (State.countFrom_eventOnly s _ _ e n).draws
@[simp] theorem State.countLimb_now (s : State) (g e n : Nat) : (s.countLimb g e n).now = s.now := (State.countFrom_eventOnly s _ _ e n).now
@[simp] theorem State.countLimb_dict (s : State) (g e n : Nat) : (s.countLimb g e n).dict = s.dict := (State.countFrom_eventOnly s _ _ e n).dict
@[simp] theorem State.countLimb_hier (s : State) (g e n : Nat) : (s.countLimb g e n).hier = s.hier := (State.countFrom_eventOnly s _ _ e n).hier
@[simp] theorem State.countLimb_time (s : State) (g e n : Nat) : (s.countLimb g e n).time = s.time := (State.countFrom_eventOnly s _ _ e n).time
@[simp] theorem State.countLimb_act (s : State) (g e n : Nat) : (s.countLimb g e n).act = s.act := (State.countFrom_eventOnly s _ _ e n).act
@[simp] theorem State.countLimb_hports (s : State) (g e n : Nat) : (s.countLimb g e n).hports = s.hports := (State.countFrom_eventOnly s _ _ e n).hports
@[simp] theorem State.countLimb_lanes (s : State) (g e n : Nat) : (s.countLimb g e n).lanes = s.lanes := (State.countFrom_eventOnly s _ _ e n).lanes
@[simp] theorem State.countLimb_trunks (s : State) (g e n : Nat) : (s.countLimb g e n).trunks = s.trunks := (State.countFrom_eventOnly s _ _ e n).trunks
@[simp] theorem State.countLimb_core (s : State) (g e n : Nat) : (s.countLimb g e n).core = s.core := (State.countFrom_eventOnly s _ _ e n).core
@[simp] theorem State.countLimb_shared (s : State) (g e n : Nat) : (s.countLimb g e n).shared = s.shared := (State.countFrom_eventOnly s _ _ e n).shared
@[simp] theorem State.countLimb_gates (s : State) (g e n : Nat) : (s.countLimb g e n).gates = s.gates := (State.countFrom_eventOnly s _ _ e n).gates
@[simp] theorem State.countLimb_fabric (s : State) (g e n : Nat) : (s.countLimb g e n).fabric = s.fabric := (State.countFrom_eventOnly s _ _ e n).fabric
@[simp] theorem State.countLimb_mem (s : State) (g e n : Nat) : (s.countLimb g e n).mem = s.mem := (State.countFrom_eventOnly s _ _ e n).mem
@[simp] theorem State.countLimb_engines (s : State) (g e n : Nat) : (s.countLimb g e n).engines = s.engines := (State.countFrom_eventOnly s _ _ e n).engines
@[simp] theorem State.countLimb_sec (s : State) (g e n : Nat) : (s.countLimb g e n).sec = s.sec := (State.countFrom_eventOnly s _ _ e n).sec
@[simp] theorem State.countLimb_journal (s : State) (g e n : Nat) : (s.countLimb g e n).journal = s.journal := (State.countFrom_eventOnly s _ _ e n).journal
@[simp] theorem State.countLimb_power (s : State) (g e n : Nat) : (s.countLimb g e n).power = s.power := (State.countFrom_eventOnly s _ _ e n).power

/-! #### countStem -/

@[simp] theorem State.countStem_pending (s : State) (g e n : Nat) : (s.countStem g e n).pending = s.pending := (State.countFrom_eventOnly s _ _ e n).pending
@[simp] theorem State.countStem_draws (s : State) (g e n : Nat) : (s.countStem g e n).draws = s.draws := (State.countFrom_eventOnly s _ _ e n).draws
@[simp] theorem State.countStem_now (s : State) (g e n : Nat) : (s.countStem g e n).now = s.now := (State.countFrom_eventOnly s _ _ e n).now
@[simp] theorem State.countStem_dict (s : State) (g e n : Nat) : (s.countStem g e n).dict = s.dict := (State.countFrom_eventOnly s _ _ e n).dict
@[simp] theorem State.countStem_hier (s : State) (g e n : Nat) : (s.countStem g e n).hier = s.hier := (State.countFrom_eventOnly s _ _ e n).hier
@[simp] theorem State.countStem_time (s : State) (g e n : Nat) : (s.countStem g e n).time = s.time := (State.countFrom_eventOnly s _ _ e n).time
@[simp] theorem State.countStem_act (s : State) (g e n : Nat) : (s.countStem g e n).act = s.act := (State.countFrom_eventOnly s _ _ e n).act
@[simp] theorem State.countStem_hports (s : State) (g e n : Nat) : (s.countStem g e n).hports = s.hports := (State.countFrom_eventOnly s _ _ e n).hports
@[simp] theorem State.countStem_lanes (s : State) (g e n : Nat) : (s.countStem g e n).lanes = s.lanes := (State.countFrom_eventOnly s _ _ e n).lanes
@[simp] theorem State.countStem_trunks (s : State) (g e n : Nat) : (s.countStem g e n).trunks = s.trunks := (State.countFrom_eventOnly s _ _ e n).trunks
@[simp] theorem State.countStem_core (s : State) (g e n : Nat) : (s.countStem g e n).core = s.core := (State.countFrom_eventOnly s _ _ e n).core
@[simp] theorem State.countStem_shared (s : State) (g e n : Nat) : (s.countStem g e n).shared = s.shared := (State.countFrom_eventOnly s _ _ e n).shared
@[simp] theorem State.countStem_gates (s : State) (g e n : Nat) : (s.countStem g e n).gates = s.gates := (State.countFrom_eventOnly s _ _ e n).gates
@[simp] theorem State.countStem_fabric (s : State) (g e n : Nat) : (s.countStem g e n).fabric = s.fabric := (State.countFrom_eventOnly s _ _ e n).fabric
@[simp] theorem State.countStem_mem (s : State) (g e n : Nat) : (s.countStem g e n).mem = s.mem := (State.countFrom_eventOnly s _ _ e n).mem
@[simp] theorem State.countStem_engines (s : State) (g e n : Nat) : (s.countStem g e n).engines = s.engines := (State.countFrom_eventOnly s _ _ e n).engines
@[simp] theorem State.countStem_sec (s : State) (g e n : Nat) : (s.countStem g e n).sec = s.sec := (State.countFrom_eventOnly s _ _ e n).sec
@[simp] theorem State.countStem_journal (s : State) (g e n : Nat) : (s.countStem g e n).journal = s.journal := (State.countFrom_eventOnly s _ _ e n).journal
@[simp] theorem State.countStem_power (s : State) (g e n : Nat) : (s.countStem g e n).power = s.power := (State.countFrom_eventOnly s _ _ e n).power

/-! #### countHeart -/

@[simp] theorem State.countHeart_pending (s : State) (e n : Nat) : (s.countHeart e n).pending = s.pending := (State.countFrom_eventOnly s _ _ e n).pending
@[simp] theorem State.countHeart_draws (s : State) (e n : Nat) : (s.countHeart e n).draws = s.draws := (State.countFrom_eventOnly s _ _ e n).draws
@[simp] theorem State.countHeart_now (s : State) (e n : Nat) : (s.countHeart e n).now = s.now := (State.countFrom_eventOnly s _ _ e n).now
@[simp] theorem State.countHeart_dict (s : State) (e n : Nat) : (s.countHeart e n).dict = s.dict := (State.countFrom_eventOnly s _ _ e n).dict
@[simp] theorem State.countHeart_hier (s : State) (e n : Nat) : (s.countHeart e n).hier = s.hier := (State.countFrom_eventOnly s _ _ e n).hier
@[simp] theorem State.countHeart_time (s : State) (e n : Nat) : (s.countHeart e n).time = s.time := (State.countFrom_eventOnly s _ _ e n).time
@[simp] theorem State.countHeart_act (s : State) (e n : Nat) : (s.countHeart e n).act = s.act := (State.countFrom_eventOnly s _ _ e n).act
@[simp] theorem State.countHeart_hports (s : State) (e n : Nat) : (s.countHeart e n).hports = s.hports := (State.countFrom_eventOnly s _ _ e n).hports
@[simp] theorem State.countHeart_lanes (s : State) (e n : Nat) : (s.countHeart e n).lanes = s.lanes := (State.countFrom_eventOnly s _ _ e n).lanes
@[simp] theorem State.countHeart_trunks (s : State) (e n : Nat) : (s.countHeart e n).trunks = s.trunks := (State.countFrom_eventOnly s _ _ e n).trunks
@[simp] theorem State.countHeart_core (s : State) (e n : Nat) : (s.countHeart e n).core = s.core := (State.countFrom_eventOnly s _ _ e n).core
@[simp] theorem State.countHeart_shared (s : State) (e n : Nat) : (s.countHeart e n).shared = s.shared := (State.countFrom_eventOnly s _ _ e n).shared
@[simp] theorem State.countHeart_gates (s : State) (e n : Nat) : (s.countHeart e n).gates = s.gates := (State.countFrom_eventOnly s _ _ e n).gates
@[simp] theorem State.countHeart_fabric (s : State) (e n : Nat) : (s.countHeart e n).fabric = s.fabric := (State.countFrom_eventOnly s _ _ e n).fabric
@[simp] theorem State.countHeart_mem (s : State) (e n : Nat) : (s.countHeart e n).mem = s.mem := (State.countFrom_eventOnly s _ _ e n).mem
@[simp] theorem State.countHeart_engines (s : State) (e n : Nat) : (s.countHeart e n).engines = s.engines := (State.countFrom_eventOnly s _ _ e n).engines
@[simp] theorem State.countHeart_sec (s : State) (e n : Nat) : (s.countHeart e n).sec = s.sec := (State.countFrom_eventOnly s _ _ e n).sec
@[simp] theorem State.countHeart_journal (s : State) (e n : Nat) : (s.countHeart e n).journal = s.journal := (State.countFrom_eventOnly s _ _ e n).journal
@[simp] theorem State.countHeart_power (s : State) (e n : Nat) : (s.countHeart e n).power = s.power := (State.countFrom_eventOnly s _ _ e n).power

/-! #### deliverPart -/

@[simp] theorem State.deliverPart_pending (s : State) (a b c d e f : Nat) : (s.deliverPart a b c d e f).pending = s.pending := (State.deliverPart_eventOnly s a b c d e f).pending
@[simp] theorem State.deliverPart_draws (s : State) (a b c d e f : Nat) : (s.deliverPart a b c d e f).draws = s.draws := (State.deliverPart_eventOnly s a b c d e f).draws
@[simp] theorem State.deliverPart_now (s : State) (a b c d e f : Nat) : (s.deliverPart a b c d e f).now = s.now := (State.deliverPart_eventOnly s a b c d e f).now
@[simp] theorem State.deliverPart_dict (s : State) (a b c d e f : Nat) : (s.deliverPart a b c d e f).dict = s.dict := (State.deliverPart_eventOnly s a b c d e f).dict
@[simp] theorem State.deliverPart_hier (s : State) (a b c d e f : Nat) : (s.deliverPart a b c d e f).hier = s.hier := (State.deliverPart_eventOnly s a b c d e f).hier
@[simp] theorem State.deliverPart_time (s : State) (a b c d e f : Nat) : (s.deliverPart a b c d e f).time = s.time := (State.deliverPart_eventOnly s a b c d e f).time
@[simp] theorem State.deliverPart_act (s : State) (a b c d e f : Nat) : (s.deliverPart a b c d e f).act = s.act := (State.deliverPart_eventOnly s a b c d e f).act
@[simp] theorem State.deliverPart_hports (s : State) (a b c d e f : Nat) : (s.deliverPart a b c d e f).hports = s.hports := (State.deliverPart_eventOnly s a b c d e f).hports
@[simp] theorem State.deliverPart_lanes (s : State) (a b c d e f : Nat) : (s.deliverPart a b c d e f).lanes = s.lanes := (State.deliverPart_eventOnly s a b c d e f).lanes
@[simp] theorem State.deliverPart_trunks (s : State) (a b c d e f : Nat) : (s.deliverPart a b c d e f).trunks = s.trunks := (State.deliverPart_eventOnly s a b c d e f).trunks
@[simp] theorem State.deliverPart_core (s : State) (a b c d e f : Nat) : (s.deliverPart a b c d e f).core = s.core := (State.deliverPart_eventOnly s a b c d e f).core
@[simp] theorem State.deliverPart_shared (s : State) (a b c d e f : Nat) : (s.deliverPart a b c d e f).shared = s.shared := (State.deliverPart_eventOnly s a b c d e f).shared
@[simp] theorem State.deliverPart_gates (s : State) (a b c d e f : Nat) : (s.deliverPart a b c d e f).gates = s.gates := (State.deliverPart_eventOnly s a b c d e f).gates
@[simp] theorem State.deliverPart_fabric (s : State) (a b c d e f : Nat) : (s.deliverPart a b c d e f).fabric = s.fabric := (State.deliverPart_eventOnly s a b c d e f).fabric
@[simp] theorem State.deliverPart_mem (s : State) (a b c d e f : Nat) : (s.deliverPart a b c d e f).mem = s.mem := (State.deliverPart_eventOnly s a b c d e f).mem
@[simp] theorem State.deliverPart_engines (s : State) (a b c d e f : Nat) : (s.deliverPart a b c d e f).engines = s.engines := (State.deliverPart_eventOnly s a b c d e f).engines
@[simp] theorem State.deliverPart_sec (s : State) (a b c d e f : Nat) : (s.deliverPart a b c d e f).sec = s.sec := (State.deliverPart_eventOnly s a b c d e f).sec
@[simp] theorem State.deliverPart_journal (s : State) (a b c d e f : Nat) : (s.deliverPart a b c d e f).journal = s.journal := (State.deliverPart_eventOnly s a b c d e f).journal
@[simp] theorem State.deliverPart_power (s : State) (a b c d e f : Nat) : (s.deliverPart a b c d e f).power = s.power := (State.deliverPart_eventOnly s a b c d e f).power

/-! #### deliverHome -/

@[simp] theorem State.deliverHome_pending (s : State) (a b c d e f : Nat) : (s.deliverHome a b c d e f).pending = s.pending := (State.deliverHome_eventOnly s a b c d e f).pending
@[simp] theorem State.deliverHome_draws (s : State) (a b c d e f : Nat) : (s.deliverHome a b c d e f).draws = s.draws := (State.deliverHome_eventOnly s a b c d e f).draws
@[simp] theorem State.deliverHome_now (s : State) (a b c d e f : Nat) : (s.deliverHome a b c d e f).now = s.now := (State.deliverHome_eventOnly s a b c d e f).now
@[simp] theorem State.deliverHome_dict (s : State) (a b c d e f : Nat) : (s.deliverHome a b c d e f).dict = s.dict := (State.deliverHome_eventOnly s a b c d e f).dict
@[simp] theorem State.deliverHome_hier (s : State) (a b c d e f : Nat) : (s.deliverHome a b c d e f).hier = s.hier := (State.deliverHome_eventOnly s a b c d e f).hier
@[simp] theorem State.deliverHome_time (s : State) (a b c d e f : Nat) : (s.deliverHome a b c d e f).time = s.time := (State.deliverHome_eventOnly s a b c d e f).time
@[simp] theorem State.deliverHome_act (s : State) (a b c d e f : Nat) : (s.deliverHome a b c d e f).act = s.act := (State.deliverHome_eventOnly s a b c d e f).act
@[simp] theorem State.deliverHome_hports (s : State) (a b c d e f : Nat) : (s.deliverHome a b c d e f).hports = s.hports := (State.deliverHome_eventOnly s a b c d e f).hports
@[simp] theorem State.deliverHome_lanes (s : State) (a b c d e f : Nat) : (s.deliverHome a b c d e f).lanes = s.lanes := (State.deliverHome_eventOnly s a b c d e f).lanes
@[simp] theorem State.deliverHome_trunks (s : State) (a b c d e f : Nat) : (s.deliverHome a b c d e f).trunks = s.trunks := (State.deliverHome_eventOnly s a b c d e f).trunks
@[simp] theorem State.deliverHome_core (s : State) (a b c d e f : Nat) : (s.deliverHome a b c d e f).core = s.core := (State.deliverHome_eventOnly s a b c d e f).core
@[simp] theorem State.deliverHome_shared (s : State) (a b c d e f : Nat) : (s.deliverHome a b c d e f).shared = s.shared := (State.deliverHome_eventOnly s a b c d e f).shared
@[simp] theorem State.deliverHome_gates (s : State) (a b c d e f : Nat) : (s.deliverHome a b c d e f).gates = s.gates := (State.deliverHome_eventOnly s a b c d e f).gates
@[simp] theorem State.deliverHome_fabric (s : State) (a b c d e f : Nat) : (s.deliverHome a b c d e f).fabric = s.fabric := (State.deliverHome_eventOnly s a b c d e f).fabric
@[simp] theorem State.deliverHome_mem (s : State) (a b c d e f : Nat) : (s.deliverHome a b c d e f).mem = s.mem := (State.deliverHome_eventOnly s a b c d e f).mem
@[simp] theorem State.deliverHome_engines (s : State) (a b c d e f : Nat) : (s.deliverHome a b c d e f).engines = s.engines := (State.deliverHome_eventOnly s a b c d e f).engines
@[simp] theorem State.deliverHome_sec (s : State) (a b c d e f : Nat) : (s.deliverHome a b c d e f).sec = s.sec := (State.deliverHome_eventOnly s a b c d e f).sec
@[simp] theorem State.deliverHome_journal (s : State) (a b c d e f : Nat) : (s.deliverHome a b c d e f).journal = s.journal := (State.deliverHome_eventOnly s a b c d e f).journal
@[simp] theorem State.deliverHome_power (s : State) (a b c d e f : Nat) : (s.deliverHome a b c d e f).power = s.power := (State.deliverHome_eventOnly s a b c d e f).power

/-! #### vector -/

@[simp] theorem State.vector_pending (s : State) (a b c : Nat) : (s.vector a b c).pending = s.pending := (State.vector_eventOnly s a b c).pending
@[simp] theorem State.vector_draws (s : State) (a b c : Nat) : (s.vector a b c).draws = s.draws := (State.vector_eventOnly s a b c).draws
@[simp] theorem State.vector_now (s : State) (a b c : Nat) : (s.vector a b c).now = s.now := (State.vector_eventOnly s a b c).now
@[simp] theorem State.vector_dict (s : State) (a b c : Nat) : (s.vector a b c).dict = s.dict := (State.vector_eventOnly s a b c).dict
@[simp] theorem State.vector_hier (s : State) (a b c : Nat) : (s.vector a b c).hier = s.hier := (State.vector_eventOnly s a b c).hier
@[simp] theorem State.vector_time (s : State) (a b c : Nat) : (s.vector a b c).time = s.time := (State.vector_eventOnly s a b c).time
@[simp] theorem State.vector_act (s : State) (a b c : Nat) : (s.vector a b c).act = s.act := (State.vector_eventOnly s a b c).act
@[simp] theorem State.vector_hports (s : State) (a b c : Nat) : (s.vector a b c).hports = s.hports := (State.vector_eventOnly s a b c).hports
@[simp] theorem State.vector_lanes (s : State) (a b c : Nat) : (s.vector a b c).lanes = s.lanes := (State.vector_eventOnly s a b c).lanes
@[simp] theorem State.vector_trunks (s : State) (a b c : Nat) : (s.vector a b c).trunks = s.trunks := (State.vector_eventOnly s a b c).trunks
@[simp] theorem State.vector_core (s : State) (a b c : Nat) : (s.vector a b c).core = s.core := (State.vector_eventOnly s a b c).core
@[simp] theorem State.vector_shared (s : State) (a b c : Nat) : (s.vector a b c).shared = s.shared := (State.vector_eventOnly s a b c).shared
@[simp] theorem State.vector_gates (s : State) (a b c : Nat) : (s.vector a b c).gates = s.gates := (State.vector_eventOnly s a b c).gates
@[simp] theorem State.vector_fabric (s : State) (a b c : Nat) : (s.vector a b c).fabric = s.fabric := (State.vector_eventOnly s a b c).fabric
@[simp] theorem State.vector_mem (s : State) (a b c : Nat) : (s.vector a b c).mem = s.mem := (State.vector_eventOnly s a b c).mem
@[simp] theorem State.vector_engines (s : State) (a b c : Nat) : (s.vector a b c).engines = s.engines := (State.vector_eventOnly s a b c).engines
@[simp] theorem State.vector_sec (s : State) (a b c : Nat) : (s.vector a b c).sec = s.sec := (State.vector_eventOnly s a b c).sec
@[simp] theorem State.vector_journal (s : State) (a b c : Nat) : (s.vector a b c).journal = s.journal := (State.vector_eventOnly s a b c).journal
@[simp] theorem State.vector_power (s : State) (a b c : Nat) : (s.vector a b c).power = s.power := (State.vector_eventOnly s a b c).power

/-! ### The instant of a command -/

@[simp] theorem State.reach_pending (s : State) (t : Nat) : (s.reach t).pending = s.pending := rfl
@[simp] theorem State.reach_out (s : State) (t : Nat) : (s.reach t).out = [] := rfl
@[simp] theorem State.reach_draws (s : State) (t : Nat) : (s.reach t).draws = s.draws := rfl
@[simp] theorem State.reach_now (s : State) (t : Nat) : (s.reach t).now = max s.now t := rfl
@[simp] theorem State.reach_dict (s : State) (t : Nat) : (s.reach t).dict = s.dict := rfl
@[simp] theorem State.reach_hier (s : State) (t : Nat) : (s.reach t).hier = s.hier := rfl
@[simp] theorem State.reach_time (s : State) (t : Nat) : (s.reach t).time = s.time.advance (max s.now t - s.now) := rfl
@[simp] theorem State.reach_act (s : State) (t : Nat) : (s.reach t).act = s.act := rfl
@[simp] theorem State.reach_hports (s : State) (t : Nat) : (s.reach t).hports = s.hports := rfl
@[simp] theorem State.reach_lanes (s : State) (t : Nat) : (s.reach t).lanes = s.lanes := rfl
@[simp] theorem State.reach_trunks (s : State) (t : Nat) : (s.reach t).trunks = s.trunks := rfl
@[simp] theorem State.reach_core (s : State) (t : Nat) : (s.reach t).core = s.core := rfl
@[simp] theorem State.reach_parts (s : State) (t : Nat) : (s.reach t).parts = s.parts := rfl
@[simp] theorem State.reach_shared (s : State) (t : Nat) : (s.reach t).shared = s.shared := rfl
@[simp] theorem State.reach_gates (s : State) (t : Nat) : (s.reach t).gates = s.gates := rfl
@[simp] theorem State.reach_fabric (s : State) (t : Nat) : (s.reach t).fabric = s.fabric := rfl
@[simp] theorem State.reach_mem (s : State) (t : Nat) : (s.reach t).mem = s.mem := rfl
@[simp] theorem State.reach_engines (s : State) (t : Nat) : (s.reach t).engines = s.engines := rfl
@[simp] theorem State.reach_faults (s : State) (t : Nat) : (s.reach t).faults = s.faults := rfl
@[simp] theorem State.reach_bocel (s : State) (t : Nat) : (s.reach t).bocel = s.bocel := rfl
@[simp] theorem State.reach_sec (s : State) (t : Nat) : (s.reach t).sec = s.sec := rfl
@[simp] theorem State.reach_journal (s : State) (t : Nat) : (s.reach t).journal = s.journal := rfl
@[simp] theorem State.reach_power (s : State) (t : Nat) : (s.reach t).power = s.power := rfl
@[simp] theorem State.reach_counters (s : State) (t : Nat) : (s.reach t).counters = s.counters := rfl

/-- What time brings beyond the instant itself is the business of counters and their events. -/
theorem State.tick_eventOnly (s : State) (t : Nat) : (s.reach t).EventOnly (s.tick t) :=
  State.each_eventOnly _ _ (fun s n => s.addCounterEv_eventOnly n _) _

@[simp] theorem State.tick_pending (s : State) (t : Nat) : (s.tick t).pending = s.pending := by
  rw [s.tick_eventOnly t]; rfl
@[simp] theorem State.tick_draws (s : State) (t : Nat) : (s.tick t).draws = s.draws := by
  rw [s.tick_eventOnly t]; rfl
@[simp] theorem State.tick_now (s : State) (t : Nat) : (s.tick t).now = max s.now t := by
  rw [s.tick_eventOnly t]; rfl
@[simp] theorem State.tick_dict (s : State) (t : Nat) : (s.tick t).dict = s.dict := by
  rw [s.tick_eventOnly t]; rfl
@[simp] theorem State.tick_hier (s : State) (t : Nat) : (s.tick t).hier = s.hier := by
  rw [s.tick_eventOnly t]; rfl
@[simp] theorem State.tick_time (s : State) (t : Nat) : (s.tick t).time = s.time.advance (max s.now t - s.now) := by
  rw [s.tick_eventOnly t]; rfl
@[simp] theorem State.tick_act (s : State) (t : Nat) : (s.tick t).act = s.act := by
  rw [s.tick_eventOnly t]; rfl
@[simp] theorem State.tick_hports (s : State) (t : Nat) : (s.tick t).hports = s.hports := by
  rw [s.tick_eventOnly t]; rfl
@[simp] theorem State.tick_lanes (s : State) (t : Nat) : (s.tick t).lanes = s.lanes := by
  rw [s.tick_eventOnly t]; rfl
@[simp] theorem State.tick_trunks (s : State) (t : Nat) : (s.tick t).trunks = s.trunks := by
  rw [s.tick_eventOnly t]; rfl
@[simp] theorem State.tick_core (s : State) (t : Nat) : (s.tick t).core = s.core := by
  rw [s.tick_eventOnly t]; rfl
@[simp] theorem State.tick_shared (s : State) (t : Nat) : (s.tick t).shared = s.shared := by
  rw [s.tick_eventOnly t]; rfl
@[simp] theorem State.tick_gates (s : State) (t : Nat) : (s.tick t).gates = s.gates := by
  rw [s.tick_eventOnly t]; rfl
@[simp] theorem State.tick_fabric (s : State) (t : Nat) : (s.tick t).fabric = s.fabric := by
  rw [s.tick_eventOnly t]; rfl
@[simp] theorem State.tick_mem (s : State) (t : Nat) : (s.tick t).mem = s.mem := by
  rw [s.tick_eventOnly t]; rfl
@[simp] theorem State.tick_engines (s : State) (t : Nat) : (s.tick t).engines = s.engines := by
  rw [s.tick_eventOnly t]; rfl
@[simp] theorem State.tick_sec (s : State) (t : Nat) : (s.tick t).sec = s.sec := by
  rw [s.tick_eventOnly t]; rfl
@[simp] theorem State.tick_journal (s : State) (t : Nat) : (s.tick t).journal = s.journal := by
  rw [s.tick_eventOnly t]; rfl
@[simp] theorem State.tick_power (s : State) (t : Nat) : (s.tick t).power = s.power := by
  rw [s.tick_eventOnly t]; rfl

/-- Where no counter selects an event that time brings, nothing but the instant changes. -/
theorem State.tick_calm (s : State) (t : Nat) (h : s.selected = []) : s.tick t = s.reach t := by
  simp [State.tick, h, State.each]

end Sys2Proof.Machine
end

