-- ==== Sys2Proof/Laws/Stores.lean ====
section
/-! SUPPORT. The sparse stores: what a write does to a read, and that every operation keeps the canonical form. -/

namespace Sys2Proof.Machine

/-! ### Sorted stores -/

/-- The canonical order, as a relation between any two entries. -/
theorem sortedKeys_iff {α : Type} (l : List (Nat × α)) : sortedKeys l = true ↔ l.Pairwise (fun a b => a.1 < b.1) := by
  induction l with
  | nil => simp [sortedKeys]
  | cons a l ih =>
    cases l with
    | nil => simp [sortedKeys]
    | cons b l =>
      rw [sortedKeys, Bool.and_eq_true, ih, List.pairwise_cons (l := b :: l)]
      simp only [decide_eq_true_eq]
      constructor
      · rintro ⟨h, k⟩
        refine ⟨fun c hc => ?_, k⟩
        rcases List.mem_cons.1 hc with rfl | hc
        · exact h
        · exact Nat.lt_trans h ((List.pairwise_cons.1 k).1 c hc)
      · rintro ⟨h, k⟩
        exact ⟨h b (List.mem_cons_self ..), k⟩

theorem sortedKeys_sublist {α : Type} {l m : List (Nat × α)} (h : l.Sublist m) (k : sortedKeys m = true) : sortedKeys l = true := by
  rw [sortedKeys_iff] at *
  exact k.sublist h

theorem sortedErase_sublist {α : Type} (l : List (Nat × α)) (a : Nat) : (sortedErase l a).Sublist l := by
  induction l with
  | nil => exact List.Sublist.refl _
  | cons e l ih =>
    unfold sortedErase
    split
    · exact List.sublist_cons_self _ _
    · exact ih.cons_cons _

/-- What stands in a store after a write: the new entry, or an old one. -/
theorem mem_sortedPut {α : Type} {l : List (Nat × α)} {a : Nat} {v : α} {e : Nat × α} (h : e ∈ sortedPut l a v) :
    e = (a, v) ∨ (e ∈ l ∧ e.1 ≠ a) ∨ (e ∈ l ∧ sortedKeys l = false) := by
  induction l with
  | nil => simpa [sortedPut] using h
  | cons x l ih =>
    unfold sortedPut at h
    by_cases ord : sortedKeys (x :: l) = true
    · have p := (sortedKeys_iff _).1 ord
      have q := List.pairwise_cons.1 p
      have ord' : sortedKeys l = true := (sortedKeys_iff _).2 q.2
      split at h
      · rename_i lt
        rcases List.mem_cons.1 h with rfl | h
        · exact .inl rfl
        · refine .inr (.inl ⟨h, ?_⟩)
          rcases List.mem_cons.1 h with rfl | h
          · exact Nat.ne_of_gt lt
          · exact Nat.ne_of_gt (Nat.lt_trans lt (q.1 e h))
      · split at h
        · rename_i nlt eq
          rcases List.mem_cons.1 h with rfl | h
          · exact .inl rfl
          · refine .inr (.inl ⟨List.mem_cons_of_mem _ h, ?_⟩)
            have := q.1 e h
            subst eq
            exact Nat.ne_of_gt this
        · rename_i nlt ne
          rcases List.mem_cons.1 h with rfl | h
          · exact .inr (.inl ⟨List.mem_cons_self .., fun k => ne k.symm⟩)
          · rcases ih h with k | k | k
            · exact .inl k
            · exact .inr (.inl ⟨List.mem_cons_of_mem _ k.1, k.2⟩)
            · rw [ord'] at k
              exact absurd k.2 (by decide)
    · have ord' : sortedKeys (x :: l) = false := by simpa using ord
      split at h
      · rcases List.mem_cons.1 h with rfl | h
        · exact .inl rfl
        · exact .inr (.inr ⟨h, ord'⟩)
      · split at h
        · rcases List.mem_cons.1 h with rfl | h
          · exact .inl rfl
          · exact .inr (.inr ⟨List.mem_cons_of_mem _ h, ord'⟩)
        · rcases List.mem_cons.1 h with rfl | h
          · exact .inr (.inr ⟨List.mem_cons_self .., ord'⟩)
          · rcases ih h with k | k | k
            · exact .inl k
            · exact .inr (.inr ⟨List.mem_cons_of_mem _ k.1, ord'⟩)
            · exact .inr (.inr ⟨List.mem_cons_of_mem _ k.1, ord'⟩)

theorem sortedKeys_put {α : Type} (l : List (Nat × α)) (a : Nat) (v : α) (h : sortedKeys l = true) : sortedKeys (sortedPut l a v) = true := by
  induction l with
  | nil => rfl
  | cons x l ih =>
    have p := List.pairwise_cons.1 ((sortedKeys_iff _).1 h)
    have h' : sortedKeys l = true := (sortedKeys_iff _).2 p.2
    unfold sortedPut
    split
    · rename_i lt
      rw [sortedKeys_iff, List.pairwise_cons]
      refine ⟨fun e he => ?_, (sortedKeys_iff _).1 h⟩
      rcases List.mem_cons.1 he with rfl | he
      · exact lt
      · exact Nat.lt_trans lt (p.1 e he)
    · split
      · rename_i nlt eq
        rw [sortedKeys_iff, List.pairwise_cons]
        subst eq
        exact ⟨p.1, p.2⟩
      · rename_i nlt ne
        rw [sortedKeys_iff, List.pairwise_cons]
        refine ⟨fun e he => ?_, (sortedKeys_iff _).1 (ih h')⟩
        rcases mem_sortedPut he with rfl | k | k
        · exact Nat.lt_of_le_of_ne (Nat.le_of_not_lt nlt) (fun k => ne k.symm)
        · exact p.1 e k.1
        · rw [h'] at k
          exact absurd k.2 (by decide)

/-- A filtered store keeps its order. -/
theorem sortedKeys_filter {α : Type} (l : List (Nat × α)) (f : Nat × α → Bool) (h : sortedKeys l = true) : sortedKeys (l.filter f) = true :=
  sortedKeys_sublist List.filter_sublist h

/-! ### The dictionary -/

theorem dictWf_nil : dictWf [] = true := rfl

/-- Storing a value keeps the dictionary's canonical form. -/
theorem dictWf_put (d : List (Nat × Nat)) (key v : Nat) (h : dictWf d = true) : dictWf (dictPut d key v) = true := by
  unfold dictWf at *
  rw [Bool.and_eq_true, List.all_eq_true] at *
  unfold dictPut
  split
  · exact ⟨sortedKeys_sublist (sortedErase_sublist _ _) h.1, fun e he => h.2 e ((sortedErase_sublist _ _).subset he)⟩
  · rename_i ne
    refine ⟨sortedKeys_put _ _ _ h.1, fun e he => ?_⟩
    rcases mem_sortedPut he with rfl | k | k
    · simpa using ne
    · exact h.2 e k.1
    · exact h.2 e k.1

/-- Storing many values, one after another. -/
theorem dictWf_foldl {α : Type} (l : List α) (f : List (Nat × Nat) → α → List (Nat × Nat)) (hf : ∀ d a, dictWf d = true → dictWf (f d a) = true)
    (d : List (Nat × Nat)) (h : dictWf d = true) : dictWf (l.foldl f d) = true := by
  induction l generalizing d with
  | nil => exact h
  | cons a l ih => exact ih (f d a) (hf d a h)

/-! ### Fabric memory's cells -/

/-- The canonical form of a list of cells: offsets rising, no byte that an unlisted offset reads as. -/
def cellsWf (l : List Host.Cell) : Bool := sortedKeys l && l.all (fun c => c.2 ≠ 0)

theorem cellsWf_put (l : List Host.Cell) (a : Nat) (b : Byte) (h : cellsWf l = true) : cellsWf (cellPut l a b) = true := by
  unfold cellsWf at *
  rw [Bool.and_eq_true, List.all_eq_true] at *
  unfold cellPut
  split
  · exact ⟨sortedKeys_sublist (sortedErase_sublist _ _) h.1, fun e he => h.2 e ((sortedErase_sublist _ _).subset he)⟩
  · rename_i ne
    refine ⟨sortedKeys_put _ _ _ h.1, fun e he => ?_⟩
    rcases mem_sortedPut he with rfl | k | k
    · simpa using ne
    · exact h.2 e k.1
    · exact h.2 e k.1

theorem cellsWf_puts (l : List Host.Cell) (a : Nat) (bs : List Byte) (h : cellsWf l = true) : cellsWf (cellsPut l a bs) = true := by
  induction bs generalizing l a with
  | nil => exact h
  | cons b bs ih => exact ih _ _ (cellsWf_put l a b h)

theorem cellsWf_filter (l : List Host.Cell) (f : Host.Cell → Bool) (h : cellsWf l = true) : cellsWf (l.filter f) = true := by
  unfold cellsWf at *
  rw [Bool.and_eq_true, List.all_eq_true] at *
  exact ⟨sortedKeys_filter l f h.1, fun e he => h.2 e (List.mem_of_mem_filter he)⟩

theorem cellsWf_clear (l : List Host.Cell) (a n : Nat) (h : cellsWf l = true) : cellsWf (cellsClear l a n) = true := cellsWf_filter l _ h

/-- The canonical form of the lines' owners. -/
def ownersWf (l : List (Nat × Owner)) : Bool := sortedKeys l && l.all (fun e => e.2 ≠ Owner.module)

theorem Memory.wf_iff (m : Memory) : m.wf = true ↔ cellsWf m.cells = true ∧ ownersWf m.owners = true := by
  unfold Memory.wf cellsWf ownersWf
  rw [Bool.and_eq_true]
  rfl

theorem ownersWf_set (m : Memory) (n : Nat) (o : Owner) (h : ownersWf m.owners = true) : ownersWf (m.setOwner n o).owners = true := by
  unfold Memory.setOwner ownersWf at *
  rw [Bool.and_eq_true, List.all_eq_true] at *
  dsimp only
  split
  · exact ⟨sortedKeys_sublist (sortedErase_sublist _ _) h.1, fun e he => h.2 e ((sortedErase_sublist _ _).mem he)⟩
  · rename_i k
    refine ⟨sortedKeys_put _ _ _ h.1, fun e he => ?_⟩
    rcases mem_sortedPut he with rfl | he
    · simpa using k
    · exact h.2 e (he.elim And.left And.left)

theorem Memory.wf_setOwner (m : Memory) (n : Nat) (o : Owner) (h : m.wf = true) : (m.setOwner n o).wf = true :=
  (Memory.wf_iff _).2 ⟨((Memory.wf_iff _).1 h).1, ownersWf_set m n o ((Memory.wf_iff _).1 h).2⟩

end Sys2Proof.Machine
end

