-- ==== Sys2Proof/Laws/KeepBase.lean ====
section
/-! SUPPORT. The invariant and the passing of time through the smallest operations. -/

namespace Sys2Proof.Machine

/-- What a state had reached: its local count, whether it was in test mode, whether the F4 latch held. -/
structure Mark where
  now : Nat
  test : Bool
  latch : Bool

/-- What must not be lost: the local count does not run back, test mode is not left, the F4 latch holds. -/
structure State.Reached (n : Mark) (s : State) : Prop where
  now : n.now ≤ s.now
  test : n.test = true → s.sec.testMode = true
  latch : n.latch = true → s.faults.crown = .f4Latched

/-- The invariant holds, and nothing has been lost that had been reached. -/
def State.Ok (n : Mark) (s : State) : Prop := s.Inv ∧ s.Reached n

/-- A state that differs in nothing that the invariant looks at. -/
theorem State.Ok.same {n : Mark} {s t : State} (d : t.dict = s.dict) (b : t.journal.base = s.journal.base) (m : t.mem.cells = s.mem.cells) (o : t.mem.owners = s.mem.owners)
    (c : t.counters.values = s.counters.values) (l1 : t.trunks.length = s.trunks.length) (l2 : t.hports.length = s.hports.length)
    (l3 : t.lanes.length = s.lanes.length) (l4 : t.parts.length = s.parts.length) (l5 : t.shared.length = s.shared.length)
    (w : t.now = s.now) (x : t.sec.testMode = s.sec.testMode) (y : t.faults.crown = s.faults.crown) (h : s.Ok n) : t.Ok n := by
  obtain ⟨⟨h1, h2, h3, h4, h5, h6, h7, h8, h9⟩, h10, h11, h12⟩ := h
  refine ⟨⟨?_, ?_, ?_, ?_, ?_, ?_, ?_, ?_, ?_⟩, ?_, ?_, ?_⟩
  · rw [d]; exact h1
  · rw [b]; exact h2
  · unfold Memory.wf at *; rw [m, o]; exact h3
  · rw [c]; exact h4
  · rw [l1]; exact h5
  · rw [l2]; exact h6
  · rw [l3]; exact h7
  · rw [l4]; exact h8
  · rw [l5]; exact h9
  · rw [w]; exact h10
  · rw [x]; exact h11
  · rw [y]; exact h12

theorem State.Ok.dict {n : Mark} {s : State} (h : s.Ok n) : dictWf s.dict = true := h.1.dict
theorem State.Ok.base {n : Mark} {s : State} (h : s.Ok n) : dictWf s.journal.base = true := h.1.base

/-- A step of a proof: a state that is named and of which only the invariant is kept. -/
theorem State.Ok.cut {n : Mark} {p : Prop} (z : State) (k : z.Ok n → p) (h : z.Ok n) : p := k h

/-- The same for a state paired with something. -/
theorem State.Ok.cutPair {n : Mark} {p : Prop} {α : Type} (z : State × α) (k : z.1.Ok n → p) (h : z.1.Ok n) : p := k h

/-- A state written out, with what the invariant looks at as it was. -/
theorem State.Ok.lit {n : Mark} {s : State} (pending : List Instr) (out : List Output) (draws : Nat) (hier : Hier) (time : TimeUnit) (act : Activation) (core : Core) (gates : Gates) (fabric : Fabric) (mem : Memory) (engines : Engines) (faults : Faults) (bocel : Bocel) (sec : Security) (journal : Journal) (power : Power) (counters : Counters)
    (b : journal.base = s.journal.base) (m : mem.cells = s.mem.cells) (o : mem.owners = s.mem.owners) (c : counters.values = s.counters.values)
    (x : sec.testMode = s.sec.testMode) (y : faults.crown = s.faults.crown) (h : s.Ok n) :
    State.Ok n { pending := pending, out := out, draws := draws, now := s.now, dict := s.dict, hier := hier, time := time, act := act, hports := s.hports, lanes := s.lanes, trunks := s.trunks, core := core, parts := s.parts, shared := s.shared, gates := gates, fabric := fabric, mem := mem, engines := engines, faults := faults, bocel := bocel, sec := sec, journal := journal, power := power, counters := counters } :=
  .same (s := s) rfl b m o c rfl rfl rfl rfl rfl rfl x y h

/-- The same for a function of a state that is named. -/
theorem State.Ok.cutFun {n : Mark} {p : Prop} (z : State → State) (k : (∀ s, s.Ok n → (z s).Ok n) → p) (h : ∀ s, s.Ok n → (z s).Ok n) : p := k h

/-- The same for a function of a state and one value. -/
theorem State.Ok.cutFun2 {n : Mark} {p : Prop} {α : Type} (z : State → α → State) (k : (∀ s a, s.Ok n → (z s a).Ok n) → p)
    (h : ∀ s a, s.Ok n → (z s a).Ok n) : p := k h

/-- The same for a function of a value and a state. -/
theorem State.Ok.cutFun3 {n : Mark} {p : Prop} {α : Type} (z : α → State → State) (k : (∀ a s, s.Ok n → (z a s).Ok n) → p)
    (h : ∀ a s, s.Ok n → (z a s).Ok n) : p := k h

/-- The same for a function of a state and two values. -/
theorem State.Ok.cutFun4 {n : Mark} {p : Prop} {α β : Type} (z : State → α → β → State) (k : (∀ s a b, s.Ok n → (z s a b).Ok n) → p)
    (h : ∀ s a b, s.Ok n → (z s a b).Ok n) : p := k h

/-- The same for a state that depends on a value. -/
theorem State.Ok.cutFun5 {n : Mark} {p : Prop} {α : Type} (z : α → State) (k : (∀ a, (z a).Ok n) → p) (h : ∀ a, (z a).Ok n) : p := k h

/-- The same for a state that depends on two values. -/
theorem State.Ok.cutFun6 {n : Mark} {p : Prop} {α β : Type} (z : α → β → State) (k : (∀ a b, (z a b).Ok n) → p) (h : ∀ a b, (z a b).Ok n) : p := k h

/-- The same for a function of three values and a state. -/
theorem State.Ok.cutFun7 {n : Mark} {p : Prop} {α β γ : Type} (z : α → β → γ → State → State)
    (k : (∀ a b c s, s.Ok n → (z a b c s).Ok n) → p) (h : ∀ a b c s, s.Ok n → (z a b c s).Ok n) : p := k h

theorem State.Ok.ite {n : Mark} {c : Prop} [Decidable c] {a b : State} (h : a.Ok n) (k : b.Ok n) : (if c then a else b).Ok n := by
  split <;> assumption

theorem State.Ok.iteFst {n : Mark} {α : Type} {c : Prop} [Decidable c] {a b : State × α} (h : a.1.Ok n) (k : b.1.Ok n) :
    (if c then a else b).1.Ok n := by
  split <;> assumption

theorem State.modTrunk_ok {n : Mark} {s : State} (q : Nat) (f : Trunk → Trunk) (h : s.Ok n) : (s.modTrunk q f).Ok n :=
  .same (s := s) rfl rfl rfl rfl rfl (List.length_modify ..) rfl rfl rfl rfl rfl rfl rfl h
theorem State.modHPort_ok {n : Mark} {s : State} (q : Nat) (f : HPort → HPort) (h : s.Ok n) : (s.modHPort q f).Ok n :=
  .same (s := s) rfl rfl rfl rfl rfl rfl (List.length_modify ..) rfl rfl rfl rfl rfl rfl h
theorem State.modLane_ok {n : Mark} {s : State} (q : Nat) (f : HLane → HLane) (h : s.Ok n) : (s.modLane q f).Ok n :=
  .same (s := s) rfl rfl rfl rfl rfl rfl rfl (List.length_modify ..) rfl rfl rfl rfl rfl h
theorem State.modPart_ok {n : Mark} {s : State} (q : Nat) (f : Part → Part) (h : s.Ok n) : (s.modPart q f).Ok n :=
  .same (s := s) rfl rfl rfl rfl rfl rfl rfl rfl (List.length_modify ..) rfl rfl rfl rfl h
theorem State.modShared_ok {n : Mark} {s : State} (q : Nat) (f : Shared → Shared) (h : s.Ok n) : (s.modShared q f).Ok n :=
  .same (s := s) rfl rfl rfl rfl rfl rfl rfl rfl rfl (List.length_modify ..) rfl rfl rfl h
theorem State.modMem_ok {n : Mark} {s : State} (f : Memory → Memory) (e : (f s.mem).cells = s.mem.cells)
    (o : (f s.mem).owners = s.mem.owners) (h : s.Ok n) : (s.modMem f).Ok n :=
  .same (s := s) rfl rfl e o rfl rfl rfl rfl rfl rfl rfl rfl rfl h
theorem State.modJournal_ok {n : Mark} {s : State} (f : Journal → Journal) (e : (f s.journal).base = s.journal.base) (h : s.Ok n) :
    (s.modJournal f).Ok n :=
  .same (s := s) rfl e rfl rfl rfl rfl rfl rfl rfl rfl rfl rfl rfl h
theorem State.modCounters_ok {n : Mark} {s : State} (f : Counters → Counters) (e : (f s.counters).values = s.counters.values) (h : s.Ok n) :
    (s.modCounters f).Ok n :=
  .same (s := s) rfl rfl rfl rfl e rfl rfl rfl rfl rfl rfl rfl rfl h

theorem State.modSec_ok {n : Mark} {s : State} (f : Security → Security) (e : (f s.sec).testMode = s.sec.testMode) (h : s.Ok n) :
    (s.modSec f).Ok n :=
  .same (s := s) rfl rfl rfl rfl rfl rfl rfl rfl rfl rfl rfl e rfl h
theorem State.modFaults_ok {n : Mark} {s : State} (f : Faults → Faults) (e : (f s.faults).crown = s.faults.crown) (h : s.Ok n) :
    (s.modFaults f).Ok n :=
  .same (s := s) rfl rfl rfl rfl rfl rfl rfl rfl rfl rfl rfl rfl e h

/-- The F4 latch is taken. -/
theorem State.modFaults_latch {n : Mark} {s : State} (f : Faults → Faults) (e : (f s.faults).crown = .f4Latched) (h : s.Ok n) :
    (s.modFaults f).Ok n :=
  ⟨⟨h.1.dict, h.1.base, h.1.mem, h.1.counters, h.1.trunks, h.1.hports, h.1.lanes, h.1.parts, h.1.shared⟩, h.2.1, h.2.2, fun _ => e⟩

/-- Where the latch is not held nothing is lost of it. -/
theorem State.modFaults_free {n : Mark} {s : State} (f : Faults → Faults) (e : n.latch = false) (h : s.Ok n) :
    (s.modFaults f).Ok n :=
  ⟨⟨h.1.dict, h.1.base, h.1.mem, h.1.counters, h.1.trunks, h.1.hports, h.1.lanes, h.1.parts, h.1.shared⟩, h.2.1, h.2.2,
    fun k => absurd (e.symm.trans k) Bool.false_ne_true⟩

/-- Where the crown is not latched no latch had been reached. -/
theorem State.Ok.unlatched {n : Mark} {s : State} (h : s.Ok n) (e : s.faults.crown ≠ .f4Latched) : n.latch = false := by
  cases k : n.latch with
  | false => rfl
  | true => exact absurd (h.2.latch k) e

/-- New bytes in fabric memory, in the canonical form. -/
theorem State.modMem_cells_ok {n : Mark} {s : State} (f : Memory → Memory) (e : s.mem.wf = true → (f s.mem).wf = true)
    (h : s.Ok n) : (s.modMem f).Ok n :=
  ⟨⟨h.1.dict, h.1.base, e h.1.mem, h.1.counters, h.1.trunks, h.1.hports, h.1.lanes, h.1.parts, h.1.shared⟩, h.2.1, h.2.2, h.2.3⟩

/-- New counter values, in order. -/
theorem State.modCounters_values_ok {n : Mark} {s : State} (f : Counters → Counters)
    (e : sortedKeys s.counters.values = true → sortedKeys (f s.counters).values = true) (h : s.Ok n) : (s.modCounters f).Ok n :=
  ⟨⟨h.1.dict, h.1.base, h.1.mem, e h.1.counters, h.1.trunks, h.1.hports, h.1.lanes, h.1.parts, h.1.shared⟩, h.2.1, h.2.2, h.2.3⟩

/-- New values in the journal's snapshot, in the canonical form. -/
theorem State.journal_ok {n : Mark} {s : State} (f : Journal → Journal) (e : dictWf s.journal.base = true → dictWf (f s.journal).base = true)
    (h : s.Ok n) : (s.modJournal f).Ok n :=
  ⟨⟨h.1.dict, e h.1.base, h.1.mem, h.1.counters, h.1.trunks, h.1.hports, h.1.lanes, h.1.parts, h.1.shared⟩, h.2.1, h.2.2, h.2.3⟩

/-- A new dictionary in the canonical form. -/
theorem State.dict_ok {n : Mark} {s : State} (d : List (Nat × Nat)) (e : dictWf d = true) (h : s.Ok n) : State.Ok n { s with dict := d } :=
  ⟨⟨e, h.1.base, h.1.mem, h.1.counters, h.1.trunks, h.1.hports, h.1.lanes, h.1.parts, h.1.shared⟩, h.2.1, h.2.2, h.2.3⟩

theorem State.set_ok {n : Mark} {s : State} (key v : Nat) (h : s.Ok n) : (s.set key v).Ok n :=
  State.dict_ok _ (dictWf_put _ key v h.1.dict) h

theorem State.each_ok {n : Mark} {α : Type} {s : State} (l : List α) (f : State → α → State) (hf : ∀ s a, s.Ok n → (f s a).Ok n) (h : s.Ok n) :
    (s.each l f).Ok n := by
  unfold State.each
  induction l generalizing s with
  | nil => exact h
  | cons a l ih => exact ih (hf s a h)

theorem State.when_ok {n : Mark} {s : State} (c : Bool) (f : State → State) (hf : ∀ s, s.Ok n → (f s).Ok n) (h : s.Ok n) : (s.when c f).Ok n := by
  unfold State.when
  split
  · exact hf s h
  · exact h

/-- A fold over a state. -/
theorem foldlState_ok {n : Mark} {α : Type} (l : List α) (f : State → α → State) (hf : ∀ s a, s.Ok n → (f s a).Ok n) (s : State) (h : s.Ok n) :
    (l.foldl f s).Ok n := State.each_ok l f hf h

/-- A fold over a state paired with something. -/
theorem foldl_ok {n : Mark} {α β : Type} (l : List α) (f : State × β → α → State × β) (hf : ∀ p a, p.1.Ok n → (f p a).1.Ok n) (p : State × β)
    (h : p.1.Ok n) : (l.foldl f p).1.Ok n := by
  induction l generalizing p with
  | nil => exact h
  | cons a l ih => exact ih _ (hf p a h)

/-- Taking the state out of a pair that is named. -/
theorem State.Ok.ofPair {n : Mark} {α : Type} {p : State × α} {s : State} {a : α} (e : p = (s, a)) (h : p.1.Ok n) : s.Ok n := by
  subst e
  exact h

/-- Taking the state out of an optional one. -/
theorem State.Ok.orElse {n : Mark} {o : Option State} {s : State} (h : ∀ t, o = some t → t.Ok n) (k : s.Ok n) : (o.getD s).Ok n := by
  cases o with
  | none => exact k
  | some t => exact h t rfl

/-- Merging bytes into a line keeps the canonical form of fabric memory. -/
theorem wf_merge (m : Memory) (same : Bool) (o : Owner) (a : Nat) (data : List Byte) (h : m.wf = true) :
    (m.mergeBytes same o a data).wf = true := by
  unfold Memory.mergeBytes
  have k := (Memory.wf_iff _).1 h
  refine (Memory.wf_iff _).2 ⟨cellsWf_puts _ _ _ ?_, ownersWf_set _ _ _ k.2⟩
  split
  · exact k.1
  · exact cellsWf_clear _ _ _ k.1

/-- Writing a line keeps it. -/
theorem wf_line (m : Memory) (a n : Nat) (o : Owner) (data : List Byte) (h : m.wf = true) :
    (Memory.setOwner { m with cells := cellsPut m.cells a data } n o).wf = true :=
  have k := (Memory.wf_iff _).1 h
  (Memory.wf_iff _).2 ⟨cellsWf_puts _ _ _ k.1, ownersWf_set _ _ _ k.2⟩

/-- Forgetting lines keeps it. -/
theorem wf_filter (m m' : Memory) (f : Host.Cell → Bool) (g : Nat × Owner → Bool) (e1 : m'.cells = m.cells.filter f)
    (e2 : m'.owners = m.owners.filter g) (h : m.wf = true) : m'.wf = true := by
  have k := (Memory.wf_iff _).1 h
  refine (Memory.wf_iff _).2 ⟨e1 ▸ cellsWf_filter _ f k.1, e2 ▸ ?_⟩
  have k2 := k.2
  unfold ownersWf at *
  rw [Bool.and_eq_true, List.all_eq_true] at *
  exact ⟨sortedKeys_filter _ g k2.1, fun e he => k2.2 e (List.mem_of_mem_filter he)⟩

/-! ### Optional states and refusals -/

/-- The invariant of a state, if there is one. -/
structure State.OkO (n : Mark) (o : Option State) : Prop where
  of_eq : ∀ t, o = some t → t.Ok n
/-- The same of a state paired with something. -/
structure State.OkOP (n : Mark) {α : Type} (o : Option (State × α)) : Prop where
  of_eq : ∀ t, o = some t → t.1.Ok n
/-- The same of a state or a refusal. -/
structure State.OkE (n : Mark) {α : Type} (o : Except α State) : Prop where
  of_eq : ∀ t, o = .ok t → t.Ok n

theorem State.OkO.none_ {n : Mark} : State.OkO n none := ⟨fun _ h => nomatch h⟩
theorem State.OkO.some_ {n : Mark} {s : State} (h : s.Ok n) : State.OkO n (some s) := ⟨fun t e => by cases e; exact h⟩
theorem State.OkO.get {n : Mark} {o : Option State} {s : State} (h : State.OkO n o) (e : o = some s) : s.Ok n := h.of_eq s e
theorem State.OkO.getD {n : Mark} {o : Option State} {s : State} (h : State.OkO n o) (k : s.Ok n) : (o.getD s).Ok n := .orElse h.of_eq k
theorem State.OkOP.none_ {n : Mark} {α : Type} : State.OkOP n (none : Option (State × α)) := ⟨fun _ h => nomatch h⟩
theorem State.OkOP.some_ {n : Mark} {α : Type} {p : State × α} (h : p.1.Ok n) : State.OkOP n (some p) := ⟨fun t e => by cases e; exact h⟩
theorem State.OkOP.get {n : Mark} {α : Type} {o : Option (State × α)} {p : State × α} (h : State.OkOP n o) (e : o = some p) : p.1.Ok n := h.of_eq p e
theorem State.OkOP.getPair {n : Mark} {α : Type} {o : Option (State × α)} {s : State} {a : α} (h : State.OkOP n o) (e : o = some (s, a)) :
    s.Ok n := h.of_eq (s, a) e
theorem State.OkOP.map_ {n : Mark} {α β : Type} {o : Option (State × α)} {f : State × α → State × β} (hf : ∀ p, p.1.Ok n → (f p).1.Ok n)
    (h : State.OkOP n o) : State.OkOP n (o.map f) := by
  refine ⟨fun t e => ?_⟩
  cases o with
  | none => cases e
  | some p =>
    cases e
    exact hf p (h.of_eq p rfl)
theorem State.OkO.mapPair {n : Mark} {β : Type} {o : Option State} {f : State → State × β} (hf : ∀ p, p.Ok n → (f p).1.Ok n)
    (h : State.OkO n o) : State.OkOP n (o.map f) := by
  refine ⟨fun t e => ?_⟩
  cases o with
  | none => cases e
  | some p =>
    cases e
    exact hf p (h.of_eq p rfl)
theorem State.OkOP.orElse_ {n : Mark} {α : Type} {o : Option (State × α)} {f : Unit → Option (State × α)} (h : State.OkOP n o)
    (hf : State.OkOP n (f ())) : State.OkOP n (o.orElse f) := by
  refine ⟨fun t e => ?_⟩
  cases o with
  | none => exact hf.of_eq t e
  | some p => exact h.of_eq t e
theorem State.OkE.error_ {n : Mark} {α : Type} {a : α} : State.OkE n (.error a : Except α State) := ⟨fun _ h => nomatch h⟩
theorem State.OkE.ok_ {n : Mark} {α : Type} {s : State} (h : s.Ok n) : State.OkE n (.ok s : Except α State) := ⟨fun t e => by cases e; exact h⟩
theorem State.OkE.get {n : Mark} {α : Type} {o : Except α State} {s : State} (h : State.OkE n o) (e : o = .ok s) : s.Ok n := h.of_eq s e

theorem State.OkO.ite_ {n : Mark} {c : Prop} [Decidable c] {a b : Option State} (h : State.OkO n a) (k : State.OkO n b) :
    State.OkO n (if c then a else b) := by
  split <;> assumption
theorem State.OkOP.ite_ {n : Mark} {α : Type} {c : Prop} [Decidable c] {a b : Option (State × α)} (h : State.OkOP n a) (k : State.OkOP n b) :
    State.OkOP n (if c then a else b) := by
  split <;> assumption
theorem State.OkE.ite_ {n : Mark} {α : Type} {c : Prop} [Decidable c] {a b : Except α State} (h : State.OkE n a) (k : State.OkE n b) :
    State.OkE n (if c then a else b) := by
  split <;> assumption

theorem dictWf_swapBanks (d : List (Nat × Nat)) (h : dictWf d = true) : dictWf (swapBanks d) = true := by
  unfold swapBanks
  have k : ∀ f : Nat × Nat → Bool, dictWf (d.filter f) = true := by
    intro f
    unfold dictWf at *
    rw [Bool.and_eq_true, List.all_eq_true] at *
    exact ⟨sortedKeys_filter d f h.1, fun e he => h.2 e (List.mem_of_mem_filter he)⟩
  exact dictWf_foldl _ _ (fun d a h => dictWf_put _ _ _ h) _ (dictWf_foldl _ _ (fun d a h => dictWf_put _ _ _ h) _ (k _))

theorem dictWf_replaySeq (d : List (Nat × Nat)) (a b : Nat) (h : dictWf d = true) : dictWf (replaySeq d a b) = true := by
  unfold replaySeq
  split
  · exact h
  · exact dictWf_put _ _ _ h

theorem dictWf_fireDict (d : List (Nat × Nat)) (c : ChangeSet) (h : dictWf d = true) : dictWf (fireDict d c) = true := by
  unfold fireDict replayStages
  have k : dictWf ((keysChanged d ((unusedBy d (c.stages.foldl (fun d b => dictPut d (256 * b.index + b.sub) b.value) d)).foldl
      (fun x p => dictPut x (Key.OP_KEY + p) 0) (c.stages.foldl (fun d b => dictPut d (256 * b.index + b.sub) b.value) d))).foldl (fun x k =>
        let x := dictPut x (keySeqKey (slotKeyId k)) 0
        if k < Key.OP_KEY + 64 then dictPut x (Key.OP_CONSENT + (k - Key.OP_KEY)) 0 else x)
      ((unusedBy d (c.stages.foldl (fun d b => dictPut d (256 * b.index + b.sub) b.value) d)).foldl
      (fun x p => dictPut x (Key.OP_KEY + p) 0) (c.stages.foldl (fun d b => dictPut d (256 * b.index + b.sub) b.value) d))) = true := by
    refine dictWf_foldl _ _ (fun d a h => ?_) _ (dictWf_foldl _ _ (fun d a h => dictWf_put _ _ _ h) _
      (dictWf_foldl _ _ (fun d a h => dictWf_put _ _ _ h) _ h))
    simp only []
    split
    · exact dictWf_put _ _ _ (dictWf_put _ _ _ h)
    · exact dictWf_put _ _ _ h
  simp only []
  split
  · exact dictWf_put _ _ _ k
  · exact k

theorem dictWf_replayOne (sets : List ChangeSet) (d : List (Nat × Nat)) (r : JRecord) (h : dictWf d = true) :
    dictWf (replayOne sets d r) = true := by
  unfold replayOne
  split
  · simp only []
    refine dictWf_replaySeq _ _ _ (dictWf_put _ _ _ ?_)
    split
    · exact dictWf_swapBanks d h
    · exact h
  · exact dictWf_replaySeq _ _ _ h
  · split
    · exact dictWf_fireDict _ _ h
    · exact h
  · exact dictWf_put _ _ _ h
  · exact h

/-- What replay leaves keeps the canonical form where the snapshot's values do. -/
theorem dictWf_replay (j : Journal) (h : dictWf j.base = true) : dictWf j.replay = true :=
  dictWf_foldl _ _ (fun d r k => dictWf_replayOne _ d r k) _ h

/-- What the boot record and a lost record change is not the snapshot's values. -/
theorem Journal.bootWrite_base (j : Journal) (a b : Nat) : (j.bootWrite a b).base = j.base := by
  unfold Journal.bootWrite
  split <;> rfl
theorem Journal.bootRead_base (j : Journal) (r : StartReads) : (j.bootRead r).base = j.base := by
  unfold Journal.bootRead
  split <;> rfl
theorem Journal.dropMaking_base (j : Journal) : j.dropMaking.base = j.base := by
  unfold Journal.dropMaking
  split <;> rfl

/-- Compaction keeps the canonical form of the snapshot's values. -/
theorem dictWf_compacted (j : Journal) (h : dictWf j.base = true) : dictWf j.compacted.base = true :=
  dictWf_foldl _ _ (fun d r k => dictWf_replayOne _ d r k) _ h

end Sys2Proof.Machine
end

