-- ==== Sys2Proof/Laws/KeepOps.lean ====
section
/-! SUPPORT. Every operation of Ops.lean keeps the invariant, and the local count does not run back. -/

set_option linter.all false

namespace Sys2Proof.Machine

theorem State.emit_ok (n : Mark) (a1 : State) (a2) (ha1 : a1.Ok n) : (State.emit a1 a2).Ok n := by
  unfold State.emit
  repeat' first
    | with_reducible assumption
    | intro _
    | (extract_lets +onlyGivenNames z; first | (refine State.Ok.cut (n := n) z ?_ ?_ <;> [(intro _; clear_value z); subst z]) | (refine State.Ok.cutPair (n := n) z ?_ ?_ <;> [(intro _; clear_value z); subst z]) | clear_value z)
    | with_reducible apply State.Ok.ite
    | split
    | (with_reducible refine State.Ok.lit _ _ _ _ _ _ _ _ _ _ _ _ _ _ _ _ _ rfl rfl rfl rfl rfl rfl ?_)

theorem State.emitAll_ok (n : Mark) (a1 : State) (a2) (ha1 : a1.Ok n) : (State.emitAll a1 a2).Ok n := by
  unfold State.emitAll
  repeat' first
    | with_reducible assumption
    | intro _
    | (extract_lets +onlyGivenNames z; first | (refine State.Ok.cut (n := n) z ?_ ?_ <;> [(intro _; clear_value z); subst z]) | (refine State.Ok.cutPair (n := n) z ?_ ?_ <;> [(intro _; clear_value z); subst z]) | clear_value z)
    | with_reducible apply State.Ok.ite
    | split
    | (with_reducible refine State.Ok.lit _ _ _ _ _ _ _ _ _ _ _ _ _ _ _ _ _ rfl rfl rfl rfl rfl rfl ?_)

theorem State.drew_ok (n : Mark) (a1 : State) (ha1 : a1.Ok n) : (State.drew a1).Ok n := by
  unfold State.drew
  repeat' first
    | with_reducible assumption
    | intro _
    | (extract_lets +onlyGivenNames z; first | (refine State.Ok.cut (n := n) z ?_ ?_ <;> [(intro _; clear_value z); subst z]) | (refine State.Ok.cutPair (n := n) z ?_ ?_ <;> [(intro _; clear_value z); subst z]) | clear_value z)
    | with_reducible apply State.Ok.ite
    | split
    | (with_reducible refine State.Ok.lit _ _ _ _ _ _ _ _ _ _ _ _ _ _ _ _ _ rfl rfl rfl rfl rfl rfl ?_)

theorem State.modTx_ok (n : Mark) (a1 : State) (a2) (a3) (ha1 : a1.Ok n) : (State.modTx a1 a2 a3).Ok n := by
  unfold State.modTx
  repeat' first
    | with_reducible assumption
    | intro _
    | (extract_lets +onlyGivenNames z; first | (refine State.Ok.cut (n := n) z ?_ ?_ <;> [(intro _; clear_value z); subst z]) | (refine State.Ok.cutPair (n := n) z ?_ ?_ <;> [(intro _; clear_value z); subst z]) | clear_value z)
    | with_reducible apply State.Ok.ite
    | with_reducible apply State.modTrunk_ok
    | split

theorem State.modRx_ok (n : Mark) (a1 : State) (a2) (a3) (ha1 : a1.Ok n) : (State.modRx a1 a2 a3).Ok n := by
  unfold State.modRx
  repeat' first
    | with_reducible assumption
    | intro _
    | (extract_lets +onlyGivenNames z; first | (refine State.Ok.cut (n := n) z ?_ ?_ <;> [(intro _; clear_value z); subst z]) | (refine State.Ok.cutPair (n := n) z ?_ ?_ <;> [(intro _; clear_value z); subst z]) | clear_value z)
    | with_reducible apply State.Ok.ite
    | with_reducible apply State.modTrunk_ok
    | split

theorem State.modTrain_ok (n : Mark) (a1 : State) (a2) (a3) (ha1 : a1.Ok n) : (State.modTrain a1 a2 a3).Ok n := by
  unfold State.modTrain
  repeat' first
    | with_reducible assumption
    | intro _
    | (extract_lets +onlyGivenNames z; first | (refine State.Ok.cut (n := n) z ?_ ?_ <;> [(intro _; clear_value z); subst z]) | (refine State.Ok.cutPair (n := n) z ?_ ?_ <;> [(intro _; clear_value z); subst z]) | clear_value z)
    | with_reducible apply State.Ok.ite
    | with_reducible apply State.modTrunk_ok
    | split

theorem State.modCore_ok (n : Mark) (a1 : State) (a2) (ha1 : a1.Ok n) : (State.modCore a1 a2).Ok n := by
  unfold State.modCore
  repeat' first
    | with_reducible assumption
    | intro _
    | (extract_lets +onlyGivenNames z; first | (refine State.Ok.cut (n := n) z ?_ ?_ <;> [(intro _; clear_value z); subst z]) | (refine State.Ok.cutPair (n := n) z ?_ ?_ <;> [(intro _; clear_value z); subst z]) | clear_value z)
    | with_reducible apply State.Ok.ite
    | split
    | (with_reducible refine State.Ok.lit _ _ _ _ _ _ _ _ _ _ _ _ _ _ _ _ _ rfl rfl rfl rfl rfl rfl ?_)

theorem State.modHier_ok (n : Mark) (a1 : State) (a2) (ha1 : a1.Ok n) : (State.modHier a1 a2).Ok n := by
  unfold State.modHier
  repeat' first
    | with_reducible assumption
    | intro _
    | (extract_lets +onlyGivenNames z; first | (refine State.Ok.cut (n := n) z ?_ ?_ <;> [(intro _; clear_value z); subst z]) | (refine State.Ok.cutPair (n := n) z ?_ ?_ <;> [(intro _; clear_value z); subst z]) | clear_value z)
    | with_reducible apply State.Ok.ite
    | split
    | (with_reducible refine State.Ok.lit _ _ _ _ _ _ _ _ _ _ _ _ _ _ _ _ _ rfl rfl rfl rfl rfl rfl ?_)

theorem State.modTime_ok (n : Mark) (a1 : State) (a2) (ha1 : a1.Ok n) : (State.modTime a1 a2).Ok n := by
  unfold State.modTime
  repeat' first
    | with_reducible assumption
    | intro _
    | (extract_lets +onlyGivenNames z; first | (refine State.Ok.cut (n := n) z ?_ ?_ <;> [(intro _; clear_value z); subst z]) | (refine State.Ok.cutPair (n := n) z ?_ ?_ <;> [(intro _; clear_value z); subst z]) | clear_value z)
    | with_reducible apply State.Ok.ite
    | split
    | (with_reducible refine State.Ok.lit _ _ _ _ _ _ _ _ _ _ _ _ _ _ _ _ _ rfl rfl rfl rfl rfl rfl ?_)

theorem State.modAct_ok (n : Mark) (a1 : State) (a2) (ha1 : a1.Ok n) : (State.modAct a1 a2).Ok n := by
  unfold State.modAct
  repeat' first
    | with_reducible assumption
    | intro _
    | (extract_lets +onlyGivenNames z; first | (refine State.Ok.cut (n := n) z ?_ ?_ <;> [(intro _; clear_value z); subst z]) | (refine State.Ok.cutPair (n := n) z ?_ ?_ <;> [(intro _; clear_value z); subst z]) | clear_value z)
    | with_reducible apply State.Ok.ite
    | split
    | (with_reducible refine State.Ok.lit _ _ _ _ _ _ _ _ _ _ _ _ _ _ _ _ _ rfl rfl rfl rfl rfl rfl ?_)

theorem State.modGates_ok (n : Mark) (a1 : State) (a2) (ha1 : a1.Ok n) : (State.modGates a1 a2).Ok n := by
  unfold State.modGates
  repeat' first
    | with_reducible assumption
    | intro _
    | (extract_lets +onlyGivenNames z; first | (refine State.Ok.cut (n := n) z ?_ ?_ <;> [(intro _; clear_value z); subst z]) | (refine State.Ok.cutPair (n := n) z ?_ ?_ <;> [(intro _; clear_value z); subst z]) | clear_value z)
    | with_reducible apply State.Ok.ite
    | split
    | (with_reducible refine State.Ok.lit _ _ _ _ _ _ _ _ _ _ _ _ _ _ _ _ _ rfl rfl rfl rfl rfl rfl ?_)

theorem State.modFabric_ok (n : Mark) (a1 : State) (a2) (ha1 : a1.Ok n) : (State.modFabric a1 a2).Ok n := by
  unfold State.modFabric
  repeat' first
    | with_reducible assumption
    | intro _
    | (extract_lets +onlyGivenNames z; first | (refine State.Ok.cut (n := n) z ?_ ?_ <;> [(intro _; clear_value z); subst z]) | (refine State.Ok.cutPair (n := n) z ?_ ?_ <;> [(intro _; clear_value z); subst z]) | clear_value z)
    | with_reducible apply State.Ok.ite
    | split
    | (with_reducible refine State.Ok.lit _ _ _ _ _ _ _ _ _ _ _ _ _ _ _ _ _ rfl rfl rfl rfl rfl rfl ?_)

theorem State.modEngines_ok (n : Mark) (a1 : State) (a2) (ha1 : a1.Ok n) : (State.modEngines a1 a2).Ok n := by
  unfold State.modEngines
  repeat' first
    | with_reducible assumption
    | intro _
    | (extract_lets +onlyGivenNames z; first | (refine State.Ok.cut (n := n) z ?_ ?_ <;> [(intro _; clear_value z); subst z]) | (refine State.Ok.cutPair (n := n) z ?_ ?_ <;> [(intro _; clear_value z); subst z]) | clear_value z)
    | with_reducible apply State.Ok.ite
    | split
    | (with_reducible refine State.Ok.lit _ _ _ _ _ _ _ _ _ _ _ _ _ _ _ _ _ rfl rfl rfl rfl rfl rfl ?_)

theorem State.modBocel_ok (n : Mark) (a1 : State) (a2) (ha1 : a1.Ok n) : (State.modBocel a1 a2).Ok n := by
  unfold State.modBocel
  repeat' first
    | with_reducible assumption
    | intro _
    | (extract_lets +onlyGivenNames z; first | (refine State.Ok.cut (n := n) z ?_ ?_ <;> [(intro _; clear_value z); subst z]) | (refine State.Ok.cutPair (n := n) z ?_ ?_ <;> [(intro _; clear_value z); subst z]) | clear_value z)
    | with_reducible apply State.Ok.ite
    | split
    | (with_reducible refine State.Ok.lit _ _ _ _ _ _ _ _ _ _ _ _ _ _ _ _ _ rfl rfl rfl rfl rfl rfl ?_)

theorem State.modPower_ok (n : Mark) (a1 : State) (a2) (ha1 : a1.Ok n) : (State.modPower a1 a2).Ok n := by
  unfold State.modPower
  repeat' first
    | with_reducible assumption
    | intro _
    | (extract_lets +onlyGivenNames z; first | (refine State.Ok.cut (n := n) z ?_ ?_ <;> [(intro _; clear_value z); subst z]) | (refine State.Ok.cutPair (n := n) z ?_ ?_ <;> [(intro _; clear_value z); subst z]) | clear_value z)
    | with_reducible apply State.Ok.ite
    | split
    | (with_reducible refine State.Ok.lit _ _ _ _ _ _ _ _ _ _ _ _ _ _ _ _ _ rfl rfl rfl rfl rfl rfl ?_)

theorem State.modSideband_ok (n : Mark) (a1 : State) (a2) (a3) (ha1 : a1.Ok n) : (State.modSideband a1 a2 a3).Ok n := by
  unfold State.modSideband
  repeat' first
    | with_reducible assumption
    | intro _
    | (extract_lets +onlyGivenNames z; first | (refine State.Ok.cut (n := n) z ?_ ?_ <;> [(intro _; clear_value z); subst z]) | (refine State.Ok.cutPair (n := n) z ?_ ?_ <;> [(intro _; clear_value z); subst z]) | clear_value z)
    | with_reducible apply State.Ok.ite
    | with_reducible apply State.modFabric_ok
    | split

theorem State.modSlot_ok (n : Mark) (a1 : State) (a2) (a3) (ha1 : a1.Ok n) : (State.modSlot a1 a2 a3).Ok n := by
  unfold State.modSlot
  repeat' first
    | with_reducible assumption
    | intro _
    | (extract_lets +onlyGivenNames z; first | (refine State.Ok.cut (n := n) z ?_ ?_ <;> [(intro _; clear_value z); subst z]) | (refine State.Ok.cutPair (n := n) z ?_ ?_ <;> [(intro _; clear_value z); subst z]) | clear_value z)
    | with_reducible apply State.Ok.ite
    | with_reducible apply State.modPower_ok
    | split

theorem State.driveOut_ok (n : Mark) (a1 : State) (a2) (a3) (a4) (ha1 : a1.Ok n) : (State.driveOut a1 a2 a3 a4).Ok n := by
  unfold State.driveOut
  repeat' first
    | with_reducible assumption
    | intro _
    | (extract_lets +onlyGivenNames z; first | (refine State.Ok.cut (n := n) z ?_ ?_ <;> [(intro _; clear_value z); subst z]) | (refine State.Ok.cutPair (n := n) z ?_ ?_ <;> [(intro _; clear_value z); subst z]) | clear_value z)
    | with_reducible apply State.Ok.ite
    | with_reducible apply State.emit_ok
    | split

theorem State.perst_ok (n : Mark) (a1 : State) (a2) (a3) (ha1 : a1.Ok n) : (State.perst a1 a2 a3).Ok n := by
  unfold State.perst
  repeat' first
    | with_reducible assumption
    | intro _
    | (extract_lets +onlyGivenNames z; first | (refine State.Ok.cut (n := n) z ?_ ?_ <;> [(intro _; clear_value z); subst z]) | (refine State.Ok.cutPair (n := n) z ?_ ?_ <;> [(intro _; clear_value z); subst z]) | clear_value z)
    | with_reducible apply State.Ok.ite
    | with_reducible apply State.driveOut_ok
    | with_reducible apply State.modSideband_ok
    | split

theorem State.modFn_ok (n : Mark) (a1 : State) (a2) (a3) (a4) (ha1 : a1.Ok n) : (State.modFn a1 a2 a3 a4).Ok n := by
  unfold State.modFn
  repeat' first
    | with_reducible assumption
    | intro _
    | (extract_lets +onlyGivenNames z; first | (refine State.Ok.cut (n := n) z ?_ ?_ <;> [(intro _; clear_value z); subst z]) | (refine State.Ok.cutPair (n := n) z ?_ ?_ <;> [(intro _; clear_value z); subst z]) | clear_value z)
    | with_reducible apply State.Ok.ite
    | with_reducible apply State.modPart_ok
    | split

theorem State.modVdp_ok (n : Mark) (a1 : State) (a2) (a3) (a4) (ha1 : a1.Ok n) : (State.modVdp a1 a2 a3 a4).Ok n := by
  unfold State.modVdp
  repeat' first
    | with_reducible assumption
    | intro _
    | (extract_lets +onlyGivenNames z; first | (refine State.Ok.cut (n := n) z ?_ ?_ <;> [(intro _; clear_value z); subst z]) | (refine State.Ok.cutPair (n := n) z ?_ ?_ <;> [(intro _; clear_value z); subst z]) | clear_value z)
    | with_reducible apply State.Ok.ite
    | with_reducible apply State.modPart_ok
    | split

theorem State.modBridge_ok (n : Mark) (a1 : State) (a2) (a3) (a4) (ha1 : a1.Ok n) : (State.modBridge a1 a2 a3 a4).Ok n := by
  unfold State.modBridge
  repeat' first
    | with_reducible assumption
    | intro _
    | (extract_lets +onlyGivenNames z; first | (refine State.Ok.cut (n := n) z ?_ ?_ <;> [(intro _; clear_value z); subst z]) | (refine State.Ok.cutPair (n := n) z ?_ ?_ <;> [(intro _; clear_value z); subst z]) | clear_value z)
    | with_reducible apply State.Ok.ite
    | with_reducible apply State.modPart_ok
    | with_reducible apply State.modVdp_ok
    | split

theorem State.actPut_ok (n : Mark) (a1 : State) (a2) (a3) (a4) (a5) (a6) (ha1 : a1.Ok n) : State.OkO n (State.actPut a1 a2 a3 a4 a5 a6) := by
  unfold State.actPut
  repeat' first
    | with_reducible assumption
    | intro _
    | (extract_lets +onlyGivenNames z; first | (refine State.Ok.cut (n := n) z ?_ ?_ <;> [(intro _; clear_value z); subst z]) | (refine State.Ok.cutPair (n := n) z ?_ ?_ <;> [(intro _; clear_value z); subst z]) | clear_value z)
    | with_reducible apply State.Ok.ite
    | with_reducible apply State.modAct_ok
    | with_reducible exact State.OkO.none_
    | with_reducible apply State.OkO.ite_
    | with_reducible apply State.OkO.some_
    | with_reducible apply State.OkO.getD
    | with_reducible apply State.OkO.mapPair
    | split

theorem State.actDrop_ok (n : Mark) (a1 : State) (a2) (ha1 : a1.Ok n) : (State.actDrop a1 a2).Ok n := by
  unfold State.actDrop
  repeat' first
    | with_reducible assumption
    | intro _
    | (extract_lets +onlyGivenNames z; first | (refine State.Ok.cut (n := n) z ?_ ?_ <;> [(intro _; clear_value z); subst z]) | (refine State.Ok.cutPair (n := n) z ?_ ?_ <;> [(intro _; clear_value z); subst z]) | clear_value z)
    | with_reducible apply State.Ok.ite
    | with_reducible apply State.modAct_ok
    | split

theorem State.actMark_ok (n : Mark) (a1 : State) (a2) (a3) (ha1 : a1.Ok n) : (State.actMark a1 a2 a3).Ok n := by
  unfold State.actMark
  repeat' first
    | with_reducible assumption
    | intro _
    | (extract_lets +onlyGivenNames z; first | (refine State.Ok.cut (n := n) z ?_ ?_ <;> [(intro _; clear_value z); subst z]) | (refine State.Ok.cutPair (n := n) z ?_ ?_ <;> [(intro _; clear_value z); subst z]) | clear_value z)
    | with_reducible apply State.Ok.ite
    | with_reducible apply State.modAct_ok
    | split

end Sys2Proof.Machine
end

