-- ==== Sys2Proof/Laws/KeepFlags.lean ====
section
/-! SUPPORT. Every operation of Flags.lean keeps the invariant, and the local count does not run back. -/

set_option linter.all false

namespace Sys2Proof.Machine

theorem State.drainNotes_ok (n : Mark) (a1 : State) (ha1 : a1.Ok n) : (State.drainNotes a1).Ok n := by
  unfold State.drainNotes
  repeat' first
    | with_reducible assumption
    | intro _
    | (extract_lets +onlyGivenNames z; first | (refine State.Ok.cut (n := n) z ?_ ?_ <;> [(intro _; clear_value z); subst z]) | (refine State.Ok.cutPair (n := n) z ?_ ?_ <;> [(intro _; clear_value z); subst z]) | clear_value z)
    | with_reducible apply State.Ok.ite
    | with_reducible apply State.emitAll_ok
    | split
    | (with_reducible refine State.Ok.lit _ _ _ _ _ _ _ _ _ _ _ _ _ _ _ _ _ rfl rfl rfl rfl rfl rfl ?_)

theorem State.pushNote_ok (n : Mark) (a1 : State) (a2) (a3) (a4) (ha1 : a1.Ok n) : (State.pushNote a1 a2 a3 a4).Ok n := by
  unfold State.pushNote
  repeat' first
    | with_reducible assumption
    | intro _
    | (extract_lets +onlyGivenNames z; first | (refine State.Ok.cut (n := n) z ?_ ?_ <;> [(intro _; clear_value z); subst z]) | (refine State.Ok.cutPair (n := n) z ?_ ?_ <;> [(intro _; clear_value z); subst z]) | clear_value z)
    | with_reducible apply State.Ok.ite
    | with_reducible apply State.modBocel_ok
    | split

theorem State.evqRecord_ok (n : Mark) (a1 : State) (a2) (a3) (a4) (a5) (a6) (ha1 : a1.Ok n) : (State.evqRecord a1 a2 a3 a4 a5 a6).Ok n := by
  unfold State.evqRecord
  repeat' first
    | with_reducible assumption
    | intro _
    | (extract_lets +onlyGivenNames z; first | (refine State.Ok.cut (n := n) z ?_ ?_ <;> [(intro _; clear_value z); subst z]) | (refine State.Ok.cutPair (n := n) z ?_ ?_ <;> [(intro _; clear_value z); subst z]) | clear_value z)
    | with_reducible apply State.Ok.ite
    | with_reducible apply State.modPart_ok
    | with_reducible apply State.emit_ok
    | split

theorem State.vector_ok (n : Mark) (a1 : State) (a2) (a3) (a4) (ha1 : a1.Ok n) : (State.vector a1 a2 a3 a4).Ok n := by
  unfold State.vector
  repeat' first
    | with_reducible assumption
    | intro _
    | (extract_lets +onlyGivenNames z; first | (refine State.Ok.cut (n := n) z ?_ ?_ <;> [(intro _; clear_value z); subst z]) | (refine State.Ok.cutPair (n := n) z ?_ ?_ <;> [(intro _; clear_value z); subst z]) | clear_value z)
    | with_reducible apply State.Ok.ite
    | with_reducible apply State.emit_ok
    | with_reducible apply State.modFn_ok
    | split

theorem State.deliverHome_ok (n : Mark) (a1 : State) (a2) (a3) (a4) (a5) (a6) (a7) (ha1 : a1.Ok n) : (State.deliverHome a1 a2 a3 a4 a5 a6 a7).Ok n := by
  unfold State.deliverHome
  repeat' first
    | with_reducible assumption
    | intro _
    | (extract_lets +onlyGivenNames z; first | (refine State.Ok.cut (n := n) z ?_ ?_ <;> [(intro _; clear_value z); subst z]) | (refine State.Ok.cutPair (n := n) z ?_ ?_ <;> [(intro _; clear_value z); subst z]) | clear_value z)
    | with_reducible apply State.Ok.ite
    | with_reducible apply State.vector_ok
    | with_reducible apply State.evqRecord_ok
    | split

theorem State.deliverPart_ok (n : Mark) (a1 : State) (a2) (a3) (a4) (a5) (a6) (a7) (ha1 : a1.Ok n) : (State.deliverPart a1 a2 a3 a4 a5 a6 a7).Ok n := by
  unfold State.deliverPart
  repeat' first
    | with_reducible assumption
    | intro _
    | (extract_lets +onlyGivenNames z; first | (refine State.Ok.cut (n := n) z ?_ ?_ <;> [(intro _; clear_value z); subst z]) | (refine State.Ok.cutPair (n := n) z ?_ ?_ <;> [(intro _; clear_value z); subst z]) | clear_value z)
    | with_reducible apply State.Ok.ite
    | with_reducible apply State.deliverHome_ok
    | with_reducible apply State.emit_ok
    | split

theorem State.deliverWith_ok (n : Mark) (a1) (a2 : State) (a3) (a4) (a5) (ha1 : ∀ x0 x1, x0.Ok n → (a1 x0 x1).Ok n) (ha2 : a2.Ok n) : (State.deliverWith a1 a2 a3 a4 a5).Ok n := by
  unfold State.deliverWith
  repeat' first
    | with_reducible assumption
    | intro _
    | (extract_lets +onlyGivenNames z; first | (refine State.Ok.cut (n := n) z ?_ ?_ <;> [(intro _; clear_value z); subst z]) | (refine State.Ok.cutPair (n := n) z ?_ ?_ <;> [(intro _; clear_value z); subst z]) | clear_value z)
    | with_reducible apply State.Ok.ite
    | with_reducible apply ha1
    | with_reducible apply State.pushNote_ok
    | with_reducible apply State.modBocel_ok
    | with_reducible apply State.deliverPart_ok
    | with_reducible apply State.drainNotes_ok
    | split

theorem State.setCounter_ok (n : Mark) (a1 : State) (a2) (a3) (ha1 : a1.Ok n) : (State.setCounter a1 a2 a3).Ok n := by
  refine State.modCounters_values_ok _ (fun k => ?_) ha1
  simp only []
  split
  · exact sortedKeys_sublist (sortedErase_sublist _ _) k
  · exact sortedKeys_put _ _ _ k

theorem State.addCounter_ok (n : Mark) (a1 : State) (a2) (a3) (ha1 : a1.Ok n) : (State.addCounter a1 a2 a3).Ok n := by
  unfold State.addCounter
  repeat' first
    | with_reducible assumption
    | intro _
    | (extract_lets +onlyGivenNames z; first | (refine State.Ok.cut (n := n) z ?_ ?_ <;> [(intro _; clear_value z); subst z]) | (refine State.Ok.cutPair (n := n) z ?_ ?_ <;> [(intro _; clear_value z); subst z]) | clear_value z)
    | with_reducible apply State.Ok.ite
    | with_reducible apply State.setCounter_ok
    | split

theorem State.countQuiet_ok (n : Mark) (a1 : State) (a2) (a3) (a4) (a5) (ha1 : a1.Ok n) : (State.countQuiet a1 a2 a3 a4 a5).Ok n := by
  unfold State.countQuiet
  repeat' first
    | with_reducible assumption
    | intro _
    | (extract_lets +onlyGivenNames z; first | (refine State.Ok.cut (n := n) z ?_ ?_ <;> [(intro _; clear_value z); subst z]) | (refine State.Ok.cutPair (n := n) z ?_ ?_ <;> [(intro _; clear_value z); subst z]) | clear_value z)
    | with_reducible apply State.Ok.ite
    | with_reducible apply State.each_ok
    | with_reducible apply State.addCounter_ok
    | split

theorem State.deliverQuiet_ok (n : Mark) (a1 : State) (a2) (a3) (a4) (ha1 : a1.Ok n) : (State.deliverQuiet a1 a2 a3 a4).Ok n := by
  unfold State.deliverQuiet
  repeat' first
    | with_reducible assumption
    | intro _
    | (extract_lets +onlyGivenNames z; first | (refine State.Ok.cut (n := n) z ?_ ?_ <;> [(intro _; clear_value z); subst z]) | (refine State.Ok.cutPair (n := n) z ?_ ?_ <;> [(intro _; clear_value z); subst z]) | clear_value z)
    | with_reducible apply State.Ok.ite
    | with_reducible apply State.deliverWith_ok
    | with_reducible apply State.countQuiet_ok
    | split

theorem State.overflowEvent_ok (n : Mark) (a1 : State) (a2) (ha1 : a1.Ok n) : (State.overflowEvent a1 a2).Ok n := by
  unfold State.overflowEvent
  repeat' first
    | with_reducible assumption
    | intro _
    | (extract_lets +onlyGivenNames z; first | (refine State.Ok.cut (n := n) z ?_ ?_ <;> [(intro _; clear_value z); subst z]) | (refine State.Ok.cutPair (n := n) z ?_ ?_ <;> [(intro _; clear_value z); subst z]) | clear_value z)
    | with_reducible apply State.Ok.ite
    | with_reducible apply State.deliverQuiet_ok
    | (with_reducible refine State.modCounters_ok _ rfl ?_)
    | split

theorem State.addCounterEv_ok (n : Mark) (a1 : State) (a2) (a3) (ha1 : a1.Ok n) : (State.addCounterEv a1 a2 a3).Ok n := by
  unfold State.addCounterEv
  repeat' first
    | with_reducible assumption
    | intro _
    | (extract_lets +onlyGivenNames z; first | (refine State.Ok.cut (n := n) z ?_ ?_ <;> [(intro _; clear_value z); subst z]) | (refine State.Ok.cutPair (n := n) z ?_ ?_ <;> [(intro _; clear_value z); subst z]) | clear_value z)
    | with_reducible apply State.Ok.ite
    | with_reducible apply State.addCounter_ok
    | with_reducible apply State.overflowEvent_ok
    | split

theorem State.countFrom_ok (n : Mark) (a1 : State) (a2) (a3) (a4) (a5) (ha1 : a1.Ok n) : (State.countFrom a1 a2 a3 a4 a5).Ok n := by
  unfold State.countFrom
  repeat' first
    | with_reducible assumption
    | intro _
    | (extract_lets +onlyGivenNames z; first | (refine State.Ok.cut (n := n) z ?_ ?_ <;> [(intro _; clear_value z); subst z]) | (refine State.Ok.cutPair (n := n) z ?_ ?_ <;> [(intro _; clear_value z); subst z]) | clear_value z)
    | with_reducible apply State.Ok.ite
    | with_reducible apply State.each_ok
    | with_reducible apply State.addCounterEv_ok
    | split

theorem State.countTwig_ok (n : Mark) (a1 : State) (a2) (a3) (a4) (ha1 : a1.Ok n) : (State.countTwig a1 a2 a3 a4).Ok n := by
  unfold State.countTwig
  repeat' first
    | with_reducible assumption
    | intro _
    | (extract_lets +onlyGivenNames z; first | (refine State.Ok.cut (n := n) z ?_ ?_ <;> [(intro _; clear_value z); subst z]) | (refine State.Ok.cutPair (n := n) z ?_ ?_ <;> [(intro _; clear_value z); subst z]) | clear_value z)
    | with_reducible apply State.Ok.ite
    | with_reducible apply State.countFrom_ok
    | split

theorem State.countBough_ok (n : Mark) (a1 : State) (a2) (a3) (a4) (ha1 : a1.Ok n) : (State.countBough a1 a2 a3 a4).Ok n := by
  unfold State.countBough
  repeat' first
    | with_reducible assumption
    | intro _
    | (extract_lets +onlyGivenNames z; first | (refine State.Ok.cut (n := n) z ?_ ?_ <;> [(intro _; clear_value z); subst z]) | (refine State.Ok.cutPair (n := n) z ?_ ?_ <;> [(intro _; clear_value z); subst z]) | clear_value z)
    | with_reducible apply State.Ok.ite
    | with_reducible apply State.countFrom_ok
    | split

theorem State.countLimb_ok (n : Mark) (a1 : State) (a2) (a3) (a4) (ha1 : a1.Ok n) : (State.countLimb a1 a2 a3 a4).Ok n := by
  unfold State.countLimb
  repeat' first
    | with_reducible assumption
    | intro _
    | (extract_lets +onlyGivenNames z; first | (refine State.Ok.cut (n := n) z ?_ ?_ <;> [(intro _; clear_value z); subst z]) | (refine State.Ok.cutPair (n := n) z ?_ ?_ <;> [(intro _; clear_value z); subst z]) | clear_value z)
    | with_reducible apply State.Ok.ite
    | with_reducible apply State.countFrom_ok
    | split

theorem State.countStem_ok (n : Mark) (a1 : State) (a2) (a3) (a4) (ha1 : a1.Ok n) : (State.countStem a1 a2 a3 a4).Ok n := by
  unfold State.countStem
  repeat' first
    | with_reducible assumption
    | intro _
    | (extract_lets +onlyGivenNames z; first | (refine State.Ok.cut (n := n) z ?_ ?_ <;> [(intro _; clear_value z); subst z]) | (refine State.Ok.cutPair (n := n) z ?_ ?_ <;> [(intro _; clear_value z); subst z]) | clear_value z)
    | with_reducible apply State.Ok.ite
    | with_reducible apply State.countFrom_ok
    | split

theorem State.countHeart_ok (n : Mark) (a1 : State) (a2) (a3) (ha1 : a1.Ok n) : (State.countHeart a1 a2 a3).Ok n := by
  unfold State.countHeart
  repeat' first
    | with_reducible assumption
    | intro _
    | (extract_lets +onlyGivenNames z; first | (refine State.Ok.cut (n := n) z ?_ ?_ <;> [(intro _; clear_value z); subst z]) | (refine State.Ok.cutPair (n := n) z ?_ ?_ <;> [(intro _; clear_value z); subst z]) | clear_value z)
    | with_reducible apply State.Ok.ite
    | with_reducible apply State.countFrom_ok
    | split

theorem State.deliver_ok (n : Mark) (a1 : State) (a2) (a3) (a4) (ha1 : a1.Ok n) : (State.deliver a1 a2 a3 a4).Ok n := by
  unfold State.deliver
  repeat' first
    | with_reducible assumption
    | intro _
    | (extract_lets +onlyGivenNames z; first | (refine State.Ok.cut (n := n) z ?_ ?_ <;> [(intro _; clear_value z); subst z]) | (refine State.Ok.cutPair (n := n) z ?_ ?_ <;> [(intro _; clear_value z); subst z]) | clear_value z)
    | with_reducible apply State.Ok.ite
    | with_reducible apply State.deliverWith_ok
    | with_reducible apply State.countHeart_ok
    | split

theorem State.history_ok (n : Mark) (a1 : State) (a2) (ha1 : a1.Ok n) : (State.history a1 a2).Ok n := by
  unfold State.history
  repeat' first
    | with_reducible assumption
    | intro _
    | (extract_lets +onlyGivenNames z; first | (refine State.Ok.cut (n := n) z ?_ ?_ <;> [(intro _; clear_value z); subst z]) | (refine State.Ok.cutPair (n := n) z ?_ ?_ <;> [(intro _; clear_value z); subst z]) | clear_value z)
    | with_reducible apply State.Ok.ite
    | (with_reducible refine State.modFaults_ok _ rfl ?_)
    | with_reducible apply State.countHeart_ok
    | split

theorem State.f1Roll_ok (n : Mark) (a1 : State) (ha1 : a1.Ok n) : (State.f1Roll a1).Ok n := by
  unfold State.f1Roll
  repeat' first
    | with_reducible assumption
    | intro _
    | (extract_lets +onlyGivenNames z; first | (refine State.Ok.cut (n := n) z ?_ ?_ <;> [(intro _; clear_value z); subst z]) | (refine State.Ok.cutPair (n := n) z ?_ ?_ <;> [(intro _; clear_value z); subst z]) | clear_value z)
    | with_reducible apply State.Ok.ite
    | (with_reducible refine State.modFaults_ok _ rfl ?_)
    | split

theorem State.violRoll_ok (n : Mark) (a1 : State) (ha1 : a1.Ok n) : (State.violRoll a1).Ok n := by
  unfold State.violRoll
  repeat' first
    | with_reducible assumption
    | intro _
    | (extract_lets +onlyGivenNames z; first | (refine State.Ok.cut (n := n) z ?_ ?_ <;> [(intro _; clear_value z); subst z]) | (refine State.Ok.cutPair (n := n) z ?_ ?_ <;> [(intro _; clear_value z); subst z]) | clear_value z)
    | with_reducible apply State.Ok.ite
    | (with_reducible refine State.modFaults_ok _ rfl ?_)
    | split

theorem State.f1Count_ok (n : Mark) (a1 : State) (a2) (ha1 : a1.Ok n) : (State.f1Count a1 a2).Ok n := by
  unfold State.f1Count
  repeat' first
    | with_reducible assumption
    | intro _
    | (extract_lets +onlyGivenNames z; first | (refine State.Ok.cut (n := n) z ?_ ?_ <;> [(intro _; clear_value z); subst z]) | (refine State.Ok.cutPair (n := n) z ?_ ?_ <;> [(intro _; clear_value z); subst z]) | clear_value z)
    | with_reducible apply State.Ok.ite
    | with_reducible apply State.f1Roll_ok
    | (with_reducible refine State.modFaults_ok _ rfl ?_)
    | split

theorem State.markDue_ok (n : Mark) (a1 : State) (a2) (ha1 : a1.Ok n) : (State.markDue a1 a2).Ok n := by
  unfold State.markDue
  repeat' first
    | with_reducible assumption
    | intro _
    | (extract_lets +onlyGivenNames z; first | (refine State.Ok.cut (n := n) z ?_ ?_ <;> [(intro _; clear_value z); subst z]) | (refine State.Ok.cutPair (n := n) z ?_ ?_ <;> [(intro _; clear_value z); subst z]) | clear_value z)
    | with_reducible apply State.Ok.ite
    | (with_reducible refine State.modFaults_ok _ rfl ?_)
    | split

theorem State.note_ok (n : Mark) (a1 : State) (a2) (ha1 : a1.Ok n) : (State.note a1 a2).Ok n := by
  unfold State.note
  repeat' first
    | with_reducible assumption
    | intro _
    | (extract_lets +onlyGivenNames z; first | (refine State.Ok.cut (n := n) z ?_ ?_ <;> [(intro _; clear_value z); subst z]) | (refine State.Ok.cutPair (n := n) z ?_ ?_ <;> [(intro _; clear_value z); subst z]) | clear_value z)
    | with_reducible apply State.Ok.ite
    | with_reducible apply State.deliver_ok
    | with_reducible apply State.markDue_ok
    | with_reducible apply State.f1Count_ok
    | with_reducible apply State.history_ok
    | split

theorem State.noteAt_ok (n : Mark) (a1 : State) (a2) (a3) (a4) (ha1 : a1.Ok n) : (State.noteAt a1 a2 a3 a4).Ok n := by
  unfold State.noteAt
  repeat' first
    | with_reducible assumption
    | intro _
    | (extract_lets +onlyGivenNames z; first | (refine State.Ok.cut (n := n) z ?_ ?_ <;> [(intro _; clear_value z); subst z]) | (refine State.Ok.cutPair (n := n) z ?_ ?_ <;> [(intro _; clear_value z); subst z]) | clear_value z)
    | with_reducible apply State.Ok.ite
    | with_reducible apply State.note_ok
    | split

theorem State.noteFree_ok (n : Mark) (a1 : State) (a2) (a3) (ha1 : a1.Ok n) : (State.noteFree a1 a2 a3).Ok n := by
  unfold State.noteFree
  repeat' first
    | with_reducible assumption
    | intro _
    | (extract_lets +onlyGivenNames z; first | (refine State.Ok.cut (n := n) z ?_ ?_ <;> [(intro _; clear_value z); subst z]) | (refine State.Ok.cutPair (n := n) z ?_ ?_ <;> [(intro _; clear_value z); subst z]) | clear_value z)
    | with_reducible apply State.Ok.ite
    | with_reducible apply State.noteAt_ok
    | split

end Sys2Proof.Machine
end

