-- ==== Sys2Proof/Laws/KeepQueues.lean ====
section
/-! SUPPORT. Every operation of Queues.lean keeps the invariant, and the local count does not run back. -/

set_option linter.all false

namespace Sys2Proof.Machine

theorem State.checkExhausted_ok (n : Mark) (a1 : State) (a2 : State) (a3) (ha1 : a1.Ok n) (ha2 : a2.Ok n) : (State.checkExhausted a1 a2 a3).Ok n := by
  unfold State.checkExhausted
  repeat' first
    | with_reducible assumption
    | intro _
    | (extract_lets +onlyGivenNames z; first | (refine State.Ok.cut (n := n) z ?_ ?_ <;> [(intro _; clear_value z); subst z]) | (refine State.Ok.cutPair (n := n) z ?_ ?_ <;> [(intro _; clear_value z); subst z]) | clear_value z)
    | with_reducible apply State.Ok.ite
    | with_reducible apply State.noteFree_ok
    | with_reducible apply State.modCore_ok
    | split

theorem State.traffic_ok (n : Mark) (a1 : State) (a2) (a3) (ha1 : a1.Ok n) : (State.traffic a1 a2 a3).Ok n := by
  unfold State.traffic
  repeat' first
    | with_reducible assumption
    | intro _
    | (extract_lets +onlyGivenNames z; first | (refine State.Ok.cut (n := n) z ?_ ?_ <;> [(intro _; clear_value z); subst z]) | (refine State.Ok.cutPair (n := n) z ?_ ?_ <;> [(intro _; clear_value z); subst z]) | clear_value z)
    | with_reducible apply State.Ok.ite
    | with_reducible apply State.modCore_ok
    | split

theorem State.countCross_ok (n : Mark) (a1 : State) (a2) (ha1 : a1.Ok n) : (State.countCross a1 a2).Ok n := by
  unfold State.countCross
  repeat' first
    | with_reducible assumption
    | intro _
    | (extract_lets +onlyGivenNames z; first | (refine State.Ok.cut (n := n) z ?_ ?_ <;> [(intro _; clear_value z); subst z]) | (refine State.Ok.cutPair (n := n) z ?_ ?_ <;> [(intro _; clear_value z); subst z]) | clear_value z)
    | with_reducible apply State.Ok.ite
    | with_reducible apply State.countStem_ok
    | split

theorem State.enqueue_ok (n : Mark) (a1 : State) (a2) (ha1 : a1.Ok n) : (State.enqueue a1 a2).Ok n := by
  unfold State.enqueue
  repeat' first
    | with_reducible assumption
    | intro _
    | (extract_lets +onlyGivenNames z; first | (refine State.Ok.cut (n := n) z ?_ ?_ <;> [(intro _; clear_value z); subst z]) | (refine State.Ok.cutPair (n := n) z ?_ ?_ <;> [(intro _; clear_value z); subst z]) | clear_value z)
    | with_reducible apply State.Ok.ite
    | with_reducible apply State.traffic_ok
    | with_reducible apply State.modCore_ok
    | with_reducible apply State.countCross_ok
    | with_reducible apply State.countLimb_ok
    | with_reducible apply State.checkExhausted_ok
    | split

theorem State.dequeue_ok (n : Mark) (a1 : State) (a2) (ha1 : a1.Ok n) : (State.dequeue a1 a2).Ok n := by
  unfold State.dequeue
  repeat' first
    | with_reducible assumption
    | intro _
    | (extract_lets +onlyGivenNames z; first | (refine State.Ok.cut (n := n) z ?_ ?_ <;> [(intro _; clear_value z); subst z]) | (refine State.Ok.cutPair (n := n) z ?_ ?_ <;> [(intro _; clear_value z); subst z]) | clear_value z)
    | with_reducible apply State.Ok.ite
    | with_reducible apply State.modCore_ok
    | split

theorem State.modDesc_ok (n : Mark) (a1 : State) (a2) (a3) (ha1 : a1.Ok n) : (State.modDesc a1 a2 a3).Ok n := by
  unfold State.modDesc
  repeat' first
    | with_reducible assumption
    | intro _
    | (extract_lets +onlyGivenNames z; first | (refine State.Ok.cut (n := n) z ?_ ?_ <;> [(intro _; clear_value z); subst z]) | (refine State.Ok.cutPair (n := n) z ?_ ?_ <;> [(intro _; clear_value z); subst z]) | clear_value z)
    | with_reducible apply State.Ok.ite
    | with_reducible apply State.modCore_ok
    | split

theorem State.freeCells_ok (n : Mark) (a1 : State) (a2) (ha1 : a1.Ok n) : (State.freeCells a1 a2).Ok n := by
  unfold State.freeCells
  repeat' first
    | with_reducible assumption
    | intro _
    | (extract_lets +onlyGivenNames z; first | (refine State.Ok.cut (n := n) z ?_ ?_ <;> [(intro _; clear_value z); subst z]) | (refine State.Ok.cutPair (n := n) z ?_ ?_ <;> [(intro _; clear_value z); subst z]) | clear_value z)
    | with_reducible apply State.Ok.ite
    | with_reducible apply State.modCore_ok
    | split

theorem State.countDrop_ok (n : Mark) (a1 : State) (a2) (a3) (ha1 : a1.Ok n) : (State.countDrop a1 a2 a3).Ok n := by
  unfold State.countDrop
  repeat' first
    | with_reducible assumption
    | intro _
    | (extract_lets +onlyGivenNames z; first | (refine State.Ok.cut (n := n) z ?_ ?_ <;> [(intro _; clear_value z); subst z]) | (refine State.Ok.cutPair (n := n) z ?_ ?_ <;> [(intro _; clear_value z); subst z]) | clear_value z)
    | with_reducible apply State.Ok.ite
    | with_reducible apply State.modCore_ok
    | split

theorem State.sendControl_ok (n : Mark) (a1 : State) (a2) (a3) (ha1 : a1.Ok n) : (State.sendControl a1 a2 a3).Ok n := by
  unfold State.sendControl
  repeat' first
    | with_reducible assumption
    | intro _
    | (extract_lets +onlyGivenNames z; first | (refine State.Ok.cut (n := n) z ?_ ?_ <;> [(intro _; clear_value z); subst z]) | (refine State.Ok.cutPair (n := n) z ?_ ?_ <;> [(intro _; clear_value z); subst z]) | clear_value z)
    | with_reducible apply State.Ok.ite
    | with_reducible apply State.each_ok
    | with_reducible apply State.modTx_ok
    | split

theorem State.controlTo_ok (n : Mark) (a1 : State) (a2) (a3) (ha1 : a1.Ok n) : (State.controlTo a1 a2 a3).Ok n := by
  unfold State.controlTo
  repeat' first
    | with_reducible assumption
    | intro _
    | (extract_lets +onlyGivenNames z; first | (refine State.Ok.cut (n := n) z ?_ ?_ <;> [(intro _; clear_value z); subst z]) | (refine State.Ok.cutPair (n := n) z ?_ ?_ <;> [(intro _; clear_value z); subst z]) | clear_value z)
    | with_reducible apply State.Ok.ite
    | with_reducible apply State.modTx_ok
    | split

theorem State.farFail_ok (n : Mark) (a1 : State) (a2) (a3) (a4) (a5) (a6) (a7) (a8) (ha1 : a1.Ok n) : (State.farFail a1 a2 a3 a4 a5 a6 a7 a8).Ok n := by
  unfold State.farFail
  repeat' first
    | with_reducible assumption
    | intro _
    | (extract_lets +onlyGivenNames z; first | (refine State.Ok.cut (n := n) z ?_ ?_ <;> [(intro _; clear_value z); subst z]) | (refine State.Ok.cutPair (n := n) z ?_ ?_ <;> [(intro _; clear_value z); subst z]) | clear_value z)
    | with_reducible apply State.Ok.ite
    | with_reducible apply State.modFabric_ok
    | split

theorem State.ringRelease_ok (n : Mark) (a1 : State) (a2) (ha1 : a1.Ok n) : (State.ringRelease a1 a2).Ok n := by
  unfold State.ringRelease
  repeat' first
    | with_reducible assumption
    | intro _
    | (extract_lets +onlyGivenNames z; first | (refine State.Ok.cut (n := n) z ?_ ?_ <;> [(intro _; clear_value z); subst z]) | (refine State.Ok.cutPair (n := n) z ?_ ?_ <;> [(intro _; clear_value z); subst z]) | clear_value z)
    | with_reducible apply State.Ok.ite
    | with_reducible apply State.modFn_ok
    | split

theorem State.ringRecord_ok (n : Mark) (a1 : State) (a2) (a3) (a4) (a5) (a6) (ha1 : a1.Ok n) : (State.ringRecord a1 a2 a3 a4 a5 a6).Ok n := by
  unfold State.ringRecord
  repeat' first
    | with_reducible assumption
    | intro _
    | (extract_lets +onlyGivenNames z; first | (refine State.Ok.cut (n := n) z ?_ ?_ <;> [(intro _; clear_value z); subst z]) | (refine State.Ok.cutPair (n := n) z ?_ ?_ <;> [(intro _; clear_value z); subst z]) | clear_value z)
    | with_reducible apply State.Ok.ite
    | with_reducible apply State.modCore_ok
    | with_reducible apply State.countHeart_ok
    | with_reducible apply State.emit_ok
    | with_reducible apply State.vector_ok
    | with_reducible apply State.modFn_ok
    | split

theorem State.ringComplete_ok (n : Mark) (a1 : State) (a2) (a3) (a4) (a5) (a6) (ha1 : a1.Ok n) : (State.ringComplete a1 a2 a3 a4 a5 a6).Ok n := by
  unfold State.ringComplete
  repeat' first
    | with_reducible assumption
    | intro _
    | (extract_lets +onlyGivenNames z; first | (refine State.Ok.cut (n := n) z ?_ ?_ <;> [(intro _; clear_value z); subst z]) | (refine State.Ok.cutPair (n := n) z ?_ ?_ <;> [(intro _; clear_value z); subst z]) | clear_value z)
    | with_reducible apply State.Ok.ite
    | with_reducible apply State.ringRecord_ok
    | with_reducible apply State.ringRelease_ok
    | split

end Sys2Proof.Machine
end

