-- ==== Sys2Proof/Laws/KeepAdmission.lean ====
section
/-! SUPPORT. Every operation of Admission.lean keeps the invariant, and the local count does not run back. -/

set_option linter.all false

namespace Sys2Proof.Machine

theorem State.meter_ok (n : Mark) (a1 : State) (a2) (a3) (a4) (a5) (ha1 : a1.Ok n) : (State.meter a1 a2 a3 a4 a5).1.Ok n := by
  unfold State.meter
  repeat' first
    | with_reducible assumption
    | intro _
    | (extract_lets +onlyGivenNames z; first | (refine State.Ok.cut (n := n) z ?_ ?_ <;> [(intro _; clear_value z); subst z]) | (refine State.Ok.cutPair (n := n) z ?_ ?_ <;> [(intro _; clear_value z); subst z]) | clear_value z)
    | with_reducible apply State.Ok.ite
    | with_reducible apply State.Ok.iteFst
    | with_reducible apply State.modCore_ok
    | split

theorem State.coloured_ok (n : Mark) (a1 : State) (a2) (ha1 : a1.Ok n) : (State.coloured a1 a2).1.Ok n := by
  unfold State.coloured
  repeat' first
    | with_reducible assumption
    | intro _
    | (extract_lets +onlyGivenNames z; first | (refine State.Ok.cut (n := n) z ?_ ?_ <;> [(intro _; clear_value z); subst z]) | (refine State.Ok.cutPair (n := n) z ?_ ?_ <;> [(intro _; clear_value z); subst z]) | clear_value z)
    | with_reducible apply State.Ok.ite
    | with_reducible apply State.Ok.iteFst
    | with_reducible apply State.meter_ok
    | split
    | (refine State.Ok.ofPair (by with_reducible assumption) ?_)

theorem State.record_ok (n : Mark) (a1 : State) (a2) (ha1 : a1.Ok n) : (State.record a1 a2).1.Ok n := by
  unfold State.record
  repeat' first
    | with_reducible assumption
    | intro _
    | (extract_lets +onlyGivenNames z; first | (refine State.Ok.cut (n := n) z ?_ ?_ <;> [(intro _; clear_value z); subst z]) | (refine State.Ok.cutPair (n := n) z ?_ ?_ <;> [(intro _; clear_value z); subst z]) | clear_value z)
    | with_reducible apply State.Ok.ite
    | with_reducible apply State.Ok.iteFst
    | with_reducible apply State.countHeart_ok
    | with_reducible apply State.modFabric_ok
    | with_reducible apply State.modCore_ok
    | split

theorem State.takeLock_ok (n : Mark) (a1 : State) (a2) (ha1 : a1.Ok n) : (State.takeLock a1 a2).Ok n := by
  unfold State.takeLock
  repeat' first
    | with_reducible assumption
    | intro _
    | (extract_lets +onlyGivenNames z; first | (refine State.Ok.cut (n := n) z ?_ ?_ <;> [(intro _; clear_value z); subst z]) | (refine State.Ok.cutPair (n := n) z ?_ ?_ <;> [(intro _; clear_value z); subst z]) | clear_value z)
    | with_reducible apply State.Ok.ite
    | with_reducible apply State.countBough_ok
    | with_reducible apply State.modFabric_ok
    | split

theorem State.enter_ok (n : Mark) (a1 : State) (a2) (ha1 : a1.Ok n) : (State.enter a1 a2).Ok n := by
  unfold State.enter
  repeat' first
    | with_reducible assumption
    | intro _
    | (extract_lets +onlyGivenNames z; first | (refine State.Ok.cut (n := n) z ?_ ?_ <;> [(intro _; clear_value z); subst z]) | (refine State.Ok.cutPair (n := n) z ?_ ?_ <;> [(intro _; clear_value z); subst z]) | clear_value z)
    | with_reducible apply State.Ok.ite
    | with_reducible apply State.Ok.iteFst
    | with_reducible apply State.record_ok
    | with_reducible apply State.enqueue_ok
    | with_reducible apply State.takeLock_ok
    | split
    | (refine State.Ok.ofPair (by with_reducible assumption) ?_)

theorem State.enterAll_ok (n : Mark) (a1 : State) (a2) (ha1 : a1.Ok n) : (State.enterAll a1 a2).Ok n := by
  unfold State.enterAll
  repeat' first
    | with_reducible assumption
    | intro _
    | (extract_lets +onlyGivenNames z; first | (refine State.Ok.cut (n := n) z ?_ ?_ <;> [(intro _; clear_value z); subst z]) | (refine State.Ok.cutPair (n := n) z ?_ ?_ <;> [(intro _; clear_value z); subst z]) | clear_value z)
    | with_reducible apply State.Ok.ite
    | with_reducible apply State.enter_ok
    | with_reducible apply State.enqueue_ok
    | with_reducible apply State.each_ok
    | split

theorem State.fcTell_ok (n : Mark) (a1 : State) (a2) (a3) (a4) (ha1 : a1.Ok n) : (State.fcTell a1 a2 a3 a4).Ok n := by
  unfold State.fcTell
  repeat' first
    | with_reducible assumption
    | intro _
    | (extract_lets +onlyGivenNames z; first | (refine State.Ok.cut (n := n) z ?_ ?_ <;> [(intro _; clear_value z); subst z]) | (refine State.Ok.cutPair (n := n) z ?_ ?_ <;> [(intro _; clear_value z); subst z]) | clear_value z)
    | with_reducible apply State.Ok.ite
    | with_reducible apply State.emit_ok
    | split

theorem State.fcInit_ok (n : Mark) (a1 : State) (a2) (ha1 : a1.Ok n) : (State.fcInit a1 a2).Ok n := by
  unfold State.fcInit
  repeat' first
    | with_reducible assumption
    | intro _
    | (extract_lets +onlyGivenNames z; first | (refine State.Ok.cut (n := n) z ?_ ?_ <;> [(intro _; clear_value z); subst z]) | (refine State.Ok.cutPair (n := n) z ?_ ?_ <;> [(intro _; clear_value z); subst z]) | clear_value z)
    | with_reducible apply State.Ok.ite
    | with_reducible apply State.each_ok
    | with_reducible apply State.fcTell_ok
    | split

theorem State.fcReturn_ok (n : Mark) (a1 : State) (a2 : State) (a3) (a4) (ha1 : a1.Ok n) (ha2 : a2.Ok n) : (State.fcReturn a1 a2 a3 a4).Ok n := by
  unfold State.fcReturn
  repeat' first
    | with_reducible assumption
    | intro _
    | (extract_lets +onlyGivenNames z; first | (refine State.Ok.cut (n := n) z ?_ ?_ <;> [(intro _; clear_value z); subst z]) | (refine State.Ok.cutPair (n := n) z ?_ ?_ <;> [(intro _; clear_value z); subst z]) | clear_value z)
    | with_reducible apply State.Ok.ite
    | with_reducible apply State.fcTell_ok
    | with_reducible apply State.modHPort_ok
    | split

theorem State.fcSettle_ok (n : Mark) (a1 : State) (a2 : State) (ha1 : a1.Ok n) (ha2 : a2.Ok n) : (State.fcSettle a1 a2).Ok n := by
  unfold State.fcSettle
  repeat' first
    | with_reducible assumption
    | intro _
    | (extract_lets +onlyGivenNames z; first | (refine State.Ok.cut (n := n) z ?_ ?_ <;> [(intro _; clear_value z); subst z]) | (refine State.Ok.cutPair (n := n) z ?_ ?_ <;> [(intro _; clear_value z); subst z]) | clear_value z)
    | with_reducible apply State.Ok.ite
    | with_reducible apply State.each_ok
    | with_reducible apply State.fcReturn_ok
    | split

theorem State.fcTake_ok (n : Mark) (a1 : State) (a2) (a3) (ha1 : a1.Ok n) : (State.fcTake a1 a2 a3).Ok n := by
  unfold State.fcTake
  repeat' first
    | with_reducible assumption
    | intro _
    | (extract_lets +onlyGivenNames z; first | (refine State.Ok.cut (n := n) z ?_ ?_ <;> [(intro _; clear_value z); subst z]) | (refine State.Ok.cutPair (n := n) z ?_ ?_ <;> [(intro _; clear_value z); subst z]) | clear_value z)
    | with_reducible apply State.Ok.ite
    | with_reducible apply State.modHPort_ok
    | split

theorem State.withCredits_ok (n : Mark) (a1 : State) (a2) (a3) (a4) (ha1 : a1.Ok n) (ha4 : ∀ x0, x0.Ok n → (a4 x0).Ok n) : (State.withCredits a1 a2 a3 a4).Ok n := by
  unfold State.withCredits
  repeat' first
    | with_reducible assumption
    | intro _
    | (extract_lets +onlyGivenNames z; first | (refine State.Ok.cut (n := n) z ?_ ?_ <;> [(intro _; clear_value z); subst z]) | (refine State.Ok.cutPair (n := n) z ?_ ?_ <;> [(intro _; clear_value z); subst z]) | clear_value z)
    | with_reducible apply State.Ok.ite
    | with_reducible apply ha4
    | with_reducible apply State.fcSettle_ok
    | with_reducible apply State.fcTake_ok
    | split

theorem State.countRefused_ok (n : Mark) (a1 : State) (a2) (ha1 : a1.Ok n) : (State.countRefused a1 a2).Ok n := by
  unfold State.countRefused
  repeat' first
    | with_reducible assumption
    | intro _
    | (extract_lets +onlyGivenNames z; first | (refine State.Ok.cut (n := n) z ?_ ?_ <;> [(intro _; clear_value z); subst z]) | (refine State.Ok.cutPair (n := n) z ?_ ?_ <;> [(intro _; clear_value z); subst z]) | clear_value z)
    | with_reducible apply State.Ok.ite
    | with_reducible apply State.countLimb_ok
    | split

theorem State.submit_ok (n : Mark) (a1 : State) (a2) (a3) (a4) (ha1 : a1.Ok n) : (State.submit a1 a2 a3 a4).Ok n := by
  unfold State.submit
  repeat' first
    | with_reducible assumption
    | intro _
    | (extract_lets +onlyGivenNames z; first | (refine State.Ok.cut (n := n) z ?_ ?_ <;> [(intro _; clear_value z); subst z]) | (refine State.Ok.cutPair (n := n) z ?_ ?_ <;> [(intro _; clear_value z); subst z]) | (refine State.Ok.cutFun (n := n) z ?_ ?_ <;> [(intro _; clear_value z); subst z]) | (refine State.Ok.cutFun2 (n := n) z ?_ ?_ <;> [(intro _; clear_value z); subst z]) | (refine State.Ok.cutFun3 (n := n) z ?_ ?_ <;> [(intro _; clear_value z); subst z]) | (refine State.Ok.cutFun4 (n := n) z ?_ ?_ <;> [(intro _; clear_value z); subst z]) | (refine State.Ok.cutFun5 (n := n) z ?_ ?_ <;> [(intro _; clear_value z); subst z]) | (refine State.Ok.cutFun6 (n := n) z ?_ ?_ <;> [(intro _; clear_value z); subst z]) | (refine State.Ok.cutFun7 (n := n) z ?_ ?_ <;> [(intro _; clear_value z); subst z]) | clear_value z)
    | with_reducible apply State.Ok.ite
    | with_reducible apply State.Ok.iteFst
    | with_reducible apply_assumption
    | with_reducible apply State.coloured_ok
    | with_reducible apply State.modCore_ok
    | with_reducible apply State.enterAll_ok
    | with_reducible apply State.countRefused_ok
    | split
    | (refine State.Ok.ofPair (by with_reducible assumption) ?_)

theorem admissionRetryEffect_ok (n : Mark) (a1 : State) (a2) (a3) (ha1 : a1.Ok n) : (admissionRetryEffect a1 a2 a3).Ok n := by
  unfold admissionRetryEffect
  repeat' first
    | with_reducible assumption
    | intro _
    | (extract_lets +onlyGivenNames z; first | (refine State.Ok.cut (n := n) z ?_ ?_ <;> [(intro _; clear_value z); subst z]) | (refine State.Ok.cutPair (n := n) z ?_ ?_ <;> [(intro _; clear_value z); subst z]) | clear_value z)
    | with_reducible apply State.Ok.ite
    | with_reducible apply State.fcSettle_ok
    | with_reducible apply State.enterAll_ok
    | with_reducible apply State.modCore_ok
    | with_reducible apply State.countRefused_ok
    | split

theorem State.complete_ok (n : Mark) (a1 : State) (a2) (a3) (a4) (a5) (a6) (a7) (a8) (a9) (ha1 : a1.Ok n) : (State.complete a1 a2 a3 a4 a5 a6 a7 a8 a9).Ok n := by
  unfold State.complete
  repeat' first
    | with_reducible assumption
    | intro _
    | (extract_lets +onlyGivenNames z; first | (refine State.Ok.cut (n := n) z ?_ ?_ <;> [(intro _; clear_value z); subst z]) | (refine State.Ok.cutPair (n := n) z ?_ ?_ <;> [(intro _; clear_value z); subst z]) | clear_value z)
    | with_reducible apply State.Ok.ite
    | with_reducible apply State.emit_ok
    | split

theorem State.bridgeDone_ok (n : Mark) (a1 : State) (a2) (a3) (a4) (ha1 : a1.Ok n) : (State.bridgeDone a1 a2 a3 a4).Ok n := by
  unfold State.bridgeDone
  repeat' first
    | with_reducible assumption
    | intro _
    | (extract_lets +onlyGivenNames z; first | (refine State.Ok.cut (n := n) z ?_ ?_ <;> [(intro _; clear_value z); subst z]) | (refine State.Ok.cutPair (n := n) z ?_ ?_ <;> [(intro _; clear_value z); subst z]) | clear_value z)
    | with_reducible apply State.Ok.ite
    | with_reducible apply State.modFabric_ok
    | split

theorem State.debugEnd_ok (n : Mark) (a1 : State) (a2) (a3) (ha1 : a1.Ok n) : (State.debugEnd a1 a2 a3).Ok n := by
  unfold State.debugEnd
  repeat' first
    | with_reducible assumption
    | intro _
    | (extract_lets +onlyGivenNames z; first | (refine State.Ok.cut (n := n) z ?_ ?_ <;> [(intro _; clear_value z); subst z]) | (refine State.Ok.cutPair (n := n) z ?_ ?_ <;> [(intro _; clear_value z); subst z]) | clear_value z)
    | with_reducible apply State.Ok.ite
    | (with_reducible refine State.modFaults_ok _ rfl ?_)
    | split

theorem State.heartDone_ok (n : Mark) (a1 : State) (a2) (a3) (a4) (a5) (ha1 : a1.Ok n) : (State.heartDone a1 a2 a3 a4 a5).Ok n := by
  unfold State.heartDone
  repeat' first
    | with_reducible assumption
    | intro _
    | (extract_lets +onlyGivenNames z; first | (refine State.Ok.cut (n := n) z ?_ ?_ <;> [(intro _; clear_value z); subst z]) | (refine State.Ok.cutPair (n := n) z ?_ ?_ <;> [(intro _; clear_value z); subst z]) | clear_value z)
    | with_reducible apply State.Ok.ite
    | with_reducible apply State.debugEnd_ok
    | with_reducible apply State.bridgeDone_ok
    | split

theorem State.endNp_ok (n : Mark) (a1 : State) (a2) (a3) (ha1 : a1.Ok n) : (State.endNp a1 a2 a3).Ok n := by
  unfold State.endNp
  repeat' first
    | with_reducible assumption
    | intro _
    | (extract_lets +onlyGivenNames z; first | (refine State.Ok.cut (n := n) z ?_ ?_ <;> [(intro _; clear_value z); subst z]) | (refine State.Ok.cutPair (n := n) z ?_ ?_ <;> [(intro _; clear_value z); subst z]) | clear_value z)
    | with_reducible apply State.Ok.ite
    | with_reducible apply State.heartDone_ok
    | with_reducible apply State.emit_ok
    | split

theorem State.endTrack_ok (n : Mark) (a1 : State) (a2) (a3) (ha1 : a1.Ok n) : (State.endTrack a1 a2 a3).Ok n := by
  unfold State.endTrack
  repeat' first
    | with_reducible assumption
    | intro _
    | (extract_lets +onlyGivenNames z; first | (refine State.Ok.cut (n := n) z ?_ ?_ <;> [(intro _; clear_value z); subst z]) | (refine State.Ok.cutPair (n := n) z ?_ ?_ <;> [(intro _; clear_value z); subst z]) | clear_value z)
    | with_reducible apply State.Ok.ite
    | with_reducible apply State.heartDone_ok
    | with_reducible apply State.emit_ok
    | split

theorem State.answerDesc_ok (n : Mark) (a1 : State) (a2) (a3) (ha1 : a1.Ok n) : (State.answerDesc a1 a2 a3).Ok n := by
  unfold State.answerDesc
  repeat' first
    | with_reducible assumption
    | intro _
    | (extract_lets +onlyGivenNames z; first | (refine State.Ok.cut (n := n) z ?_ ?_ <;> [(intro _; clear_value z); subst z]) | (refine State.Ok.cutPair (n := n) z ?_ ?_ <;> [(intro _; clear_value z); subst z]) | clear_value z)
    | with_reducible apply State.Ok.ite
    | with_reducible apply State.heartDone_ok
    | with_reducible apply State.complete_ok
    | split

theorem State.untrack_ok (n : Mark) (a1 : State) (a2) (a3) (a4) (ha1 : a1.Ok n) : (State.untrack a1 a2 a3 a4).Ok n := by
  unfold State.untrack
  repeat' first
    | with_reducible assumption
    | intro _
    | (extract_lets +onlyGivenNames z; first | (refine State.Ok.cut (n := n) z ?_ ?_ <;> [(intro _; clear_value z); subst z]) | (refine State.Ok.cutPair (n := n) z ?_ ?_ <;> [(intro _; clear_value z); subst z]) | clear_value z)
    | with_reducible apply State.Ok.ite
    | with_reducible apply State.modFabric_ok
    | split

theorem State.discardDesc_ok (n : Mark) (a1 : State) (a2) (ha1 : a1.Ok n) : (State.discardDesc a1 a2).Ok n := by
  unfold State.discardDesc
  repeat' first
    | with_reducible assumption
    | intro _
    | (extract_lets +onlyGivenNames z; first | (refine State.Ok.cut (n := n) z ?_ ?_ <;> [(intro _; clear_value z); subst z]) | (refine State.Ok.cutPair (n := n) z ?_ ?_ <;> [(intro _; clear_value z); subst z]) | clear_value z)
    | with_reducible apply State.Ok.ite
    | with_reducible apply State.freeCells_ok
    | with_reducible apply State.dequeue_ok
    | with_reducible apply State.countLimb_ok
    | with_reducible apply State.answerDesc_ok
    | with_reducible apply State.untrack_ok
    | with_reducible apply State.countDrop_ok
    | split

theorem State.refuseWaiting_ok (n : Mark) (a1 : State) (a2) (ha1 : a1.Ok n) : (State.refuseWaiting a1 a2).Ok n := by
  unfold State.refuseWaiting
  repeat' first
    | with_reducible assumption
    | intro _
    | (extract_lets +onlyGivenNames z; first | (refine State.Ok.cut (n := n) z ?_ ?_ <;> [(intro _; clear_value z); subst z]) | (refine State.Ok.cutPair (n := n) z ?_ ?_ <;> [(intro _; clear_value z); subst z]) | clear_value z)
    | with_reducible apply State.Ok.ite
    | with_reducible apply State.answerDesc_ok
    | with_reducible apply State.countLimb_ok
    | with_reducible apply State.countDrop_ok
    | split

theorem State.drainWaiting_ok (n : Mark) (a1 : State) (a2) (ha1 : a1.Ok n) : (State.drainWaiting a1 a2).Ok n := by
  unfold State.drainWaiting
  repeat' first
    | with_reducible assumption
    | intro _
    | (extract_lets +onlyGivenNames z; first | (refine State.Ok.cut (n := n) z ?_ ?_ <;> [(intro _; clear_value z); subst z]) | (refine State.Ok.cutPair (n := n) z ?_ ?_ <;> [(intro _; clear_value z); subst z]) | clear_value z)
    | with_reducible apply State.Ok.ite
    | with_reducible apply State.modCore_ok
    | with_reducible apply State.fcSettle_ok
    | with_reducible apply State.each_ok
    | with_reducible apply State.refuseWaiting_ok
    | split

theorem State.nullifyFlying_ok (n : Mark) (a1 : State) (a2) (ha1 : a1.Ok n) : (State.nullifyFlying a1 a2).Ok n := by
  unfold State.nullifyFlying
  repeat' first
    | with_reducible assumption
    | intro _
    | (extract_lets +onlyGivenNames z; first | (refine State.Ok.cut (n := n) z ?_ ?_ <;> [(intro _; clear_value z); subst z]) | (refine State.Ok.cutPair (n := n) z ?_ ?_ <;> [(intro _; clear_value z); subst z]) | clear_value z)
    | with_reducible apply State.Ok.ite
    | with_reducible apply State.emit_ok
    | split

theorem State.cutAbort_ok (n : Mark) (a1 : State) (a2) (ha1 : a1.Ok n) : (State.cutAbort a1 a2).Ok n := by
  unfold State.cutAbort
  repeat' first
    | with_reducible assumption
    | intro _
    | (extract_lets +onlyGivenNames z; first | (refine State.Ok.cut (n := n) z ?_ ?_ <;> [(intro _; clear_value z); subst z]) | (refine State.Ok.cutPair (n := n) z ?_ ?_ <;> [(intro _; clear_value z); subst z]) | clear_value z)
    | with_reducible apply State.Ok.ite
    | with_reducible apply State.noteFree_ok
    | with_reducible apply State.countLimb_ok
    | with_reducible apply State.nullifyFlying_ok
    | with_reducible apply State.modCore_ok
    | with_reducible apply State.countDrop_ok
    | with_reducible apply State.dequeue_ok
    | with_reducible apply State.freeCells_ok
    | split

theorem State.drainTwig_ok (n : Mark) (a1 : State) (a2) (ha1 : a1.Ok n) : (State.drainTwig a1 a2).Ok n := by
  unfold State.drainTwig
  repeat' first
    | with_reducible assumption
    | intro _
    | (extract_lets +onlyGivenNames z; first | (refine State.Ok.cut (n := n) z ?_ ?_ <;> [(intro _; clear_value z); subst z]) | (refine State.Ok.cutPair (n := n) z ?_ ?_ <;> [(intro _; clear_value z); subst z]) | clear_value z)
    | with_reducible apply State.Ok.ite
    | with_reducible apply State.each_ok
    | with_reducible apply State.discardDesc_ok
    | with_reducible apply State.endNp_ok
    | with_reducible apply State.drainWaiting_ok
    | with_reducible apply State.modCore_ok
    | with_reducible apply State.emit_ok
    | with_reducible apply State.modFabric_ok
    | with_reducible apply State.cutAbort_ok
    | split

end Sys2Proof.Machine
end

