-- ==== Sys2Proof/Laws/KeepHeads.lean ====
section
/-! SUPPORT. Every operation of Heads.lean keeps the invariant, and the local count does not run back. -/

set_option linter.all false

namespace Sys2Proof.Machine

theorem State.reach_ok (n : Mark) (a1 : State) (a2) (ha1 : a1.Ok n) : (State.reach a1 a2).Ok n := by
  unfold State.reach
  exact ⟨⟨ha1.1.dict, ha1.1.base, ha1.1.mem, ha1.1.counters, ha1.1.trunks, ha1.1.hports, ha1.1.lanes, ha1.1.parts, ha1.1.shared⟩,
    Nat.le_trans ha1.2.now (Nat.le_max_left ..), ha1.2.test, ha1.2.latch⟩

theorem State.tick_ok (n : Mark) (a1 : State) (a2) (ha1 : a1.Ok n) : (State.tick a1 a2).Ok n :=
  State.each_ok _ _ (fun s _ hs => State.addCounterEv_ok _ s _ _ hs) (State.reach_ok _ _ _ ha1)

/-- The invariant of the state that a command answers, if it answers one. -/
structure OkH (n : Mark) (o : Host.Outcome State Fault Refusal) : Prop where
  of_eq : ∀ t, o = .next t → t.Ok n

theorem act1_ok {n : Mark} {s : State} (t : Nat) (f : State → State) (hf : ∀ s, s.Ok n → (f s).Ok n) (h : s.Ok n) : OkH n (act1 s t f) := by
  refine ⟨fun u e => ?_⟩
  cases e
  exact State.Ok.same (s := f (s.tick t)) rfl rfl rfl rfl rfl rfl rfl rfl rfl rfl rfl rfl rfl (hf _ (State.tick_ok _ _ _ h))

end Sys2Proof.Machine
end

