-- ==== Sys2Proof/Laws/KeepLinks.lean ====
section
/-! SUPPORT. Every operation of Links.lean keeps the invariant, and the local count does not run back. -/

set_option linter.all false

namespace Sys2Proof.Machine

theorem State.jForm_ok (n : Mark) (a1 : State) (a2) (a3) (a4) (a5) (a6) (a7) (a8) (ha1 : a1.Ok n) : (State.jForm a1 a2 a3 a4 a5 a6 a7 a8).Ok n := by
  unfold State.jForm
  repeat' first
    | with_reducible assumption
    | intro _
    | (extract_lets +onlyGivenNames z; first | (refine State.Ok.cut (n := n) z ?_ ?_ <;> [(intro _; clear_value z); subst z]) | (refine State.Ok.cutPair (n := n) z ?_ ?_ <;> [(intro _; clear_value z); subst z]) | clear_value z)
    | with_reducible apply State.Ok.ite
    | (with_reducible refine State.modJournal_ok _ rfl ?_)
    | split

theorem State.jAppend_ok (n : Mark) (a1 : State) (a2) (ha1 : a1.Ok n) : (State.jAppend a1 a2).Ok n := by
  unfold State.jAppend
  repeat' first
    | with_reducible assumption
    | intro _
    | (extract_lets +onlyGivenNames z; first | (refine State.Ok.cut (n := n) z ?_ ?_ <;> [(intro _; clear_value z); subst z]) | (refine State.Ok.cutPair (n := n) z ?_ ?_ <;> [(intro _; clear_value z); subst z]) | clear_value z)
    | with_reducible apply State.Ok.ite
    | with_reducible apply State.jForm_ok
    | split

theorem State.setMaster_ok (n : Mark) (a1 : State) (a2) (a3) (ha1 : a1.Ok n) : (State.setMaster a1 a2 a3).Ok n := by
  unfold State.setMaster
  repeat' first
    | with_reducible assumption
    | intro _
    | (extract_lets +onlyGivenNames z; first | (refine State.Ok.cut (n := n) z ?_ ?_ <;> [(intro _; clear_value z); subst z]) | (refine State.Ok.cutPair (n := n) z ?_ ?_ <;> [(intro _; clear_value z); subst z]) | clear_value z)
    | with_reducible apply State.Ok.ite
    | with_reducible apply State.modTime_ok
    | with_reducible apply State.noteAt_ok
    | split

theorem State.enterHoldover_ok (n : Mark) (a1 : State) (ha1 : a1.Ok n) : (State.enterHoldover a1).Ok n := by
  unfold State.enterHoldover
  repeat' first
    | with_reducible assumption
    | intro _
    | (extract_lets +onlyGivenNames z; first | (refine State.Ok.cut (n := n) z ?_ ?_ <;> [(intro _; clear_value z); subst z]) | (refine State.Ok.cutPair (n := n) z ?_ ?_ <;> [(intro _; clear_value z); subst z]) | clear_value z)
    | with_reducible apply State.Ok.ite
    | with_reducible apply State.modTime_ok
    | with_reducible apply State.setMaster_ok
    | with_reducible apply State.noteAt_ok
    | split

theorem State.upstreamLost_ok (n : Mark) (a1 : State) (ha1 : a1.Ok n) : (State.upstreamLost a1).Ok n := by
  unfold State.upstreamLost
  repeat' first
    | with_reducible assumption
    | intro _
    | (extract_lets +onlyGivenNames z; first | (refine State.Ok.cut (n := n) z ?_ ?_ <;> [(intro _; clear_value z); subst z]) | (refine State.Ok.cutPair (n := n) z ?_ ?_ <;> [(intro _; clear_value z); subst z]) | clear_value z)
    | with_reducible apply State.Ok.ite
    | with_reducible apply State.modTrunk_ok
    | with_reducible apply State.modTime_ok
    | with_reducible apply State.enterHoldover_ok
    | split

theorem State.timeTrunkDown_ok (n : Mark) (a1 : State) (a2) (ha1 : a1.Ok n) : (State.timeTrunkDown a1 a2).Ok n := by
  unfold State.timeTrunkDown
  repeat' first
    | with_reducible assumption
    | intro _
    | (extract_lets +onlyGivenNames z; first | (refine State.Ok.cut (n := n) z ?_ ?_ <;> [(intro _; clear_value z); subst z]) | (refine State.Ok.cutPair (n := n) z ?_ ?_ <;> [(intro _; clear_value z); subst z]) | clear_value z)
    | with_reducible apply State.Ok.ite
    | with_reducible apply State.modTrunk_ok
    | with_reducible apply State.upstreamLost_ok
    | split

theorem State.contribDone_ok (n : Mark) (a1 : State) (a2) (a3) (a4) (ha1 : a1.Ok n) : (State.contribDone a1 a2 a3 a4).Ok n := by
  unfold State.contribDone
  repeat' first
    | with_reducible assumption
    | intro _
    | (extract_lets +onlyGivenNames z; first | (refine State.Ok.cut (n := n) z ?_ ?_ <;> [(intro _; clear_value z); subst z]) | (refine State.Ok.cutPair (n := n) z ?_ ?_ <;> [(intro _; clear_value z); subst z]) | clear_value z)
    | with_reducible apply State.Ok.ite
    | with_reducible apply State.ringRecord_ok
    | with_reducible apply State.ringRelease_ok
    | split

theorem State.setRound_ok (n : Mark) (a1 : State) (a2) (ha1 : a1.Ok n) : (State.setRound a1 a2).Ok n := by
  unfold State.setRound
  repeat' first
    | with_reducible assumption
    | intro _
    | (extract_lets +onlyGivenNames z; first | (refine State.Ok.cut (n := n) z ?_ ?_ <;> [(intro _; clear_value z); subst z]) | (refine State.Ok.cutPair (n := n) z ?_ ?_ <;> [(intro _; clear_value z); subst z]) | clear_value z)
    | with_reducible apply State.Ok.ite
    | with_reducible apply State.modEngines_ok
    | split

theorem State.engineTo_ok (n : Mark) (a1 : State) (a2) (a3) (a4) (a5) (a6) (ha1 : a1.Ok n) : (State.engineTo a1 a2 a3 a4 a5 a6).Ok n := by
  unfold State.engineTo
  repeat' first
    | with_reducible assumption
    | intro _
    | (extract_lets +onlyGivenNames z; first | (refine State.Ok.cut (n := n) z ?_ ?_ <;> [(intro _; clear_value z); subst z]) | (refine State.Ok.cutPair (n := n) z ?_ ?_ <;> [(intro _; clear_value z); subst z]) | clear_value z)
    | with_reducible apply State.Ok.ite
    | with_reducible apply State.submit_ok
    | split

theorem State.engineGroup_ok (n : Mark) (a1 : State) (a2) (a3) (a4) (a5) (ha1 : a1.Ok n) : (State.engineGroup a1 a2 a3 a4 a5).Ok n := by
  unfold State.engineGroup
  repeat' first
    | with_reducible assumption
    | intro _
    | (extract_lets +onlyGivenNames z; first | (refine State.Ok.cut (n := n) z ?_ ?_ <;> [(intro _; clear_value z); subst z]) | (refine State.Ok.cutPair (n := n) z ?_ ?_ <;> [(intro _; clear_value z); subst z]) | clear_value z)
    | with_reducible apply State.Ok.ite
    | with_reducible apply State.submit_ok
    | split

theorem State.abortWaiters_ok (n : Mark) (a1 : State) (a2) (a3) (ha1 : a1.Ok n) : (State.abortWaiters a1 a2 a3).Ok n := by
  unfold State.abortWaiters
  repeat' first
    | with_reducible assumption
    | intro _
    | (extract_lets +onlyGivenNames z; first | (refine State.Ok.cut (n := n) z ?_ ?_ <;> [(intro _; clear_value z); subst z]) | (refine State.Ok.cutPair (n := n) z ?_ ?_ <;> [(intro _; clear_value z); subst z]) | clear_value z)
    | with_reducible apply State.Ok.ite
    | with_reducible apply State.each_ok
    | with_reducible apply State.contribDone_ok
    | with_reducible apply State.setRound_ok
    | split

theorem State.nextRound_ok (n : Mark) (a1 : State) (a2) (ha1 : a1.Ok n) : (State.nextRound a1 a2).Ok n := by
  unfold State.nextRound
  repeat' first
    | with_reducible assumption
    | intro _
    | (extract_lets +onlyGivenNames z; first | (refine State.Ok.cut (n := n) z ?_ ?_ <;> [(intro _; clear_value z); subst z]) | (refine State.Ok.cutPair (n := n) z ?_ ?_ <;> [(intro _; clear_value z); subst z]) | clear_value z)
    | with_reducible apply State.Ok.ite
    | with_reducible apply State.setRound_ok
    | split

theorem State.reduceAbortHere_ok (n : Mark) (a1 : State) (a2) (ha1 : a1.Ok n) : (State.reduceAbortHere a1 a2).Ok n := by
  unfold State.reduceAbortHere
  repeat' first
    | with_reducible assumption
    | intro _
    | (extract_lets +onlyGivenNames z; first | (refine State.Ok.cut (n := n) z ?_ ?_ <;> [(intro _; clear_value z); subst z]) | (refine State.Ok.cutPair (n := n) z ?_ ?_ <;> [(intro _; clear_value z); subst z]) | clear_value z)
    | with_reducible apply State.Ok.ite
    | with_reducible apply State.nextRound_ok
    | with_reducible apply State.abortWaiters_ok
    | with_reducible apply State.noteAt_ok
    | with_reducible apply State.countHeart_ok
    | split

theorem State.reduceAbortSend_ok (n : Mark) (a1 : State) (a2) (a3) (ha1 : a1.Ok n) : (State.reduceAbortSend a1 a2 a3).Ok n := by
  unfold State.reduceAbortSend
  repeat' first
    | with_reducible assumption
    | intro _
    | (extract_lets +onlyGivenNames z; first | (refine State.Ok.cut (n := n) z ?_ ?_ <;> [(intro _; clear_value z); subst z]) | (refine State.Ok.cutPair (n := n) z ?_ ?_ <;> [(intro _; clear_value z); subst z]) | clear_value z)
    | with_reducible apply State.Ok.ite
    | with_reducible apply State.engineTo_ok
    | with_reducible apply State.engineGroup_ok
    | split

theorem State.reduceAbort_ok (n : Mark) (a1 : State) (a2) (ha1 : a1.Ok n) : (State.reduceAbort a1 a2).Ok n := by
  unfold State.reduceAbort
  repeat' first
    | with_reducible assumption
    | intro _
    | (extract_lets +onlyGivenNames z; first | (refine State.Ok.cut (n := n) z ?_ ?_ <;> [(intro _; clear_value z); subst z]) | (refine State.Ok.cutPair (n := n) z ?_ ?_ <;> [(intro _; clear_value z); subst z]) | clear_value z)
    | with_reducible apply State.Ok.ite
    | with_reducible apply State.reduceAbortHere_ok
    | with_reducible apply State.reduceAbortSend_ok
    | split

theorem State.deadWaiters_ok (n : Mark) (a1 : State) (a2) (a3) (ha1 : a1.Ok n) : (State.deadWaiters a1 a2 a3).Ok n := by
  unfold State.deadWaiters
  repeat' first
    | with_reducible assumption
    | intro _
    | (extract_lets +onlyGivenNames z; first | (refine State.Ok.cut (n := n) z ?_ ?_ <;> [(intro _; clear_value z); subst z]) | (refine State.Ok.cutPair (n := n) z ?_ ?_ <;> [(intro _; clear_value z); subst z]) | clear_value z)
    | with_reducible apply State.Ok.ite
    | with_reducible apply State.modEngines_ok
    | split

theorem State.reducePartReset_ok (n : Mark) (a1 : State) (a2) (ha1 : a1.Ok n) : (State.reducePartReset a1 a2).Ok n := by
  unfold State.reducePartReset
  repeat' first
    | with_reducible assumption
    | intro _
    | (extract_lets +onlyGivenNames z; first | (refine State.Ok.cut (n := n) z ?_ ?_ <;> [(intro _; clear_value z); subst z]) | (refine State.Ok.cutPair (n := n) z ?_ ?_ <;> [(intro _; clear_value z); subst z]) | clear_value z)
    | with_reducible apply State.Ok.ite
    | with_reducible apply State.each_ok
    | with_reducible apply State.reduceAbort_ok
    | with_reducible apply State.abortWaiters_ok
    | split

theorem State.reduceTrunkDown_ok (n : Mark) (a1 : State) (a2) (ha1 : a1.Ok n) : (State.reduceTrunkDown a1 a2).Ok n := by
  unfold State.reduceTrunkDown
  repeat' first
    | with_reducible assumption
    | intro _
    | (extract_lets +onlyGivenNames z; first | (refine State.Ok.cut (n := n) z ?_ ?_ <;> [(intro _; clear_value z); subst z]) | (refine State.Ok.cutPair (n := n) z ?_ ?_ <;> [(intro _; clear_value z); subst z]) | clear_value z)
    | with_reducible apply State.Ok.ite
    | with_reducible apply State.each_ok
    | with_reducible apply State.reduceAbort_ok
    | split

theorem State.engineOffline_ok (n : Mark) (a1 : State) (a2) (ha1 : a1.Ok n) : (State.engineOffline a1 a2).Ok n := by
  unfold State.engineOffline
  repeat' first
    | with_reducible assumption
    | intro _
    | (extract_lets +onlyGivenNames z; first | (refine State.Ok.cut (n := n) z ?_ ?_ <;> [(intro _; clear_value z); subst z]) | (refine State.Ok.cutPair (n := n) z ?_ ?_ <;> [(intro _; clear_value z); subst z]) | clear_value z)
    | with_reducible apply State.Ok.ite
    | with_reducible apply State.modEngines_ok
    | with_reducible apply State.ringComplete_ok
    | with_reducible apply State.each_ok
    | with_reducible apply State.reduceAbort_ok
    | split

theorem State.breakLock_ok (n : Mark) (a1 : State) (a2) (ha1 : a1.Ok n) : (State.breakLock a1 a2).Ok n := by
  unfold State.breakLock
  repeat' first
    | with_reducible assumption
    | intro _
    | (extract_lets +onlyGivenNames z; first | (refine State.Ok.cut (n := n) z ?_ ?_ <;> [(intro _; clear_value z); subst z]) | (refine State.Ok.cutPair (n := n) z ?_ ?_ <;> [(intro _; clear_value z); subst z]) | clear_value z)
    | with_reducible apply State.Ok.ite
    | with_reducible apply State.modFabric_ok
    | with_reducible apply State.emit_ok
    | with_reducible apply State.noteFree_ok
    | with_reducible apply State.countBough_ok
    | split

theorem State.breakLocks_ok (n : Mark) (a1 : State) (a2) (ha1 : a1.Ok n) : (State.breakLocks a1 a2).Ok n := by
  unfold State.breakLocks
  repeat' first
    | with_reducible assumption
    | intro _
    | (extract_lets +onlyGivenNames z; first | (refine State.Ok.cut (n := n) z ?_ ?_ <;> [(intro _; clear_value z); subst z]) | (refine State.Ok.cutPair (n := n) z ?_ ?_ <;> [(intro _; clear_value z); subst z]) | clear_value z)
    | with_reducible apply State.Ok.ite
    | with_reducible apply State.each_ok
    | with_reducible apply State.breakLock_ok
    | split

theorem State.sendFateQuery_ok (n : Mark) (a1 : State) (a2) (ha1 : a1.Ok n) : (State.sendFateQuery a1 a2).Ok n := by
  unfold State.sendFateQuery
  repeat' first
    | with_reducible assumption
    | intro _
    | (extract_lets +onlyGivenNames z; first | (refine State.Ok.cut (n := n) z ?_ ?_ <;> [(intro _; clear_value z); subst z]) | (refine State.Ok.cutPair (n := n) z ?_ ?_ <;> [(intro _; clear_value z); subst z]) | clear_value z)
    | with_reducible apply State.Ok.ite
    | with_reducible apply State.modTx_ok
    | split

theorem State.trunkLeave_ok (n : Mark) (a1 : State) (a2) (a3) (a4) (ha1 : a1.Ok n) : (State.trunkLeave a1 a2 a3 a4).Ok n := by
  unfold State.trunkLeave
  repeat' first
    | with_reducible assumption
    | intro _
    | (extract_lets +onlyGivenNames z; first | (refine State.Ok.cut (n := n) z ?_ ?_ <;> [(intro _; clear_value z); subst z]) | (refine State.Ok.cutPair (n := n) z ?_ ?_ <;> [(intro _; clear_value z); subst z]) | clear_value z)
    | with_reducible apply State.Ok.ite
    | with_reducible apply State.modTrunk_ok
    | with_reducible apply State.noteFree_ok
    | with_reducible apply State.countTwig_ok
    | with_reducible apply State.breakLocks_ok
    | with_reducible apply State.reduceTrunkDown_ok
    | with_reducible apply State.timeTrunkDown_ok
    | split

theorem State.answerQueries_ok (n : Mark) (a1 : State) (a2) (ha1 : a1.Ok n) : (State.answerQueries a1 a2).Ok n := by
  unfold State.answerQueries
  repeat' first
    | with_reducible assumption
    | intro _
    | (extract_lets +onlyGivenNames z; first | (refine State.Ok.cut (n := n) z ?_ ?_ <;> [(intro _; clear_value z); subst z]) | (refine State.Ok.cutPair (n := n) z ?_ ?_ <;> [(intro _; clear_value z); subst z]) | clear_value z)
    | with_reducible apply State.Ok.ite
    | with_reducible apply State.each_ok
    | with_reducible apply State.controlTo_ok
    | with_reducible apply State.modRx_ok
    | split

theorem State.trunkOffline_ok (n : Mark) (a1 : State) (a2) (a3) (ha1 : a1.Ok n) : (State.trunkOffline a1 a2 a3).Ok n := by
  unfold State.trunkOffline
  repeat' first
    | with_reducible assumption
    | intro _
    | (extract_lets +onlyGivenNames z; first | (refine State.Ok.cut (n := n) z ?_ ?_ <;> [(intro _; clear_value z); subst z]) | (refine State.Ok.cutPair (n := n) z ?_ ?_ <;> [(intro _; clear_value z); subst z]) | clear_value z)
    | with_reducible apply State.Ok.ite
    | with_reducible apply State.trunkLeave_ok
    | with_reducible apply State.drainTwig_ok
    | with_reducible apply State.answerQueries_ok
    | with_reducible apply State.modTx_ok
    | split

theorem State.quietLanes_ok (n : Mark) (a1 : State) (a2) (ha1 : a1.Ok n) : (State.quietLanes a1 a2).Ok n := by
  unfold State.quietLanes
  repeat' first
    | with_reducible assumption
    | intro _
    | (extract_lets +onlyGivenNames z; first | (refine State.Ok.cut (n := n) z ?_ ?_ <;> [(intro _; clear_value z); subst z]) | (refine State.Ok.cutPair (n := n) z ?_ ?_ <;> [(intro _; clear_value z); subst z]) | clear_value z)
    | with_reducible apply State.Ok.ite
    | with_reducible apply State.each_ok
    | with_reducible apply State.modLane_ok
    | split

theorem State.hpDownCore_ok (n : Mark) (a1 : State) (a2) (a3) (ha1 : a1.Ok n) : (State.hpDownCore a1 a2 a3).Ok n := by
  unfold State.hpDownCore
  repeat' first
    | with_reducible assumption
    | intro _
    | (extract_lets +onlyGivenNames z; first | (refine State.Ok.cut (n := n) z ?_ ?_ <;> [(intro _; clear_value z); subst z]) | (refine State.Ok.cutPair (n := n) z ?_ ?_ <;> [(intro _; clear_value z); subst z]) | clear_value z)
    | with_reducible apply State.Ok.ite
    | with_reducible apply State.quietLanes_ok
    | with_reducible apply State.modHPort_ok
    | with_reducible apply State.noteAt_ok
    | split

theorem State.slotSignal_ok (n : Mark) (a1 : State) (a2) (a3) (a4) (ha1 : a1.Ok n) : (State.slotSignal a1 a2 a3 a4).Ok n := by
  unfold State.slotSignal
  repeat' first
    | with_reducible assumption
    | intro _
    | (extract_lets +onlyGivenNames z; first | (refine State.Ok.cut (n := n) z ?_ ?_ <;> [(intro _; clear_value z); subst z]) | (refine State.Ok.cutPair (n := n) z ?_ ?_ <;> [(intro _; clear_value z); subst z]) | clear_value z)
    | with_reducible apply State.Ok.ite
    | with_reducible apply State.emit_ok
    | split

theorem State.slotEvent_ok (n : Mark) (a1 : State) (a2) (a3) (a4) (ha1 : a1.Ok n) : (State.slotEvent a1 a2 a3 a4).Ok n := by
  unfold State.slotEvent
  repeat' first
    | with_reducible assumption
    | intro _
    | (extract_lets +onlyGivenNames z; first | (refine State.Ok.cut (n := n) z ?_ ?_ <;> [(intro _; clear_value z); subst z]) | (refine State.Ok.cutPair (n := n) z ?_ ?_ <;> [(intro _; clear_value z); subst z]) | clear_value z)
    | with_reducible apply State.Ok.ite
    | with_reducible apply State.emit_ok
    | with_reducible apply State.modVdp_ok
    | with_reducible apply State.slotSignal_ok
    | split

theorem State.vdpLinkDown_ok (n : Mark) (a1 : State) (a2) (a3) (ha1 : a1.Ok n) : (State.vdpLinkDown a1 a2 a3).Ok n := by
  unfold State.vdpLinkDown
  repeat' first
    | with_reducible assumption
    | intro _
    | (extract_lets +onlyGivenNames z; first | (refine State.Ok.cut (n := n) z ?_ ?_ <;> [(intro _; clear_value z); subst z]) | (refine State.Ok.cutPair (n := n) z ?_ ?_ <;> [(intro _; clear_value z); subst z]) | clear_value z)
    | with_reducible apply State.Ok.ite
    | with_reducible apply State.slotEvent_ok
    | with_reducible apply State.modVdp_ok
    | split

theorem State.sliceDown_ok (n : Mark) (a1 : State) (a2) (a3) (ha1 : a1.Ok n) : (State.sliceDown a1 a2 a3).Ok n := by
  unfold State.sliceDown
  repeat' first
    | with_reducible assumption
    | intro _
    | (extract_lets +onlyGivenNames z; first | (refine State.Ok.cut (n := n) z ?_ ?_ <;> [(intro _; clear_value z); subst z]) | (refine State.Ok.cutPair (n := n) z ?_ ?_ <;> [(intro _; clear_value z); subst z]) | clear_value z)
    | with_reducible apply State.Ok.ite
    | with_reducible apply State.slotEvent_ok
    | with_reducible apply State.modVdp_ok
    | split

theorem State.partSteps_ok (n : Mark) (a1 : State) (a2) (ha1 : a1.Ok n) : (State.partSteps a1 a2).Ok n := by
  unfold State.partSteps
  repeat' first
    | with_reducible assumption
    | intro _
    | (extract_lets +onlyGivenNames z; first | (refine State.Ok.cut (n := n) z ?_ ?_ <;> [(intro _; clear_value z); subst z]) | (refine State.Ok.cutPair (n := n) z ?_ ?_ <;> [(intro _; clear_value z); subst z]) | clear_value z)
    | with_reducible apply State.Ok.ite
    | with_reducible apply State.modCore_ok
    | with_reducible apply State.fcSettle_ok
    | with_reducible apply State.modGates_ok
    | with_reducible apply State.each_ok
    | with_reducible apply State.answerDesc_ok
    | with_reducible apply State.endNp_ok
    | with_reducible apply State.endTrack_ok
    | with_reducible apply State.modFabric_ok
    | with_reducible apply State.modPart_ok
    | with_reducible apply State.cutAbort_ok
    | with_reducible apply State.dequeue_ok
    | with_reducible apply State.freeCells_ok
    | with_reducible apply State.nullifyFlying_ok
    | with_reducible apply State.countLimb_ok
    | split

theorem State.containMessage_ok (n : Mark) (a1 : State) (a2) (a3) (a4) (a5) (ha1 : a1.Ok n) : (State.containMessage a1 a2 a3 a4 a5).Ok n := by
  unfold State.containMessage
  repeat' first
    | with_reducible assumption
    | intro _
    | (extract_lets +onlyGivenNames z; first | (refine State.Ok.cut (n := n) z ?_ ?_ <;> [(intro _; clear_value z); subst z]) | (refine State.Ok.cutPair (n := n) z ?_ ?_ <;> [(intro _; clear_value z); subst z]) | clear_value z)
    | with_reducible apply State.Ok.ite
    | with_reducible apply State.modFabric_ok
    | with_reducible apply State.countHeart_ok
    | with_reducible apply State.sendControl_ok
    | split

theorem State.sliceLifted_ok (n : Mark) (a1 : State) (a2) (a3) (ha1 : a1.Ok n) : (State.sliceLifted a1 a2 a3).Ok n := by
  unfold State.sliceLifted
  repeat' first
    | with_reducible assumption
    | intro _
    | (extract_lets +onlyGivenNames z; first | (refine State.Ok.cut (n := n) z ?_ ?_ <;> [(intro _; clear_value z); subst z]) | (refine State.Ok.cutPair (n := n) z ?_ ?_ <;> [(intro _; clear_value z); subst z]) | clear_value z)
    | with_reducible apply State.Ok.ite
    | with_reducible apply State.containMessage_ok
    | split

theorem State.partStep5_ok (n : Mark) (a1 : State) (a2) (ha1 : a1.Ok n) : (State.partStep5 a1 a2).Ok n := by
  unfold State.partStep5
  repeat' first
    | with_reducible assumption
    | intro _
    | (extract_lets +onlyGivenNames z; first | (refine State.Ok.cut (n := n) z ?_ ?_ <;> [(intro _; clear_value z); subst z]) | (refine State.Ok.cutPair (n := n) z ?_ ?_ <;> [(intro _; clear_value z); subst z]) | clear_value z)
    | with_reducible apply State.Ok.ite
    | with_reducible apply State.each_ok
    | with_reducible apply State.emit_ok
    | with_reducible apply State.hpDownCore_ok
    | with_reducible apply State.emitAll_ok
    | with_reducible apply State.sliceLifted_ok
    | with_reducible apply State.reducePartReset_ok
    | with_reducible apply State.modPart_ok
    | split

theorem State.sharedStart_ok (n : Mark) (a1 : State) (a2) (ha1 : a1.Ok n) : (State.sharedStart a1 a2).Ok n := by
  unfold State.sharedStart
  repeat' first
    | with_reducible assumption
    | intro _
    | (extract_lets +onlyGivenNames z; first | (refine State.Ok.cut (n := n) z ?_ ?_ <;> [(intro _; clear_value z); subst z]) | (refine State.Ok.cutPair (n := n) z ?_ ?_ <;> [(intro _; clear_value z); subst z]) | clear_value z)
    | with_reducible apply State.Ok.ite
    | with_reducible apply State.modShared_ok
    | with_reducible apply State.perst_ok
    | with_reducible apply State.each_ok
    | with_reducible apply State.drainTwig_ok
    | with_reducible apply State.hpDownCore_ok
    | with_reducible apply State.modVdp_ok
    | split

theorem State.sharedCheck_ok (n : Mark) (a1 : State) (a2) (ha1 : a1.Ok n) : (State.sharedCheck a1 a2).Ok n := by
  unfold State.sharedCheck
  repeat' first
    | with_reducible assumption
    | intro _
    | (extract_lets +onlyGivenNames z; first | (refine State.Ok.cut (n := n) z ?_ ?_ <;> [(intro _; clear_value z); subst z]) | (refine State.Ok.cutPair (n := n) z ?_ ?_ <;> [(intro _; clear_value z); subst z]) | clear_value z)
    | with_reducible apply State.Ok.ite
    | with_reducible apply State.sharedStart_ok
    | split

theorem State.sharedCheckPart_ok (n : Mark) (a1 : State) (a2) (ha1 : a1.Ok n) : (State.sharedCheckPart a1 a2).Ok n := by
  unfold State.sharedCheckPart
  repeat' first
    | with_reducible assumption
    | intro _
    | (extract_lets +onlyGivenNames z; first | (refine State.Ok.cut (n := n) z ?_ ?_ <;> [(intro _; clear_value z); subst z]) | (refine State.Ok.cutPair (n := n) z ?_ ?_ <;> [(intro _; clear_value z); subst z]) | clear_value z)
    | with_reducible apply State.Ok.ite
    | with_reducible apply State.each_ok
    | with_reducible apply State.sharedCheck_ok
    | split

theorem State.partReset_ok (n : Mark) (a1 : State) (a2) (a3) (ha1 : a1.Ok n) : (State.partReset a1 a2 a3).Ok n := by
  unfold State.partReset
  repeat' first
    | with_reducible assumption
    | intro _
    | (extract_lets +onlyGivenNames z; first | (refine State.Ok.cut (n := n) z ?_ ?_ <;> [(intro _; clear_value z); subst z]) | (refine State.Ok.cutPair (n := n) z ?_ ?_ <;> [(intro _; clear_value z); subst z]) | clear_value z)
    | with_reducible apply State.Ok.ite
    | with_reducible apply State.modPart_ok
    | with_reducible apply State.noteAt_ok
    | with_reducible apply State.partStep5_ok
    | with_reducible apply State.partSteps_ok
    | with_reducible apply State.emitAll_ok
    | with_reducible apply State.sharedCheckPart_ok
    | split

theorem State.partCauseEnd_ok (n : Mark) (a1 : State) (a2) (ha1 : a1.Ok n) : (State.partCauseEnd a1 a2).Ok n := by
  unfold State.partCauseEnd
  repeat' first
    | with_reducible assumption
    | intro _
    | (extract_lets +onlyGivenNames z; first | (refine State.Ok.cut (n := n) z ?_ ?_ <;> [(intro _; clear_value z); subst z]) | (refine State.Ok.cutPair (n := n) z ?_ ?_ <;> [(intro _; clear_value z); subst z]) | clear_value z)
    | with_reducible apply State.Ok.ite
    | with_reducible apply State.modPart_ok
    | with_reducible apply State.noteAt_ok
    | split

theorem State.containPart_ok (n : Mark) (a1 : State) (a2) (a3) (a4) (ha1 : a1.Ok n) : (State.containPart a1 a2 a3 a4).Ok n := by
  unfold State.containPart
  repeat' first
    | with_reducible assumption
    | intro _
    | (extract_lets +onlyGivenNames z; first | (refine State.Ok.cut (n := n) z ?_ ?_ <;> [(intro _; clear_value z); subst z]) | (refine State.Ok.cutPair (n := n) z ?_ ?_ <;> [(intro _; clear_value z); subst z]) | clear_value z)
    | with_reducible apply State.Ok.ite
    | with_reducible apply State.modPart_ok
    | with_reducible apply State.partStep5_ok
    | with_reducible apply State.partSteps_ok
    | with_reducible apply State.containMessage_ok
    | with_reducible apply State.sharedCheckPart_ok
    | split

theorem State.partsLinkDown_ok (n : Mark) (a1 : State) (a2) (a3) (ha1 : a1.Ok n) : (State.partsLinkDown a1 a2 a3).Ok n := by
  unfold State.partsLinkDown
  repeat' first
    | with_reducible assumption
    | intro _
    | (extract_lets +onlyGivenNames z; first | (refine State.Ok.cut (n := n) z ?_ ?_ <;> [(intro _; clear_value z); subst z]) | (refine State.Ok.cutPair (n := n) z ?_ ?_ <;> [(intro _; clear_value z); subst z]) | clear_value z)
    | with_reducible apply State.Ok.ite
    | with_reducible apply State.partReset_ok
    | with_reducible apply State.vdpLinkDown_ok
    | with_reducible apply State.each_ok
    | with_reducible apply State.sliceDown_ok
    | split

theorem State.hpDown_ok (n : Mark) (a1 : State) (a2) (a3) (a4) (ha1 : a1.Ok n) : (State.hpDown a1 a2 a3 a4).Ok n := by
  unfold State.hpDown
  repeat' first
    | with_reducible assumption
    | intro _
    | (extract_lets +onlyGivenNames z; first | (refine State.Ok.cut (n := n) z ?_ ?_ <;> [(intro _; clear_value z); subst z]) | (refine State.Ok.cutPair (n := n) z ?_ ?_ <;> [(intro _; clear_value z); subst z]) | clear_value z)
    | with_reducible apply State.Ok.ite
    | with_reducible apply State.hpDownCore_ok
    | with_reducible apply State.each_ok
    | with_reducible apply State.drainTwig_ok
    | with_reducible apply State.breakLocks_ok
    | with_reducible apply State.partsLinkDown_ok
    | split

theorem State.stopTrunks_ok (n : Mark) (a1 : State) (a2) (a3) (ha1 : a1.Ok n) : (State.stopTrunks a1 a2 a3).Ok n := by
  unfold State.stopTrunks
  repeat' first
    | with_reducible assumption
    | intro _
    | (extract_lets +onlyGivenNames z; first | (refine State.Ok.cut (n := n) z ?_ ?_ <;> [(intro _; clear_value z); subst z]) | (refine State.Ok.cutPair (n := n) z ?_ ?_ <;> [(intro _; clear_value z); subst z]) | clear_value z)
    | with_reducible apply State.Ok.ite
    | with_reducible apply State.each_ok
    | with_reducible apply State.trunkOffline_ok
    | split

theorem State.stopPorts_ok (n : Mark) (a1 : State) (a2) (a3) (a4) (ha1 : a1.Ok n) : (State.stopPorts a1 a2 a3 a4).Ok n := by
  unfold State.stopPorts
  repeat' first
    | with_reducible assumption
    | intro _
    | (extract_lets +onlyGivenNames z; first | (refine State.Ok.cut (n := n) z ?_ ?_ <;> [(intro _; clear_value z); subst z]) | (refine State.Ok.cutPair (n := n) z ?_ ?_ <;> [(intro _; clear_value z); subst z]) | clear_value z)
    | with_reducible apply State.Ok.ite
    | with_reducible apply State.each_ok
    | with_reducible apply State.hpDown_ok
    | split

theorem State.contain_ok (n : Mark) (a1 : State) (a2) (ha1 : a1.Ok n) : (State.contain a1 a2).Ok n := by
  unfold State.contain
  repeat' first
    | with_reducible assumption
    | intro _
    | (extract_lets +onlyGivenNames z; first | (refine State.Ok.cut (n := n) z ?_ ?_ <;> [(intro _; clear_value z); subst z]) | (refine State.Ok.cutPair (n := n) z ?_ ?_ <;> [(intro _; clear_value z); subst z]) | clear_value z)
    | with_reducible apply State.Ok.ite
    | with_reducible apply State.modHier_ok
    | with_reducible apply State.stopTrunks_ok
    | with_reducible apply State.breakLocks_ok
    | with_reducible apply State.stopPorts_ok
    | with_reducible apply State.each_ok
    | with_reducible apply State.containMessage_ok
    | with_reducible apply foldl_ok
    | with_reducible apply foldlState_ok
    | split

theorem State.quarantineSlice_ok (n : Mark) (a1 : State) (a2) (a3) (a4) (ha1 : a1.Ok n) : (State.quarantineSlice a1 a2 a3 a4).Ok n := by
  unfold State.quarantineSlice
  repeat' first
    | with_reducible assumption
    | intro _
    | (extract_lets +onlyGivenNames z; first | (refine State.Ok.cut (n := n) z ?_ ?_ <;> [(intro _; clear_value z); subst z]) | (refine State.Ok.cutPair (n := n) z ?_ ?_ <;> [(intro _; clear_value z); subst z]) | clear_value z)
    | with_reducible apply State.Ok.ite
    | with_reducible apply State.each_ok
    | with_reducible apply State.endNp_ok
    | with_reducible apply State.modCore_ok
    | with_reducible apply State.modPart_ok
    | with_reducible apply State.sliceDown_ok
    | with_reducible apply State.modVdp_ok
    | with_reducible apply State.note_ok
    | with_reducible apply State.containMessage_ok
    | split

theorem State.fenceNotice_ok (n : Mark) (a1 : State) (a2) (a3) (ha1 : a1.Ok n) : (State.fenceNotice a1 a2 a3).Ok n := by
  unfold State.fenceNotice
  repeat' first
    | with_reducible assumption
    | intro _
    | (extract_lets +onlyGivenNames z; first | (refine State.Ok.cut (n := n) z ?_ ?_ <;> [(intro _; clear_value z); subst z]) | (refine State.Ok.cutPair (n := n) z ?_ ?_ <;> [(intro _; clear_value z); subst z]) | clear_value z)
    | with_reducible apply State.Ok.ite
    | with_reducible apply State.modFabric_ok
    | with_reducible apply State.sendControl_ok
    | split

theorem State.f3Steps_ok (n : Mark) (a1 : State) (e : n.latch = false) (ha1 : a1.Ok n) : (State.f3Steps a1).Ok n := by
  unfold State.f3Steps
  refine State.each_ok _ _ (fun s p h => State.containPart_ok _ _ _ _ _ h) ?_
  exact State.fenceNotice_ok _ _ _ _ (State.jAppend_ok _ _ _ (State.modFabric_ok _ _ _ (State.modFaults_free _ e ha1)))

theorem State.f4Steps_ok (n : Mark) (a1 : State) (ha1 : a1.Ok n) : (State.f4Steps a1).Ok n := by
  unfold State.f4Steps
  refine State.stopPorts_ok _ _ _ _ _ (State.modHier_ok _ _ _ (State.stopTrunks_ok _ _ _ _ (State.modFaults_latch _ rfl ?_)))
  split
  · rename_i h
    exact State.f3Steps_ok _ _ (ha1.unlatched (by rw [h]; decide)) ha1
  · exact ha1

theorem State.stormAction_ok (n : Mark) (a1 : State) (a2) (ha1 : a1.Ok n) : (State.stormAction a1 a2).1.Ok n := by
  unfold State.stormAction
  repeat' first
    | with_reducible assumption
    | intro _
    | (extract_lets +onlyGivenNames z; first | (refine State.Ok.cut (n := n) z ?_ ?_ <;> [(intro _; clear_value z); subst z]) | (refine State.Ok.cutPair (n := n) z ?_ ?_ <;> [(intro _; clear_value z); subst z]) | clear_value z)
    | with_reducible apply State.Ok.ite
    | with_reducible apply State.Ok.iteFst
    | with_reducible apply State.contain_ok
    | with_reducible apply State.engineOffline_ok
    | (with_reducible refine State.modFaults_ok _ rfl ?_)
    | split

theorem State.storm_ok (n : Mark) (a1 : State) (a2) (ha1 : a1.Ok n) : (State.storm a1 a2).Ok n := by
  unfold State.storm
  repeat' first
    | with_reducible assumption
    | intro _
    | (extract_lets +onlyGivenNames z; first | (refine State.Ok.cut (n := n) z ?_ ?_ <;> [(intro _; clear_value z); subst z]) | (refine State.Ok.cutPair (n := n) z ?_ ?_ <;> [(intro _; clear_value z); subst z]) | clear_value z)
    | with_reducible apply State.Ok.ite
    | with_reducible apply State.Ok.iteFst
    | (with_reducible refine State.modFaults_ok _ rfl ?_)
    | with_reducible apply State.countHeart_ok
    | with_reducible apply State.stormAction_ok
    | with_reducible apply State.note_ok
    | split
    | (refine State.Ok.ofPair (by with_reducible assumption) ?_)

theorem State.violated_ok (n : Mark) (a1 : State) (a2) (ha1 : a1.Ok n) : (State.violated a1 a2).Ok n := by
  unfold State.violated
  repeat' first
    | with_reducible assumption
    | intro _
    | (extract_lets +onlyGivenNames z; first | (refine State.Ok.cut (n := n) z ?_ ?_ <;> [(intro _; clear_value z); subst z]) | (refine State.Ok.cutPair (n := n) z ?_ ?_ <;> [(intro _; clear_value z); subst z]) | clear_value z)
    | with_reducible apply State.Ok.ite
    | (with_reducible refine State.modFaults_ok _ rfl ?_)
    | with_reducible apply State.note_ok
    | with_reducible apply State.contain_ok
    | with_reducible apply State.quarantineSlice_ok
    | with_reducible apply State.containPart_ok
    | split

theorem State.crownSteps_ok (n : Mark) (a1 : State) (ha1 : a1.Ok n) : (State.crownSteps a1).Ok n := by
  unfold State.crownSteps
  have h0 : (a1.modFaults (fun f => { f with due := 0 })).Ok n := State.modFaults_ok _ rfl ha1
  refine .ite (.ite h0 (State.f4Steps_ok _ _ h0)) ?_
  split
  · rename_i h
    refine State.f3Steps_ok _ _ (h0.unlatched ?_) h0
    intro k
    rw [k] at h
    simp at h
  · exact h0

theorem State.settle_ok (n : Mark) (a1 : State) (ha1 : a1.Ok n) : (State.settle a1).Ok n := by
  unfold State.settle
  repeat' first
    | with_reducible assumption
    | intro _
    | (extract_lets +onlyGivenNames z; first | (refine State.Ok.cut (n := n) z ?_ ?_ <;> [(intro _; clear_value z); subst z]) | (refine State.Ok.cutPair (n := n) z ?_ ?_ <;> [(intro _; clear_value z); subst z]) | clear_value z)
    | with_reducible apply State.Ok.ite
    | with_reducible apply State.each_ok
    | with_reducible apply State.storm_ok
    | with_reducible apply State.violated_ok
    | with_reducible apply State.crownSteps_ok
    | split

theorem act2_ok {n : Mark} {s : State} (t : Nat) (f : State → State) (hf : ∀ s, s.Ok n → (f s).Ok n) (h : s.Ok n) : OkH n (act2 s t f) := by
  refine ⟨fun u e => ?_⟩
  cases e
  exact State.Ok.same (s := (f (s.tick t)).settle) rfl rfl rfl rfl rfl rfl rfl rfl rfl rfl rfl rfl rfl (State.settle_ok _ _ (hf _ (State.tick_ok _ _ _ h)))

end Sys2Proof.Machine
end

