-- ==== Sys2Proof/Laws/KeepTime.lean ====
section
/-! SUPPORT. Every operation of Time.lean keeps the invariant, and the local count does not run back. -/

set_option linter.all false

namespace Sys2Proof.Machine

theorem State.officeCheck_ok (n : Mark) (a1 : State) (ha1 : a1.Ok n) : (State.officeCheck a1).Ok n := by
  unfold State.officeCheck
  repeat' first
    | with_reducible assumption
    | intro _
    | (extract_lets +onlyGivenNames z; first | (refine State.Ok.cut (n := n) z ?_ ?_ <;> [(intro _; clear_value z); subst z]) | (refine State.Ok.cutPair (n := n) z ?_ ?_ <;> [(intro _; clear_value z); subst z]) | clear_value z)
    | with_reducible apply State.Ok.ite
    | with_reducible apply State.modTime_ok
    | split

theorem State.clearOwnFence_ok (n : Mark) (a1 : State) (ha1 : a1.Ok n) : (State.clearOwnFence a1).Ok n := by
  unfold State.clearOwnFence
  repeat' first
    | with_reducible assumption
    | intro _
    | (extract_lets +onlyGivenNames z; first | (refine State.Ok.cut (n := n) z ?_ ?_ <;> [(intro _; clear_value z); subst z]) | (refine State.Ok.cutPair (n := n) z ?_ ?_ <;> [(intro _; clear_value z); subst z]) | clear_value z)
    | with_reducible apply State.Ok.ite
    | with_reducible apply State.fenceNotice_ok
    | with_reducible apply State.modFabric_ok
    | split

theorem State.timeTrunkUp_ok (n : Mark) (a1 : State) (a2) (ha1 : a1.Ok n) : (State.timeTrunkUp a1 a2).Ok n := by
  unfold State.timeTrunkUp
  repeat' first
    | with_reducible assumption
    | intro _
    | (extract_lets +onlyGivenNames z; first | (refine State.Ok.cut (n := n) z ?_ ?_ <;> [(intro _; clear_value z); subst z]) | (refine State.Ok.cutPair (n := n) z ?_ ?_ <;> [(intro _; clear_value z); subst z]) | clear_value z)
    | with_reducible apply State.Ok.ite
    | with_reducible apply State.clearOwnFence_ok
    | with_reducible apply State.modFabric_ok
    | with_reducible apply State.modTime_ok
    | split

theorem State.enterLocked_ok (n : Mark) (a1 : State) (ha1 : a1.Ok n) : (State.enterLocked a1).Ok n := by
  unfold State.enterLocked
  repeat' first
    | with_reducible assumption
    | intro _
    | (extract_lets +onlyGivenNames z; first | (refine State.Ok.cut (n := n) z ?_ ?_ <;> [(intro _; clear_value z); subst z]) | (refine State.Ok.cutPair (n := n) z ?_ ?_ <;> [(intro _; clear_value z); subst z]) | clear_value z)
    | with_reducible apply State.Ok.ite
    | with_reducible apply State.clearOwnFence_ok
    | with_reducible apply State.noteFree_ok
    | split

theorem State.becomeMaster_ok (n : Mark) (a1 : State) (ha1 : a1.Ok n) : (State.becomeMaster a1).Ok n := by
  unfold State.becomeMaster
  repeat' first
    | with_reducible assumption
    | intro _
    | (extract_lets +onlyGivenNames z; first | (refine State.Ok.cut (n := n) z ?_ ?_ <;> [(intro _; clear_value z); subst z]) | (refine State.Ok.cutPair (n := n) z ?_ ?_ <;> [(intro _; clear_value z); subst z]) | clear_value z)
    | with_reducible apply State.Ok.ite
    | with_reducible apply State.modTime_ok
    | with_reducible apply State.setMaster_ok
    | with_reducible apply State.enterLocked_ok
    | split

theorem State.ownKeyChanged_ok (n : Mark) (a1 : State) (a2) (ha1 : a1.Ok n) : (State.ownKeyChanged a1 a2).Ok n := by
  unfold State.ownKeyChanged
  repeat' first
    | with_reducible assumption
    | intro _
    | (extract_lets +onlyGivenNames z; first | (refine State.Ok.cut (n := n) z ?_ ?_ <;> [(intro _; clear_value z); subst z]) | (refine State.Ok.cutPair (n := n) z ?_ ?_ <;> [(intro _; clear_value z); subst z]) | clear_value z)
    | with_reducible apply State.Ok.ite
    | with_reducible apply State.modTime_ok
    | with_reducible apply State.setMaster_ok
    | with_reducible apply State.officeCheck_ok
    | split

theorem timeAnnounceSendEffect_ok (n : Mark) (a1 : State) (ha1 : a1.Ok n) : (timeAnnounceSendEffect a1).Ok n := by
  unfold timeAnnounceSendEffect
  repeat' first
    | with_reducible assumption
    | intro _
    | (extract_lets +onlyGivenNames z; first | (refine State.Ok.cut (n := n) z ?_ ?_ <;> [(intro _; clear_value z); subst z]) | (refine State.Ok.cutPair (n := n) z ?_ ?_ <;> [(intro _; clear_value z); subst z]) | clear_value z)
    | with_reducible apply State.Ok.ite
    | with_reducible apply State.sendControl_ok
    | with_reducible apply State.modTime_ok
    | split

theorem execTimeAnnounceSend_ok (n : Mark) (a1) (a2 : State) (ha2 : a2.Ok n) : OkH n (execTimeAnnounceSend a1 a2) := by
  unfold execTimeAnnounceSend
  refine act1_ok _ _ (fun s hs => ?_) ha2
  try dsimp only
  repeat' first
    | with_reducible assumption
    | intro _
    | (extract_lets +onlyGivenNames z; first | (refine State.Ok.cut (n := n) z ?_ ?_ <;> [(intro _; clear_value z); subst z]) | (refine State.Ok.cutPair (n := n) z ?_ ?_ <;> [(intro _; clear_value z); subst z]) | clear_value z)
    | with_reducible apply State.Ok.ite
    | with_reducible apply timeAnnounceSendEffect_ok
    | split

theorem State.rechoose_ok (n : Mark) (a1 : State) (ha1 : a1.Ok n) : (State.rechoose a1).Ok n := by
  unfold State.rechoose
  repeat' first
    | with_reducible assumption
    | intro _
    | (extract_lets +onlyGivenNames z; first | (refine State.Ok.cut (n := n) z ?_ ?_ <;> [(intro _; clear_value z); subst z]) | (refine State.Ok.cutPair (n := n) z ?_ ?_ <;> [(intro _; clear_value z); subst z]) | clear_value z)
    | with_reducible apply State.Ok.ite
    | with_reducible apply State.modTime_ok
    | with_reducible apply State.modTrunk_ok
    | split

theorem State.follow_ok (n : Mark) (a1 : State) (a2) (a3) (ha1 : a1.Ok n) : (State.follow a1 a2 a3).Ok n := by
  unfold State.follow
  repeat' first
    | with_reducible assumption
    | intro _
    | (extract_lets +onlyGivenNames z; first | (refine State.Ok.cut (n := n) z ?_ ?_ <;> [(intro _; clear_value z); subst z]) | (refine State.Ok.cutPair (n := n) z ?_ ?_ <;> [(intro _; clear_value z); subst z]) | clear_value z)
    | with_reducible apply State.Ok.ite
    | with_reducible apply State.rechoose_ok
    | with_reducible apply State.setMaster_ok
    | split

theorem State.markHeard_ok (n : Mark) (a1 : State) (a2) (a3) (a4) (a5) (ha1 : a1.Ok n) : (State.markHeard a1 a2 a3 a4 a5).Ok n := by
  unfold State.markHeard
  repeat' first
    | with_reducible assumption
    | intro _
    | (extract_lets +onlyGivenNames z; first | (refine State.Ok.cut (n := n) z ?_ ?_ <;> [(intro _; clear_value z); subst z]) | (refine State.Ok.cutPair (n := n) z ?_ ?_ <;> [(intro _; clear_value z); subst z]) | clear_value z)
    | with_reducible apply State.Ok.ite
    | with_reducible apply State.modTrunk_ok
    | split

theorem State.takeAnnounce_ok (n : Mark) (a1 : State) (a2) (ha1 : a1.Ok n) : (State.takeAnnounce a1 a2).Ok n := by
  unfold State.takeAnnounce
  repeat' first
    | with_reducible assumption
    | intro _
    | (extract_lets +onlyGivenNames z; first | (refine State.Ok.cut (n := n) z ?_ ?_ <;> [(intro _; clear_value z); subst z]) | (refine State.Ok.cutPair (n := n) z ?_ ?_ <;> [(intro _; clear_value z); subst z]) | clear_value z)
    | with_reducible apply State.Ok.ite
    | with_reducible apply State.modTime_ok
    | with_reducible apply State.noteFree_ok
    | with_reducible apply State.follow_ok
    | with_reducible apply State.officeCheck_ok
    | with_reducible apply State.rechoose_ok
    | split

theorem masterLostEffect_ok (n : Mark) (a1 : State) (ha1 : a1.Ok n) : (masterLostEffect a1).Ok n := by
  unfold masterLostEffect
  repeat' first
    | with_reducible assumption
    | intro _
    | (extract_lets +onlyGivenNames z; first | (refine State.Ok.cut (n := n) z ?_ ?_ <;> [(intro _; clear_value z); subst z]) | (refine State.Ok.cutPair (n := n) z ?_ ?_ <;> [(intro _; clear_value z); subst z]) | clear_value z)
    | with_reducible apply State.Ok.ite
    | with_reducible apply State.enterHoldover_ok
    | split

theorem execMasterLost_ok (n : Mark) (a1) (a2 : State) (ha2 : a2.Ok n) : OkH n (execMasterLost a1 a2) := by
  unfold execMasterLost
  refine act1_ok _ _ (fun s hs => ?_) ha2
  try dsimp only
  repeat' first
    | with_reducible assumption
    | intro _
    | (extract_lets +onlyGivenNames z; first | (refine State.Ok.cut (n := n) z ?_ ?_ <;> [(intro _; clear_value z); subst z]) | (refine State.Ok.cutPair (n := n) z ?_ ?_ <;> [(intro _; clear_value z); subst z]) | clear_value z)
    | with_reducible apply State.Ok.ite
    | with_reducible apply masterLostEffect_ok
    | split

theorem electionSettledEffect_ok (n : Mark) (a1 : State) (ha1 : a1.Ok n) : (electionSettledEffect a1).Ok n := by
  unfold electionSettledEffect
  repeat' first
    | with_reducible assumption
    | intro _
    | (extract_lets +onlyGivenNames z; first | (refine State.Ok.cut (n := n) z ?_ ?_ <;> [(intro _; clear_value z); subst z]) | (refine State.Ok.cutPair (n := n) z ?_ ?_ <;> [(intro _; clear_value z); subst z]) | clear_value z)
    | with_reducible apply State.Ok.ite
    | with_reducible apply State.becomeMaster_ok
    | with_reducible apply State.modTime_ok
    | with_reducible apply State.follow_ok
    | split

theorem execElectionSettled_ok (n : Mark) (a1) (a2 : State) (ha2 : a2.Ok n) : OkH n (execElectionSettled a1 a2) := by
  unfold execElectionSettled
  refine act1_ok _ _ (fun s hs => ?_) ha2
  try dsimp only
  repeat' first
    | with_reducible assumption
    | intro _
    | (extract_lets +onlyGivenNames z; first | (refine State.Ok.cut (n := n) z ?_ ?_ <;> [(intro _; clear_value z); subst z]) | (refine State.Ok.cutPair (n := n) z ?_ ?_ <;> [(intro _; clear_value z); subst z]) | clear_value z)
    | with_reducible apply State.Ok.ite
    | with_reducible apply electionSettledEffect_ok
    | split

theorem takeOfficeEffect_ok (n : Mark) (a1 : State) (ha1 : a1.Ok n) : (takeOfficeEffect a1).Ok n := by
  unfold takeOfficeEffect
  repeat' first
    | with_reducible assumption
    | intro _
    | (extract_lets +onlyGivenNames z; first | (refine State.Ok.cut (n := n) z ?_ ?_ <;> [(intro _; clear_value z); subst z]) | (refine State.Ok.cutPair (n := n) z ?_ ?_ <;> [(intro _; clear_value z); subst z]) | clear_value z)
    | with_reducible apply State.Ok.ite
    | with_reducible apply State.becomeMaster_ok
    | with_reducible apply State.sendControl_ok
    | with_reducible apply State.modTime_ok
    | split

theorem execTakeOffice_ok (n : Mark) (a1) (a2 : State) (ha2 : a2.Ok n) : OkH n (execTakeOffice a1 a2) := by
  unfold execTakeOffice
  refine act1_ok _ _ (fun s hs => ?_) ha2
  try dsimp only
  repeat' first
    | with_reducible assumption
    | intro _
    | (extract_lets +onlyGivenNames z; first | (refine State.Ok.cut (n := n) z ?_ ?_ <;> [(intro _; clear_value z); subst z]) | (refine State.Ok.cutPair (n := n) z ?_ ?_ <;> [(intro _; clear_value z); subst z]) | clear_value z)
    | with_reducible apply State.Ok.ite
    | with_reducible apply takeOfficeEffect_ok
    | split

theorem selfElectEffect_ok (n : Mark) (a1 : State) (ha1 : a1.Ok n) : (selfElectEffect a1).Ok n := by
  unfold selfElectEffect
  repeat' first
    | with_reducible assumption
    | intro _
    | (extract_lets +onlyGivenNames z; first | (refine State.Ok.cut (n := n) z ?_ ?_ <;> [(intro _; clear_value z); subst z]) | (refine State.Ok.cutPair (n := n) z ?_ ?_ <;> [(intro _; clear_value z); subst z]) | clear_value z)
    | with_reducible apply State.Ok.ite
    | with_reducible apply State.modTime_ok
    | with_reducible apply State.becomeMaster_ok
    | split

theorem execSelfElect_ok (n : Mark) (a1) (a2 : State) (ha2 : a2.Ok n) : OkH n (execSelfElect a1 a2) := by
  unfold execSelfElect
  refine act1_ok _ _ (fun s hs => ?_) ha2
  try dsimp only
  repeat' first
    | with_reducible assumption
    | intro _
    | (extract_lets +onlyGivenNames z; first | (refine State.Ok.cut (n := n) z ?_ ?_ <;> [(intro _; clear_value z); subst z]) | (refine State.Ok.cutPair (n := n) z ?_ ?_ <;> [(intro _; clear_value z); subst z]) | clear_value z)
    | with_reducible apply State.Ok.ite
    | with_reducible apply selfElectEffect_ok
    | split

theorem State.refInvalid_ok (n : Mark) (a1 : State) (ha1 : a1.Ok n) : (State.refInvalid a1).Ok n := by
  unfold State.refInvalid
  repeat' first
    | with_reducible assumption
    | intro _
    | (extract_lets +onlyGivenNames z; first | (refine State.Ok.cut (n := n) z ?_ ?_ <;> [(intro _; clear_value z); subst z]) | (refine State.Ok.cutPair (n := n) z ?_ ?_ <;> [(intro _; clear_value z); subst z]) | clear_value z)
    | with_reducible apply State.Ok.ite
    | with_reducible apply State.ownKeyChanged_ok
    | with_reducible apply State.modTime_ok
    | with_reducible apply State.noteFree_ok
    | split

theorem State.takeRate_ok (n : Mark) (a1 : State) (a2) (ha1 : a1.Ok n) : (State.takeRate a1 a2).Ok n := by
  unfold State.takeRate
  repeat' first
    | with_reducible assumption
    | intro _
    | (extract_lets +onlyGivenNames z; first | (refine State.Ok.cut (n := n) z ?_ ?_ <;> [(intro _; clear_value z); subst z]) | (refine State.Ok.cutPair (n := n) z ?_ ?_ <;> [(intro _; clear_value z); subst z]) | clear_value z)
    | with_reducible apply State.Ok.ite
    | with_reducible apply State.modTime_ok
    | split

theorem timeRefPulseEffect_ok (n : Mark) (a1 : State) (a2) (ha1 : a1.Ok n) : (timeRefPulseEffect a1 a2).Ok n := by
  unfold timeRefPulseEffect
  repeat' first
    | with_reducible assumption
    | intro _
    | (extract_lets +onlyGivenNames z; first | (refine State.Ok.cut (n := n) z ?_ ?_ <;> [(intro _; clear_value z); subst z]) | (refine State.Ok.cutPair (n := n) z ?_ ?_ <;> [(intro _; clear_value z); subst z]) | clear_value z)
    | with_reducible apply State.Ok.ite
    | with_reducible apply State.modTime_ok
    | with_reducible apply State.takeRate_ok
    | with_reducible apply State.ownKeyChanged_ok
    | with_reducible apply State.refInvalid_ok
    | split

theorem execTimeRefPulse_ok (n : Mark) (a1) (a2) (a3 : State) (ha3 : a3.Ok n) : OkH n (execTimeRefPulse a1 a2 a3) := by
  unfold execTimeRefPulse
  refine act2_ok _ _ (fun s hs => ?_) ha3
  try dsimp only
  repeat' first
    | with_reducible assumption
    | intro _
    | (extract_lets +onlyGivenNames z; first | (refine State.Ok.cut (n := n) z ?_ ?_ <;> [(intro _; clear_value z); subst z]) | (refine State.Ok.cutPair (n := n) z ?_ ?_ <;> [(intro _; clear_value z); subst z]) | clear_value z)
    | with_reducible apply State.Ok.ite
    | with_reducible apply timeRefPulseEffect_ok
    | split

theorem execTimeRefPulseMissing_ok (n : Mark) (a1) (a2 : State) (ha2 : a2.Ok n) : OkH n (execTimeRefPulseMissing a1 a2) := by
  unfold execTimeRefPulseMissing
  refine act2_ok _ _ (fun s hs => ?_) ha2
  try dsimp only
  repeat' first
    | with_reducible assumption
    | intro _
    | (extract_lets +onlyGivenNames z; first | (refine State.Ok.cut (n := n) z ?_ ?_ <;> [(intro _; clear_value z); subst z]) | (refine State.Ok.cutPair (n := n) z ?_ ?_ <;> [(intro _; clear_value z); subst z]) | clear_value z)
    | with_reducible apply State.Ok.ite
    | with_reducible apply State.refInvalid_ok
    | split

theorem timeRef10mLostEffect_ok (n : Mark) (a1 : State) (ha1 : a1.Ok n) : (timeRef10mLostEffect a1).Ok n := by
  unfold timeRef10mLostEffect
  repeat' first
    | with_reducible assumption
    | intro _
    | (extract_lets +onlyGivenNames z; first | (refine State.Ok.cut (n := n) z ?_ ?_ <;> [(intro _; clear_value z); subst z]) | (refine State.Ok.cutPair (n := n) z ?_ ?_ <;> [(intro _; clear_value z); subst z]) | clear_value z)
    | with_reducible apply State.Ok.ite
    | with_reducible apply State.refInvalid_ok
    | with_reducible apply State.modTime_ok
    | split

theorem execTimeRef10mLost_ok (n : Mark) (a1) (a2 : State) (ha2 : a2.Ok n) : OkH n (execTimeRef10mLost a1 a2) := by
  unfold execTimeRef10mLost
  refine act2_ok _ _ (fun s hs => ?_) ha2
  try dsimp only
  repeat' first
    | with_reducible assumption
    | intro _
    | (extract_lets +onlyGivenNames z; first | (refine State.Ok.cut (n := n) z ?_ ?_ <;> [(intro _; clear_value z); subst z]) | (refine State.Ok.cutPair (n := n) z ?_ ?_ <;> [(intro _; clear_value z); subst z]) | clear_value z)
    | with_reducible apply State.Ok.ite
    | with_reducible apply timeRef10mLostEffect_ok
    | split

theorem State.takeOffset_ok (n : Mark) (a1 : State) (a2) (ha1 : a1.Ok n) : (State.takeOffset a1 a2).Ok n := by
  unfold State.takeOffset
  repeat' first
    | with_reducible assumption
    | intro _
    | (extract_lets +onlyGivenNames z; first | (refine State.Ok.cut (n := n) z ?_ ?_ <;> [(intro _; clear_value z); subst z]) | (refine State.Ok.cutPair (n := n) z ?_ ?_ <;> [(intro _; clear_value z); subst z]) | clear_value z)
    | with_reducible apply State.Ok.ite
    | with_reducible apply State.modTime_ok
    | with_reducible apply State.noteFree_ok
    | with_reducible apply State.officeCheck_ok
    | with_reducible apply State.enterLocked_ok
    | split

theorem markerLossEffect_ok (n : Mark) (a1 : State) (ha1 : a1.Ok n) : (markerLossEffect a1).Ok n := by
  unfold markerLossEffect
  repeat' first
    | with_reducible assumption
    | intro _
    | (extract_lets +onlyGivenNames z; first | (refine State.Ok.cut (n := n) z ?_ ?_ <;> [(intro _; clear_value z); subst z]) | (refine State.Ok.cutPair (n := n) z ?_ ?_ <;> [(intro _; clear_value z); subst z]) | clear_value z)
    | with_reducible apply State.Ok.ite
    | with_reducible apply State.upstreamLost_ok
    | with_reducible apply State.modTrunk_ok
    | split

theorem execMarkerLoss_ok (n : Mark) (a1) (a2 : State) (ha2 : a2.Ok n) : OkH n (execMarkerLoss a1 a2) := by
  unfold execMarkerLoss
  refine act1_ok _ _ (fun s hs => ?_) ha2
  try dsimp only
  repeat' first
    | with_reducible assumption
    | intro _
    | (extract_lets +onlyGivenNames z; first | (refine State.Ok.cut (n := n) z ?_ ?_ <;> [(intro _; clear_value z); subst z]) | (refine State.Ok.cutPair (n := n) z ?_ ?_ <;> [(intro _; clear_value z); subst z]) | clear_value z)
    | with_reducible apply State.Ok.ite
    | with_reducible apply markerLossEffect_ok
    | split

theorem timeOpenModeEffect_ok (n : Mark) (a1 : State) (ha1 : a1.Ok n) : (timeOpenModeEffect a1).Ok n := by
  unfold timeOpenModeEffect
  repeat' first
    | with_reducible assumption
    | intro _
    | (extract_lets +onlyGivenNames z; first | (refine State.Ok.cut (n := n) z ?_ ?_ <;> [(intro _; clear_value z); subst z]) | (refine State.Ok.cutPair (n := n) z ?_ ?_ <;> [(intro _; clear_value z); subst z]) | clear_value z)
    | with_reducible apply State.Ok.ite
    | with_reducible apply State.noteFree_ok
    | with_reducible apply State.modTime_ok
    | split

theorem execTimeOpenMode_ok (n : Mark) (a1) (a2 : State) (ha2 : a2.Ok n) : OkH n (execTimeOpenMode a1 a2) := by
  unfold execTimeOpenMode
  refine act1_ok _ _ (fun s hs => ?_) ha2
  try dsimp only
  repeat' first
    | with_reducible assumption
    | intro _
    | (extract_lets +onlyGivenNames z; first | (refine State.Ok.cut (n := n) z ?_ ?_ <;> [(intro _; clear_value z); subst z]) | (refine State.Ok.cutPair (n := n) z ?_ ?_ <;> [(intro _; clear_value z); subst z]) | clear_value z)
    | with_reducible apply State.Ok.ite
    | with_reducible apply timeOpenModeEffect_ok
    | split

theorem scheduledModeReturnEffect_ok (n : Mark) (a1 : State) (ha1 : a1.Ok n) : (scheduledModeReturnEffect a1).Ok n := by
  unfold scheduledModeReturnEffect
  repeat' first
    | with_reducible assumption
    | intro _
    | (extract_lets +onlyGivenNames z; first | (refine State.Ok.cut (n := n) z ?_ ?_ <;> [(intro _; clear_value z); subst z]) | (refine State.Ok.cutPair (n := n) z ?_ ?_ <;> [(intro _; clear_value z); subst z]) | clear_value z)
    | with_reducible apply State.Ok.ite
    | with_reducible apply State.noteFree_ok
    | with_reducible apply State.modTime_ok
    | split

theorem execScheduledModeReturn_ok (n : Mark) (a1) (a2 : State) (ha2 : a2.Ok n) : OkH n (execScheduledModeReturn a1 a2) := by
  unfold execScheduledModeReturn
  refine act1_ok _ _ (fun s hs => ?_) ha2
  try dsimp only
  repeat' first
    | with_reducible assumption
    | intro _
    | (extract_lets +onlyGivenNames z; first | (refine State.Ok.cut (n := n) z ?_ ?_ <;> [(intro _; clear_value z); subst z]) | (refine State.Ok.cutPair (n := n) z ?_ ?_ <;> [(intro _; clear_value z); subst z]) | clear_value z)
    | with_reducible apply State.Ok.ite
    | with_reducible apply scheduledModeReturnEffect_ok
    | split

theorem State.slotSwapWrite_ok (n : Mark) (a1 : State) (a2) (ha1 : a1.Ok n) : State.OkE n (State.slotSwapWrite a1 a2) := by
  unfold State.slotSwapWrite
  repeat' first
    | with_reducible assumption
    | intro _
    | (extract_lets +onlyGivenNames z; first | (refine State.Ok.cut (n := n) z ?_ ?_ <;> [(intro _; clear_value z); subst z]) | (refine State.Ok.cutPair (n := n) z ?_ ?_ <;> [(intro _; clear_value z); subst z]) | clear_value z)
    | with_reducible apply State.Ok.ite
    | with_reducible apply State.set_ok
    | with_reducible apply State.modAct_ok
    | (with_reducible refine State.OkO.get (State.actPut_ok _ _ _ _ _ _ _ ?_ ) (by with_reducible assumption))
    | with_reducible apply State.actPut_ok
    | with_reducible exact State.OkO.none_
    | with_reducible apply State.OkO.ite_
    | with_reducible apply State.OkO.some_
    | with_reducible apply State.OkO.getD
    | with_reducible apply State.OkO.mapPair
    | with_reducible exact State.OkE.error_
    | with_reducible apply State.OkE.ite_
    | with_reducible apply State.OkE.ok_
    | split

theorem execSlotSwapRequest_ok (n : Mark) (a1) (a2) (a3) (a4 : State) (ha4 : a4.Ok n) : OkH n (execSlotSwapRequest a1 a2 a3 a4) := by
  unfold execSlotSwapRequest
  refine act1_ok _ _ (fun s hs => ?_) ha4
  try dsimp only
  repeat' first
    | with_reducible assumption
    | intro _
    | (extract_lets +onlyGivenNames z; first | (refine State.Ok.cut (n := n) z ?_ ?_ <;> [(intro _; clear_value z); subst z]) | (refine State.Ok.cutPair (n := n) z ?_ ?_ <;> [(intro _; clear_value z); subst z]) | clear_value z)
    | with_reducible apply State.Ok.ite
    | (with_reducible refine State.OkE.get (State.slotSwapWrite_ok _ _ _ ?_ ) (by with_reducible assumption))
    | with_reducible apply State.slotSwapWrite_ok
    | with_reducible apply State.jAppend_ok
    | with_reducible exact State.OkE.error_
    | with_reducible apply State.OkE.ite_
    | with_reducible apply State.OkE.ok_
    | split

theorem State.postpone_ok (n : Mark) (a1 : State) (a2) (ha1 : a1.Ok n) : (State.postpone a1 a2).Ok n := by
  unfold State.postpone
  repeat' first
    | with_reducible assumption
    | intro _
    | (extract_lets +onlyGivenNames z; first | (refine State.Ok.cut (n := n) z ?_ ?_ <;> [(intro _; clear_value z); subst z]) | (refine State.Ok.cutPair (n := n) z ?_ ?_ <;> [(intro _; clear_value z); subst z]) | clear_value z)
    | with_reducible apply State.Ok.ite
    | with_reducible apply State.noteAt_ok
    | with_reducible apply State.actMark_ok
    | split

theorem State.markFired_ok (n : Mark) (a1 : State) (a2) (ha1 : a1.Ok n) : (State.markFired a1 a2).Ok n := by
  unfold State.markFired
  repeat' first
    | with_reducible assumption
    | intro _
    | (extract_lets +onlyGivenNames z; first | (refine State.Ok.cut (n := n) z ?_ ?_ <;> [(intro _; clear_value z); subst z]) | (refine State.Ok.cutPair (n := n) z ?_ ?_ <;> [(intro _; clear_value z); subst z]) | clear_value z)
    | with_reducible apply State.Ok.ite
    | with_reducible apply State.actMark_ok
    | with_reducible apply State.noteAt_ok
    | split

theorem State.sendPruneSets_ok (n : Mark) (a1 : State) (a2) (ha1 : a1.Ok n) : (State.sendPruneSets a1 a2).Ok n := by
  unfold State.sendPruneSets
  repeat' first
    | with_reducible assumption
    | intro _
    | (extract_lets +onlyGivenNames z; first | (refine State.Ok.cut (n := n) z ?_ ?_ <;> [(intro _; clear_value z); subst z]) | (refine State.Ok.cutPair (n := n) z ?_ ?_ <;> [(intro _; clear_value z); subst z]) | clear_value z)
    | with_reducible apply State.Ok.ite
    | with_reducible apply State.each_ok
    | with_reducible apply State.modTx_ok
    | with_reducible apply State.modAct_ok
    | split

theorem State.swapNow_ok (n : Mark) (a1 : State) (ha1 : a1.Ok n) : (State.swapNow a1).Ok n := by
  unfold State.swapNow
  repeat' first
    | with_reducible assumption
    | intro _
    | (extract_lets +onlyGivenNames z; first | (refine State.Ok.cut (n := n) z ?_ ?_ <;> [(intro _; clear_value z); subst z]) | (refine State.Ok.cutPair (n := n) z ?_ ?_ <;> [(intro _; clear_value z); subst z]) | clear_value z)
    | with_reducible apply State.Ok.ite
    | with_reducible apply State.set_ok
    | with_reducible apply State.jAppend_ok
    | with_reducible apply State.sendPruneSets_ok
    | (with_reducible refine State.dict_ok _ (dictWf_swapBanks _ (State.Ok.dict (n := n) ?_)) ?_)
    | split
    | (with_reducible refine State.Ok.lit _ _ _ _ _ _ _ _ _ _ _ _ _ _ _ _ _ rfl rfl rfl rfl rfl rfl ?_)

theorem slotSwapEffect_ok (n : Mark) (a1 : State) (ha1 : a1.Ok n) : (slotSwapEffect a1).Ok n := by
  unfold slotSwapEffect
  repeat' first
    | with_reducible assumption
    | intro _
    | (extract_lets +onlyGivenNames z; first | (refine State.Ok.cut (n := n) z ?_ ?_ <;> [(intro _; clear_value z); subst z]) | (refine State.Ok.cutPair (n := n) z ?_ ?_ <;> [(intro _; clear_value z); subst z]) | clear_value z)
    | with_reducible apply State.Ok.ite
    | with_reducible apply State.swapNow_ok
    | with_reducible apply State.markFired_ok
    | split

theorem execSlotSwap_ok (n : Mark) (a1) (a2 : State) (ha2 : a2.Ok n) : OkH n (execSlotSwap a1 a2) := by
  unfold execSlotSwap
  refine act1_ok _ _ (fun s hs => ?_) ha2
  try dsimp only
  repeat' first
    | with_reducible assumption
    | intro _
    | (extract_lets +onlyGivenNames z; first | (refine State.Ok.cut (n := n) z ?_ ?_ <;> [(intro _; clear_value z); subst z]) | (refine State.Ok.cutPair (n := n) z ?_ ?_ <;> [(intro _; clear_value z); subst z]) | clear_value z)
    | with_reducible apply State.Ok.ite
    | with_reducible apply slotSwapEffect_ok
    | split

theorem pruneSetReceiveEffect_ok (n : Mark) (a1 : State) (a2) (a3) (a4) (ha1 : a1.Ok n) : (pruneSetReceiveEffect a1 a2 a3 a4).Ok n := by
  unfold pruneSetReceiveEffect
  repeat' first
    | with_reducible assumption
    | intro _
    | (extract_lets +onlyGivenNames z; first | (refine State.Ok.cut (n := n) z ?_ ?_ <;> [(intro _; clear_value z); subst z]) | (refine State.Ok.cutPair (n := n) z ?_ ?_ <;> [(intro _; clear_value z); subst z]) | clear_value z)
    | with_reducible apply State.Ok.ite
    | with_reducible apply State.modTrunk_ok
    | split

theorem execPruneSetReceive_ok (n : Mark) (a1) (a2) (a3) (a4) (a5) (a6 : State) (ha6 : a6.Ok n) : OkH n (execPruneSetReceive a1 a2 a3 a4 a5 a6) := by
  unfold execPruneSetReceive
  refine act1_ok _ _ (fun s hs => ?_) ha6
  try dsimp only
  repeat' first
    | with_reducible assumption
    | intro _
    | (extract_lets +onlyGivenNames z; first | (refine State.Ok.cut (n := n) z ?_ ?_ <;> [(intro _; clear_value z); subst z]) | (refine State.Ok.cutPair (n := n) z ?_ ?_ <;> [(intro _; clear_value z); subst z]) | clear_value z)
    | with_reducible apply State.Ok.ite
    | with_reducible apply pruneSetReceiveEffect_ok
    | split

theorem pruneSetApplyEffect_ok (n : Mark) (a1 : State) (a2) (ha1 : a1.Ok n) : (pruneSetApplyEffect a1 a2).Ok n := by
  unfold pruneSetApplyEffect
  repeat' first
    | with_reducible assumption
    | intro _
    | (extract_lets +onlyGivenNames z; first | (refine State.Ok.cut (n := n) z ?_ ?_ <;> [(intro _; clear_value z); subst z]) | (refine State.Ok.cutPair (n := n) z ?_ ?_ <;> [(intro _; clear_value z); subst z]) | clear_value z)
    | with_reducible apply State.Ok.ite
    | with_reducible apply State.modTrunk_ok
    | split

theorem execPruneSetApply_ok (n : Mark) (a1) (a2) (a3 : State) (ha3 : a3.Ok n) : OkH n (execPruneSetApply a1 a2 a3) := by
  unfold execPruneSetApply
  refine act1_ok _ _ (fun s hs => ?_) ha3
  try dsimp only
  repeat' first
    | with_reducible assumption
    | intro _
    | (extract_lets +onlyGivenNames z; first | (refine State.Ok.cut (n := n) z ?_ ?_ <;> [(intro _; clear_value z); subst z]) | (refine State.Ok.cutPair (n := n) z ?_ ?_ <;> [(intro _; clear_value z); subst z]) | clear_value z)
    | with_reducible apply State.Ok.ite
    | with_reducible apply pruneSetApplyEffect_ok
    | split

theorem trunkTxMaintenanceEffect_ok (n : Mark) (a1 : State) (a2) (a3) (ha1 : a1.Ok n) : (trunkTxMaintenanceEffect a1 a2 a3).Ok n := by
  unfold trunkTxMaintenanceEffect
  repeat' first
    | with_reducible assumption
    | intro _
    | (extract_lets +onlyGivenNames z; first | (refine State.Ok.cut (n := n) z ?_ ?_ <;> [(intro _; clear_value z); subst z]) | (refine State.Ok.cutPair (n := n) z ?_ ?_ <;> [(intro _; clear_value z); subst z]) | clear_value z)
    | with_reducible apply State.Ok.ite
    | with_reducible apply State.emit_ok
    | split

theorem execTrunkTxMaintenanceStep_ok (n : Mark) (a1) (a2) (a3) (a4 : State) (ha4 : a4.Ok n) : OkH n (execTrunkTxMaintenanceStep a1 a2 a3 a4) := by
  unfold execTrunkTxMaintenanceStep
  refine act1_ok _ _ (fun s hs => ?_) ha4
  try dsimp only
  repeat' first
    | with_reducible assumption
    | intro _
    | (extract_lets +onlyGivenNames z; first | (refine State.Ok.cut (n := n) z ?_ ?_ <;> [(intro _; clear_value z); subst z]) | (refine State.Ok.cutPair (n := n) z ?_ ?_ <;> [(intro _; clear_value z); subst z]) | clear_value z)
    | with_reducible apply State.Ok.ite
    | with_reducible apply trunkTxMaintenanceEffect_ok
    | split

theorem State.adaptTaps_ok (n : Mark) (a1 : State) (a2) (ha1 : a1.Ok n) : (State.adaptTaps a1 a2).Ok n := by
  unfold State.adaptTaps
  repeat' first
    | with_reducible assumption
    | intro _
    | (extract_lets +onlyGivenNames z; first | (refine State.Ok.cut (n := n) z ?_ ?_ <;> [(intro _; clear_value z); subst z]) | (refine State.Ok.cutPair (n := n) z ?_ ?_ <;> [(intro _; clear_value z); subst z]) | clear_value z)
    | with_reducible apply State.Ok.ite
    | with_reducible apply State.modTrunk_ok
    | split
    | (with_reducible refine State.Ok.lit _ _ _ _ _ _ _ _ _ _ _ _ _ _ _ _ _ rfl rfl rfl rfl rfl rfl ?_)

theorem trunkRxMaintenanceEffect_ok (n : Mark) (a1 : State) (a2) (a3) (ha1 : a1.Ok n) : (trunkRxMaintenanceEffect a1 a2 a3).Ok n := by
  unfold trunkRxMaintenanceEffect
  repeat' first
    | with_reducible assumption
    | intro _
    | (extract_lets +onlyGivenNames z; first | (refine State.Ok.cut (n := n) z ?_ ?_ <;> [(intro _; clear_value z); subst z]) | (refine State.Ok.cutPair (n := n) z ?_ ?_ <;> [(intro _; clear_value z); subst z]) | clear_value z)
    | with_reducible apply State.Ok.ite
    | with_reducible apply State.adaptTaps_ok
    | with_reducible apply State.modTrunk_ok
    | with_reducible apply State.drew_ok
    | with_reducible apply State.emit_ok
    | split

theorem execTrunkRxMaintenanceStep_ok (n : Mark) (a1) (a2) (a3) (a4 : State) (ha4 : a4.Ok n) : OkH n (execTrunkRxMaintenanceStep a1 a2 a3 a4) := by
  unfold execTrunkRxMaintenanceStep
  refine act1_ok _ _ (fun s hs => ?_) ha4
  try dsimp only
  repeat' first
    | with_reducible assumption
    | intro _
    | (extract_lets +onlyGivenNames z; first | (refine State.Ok.cut (n := n) z ?_ ?_ <;> [(intro _; clear_value z); subst z]) | (refine State.Ok.cutPair (n := n) z ?_ ?_ <;> [(intro _; clear_value z); subst z]) | clear_value z)
    | with_reducible apply State.Ok.ite
    | with_reducible apply trunkRxMaintenanceEffect_ok
    | split

end Sys2Proof.Machine
end

