-- ==== Sys2Proof/Laws/KeepHostPorts.lean ====
section
/-! SUPPORT. Every operation of HostPorts.lean keeps the invariant, and the local count does not run back. -/

set_option linter.all false

namespace Sys2Proof.Machine

theorem State.enumerate_ok (n : Mark) (a1 : State) (a2) (ha1 : a1.Ok n) : (State.enumerate a1 a2).Ok n := by
  unfold State.enumerate
  repeat' first
    | with_reducible assumption
    | intro _
    | (extract_lets +onlyGivenNames z; first | (refine State.Ok.cut (n := n) z ?_ ?_ <;> [(intro _; clear_value z); subst z]) | (refine State.Ok.cutPair (n := n) z ?_ ?_ <;> [(intro _; clear_value z); subst z]) | clear_value z)
    | with_reducible apply State.Ok.ite
    | with_reducible apply State.emit_ok
    | with_reducible apply State.modShared_ok
    | split

theorem State.partsLinkUp_ok (n : Mark) (a1 : State) (a2) (ha1 : a1.Ok n) : (State.partsLinkUp a1 a2).Ok n := by
  unfold State.partsLinkUp
  extract_lets +onlyGivenNames x y
  have hx : x.Ok n := by
    simp only [x]
    split
    · exact State.partCauseEnd_ok _ _ _ (State.modPart_ok _ _ ha1)
    · exact ha1
  have hy : y.Ok n := .ite (State.enumerate_ok _ _ _ hx) hx
  clear_value y
  split
  · exact State.slotEvent_ok _ _ _ _ _ (State.modVdp_ok _ _ _ _ _ hy)
  · exact hy

theorem State.takeCeiling_ok (n : Mark) (a1 : State) (a2) (ha1 : a1.Ok n) : (State.takeCeiling a1 a2).Ok n := by
  unfold State.takeCeiling
  repeat' first
    | with_reducible assumption
    | intro _
    | (extract_lets +onlyGivenNames z; first | (refine State.Ok.cut (n := n) z ?_ ?_ <;> [(intro _; clear_value z); subst z]) | (refine State.Ok.cutPair (n := n) z ?_ ?_ <;> [(intro _; clear_value z); subst z]) | clear_value z)
    | with_reducible apply State.Ok.ite
    | with_reducible apply State.modHPort_ok
    | split

theorem State.tellRate_ok (n : Mark) (a1 : State) (a2) (ha1 : a1.Ok n) : (State.tellRate a1 a2).Ok n := by
  unfold State.tellRate
  repeat' first
    | with_reducible assumption
    | intro _
    | (extract_lets +onlyGivenNames z; first | (refine State.Ok.cut (n := n) z ?_ ?_ <;> [(intro _; clear_value z); subst z]) | (refine State.Ok.cutPair (n := n) z ?_ ?_ <;> [(intro _; clear_value z); subst z]) | clear_value z)
    | with_reducible apply State.Ok.ite
    | with_reducible apply State.each_ok
    | with_reducible apply State.slotSignal_ok
    | split

theorem State.widthLess_ok (n : Mark) (a1 : State) (a2) (a3) (a4) (ha1 : a1.Ok n) : (State.widthLess a1 a2 a3 a4).Ok n := by
  unfold State.widthLess
  repeat' first
    | with_reducible assumption
    | intro _
    | (extract_lets +onlyGivenNames z; first | (refine State.Ok.cut (n := n) z ?_ ?_ <;> [(intro _; clear_value z); subst z]) | (refine State.Ok.cutPair (n := n) z ?_ ?_ <;> [(intro _; clear_value z); subst z]) | clear_value z)
    | with_reducible apply State.Ok.ite
    | with_reducible apply State.noteFree_ok
    | split

theorem State.hpFirstL0_ok (n : Mark) (a1 : State) (a2) (a3) (a4) (a5) (a6) (a7) (a8) (ha1 : a1.Ok n) : (State.hpFirstL0 a1 a2 a3 a4 a5 a6 a7 a8).Ok n := by
  unfold State.hpFirstL0
  repeat' first
    | with_reducible assumption
    | intro _
    | (extract_lets +onlyGivenNames z; first | (refine State.Ok.cut (n := n) z ?_ ?_ <;> [(intro _; clear_value z); subst z]) | (refine State.Ok.cutPair (n := n) z ?_ ?_ <;> [(intro _; clear_value z); subst z]) | clear_value z)
    | with_reducible apply State.Ok.ite
    | with_reducible apply State.modHPort_ok
    | with_reducible apply State.fcInit_ok
    | with_reducible apply State.takeCeiling_ok
    | (with_reducible refine State.modSec_ok _ rfl ?_)
    | with_reducible apply State.modCore_ok
    | with_reducible apply State.partsLinkUp_ok
    | with_reducible apply State.widthLess_ok
    | with_reducible apply State.noteFree_ok
    | split

theorem State.hpNewRate_ok (n : Mark) (a1 : State) (a2) (a3) (a4) (ha1 : a1.Ok n) : (State.hpNewRate a1 a2 a3 a4).Ok n := by
  unfold State.hpNewRate
  repeat' first
    | with_reducible assumption
    | intro _
    | (extract_lets +onlyGivenNames z; first | (refine State.Ok.cut (n := n) z ?_ ?_ <;> [(intro _; clear_value z); subst z]) | (refine State.Ok.cutPair (n := n) z ?_ ?_ <;> [(intro _; clear_value z); subst z]) | clear_value z)
    | with_reducible apply State.Ok.ite
    | with_reducible apply State.modHPort_ok
    | with_reducible apply State.tellRate_ok
    | with_reducible apply State.widthLess_ok
    | with_reducible apply State.noteFree_ok
    | split

theorem hpL0ReachedEffect_ok (n : Mark) (a1 : State) (a2) (a3) (a4) (a5) (a6) (a7) (a8) (ha1 : a1.Ok n) : (hpL0ReachedEffect a1 a2 a3 a4 a5 a6 a7 a8).Ok n := by
  unfold hpL0ReachedEffect
  repeat' first
    | with_reducible assumption
    | intro _
    | (extract_lets +onlyGivenNames z; first | (refine State.Ok.cut (n := n) z ?_ ?_ <;> [(intro _; clear_value z); subst z]) | (refine State.Ok.cutPair (n := n) z ?_ ?_ <;> [(intro _; clear_value z); subst z]) | clear_value z)
    | with_reducible apply State.Ok.ite
    | with_reducible apply State.hpFirstL0_ok
    | with_reducible apply State.modHPort_ok
    | (with_reducible refine State.modSec_ok _ rfl ?_)
    | with_reducible apply State.tellRate_ok
    | with_reducible apply State.widthLess_ok
    | with_reducible apply State.hpNewRate_ok
    | split

theorem execHpL0Reached_ok (n : Mark) (a1) (a2) (a3) (a4) (a5) (a6) (a7) (a8) (a9 : State) (ha9 : a9.Ok n) : OkH n (execHpL0Reached a1 a2 a3 a4 a5 a6 a7 a8 a9) := by
  unfold execHpL0Reached
  refine act2_ok _ _ (fun s hs => ?_) ha9
  try dsimp only
  repeat' first
    | with_reducible assumption
    | intro _
    | (extract_lets +onlyGivenNames z; first | (refine State.Ok.cut (n := n) z ?_ ?_ <;> [(intro _; clear_value z); subst z]) | (refine State.Ok.cutPair (n := n) z ?_ ?_ <;> [(intro _; clear_value z); subst z]) | clear_value z)
    | with_reducible apply State.Ok.ite
    | with_reducible apply hpL0ReachedEffect_ok
    | split

theorem hpSymbolLockTimeoutEffect_ok (n : Mark) (a1 : State) (a2) (a3) (ha1 : a1.Ok n) : (hpSymbolLockTimeoutEffect a1 a2 a3).Ok n := by
  unfold hpSymbolLockTimeoutEffect
  repeat' first
    | with_reducible assumption
    | intro _
    | (extract_lets +onlyGivenNames z; first | (refine State.Ok.cut (n := n) z ?_ ?_ <;> [(intro _; clear_value z); subst z]) | (refine State.Ok.cutPair (n := n) z ?_ ?_ <;> [(intro _; clear_value z); subst z]) | clear_value z)
    | with_reducible apply State.Ok.ite
    | with_reducible apply State.modHPort_ok
    | split

theorem execHpSymbolLockTimeout_ok (n : Mark) (a1) (a2) (a3) (a4 : State) (ha4 : a4.Ok n) : OkH n (execHpSymbolLockTimeout a1 a2 a3 a4) := by
  unfold execHpSymbolLockTimeout
  refine act1_ok _ _ (fun s hs => ?_) ha4
  try dsimp only
  repeat' first
    | with_reducible assumption
    | intro _
    | (extract_lets +onlyGivenNames z; first | (refine State.Ok.cut (n := n) z ?_ ?_ <;> [(intro _; clear_value z); subst z]) | (refine State.Ok.cutPair (n := n) z ?_ ?_ <;> [(intro _; clear_value z); subst z]) | clear_value z)
    | with_reducible apply State.Ok.ite
    | with_reducible apply hpSymbolLockTimeoutEffect_ok
    | split

theorem State.recalibrate_ok (n : Mark) (a1 : State) (a2) (ha1 : a1.Ok n) : (State.recalibrate a1 a2).Ok n := by
  unfold State.recalibrate
  repeat' first
    | with_reducible assumption
    | intro _
    | (extract_lets +onlyGivenNames z; first | (refine State.Ok.cut (n := n) z ?_ ?_ <;> [(intro _; clear_value z); subst z]) | (refine State.Ok.cutPair (n := n) z ?_ ?_ <;> [(intro _; clear_value z); subst z]) | clear_value z)
    | with_reducible apply State.Ok.ite
    | with_reducible apply State.drew_ok
    | with_reducible apply State.modLane_ok
    | split

theorem hpEqAttemptEndEffect_ok (n : Mark) (a1 : State) (a2) (a3) (a4) (ha1 : a1.Ok n) : (hpEqAttemptEndEffect a1 a2 a3 a4).Ok n := by
  unfold hpEqAttemptEndEffect
  repeat' first
    | with_reducible assumption
    | intro _
    | (extract_lets +onlyGivenNames z; first | (refine State.Ok.cut (n := n) z ?_ ?_ <;> [(intro _; clear_value z); subst z]) | (refine State.Ok.cutPair (n := n) z ?_ ?_ <;> [(intro _; clear_value z); subst z]) | clear_value z)
    | with_reducible apply State.Ok.ite
    | with_reducible apply State.countTwig_ok
    | with_reducible apply State.modHPort_ok
    | with_reducible apply State.each_ok
    | with_reducible apply State.recalibrate_ok
    | with_reducible apply State.noteFree_ok
    | split

theorem execHpEqAttemptEnd_ok (n : Mark) (a1) (a2) (a3) (a4) (a5 : State) (ha5 : a5.Ok n) : OkH n (execHpEqAttemptEnd a1 a2 a3 a4 a5) := by
  unfold execHpEqAttemptEnd
  refine act2_ok _ _ (fun s hs => ?_) ha5
  try dsimp only
  repeat' first
    | with_reducible assumption
    | intro _
    | (extract_lets +onlyGivenNames z; first | (refine State.Ok.cut (n := n) z ?_ ?_ <;> [(intro _; clear_value z); subst z]) | (refine State.Ok.cutPair (n := n) z ?_ ?_ <;> [(intro _; clear_value z); subst z]) | clear_value z)
    | with_reducible apply State.Ok.ite
    | with_reducible apply hpEqAttemptEndEffect_ok
    | split

theorem hpCoeffRequestEffect_ok (n : Mark) (a1 : State) (a2) (a3) (ha1 : a1.Ok n) : (hpCoeffRequestEffect a1 a2 a3).Ok n := by
  unfold hpCoeffRequestEffect
  repeat' first
    | with_reducible assumption
    | intro _
    | (extract_lets +onlyGivenNames z; first | (refine State.Ok.cut (n := n) z ?_ ?_ <;> [(intro _; clear_value z); subst z]) | (refine State.Ok.cutPair (n := n) z ?_ ?_ <;> [(intro _; clear_value z); subst z]) | clear_value z)
    | with_reducible apply State.Ok.ite
    | with_reducible apply State.emit_ok
    | with_reducible apply State.modHPort_ok
    | split

theorem execHpCoeffRequest_ok (n : Mark) (a1) (a2) (a3) (a4 : State) (ha4 : a4.Ok n) : OkH n (execHpCoeffRequest a1 a2 a3 a4) := by
  unfold execHpCoeffRequest
  refine act1_ok _ _ (fun s hs => ?_) ha4
  try dsimp only
  repeat' first
    | with_reducible assumption
    | intro _
    | (extract_lets +onlyGivenNames z; first | (refine State.Ok.cut (n := n) z ?_ ?_ <;> [(intro _; clear_value z); subst z]) | (refine State.Ok.cutPair (n := n) z ?_ ?_ <;> [(intro _; clear_value z); subst z]) | clear_value z)
    | with_reducible apply State.Ok.ite
    | with_reducible apply hpCoeffRequestEffect_ok
    | split

theorem State.sharedRequest_ok (n : Mark) (a1 : State) (a2) (a3) (ha1 : a1.Ok n) : (State.sharedRequest a1 a2 a3).Ok n := by
  unfold State.sharedRequest
  repeat' first
    | with_reducible assumption
    | intro _
    | (extract_lets +onlyGivenNames z; first | (refine State.Ok.cut (n := n) z ?_ ?_ <;> [(intro _; clear_value z); subst z]) | (refine State.Ok.cutPair (n := n) z ?_ ?_ <;> [(intro _; clear_value z); subst z]) | clear_value z)
    | with_reducible apply State.Ok.ite
    | with_reducible apply State.modShared_ok
    | with_reducible apply State.noteAt_ok
    | with_reducible apply State.each_ok
    | with_reducible apply State.slotEvent_ok
    | with_reducible apply State.sharedCheck_ok
    | split

theorem hpLinkDownEffect_ok (n : Mark) (a1 : State) (a2) (a3) (ha1 : a1.Ok n) : (hpLinkDownEffect a1 a2 a3).Ok n := by
  unfold hpLinkDownEffect
  repeat' first
    | with_reducible assumption
    | intro _
    | (extract_lets +onlyGivenNames z; first | (refine State.Ok.cut (n := n) z ?_ ?_ <;> [(intro _; clear_value z); subst z]) | (refine State.Ok.cutPair (n := n) z ?_ ?_ <;> [(intro _; clear_value z); subst z]) | clear_value z)
    | with_reducible apply State.Ok.ite
    | with_reducible apply State.hpDown_ok
    | with_reducible apply State.sharedRequest_ok
    | split

theorem execHpLinkDown_ok (n : Mark) (a1) (a2) (a3) (a4 : State) (ha4 : a4.Ok n) : OkH n (execHpLinkDown a1 a2 a3 a4) := by
  unfold execHpLinkDown
  refine act2_ok _ _ (fun s hs => ?_) ha4
  try dsimp only
  repeat' first
    | with_reducible assumption
    | intro _
    | (extract_lets +onlyGivenNames z; first | (refine State.Ok.cut (n := n) z ?_ ?_ <;> [(intro _; clear_value z); subst z]) | (refine State.Ok.cutPair (n := n) z ?_ ?_ <;> [(intro _; clear_value z); subst z]) | clear_value z)
    | with_reducible apply State.Ok.ite
    | with_reducible apply hpLinkDownEffect_ok
    | split

theorem dfeUpdateEffect_ok (n : Mark) (a1 : State) (a2) (a3) (ha1 : a1.Ok n) : (dfeUpdateEffect a1 a2 a3).Ok n := by
  unfold dfeUpdateEffect
  repeat' first
    | with_reducible assumption
    | intro _
    | (extract_lets +onlyGivenNames z; first | (refine State.Ok.cut (n := n) z ?_ ?_ <;> [(intro _; clear_value z); subst z]) | (refine State.Ok.cutPair (n := n) z ?_ ?_ <;> [(intro _; clear_value z); subst z]) | clear_value z)
    | with_reducible apply State.Ok.ite
    | with_reducible apply State.modLane_ok
    | with_reducible apply State.countTwig_ok
    | with_reducible apply State.noteFree_ok
    | with_reducible apply State.modHPort_ok
    | split

theorem execDfeUpdate_ok (n : Mark) (a1) (a2) (a3) (a4 : State) (ha4 : a4.Ok n) : OkH n (execDfeUpdate a1 a2 a3 a4) := by
  unfold execDfeUpdate
  refine act1_ok _ _ (fun s hs => ?_) ha4
  try dsimp only
  repeat' first
    | with_reducible assumption
    | intro _
    | (extract_lets +onlyGivenNames z; first | (refine State.Ok.cut (n := n) z ?_ ?_ <;> [(intro _; clear_value z); subst z]) | (refine State.Ok.cutPair (n := n) z ?_ ?_ <;> [(intro _; clear_value z); subst z]) | clear_value z)
    | with_reducible apply State.Ok.ite
    | with_reducible apply dfeUpdateEffect_ok
    | split

theorem hLaneMaintenanceEffect_ok (n : Mark) (a1 : State) (a2) (a3) (a4) (a5) (ha1 : a1.Ok n) : (hLaneMaintenanceEffect a1 a2 a3 a4 a5).Ok n := by
  unfold hLaneMaintenanceEffect
  repeat' first
    | with_reducible assumption
    | intro _
    | (extract_lets +onlyGivenNames z; first | (refine State.Ok.cut (n := n) z ?_ ?_ <;> [(intro _; clear_value z); subst z]) | (refine State.Ok.cutPair (n := n) z ?_ ?_ <;> [(intro _; clear_value z); subst z]) | clear_value z)
    | with_reducible apply State.Ok.ite
    | with_reducible apply State.recalibrate_ok
    | with_reducible apply State.modLane_ok
    | with_reducible apply State.countTwig_ok
    | split

theorem execHLaneMaintenance_ok (n : Mark) (a1) (a2) (a3) (a4) (a5) (a6 : State) (ha6 : a6.Ok n) : OkH n (execHLaneMaintenance a1 a2 a3 a4 a5 a6) := by
  unfold execHLaneMaintenance
  refine act1_ok _ _ (fun s hs => ?_) ha6
  try dsimp only
  repeat' first
    | with_reducible assumption
    | intro _
    | (extract_lets +onlyGivenNames z; first | (refine State.Ok.cut (n := n) z ?_ ?_ <;> [(intro _; clear_value z); subst z]) | (refine State.Ok.cutPair (n := n) z ?_ ?_ <;> [(intro _; clear_value z); subst z]) | clear_value z)
    | with_reducible apply State.Ok.ite
    | with_reducible apply hLaneMaintenanceEffect_ok
    | split

theorem marginCommandEffect_ok (n : Mark) (a1 : State) (a2) (a3) (ha1 : a1.Ok n) : (marginCommandEffect a1 a2 a3).Ok n := by
  unfold marginCommandEffect
  repeat' first
    | with_reducible assumption
    | intro _
    | (extract_lets +onlyGivenNames z; first | (refine State.Ok.cut (n := n) z ?_ ?_ <;> [(intro _; clear_value z); subst z]) | (refine State.Ok.cutPair (n := n) z ?_ ?_ <;> [(intro _; clear_value z); subst z]) | clear_value z)
    | with_reducible apply State.Ok.ite
    | with_reducible apply State.modLane_ok
    | split

theorem execMarginCommand_ok (n : Mark) (a1) (a2) (a3) (a4 : State) (ha4 : a4.Ok n) : OkH n (execMarginCommand a1 a2 a3 a4) := by
  unfold execMarginCommand
  refine act1_ok _ _ (fun s hs => ?_) ha4
  try dsimp only
  repeat' first
    | with_reducible assumption
    | intro _
    | (extract_lets +onlyGivenNames z; first | (refine State.Ok.cut (n := n) z ?_ ?_ <;> [(intro _; clear_value z); subst z]) | (refine State.Ok.cutPair (n := n) z ?_ ?_ <;> [(intro _; clear_value z); subst z]) | clear_value z)
    | with_reducible apply State.Ok.ite
    | with_reducible apply marginCommandEffect_ok
    | split

theorem refclkLostEffect_ok (n : Mark) (a1 : State) (a2) (ha1 : a1.Ok n) : (refclkLostEffect a1 a2).Ok n := by
  unfold refclkLostEffect
  repeat' first
    | with_reducible assumption
    | intro _
    | (extract_lets +onlyGivenNames z; first | (refine State.Ok.cut (n := n) z ?_ ?_ <;> [(intro _; clear_value z); subst z]) | (refine State.Ok.cutPair (n := n) z ?_ ?_ <;> [(intro _; clear_value z); subst z]) | clear_value z)
    | with_reducible apply State.Ok.ite
    | with_reducible apply State.modPower_ok
    | with_reducible apply State.noteFree_ok
    | with_reducible apply State.each_ok
    | with_reducible apply State.hpDown_ok
    | split

theorem execRefclkLost_ok (n : Mark) (a1) (a2) (a3 : State) (ha3 : a3.Ok n) : OkH n (execRefclkLost a1 a2 a3) := by
  unfold execRefclkLost
  refine act2_ok _ _ (fun s hs => ?_) ha3
  try dsimp only
  repeat' first
    | with_reducible assumption
    | intro _
    | (extract_lets +onlyGivenNames z; first | (refine State.Ok.cut (n := n) z ?_ ?_ <;> [(intro _; clear_value z); subst z]) | (refine State.Ok.cutPair (n := n) z ?_ ?_ <;> [(intro _; clear_value z); subst z]) | clear_value z)
    | with_reducible apply State.Ok.ite
    | with_reducible apply refclkLostEffect_ok
    | split

theorem refclkRestoredEffect_ok (n : Mark) (a1 : State) (a2) (ha1 : a1.Ok n) : (refclkRestoredEffect a1 a2).Ok n := by
  unfold refclkRestoredEffect
  repeat' first
    | with_reducible assumption
    | intro _
    | (extract_lets +onlyGivenNames z; first | (refine State.Ok.cut (n := n) z ?_ ?_ <;> [(intro _; clear_value z); subst z]) | (refine State.Ok.cutPair (n := n) z ?_ ?_ <;> [(intro _; clear_value z); subst z]) | clear_value z)
    | with_reducible apply State.Ok.ite
    | with_reducible apply State.modPower_ok
    | with_reducible apply State.each_ok
    | with_reducible apply State.modHPort_ok
    | split

theorem execRefclkRestored_ok (n : Mark) (a1) (a2) (a3 : State) (ha3 : a3.Ok n) : OkH n (execRefclkRestored a1 a2 a3) := by
  unfold execRefclkRestored
  refine act1_ok _ _ (fun s hs => ?_) ha3
  try dsimp only
  repeat' first
    | with_reducible assumption
    | intro _
    | (extract_lets +onlyGivenNames z; first | (refine State.Ok.cut (n := n) z ?_ ?_ <;> [(intro _; clear_value z); subst z]) | (refine State.Ok.cutPair (n := n) z ?_ ?_ <;> [(intro _; clear_value z); subst z]) | clear_value z)
    | with_reducible apply State.Ok.ite
    | with_reducible apply refclkRestoredEffect_ok
    | split

theorem State.l0pTo_ok (n : Mark) (a1 : State) (a2) (a3) (ha1 : a1.Ok n) : (State.l0pTo a1 a2 a3).Ok n := by
  unfold State.l0pTo
  repeat' first
    | with_reducible assumption
    | intro _
    | (extract_lets +onlyGivenNames z; first | (refine State.Ok.cut (n := n) z ?_ ?_ <;> [(intro _; clear_value z); subst z]) | (refine State.Ok.cutPair (n := n) z ?_ ?_ <;> [(intro _; clear_value z); subst z]) | clear_value z)
    | with_reducible apply State.Ok.ite
    | with_reducible apply State.modHPort_ok
    | with_reducible apply State.countTwig_ok
    | split

theorem l0pNarrowEffect_ok (n : Mark) (a1 : State) (a2) (ha1 : a1.Ok n) : (l0pNarrowEffect a1 a2).Ok n := by
  unfold l0pNarrowEffect
  repeat' first
    | with_reducible assumption
    | intro _
    | (extract_lets +onlyGivenNames z; first | (refine State.Ok.cut (n := n) z ?_ ?_ <;> [(intro _; clear_value z); subst z]) | (refine State.Ok.cutPair (n := n) z ?_ ?_ <;> [(intro _; clear_value z); subst z]) | clear_value z)
    | with_reducible apply State.Ok.ite
    | with_reducible apply State.emit_ok
    | with_reducible apply State.l0pTo_ok
    | split

theorem execL0pNarrow_ok (n : Mark) (a1) (a2) (a3 : State) (ha3 : a3.Ok n) : OkH n (execL0pNarrow a1 a2 a3) := by
  unfold execL0pNarrow
  refine act1_ok _ _ (fun s hs => ?_) ha3
  try dsimp only
  repeat' first
    | with_reducible assumption
    | intro _
    | (extract_lets +onlyGivenNames z; first | (refine State.Ok.cut (n := n) z ?_ ?_ <;> [(intro _; clear_value z); subst z]) | (refine State.Ok.cutPair (n := n) z ?_ ?_ <;> [(intro _; clear_value z); subst z]) | clear_value z)
    | with_reducible apply State.Ok.ite
    | with_reducible apply l0pNarrowEffect_ok
    | split

theorem l0pWidenEffect_ok (n : Mark) (a1 : State) (a2) (ha1 : a1.Ok n) : (l0pWidenEffect a1 a2).Ok n := by
  unfold l0pWidenEffect
  repeat' first
    | with_reducible assumption
    | intro _
    | (extract_lets +onlyGivenNames z; first | (refine State.Ok.cut (n := n) z ?_ ?_ <;> [(intro _; clear_value z); subst z]) | (refine State.Ok.cutPair (n := n) z ?_ ?_ <;> [(intro _; clear_value z); subst z]) | clear_value z)
    | with_reducible apply State.Ok.ite
    | with_reducible apply State.emit_ok
    | with_reducible apply State.l0pTo_ok
    | split

theorem execL0pWiden_ok (n : Mark) (a1) (a2) (a3 : State) (ha3 : a3.Ok n) : OkH n (execL0pWiden a1 a2 a3) := by
  unfold execL0pWiden
  refine act1_ok _ _ (fun s hs => ?_) ha3
  try dsimp only
  repeat' first
    | with_reducible assumption
    | intro _
    | (extract_lets +onlyGivenNames z; first | (refine State.Ok.cut (n := n) z ?_ ?_ <;> [(intro _; clear_value z); subst z]) | (refine State.Ok.cutPair (n := n) z ?_ ?_ <;> [(intro _; clear_value z); subst z]) | clear_value z)
    | with_reducible apply State.Ok.ite
    | with_reducible apply l0pWidenEffect_ok
    | split

theorem l0pPartnerRequestEffect_ok (n : Mark) (a1 : State) (a2) (a3) (ha1 : a1.Ok n) : (l0pPartnerRequestEffect a1 a2 a3).Ok n := by
  unfold l0pPartnerRequestEffect
  repeat' first
    | with_reducible assumption
    | intro _
    | (extract_lets +onlyGivenNames z; first | (refine State.Ok.cut (n := n) z ?_ ?_ <;> [(intro _; clear_value z); subst z]) | (refine State.Ok.cutPair (n := n) z ?_ ?_ <;> [(intro _; clear_value z); subst z]) | clear_value z)
    | with_reducible apply State.Ok.ite
    | with_reducible apply State.emit_ok
    | with_reducible apply State.l0pTo_ok
    | split

theorem execL0pPartnerRequest_ok (n : Mark) (a1) (a2) (a3) (a4 : State) (ha4 : a4.Ok n) : OkH n (execL0pPartnerRequest a1 a2 a3 a4) := by
  unfold execL0pPartnerRequest
  refine act1_ok _ _ (fun s hs => ?_) ha4
  try dsimp only
  repeat' first
    | with_reducible assumption
    | intro _
    | (extract_lets +onlyGivenNames z; first | (refine State.Ok.cut (n := n) z ?_ ?_ <;> [(intro _; clear_value z); subst z]) | (refine State.Ok.cutPair (n := n) z ?_ ?_ <;> [(intro _; clear_value z); subst z]) | clear_value z)
    | with_reducible apply State.Ok.ite
    | with_reducible apply l0pPartnerRequestEffect_ok
    | split

theorem State.enterL1_ok (n : Mark) (a1 : State) (a2) (a3) (ha1 : a1.Ok n) : (State.enterL1 a1 a2 a3).Ok n := by
  unfold State.enterL1
  repeat' first
    | with_reducible assumption
    | intro _
    | (extract_lets +onlyGivenNames z; first | (refine State.Ok.cut (n := n) z ?_ ?_ <;> [(intro _; clear_value z); subst z]) | (refine State.Ok.cutPair (n := n) z ?_ ?_ <;> [(intro _; clear_value z); subst z]) | clear_value z)
    | with_reducible apply State.Ok.ite
    | with_reducible apply State.countTwig_ok
    | with_reducible apply State.modHPort_ok
    | split

theorem l1EntryInitiateEffect_ok (n : Mark) (a1 : State) (a2) (ha1 : a1.Ok n) : (l1EntryInitiateEffect a1 a2).Ok n := by
  unfold l1EntryInitiateEffect
  repeat' first
    | with_reducible assumption
    | intro _
    | (extract_lets +onlyGivenNames z; first | (refine State.Ok.cut (n := n) z ?_ ?_ <;> [(intro _; clear_value z); subst z]) | (refine State.Ok.cutPair (n := n) z ?_ ?_ <;> [(intro _; clear_value z); subst z]) | clear_value z)
    | with_reducible apply State.Ok.ite
    | with_reducible apply State.emit_ok
    | with_reducible apply State.enterL1_ok
    | split

theorem execL1EntryInitiate_ok (n : Mark) (a1) (a2) (a3 : State) (ha3 : a3.Ok n) : OkH n (execL1EntryInitiate a1 a2 a3) := by
  unfold execL1EntryInitiate
  refine act1_ok _ _ (fun s hs => ?_) ha3
  try dsimp only
  repeat' first
    | with_reducible assumption
    | intro _
    | (extract_lets +onlyGivenNames z; first | (refine State.Ok.cut (n := n) z ?_ ?_ <;> [(intro _; clear_value z); subst z]) | (refine State.Ok.cutPair (n := n) z ?_ ?_ <;> [(intro _; clear_value z); subst z]) | clear_value z)
    | with_reducible apply State.Ok.ite
    | with_reducible apply l1EntryInitiateEffect_ok
    | split

theorem l1PartnerRequestEffect_ok (n : Mark) (a1 : State) (a2) (ha1 : a1.Ok n) : (l1PartnerRequestEffect a1 a2).Ok n := by
  unfold l1PartnerRequestEffect
  repeat' first
    | with_reducible assumption
    | intro _
    | (extract_lets +onlyGivenNames z; first | (refine State.Ok.cut (n := n) z ?_ ?_ <;> [(intro _; clear_value z); subst z]) | (refine State.Ok.cutPair (n := n) z ?_ ?_ <;> [(intro _; clear_value z); subst z]) | clear_value z)
    | with_reducible apply State.Ok.ite
    | with_reducible apply State.emit_ok
    | with_reducible apply State.enterL1_ok
    | split

theorem execL1PartnerRequest_ok (n : Mark) (a1) (a2) (a3 : State) (ha3 : a3.Ok n) : OkH n (execL1PartnerRequest a1 a2 a3) := by
  unfold execL1PartnerRequest
  refine act1_ok _ _ (fun s hs => ?_) ha3
  try dsimp only
  repeat' first
    | with_reducible assumption
    | intro _
    | (extract_lets +onlyGivenNames z; first | (refine State.Ok.cut (n := n) z ?_ ?_ <;> [(intro _; clear_value z); subst z]) | (refine State.Ok.cutPair (n := n) z ?_ ?_ <;> [(intro _; clear_value z); subst z]) | clear_value z)
    | with_reducible apply State.Ok.ite
    | with_reducible apply l1PartnerRequestEffect_ok
    | split

theorem l1ExitEffect_ok (n : Mark) (a1 : State) (a2) (ha1 : a1.Ok n) : (l1ExitEffect a1 a2).Ok n := by
  unfold l1ExitEffect
  repeat' first
    | with_reducible assumption
    | intro _
    | (extract_lets +onlyGivenNames z; first | (refine State.Ok.cut (n := n) z ?_ ?_ <;> [(intro _; clear_value z); subst z]) | (refine State.Ok.cutPair (n := n) z ?_ ?_ <;> [(intro _; clear_value z); subst z]) | clear_value z)
    | with_reducible apply State.Ok.ite
    | with_reducible apply State.modHPort_ok
    | with_reducible apply State.emit_ok
    | with_reducible apply State.driveOut_ok
    | with_reducible apply State.modSideband_ok
    | split

theorem execL1Exit_ok (n : Mark) (a1) (a2) (a3 : State) (ha3 : a3.Ok n) : OkH n (execL1Exit a1 a2 a3) := by
  unfold execL1Exit
  refine act1_ok _ _ (fun s hs => ?_) ha3
  try dsimp only
  repeat' first
    | with_reducible assumption
    | intro _
    | (extract_lets +onlyGivenNames z; first | (refine State.Ok.cut (n := n) z ?_ ?_ <;> [(intro _; clear_value z); subst z]) | (refine State.Ok.cutPair (n := n) z ?_ ?_ <;> [(intro _; clear_value z); subst z]) | clear_value z)
    | with_reducible apply State.Ok.ite
    | with_reducible apply l1ExitEffect_ok
    | split

theorem l1PartnerExitEffect_ok (n : Mark) (a1 : State) (a2) (ha1 : a1.Ok n) : (l1PartnerExitEffect a1 a2).Ok n := by
  unfold l1PartnerExitEffect
  repeat' first
    | with_reducible assumption
    | intro _
    | (extract_lets +onlyGivenNames z; first | (refine State.Ok.cut (n := n) z ?_ ?_ <;> [(intro _; clear_value z); subst z]) | (refine State.Ok.cutPair (n := n) z ?_ ?_ <;> [(intro _; clear_value z); subst z]) | clear_value z)
    | with_reducible apply State.Ok.ite
    | with_reducible apply State.modHPort_ok
    | split

theorem execL1PartnerExit_ok (n : Mark) (a1) (a2) (a3 : State) (ha3 : a3.Ok n) : OkH n (execL1PartnerExit a1 a2 a3) := by
  unfold execL1PartnerExit
  refine act1_ok _ _ (fun s hs => ?_) ha3
  try dsimp only
  repeat' first
    | with_reducible assumption
    | intro _
    | (extract_lets +onlyGivenNames z; first | (refine State.Ok.cut (n := n) z ?_ ?_ <;> [(intro _; clear_value z); subst z]) | (refine State.Ok.cutPair (n := n) z ?_ ?_ <;> [(intro _; clear_value z); subst z]) | clear_value z)
    | with_reducible apply State.Ok.ite
    | with_reducible apply l1PartnerExitEffect_ok
    | split

theorem State.hpRetrain_ok (n : Mark) (a1 : State) (a2) (ha1 : a1.Ok n) : (State.hpRetrain a1 a2).Ok n := by
  unfold State.hpRetrain
  repeat' first
    | with_reducible assumption
    | intro _
    | (extract_lets +onlyGivenNames z; first | (refine State.Ok.cut (n := n) z ?_ ?_ <;> [(intro _; clear_value z); subst z]) | (refine State.Ok.cutPair (n := n) z ?_ ?_ <;> [(intro _; clear_value z); subst z]) | clear_value z)
    | with_reducible apply State.Ok.ite
    | with_reducible apply State.emit_ok
    | with_reducible apply State.takeCeiling_ok
    | with_reducible apply State.modHPort_ok
    | split

theorem retrainLinkEffect_ok (n : Mark) (a1 : State) (a2) (a3) (ha1 : a1.Ok n) : (retrainLinkEffect a1 a2 a3).Ok n := by
  unfold retrainLinkEffect
  repeat' first
    | with_reducible assumption
    | intro _
    | (extract_lets +onlyGivenNames z; first | (refine State.Ok.cut (n := n) z ?_ ?_ <;> [(intro _; clear_value z); subst z]) | (refine State.Ok.cutPair (n := n) z ?_ ?_ <;> [(intro _; clear_value z); subst z]) | clear_value z)
    | with_reducible apply State.Ok.ite
    | with_reducible apply State.hpRetrain_ok
    | with_reducible apply State.emit_ok
    | split

theorem execRetrainLink_ok (n : Mark) (a1) (a2) (a3) (a4 : State) (ha4 : a4.Ok n) : OkH n (execRetrainLink a1 a2 a3 a4) := by
  unfold execRetrainLink
  refine act1_ok _ _ (fun s hs => ?_) ha4
  try dsimp only
  repeat' first
    | with_reducible assumption
    | intro _
    | (extract_lets +onlyGivenNames z; first | (refine State.Ok.cut (n := n) z ?_ ?_ <;> [(intro _; clear_value z); subst z]) | (refine State.Ok.cutPair (n := n) z ?_ ?_ <;> [(intro _; clear_value z); subst z]) | clear_value z)
    | with_reducible apply State.Ok.ite
    | with_reducible apply retrainLinkEffect_ok
    | split

end Sys2Proof.Machine
end

