-- ==== Sys2Proof/Laws/KeepCounters.lean ====
section
/-! SUPPORT. Every operation of Counters.lean keeps the invariant, and the local count does not run back. -/

set_option linter.all false

namespace Sys2Proof.Machine

theorem State.cntCtlWrite_ok (n : Mark) (a1 : State) (a2) (a3) (ha1 : a1.Ok n) : (State.cntCtlWrite a1 a2 a3).Ok n := by
  unfold State.cntCtlWrite
  repeat' first
    | with_reducible assumption
    | intro _
    | (extract_lets +onlyGivenNames z; first | (refine State.Ok.cut (n := n) z ?_ ?_ <;> [(intro _; clear_value z); subst z]) | (refine State.Ok.cutPair (n := n) z ?_ ?_ <;> [(intro _; clear_value z); subst z]) | clear_value z)
    | with_reducible apply State.Ok.ite
    | with_reducible apply State.setCounter_ok
    | with_reducible apply State.set_ok
    | split

theorem State.cntCtlBy_ok (n : Mark) (a1 : State) (a2) (a3) (a4) (ha1 : a1.Ok n) : (State.cntCtlBy a1 a2 a3 a4).Ok n := by
  unfold State.cntCtlBy
  repeat' first
    | with_reducible assumption
    | intro _
    | (extract_lets +onlyGivenNames z; first | (refine State.Ok.cut (n := n) z ?_ ?_ <;> [(intro _; clear_value z); subst z]) | (refine State.Ok.cutPair (n := n) z ?_ ?_ <;> [(intro _; clear_value z); subst z]) | clear_value z)
    | with_reducible apply State.Ok.ite
    | with_reducible apply State.cntCtlWrite_ok
    | with_reducible apply State.jAppend_ok
    | split

theorem execCntEventSelect_ok (n : Mark) (a1) (a2) (a3) (a4) (a5 : State) (ha5 : a5.Ok n) : OkH n (execCntEventSelect a1 a2 a3 a4 a5) := by
  unfold execCntEventSelect
  refine act1_ok _ _ (fun s hs => ?_) ha5
  try dsimp only
  repeat' first
    | with_reducible assumption
    | intro _
    | (extract_lets +onlyGivenNames z; first | (refine State.Ok.cut (n := n) z ?_ ?_ <;> [(intro _; clear_value z); subst z]) | (refine State.Ok.cutPair (n := n) z ?_ ?_ <;> [(intro _; clear_value z); subst z]) | clear_value z)
    | with_reducible apply State.Ok.ite
    | with_reducible apply State.cntCtlBy_ok
    | split

theorem execCntClear_ok (n : Mark) (a1) (a2) (a3) (a4 : State) (ha4 : a4.Ok n) : OkH n (execCntClear a1 a2 a3 a4) := by
  unfold execCntClear
  refine act1_ok _ _ (fun s hs => ?_) ha4
  try dsimp only
  repeat' first
    | with_reducible assumption
    | intro _
    | (extract_lets +onlyGivenNames z; first | (refine State.Ok.cut (n := n) z ?_ ?_ <;> [(intro _; clear_value z); subst z]) | (refine State.Ok.cutPair (n := n) z ?_ ?_ <;> [(intro _; clear_value z); subst z]) | clear_value z)
    | with_reducible apply State.Ok.ite
    | with_reducible apply State.cntCtlBy_ok
    | split

theorem execCntOvfClear_ok (n : Mark) (a1) (a2) (a3) (a4 : State) (ha4 : a4.Ok n) : OkH n (execCntOvfClear a1 a2 a3 a4) := by
  unfold execCntOvfClear
  refine act1_ok _ _ (fun s hs => ?_) ha4
  try dsimp only
  repeat' first
    | with_reducible assumption
    | intro _
    | (extract_lets +onlyGivenNames z; first | (refine State.Ok.cut (n := n) z ?_ ?_ <;> [(intro _; clear_value z); subst z]) | (refine State.Ok.cutPair (n := n) z ?_ ?_ <;> [(intro _; clear_value z); subst z]) | clear_value z)
    | with_reducible apply State.Ok.ite
    | with_reducible apply State.cntCtlBy_ok
    | split

theorem State.cntFreezeWrite_ok (n : Mark) (a1 : State) (a2) (ha1 : a1.Ok n) : (State.cntFreezeWrite a1 a2).Ok n := by
  unfold State.cntFreezeWrite
  repeat' first
    | with_reducible assumption
    | intro _
    | (extract_lets +onlyGivenNames z; first | (refine State.Ok.cut (n := n) z ?_ ?_ <;> [(intro _; clear_value z); subst z]) | (refine State.Ok.cutPair (n := n) z ?_ ?_ <;> [(intro _; clear_value z); subst z]) | clear_value z)
    | with_reducible apply State.Ok.ite
    | (with_reducible refine State.modCounters_ok _ rfl ?_)
    | split

theorem execCntFreezeSet_ok (n : Mark) (a1) (a2) (a3) (a4 : State) (ha4 : a4.Ok n) : OkH n (execCntFreezeSet a1 a2 a3 a4) := by
  unfold execCntFreezeSet
  refine act1_ok _ _ (fun s hs => ?_) ha4
  try dsimp only
  repeat' first
    | with_reducible assumption
    | intro _
    | (extract_lets +onlyGivenNames z; first | (refine State.Ok.cut (n := n) z ?_ ?_ <;> [(intro _; clear_value z); subst z]) | (refine State.Ok.cutPair (n := n) z ?_ ?_ <;> [(intro _; clear_value z); subst z]) | clear_value z)
    | with_reducible apply State.Ok.ite
    | with_reducible apply State.cntFreezeWrite_ok
    | split

theorem execCntFreezeResume_ok (n : Mark) (a1) (a2) (a3) (a4 : State) (ha4 : a4.Ok n) : OkH n (execCntFreezeResume a1 a2 a3 a4) := by
  unfold execCntFreezeResume
  refine act1_ok _ _ (fun s hs => ?_) ha4
  try dsimp only
  repeat' first
    | with_reducible assumption
    | intro _
    | (extract_lets +onlyGivenNames z; first | (refine State.Ok.cut (n := n) z ?_ ?_ <;> [(intro _; clear_value z); subst z]) | (refine State.Ok.cutPair (n := n) z ?_ ?_ <;> [(intro _; clear_value z); subst z]) | clear_value z)
    | with_reducible apply State.Ok.ite
    | with_reducible apply State.cntFreezeWrite_ok
    | split

theorem State.snapQueue_ok (n : Mark) (a1 : State) (a2) (a3) (a4) (ha1 : a1.Ok n) : State.OkOP n (State.snapQueue a1 a2 a3 a4) := by
  unfold State.snapQueue
  repeat' first
    | with_reducible assumption
    | intro _
    | (extract_lets +onlyGivenNames z; first | (refine State.Ok.cut (n := n) z ?_ ?_ <;> [(intro _; clear_value z); subst z]) | (refine State.Ok.cutPair (n := n) z ?_ ?_ <;> [(intro _; clear_value z); subst z]) | clear_value z)
    | with_reducible apply State.Ok.ite
    | (with_reducible refine State.OkO.get (State.actPut_ok _ _ _ _ _ _ _ ?_ ) (by with_reducible assumption))
    | with_reducible apply State.actPut_ok
    | with_reducible exact State.OkO.none_
    | with_reducible apply State.OkO.ite_
    | with_reducible apply State.OkO.some_
    | with_reducible apply State.OkO.getD
    | with_reducible apply State.OkO.mapPair
    | with_reducible exact State.OkOP.none_
    | with_reducible apply State.OkOP.ite_
    | with_reducible apply State.OkOP.some_
    | with_reducible apply State.OkOP.map_
    | with_reducible apply State.OkOP.orElse_
    | split

theorem State.snapWrite_ok (n : Mark) (a1 : State) (a2) (a3) (a4) (ha1 : a1.Ok n) : State.OkE n (State.snapWrite a1 a2 a3 a4) := by
  unfold State.snapWrite
  repeat' first
    | with_reducible assumption
    | intro _
    | (extract_lets +onlyGivenNames z; first | (refine State.Ok.cut (n := n) z ?_ ?_ <;> [(intro _; clear_value z); subst z]) | (refine State.Ok.cutPair (n := n) z ?_ ?_ <;> [(intro _; clear_value z); subst z]) | clear_value z)
    | with_reducible apply State.Ok.ite
    | (with_reducible refine State.OkOP.get (State.snapQueue_ok _ _ _ _ _ ?_ ) (by with_reducible assumption))
    | (with_reducible refine State.OkOP.getPair (State.snapQueue_ok _ _ _ _ _ ?_ ) (by with_reducible assumption))
    | with_reducible apply State.snapQueue_ok
    | with_reducible apply State.sendControl_ok
    | with_reducible apply State.modAct_ok
    | with_reducible exact State.OkOP.none_
    | with_reducible apply State.OkOP.ite_
    | with_reducible apply State.OkOP.some_
    | with_reducible apply State.OkOP.map_
    | with_reducible apply State.OkOP.orElse_
    | with_reducible exact State.OkE.error_
    | with_reducible apply State.OkE.ite_
    | with_reducible apply State.OkE.ok_
    | split

theorem execSnapRequest_ok (n : Mark) (a1) (a2) (a3) (a4) (a5) (a6 : State) (ha6 : a6.Ok n) : OkH n (execSnapRequest a1 a2 a3 a4 a5 a6) := by
  unfold execSnapRequest
  refine act1_ok _ _ (fun s hs => ?_) ha6
  try dsimp only
  repeat' first
    | with_reducible assumption
    | intro _
    | (extract_lets +onlyGivenNames z; first | (refine State.Ok.cut (n := n) z ?_ ?_ <;> [(intro _; clear_value z); subst z]) | (refine State.Ok.cutPair (n := n) z ?_ ?_ <;> [(intro _; clear_value z); subst z]) | clear_value z)
    | with_reducible apply State.Ok.ite
    | (with_reducible refine State.OkE.get (State.snapWrite_ok _ _ _ _ _ ?_ ) (by with_reducible assumption))
    | with_reducible apply State.snapWrite_ok
    | with_reducible exact State.OkE.error_
    | with_reducible apply State.OkE.ite_
    | with_reducible apply State.OkE.ok_
    | split

theorem snapshotMessageEffect_ok (n : Mark) (a1 : State) (a2) (a3) (ha1 : a1.Ok n) : (snapshotMessageEffect a1 a2 a3).Ok n := by
  unfold snapshotMessageEffect
  repeat' first
    | with_reducible assumption
    | intro _
    | (extract_lets +onlyGivenNames z; first | (refine State.Ok.cut (n := n) z ?_ ?_ <;> [(intro _; clear_value z); subst z]) | (refine State.Ok.cutPair (n := n) z ?_ ?_ <;> [(intro _; clear_value z); subst z]) | clear_value z)
    | with_reducible apply State.Ok.ite
    | with_reducible apply State.modAct_ok
    | with_reducible apply State.sendControl_ok
    | (with_reducible refine State.OkOP.get (State.snapQueue_ok _ _ _ _ _ ?_ ) (by with_reducible assumption))
    | (with_reducible refine State.OkOP.getPair (State.snapQueue_ok _ _ _ _ _ ?_ ) (by with_reducible assumption))
    | with_reducible apply State.snapQueue_ok
    | with_reducible apply State.noteAt_ok
    | with_reducible exact State.OkOP.none_
    | with_reducible apply State.OkOP.ite_
    | with_reducible apply State.OkOP.some_
    | with_reducible apply State.OkOP.map_
    | with_reducible apply State.OkOP.orElse_
    | split

theorem execSnapshotMessage_ok (n : Mark) (a1) (a2) (a3) (a4 : State) (ha4 : a4.Ok n) : OkH n (execSnapshotMessage a1 a2 a3 a4) := by
  unfold execSnapshotMessage
  refine act1_ok _ _ (fun s hs => ?_) ha4
  try dsimp only
  repeat' first
    | with_reducible assumption
    | intro _
    | (extract_lets +onlyGivenNames z; first | (refine State.Ok.cut (n := n) z ?_ ?_ <;> [(intro _; clear_value z); subst z]) | (refine State.Ok.cutPair (n := n) z ?_ ?_ <;> [(intro _; clear_value z); subst z]) | clear_value z)
    | with_reducible apply State.Ok.ite
    | with_reducible apply snapshotMessageEffect_ok
    | split

theorem snapshotFireEffect_ok (n : Mark) (a1 : State) (a2) (ha1 : a1.Ok n) : (snapshotFireEffect a1 a2).Ok n := by
  unfold snapshotFireEffect
  repeat' first
    | with_reducible assumption
    | intro _
    | (extract_lets +onlyGivenNames z; first | (refine State.Ok.cut (n := n) z ?_ ?_ <;> [(intro _; clear_value z); subst z]) | (refine State.Ok.cutPair (n := n) z ?_ ?_ <;> [(intro _; clear_value z); subst z]) | clear_value z)
    | with_reducible apply State.Ok.ite
    | with_reducible apply State.markFired_ok
    | (with_reducible refine State.modCounters_ok _ rfl ?_)
    | split

theorem execSnapshotFire_ok (n : Mark) (a1) (a2) (a3 : State) (ha3 : a3.Ok n) : OkH n (execSnapshotFire a1 a2 a3) := by
  unfold execSnapshotFire
  refine act1_ok _ _ (fun s hs => ?_) ha3
  try dsimp only
  repeat' first
    | with_reducible assumption
    | intro _
    | (extract_lets +onlyGivenNames z; first | (refine State.Ok.cut (n := n) z ?_ ?_ <;> [(intro _; clear_value z); subst z]) | (refine State.Ok.cutPair (n := n) z ?_ ?_ <;> [(intro _; clear_value z); subst z]) | clear_value z)
    | with_reducible apply State.Ok.ite
    | with_reducible apply snapshotFireEffect_ok
    | split

theorem snapCompleteEffect_ok (n : Mark) (a1 : State) (ha1 : a1.Ok n) : (snapCompleteEffect a1).Ok n := by
  unfold snapCompleteEffect
  repeat' first
    | with_reducible assumption
    | intro _
    | (extract_lets +onlyGivenNames z; first | (refine State.Ok.cut (n := n) z ?_ ?_ <;> [(intro _; clear_value z); subst z]) | (refine State.Ok.cutPair (n := n) z ?_ ?_ <;> [(intro _; clear_value z); subst z]) | clear_value z)
    | with_reducible apply State.Ok.ite
    | (with_reducible refine State.modCounters_ok _ rfl ?_)
    | split

theorem execSnapComplete_ok (n : Mark) (a1) (a2 : State) (ha2 : a2.Ok n) : OkH n (execSnapComplete a1 a2) := by
  unfold execSnapComplete
  refine act1_ok _ _ (fun s hs => ?_) ha2
  try dsimp only
  repeat' first
    | with_reducible assumption
    | intro _
    | (extract_lets +onlyGivenNames z; first | (refine State.Ok.cut (n := n) z ?_ ?_ <;> [(intro _; clear_value z); subst z]) | (refine State.Ok.cutPair (n := n) z ?_ ?_ <;> [(intro _; clear_value z); subst z]) | clear_value z)
    | with_reducible apply State.Ok.ite
    | with_reducible apply snapCompleteEffect_ok
    | split

end Sys2Proof.Machine
end

