-- ==== Sys2Proof/Laws/KeepHierarchy.lean ====
section
/-! SUPPORT. Every operation of Hierarchy.lean keeps the invariant, and the local count does not run back. -/

set_option linter.all false

namespace Sys2Proof.Machine

theorem dieLinkLaneFailEffect_ok (n : Mark) (a1 : State) (a2) (ha1 : a1.Ok n) : (dieLinkLaneFailEffect a1 a2).Ok n := by
  unfold dieLinkLaneFailEffect
  repeat' first
    | with_reducible assumption
    | intro _
    | (extract_lets +onlyGivenNames z; first | (refine State.Ok.cut (n := n) z ?_ ?_ <;> [(intro _; clear_value z); subst z]) | (refine State.Ok.cutPair (n := n) z ?_ ?_ <;> [(intro _; clear_value z); subst z]) | clear_value z)
    | with_reducible apply State.Ok.ite
    | with_reducible apply State.noteFree_ok
    | with_reducible apply State.modHier_ok
    | with_reducible apply State.note_ok
    | with_reducible apply State.contain_ok
    | split

theorem execDieLinkLaneFail_ok (n : Mark) (a1) (a2) (a3 : State) (ha3 : a3.Ok n) : OkH n (execDieLinkLaneFail a1 a2 a3) := by
  unfold execDieLinkLaneFail
  refine act2_ok _ _ (fun s hs => ?_) ha3
  try dsimp only
  repeat' first
    | with_reducible assumption
    | intro _
    | (extract_lets +onlyGivenNames z; first | (refine State.Ok.cut (n := n) z ?_ ?_ <;> [(intro _; clear_value z); subst z]) | (refine State.Ok.cutPair (n := n) z ?_ ?_ <;> [(intro _; clear_value z); subst z]) | clear_value z)
    | with_reducible apply State.Ok.ite
    | with_reducible apply dieLinkLaneFailEffect_ok
    | split

theorem State.releaseUnits_ok (n : Mark) (a1 : State) (a2) (ha1 : a1.Ok n) : (State.releaseUnits a1 a2).Ok n := by
  unfold State.releaseUnits
  repeat' first
    | with_reducible assumption
    | intro _
    | (extract_lets +onlyGivenNames z; first | (refine State.Ok.cut (n := n) z ?_ ?_ <;> [(intro _; clear_value z); subst z]) | (refine State.Ok.cutPair (n := n) z ?_ ?_ <;> [(intro _; clear_value z); subst z]) | clear_value z)
    | with_reducible apply State.Ok.ite
    | with_reducible apply State.modHier_ok
    | (with_reducible refine State.modFaults_ok _ rfl ?_)
    | with_reducible apply State.each_ok
    | with_reducible apply State.containMessage_ok
    | with_reducible apply foldl_ok
    | with_reducible apply foldlState_ok
    | split

theorem State.clearEngine_ok (n : Mark) (a1 : State) (a2) (ha1 : a1.Ok n) : (State.clearEngine a1 a2).Ok n := by
  unfold State.clearEngine
  repeat' first
    | with_reducible assumption
    | intro _
    | (extract_lets +onlyGivenNames z; first | (refine State.Ok.cut (n := n) z ?_ ?_ <;> [(intro _; clear_value z); subst z]) | (refine State.Ok.cutPair (n := n) z ?_ ?_ <;> [(intro _; clear_value z); subst z]) | clear_value z)
    | with_reducible apply State.Ok.ite
    | with_reducible apply State.modTrunk_ok
    | with_reducible apply State.each_ok
    | with_reducible apply State.modHPort_ok
    | with_reducible apply State.modLane_ok
    | split

theorem State.startReset_ok (n : Mark) (a1 : State) (a2) (ha1 : a1.Ok n) : (State.startReset a1 a2).Ok n := by
  unfold State.startReset
  repeat' first
    | with_reducible assumption
    | intro _
    | (extract_lets +onlyGivenNames z; first | (refine State.Ok.cut (n := n) z ?_ ?_ <;> [(intro _; clear_value z); subst z]) | (refine State.Ok.cutPair (n := n) z ?_ ?_ <;> [(intro _; clear_value z); subst z]) | clear_value z)
    | with_reducible apply State.Ok.ite
    | with_reducible apply State.modHier_ok
    | with_reducible apply State.stopTrunks_ok
    | with_reducible apply State.releaseUnits_ok
    | with_reducible apply State.breakLocks_ok
    | with_reducible apply State.each_ok
    | with_reducible apply State.stopPorts_ok
    | with_reducible apply State.clearEngine_ok
    | with_reducible apply State.modCore_ok
    | with_reducible apply foldl_ok
    | with_reducible apply foldlState_ok
    | split

theorem State.requestReset_ok (n : Mark) (a1 : State) (a2) (a3) (ha1 : a1.Ok n) : State.OkO n (State.requestReset a1 a2 a3) := by
  unfold State.requestReset
  repeat' first
    | with_reducible assumption
    | intro _
    | (extract_lets +onlyGivenNames z; first | (refine State.Ok.cut (n := n) z ?_ ?_ <;> [(intro _; clear_value z); subst z]) | (refine State.Ok.cutPair (n := n) z ?_ ?_ <;> [(intro _; clear_value z); subst z]) | clear_value z)
    | with_reducible apply State.Ok.ite
    | with_reducible apply State.startReset_ok
    | with_reducible exact State.OkO.none_
    | with_reducible apply State.OkO.ite_
    | with_reducible apply State.OkO.some_
    | with_reducible apply State.OkO.getD
    | with_reducible apply State.OkO.mapPair
    | split

theorem execTwigReset_ok (n : Mark) (a1) (a2) (a3) (a4 : State) (ha4 : a4.Ok n) : OkH n (execTwigReset a1 a2 a3 a4) := by
  unfold execTwigReset
  refine act2_ok _ _ (fun s hs => ?_) ha4
  try dsimp only
  repeat' first
    | with_reducible assumption
    | intro _
    | (extract_lets +onlyGivenNames z; first | (refine State.Ok.cut (n := n) z ?_ ?_ <;> [(intro _; clear_value z); subst z]) | (refine State.Ok.cutPair (n := n) z ?_ ?_ <;> [(intro _; clear_value z); subst z]) | clear_value z)
    | with_reducible apply State.Ok.ite
    | (with_reducible refine State.OkO.get (State.requestReset_ok _ _ _ _ ?_ ) (by with_reducible assumption))
    | with_reducible apply State.requestReset_ok
    | with_reducible exact State.OkO.none_
    | with_reducible apply State.OkO.ite_
    | with_reducible apply State.OkO.some_
    | with_reducible apply State.OkO.getD
    | with_reducible apply State.OkO.mapPair
    | split

theorem execBoughReset_ok (n : Mark) (a1) (a2) (a3) (a4 : State) (ha4 : a4.Ok n) : OkH n (execBoughReset a1 a2 a3 a4) := by
  unfold execBoughReset
  refine act2_ok _ _ (fun s hs => ?_) ha4
  try dsimp only
  repeat' first
    | with_reducible assumption
    | intro _
    | (extract_lets +onlyGivenNames z; first | (refine State.Ok.cut (n := n) z ?_ ?_ <;> [(intro _; clear_value z); subst z]) | (refine State.Ok.cutPair (n := n) z ?_ ?_ <;> [(intro _; clear_value z); subst z]) | clear_value z)
    | with_reducible apply State.Ok.ite
    | (with_reducible refine State.OkO.get (State.requestReset_ok _ _ _ _ ?_ ) (by with_reducible assumption))
    | with_reducible apply State.requestReset_ok
    | with_reducible exact State.OkO.none_
    | with_reducible apply State.OkO.ite_
    | with_reducible apply State.OkO.some_
    | with_reducible apply State.OkO.getD
    | with_reducible apply State.OkO.mapPair
    | split

theorem execLimbReset_ok (n : Mark) (a1) (a2) (a3) (a4 : State) (ha4 : a4.Ok n) : OkH n (execLimbReset a1 a2 a3 a4) := by
  unfold execLimbReset
  refine act2_ok _ _ (fun s hs => ?_) ha4
  try dsimp only
  repeat' first
    | with_reducible assumption
    | intro _
    | (extract_lets +onlyGivenNames z; first | (refine State.Ok.cut (n := n) z ?_ ?_ <;> [(intro _; clear_value z); subst z]) | (refine State.Ok.cutPair (n := n) z ?_ ?_ <;> [(intro _; clear_value z); subst z]) | clear_value z)
    | with_reducible apply State.Ok.ite
    | (with_reducible refine State.OkO.get (State.requestReset_ok _ _ _ _ ?_ ) (by with_reducible assumption))
    | with_reducible apply State.requestReset_ok
    | with_reducible exact State.OkO.none_
    | with_reducible apply State.OkO.ite_
    | with_reducible apply State.OkO.some_
    | with_reducible apply State.OkO.getD
    | with_reducible apply State.OkO.mapPair
    | split

theorem execDieReset_ok (n : Mark) (a1) (a2) (a3) (a4 : State) (ha4 : a4.Ok n) : OkH n (execDieReset a1 a2 a3 a4) := by
  unfold execDieReset
  refine act2_ok _ _ (fun s hs => ?_) ha4
  try dsimp only
  repeat' first
    | with_reducible assumption
    | intro _
    | (extract_lets +onlyGivenNames z; first | (refine State.Ok.cut (n := n) z ?_ ?_ <;> [(intro _; clear_value z); subst z]) | (refine State.Ok.cutPair (n := n) z ?_ ?_ <;> [(intro _; clear_value z); subst z]) | clear_value z)
    | with_reducible apply State.Ok.ite
    | (with_reducible refine State.OkO.get (State.requestReset_ok _ _ _ _ ?_ ) (by with_reducible assumption))
    | with_reducible apply State.requestReset_ok
    | with_reducible exact State.OkO.none_
    | with_reducible apply State.OkO.ite_
    | with_reducible apply State.OkO.some_
    | with_reducible apply State.OkO.getD
    | with_reducible apply State.OkO.mapPair
    | split

theorem State.formBough_ok (n : Mark) (a1 : State) (a2) (ha1 : a1.Ok n) : (State.formBough a1 a2).Ok n := by
  unfold State.formBough
  repeat' first
    | with_reducible assumption
    | intro _
    | (extract_lets +onlyGivenNames z; first | (refine State.Ok.cut (n := n) z ?_ ?_ <;> [(intro _; clear_value z); subst z]) | (refine State.Ok.cutPair (n := n) z ?_ ?_ <;> [(intro _; clear_value z); subst z]) | clear_value z)
    | with_reducible apply State.Ok.ite
    | with_reducible apply State.modHier_ok
    | split

theorem resetCompleteEffect_ok (n : Mark) (a1 : State) (a2) (ha1 : a1.Ok n) : (resetCompleteEffect a1 a2).Ok n := by
  unfold resetCompleteEffect
  repeat' first
    | with_reducible assumption
    | intro _
    | (extract_lets +onlyGivenNames z; first | (refine State.Ok.cut (n := n) z ?_ ?_ <;> [(intro _; clear_value z); subst z]) | (refine State.Ok.cutPair (n := n) z ?_ ?_ <;> [(intro _; clear_value z); subst z]) | clear_value z)
    | with_reducible apply State.Ok.ite
    | with_reducible apply State.modHier_ok
    | with_reducible apply State.each_ok
    | with_reducible apply State.formBough_ok
    | with_reducible apply State.modTrunk_ok
    | with_reducible apply State.modHPort_ok
    | with_reducible apply foldl_ok
    | with_reducible apply foldlState_ok
    | split

theorem execResetComplete_ok (n : Mark) (a1) (a2) (a3 : State) (ha3 : a3.Ok n) : OkH n (execResetComplete a1 a2 a3) := by
  unfold execResetComplete
  refine act1_ok _ _ (fun s hs => ?_) ha3
  try dsimp only
  repeat' first
    | with_reducible assumption
    | intro _
    | (extract_lets +onlyGivenNames z; first | (refine State.Ok.cut (n := n) z ?_ ?_ <;> [(intro _; clear_value z); subst z]) | (refine State.Ok.cutPair (n := n) z ?_ ?_ <;> [(intro _; clear_value z); subst z]) | clear_value z)
    | with_reducible apply State.Ok.ite
    | with_reducible apply resetCompleteEffect_ok
    | split

end Sys2Proof.Machine
end

