-- ==== Sys2Proof/Laws/KeepLogs.lean ====
section
/-! SUPPORT. Every operation of Logs.lean keeps the invariant, and the local count does not run back. -/

set_option linter.all false

namespace Sys2Proof.Machine

theorem State.logEntry_ok (n : Mark) (a1 : State) (a2) (ha1 : a1.Ok n) : (State.logEntry a1 a2).Ok n := by
  unfold State.logEntry
  repeat' first
    | with_reducible assumption
    | intro _
    | (extract_lets +onlyGivenNames z; first | (refine State.Ok.cut (n := n) z ?_ ?_ <;> [(intro _; clear_value z); subst z]) | (refine State.Ok.cutPair (n := n) z ?_ ?_ <;> [(intro _; clear_value z); subst z]) | clear_value z)
    | with_reducible apply State.Ok.ite
    | (with_reducible refine State.modFaults_ok _ rfl ?_)
    | split

theorem State.logDiscard_ok (n : Mark) (a1 : State) (a2) (a3) (a4) (a5) (ha1 : a1.Ok n) : (State.logDiscard a1 a2 a3 a4 a5).Ok n := by
  unfold State.logDiscard
  repeat' first
    | with_reducible assumption
    | intro _
    | (extract_lets +onlyGivenNames z; first | (refine State.Ok.cut (n := n) z ?_ ?_ <;> [(intro _; clear_value z); subst z]) | (refine State.Ok.cutPair (n := n) z ?_ ?_ <;> [(intro _; clear_value z); subst z]) | clear_value z)
    | with_reducible apply State.Ok.ite
    | with_reducible apply State.logEntry_ok
    | split

theorem State.aerTo_ok (n : Mark) (a1 : State) (a2) (a3) (a4) (ha1 : a1.Ok n) : (State.aerTo a1 a2 a3 a4).Ok n := by
  unfold State.aerTo
  repeat' first
    | with_reducible assumption
    | intro _
    | (extract_lets +onlyGivenNames z; first | (refine State.Ok.cut (n := n) z ?_ ?_ <;> [(intro _; clear_value z); subst z]) | (refine State.Ok.cutPair (n := n) z ?_ ?_ <;> [(intro _; clear_value z); subst z]) | clear_value z)
    | with_reducible apply State.Ok.ite
    | with_reducible apply State.modBridge_ok
    | with_reducible apply State.emit_ok
    | split

theorem State.aerWith_ok (n : Mark) (a1 : State) (a2) (a3) (a4) (a5) (ha1 : a1.Ok n) : (State.aerWith a1 a2 a3 a4 a5).Ok n := by
  unfold State.aerWith
  repeat' first
    | with_reducible assumption
    | intro _
    | (extract_lets +onlyGivenNames z; first | (refine State.Ok.cut (n := n) z ?_ ?_ <;> [(intro _; clear_value z); subst z]) | (refine State.Ok.cutPair (n := n) z ?_ ?_ <;> [(intro _; clear_value z); subst z]) | clear_value z)
    | with_reducible apply State.Ok.ite
    | with_reducible apply State.aerTo_ok
    | with_reducible apply State.modBridge_ok
    | split

theorem State.refuseNp_ok (n : Mark) (a1 : State) (a2) (a3) (a4) (ha1 : a1.Ok n) : (State.refuseNp a1 a2 a3 a4).Ok n := by
  unfold State.refuseNp
  repeat' first
    | with_reducible assumption
    | intro _
    | (extract_lets +onlyGivenNames z; first | (refine State.Ok.cut (n := n) z ?_ ?_ <;> [(intro _; clear_value z); subst z]) | (refine State.Ok.cutPair (n := n) z ?_ ?_ <;> [(intro _; clear_value z); subst z]) | clear_value z)
    | with_reducible apply State.Ok.ite
    | with_reducible apply State.heartDone_ok
    | with_reducible apply State.complete_ok
    | split

theorem State.countViol_ok (n : Mark) (a1 : State) (a2) (ha1 : a1.Ok n) : (State.countViol a1 a2).Ok n := by
  unfold State.countViol
  repeat' first
    | with_reducible assumption
    | intro _
    | (extract_lets +onlyGivenNames z; first | (refine State.Ok.cut (n := n) z ?_ ?_ <;> [(intro _; clear_value z); subst z]) | (refine State.Ok.cutPair (n := n) z ?_ ?_ <;> [(intro _; clear_value z); subst z]) | clear_value z)
    | with_reducible apply State.Ok.ite
    | (with_reducible refine State.modFaults_ok _ rfl ?_)
    | with_reducible apply State.violRoll_ok
    | with_reducible apply State.countTwig_ok
    | with_reducible apply State.countHeart_ok
    | split

theorem State.violation_ok (n : Mark) (a1 : State) (a2) (a3) (a4) (a5) (a6) (ha1 : a1.Ok n) : (State.violation a1 a2 a3 a4 a5 a6).Ok n := by
  unfold State.violation
  repeat' first
    | with_reducible assumption
    | intro _
    | (extract_lets +onlyGivenNames z; first | (refine State.Ok.cut (n := n) z ?_ ?_ <;> [(intro _; clear_value z); subst z]) | (refine State.Ok.cutPair (n := n) z ?_ ?_ <;> [(intro _; clear_value z); subst z]) | clear_value z)
    | with_reducible apply State.Ok.ite
    | with_reducible apply State.logDiscard_ok
    | with_reducible apply State.countViol_ok
    | with_reducible apply State.aerWith_ok
    | split

theorem State.contradicts_ok (n : Mark) (a1 : State) (a2) (ha1 : a1.Ok n) : (State.contradicts a1 a2).Ok n := by
  unfold State.contradicts
  repeat' first
    | with_reducible assumption
    | intro _
    | (extract_lets +onlyGivenNames z; first | (refine State.Ok.cut (n := n) z ?_ ?_ <;> [(intro _; clear_value z); subst z]) | (refine State.Ok.cutPair (n := n) z ?_ ?_ <;> [(intro _; clear_value z); subst z]) | clear_value z)
    | with_reducible apply State.Ok.ite
    | with_reducible apply State.logEntry_ok
    | with_reducible apply State.countViol_ok
    | split

theorem State.farFailureHere_ok (n : Mark) (a1 : State) (a2) (a3) (a4) (a5) (ha1 : a1.Ok n) : (State.farFailureHere a1 a2 a3 a4 a5).Ok n := by
  unfold State.farFailureHere
  repeat' first
    | with_reducible assumption
    | intro _
    | (extract_lets +onlyGivenNames z; first | (refine State.Ok.cut (n := n) z ?_ ?_ <;> [(intro _; clear_value z); subst z]) | (refine State.Ok.cutPair (n := n) z ?_ ?_ <;> [(intro _; clear_value z); subst z]) | clear_value z)
    | with_reducible apply State.Ok.ite
    | with_reducible apply State.noteAt_ok
    | with_reducible apply State.aerWith_ok
    | split

theorem State.postedFailed_ok (n : Mark) (a1 : State) (a2) (a3) (a4) (a5) (ha1 : a1.Ok n) : (State.postedFailed a1 a2 a3 a4 a5).Ok n := by
  unfold State.postedFailed
  repeat' first
    | with_reducible assumption
    | intro _
    | (extract_lets +onlyGivenNames z; first | (refine State.Ok.cut (n := n) z ?_ ?_ <;> [(intro _; clear_value z); subst z]) | (refine State.Ok.cutPair (n := n) z ?_ ?_ <;> [(intro _; clear_value z); subst z]) | clear_value z)
    | with_reducible apply State.Ok.ite
    | with_reducible apply State.farFailureHere_ok
    | with_reducible apply State.farFail_ok
    | split

theorem State.countLookup_ok (n : Mark) (a1 : State) (a2) (a3) (ha1 : a1.Ok n) : (State.countLookup a1 a2 a3).Ok n := by
  unfold State.countLookup
  repeat' first
    | with_reducible assumption
    | intro _
    | (extract_lets +onlyGivenNames z; first | (refine State.Ok.cut (n := n) z ?_ ?_ <;> [(intro _; clear_value z); subst z]) | (refine State.Ok.cutPair (n := n) z ?_ ?_ <;> [(intro _; clear_value z); subst z]) | clear_value z)
    | with_reducible apply State.Ok.ite
    | with_reducible apply State.countBough_ok
    | with_reducible apply State.countHeart_ok
    | split

theorem State.gateFault_ok (n : Mark) (a1 : State) (a2) (a3) (a4) (a5) (a6) (ha1 : a1.Ok n) : (State.gateFault a1 a2 a3 a4 a5 a6).Ok n := by
  unfold State.gateFault
  repeat' first
    | with_reducible assumption
    | intro _
    | (extract_lets +onlyGivenNames z; first | (refine State.Ok.cut (n := n) z ?_ ?_ <;> [(intro _; clear_value z); subst z]) | (refine State.Ok.cutPair (n := n) z ?_ ?_ <;> [(intro _; clear_value z); subst z]) | clear_value z)
    | with_reducible apply State.Ok.ite
    | with_reducible apply State.refuseNp_ok
    | with_reducible apply State.logDiscard_ok
    | with_reducible apply State.postedFailed_ok
    | with_reducible apply State.countLookup_ok
    | with_reducible apply State.noteAt_ok
    | with_reducible apply State.countViol_ok
    | with_reducible apply State.aerWith_ok
    | split

theorem State.undeliverable_ok (n : Mark) (a1 : State) (a2) (a3) (ha1 : a1.Ok n) : (State.undeliverable a1 a2 a3).Ok n := by
  unfold State.undeliverable
  repeat' first
    | with_reducible assumption
    | intro _
    | (extract_lets +onlyGivenNames z; first | (refine State.Ok.cut (n := n) z ?_ ?_ <;> [(intro _; clear_value z); subst z]) | (refine State.Ok.cutPair (n := n) z ?_ ?_ <;> [(intro _; clear_value z); subst z]) | clear_value z)
    | with_reducible apply State.Ok.ite
    | with_reducible apply State.countBough_ok
    | with_reducible apply State.answerDesc_ok
    | with_reducible apply State.untrack_ok
    | with_reducible apply State.postedFailed_ok
    | with_reducible apply State.logDiscard_ok
    | with_reducible apply State.countLimb_ok
    | with_reducible apply State.countDrop_ok
    | split

theorem State.injectItem_ok (n : Mark) (a1 : State) (a2) (a3) (a4) (ha1 : a1.Ok n) : (State.injectItem a1 a2 a3 a4).1.Ok n := by
  unfold State.injectItem
  repeat' first
    | with_reducible assumption
    | intro _
    | (extract_lets +onlyGivenNames z; first | (refine State.Ok.cut (n := n) z ?_ ?_ <;> [(intro _; clear_value z); subst z]) | (refine State.Ok.cutPair (n := n) z ?_ ?_ <;> [(intro _; clear_value z); subst z]) | clear_value z)
    | with_reducible apply State.Ok.ite
    | with_reducible apply State.Ok.iteFst
    | (with_reducible refine State.modFaults_ok _ rfl ?_)
    | with_reducible apply State.noteAt_ok
    | split

theorem State.noteInj_ok (n : Mark) (a1 : State) (a2) (a3) (a4) (ha1 : a1.Ok n) : (State.noteInj a1 a2 a3 a4).Ok n := by
  unfold State.noteInj
  repeat' first
    | with_reducible assumption
    | intro _
    | (extract_lets +onlyGivenNames z; first | (refine State.Ok.cut (n := n) z ?_ ?_ <;> [(intro _; clear_value z); subst z]) | (refine State.Ok.cutPair (n := n) z ?_ ?_ <;> [(intro _; clear_value z); subst z]) | clear_value z)
    | with_reducible apply State.Ok.ite
    | with_reducible apply State.note_ok
    | split

theorem State.linkViolation_ok (n : Mark) (a1 : State) (a2) (a3) (ha1 : a1.Ok n) : (State.linkViolation a1 a2 a3).Ok n := by
  unfold State.linkViolation
  repeat' first
    | with_reducible assumption
    | intro _
    | (extract_lets +onlyGivenNames z; first | (refine State.Ok.cut (n := n) z ?_ ?_ <;> [(intro _; clear_value z); subst z]) | (refine State.Ok.cutPair (n := n) z ?_ ?_ <;> [(intro _; clear_value z); subst z]) | clear_value z)
    | with_reducible apply State.Ok.ite
    | with_reducible apply State.logEntry_ok
    | split

theorem State.violContained_ok (n : Mark) (a1 : State) (a2) (ha1 : a1.Ok n) : (State.violContained a1 a2).Ok n := by
  unfold State.violContained
  repeat' first
    | with_reducible assumption
    | intro _
    | (extract_lets +onlyGivenNames z; first | (refine State.Ok.cut (n := n) z ?_ ?_ <;> [(intro _; clear_value z); subst z]) | (refine State.Ok.cutPair (n := n) z ?_ ?_ <;> [(intro _; clear_value z); subst z]) | clear_value z)
    | with_reducible apply State.Ok.ite
    | with_reducible apply State.note_ok
    | with_reducible apply State.contain_ok
    | split

theorem State.protoError_ok (n : Mark) (a1 : State) (a2) (ha1 : a1.Ok n) : (State.protoError a1 a2).Ok n := by
  unfold State.protoError
  repeat' first
    | with_reducible assumption
    | intro _
    | (extract_lets +onlyGivenNames z; first | (refine State.Ok.cut (n := n) z ?_ ?_ <;> [(intro _; clear_value z); subst z]) | (refine State.Ok.cutPair (n := n) z ?_ ?_ <;> [(intro _; clear_value z); subst z]) | clear_value z)
    | with_reducible apply State.Ok.ite
    | with_reducible apply State.modHPort_ok
    | with_reducible apply State.countTwig_ok
    | with_reducible apply State.noteFree_ok
    | with_reducible apply State.countViol_ok
    | with_reducible apply State.linkViolation_ok
    | with_reducible apply State.violContained_ok
    | split

theorem hpLinkRecoveryEffect_ok (n : Mark) (a1 : State) (a2) (a3) (ha1 : a1.Ok n) : (hpLinkRecoveryEffect a1 a2 a3).Ok n := by
  unfold hpLinkRecoveryEffect
  repeat' first
    | with_reducible assumption
    | intro _
    | (extract_lets +onlyGivenNames z; first | (refine State.Ok.cut (n := n) z ?_ ?_ <;> [(intro _; clear_value z); subst z]) | (refine State.Ok.cutPair (n := n) z ?_ ?_ <;> [(intro _; clear_value z); subst z]) | clear_value z)
    | with_reducible apply State.Ok.ite
    | with_reducible apply State.noteFree_ok
    | with_reducible apply State.countTwig_ok
    | with_reducible apply State.modHPort_ok
    | with_reducible apply State.protoError_ok
    | with_reducible apply State.violContained_ok
    | with_reducible apply State.linkViolation_ok
    | split

theorem execHpLinkRecovery_ok (n : Mark) (a1) (a2) (a3) (a4 : State) (ha4 : a4.Ok n) : OkH n (execHpLinkRecovery a1 a2 a3 a4) := by
  unfold execHpLinkRecovery
  refine act2_ok _ _ (fun s hs => ?_) ha4
  try dsimp only
  repeat' first
    | with_reducible assumption
    | intro _
    | (extract_lets +onlyGivenNames z; first | (refine State.Ok.cut (n := n) z ?_ ?_ <;> [(intro _; clear_value z); subst z]) | (refine State.Ok.cutPair (n := n) z ?_ ?_ <;> [(intro _; clear_value z); subst z]) | clear_value z)
    | with_reducible apply State.Ok.ite
    | with_reducible apply hpLinkRecoveryEffect_ok
    | split

end Sys2Proof.Machine
end

