-- ==== Sys2Proof/Laws/KeepFences.lean ====
section
/-! SUPPORT. Every operation of Fences.lean keeps the invariant, and the local count does not run back. -/

set_option linter.all false

namespace Sys2Proof.Machine

theorem State.discardTrunk_ok (n : Mark) (a1 : State) (a2) (ha1 : a1.Ok n) : (State.discardTrunk a1 a2).Ok n := by
  unfold State.discardTrunk
  repeat' first
    | with_reducible assumption
    | intro _
    | (extract_lets +onlyGivenNames z; first | (refine State.Ok.cut (n := n) z ?_ ?_ <;> [(intro _; clear_value z); subst z]) | (refine State.Ok.cutPair (n := n) z ?_ ?_ <;> [(intro _; clear_value z); subst z]) | clear_value z)
    | with_reducible apply State.Ok.ite
    | with_reducible apply State.each_ok
    | with_reducible apply State.dequeue_ok
    | with_reducible apply State.freeCells_ok
    | with_reducible apply State.postedFailed_ok
    | with_reducible apply State.logDiscard_ok
    | with_reducible apply State.countLimb_ok
    | with_reducible apply State.modTx_ok
    | with_reducible apply State.noteFree_ok
    | split

theorem State.trunkRetrain_ok (n : Mark) (a1 : State) (a2) (a3) (ha1 : a1.Ok n) : (State.trunkRetrain a1 a2 a3).Ok n := by
  unfold State.trunkRetrain
  repeat' first
    | with_reducible assumption
    | intro _
    | (extract_lets +onlyGivenNames z; first | (refine State.Ok.cut (n := n) z ?_ ?_ <;> [(intro _; clear_value z); subst z]) | (refine State.Ok.cutPair (n := n) z ?_ ?_ <;> [(intro _; clear_value z); subst z]) | clear_value z)
    | with_reducible apply State.Ok.ite
    | with_reducible apply State.trunkLeave_ok
    | with_reducible apply State.discardTrunk_ok
    | with_reducible apply State.sendFateQuery_ok
    | with_reducible apply State.answerQueries_ok
    | split

theorem State.giveUp_ok (n : Mark) (a1 : State) (a2) (ha1 : a1.Ok n) : (State.giveUp a1 a2).Ok n := by
  unfold State.giveUp
  repeat' first
    | with_reducible assumption
    | intro _
    | (extract_lets +onlyGivenNames z; first | (refine State.Ok.cut (n := n) z ?_ ?_ <;> [(intro _; clear_value z); subst z]) | (refine State.Ok.cutPair (n := n) z ?_ ?_ <;> [(intro _; clear_value z); subst z]) | clear_value z)
    | with_reducible apply State.Ok.ite
    | with_reducible apply State.noteAt_ok
    | with_reducible apply State.modFabric_ok
    | with_reducible apply State.each_ok
    | with_reducible apply State.undeliverable_ok
    | with_reducible apply State.dequeue_ok
    | with_reducible apply State.freeCells_ok
    | split

theorem State.fenceActions_ok (n : Mark) (a1 : State) (a2) (ha1 : a1.Ok n) : (State.fenceActions a1 a2).Ok n := by
  unfold State.fenceActions
  repeat' first
    | with_reducible assumption
    | intro _
    | (extract_lets +onlyGivenNames z; first | (refine State.Ok.cut (n := n) z ?_ ?_ <;> [(intro _; clear_value z); subst z]) | (refine State.Ok.cutPair (n := n) z ?_ ?_ <;> [(intro _; clear_value z); subst z]) | clear_value z)
    | with_reducible apply State.Ok.ite
    | with_reducible apply State.each_ok
    | with_reducible apply State.endTrack_ok
    | with_reducible apply State.modFabric_ok
    | with_reducible apply State.discardTrunk_ok
    | with_reducible apply State.undeliverable_ok
    | with_reducible apply State.dequeue_ok
    | with_reducible apply State.freeCells_ok
    | with_reducible apply State.partReset_ok
    | split

theorem State.fenceOn_ok (n : Mark) (a1 : State) (a2) (a3) (ha1 : a1.Ok n) : (State.fenceOn a1 a2 a3).Ok n := by
  unfold State.fenceOn
  repeat' first
    | with_reducible assumption
    | intro _
    | (extract_lets +onlyGivenNames z; first | (refine State.Ok.cut (n := n) z ?_ ?_ <;> [(intro _; clear_value z); subst z]) | (refine State.Ok.cutPair (n := n) z ?_ ?_ <;> [(intro _; clear_value z); subst z]) | clear_value z)
    | with_reducible apply State.Ok.ite
    | with_reducible apply State.modFabric_ok
    | with_reducible apply State.fenceActions_ok
    | with_reducible apply State.noteAt_ok
    | split

theorem State.fenceOff_ok (n : Mark) (a1 : State) (a2) (a3) (ha1 : a1.Ok n) : (State.fenceOff a1 a2 a3).Ok n := by
  unfold State.fenceOff
  repeat' first
    | with_reducible assumption
    | intro _
    | (extract_lets +onlyGivenNames z; first | (refine State.Ok.cut (n := n) z ?_ ?_ <;> [(intro _; clear_value z); subst z]) | (refine State.Ok.cutPair (n := n) z ?_ ?_ <;> [(intro _; clear_value z); subst z]) | clear_value z)
    | with_reducible apply State.Ok.ite
    | with_reducible apply State.modFabric_ok
    | with_reducible apply State.noteAt_ok
    | with_reducible apply State.each_ok
    | with_reducible apply State.partCauseEnd_ok
    | split

theorem State.trunkRouted_ok (n : Mark) (a1 : State) (a2) (ha1 : a1.Ok n) : (State.trunkRouted a1 a2).Ok n := by
  unfold State.trunkRouted
  repeat' first
    | with_reducible assumption
    | intro _
    | (extract_lets +onlyGivenNames z; first | (refine State.Ok.cut (n := n) z ?_ ?_ <;> [(intro _; clear_value z); subst z]) | (refine State.Ok.cutPair (n := n) z ?_ ?_ <;> [(intro _; clear_value z); subst z]) | clear_value z)
    | with_reducible apply State.Ok.ite
    | with_reducible apply State.modFabric_ok
    | with_reducible apply State.fenceOff_ok
    | split

end Sys2Proof.Machine
end

