-- ==== Sys2Proof/Laws/KeepGates.lean ====
section
/-! SUPPORT. Every operation of Gates.lean keeps the invariant, and the local count does not run back. -/

set_option linter.all false

namespace Sys2Proof.Machine

theorem State.protChanged_ok (n : Mark) (a1 : State) (a2) (ha1 : a1.Ok n) : (State.protChanged a1 a2).Ok n := by
  unfold State.protChanged
  repeat' first
    | with_reducible assumption
    | intro _
    | (extract_lets +onlyGivenNames z; first | (refine State.Ok.cut (n := n) z ?_ ?_ <;> [(intro _; clear_value z); subst z]) | (refine State.Ok.cutPair (n := n) z ?_ ?_ <;> [(intro _; clear_value z); subst z]) | clear_value z)
    | with_reducible apply State.Ok.ite
    | with_reducible apply State.modGates_ok
    | split

theorem protDrainCompleteEffect_ok (n : Mark) (a1 : State) (a2) (ha1 : a1.Ok n) : (protDrainCompleteEffect a1 a2).Ok n := by
  unfold protDrainCompleteEffect
  repeat' first
    | with_reducible assumption
    | intro _
    | (extract_lets +onlyGivenNames z; first | (refine State.Ok.cut (n := n) z ?_ ?_ <;> [(intro _; clear_value z); subst z]) | (refine State.Ok.cutPair (n := n) z ?_ ?_ <;> [(intro _; clear_value z); subst z]) | clear_value z)
    | with_reducible apply State.Ok.ite
    | with_reducible apply State.modGates_ok
    | split

theorem execProtDrainComplete_ok (n : Mark) (a1) (a2) (a3 : State) (ha3 : a3.Ok n) : OkH n (execProtDrainComplete a1 a2 a3) := by
  unfold execProtDrainComplete
  refine act1_ok _ _ (fun s hs => ?_) ha3
  try dsimp only
  repeat' first
    | with_reducible assumption
    | intro _
    | (extract_lets +onlyGivenNames z; first | (refine State.Ok.cut (n := n) z ?_ ?_ <;> [(intro _; clear_value z); subst z]) | (refine State.Ok.cutPair (n := n) z ?_ ?_ <;> [(intro _; clear_value z); subst z]) | clear_value z)
    | with_reducible apply State.Ok.ite
    | with_reducible apply protDrainCompleteEffect_ok
    | split

theorem protDrainSlowEffect_ok (n : Mark) (a1 : State) (ha1 : a1.Ok n) : (protDrainSlowEffect a1).Ok n := by
  unfold protDrainSlowEffect
  repeat' first
    | with_reducible assumption
    | intro _
    | (extract_lets +onlyGivenNames z; first | (refine State.Ok.cut (n := n) z ?_ ?_ <;> [(intro _; clear_value z); subst z]) | (refine State.Ok.cutPair (n := n) z ?_ ?_ <;> [(intro _; clear_value z); subst z]) | clear_value z)
    | with_reducible apply State.Ok.ite
    | with_reducible apply State.noteFree_ok
    | with_reducible apply State.modGates_ok
    | split

theorem execProtDrainSlow_ok (n : Mark) (a1) (a2 : State) (ha2 : a2.Ok n) : OkH n (execProtDrainSlow a1 a2) := by
  unfold execProtDrainSlow
  refine act1_ok _ _ (fun s hs => ?_) ha2
  try dsimp only
  repeat' first
    | with_reducible assumption
    | intro _
    | (extract_lets +onlyGivenNames z; first | (refine State.Ok.cut (n := n) z ?_ ?_ <;> [(intro _; clear_value z); subst z]) | (refine State.Ok.cutPair (n := n) z ?_ ?_ <;> [(intro _; clear_value z); subst z]) | clear_value z)
    | with_reducible apply State.Ok.ite
    | with_reducible apply protDrainSlowEffect_ok
    | split

theorem gateScrubVisitEffect_ok (n : Mark) (a1 : State) (a2) (a3) (ha1 : a1.Ok n) : (gateScrubVisitEffect a1 a2 a3).Ok n := by
  unfold gateScrubVisitEffect
  repeat' first
    | with_reducible assumption
    | intro _
    | (extract_lets +onlyGivenNames z; first | (refine State.Ok.cut (n := n) z ?_ ?_ <;> [(intro _; clear_value z); subst z]) | (refine State.Ok.cutPair (n := n) z ?_ ?_ <;> [(intro _; clear_value z); subst z]) | clear_value z)
    | with_reducible apply State.Ok.ite
    | with_reducible apply State.modGates_ok
    | with_reducible apply State.noteAt_ok
    | split

theorem execGateScrubVisit_ok (n : Mark) (a1) (a2) (a3) (a4 : State) (ha4 : a4.Ok n) : OkH n (execGateScrubVisit a1 a2 a3 a4) := by
  unfold execGateScrubVisit
  refine act2_ok _ _ (fun s hs => ?_) ha4
  try dsimp only
  repeat' first
    | with_reducible assumption
    | intro _
    | (extract_lets +onlyGivenNames z; first | (refine State.Ok.cut (n := n) z ?_ ?_ <;> [(intro _; clear_value z); subst z]) | (refine State.Ok.cutPair (n := n) z ?_ ?_ <;> [(intro _; clear_value z); subst z]) | clear_value z)
    | with_reducible apply State.Ok.ite
    | with_reducible apply gateScrubVisitEffect_ok
    | split

theorem gateCopyErrorEffect_ok (n : Mark) (a1 : State) (a2) (a3) (a4) (ha1 : a1.Ok n) : (gateCopyErrorEffect a1 a2 a3 a4).Ok n := by
  unfold gateCopyErrorEffect
  repeat' first
    | with_reducible assumption
    | intro _
    | (extract_lets +onlyGivenNames z; first | (refine State.Ok.cut (n := n) z ?_ ?_ <;> [(intro _; clear_value z); subst z]) | (refine State.Ok.cutPair (n := n) z ?_ ?_ <;> [(intro _; clear_value z); subst z]) | clear_value z)
    | with_reducible apply State.Ok.ite
    | with_reducible apply State.modGates_ok
    | with_reducible apply State.noteFree_ok
    | split

theorem execGateCopyError_ok (n : Mark) (a1) (a2) (a3) (a4) (a5 : State) (ha5 : a5.Ok n) : OkH n (execGateCopyError a1 a2 a3 a4 a5) := by
  unfold execGateCopyError
  refine act2_ok _ _ (fun s hs => ?_) ha5
  try dsimp only
  repeat' first
    | with_reducible assumption
    | intro _
    | (extract_lets +onlyGivenNames z; first | (refine State.Ok.cut (n := n) z ?_ ?_ <;> [(intro _; clear_value z); subst z]) | (refine State.Ok.cutPair (n := n) z ?_ ?_ <;> [(intro _; clear_value z); subst z]) | clear_value z)
    | with_reducible apply State.Ok.ite
    | with_reducible apply gateCopyErrorEffect_ok
    | split

end Sys2Proof.Machine
end

