-- ==== Sys2Proof/Laws/KeepSwitch.lean ====
section
/-! SUPPORT. Every operation of Switch.lean keeps the invariant, and the local count does not run back. -/

set_option linter.all false

namespace Sys2Proof.Machine

theorem State.c7Take_ok (n : Mark) (a1 : State) (a2) (a3) (ha1 : a1.Ok n) : (State.c7Take a1 a2 a3).Ok n := by
  unfold State.c7Take
  repeat' first
    | with_reducible assumption
    | intro _
    | (extract_lets +onlyGivenNames z; first | (refine State.Ok.cut (n := n) z ?_ ?_ <;> [(intro _; clear_value z); subst z]) | (refine State.Ok.cutPair (n := n) z ?_ ?_ <;> [(intro _; clear_value z); subst z]) | clear_value z)
    | with_reducible apply State.Ok.ite
    | with_reducible apply State.modCore_ok
    | split

theorem State.placeC6_ok (n : Mark) (a1 : State) (a2) (ha1 : a1.Ok n) : (State.placeC6 a1 a2).Ok n := by
  unfold State.placeC6
  repeat' first
    | with_reducible assumption
    | intro _
    | (extract_lets +onlyGivenNames z; first | (refine State.Ok.cut (n := n) z ?_ ?_ <;> [(intro _; clear_value z); subst z]) | (refine State.Ok.cutPair (n := n) z ?_ ?_ <;> [(intro _; clear_value z); subst z]) | (refine State.Ok.cutFun (n := n) z ?_ ?_ <;> [(intro _; clear_value z); subst z]) | (refine State.Ok.cutFun2 (n := n) z ?_ ?_ <;> [(intro _; clear_value z); subst z]) | (refine State.Ok.cutFun3 (n := n) z ?_ ?_ <;> [(intro _; clear_value z); subst z]) | (refine State.Ok.cutFun4 (n := n) z ?_ ?_ <;> [(intro _; clear_value z); subst z]) | (refine State.Ok.cutFun5 (n := n) z ?_ ?_ <;> [(intro _; clear_value z); subst z]) | (refine State.Ok.cutFun6 (n := n) z ?_ ?_ <;> [(intro _; clear_value z); subst z]) | (refine State.Ok.cutFun7 (n := n) z ?_ ?_ <;> [(intro _; clear_value z); subst z]) | clear_value z)
    | with_reducible apply State.Ok.ite
    | with_reducible apply State.Ok.iteFst
    | with_reducible apply_assumption
    | with_reducible apply State.coloured_ok
    | with_reducible apply State.countLimb_ok
    | with_reducible apply State.enter_ok
    | with_reducible apply State.modCore_ok
    | with_reducible apply State.drew_ok
    | split
    | (refine State.Ok.ofPair (by with_reducible assumption) ?_)

theorem State.stick_ok (n : Mark) (a1 : State) (a2) (a3) (a4) (ha1 : a1.Ok n) : (State.stick a1 a2 a3 a4).Ok n := by
  unfold State.stick
  repeat' first
    | with_reducible assumption
    | intro _
    | (extract_lets +onlyGivenNames z; first | (refine State.Ok.cut (n := n) z ?_ ?_ <;> [(intro _; clear_value z); subst z]) | (refine State.Ok.cutPair (n := n) z ?_ ?_ <;> [(intro _; clear_value z); subst z]) | clear_value z)
    | with_reducible apply State.Ok.ite
    | with_reducible apply State.modFabric_ok
    | split

theorem State.towards_ok (n : Mark) (a1 : State) (a2) (a3) (a4) (a5) (ha1 : a1.Ok n) : (State.towards a1 a2 a3 a4 a5).1.Ok n := by
  unfold State.towards
  repeat' first
    | with_reducible assumption
    | intro _
    | (extract_lets +onlyGivenNames z; first | (refine State.Ok.cut (n := n) z ?_ ?_ <;> [(intro _; clear_value z); subst z]) | (refine State.Ok.cutPair (n := n) z ?_ ?_ <;> [(intro _; clear_value z); subst z]) | clear_value z)
    | with_reducible apply State.Ok.ite
    | with_reducible apply State.Ok.iteFst
    | with_reducible apply State.undeliverable_ok
    | with_reducible apply State.countBough_ok
    | with_reducible apply State.stick_ok
    | split

theorem State.targetGone_ok (n : Mark) (a1 : State) (a2) (a3) (a4) (a5) (ha1 : a1.Ok n) : (State.targetGone a1 a2 a3 a4 a5).Ok n := by
  unfold State.targetGone
  repeat' first
    | with_reducible assumption
    | intro _
    | (extract_lets +onlyGivenNames z; first | (refine State.Ok.cut (n := n) z ?_ ?_ <;> [(intro _; clear_value z); subst z]) | (refine State.Ok.cutPair (n := n) z ?_ ?_ <;> [(intro _; clear_value z); subst z]) | clear_value z)
    | with_reducible apply State.Ok.ite
    | with_reducible apply State.refuseNp_ok
    | with_reducible apply State.postedFailed_ok
    | with_reducible apply State.logDiscard_ok
    | with_reducible apply State.countLimb_ok
    | split
    | (with_reducible refine State.Ok.lit _ _ _ _ _ _ _ _ _ _ _ _ _ _ _ _ _ rfl rfl rfl rfl rfl rfl ?_)

theorem State.targetResetting_ok (n : Mark) (a1 : State) (a2) (a3) (a4) (a5) (ha1 : a1.Ok n) : (State.targetResetting a1 a2 a3 a4 a5).Ok n := by
  unfold State.targetResetting
  repeat' first
    | with_reducible assumption
    | intro _
    | (extract_lets +onlyGivenNames z; first | (refine State.Ok.cut (n := n) z ?_ ?_ <;> [(intro _; clear_value z); subst z]) | (refine State.Ok.cutPair (n := n) z ?_ ?_ <;> [(intro _; clear_value z); subst z]) | clear_value z)
    | with_reducible apply State.Ok.ite
    | with_reducible apply State.refuseNp_ok
    | with_reducible apply State.postedFailed_ok
    | with_reducible apply State.countLimb_ok
    | split
    | (with_reducible refine State.Ok.lit _ _ _ _ _ _ _ _ _ _ _ _ _ _ _ _ _ rfl rfl rfl rfl rfl rfl ?_)

theorem State.debugRefused_ok (n : Mark) (a1 : State) (a2) (a3) (a4) (ha1 : a1.Ok n) : (State.debugRefused a1 a2 a3 a4).Ok n := by
  unfold State.debugRefused
  repeat' first
    | with_reducible assumption
    | intro _
    | (extract_lets +onlyGivenNames z; first | (refine State.Ok.cut (n := n) z ?_ ?_ <;> [(intro _; clear_value z); subst z]) | (refine State.Ok.cutPair (n := n) z ?_ ?_ <;> [(intro _; clear_value z); subst z]) | clear_value z)
    | with_reducible apply State.Ok.ite
    | with_reducible apply State.logDiscard_ok
    | with_reducible apply State.noteFree_ok
    | with_reducible apply State.countHeart_ok
    | split

theorem State.passGate_ok (n : Mark) (a1 : State) (a2) (a3) (a4) (a5) (a6) (a7) (ha1 : a1.Ok n) : (State.passGate a1 a2 a3 a4 a5 a6 a7).1.Ok n := by
  unfold State.passGate
  repeat' first
    | with_reducible assumption
    | intro _
    | (extract_lets +onlyGivenNames z; first | (refine State.Ok.cut (n := n) z ?_ ?_ <;> [(intro _; clear_value z); subst z]) | (refine State.Ok.cutPair (n := n) z ?_ ?_ <;> [(intro _; clear_value z); subst z]) | clear_value z)
    | with_reducible apply State.Ok.ite
    | with_reducible apply State.Ok.iteFst
    | with_reducible apply State.countLookup_ok
    | with_reducible apply State.gateFault_ok
    | with_reducible apply State.debugRefused_ok
    | split

theorem State.poisonedHeart_ok (n : Mark) (a1 : State) (a2) (a3) (a4) (ha1 : a1.Ok n) : (State.poisonedHeart a1 a2 a3 a4).Ok n := by
  unfold State.poisonedHeart
  repeat' first
    | with_reducible assumption
    | intro _
    | (extract_lets +onlyGivenNames z; first | (refine State.Ok.cut (n := n) z ?_ ?_ <;> [(intro _; clear_value z); subst z]) | (refine State.Ok.cutPair (n := n) z ?_ ?_ <;> [(intro _; clear_value z); subst z]) | clear_value z)
    | with_reducible apply State.Ok.ite
    | with_reducible apply State.refuseNp_ok
    | with_reducible apply State.postedFailed_ok
    | with_reducible apply State.logDiscard_ok
    | split

theorem State.holdAtTwig_ok (n : Mark) (a1 : State) (a2) (a3) (ha1 : a1.Ok n) : (State.holdAtTwig a1 a2 a3).Ok n := by
  unfold State.holdAtTwig
  repeat' first
    | with_reducible assumption
    | intro _
    | (extract_lets +onlyGivenNames z; first | (refine State.Ok.cut (n := n) z ?_ ?_ <;> [(intro _; clear_value z); subst z]) | (refine State.Ok.cutPair (n := n) z ?_ ?_ <;> [(intro _; clear_value z); subst z]) | clear_value z)
    | with_reducible apply State.Ok.ite
    | with_reducible apply State.modGates_ok
    | split

theorem State.toPort_ok (n : Mark) (a1 : State) (a2) (a3) (a4) (a5) (a6) (a7) (ha1 : a1.Ok n) : (State.toPort a1 a2 a3 a4 a5 a6 a7).1.Ok n := by
  unfold State.toPort
  repeat' first
    | with_reducible assumption
    | intro _
    | (extract_lets +onlyGivenNames z; first | (refine State.Ok.cut (n := n) z ?_ ?_ <;> [(intro _; clear_value z); subst z]) | (refine State.Ok.cutPair (n := n) z ?_ ?_ <;> [(intro _; clear_value z); subst z]) | clear_value z)
    | with_reducible apply State.Ok.ite
    | with_reducible apply State.Ok.iteFst
    | with_reducible apply State.targetGone_ok
    | with_reducible apply State.gateFault_ok
    | with_reducible apply State.holdAtTwig_ok
    | with_reducible apply State.passGate_ok
    | split
    | (refine State.Ok.ofPair (by with_reducible assumption) ?_)

theorem State.toHeart_ok (n : Mark) (a1 : State) (a2) (a3) (a4) (a5) (a6) (ha1 : a1.Ok n) : (State.toHeart a1 a2 a3 a4 a5 a6).1.Ok n := by
  unfold State.toHeart
  repeat' first
    | with_reducible assumption
    | intro _
    | (extract_lets +onlyGivenNames z; first | (refine State.Ok.cut (n := n) z ?_ ?_ <;> [(intro _; clear_value z); subst z]) | (refine State.Ok.cutPair (n := n) z ?_ ?_ <;> [(intro _; clear_value z); subst z]) | clear_value z)
    | with_reducible apply State.Ok.ite
    | with_reducible apply State.Ok.iteFst
    | with_reducible apply State.refuseNp_ok
    | with_reducible apply State.poisonedHeart_ok
    | with_reducible apply State.holdAtTwig_ok
    | with_reducible apply State.passGate_ok
    | split
    | (refine State.Ok.ofPair (by with_reducible assumption) ?_)

theorem State.sliceBusy_ok (n : Mark) (a1 : State) (a2) (a3) (a4) (ha1 : a1.Ok n) : (State.sliceBusy a1 a2 a3 a4).Ok n := by
  unfold State.sliceBusy
  repeat' first
    | with_reducible assumption
    | intro _
    | (extract_lets +onlyGivenNames z; first | (refine State.Ok.cut (n := n) z ?_ ?_ <;> [(intro _; clear_value z); subst z]) | (refine State.Ok.cutPair (n := n) z ?_ ?_ <;> [(intro _; clear_value z); subst z]) | clear_value z)
    | with_reducible apply State.Ok.ite
    | with_reducible apply State.refuseNp_ok
    | with_reducible apply State.countLimb_ok
    | split

theorem State.toVdp_ok (n : Mark) (a1 : State) (a2) (a3) (a4) (a5) (a6) (ha1 : a1.Ok n) : (State.toVdp a1 a2 a3 a4 a5 a6).1.Ok n := by
  unfold State.toVdp
  repeat' first
    | with_reducible assumption
    | intro _
    | (extract_lets +onlyGivenNames z; first | (refine State.Ok.cut (n := n) z ?_ ?_ <;> [(intro _; clear_value z); subst z]) | (refine State.Ok.cutPair (n := n) z ?_ ?_ <;> [(intro _; clear_value z); subst z]) | clear_value z)
    | with_reducible apply State.Ok.ite
    | with_reducible apply State.Ok.iteFst
    | with_reducible apply State.refuseNp_ok
    | with_reducible apply State.towards_ok
    | with_reducible apply State.gateFault_ok
    | with_reducible apply State.sliceBusy_ok
    | with_reducible apply State.toPort_ok
    | split
    | (refine State.Ok.ofPair (by with_reducible assumption) ?_)

theorem State.toHost_ok (n : Mark) (a1 : State) (a2) (a3) (a4) (ha1 : a1.Ok n) : (State.toHost a1 a2 a3 a4).1.Ok n := by
  unfold State.toHost
  repeat' first
    | with_reducible assumption
    | intro _
    | (extract_lets +onlyGivenNames z; first | (refine State.Ok.cut (n := n) z ?_ ?_ <;> [(intro _; clear_value z); subst z]) | (refine State.Ok.cutPair (n := n) z ?_ ?_ <;> [(intro _; clear_value z); subst z]) | clear_value z)
    | with_reducible apply State.Ok.ite
    | with_reducible apply State.Ok.iteFst
    | with_reducible apply State.toPort_ok
    | with_reducible apply State.emit_ok
    | with_reducible apply State.towards_ok
    | with_reducible apply State.refuseNp_ok
    | split
    | (refine State.Ok.ofPair (by with_reducible assumption) ?_)

theorem State.multicast_ok (n : Mark) (a1 : State) (a2) (a3) (a4) (a5) (a6) (ha1 : a1.Ok n) : (State.multicast a1 a2 a3 a4 a5 a6).1.Ok n := by
  unfold State.multicast
  repeat' first
    | with_reducible assumption
    | intro _
    | (extract_lets +onlyGivenNames z; first | (refine State.Ok.cut (n := n) z ?_ ?_ <;> [(intro _; clear_value z); subst z]) | (refine State.Ok.cutPair (n := n) z ?_ ?_ <;> [(intro _; clear_value z); subst z]) | (refine State.Ok.cutFun (n := n) z ?_ ?_ <;> [(intro _; clear_value z); subst z]) | (refine State.Ok.cutFun2 (n := n) z ?_ ?_ <;> [(intro _; clear_value z); subst z]) | (refine State.Ok.cutFun3 (n := n) z ?_ ?_ <;> [(intro _; clear_value z); subst z]) | (refine State.Ok.cutFun4 (n := n) z ?_ ?_ <;> [(intro _; clear_value z); subst z]) | (refine State.Ok.cutFun5 (n := n) z ?_ ?_ <;> [(intro _; clear_value z); subst z]) | (refine State.Ok.cutFun6 (n := n) z ?_ ?_ <;> [(intro _; clear_value z); subst z]) | (refine State.Ok.cutFun7 (n := n) z ?_ ?_ <;> [(intro _; clear_value z); subst z]) | clear_value z)
    | with_reducible apply State.Ok.ite
    | with_reducible apply State.Ok.iteFst
    | with_reducible apply_assumption
    | with_reducible apply State.logDiscard_ok
    | with_reducible apply State.noteAt_ok
    | with_reducible apply State.debugRefused_ok
    | split
    | (with_reducible refine State.Ok.lit _ _ _ _ _ _ _ _ _ _ _ _ _ _ _ _ _ rfl rfl rfl rfl rfl rfl ?_)

theorem State.holdMiss_ok (n : Mark) (a1 : State) (a2) (a3) (a4) (ha1 : a1.Ok n) : (State.holdMiss a1 a2 a3 a4).Ok n := by
  unfold State.holdMiss
  repeat' first
    | with_reducible assumption
    | intro _
    | (extract_lets +onlyGivenNames z; first | (refine State.Ok.cut (n := n) z ?_ ?_ <;> [(intro _; clear_value z); subst z]) | (refine State.Ok.cutPair (n := n) z ?_ ?_ <;> [(intro _; clear_value z); subst z]) | (refine State.Ok.cutFun (n := n) z ?_ ?_ <;> [(intro _; clear_value z); subst z]) | (refine State.Ok.cutFun2 (n := n) z ?_ ?_ <;> [(intro _; clear_value z); subst z]) | (refine State.Ok.cutFun3 (n := n) z ?_ ?_ <;> [(intro _; clear_value z); subst z]) | (refine State.Ok.cutFun4 (n := n) z ?_ ?_ <;> [(intro _; clear_value z); subst z]) | (refine State.Ok.cutFun5 (n := n) z ?_ ?_ <;> [(intro _; clear_value z); subst z]) | (refine State.Ok.cutFun6 (n := n) z ?_ ?_ <;> [(intro _; clear_value z); subst z]) | (refine State.Ok.cutFun7 (n := n) z ?_ ?_ <;> [(intro _; clear_value z); subst z]) | clear_value z)
    | with_reducible apply State.Ok.ite
    | with_reducible apply_assumption
    | with_reducible apply State.modGates_ok
    | with_reducible apply State.countHeart_ok
    | with_reducible apply State.countBough_ok
    | with_reducible apply State.holdAtTwig_ok
    | split

theorem State.acsViolation_ok (n : Mark) (a1 : State) (a2) (a3) (a4) (a5) (ha1 : a1.Ok n) : (State.acsViolation a1 a2 a3 a4 a5).Ok n := by
  unfold State.acsViolation
  repeat' first
    | with_reducible assumption
    | intro _
    | (extract_lets +onlyGivenNames z; first | (refine State.Ok.cut (n := n) z ?_ ?_ <;> [(intro _; clear_value z); subst z]) | (refine State.Ok.cutPair (n := n) z ?_ ?_ <;> [(intro _; clear_value z); subst z]) | clear_value z)
    | with_reducible apply State.Ok.ite
    | with_reducible apply State.refuseNp_ok
    | with_reducible apply State.logDiscard_ok
    | with_reducible apply State.aerWith_ok
    | split

theorem State.deliverTo_ok (n : Mark) (a1 : State) (a2) (a3) (a4) (a5) (ha1 : a1.Ok n) : (State.deliverTo a1 a2 a3 a4 a5).1.Ok n := by
  unfold State.deliverTo
  repeat' first
    | with_reducible assumption
    | intro _
    | (extract_lets +onlyGivenNames z; first | (refine State.Ok.cut (n := n) z ?_ ?_ <;> [(intro _; clear_value z); subst z]) | (refine State.Ok.cutPair (n := n) z ?_ ?_ <;> [(intro _; clear_value z); subst z]) | clear_value z)
    | with_reducible apply State.Ok.ite
    | with_reducible apply State.Ok.iteFst
    | with_reducible apply State.toHeart_ok
    | with_reducible apply State.refuseNp_ok
    | with_reducible apply State.gateFault_ok
    | with_reducible apply State.toPort_ok
    | with_reducible apply State.toVdp_ok
    | with_reducible apply State.toHost_ok
    | with_reducible apply State.towards_ok
    | with_reducible apply State.holdMiss_ok
    | with_reducible apply State.targetResetting_ok
    | with_reducible apply State.acsViolation_ok
    | with_reducible apply State.aerWith_ok
    | split
    | (refine State.Ok.ofPair (by with_reducible assumption) ?_)

theorem State.decodeTo_ok (n : Mark) (a1 : State) (a2) (a3) (a4) (ha1 : a1.Ok n) : (State.decodeTo a1 a2 a3 a4).1.Ok n := by
  unfold State.decodeTo
  repeat' first
    | with_reducible assumption
    | intro _
    | (extract_lets +onlyGivenNames z; first | (refine State.Ok.cut (n := n) z ?_ ?_ <;> [(intro _; clear_value z); subst z]) | (refine State.Ok.cutPair (n := n) z ?_ ?_ <;> [(intro _; clear_value z); subst z]) | clear_value z)
    | with_reducible apply State.Ok.ite
    | with_reducible apply State.Ok.iteFst
    | with_reducible apply State.gateFault_ok
    | with_reducible apply State.deliverTo_ok
    | with_reducible apply State.countLookup_ok
    | split
    | (refine State.Ok.ofPair (by with_reducible assumption) ?_)

theorem State.byBus_ok (n : Mark) (a1 : State) (a2) (a3) (a4) (ha1 : a1.Ok n) : (State.byBus a1 a2 a3 a4).1.Ok n := by
  unfold State.byBus
  repeat' first
    | with_reducible assumption
    | intro _
    | (extract_lets +onlyGivenNames z; first | (refine State.Ok.cut (n := n) z ?_ ?_ <;> [(intro _; clear_value z); subst z]) | (refine State.Ok.cutPair (n := n) z ?_ ?_ <;> [(intro _; clear_value z); subst z]) | clear_value z)
    | with_reducible apply State.Ok.ite
    | with_reducible apply State.Ok.iteFst
    | with_reducible apply State.toVdp_ok
    | with_reducible apply State.toHost_ok
    | split
    | (refine State.Ok.ofPair (by with_reducible assumption) ?_)

theorem State.byIo_ok (n : Mark) (a1 : State) (a2) (a3) (a4) (ha1 : a1.Ok n) : (State.byIo a1 a2 a3 a4).1.Ok n := by
  unfold State.byIo
  repeat' first
    | with_reducible assumption
    | intro _
    | (extract_lets +onlyGivenNames z; first | (refine State.Ok.cut (n := n) z ?_ ?_ <;> [(intro _; clear_value z); subst z]) | (refine State.Ok.cutPair (n := n) z ?_ ?_ <;> [(intro _; clear_value z); subst z]) | clear_value z)
    | with_reducible apply State.Ok.ite
    | with_reducible apply State.Ok.iteFst
    | with_reducible apply State.toVdp_ok
    | with_reducible apply State.refuseNp_ok
    | with_reducible apply State.toHost_ok
    | split
    | (refine State.Ok.ofPair (by with_reducible assumption) ?_)

theorem State.unlockPart_ok (n : Mark) (a1 : State) (a2) (a3) (ha1 : a1.Ok n) : (State.unlockPart a1 a2 a3).1.Ok n := by
  unfold State.unlockPart
  repeat' first
    | with_reducible assumption
    | intro _
    | (extract_lets +onlyGivenNames z; first | (refine State.Ok.cut (n := n) z ?_ ?_ <;> [(intro _; clear_value z); subst z]) | (refine State.Ok.cutPair (n := n) z ?_ ?_ <;> [(intro _; clear_value z); subst z]) | clear_value z)
    | with_reducible apply State.Ok.ite
    | with_reducible apply State.Ok.iteFst
    | with_reducible apply State.modFabric_ok
    | with_reducible apply State.towards_ok
    | with_reducible apply State.countDrop_ok
    | split
    | (refine State.Ok.ofPair (by with_reducible assumption) ?_)

theorem State.backTo_ok (n : Mark) (a1 : State) (a2) (a3) (a4) (a5) (a6) (a7) (a8) (ha1 : a1.Ok n) : (State.backTo a1 a2 a3 a4 a5 a6 a7 a8).1.Ok n := by
  unfold State.backTo
  repeat' first
    | with_reducible assumption
    | intro _
    | (extract_lets +onlyGivenNames z; first | (refine State.Ok.cut (n := n) z ?_ ?_ <;> [(intro _; clear_value z); subst z]) | (refine State.Ok.cutPair (n := n) z ?_ ?_ <;> [(intro _; clear_value z); subst z]) | clear_value z)
    | with_reducible apply State.Ok.ite
    | with_reducible apply State.Ok.iteFst
    | with_reducible apply State.emit_ok
    | with_reducible apply State.heartDone_ok
    | split

theorem State.lateCompletion_ok (n : Mark) (a1 : State) (a2) (a3) (a4) (a5) (ha1 : a1.Ok n) : (State.lateCompletion a1 a2 a3 a4 a5).Ok n := by
  unfold State.lateCompletion
  repeat' first
    | with_reducible assumption
    | intro _
    | (extract_lets +onlyGivenNames z; first | (refine State.Ok.cut (n := n) z ?_ ?_ <;> [(intro _; clear_value z); subst z]) | (refine State.Ok.cutPair (n := n) z ?_ ?_ <;> [(intro _; clear_value z); subst z]) | clear_value z)
    | with_reducible apply State.Ok.ite
    | with_reducible apply State.countHeart_ok
    | with_reducible apply State.modFn_ok
    | with_reducible apply State.aerTo_ok
    | with_reducible apply State.noteAt_ok
    | split

theorem State.completionIn_ok (n : Mark) (a1 : State) (a2) (a3) (ha1 : a1.Ok n) : (State.completionIn a1 a2 a3).1.Ok n := by
  unfold State.completionIn
  repeat' first
    | with_reducible assumption
    | intro _
    | (extract_lets +onlyGivenNames z; first | (refine State.Ok.cut (n := n) z ?_ ?_ <;> [(intro _; clear_value z); subst z]) | (refine State.Ok.cutPair (n := n) z ?_ ?_ <;> [(intro _; clear_value z); subst z]) | clear_value z)
    | with_reducible apply State.Ok.ite
    | with_reducible apply State.Ok.iteFst
    | with_reducible apply State.violation_ok
    | with_reducible apply State.modCore_ok
    | with_reducible apply State.backTo_ok
    | with_reducible apply State.modFabric_ok
    | with_reducible apply State.towards_ok
    | with_reducible apply State.countHeart_ok
    | with_reducible apply State.countLimb_ok
    | with_reducible apply State.modPart_ok
    | with_reducible apply State.lateCompletion_ok
    | split
    | (refine State.Ok.ofPair (by with_reducible assumption) ?_)
    | (with_reducible refine State.Ok.lit _ _ _ _ _ _ _ _ _ _ _ _ _ _ _ _ _ rfl rfl rfl rfl rfl rfl ?_)

theorem State.parse_ok (n : Mark) (a1 : State) (a2) (a3) (ha1 : a1.Ok n) : (State.parse a1 a2 a3).1.Ok n := by
  unfold State.parse
  repeat' first
    | with_reducible assumption
    | intro _
    | (extract_lets +onlyGivenNames z; first | (refine State.Ok.cut (n := n) z ?_ ?_ <;> [(intro _; clear_value z); subst z]) | (refine State.Ok.cutPair (n := n) z ?_ ?_ <;> [(intro _; clear_value z); subst z]) | clear_value z)
    | with_reducible apply State.Ok.ite
    | with_reducible apply State.Ok.iteFst
    | with_reducible apply State.violation_ok
    | with_reducible apply State.countLookup_ok
    | with_reducible apply State.completionIn_ok
    | with_reducible apply State.refuseNp_ok
    | with_reducible apply State.countLimb_ok
    | with_reducible apply State.unlockPart_ok
    | with_reducible apply State.modFabric_ok
    | with_reducible apply State.byIo_ok
    | with_reducible apply State.gateFault_ok
    | with_reducible apply State.multicast_ok
    | with_reducible apply State.decodeTo_ok
    | with_reducible apply State.byBus_ok
    | split
    | (refine State.Ok.ofPair (by with_reducible assumption) ?_)

theorem State.deviceErrorAt_ok (n : Mark) (a1 : State) (a2) (a3) (ha1 : a1.Ok n) : (State.deviceErrorAt a1 a2 a3).Ok n := by
  unfold State.deviceErrorAt
  repeat' first
    | with_reducible assumption
    | intro _
    | (extract_lets +onlyGivenNames z; first | (refine State.Ok.cut (n := n) z ?_ ?_ <;> [(intro _; clear_value z); subst z]) | (refine State.Ok.cutPair (n := n) z ?_ ?_ <;> [(intro _; clear_value z); subst z]) | clear_value z)
    | with_reducible apply State.Ok.ite
    | with_reducible apply State.noteAt_ok
    | with_reducible apply State.sharedRequest_ok
    | split

theorem State.route_ok (n : Mark) (a1 : State) (a2) (a3) (ha1 : a1.Ok n) : (State.route a1 a2 a3).Ok n := by
  unfold State.route
  repeat' first
    | with_reducible assumption
    | intro _
    | (extract_lets +onlyGivenNames z; first | (refine State.Ok.cut (n := n) z ?_ ?_ <;> [(intro _; clear_value z); subst z]) | (refine State.Ok.cutPair (n := n) z ?_ ?_ <;> [(intro _; clear_value z); subst z]) | clear_value z)
    | with_reducible apply State.Ok.ite
    | with_reducible apply State.Ok.iteFst
    | with_reducible apply State.parse_ok
    | with_reducible apply State.submit_ok
    | split
    | (refine State.Ok.ofPair (by with_reducible assumption) ?_)

theorem State.ingress_ok (n : Mark) (a1 : State) (a2) (a3) (a4) (ha1 : a1.Ok n) : (State.ingress a1 a2 a3 a4).Ok n := by
  unfold State.ingress
  repeat' first
    | with_reducible assumption
    | intro _
    | (extract_lets +onlyGivenNames z; first | (refine State.Ok.cut (n := n) z ?_ ?_ <;> [(intro _; clear_value z); subst z]) | (refine State.Ok.cutPair (n := n) z ?_ ?_ <;> [(intro _; clear_value z); subst z]) | clear_value z)
    | with_reducible apply State.Ok.ite
    | with_reducible apply State.refuseNp_ok
    | with_reducible apply State.deviceErrorAt_ok
    | with_reducible apply State.violation_ok
    | with_reducible apply State.gateFault_ok
    | with_reducible apply State.holdAtTwig_ok
    | with_reducible apply State.route_ok
    | split

theorem tlpIngressEffect_ok (n : Mark) (a1 : State) (a2) (a3) (ha1 : a1.Ok n) : (tlpIngressEffect a1 a2 a3).Ok n := by
  unfold tlpIngressEffect
  repeat' first
    | with_reducible assumption
    | intro _
    | (extract_lets +onlyGivenNames z; first | (refine State.Ok.cut (n := n) z ?_ ?_ <;> [(intro _; clear_value z); subst z]) | (refine State.Ok.cutPair (n := n) z ?_ ?_ <;> [(intro _; clear_value z); subst z]) | clear_value z)
    | with_reducible apply State.Ok.ite
    | with_reducible apply State.Ok.iteFst
    | with_reducible apply hpLinkRecoveryEffect_ok
    | with_reducible apply State.injectItem_ok
    | with_reducible apply State.countTwig_ok
    | with_reducible apply State.modHPort_ok
    | with_reducible apply State.fcTake_ok
    | with_reducible apply State.fcSettle_ok
    | with_reducible apply State.ingress_ok
    | split
    | (refine State.Ok.ofPair (by with_reducible assumption) ?_)

theorem execTlpIngress_ok (n : Mark) (a1) (a2) (a3) (a4 : State) (ha4 : a4.Ok n) : OkH n (execTlpIngress a1 a2 a3 a4) := by
  unfold execTlpIngress
  refine act2_ok _ _ (fun s hs => ?_) ha4
  try dsimp only
  repeat' first
    | with_reducible assumption
    | intro _
    | (extract_lets +onlyGivenNames z; first | (refine State.Ok.cut (n := n) z ?_ ?_ <;> [(intro _; clear_value z); subst z]) | (refine State.Ok.cutPair (n := n) z ?_ ?_ <;> [(intro _; clear_value z); subst z]) | clear_value z)
    | with_reducible apply State.Ok.ite
    | with_reducible apply tlpIngressEffect_ok
    | split

theorem State.badTail_ok (n : Mark) (a1 : State) (a2) (ha1 : a1.Ok n) : (State.badTail a1 a2).Ok n := by
  unfold State.badTail
  repeat' first
    | with_reducible assumption
    | intro _
    | (extract_lets +onlyGivenNames z; first | (refine State.Ok.cut (n := n) z ?_ ?_ <;> [(intro _; clear_value z); subst z]) | (refine State.Ok.cutPair (n := n) z ?_ ?_ <;> [(intro _; clear_value z); subst z]) | clear_value z)
    | with_reducible apply State.Ok.ite
    | with_reducible apply State.countViol_ok
    | with_reducible apply State.logDiscard_ok
    | with_reducible apply State.aerWith_ok
    | with_reducible apply State.cutAbort_ok
    | split

theorem cutThroughStartEffect_ok (n : Mark) (a1 : State) (a2) (a3) (a4) (ha1 : a1.Ok n) : (cutThroughStartEffect a1 a2 a3 a4).Ok n := by
  unfold cutThroughStartEffect
  repeat' first
    | with_reducible assumption
    | intro _
    | (extract_lets +onlyGivenNames z; first | (refine State.Ok.cut (n := n) z ?_ ?_ <;> [(intro _; clear_value z); subst z]) | (refine State.Ok.cutPair (n := n) z ?_ ?_ <;> [(intro _; clear_value z); subst z]) | clear_value z)
    | with_reducible apply State.Ok.ite
    | with_reducible apply State.badTail_ok
    | with_reducible apply State.modDesc_ok
    | split

theorem execCutThroughStart_ok (n : Mark) (a1) (a2) (a3) (a4) (a5 : State) (ha5 : a5.Ok n) : OkH n (execCutThroughStart a1 a2 a3 a4 a5) := by
  unfold execCutThroughStart
  refine act2_ok _ _ (fun s hs => ?_) ha5
  try dsimp only
  repeat' first
    | with_reducible assumption
    | intro _
    | (extract_lets +onlyGivenNames z; first | (refine State.Ok.cut (n := n) z ?_ ?_ <;> [(intro _; clear_value z); subst z]) | (refine State.Ok.cutPair (n := n) z ?_ ?_ <;> [(intro _; clear_value z); subst z]) | clear_value z)
    | with_reducible apply State.Ok.ite
    | with_reducible apply cutThroughStartEffect_ok
    | split

theorem cutResendEffect_ok (n : Mark) (a1 : State) (a2) (ha1 : a1.Ok n) : (cutResendEffect a1 a2).Ok n := by
  unfold cutResendEffect
  repeat' first
    | with_reducible assumption
    | intro _
    | (extract_lets +onlyGivenNames z; first | (refine State.Ok.cut (n := n) z ?_ ?_ <;> [(intro _; clear_value z); subst z]) | (refine State.Ok.cutPair (n := n) z ?_ ?_ <;> [(intro _; clear_value z); subst z]) | clear_value z)
    | with_reducible apply State.Ok.ite
    | with_reducible apply State.modDesc_ok
    | split

theorem execCutResend_ok (n : Mark) (a1) (a2) (a3 : State) (ha3 : a3.Ok n) : OkH n (execCutResend a1 a2 a3) := by
  unfold execCutResend
  refine act1_ok _ _ (fun s hs => ?_) ha3
  try dsimp only
  repeat' first
    | with_reducible assumption
    | intro _
    | (extract_lets +onlyGivenNames z; first | (refine State.Ok.cut (n := n) z ?_ ?_ <;> [(intro _; clear_value z); subst z]) | (refine State.Ok.cutPair (n := n) z ?_ ?_ <;> [(intro _; clear_value z); subst z]) | clear_value z)
    | with_reducible apply State.Ok.ite
    | with_reducible apply cutResendEffect_ok
    | split

theorem bufStructFaultEffect_ok (n : Mark) (a1 : State) (a2) (ha1 : a1.Ok n) : (bufStructFaultEffect a1 a2).Ok n := by
  unfold bufStructFaultEffect
  repeat' first
    | with_reducible assumption
    | intro _
    | (extract_lets +onlyGivenNames z; first | (refine State.Ok.cut (n := n) z ?_ ?_ <;> [(intro _; clear_value z); subst z]) | (refine State.Ok.cutPair (n := n) z ?_ ?_ <;> [(intro _; clear_value z); subst z]) | clear_value z)
    | with_reducible apply State.Ok.ite
    | with_reducible apply State.note_ok
    | with_reducible apply State.contain_ok
    | split

theorem execBufStructFault_ok (n : Mark) (a1) (a2) (a3 : State) (ha3 : a3.Ok n) : OkH n (execBufStructFault a1 a2 a3) := by
  unfold execBufStructFault
  refine act2_ok _ _ (fun s hs => ?_) ha3
  try dsimp only
  repeat' first
    | with_reducible assumption
    | intro _
    | (extract_lets +onlyGivenNames z; first | (refine State.Ok.cut (n := n) z ?_ ?_ <;> [(intro _; clear_value z); subst z]) | (refine State.Ok.cutPair (n := n) z ?_ ?_ <;> [(intro _; clear_value z); subst z]) | clear_value z)
    | with_reducible apply State.Ok.ite
    | with_reducible apply bufStructFaultEffect_ok
    | split

theorem execCellFreeDone_ok (n : Mark) (a1) (a2) (a3 : State) (ha3 : a3.Ok n) : OkH n (execCellFreeDone a1 a2 a3) := by
  unfold execCellFreeDone
  refine act1_ok _ _ (fun s hs => ?_) ha3
  try dsimp only
  repeat' first
    | with_reducible assumption
    | intro _
    | (extract_lets +onlyGivenNames z; first | (refine State.Ok.cut (n := n) z ?_ ?_ <;> [(intro _; clear_value z); subst z]) | (refine State.Ok.cutPair (n := n) z ?_ ?_ <;> [(intro _; clear_value z); subst z]) | clear_value z)
    | with_reducible apply State.Ok.ite
    | with_reducible apply State.modCore_ok
    | split

theorem State.reclass_ok (n : Mark) (a1 : State) (a2) (a3) (a4) (ha1 : a1.Ok n) : (State.reclass a1 a2 a3 a4).Ok n := by
  unfold State.reclass
  repeat' first
    | with_reducible assumption
    | intro _
    | (extract_lets +onlyGivenNames z; first | (refine State.Ok.cut (n := n) z ?_ ?_ <;> [(intro _; clear_value z); subst z]) | (refine State.Ok.cutPair (n := n) z ?_ ?_ <;> [(intro _; clear_value z); subst z]) | clear_value z)
    | with_reducible apply State.Ok.ite
    | with_reducible apply State.modCore_ok
    | split

theorem classMapReleaseEffect_ok (n : Mark) (a1 : State) (a2) (a3) (ha1 : a1.Ok n) : (classMapReleaseEffect a1 a2 a3).Ok n := by
  unfold classMapReleaseEffect
  repeat' first
    | with_reducible assumption
    | intro _
    | (extract_lets +onlyGivenNames z; first | (refine State.Ok.cut (n := n) z ?_ ?_ <;> [(intro _; clear_value z); subst z]) | (refine State.Ok.cutPair (n := n) z ?_ ?_ <;> [(intro _; clear_value z); subst z]) | clear_value z)
    | with_reducible apply State.Ok.ite
    | with_reducible apply State.reclass_ok
    | split

theorem execClassMapRelease_ok (n : Mark) (a1) (a2) (a3) (a4 : State) (ha4 : a4.Ok n) : OkH n (execClassMapRelease a1 a2 a3 a4) := by
  unfold execClassMapRelease
  refine act1_ok _ _ (fun s hs => ?_) ha4
  try dsimp only
  repeat' first
    | with_reducible assumption
    | intro _
    | (extract_lets +onlyGivenNames z; first | (refine State.Ok.cut (n := n) z ?_ ?_ <;> [(intro _; clear_value z); subst z]) | (refine State.Ok.cutPair (n := n) z ?_ ?_ <;> [(intro _; clear_value z); subst z]) | clear_value z)
    | with_reducible apply State.Ok.ite
    | with_reducible apply classMapReleaseEffect_ok
    | split

theorem classMapHoldEffect_ok (n : Mark) (a1 : State) (a2) (a3) (ha1 : a1.Ok n) : (classMapHoldEffect a1 a2 a3).Ok n := by
  unfold classMapHoldEffect
  repeat' first
    | with_reducible assumption
    | intro _
    | (extract_lets +onlyGivenNames z; first | (refine State.Ok.cut (n := n) z ?_ ?_ <;> [(intro _; clear_value z); subst z]) | (refine State.Ok.cutPair (n := n) z ?_ ?_ <;> [(intro _; clear_value z); subst z]) | clear_value z)
    | with_reducible apply State.Ok.ite
    | with_reducible apply State.modCore_ok
    | with_reducible apply State.each_ok
    | with_reducible apply State.noteFree_ok
    | with_reducible apply foldl_ok
    | with_reducible apply foldlState_ok
    | split

theorem execClassMapHold_ok (n : Mark) (a1) (a2) (a3) (a4 : State) (ha4 : a4.Ok n) : OkH n (execClassMapHold a1 a2 a3 a4) := by
  unfold execClassMapHold
  refine act1_ok _ _ (fun s hs => ?_) ha4
  try dsimp only
  repeat' first
    | with_reducible assumption
    | intro _
    | (extract_lets +onlyGivenNames z; first | (refine State.Ok.cut (n := n) z ?_ ?_ <;> [(intro _; clear_value z); subst z]) | (refine State.Ok.cutPair (n := n) z ?_ ?_ <;> [(intro _; clear_value z); subst z]) | clear_value z)
    | with_reducible apply State.Ok.ite
    | with_reducible apply classMapHoldEffect_ok
    | split

theorem State.goOn_ok (n : Mark) (a1 : State) (a2) (ha1 : a1.Ok n) : (State.goOn a1 a2).Ok n := by
  unfold State.goOn
  repeat' first
    | with_reducible assumption
    | intro _
    | (extract_lets +onlyGivenNames z; first | (refine State.Ok.cut (n := n) z ?_ ?_ <;> [(intro _; clear_value z); subst z]) | (refine State.Ok.cutPair (n := n) z ?_ ?_ <;> [(intro _; clear_value z); subst z]) | clear_value z)
    | with_reducible apply State.Ok.ite
    | with_reducible apply State.Ok.iteFst
    | with_reducible apply State.parse_ok
    | with_reducible apply State.submit_ok
    | with_reducible apply State.ingress_ok
    | split
    | (refine State.Ok.ofPair (by with_reducible assumption) ?_)

theorem winFetchDoneEffect_ok (n : Mark) (a1 : State) (a2) (a3) (a4) (ha1 : a1.Ok n) : (winFetchDoneEffect a1 a2 a3 a4).Ok n := by
  unfold winFetchDoneEffect
  repeat' first
    | with_reducible assumption
    | intro _
    | (extract_lets +onlyGivenNames z; first | (refine State.Ok.cut (n := n) z ?_ ?_ <;> [(intro _; clear_value z); subst z]) | (refine State.Ok.cutPair (n := n) z ?_ ?_ <;> [(intro _; clear_value z); subst z]) | clear_value z)
    | with_reducible apply State.Ok.ite
    | with_reducible apply State.noteFree_ok
    | with_reducible apply State.modGates_ok
    | with_reducible apply State.fcSettle_ok
    | with_reducible apply State.each_ok
    | with_reducible apply State.goOn_ok
    | with_reducible apply State.ingress_ok
    | split

theorem execWinFetchDone_ok (n : Mark) (a1) (a2) (a3) (a4) (a5 : State) (ha5 : a5.Ok n) : OkH n (execWinFetchDone a1 a2 a3 a4 a5) := by
  unfold execWinFetchDone
  refine act2_ok _ _ (fun s hs => ?_) ha5
  try dsimp only
  repeat' first
    | with_reducible assumption
    | intro _
    | (extract_lets +onlyGivenNames z; first | (refine State.Ok.cut (n := n) z ?_ ?_ <;> [(intro _; clear_value z); subst z]) | (refine State.Ok.cutPair (n := n) z ?_ ?_ <;> [(intro _; clear_value z); subst z]) | clear_value z)
    | with_reducible apply State.Ok.ite
    | with_reducible apply winFetchDoneEffect_ok
    | split

theorem gateReloadDoneEffect_ok (n : Mark) (a1 : State) (a2) (a3) (ha1 : a1.Ok n) : (gateReloadDoneEffect a1 a2 a3).Ok n := by
  unfold gateReloadDoneEffect
  repeat' first
    | with_reducible assumption
    | intro _
    | (extract_lets +onlyGivenNames z; first | (refine State.Ok.cut (n := n) z ?_ ?_ <;> [(intro _; clear_value z); subst z]) | (refine State.Ok.cutPair (n := n) z ?_ ?_ <;> [(intro _; clear_value z); subst z]) | clear_value z)
    | with_reducible apply State.Ok.ite
    | with_reducible apply State.modGates_ok
    | with_reducible apply State.fcSettle_ok
    | with_reducible apply State.each_ok
    | with_reducible apply State.ingress_ok
    | split

theorem execGateReloadDone_ok (n : Mark) (a1) (a2) (a3) (a4 : State) (ha4 : a4.Ok n) : OkH n (execGateReloadDone a1 a2 a3 a4) := by
  unfold execGateReloadDone
  refine act2_ok _ _ (fun s hs => ?_) ha4
  try dsimp only
  repeat' first
    | with_reducible assumption
    | intro _
    | (extract_lets +onlyGivenNames z; first | (refine State.Ok.cut (n := n) z ?_ ?_ <;> [(intro _; clear_value z); subst z]) | (refine State.Ok.cutPair (n := n) z ?_ ?_ <;> [(intro _; clear_value z); subst z]) | clear_value z)
    | with_reducible apply State.Ok.ite
    | with_reducible apply gateReloadDoneEffect_ok
    | split

end Sys2Proof.Machine
end

