-- ==== Sys2Proof/Laws/KeepTrunks.lean ====
section
/-! SUPPORT. Every operation of Trunks.lean keeps the invariant, and the local count does not run back. -/

set_option linter.all false

namespace Sys2Proof.Machine

theorem State.sendFrame_ok (n : Mark) (a1 : State) (a2) (a3) (a4) (ha1 : a1.Ok n) : (State.sendFrame a1 a2 a3 a4).Ok n := by
  unfold State.sendFrame
  repeat' first
    | with_reducible assumption
    | intro _
    | (extract_lets +onlyGivenNames z; first | (refine State.Ok.cut (n := n) z ?_ ?_ <;> [(intro _; clear_value z); subst z]) | (refine State.Ok.cutPair (n := n) z ?_ ?_ <;> [(intro _; clear_value z); subst z]) | clear_value z)
    | with_reducible apply State.Ok.ite
    | with_reducible apply State.modTrain_ok
    | with_reducible apply State.emitAll_ok
    | split

theorem State.sendKeyex_ok (n : Mark) (a1 : State) (a2) (a3) (ha1 : a1.Ok n) : (State.sendKeyex a1 a2 a3).Ok n := by
  unfold State.sendKeyex
  repeat' first
    | with_reducible assumption
    | intro _
    | (extract_lets +onlyGivenNames z; first | (refine State.Ok.cut (n := n) z ?_ ?_ <;> [(intro _; clear_value z); subst z]) | (refine State.Ok.cutPair (n := n) z ?_ ?_ <;> [(intro _; clear_value z); subst z]) | clear_value z)
    | with_reducible apply State.Ok.ite
    | with_reducible apply State.each_ok
    | with_reducible apply State.sendFrame_ok
    | split

theorem State.startKeyex_ok (n : Mark) (a1 : State) (a2) (ha1 : a1.Ok n) : (State.startKeyex a1 a2).Ok n := by
  unfold State.startKeyex
  repeat' first
    | with_reducible assumption
    | intro _
    | (extract_lets +onlyGivenNames z; first | (refine State.Ok.cut (n := n) z ?_ ?_ <;> [(intro _; clear_value z); subst z]) | (refine State.Ok.cutPair (n := n) z ?_ ?_ <;> [(intro _; clear_value z); subst z]) | clear_value z)
    | with_reducible apply State.Ok.ite
    | with_reducible apply State.sendKeyex_ok
    | with_reducible apply State.modTrain_ok
    | with_reducible apply State.drew_ok
    | split

theorem State.sendHold_ok (n : Mark) (a1 : State) (a2) (a3) (ha1 : a1.Ok n) : (State.sendHold a1 a2 a3).Ok n := by
  unfold State.sendHold
  repeat' first
    | with_reducible assumption
    | intro _
    | (extract_lets +onlyGivenNames z; first | (refine State.Ok.cut (n := n) z ?_ ?_ <;> [(intro _; clear_value z); subst z]) | (refine State.Ok.cutPair (n := n) z ?_ ?_ <;> [(intro _; clear_value z); subst z]) | clear_value z)
    | with_reducible apply State.Ok.ite
    | with_reducible apply State.sendFrame_ok
    | split

theorem State.enterHeld_ok (n : Mark) (a1 : State) (a2) (a3) (ha1 : a1.Ok n) : (State.enterHeld a1 a2 a3).Ok n := by
  unfold State.enterHeld
  repeat' first
    | with_reducible assumption
    | intro _
    | (extract_lets +onlyGivenNames z; first | (refine State.Ok.cut (n := n) z ?_ ?_ <;> [(intro _; clear_value z); subst z]) | (refine State.Ok.cutPair (n := n) z ?_ ?_ <;> [(intro _; clear_value z); subst z]) | clear_value z)
    | with_reducible apply State.Ok.ite
    | with_reducible apply State.modTrunk_ok
    | with_reducible apply State.noteFree_ok
    | with_reducible apply State.sendHold_ok
    | split

theorem State.enterNegotiate_ok (n : Mark) (a1 : State) (a2) (ha1 : a1.Ok n) : (State.enterNegotiate a1 a2).Ok n := by
  unfold State.enterNegotiate
  repeat' first
    | with_reducible assumption
    | intro _
    | (extract_lets +onlyGivenNames z; first | (refine State.Ok.cut (n := n) z ?_ ?_ <;> [(intro _; clear_value z); subst z]) | (refine State.Ok.cutPair (n := n) z ?_ ?_ <;> [(intro _; clear_value z); subst z]) | clear_value z)
    | with_reducible apply State.Ok.ite
    | with_reducible apply State.modTrunk_ok
    | with_reducible apply State.enterHeld_ok
    | with_reducible apply State.sendFrame_ok
    | with_reducible apply State.startKeyex_ok
    | split

theorem State.eqAsk_ok (n : Mark) (a1 : State) (a2) (a3) (a4) (ha1 : a1.Ok n) : (State.eqAsk a1 a2 a3 a4).Ok n := by
  unfold State.eqAsk
  repeat' first
    | with_reducible assumption
    | intro _
    | (extract_lets +onlyGivenNames z; first | (refine State.Ok.cut (n := n) z ?_ ?_ <;> [(intro _; clear_value z); subst z]) | (refine State.Ok.cutPair (n := n) z ?_ ?_ <;> [(intro _; clear_value z); subst z]) | clear_value z)
    | with_reducible apply State.Ok.ite
    | with_reducible apply State.sendFrame_ok
    | with_reducible apply State.modTrain_ok
    | split

theorem State.eqBegin_ok (n : Mark) (a1 : State) (a2) (ha1 : a1.Ok n) : (State.eqBegin a1 a2).Ok n := by
  unfold State.eqBegin
  repeat' first
    | with_reducible assumption
    | intro _
    | (extract_lets +onlyGivenNames z; first | (refine State.Ok.cut (n := n) z ?_ ?_ <;> [(intro _; clear_value z); subst z]) | (refine State.Ok.cutPair (n := n) z ?_ ?_ <;> [(intro _; clear_value z); subst z]) | clear_value z)
    | with_reducible apply State.Ok.ite
    | with_reducible apply State.modTrain_ok
    | with_reducible apply State.each_ok
    | with_reducible apply State.eqAsk_ok
    | with_reducible apply State.drew_ok
    | split

theorem State.eqLaneDone_ok (n : Mark) (a1 : State) (a2) (a3) (ha1 : a1.Ok n) : (State.eqLaneDone a1 a2 a3).Ok n := by
  unfold State.eqLaneDone
  repeat' first
    | with_reducible assumption
    | intro _
    | (extract_lets +onlyGivenNames z; first | (refine State.Ok.cut (n := n) z ?_ ?_ <;> [(intro _; clear_value z); subst z]) | (refine State.Ok.cutPair (n := n) z ?_ ?_ <;> [(intro _; clear_value z); subst z]) | clear_value z)
    | with_reducible apply State.Ok.ite
    | with_reducible apply State.modTrunk_ok
    | with_reducible apply State.drew_ok
    | with_reducible apply State.sendFrame_ok
    | split

theorem State.enterStep_ok (n : Mark) (a1 : State) (a2) (a3) (a4) (ha1 : a1.Ok n) : (State.enterStep a1 a2 a3 a4).Ok n := by
  unfold State.enterStep
  repeat' first
    | with_reducible assumption
    | intro _
    | (extract_lets +onlyGivenNames z; first | (refine State.Ok.cut (n := n) z ?_ ?_ <;> [(intro _; clear_value z); subst z]) | (refine State.Ok.cutPair (n := n) z ?_ ?_ <;> [(intro _; clear_value z); subst z]) | clear_value z)
    | with_reducible apply State.Ok.ite
    | with_reducible apply State.modTrunk_ok
    | with_reducible apply State.eqBegin_ok
    | with_reducible apply State.sendFrame_ok
    | split

theorem State.enterLinkInit_ok (n : Mark) (a1 : State) (a2) (a3) (ha1 : a1.Ok n) : (State.enterLinkInit a1 a2 a3).Ok n := by
  unfold State.enterLinkInit
  repeat' first
    | with_reducible assumption
    | intro _
    | (extract_lets +onlyGivenNames z; first | (refine State.Ok.cut (n := n) z ?_ ?_ <;> [(intro _; clear_value z); subst z]) | (refine State.Ok.cutPair (n := n) z ?_ ?_ <;> [(intro _; clear_value z); subst z]) | clear_value z)
    | with_reducible apply State.Ok.ite
    | with_reducible apply State.emit_ok
    | with_reducible apply State.modTrunk_ok
    | split

theorem State.stepDone_ok (n : Mark) (a1 : State) (a2) (ha1 : a1.Ok n) : (State.stepDone a1 a2).Ok n := by
  unfold State.stepDone
  repeat' first
    | with_reducible assumption
    | intro _
    | (extract_lets +onlyGivenNames z; first | (refine State.Ok.cut (n := n) z ?_ ?_ <;> [(intro _; clear_value z); subst z]) | (refine State.Ok.cutPair (n := n) z ?_ ?_ <;> [(intro _; clear_value z); subst z]) | clear_value z)
    | with_reducible apply State.Ok.ite
    | with_reducible apply State.enterLinkInit_ok
    | with_reducible apply State.enterStep_ok
    | split

theorem State.stepGo_ok (n : Mark) (a1 : State) (a2) (ha1 : a1.Ok n) : (State.stepGo a1 a2).Ok n := by
  unfold State.stepGo
  repeat' first
    | with_reducible assumption
    | intro _
    | (extract_lets +onlyGivenNames z; first | (refine State.Ok.cut (n := n) z ?_ ?_ <;> [(intro _; clear_value z); subst z]) | (refine State.Ok.cutPair (n := n) z ?_ ?_ <;> [(intro _; clear_value z); subst z]) | clear_value z)
    | with_reducible apply State.Ok.ite
    | with_reducible apply State.each_ok
    | with_reducible apply State.sendFrame_ok
    | with_reducible apply State.stepDone_ok
    | with_reducible apply State.modTrain_ok
    | split

theorem State.sayReady_ok (n : Mark) (a1 : State) (a2) (ha1 : a1.Ok n) : (State.sayReady a1 a2).Ok n := by
  unfold State.sayReady
  repeat' first
    | with_reducible assumption
    | intro _
    | (extract_lets +onlyGivenNames z; first | (refine State.Ok.cut (n := n) z ?_ ?_ <;> [(intro _; clear_value z); subst z]) | (refine State.Ok.cutPair (n := n) z ?_ ?_ <;> [(intro _; clear_value z); subst z]) | clear_value z)
    | with_reducible apply State.Ok.ite
    | with_reducible apply State.modTrain_ok
    | with_reducible apply State.stepGo_ok
    | with_reducible apply State.sendFrame_ok
    | split

theorem State.trainOn_ok (n : Mark) (a1 : State) (a2) (ha1 : a1.Ok n) : (State.trainOn a1 a2).Ok n := by
  unfold State.trainOn
  repeat' first
    | with_reducible assumption
    | intro _
    | (extract_lets +onlyGivenNames z; first | (refine State.Ok.cut (n := n) z ?_ ?_ <;> [(intro _; clear_value z); subst z]) | (refine State.Ok.cutPair (n := n) z ?_ ?_ <;> [(intro _; clear_value z); subst z]) | clear_value z)
    | with_reducible apply State.Ok.ite
    | with_reducible apply State.sayReady_ok
    | split

theorem State.trainFailed_ok (n : Mark) (a1 : State) (a2) (ha1 : a1.Ok n) : (State.trainFailed a1 a2).Ok n := by
  unfold State.trainFailed
  repeat' first
    | with_reducible assumption
    | intro _
    | (extract_lets +onlyGivenNames z; first | (refine State.Ok.cut (n := n) z ?_ ?_ <;> [(intro _; clear_value z); subst z]) | (refine State.Ok.cutPair (n := n) z ?_ ?_ <;> [(intro _; clear_value z); subst z]) | clear_value z)
    | with_reducible apply State.Ok.ite
    | with_reducible apply State.modTrunk_ok
    | split

theorem trunkSignalDetectEffect_ok (n : Mark) (a1 : State) (a2) (ha1 : a1.Ok n) : (trunkSignalDetectEffect a1 a2).Ok n := by
  unfold trunkSignalDetectEffect
  repeat' first
    | with_reducible assumption
    | intro _
    | (extract_lets +onlyGivenNames z; first | (refine State.Ok.cut (n := n) z ?_ ?_ <;> [(intro _; clear_value z); subst z]) | (refine State.Ok.cutPair (n := n) z ?_ ?_ <;> [(intro _; clear_value z); subst z]) | clear_value z)
    | with_reducible apply State.Ok.ite
    | with_reducible apply State.modTrunk_ok
    | split

theorem execTrunkSignalDetect_ok (n : Mark) (a1) (a2) (a3 : State) (ha3 : a3.Ok n) : OkH n (execTrunkSignalDetect a1 a2 a3) := by
  unfold execTrunkSignalDetect
  refine act1_ok _ _ (fun s hs => ?_) ha3
  try dsimp only
  repeat' first
    | with_reducible assumption
    | intro _
    | (extract_lets +onlyGivenNames z; first | (refine State.Ok.cut (n := n) z ?_ ?_ <;> [(intro _; clear_value z); subst z]) | (refine State.Ok.cutPair (n := n) z ?_ ?_ <;> [(intro _; clear_value z); subst z]) | clear_value z)
    | with_reducible apply State.Ok.ite
    | with_reducible apply trunkSignalDetectEffect_ok
    | split

theorem trunkAlignCompleteEffect_ok (n : Mark) (a1 : State) (a2) (a3) (ha1 : a1.Ok n) : (trunkAlignCompleteEffect a1 a2 a3).Ok n := by
  unfold trunkAlignCompleteEffect
  repeat' first
    | with_reducible assumption
    | intro _
    | (extract_lets +onlyGivenNames z; first | (refine State.Ok.cut (n := n) z ?_ ?_ <;> [(intro _; clear_value z); subst z]) | (refine State.Ok.cutPair (n := n) z ?_ ?_ <;> [(intro _; clear_value z); subst z]) | clear_value z)
    | with_reducible apply State.Ok.ite
    | with_reducible apply State.enterNegotiate_ok
    | with_reducible apply State.modTrain_ok
    | split

theorem execTrunkAlignComplete_ok (n : Mark) (a1) (a2) (a3) (a4 : State) (ha4 : a4.Ok n) : OkH n (execTrunkAlignComplete a1 a2 a3 a4) := by
  unfold execTrunkAlignComplete
  refine act1_ok _ _ (fun s hs => ?_) ha4
  try dsimp only
  repeat' first
    | with_reducible assumption
    | intro _
    | (extract_lets +onlyGivenNames z; first | (refine State.Ok.cut (n := n) z ?_ ?_ <;> [(intro _; clear_value z); subst z]) | (refine State.Ok.cutPair (n := n) z ?_ ?_ <;> [(intro _; clear_value z); subst z]) | clear_value z)
    | with_reducible apply State.Ok.ite
    | with_reducible apply trunkAlignCompleteEffect_ok
    | split

theorem State.frameIn_ok (n : Mark) (a1 : State) (a2) (a3) (a4) (ha1 : a1.Ok n) (ha4 : ∀ x0 x1 x2, x0.Ok n → (a4 x0 x1 x2).Ok n) : (State.frameIn a1 a2 a3 a4).Ok n := by
  unfold State.frameIn
  repeat' first
    | with_reducible assumption
    | intro _
    | (extract_lets +onlyGivenNames z; first | (refine State.Ok.cut (n := n) z ?_ ?_ <;> [(intro _; clear_value z); subst z]) | (refine State.Ok.cutPair (n := n) z ?_ ?_ <;> [(intro _; clear_value z); subst z]) | clear_value z)
    | with_reducible apply State.Ok.ite
    | with_reducible apply ha4
    | split

theorem capsFrameEffect_ok (n : Mark) (a1 : State) (a2) (a3) (ha1 : a1.Ok n) : (capsFrameEffect a1 a2 a3).Ok n := by
  unfold capsFrameEffect
  repeat' first
    | with_reducible assumption
    | intro _
    | (extract_lets +onlyGivenNames z; first | (refine State.Ok.cut (n := n) z ?_ ?_ <;> [(intro _; clear_value z); subst z]) | (refine State.Ok.cutPair (n := n) z ?_ ?_ <;> [(intro _; clear_value z); subst z]) | clear_value z)
    | with_reducible apply State.Ok.ite
    | with_reducible apply State.modTrunk_ok
    | with_reducible apply State.enterHeld_ok
    | with_reducible apply State.trainOn_ok
    | with_reducible apply State.startKeyex_ok
    | split

theorem execCapsFrame_ok (n : Mark) (a1) (a2) (a3) (a4 : State) (ha4 : a4.Ok n) : OkH n (execCapsFrame a1 a2 a3 a4) := by
  unfold execCapsFrame
  refine act1_ok _ _ (fun s hs => ?_) ha4
  try dsimp only
  repeat' first
    | with_reducible assumption
    | intro _
    | (extract_lets +onlyGivenNames z; first | (refine State.Ok.cut (n := n) z ?_ ?_ <;> [(intro _; clear_value z); subst z]) | (refine State.Ok.cutPair (n := n) z ?_ ?_ <;> [(intro _; clear_value z); subst z]) | clear_value z)
    | with_reducible apply State.Ok.ite
    | with_reducible apply State.frameIn_ok
    | with_reducible apply capsFrameEffect_ok
    | split

theorem State.keyFails_ok (n : Mark) (a1 : State) (a2) (ha1 : a1.Ok n) : (State.keyFails a1 a2).Ok n := by
  unfold State.keyFails
  repeat' first
    | with_reducible assumption
    | intro _
    | (extract_lets +onlyGivenNames z; first | (refine State.Ok.cut (n := n) z ?_ ?_ <;> [(intro _; clear_value z); subst z]) | (refine State.Ok.cutPair (n := n) z ?_ ?_ <;> [(intro _; clear_value z); subst z]) | clear_value z)
    | with_reducible apply State.Ok.ite
    | with_reducible apply State.modTrain_ok
    | with_reducible apply State.enterHeld_ok
    | split

theorem State.keyexCheck_ok (n : Mark) (a1 : State) (a2) (ha1 : a1.Ok n) : (State.keyexCheck a1 a2).Ok n := by
  unfold State.keyexCheck
  repeat' first
    | with_reducible assumption
    | intro _
    | (extract_lets +onlyGivenNames z; first | (refine State.Ok.cut (n := n) z ?_ ?_ <;> [(intro _; clear_value z); subst z]) | (refine State.Ok.cutPair (n := n) z ?_ ?_ <;> [(intro _; clear_value z); subst z]) | clear_value z)
    | with_reducible apply State.Ok.ite
    | with_reducible apply State.keyFails_ok
    | with_reducible apply State.modTrunk_ok
    | with_reducible apply State.trainOn_ok
    | split

theorem State.keyexSegment_ok (n : Mark) (a1 : State) (a2) (a3) (a4) (a5) (a6) (ha1 : a1.Ok n) : (State.keyexSegment a1 a2 a3 a4 a5 a6).Ok n := by
  unfold State.keyexSegment
  repeat' first
    | with_reducible assumption
    | intro _
    | (extract_lets +onlyGivenNames z; first | (refine State.Ok.cut (n := n) z ?_ ?_ <;> [(intro _; clear_value z); subst z]) | (refine State.Ok.cutPair (n := n) z ?_ ?_ <;> [(intro _; clear_value z); subst z]) | clear_value z)
    | with_reducible apply State.Ok.ite
    | with_reducible apply State.modTrain_ok
    | with_reducible apply State.trainFailed_ok
    | with_reducible apply State.keyFails_ok
    | with_reducible apply State.keyexCheck_ok
    | with_reducible apply State.sendKeyex_ok
    | split

theorem keyexFrameEffect_ok (n : Mark) (a1 : State) (a2) (a3) (ha1 : a1.Ok n) : (keyexFrameEffect a1 a2 a3).Ok n := by
  unfold keyexFrameEffect
  repeat' first
    | with_reducible assumption
    | intro _
    | (extract_lets +onlyGivenNames z; first | (refine State.Ok.cut (n := n) z ?_ ?_ <;> [(intro _; clear_value z); subst z]) | (refine State.Ok.cutPair (n := n) z ?_ ?_ <;> [(intro _; clear_value z); subst z]) | clear_value z)
    | with_reducible apply State.Ok.ite
    | with_reducible apply State.trainFailed_ok
    | with_reducible apply State.keyexSegment_ok
    | split

theorem execKeyexFrame_ok (n : Mark) (a1) (a2) (a3) (a4 : State) (ha4 : a4.Ok n) : OkH n (execKeyexFrame a1 a2 a3 a4) := by
  unfold execKeyexFrame
  refine act1_ok _ _ (fun s hs => ?_) ha4
  try dsimp only
  repeat' first
    | with_reducible assumption
    | intro _
    | (extract_lets +onlyGivenNames z; first | (refine State.Ok.cut (n := n) z ?_ ?_ <;> [(intro _; clear_value z); subst z]) | (refine State.Ok.cutPair (n := n) z ?_ ?_ <;> [(intro _; clear_value z); subst z]) | clear_value z)
    | with_reducible apply State.Ok.ite
    | with_reducible apply State.frameIn_ok
    | with_reducible apply keyexFrameEffect_ok
    | split

theorem delayFrameEffect_ok (n : Mark) (a1 : State) (a2) (a3) (a4) (a5) (ha1 : a1.Ok n) : (delayFrameEffect a1 a2 a3 a4 a5).Ok n := by
  unfold delayFrameEffect
  repeat' first
    | with_reducible assumption
    | intro _
    | (extract_lets +onlyGivenNames z; first | (refine State.Ok.cut (n := n) z ?_ ?_ <;> [(intro _; clear_value z); subst z]) | (refine State.Ok.cutPair (n := n) z ?_ ?_ <;> [(intro _; clear_value z); subst z]) | clear_value z)
    | with_reducible apply State.Ok.ite
    | with_reducible apply State.sendFrame_ok
    | with_reducible apply State.modTrunk_ok
    | with_reducible apply State.trainOn_ok
    | split

theorem execDelayFrame_ok (n : Mark) (a1) (a2) (a3) (a4) (a5 : State) (ha5 : a5.Ok n) : OkH n (execDelayFrame a1 a2 a3 a4 a5) := by
  unfold execDelayFrame
  refine act1_ok _ _ (fun s hs => ?_) ha5
  try dsimp only
  repeat' first
    | with_reducible assumption
    | intro _
    | (extract_lets +onlyGivenNames z; first | (refine State.Ok.cut (n := n) z ?_ ?_ <;> [(intro _; clear_value z); subst z]) | (refine State.Ok.cutPair (n := n) z ?_ ?_ <;> [(intro _; clear_value z); subst z]) | clear_value z)
    | with_reducible apply State.Ok.ite
    | with_reducible apply State.frameIn_ok
    | with_reducible apply delayFrameEffect_ok
    | split

theorem stepFrameEffect_ok (n : Mark) (a1 : State) (a2) (a3) (a4) (a5) (ha1 : a1.Ok n) : (stepFrameEffect a1 a2 a3 a4 a5).Ok n := by
  unfold stepFrameEffect
  repeat' first
    | with_reducible assumption
    | intro _
    | (extract_lets +onlyGivenNames z; first | (refine State.Ok.cut (n := n) z ?_ ?_ <;> [(intro _; clear_value z); subst z]) | (refine State.Ok.cutPair (n := n) z ?_ ?_ <;> [(intro _; clear_value z); subst z]) | clear_value z)
    | with_reducible apply State.Ok.ite
    | with_reducible apply State.modTrain_ok
    | with_reducible apply State.stepGo_ok
    | split

theorem execStepFrame_ok (n : Mark) (a1) (a2) (a3) (a4 : State) (ha4 : a4.Ok n) : OkH n (execStepFrame a1 a2 a3 a4) := by
  unfold execStepFrame
  refine act1_ok _ _ (fun s hs => ?_) ha4
  try dsimp only
  repeat' first
    | with_reducible assumption
    | intro _
    | (extract_lets +onlyGivenNames z; first | (refine State.Ok.cut (n := n) z ?_ ?_ <;> [(intro _; clear_value z); subst z]) | (refine State.Ok.cutPair (n := n) z ?_ ?_ <;> [(intro _; clear_value z); subst z]) | clear_value z)
    | with_reducible apply State.Ok.ite
    | with_reducible apply State.frameIn_ok
    | with_reducible apply stepFrameEffect_ok
    | split

theorem eqFrameEffect_ok (n : Mark) (a1 : State) (a2) (a3) (ha1 : a1.Ok n) : (eqFrameEffect a1 a2 a3).Ok n := by
  unfold eqFrameEffect
  repeat' first
    | with_reducible assumption
    | intro _
    | (extract_lets +onlyGivenNames z; first | (refine State.Ok.cut (n := n) z ?_ ?_ <;> [(intro _; clear_value z); subst z]) | (refine State.Ok.cutPair (n := n) z ?_ ?_ <;> [(intro _; clear_value z); subst z]) | (refine State.Ok.cutFun (n := n) z ?_ ?_ <;> [(intro _; clear_value z); subst z]) | (refine State.Ok.cutFun2 (n := n) z ?_ ?_ <;> [(intro _; clear_value z); subst z]) | (refine State.Ok.cutFun3 (n := n) z ?_ ?_ <;> [(intro _; clear_value z); subst z]) | (refine State.Ok.cutFun4 (n := n) z ?_ ?_ <;> [(intro _; clear_value z); subst z]) | (refine State.Ok.cutFun5 (n := n) z ?_ ?_ <;> [(intro _; clear_value z); subst z]) | (refine State.Ok.cutFun6 (n := n) z ?_ ?_ <;> [(intro _; clear_value z); subst z]) | (refine State.Ok.cutFun7 (n := n) z ?_ ?_ <;> [(intro _; clear_value z); subst z]) | clear_value z)
    | with_reducible apply State.Ok.ite
    | with_reducible apply_assumption
    | with_reducible apply State.sendFrame_ok
    | with_reducible apply State.modTrunk_ok
    | with_reducible apply State.trainOn_ok
    | with_reducible apply State.eqLaneDone_ok
    | with_reducible apply State.eqAsk_ok
    | with_reducible apply State.modTrain_ok
    | split

theorem execEqFrame_ok (n : Mark) (a1) (a2) (a3) (a4 : State) (ha4 : a4.Ok n) : OkH n (execEqFrame a1 a2 a3 a4) := by
  unfold execEqFrame
  refine act1_ok _ _ (fun s hs => ?_) ha4
  try dsimp only
  repeat' first
    | with_reducible assumption
    | intro _
    | (extract_lets +onlyGivenNames z; first | (refine State.Ok.cut (n := n) z ?_ ?_ <;> [(intro _; clear_value z); subst z]) | (refine State.Ok.cutPair (n := n) z ?_ ?_ <;> [(intro _; clear_value z); subst z]) | clear_value z)
    | with_reducible apply State.Ok.ite
    | with_reducible apply State.frameIn_ok
    | with_reducible apply eqFrameEffect_ok
    | split

theorem holdFrameEffect_ok (n : Mark) (a1 : State) (a2) (ha1 : a1.Ok n) : (holdFrameEffect a1 a2).Ok n := by
  unfold holdFrameEffect
  repeat' first
    | with_reducible assumption
    | intro _
    | (extract_lets +onlyGivenNames z; first | (refine State.Ok.cut (n := n) z ?_ ?_ <;> [(intro _; clear_value z); subst z]) | (refine State.Ok.cutPair (n := n) z ?_ ?_ <;> [(intro _; clear_value z); subst z]) | clear_value z)
    | with_reducible apply State.Ok.ite
    | with_reducible apply State.modTrain_ok
    | with_reducible apply State.sendFrame_ok
    | split

theorem execHoldFrame_ok (n : Mark) (a1) (a2) (a3) (a4 : State) (ha4 : a4.Ok n) : OkH n (execHoldFrame a1 a2 a3 a4) := by
  unfold execHoldFrame
  refine act1_ok _ _ (fun s hs => ?_) ha4
  try dsimp only
  repeat' first
    | with_reducible assumption
    | intro _
    | (extract_lets +onlyGivenNames z; first | (refine State.Ok.cut (n := n) z ?_ ?_ <;> [(intro _; clear_value z); subst z]) | (refine State.Ok.cutPair (n := n) z ?_ ?_ <;> [(intro _; clear_value z); subst z]) | clear_value z)
    | with_reducible apply State.Ok.ite
    | with_reducible apply State.frameIn_ok
    | with_reducible apply holdFrameEffect_ok
    | split

theorem holdFramesCeasedEffect_ok (n : Mark) (a1 : State) (a2) (ha1 : a1.Ok n) : (holdFramesCeasedEffect a1 a2).Ok n := by
  unfold holdFramesCeasedEffect
  repeat' first
    | with_reducible assumption
    | intro _
    | (extract_lets +onlyGivenNames z; first | (refine State.Ok.cut (n := n) z ?_ ?_ <;> [(intro _; clear_value z); subst z]) | (refine State.Ok.cutPair (n := n) z ?_ ?_ <;> [(intro _; clear_value z); subst z]) | clear_value z)
    | with_reducible apply State.Ok.ite
    | with_reducible apply State.modTrain_ok
    | split

theorem execHoldFramesCeased_ok (n : Mark) (a1) (a2) (a3 : State) (ha3 : a3.Ok n) : OkH n (execHoldFramesCeased a1 a2 a3) := by
  unfold execHoldFramesCeased
  refine act1_ok _ _ (fun s hs => ?_) ha3
  try dsimp only
  repeat' first
    | with_reducible assumption
    | intro _
    | (extract_lets +onlyGivenNames z; first | (refine State.Ok.cut (n := n) z ?_ ?_ <;> [(intro _; clear_value z); subst z]) | (refine State.Ok.cutPair (n := n) z ?_ ?_ <;> [(intro _; clear_value z); subst z]) | clear_value z)
    | with_reducible apply State.Ok.ite
    | with_reducible apply holdFramesCeasedEffect_ok
    | split

theorem heldReevaluateEffect_ok (n : Mark) (a1 : State) (a2) (ha1 : a1.Ok n) : (heldReevaluateEffect a1 a2).Ok n := by
  unfold heldReevaluateEffect
  repeat' first
    | with_reducible assumption
    | intro _
    | (extract_lets +onlyGivenNames z; first | (refine State.Ok.cut (n := n) z ?_ ?_ <;> [(intro _; clear_value z); subst z]) | (refine State.Ok.cutPair (n := n) z ?_ ?_ <;> [(intro _; clear_value z); subst z]) | clear_value z)
    | with_reducible apply State.Ok.ite
    | with_reducible apply State.enterNegotiate_ok
    | with_reducible apply State.sendHold_ok
    | with_reducible apply State.modTrain_ok
    | split

theorem execHeldReevaluate_ok (n : Mark) (a1) (a2) (a3 : State) (ha3 : a3.Ok n) : OkH n (execHeldReevaluate a1 a2 a3) := by
  unfold execHeldReevaluate
  refine act1_ok _ _ (fun s hs => ?_) ha3
  try dsimp only
  repeat' first
    | with_reducible assumption
    | intro _
    | (extract_lets +onlyGivenNames z; first | (refine State.Ok.cut (n := n) z ?_ ?_ <;> [(intro _; clear_value z); subst z]) | (refine State.Ok.cutPair (n := n) z ?_ ?_ <;> [(intro _; clear_value z); subst z]) | clear_value z)
    | with_reducible apply State.Ok.ite
    | with_reducible apply heldReevaluateEffect_ok
    | split

theorem trunkStateTimeoutEffect_ok (n : Mark) (a1 : State) (a2) (ha1 : a1.Ok n) : (trunkStateTimeoutEffect a1 a2).Ok n := by
  unfold trunkStateTimeoutEffect
  repeat' first
    | with_reducible assumption
    | intro _
    | (extract_lets +onlyGivenNames z; first | (refine State.Ok.cut (n := n) z ?_ ?_ <;> [(intro _; clear_value z); subst z]) | (refine State.Ok.cutPair (n := n) z ?_ ?_ <;> [(intro _; clear_value z); subst z]) | clear_value z)
    | with_reducible apply State.Ok.ite
    | with_reducible apply State.modTrain_ok
    | with_reducible apply State.eqBegin_ok
    | with_reducible apply State.sayReady_ok
    | with_reducible apply State.noteFree_ok
    | with_reducible apply State.trainFailed_ok
    | split

theorem execTrunkStateTimeout_ok (n : Mark) (a1) (a2) (a3 : State) (ha3 : a3.Ok n) : OkH n (execTrunkStateTimeout a1 a2 a3) := by
  unfold execTrunkStateTimeout
  refine act2_ok _ _ (fun s hs => ?_) ha3
  try dsimp only
  repeat' first
    | with_reducible assumption
    | intro _
    | (extract_lets +onlyGivenNames z; first | (refine State.Ok.cut (n := n) z ?_ ?_ <;> [(intro _; clear_value z); subst z]) | (refine State.Ok.cutPair (n := n) z ?_ ?_ <;> [(intro _; clear_value z); subst z]) | clear_value z)
    | with_reducible apply State.Ok.ite
    | with_reducible apply trunkStateTimeoutEffect_ok
    | split

theorem State.rewind_ok (n : Mark) (a1 : State) (a2) (ha1 : a1.Ok n) : (State.rewind a1 a2).Ok n := by
  unfold State.rewind
  repeat' first
    | with_reducible assumption
    | intro _
    | (extract_lets +onlyGivenNames z; first | (refine State.Ok.cut (n := n) z ?_ ?_ <;> [(intro _; clear_value z); subst z]) | (refine State.Ok.cutPair (n := n) z ?_ ?_ <;> [(intro _; clear_value z); subst z]) | clear_value z)
    | with_reducible apply State.Ok.ite
    | with_reducible apply State.modCore_ok
    | split

theorem State.releaseTo_ok (n : Mark) (a1 : State) (a2) (a3) (ha1 : a1.Ok n) : (State.releaseTo a1 a2 a3).Ok n := by
  unfold State.releaseTo
  repeat' first
    | with_reducible assumption
    | intro _
    | (extract_lets +onlyGivenNames z; first | (refine State.Ok.cut (n := n) z ?_ ?_ <;> [(intro _; clear_value z); subst z]) | (refine State.Ok.cutPair (n := n) z ?_ ?_ <;> [(intro _; clear_value z); subst z]) | clear_value z)
    | with_reducible apply State.Ok.ite
    | with_reducible apply State.each_ok
    | with_reducible apply State.dequeue_ok
    | with_reducible apply State.modTx_ok
    | split

theorem State.newEpoch_ok (n : Mark) (a1 : State) (a2) (a3) (ha1 : a1.Ok n) : (State.newEpoch a1 a2 a3).Ok n := by
  unfold State.newEpoch
  repeat' first
    | with_reducible assumption
    | intro _
    | (extract_lets +onlyGivenNames z; first | (refine State.Ok.cut (n := n) z ?_ ?_ <;> [(intro _; clear_value z); subst z]) | (refine State.Ok.cutPair (n := n) z ?_ ?_ <;> [(intro _; clear_value z); subst z]) | clear_value z)
    | with_reducible apply State.Ok.ite
    | with_reducible apply State.modTrunk_ok
    | split

theorem State.epochUp_ok (n : Mark) (a1 : State) (a2) (ha1 : a1.Ok n) : (State.epochUp a1 a2).Ok n := by
  unfold State.epochUp
  repeat' first
    | with_reducible assumption
    | intro _
    | (extract_lets +onlyGivenNames z; first | (refine State.Ok.cut (n := n) z ?_ ?_ <;> [(intro _; clear_value z); subst z]) | (refine State.Ok.cutPair (n := n) z ?_ ?_ <;> [(intro _; clear_value z); subst z]) | clear_value z)
    | with_reducible apply State.Ok.ite
    | with_reducible apply State.modTx_ok
    | with_reducible apply State.modAct_ok
    | with_reducible apply State.modCore_ok
    | with_reducible apply State.timeTrunkUp_ok
    | with_reducible apply State.trunkRouted_ok
    | with_reducible apply State.noteFree_ok
    | split

theorem linkInitExchangeEffect_ok (n : Mark) (a1 : State) (a2) (a3) (a4) (a5) (a6) (ha1 : a1.Ok n) : (linkInitExchangeEffect a1 a2 a3 a4 a5 a6).Ok n := by
  unfold linkInitExchangeEffect
  repeat' first
    | with_reducible assumption
    | intro _
    | (extract_lets +onlyGivenNames z; first | (refine State.Ok.cut (n := n) z ?_ ?_ <;> [(intro _; clear_value z); subst z]) | (refine State.Ok.cutPair (n := n) z ?_ ?_ <;> [(intro _; clear_value z); subst z]) | clear_value z)
    | with_reducible apply State.Ok.ite
    | with_reducible apply State.releaseTo_ok
    | with_reducible apply State.epochUp_ok
    | with_reducible apply State.newEpoch_ok
    | with_reducible apply State.rewind_ok
    | with_reducible apply foldl_ok
    | with_reducible apply foldlState_ok
    | split

theorem execLinkInitExchange_ok (n : Mark) (a1) (a2) (a3) (a4) (a5) (a6) (a7 : State) (ha7 : a7.Ok n) : OkH n (execLinkInitExchange a1 a2 a3 a4 a5 a6 a7) := by
  unfold execLinkInitExchange
  refine act1_ok _ _ (fun s hs => ?_) ha7
  try dsimp only
  repeat' first
    | with_reducible assumption
    | intro _
    | (extract_lets +onlyGivenNames z; first | (refine State.Ok.cut (n := n) z ?_ ?_ <;> [(intro _; clear_value z); subst z]) | (refine State.Ok.cutPair (n := n) z ?_ ?_ <;> [(intro _; clear_value z); subst z]) | clear_value z)
    | with_reducible apply State.Ok.ite
    | with_reducible apply linkInitExchangeEffect_ok
    | split

theorem State.nakEvent_ok (n : Mark) (a1 : State) (a2) (ha1 : a1.Ok n) : (State.nakEvent a1 a2).Ok n := by
  unfold State.nakEvent
  repeat' first
    | with_reducible assumption
    | intro _
    | (extract_lets +onlyGivenNames z; first | (refine State.Ok.cut (n := n) z ?_ ?_ <;> [(intro _; clear_value z); subst z]) | (refine State.Ok.cutPair (n := n) z ?_ ?_ <;> [(intro _; clear_value z); subst z]) | clear_value z)
    | with_reducible apply State.Ok.ite
    | with_reducible apply State.countTwig_ok
    | with_reducible apply State.modRx_ok
    | split

theorem nakRepeatEffect_ok (n : Mark) (a1 : State) (a2) (ha1 : a1.Ok n) : (nakRepeatEffect a1 a2).Ok n := by
  unfold nakRepeatEffect
  repeat' first
    | with_reducible assumption
    | intro _
    | (extract_lets +onlyGivenNames z; first | (refine State.Ok.cut (n := n) z ?_ ?_ <;> [(intro _; clear_value z); subst z]) | (refine State.Ok.cutPair (n := n) z ?_ ?_ <;> [(intro _; clear_value z); subst z]) | clear_value z)
    | with_reducible apply State.Ok.ite
    | with_reducible apply State.nakEvent_ok
    | with_reducible apply State.modRx_ok
    | split

theorem execNakRepeat_ok (n : Mark) (a1) (a2) (a3 : State) (ha3 : a3.Ok n) : OkH n (execNakRepeat a1 a2 a3) := by
  unfold execNakRepeat
  refine act1_ok _ _ (fun s hs => ?_) ha3
  try dsimp only
  repeat' first
    | with_reducible assumption
    | intro _
    | (extract_lets +onlyGivenNames z; first | (refine State.Ok.cut (n := n) z ?_ ?_ <;> [(intro _; clear_value z); subst z]) | (refine State.Ok.cutPair (n := n) z ?_ ?_ <;> [(intro _; clear_value z); subst z]) | clear_value z)
    | with_reducible apply State.Ok.ite
    | with_reducible apply nakRepeatEffect_ok
    | split

theorem State.startReplay_ok (n : Mark) (a1 : State) (a2) (a3) (ha1 : a1.Ok n) : (State.startReplay a1 a2 a3).Ok n := by
  unfold State.startReplay
  repeat' first
    | with_reducible assumption
    | intro _
    | (extract_lets +onlyGivenNames z; first | (refine State.Ok.cut (n := n) z ?_ ?_ <;> [(intro _; clear_value z); subst z]) | (refine State.Ok.cutPair (n := n) z ?_ ?_ <;> [(intro _; clear_value z); subst z]) | clear_value z)
    | with_reducible apply State.Ok.ite
    | with_reducible apply State.modTx_ok
    | with_reducible apply State.noteFree_ok
    | with_reducible apply State.countTwig_ok
    | with_reducible apply State.trunkRetrain_ok
    | split

theorem replayTimerEffect_ok (n : Mark) (a1 : State) (a2) (ha1 : a1.Ok n) : (replayTimerEffect a1 a2).Ok n := by
  unfold replayTimerEffect
  repeat' first
    | with_reducible assumption
    | intro _
    | (extract_lets +onlyGivenNames z; first | (refine State.Ok.cut (n := n) z ?_ ?_ <;> [(intro _; clear_value z); subst z]) | (refine State.Ok.cutPair (n := n) z ?_ ?_ <;> [(intro _; clear_value z); subst z]) | clear_value z)
    | with_reducible apply State.Ok.ite
    | with_reducible apply State.startReplay_ok
    | split

theorem execReplayTimer_ok (n : Mark) (a1) (a2) (a3 : State) (ha3 : a3.Ok n) : OkH n (execReplayTimer a1 a2 a3) := by
  unfold execReplayTimer
  refine act2_ok _ _ (fun s hs => ?_) ha3
  try dsimp only
  repeat' first
    | with_reducible assumption
    | intro _
    | (extract_lets +onlyGivenNames z; first | (refine State.Ok.cut (n := n) z ?_ ?_ <;> [(intro _; clear_value z); subst z]) | (refine State.Ok.cutPair (n := n) z ?_ ?_ <;> [(intro _; clear_value z); subst z]) | clear_value z)
    | with_reducible apply State.Ok.ite
    | with_reducible apply replayTimerEffect_ok
    | split

theorem State.fuViolation_ok (n : Mark) (a1 : State) (a2) (a3) (a4) (ha1 : a1.Ok n) : (State.fuViolation a1 a2 a3 a4).Ok n := by
  unfold State.fuViolation
  repeat' first
    | with_reducible assumption
    | intro _
    | (extract_lets +onlyGivenNames z; first | (refine State.Ok.cut (n := n) z ?_ ?_ <;> [(intro _; clear_value z); subst z]) | (refine State.Ok.cutPair (n := n) z ?_ ?_ <;> [(intro _; clear_value z); subst z]) | clear_value z)
    | with_reducible apply State.Ok.ite
    | with_reducible apply State.nakEvent_ok
    | with_reducible apply State.logEntry_ok
    | with_reducible apply State.noteFree_ok
    | with_reducible apply State.modRx_ok
    | with_reducible apply State.trunkRetrain_ok
    | with_reducible apply State.note_ok
    | with_reducible apply State.contain_ok
    | split

theorem trunkLinkLossEffect_ok (n : Mark) (a1 : State) (a2) (ha1 : a1.Ok n) : (trunkLinkLossEffect a1 a2).Ok n := by
  unfold trunkLinkLossEffect
  repeat' first
    | with_reducible assumption
    | intro _
    | (extract_lets +onlyGivenNames z; first | (refine State.Ok.cut (n := n) z ?_ ?_ <;> [(intro _; clear_value z); subst z]) | (refine State.Ok.cutPair (n := n) z ?_ ?_ <;> [(intro _; clear_value z); subst z]) | clear_value z)
    | with_reducible apply State.Ok.ite
    | with_reducible apply State.trunkRetrain_ok
    | split

theorem execTrunkLinkLoss_ok (n : Mark) (a1) (a2) (a3 : State) (ha3 : a3.Ok n) : OkH n (execTrunkLinkLoss a1 a2 a3) := by
  unfold execTrunkLinkLoss
  refine act2_ok _ _ (fun s hs => ?_) ha3
  try dsimp only
  repeat' first
    | with_reducible assumption
    | intro _
    | (extract_lets +onlyGivenNames z; first | (refine State.Ok.cut (n := n) z ?_ ?_ <;> [(intro _; clear_value z); subst z]) | (refine State.Ok.cutPair (n := n) z ?_ ?_ <;> [(intro _; clear_value z); subst z]) | clear_value z)
    | with_reducible apply State.Ok.ite
    | with_reducible apply trunkLinkLossEffect_ok
    | split

theorem tpRetrainEffect_ok (n : Mark) (a1 : State) (a2) (a3) (ha1 : a1.Ok n) : (tpRetrainEffect a1 a2 a3).Ok n := by
  unfold tpRetrainEffect
  repeat' first
    | with_reducible assumption
    | intro _
    | (extract_lets +onlyGivenNames z; first | (refine State.Ok.cut (n := n) z ?_ ?_ <;> [(intro _; clear_value z); subst z]) | (refine State.Ok.cutPair (n := n) z ?_ ?_ <;> [(intro _; clear_value z); subst z]) | clear_value z)
    | with_reducible apply State.Ok.ite
    | with_reducible apply State.trunkRetrain_ok
    | split

theorem execTpRetrain_ok (n : Mark) (a1) (a2) (a3) (a4 : State) (ha4 : a4.Ok n) : OkH n (execTpRetrain a1 a2 a3 a4) := by
  unfold execTpRetrain
  refine act1_ok _ _ (fun s hs => ?_) ha4
  try dsimp only
  repeat' first
    | with_reducible assumption
    | intro _
    | (extract_lets +onlyGivenNames z; first | (refine State.Ok.cut (n := n) z ?_ ?_ <;> [(intro _; clear_value z); subst z]) | (refine State.Ok.cutPair (n := n) z ?_ ?_ <;> [(intro _; clear_value z); subst z]) | clear_value z)
    | with_reducible apply State.Ok.ite
    | with_reducible apply tpRetrainEffect_ok
    | split

theorem rekeyOfferSendEffect_ok (n : Mark) (a1 : State) (a2) (ha1 : a1.Ok n) : (rekeyOfferSendEffect a1 a2).Ok n := by
  unfold rekeyOfferSendEffect
  repeat' first
    | with_reducible assumption
    | intro _
    | (extract_lets +onlyGivenNames z; first | (refine State.Ok.cut (n := n) z ?_ ?_ <;> [(intro _; clear_value z); subst z]) | (refine State.Ok.cutPair (n := n) z ?_ ?_ <;> [(intro _; clear_value z); subst z]) | clear_value z)
    | with_reducible apply State.Ok.ite
    | with_reducible apply State.modTx_ok
    | with_reducible apply State.drew_ok
    | split

theorem execRekeyOfferSend_ok (n : Mark) (a1) (a2) (a3 : State) (ha3 : a3.Ok n) : OkH n (execRekeyOfferSend a1 a2 a3) := by
  unfold execRekeyOfferSend
  refine act1_ok _ _ (fun s hs => ?_) ha3
  try dsimp only
  repeat' first
    | with_reducible assumption
    | intro _
    | (extract_lets +onlyGivenNames z; first | (refine State.Ok.cut (n := n) z ?_ ?_ <;> [(intro _; clear_value z); subst z]) | (refine State.Ok.cutPair (n := n) z ?_ ?_ <;> [(intro _; clear_value z); subst z]) | clear_value z)
    | with_reducible apply State.Ok.ite
    | with_reducible apply rekeyOfferSendEffect_ok
    | split

theorem rekeyOfferEffect_ok (n : Mark) (a1 : State) (a2) (a3) (a4) (ha1 : a1.Ok n) : (rekeyOfferEffect a1 a2 a3 a4).Ok n := by
  unfold rekeyOfferEffect
  repeat' first
    | with_reducible assumption
    | intro _
    | (extract_lets +onlyGivenNames z; first | (refine State.Ok.cut (n := n) z ?_ ?_ <;> [(intro _; clear_value z); subst z]) | (refine State.Ok.cutPair (n := n) z ?_ ?_ <;> [(intro _; clear_value z); subst z]) | clear_value z)
    | with_reducible apply State.Ok.ite
    | with_reducible apply State.fuViolation_ok
    | with_reducible apply State.modTrunk_ok
    | with_reducible apply State.drew_ok
    | split

theorem execRekeyOffer_ok (n : Mark) (a1) (a2) (a3) (a4) (a5 : State) (ha5 : a5.Ok n) : OkH n (execRekeyOffer a1 a2 a3 a4 a5) := by
  unfold execRekeyOffer
  refine act2_ok _ _ (fun s hs => ?_) ha5
  try dsimp only
  repeat' first
    | with_reducible assumption
    | intro _
    | (extract_lets +onlyGivenNames z; first | (refine State.Ok.cut (n := n) z ?_ ?_ <;> [(intro _; clear_value z); subst z]) | (refine State.Ok.cutPair (n := n) z ?_ ?_ <;> [(intro _; clear_value z); subst z]) | clear_value z)
    | with_reducible apply State.Ok.ite
    | with_reducible apply rekeyOfferEffect_ok
    | split

theorem rekeyAcceptEffect_ok (n : Mark) (a1 : State) (a2) (a3) (a4) (ha1 : a1.Ok n) : (rekeyAcceptEffect a1 a2 a3 a4).Ok n := by
  unfold rekeyAcceptEffect
  repeat' first
    | with_reducible assumption
    | intro _
    | (extract_lets +onlyGivenNames z; first | (refine State.Ok.cut (n := n) z ?_ ?_ <;> [(intro _; clear_value z); subst z]) | (refine State.Ok.cutPair (n := n) z ?_ ?_ <;> [(intro _; clear_value z); subst z]) | clear_value z)
    | with_reducible apply State.Ok.ite
    | with_reducible apply State.fuViolation_ok
    | with_reducible apply State.modTrunk_ok
    | split

theorem execRekeyAccept_ok (n : Mark) (a1) (a2) (a3) (a4) (a5 : State) (ha5 : a5.Ok n) : OkH n (execRekeyAccept a1 a2 a3 a4 a5) := by
  unfold execRekeyAccept
  refine act2_ok _ _ (fun s hs => ?_) ha5
  try dsimp only
  repeat' first
    | with_reducible assumption
    | intro _
    | (extract_lets +onlyGivenNames z; first | (refine State.Ok.cut (n := n) z ?_ ?_ <;> [(intro _; clear_value z); subst z]) | (refine State.Ok.cutPair (n := n) z ?_ ?_ <;> [(intro _; clear_value z); subst z]) | clear_value z)
    | with_reducible apply State.Ok.ite
    | with_reducible apply rekeyAcceptEffect_ok
    | split

theorem keyPhaseToggleEffect_ok (n : Mark) (a1 : State) (a2) (ha1 : a1.Ok n) : (keyPhaseToggleEffect a1 a2).Ok n := by
  unfold keyPhaseToggleEffect
  repeat' first
    | with_reducible assumption
    | intro _
    | (extract_lets +onlyGivenNames z; first | (refine State.Ok.cut (n := n) z ?_ ?_ <;> [(intro _; clear_value z); subst z]) | (refine State.Ok.cutPair (n := n) z ?_ ?_ <;> [(intro _; clear_value z); subst z]) | clear_value z)
    | with_reducible apply State.Ok.ite
    | with_reducible apply State.modTx_ok
    | with_reducible apply State.trunkRetrain_ok
    | with_reducible apply State.noteFree_ok
    | split

theorem execKeyPhaseToggle_ok (n : Mark) (a1) (a2) (a3 : State) (ha3 : a3.Ok n) : OkH n (execKeyPhaseToggle a1 a2 a3) := by
  unfold execKeyPhaseToggle
  refine act2_ok _ _ (fun s hs => ?_) ha3
  try dsimp only
  repeat' first
    | with_reducible assumption
    | intro _
    | (extract_lets +onlyGivenNames z; first | (refine State.Ok.cut (n := n) z ?_ ?_ <;> [(intro _; clear_value z); subst z]) | (refine State.Ok.cutPair (n := n) z ?_ ?_ <;> [(intro _; clear_value z); subst z]) | clear_value z)
    | with_reducible apply State.Ok.ite
    | with_reducible apply keyPhaseToggleEffect_ok
    | split

theorem fateQueryEffect_ok (n : Mark) (a1 : State) (a2) (a3) (a4) (a5) (ha1 : a1.Ok n) : (fateQueryEffect a1 a2 a3 a4 a5).Ok n := by
  unfold fateQueryEffect
  repeat' first
    | with_reducible assumption
    | intro _
    | (extract_lets +onlyGivenNames z; first | (refine State.Ok.cut (n := n) z ?_ ?_ <;> [(intro _; clear_value z); subst z]) | (refine State.Ok.cutPair (n := n) z ?_ ?_ <;> [(intro _; clear_value z); subst z]) | clear_value z)
    | with_reducible apply State.Ok.ite
    | with_reducible apply State.contradicts_ok
    | with_reducible apply State.answerQueries_ok
    | with_reducible apply State.modRx_ok
    | split

theorem execFateQuery_ok (n : Mark) (a1) (a2) (a3) (a4) (a5) (a6 : State) (ha6 : a6.Ok n) : OkH n (execFateQuery a1 a2 a3 a4 a5 a6) := by
  unfold execFateQuery
  refine act2_ok _ _ (fun s hs => ?_) ha6
  try dsimp only
  repeat' first
    | with_reducible assumption
    | intro _
    | (extract_lets +onlyGivenNames z; first | (refine State.Ok.cut (n := n) z ?_ ?_ <;> [(intro _; clear_value z); subst z]) | (refine State.Ok.cutPair (n := n) z ?_ ?_ <;> [(intro _; clear_value z); subst z]) | clear_value z)
    | with_reducible apply State.Ok.ite
    | with_reducible apply fateQueryEffect_ok
    | split

theorem fateQueryHoldExpireEffect_ok (n : Mark) (a1 : State) (a2) (ha1 : a1.Ok n) : (fateQueryHoldExpireEffect a1 a2).Ok n := by
  unfold fateQueryHoldExpireEffect
  repeat' first
    | with_reducible assumption
    | intro _
    | (extract_lets +onlyGivenNames z; first | (refine State.Ok.cut (n := n) z ?_ ?_ <;> [(intro _; clear_value z); subst z]) | (refine State.Ok.cutPair (n := n) z ?_ ?_ <;> [(intro _; clear_value z); subst z]) | clear_value z)
    | with_reducible apply State.Ok.ite
    | with_reducible apply State.trunkRetrain_ok
    | with_reducible apply State.answerQueries_ok
    | split

theorem execFateQueryHoldExpire_ok (n : Mark) (a1) (a2) (a3 : State) (ha3 : a3.Ok n) : OkH n (execFateQueryHoldExpire a1 a2 a3) := by
  unfold execFateQueryHoldExpire
  refine act2_ok _ _ (fun s hs => ?_) ha3
  try dsimp only
  repeat' first
    | with_reducible assumption
    | intro _
    | (extract_lets +onlyGivenNames z; first | (refine State.Ok.cut (n := n) z ?_ ?_ <;> [(intro _; clear_value z); subst z]) | (refine State.Ok.cutPair (n := n) z ?_ ?_ <;> [(intro _; clear_value z); subst z]) | clear_value z)
    | with_reducible apply State.Ok.ite
    | with_reducible apply fateQueryHoldExpireEffect_ok
    | split

theorem fateQueryResendEffect_ok (n : Mark) (a1 : State) (a2) (ha1 : a1.Ok n) : (fateQueryResendEffect a1 a2).Ok n := by
  unfold fateQueryResendEffect
  repeat' first
    | with_reducible assumption
    | intro _
    | (extract_lets +onlyGivenNames z; first | (refine State.Ok.cut (n := n) z ?_ ?_ <;> [(intro _; clear_value z); subst z]) | (refine State.Ok.cutPair (n := n) z ?_ ?_ <;> [(intro _; clear_value z); subst z]) | clear_value z)
    | with_reducible apply State.Ok.ite
    | with_reducible apply State.sendFateQuery_ok
    | split

theorem execFateQueryResend_ok (n : Mark) (a1) (a2) (a3 : State) (ha3 : a3.Ok n) : OkH n (execFateQueryResend a1 a2 a3) := by
  unfold execFateQueryResend
  refine act1_ok _ _ (fun s hs => ?_) ha3
  try dsimp only
  repeat' first
    | with_reducible assumption
    | intro _
    | (extract_lets +onlyGivenNames z; first | (refine State.Ok.cut (n := n) z ?_ ?_ <;> [(intro _; clear_value z); subst z]) | (refine State.Ok.cutPair (n := n) z ?_ ?_ <;> [(intro _; clear_value z); subst z]) | clear_value z)
    | with_reducible apply State.Ok.ite
    | with_reducible apply fateQueryResendEffect_ok
    | split

theorem State.moveDesc_ok (n : Mark) (a1 : State) (a2) (ha1 : a1.Ok n) : (State.moveDesc a1 a2).Ok n := by
  unfold State.moveDesc
  repeat' first
    | with_reducible assumption
    | intro _
    | (extract_lets +onlyGivenNames z; first | (refine State.Ok.cut (n := n) z ?_ ?_ <;> [(intro _; clear_value z); subst z]) | (refine State.Ok.cutPair (n := n) z ?_ ?_ <;> [(intro _; clear_value z); subst z]) | clear_value z)
    | with_reducible apply State.Ok.ite
    | with_reducible apply State.modDesc_ok
    | with_reducible apply State.modFabric_ok
    | split

theorem State.handover_ok (n : Mark) (a1 : State) (a2) (a3) (a4) (ha1 : a1.Ok n) : (State.handover a1 a2 a3 a4).Ok n := by
  unfold State.handover
  repeat' first
    | with_reducible assumption
    | intro _
    | (extract_lets +onlyGivenNames z; first | (refine State.Ok.cut (n := n) z ?_ ?_ <;> [(intro _; clear_value z); subst z]) | (refine State.Ok.cutPair (n := n) z ?_ ?_ <;> [(intro _; clear_value z); subst z]) | clear_value z)
    | with_reducible apply State.Ok.ite
    | with_reducible apply State.rewind_ok
    | with_reducible apply State.releaseTo_ok
    | with_reducible apply State.modCore_ok
    | with_reducible apply State.each_ok
    | with_reducible apply State.moveDesc_ok
    | with_reducible apply State.modTx_ok
    | with_reducible apply State.controlTo_ok
    | with_reducible apply State.noteFree_ok
    | split

theorem fateAnswerEffect_ok (n : Mark) (a1 : State) (a2) (a3) (a4) (a5) (ha1 : a1.Ok n) : (fateAnswerEffect a1 a2 a3 a4 a5).Ok n := by
  unfold fateAnswerEffect
  repeat' first
    | with_reducible assumption
    | intro _
    | (extract_lets +onlyGivenNames z; first | (refine State.Ok.cut (n := n) z ?_ ?_ <;> [(intro _; clear_value z); subst z]) | (refine State.Ok.cutPair (n := n) z ?_ ?_ <;> [(intro _; clear_value z); subst z]) | clear_value z)
    | with_reducible apply State.Ok.ite
    | with_reducible apply State.handover_ok
    | split

theorem execFateAnswer_ok (n : Mark) (a1) (a2) (a3) (a4) (a5) (a6) (a7 : State) (ha7 : a7.Ok n) : OkH n (execFateAnswer a1 a2 a3 a4 a5 a6 a7) := by
  unfold execFateAnswer
  refine act1_ok _ _ (fun s hs => ?_) ha7
  try dsimp only
  repeat' first
    | with_reducible assumption
    | intro _
    | (extract_lets +onlyGivenNames z; first | (refine State.Ok.cut (n := n) z ?_ ?_ <;> [(intro _; clear_value z); subst z]) | (refine State.Ok.cutPair (n := n) z ?_ ?_ <;> [(intro _; clear_value z); subst z]) | clear_value z)
    | with_reducible apply State.Ok.ite
    | with_reducible apply fateAnswerEffect_ok
    | split

theorem trunkDiscardEffect_ok (n : Mark) (a1 : State) (a2) (ha1 : a1.Ok n) : (trunkDiscardEffect a1 a2).Ok n := by
  unfold trunkDiscardEffect
  repeat' first
    | with_reducible assumption
    | intro _
    | (extract_lets +onlyGivenNames z; first | (refine State.Ok.cut (n := n) z ?_ ?_ <;> [(intro _; clear_value z); subst z]) | (refine State.Ok.cutPair (n := n) z ?_ ?_ <;> [(intro _; clear_value z); subst z]) | clear_value z)
    | with_reducible apply State.Ok.ite
    | with_reducible apply State.discardTrunk_ok
    | split

theorem execTrunkDiscard_ok (n : Mark) (a1) (a2) (a3 : State) (ha3 : a3.Ok n) : OkH n (execTrunkDiscard a1 a2 a3) := by
  unfold execTrunkDiscard
  refine act2_ok _ _ (fun s hs => ?_) ha3
  try dsimp only
  repeat' first
    | with_reducible assumption
    | intro _
    | (extract_lets +onlyGivenNames z; first | (refine State.Ok.cut (n := n) z ?_ ?_ <;> [(intro _; clear_value z); subst z]) | (refine State.Ok.cutPair (n := n) z ?_ ?_ <;> [(intro _; clear_value z); subst z]) | clear_value z)
    | with_reducible apply State.Ok.ite
    | with_reducible apply trunkDiscardEffect_ok
    | split

end Sys2Proof.Machine
end

