-- ==== Sys2Proof/Laws/KeepWire.lean ====
section
/-! SUPPORT. Every operation of Wire.lean keeps the invariant, and the local count does not run back. -/

set_option linter.all false

namespace Sys2Proof.Machine

theorem State.lineOut_ok (n : Mark) (a1 : State) (a2) (a3) (ha1 : a1.Ok n) : (State.lineOut a1 a2 a3).Ok n := by
  unfold State.lineOut
  repeat' first
    | with_reducible assumption
    | intro _
    | (extract_lets +onlyGivenNames z; first | (refine State.Ok.cut (n := n) z ?_ ?_ <;> [(intro _; clear_value z); subst z]) | (refine State.Ok.cutPair (n := n) z ?_ ?_ <;> [(intro _; clear_value z); subst z]) | clear_value z)
    | with_reducible apply State.Ok.ite
    | with_reducible apply State.emitAll_ok
    | with_reducible apply State.modTrunk_ok
    | split

theorem State.transmit_ok (n : Mark) (a1 : State) (a2) (a3) (a4) (a5) (ha1 : a1.Ok n) : (State.transmit a1 a2 a3 a4 a5).Ok n := by
  unfold State.transmit
  repeat' first
    | with_reducible assumption
    | intro _
    | (extract_lets +onlyGivenNames z; first | (refine State.Ok.cut (n := n) z ?_ ?_ <;> [(intro _; clear_value z); subst z]) | (refine State.Ok.cutPair (n := n) z ?_ ?_ <;> [(intro _; clear_value z); subst z]) | clear_value z)
    | with_reducible apply State.Ok.ite
    | with_reducible apply State.modTrunk_ok
    | with_reducible apply State.lineOut_ok
    | with_reducible apply State.emit_ok
    | split

theorem State.sendNew_ok (n : Mark) (a1 : State) (a2) (a3) (a4) (a5) (a6) (ha1 : a1.Ok n) : (State.sendNew a1 a2 a3 a4 a5 a6).Ok n := by
  unfold State.sendNew
  repeat' first
    | with_reducible assumption
    | intro _
    | (extract_lets +onlyGivenNames z; first | (refine State.Ok.cut (n := n) z ?_ ?_ <;> [(intro _; clear_value z); subst z]) | (refine State.Ok.cutPair (n := n) z ?_ ?_ <;> [(intro _; clear_value z); subst z]) | clear_value z)
    | with_reducible apply State.Ok.ite
    | with_reducible apply State.transmit_ok
    | with_reducible apply State.modTx_ok
    | with_reducible apply State.countTwig_ok
    | split

theorem State.sendCtl_ok (n : Mark) (a1 : State) (a2) (a3) (ha1 : a1.Ok n) : (State.sendCtl a1 a2 a3).Ok n := by
  unfold State.sendCtl
  repeat' first
    | with_reducible assumption
    | intro _
    | (extract_lets +onlyGivenNames z; first | (refine State.Ok.cut (n := n) z ?_ ?_ <;> [(intro _; clear_value z); subst z]) | (refine State.Ok.cutPair (n := n) z ?_ ?_ <;> [(intro _; clear_value z); subst z]) | clear_value z)
    | with_reducible apply State.Ok.ite
    | with_reducible apply State.sendNew_ok
    | split

theorem State.flushNotice_ok (n : Mark) (a1 : State) (ha1 : a1.Ok n) : (State.flushNotice a1).Ok n := by
  unfold State.flushNotice
  repeat' first
    | with_reducible assumption
    | intro _
    | (extract_lets +onlyGivenNames z; first | (refine State.Ok.cut (n := n) z ?_ ?_ <;> [(intro _; clear_value z); subst z]) | (refine State.Ok.cutPair (n := n) z ?_ ?_ <;> [(intro _; clear_value z); subst z]) | clear_value z)
    | with_reducible apply State.Ok.ite
    | with_reducible apply State.each_ok
    | with_reducible apply State.modTx_ok
    | with_reducible apply State.sendCtl_ok
    | split

theorem State.sendIdle_ok (n : Mark) (a1 : State) (a2) (ha1 : a1.Ok n) : (State.sendIdle a1 a2).Ok n := by
  unfold State.sendIdle
  repeat' first
    | with_reducible assumption
    | intro _
    | (extract_lets +onlyGivenNames z; first | (refine State.Ok.cut (n := n) z ?_ ?_ <;> [(intro _; clear_value z); subst z]) | (refine State.Ok.cutPair (n := n) z ?_ ?_ <;> [(intro _; clear_value z); subst z]) | clear_value z)
    | with_reducible apply State.Ok.ite
    | with_reducible apply State.countTwig_ok
    | with_reducible apply State.transmit_ok
    | split

end Sys2Proof.Machine
end

