-- ==== Sys2Proof/Laws/KeepJournal.lean ====
section
/-! SUPPORT. Every operation of Journal.lean keeps the invariant, and the local count does not run back. -/

set_option linter.all false

namespace Sys2Proof.Machine

theorem State.flashProgram_ok (n : Mark) (a1 : State) (a2) (a3) (ha1 : a1.Ok n) : (State.flashProgram a1 a2 a3).Ok n := by
  unfold State.flashProgram
  repeat' first
    | with_reducible assumption
    | intro _
    | (extract_lets +onlyGivenNames z; first | (refine State.Ok.cut (n := n) z ?_ ?_ <;> [(intro _; clear_value z); subst z]) | (refine State.Ok.cutPair (n := n) z ?_ ?_ <;> [(intro _; clear_value z); subst z]) | clear_value z)
    | with_reducible apply State.Ok.ite
    | (with_reducible refine State.modJournal_ok _ rfl ?_)
    | with_reducible apply State.noteFree_ok
    | split

theorem State.jWhole_ok (n : Mark) (a1 : State) (a2) (ha1 : a1.Ok n) : (State.jWhole a1 a2).Ok n := by
  unfold State.jWhole
  repeat' first
    | with_reducible assumption
    | intro _
    | (extract_lets +onlyGivenNames z; first | (refine State.Ok.cut (n := n) z ?_ ?_ <;> [(intro _; clear_value z); subst z]) | (refine State.Ok.cutPair (n := n) z ?_ ?_ <;> [(intro _; clear_value z); subst z]) | clear_value z)
    | with_reducible apply State.Ok.ite
    | (with_reducible refine State.modJournal_ok _ rfl ?_)
    | with_reducible apply State.modTime_ok
    | with_reducible apply State.countHeart_ok
    | split

theorem State.jNow_ok (n : Mark) (a1 : State) (a2) (ha1 : a1.Ok n) : (State.jNow a1 a2).Ok n := by
  unfold State.jNow
  repeat' first
    | with_reducible assumption
    | intro _
    | (extract_lets +onlyGivenNames z; first | (refine State.Ok.cut (n := n) z ?_ ?_ <;> [(intro _; clear_value z); subst z]) | (refine State.Ok.cutPair (n := n) z ?_ ?_ <;> [(intro _; clear_value z); subst z]) | clear_value z)
    | with_reducible apply State.Ok.ite
    | with_reducible apply State.jAppend_ok
    | with_reducible apply State.each_ok
    | (with_reducible refine State.modJournal_ok _ rfl ?_)
    | with_reducible apply State.jWhole_ok
    | split

theorem State.setJ_ok (n : Mark) (a1 : State) (a2) (a3) (ha1 : a1.Ok n) : (State.setJ a1 a2 a3).Ok n := by
  unfold State.setJ
  repeat' first
    | with_reducible assumption
    | intro _
    | (extract_lets +onlyGivenNames z; first | (refine State.Ok.cut (n := n) z ?_ ?_ <;> [(intro _; clear_value z); subst z]) | (refine State.Ok.cutPair (n := n) z ?_ ?_ <;> [(intro _; clear_value z); subst z]) | clear_value z)
    | with_reducible apply State.Ok.ite
    | with_reducible apply State.set_ok
    | with_reducible apply State.jAppend_ok
    | split

theorem State.requeue_ok (n : Mark) (a1 : State) (a2) (ha1 : a1.Ok n) : (State.requeue a1 a2).Ok n := by
  unfold State.requeue
  repeat' first
    | with_reducible assumption
    | intro _
    | (extract_lets +onlyGivenNames z; first | (refine State.Ok.cut (n := n) z ?_ ?_ <;> [(intro _; clear_value z); subst z]) | (refine State.Ok.cutPair (n := n) z ?_ ?_ <;> [(intro _; clear_value z); subst z]) | clear_value z)
    | with_reducible apply State.Ok.ite
    | (with_reducible refine State.OkO.get (State.actPut_ok _ _ _ _ _ _ _ ?_ ) (by with_reducible assumption))
    | with_reducible apply State.actPut_ok
    | with_reducible apply State.modBocel_ok
    | with_reducible apply State.actMark_ok
    | with_reducible exact State.OkO.none_
    | with_reducible apply State.OkO.ite_
    | with_reducible apply State.OkO.some_
    | with_reducible apply State.OkO.getD
    | with_reducible apply State.OkO.mapPair
    | split

theorem State.requeueGraft_ok (n : Mark) (a1 : State) (ha1 : a1.Ok n) : (State.requeueGraft a1).Ok n := by
  unfold State.requeueGraft
  repeat' first
    | with_reducible assumption
    | intro _
    | (extract_lets +onlyGivenNames z; first | (refine State.Ok.cut (n := n) z ?_ ?_ <;> [(intro _; clear_value z); subst z]) | (refine State.Ok.cutPair (n := n) z ?_ ?_ <;> [(intro _; clear_value z); subst z]) | clear_value z)
    | with_reducible apply State.Ok.ite
    | (with_reducible refine State.OkO.get (State.actPut_ok _ _ _ _ _ _ _ ?_ ) (by with_reducible assumption))
    | with_reducible apply State.actPut_ok
    | (with_reducible refine State.modJournal_ok _ rfl ?_)
    | with_reducible apply State.actMark_ok
    | with_reducible exact State.OkO.none_
    | with_reducible apply State.OkO.ite_
    | with_reducible apply State.OkO.some_
    | with_reducible apply State.OkO.getD
    | with_reducible apply State.OkO.mapPair
    | split

theorem State.wakeParts_ok (n : Mark) (a1 : State) (ha1 : a1.Ok n) : (State.wakeParts a1).Ok n := by
  unfold State.wakeParts
  repeat' first
    | with_reducible assumption
    | intro _
    | (extract_lets +onlyGivenNames z; first | (refine State.Ok.cut (n := n) z ?_ ?_ <;> [(intro _; clear_value z); subst z]) | (refine State.Ok.cutPair (n := n) z ?_ ?_ <;> [(intro _; clear_value z); subst z]) | clear_value z)
    | with_reducible apply State.Ok.ite
    | with_reducible apply State.each_ok
    | with_reducible apply State.modPart_ok
    | with_reducible apply State.modShared_ok
    | split

theorem State.replayJournal_ok (n : Mark) (a1 : State) (ha1 : a1.Ok n) : (State.replayJournal a1).Ok n := by
  unfold State.replayJournal
  repeat' first
    | with_reducible assumption
    | intro _
    | (extract_lets +onlyGivenNames z; first | (refine State.Ok.cut (n := n) z ?_ ?_ <;> [(intro _; clear_value z); subst z]) | (refine State.Ok.cutPair (n := n) z ?_ ?_ <;> [(intro _; clear_value z); subst z]) | clear_value z)
    | with_reducible apply State.Ok.ite
    | with_reducible apply State.each_ok
    | with_reducible apply State.requeue_ok
    | with_reducible apply State.requeueGraft_ok
    | (with_reducible refine State.OkO.get (State.actPut_ok _ _ _ _ _ _ _ ?_ ) (by with_reducible assumption))
    | with_reducible apply State.actPut_ok
    | with_reducible apply State.modBocel_ok
    | with_reducible apply State.wakeParts_ok
    | (with_reducible refine State.dict_ok _ (dictWf_replay _ (State.Ok.base (n := n) ?_)) ?_)
    | with_reducible exact State.OkO.none_
    | with_reducible apply State.OkO.ite_
    | with_reducible apply State.OkO.some_
    | with_reducible apply State.OkO.getD
    | with_reducible apply State.OkO.mapPair
    | split
    | (with_reducible refine State.Ok.lit _ _ _ _ _ _ _ _ _ _ _ _ _ _ _ _ _ rfl rfl rfl rfl rfl rfl ?_)

theorem State.newSealKey_ok (n : Mark) (a1 : State) (ha1 : a1.Ok n) : (State.newSealKey a1).Ok n := by
  unfold State.newSealKey
  repeat' first
    | with_reducible assumption
    | intro _
    | (extract_lets +onlyGivenNames z; first | (refine State.Ok.cut (n := n) z ?_ ?_ <;> [(intro _; clear_value z); subst z]) | (refine State.Ok.cutPair (n := n) z ?_ ?_ <;> [(intro _; clear_value z); subst z]) | clear_value z)
    | with_reducible apply State.Ok.ite
    | (with_reducible refine State.modJournal_ok _ rfl ?_)
    | with_reducible apply State.drew_ok
    | split

theorem State.newJournal_ok (n : Mark) (a1 : State) (ha1 : a1.Ok n) : (State.newJournal a1).Ok n := by
  unfold State.newJournal
  exact State.newSealKey_ok _ _ (State.journal_ok _ (fun _ => rfl) ha1)

theorem State.truncateJournal_ok (n : Mark) (a1 : State) (a2) (a3) (ha1 : a1.Ok n) : (State.truncateJournal a1 a2 a3).Ok n := by
  unfold State.truncateJournal
  repeat' first
    | with_reducible assumption
    | intro _
    | (extract_lets +onlyGivenNames z; first | (refine State.Ok.cut (n := n) z ?_ ?_ <;> [(intro _; clear_value z); subst z]) | (refine State.Ok.cutPair (n := n) z ?_ ?_ <;> [(intro _; clear_value z); subst z]) | clear_value z)
    | with_reducible apply State.Ok.ite
    | (with_reducible refine State.modJournal_ok _ rfl ?_)
    | with_reducible apply State.noteAt_ok
    | with_reducible apply foldl_ok
    | with_reducible apply foldlState_ok
    | split

theorem State.finishRecord_ok (n : Mark) (a1 : State) (ha1 : a1.Ok n) : (State.finishRecord a1).Ok n := by
  unfold State.finishRecord
  repeat' first
    | with_reducible assumption
    | intro _
    | (extract_lets +onlyGivenNames z; first | (refine State.Ok.cut (n := n) z ?_ ?_ <;> [(intro _; clear_value z); subst z]) | (refine State.Ok.cutPair (n := n) z ?_ ?_ <;> [(intro _; clear_value z); subst z]) | clear_value z)
    | with_reducible apply State.Ok.ite
    | with_reducible apply State.drew_ok
    | with_reducible apply State.jWhole_ok
    | (with_reducible refine State.modJournal_ok _ rfl ?_)
    | (with_reducible refine State.modJournal_ok _ (Journal.dropMaking_base ..) ?_)
    | split

theorem State.reborn_ok (n : Mark) (a1 : State) (e : n.latch = false) (ha1 : a1.Ok n) : (State.reborn a1).Ok n := by
  unfold State.reborn
  exact ⟨⟨rfl, ha1.1.base, rfl, ha1.1.counters, List.length_replicate, List.length_replicate, List.length_replicate, by simp [ha1.1.parts], List.length_replicate⟩,
    ha1.2.now, ha1.2.test, fun k => absurd (e.symm.trans k) Bool.false_ne_true⟩

theorem State.warmReset_ok (n : Mark) (a1 : State) (a2) (ha1 : a1.Ok n) : (State.warmReset a1 a2).Ok n := by
  unfold State.warmReset
  split
  · exact ha1
  · rename_i h
    have h0 := State.flushNotice_ok n _ (State.fenceNotice_ok _ _ a1.crownId true ha1)
    exact State.reborn_ok _ _ (ha1.unlatched h) (State.modJournal_ok _ rfl (State.finishRecord_ok _ _ (.ite (State.enterHoldover_ok _ _ h0) h0)))

theorem execWarmReset_ok (n : Mark) (a1) (a2) (a3 : State) (ha3 : a3.Ok n) : OkH n (execWarmReset a1 a2 a3) := by
  unfold execWarmReset
  refine act1_ok _ _ (fun s hs => ?_) ha3
  try dsimp only
  repeat' first
    | with_reducible assumption
    | intro _
    | (extract_lets +onlyGivenNames z; first | (refine State.Ok.cut (n := n) z ?_ ?_ <;> [(intro _; clear_value z); subst z]) | (refine State.Ok.cutPair (n := n) z ?_ ?_ <;> [(intro _; clear_value z); subst z]) | clear_value z)
    | with_reducible apply State.Ok.ite
    | with_reducible apply State.warmReset_ok
    | split

theorem State.startLimbs_ok (n : Mark) (a1 : State) (ha1 : a1.Ok n) : (State.startLimbs a1).Ok n := by
  unfold State.startLimbs
  repeat' first
    | with_reducible assumption
    | intro _
    | (extract_lets +onlyGivenNames z; first | (refine State.Ok.cut (n := n) z ?_ ?_ <;> [(intro _; clear_value z); subst z]) | (refine State.Ok.cutPair (n := n) z ?_ ?_ <;> [(intro _; clear_value z); subst z]) | clear_value z)
    | with_reducible apply State.Ok.ite
    | with_reducible apply State.modHier_ok
    | split

theorem State.findJournal_ok (n : Mark) (a1 : State) (a2) (ha1 : a1.Ok n) : (State.findJournal a1 a2).Ok n := by
  unfold State.findJournal
  repeat' first
    | with_reducible assumption
    | intro _
    | (extract_lets +onlyGivenNames z; first | (refine State.Ok.cut (n := n) z ?_ ?_ <;> [(intro _; clear_value z); subst z]) | (refine State.Ok.cutPair (n := n) z ?_ ?_ <;> [(intro _; clear_value z); subst z]) | clear_value z)
    | with_reducible apply State.Ok.ite
    | with_reducible apply State.truncateJournal_ok
    | with_reducible apply State.newJournal_ok
    | split

theorem State.startTraining_ok (n : Mark) (a1 : State) (ha1 : a1.Ok n) : (State.startTraining a1).Ok n := by
  unfold State.startTraining
  repeat' first
    | with_reducible assumption
    | intro _
    | (extract_lets +onlyGivenNames z; first | (refine State.Ok.cut (n := n) z ?_ ?_ <;> [(intro _; clear_value z); subst z]) | (refine State.Ok.cutPair (n := n) z ?_ ?_ <;> [(intro _; clear_value z); subst z]) | clear_value z)
    | with_reducible apply State.Ok.ite
    | (with_reducible refine State.modMem_ok _ rfl rfl ?_)
    | split

theorem State.bootRun_ok (n : Mark) (a1 : State) (a2) (ha1 : a1.Ok n) : (State.bootRun a1 a2).Ok n := by
  unfold State.bootRun
  extract_lets +onlyGivenNames x y
  have hx : x.Ok n := State.startLimbs_ok _ _ (State.replayJournal_ok _ _ (State.findJournal_ok _ _ _ (State.modJournal_ok _ rfl ha1)))
  have hy : y.Ok n := State.Ok.ite hx (State.noteAt_ok _ _ _ _ _ hx)
  apply State.Ok.ite
  · apply State.noteFree_ok
    apply State.drew_ok
    exact State.modSec_ok _ rfl hy
  · exact State.startTraining_ok _ _ hy

theorem State.startReads_ok (n : Mark) (a1 : State) (a2) (ha1 : a1.Ok n) : (State.startReads a1 a2).Ok n := by
  unfold State.startReads
  extract_lets +onlyGivenNames m x
  have hx : x.Ok n := State.flashProgram_ok _ _ _ _ (State.flashProgram_ok _ _ _ _ ha1)
  exact State.modJournal_ok _ (Journal.bootRead_base ..) (.ite (State.countHeart_ok _ _ _ _ hx) hx)

theorem bootStartEffect_ok (n : Mark) (a1 : State) (a2) (ha1 : a1.Ok n) : (bootStartEffect a1 a2).Ok n := by
  unfold bootStartEffect
  refine State.Ok.ite ha1 ?_
  have h0 : (a1.startReads a2).Ok n := State.startReads_ok _ _ _ ha1
  refine State.Ok.ite (State.modJournal_ok _ rfl h0) ?_
  refine State.Ok.ite (State.warmReset_ok _ _ _ ?_) (State.bootRun_ok _ _ _ ?_)
  all_goals refine State.modJournal_ok _ ?_ h0
  all_goals split <;> exact Journal.bootWrite_base ..

theorem execBootStart_ok (n : Mark) (a1) (a2) (a3 : State) (ha3 : a3.Ok n) : OkH n (execBootStart a1 a2 a3) := by
  unfold execBootStart
  refine act2_ok _ _ (fun s hs => ?_) ha3
  try dsimp only
  repeat' first
    | with_reducible assumption
    | intro _
    | (extract_lets +onlyGivenNames z; first | (refine State.Ok.cut (n := n) z ?_ ?_ <;> [(intro _; clear_value z); subst z]) | (refine State.Ok.cutPair (n := n) z ?_ ?_ <;> [(intro _; clear_value z); subst z]) | clear_value z)
    | with_reducible apply State.Ok.ite
    | with_reducible apply bootStartEffect_ok
    | split

theorem startOkEffect_ok (n : Mark) (a1 : State) (ha1 : a1.Ok n) : (startOkEffect a1).Ok n := by
  unfold startOkEffect
  repeat' first
    | with_reducible assumption
    | intro _
    | (extract_lets +onlyGivenNames z; first | (refine State.Ok.cut (n := n) z ?_ ?_ <;> [(intro _; clear_value z); subst z]) | (refine State.Ok.cutPair (n := n) z ?_ ?_ <;> [(intro _; clear_value z); subst z]) | clear_value z)
    | with_reducible apply State.Ok.ite
    | with_reducible apply State.jAppend_ok
    | (with_reducible refine State.modJournal_ok _ rfl ?_)
    | with_reducible apply State.modPower_ok
    | with_reducible apply State.setJ_ok
    | with_reducible apply State.noteFree_ok
    | (with_reducible refine State.modJournal_ok _ (Journal.bootWrite_base ..) ?_)
    | split

theorem execStartOk_ok (n : Mark) (a1) (a2 : State) (ha2 : a2.Ok n) : OkH n (execStartOk a1 a2) := by
  unfold execStartOk
  refine act1_ok _ _ (fun s hs => ?_) ha2
  try dsimp only
  repeat' first
    | with_reducible assumption
    | intro _
    | (extract_lets +onlyGivenNames z; first | (refine State.Ok.cut (n := n) z ?_ ?_ <;> [(intro _; clear_value z); subst z]) | (refine State.Ok.cutPair (n := n) z ?_ ?_ <;> [(intro _; clear_value z); subst z]) | clear_value z)
    | with_reducible apply State.Ok.ite
    | with_reducible apply startOkEffect_ok
    | split

theorem execStartWatchdog_ok (n : Mark) (a1) (a2 : State) (ha2 : a2.Ok n) : OkH n (execStartWatchdog a1 a2) := by
  unfold execStartWatchdog
  refine act1_ok _ _ (fun s hs => ?_) ha2
  try dsimp only
  repeat' first
    | with_reducible assumption
    | intro _
    | (extract_lets +onlyGivenNames z; first | (refine State.Ok.cut (n := n) z ?_ ?_ <;> [(intro _; clear_value z); subst z]) | (refine State.Ok.cutPair (n := n) z ?_ ?_ <;> [(intro _; clear_value z); subst z]) | clear_value z)
    | with_reducible apply State.Ok.ite
    | with_reducible apply State.warmReset_ok
    | split

theorem State.compactStart_ok (n : Mark) (a1 : State) (ha1 : a1.Ok n) : (State.compactStart a1).Ok n := by
  unfold State.compactStart
  repeat' first
    | with_reducible assumption
    | intro _
    | (extract_lets +onlyGivenNames z; first | (refine State.Ok.cut (n := n) z ?_ ?_ <;> [(intro _; clear_value z); subst z]) | (refine State.Ok.cutPair (n := n) z ?_ ?_ <;> [(intro _; clear_value z); subst z]) | clear_value z)
    | with_reducible apply State.Ok.ite
    | (with_reducible refine State.modJournal_ok _ rfl ?_)
    | with_reducible apply foldl_ok
    | with_reducible apply foldlState_ok
    | split

theorem State.compactIfFull_ok (n : Mark) (a1 : State) (ha1 : a1.Ok n) : (State.compactIfFull a1).Ok n := by
  unfold State.compactIfFull
  repeat' first
    | with_reducible assumption
    | intro _
    | (extract_lets +onlyGivenNames z; first | (refine State.Ok.cut (n := n) z ?_ ?_ <;> [(intro _; clear_value z); subst z]) | (refine State.Ok.cutPair (n := n) z ?_ ?_ <;> [(intro _; clear_value z); subst z]) | clear_value z)
    | with_reducible apply State.Ok.ite
    | with_reducible apply State.compactStart_ok
    | split

theorem execCompactNow_ok (n : Mark) (a1) (a2) (a3 : State) (ha3 : a3.Ok n) : OkH n (execCompactNow a1 a2 a3) := by
  unfold execCompactNow
  refine act1_ok _ _ (fun s hs => ?_) ha3
  try dsimp only
  repeat' first
    | with_reducible assumption
    | intro _
    | (extract_lets +onlyGivenNames z; first | (refine State.Ok.cut (n := n) z ?_ ?_ <;> [(intro _; clear_value z); subst z]) | (refine State.Ok.cutPair (n := n) z ?_ ?_ <;> [(intro _; clear_value z); subst z]) | clear_value z)
    | with_reducible apply State.Ok.ite
    | with_reducible apply State.compactStart_ok
    | split

theorem compactionSnapEndEffect_ok (n : Mark) (a1 : State) (ha1 : a1.Ok n) : (compactionSnapEndEffect a1).Ok n := by
  unfold compactionSnapEndEffect
  repeat' first
    | with_reducible assumption
    | intro _
    | (extract_lets +onlyGivenNames z; first | (refine State.Ok.cut (n := n) z ?_ ?_ <;> [(intro _; clear_value z); subst z]) | (refine State.Ok.cutPair (n := n) z ?_ ?_ <;> [(intro _; clear_value z); subst z]) | clear_value z)
    | with_reducible apply State.Ok.ite
    | with_reducible apply State.noteFree_ok
    | (with_reducible refine State.modJournal_ok _ rfl ?_)
    | (with_reducible refine State.journal_ok _ (dictWf_compacted _) ?_)
    | split

theorem execCompactionSnapEnd_ok (n : Mark) (a1) (a2 : State) (ha2 : a2.Ok n) : OkH n (execCompactionSnapEnd a1 a2) := by
  unfold execCompactionSnapEnd
  refine act1_ok _ _ (fun s hs => ?_) ha2
  try dsimp only
  repeat' first
    | with_reducible assumption
    | intro _
    | (extract_lets +onlyGivenNames z; first | (refine State.Ok.cut (n := n) z ?_ ?_ <;> [(intro _; clear_value z); subst z]) | (refine State.Ok.cutPair (n := n) z ?_ ?_ <;> [(intro _; clear_value z); subst z]) | clear_value z)
    | with_reducible apply State.Ok.ite
    | with_reducible apply compactionSnapEndEffect_ok
    | split

theorem ringEraseDoneEffect_ok (n : Mark) (a1 : State) (a2) (a3) (ha1 : a1.Ok n) : (ringEraseDoneEffect a1 a2 a3).Ok n := by
  unfold ringEraseDoneEffect
  repeat' first
    | with_reducible assumption
    | intro _
    | (extract_lets +onlyGivenNames z; first | (refine State.Ok.cut (n := n) z ?_ ?_ <;> [(intro _; clear_value z); subst z]) | (refine State.Ok.cutPair (n := n) z ?_ ?_ <;> [(intro _; clear_value z); subst z]) | clear_value z)
    | with_reducible apply State.Ok.ite
    | with_reducible apply State.flashProgram_ok
    | with_reducible apply State.countHeart_ok
    | (with_reducible refine State.modJournal_ok _ rfl ?_)
    | with_reducible apply State.compactIfFull_ok
    | split

theorem execRingEraseDone_ok (n : Mark) (a1) (a2) (a3) (a4 : State) (ha4 : a4.Ok n) : OkH n (execRingEraseDone a1 a2 a3 a4) := by
  unfold execRingEraseDone
  refine act1_ok _ _ (fun s hs => ?_) ha4
  try dsimp only
  repeat' first
    | with_reducible assumption
    | intro _
    | (extract_lets +onlyGivenNames z; first | (refine State.Ok.cut (n := n) z ?_ ?_ <;> [(intro _; clear_value z); subst z]) | (refine State.Ok.cutPair (n := n) z ?_ ?_ <;> [(intro _; clear_value z); subst z]) | clear_value z)
    | with_reducible apply State.Ok.ite
    | with_reducible apply ringEraseDoneEffect_ok
    | split

theorem State.graftRefuse_ok (n : Mark) (a1 : State) (a2) (ha1 : a1.Ok n) : (State.graftRefuse a1 a2).Ok n := by
  unfold State.graftRefuse
  repeat' first
    | with_reducible assumption
    | intro _
    | (extract_lets +onlyGivenNames z; first | (refine State.Ok.cut (n := n) z ?_ ?_ <;> [(intro _; clear_value z); subst z]) | (refine State.Ok.cutPair (n := n) z ?_ ?_ <;> [(intro _; clear_value z); subst z]) | clear_value z)
    | with_reducible apply State.Ok.ite
    | with_reducible apply State.noteAt_ok
    | (with_reducible refine State.modJournal_ok _ rfl ?_)
    | split

theorem State.graftChunkWrite_ok (n : Mark) (a1 : State) (a2) (a3) (ha1 : a1.Ok n) : State.OkO n (State.graftChunkWrite a1 a2 a3) := by
  unfold State.graftChunkWrite
  repeat' first
    | with_reducible assumption
    | intro _
    | (extract_lets +onlyGivenNames z; first | (refine State.Ok.cut (n := n) z ?_ ?_ <;> [(intro _; clear_value z); subst z]) | (refine State.Ok.cutPair (n := n) z ?_ ?_ <;> [(intro _; clear_value z); subst z]) | clear_value z)
    | with_reducible apply State.Ok.ite
    | (with_reducible refine State.modJournal_ok _ rfl ?_)
    | with_reducible exact State.OkO.none_
    | with_reducible apply State.OkO.ite_
    | with_reducible apply State.OkO.some_
    | with_reducible apply State.OkO.getD
    | with_reducible apply State.OkO.mapPair
    | split

theorem execGraftChunk_ok (n : Mark) (a1) (a2) (a3) (a4) (a5 : State) (ha5 : a5.Ok n) : OkH n (execGraftChunk a1 a2 a3 a4 a5) := by
  unfold execGraftChunk
  refine act1_ok _ _ (fun s hs => ?_) ha5
  try dsimp only
  repeat' first
    | with_reducible assumption
    | intro _
    | (extract_lets +onlyGivenNames z; first | (refine State.Ok.cut (n := n) z ?_ ?_ <;> [(intro _; clear_value z); subst z]) | (refine State.Ok.cutPair (n := n) z ?_ ?_ <;> [(intro _; clear_value z); subst z]) | clear_value z)
    | with_reducible apply State.Ok.ite
    | (with_reducible refine State.OkO.get (State.graftChunkWrite_ok _ _ _ _ ?_ ) (by with_reducible assumption))
    | with_reducible apply State.graftChunkWrite_ok
    | with_reducible exact State.OkO.none_
    | with_reducible apply State.OkO.ite_
    | with_reducible apply State.OkO.some_
    | with_reducible apply State.OkO.getD
    | with_reducible apply State.OkO.mapPair
    | split

theorem State.graftApplyWrite_ok (n : Mark) (a1 : State) (ha1 : a1.Ok n) : State.OkO n (State.graftApplyWrite a1) := by
  unfold State.graftApplyWrite
  repeat' first
    | with_reducible assumption
    | intro _
    | (extract_lets +onlyGivenNames z; first | (refine State.Ok.cut (n := n) z ?_ ?_ <;> [(intro _; clear_value z); subst z]) | (refine State.Ok.cutPair (n := n) z ?_ ?_ <;> [(intro _; clear_value z); subst z]) | clear_value z)
    | with_reducible apply State.Ok.ite
    | with_reducible apply State.graftRefuse_ok
    | (with_reducible refine State.modJournal_ok _ rfl ?_)
    | with_reducible exact State.OkO.none_
    | with_reducible apply State.OkO.ite_
    | with_reducible apply State.OkO.some_
    | with_reducible apply State.OkO.getD
    | with_reducible apply State.OkO.mapPair
    | split

theorem execGraftApply_ok (n : Mark) (a1) (a2) (a3 : State) (ha3 : a3.Ok n) : OkH n (execGraftApply a1 a2 a3) := by
  unfold execGraftApply
  refine act2_ok _ _ (fun s hs => ?_) ha3
  try dsimp only
  repeat' first
    | with_reducible assumption
    | intro _
    | (extract_lets +onlyGivenNames z; first | (refine State.Ok.cut (n := n) z ?_ ?_ <;> [(intro _; clear_value z); subst z]) | (refine State.Ok.cutPair (n := n) z ?_ ?_ <;> [(intro _; clear_value z); subst z]) | clear_value z)
    | with_reducible apply State.Ok.ite
    | (with_reducible refine State.OkO.get (State.graftApplyWrite_ok _ _ ?_ ) (by with_reducible assumption))
    | with_reducible apply State.graftApplyWrite_ok
    | with_reducible exact State.OkO.none_
    | with_reducible apply State.OkO.ite_
    | with_reducible apply State.OkO.some_
    | with_reducible apply State.OkO.getD
    | with_reducible apply State.OkO.mapPair
    | split

theorem graftApplyDoneEffect_ok (n : Mark) (a1 : State) (ha1 : a1.Ok n) : (graftApplyDoneEffect a1).Ok n := by
  unfold graftApplyDoneEffect
  repeat' first
    | with_reducible assumption
    | intro _
    | (extract_lets +onlyGivenNames z; first | (refine State.Ok.cut (n := n) z ?_ ?_ <;> [(intro _; clear_value z); subst z]) | (refine State.Ok.cutPair (n := n) z ?_ ?_ <;> [(intro _; clear_value z); subst z]) | clear_value z)
    | with_reducible apply State.Ok.ite
    | (with_reducible refine State.modJournal_ok _ rfl ?_)
    | with_reducible apply State.graftRefuse_ok
    | with_reducible apply State.noteFree_ok
    | with_reducible apply State.jAppend_ok
    | split

theorem execGraftApplyDone_ok (n : Mark) (a1) (a2 : State) (ha2 : a2.Ok n) : OkH n (execGraftApplyDone a1 a2) := by
  unfold execGraftApplyDone
  refine act2_ok _ _ (fun s hs => ?_) ha2
  try dsimp only
  repeat' first
    | with_reducible assumption
    | intro _
    | (extract_lets +onlyGivenNames z; first | (refine State.Ok.cut (n := n) z ?_ ?_ <;> [(intro _; clear_value z); subst z]) | (refine State.Ok.cutPair (n := n) z ?_ ?_ <;> [(intro _; clear_value z); subst z]) | clear_value z)
    | with_reducible apply State.Ok.ite
    | with_reducible apply graftApplyDoneEffect_ok
    | split

theorem State.graftActWrite_ok (n : Mark) (a1 : State) (a2) (ha1 : a1.Ok n) : State.OkE n (State.graftActWrite a1 a2) := by
  unfold State.graftActWrite
  repeat' first
    | with_reducible assumption
    | intro _
    | (extract_lets +onlyGivenNames z; first | (refine State.Ok.cut (n := n) z ?_ ?_ <;> [(intro _; clear_value z); subst z]) | (refine State.Ok.cutPair (n := n) z ?_ ?_ <;> [(intro _; clear_value z); subst z]) | (refine State.Ok.cutFun (n := n) z ?_ ?_ <;> [(intro _; clear_value z); subst z]) | (refine State.Ok.cutFun2 (n := n) z ?_ ?_ <;> [(intro _; clear_value z); subst z]) | (refine State.Ok.cutFun3 (n := n) z ?_ ?_ <;> [(intro _; clear_value z); subst z]) | (refine State.Ok.cutFun4 (n := n) z ?_ ?_ <;> [(intro _; clear_value z); subst z]) | (refine State.Ok.cutFun5 (n := n) z ?_ ?_ <;> [(intro _; clear_value z); subst z]) | (refine State.Ok.cutFun6 (n := n) z ?_ ?_ <;> [(intro _; clear_value z); subst z]) | (refine State.Ok.cutFun7 (n := n) z ?_ ?_ <;> [(intro _; clear_value z); subst z]) | clear_value z)
    | with_reducible apply State.Ok.ite
    | with_reducible apply_assumption
    | (with_reducible refine State.modJournal_ok _ rfl ?_)
    | with_reducible apply State.actDrop_ok
    | with_reducible apply State.modAct_ok
    | (with_reducible refine State.OkO.get (State.actPut_ok _ _ _ _ _ _ _ ?_ ) (by with_reducible assumption))
    | with_reducible apply State.actPut_ok
    | with_reducible exact State.OkO.none_
    | with_reducible apply State.OkO.ite_
    | with_reducible apply State.OkO.some_
    | with_reducible apply State.OkO.getD
    | with_reducible apply State.OkO.mapPair
    | with_reducible exact State.OkE.error_
    | with_reducible apply State.OkE.ite_
    | with_reducible apply State.OkE.ok_
    | split

theorem execGraftActFt_ok (n : Mark) (a1) (a2) (a3) (a4 : State) (ha4 : a4.Ok n) : OkH n (execGraftActFt a1 a2 a3 a4) := by
  unfold execGraftActFt
  refine act1_ok _ _ (fun s hs => ?_) ha4
  try dsimp only
  repeat' first
    | with_reducible assumption
    | intro _
    | (extract_lets +onlyGivenNames z; first | (refine State.Ok.cut (n := n) z ?_ ?_ <;> [(intro _; clear_value z); subst z]) | (refine State.Ok.cutPair (n := n) z ?_ ?_ <;> [(intro _; clear_value z); subst z]) | clear_value z)
    | with_reducible apply State.Ok.ite
    | (with_reducible refine State.OkE.get (State.graftActWrite_ok _ _ _ ?_ ) (by with_reducible assumption))
    | with_reducible apply State.graftActWrite_ok
    | with_reducible apply State.setJ_ok
    | with_reducible exact State.OkE.error_
    | with_reducible apply State.OkE.ite_
    | with_reducible apply State.OkE.ok_
    | split

theorem firmwareActivationEffect_ok (n : Mark) (a1 : State) (ha1 : a1.Ok n) : (firmwareActivationEffect a1).Ok n := by
  unfold firmwareActivationEffect
  repeat' first
    | with_reducible assumption
    | intro _
    | (extract_lets +onlyGivenNames z; first | (refine State.Ok.cut (n := n) z ?_ ?_ <;> [(intro _; clear_value z); subst z]) | (refine State.Ok.cutPair (n := n) z ?_ ?_ <;> [(intro _; clear_value z); subst z]) | clear_value z)
    | with_reducible apply State.Ok.ite
    | with_reducible apply State.postpone_ok
    | with_reducible apply State.markFired_ok
    | (with_reducible refine State.modJournal_ok _ rfl ?_)
    | with_reducible apply State.jNow_ok
    | with_reducible apply State.warmReset_ok
    | (with_reducible refine State.modJournal_ok _ (Journal.bootWrite_base ..) ?_)
    | split

theorem execFirmwareActivation_ok (n : Mark) (a1) (a2 : State) (ha2 : a2.Ok n) : OkH n (execFirmwareActivation a1 a2) := by
  unfold execFirmwareActivation
  refine act2_ok _ _ (fun s hs => ?_) ha2
  try dsimp only
  repeat' first
    | with_reducible assumption
    | intro _
    | (extract_lets +onlyGivenNames z; first | (refine State.Ok.cut (n := n) z ?_ ?_ <;> [(intro _; clear_value z); subst z]) | (refine State.Ok.cutPair (n := n) z ?_ ?_ <;> [(intro _; clear_value z); subst z]) | clear_value z)
    | with_reducible apply State.Ok.ite
    | with_reducible apply firmwareActivationEffect_ok
    | split

end Sys2Proof.Machine
end

