-- ==== Sys2Proof/Laws/KeepPower.lean ====
section
/-! SUPPORT. Every operation of Power.lean keeps the invariant, and the local count does not run back. -/

set_option linter.all false

namespace Sys2Proof.Machine

theorem State.powerOff_ok (n : Mark) (a1 : State) (ha1 : a1.Ok n) : (State.powerOff a1).Ok n := by
  unfold State.powerOff
  refine ⟨⟨rfl, (congrArg dictWf (Journal.dropMaking_base _)).trans ha1.1.base, rfl, rfl, List.length_replicate, List.length_replicate, List.length_replicate, List.length_replicate, List.length_replicate⟩,
    ha1.2.now, ha1.2.test, fun k => ?_⟩
  simp [ha1.2.latch k]

theorem State.reading_ok (n : Mark) (a1 : State) (a2) (a3) (a4) (ha1 : a1.Ok n) : (State.reading a1 a2 a3 a4).Ok n := by
  unfold State.reading
  repeat' first
    | with_reducible assumption
    | intro _
    | (extract_lets +onlyGivenNames z; first | (refine State.Ok.cut (n := n) z ?_ ?_ <;> [(intro _; clear_value z); subst z]) | (refine State.Ok.cutPair (n := n) z ?_ ?_ <;> [(intro _; clear_value z); subst z]) | clear_value z)
    | with_reducible apply State.Ok.ite
    | with_reducible apply State.modPower_ok
    | split

theorem State.gateOff_ok (n : Mark) (a1 : State) (a2) (ha1 : a1.Ok n) : (State.gateOff a1 a2).Ok n := by
  unfold State.gateOff
  repeat' first
    | with_reducible assumption
    | intro _
    | (extract_lets +onlyGivenNames z; first | (refine State.Ok.cut (n := n) z ?_ ?_ <;> [(intro _; clear_value z); subst z]) | (refine State.Ok.cutPair (n := n) z ?_ ?_ <;> [(intro _; clear_value z); subst z]) | clear_value z)
    | with_reducible apply State.Ok.ite
    | with_reducible apply State.modPower_ok
    | with_reducible apply State.reading_ok
    | split

theorem State.intakeStart_ok (n : Mark) (a1 : State) (ha1 : a1.Ok n) : (State.intakeStart a1).Ok n := by
  unfold State.intakeStart
  repeat' first
    | with_reducible assumption
    | intro _
    | (extract_lets +onlyGivenNames z; first | (refine State.Ok.cut (n := n) z ?_ ?_ <;> [(intro _; clear_value z); subst z]) | (refine State.Ok.cutPair (n := n) z ?_ ?_ <;> [(intro _; clear_value z); subst z]) | clear_value z)
    | with_reducible apply State.Ok.ite
    | with_reducible apply State.modPower_ok
    | split

theorem State.givePowerGood_ok (n : Mark) (a1 : State) (ha1 : a1.Ok n) : (State.givePowerGood a1).Ok n := by
  unfold State.givePowerGood
  repeat' first
    | with_reducible assumption
    | intro _
    | (extract_lets +onlyGivenNames z; first | (refine State.Ok.cut (n := n) z ?_ ?_ <;> [(intro _; clear_value z); subst z]) | (refine State.Ok.cutPair (n := n) z ?_ ?_ <;> [(intro _; clear_value z); subst z]) | clear_value z)
    | with_reducible apply State.Ok.ite
    | (with_reducible refine State.modJournal_ok _ rfl ?_)
    | with_reducible apply State.modPower_ok
    | split

theorem State.intakeTrip_ok (n : Mark) (a1 : State) (a2) (ha1 : a1.Ok n) : (State.intakeTrip a1 a2).Ok n := by
  unfold State.intakeTrip
  repeat' first
    | with_reducible assumption
    | intro _
    | (extract_lets +onlyGivenNames z; first | (refine State.Ok.cut (n := n) z ?_ ?_ <;> [(intro _; clear_value z); subst z]) | (refine State.Ok.cutPair (n := n) z ?_ ?_ <;> [(intro _; clear_value z); subst z]) | clear_value z)
    | with_reducible apply State.Ok.ite
    | with_reducible apply State.modPower_ok
    | with_reducible apply State.gateOff_ok
    | split

theorem State.fetDamage_ok (n : Mark) (a1 : State) (ha1 : a1.Ok n) : (State.fetDamage a1).Ok n := by
  unfold State.fetDamage
  repeat' first
    | with_reducible assumption
    | intro _
    | (extract_lets +onlyGivenNames z; first | (refine State.Ok.cut (n := n) z ?_ ?_ <;> [(intro _; clear_value z); subst z]) | (refine State.Ok.cutPair (n := n) z ?_ ?_ <;> [(intro _; clear_value z); subst z]) | clear_value z)
    | with_reducible apply State.Ok.ite
    | with_reducible apply State.modPower_ok
    | with_reducible apply State.note_ok
    | (with_reducible refine State.modFaults_ok _ rfl ?_)
    | split

theorem State.sampleVolts_ok (n : Mark) (a1 : State) (a2) (ha1 : a1.Ok n) : (State.sampleVolts a1 a2).Ok n := by
  unfold State.sampleVolts
  repeat' first
    | with_reducible assumption
    | intro _
    | (extract_lets +onlyGivenNames z; first | (refine State.Ok.cut (n := n) z ?_ ?_ <;> [(intro _; clear_value z); subst z]) | (refine State.Ok.cutPair (n := n) z ?_ ?_ <;> [(intro _; clear_value z); subst z]) | clear_value z)
    | with_reducible apply State.Ok.ite
    | with_reducible apply State.reading_ok
    | split

theorem State.sampleAmps_ok (n : Mark) (a1 : State) (a2) (a3) (ha1 : a1.Ok n) : (State.sampleAmps a1 a2 a3).Ok n := by
  unfold State.sampleAmps
  repeat' first
    | with_reducible assumption
    | intro _
    | (extract_lets +onlyGivenNames z; first | (refine State.Ok.cut (n := n) z ?_ ?_ <;> [(intro _; clear_value z); subst z]) | (refine State.Ok.cutPair (n := n) z ?_ ?_ <;> [(intro _; clear_value z); subst z]) | clear_value z)
    | with_reducible apply State.Ok.ite
    | with_reducible apply State.reading_ok
    | split

theorem State.inputBack_ok (n : Mark) (a1 : State) (ha1 : a1.Ok n) : (State.inputBack a1).Ok n := by
  unfold State.inputBack
  repeat' first
    | with_reducible assumption
    | intro _
    | (extract_lets +onlyGivenNames z; first | (refine State.Ok.cut (n := n) z ?_ ?_ <;> [(intro _; clear_value z); subst z]) | (refine State.Ok.cutPair (n := n) z ?_ ?_ <;> [(intro _; clear_value z); subst z]) | clear_value z)
    | with_reducible apply State.Ok.ite
    | with_reducible apply State.warmReset_ok
    | with_reducible apply State.modPower_ok
    | split

theorem intakeInputRiseEffect_ok (n : Mark) (a1 : State) (a2) (ha1 : a1.Ok n) : (intakeInputRiseEffect a1 a2).Ok n := by
  unfold intakeInputRiseEffect
  repeat' first
    | with_reducible assumption
    | intro _
    | (extract_lets +onlyGivenNames z; first | (refine State.Ok.cut (n := n) z ?_ ?_ <;> [(intro _; clear_value z); subst z]) | (refine State.Ok.cutPair (n := n) z ?_ ?_ <;> [(intro _; clear_value z); subst z]) | clear_value z)
    | with_reducible apply State.Ok.ite
    | with_reducible apply State.modPower_ok
    | with_reducible apply State.sampleVolts_ok
    | with_reducible apply State.inputBack_ok
    | with_reducible apply State.intakeStart_ok
    | split

theorem execIntakeInputRise_ok (n : Mark) (a1) (a2) (a3 : State) (ha3 : a3.Ok n) : OkH n (execIntakeInputRise a1 a2 a3) := by
  unfold execIntakeInputRise
  refine act1_ok _ _ (fun s hs => ?_) ha3
  try dsimp only
  repeat' first
    | with_reducible assumption
    | intro _
    | (extract_lets +onlyGivenNames z; first | (refine State.Ok.cut (n := n) z ?_ ?_ <;> [(intro _; clear_value z); subst z]) | (refine State.Ok.cutPair (n := n) z ?_ ?_ <;> [(intro _; clear_value z); subst z]) | clear_value z)
    | with_reducible apply State.Ok.ite
    | with_reducible apply intakeInputRiseEffect_ok
    | split

theorem execIntakeEnAssert_ok (n : Mark) (a1) (a2 : State) (ha2 : a2.Ok n) : OkH n (execIntakeEnAssert a1 a2) := by
  unfold execIntakeEnAssert
  refine act1_ok _ _ (fun s hs => ?_) ha2
  try dsimp only
  repeat' first
    | with_reducible assumption
    | intro _
    | (extract_lets +onlyGivenNames z; first | (refine State.Ok.cut (n := n) z ?_ ?_ <;> [(intro _; clear_value z); subst z]) | (refine State.Ok.cutPair (n := n) z ?_ ?_ <;> [(intro _; clear_value z); subst z]) | clear_value z)
    | with_reducible apply State.Ok.ite
    | with_reducible apply State.intakeStart_ok
    | with_reducible apply State.modPower_ok
    | split

theorem intakeEnDeassertEffect_ok (n : Mark) (a1 : State) (ha1 : a1.Ok n) : (intakeEnDeassertEffect a1).Ok n := by
  unfold intakeEnDeassertEffect
  repeat' first
    | with_reducible assumption
    | intro _
    | (extract_lets +onlyGivenNames z; first | (refine State.Ok.cut (n := n) z ?_ ?_ <;> [(intro _; clear_value z); subst z]) | (refine State.Ok.cutPair (n := n) z ?_ ?_ <;> [(intro _; clear_value z); subst z]) | clear_value z)
    | with_reducible apply State.Ok.ite
    | with_reducible apply State.modPower_ok
    | with_reducible apply State.gateOff_ok
    | split

theorem execIntakeEnDeassert_ok (n : Mark) (a1) (a2 : State) (ha2 : a2.Ok n) : OkH n (execIntakeEnDeassert a1 a2) := by
  unfold execIntakeEnDeassert
  refine act1_ok _ _ (fun s hs => ?_) ha2
  try dsimp only
  repeat' first
    | with_reducible assumption
    | intro _
    | (extract_lets +onlyGivenNames z; first | (refine State.Ok.cut (n := n) z ?_ ?_ <;> [(intro _; clear_value z); subst z]) | (refine State.Ok.cutPair (n := n) z ?_ ?_ <;> [(intro _; clear_value z); subst z]) | clear_value z)
    | with_reducible apply State.Ok.ite
    | with_reducible apply intakeEnDeassertEffect_ok
    | split

theorem precheckEndEffect_ok (n : Mark) (a1 : State) (a2) (ha1 : a1.Ok n) : (precheckEndEffect a1 a2).Ok n := by
  unfold precheckEndEffect
  repeat' first
    | with_reducible assumption
    | intro _
    | (extract_lets +onlyGivenNames z; first | (refine State.Ok.cut (n := n) z ?_ ?_ <;> [(intro _; clear_value z); subst z]) | (refine State.Ok.cutPair (n := n) z ?_ ?_ <;> [(intro _; clear_value z); subst z]) | clear_value z)
    | with_reducible apply State.Ok.ite
    | with_reducible apply State.powerOff_ok
    | with_reducible apply State.modPower_ok
    | with_reducible apply State.fetDamage_ok
    | split

theorem execPrecheckEnd_ok (n : Mark) (a1) (a2) (a3 : State) (ha3 : a3.Ok n) : OkH n (execPrecheckEnd a1 a2 a3) := by
  unfold execPrecheckEnd
  refine act2_ok _ _ (fun s hs => ?_) ha3
  try dsimp only
  repeat' first
    | with_reducible assumption
    | intro _
    | (extract_lets +onlyGivenNames z; first | (refine State.Ok.cut (n := n) z ?_ ?_ <;> [(intro _; clear_value z); subst z]) | (refine State.Ok.cutPair (n := n) z ?_ ?_ <;> [(intro _; clear_value z); subst z]) | clear_value z)
    | with_reducible apply State.Ok.ite
    | with_reducible apply precheckEndEffect_ok
    | split

theorem gateFullyOnEffect_ok (n : Mark) (a1 : State) (ha1 : a1.Ok n) : (gateFullyOnEffect a1).Ok n := by
  unfold gateFullyOnEffect
  repeat' first
    | with_reducible assumption
    | intro _
    | (extract_lets +onlyGivenNames z; first | (refine State.Ok.cut (n := n) z ?_ ?_ <;> [(intro _; clear_value z); subst z]) | (refine State.Ok.cutPair (n := n) z ?_ ?_ <;> [(intro _; clear_value z); subst z]) | clear_value z)
    | with_reducible apply State.Ok.ite
    | with_reducible apply State.givePowerGood_ok
    | with_reducible apply State.modPower_ok
    | split

theorem execGateFullyOn_ok (n : Mark) (a1) (a2 : State) (ha2 : a2.Ok n) : OkH n (execGateFullyOn a1 a2) := by
  unfold execGateFullyOn
  refine act1_ok _ _ (fun s hs => ?_) ha2
  try dsimp only
  repeat' first
    | with_reducible assumption
    | intro _
    | (extract_lets +onlyGivenNames z; first | (refine State.Ok.cut (n := n) z ?_ ?_ <;> [(intro _; clear_value z); subst z]) | (refine State.Ok.cutPair (n := n) z ?_ ?_ <;> [(intro _; clear_value z); subst z]) | clear_value z)
    | with_reducible apply State.Ok.ite
    | with_reducible apply gateFullyOnEffect_ok
    | split

theorem fastTripEffect_ok (n : Mark) (a1 : State) (a2) (a3) (ha1 : a1.Ok n) : (fastTripEffect a1 a2 a3).Ok n := by
  unfold fastTripEffect
  repeat' first
    | with_reducible assumption
    | intro _
    | (extract_lets +onlyGivenNames z; first | (refine State.Ok.cut (n := n) z ?_ ?_ <;> [(intro _; clear_value z); subst z]) | (refine State.Ok.cutPair (n := n) z ?_ ?_ <;> [(intro _; clear_value z); subst z]) | clear_value z)
    | with_reducible apply State.Ok.ite
    | with_reducible apply State.sampleAmps_ok
    | with_reducible apply State.intakeTrip_ok
    | split

theorem execFastTrip_ok (n : Mark) (a1) (a2) (a3) (a4 : State) (ha4 : a4.Ok n) : OkH n (execFastTrip a1 a2 a3 a4) := by
  unfold execFastTrip
  refine act1_ok _ _ (fun s hs => ?_) ha4
  try dsimp only
  repeat' first
    | with_reducible assumption
    | intro _
    | (extract_lets +onlyGivenNames z; first | (refine State.Ok.cut (n := n) z ?_ ?_ <;> [(intro _; clear_value z); subst z]) | (refine State.Ok.cutPair (n := n) z ?_ ?_ <;> [(intro _; clear_value z); subst z]) | clear_value z)
    | with_reducible apply State.Ok.ite
    | with_reducible apply fastTripEffect_ok
    | split

theorem rampTimeoutEffect_ok (n : Mark) (a1 : State) (ha1 : a1.Ok n) : (rampTimeoutEffect a1).Ok n := by
  unfold rampTimeoutEffect
  repeat' first
    | with_reducible assumption
    | intro _
    | (extract_lets +onlyGivenNames z; first | (refine State.Ok.cut (n := n) z ?_ ?_ <;> [(intro _; clear_value z); subst z]) | (refine State.Ok.cutPair (n := n) z ?_ ?_ <;> [(intro _; clear_value z); subst z]) | clear_value z)
    | with_reducible apply State.Ok.ite
    | with_reducible apply State.intakeTrip_ok
    | split

theorem execRampTimeout_ok (n : Mark) (a1) (a2 : State) (ha2 : a2.Ok n) : OkH n (execRampTimeout a1 a2) := by
  unfold execRampTimeout
  refine act1_ok _ _ (fun s hs => ?_) ha2
  try dsimp only
  repeat' first
    | with_reducible assumption
    | intro _
    | (extract_lets +onlyGivenNames z; first | (refine State.Ok.cut (n := n) z ?_ ?_ <;> [(intro _; clear_value z); subst z]) | (refine State.Ok.cutPair (n := n) z ?_ ?_ <;> [(intro _; clear_value z); subst z]) | clear_value z)
    | with_reducible apply State.Ok.ite
    | with_reducible apply rampTimeoutEffect_ok
    | split

theorem intakeOvercurrentEffect_ok (n : Mark) (a1 : State) (a2) (a3) (ha1 : a1.Ok n) : (intakeOvercurrentEffect a1 a2 a3).Ok n := by
  unfold intakeOvercurrentEffect
  repeat' first
    | with_reducible assumption
    | intro _
    | (extract_lets +onlyGivenNames z; first | (refine State.Ok.cut (n := n) z ?_ ?_ <;> [(intro _; clear_value z); subst z]) | (refine State.Ok.cutPair (n := n) z ?_ ?_ <;> [(intro _; clear_value z); subst z]) | clear_value z)
    | with_reducible apply State.Ok.ite
    | with_reducible apply State.sampleAmps_ok
    | with_reducible apply State.noteFree_ok
    | with_reducible apply State.modPower_ok
    | with_reducible apply State.givePowerGood_ok
    | split

theorem execIntakeOvercurrent_ok (n : Mark) (a1) (a2) (a3) (a4 : State) (ha4 : a4.Ok n) : OkH n (execIntakeOvercurrent a1 a2 a3 a4) := by
  unfold execIntakeOvercurrent
  refine act2_ok _ _ (fun s hs => ?_) ha4
  try dsimp only
  repeat' first
    | with_reducible assumption
    | intro _
    | (extract_lets +onlyGivenNames z; first | (refine State.Ok.cut (n := n) z ?_ ?_ <;> [(intro _; clear_value z); subst z]) | (refine State.Ok.cutPair (n := n) z ?_ ?_ <;> [(intro _; clear_value z); subst z]) | clear_value z)
    | with_reducible apply State.Ok.ite
    | with_reducible apply intakeOvercurrentEffect_ok
    | split

theorem curveTripEffect_ok (n : Mark) (a1 : State) (a2) (ha1 : a1.Ok n) : (curveTripEffect a1 a2).Ok n := by
  unfold curveTripEffect
  repeat' first
    | with_reducible assumption
    | intro _
    | (extract_lets +onlyGivenNames z; first | (refine State.Ok.cut (n := n) z ?_ ?_ <;> [(intro _; clear_value z); subst z]) | (refine State.Ok.cutPair (n := n) z ?_ ?_ <;> [(intro _; clear_value z); subst z]) | clear_value z)
    | with_reducible apply State.Ok.ite
    | with_reducible apply State.intakeTrip_ok
    | split

theorem execCurveTrip_ok (n : Mark) (a1) (a2) (a3 : State) (ha3 : a3.Ok n) : OkH n (execCurveTrip a1 a2 a3) := by
  unfold execCurveTrip
  refine act1_ok _ _ (fun s hs => ?_) ha3
  try dsimp only
  repeat' first
    | with_reducible assumption
    | intro _
    | (extract_lets +onlyGivenNames z; first | (refine State.Ok.cut (n := n) z ?_ ?_ <;> [(intro _; clear_value z); subst z]) | (refine State.Ok.cutPair (n := n) z ?_ ?_ <;> [(intro _; clear_value z); subst z]) | clear_value z)
    | with_reducible apply State.Ok.ite
    | with_reducible apply curveTripEffect_ok
    | split

theorem tripRestartEffect_ok (n : Mark) (a1 : State) (ha1 : a1.Ok n) : (tripRestartEffect a1).Ok n := by
  unfold tripRestartEffect
  repeat' first
    | with_reducible assumption
    | intro _
    | (extract_lets +onlyGivenNames z; first | (refine State.Ok.cut (n := n) z ?_ ?_ <;> [(intro _; clear_value z); subst z]) | (refine State.Ok.cutPair (n := n) z ?_ ?_ <;> [(intro _; clear_value z); subst z]) | clear_value z)
    | with_reducible apply State.Ok.ite
    | with_reducible apply State.intakeStart_ok
    | with_reducible apply State.modPower_ok
    | with_reducible apply State.powerOff_ok
    | split

theorem execTripRestart_ok (n : Mark) (a1) (a2 : State) (ha2 : a2.Ok n) : OkH n (execTripRestart a1 a2) := by
  unfold execTripRestart
  refine act1_ok _ _ (fun s hs => ?_) ha2
  try dsimp only
  repeat' first
    | with_reducible assumption
    | intro _
    | (extract_lets +onlyGivenNames z; first | (refine State.Ok.cut (n := n) z ?_ ?_ <;> [(intro _; clear_value z); subst z]) | (refine State.Ok.cutPair (n := n) z ?_ ?_ <;> [(intro _; clear_value z); subst z]) | clear_value z)
    | with_reducible apply State.Ok.ite
    | with_reducible apply tripRestartEffect_ok
    | split

theorem fetDamageDetectEffect_ok (n : Mark) (a1 : State) (ha1 : a1.Ok n) : (fetDamageDetectEffect a1).Ok n := by
  unfold fetDamageDetectEffect
  repeat' first
    | with_reducible assumption
    | intro _
    | (extract_lets +onlyGivenNames z; first | (refine State.Ok.cut (n := n) z ?_ ?_ <;> [(intro _; clear_value z); subst z]) | (refine State.Ok.cutPair (n := n) z ?_ ?_ <;> [(intro _; clear_value z); subst z]) | clear_value z)
    | with_reducible apply State.Ok.ite
    | with_reducible apply State.fetDamage_ok
    | split

theorem execFetDamageDetect_ok (n : Mark) (a1) (a2 : State) (ha2 : a2.Ok n) : OkH n (execFetDamageDetect a1 a2) := by
  unfold execFetDamageDetect
  refine act2_ok _ _ (fun s hs => ?_) ha2
  try dsimp only
  repeat' first
    | with_reducible assumption
    | intro _
    | (extract_lets +onlyGivenNames z; first | (refine State.Ok.cut (n := n) z ?_ ?_ <;> [(intro _; clear_value z); subst z]) | (refine State.Ok.cutPair (n := n) z ?_ ?_ <;> [(intro _; clear_value z); subst z]) | clear_value z)
    | with_reducible apply State.Ok.ite
    | with_reducible apply fetDamageDetectEffect_ok
    | split

theorem inputRemovedEffect_ok (n : Mark) (a1 : State) (e : n.latch = false) (k : n.test = false) (ha1 : a1.Ok n) :
    (inputRemovedEffect a1).Ok n := by
  unfold inputRemovedEffect
  refine State.modPower_ok _ _ _ (State.powerOff_ok _ _ ?_)
  have h : (a1.modFaults (fun f => { f with crown := .normal, f4cause := 0 })).Ok n := State.modFaults_free _ e ha1
  exact ⟨⟨h.1.dict, h.1.base, h.1.mem, h.1.counters, h.1.trunks, h.1.hports, h.1.lanes, h.1.parts, h.1.shared⟩, h.2.now,
    fun j => absurd (k.symm.trans j) Bool.false_ne_true, h.2.latch⟩

theorem execInputRemoved_ok (n : Mark) (a1) (a2 : State) (e : n.latch = false) (k : n.test = false) (ha2 : a2.Ok n) :
    OkH n (execInputRemoved a1 a2) :=
  act1_ok _ _ (fun _ h => inputRemovedEffect_ok _ _ e k h) ha2

theorem State.zeroLimbCounters_ok (n : Mark) (a1 : State) (a2) (ha1 : a1.Ok n) : (State.zeroLimbCounters a1 a2).Ok n := by
  exact State.modCounters_values_ok _ (fun k => sortedKeys_filter _ _ k) ha1

theorem State.gateLimb_ok (n : Mark) (a1 : State) (a2) (ha1 : a1.Ok n) : (State.gateLimb a1 a2).Ok n := by
  unfold State.gateLimb
  repeat' first
    | with_reducible assumption
    | intro _
    | (extract_lets +onlyGivenNames z; first | (refine State.Ok.cut (n := n) z ?_ ?_ <;> [(intro _; clear_value z); subst z]) | (refine State.Ok.cutPair (n := n) z ?_ ?_ <;> [(intro _; clear_value z); subst z]) | clear_value z)
    | with_reducible apply State.Ok.ite
    | with_reducible apply State.breakLocks_ok
    | with_reducible apply State.stopPorts_ok
    | with_reducible apply State.stopTrunks_ok
    | with_reducible apply State.modHier_ok
    | with_reducible apply State.zeroLimbCounters_ok
    | with_reducible apply State.each_ok
    | with_reducible apply State.perst_ok
    | with_reducible apply State.modCore_ok
    | split

theorem State.powerLimb_ok (n : Mark) (a1 : State) (a2) (ha1 : a1.Ok n) : (State.powerLimb a1 a2).Ok n := by
  unfold State.powerLimb
  repeat' first
    | with_reducible assumption
    | intro _
    | (extract_lets +onlyGivenNames z; first | (refine State.Ok.cut (n := n) z ?_ ?_ <;> [(intro _; clear_value z); subst z]) | (refine State.Ok.cutPair (n := n) z ?_ ?_ <;> [(intro _; clear_value z); subst z]) | clear_value z)
    | with_reducible apply State.Ok.ite
    | with_reducible apply State.modHier_ok
    | split

theorem execLimbGate_ok (n : Mark) (a1) (a2) (a3) (a4 : State) (ha4 : a4.Ok n) : OkH n (execLimbGate a1 a2 a3 a4) := by
  unfold execLimbGate
  refine act2_ok _ _ (fun s hs => ?_) ha4
  try dsimp only
  repeat' first
    | with_reducible assumption
    | intro _
    | (extract_lets +onlyGivenNames z; first | (refine State.Ok.cut (n := n) z ?_ ?_ <;> [(intro _; clear_value z); subst z]) | (refine State.Ok.cutPair (n := n) z ?_ ?_ <;> [(intro _; clear_value z); subst z]) | clear_value z)
    | with_reducible apply State.Ok.ite
    | with_reducible apply State.gateLimb_ok
    | with_reducible apply State.setJ_ok
    | split

theorem execLimbPowerOn_ok (n : Mark) (a1) (a2) (a3) (a4 : State) (ha4 : a4.Ok n) : OkH n (execLimbPowerOn a1 a2 a3 a4) := by
  unfold execLimbPowerOn
  refine act1_ok _ _ (fun s hs => ?_) ha4
  try dsimp only
  repeat' first
    | with_reducible assumption
    | intro _
    | (extract_lets +onlyGivenNames z; first | (refine State.Ok.cut (n := n) z ?_ ?_ <;> [(intro _; clear_value z); subst z]) | (refine State.Ok.cutPair (n := n) z ?_ ?_ <;> [(intro _; clear_value z); subst z]) | clear_value z)
    | with_reducible apply State.Ok.ite
    | with_reducible apply State.powerLimb_ok
    | with_reducible apply State.setJ_ok
    | split

theorem limbRunningEffect_ok (n : Mark) (a1 : State) (a2) (ha1 : a1.Ok n) : (limbRunningEffect a1 a2).Ok n := by
  unfold limbRunningEffect
  repeat' first
    | with_reducible assumption
    | intro _
    | (extract_lets +onlyGivenNames z; first | (refine State.Ok.cut (n := n) z ?_ ?_ <;> [(intro _; clear_value z); subst z]) | (refine State.Ok.cutPair (n := n) z ?_ ?_ <;> [(intro _; clear_value z); subst z]) | clear_value z)
    | with_reducible apply State.Ok.ite
    | with_reducible apply State.modHier_ok
    | with_reducible apply State.each_ok
    | with_reducible apply State.formBough_ok
    | with_reducible apply State.modTrunk_ok
    | with_reducible apply State.modHPort_ok
    | split

theorem execLimbRunning_ok (n : Mark) (a1) (a2) (a3 : State) (ha3 : a3.Ok n) : OkH n (execLimbRunning a1 a2 a3) := by
  unfold execLimbRunning
  refine act1_ok _ _ (fun s hs => ?_) ha3
  try dsimp only
  repeat' first
    | with_reducible assumption
    | intro _
    | (extract_lets +onlyGivenNames z; first | (refine State.Ok.cut (n := n) z ?_ ?_ <;> [(intro _; clear_value z); subst z]) | (refine State.Ok.cutPair (n := n) z ?_ ?_ <;> [(intro _; clear_value z); subst z]) | clear_value z)
    | with_reducible apply State.Ok.ite
    | with_reducible apply limbRunningEffect_ok
    | split

theorem inputLossEffect_ok (n : Mark) (a1 : State) (a2) (ha1 : a1.Ok n) : (inputLossEffect a1 a2).Ok n := by
  unfold inputLossEffect
  repeat' first
    | with_reducible assumption
    | intro _
    | (extract_lets +onlyGivenNames z; first | (refine State.Ok.cut (n := n) z ?_ ?_ <;> [(intro _; clear_value z); subst z]) | (refine State.Ok.cutPair (n := n) z ?_ ?_ <;> [(intro _; clear_value z); subst z]) | clear_value z)
    | with_reducible apply State.Ok.ite
    | with_reducible apply State.flushNotice_ok
    | with_reducible apply State.fenceNotice_ok
    | with_reducible apply State.modFabric_ok
    | (with_reducible refine State.modJournal_ok _ rfl ?_)
    | with_reducible apply State.drew_ok
    | with_reducible apply State.modPower_ok
    | with_reducible apply State.noteFree_ok
    | with_reducible apply State.each_ok
    | with_reducible apply State.gateLimb_ok
    | (with_reducible refine State.modMem_ok _ rfl rfl ?_)
    | with_reducible apply State.modEngines_ok
    | split

theorem execInputLoss_ok (n : Mark) (a1) (a2) (a3 : State) (ha3 : a3.Ok n) : OkH n (execInputLoss a1 a2 a3) := by
  unfold execInputLoss
  refine act2_ok _ _ (fun s hs => ?_) ha3
  try dsimp only
  repeat' first
    | with_reducible assumption
    | intro _
    | (extract_lets +onlyGivenNames z; first | (refine State.Ok.cut (n := n) z ?_ ?_ <;> [(intro _; clear_value z); subst z]) | (refine State.Ok.cutPair (n := n) z ?_ ?_ <;> [(intro _; clear_value z); subst z]) | clear_value z)
    | with_reducible apply State.Ok.ite
    | with_reducible apply inputLossEffect_ok
    | split

theorem storeExhaustedEffect_ok (n : Mark) (a1 : State) (ha1 : a1.Ok n) : (storeExhaustedEffect a1).Ok n := by
  unfold storeExhaustedEffect
  repeat' first
    | with_reducible assumption
    | intro _
    | (extract_lets +onlyGivenNames z; first | (refine State.Ok.cut (n := n) z ?_ ?_ <;> [(intro _; clear_value z); subst z]) | (refine State.Ok.cutPair (n := n) z ?_ ?_ <;> [(intro _; clear_value z); subst z]) | clear_value z)
    | with_reducible apply State.Ok.ite
    | with_reducible apply State.modPower_ok
    | with_reducible apply State.powerOff_ok
    | split

theorem execStoreExhausted_ok (n : Mark) (a1) (a2 : State) (ha2 : a2.Ok n) : OkH n (execStoreExhausted a1 a2) := by
  unfold execStoreExhausted
  refine act1_ok _ _ (fun s hs => ?_) ha2
  try dsimp only
  repeat' first
    | with_reducible assumption
    | intro _
    | (extract_lets +onlyGivenNames z; first | (refine State.Ok.cut (n := n) z ?_ ?_ <;> [(intro _; clear_value z); subst z]) | (refine State.Ok.cutPair (n := n) z ?_ ?_ <;> [(intro _; clear_value z); subst z]) | clear_value z)
    | with_reducible apply State.Ok.ite
    | with_reducible apply storeExhaustedEffect_ok
    | split

theorem State.govern_ok (n : Mark) (a1 : State) (a2) (ha1 : a1.Ok n) : (State.govern a1 a2).Ok n := by
  unfold State.govern
  repeat' first
    | with_reducible assumption
    | intro _
    | (extract_lets +onlyGivenNames z; first | (refine State.Ok.cut (n := n) z ?_ ?_ <;> [(intro _; clear_value z); subst z]) | (refine State.Ok.cutPair (n := n) z ?_ ?_ <;> [(intro _; clear_value z); subst z]) | clear_value z)
    | with_reducible apply State.Ok.ite
    | with_reducible apply State.modPower_ok
    | with_reducible apply State.each_ok
    | with_reducible apply State.emit_ok
    | with_reducible apply State.l0pTo_ok
    | split

theorem State.governFull_ok (n : Mark) (a1 : State) (ha1 : a1.Ok n) : (State.governFull a1).Ok n := by
  unfold State.governFull
  repeat' first
    | with_reducible assumption
    | intro _
    | (extract_lets +onlyGivenNames z; first | (refine State.Ok.cut (n := n) z ?_ ?_ <;> [(intro _; clear_value z); subst z]) | (refine State.Ok.cutPair (n := n) z ?_ ?_ <;> [(intro _; clear_value z); subst z]) | clear_value z)
    | with_reducible apply State.Ok.ite
    | with_reducible apply State.countHeart_ok
    | with_reducible apply State.govern_ok
    | split

theorem State.converter_ok (n : Mark) (a1 : State) (a2) (a3) (a4) (ha1 : a1.Ok n) : (State.converter a1 a2 a3 a4).Ok n := by
  unfold State.converter
  repeat' first
    | with_reducible assumption
    | intro _
    | (extract_lets +onlyGivenNames z; first | (refine State.Ok.cut (n := n) z ?_ ?_ <;> [(intro _; clear_value z); subst z]) | (refine State.Ok.cutPair (n := n) z ?_ ?_ <;> [(intro _; clear_value z); subst z]) | clear_value z)
    | with_reducible apply State.Ok.ite
    | with_reducible apply State.modPower_ok
    | with_reducible apply State.reading_ok
    | split

theorem storeSupplyLimitEffect_ok (n : Mark) (a1 : State) (a2) (a3) (ha1 : a1.Ok n) : (storeSupplyLimitEffect a1 a2 a3).Ok n := by
  unfold storeSupplyLimitEffect
  repeat' first
    | with_reducible assumption
    | intro _
    | (extract_lets +onlyGivenNames z; first | (refine State.Ok.cut (n := n) z ?_ ?_ <;> [(intro _; clear_value z); subst z]) | (refine State.Ok.cutPair (n := n) z ?_ ?_ <;> [(intro _; clear_value z); subst z]) | clear_value z)
    | with_reducible apply State.Ok.ite
    | with_reducible apply State.converter_ok
    | with_reducible apply State.noteFree_ok
    | with_reducible apply State.countHeart_ok
    | with_reducible apply State.governFull_ok
    | split

theorem execStoreSupplyLimit_ok (n : Mark) (a1) (a2) (a3) (a4 : State) (ha4 : a4.Ok n) : OkH n (execStoreSupplyLimit a1 a2 a3 a4) := by
  unfold execStoreSupplyLimit
  refine act1_ok _ _ (fun s hs => ?_) ha4
  try dsimp only
  repeat' first
    | with_reducible assumption
    | intro _
    | (extract_lets +onlyGivenNames z; first | (refine State.Ok.cut (n := n) z ?_ ?_ <;> [(intro _; clear_value z); subst z]) | (refine State.Ok.cutPair (n := n) z ?_ ?_ <;> [(intro _; clear_value z); subst z]) | clear_value z)
    | with_reducible apply State.Ok.ite
    | with_reducible apply storeSupplyLimitEffect_ok
    | split

theorem governorStepDownEffect_ok (n : Mark) (a1 : State) (a2) (a3) (ha1 : a1.Ok n) : (governorStepDownEffect a1 a2 a3).Ok n := by
  unfold governorStepDownEffect
  repeat' first
    | with_reducible assumption
    | intro _
    | (extract_lets +onlyGivenNames z; first | (refine State.Ok.cut (n := n) z ?_ ?_ <;> [(intro _; clear_value z); subst z]) | (refine State.Ok.cutPair (n := n) z ?_ ?_ <;> [(intro _; clear_value z); subst z]) | clear_value z)
    | with_reducible apply State.Ok.ite
    | with_reducible apply State.govern_ok
    | with_reducible apply State.modPower_ok
    | with_reducible apply State.reading_ok
    | split

theorem execGovernorStepDown_ok (n : Mark) (a1) (a2) (a3) (a4 : State) (ha4 : a4.Ok n) : OkH n (execGovernorStepDown a1 a2 a3 a4) := by
  unfold execGovernorStepDown
  refine act1_ok _ _ (fun s hs => ?_) ha4
  try dsimp only
  repeat' first
    | with_reducible assumption
    | intro _
    | (extract_lets +onlyGivenNames z; first | (refine State.Ok.cut (n := n) z ?_ ?_ <;> [(intro _; clear_value z); subst z]) | (refine State.Ok.cutPair (n := n) z ?_ ?_ <;> [(intro _; clear_value z); subst z]) | clear_value z)
    | with_reducible apply State.Ok.ite
    | with_reducible apply governorStepDownEffect_ok
    | split

theorem intakeDipEffect_ok (n : Mark) (a1 : State) (a2) (a3) (a4) (a5) (ha1 : a1.Ok n) : (intakeDipEffect a1 a2 a3 a4 a5).Ok n := by
  unfold intakeDipEffect
  repeat' first
    | with_reducible assumption
    | intro _
    | (extract_lets +onlyGivenNames z; first | (refine State.Ok.cut (n := n) z ?_ ?_ <;> [(intro _; clear_value z); subst z]) | (refine State.Ok.cutPair (n := n) z ?_ ?_ <;> [(intro _; clear_value z); subst z]) | clear_value z)
    | with_reducible apply State.Ok.ite
    | with_reducible apply State.countHeart_ok
    | with_reducible apply State.converter_ok
    | with_reducible apply State.noteFree_ok
    | with_reducible apply State.modPower_ok
    | split

theorem execIntakeDip_ok (n : Mark) (a1) (a2) (a3) (a4) (a5) (a6 : State) (ha6 : a6.Ok n) : OkH n (execIntakeDip a1 a2 a3 a4 a5 a6) := by
  unfold execIntakeDip
  refine act1_ok _ _ (fun s hs => ?_) ha6
  try dsimp only
  repeat' first
    | with_reducible assumption
    | intro _
    | (extract_lets +onlyGivenNames z; first | (refine State.Ok.cut (n := n) z ?_ ?_ <;> [(intro _; clear_value z); subst z]) | (refine State.Ok.cutPair (n := n) z ?_ ?_ <;> [(intro _; clear_value z); subst z]) | clear_value z)
    | with_reducible apply State.Ok.ite
    | with_reducible apply intakeDipEffect_ok
    | split

theorem intakeSenseDivergeEffect_ok (n : Mark) (a1 : State) (a2) (a3) (ha1 : a1.Ok n) : (intakeSenseDivergeEffect a1 a2 a3).Ok n := by
  unfold intakeSenseDivergeEffect
  repeat' first
    | with_reducible assumption
    | intro _
    | (extract_lets +onlyGivenNames z; first | (refine State.Ok.cut (n := n) z ?_ ?_ <;> [(intro _; clear_value z); subst z]) | (refine State.Ok.cutPair (n := n) z ?_ ?_ <;> [(intro _; clear_value z); subst z]) | clear_value z)
    | with_reducible apply State.Ok.ite
    | with_reducible apply State.sampleAmps_ok
    | with_reducible apply State.noteFree_ok
    | split

theorem execIntakeSenseDiverge_ok (n : Mark) (a1) (a2) (a3) (a4 : State) (ha4 : a4.Ok n) : OkH n (execIntakeSenseDiverge a1 a2 a3 a4) := by
  unfold execIntakeSenseDiverge
  refine act2_ok _ _ (fun s hs => ?_) ha4
  try dsimp only
  repeat' first
    | with_reducible assumption
    | intro _
    | (extract_lets +onlyGivenNames z; first | (refine State.Ok.cut (n := n) z ?_ ?_ <;> [(intro _; clear_value z); subst z]) | (refine State.Ok.cutPair (n := n) z ?_ ?_ <;> [(intro _; clear_value z); subst z]) | clear_value z)
    | with_reducible apply State.Ok.ite
    | with_reducible apply intakeSenseDivergeEffect_ok
    | split

theorem State.clearPeaks_ok (n : Mark) (a1 : State) (ha1 : a1.Ok n) : (State.clearPeaks a1).Ok n := by
  unfold State.clearPeaks
  repeat' first
    | with_reducible assumption
    | intro _
    | (extract_lets +onlyGivenNames z; first | (refine State.Ok.cut (n := n) z ?_ ?_ <;> [(intro _; clear_value z); subst z]) | (refine State.Ok.cutPair (n := n) z ?_ ?_ <;> [(intro _; clear_value z); subst z]) | clear_value z)
    | with_reducible apply State.Ok.ite
    | with_reducible apply State.modPower_ok
    | split

theorem execIntakePeakClear_ok (n : Mark) (a1) (a2) (a3 : State) (ha3 : a3.Ok n) : OkH n (execIntakePeakClear a1 a2 a3) := by
  unfold execIntakePeakClear
  refine act1_ok _ _ (fun s hs => ?_) ha3
  try dsimp only
  repeat' first
    | with_reducible assumption
    | intro _
    | (extract_lets +onlyGivenNames z; first | (refine State.Ok.cut (n := n) z ?_ ?_ <;> [(intro _; clear_value z); subst z]) | (refine State.Ok.cutPair (n := n) z ?_ ?_ <;> [(intro _; clear_value z); subst z]) | clear_value z)
    | with_reducible apply State.Ok.ite
    | with_reducible apply State.clearPeaks_ok
    | split

theorem State.perstCheck_ok (n : Mark) (a1 : State) (a2) (ha1 : a1.Ok n) : (State.perstCheck a1 a2).Ok n := by
  unfold State.perstCheck
  repeat' first
    | with_reducible assumption
    | intro _
    | (extract_lets +onlyGivenNames z; first | (refine State.Ok.cut (n := n) z ?_ ?_ <;> [(intro _; clear_value z); subst z]) | (refine State.Ok.cutPair (n := n) z ?_ ?_ <;> [(intro _; clear_value z); subst z]) | clear_value z)
    | with_reducible apply State.Ok.ite
    | with_reducible apply State.perst_ok
    | split

theorem State.rampNext_ok (n : Mark) (a1 : State) (ha1 : a1.Ok n) : (State.rampNext a1).Ok n := by
  unfold State.rampNext
  repeat' first
    | with_reducible assumption
    | intro _
    | (extract_lets +onlyGivenNames z; first | (refine State.Ok.cut (n := n) z ?_ ?_ <;> [(intro _; clear_value z); subst z]) | (refine State.Ok.cutPair (n := n) z ?_ ?_ <;> [(intro _; clear_value z); subst z]) | (refine State.Ok.cutFun (n := n) z ?_ ?_ <;> [(intro _; clear_value z); subst z]) | (refine State.Ok.cutFun2 (n := n) z ?_ ?_ <;> [(intro _; clear_value z); subst z]) | (refine State.Ok.cutFun3 (n := n) z ?_ ?_ <;> [(intro _; clear_value z); subst z]) | (refine State.Ok.cutFun4 (n := n) z ?_ ?_ <;> [(intro _; clear_value z); subst z]) | (refine State.Ok.cutFun5 (n := n) z ?_ ?_ <;> [(intro _; clear_value z); subst z]) | (refine State.Ok.cutFun6 (n := n) z ?_ ?_ <;> [(intro _; clear_value z); subst z]) | (refine State.Ok.cutFun7 (n := n) z ?_ ?_ <;> [(intro _; clear_value z); subst z]) | clear_value z)
    | with_reducible apply State.Ok.ite
    | with_reducible apply_assumption
    | with_reducible apply State.each_ok
    | with_reducible apply State.countHeart_ok
    | with_reducible apply State.modSlot_ok
    | split

theorem State.slotUpdate_ok (n : Mark) (a1 : State) (a2) (ha1 : a1.Ok n) : (State.slotUpdate a1 a2).Ok n := by
  unfold State.slotUpdate
  repeat' first
    | with_reducible assumption
    | intro _
    | (extract_lets +onlyGivenNames z; first | (refine State.Ok.cut (n := n) z ?_ ?_ <;> [(intro _; clear_value z); subst z]) | (refine State.Ok.cutPair (n := n) z ?_ ?_ <;> [(intro _; clear_value z); subst z]) | clear_value z)
    | with_reducible apply State.Ok.ite
    | with_reducible apply State.each_ok
    | with_reducible apply State.modSlot_ok
    | with_reducible apply State.rampNext_ok
    | with_reducible apply State.perstCheck_ok
    | split

theorem execSlotDemandChange_ok (n : Mark) (a1) (a2) (a3 : State) (ha3 : a3.Ok n) : OkH n (execSlotDemandChange a1 a2 a3) := by
  unfold execSlotDemandChange
  refine act1_ok _ _ (fun s hs => ?_) ha3
  try dsimp only
  repeat' first
    | with_reducible assumption
    | intro _
    | (extract_lets +onlyGivenNames z; first | (refine State.Ok.cut (n := n) z ?_ ?_ <;> [(intro _; clear_value z); subst z]) | (refine State.Ok.cutPair (n := n) z ?_ ?_ <;> [(intro _; clear_value z); subst z]) | clear_value z)
    | with_reducible apply State.Ok.ite
    | with_reducible apply State.slotUpdate_ok
    | split

theorem State.slotNote_ok (n : Mark) (a1 : State) (a2) (a3) (a4) (a5) (ha1 : a1.Ok n) : (State.slotNote a1 a2 a3 a4 a5).Ok n := by
  unfold State.slotNote
  repeat' first
    | with_reducible assumption
    | intro _
    | (extract_lets +onlyGivenNames z; first | (refine State.Ok.cut (n := n) z ?_ ?_ <;> [(intro _; clear_value z); subst z]) | (refine State.Ok.cutPair (n := n) z ?_ ?_ <;> [(intro _; clear_value z); subst z]) | clear_value z)
    | with_reducible apply State.Ok.ite
    | with_reducible apply State.note_ok
    | split

theorem State.powerFault_ok (n : Mark) (a1 : State) (a2) (ha1 : a1.Ok n) : (State.powerFault a1 a2).Ok n := by
  unfold State.powerFault
  repeat' first
    | with_reducible assumption
    | intro _
    | (extract_lets +onlyGivenNames z; first | (refine State.Ok.cut (n := n) z ?_ ?_ <;> [(intro _; clear_value z); subst z]) | (refine State.Ok.cutPair (n := n) z ?_ ?_ <;> [(intro _; clear_value z); subst z]) | clear_value z)
    | with_reducible apply State.Ok.ite
    | with_reducible apply State.slotEvent_ok
    | split

theorem State.slotStop_ok (n : Mark) (a1 : State) (a2) (a3) (a4) (a5) (a6) (a7) (ha1 : a1.Ok n) : (State.slotStop a1 a2 a3 a4 a5 a6 a7).Ok n := by
  unfold State.slotStop
  repeat' first
    | with_reducible assumption
    | intro _
    | (extract_lets +onlyGivenNames z; first | (refine State.Ok.cut (n := n) z ?_ ?_ <;> [(intro _; clear_value z); subst z]) | (refine State.Ok.cutPair (n := n) z ?_ ?_ <;> [(intro _; clear_value z); subst z]) | clear_value z)
    | with_reducible apply State.Ok.ite
    | with_reducible apply State.modSlot_ok
    | with_reducible apply State.each_ok
    | with_reducible apply State.countHeart_ok
    | with_reducible apply State.powerFault_ok
    | with_reducible apply State.perstCheck_ok
    | with_reducible apply State.slotNote_ok
    | with_reducible apply State.rampNext_ok
    | split

theorem State.slotTrip_ok (n : Mark) (a1 : State) (a2) (a3) (a4) (a5) (ha1 : a1.Ok n) : (State.slotTrip a1 a2 a3 a4 a5).Ok n := by
  unfold State.slotTrip
  repeat' first
    | with_reducible assumption
    | intro _
    | (extract_lets +onlyGivenNames z; first | (refine State.Ok.cut (n := n) z ?_ ?_ <;> [(intro _; clear_value z); subst z]) | (refine State.Ok.cutPair (n := n) z ?_ ?_ <;> [(intro _; clear_value z); subst z]) | clear_value z)
    | with_reducible apply State.Ok.ite
    | with_reducible apply State.slotStop_ok
    | split

theorem slotFastTripEffect_ok (n : Mark) (a1 : State) (a2) (a3) (ha1 : a1.Ok n) : (slotFastTripEffect a1 a2 a3).Ok n := by
  unfold slotFastTripEffect
  repeat' first
    | with_reducible assumption
    | intro _
    | (extract_lets +onlyGivenNames z; first | (refine State.Ok.cut (n := n) z ?_ ?_ <;> [(intro _; clear_value z); subst z]) | (refine State.Ok.cutPair (n := n) z ?_ ?_ <;> [(intro _; clear_value z); subst z]) | clear_value z)
    | with_reducible apply State.Ok.ite
    | with_reducible apply State.modSlot_ok
    | with_reducible apply State.slotTrip_ok
    | split

theorem execSlotFastTrip_ok (n : Mark) (a1) (a2) (a3) (a4 : State) (ha4 : a4.Ok n) : OkH n (execSlotFastTrip a1 a2 a3 a4) := by
  unfold execSlotFastTrip
  refine act2_ok _ _ (fun s hs => ?_) ha4
  try dsimp only
  repeat' first
    | with_reducible assumption
    | intro _
    | (extract_lets +onlyGivenNames z; first | (refine State.Ok.cut (n := n) z ?_ ?_ <;> [(intro _; clear_value z); subst z]) | (refine State.Ok.cutPair (n := n) z ?_ ?_ <;> [(intro _; clear_value z); subst z]) | clear_value z)
    | with_reducible apply State.Ok.ite
    | with_reducible apply slotFastTripEffect_ok
    | split

theorem slotCurveTripEffect_ok (n : Mark) (a1 : State) (a2) (a3) (a4) (a5) (a6) (ha1 : a1.Ok n) : (slotCurveTripEffect a1 a2 a3 a4 a5 a6).Ok n := by
  unfold slotCurveTripEffect
  repeat' first
    | with_reducible assumption
    | intro _
    | (extract_lets +onlyGivenNames z; first | (refine State.Ok.cut (n := n) z ?_ ?_ <;> [(intro _; clear_value z); subst z]) | (refine State.Ok.cutPair (n := n) z ?_ ?_ <;> [(intro _; clear_value z); subst z]) | clear_value z)
    | with_reducible apply State.Ok.ite
    | with_reducible apply State.modSlot_ok
    | with_reducible apply State.slotNote_ok
    | with_reducible apply State.slotStop_ok
    | split

theorem execSlotCurveTrip_ok (n : Mark) (a1) (a2) (a3) (a4) (a5) (a6) (a7 : State) (ha7 : a7.Ok n) : OkH n (execSlotCurveTrip a1 a2 a3 a4 a5 a6 a7) := by
  unfold execSlotCurveTrip
  refine act2_ok _ _ (fun s hs => ?_) ha7
  try dsimp only
  repeat' first
    | with_reducible assumption
    | intro _
    | (extract_lets +onlyGivenNames z; first | (refine State.Ok.cut (n := n) z ?_ ?_ <;> [(intro _; clear_value z); subst z]) | (refine State.Ok.cutPair (n := n) z ?_ ?_ <;> [(intro _; clear_value z); subst z]) | clear_value z)
    | with_reducible apply State.Ok.ite
    | with_reducible apply slotCurveTripEffect_ok
    | split

theorem slotRampFailEffect_ok (n : Mark) (a1 : State) (a2) (ha1 : a1.Ok n) : (slotRampFailEffect a1 a2).Ok n := by
  unfold slotRampFailEffect
  repeat' first
    | with_reducible assumption
    | intro _
    | (extract_lets +onlyGivenNames z; first | (refine State.Ok.cut (n := n) z ?_ ?_ <;> [(intro _; clear_value z); subst z]) | (refine State.Ok.cutPair (n := n) z ?_ ?_ <;> [(intro _; clear_value z); subst z]) | clear_value z)
    | with_reducible apply State.Ok.ite
    | with_reducible apply State.slotTrip_ok
    | split

theorem execSlotRampFail_ok (n : Mark) (a1) (a2) (a3 : State) (ha3 : a3.Ok n) : OkH n (execSlotRampFail a1 a2 a3) := by
  unfold execSlotRampFail
  refine act2_ok _ _ (fun s hs => ?_) ha3
  try dsimp only
  repeat' first
    | with_reducible assumption
    | intro _
    | (extract_lets +onlyGivenNames z; first | (refine State.Ok.cut (n := n) z ?_ ?_ <;> [(intro _; clear_value z); subst z]) | (refine State.Ok.cutPair (n := n) z ?_ ?_ <;> [(intro _; clear_value z); subst z]) | clear_value z)
    | with_reducible apply State.Ok.ite
    | with_reducible apply slotRampFailEffect_ok
    | split

theorem slotFetFailedEffect_ok (n : Mark) (a1 : State) (a2) (ha1 : a1.Ok n) : (slotFetFailedEffect a1 a2).Ok n := by
  unfold slotFetFailedEffect
  repeat' first
    | with_reducible assumption
    | intro _
    | (extract_lets +onlyGivenNames z; first | (refine State.Ok.cut (n := n) z ?_ ?_ <;> [(intro _; clear_value z); subst z]) | (refine State.Ok.cutPair (n := n) z ?_ ?_ <;> [(intro _; clear_value z); subst z]) | clear_value z)
    | with_reducible apply State.Ok.ite
    | with_reducible apply State.slotStop_ok
    | split

theorem execSlotFetFailed_ok (n : Mark) (a1) (a2) (a3 : State) (ha3 : a3.Ok n) : OkH n (execSlotFetFailed a1 a2 a3) := by
  unfold execSlotFetFailed
  refine act2_ok _ _ (fun s hs => ?_) ha3
  try dsimp only
  repeat' first
    | with_reducible assumption
    | intro _
    | (extract_lets +onlyGivenNames z; first | (refine State.Ok.cut (n := n) z ?_ ?_ <;> [(intro _; clear_value z); subst z]) | (refine State.Ok.cutPair (n := n) z ?_ ?_ <;> [(intro _; clear_value z); subst z]) | clear_value z)
    | with_reducible apply State.Ok.ite
    | with_reducible apply slotFetFailedEffect_ok
    | split

theorem State.slotSidebandFault_ok (n : Mark) (a1 : State) (a2) (ha1 : a1.Ok n) : (State.slotSidebandFault a1 a2).Ok n := by
  unfold State.slotSidebandFault
  repeat' first
    | with_reducible assumption
    | intro _
    | (extract_lets +onlyGivenNames z; first | (refine State.Ok.cut (n := n) z ?_ ?_ <;> [(intro _; clear_value z); subst z]) | (refine State.Ok.cutPair (n := n) z ?_ ?_ <;> [(intro _; clear_value z); subst z]) | clear_value z)
    | with_reducible apply State.Ok.ite
    | with_reducible apply State.each_ok
    | with_reducible apply State.modSlot_ok
    | with_reducible apply State.perstCheck_ok
    | with_reducible apply State.countHeart_ok
    | with_reducible apply State.rampNext_ok
    | with_reducible apply State.slotNote_ok
    | split

theorem State.clearSlot_ok (n : Mark) (a1 : State) (a2) (ha1 : a1.Ok n) : (State.clearSlot a1 a2).Ok n := by
  unfold State.clearSlot
  repeat' first
    | with_reducible assumption
    | intro _
    | (extract_lets +onlyGivenNames z; first | (refine State.Ok.cut (n := n) z ?_ ?_ <;> [(intro _; clear_value z); subst z]) | (refine State.Ok.cutPair (n := n) z ?_ ?_ <;> [(intro _; clear_value z); subst z]) | clear_value z)
    | with_reducible apply State.Ok.ite
    | with_reducible apply State.each_ok
    | with_reducible apply State.modSlot_ok
    | with_reducible apply State.slotUpdate_ok
    | split

theorem execSlotClear_ok (n : Mark) (a1) (a2) (a3) (a4 : State) (ha4 : a4.Ok n) : OkH n (execSlotClear a1 a2 a3 a4) := by
  unfold execSlotClear
  refine act1_ok _ _ (fun s hs => ?_) ha4
  try dsimp only
  repeat' first
    | with_reducible assumption
    | intro _
    | (extract_lets +onlyGivenNames z; first | (refine State.Ok.cut (n := n) z ?_ ?_ <;> [(intro _; clear_value z); subst z]) | (refine State.Ok.cutPair (n := n) z ?_ ?_ <;> [(intro _; clear_value z); subst z]) | clear_value z)
    | with_reducible apply State.Ok.ite
    | with_reducible apply State.clearSlot_ok
    | split

theorem slotPgEffect_ok (n : Mark) (a1 : State) (a2) (a3) (ha1 : a1.Ok n) : (slotPgEffect a1 a2 a3).Ok n := by
  unfold slotPgEffect
  repeat' first
    | with_reducible assumption
    | intro _
    | (extract_lets +onlyGivenNames z; first | (refine State.Ok.cut (n := n) z ?_ ?_ <;> [(intro _; clear_value z); subst z]) | (refine State.Ok.cutPair (n := n) z ?_ ?_ <;> [(intro _; clear_value z); subst z]) | clear_value z)
    | with_reducible apply State.Ok.ite
    | with_reducible apply State.each_ok
    | with_reducible apply State.modSlot_ok
    | with_reducible apply State.rampNext_ok
    | with_reducible apply State.slotNote_ok
    | split

theorem execSlotPg_ok (n : Mark) (a1) (a2) (a3) (a4 : State) (ha4 : a4.Ok n) : OkH n (execSlotPg a1 a2 a3 a4) := by
  unfold execSlotPg
  refine act1_ok _ _ (fun s hs => ?_) ha4
  try dsimp only
  repeat' first
    | with_reducible assumption
    | intro _
    | (extract_lets +onlyGivenNames z; first | (refine State.Ok.cut (n := n) z ?_ ?_ <;> [(intro _; clear_value z); subst z]) | (refine State.Ok.cutPair (n := n) z ?_ ?_ <;> [(intro _; clear_value z); subst z]) | clear_value z)
    | with_reducible apply State.Ok.ite
    | with_reducible apply slotPgEffect_ok
    | split

theorem perstReleaseEffect_ok (n : Mark) (a1 : State) (a2) (ha1 : a1.Ok n) : (perstReleaseEffect a1 a2).Ok n := by
  unfold perstReleaseEffect
  repeat' first
    | with_reducible assumption
    | intro _
    | (extract_lets +onlyGivenNames z; first | (refine State.Ok.cut (n := n) z ?_ ?_ <;> [(intro _; clear_value z); subst z]) | (refine State.Ok.cutPair (n := n) z ?_ ?_ <;> [(intro _; clear_value z); subst z]) | clear_value z)
    | with_reducible apply State.Ok.ite
    | with_reducible apply State.modHPort_ok
    | with_reducible apply State.perst_ok
    | split

theorem execPerstRelease_ok (n : Mark) (a1) (a2) (a3 : State) (ha3 : a3.Ok n) : OkH n (execPerstRelease a1 a2 a3) := by
  unfold execPerstRelease
  refine act1_ok _ _ (fun s hs => ?_) ha3
  try dsimp only
  repeat' first
    | with_reducible assumption
    | intro _
    | (extract_lets +onlyGivenNames z; first | (refine State.Ok.cut (n := n) z ?_ ?_ <;> [(intro _; clear_value z); subst z]) | (refine State.Ok.cutPair (n := n) z ?_ ?_ <;> [(intro _; clear_value z); subst z]) | clear_value z)
    | with_reducible apply State.Ok.ite
    | with_reducible apply perstReleaseEffect_ok
    | split

theorem partStartActiveEffect_ok (n : Mark) (a1 : State) (a2) (ha1 : a1.Ok n) : (partStartActiveEffect a1 a2).Ok n := by
  unfold partStartActiveEffect
  repeat' first
    | with_reducible assumption
    | intro _
    | (extract_lets +onlyGivenNames z; first | (refine State.Ok.cut (n := n) z ?_ ?_ <;> [(intro _; clear_value z); subst z]) | (refine State.Ok.cutPair (n := n) z ?_ ?_ <;> [(intro _; clear_value z); subst z]) | clear_value z)
    | with_reducible apply State.Ok.ite
    | with_reducible apply State.noteAt_ok
    | with_reducible apply State.modPart_ok
    | split

theorem execPartStartActive_ok (n : Mark) (a1) (a2) (a3 : State) (ha3 : a3.Ok n) : OkH n (execPartStartActive a1 a2 a3) := by
  unfold execPartStartActive
  refine act1_ok _ _ (fun s hs => ?_) ha3
  try dsimp only
  repeat' first
    | with_reducible assumption
    | intro _
    | (extract_lets +onlyGivenNames z; first | (refine State.Ok.cut (n := n) z ?_ ?_ <;> [(intro _; clear_value z); subst z]) | (refine State.Ok.cutPair (n := n) z ?_ ?_ <;> [(intro _; clear_value z); subst z]) | clear_value z)
    | with_reducible apply State.Ok.ite
    | with_reducible apply partStartActiveEffect_ok
    | split

theorem thermHighEffect_ok (n : Mark) (a1 : State) (a2) (ha1 : a1.Ok n) : (thermHighEffect a1 a2).Ok n := by
  unfold thermHighEffect
  repeat' first
    | with_reducible assumption
    | intro _
    | (extract_lets +onlyGivenNames z; first | (refine State.Ok.cut (n := n) z ?_ ?_ <;> [(intro _; clear_value z); subst z]) | (refine State.Ok.cutPair (n := n) z ?_ ?_ <;> [(intro _; clear_value z); subst z]) | clear_value z)
    | with_reducible apply State.Ok.ite
    | with_reducible apply State.modPower_ok
    | with_reducible apply State.noteAt_ok
    | with_reducible apply State.governFull_ok
    | split

theorem execThermHigh_ok (n : Mark) (a1) (a2) (a3 : State) (ha3 : a3.Ok n) : OkH n (execThermHigh a1 a2 a3) := by
  unfold execThermHigh
  refine act2_ok _ _ (fun s hs => ?_) ha3
  try dsimp only
  repeat' first
    | with_reducible assumption
    | intro _
    | (extract_lets +onlyGivenNames z; first | (refine State.Ok.cut (n := n) z ?_ ?_ <;> [(intro _; clear_value z); subst z]) | (refine State.Ok.cutPair (n := n) z ?_ ?_ <;> [(intro _; clear_value z); subst z]) | clear_value z)
    | with_reducible apply State.Ok.ite
    | with_reducible apply thermHighEffect_ok
    | split

theorem thermTripEffect_ok (n : Mark) (a1 : State) (a2) (ha1 : a1.Ok n) : (thermTripEffect a1 a2).Ok n := by
  unfold thermTripEffect
  repeat' first
    | with_reducible assumption
    | intro _
    | (extract_lets +onlyGivenNames z; first | (refine State.Ok.cut (n := n) z ?_ ?_ <;> [(intro _; clear_value z); subst z]) | (refine State.Ok.cutPair (n := n) z ?_ ?_ <;> [(intro _; clear_value z); subst z]) | clear_value z)
    | with_reducible apply State.Ok.ite
    | with_reducible apply State.modPower_ok
    | with_reducible apply State.note_ok
    | with_reducible apply State.each_ok
    | with_reducible apply State.gateLimb_ok
    | split

theorem execThermTrip_ok (n : Mark) (a1) (a2) (a3 : State) (ha3 : a3.Ok n) : OkH n (execThermTrip a1 a2 a3) := by
  unfold execThermTrip
  refine act2_ok _ _ (fun s hs => ?_) ha3
  try dsimp only
  repeat' first
    | with_reducible assumption
    | intro _
    | (extract_lets +onlyGivenNames z; first | (refine State.Ok.cut (n := n) z ?_ ?_ <;> [(intro _; clear_value z); subst z]) | (refine State.Ok.cutPair (n := n) z ?_ ?_ <;> [(intro _; clear_value z); subst z]) | clear_value z)
    | with_reducible apply State.Ok.ite
    | with_reducible apply thermTripEffect_ok
    | split

theorem execThermCool_ok (n : Mark) (a1) (a2 : State) (ha2 : a2.Ok n) : OkH n (execThermCool a1 a2) := by
  unfold execThermCool
  refine act1_ok _ _ (fun s hs => ?_) ha2
  try dsimp only
  repeat' first
    | with_reducible assumption
    | intro _
    | (extract_lets +onlyGivenNames z; first | (refine State.Ok.cut (n := n) z ?_ ?_ <;> [(intro _; clear_value z); subst z]) | (refine State.Ok.cutPair (n := n) z ?_ ?_ <;> [(intro _; clear_value z); subst z]) | clear_value z)
    | with_reducible apply State.Ok.ite
    | with_reducible apply State.modPower_ok
    | split

theorem reftLostEffect_ok (n : Mark) (a1 : State) (a2) (ha1 : a1.Ok n) : (reftLostEffect a1 a2).Ok n := by
  unfold reftLostEffect
  repeat' first
    | with_reducible assumption
    | intro _
    | (extract_lets +onlyGivenNames z; first | (refine State.Ok.cut (n := n) z ?_ ?_ <;> [(intro _; clear_value z); subst z]) | (refine State.Ok.cutPair (n := n) z ?_ ?_ <;> [(intro _; clear_value z); subst z]) | clear_value z)
    | with_reducible apply State.Ok.ite
    | with_reducible apply State.modPower_ok
    | with_reducible apply State.noteAt_ok
    | with_reducible apply State.each_ok
    | with_reducible apply State.trunkRetrain_ok
    | split

theorem execReftLost_ok (n : Mark) (a1) (a2) (a3 : State) (ha3 : a3.Ok n) : OkH n (execReftLost a1 a2 a3) := by
  unfold execReftLost
  refine act2_ok _ _ (fun s hs => ?_) ha3
  try dsimp only
  repeat' first
    | with_reducible assumption
    | intro _
    | (extract_lets +onlyGivenNames z; first | (refine State.Ok.cut (n := n) z ?_ ?_ <;> [(intro _; clear_value z); subst z]) | (refine State.Ok.cutPair (n := n) z ?_ ?_ <;> [(intro _; clear_value z); subst z]) | clear_value z)
    | with_reducible apply State.Ok.ite
    | with_reducible apply reftLostEffect_ok
    | split

theorem reftRestoredEffect_ok (n : Mark) (a1 : State) (a2) (ha1 : a1.Ok n) : (reftRestoredEffect a1 a2).Ok n := by
  unfold reftRestoredEffect
  repeat' first
    | with_reducible assumption
    | intro _
    | (extract_lets +onlyGivenNames z; first | (refine State.Ok.cut (n := n) z ?_ ?_ <;> [(intro _; clear_value z); subst z]) | (refine State.Ok.cutPair (n := n) z ?_ ?_ <;> [(intro _; clear_value z); subst z]) | clear_value z)
    | with_reducible apply State.Ok.ite
    | with_reducible apply State.modPower_ok
    | with_reducible apply State.each_ok
    | with_reducible apply State.modTrunk_ok
    | split

theorem execReftRestored_ok (n : Mark) (a1) (a2) (a3 : State) (ha3 : a3.Ok n) : OkH n (execReftRestored a1 a2 a3) := by
  unfold execReftRestored
  refine act1_ok _ _ (fun s hs => ?_) ha3
  try dsimp only
  repeat' first
    | with_reducible assumption
    | intro _
    | (extract_lets +onlyGivenNames z; first | (refine State.Ok.cut (n := n) z ?_ ?_ <;> [(intro _; clear_value z); subst z]) | (refine State.Ok.cutPair (n := n) z ?_ ?_ <;> [(intro _; clear_value z); subst z]) | clear_value z)
    | with_reducible apply State.Ok.ite
    | with_reducible apply reftRestoredEffect_ok
    | split

theorem ref25LostEffect_ok (n : Mark) (a1 : State) (ha1 : a1.Ok n) : (ref25LostEffect a1).Ok n := by
  unfold ref25LostEffect
  repeat' first
    | with_reducible assumption
    | intro _
    | (extract_lets +onlyGivenNames z; first | (refine State.Ok.cut (n := n) z ?_ ?_ <;> [(intro _; clear_value z); subst z]) | (refine State.Ok.cutPair (n := n) z ?_ ?_ <;> [(intro _; clear_value z); subst z]) | clear_value z)
    | with_reducible apply State.Ok.ite
    | with_reducible apply State.modPower_ok
    | with_reducible apply State.note_ok
    | with_reducible apply State.modTime_ok
    | split

theorem execRef25Lost_ok (n : Mark) (a1) (a2 : State) (ha2 : a2.Ok n) : OkH n (execRef25Lost a1 a2) := by
  unfold execRef25Lost
  refine act2_ok _ _ (fun s hs => ?_) ha2
  try dsimp only
  repeat' first
    | with_reducible assumption
    | intro _
    | (extract_lets +onlyGivenNames z; first | (refine State.Ok.cut (n := n) z ?_ ?_ <;> [(intro _; clear_value z); subst z]) | (refine State.Ok.cutPair (n := n) z ?_ ?_ <;> [(intro _; clear_value z); subst z]) | clear_value z)
    | with_reducible apply State.Ok.ite
    | with_reducible apply ref25LostEffect_ok
    | split

theorem ref25GoodEffect_ok (n : Mark) (a1 : State) (ha1 : a1.Ok n) : (ref25GoodEffect a1).Ok n := by
  unfold ref25GoodEffect
  repeat' first
    | with_reducible assumption
    | intro _
    | (extract_lets +onlyGivenNames z; first | (refine State.Ok.cut (n := n) z ?_ ?_ <;> [(intro _; clear_value z); subst z]) | (refine State.Ok.cutPair (n := n) z ?_ ?_ <;> [(intro _; clear_value z); subst z]) | clear_value z)
    | with_reducible apply State.Ok.ite
    | with_reducible apply State.modPower_ok
    | with_reducible apply State.modTime_ok
    | (with_reducible refine State.modJournal_ok _ rfl ?_)
    | split

theorem execRef25Good_ok (n : Mark) (a1) (a2 : State) (ha2 : a2.Ok n) : OkH n (execRef25Good a1 a2) := by
  unfold execRef25Good
  refine act1_ok _ _ (fun s hs => ?_) ha2
  try dsimp only
  repeat' first
    | with_reducible assumption
    | intro _
    | (extract_lets +onlyGivenNames z; first | (refine State.Ok.cut (n := n) z ?_ ?_ <;> [(intro _; clear_value z); subst z]) | (refine State.Ok.cutPair (n := n) z ?_ ?_ <;> [(intro _; clear_value z); subst z]) | clear_value z)
    | with_reducible apply State.Ok.ite
    | with_reducible apply ref25GoodEffect_ok
    | split

theorem resetNAssertEffect_ok (n : Mark) (a1 : State) (ha1 : a1.Ok n) : (resetNAssertEffect a1).Ok n := by
  unfold resetNAssertEffect
  repeat' first
    | with_reducible assumption
    | intro _
    | (extract_lets +onlyGivenNames z; first | (refine State.Ok.cut (n := n) z ?_ ?_ <;> [(intro _; clear_value z); subst z]) | (refine State.Ok.cutPair (n := n) z ?_ ?_ <;> [(intro _; clear_value z); subst z]) | clear_value z)
    | with_reducible apply State.Ok.ite
    | with_reducible apply State.modPower_ok
    | with_reducible apply State.warmReset_ok
    | split

theorem execResetNAssert_ok (n : Mark) (a1) (a2 : State) (ha2 : a2.Ok n) : OkH n (execResetNAssert a1 a2) := by
  unfold execResetNAssert
  refine act1_ok _ _ (fun s hs => ?_) ha2
  try dsimp only
  repeat' first
    | with_reducible assumption
    | intro _
    | (extract_lets +onlyGivenNames z; first | (refine State.Ok.cut (n := n) z ?_ ?_ <;> [(intro _; clear_value z); subst z]) | (refine State.Ok.cutPair (n := n) z ?_ ?_ <;> [(intro _; clear_value z); subst z]) | clear_value z)
    | with_reducible apply State.Ok.ite
    | with_reducible apply resetNAssertEffect_ok
    | split

theorem resetNReleaseEffect_ok (n : Mark) (a1 : State) (a2) (a3) (a4) (ha1 : a1.Ok n) : (resetNReleaseEffect a1 a2 a3 a4).Ok n := by
  unfold resetNReleaseEffect
  repeat' first
    | with_reducible assumption
    | intro _
    | (extract_lets +onlyGivenNames z; first | (refine State.Ok.cut (n := n) z ?_ ?_ <;> [(intro _; clear_value z); subst z]) | (refine State.Ok.cutPair (n := n) z ?_ ?_ <;> [(intro _; clear_value z); subst z]) | clear_value z)
    | with_reducible apply State.Ok.ite
    | (with_reducible refine State.modJournal_ok _ rfl ?_)
    | (with_reducible refine State.modSec_ok _ rfl ?_)
    | with_reducible apply State.modPower_ok
    | split

theorem execResetNRelease_ok (n : Mark) (a1) (a2) (a3) (a4) (a5 : State) (ha5 : a5.Ok n) : OkH n (execResetNRelease a1 a2 a3 a4 a5) := by
  unfold execResetNRelease
  refine act1_ok _ _ (fun s hs => ?_) ha5
  try dsimp only
  repeat' first
    | with_reducible assumption
    | intro _
    | (extract_lets +onlyGivenNames z; first | (refine State.Ok.cut (n := n) z ?_ ?_ <;> [(intro _; clear_value z); subst z]) | (refine State.Ok.cutPair (n := n) z ?_ ?_ <;> [(intro _; clear_value z); subst z]) | clear_value z)
    | with_reducible apply State.Ok.ite
    | with_reducible apply resetNReleaseEffect_ok
    | split

end Sys2Proof.Machine
end

