-- ==== Sys2Proof/Laws/KeepPartitions.lean ====
section
/-! SUPPORT. Every operation of Partitions.lean keeps the invariant, and the local count does not run back. -/

set_option linter.all false

namespace Sys2Proof.Machine

theorem State.masterOff_ok (n : Mark) (a1 : State) (a2) (a3) (ha1 : a1.Ok n) : (State.masterOff a1 a2 a3).Ok n := by
  unfold State.masterOff
  repeat' first
    | with_reducible assumption
    | intro _
    | (extract_lets +onlyGivenNames z; first | (refine State.Ok.cut (n := n) z ?_ ?_ <;> [(intro _; clear_value z); subst z]) | (refine State.Ok.cutPair (n := n) z ?_ ?_ <;> [(intro _; clear_value z); subst z]) | clear_value z)
    | with_reducible apply State.Ok.ite
    | with_reducible apply State.deadWaiters_ok
    | with_reducible apply State.modFn_ok
    | split

theorem State.fnReset_ok (n : Mark) (a1 : State) (a2) (a3) (ha1 : a1.Ok n) : (State.fnReset a1 a2 a3).Ok n := by
  unfold State.fnReset
  repeat' first
    | with_reducible assumption
    | intro _
    | (extract_lets +onlyGivenNames z; first | (refine State.Ok.cut (n := n) z ?_ ?_ <;> [(intro _; clear_value z); subst z]) | (refine State.Ok.cutPair (n := n) z ?_ ?_ <;> [(intro _; clear_value z); subst z]) | (refine State.Ok.cutFun (n := n) z ?_ ?_ <;> [(intro _; clear_value z); subst z]) | (refine State.Ok.cutFun2 (n := n) z ?_ ?_ <;> [(intro _; clear_value z); subst z]) | (refine State.Ok.cutFun3 (n := n) z ?_ ?_ <;> [(intro _; clear_value z); subst z]) | (refine State.Ok.cutFun4 (n := n) z ?_ ?_ <;> [(intro _; clear_value z); subst z]) | (refine State.Ok.cutFun5 (n := n) z ?_ ?_ <;> [(intro _; clear_value z); subst z]) | (refine State.Ok.cutFun6 (n := n) z ?_ ?_ <;> [(intro _; clear_value z); subst z]) | (refine State.Ok.cutFun7 (n := n) z ?_ ?_ <;> [(intro _; clear_value z); subst z]) | clear_value z)
    | with_reducible apply State.Ok.ite
    | with_reducible apply_assumption
    | with_reducible apply State.masterOff_ok
    | with_reducible apply State.modFn_ok
    | with_reducible apply State.modPart_ok
    | split

theorem State.sendPending_ok (n : Mark) (a1 : State) (a2) (a3) (ha1 : a1.Ok n) : (State.sendPending a1 a2 a3).Ok n := by
  unfold State.sendPending
  repeat' first
    | with_reducible assumption
    | intro _
    | (extract_lets +onlyGivenNames z; first | (refine State.Ok.cut (n := n) z ?_ ?_ <;> [(intro _; clear_value z); subst z]) | (refine State.Ok.cutPair (n := n) z ?_ ?_ <;> [(intro _; clear_value z); subst z]) | clear_value z)
    | with_reducible apply State.Ok.ite
    | with_reducible apply State.modFn_ok
    | with_reducible apply State.emitAll_ok
    | split

theorem State.msixOn_ok (n : Mark) (a1 : State) (a2) (a3) (ha1 : a1.Ok n) : (State.msixOn a1 a2 a3).Ok n := by
  unfold State.msixOn
  repeat' first
    | with_reducible assumption
    | intro _
    | (extract_lets +onlyGivenNames z; first | (refine State.Ok.cut (n := n) z ?_ ?_ <;> [(intro _; clear_value z); subst z]) | (refine State.Ok.cutPair (n := n) z ?_ ?_ <;> [(intro _; clear_value z); subst z]) | clear_value z)
    | with_reducible apply State.Ok.ite
    | with_reducible apply State.modFn_ok
    | with_reducible apply State.modPart_ok
    | with_reducible apply State.sendPending_ok
    | split

theorem State.sliceLink_ok (n : Mark) (a1 : State) (a2) (a3) (ha1 : a1.Ok n) : (State.sliceLink a1 a2 a3).Ok n := by
  unfold State.sliceLink
  repeat' first
    | with_reducible assumption
    | intro _
    | (extract_lets +onlyGivenNames z; first | (refine State.Ok.cut (n := n) z ?_ ?_ <;> [(intro _; clear_value z); subst z]) | (refine State.Ok.cutPair (n := n) z ?_ ?_ <;> [(intro _; clear_value z); subst z]) | clear_value z)
    | with_reducible apply State.Ok.ite
    | with_reducible apply State.slotEvent_ok
    | with_reducible apply State.modVdp_ok
    | split

theorem State.sliceFlr_ok (n : Mark) (a1 : State) (a2) (ha1 : a1.Ok n) : (State.sliceFlr a1 a2).Ok n := by
  unfold State.sliceFlr
  repeat' first
    | with_reducible assumption
    | intro _
    | (extract_lets +onlyGivenNames z; first | (refine State.Ok.cut (n := n) z ?_ ?_ <;> [(intro _; clear_value z); subst z]) | (refine State.Ok.cutPair (n := n) z ?_ ?_ <;> [(intro _; clear_value z); subst z]) | clear_value z)
    | with_reducible apply State.Ok.ite
    | with_reducible apply State.emitAll_ok
    | split

theorem State.toHolder_ok (n : Mark) (a1 : State) (a2) (a3) (a4) (a5) (ha1 : a1.Ok n) : (State.toHolder a1 a2 a3 a4 a5).Ok n := by
  unfold State.toHolder
  repeat' first
    | with_reducible assumption
    | intro _
    | (extract_lets +onlyGivenNames z; first | (refine State.Ok.cut (n := n) z ?_ ?_ <;> [(intro _; clear_value z); subst z]) | (refine State.Ok.cutPair (n := n) z ?_ ?_ <;> [(intro _; clear_value z); subst z]) | clear_value z)
    | with_reducible apply State.Ok.ite
    | with_reducible apply State.emit_ok
    | split

theorem State.vdpSbr_ok (n : Mark) (a1 : State) (a2) (a3) (a4) (ha1 : a1.Ok n) : (State.vdpSbr a1 a2 a3 a4).Ok n := by
  unfold State.vdpSbr
  repeat' first
    | with_reducible assumption
    | intro _
    | (extract_lets +onlyGivenNames z; first | (refine State.Ok.cut (n := n) z ?_ ?_ <;> [(intro _; clear_value z); subst z]) | (refine State.Ok.cutPair (n := n) z ?_ ?_ <;> [(intro _; clear_value z); subst z]) | clear_value z)
    | with_reducible apply State.Ok.ite
    | with_reducible apply State.modVdp_ok
    | with_reducible apply State.each_ok
    | with_reducible apply State.fnReset_ok
    | with_reducible apply State.toHolder_ok
    | with_reducible apply State.sliceLink_ok
    | with_reducible apply State.sliceFlr_ok
    | with_reducible apply State.emit_ok
    | with_reducible apply State.modHPort_ok
    | with_reducible apply State.hpDown_ok
    | split

theorem State.slotPower_ok (n : Mark) (a1 : State) (a2) (a3) (a4) (ha1 : a1.Ok n) : (State.slotPower a1 a2 a3 a4).Ok n := by
  unfold State.slotPower
  repeat' first
    | with_reducible assumption
    | intro _
    | (extract_lets +onlyGivenNames z; first | (refine State.Ok.cut (n := n) z ?_ ?_ <;> [(intro _; clear_value z); subst z]) | (refine State.Ok.cutPair (n := n) z ?_ ?_ <;> [(intro _; clear_value z); subst z]) | clear_value z)
    | with_reducible apply State.Ok.ite
    | with_reducible apply State.modVdp_ok
    | with_reducible apply State.toHolder_ok
    | with_reducible apply State.sliceLifted_ok
    | with_reducible apply State.slotEvent_ok
    | with_reducible apply State.sliceFlr_ok
    | with_reducible apply State.sharedCheck_ok
    | with_reducible apply State.sliceLink_ok
    | with_reducible apply State.slotUpdate_ok
    | with_reducible apply State.hpDown_ok
    | split

theorem State.linkOff_ok (n : Mark) (a1 : State) (a2) (a3) (a4) (ha1 : a1.Ok n) : (State.linkOff a1 a2 a3 a4).Ok n := by
  unfold State.linkOff
  repeat' first
    | with_reducible assumption
    | intro _
    | (extract_lets +onlyGivenNames z; first | (refine State.Ok.cut (n := n) z ?_ ?_ <;> [(intro _; clear_value z); subst z]) | (refine State.Ok.cutPair (n := n) z ?_ ?_ <;> [(intro _; clear_value z); subst z]) | clear_value z)
    | with_reducible apply State.Ok.ite
    | with_reducible apply State.modVdp_ok
    | with_reducible apply State.toHolder_ok
    | with_reducible apply State.sharedCheck_ok
    | with_reducible apply State.sliceLink_ok
    | with_reducible apply State.hpDown_ok
    | with_reducible apply State.modHPort_ok
    | split

theorem State.indicator_ok (n : Mark) (a1 : State) (a2) (a3) (a4) (a5) (ha1 : a1.Ok n) : (State.indicator a1 a2 a3 a4 a5).Ok n := by
  unfold State.indicator
  repeat' first
    | with_reducible assumption
    | intro _
    | (extract_lets +onlyGivenNames z; first | (refine State.Ok.cut (n := n) z ?_ ?_ <;> [(intro _; clear_value z); subst z]) | (refine State.Ok.cutPair (n := n) z ?_ ?_ <;> [(intro _; clear_value z); subst z]) | clear_value z)
    | with_reducible apply State.Ok.ite
    | with_reducible apply State.toHolder_ok
    | with_reducible apply State.modSideband_ok
    | with_reducible apply State.driveOut_ok
    | split

theorem State.cfgAnswer_ok (n : Mark) (a1 : State) (a2) (a3) (a4) (a5) (a6) (ha1 : a1.Ok n) : (State.cfgAnswer a1 a2 a3 a4 a5 a6).Ok n := by
  unfold State.cfgAnswer
  repeat' first
    | with_reducible assumption
    | intro _
    | (extract_lets +onlyGivenNames z; first | (refine State.Ok.cut (n := n) z ?_ ?_ <;> [(intro _; clear_value z); subst z]) | (refine State.Ok.cutPair (n := n) z ?_ ?_ <;> [(intro _; clear_value z); subst z]) | clear_value z)
    | with_reducible apply State.Ok.ite
    | with_reducible apply State.emit_ok
    | split

theorem State.bridgeStore_ok (n : Mark) (a1 : State) (a2) (a3) (a4) (a5) (ha1 : a1.Ok n) : (State.bridgeStore a1 a2 a3 a4 a5).Ok n := by
  unfold State.bridgeStore
  repeat' first
    | with_reducible assumption
    | intro _
    | (extract_lets +onlyGivenNames z; first | (refine State.Ok.cut (n := n) z ?_ ?_ <;> [(intro _; clear_value z); subst z]) | (refine State.Ok.cutPair (n := n) z ?_ ?_ <;> [(intro _; clear_value z); subst z]) | clear_value z)
    | with_reducible apply State.Ok.ite
    | with_reducible apply State.modBridge_ok
    | split

theorem State.bridgeWrite_ok (n : Mark) (a1 : State) (a2) (a3) (a4) (a5) (ha1 : a1.Ok n) : (State.bridgeWrite a1 a2 a3 a4 a5).Ok n := by
  unfold State.bridgeWrite
  repeat' first
    | with_reducible assumption
    | intro _
    | (extract_lets +onlyGivenNames z; first | (refine State.Ok.cut (n := n) z ?_ ?_ <;> [(intro _; clear_value z); subst z]) | (refine State.Ok.cutPair (n := n) z ?_ ?_ <;> [(intro _; clear_value z); subst z]) | clear_value z)
    | with_reducible apply State.Ok.ite
    | with_reducible apply State.bridgeStore_ok
    | with_reducible apply State.toHolder_ok
    | with_reducible apply State.indicator_ok
    | split

theorem State.fnWrite_ok (n : Mark) (a1 : State) (a2) (a3) (a4) (a5) (ha1 : a1.Ok n) : (State.fnWrite a1 a2 a3 a4 a5).Ok n := by
  unfold State.fnWrite
  extract_lets +onlyGivenNames put
  have hp : ∀ s v, s.Ok n → (put s v).Ok n := fun s v h => State.modFn_ok _ _ _ _ _ h
  split
  · exact ha1
  · exact hp _ _ ha1
  · split
    · exact .ite (.ite (State.masterOff_ok _ _ _ _ ha1) ha1) (State.sendPending_ok _ _ _ _ (State.modFn_ok _ _ _ _ _ ha1))
    · exact .ite (.ite ha1 (State.msixOn_ok _ _ _ _ ha1)) (State.modFn_ok _ _ _ _ _ ha1)
    · exact .ite (hp _ _ ha1) ha1
    · refine .ite ha1 (hp _ _ (.ite (State.each_ok _ _ (fun s v h => ?_) ha1) ha1))
      exact State.modFn_ok _ _ _ _ _ (State.masterOff_ok _ _ _ _ h)
    all_goals first | exact ha1 | exact hp _ _ ha1

theorem State.cfgDevice_ok (n : Mark) (a1 : State) (a2) (a3) (a4) (a5) (a6) (a7) (a8) (ha1 : a1.Ok n) : (State.cfgDevice a1 a2 a3 a4 a5 a6 a7 a8).Ok n := by
  unfold State.cfgDevice
  repeat' first
    | with_reducible assumption
    | intro _
    | (extract_lets +onlyGivenNames z; first | (refine State.Ok.cut (n := n) z ?_ ?_ <;> [(intro _; clear_value z); subst z]) | (refine State.Ok.cutPair (n := n) z ?_ ?_ <;> [(intro _; clear_value z); subst z]) | clear_value z)
    | with_reducible apply State.Ok.ite
    | with_reducible apply State.Ok.iteFst
    | with_reducible apply State.withCredits_ok
    | with_reducible apply State.toVdp_ok
    | with_reducible apply State.submit_ok
    | split
    | (refine State.Ok.ofPair (by with_reducible assumption) ?_)

theorem configRequestEffect_ok (n : Mark) (a1 : State) (a2) (a3) (a4) (a5) (a6) (a7) (ha1 : a1.Ok n) : (configRequestEffect a1 a2 a3 a4 a5 a6 a7).Ok n := by
  unfold configRequestEffect
  repeat' first
    | with_reducible assumption
    | intro _
    | (extract_lets +onlyGivenNames z; first | (refine State.Ok.cut (n := n) z ?_ ?_ <;> [(intro _; clear_value z); subst z]) | (refine State.Ok.cutPair (n := n) z ?_ ?_ <;> [(intro _; clear_value z); subst z]) | clear_value z)
    | with_reducible apply State.Ok.ite
    | with_reducible apply State.cfgAnswer_ok
    | with_reducible apply State.cfgDevice_ok
    | with_reducible apply State.countHeart_ok
    | with_reducible apply State.bridgeWrite_ok
    | with_reducible apply State.fnWrite_ok
    | split

theorem execConfigRequest_ok (n : Mark) (a1) (a2) (a3) (a4) (a5) (a6) (a7) (a8 : State) (ha8 : a8.Ok n) : OkH n (execConfigRequest a1 a2 a3 a4 a5 a6 a7 a8) := by
  unfold execConfigRequest
  refine act2_ok _ _ (fun s hs => ?_) ha8
  try dsimp only
  repeat' first
    | with_reducible assumption
    | intro _
    | (extract_lets +onlyGivenNames z; first | (refine State.Ok.cut (n := n) z ?_ ?_ <;> [(intro _; clear_value z); subst z]) | (refine State.Ok.cutPair (n := n) z ?_ ?_ <;> [(intro _; clear_value z); subst z]) | clear_value z)
    | with_reducible apply State.Ok.ite
    | with_reducible apply configRequestEffect_ok
    | split

theorem secondaryBusResetEffect_ok (n : Mark) (a1 : State) (a2) (a3) (a4) (ha1 : a1.Ok n) : (secondaryBusResetEffect a1 a2 a3 a4).Ok n := by
  unfold secondaryBusResetEffect
  repeat' first
    | with_reducible assumption
    | intro _
    | (extract_lets +onlyGivenNames z; first | (refine State.Ok.cut (n := n) z ?_ ?_ <;> [(intro _; clear_value z); subst z]) | (refine State.Ok.cutPair (n := n) z ?_ ?_ <;> [(intro _; clear_value z); subst z]) | clear_value z)
    | with_reducible apply State.Ok.ite
    | with_reducible apply State.vdpSbr_ok
    | with_reducible apply State.modBridge_ok
    | with_reducible apply State.each_ok
    | split

theorem execSecondaryBusReset_ok (n : Mark) (a1) (a2) (a3) (a4) (a5 : State) (ha5 : a5.Ok n) : OkH n (execSecondaryBusReset a1 a2 a3 a4 a5) := by
  unfold execSecondaryBusReset
  refine act2_ok _ _ (fun s hs => ?_) ha5
  try dsimp only
  repeat' first
    | with_reducible assumption
    | intro _
    | (extract_lets +onlyGivenNames z; first | (refine State.Ok.cut (n := n) z ?_ ?_ <;> [(intro _; clear_value z); subst z]) | (refine State.Ok.cutPair (n := n) z ?_ ?_ <;> [(intro _; clear_value z); subst z]) | clear_value z)
    | with_reducible apply State.Ok.ite
    | with_reducible apply secondaryBusResetEffect_ok
    | split

theorem hotResetReceivedEffect_ok (n : Mark) (a1 : State) (a2) (a3) (ha1 : a1.Ok n) : (hotResetReceivedEffect a1 a2 a3).Ok n := by
  unfold hotResetReceivedEffect
  repeat' first
    | with_reducible assumption
    | intro _
    | (extract_lets +onlyGivenNames z; first | (refine State.Ok.cut (n := n) z ?_ ?_ <;> [(intro _; clear_value z); subst z]) | (refine State.Ok.cutPair (n := n) z ?_ ?_ <;> [(intro _; clear_value z); subst z]) | clear_value z)
    | with_reducible apply State.Ok.ite
    | with_reducible apply State.partReset_ok
    | with_reducible apply State.hpDown_ok
    | split

theorem execHotResetReceived_ok (n : Mark) (a1) (a2) (a3) (a4 : State) (ha4 : a4.Ok n) : OkH n (execHotResetReceived a1 a2 a3 a4) := by
  unfold execHotResetReceived
  refine act2_ok _ _ (fun s hs => ?_) ha4
  try dsimp only
  repeat' first
    | with_reducible assumption
    | intro _
    | (extract_lets +onlyGivenNames z; first | (refine State.Ok.cut (n := n) z ?_ ?_ <;> [(intro _; clear_value z); subst z]) | (refine State.Ok.cutPair (n := n) z ?_ ?_ <;> [(intro _; clear_value z); subst z]) | clear_value z)
    | with_reducible apply State.Ok.ite
    | with_reducible apply hotResetReceivedEffect_ok
    | split

theorem partResetStepsDoneEffect_ok (n : Mark) (a1 : State) (a2) (ha1 : a1.Ok n) : (partResetStepsDoneEffect a1 a2).Ok n := by
  unfold partResetStepsDoneEffect
  repeat' first
    | with_reducible assumption
    | intro _
    | (extract_lets +onlyGivenNames z; first | (refine State.Ok.cut (n := n) z ?_ ?_ <;> [(intro _; clear_value z); subst z]) | (refine State.Ok.cutPair (n := n) z ?_ ?_ <;> [(intro _; clear_value z); subst z]) | clear_value z)
    | with_reducible apply State.Ok.ite
    | with_reducible apply State.modPart_ok
    | with_reducible apply State.noteAt_ok
    | split

theorem execPartResetStepsDone_ok (n : Mark) (a1) (a2) (a3 : State) (ha3 : a3.Ok n) : OkH n (execPartResetStepsDone a1 a2 a3) := by
  unfold execPartResetStepsDone
  refine act1_ok _ _ (fun s hs => ?_) ha3
  try dsimp only
  repeat' first
    | with_reducible assumption
    | intro _
    | (extract_lets +onlyGivenNames z; first | (refine State.Ok.cut (n := n) z ?_ ?_ <;> [(intro _; clear_value z); subst z]) | (refine State.Ok.cutPair (n := n) z ?_ ?_ <;> [(intro _; clear_value z); subst z]) | clear_value z)
    | with_reducible apply State.Ok.ite
    | with_reducible apply partResetStepsDoneEffect_ok
    | split

theorem partResetCauseEndEffect_ok (n : Mark) (a1 : State) (a2) (ha1 : a1.Ok n) : (partResetCauseEndEffect a1 a2).Ok n := by
  unfold partResetCauseEndEffect
  repeat' first
    | with_reducible assumption
    | intro _
    | (extract_lets +onlyGivenNames z; first | (refine State.Ok.cut (n := n) z ?_ ?_ <;> [(intro _; clear_value z); subst z]) | (refine State.Ok.cutPair (n := n) z ?_ ?_ <;> [(intro _; clear_value z); subst z]) | clear_value z)
    | with_reducible apply State.Ok.ite
    | with_reducible apply State.partCauseEnd_ok
    | split

theorem execPartResetCauseEnd_ok (n : Mark) (a1) (a2) (a3 : State) (ha3 : a3.Ok n) : OkH n (execPartResetCauseEnd a1 a2 a3) := by
  unfold execPartResetCauseEnd
  refine act1_ok _ _ (fun s hs => ?_) ha3
  try dsimp only
  repeat' first
    | with_reducible assumption
    | intro _
    | (extract_lets +onlyGivenNames z; first | (refine State.Ok.cut (n := n) z ?_ ?_ <;> [(intro _; clear_value z); subst z]) | (refine State.Ok.cutPair (n := n) z ?_ ?_ <;> [(intro _; clear_value z); subst z]) | clear_value z)
    | with_reducible apply State.Ok.ite
    | with_reducible apply partResetCauseEndEffect_ok
    | split

theorem State.signalled_ok (n : Mark) (a1 : State) (a2) (a3) (a4) (ha1 : a1.Ok n) (ha4 : ∀ x0, x0.Ok n → (a4 x0).Ok n) : (State.signalled a1 a2 a3 a4).Ok n := by
  unfold State.signalled
  repeat' first
    | with_reducible assumption
    | intro _
    | (extract_lets +onlyGivenNames z; first | (refine State.Ok.cut (n := n) z ?_ ?_ <;> [(intro _; clear_value z); subst z]) | (refine State.Ok.cutPair (n := n) z ?_ ?_ <;> [(intro _; clear_value z); subst z]) | clear_value z)
    | with_reducible apply State.Ok.ite
    | with_reducible apply ha4
    | with_reducible apply State.emit_ok
    | with_reducible apply State.countHeart_ok
    | split

theorem resetNoticeEffect_ok (n : Mark) (a1 : State) (a2) (a3) (ha1 : a1.Ok n) : (resetNoticeEffect a1 a2 a3).Ok n := by
  unfold resetNoticeEffect
  repeat' first
    | with_reducible assumption
    | intro _
    | (extract_lets +onlyGivenNames z; first | (refine State.Ok.cut (n := n) z ?_ ?_ <;> [(intro _; clear_value z); subst z]) | (refine State.Ok.cutPair (n := n) z ?_ ?_ <;> [(intro _; clear_value z); subst z]) | clear_value z)
    | with_reducible apply State.Ok.ite
    | with_reducible apply State.signalled_ok
    | with_reducible apply State.partReset_ok
    | split

theorem execResetNotice_ok (n : Mark) (a1) (a2) (a3) (a4 : State) (ha4 : a4.Ok n) : OkH n (execResetNotice a1 a2 a3 a4) := by
  unfold execResetNotice
  refine act2_ok _ _ (fun s hs => ?_) ha4
  try dsimp only
  repeat' first
    | with_reducible assumption
    | intro _
    | (extract_lets +onlyGivenNames z; first | (refine State.Ok.cut (n := n) z ?_ ?_ <;> [(intro _; clear_value z); subst z]) | (refine State.Ok.cutPair (n := n) z ?_ ?_ <;> [(intro _; clear_value z); subst z]) | clear_value z)
    | with_reducible apply State.Ok.ite
    | with_reducible apply resetNoticeEffect_ok
    | split

theorem execPowerControllerControl_ok (n : Mark) (a1) (a2) (a3) (a4) (a5 : State) (ha5 : a5.Ok n) : OkH n (execPowerControllerControl a1 a2 a3 a4 a5) := by
  unfold execPowerControllerControl
  refine act2_ok _ _ (fun s hs => ?_) ha5
  try dsimp only
  repeat' first
    | with_reducible assumption
    | intro _
    | (extract_lets +onlyGivenNames z; first | (refine State.Ok.cut (n := n) z ?_ ?_ <;> [(intro _; clear_value z); subst z]) | (refine State.Ok.cutPair (n := n) z ?_ ?_ <;> [(intro _; clear_value z); subst z]) | clear_value z)
    | with_reducible apply State.Ok.ite
    | with_reducible apply State.slotPower_ok
    | split

theorem execLinkDisable_ok (n : Mark) (a1) (a2) (a3) (a4) (a5 : State) (ha5 : a5.Ok n) : OkH n (execLinkDisable a1 a2 a3 a4 a5) := by
  unfold execLinkDisable
  refine act2_ok _ _ (fun s hs => ?_) ha5
  try dsimp only
  repeat' first
    | with_reducible assumption
    | intro _
    | (extract_lets +onlyGivenNames z; first | (refine State.Ok.cut (n := n) z ?_ ?_ <;> [(intro _; clear_value z); subst z]) | (refine State.Ok.cutPair (n := n) z ?_ ?_ <;> [(intro _; clear_value z); subst z]) | clear_value z)
    | with_reducible apply State.Ok.ite
    | with_reducible apply State.linkOff_ok
    | split

theorem sliceFlrDoneEffect_ok (n : Mark) (a1 : State) (a2) (a3) (ha1 : a1.Ok n) : (sliceFlrDoneEffect a1 a2 a3).Ok n := by
  unfold sliceFlrDoneEffect
  repeat' first
    | with_reducible assumption
    | intro _
    | (extract_lets +onlyGivenNames z; first | (refine State.Ok.cut (n := n) z ?_ ?_ <;> [(intro _; clear_value z); subst z]) | (refine State.Ok.cutPair (n := n) z ?_ ?_ <;> [(intro _; clear_value z); subst z]) | clear_value z)
    | with_reducible apply State.Ok.ite
    | with_reducible apply State.sliceLink_ok
    | with_reducible apply State.modVdp_ok
    | split

theorem execSliceFlrDone_ok (n : Mark) (a1) (a2) (a3) (a4 : State) (ha4 : a4.Ok n) : OkH n (execSliceFlrDone a1 a2 a3 a4) := by
  unfold execSliceFlrDone
  refine act1_ok _ _ (fun s hs => ?_) ha4
  try dsimp only
  repeat' first
    | with_reducible assumption
    | intro _
    | (extract_lets +onlyGivenNames z; first | (refine State.Ok.cut (n := n) z ?_ ?_ <;> [(intro _; clear_value z); subst z]) | (refine State.Ok.cutPair (n := n) z ?_ ?_ <;> [(intro _; clear_value z); subst z]) | clear_value z)
    | with_reducible apply State.Ok.ite
    | with_reducible apply sliceFlrDoneEffect_ok
    | split

theorem execMsixEnable_ok (n : Mark) (a1) (a2) (a3 : State) (ha3 : a3.Ok n) : OkH n (execMsixEnable a1 a2 a3) := by
  unfold execMsixEnable
  refine act1_ok _ _ (fun s hs => ?_) ha3
  try dsimp only
  repeat' first
    | with_reducible assumption
    | intro _
    | (extract_lets +onlyGivenNames z; first | (refine State.Ok.cut (n := n) z ?_ ?_ <;> [(intro _; clear_value z); subst z]) | (refine State.Ok.cutPair (n := n) z ?_ ?_ <;> [(intro _; clear_value z); subst z]) | clear_value z)
    | with_reducible apply State.Ok.ite
    | with_reducible apply State.msixOn_ok
    | split

theorem State.unmask_ok (n : Mark) (a1 : State) (a2) (a3) (a4) (ha1 : a1.Ok n) : (State.unmask a1 a2 a3 a4).Ok n := by
  unfold State.unmask
  repeat' first
    | with_reducible assumption
    | intro _
    | (extract_lets +onlyGivenNames z; first | (refine State.Ok.cut (n := n) z ?_ ?_ <;> [(intro _; clear_value z); subst z]) | (refine State.Ok.cutPair (n := n) z ?_ ?_ <;> [(intro _; clear_value z); subst z]) | clear_value z)
    | with_reducible apply State.Ok.ite
    | with_reducible apply State.sendPending_ok
    | with_reducible apply State.modFn_ok
    | split

theorem execVectorUnmask_ok (n : Mark) (a1) (a2) (a3) (a4 : State) (ha4 : a4.Ok n) : OkH n (execVectorUnmask a1 a2 a3 a4) := by
  unfold execVectorUnmask
  refine act1_ok _ _ (fun s hs => ?_) ha4
  try dsimp only
  repeat' first
    | with_reducible assumption
    | intro _
    | (extract_lets +onlyGivenNames z; first | (refine State.Ok.cut (n := n) z ?_ ?_ <;> [(intro _; clear_value z); subst z]) | (refine State.Ok.cutPair (n := n) z ?_ ?_ <;> [(intro _; clear_value z); subst z]) | clear_value z)
    | with_reducible apply State.Ok.ite
    | with_reducible apply State.unmask_ok
    | split

theorem forwardedEventEffect_ok (n : Mark) (a1 : State) (a2) (a3) (a4) (a5) (a6) (a7) (ha1 : a1.Ok n) : (forwardedEventEffect a1 a2 a3 a4 a5 a6 a7).Ok n := by
  unfold forwardedEventEffect
  repeat' first
    | with_reducible assumption
    | intro _
    | (extract_lets +onlyGivenNames z; first | (refine State.Ok.cut (n := n) z ?_ ?_ <;> [(intro _; clear_value z); subst z]) | (refine State.Ok.cutPair (n := n) z ?_ ?_ <;> [(intro _; clear_value z); subst z]) | clear_value z)
    | with_reducible apply State.Ok.ite
    | with_reducible apply State.deliverHome_ok
    | with_reducible apply State.emit_ok
    | with_reducible apply State.countHeart_ok
    | split

theorem execForwardedEvent_ok (n : Mark) (a1) (a2) (a3) (a4) (a5) (a6) (a7) (a8 : State) (ha8 : a8.Ok n) : OkH n (execForwardedEvent a1 a2 a3 a4 a5 a6 a7 a8) := by
  unfold execForwardedEvent
  refine act1_ok _ _ (fun s hs => ?_) ha8
  try dsimp only
  repeat' first
    | with_reducible assumption
    | intro _
    | (extract_lets +onlyGivenNames z; first | (refine State.Ok.cut (n := n) z ?_ ?_ <;> [(intro _; clear_value z); subst z]) | (refine State.Ok.cutPair (n := n) z ?_ ?_ <;> [(intro _; clear_value z); subst z]) | clear_value z)
    | with_reducible apply State.Ok.ite
    | with_reducible apply forwardedEventEffect_ok
    | split

theorem execEventSoft_ok (n : Mark) (a1) (a2) (a3) (a4 : State) (ha4 : a4.Ok n) : OkH n (execEventSoft a1 a2 a3 a4) := by
  unfold execEventSoft
  refine act1_ok _ _ (fun s hs => ?_) ha4
  try dsimp only
  repeat' first
    | with_reducible assumption
    | intro _
    | (extract_lets +onlyGivenNames z; first | (refine State.Ok.cut (n := n) z ?_ ?_ <;> [(intro _; clear_value z); subst z]) | (refine State.Ok.cutPair (n := n) z ?_ ?_ <;> [(intro _; clear_value z); subst z]) | clear_value z)
    | with_reducible apply State.Ok.ite
    | with_reducible apply State.noteFree_ok
    | split

theorem State.showSlot_ok (n : Mark) (a1 : State) (a2) (a3) (a4) (a5) (ha1 : a1.Ok n) : (State.showSlot a1 a2 a3 a4 a5).Ok n := by
  unfold State.showSlot
  repeat' first
    | with_reducible assumption
    | intro _
    | (extract_lets +onlyGivenNames z; first | (refine State.Ok.cut (n := n) z ?_ ?_ <;> [(intro _; clear_value z); subst z]) | (refine State.Ok.cutPair (n := n) z ?_ ?_ <;> [(intro _; clear_value z); subst z]) | clear_value z)
    | with_reducible apply State.Ok.ite
    | with_reducible apply State.modVdp_ok
    | with_reducible apply State.slotEvent_ok
    | split

theorem State.compareBinding_ok (n : Mark) (a1 : State) (a2) (a3) (ha1 : a1.Ok n) : (State.compareBinding a1 a2 a3).Ok n := by
  unfold State.compareBinding
  repeat' first
    | with_reducible assumption
    | intro _
    | (extract_lets +onlyGivenNames z; first | (refine State.Ok.cut (n := n) z ?_ ?_ <;> [(intro _; clear_value z); subst z]) | (refine State.Ok.cutPair (n := n) z ?_ ?_ <;> [(intro _; clear_value z); subst z]) | clear_value z)
    | with_reducible apply State.Ok.ite
    | with_reducible apply State.modVdp_ok
    | with_reducible apply State.showSlot_ok
    | with_reducible apply State.slotEvent_ok
    | with_reducible apply State.noteAt_ok
    | split

theorem bindingCopyEffect_ok (n : Mark) (a1 : State) (a2) (a3) (a4) (a5) (ha1 : a1.Ok n) : (bindingCopyEffect a1 a2 a3 a4 a5).Ok n := by
  unfold bindingCopyEffect
  repeat' first
    | with_reducible assumption
    | intro _
    | (extract_lets +onlyGivenNames z; first | (refine State.Ok.cut (n := n) z ?_ ?_ <;> [(intro _; clear_value z); subst z]) | (refine State.Ok.cutPair (n := n) z ?_ ?_ <;> [(intro _; clear_value z); subst z]) | clear_value z)
    | with_reducible apply State.Ok.ite
    | with_reducible apply State.signalled_ok
    | with_reducible apply State.compareBinding_ok
    | with_reducible apply State.modVdp_ok
    | split

theorem execBindingCopy_ok (n : Mark) (a1) (a2) (a3) (a4) (a5) (a6 : State) (ha6 : a6.Ok n) : OkH n (execBindingCopy a1 a2 a3 a4 a5 a6) := by
  unfold execBindingCopy
  refine act2_ok _ _ (fun s hs => ?_) ha6
  try dsimp only
  repeat' first
    | with_reducible assumption
    | intro _
    | (extract_lets +onlyGivenNames z; first | (refine State.Ok.cut (n := n) z ?_ ?_ <;> [(intro _; clear_value z); subst z]) | (refine State.Ok.cutPair (n := n) z ?_ ?_ <;> [(intro _; clear_value z); subst z]) | clear_value z)
    | with_reducible apply State.Ok.ite
    | with_reducible apply bindingCopyEffect_ok
    | split

theorem State.showRemote_ok (n : Mark) (a1 : State) (a2) (a3) (a4) (a5) (a6) (a7) (a8) (a9) (ha1 : a1.Ok n) : (State.showRemote a1 a2 a3 a4 a5 a6 a7 a8 a9).Ok n := by
  unfold State.showRemote
  repeat' first
    | with_reducible assumption
    | intro _
    | (extract_lets +onlyGivenNames z; first | (refine State.Ok.cut (n := n) z ?_ ?_ <;> [(intro _; clear_value z); subst z]) | (refine State.Ok.cutPair (n := n) z ?_ ?_ <;> [(intro _; clear_value z); subst z]) | clear_value z)
    | with_reducible apply State.Ok.ite
    | with_reducible apply State.modVdp_ok
    | with_reducible apply State.slotEvent_ok
    | with_reducible apply State.showSlot_ok
    | with_reducible apply State.vdpLinkDown_ok
    | split

theorem State.slotControl_ok (n : Mark) (a1 : State) (a2) (a3) (a4) (ha1 : a1.Ok n) : (State.slotControl a1 a2 a3 a4).Ok n := by
  unfold State.slotControl
  repeat' first
    | with_reducible assumption
    | intro _
    | (extract_lets +onlyGivenNames z; first | (refine State.Ok.cut (n := n) z ?_ ?_ <;> [(intro _; clear_value z); subst z]) | (refine State.Ok.cutPair (n := n) z ?_ ?_ <;> [(intro _; clear_value z); subst z]) | clear_value z)
    | with_reducible apply State.Ok.ite
    | with_reducible apply State.slotPower_ok
    | with_reducible apply State.linkOff_ok
    | with_reducible apply State.vdpSbr_ok
    | with_reducible apply State.indicator_ok
    | with_reducible apply State.bridgeStore_ok
    | with_reducible apply retrainLinkEffect_ok
    | split

theorem remoteSlotStateEffect_ok (n : Mark) (a1 : State) (a2) (a3) (a4) (a5) (ha1 : a1.Ok n) : (remoteSlotStateEffect a1 a2 a3 a4 a5).Ok n := by
  unfold remoteSlotStateEffect
  repeat' first
    | with_reducible assumption
    | intro _
    | (extract_lets +onlyGivenNames z; first | (refine State.Ok.cut (n := n) z ?_ ?_ <;> [(intro _; clear_value z); subst z]) | (refine State.Ok.cutPair (n := n) z ?_ ?_ <;> [(intro _; clear_value z); subst z]) | clear_value z)
    | with_reducible apply State.Ok.ite
    | with_reducible apply State.signalled_ok
    | with_reducible apply State.showRemote_ok
    | with_reducible apply State.slotControl_ok
    | split

theorem execRemoteSlotState_ok (n : Mark) (a1) (a2) (a3) (a4) (a5) (a6 : State) (ha6 : a6.Ok n) : OkH n (execRemoteSlotState a1 a2 a3 a4 a5 a6) := by
  unfold execRemoteSlotState
  refine act2_ok _ _ (fun s hs => ?_) ha6
  try dsimp only
  repeat' first
    | with_reducible assumption
    | intro _
    | (extract_lets +onlyGivenNames z; first | (refine State.Ok.cut (n := n) z ?_ ?_ <;> [(intro _; clear_value z); subst z]) | (refine State.Ok.cutPair (n := n) z ?_ ?_ <;> [(intro _; clear_value z); subst z]) | clear_value z)
    | with_reducible apply State.Ok.ite
    | with_reducible apply remoteSlotStateEffect_ok
    | split

theorem sharedResetRequestEffect_ok (n : Mark) (a1 : State) (a2) (a3) (ha1 : a1.Ok n) : (sharedResetRequestEffect a1 a2 a3).Ok n := by
  unfold sharedResetRequestEffect
  repeat' first
    | with_reducible assumption
    | intro _
    | (extract_lets +onlyGivenNames z; first | (refine State.Ok.cut (n := n) z ?_ ?_ <;> [(intro _; clear_value z); subst z]) | (refine State.Ok.cutPair (n := n) z ?_ ?_ <;> [(intro _; clear_value z); subst z]) | clear_value z)
    | with_reducible apply State.Ok.ite
    | with_reducible apply State.sharedRequest_ok
    | split

theorem execSharedResetRequest_ok (n : Mark) (a1) (a2) (a3) (a4 : State) (ha4 : a4.Ok n) : OkH n (execSharedResetRequest a1 a2 a3 a4) := by
  unfold execSharedResetRequest
  refine act2_ok _ _ (fun s hs => ?_) ha4
  try dsimp only
  repeat' first
    | with_reducible assumption
    | intro _
    | (extract_lets +onlyGivenNames z; first | (refine State.Ok.cut (n := n) z ?_ ?_ <;> [(intro _; clear_value z); subst z]) | (refine State.Ok.cutPair (n := n) z ?_ ?_ <;> [(intro _; clear_value z); subst z]) | clear_value z)
    | with_reducible apply State.Ok.ite
    | with_reducible apply sharedResetRequestEffect_ok
    | split

theorem State.sharedForce_ok (n : Mark) (a1 : State) (a2) (ha1 : a1.Ok n) : (State.sharedForce a1 a2).Ok n := by
  unfold State.sharedForce
  repeat' first
    | with_reducible assumption
    | intro _
    | (extract_lets +onlyGivenNames z; first | (refine State.Ok.cut (n := n) z ?_ ?_ <;> [(intro _; clear_value z); subst z]) | (refine State.Ok.cutPair (n := n) z ?_ ?_ <;> [(intro _; clear_value z); subst z]) | clear_value z)
    | with_reducible apply State.Ok.ite
    | with_reducible apply State.modShared_ok
    | with_reducible apply State.each_ok
    | with_reducible apply State.sliceDown_ok
    | with_reducible apply State.sharedStart_ok
    | split

theorem execSharedResetForce_ok (n : Mark) (a1) (a2) (a3) (a4 : State) (ha4 : a4.Ok n) : OkH n (execSharedResetForce a1 a2 a3 a4) := by
  unfold execSharedResetForce
  refine act2_ok _ _ (fun s hs => ?_) ha4
  try dsimp only
  repeat' first
    | with_reducible assumption
    | intro _
    | (extract_lets +onlyGivenNames z; first | (refine State.Ok.cut (n := n) z ?_ ?_ <;> [(intro _; clear_value z); subst z]) | (refine State.Ok.cutPair (n := n) z ?_ ?_ <;> [(intro _; clear_value z); subst z]) | clear_value z)
    | with_reducible apply State.Ok.ite
    | with_reducible apply State.sharedForce_ok
    | split

theorem sharedPerstEndEffect_ok (n : Mark) (a1 : State) (a2) (ha1 : a1.Ok n) : (sharedPerstEndEffect a1 a2).Ok n := by
  unfold sharedPerstEndEffect
  repeat' first
    | with_reducible assumption
    | intro _
    | (extract_lets +onlyGivenNames z; first | (refine State.Ok.cut (n := n) z ?_ ?_ <;> [(intro _; clear_value z); subst z]) | (refine State.Ok.cutPair (n := n) z ?_ ?_ <;> [(intro _; clear_value z); subst z]) | clear_value z)
    | with_reducible apply State.Ok.ite
    | with_reducible apply State.modHPort_ok
    | with_reducible apply State.perst_ok
    | split

theorem execSharedPerstEnd_ok (n : Mark) (a1) (a2) (a3 : State) (ha3 : a3.Ok n) : OkH n (execSharedPerstEnd a1 a2 a3) := by
  unfold execSharedPerstEnd
  refine act1_ok _ _ (fun s hs => ?_) ha3
  try dsimp only
  repeat' first
    | with_reducible assumption
    | intro _
    | (extract_lets +onlyGivenNames z; first | (refine State.Ok.cut (n := n) z ?_ ?_ <;> [(intro _; clear_value z); subst z]) | (refine State.Ok.cutPair (n := n) z ?_ ?_ <;> [(intro _; clear_value z); subst z]) | clear_value z)
    | with_reducible apply State.Ok.ite
    | with_reducible apply sharedPerstEndEffect_ok
    | split

theorem sharedEnumDoneEffect_ok (n : Mark) (a1 : State) (a2) (a3) (a4) (ha1 : a1.Ok n) : (sharedEnumDoneEffect a1 a2 a3 a4).Ok n := by
  unfold sharedEnumDoneEffect
  repeat' first
    | with_reducible assumption
    | intro _
    | (extract_lets +onlyGivenNames z; first | (refine State.Ok.cut (n := n) z ?_ ?_ <;> [(intro _; clear_value z); subst z]) | (refine State.Ok.cutPair (n := n) z ?_ ?_ <;> [(intro _; clear_value z); subst z]) | clear_value z)
    | with_reducible apply State.Ok.ite
    | with_reducible apply State.modShared_ok
    | with_reducible apply State.each_ok
    | with_reducible apply State.sliceLink_ok
    | with_reducible apply State.slotEvent_ok
    | with_reducible apply State.modVdp_ok
    | with_reducible apply State.noteAt_ok
    | split

theorem execSharedEnumDone_ok (n : Mark) (a1) (a2) (a3) (a4) (a5 : State) (ha5 : a5.Ok n) : OkH n (execSharedEnumDone a1 a2 a3 a4 a5) := by
  unfold execSharedEnumDone
  refine act1_ok _ _ (fun s hs => ?_) ha5
  try dsimp only
  repeat' first
    | with_reducible assumption
    | intro _
    | (extract_lets +onlyGivenNames z; first | (refine State.Ok.cut (n := n) z ?_ ?_ <;> [(intro _; clear_value z); subst z]) | (refine State.Ok.cutPair (n := n) z ?_ ?_ <;> [(intro _; clear_value z); subst z]) | clear_value z)
    | with_reducible apply State.Ok.ite
    | with_reducible apply sharedEnumDoneEffect_ok
    | split

theorem sharedResetFailEffect_ok (n : Mark) (a1 : State) (a2) (ha1 : a1.Ok n) : (sharedResetFailEffect a1 a2).Ok n := by
  unfold sharedResetFailEffect
  repeat' first
    | with_reducible assumption
    | intro _
    | (extract_lets +onlyGivenNames z; first | (refine State.Ok.cut (n := n) z ?_ ?_ <;> [(intro _; clear_value z); subst z]) | (refine State.Ok.cutPair (n := n) z ?_ ?_ <;> [(intro _; clear_value z); subst z]) | clear_value z)
    | with_reducible apply State.Ok.ite
    | with_reducible apply State.noteAt_ok
    | with_reducible apply State.modShared_ok
    | split

theorem execSharedResetFail_ok (n : Mark) (a1) (a2) (a3 : State) (ha3 : a3.Ok n) : OkH n (execSharedResetFail a1 a2 a3) := by
  unfold execSharedResetFail
  refine act2_ok _ _ (fun s hs => ?_) ha3
  try dsimp only
  repeat' first
    | with_reducible assumption
    | intro _
    | (extract_lets +onlyGivenNames z; first | (refine State.Ok.cut (n := n) z ?_ ?_ <;> [(intro _; clear_value z); subst z]) | (refine State.Ok.cutPair (n := n) z ?_ ?_ <;> [(intro _; clear_value z); subst z]) | clear_value z)
    | with_reducible apply State.Ok.ite
    | with_reducible apply sharedResetFailEffect_ok
    | split

end Sys2Proof.Machine
end

