-- ==== Sys2Proof/Laws/KeepFabric.lean ====
section
/-! SUPPORT. Every operation of Fabric.lean keeps the invariant, and the local count does not run back. -/

set_option linter.all false

namespace Sys2Proof.Machine

theorem State.pauseFor_ok (n : Mark) (a1 : State) (a2) (a3) (ha1 : a1.Ok n) : (State.pauseFor a1 a2 a3).Ok n := by
  unfold State.pauseFor
  repeat' first
    | with_reducible assumption
    | intro _
    | (extract_lets +onlyGivenNames z; first | (refine State.Ok.cut (n := n) z ?_ ?_ <;> [(intro _; clear_value z); subst z]) | (refine State.Ok.cutPair (n := n) z ?_ ?_ <;> [(intro _; clear_value z); subst z]) | clear_value z)
    | with_reducible apply State.Ok.ite
    | with_reducible apply State.modTx_ok
    | with_reducible apply State.modFabric_ok
    | split

theorem rebalanceStartEffect_ok (n : Mark) (a1 : State) (a2) (ha1 : a1.Ok n) : (rebalanceStartEffect a1 a2).Ok n := by
  unfold rebalanceStartEffect
  repeat' first
    | with_reducible assumption
    | intro _
    | (extract_lets +onlyGivenNames z; first | (refine State.Ok.cut (n := n) z ?_ ?_ <;> [(intro _; clear_value z); subst z]) | (refine State.Ok.cutPair (n := n) z ?_ ?_ <;> [(intro _; clear_value z); subst z]) | clear_value z)
    | with_reducible apply State.Ok.ite
    | with_reducible apply State.each_ok
    | with_reducible apply State.pauseFor_ok
    | split

theorem execRebalanceStart_ok (n : Mark) (a1) (a2) (a3 : State) (ha3 : a3.Ok n) : OkH n (execRebalanceStart a1 a2 a3) := by
  unfold execRebalanceStart
  refine act1_ok _ _ (fun s hs => ?_) ha3
  try dsimp only
  repeat' first
    | with_reducible assumption
    | intro _
    | (extract_lets +onlyGivenNames z; first | (refine State.Ok.cut (n := n) z ?_ ?_ <;> [(intro _; clear_value z); subst z]) | (refine State.Ok.cutPair (n := n) z ?_ ?_ <;> [(intro _; clear_value z); subst z]) | clear_value z)
    | with_reducible apply State.Ok.ite
    | with_reducible apply rebalanceStartEffect_ok
    | split

theorem routeRebalanceEffect_ok (n : Mark) (a1 : State) (a2) (ha1 : a1.Ok n) : (routeRebalanceEffect a1 a2).Ok n := by
  unfold routeRebalanceEffect
  repeat' first
    | with_reducible assumption
    | intro _
    | (extract_lets +onlyGivenNames z; first | (refine State.Ok.cut (n := n) z ?_ ?_ <;> [(intro _; clear_value z); subst z]) | (refine State.Ok.cutPair (n := n) z ?_ ?_ <;> [(intro _; clear_value z); subst z]) | clear_value z)
    | with_reducible apply State.Ok.ite
    | with_reducible apply State.each_ok
    | with_reducible apply State.pauseFor_ok
    | split

theorem execRouteRebalance_ok (n : Mark) (a1) (a2) (a3) (a4 : State) (ha4 : a4.Ok n) : OkH n (execRouteRebalance a1 a2 a3 a4) := by
  unfold execRouteRebalance
  refine act1_ok _ _ (fun s hs => ?_) ha4
  try dsimp only
  repeat' first
    | with_reducible assumption
    | intro _
    | (extract_lets +onlyGivenNames z; first | (refine State.Ok.cut (n := n) z ?_ ?_ <;> [(intro _; clear_value z); subst z]) | (refine State.Ok.cutPair (n := n) z ?_ ?_ <;> [(intro _; clear_value z); subst z]) | clear_value z)
    | with_reducible apply State.Ok.ite
    | with_reducible apply routeRebalanceEffect_ok
    | split

theorem State.resumeTrunk_ok (n : Mark) (a1 : State) (a2) (ha1 : a1.Ok n) : (State.resumeTrunk a1 a2).Ok n := by
  unfold State.resumeTrunk
  repeat' first
    | with_reducible assumption
    | intro _
    | (extract_lets +onlyGivenNames z; first | (refine State.Ok.cut (n := n) z ?_ ?_ <;> [(intro _; clear_value z); subst z]) | (refine State.Ok.cutPair (n := n) z ?_ ?_ <;> [(intro _; clear_value z); subst z]) | clear_value z)
    | with_reducible apply State.Ok.ite
    | with_reducible apply State.modTx_ok
    | with_reducible apply State.modFabric_ok
    | split

theorem State.moveHome_ok (n : Mark) (a1 : State) (a2) (a3) (ha1 : a1.Ok n) : (State.moveHome a1 a2 a3).Ok n := by
  unfold State.moveHome
  repeat' first
    | with_reducible assumption
    | intro _
    | (extract_lets +onlyGivenNames z; first | (refine State.Ok.cut (n := n) z ?_ ?_ <;> [(intro _; clear_value z); subst z]) | (refine State.Ok.cutPair (n := n) z ?_ ?_ <;> [(intro _; clear_value z); subst z]) | clear_value z)
    | with_reducible apply State.Ok.ite
    | with_reducible apply State.modFabric_ok
    | with_reducible apply State.modCore_ok
    | split

theorem rebalanceCompleteEffect_ok (n : Mark) (a1 : State) (a2) (ha1 : a1.Ok n) : (rebalanceCompleteEffect a1 a2).Ok n := by
  unfold rebalanceCompleteEffect
  repeat' first
    | with_reducible assumption
    | intro _
    | (extract_lets +onlyGivenNames z; first | (refine State.Ok.cut (n := n) z ?_ ?_ <;> [(intro _; clear_value z); subst z]) | (refine State.Ok.cutPair (n := n) z ?_ ?_ <;> [(intro _; clear_value z); subst z]) | clear_value z)
    | with_reducible apply State.Ok.ite
    | with_reducible apply State.resumeTrunk_ok
    | with_reducible apply State.each_ok
    | with_reducible apply State.moveHome_ok
    | split

theorem execRebalanceComplete_ok (n : Mark) (a1) (a2) (a3 : State) (ha3 : a3.Ok n) : OkH n (execRebalanceComplete a1 a2 a3) := by
  unfold execRebalanceComplete
  refine act1_ok _ _ (fun s hs => ?_) ha3
  try dsimp only
  repeat' first
    | with_reducible assumption
    | intro _
    | (extract_lets +onlyGivenNames z; first | (refine State.Ok.cut (n := n) z ?_ ?_ <;> [(intro _; clear_value z); subst z]) | (refine State.Ok.cutPair (n := n) z ?_ ?_ <;> [(intro _; clear_value z); subst z]) | clear_value z)
    | with_reducible apply State.Ok.ite
    | with_reducible apply rebalanceCompleteEffect_ok
    | split

theorem rebalanceAbandonedEffect_ok (n : Mark) (a1 : State) (a2) (ha1 : a1.Ok n) : (rebalanceAbandonedEffect a1 a2).Ok n := by
  unfold rebalanceAbandonedEffect
  repeat' first
    | with_reducible assumption
    | intro _
    | (extract_lets +onlyGivenNames z; first | (refine State.Ok.cut (n := n) z ?_ ?_ <;> [(intro _; clear_value z); subst z]) | (refine State.Ok.cutPair (n := n) z ?_ ?_ <;> [(intro _; clear_value z); subst z]) | clear_value z)
    | with_reducible apply State.Ok.ite
    | with_reducible apply State.modFabric_ok
    | with_reducible apply State.noteAt_ok
    | with_reducible apply State.resumeTrunk_ok
    | with_reducible apply foldl_ok
    | with_reducible apply foldlState_ok
    | split

theorem execRebalanceAbandoned_ok (n : Mark) (a1) (a2) (a3 : State) (ha3 : a3.Ok n) : OkH n (execRebalanceAbandoned a1 a2 a3) := by
  unfold execRebalanceAbandoned
  refine act1_ok _ _ (fun s hs => ?_) ha3
  try dsimp only
  repeat' first
    | with_reducible assumption
    | intro _
    | (extract_lets +onlyGivenNames z; first | (refine State.Ok.cut (n := n) z ?_ ?_ <;> [(intro _; clear_value z); subst z]) | (refine State.Ok.cutPair (n := n) z ?_ ?_ <;> [(intro _; clear_value z); subst z]) | clear_value z)
    | with_reducible apply State.Ok.ite
    | with_reducible apply rebalanceAbandonedEffect_ok
    | split

theorem routeUnreachableEffect_ok (n : Mark) (a1 : State) (a2) (ha1 : a1.Ok n) : (routeUnreachableEffect a1 a2).Ok n := by
  unfold routeUnreachableEffect
  repeat' first
    | with_reducible assumption
    | intro _
    | (extract_lets +onlyGivenNames z; first | (refine State.Ok.cut (n := n) z ?_ ?_ <;> [(intro _; clear_value z); subst z]) | (refine State.Ok.cutPair (n := n) z ?_ ?_ <;> [(intro _; clear_value z); subst z]) | clear_value z)
    | with_reducible apply State.Ok.ite
    | with_reducible apply State.giveUp_ok
    | split

theorem execRouteUnreachable_ok (n : Mark) (a1) (a2) (a3 : State) (ha3 : a3.Ok n) : OkH n (execRouteUnreachable a1 a2 a3) := by
  unfold execRouteUnreachable
  refine act2_ok _ _ (fun s hs => ?_) ha3
  try dsimp only
  repeat' first
    | with_reducible assumption
    | intro _
    | (extract_lets +onlyGivenNames z; first | (refine State.Ok.cut (n := n) z ?_ ?_ <;> [(intro _; clear_value z); subst z]) | (refine State.Ok.cutPair (n := n) z ?_ ?_ <;> [(intro _; clear_value z); subst z]) | clear_value z)
    | with_reducible apply State.Ok.ite
    | with_reducible apply routeUnreachableEffect_ok
    | split

theorem fenceByTrunkLossEffect_ok (n : Mark) (a1 : State) (a2) (ha1 : a1.Ok n) : (fenceByTrunkLossEffect a1 a2).Ok n := by
  unfold fenceByTrunkLossEffect
  repeat' first
    | with_reducible assumption
    | intro _
    | (extract_lets +onlyGivenNames z; first | (refine State.Ok.cut (n := n) z ?_ ?_ <;> [(intro _; clear_value z); subst z]) | (refine State.Ok.cutPair (n := n) z ?_ ?_ <;> [(intro _; clear_value z); subst z]) | clear_value z)
    | with_reducible apply State.Ok.ite
    | with_reducible apply State.fenceNotice_ok
    | with_reducible apply State.fenceOn_ok
    | split

theorem execFenceByTrunkLoss_ok (n : Mark) (a1) (a2) (a3 : State) (ha3 : a3.Ok n) : OkH n (execFenceByTrunkLoss a1 a2 a3) := by
  unfold execFenceByTrunkLoss
  refine act2_ok _ _ (fun s hs => ?_) ha3
  try dsimp only
  repeat' first
    | with_reducible assumption
    | intro _
    | (extract_lets +onlyGivenNames z; first | (refine State.Ok.cut (n := n) z ?_ ?_ <;> [(intro _; clear_value z); subst z]) | (refine State.Ok.cutPair (n := n) z ?_ ?_ <;> [(intro _; clear_value z); subst z]) | clear_value z)
    | with_reducible apply State.Ok.ite
    | with_reducible apply fenceByTrunkLossEffect_ok
    | split

theorem fenceNoticeEffect_ok (n : Mark) (a1 : State) (a2) (a3) (ha1 : a1.Ok n) : (fenceNoticeEffect a1 a2 a3).Ok n := by
  unfold fenceNoticeEffect
  repeat' first
    | with_reducible assumption
    | intro _
    | (extract_lets +onlyGivenNames z; first | (refine State.Ok.cut (n := n) z ?_ ?_ <;> [(intro _; clear_value z); subst z]) | (refine State.Ok.cutPair (n := n) z ?_ ?_ <;> [(intro _; clear_value z); subst z]) | clear_value z)
    | with_reducible apply State.Ok.ite
    | with_reducible apply State.modFabric_ok
    | with_reducible apply State.sendControl_ok
    | with_reducible apply State.fenceOn_ok
    | with_reducible apply State.fenceOff_ok
    | split

theorem execFenceNotice_ok (n : Mark) (a1) (a2) (a3) (a4 : State) (ha4 : a4.Ok n) : OkH n (execFenceNotice a1 a2 a3 a4) := by
  unfold execFenceNotice
  refine act2_ok _ _ (fun s hs => ?_) ha4
  try dsimp only
  repeat' first
    | with_reducible assumption
    | intro _
    | (extract_lets +onlyGivenNames z; first | (refine State.Ok.cut (n := n) z ?_ ?_ <;> [(intro _; clear_value z); subst z]) | (refine State.Ok.cutPair (n := n) z ?_ ?_ <;> [(intro _; clear_value z); subst z]) | clear_value z)
    | with_reducible apply State.Ok.ite
    | with_reducible apply fenceNoticeEffect_ok
    | split

theorem execFenceForceSet_ok (n : Mark) (a1) (a2) (a3) (a4 : State) (ha4 : a4.Ok n) : OkH n (execFenceForceSet a1 a2 a3 a4) := by
  unfold execFenceForceSet
  refine act2_ok _ _ (fun s hs => ?_) ha4
  try dsimp only
  repeat' first
    | with_reducible assumption
    | intro _
    | (extract_lets +onlyGivenNames z; first | (refine State.Ok.cut (n := n) z ?_ ?_ <;> [(intro _; clear_value z); subst z]) | (refine State.Ok.cutPair (n := n) z ?_ ?_ <;> [(intro _; clear_value z); subst z]) | clear_value z)
    | with_reducible apply State.Ok.ite
    | with_reducible apply State.fenceOn_ok
    | split

theorem execFenceForceClear_ok (n : Mark) (a1) (a2) (a3) (a4 : State) (ha4 : a4.Ok n) : OkH n (execFenceForceClear a1 a2 a3 a4) := by
  unfold execFenceForceClear
  refine act1_ok _ _ (fun s hs => ?_) ha4
  try dsimp only
  repeat' first
    | with_reducible assumption
    | intro _
    | (extract_lets +onlyGivenNames z; first | (refine State.Ok.cut (n := n) z ?_ ?_ <;> [(intro _; clear_value z); subst z]) | (refine State.Ok.cutPair (n := n) z ?_ ?_ <;> [(intro _; clear_value z); subst z]) | clear_value z)
    | with_reducible apply State.Ok.ite
    | with_reducible apply State.fenceOff_ok
    | split

theorem npTimeoutExpiredEffect_ok (n : Mark) (a1 : State) (a2) (ha1 : a1.Ok n) : (npTimeoutExpiredEffect a1 a2).Ok n := by
  unfold npTimeoutExpiredEffect
  repeat' first
    | with_reducible assumption
    | intro _
    | (extract_lets +onlyGivenNames z; first | (refine State.Ok.cut (n := n) z ?_ ?_ <;> [(intro _; clear_value z); subst z]) | (refine State.Ok.cutPair (n := n) z ?_ ?_ <;> [(intro _; clear_value z); subst z]) | clear_value z)
    | with_reducible apply State.Ok.ite
    | with_reducible apply State.endTrack_ok
    | with_reducible apply State.modFabric_ok
    | with_reducible apply State.logEntry_ok
    | with_reducible apply State.noteAt_ok
    | with_reducible apply State.countHeart_ok
    | split

theorem execNpTimeoutExpired_ok (n : Mark) (a1) (a2) (a3 : State) (ha3 : a3.Ok n) : OkH n (execNpTimeoutExpired a1 a2 a3) := by
  unfold execNpTimeoutExpired
  refine act1_ok _ _ (fun s hs => ?_) ha3
  try dsimp only
  repeat' first
    | with_reducible assumption
    | intro _
    | (extract_lets +onlyGivenNames z; first | (refine State.Ok.cut (n := n) z ?_ ?_ <;> [(intro _; clear_value z); subst z]) | (refine State.Ok.cutPair (n := n) z ?_ ?_ <;> [(intro _; clear_value z); subst z]) | clear_value z)
    | with_reducible apply State.Ok.ite
    | with_reducible apply npTimeoutExpiredEffect_ok
    | split

theorem trackQuarantineEndEffect_ok (n : Mark) (a1 : State) (a2) (ha1 : a1.Ok n) : (trackQuarantineEndEffect a1 a2).Ok n := by
  unfold trackQuarantineEndEffect
  repeat' first
    | with_reducible assumption
    | intro _
    | (extract_lets +onlyGivenNames z; first | (refine State.Ok.cut (n := n) z ?_ ?_ <;> [(intro _; clear_value z); subst z]) | (refine State.Ok.cutPair (n := n) z ?_ ?_ <;> [(intro _; clear_value z); subst z]) | clear_value z)
    | with_reducible apply State.Ok.ite
    | with_reducible apply State.modFabric_ok
    | split

theorem execTrackQuarantineEnd_ok (n : Mark) (a1) (a2) (a3 : State) (ha3 : a3.Ok n) : OkH n (execTrackQuarantineEnd a1 a2 a3) := by
  unfold execTrackQuarantineEnd
  refine act1_ok _ _ (fun s hs => ?_) ha3
  try dsimp only
  repeat' first
    | with_reducible assumption
    | intro _
    | (extract_lets +onlyGivenNames z; first | (refine State.Ok.cut (n := n) z ?_ ?_ <;> [(intro _; clear_value z); subst z]) | (refine State.Ok.cutPair (n := n) z ?_ ?_ <;> [(intro _; clear_value z); subst z]) | clear_value z)
    | with_reducible apply State.Ok.ite
    | with_reducible apply trackQuarantineEndEffect_ok
    | split

theorem proxyTagTimeoutEffect_ok (n : Mark) (a1 : State) (a2) (a3) (ha1 : a1.Ok n) : (proxyTagTimeoutEffect a1 a2 a3).Ok n := by
  unfold proxyTagTimeoutEffect
  repeat' first
    | with_reducible assumption
    | intro _
    | (extract_lets +onlyGivenNames z; first | (refine State.Ok.cut (n := n) z ?_ ?_ <;> [(intro _; clear_value z); subst z]) | (refine State.Ok.cutPair (n := n) z ?_ ?_ <;> [(intro _; clear_value z); subst z]) | clear_value z)
    | with_reducible apply State.Ok.ite
    | with_reducible apply State.modFabric_ok
    | split

theorem execProxyTagTimeout_ok (n : Mark) (a1) (a2) (a3) (a4 : State) (ha4 : a4.Ok n) : OkH n (execProxyTagTimeout a1 a2 a3 a4) := by
  unfold execProxyTagTimeout
  refine act1_ok _ _ (fun s hs => ?_) ha4
  try dsimp only
  repeat' first
    | with_reducible assumption
    | intro _
    | (extract_lets +onlyGivenNames z; first | (refine State.Ok.cut (n := n) z ?_ ?_ <;> [(intro _; clear_value z); subst z]) | (refine State.Ok.cutPair (n := n) z ?_ ?_ <;> [(intro _; clear_value z); subst z]) | clear_value z)
    | with_reducible apply State.Ok.ite
    | with_reducible apply proxyTagTimeoutEffect_ok
    | split

theorem farFailureSendEffect_ok (n : Mark) (a1 : State) (a2) (a3) (ha1 : a1.Ok n) : (farFailureSendEffect a1 a2 a3).Ok n := by
  unfold farFailureSendEffect
  repeat' first
    | with_reducible assumption
    | intro _
    | (extract_lets +onlyGivenNames z; first | (refine State.Ok.cut (n := n) z ?_ ?_ <;> [(intro _; clear_value z); subst z]) | (refine State.Ok.cutPair (n := n) z ?_ ?_ <;> [(intro _; clear_value z); subst z]) | clear_value z)
    | with_reducible apply State.Ok.ite
    | with_reducible apply State.modFabric_ok
    | with_reducible apply State.countBough_ok
    | with_reducible apply State.modTx_ok
    | split

theorem execFarFailureSend_ok (n : Mark) (a1) (a2) (a3) (a4 : State) (ha4 : a4.Ok n) : OkH n (execFarFailureSend a1 a2 a3 a4) := by
  unfold execFarFailureSend
  refine act1_ok _ _ (fun s hs => ?_) ha4
  try dsimp only
  repeat' first
    | with_reducible assumption
    | intro _
    | (extract_lets +onlyGivenNames z; first | (refine State.Ok.cut (n := n) z ?_ ?_ <;> [(intro _; clear_value z); subst z]) | (refine State.Ok.cutPair (n := n) z ?_ ?_ <;> [(intro _; clear_value z); subst z]) | clear_value z)
    | with_reducible apply State.Ok.ite
    | with_reducible apply farFailureSendEffect_ok
    | split

theorem farFailureNoticeEffect_ok (n : Mark) (a1 : State) (a2) (a3) (ha1 : a1.Ok n) : (farFailureNoticeEffect a1 a2 a3).Ok n := by
  unfold farFailureNoticeEffect
  repeat' first
    | with_reducible assumption
    | intro _
    | (extract_lets +onlyGivenNames z; first | (refine State.Ok.cut (n := n) z ?_ ?_ <;> [(intro _; clear_value z); subst z]) | (refine State.Ok.cutPair (n := n) z ?_ ?_ <;> [(intro _; clear_value z); subst z]) | clear_value z)
    | with_reducible apply State.Ok.ite
    | with_reducible apply State.countBough_ok
    | with_reducible apply State.farFailureHere_ok
    | split

theorem execFarFailureNotice_ok (n : Mark) (a1) (a2) (a3) (a4 : State) (ha4 : a4.Ok n) : OkH n (execFarFailureNotice a1 a2 a3 a4) := by
  unfold execFarFailureNotice
  refine act1_ok _ _ (fun s hs => ?_) ha4
  try dsimp only
  repeat' first
    | with_reducible assumption
    | intro _
    | (extract_lets +onlyGivenNames z; first | (refine State.Ok.cut (n := n) z ?_ ?_ <;> [(intro _; clear_value z); subst z]) | (refine State.Ok.cutPair (n := n) z ?_ ?_ <;> [(intro _; clear_value z); subst z]) | clear_value z)
    | with_reducible apply State.Ok.ite
    | with_reducible apply farFailureNoticeEffect_ok
    | split

theorem execLockTimeout_ok (n : Mark) (a1) (a2) (a3 : State) (ha3 : a3.Ok n) : OkH n (execLockTimeout a1 a2 a3) := by
  unfold execLockTimeout
  refine act1_ok _ _ (fun s hs => ?_) ha3
  try dsimp only
  repeat' first
    | with_reducible assumption
    | intro _
    | (extract_lets +onlyGivenNames z; first | (refine State.Ok.cut (n := n) z ?_ ?_ <;> [(intro _; clear_value z); subst z]) | (refine State.Ok.cutPair (n := n) z ?_ ?_ <;> [(intro _; clear_value z); subst z]) | clear_value z)
    | with_reducible apply State.Ok.ite
    | with_reducible apply State.breakLock_ok
    | split

theorem unlockEffect_ok (n : Mark) (a1 : State) (a2) (ha1 : a1.Ok n) : (unlockEffect a1 a2).Ok n := by
  unfold unlockEffect
  repeat' first
    | with_reducible assumption
    | intro _
    | (extract_lets +onlyGivenNames z; first | (refine State.Ok.cut (n := n) z ?_ ?_ <;> [(intro _; clear_value z); subst z]) | (refine State.Ok.cutPair (n := n) z ?_ ?_ <;> [(intro _; clear_value z); subst z]) | clear_value z)
    | with_reducible apply State.Ok.ite
    | with_reducible apply State.Ok.iteFst
    | with_reducible apply State.withCredits_ok
    | with_reducible apply State.unlockPart_ok
    | with_reducible apply State.submit_ok
    | with_reducible apply State.modFabric_ok
    | with_reducible apply State.countDrop_ok
    | split
    | (refine State.Ok.ofPair (by with_reducible assumption) ?_)

theorem execUnlock_ok (n : Mark) (a1) (a2) (a3 : State) (ha3 : a3.Ok n) : OkH n (execUnlock a1 a2 a3) := by
  unfold execUnlock
  refine act1_ok _ _ (fun s hs => ?_) ha3
  try dsimp only
  repeat' first
    | with_reducible assumption
    | intro _
    | (extract_lets +onlyGivenNames z; first | (refine State.Ok.cut (n := n) z ?_ ?_ <;> [(intro _; clear_value z); subst z]) | (refine State.Ok.cutPair (n := n) z ?_ ?_ <;> [(intro _; clear_value z); subst z]) | clear_value z)
    | with_reducible apply State.Ok.ite
    | with_reducible apply unlockEffect_ok
    | split

theorem State.coreAccess_ok (n : Mark) (a1 : State) (a2) (a3) (a4) (a5) (a6) (a7) (a8) (a9) (ha1 : a1.Ok n) : (State.coreAccess a1 a2 a3 a4 a5 a6 a7 a8 a9).Ok n := by
  unfold State.coreAccess
  repeat' first
    | with_reducible assumption
    | intro _
    | (extract_lets +onlyGivenNames z; first | (refine State.Ok.cut (n := n) z ?_ ?_ <;> [(intro _; clear_value z); subst z]) | (refine State.Ok.cutPair (n := n) z ?_ ?_ <;> [(intro _; clear_value z); subst z]) | clear_value z)
    | with_reducible apply State.Ok.ite
    | with_reducible apply State.Ok.iteFst
    | with_reducible apply State.toPort_ok
    | with_reducible apply State.toHeart_ok
    | with_reducible apply State.decodeTo_ok
    | with_reducible apply State.refuseNp_ok
    | with_reducible apply State.deliverTo_ok
    | with_reducible apply State.submit_ok
    | split
    | (refine State.Ok.ofPair (by with_reducible assumption) ?_)

theorem State.bridgeGo_ok (n : Mark) (a1 : State) (a2) (a3) (ha1 : a1.Ok n) : (State.bridgeGo a1 a2 a3).Ok n := by
  unfold State.bridgeGo
  repeat' first
    | with_reducible assumption
    | intro _
    | (extract_lets +onlyGivenNames z; first | (refine State.Ok.cut (n := n) z ?_ ?_ <;> [(intro _; clear_value z); subst z]) | (refine State.Ok.cutPair (n := n) z ?_ ?_ <;> [(intro _; clear_value z); subst z]) | clear_value z)
    | with_reducible apply State.Ok.ite
    | with_reducible apply State.each_ok
    | with_reducible apply State.coreAccess_ok
    | split

theorem bridgeReadEffect_ok (n : Mark) (a1 : State) (a2) (a3) (a4) (a5) (a6) (ha1 : a1.Ok n) : (bridgeReadEffect a1 a2 a3 a4 a5 a6).Ok n := by
  unfold bridgeReadEffect
  repeat' first
    | with_reducible assumption
    | intro _
    | (extract_lets +onlyGivenNames z; first | (refine State.Ok.cut (n := n) z ?_ ?_ <;> [(intro _; clear_value z); subst z]) | (refine State.Ok.cutPair (n := n) z ?_ ?_ <;> [(intro _; clear_value z); subst z]) | clear_value z)
    | with_reducible apply State.Ok.ite
    | with_reducible apply State.countHeart_ok
    | with_reducible apply State.bridgeGo_ok
    | with_reducible apply State.modFabric_ok
    | split

theorem execBridgeRead_ok (n : Mark) (a1) (a2) (a3) (a4) (a5) (a6) (a7 : State) (ha7 : a7.Ok n) : OkH n (execBridgeRead a1 a2 a3 a4 a5 a6 a7) := by
  unfold execBridgeRead
  refine act2_ok _ _ (fun s hs => ?_) ha7
  try dsimp only
  repeat' first
    | with_reducible assumption
    | intro _
    | (extract_lets +onlyGivenNames z; first | (refine State.Ok.cut (n := n) z ?_ ?_ <;> [(intro _; clear_value z); subst z]) | (refine State.Ok.cutPair (n := n) z ?_ ?_ <;> [(intro _; clear_value z); subst z]) | clear_value z)
    | with_reducible apply State.Ok.ite
    | with_reducible apply bridgeReadEffect_ok
    | split

theorem bridgeWriteEffect_ok (n : Mark) (a1 : State) (a2) (a3) (a4) (a5) (a6) (ha1 : a1.Ok n) : (bridgeWriteEffect a1 a2 a3 a4 a5 a6).Ok n := by
  unfold bridgeWriteEffect
  repeat' first
    | with_reducible assumption
    | intro _
    | (extract_lets +onlyGivenNames z; first | (refine State.Ok.cut (n := n) z ?_ ?_ <;> [(intro _; clear_value z); subst z]) | (refine State.Ok.cutPair (n := n) z ?_ ?_ <;> [(intro _; clear_value z); subst z]) | clear_value z)
    | with_reducible apply State.Ok.ite
    | with_reducible apply State.each_ok
    | with_reducible apply State.coreAccess_ok
    | split

theorem execBridgeWrite_ok (n : Mark) (a1) (a2) (a3) (a4) (a5) (a6) (a7 : State) (ha7 : a7.Ok n) : OkH n (execBridgeWrite a1 a2 a3 a4 a5 a6 a7) := by
  unfold execBridgeWrite
  refine act2_ok _ _ (fun s hs => ?_) ha7
  try dsimp only
  repeat' first
    | with_reducible assumption
    | intro _
    | (extract_lets +onlyGivenNames z; first | (refine State.Ok.cut (n := n) z ?_ ?_ <;> [(intro _; clear_value z); subst z]) | (refine State.Ok.cutPair (n := n) z ?_ ?_ <;> [(intro _; clear_value z); subst z]) | clear_value z)
    | with_reducible apply State.Ok.ite
    | with_reducible apply bridgeWriteEffect_ok
    | split

theorem bridgeReadTimeoutEffect_ok (n : Mark) (a1 : State) (a2) (ha1 : a1.Ok n) : (bridgeReadTimeoutEffect a1 a2).Ok n := by
  unfold bridgeReadTimeoutEffect
  repeat' first
    | with_reducible assumption
    | intro _
    | (extract_lets +onlyGivenNames z; first | (refine State.Ok.cut (n := n) z ?_ ?_ <;> [(intro _; clear_value z); subst z]) | (refine State.Ok.cutPair (n := n) z ?_ ?_ <;> [(intro _; clear_value z); subst z]) | clear_value z)
    | with_reducible apply State.Ok.ite
    | with_reducible apply State.modCore_ok
    | with_reducible apply State.modFabric_ok
    | with_reducible apply State.noteAt_ok
    | with_reducible apply State.emit_ok
    | with_reducible apply State.countHeart_ok
    | split

theorem execBridgeReadTimeout_ok (n : Mark) (a1) (a2) (a3 : State) (ha3 : a3.Ok n) : OkH n (execBridgeReadTimeout a1 a2 a3) := by
  unfold execBridgeReadTimeout
  refine act1_ok _ _ (fun s hs => ?_) ha3
  try dsimp only
  repeat' first
    | with_reducible assumption
    | intro _
    | (extract_lets +onlyGivenNames z; first | (refine State.Ok.cut (n := n) z ?_ ?_ <;> [(intro _; clear_value z); subst z]) | (refine State.Ok.cutPair (n := n) z ?_ ?_ <;> [(intro _; clear_value z); subst z]) | clear_value z)
    | with_reducible apply State.Ok.ite
    | with_reducible apply bridgeReadTimeoutEffect_ok
    | split

theorem bridgeReadRetryEffect_ok (n : Mark) (a1 : State) (a2) (ha1 : a1.Ok n) : (bridgeReadRetryEffect a1 a2).Ok n := by
  unfold bridgeReadRetryEffect
  repeat' first
    | with_reducible assumption
    | intro _
    | (extract_lets +onlyGivenNames z; first | (refine State.Ok.cut (n := n) z ?_ ?_ <;> [(intro _; clear_value z); subst z]) | (refine State.Ok.cutPair (n := n) z ?_ ?_ <;> [(intro _; clear_value z); subst z]) | clear_value z)
    | with_reducible apply State.Ok.ite
    | with_reducible apply State.modFabric_ok
    | with_reducible apply State.bridgeGo_ok
    | split

theorem execBridgeReadRetry_ok (n : Mark) (a1) (a2) (a3 : State) (ha3 : a3.Ok n) : OkH n (execBridgeReadRetry a1 a2 a3) := by
  unfold execBridgeReadRetry
  refine act2_ok _ _ (fun s hs => ?_) ha3
  try dsimp only
  repeat' first
    | with_reducible assumption
    | intro _
    | (extract_lets +onlyGivenNames z; first | (refine State.Ok.cut (n := n) z ?_ ?_ <;> [(intro _; clear_value z); subst z]) | (refine State.Ok.cutPair (n := n) z ?_ ?_ <;> [(intro _; clear_value z); subst z]) | clear_value z)
    | with_reducible apply State.Ok.ite
    | with_reducible apply bridgeReadRetryEffect_ok
    | split

theorem State.enterSubstate_ok (n : Mark) (a1 : State) (a2) (a3) (ha1 : a1.Ok n) : (State.enterSubstate a1 a2 a3).Ok n := by
  unfold State.enterSubstate
  repeat' first
    | with_reducible assumption
    | intro _
    | (extract_lets +onlyGivenNames z; first | (refine State.Ok.cut (n := n) z ?_ ?_ <;> [(intro _; clear_value z); subst z]) | (refine State.Ok.cutPair (n := n) z ?_ ?_ <;> [(intro _; clear_value z); subst z]) | clear_value z)
    | with_reducible apply State.Ok.ite
    | with_reducible apply State.modHPort_ok
    | with_reducible apply State.driveOut_ok
    | with_reducible apply State.modSideband_ok
    | with_reducible apply State.countTwig_ok
    | split

theorem State.sidebandEvent_ok (n : Mark) (a1 : State) (a2) (a3) (a4) (ha1 : a1.Ok n) : (State.sidebandEvent a1 a2 a3 a4).Ok n := by
  unfold State.sidebandEvent
  extract_lets +onlyGivenNames g holder toSlot
  have ht : ∀ s k, s.Ok n → (toSlot s k).Ok n := by
    intro s k h
    show State.Ok n (match holder with | some (x, v) => s.slotEvent x v k | none => s)
    cases holder with
    | none => exact h
    | some p => exact State.slotEvent_ok _ _ _ _ _ h
  split
  · refine .ite (State.hpDown_ok _ _ _ _ _ (ht _ _ ?_)) (ht _ _ ?_)
    all_goals
      cases holder with
      | none => exact ha1
      | some p => exact State.modVdp_ok _ _ _ _ _ ha1
  · exact .ite (ht _ _ ha1) ha1
  · refine ht _ _ ?_
    cases holder with
    | none => exact ha1
    | some p => exact State.modVdp_ok _ _ _ _ _ ha1
  · exact .ite (State.slotSidebandFault_ok _ _ _ (ht _ _ ha1)) ha1
  · refine .ite ?_ ha1
    cases holder with
    | none => exact ha1
    | some p => exact State.emit_ok _ _ _ ha1
  · exact .ite (l1PartnerExitEffect_ok _ _ _ ha1) (.ite (State.enterSubstate_ok _ _ _ _ ha1) ha1)

theorem State.pollPort_ok (n : Mark) (a1 : State) (a2) (ha1 : a1.Ok n) : (State.pollPort a1 a2).Ok n := by
  unfold State.pollPort
  repeat' first
    | with_reducible assumption
    | intro _
    | (extract_lets +onlyGivenNames z; first | (refine State.Ok.cut (n := n) z ?_ ?_ <;> [(intro _; clear_value z); subst z]) | (refine State.Ok.cutPair (n := n) z ?_ ?_ <;> [(intro _; clear_value z); subst z]) | clear_value z)
    | with_reducible apply State.Ok.ite
    | with_reducible apply State.modSideband_ok
    | with_reducible apply State.countHeart_ok
    | with_reducible apply State.noteAt_ok
    | with_reducible apply State.each_ok
    | with_reducible apply State.sidebandEvent_ok
    | split

theorem sidebandPollEffect_ok (n : Mark) (a1 : State) (a2) (ha1 : a1.Ok n) : (sidebandPollEffect a1 a2).Ok n := by
  unfold sidebandPollEffect
  repeat' first
    | with_reducible assumption
    | intro _
    | (extract_lets +onlyGivenNames z; first | (refine State.Ok.cut (n := n) z ?_ ?_ <;> [(intro _; clear_value z); subst z]) | (refine State.Ok.cutPair (n := n) z ?_ ?_ <;> [(intro _; clear_value z); subst z]) | clear_value z)
    | with_reducible apply State.Ok.ite
    | with_reducible apply State.each_ok
    | with_reducible apply State.countHeart_ok
    | with_reducible apply State.pollPort_ok
    | split

theorem execSidebandPoll_ok (n : Mark) (a1) (a2) (a3 : State) (ha3 : a3.Ok n) : OkH n (execSidebandPoll a1 a2 a3) := by
  unfold execSidebandPoll
  refine act2_ok _ _ (fun s hs => ?_) ha3
  try dsimp only
  repeat' first
    | with_reducible assumption
    | intro _
    | (extract_lets +onlyGivenNames z; first | (refine State.Ok.cut (n := n) z ?_ ?_ <;> [(intro _; clear_value z); subst z]) | (refine State.Ok.cutPair (n := n) z ?_ ?_ <;> [(intro _; clear_value z); subst z]) | clear_value z)
    | with_reducible apply State.Ok.ite
    | with_reducible apply sidebandPollEffect_ok
    | split

theorem indicatorBlinkEffect_ok (n : Mark) (a1 : State) (a2) (a3) (ha1 : a1.Ok n) : (indicatorBlinkEffect a1 a2 a3).Ok n := by
  unfold indicatorBlinkEffect
  repeat' first
    | with_reducible assumption
    | intro _
    | (extract_lets +onlyGivenNames z; first | (refine State.Ok.cut (n := n) z ?_ ?_ <;> [(intro _; clear_value z); subst z]) | (refine State.Ok.cutPair (n := n) z ?_ ?_ <;> [(intro _; clear_value z); subst z]) | clear_value z)
    | with_reducible apply State.Ok.ite
    | with_reducible apply State.driveOut_ok
    | with_reducible apply State.modSideband_ok
    | split

theorem execIndicatorBlink_ok (n : Mark) (a1) (a2) (a3) (a4 : State) (ha4 : a4.Ok n) : OkH n (execIndicatorBlink a1 a2 a3 a4) := by
  unfold execIndicatorBlink
  refine act1_ok _ _ (fun s hs => ?_) ha4
  try dsimp only
  repeat' first
    | with_reducible assumption
    | intro _
    | (extract_lets +onlyGivenNames z; first | (refine State.Ok.cut (n := n) z ?_ ?_ <;> [(intro _; clear_value z); subst z]) | (refine State.Ok.cutPair (n := n) z ?_ ?_ <;> [(intro _; clear_value z); subst z]) | clear_value z)
    | with_reducible apply State.Ok.ite
    | with_reducible apply indicatorBlinkEffect_ok
    | split

end Sys2Proof.Machine
end

