-- ==== Sys2Proof/Laws/KeepMemory.lean ====
section
/-! SUPPORT. Every operation of Memory.lean keeps the invariant, and the local count does not run back. -/

set_option linter.all false

namespace Sys2Proof.Machine

theorem State.modChannel_ok (n : Mark) (a1 : State) (a2) (a3) (ha1 : a1.Ok n) : (State.modChannel a1 a2 a3).Ok n := by
  unfold State.modChannel
  repeat' first
    | with_reducible assumption
    | intro _
    | (extract_lets +onlyGivenNames z; first | (refine State.Ok.cut (n := n) z ?_ ?_ <;> [(intro _; clear_value z); subst z]) | (refine State.Ok.cutPair (n := n) z ?_ ?_ <;> [(intro _; clear_value z); subst z]) | clear_value z)
    | with_reducible apply State.Ok.ite
    | (with_reducible refine State.modMem_ok _ rfl rfl ?_)
    | split

theorem State.memLog_ok (n : Mark) (a1 : State) (a2) (a3) (a4) (ha1 : a1.Ok n) : (State.memLog a1 a2 a3 a4).Ok n := by
  unfold State.memLog
  repeat' first
    | with_reducible assumption
    | intro _
    | (extract_lets +onlyGivenNames z; first | (refine State.Ok.cut (n := n) z ?_ ?_ <;> [(intro _; clear_value z); subst z]) | (refine State.Ok.cutPair (n := n) z ?_ ?_ <;> [(intro _; clear_value z); subst z]) | clear_value z)
    | with_reducible apply State.Ok.ite
    | (with_reducible refine State.modMem_ok _ rfl rfl ?_)
    | split

theorem State.channelFail_ok (n : Mark) (a1 : State) (a2) (a3) (ha1 : a1.Ok n) : (State.channelFail a1 a2 a3).Ok n := by
  unfold State.channelFail
  repeat' first
    | with_reducible assumption
    | intro _
    | (extract_lets +onlyGivenNames z; first | (refine State.Ok.cut (n := n) z ?_ ?_ <;> [(intro _; clear_value z); subst z]) | (refine State.Ok.cutPair (n := n) z ?_ ?_ <;> [(intro _; clear_value z); subst z]) | clear_value z)
    | with_reducible apply State.Ok.ite
    | with_reducible apply State.note_ok
    | with_reducible apply State.modChannel_ok
    | split

theorem State.transfers_ok (n : Mark) (a1 : State) (a2) (a3) (ha1 : a1.Ok n) : (State.transfers a1 a2 a3).Ok n := by
  unfold State.transfers
  repeat' first
    | with_reducible assumption
    | intro _
    | (extract_lets +onlyGivenNames z; first | (refine State.Ok.cut (n := n) z ?_ ?_ <;> [(intro _; clear_value z); subst z]) | (refine State.Ok.cutPair (n := n) z ?_ ?_ <;> [(intro _; clear_value z); subst z]) | clear_value z)
    | with_reducible apply State.Ok.ite
    | with_reducible apply State.each_ok
    | with_reducible apply State.noteAt_ok
    | with_reducible apply State.countHeart_ok
    | with_reducible apply State.channelFail_ok
    | with_reducible apply State.memLog_ok
    | split

theorem State.confirmed_ok (n : Mark) (a1 : State) (a2) (a3) (a4) (a5) (ha1 : a1.Ok n) : (State.confirmed a1 a2 a3 a4 a5).Ok n := by
  unfold State.confirmed
  repeat' first
    | with_reducible assumption
    | intro _
    | (extract_lets +onlyGivenNames z; first | (refine State.Ok.cut (n := n) z ?_ ?_ <;> [(intro _; clear_value z); subst z]) | (refine State.Ok.cutPair (n := n) z ?_ ?_ <;> [(intro _; clear_value z); subst z]) | clear_value z)
    | with_reducible apply State.Ok.ite
    | with_reducible apply State.memLog_ok
    | with_reducible apply State.countHeart_ok
    | with_reducible apply State.modChannel_ok
    | with_reducible apply State.noteAt_ok
    | split

theorem State.fetchLine_ok (n : Mark) (a1 : State) (a2) (a3) (a4) (ha1 : a1.Ok n) : (State.fetchLine a1 a2 a3 a4).1.Ok n := by
  unfold State.fetchLine
  repeat' first
    | with_reducible assumption
    | intro _
    | (extract_lets +onlyGivenNames z; first | (refine State.Ok.cut (n := n) z ?_ ?_ <;> [(intro _; clear_value z); subst z]) | (refine State.Ok.cutPair (n := n) z ?_ ?_ <;> [(intro _; clear_value z); subst z]) | clear_value z)
    | with_reducible apply State.Ok.ite
    | with_reducible apply State.Ok.iteFst
    | with_reducible apply State.transfers_ok
    | with_reducible apply State.countHeart_ok
    | with_reducible apply State.drew_ok
    | with_reducible apply State.injectItem_ok
    | with_reducible apply State.confirmed_ok
    | split
    | (refine State.Ok.ofPair (by with_reducible assumption) ?_)

theorem State.readLine_ok (n : Mark) (a1 : State) (a2) (a3) (a4) (a5) (ha1 : a1.Ok n) : (State.readLine a1 a2 a3 a4 a5).1.Ok n := by
  unfold State.readLine
  repeat' first
    | with_reducible assumption
    | intro _
    | (extract_lets +onlyGivenNames z; first | (refine State.Ok.cut (n := n) z ?_ ?_ <;> [(intro _; clear_value z); subst z]) | (refine State.Ok.cutPair (n := n) z ?_ ?_ <;> [(intro _; clear_value z); subst z]) | clear_value z)
    | with_reducible apply State.Ok.ite
    | with_reducible apply State.Ok.iteFst
    | with_reducible apply State.fetchLine_ok
    | with_reducible apply State.countHeart_ok
    | split
    | (refine State.Ok.ofPair (by with_reducible assumption) ?_)

theorem State.readBack_ok (n : Mark) (a1 : State) (a2) (a3) (ha1 : a1.Ok n) : (State.readBack a1 a2 a3).Ok n := by
  unfold State.readBack
  repeat' first
    | with_reducible assumption
    | intro _
    | (extract_lets +onlyGivenNames z; first | (refine State.Ok.cut (n := n) z ?_ ?_ <;> [(intro _; clear_value z); subst z]) | (refine State.Ok.cutPair (n := n) z ?_ ?_ <;> [(intro _; clear_value z); subst z]) | clear_value z)
    | with_reducible apply State.Ok.ite
    | with_reducible apply State.modChannel_ok
    | with_reducible apply State.memLog_ok
    | (with_reducible refine State.modMem_ok _ rfl rfl ?_)
    | with_reducible apply State.noteAt_ok
    | with_reducible apply State.countHeart_ok
    | split

theorem State.writeLine_ok (n : Mark) (a1 : State) (a2) (a3) (a4) (a5) (a6) (ha1 : a1.Ok n) : (State.writeLine a1 a2 a3 a4 a5 a6).Ok n := by
  unfold State.writeLine
  repeat' first
    | with_reducible assumption
    | intro _
    | (extract_lets +onlyGivenNames z; first | (refine State.Ok.cut (n := n) z ?_ ?_ <;> [(intro _; clear_value z); subst z]) | (refine State.Ok.cutPair (n := n) z ?_ ?_ <;> [(intro _; clear_value z); subst z]) | clear_value z)
    | with_reducible apply State.Ok.ite
    | with_reducible apply State.countHeart_ok
    | with_reducible apply State.transfers_ok
    | (with_reducible refine State.modMem_ok _ rfl rfl ?_)
    | with_reducible apply State.readBack_ok
    | (with_reducible refine State.modMem_cells_ok _ (wf_line _ _ _ _ _) ?_)
    | split

theorem State.writePart_ok (n : Mark) (a1 : State) (a2) (a3) (a4) (a5) (ha1 : a1.Ok n) : (State.writePart a1 a2 a3 a4 a5).1.Ok n := by
  unfold State.writePart
  repeat' first
    | with_reducible assumption
    | intro _
    | (extract_lets +onlyGivenNames z; first | (refine State.Ok.cut (n := n) z ?_ ?_ <;> [(intro _; clear_value z); subst z]) | (refine State.Ok.cutPair (n := n) z ?_ ?_ <;> [(intro _; clear_value z); subst z]) | clear_value z)
    | with_reducible apply State.Ok.ite
    | with_reducible apply State.Ok.iteFst
    | with_reducible apply State.fetchLine_ok
    | with_reducible apply State.countHeart_ok
    | (with_reducible refine State.modMem_ok _ rfl rfl ?_)
    | (with_reducible refine State.modMem_cells_ok _ (wf_merge _ _ _ _ _) ?_)
    | split
    | (refine State.Ok.ofPair (by with_reducible assumption) ?_)

theorem State.atomicLine_ok (n : Mark) (a1 : State) (a2) (a3) (a4) (a5) (a6) (a7) (a8) (ha1 : a1.Ok n) : (State.atomicLine a1 a2 a3 a4 a5 a6 a7 a8).1.Ok n := by
  unfold State.atomicLine
  repeat' first
    | with_reducible assumption
    | intro _
    | (extract_lets +onlyGivenNames z; first | (refine State.Ok.cut (n := n) z ?_ ?_ <;> [(intro _; clear_value z); subst z]) | (refine State.Ok.cutPair (n := n) z ?_ ?_ <;> [(intro _; clear_value z); subst z]) | clear_value z)
    | with_reducible apply State.Ok.ite
    | with_reducible apply State.Ok.iteFst
    | with_reducible apply State.fetchLine_ok
    | with_reducible apply State.countHeart_ok
    | (with_reducible refine State.modMem_ok _ rfl rfl ?_)
    | (with_reducible refine State.modMem_cells_ok _ (wf_merge _ _ _ _ _) ?_)
    | split
    | (refine State.Ok.ofPair (by with_reducible assumption) ?_)

theorem State.poolGet_ok (n : Mark) (a1 : State) (a2) (a3) (a4) (a5) (ha1 : a1.Ok n) : (State.poolGet a1 a2 a3 a4 a5).1.Ok n := by
  unfold State.poolGet
  repeat' first
    | with_reducible assumption
    | intro _
    | (extract_lets +onlyGivenNames z; first | (refine State.Ok.cut (n := n) z ?_ ?_ <;> [(intro _; clear_value z); subst z]) | (refine State.Ok.cutPair (n := n) z ?_ ?_ <;> [(intro _; clear_value z); subst z]) | clear_value z)
    | with_reducible apply State.Ok.ite
    | with_reducible apply State.Ok.iteFst
    | with_reducible apply State.readLine_ok
    | with_reducible apply foldl_ok
    | with_reducible apply foldlState_ok
    | split
    | (refine State.Ok.ofPair (by with_reducible assumption) ?_)

theorem State.poolPut_ok (n : Mark) (a1 : State) (a2) (a3) (a4) (a5) (a6) (ha1 : a1.Ok n) : (State.poolPut a1 a2 a3 a4 a5 a6).1.Ok n := by
  unfold State.poolPut
  repeat' first
    | with_reducible assumption
    | intro _
    | (extract_lets +onlyGivenNames z; first | (refine State.Ok.cut (n := n) z ?_ ?_ <;> [(intro _; clear_value z); subst z]) | (refine State.Ok.cutPair (n := n) z ?_ ?_ <;> [(intro _; clear_value z); subst z]) | clear_value z)
    | with_reducible apply State.Ok.ite
    | with_reducible apply State.Ok.iteFst
    | with_reducible apply State.writeLine_ok
    | with_reducible apply State.writePart_ok
    | with_reducible apply foldl_ok
    | with_reducible apply foldlState_ok
    | split
    | (refine State.Ok.ofPair (by with_reducible assumption) ?_)

theorem State.poolAccess_ok (n : Mark) (a1 : State) (a2) (a3) (a4) (a5) (a6) (a7) (a8) (a9) (a10) (ha1 : a1.Ok n) (ha10 : ∀ x0 x1, x0.Ok n → (a10 x0 x1).Ok n) : (State.poolAccess a1 a2 a3 a4 a5 a6 a7 a8 a9 a10).Ok n := by
  unfold State.poolAccess
  repeat' first
    | with_reducible assumption
    | intro _
    | (extract_lets +onlyGivenNames z; first | (refine State.Ok.cut (n := n) z ?_ ?_ <;> [(intro _; clear_value z); subst z]) | (refine State.Ok.cutPair (n := n) z ?_ ?_ <;> [(intro _; clear_value z); subst z]) | clear_value z)
    | with_reducible apply State.Ok.ite
    | with_reducible apply ha10
    | with_reducible apply State.gateFault_ok
    | with_reducible apply State.emit_ok
    | split

theorem execPoolRead_ok (n : Mark) (a1) (a2) (a3) (a4) (a5) (a6) (a7 : State) (ha7 : a7.Ok n) : OkH n (execPoolRead a1 a2 a3 a4 a5 a6 a7) := by
  unfold execPoolRead
  refine act2_ok _ _ (fun s hs => ?_) ha7
  try dsimp only
  repeat' first
    | with_reducible assumption
    | intro _
    | (extract_lets +onlyGivenNames z; first | (refine State.Ok.cut (n := n) z ?_ ?_ <;> [(intro _; clear_value z); subst z]) | (refine State.Ok.cutPair (n := n) z ?_ ?_ <;> [(intro _; clear_value z); subst z]) | clear_value z)
    | with_reducible apply State.Ok.ite
    | with_reducible apply State.Ok.iteFst
    | with_reducible apply State.poolAccess_ok
    | with_reducible apply State.poolGet_ok
    | with_reducible apply State.emit_ok
    | split
    | (refine State.Ok.ofPair (by with_reducible assumption) ?_)

theorem execPoolWrite_ok (n : Mark) (a1) (a2) (a3) (a4) (a5) (a6) (a7) (a8 : State) (ha8 : a8.Ok n) : OkH n (execPoolWrite a1 a2 a3 a4 a5 a6 a7 a8) := by
  unfold execPoolWrite
  refine act2_ok _ _ (fun s hs => ?_) ha8
  try dsimp only
  repeat' first
    | with_reducible assumption
    | intro _
    | (extract_lets +onlyGivenNames z; first | (refine State.Ok.cut (n := n) z ?_ ?_ <;> [(intro _; clear_value z); subst z]) | (refine State.Ok.cutPair (n := n) z ?_ ?_ <;> [(intro _; clear_value z); subst z]) | clear_value z)
    | with_reducible apply State.Ok.ite
    | with_reducible apply State.Ok.iteFst
    | with_reducible apply State.poolAccess_ok
    | with_reducible apply State.poolPut_ok
    | split
    | (refine State.Ok.ofPair (by with_reducible assumption) ?_)

theorem execPoolPartialWrite_ok (n : Mark) (a1) (a2) (a3) (a4) (a5) (a6) (a7 : State) (ha7 : a7.Ok n) : OkH n (execPoolPartialWrite a1 a2 a3 a4 a5 a6 a7) := by
  unfold execPoolPartialWrite
  refine act2_ok _ _ (fun s hs => ?_) ha7
  try dsimp only
  repeat' first
    | with_reducible assumption
    | intro _
    | (extract_lets +onlyGivenNames z; first | (refine State.Ok.cut (n := n) z ?_ ?_ <;> [(intro _; clear_value z); subst z]) | (refine State.Ok.cutPair (n := n) z ?_ ?_ <;> [(intro _; clear_value z); subst z]) | clear_value z)
    | with_reducible apply State.Ok.ite
    | with_reducible apply State.Ok.iteFst
    | with_reducible apply State.poolAccess_ok
    | with_reducible apply State.poolPut_ok
    | with_reducible apply State.logDiscard_ok
    | split
    | (refine State.Ok.ofPair (by with_reducible assumption) ?_)

theorem execPoolAtomic_ok (n : Mark) (a1) (a2) (a3) (a4) (a5) (a6) (a7) (a8) (a9) (a10 : State) (ha10 : a10.Ok n) : OkH n (execPoolAtomic a1 a2 a3 a4 a5 a6 a7 a8 a9 a10) := by
  unfold execPoolAtomic
  refine act2_ok _ _ (fun s hs => ?_) ha10
  try dsimp only
  repeat' first
    | with_reducible assumption
    | intro _
    | (extract_lets +onlyGivenNames z; first | (refine State.Ok.cut (n := n) z ?_ ?_ <;> [(intro _; clear_value z); subst z]) | (refine State.Ok.cutPair (n := n) z ?_ ?_ <;> [(intro _; clear_value z); subst z]) | clear_value z)
    | with_reducible apply State.Ok.ite
    | with_reducible apply State.Ok.iteFst
    | with_reducible apply State.poolAccess_ok
    | with_reducible apply State.atomicLine_ok
    | with_reducible apply State.emit_ok
    | split
    | (refine State.Ok.ofPair (by with_reducible assumption) ?_)

theorem State.rollKey_ok (n : Mark) (a1 : State) (a2) (ha1 : a1.Ok n) : (State.rollKey a1 a2).Ok n := by
  unfold State.rollKey
  repeat' first
    | with_reducible assumption
    | intro _
    | (extract_lets +onlyGivenNames z; first | (refine State.Ok.cut (n := n) z ?_ ?_ <;> [(intro _; clear_value z); subst z]) | (refine State.Ok.cutPair (n := n) z ?_ ?_ <;> [(intro _; clear_value z); subst z]) | clear_value z)
    | with_reducible apply State.Ok.ite
    | (with_reducible refine State.modMem_ok _ rfl rfl ?_)
    | with_reducible apply State.noteAt_ok
    | split

theorem epochSweepDoneEffect_ok (n : Mark) (a1 : State) (a2) (ha1 : a1.Ok n) : (epochSweepDoneEffect a1 a2).Ok n := by
  unfold epochSweepDoneEffect
  repeat' first
    | with_reducible assumption
    | intro _
    | (extract_lets +onlyGivenNames z; first | (refine State.Ok.cut (n := n) z ?_ ?_ <;> [(intro _; clear_value z); subst z]) | (refine State.Ok.cutPair (n := n) z ?_ ?_ <;> [(intro _; clear_value z); subst z]) | clear_value z)
    | with_reducible apply State.Ok.ite
    | (with_reducible refine State.modMem_ok _ rfl rfl ?_)
    | with_reducible apply State.noteAt_ok
    | (with_reducible refine State.modMem_cells_ok _ (wf_filter _ _ _ _ rfl rfl) ?_)
    | split

theorem execEpochSweepDone_ok (n : Mark) (a1) (a2) (a3 : State) (ha3 : a3.Ok n) : OkH n (execEpochSweepDone a1 a2 a3) := by
  unfold execEpochSweepDone
  refine act1_ok _ _ (fun s hs => ?_) ha3
  try dsimp only
  repeat' first
    | with_reducible assumption
    | intro _
    | (extract_lets +onlyGivenNames z; first | (refine State.Ok.cut (n := n) z ?_ ?_ <;> [(intro _; clear_value z); subst z]) | (refine State.Ok.cutPair (n := n) z ?_ ?_ <;> [(intro _; clear_value z); subst z]) | clear_value z)
    | with_reducible apply State.Ok.ite
    | with_reducible apply epochSweepDoneEffect_ok
    | split

theorem memTrainingDoneEffect_ok (n : Mark) (a1 : State) (a2) (a3) (ha1 : a1.Ok n) : (memTrainingDoneEffect a1 a2 a3).Ok n := by
  unfold memTrainingDoneEffect
  repeat' first
    | with_reducible assumption
    | intro _
    | (extract_lets +onlyGivenNames z; first | (refine State.Ok.cut (n := n) z ?_ ?_ <;> [(intro _; clear_value z); subst z]) | (refine State.Ok.cutPair (n := n) z ?_ ?_ <;> [(intro _; clear_value z); subst z]) | clear_value z)
    | with_reducible apply State.Ok.ite
    | (with_reducible refine State.modMem_ok _ rfl rfl ?_)
    | with_reducible apply State.drew_ok
    | with_reducible apply State.each_ok
    | with_reducible apply State.channelFail_ok
    | (with_reducible refine State.modMem_cells_ok _ (fun _ => rfl) ?_)
    | split

theorem execMemTrainingDone_ok (n : Mark) (a1) (a2) (a3) (a4 : State) (ha4 : a4.Ok n) : OkH n (execMemTrainingDone a1 a2 a3 a4) := by
  unfold execMemTrainingDone
  refine act2_ok _ _ (fun s hs => ?_) ha4
  try dsimp only
  repeat' first
    | with_reducible assumption
    | intro _
    | (extract_lets +onlyGivenNames z; first | (refine State.Ok.cut (n := n) z ?_ ?_ <;> [(intro _; clear_value z); subst z]) | (refine State.Ok.cutPair (n := n) z ?_ ?_ <;> [(intro _; clear_value z); subst z]) | clear_value z)
    | with_reducible apply State.Ok.ite
    | with_reducible apply memTrainingDoneEffect_ok
    | split

theorem memInitSweepDoneEffect_ok (n : Mark) (a1 : State) (ha1 : a1.Ok n) : (memInitSweepDoneEffect a1).Ok n := by
  unfold memInitSweepDoneEffect
  repeat' first
    | with_reducible assumption
    | intro _
    | (extract_lets +onlyGivenNames z; first | (refine State.Ok.cut (n := n) z ?_ ?_ <;> [(intro _; clear_value z); subst z]) | (refine State.Ok.cutPair (n := n) z ?_ ?_ <;> [(intro _; clear_value z); subst z]) | clear_value z)
    | with_reducible apply State.Ok.ite
    | with_reducible apply State.noteAt_ok
    | (with_reducible refine State.modMem_ok _ rfl rfl ?_)
    | split

theorem execMemInitSweepDone_ok (n : Mark) (a1) (a2 : State) (ha2 : a2.Ok n) : OkH n (execMemInitSweepDone a1 a2) := by
  unfold execMemInitSweepDone
  refine act1_ok _ _ (fun s hs => ?_) ha2
  try dsimp only
  repeat' first
    | with_reducible assumption
    | intro _
    | (extract_lets +onlyGivenNames z; first | (refine State.Ok.cut (n := n) z ?_ ?_ <;> [(intro _; clear_value z); subst z]) | (refine State.Ok.cutPair (n := n) z ?_ ?_ <;> [(intro _; clear_value z); subst z]) | clear_value z)
    | with_reducible apply State.Ok.ite
    | with_reducible apply memInitSweepDoneEffect_ok
    | split

theorem patrolScrubReadEffect_ok (n : Mark) (a1 : State) (a2) (a3) (ha1 : a1.Ok n) : (patrolScrubReadEffect a1 a2 a3).Ok n := by
  unfold patrolScrubReadEffect
  repeat' first
    | with_reducible assumption
    | intro _
    | (extract_lets +onlyGivenNames z; first | (refine State.Ok.cut (n := n) z ?_ ?_ <;> [(intro _; clear_value z); subst z]) | (refine State.Ok.cutPair (n := n) z ?_ ?_ <;> [(intro _; clear_value z); subst z]) | clear_value z)
    | with_reducible apply State.Ok.ite
    | with_reducible apply State.countHeart_ok
    | with_reducible apply State.each_ok
    | with_reducible apply State.noteAt_ok
    | with_reducible apply State.channelFail_ok
    | with_reducible apply State.memLog_ok
    | with_reducible apply State.confirmed_ok
    | split

theorem execPatrolScrubRead_ok (n : Mark) (a1) (a2) (a3) (a4 : State) (ha4 : a4.Ok n) : OkH n (execPatrolScrubRead a1 a2 a3 a4) := by
  unfold execPatrolScrubRead
  refine act2_ok _ _ (fun s hs => ?_) ha4
  try dsimp only
  repeat' first
    | with_reducible assumption
    | intro _
    | (extract_lets +onlyGivenNames z; first | (refine State.Ok.cut (n := n) z ?_ ?_ <;> [(intro _; clear_value z); subst z]) | (refine State.Ok.cutPair (n := n) z ?_ ?_ <;> [(intro _; clear_value z); subst z]) | clear_value z)
    | with_reducible apply State.Ok.ite
    | with_reducible apply patrolScrubReadEffect_ok
    | split

theorem execMemHotChange_ok (n : Mark) (a1) (a2) (a3) (a4 : State) (ha4 : a4.Ok n) : OkH n (execMemHotChange a1 a2 a3 a4) := by
  unfold execMemHotChange
  refine act1_ok _ _ (fun s hs => ?_) ha4
  try dsimp only
  repeat' first
    | with_reducible assumption
    | intro _
    | (extract_lets +onlyGivenNames z; first | (refine State.Ok.cut (n := n) z ?_ ?_ <;> [(intro _; clear_value z); subst z]) | (refine State.Ok.cutPair (n := n) z ?_ ?_ <;> [(intro _; clear_value z); subst z]) | clear_value z)
    | with_reducible apply State.Ok.ite
    | with_reducible apply State.modChannel_ok
    | split

theorem State.refreshDue_ok (n : Mark) (a1 : State) (a2) (ha1 : a1.Ok n) : (State.refreshDue a1 a2).Ok n := by
  unfold State.refreshDue
  repeat' first
    | with_reducible assumption
    | intro _
    | (extract_lets +onlyGivenNames z; first | (refine State.Ok.cut (n := n) z ?_ ?_ <;> [(intro _; clear_value z); subst z]) | (refine State.Ok.cutPair (n := n) z ?_ ?_ <;> [(intro _; clear_value z); subst z]) | clear_value z)
    | with_reducible apply State.Ok.ite
    | (with_reducible refine State.modMem_ok _ rfl rfl ?_)
    | split

theorem refreshBatchEffect_ok (n : Mark) (a1 : State) (a2) (a3) (a4) (ha1 : a1.Ok n) : (refreshBatchEffect a1 a2 a3 a4).Ok n := by
  unfold refreshBatchEffect
  repeat' first
    | with_reducible assumption
    | intro _
    | (extract_lets +onlyGivenNames z; first | (refine State.Ok.cut (n := n) z ?_ ?_ <;> [(intro _; clear_value z); subst z]) | (refine State.Ok.cutPair (n := n) z ?_ ?_ <;> [(intro _; clear_value z); subst z]) | clear_value z)
    | with_reducible apply State.Ok.ite
    | with_reducible apply State.refreshDue_ok
    | (with_reducible refine State.modMem_ok _ rfl rfl ?_)
    | with_reducible apply State.countHeart_ok
    | with_reducible apply State.each_ok
    | with_reducible apply State.noteAt_ok
    | with_reducible apply State.channelFail_ok
    | split

theorem execRefreshBatch_ok (n : Mark) (a1) (a2) (a3) (a4) (a5 : State) (ha5 : a5.Ok n) : OkH n (execRefreshBatch a1 a2 a3 a4 a5) := by
  unfold execRefreshBatch
  refine act2_ok _ _ (fun s hs => ?_) ha5
  try dsimp only
  repeat' first
    | with_reducible assumption
    | intro _
    | (extract_lets +onlyGivenNames z; first | (refine State.Ok.cut (n := n) z ?_ ?_ <;> [(intro _; clear_value z); subst z]) | (refine State.Ok.cutPair (n := n) z ?_ ?_ <;> [(intro _; clear_value z); subst z]) | clear_value z)
    | with_reducible apply State.Ok.ite
    | with_reducible apply refreshBatchEffect_ok
    | split

end Sys2Proof.Machine
end

