-- ==== Sys2Proof/Laws/KeepEngines.lean ====
section
/-! SUPPORT. Every operation of Engines.lean keeps the invariant, and the local count does not run back. -/

set_option linter.all false

namespace Sys2Proof.Machine

theorem State.issuePart_ok (n : Mark) (a1 : State) (a2) (a3) (a4) (a5) (a6) (a7) (ha1 : a1.Ok n) : (State.issuePart a1 a2 a3 a4 a5 a6 a7).Ok n := by
  unfold State.issuePart
  repeat' first
    | with_reducible assumption
    | intro _
    | (extract_lets +onlyGivenNames z; first | (refine State.Ok.cut (n := n) z ?_ ?_ <;> [(intro _; clear_value z); subst z]) | (refine State.Ok.cutPair (n := n) z ?_ ?_ <;> [(intro _; clear_value z); subst z]) | clear_value z)
    | with_reducible apply State.Ok.ite
    | with_reducible apply State.Ok.iteFst
    | with_reducible apply State.modGates_ok
    | with_reducible apply State.parse_ok
    | with_reducible apply State.submit_ok
    | with_reducible apply State.poolPut_ok
    | split
    | (refine State.Ok.ofPair (by with_reducible assumption) ?_)
    | (with_reducible refine State.Ok.lit _ _ _ _ _ _ _ _ _ _ _ _ _ _ _ _ _ rfl rfl rfl rfl rfl rfl ?_)

theorem State.issue_ok (n : Mark) (a1 : State) (a2) (a3) (a4) (a5) (a6) (a7) (ha1 : a1.Ok n) : (State.issue a1 a2 a3 a4 a5 a6 a7).Ok n := by
  unfold State.issue
  repeat' first
    | with_reducible assumption
    | intro _
    | (extract_lets +onlyGivenNames z; first | (refine State.Ok.cut (n := n) z ?_ ?_ <;> [(intro _; clear_value z); subst z]) | (refine State.Ok.cutPair (n := n) z ?_ ?_ <;> [(intro _; clear_value z); subst z]) | clear_value z)
    | with_reducible apply State.Ok.ite
    | with_reducible apply State.issuePart_ok
    | with_reducible apply foldl_ok
    | with_reducible apply foldlState_ok
    | split

theorem State.issueRecords_ok (n : Mark) (a1 : State) (a2) (a3) (a4) (ha1 : a1.Ok n) : (State.issueRecords a1 a2 a3 a4).Ok n := by
  unfold State.issueRecords
  repeat' first
    | with_reducible assumption
    | intro _
    | (extract_lets +onlyGivenNames z; first | (refine State.Ok.cut (n := n) z ?_ ?_ <;> [(intro _; clear_value z); subst z]) | (refine State.Ok.cutPair (n := n) z ?_ ?_ <;> [(intro _; clear_value z); subst z]) | clear_value z)
    | with_reducible apply State.Ok.ite
    | with_reducible apply State.issue_ok
    | with_reducible apply foldl_ok
    | with_reducible apply foldlState_ok
    | split
    | (with_reducible refine State.Ok.lit _ _ _ _ _ _ _ _ _ _ _ _ _ _ _ _ _ rfl rfl rfl rfl rfl rfl ?_)

theorem State.issueRead_ok (n : Mark) (a1 : State) (a2) (a3) (a4) (a5) (a6) (ha1 : a1.Ok n) : (State.issueRead a1 a2 a3 a4 a5 a6).Ok n := by
  unfold State.issueRead
  repeat' first
    | with_reducible assumption
    | intro _
    | (extract_lets +onlyGivenNames z; first | (refine State.Ok.cut (n := n) z ?_ ?_ <;> [(intro _; clear_value z); subst z]) | (refine State.Ok.cutPair (n := n) z ?_ ?_ <;> [(intro _; clear_value z); subst z]) | clear_value z)
    | with_reducible apply State.Ok.ite
    | with_reducible apply State.emit_ok
    | with_reducible apply State.modFn_ok
    | split

theorem State.readsDone_ok (n : Mark) (a1 : State) (a2) (a3) (a4) (ha1 : a1.Ok n) : (State.readsDone a1 a2 a3 a4).Ok n := by
  unfold State.readsDone
  repeat' first
    | with_reducible assumption
    | intro _
    | (extract_lets +onlyGivenNames z; first | (refine State.Ok.cut (n := n) z ?_ ?_ <;> [(intro _; clear_value z); subst z]) | (refine State.Ok.cutPair (n := n) z ?_ ?_ <;> [(intro _; clear_value z); subst z]) | clear_value z)
    | with_reducible apply State.Ok.ite
    | with_reducible apply State.modFn_ok
    | split

theorem State.fetch_ok (n : Mark) (a1 : State) (a2) (a3) (ha1 : a1.Ok n) : (State.fetch a1 a2 a3).Ok n := by
  unfold State.fetch
  repeat' first
    | with_reducible assumption
    | intro _
    | (extract_lets +onlyGivenNames z; first | (refine State.Ok.cut (n := n) z ?_ ?_ <;> [(intro _; clear_value z); subst z]) | (refine State.Ok.cutPair (n := n) z ?_ ?_ <;> [(intro _; clear_value z); subst z]) | clear_value z)
    | with_reducible apply State.Ok.ite
    | with_reducible apply State.issueRead_ok
    | split

theorem State.serveRings_ok (n : Mark) (a1 : State) (ha1 : a1.Ok n) : (State.serveRings a1).Ok n := by
  unfold State.serveRings
  repeat' first
    | with_reducible assumption
    | intro _
    | (extract_lets +onlyGivenNames z; first | (refine State.Ok.cut (n := n) z ?_ ?_ <;> [(intro _; clear_value z); subst z]) | (refine State.Ok.cutPair (n := n) z ?_ ?_ <;> [(intro _; clear_value z); subst z]) | clear_value z)
    | with_reducible apply State.Ok.ite
    | with_reducible apply State.each_ok
    | with_reducible apply State.fetch_ok
    | with_reducible apply State.modEngines_ok
    | split

theorem State.letGo_ok (n : Mark) (a1 : State) (a2) (a3) (ha1 : a1.Ok n) : (State.letGo a1 a2 a3).Ok n := by
  unfold State.letGo
  repeat' first
    | with_reducible assumption
    | intro _
    | (extract_lets +onlyGivenNames z; first | (refine State.Ok.cut (n := n) z ?_ ?_ <;> [(intro _; clear_value z); subst z]) | (refine State.Ok.cutPair (n := n) z ?_ ?_ <;> [(intro _; clear_value z); subst z]) | clear_value z)
    | with_reducible apply State.Ok.ite
    | with_reducible apply State.modEngines_ok
    | split

theorem State.keepRing_ok (n : Mark) (a1 : State) (a2) (a3) (a4) (ha1 : a1.Ok n) : (State.keepRing a1 a2 a3 a4).Ok n := by
  unfold State.keepRing
  repeat' first
    | with_reducible assumption
    | intro _
    | (extract_lets +onlyGivenNames z; first | (refine State.Ok.cut (n := n) z ?_ ?_ <;> [(intro _; clear_value z); subst z]) | (refine State.Ok.cutPair (n := n) z ?_ ?_ <;> [(intro _; clear_value z); subst z]) | clear_value z)
    | with_reducible apply State.Ok.ite
    | with_reducible apply State.modEngines_ok
    | with_reducible apply State.serveRings_ok
    | with_reducible apply State.letGo_ok
    | with_reducible apply State.fetch_ok
    | split

theorem State.doorbell_ok (n : Mark) (a1 : State) (a2) (a3) (a4) (ha1 : a1.Ok n) : (State.doorbell a1 a2 a3 a4).Ok n := by
  unfold State.doorbell
  repeat' first
    | with_reducible assumption
    | intro _
    | (extract_lets +onlyGivenNames z; first | (refine State.Ok.cut (n := n) z ?_ ?_ <;> [(intro _; clear_value z); subst z]) | (refine State.Ok.cutPair (n := n) z ?_ ?_ <;> [(intro _; clear_value z); subst z]) | clear_value z)
    | with_reducible apply State.Ok.ite
    | with_reducible apply State.serveRings_ok
    | with_reducible apply State.modFn_ok
    | split

theorem execRingTail_ok (n : Mark) (a1) (a2) (a3) (a4) (a5 : State) (ha5 : a5.Ok n) : OkH n (execRingTail a1 a2 a3 a4 a5) := by
  unfold execRingTail
  refine act2_ok _ _ (fun s hs => ?_) ha5
  try dsimp only
  repeat' first
    | with_reducible assumption
    | intro _
    | (extract_lets +onlyGivenNames z; first | (refine State.Ok.cut (n := n) z ?_ ?_ <;> [(intro _; clear_value z); subst z]) | (refine State.Ok.cutPair (n := n) z ?_ ?_ <;> [(intro _; clear_value z); subst z]) | clear_value z)
    | with_reducible apply State.Ok.ite
    | with_reducible apply State.doorbell_ok
    | split

theorem execRingEnable_ok (n : Mark) (a1) (a2) (a3) (a4 : State) (ha4 : a4.Ok n) : OkH n (execRingEnable a1 a2 a3 a4) := by
  unfold execRingEnable
  refine act2_ok _ _ (fun s hs => ?_) ha4
  try dsimp only
  repeat' first
    | with_reducible assumption
    | intro _
    | (extract_lets +onlyGivenNames z; first | (refine State.Ok.cut (n := n) z ?_ ?_ <;> [(intro _; clear_value z); subst z]) | (refine State.Ok.cutPair (n := n) z ?_ ?_ <;> [(intro _; clear_value z); subst z]) | clear_value z)
    | with_reducible apply State.Ok.ite
    | with_reducible apply State.serveRings_ok
    | with_reducible apply State.modFn_ok
    | split

theorem State.ringClear_ok (n : Mark) (a1 : State) (a2) (a3) (ha1 : a1.Ok n) : (State.ringClear a1 a2 a3).Ok n := by
  unfold State.ringClear
  repeat' first
    | with_reducible assumption
    | intro _
    | (extract_lets +onlyGivenNames z; first | (refine State.Ok.cut (n := n) z ?_ ?_ <;> [(intro _; clear_value z); subst z]) | (refine State.Ok.cutPair (n := n) z ?_ ?_ <;> [(intro _; clear_value z); subst z]) | clear_value z)
    | with_reducible apply State.Ok.ite
    | with_reducible apply State.modFn_ok
    | with_reducible apply State.serveRings_ok
    | with_reducible apply State.letGo_ok
    | with_reducible apply State.deadWaiters_ok
    | split

theorem execRingReset_ok (n : Mark) (a1) (a2) (a3) (a4 : State) (ha4 : a4.Ok n) : OkH n (execRingReset a1 a2 a3 a4) := by
  unfold execRingReset
  refine act2_ok _ _ (fun s hs => ?_) ha4
  try dsimp only
  repeat' first
    | with_reducible assumption
    | intro _
    | (extract_lets +onlyGivenNames z; first | (refine State.Ok.cut (n := n) z ?_ ?_ <;> [(intro _; clear_value z); subst z]) | (refine State.Ok.cutPair (n := n) z ?_ ?_ <;> [(intro _; clear_value z); subst z]) | clear_value z)
    | with_reducible apply State.Ok.ite
    | with_reducible apply State.ringClear_ok
    | split

theorem descriptorFetchDoneEffect_ok (n : Mark) (a1 : State) (a2) (a3) (a4) (ha1 : a1.Ok n) : (descriptorFetchDoneEffect a1 a2 a3 a4).Ok n := by
  unfold descriptorFetchDoneEffect
  repeat' first
    | with_reducible assumption
    | intro _
    | (extract_lets +onlyGivenNames z; first | (refine State.Ok.cut (n := n) z ?_ ?_ <;> [(intro _; clear_value z); subst z]) | (refine State.Ok.cutPair (n := n) z ?_ ?_ <;> [(intro _; clear_value z); subst z]) | clear_value z)
    | with_reducible apply State.Ok.ite
    | with_reducible apply State.readsDone_ok
    | with_reducible apply State.modFn_ok
    | with_reducible apply State.each_ok
    | with_reducible apply State.issueRead_ok
    | split

theorem execDescriptorFetchDone_ok (n : Mark) (a1) (a2) (a3) (a4) (a5 : State) (ha5 : a5.Ok n) : OkH n (execDescriptorFetchDone a1 a2 a3 a4 a5) := by
  unfold execDescriptorFetchDone
  refine act1_ok _ _ (fun s hs => ?_) ha5
  try dsimp only
  repeat' first
    | with_reducible assumption
    | intro _
    | (extract_lets +onlyGivenNames z; first | (refine State.Ok.cut (n := n) z ?_ ?_ <;> [(intro _; clear_value z); subst z]) | (refine State.Ok.cutPair (n := n) z ?_ ?_ <;> [(intro _; clear_value z); subst z]) | clear_value z)
    | with_reducible apply State.Ok.ite
    | with_reducible apply descriptorFetchDoneEffect_ok
    | split

theorem State.lateTags_ok (n : Mark) (a1 : State) (a2) (a3) (a4) (ha1 : a1.Ok n) : (State.lateTags a1 a2 a3 a4).Ok n := by
  unfold State.lateTags
  repeat' first
    | with_reducible assumption
    | intro _
    | (extract_lets +onlyGivenNames z; first | (refine State.Ok.cut (n := n) z ?_ ?_ <;> [(intro _; clear_value z); subst z]) | (refine State.Ok.cutPair (n := n) z ?_ ?_ <;> [(intro _; clear_value z); subst z]) | clear_value z)
    | with_reducible apply State.Ok.ite
    | with_reducible apply State.modFn_ok
    | split

theorem State.finish_ok (n : Mark) (a1 : State) (a2) (a3) (a4) (a5) (a6) (ha1 : a1.Ok n) : (State.finish a1 a2 a3 a4 a5 a6).Ok n := by
  unfold State.finish
  repeat' first
    | with_reducible assumption
    | intro _
    | (extract_lets +onlyGivenNames z; first | (refine State.Ok.cut (n := n) z ?_ ?_ <;> [(intro _; clear_value z); subst z]) | (refine State.Ok.cutPair (n := n) z ?_ ?_ <;> [(intro _; clear_value z); subst z]) | clear_value z)
    | with_reducible apply State.Ok.ite
    | with_reducible apply State.lateTags_ok
    | with_reducible apply State.readsDone_ok
    | with_reducible apply State.issueRecords_ok
    | with_reducible apply State.ringComplete_ok
    | with_reducible apply State.keepRing_ok
    | split

theorem State.engineWrite_ok (n : Mark) (a1 : State) (a2) (a3) (a4) (a5) (ha1 : a1.Ok n) : (State.engineWrite a1 a2 a3 a4 a5).Ok n := by
  unfold State.engineWrite
  repeat' first
    | with_reducible assumption
    | intro _
    | (extract_lets +onlyGivenNames z; first | (refine State.Ok.cut (n := n) z ?_ ?_ <;> [(intro _; clear_value z); subst z]) | (refine State.Ok.cutPair (n := n) z ?_ ?_ <;> [(intro _; clear_value z); subst z]) | clear_value z)
    | with_reducible apply State.Ok.ite
    | with_reducible apply State.countHeart_ok
    | with_reducible apply State.issue_ok
    | split

theorem State.engineCheck_ok (n : Mark) (a1 : State) (a2) (ha1 : a1.Ok n) : (State.engineCheck a1 a2).1.Ok n := by
  unfold State.engineCheck
  repeat' first
    | with_reducible assumption
    | intro _
    | (extract_lets +onlyGivenNames z; first | (refine State.Ok.cut (n := n) z ?_ ?_ <;> [(intro _; clear_value z); subst z]) | (refine State.Ok.cutPair (n := n) z ?_ ?_ <;> [(intro _; clear_value z); subst z]) | clear_value z)
    | with_reducible apply State.Ok.ite
    | with_reducible apply State.Ok.iteFst
    | with_reducible apply State.injectItem_ok
    | with_reducible apply State.noteInj_ok
    | with_reducible apply State.serveRings_ok
    | with_reducible apply State.engineOffline_ok
    | split
    | (refine State.Ok.ofPair (by with_reducible assumption) ?_)

theorem State.operate_ok (n : Mark) (a1 : State) (a2) (a3) (a4) (a5) (ha1 : a1.Ok n) (ha5 : ∀ x0, x0.Ok n → (a5 x0).Ok n) : (State.operate a1 a2 a3 a4 a5).Ok n := by
  unfold State.operate
  repeat' first
    | with_reducible assumption
    | intro _
    | (extract_lets +onlyGivenNames z; first | (refine State.Ok.cut (n := n) z ?_ ?_ <;> [(intro _; clear_value z); subst z]) | (refine State.Ok.cutPair (n := n) z ?_ ?_ <;> [(intro _; clear_value z); subst z]) | clear_value z)
    | with_reducible apply State.Ok.ite
    | with_reducible apply State.Ok.iteFst
    | with_reducible apply ha5
    | with_reducible apply State.engineCheck_ok
    | with_reducible apply State.finish_ok
    | split
    | (refine State.Ok.ofPair (by with_reducible assumption) ?_)

theorem execNop_ok (n : Mark) (a1) (a2) (a3) (a4 : State) (ha4 : a4.Ok n) : OkH n (execNop a1 a2 a3 a4) := by
  unfold execNop
  refine act2_ok _ _ (fun s hs => ?_) ha4
  try dsimp only
  repeat' first
    | with_reducible assumption
    | intro _
    | (extract_lets +onlyGivenNames z; first | (refine State.Ok.cut (n := n) z ?_ ?_ <;> [(intro _; clear_value z); subst z]) | (refine State.Ok.cutPair (n := n) z ?_ ?_ <;> [(intro _; clear_value z); subst z]) | clear_value z)
    | with_reducible apply State.Ok.ite
    | with_reducible apply State.operate_ok
    | with_reducible apply State.finish_ok
    | split

theorem State.withData_ok (n : Mark) (a1 : State) (a2) (a3) (a4) (a5) (ha1 : a1.Ok n) (ha5 : ∀ x0 x1, x0.Ok n → (a5 x0 x1).Ok n) : (State.withData a1 a2 a3 a4 a5).Ok n := by
  unfold State.withData
  repeat' first
    | with_reducible assumption
    | intro _
    | (extract_lets +onlyGivenNames z; first | (refine State.Ok.cut (n := n) z ?_ ?_ <;> [(intro _; clear_value z); subst z]) | (refine State.Ok.cutPair (n := n) z ?_ ?_ <;> [(intro _; clear_value z); subst z]) | clear_value z)
    | with_reducible apply State.Ok.ite
    | with_reducible apply ha5
    | with_reducible apply State.finish_ok
    | split

theorem execCopy_ok (n : Mark) (a1) (a2) (a3) (a4) (a5 : State) (ha5 : a5.Ok n) : OkH n (execCopy a1 a2 a3 a4 a5) := by
  unfold execCopy
  refine act2_ok _ _ (fun s hs => ?_) ha5
  try dsimp only
  repeat' first
    | with_reducible assumption
    | intro _
    | (extract_lets +onlyGivenNames z; first | (refine State.Ok.cut (n := n) z ?_ ?_ <;> [(intro _; clear_value z); subst z]) | (refine State.Ok.cutPair (n := n) z ?_ ?_ <;> [(intro _; clear_value z); subst z]) | clear_value z)
    | with_reducible apply State.Ok.ite
    | with_reducible apply State.operate_ok
    | with_reducible apply State.withData_ok
    | with_reducible apply State.finish_ok
    | with_reducible apply State.engineWrite_ok
    | split

theorem execFill_ok (n : Mark) (a1) (a2) (a3) (a4 : State) (ha4 : a4.Ok n) : OkH n (execFill a1 a2 a3 a4) := by
  unfold execFill
  refine act2_ok _ _ (fun s hs => ?_) ha4
  try dsimp only
  repeat' first
    | with_reducible assumption
    | intro _
    | (extract_lets +onlyGivenNames z; first | (refine State.Ok.cut (n := n) z ?_ ?_ <;> [(intro _; clear_value z); subst z]) | (refine State.Ok.cutPair (n := n) z ?_ ?_ <;> [(intro _; clear_value z); subst z]) | clear_value z)
    | with_reducible apply State.Ok.ite
    | with_reducible apply State.operate_ok
    | with_reducible apply State.finish_ok
    | with_reducible apply State.engineWrite_ok
    | split

theorem State.gather_ok (n : Mark) (a1 : State) (a2) (a3) (a4) (a5) (ha1 : a1.Ok n) : (State.gather a1 a2 a3 a4 a5).1.Ok n := by
  induction a4 generalizing a1 a5 with
  | nil => exact ha1
  | cons e l ih =>
    unfold State.gather
    split
    · exact ih _ _ (State.engineWrite_ok _ _ _ _ _ _ ha1)
    · exact ha1

theorem execGather_ok (n : Mark) (a1) (a2) (a3) (a4) (a5) (a6 : State) (ha6 : a6.Ok n) : OkH n (execGather a1 a2 a3 a4 a5 a6) := by
  unfold execGather
  refine act2_ok _ _ (fun s hs => ?_) ha6
  try dsimp only
  repeat' first
    | with_reducible assumption
    | intro _
    | (extract_lets +onlyGivenNames z; first | (refine State.Ok.cut (n := n) z ?_ ?_ <;> [(intro _; clear_value z); subst z]) | (refine State.Ok.cutPair (n := n) z ?_ ?_ <;> [(intro _; clear_value z); subst z]) | clear_value z)
    | with_reducible apply State.Ok.ite
    | with_reducible apply State.Ok.iteFst
    | with_reducible apply State.operate_ok
    | with_reducible apply State.gather_ok
    | with_reducible apply State.finish_ok
    | split
    | (refine State.Ok.ofPair (by with_reducible assumption) ?_)

theorem execScatter_ok (n : Mark) (a1) (a2) (a3) (a4) (a5) (a6 : State) (ha6 : a6.Ok n) : OkH n (execScatter a1 a2 a3 a4 a5 a6) := by
  unfold execScatter
  refine act2_ok _ _ (fun s hs => ?_) ha6
  try dsimp only
  repeat' first
    | with_reducible assumption
    | intro _
    | (extract_lets +onlyGivenNames z; first | (refine State.Ok.cut (n := n) z ?_ ?_ <;> [(intro _; clear_value z); subst z]) | (refine State.Ok.cutPair (n := n) z ?_ ?_ <;> [(intro _; clear_value z); subst z]) | clear_value z)
    | with_reducible apply State.Ok.ite
    | with_reducible apply State.operate_ok
    | with_reducible apply State.withData_ok
    | with_reducible apply State.each_ok
    | with_reducible apply State.engineWrite_ok
    | with_reducible apply State.finish_ok
    | split

theorem execCrcGen_ok (n : Mark) (a1) (a2) (a3) (a4) (a5 : State) (ha5 : a5.Ok n) : OkH n (execCrcGen a1 a2 a3 a4 a5) := by
  unfold execCrcGen
  refine act2_ok _ _ (fun s hs => ?_) ha5
  try dsimp only
  repeat' first
    | with_reducible assumption
    | intro _
    | (extract_lets +onlyGivenNames z; first | (refine State.Ok.cut (n := n) z ?_ ?_ <;> [(intro _; clear_value z); subst z]) | (refine State.Ok.cutPair (n := n) z ?_ ?_ <;> [(intro _; clear_value z); subst z]) | clear_value z)
    | with_reducible apply State.Ok.ite
    | with_reducible apply State.operate_ok
    | with_reducible apply State.withData_ok
    | with_reducible apply State.finish_ok
    | split

theorem execCrcCheck_ok (n : Mark) (a1) (a2) (a3) (a4) (a5 : State) (ha5 : a5.Ok n) : OkH n (execCrcCheck a1 a2 a3 a4 a5) := by
  unfold execCrcCheck
  refine act2_ok _ _ (fun s hs => ?_) ha5
  try dsimp only
  repeat' first
    | with_reducible assumption
    | intro _
    | (extract_lets +onlyGivenNames z; first | (refine State.Ok.cut (n := n) z ?_ ?_ <;> [(intro _; clear_value z); subst z]) | (refine State.Ok.cutPair (n := n) z ?_ ?_ <;> [(intro _; clear_value z); subst z]) | clear_value z)
    | with_reducible apply State.Ok.ite
    | with_reducible apply State.operate_ok
    | with_reducible apply State.withData_ok
    | with_reducible apply State.finish_ok
    | split

theorem execAfcGen_ok (n : Mark) (a1) (a2) (a3) (a4) (a5 : State) (ha5 : a5.Ok n) : OkH n (execAfcGen a1 a2 a3 a4 a5) := by
  unfold execAfcGen
  refine act2_ok _ _ (fun s hs => ?_) ha5
  try dsimp only
  repeat' first
    | with_reducible assumption
    | intro _
    | (extract_lets +onlyGivenNames z; first | (refine State.Ok.cut (n := n) z ?_ ?_ <;> [(intro _; clear_value z); subst z]) | (refine State.Ok.cutPair (n := n) z ?_ ?_ <;> [(intro _; clear_value z); subst z]) | clear_value z)
    | with_reducible apply State.Ok.ite
    | with_reducible apply State.operate_ok
    | with_reducible apply State.withData_ok
    | with_reducible apply State.finish_ok
    | with_reducible apply State.engineWrite_ok
    | split

theorem execAfcCheck_ok (n : Mark) (a1) (a2) (a3) (a4) (a5) (a6 : State) (ha6 : a6.Ok n) : OkH n (execAfcCheck a1 a2 a3 a4 a5 a6) := by
  unfold execAfcCheck
  refine act2_ok _ _ (fun s hs => ?_) ha6
  try dsimp only
  repeat' first
    | with_reducible assumption
    | intro _
    | (extract_lets +onlyGivenNames z; first | (refine State.Ok.cut (n := n) z ?_ ?_ <;> [(intro _; clear_value z); subst z]) | (refine State.Ok.cutPair (n := n) z ?_ ?_ <;> [(intro _; clear_value z); subst z]) | clear_value z)
    | with_reducible apply State.Ok.ite
    | with_reducible apply State.operate_ok
    | with_reducible apply State.withData_ok
    | with_reducible apply State.finish_ok
    | split

theorem execReducePair_ok (n : Mark) (a1) (a2) (a3) (a4) (a5) (a6 : State) (ha6 : a6.Ok n) : OkH n (execReducePair a1 a2 a3 a4 a5 a6) := by
  unfold execReducePair
  refine act2_ok _ _ (fun s hs => ?_) ha6
  try dsimp only
  repeat' first
    | with_reducible assumption
    | intro _
    | (extract_lets +onlyGivenNames z; first | (refine State.Ok.cut (n := n) z ?_ ?_ <;> [(intro _; clear_value z); subst z]) | (refine State.Ok.cutPair (n := n) z ?_ ?_ <;> [(intro _; clear_value z); subst z]) | clear_value z)
    | with_reducible apply State.Ok.ite
    | with_reducible apply State.operate_ok
    | with_reducible apply State.withData_ok
    | with_reducible apply State.finish_ok
    | with_reducible apply State.engineWrite_ok
    | split

theorem execDescriptorComplete_ok (n : Mark) (a1) (a2) (a3) (a4) (a5) (a6) (a7 : State) (ha7 : a7.Ok n) : OkH n (execDescriptorComplete a1 a2 a3 a4 a5 a6 a7) := by
  unfold execDescriptorComplete
  refine act2_ok _ _ (fun s hs => ?_) ha7
  try dsimp only
  repeat' first
    | with_reducible assumption
    | intro _
    | (extract_lets +onlyGivenNames z; first | (refine State.Ok.cut (n := n) z ?_ ?_ <;> [(intro _; clear_value z); subst z]) | (refine State.Ok.cutPair (n := n) z ?_ ?_ <;> [(intro _; clear_value z); subst z]) | clear_value z)
    | with_reducible apply State.Ok.ite
    | with_reducible apply State.ringComplete_ok
    | with_reducible apply State.readsDone_ok
    | with_reducible apply State.keepRing_ok
    | with_reducible apply State.issueRecords_ok
    | split

theorem State.stageChunk_ok (n : Mark) (a1 : State) (a2) (a3) (ha1 : a1.Ok n) : (State.stageChunk a1 a2 a3).Ok n := by
  unfold State.stageChunk
  repeat' first
    | with_reducible assumption
    | intro _
    | (extract_lets +onlyGivenNames z; first | (refine State.Ok.cut (n := n) z ?_ ?_ <;> [(intro _; clear_value z); subst z]) | (refine State.Ok.cutPair (n := n) z ?_ ?_ <;> [(intro _; clear_value z); subst z]) | clear_value z)
    | with_reducible apply State.Ok.ite
    | with_reducible apply State.Ok.iteFst
    | with_reducible apply State.poolPut_ok
    | split
    | (refine State.Ok.ofPair (by with_reducible assumption) ?_)

theorem State.result_ok (n : Mark) (a1 : State) (a2) (a3) (a4) (a5) (ha1 : a1.Ok n) : (State.result a1 a2 a3 a4 a5).Ok n := by
  unfold State.result
  repeat' first
    | with_reducible assumption
    | intro _
    | (extract_lets +onlyGivenNames z; first | (refine State.Ok.cut (n := n) z ?_ ?_ <;> [(intro _; clear_value z); subst z]) | (refine State.Ok.cutPair (n := n) z ?_ ?_ <;> [(intro _; clear_value z); subst z]) | clear_value z)
    | with_reducible apply State.Ok.ite
    | with_reducible apply State.each_ok
    | with_reducible apply State.countHeart_ok
    | with_reducible apply State.issue_ok
    | with_reducible apply State.setRound_ok
    | with_reducible apply State.keepRing_ok
    | with_reducible apply State.issueRecords_ok
    | with_reducible apply State.contribDone_ok
    | split

theorem State.sendFold_ok (n : Mark) (a1 : State) (a2) (a3) (a4) (a5) (a6) (ha1 : a1.Ok n) : (State.sendFold a1 a2 a3 a4 a5 a6).Ok n := by
  unfold State.sendFold
  repeat' first
    | with_reducible assumption
    | intro _
    | (extract_lets +onlyGivenNames z; first | (refine State.Ok.cut (n := n) z ?_ ?_ <;> [(intro _; clear_value z); subst z]) | (refine State.Ok.cutPair (n := n) z ?_ ?_ <;> [(intro _; clear_value z); subst z]) | clear_value z)
    | with_reducible apply State.Ok.ite
    | with_reducible apply State.engineGroup_ok
    | with_reducible apply State.result_ok
    | with_reducible apply State.engineTo_ok
    | split

theorem State.foldChunk_ok (n : Mark) (a1 : State) (a2) (a3) (ha1 : a1.Ok n) : (State.foldChunk a1 a2 a3).Ok n := by
  unfold State.foldChunk
  repeat' first
    | with_reducible assumption
    | intro _
    | (extract_lets +onlyGivenNames z; first | (refine State.Ok.cut (n := n) z ?_ ?_ <;> [(intro _; clear_value z); subst z]) | (refine State.Ok.cutPair (n := n) z ?_ ?_ <;> [(intro _; clear_value z); subst z]) | clear_value z)
    | with_reducible apply State.Ok.ite
    | with_reducible apply State.countHeart_ok
    | with_reducible apply State.setRound_ok
    | with_reducible apply State.sendFold_ok
    | with_reducible apply foldl_ok
    | with_reducible apply foldlState_ok
    | split

theorem State.foldAll_ok (n : Mark) (a1 : State) (a2) (ha1 : a1.Ok n) : (State.foldAll a1 a2).Ok n := by
  unfold State.foldAll
  repeat' first
    | with_reducible assumption
    | intro _
    | (extract_lets +onlyGivenNames z; first | (refine State.Ok.cut (n := n) z ?_ ?_ <;> [(intro _; clear_value z); subst z]) | (refine State.Ok.cutPair (n := n) z ?_ ?_ <;> [(intro _; clear_value z); subst z]) | clear_value z)
    | with_reducible apply State.Ok.ite
    | with_reducible apply State.each_ok
    | with_reducible apply State.foldChunk_ok
    | with_reducible apply State.nextRound_ok
    | with_reducible apply State.countHeart_ok
    | split

theorem State.contribRead_ok (n : Mark) (a1 : State) (a2) (ha1 : a1.Ok n) : (State.contribRead a1 a2).Ok n := by
  unfold State.contribRead
  repeat' first
    | with_reducible assumption
    | intro _
    | (extract_lets +onlyGivenNames z; first | (refine State.Ok.cut (n := n) z ?_ ?_ <;> [(intro _; clear_value z); subst z]) | (refine State.Ok.cutPair (n := n) z ?_ ?_ <;> [(intro _; clear_value z); subst z]) | clear_value z)
    | with_reducible apply State.Ok.ite
    | with_reducible apply State.ringRelease_ok
    | with_reducible apply State.serveRings_ok
    | with_reducible apply State.letGo_ok
    | split

theorem State.stageIn_ok (n : Mark) (a1 : State) (a2) (a3) (ha1 : a1.Ok n) : (State.stageIn a1 a2 a3).Ok n := by
  unfold State.stageIn
  repeat' first
    | with_reducible assumption
    | intro _
    | (extract_lets +onlyGivenNames z; first | (refine State.Ok.cut (n := n) z ?_ ?_ <;> [(intro _; clear_value z); subst z]) | (refine State.Ok.cutPair (n := n) z ?_ ?_ <;> [(intro _; clear_value z); subst z]) | clear_value z)
    | with_reducible apply State.Ok.ite
    | with_reducible apply State.stageChunk_ok
    | with_reducible apply State.setRound_ok
    | with_reducible apply State.each_ok
    | with_reducible apply State.contribRead_ok
    | split

theorem State.pump_ok (n : Mark) (a1) (a2) (a3 : State) (ha3 : a3.Ok n) : (State.pump a1 a2 a3).Ok n := by
  induction a2 generalizing a3 with
  | zero => exact ha3
  | succ k ih =>
    unfold State.pump
    extract_lets z r
    have hz : z.Ok n := State.foldAll_ok _ _ _ ha3
    split
    · exact ih _ (State.stageIn_ok _ _ _ _ (State.setRound_ok _ _ _ hz))
    · exact hz

theorem State.pumpAll_ok (n : Mark) (a1 : State) (a2) (ha1 : a1.Ok n) : (State.pumpAll a1 a2).Ok n := by
  unfold State.pumpAll
  repeat' first
    | with_reducible assumption
    | intro _
    | (extract_lets +onlyGivenNames z; first | (refine State.Ok.cut (n := n) z ?_ ?_ <;> [(intro _; clear_value z); subst z]) | (refine State.Ok.cutPair (n := n) z ?_ ?_ <;> [(intro _; clear_value z); subst z]) | clear_value z)
    | with_reducible apply State.Ok.ite
    | with_reducible apply State.pump_ok
    | split

theorem State.takeInputs_ok (n : Mark) (a1 : State) (a2) (a3) (ha1 : a1.Ok n) : (State.takeInputs a1 a2 a3).Ok n := by
  unfold State.takeInputs
  repeat' first
    | with_reducible assumption
    | intro _
    | (extract_lets +onlyGivenNames z; first | (refine State.Ok.cut (n := n) z ?_ ?_ <;> [(intro _; clear_value z); subst z]) | (refine State.Ok.cutPair (n := n) z ?_ ?_ <;> [(intro _; clear_value z); subst z]) | clear_value z)
    | with_reducible apply State.Ok.ite
    | with_reducible apply State.pumpAll_ok
    | with_reducible apply State.setRound_ok
    | split

theorem reduceContribEffect_ok (n : Mark) (a1 : State) (a2) (a3) (a4) (ha1 : a1.Ok n) : (reduceContribEffect a1 a2 a3 a4).Ok n := by
  unfold reduceContribEffect
  repeat' first
    | with_reducible assumption
    | intro _
    | (extract_lets +onlyGivenNames z; first | (refine State.Ok.cut (n := n) z ?_ ?_ <;> [(intro _; clear_value z); subst z]) | (refine State.Ok.cutPair (n := n) z ?_ ?_ <;> [(intro _; clear_value z); subst z]) | clear_value z)
    | with_reducible apply State.Ok.ite
    | with_reducible apply State.operate_ok
    | with_reducible apply State.finish_ok
    | with_reducible apply State.withData_ok
    | with_reducible apply State.readsDone_ok
    | with_reducible apply State.setRound_ok
    | with_reducible apply State.takeInputs_ok
    | split
    | (with_reducible refine State.Ok.lit _ _ _ _ _ _ _ _ _ _ _ _ _ _ _ _ _ rfl rfl rfl rfl rfl rfl ?_)

theorem execReduceContrib_ok (n : Mark) (a1) (a2) (a3) (a4) (a5 : State) (ha5 : a5.Ok n) : OkH n (execReduceContrib a1 a2 a3 a4 a5) := by
  unfold execReduceContrib
  refine act2_ok _ _ (fun s hs => ?_) ha5
  try dsimp only
  repeat' first
    | with_reducible assumption
    | intro _
    | (extract_lets +onlyGivenNames z; first | (refine State.Ok.cut (n := n) z ?_ ?_ <;> [(intro _; clear_value z); subst z]) | (refine State.Ok.cutPair (n := n) z ?_ ?_ <;> [(intro _; clear_value z); subst z]) | clear_value z)
    | with_reducible apply State.Ok.ite
    | with_reducible apply reduceContribEffect_ok
    | split

theorem reducePartialEffect_ok (n : Mark) (a1 : State) (a2) (a3) (a4) (a5) (a6) (a7) (ha1 : a1.Ok n) : (reducePartialEffect a1 a2 a3 a4 a5 a6 a7).Ok n := by
  unfold reducePartialEffect
  repeat' first
    | with_reducible assumption
    | intro _
    | (extract_lets +onlyGivenNames z; first | (refine State.Ok.cut (n := n) z ?_ ?_ <;> [(intro _; clear_value z); subst z]) | (refine State.Ok.cutPair (n := n) z ?_ ?_ <;> [(intro _; clear_value z); subst z]) | clear_value z)
    | with_reducible apply State.Ok.ite
    | with_reducible apply State.countHeart_ok
    | with_reducible apply State.emit_ok
    | with_reducible apply State.takeInputs_ok
    | with_reducible apply State.setRound_ok
    | split

theorem execReducePartial_ok (n : Mark) (a1) (a2) (a3) (a4) (a5) (a6) (a7) (a8 : State) (ha8 : a8.Ok n) : OkH n (execReducePartial a1 a2 a3 a4 a5 a6 a7 a8) := by
  unfold execReducePartial
  refine act2_ok _ _ (fun s hs => ?_) ha8
  try dsimp only
  repeat' first
    | with_reducible assumption
    | intro _
    | (extract_lets +onlyGivenNames z; first | (refine State.Ok.cut (n := n) z ?_ ?_ <;> [(intro _; clear_value z); subst z]) | (refine State.Ok.cutPair (n := n) z ?_ ?_ <;> [(intro _; clear_value z); subst z]) | clear_value z)
    | with_reducible apply State.Ok.ite
    | with_reducible apply reducePartialEffect_ok
    | split

theorem execResultChunk_ok (n : Mark) (a1) (a2) (a3) (a4) (a5) (a6 : State) (ha6 : a6.Ok n) : OkH n (execResultChunk a1 a2 a3 a4 a5 a6) := by
  unfold execResultChunk
  refine act2_ok _ _ (fun s hs => ?_) ha6
  try dsimp only
  repeat' first
    | with_reducible assumption
    | intro _
    | (extract_lets +onlyGivenNames z; first | (refine State.Ok.cut (n := n) z ?_ ?_ <;> [(intro _; clear_value z); subst z]) | (refine State.Ok.cutPair (n := n) z ?_ ?_ <;> [(intro _; clear_value z); subst z]) | clear_value z)
    | with_reducible apply State.Ok.ite
    | with_reducible apply State.result_ok
    | split

theorem State.reduceSettle_ok (n : Mark) (a1 : State) (a2) (ha1 : a1.Ok n) : (State.reduceSettle a1 a2).Ok n := by
  unfold State.reduceSettle
  repeat' first
    | with_reducible assumption
    | intro _
    | (extract_lets +onlyGivenNames z; first | (refine State.Ok.cut (n := n) z ?_ ?_ <;> [(intro _; clear_value z); subst z]) | (refine State.Ok.cutPair (n := n) z ?_ ?_ <;> [(intro _; clear_value z); subst z]) | clear_value z)
    | with_reducible apply State.Ok.ite
    | with_reducible apply State.each_ok
    | with_reducible apply State.keepRing_ok
    | with_reducible apply State.pumpAll_ok
    | split

theorem reduceTimeoutEffect_ok (n : Mark) (a1 : State) (a2) (ha1 : a1.Ok n) : (reduceTimeoutEffect a1 a2).Ok n := by
  unfold reduceTimeoutEffect
  repeat' first
    | with_reducible assumption
    | intro _
    | (extract_lets +onlyGivenNames z; first | (refine State.Ok.cut (n := n) z ?_ ?_ <;> [(intro _; clear_value z); subst z]) | (refine State.Ok.cutPair (n := n) z ?_ ?_ <;> [(intro _; clear_value z); subst z]) | clear_value z)
    | with_reducible apply State.Ok.ite
    | with_reducible apply State.reduceSettle_ok
    | with_reducible apply State.reduceAbort_ok
    | split

theorem execReduceTimeout_ok (n : Mark) (a1) (a2) (a3 : State) (ha3 : a3.Ok n) : OkH n (execReduceTimeout a1 a2 a3) := by
  unfold execReduceTimeout
  refine act2_ok _ _ (fun s hs => ?_) ha3
  try dsimp only
  repeat' first
    | with_reducible assumption
    | intro _
    | (extract_lets +onlyGivenNames z; first | (refine State.Ok.cut (n := n) z ?_ ?_ <;> [(intro _; clear_value z); subst z]) | (refine State.Ok.cutPair (n := n) z ?_ ?_ <;> [(intro _; clear_value z); subst z]) | clear_value z)
    | with_reducible apply State.Ok.ite
    | with_reducible apply reduceTimeoutEffect_ok
    | split

theorem reduceAbortMessageEffect_ok (n : Mark) (a1 : State) (a2) (a3) (ha1 : a1.Ok n) : (reduceAbortMessageEffect a1 a2 a3).Ok n := by
  unfold reduceAbortMessageEffect
  repeat' first
    | with_reducible assumption
    | intro _
    | (extract_lets +onlyGivenNames z; first | (refine State.Ok.cut (n := n) z ?_ ?_ <;> [(intro _; clear_value z); subst z]) | (refine State.Ok.cutPair (n := n) z ?_ ?_ <;> [(intro _; clear_value z); subst z]) | clear_value z)
    | with_reducible apply State.Ok.ite
    | with_reducible apply State.reduceSettle_ok
    | with_reducible apply State.reduceAbortHere_ok
    | with_reducible apply State.reduceAbortSend_ok
    | with_reducible apply State.abortWaiters_ok
    | split

theorem execReduceAbortMessage_ok (n : Mark) (a1) (a2) (a3) (a4 : State) (ha4 : a4.Ok n) : OkH n (execReduceAbortMessage a1 a2 a3 a4) := by
  unfold execReduceAbortMessage
  refine act2_ok _ _ (fun s hs => ?_) ha4
  try dsimp only
  repeat' first
    | with_reducible assumption
    | intro _
    | (extract_lets +onlyGivenNames z; first | (refine State.Ok.cut (n := n) z ?_ ?_ <;> [(intro _; clear_value z); subst z]) | (refine State.Ok.cutPair (n := n) z ?_ ?_ <;> [(intro _; clear_value z); subst z]) | clear_value z)
    | with_reducible apply State.Ok.ite
    | with_reducible apply reduceAbortMessageEffect_ok
    | split

theorem engFaultEffect_ok (n : Mark) (a1 : State) (a2) (ha1 : a1.Ok n) : (engFaultEffect a1 a2).Ok n := by
  unfold engFaultEffect
  repeat' first
    | with_reducible assumption
    | intro _
    | (extract_lets +onlyGivenNames z; first | (refine State.Ok.cut (n := n) z ?_ ?_ <;> [(intro _; clear_value z); subst z]) | (refine State.Ok.cutPair (n := n) z ?_ ?_ <;> [(intro _; clear_value z); subst z]) | clear_value z)
    | with_reducible apply State.Ok.ite
    | with_reducible apply State.serveRings_ok
    | with_reducible apply State.each_ok
    | with_reducible apply State.noteFree_ok
    | with_reducible apply State.engineOffline_ok
    | with_reducible apply State.reduceSettle_ok
    | split

theorem execEngFault_ok (n : Mark) (a1) (a2) (a3 : State) (ha3 : a3.Ok n) : OkH n (execEngFault a1 a2 a3) := by
  unfold execEngFault
  refine act2_ok _ _ (fun s hs => ?_) ha3
  try dsimp only
  repeat' first
    | with_reducible assumption
    | intro _
    | (extract_lets +onlyGivenNames z; first | (refine State.Ok.cut (n := n) z ?_ ?_ <;> [(intro _; clear_value z); subst z]) | (refine State.Ok.cutPair (n := n) z ?_ ?_ <;> [(intro _; clear_value z); subst z]) | clear_value z)
    | with_reducible apply State.Ok.ite
    | with_reducible apply engFaultEffect_ok
    | split

theorem State.modSendQ_ok (n : Mark) (a1 : State) (a2) (a3) (a4) (a5) (ha1 : a1.Ok n) : (State.modSendQ a1 a2 a3 a4 a5).Ok n := by
  unfold State.modSendQ
  repeat' first
    | with_reducible assumption
    | intro _
    | (extract_lets +onlyGivenNames z; first | (refine State.Ok.cut (n := n) z ?_ ?_ <;> [(intro _; clear_value z); subst z]) | (refine State.Ok.cutPair (n := n) z ?_ ?_ <;> [(intro _; clear_value z); subst z]) | clear_value z)
    | with_reducible apply State.Ok.ite
    | with_reducible apply State.modFn_ok
    | split

theorem State.modRecvQ_ok (n : Mark) (a1 : State) (a2) (a3) (a4) (a5) (ha1 : a1.Ok n) : (State.modRecvQ a1 a2 a3 a4 a5).Ok n := by
  unfold State.modRecvQ
  repeat' first
    | with_reducible assumption
    | intro _
    | (extract_lets +onlyGivenNames z; first | (refine State.Ok.cut (n := n) z ?_ ?_ <;> [(intro _; clear_value z); subst z]) | (refine State.Ok.cutPair (n := n) z ?_ ?_ <;> [(intro _; clear_value z); subst z]) | clear_value z)
    | with_reducible apply State.Ok.ite
    | with_reducible apply State.modFn_ok
    | split

theorem datagramReceiveEffect_ok (n : Mark) (a1 : State) (a2) (a3) (ha1 : a1.Ok n) : (datagramReceiveEffect a1 a2 a3).Ok n := by
  unfold datagramReceiveEffect
  repeat' first
    | with_reducible assumption
    | intro _
    | (extract_lets +onlyGivenNames z; first | (refine State.Ok.cut (n := n) z ?_ ?_ <;> [(intro _; clear_value z); subst z]) | (refine State.Ok.cutPair (n := n) z ?_ ?_ <;> [(intro _; clear_value z); subst z]) | clear_value z)
    | with_reducible apply State.Ok.ite
    | with_reducible apply State.countHeart_ok
    | with_reducible apply State.modFn_ok
    | with_reducible apply State.modRecvQ_ok
    | with_reducible apply State.issue_ok
    | with_reducible apply State.when_ok
    | with_reducible apply State.vector_ok
    | split

theorem execDatagramReceive_ok (n : Mark) (a1) (a2) (a3) (a4 : State) (ha4 : a4.Ok n) : OkH n (execDatagramReceive a1 a2 a3 a4) := by
  unfold execDatagramReceive
  refine act2_ok _ _ (fun s hs => ?_) ha4
  try dsimp only
  repeat' first
    | with_reducible assumption
    | intro _
    | (extract_lets +onlyGivenNames z; first | (refine State.Ok.cut (n := n) z ?_ ?_ <;> [(intro _; clear_value z); subst z]) | (refine State.Ok.cutPair (n := n) z ?_ ?_ <;> [(intro _; clear_value z); subst z]) | clear_value z)
    | with_reducible apply State.Ok.ite
    | with_reducible apply datagramReceiveEffect_ok
    | split

theorem State.sendDatagram_ok (n : Mark) (a1 : State) (a2) (a3) (a4) (ha1 : a1.Ok n) : (State.sendDatagram a1 a2 a3 a4).Ok n := by
  unfold State.sendDatagram
  repeat' first
    | with_reducible assumption
    | intro _
    | (extract_lets +onlyGivenNames z; first | (refine State.Ok.cut (n := n) z ?_ ?_ <;> [(intro _; clear_value z); subst z]) | (refine State.Ok.cutPair (n := n) z ?_ ?_ <;> [(intro _; clear_value z); subst z]) | clear_value z)
    | with_reducible apply State.Ok.ite
    | with_reducible apply State.countHeart_ok
    | with_reducible apply datagramReceiveEffect_ok
    | with_reducible apply State.undeliverable_ok
    | with_reducible apply State.stick_ok
    | with_reducible apply State.placeC6_ok
    | split

theorem State.sendOne_ok (n : Mark) (a1 : State) (a2) (a3) (a4) (a5) (ha1 : a1.Ok n) : (State.sendOne a1 a2 a3 a4 a5).Ok n := by
  unfold State.sendOne
  repeat' first
    | with_reducible assumption
    | intro _
    | (extract_lets +onlyGivenNames z; first | (refine State.Ok.cut (n := n) z ?_ ?_ <;> [(intro _; clear_value z); subst z]) | (refine State.Ok.cutPair (n := n) z ?_ ?_ <;> [(intro _; clear_value z); subst z]) | clear_value z)
    | with_reducible apply State.Ok.ite
    | with_reducible apply State.sendDatagram_ok
    | with_reducible apply State.modSendQ_ok
    | with_reducible apply State.issue_ok
    | with_reducible apply State.vector_ok
    | split

theorem sendDoorbellEffect_ok (n : Mark) (a1 : State) (a2) (a3) (a4) (a5) (a6) (ha1 : a1.Ok n) : (sendDoorbellEffect a1 a2 a3 a4 a5 a6).Ok n := by
  unfold sendDoorbellEffect
  repeat' first
    | with_reducible assumption
    | intro _
    | (extract_lets +onlyGivenNames z; first | (refine State.Ok.cut (n := n) z ?_ ?_ <;> [(intro _; clear_value z); subst z]) | (refine State.Ok.cutPair (n := n) z ?_ ?_ <;> [(intro _; clear_value z); subst z]) | clear_value z)
    | with_reducible apply State.Ok.ite
    | with_reducible apply State.modSendQ_ok
    | with_reducible apply State.each_ok
    | with_reducible apply State.sendOne_ok
    | split

theorem execSendDoorbell_ok (n : Mark) (a1) (a2) (a3) (a4) (a5) (a6) (a7 : State) (ha7 : a7.Ok n) : OkH n (execSendDoorbell a1 a2 a3 a4 a5 a6 a7) := by
  unfold execSendDoorbell
  refine act2_ok _ _ (fun s hs => ?_) ha7
  try dsimp only
  repeat' first
    | with_reducible assumption
    | intro _
    | (extract_lets +onlyGivenNames z; first | (refine State.Ok.cut (n := n) z ?_ ?_ <;> [(intro _; clear_value z); subst z]) | (refine State.Ok.cutPair (n := n) z ?_ ?_ <;> [(intro _; clear_value z); subst z]) | clear_value z)
    | with_reducible apply State.Ok.ite
    | with_reducible apply sendDoorbellEffect_ok
    | split

theorem receiveDoorbellEffect_ok (n : Mark) (a1 : State) (a2) (a3) (a4) (a5) (a6) (ha1 : a1.Ok n) : (receiveDoorbellEffect a1 a2 a3 a4 a5 a6).Ok n := by
  unfold receiveDoorbellEffect
  repeat' first
    | with_reducible assumption
    | intro _
    | (extract_lets +onlyGivenNames z; first | (refine State.Ok.cut (n := n) z ?_ ?_ <;> [(intro _; clear_value z); subst z]) | (refine State.Ok.cutPair (n := n) z ?_ ?_ <;> [(intro _; clear_value z); subst z]) | clear_value z)
    | with_reducible apply State.Ok.ite
    | with_reducible apply State.modRecvQ_ok
    | with_reducible apply State.modFn_ok
    | split

theorem execReceiveDoorbell_ok (n : Mark) (a1) (a2) (a3) (a4) (a5) (a6) (a7 : State) (ha7 : a7.Ok n) : OkH n (execReceiveDoorbell a1 a2 a3 a4 a5 a6 a7) := by
  unfold execReceiveDoorbell
  refine act1_ok _ _ (fun s hs => ?_) ha7
  try dsimp only
  repeat' first
    | with_reducible assumption
    | intro _
    | (extract_lets +onlyGivenNames z; first | (refine State.Ok.cut (n := n) z ?_ ?_ <;> [(intro _; clear_value z); subst z]) | (refine State.Ok.cutPair (n := n) z ?_ ?_ <;> [(intro _; clear_value z); subst z]) | clear_value z)
    | with_reducible apply State.Ok.ite
    | with_reducible apply receiveDoorbellEffect_ok
    | split

theorem execBusMasterEnableClear_ok (n : Mark) (a1) (a2) (a3) (a4 : State) (ha4 : a4.Ok n) : OkH n (execBusMasterEnableClear a1 a2 a3 a4) := by
  unfold execBusMasterEnableClear
  refine act2_ok _ _ (fun s hs => ?_) ha4
  try dsimp only
  repeat' first
    | with_reducible assumption
    | intro _
    | (extract_lets +onlyGivenNames z; first | (refine State.Ok.cut (n := n) z ?_ ?_ <;> [(intro _; clear_value z); subst z]) | (refine State.Ok.cutPair (n := n) z ?_ ?_ <;> [(intro _; clear_value z); subst z]) | clear_value z)
    | with_reducible apply State.Ok.ite
    | with_reducible apply State.serveRings_ok
    | with_reducible apply State.letGo_ok
    | with_reducible apply State.masterOff_ok
    | split

theorem execFunctionLevelReset_ok (n : Mark) (a1) (a2) (a3) (a4 : State) (ha4 : a4.Ok n) : OkH n (execFunctionLevelReset a1 a2 a3 a4) := by
  unfold execFunctionLevelReset
  refine act2_ok _ _ (fun s hs => ?_) ha4
  try dsimp only
  repeat' first
    | with_reducible assumption
    | intro _
    | (extract_lets +onlyGivenNames z; first | (refine State.Ok.cut (n := n) z ?_ ?_ <;> [(intro _; clear_value z); subst z]) | (refine State.Ok.cutPair (n := n) z ?_ ?_ <;> [(intro _; clear_value z); subst z]) | clear_value z)
    | with_reducible apply State.Ok.ite
    | with_reducible apply State.serveRings_ok
    | with_reducible apply State.letGo_ok
    | with_reducible apply State.fnReset_ok
    | split

theorem execFlrComplete_ok (n : Mark) (a1) (a2) (a3) (a4 : State) (ha4 : a4.Ok n) : OkH n (execFlrComplete a1 a2 a3 a4) := by
  unfold execFlrComplete
  refine act1_ok _ _ (fun s hs => ?_) ha4
  try dsimp only
  repeat' first
    | with_reducible assumption
    | intro _
    | (extract_lets +onlyGivenNames z; first | (refine State.Ok.cut (n := n) z ?_ ?_ <;> [(intro _; clear_value z); subst z]) | (refine State.Ok.cutPair (n := n) z ?_ ?_ <;> [(intro _; clear_value z); subst z]) | clear_value z)
    | with_reducible apply State.Ok.ite
    | with_reducible apply State.modFn_ok
    | split

theorem functionCompletionTimeoutEffect_ok (n : Mark) (a1 : State) (a2) (a3) (a4) (ha1 : a1.Ok n) : (functionCompletionTimeoutEffect a1 a2 a3 a4).Ok n := by
  unfold functionCompletionTimeoutEffect
  repeat' first
    | with_reducible assumption
    | intro _
    | (extract_lets +onlyGivenNames z; first | (refine State.Ok.cut (n := n) z ?_ ?_ <;> [(intro _; clear_value z); subst z]) | (refine State.Ok.cutPair (n := n) z ?_ ?_ <;> [(intro _; clear_value z); subst z]) | clear_value z)
    | with_reducible apply State.Ok.ite
    | with_reducible apply State.lateTags_ok
    | with_reducible apply State.modFn_ok
    | with_reducible apply State.ringComplete_ok
    | with_reducible apply State.keepRing_ok
    | with_reducible apply State.issueRecords_ok
    | split

theorem execFunctionCompletionTimeout_ok (n : Mark) (a1) (a2) (a3) (a4) (a5 : State) (ha5 : a5.Ok n) : OkH n (execFunctionCompletionTimeout a1 a2 a3 a4 a5) := by
  unfold execFunctionCompletionTimeout
  refine act2_ok _ _ (fun s hs => ?_) ha5
  try dsimp only
  repeat' first
    | with_reducible assumption
    | intro _
    | (extract_lets +onlyGivenNames z; first | (refine State.Ok.cut (n := n) z ?_ ?_ <;> [(intro _; clear_value z); subst z]) | (refine State.Ok.cutPair (n := n) z ?_ ?_ <;> [(intro _; clear_value z); subst z]) | clear_value z)
    | with_reducible apply State.Ok.ite
    | with_reducible apply functionCompletionTimeoutEffect_ok
    | split

end Sys2Proof.Machine
end

