-- ==== Sys2Proof/Laws/KeepFaults.lean ====
section
/-! SUPPORT. Every operation of Faults.lean keeps the invariant, and the local count does not run back. -/

set_option linter.all false

namespace Sys2Proof.Machine

theorem State.grave_ok (n : Mark) (a1 : State) (a2) (a3) (a4) (ha1 : a1.Ok n) : (State.grave a1 a2 a3 a4).Ok n := by
  unfold State.grave
  repeat' first
    | with_reducible assumption
    | intro _
    | (extract_lets +onlyGivenNames z; first | (refine State.Ok.cut (n := n) z ?_ ?_ <;> [(intro _; clear_value z); subst z]) | (refine State.Ok.cutPair (n := n) z ?_ ?_ <;> [(intro _; clear_value z); subst z]) | clear_value z)
    | with_reducible apply State.Ok.ite
    | (with_reducible refine State.modFaults_ok _ rfl ?_)
    | with_reducible apply State.note_ok
    | split

theorem State.tampered_ok (n : Mark) (a1 : State) (ha1 : a1.Ok n) : (State.tampered a1).Ok n := by
  unfold State.tampered
  repeat' first
    | with_reducible assumption
    | intro _
    | (extract_lets +onlyGivenNames z; first | (refine State.Ok.cut (n := n) z ?_ ?_ <;> [(intro _; clear_value z); subst z]) | (refine State.Ok.cutPair (n := n) z ?_ ?_ <;> [(intro _; clear_value z); subst z]) | clear_value z)
    | with_reducible apply State.Ok.ite
    | (with_reducible refine State.modSec_ok _ rfl ?_)
    | with_reducible apply State.grave_ok
    | split

theorem execTamper_ok (n : Mark) (a1) (a2 : State) (ha2 : a2.Ok n) : OkH n (execTamper a1 a2) := by
  unfold execTamper
  refine act2_ok _ _ (fun s hs => ?_) ha2
  try dsimp only
  repeat' first
    | with_reducible assumption
    | intro _
    | (extract_lets +onlyGivenNames z; first | (refine State.Ok.cut (n := n) z ?_ ?_ <;> [(intro _; clear_value z); subst z]) | (refine State.Ok.cutPair (n := n) z ?_ ?_ <;> [(intro _; clear_value z); subst z]) | clear_value z)
    | with_reducible apply State.Ok.ite
    | with_reducible apply State.tampered_ok
    | split

theorem State.injectHit_ok (n : Mark) (a1 : State) (a2) (ha1 : a1.Ok n) : (State.injectHit a1 a2).Ok n := by
  unfold State.injectHit
  repeat' first
    | with_reducible assumption
    | intro _
    | (extract_lets +onlyGivenNames z; first | (refine State.Ok.cut (n := n) z ?_ ?_ <;> [(intro _; clear_value z); subst z]) | (refine State.Ok.cutPair (n := n) z ?_ ?_ <;> [(intro _; clear_value z); subst z]) | clear_value z)
    | with_reducible apply State.Ok.ite
    | with_reducible apply State.noteAt_ok
    | (with_reducible refine State.modFaults_ok _ rfl ?_)
    | split

theorem errorSignalEffect_ok (n : Mark) (a1 : State) (a2) (ha1 : a1.Ok n) : (errorSignalEffect a1 a2).Ok n := by
  unfold errorSignalEffect
  repeat' first
    | with_reducible assumption
    | intro _
    | (extract_lets +onlyGivenNames z; first | (refine State.Ok.cut (n := n) z ?_ ?_ <;> [(intro _; clear_value z); subst z]) | (refine State.Ok.cutPair (n := n) z ?_ ?_ <;> [(intro _; clear_value z); subst z]) | clear_value z)
    | with_reducible apply State.Ok.ite
    | with_reducible apply State.injectHit_ok
    | with_reducible apply State.note_ok
    | with_reducible apply State.contain_ok
    | with_reducible apply State.containPart_ok
    | with_reducible apply State.fetDamage_ok
    | with_reducible apply State.tampered_ok
    | with_reducible apply State.grave_ok
    | split

theorem execErrorSignal_ok (n : Mark) (a1) (a2) (a3 : State) (ha3 : a3.Ok n) : OkH n (execErrorSignal a1 a2 a3) := by
  unfold execErrorSignal
  refine act2_ok _ _ (fun s hs => ?_) ha3
  try dsimp only
  repeat' first
    | with_reducible assumption
    | intro _
    | (extract_lets +onlyGivenNames z; first | (refine State.Ok.cut (n := n) z ?_ ?_ <;> [(intro _; clear_value z); subst z]) | (refine State.Ok.cutPair (n := n) z ?_ ?_ <;> [(intro _; clear_value z); subst z]) | clear_value z)
    | with_reducible apply State.Ok.ite
    | with_reducible apply errorSignalEffect_ok
    | split

theorem pathBrokenEffect_ok (n : Mark) (a1 : State) (a2) (ha1 : a1.Ok n) : (pathBrokenEffect a1 a2).Ok n := by
  unfold pathBrokenEffect
  repeat' first
    | with_reducible assumption
    | intro _
    | (extract_lets +onlyGivenNames z; first | (refine State.Ok.cut (n := n) z ?_ ?_ <;> [(intro _; clear_value z); subst z]) | (refine State.Ok.cutPair (n := n) z ?_ ?_ <;> [(intro _; clear_value z); subst z]) | (refine State.Ok.cutFun (n := n) z ?_ ?_ <;> [(intro _; clear_value z); subst z]) | (refine State.Ok.cutFun2 (n := n) z ?_ ?_ <;> [(intro _; clear_value z); subst z]) | (refine State.Ok.cutFun3 (n := n) z ?_ ?_ <;> [(intro _; clear_value z); subst z]) | (refine State.Ok.cutFun4 (n := n) z ?_ ?_ <;> [(intro _; clear_value z); subst z]) | (refine State.Ok.cutFun5 (n := n) z ?_ ?_ <;> [(intro _; clear_value z); subst z]) | (refine State.Ok.cutFun6 (n := n) z ?_ ?_ <;> [(intro _; clear_value z); subst z]) | (refine State.Ok.cutFun7 (n := n) z ?_ ?_ <;> [(intro _; clear_value z); subst z]) | clear_value z)
    | with_reducible apply State.Ok.ite
    | with_reducible apply_assumption
    | with_reducible apply State.note_ok
    | with_reducible apply State.grave_ok
    | split

theorem execPathBroken_ok (n : Mark) (a1) (a2) (a3 : State) (ha3 : a3.Ok n) : OkH n (execPathBroken a1 a2 a3) := by
  unfold execPathBroken
  refine act2_ok _ _ (fun s hs => ?_) ha3
  try dsimp only
  repeat' first
    | with_reducible assumption
    | intro _
    | (extract_lets +onlyGivenNames z; first | (refine State.Ok.cut (n := n) z ?_ ?_ <;> [(intro _; clear_value z); subst z]) | (refine State.Ok.cutPair (n := n) z ?_ ?_ <;> [(intro _; clear_value z); subst z]) | clear_value z)
    | with_reducible apply State.Ok.ite
    | with_reducible apply pathBrokenEffect_ok
    | split

theorem execF1Interval_ok (n : Mark) (a1) (a2 : State) (ha2 : a2.Ok n) : OkH n (execF1Interval a1 a2) := by
  unfold execF1Interval
  refine act1_ok _ _ (fun s hs => ?_) ha2
  try dsimp only
  repeat' first
    | with_reducible assumption
    | intro _
    | (extract_lets +onlyGivenNames z; first | (refine State.Ok.cut (n := n) z ?_ ?_ <;> [(intro _; clear_value z); subst z]) | (refine State.Ok.cutPair (n := n) z ?_ ?_ <;> [(intro _; clear_value z); subst z]) | clear_value z)
    | with_reducible apply State.Ok.ite
    | with_reducible apply State.f1Roll_ok
    | split

theorem execViolationInterval_ok (n : Mark) (a1) (a2 : State) (ha2 : a2.Ok n) : OkH n (execViolationInterval a1 a2) := by
  unfold execViolationInterval
  refine act1_ok _ _ (fun s hs => ?_) ha2
  try dsimp only
  repeat' first
    | with_reducible assumption
    | intro _
    | (extract_lets +onlyGivenNames z; first | (refine State.Ok.cut (n := n) z ?_ ?_ <;> [(intro _; clear_value z); subst z]) | (refine State.Ok.cutPair (n := n) z ?_ ?_ <;> [(intro _; clear_value z); subst z]) | clear_value z)
    | with_reducible apply State.Ok.ite
    | with_reducible apply State.violRoll_ok
    | split

theorem State.closeWindow_ok (n : Mark) (a1 : State) (a2) (ha1 : a1.Ok n) : (State.closeWindow a1 a2).Ok n := by
  unfold State.closeWindow
  repeat' first
    | with_reducible assumption
    | intro _
    | (extract_lets +onlyGivenNames z; first | (refine State.Ok.cut (n := n) z ?_ ?_ <;> [(intro _; clear_value z); subst z]) | (refine State.Ok.cutPair (n := n) z ?_ ?_ <;> [(intro _; clear_value z); subst z]) | clear_value z)
    | with_reducible apply State.Ok.ite
    | (with_reducible refine State.modFaults_ok _ rfl ?_)
    | split

theorem faultWindowExpireEffect_ok (n : Mark) (a1 : State) (a2) (ha1 : a1.Ok n) : (faultWindowExpireEffect a1 a2).Ok n := by
  unfold faultWindowExpireEffect
  repeat' first
    | with_reducible assumption
    | intro _
    | (extract_lets +onlyGivenNames z; first | (refine State.Ok.cut (n := n) z ?_ ?_ <;> [(intro _; clear_value z); subst z]) | (refine State.Ok.cutPair (n := n) z ?_ ?_ <;> [(intro _; clear_value z); subst z]) | clear_value z)
    | with_reducible apply State.Ok.ite
    | with_reducible apply State.closeWindow_ok
    | with_reducible apply State.noteAt_ok
    | with_reducible apply State.note_ok
    | with_reducible apply State.countHeart_ok
    | with_reducible apply State.contain_ok
    | split

theorem execFaultWindowExpire_ok (n : Mark) (a1) (a2) (a3 : State) (ha3 : a3.Ok n) : OkH n (execFaultWindowExpire a1 a2 a3) := by
  unfold execFaultWindowExpire
  refine act2_ok _ _ (fun s hs => ?_) ha3
  try dsimp only
  repeat' first
    | with_reducible assumption
    | intro _
    | (extract_lets +onlyGivenNames z; first | (refine State.Ok.cut (n := n) z ?_ ?_ <;> [(intro _; clear_value z); subst z]) | (refine State.Ok.cutPair (n := n) z ?_ ?_ <;> [(intro _; clear_value z); subst z]) | clear_value z)
    | with_reducible apply State.Ok.ite
    | with_reducible apply faultWindowExpireEffect_ok
    | split

theorem f3WindowExpireEffect_ok (n : Mark) (a1 : State) (ha1 : a1.Ok n) : (f3WindowExpireEffect a1).Ok n := by
  unfold f3WindowExpireEffect
  repeat' first
    | with_reducible assumption
    | intro _
    | (extract_lets +onlyGivenNames z; first | (refine State.Ok.cut (n := n) z ?_ ?_ <;> [(intro _; clear_value z); subst z]) | (refine State.Ok.cutPair (n := n) z ?_ ?_ <;> [(intro _; clear_value z); subst z]) | clear_value z)
    | with_reducible apply State.Ok.ite
    | with_reducible apply State.warmReset_ok
    | split

theorem execF3WindowExpire_ok (n : Mark) (a1) (a2 : State) (ha2 : a2.Ok n) : OkH n (execF3WindowExpire a1 a2) := by
  unfold execF3WindowExpire
  refine act1_ok _ _ (fun s hs => ?_) ha2
  try dsimp only
  repeat' first
    | with_reducible assumption
    | intro _
    | (extract_lets +onlyGivenNames z; first | (refine State.Ok.cut (n := n) z ?_ ?_ <;> [(intro _; clear_value z); subst z]) | (refine State.Ok.cutPair (n := n) z ?_ ?_ <;> [(intro _; clear_value z); subst z]) | clear_value z)
    | with_reducible apply State.Ok.ite
    | with_reducible apply f3WindowExpireEffect_ok
    | split

/-- The invariant of a verdict's state, if it has one. -/
structure Verdict.Ok (n : Mark) (v : Verdict) : Prop where
  of_eq : ∀ t, v = .done t → t.Ok n

theorem Verdict.Ok.get {n : Mark} {v : Verdict} {s : State} (h : v.Ok n) (e : v = .done s) : s.Ok n := h.of_eq s e

theorem Verdict.state_ok (n : Mark) (a1 : Verdict) (a2 : State) (ha1 : a1.Ok n) (ha2 : a2.Ok n) : (Verdict.state a1 a2).Ok n := by
  unfold Verdict.state
  split
  · exact ha1.of_eq _ rfl
  · exact ha2

theorem State.ackFault_ok (n : Mark) (a1 : State) (a2) (a3) (ha1 : a1.Ok n) : (State.ackFault a1 a2 a3).Ok n := by
  refine ⟨fun t e => ?_⟩
  unfold State.ackFault at e
  extract_lets +onlyGivenNames al at e
  split at e
  · cases e
  · split at e
    · split at e
      · cases e
      · cases e
        have h0 := State.countHeart_ok _ _ 0x3B3 1 (State.closeWindow_ok _ _ a3 ha1)
        split
        · rename_i h
          refine State.modFaults_free _ (h0.unlatched ?_) h0
          intro k
          rw [k] at h
          simp at h
        · exact h0
    · cases e

theorem execFaultAck_ok (n : Mark) (a1) (a2) (a3) (a4 : State) (ha4 : a4.Ok n) : OkH n (execFaultAck a1 a2 a3 a4) := by
  unfold execFaultAck
  exact act1_ok _ _ (fun s hs => Verdict.state_ok _ _ _ (State.ackFault_ok _ _ _ _ hs) hs) ha4

theorem State.releasePart_ok (n : Mark) (a1 : State) (a2) (a3) (ha1 : a1.Ok n) : (State.releasePart a1 a2 a3).Ok n := by
  unfold State.releasePart
  repeat' first
    | with_reducible assumption
    | intro _
    | (extract_lets +onlyGivenNames z; first | (refine State.Ok.cut (n := n) z ?_ ?_ <;> [(intro _; clear_value z); subst z]) | (refine State.Ok.cutPair (n := n) z ?_ ?_ <;> [(intro _; clear_value z); subst z]) | clear_value z)
    | with_reducible apply State.Ok.ite
    | with_reducible apply State.modPart_ok
    | with_reducible apply State.containMessage_ok
    | with_reducible apply State.noteAt_ok
    | split

theorem State.release_ok (n : Mark) (a1 : State) (a2) (a3) (ha1 : a1.Ok n) : (State.release a1 a2 a3).Ok n := by
  refine ⟨fun t e => ?_⟩
  unfold State.release at e
  split at e
  · cases e
  · split at e
    · cases e
    · cases e
      exact State.releasePart_ok _ _ _ _ ha1

theorem execPartRelease_ok (n : Mark) (a1) (a2) (a3) (a4 : State) (ha4 : a4.Ok n) : OkH n (execPartRelease a1 a2 a3 a4) := by
  unfold execPartRelease
  exact act1_ok _ _ (fun s hs => Verdict.state_ok _ _ _ (State.release_ok _ _ _ _ hs) hs) ha4

theorem State.containBy_ok (n : Mark) (a1 : State) (a2) (a3) (ha1 : a1.Ok n) : (State.containBy a1 a2 a3).Ok n := by
  refine ⟨fun t e => ?_⟩
  unfold State.containBy at e
  extract_lets +onlyGivenNames al at e
  split at e
  · cases e
  · split at e
    · cases e
    · cases e
      exact State.note_ok _ _ _ (State.containPart_ok _ _ _ _ _ ha1)

theorem State.containTold_ok (n : Mark) (a1 : State) (a2) (ha1 : a1.Ok n) : (State.containTold a1 a2).Ok n := by
  unfold State.containTold
  repeat' first
    | with_reducible assumption
    | intro _
    | (extract_lets +onlyGivenNames z; first | (refine State.Ok.cut (n := n) z ?_ ?_ <;> [(intro _; clear_value z); subst z]) | (refine State.Ok.cutPair (n := n) z ?_ ?_ <;> [(intro _; clear_value z); subst z]) | clear_value z)
    | with_reducible apply State.Ok.ite
    | with_reducible apply State.each_ok
    | with_reducible apply State.vdpLinkDown_ok
    | with_reducible apply State.sliceDown_ok
    | with_reducible apply State.note_ok
    | with_reducible apply State.containPart_ok
    | with_reducible apply State.releasePart_ok
    | with_reducible apply State.slotEvent_ok
    | with_reducible apply State.modVdp_ok
    | split

theorem containmentMessageEffect_ok (n : Mark) (a1 : State) (a2) (a3) (ha1 : a1.Ok n) : (containmentMessageEffect a1 a2 a3).Ok n := by
  unfold containmentMessageEffect
  repeat' first
    | with_reducible assumption
    | intro _
    | (extract_lets +onlyGivenNames z; first | (refine State.Ok.cut (n := n) z ?_ ?_ <;> [(intro _; clear_value z); subst z]) | (refine State.Ok.cutPair (n := n) z ?_ ?_ <;> [(intro _; clear_value z); subst z]) | clear_value z)
    | with_reducible apply State.Ok.ite
    | with_reducible apply State.contradicts_ok
    | with_reducible apply State.modFabric_ok
    | with_reducible apply State.sendControl_ok
    | with_reducible apply State.countHeart_ok
    | with_reducible apply State.containTold_ok
    | split

theorem execContainmentMessage_ok (n : Mark) (a1) (a2) (a3) (a4 : State) (ha4 : a4.Ok n) : OkH n (execContainmentMessage a1 a2 a3 a4) := by
  unfold execContainmentMessage
  refine act2_ok _ _ (fun s hs => ?_) ha4
  try dsimp only
  repeat' first
    | with_reducible assumption
    | intro _
    | (extract_lets +onlyGivenNames z; first | (refine State.Ok.cut (n := n) z ?_ ?_ <;> [(intro _; clear_value z); subst z]) | (refine State.Ok.cutPair (n := n) z ?_ ?_ <;> [(intro _; clear_value z); subst z]) | clear_value z)
    | with_reducible apply State.Ok.ite
    | with_reducible apply containmentMessageEffect_ok
    | split

theorem State.arm_ok (n : Mark) (a1 : State) (a2) (a3) (ha1 : a1.Ok n) : (State.arm a1 a2 a3).Ok n := by
  unfold State.arm
  repeat' first
    | with_reducible assumption
    | intro _
    | (extract_lets +onlyGivenNames z; first | (refine State.Ok.cut (n := n) z ?_ ?_ <;> [(intro _; clear_value z); subst z]) | (refine State.Ok.cutPair (n := n) z ?_ ?_ <;> [(intro _; clear_value z); subst z]) | clear_value z)
    | with_reducible apply State.Ok.ite
    | (with_reducible refine State.modFaults_ok _ rfl ?_)
    | split

theorem execInjectArm_ok (n : Mark) (a1) (a2) (a3) (a4) (a5 : State) (ha5 : a5.Ok n) : OkH n (execInjectArm a1 a2 a3 a4 a5) := by
  unfold execInjectArm
  refine act1_ok _ _ (fun s hs => ?_) ha5
  try dsimp only
  repeat' first
    | with_reducible assumption
    | intro _
    | (extract_lets +onlyGivenNames z; first | (refine State.Ok.cut (n := n) z ?_ ?_ <;> [(intro _; clear_value z); subst z]) | (refine State.Ok.cutPair (n := n) z ?_ ?_ <;> [(intro _; clear_value z); subst z]) | clear_value z)
    | with_reducible apply State.Ok.ite
    | with_reducible apply State.arm_ok
    | split

theorem execInjectDisarm_ok (n : Mark) (a1) (a2) (a3) (a4 : State) (ha4 : a4.Ok n) : OkH n (execInjectDisarm a1 a2 a3 a4) := by
  unfold execInjectDisarm
  refine act1_ok _ _ (fun s hs => ?_) ha4
  try dsimp only
  repeat' first
    | with_reducible assumption
    | intro _
    | (extract_lets +onlyGivenNames z; first | (refine State.Ok.cut (n := n) z ?_ ?_ <;> [(intro _; clear_value z); subst z]) | (refine State.Ok.cutPair (n := n) z ?_ ?_ <;> [(intro _; clear_value z); subst z]) | clear_value z)
    | with_reducible apply State.Ok.ite
    | (with_reducible refine State.modFaults_ok _ rfl ?_)
    | split

theorem State.debugLoad_ok (n : Mark) (a1 : State) (a2) (a3) (ha1 : a1.Ok n) : (State.debugLoad a1 a2 a3).Ok n := by
  unfold State.debugLoad
  repeat' first
    | with_reducible assumption
    | intro _
    | (extract_lets +onlyGivenNames z; first | (refine State.Ok.cut (n := n) z ?_ ?_ <;> [(intro _; clear_value z); subst z]) | (refine State.Ok.cutPair (n := n) z ?_ ?_ <;> [(intro _; clear_value z); subst z]) | clear_value z)
    | with_reducible apply State.Ok.ite
    | (with_reducible refine State.modFaults_ok _ rfl ?_)
    | split

theorem execBypass_ok (n : Mark) (a1) (a2 : State) (ha2 : a2.Ok n) : OkH n (execBypass a1 a2) := by
  unfold execBypass
  refine act1_ok _ _ (fun s hs => ?_) ha2
  try dsimp only
  repeat' first
    | with_reducible assumption
    | intro _
    | (extract_lets +onlyGivenNames z; first | (refine State.Ok.cut (n := n) z ?_ ?_ <;> [(intro _; clear_value z); subst z]) | (refine State.Ok.cutPair (n := n) z ?_ ?_ <;> [(intro _; clear_value z); subst z]) | clear_value z)
    | with_reducible apply State.Ok.ite
    | (with_reducible refine State.modFaults_ok _ rfl ?_)
    | split

theorem execIdcode_ok (n : Mark) (a1) (a2 : State) (ha2 : a2.Ok n) : OkH n (execIdcode a1 a2) := by
  unfold execIdcode
  refine act1_ok _ _ (fun s hs => ?_) ha2
  try dsimp only
  repeat' first
    | with_reducible assumption
    | intro _
    | (extract_lets +onlyGivenNames z; first | (refine State.Ok.cut (n := n) z ?_ ?_ <;> [(intro _; clear_value z); subst z]) | (refine State.Ok.cutPair (n := n) z ?_ ?_ <;> [(intro _; clear_value z); subst z]) | clear_value z)
    | with_reducible apply State.Ok.ite
    | with_reducible apply State.emit_ok
    | (with_reducible refine State.modFaults_ok _ rfl ?_)
    | split

theorem execSamplePreload_ok (n : Mark) (a1) (a2) (a3 : State) (ha3 : a3.Ok n) : OkH n (execSamplePreload a1 a2 a3) := by
  unfold execSamplePreload
  refine act1_ok _ _ (fun s hs => ?_) ha3
  try dsimp only
  repeat' first
    | with_reducible assumption
    | intro _
    | (extract_lets +onlyGivenNames z; first | (refine State.Ok.cut (n := n) z ?_ ?_ <;> [(intro _; clear_value z); subst z]) | (refine State.Ok.cutPair (n := n) z ?_ ?_ <;> [(intro _; clear_value z); subst z]) | clear_value z)
    | with_reducible apply State.Ok.ite
    | with_reducible apply State.debugLoad_ok
    | with_reducible apply State.emit_ok
    | (with_reducible refine State.modFaults_ok _ rfl ?_)
    | with_reducible apply State.drew_ok
    | split

theorem execExtest_ok (n : Mark) (a1) (a2 : State) (ha2 : a2.Ok n) : OkH n (execExtest a1 a2) := by
  unfold execExtest
  refine act1_ok _ _ (fun s hs => ?_) ha2
  try dsimp only
  repeat' first
    | with_reducible assumption
    | intro _
    | (extract_lets +onlyGivenNames z; first | (refine State.Ok.cut (n := n) z ?_ ?_ <;> [(intro _; clear_value z); subst z]) | (refine State.Ok.cutPair (n := n) z ?_ ?_ <;> [(intro _; clear_value z); subst z]) | clear_value z)
    | with_reducible apply State.Ok.ite
    | with_reducible apply State.debugLoad_ok
    | with_reducible apply State.emit_ok
    | split

theorem execDbgAccess_ok (n : Mark) (a1) (a2 : State) (ha2 : a2.Ok n) : OkH n (execDbgAccess a1 a2) := by
  unfold execDbgAccess
  refine act1_ok _ _ (fun s hs => ?_) ha2
  try dsimp only
  repeat' first
    | with_reducible assumption
    | intro _
    | (extract_lets +onlyGivenNames z; first | (refine State.Ok.cut (n := n) z ?_ ?_ <;> [(intro _; clear_value z); subst z]) | (refine State.Ok.cutPair (n := n) z ?_ ?_ <;> [(intro _; clear_value z); subst z]) | clear_value z)
    | with_reducible apply State.Ok.ite
    | with_reducible apply State.debugLoad_ok
    | with_reducible apply State.emit_ok
    | split

theorem State.debugGo_ok (n : Mark) (a1 : State) (a2) (a3) (a4) (a5) (ha1 : a1.Ok n) : (State.debugGo a1 a2 a3 a4 a5).Ok n := by
  unfold State.debugGo
  repeat' first
    | with_reducible assumption
    | intro _
    | (extract_lets +onlyGivenNames z; first | (refine State.Ok.cut (n := n) z ?_ ?_ <;> [(intro _; clear_value z); subst z]) | (refine State.Ok.cutPair (n := n) z ?_ ?_ <;> [(intro _; clear_value z); subst z]) | clear_value z)
    | with_reducible apply State.Ok.ite
    | with_reducible apply State.Ok.iteFst
    | with_reducible apply State.debugEnd_ok
    | with_reducible apply State.gateFault_ok
    | with_reducible apply State.toPort_ok
    | with_reducible apply State.toHeart_ok
    | with_reducible apply State.submit_ok
    | with_reducible apply State.heartAccess_ok
    | (with_reducible refine State.modFaults_ok _ rfl ?_)
    | split
    | (refine State.Ok.ofPair (by with_reducible assumption) ?_)

theorem dbgCmdUpdateEffect_ok (n : Mark) (a1 : State) (a2) (a3) (ha1 : a1.Ok n) : (dbgCmdUpdateEffect a1 a2 a3).Ok n := by
  unfold dbgCmdUpdateEffect
  repeat' first
    | with_reducible assumption
    | intro _
    | (extract_lets +onlyGivenNames z; first | (refine State.Ok.cut (n := n) z ?_ ?_ <;> [(intro _; clear_value z); subst z]) | (refine State.Ok.cutPair (n := n) z ?_ ?_ <;> [(intro _; clear_value z); subst z]) | clear_value z)
    | with_reducible apply State.Ok.ite
    | (with_reducible refine State.modFaults_ok _ rfl ?_)
    | with_reducible apply State.debugEnd_ok
    | with_reducible apply State.debugGo_ok
    | split

theorem execDbgCmdUpdate_ok (n : Mark) (a1) (a2) (a3) (a4 : State) (ha4 : a4.Ok n) : OkH n (execDbgCmdUpdate a1 a2 a3 a4) := by
  unfold execDbgCmdUpdate
  refine act2_ok _ _ (fun s hs => ?_) ha4
  try dsimp only
  repeat' first
    | with_reducible assumption
    | intro _
    | (extract_lets +onlyGivenNames z; first | (refine State.Ok.cut (n := n) z ?_ ?_ <;> [(intro _; clear_value z); subst z]) | (refine State.Ok.cutPair (n := n) z ?_ ?_ <;> [(intro _; clear_value z); subst z]) | clear_value z)
    | with_reducible apply State.Ok.ite
    | with_reducible apply dbgCmdUpdateEffect_ok
    | split

end Sys2Proof.Machine
end

