-- ==== Sys2Proof/Laws/KeepProtection.lean ====
section
/-! SUPPORT. Every operation of Protection.lean keeps the invariant, and the local count does not run back. -/

set_option linter.all false

namespace Sys2Proof.Machine

theorem State.beforeSet_ok (n : Mark) (a1 : State) (a2) (ha1 : a1.Ok n) : (State.beforeSet a1 a2).Ok n := by
  exact State.dict_ok _ (dictWf_foldl _ _ (fun d c h => dictWf_fireDict d c h) _ ha1.1.dict) ha1

theorem State.afterSet_ok (n : Mark) (a1 : State) (a2) (ha1 : a1.Ok n) : (State.afterSet a1 a2).Ok n := by
  exact State.dict_ok _ (dictWf_fireDict _ _ (State.beforeSet_ok _ _ _ ha1).1.dict) ha1

end Sys2Proof.Machine
end

