-- ==== Sys2Proof/Laws/KeepApply.lean ====
section
/-! SUPPORT. Every operation of Apply.lean keeps the invariant, and the local count does not run back. -/

set_option linter.all false

namespace Sys2Proof.Machine

theorem State.bumpGen_ok (n : Mark) (a1 : State) (ha1 : a1.Ok n) : (State.bumpGen a1).Ok n := by
  unfold State.bumpGen
  repeat' first
    | with_reducible assumption
    | intro _
    | (extract_lets +onlyGivenNames z; first | (refine State.Ok.cut (n := n) z ?_ ?_ <;> [(intro _; clear_value z); subst z]) | (refine State.Ok.cutPair (n := n) z ?_ ?_ <;> [(intro _; clear_value z); subst z]) | clear_value z)
    | with_reducible apply State.Ok.ite
    | with_reducible apply State.modBocel_ok
    | split

theorem State.applyReset_ok (n : Mark) (a1 : State) (a2) (a3) (ha1 : a1.Ok n) : (State.applyReset a1 a2 a3).Ok n := by
  unfold State.applyReset
  repeat' first
    | with_reducible assumption
    | intro _
    | (extract_lets +onlyGivenNames z; first | (refine State.Ok.cut (n := n) z ?_ ?_ <;> [(intro _; clear_value z); subst z]) | (refine State.Ok.cutPair (n := n) z ?_ ?_ <;> [(intro _; clear_value z); subst z]) | clear_value z)
    | with_reducible apply State.Ok.ite
    | (with_reducible refine State.OkO.get (State.requestReset_ok _ _ _ _ ?_ ) (by with_reducible assumption))
    | with_reducible apply State.requestReset_ok
    | with_reducible apply State.warmReset_ok
    | with_reducible exact State.OkO.none_
    | with_reducible apply State.OkO.ite_
    | with_reducible apply State.OkO.some_
    | with_reducible apply State.OkO.getD
    | with_reducible apply State.OkO.mapPair
    | split

theorem State.applyTpEnable_ok (n : Mark) (a1 : State) (a2) (a3) (ha1 : a1.Ok n) : (State.applyTpEnable a1 a2 a3).Ok n := by
  unfold State.applyTpEnable
  repeat' first
    | with_reducible assumption
    | intro _
    | (extract_lets +onlyGivenNames z; first | (refine State.Ok.cut (n := n) z ?_ ?_ <;> [(intro _; clear_value z); subst z]) | (refine State.Ok.cutPair (n := n) z ?_ ?_ <;> [(intro _; clear_value z); subst z]) | clear_value z)
    | with_reducible apply State.Ok.ite
    | with_reducible apply State.modTrunk_ok
    | with_reducible apply State.trunkRetrain_ok
    | split

theorem State.applyClassMap_ok (n : Mark) (a1 : State) (a2) (a3) (a4) (ha1 : a1.Ok n) : (State.applyClassMap a1 a2 a3 a4).Ok n := by
  unfold State.applyClassMap
  repeat' first
    | with_reducible assumption
    | intro _
    | (extract_lets +onlyGivenNames z; first | (refine State.Ok.cut (n := n) z ?_ ?_ <;> [(intro _; clear_value z); subst z]) | (refine State.Ok.cutPair (n := n) z ?_ ?_ <;> [(intro _; clear_value z); subst z]) | clear_value z)
    | with_reducible apply State.Ok.ite
    | with_reducible apply State.each_ok
    | with_reducible apply State.reclass_ok
    | with_reducible apply State.modCore_ok
    | split

theorem State.applySlotMap_ok (n : Mark) (a1 : State) (a2) (a3) (a4) (ha1 : a1.Ok n) : (State.applySlotMap a1 a2 a3 a4).Ok n := by
  unfold State.applySlotMap
  repeat' first
    | with_reducible assumption
    | intro _
    | (extract_lets +onlyGivenNames z; first | (refine State.Ok.cut (n := n) z ?_ ?_ <;> [(intro _; clear_value z); subst z]) | (refine State.Ok.cutPair (n := n) z ?_ ?_ <;> [(intro _; clear_value z); subst z]) | clear_value z)
    | with_reducible apply State.Ok.ite
    | with_reducible apply State.modSlot_ok
    | with_reducible apply State.each_ok
    | with_reducible apply State.slotUpdate_ok
    | with_reducible apply foldl_ok
    | with_reducible apply foldlState_ok
    | split

theorem State.applyOutputs_ok (n : Mark) (a1 : State) (a2) (ha1 : a1.Ok n) : (State.applyOutputs a1 a2).Ok n := by
  unfold State.applyOutputs
  repeat' first
    | with_reducible assumption
    | intro _
    | (extract_lets +onlyGivenNames z; first | (refine State.Ok.cut (n := n) z ?_ ?_ <;> [(intro _; clear_value z); subst z]) | (refine State.Ok.cutPair (n := n) z ?_ ?_ <;> [(intro _; clear_value z); subst z]) | clear_value z)
    | with_reducible apply State.Ok.ite
    | with_reducible apply State.driveOut_ok
    | split

theorem State.applyCap_ok (n : Mark) (a1 : State) (a2) (a3) (ha1 : a1.Ok n) : (State.applyCap a1 a2 a3).Ok n := by
  unfold State.applyCap
  repeat' first
    | with_reducible assumption
    | intro _
    | (extract_lets +onlyGivenNames z; first | (refine State.Ok.cut (n := n) z ?_ ?_ <;> [(intro _; clear_value z); subst z]) | (refine State.Ok.cutPair (n := n) z ?_ ?_ <;> [(intro _; clear_value z); subst z]) | clear_value z)
    | with_reducible apply State.Ok.ite
    | with_reducible apply State.setJ_ok
    | split

theorem State.applyCommand_ok (n : Mark) (a1 : State) (a2) (a3) (a4) (ha1 : a1.Ok n) : State.OkO n (State.applyCommand a1 a2 a3 a4) := by
  unfold State.applyCommand
  repeat' first
    | with_reducible assumption
    | intro _
    | (extract_lets +onlyGivenNames z; first | (refine State.Ok.cut (n := n) z ?_ ?_ <;> [(intro _; clear_value z); subst z]) | (refine State.Ok.cutPair (n := n) z ?_ ?_ <;> [(intro _; clear_value z); subst z]) | clear_value z)
    | with_reducible apply State.Ok.ite
    | with_reducible apply State.applyReset_ok
    | with_reducible apply State.clearPeaks_ok
    | with_reducible apply State.clearSlot_ok
    | with_reducible apply State.trunkRetrain_ok
    | with_reducible apply State.sharedForce_ok
    | with_reducible apply State.sharedRequest_ok
    | with_reducible apply State.noteFree_ok
    | with_reducible apply routeRebalanceEffect_ok
    | with_reducible apply State.fenceOff_ok
    | with_reducible apply State.fenceOn_ok
    | with_reducible apply State.cntFreezeWrite_ok
    | (with_reducible refine State.OkE.get (State.snapWrite_ok _ _ _ _ _ ?_ ) (by with_reducible assumption))
    | with_reducible apply State.snapWrite_ok
    | with_reducible apply Verdict.state_ok
    | with_reducible apply State.arm_ok
    | (with_reducible refine State.modFaults_ok _ rfl ?_)
    | with_reducible apply State.compactStart_ok
    | (with_reducible refine State.OkO.get (State.graftChunkWrite_ok _ _ _ _ ?_ ) (by with_reducible assumption))
    | with_reducible apply State.graftChunkWrite_ok
    | (with_reducible refine State.OkO.get (State.graftApplyWrite_ok _ _ ?_ ) (by with_reducible assumption))
    | with_reducible apply State.graftApplyWrite_ok
    | with_reducible apply State.ackFault_ok
    | with_reducible apply State.release_ok
    | with_reducible apply State.containBy_ok
    | with_reducible apply Verdict.state_ok
    | (with_reducible refine Verdict.Ok.get ?_ (by with_reducible assumption))
    | with_reducible exact State.OkO.none_
    | with_reducible apply State.OkO.ite_
    | with_reducible apply State.OkO.some_
    | with_reducible apply State.OkO.getD
    | with_reducible apply State.OkO.mapPair
    | with_reducible exact State.OkE.error_
    | with_reducible apply State.OkE.ite_
    | with_reducible apply State.OkE.ok_
    | split

theorem State.applyStored_ok (n : Mark) (a1 : State) (a2) (a3) (ha1 : a1.Ok n) : (State.applyStored a1 a2 a3).Ok n := by
  unfold State.applyStored
  repeat' first
    | with_reducible assumption
    | intro _
    | (extract_lets +onlyGivenNames z; first | (refine State.Ok.cut (n := n) z ?_ ?_ <;> [(intro _; clear_value z); subst z]) | (refine State.Ok.cutPair (n := n) z ?_ ?_ <;> [(intro _; clear_value z); subst z]) | clear_value z)
    | with_reducible apply State.Ok.ite
    | with_reducible apply State.set_ok
    | with_reducible apply State.cntCtlWrite_ok
    | with_reducible apply State.applyCap_ok
    | with_reducible apply State.gateLimb_ok
    | with_reducible apply State.powerLimb_ok
    | with_reducible apply State.applySlotMap_ok
    | with_reducible apply State.slotUpdate_ok
    | with_reducible apply State.applyOutputs_ok
    | with_reducible apply State.applyTpEnable_ok
    | with_reducible apply State.trunkRetrain_ok
    | with_reducible apply State.applyClassMap_ok
    | with_reducible apply State.checkExhausted_ok
    | (with_reducible refine State.OkE.get (State.slotSwapWrite_ok _ _ _ ?_ ) (by with_reducible assumption))
    | with_reducible apply State.slotSwapWrite_ok
    | with_reducible apply State.enterHoldover_ok
    | with_reducible apply State.ownKeyChanged_ok
    | with_reducible apply State.refInvalid_ok
    | (with_reducible refine State.OkE.get (State.graftActWrite_ok _ _ _ ?_ ) (by with_reducible assumption))
    | with_reducible apply State.graftActWrite_ok
    | with_reducible exact State.OkE.error_
    | with_reducible apply State.OkE.ite_
    | with_reducible apply State.OkE.ok_
    | split

theorem State.applyWrite_ok (n : Mark) (a1 : State) (a2) (a3) (a4) (ha1 : a1.Ok n) : (State.applyWrite a1 a2 a3 a4).Ok n := by
  unfold State.applyWrite
  repeat' first
    | with_reducible assumption
    | intro _
    | (extract_lets +onlyGivenNames z; first | (refine State.Ok.cut (n := n) z ?_ ?_ <;> [(intro _; clear_value z); subst z]) | (refine State.Ok.cutPair (n := n) z ?_ ?_ <;> [(intro _; clear_value z); subst z]) | clear_value z)
    | with_reducible apply State.Ok.ite
    | with_reducible apply State.bumpGen_ok
    | (with_reducible refine State.OkO.get (State.applyCommand_ok _ _ _ _ _ ?_ ) (by with_reducible assumption))
    | with_reducible apply State.applyCommand_ok
    | with_reducible apply State.applyStored_ok
    | with_reducible exact State.OkO.none_
    | with_reducible apply State.OkO.ite_
    | with_reducible apply State.OkO.some_
    | with_reducible apply State.OkO.getD
    | with_reducible apply State.OkO.mapPair
    | split

theorem State.modSet_ok (n : Mark) (a1 : State) (a2) (a3) (ha1 : a1.Ok n) : (State.modSet a1 a2 a3).Ok n := by
  unfold State.modSet
  repeat' first
    | with_reducible assumption
    | intro _
    | (extract_lets +onlyGivenNames z; first | (refine State.Ok.cut (n := n) z ?_ ?_ <;> [(intro _; clear_value z); subst z]) | (refine State.Ok.cutPair (n := n) z ?_ ?_ <;> [(intro _; clear_value z); subst z]) | clear_value z)
    | with_reducible apply State.Ok.ite
    | with_reducible apply State.modBocel_ok
    | split

theorem State.jSetState_ok (n : Mark) (a1 : State) (a2) (a3) (ha1 : a1.Ok n) : (State.jSetState a1 a2 a3).Ok n := by
  unfold State.jSetState
  repeat' first
    | with_reducible assumption
    | intro _
    | (extract_lets +onlyGivenNames z; first | (refine State.Ok.cut (n := n) z ?_ ?_ <;> [(intro _; clear_value z); subst z]) | (refine State.Ok.cutPair (n := n) z ?_ ?_ <;> [(intro _; clear_value z); subst z]) | clear_value z)
    | with_reducible apply State.Ok.ite
    | with_reducible apply State.jForm_ok
    | split

theorem State.setLeave_ok (n : Mark) (a1 : State) (a2) (a3) (ha1 : a1.Ok n) : (State.setLeave a1 a2 a3).Ok n := by
  unfold State.setLeave
  repeat' first
    | with_reducible assumption
    | intro _
    | (extract_lets +onlyGivenNames z; first | (refine State.Ok.cut (n := n) z ?_ ?_ <;> [(intro _; clear_value z); subst z]) | (refine State.Ok.cutPair (n := n) z ?_ ?_ <;> [(intro _; clear_value z); subst z]) | clear_value z)
    | with_reducible apply State.Ok.ite
    | with_reducible apply State.actDrop_ok
    | with_reducible apply State.jSetState_ok
    | with_reducible apply State.modSet_ok
    | split

theorem State.setRefuse_ok (n : Mark) (a1 : State) (a2) (a3) (ha1 : a1.Ok n) : (State.setRefuse a1 a2 a3).Ok n := by
  unfold State.setRefuse
  repeat' first
    | with_reducible assumption
    | intro _
    | (extract_lets +onlyGivenNames z; first | (refine State.Ok.cut (n := n) z ?_ ?_ <;> [(intro _; clear_value z); subst z]) | (refine State.Ok.cutPair (n := n) z ?_ ?_ <;> [(intro _; clear_value z); subst z]) | clear_value z)
    | with_reducible apply State.Ok.ite
    | with_reducible apply State.noteAt_ok
    | with_reducible apply State.setLeave_ok
    | split

theorem State.revalidateAfter_ok (n : Mark) (a1 : State) (a2) (ha1 : a1.Ok n) : (State.revalidateAfter a1 a2).Ok n := by
  unfold State.revalidateAfter
  repeat' first
    | with_reducible assumption
    | intro _
    | (extract_lets +onlyGivenNames z; first | (refine State.Ok.cut (n := n) z ?_ ?_ <;> [(intro _; clear_value z); subst z]) | (refine State.Ok.cutPair (n := n) z ?_ ?_ <;> [(intro _; clear_value z); subst z]) | clear_value z)
    | with_reducible apply State.Ok.ite
    | with_reducible apply State.each_ok
    | with_reducible apply State.setRefuse_ok
    | split

theorem State.partGone_ok (n : Mark) (a1 : State) (a2) (a3) (ha1 : a1.Ok n) : (State.partGone a1 a2 a3).Ok n := by
  unfold State.partGone
  repeat' first
    | with_reducible assumption
    | intro _
    | (extract_lets +onlyGivenNames z; first | (refine State.Ok.cut (n := n) z ?_ ?_ <;> [(intro _; clear_value z); subst z]) | (refine State.Ok.cutPair (n := n) z ?_ ?_ <;> [(intro _; clear_value z); subst z]) | clear_value z)
    | with_reducible apply State.Ok.ite
    | with_reducible apply State.each_ok
    | with_reducible apply State.letGo_ok
    | with_reducible apply State.reducePartReset_ok
    | with_reducible apply State.modPart_ok
    | with_reducible apply State.rollKey_ok
    | with_reducible apply State.sharedCheckPart_ok
    | split

theorem State.partNew_ok (n : Mark) (a1 : State) (a2) (ha1 : a1.Ok n) : (State.partNew a1 a2).Ok n := by
  unfold State.partNew
  repeat' first
    | with_reducible assumption
    | intro _
    | (extract_lets +onlyGivenNames z; first | (refine State.Ok.cut (n := n) z ?_ ?_ <;> [(intro _; clear_value z); subst z]) | (refine State.Ok.cutPair (n := n) z ?_ ?_ <;> [(intro _; clear_value z); subst z]) | clear_value z)
    | with_reducible apply State.Ok.ite
    | with_reducible apply State.modPart_ok
    | split

theorem State.sendCopy_ok (n : Mark) (a1 : State) (a2) (a3) (a4) (a5) (ha1 : a1.Ok n) : (State.sendCopy a1 a2 a3 a4 a5).Ok n := by
  unfold State.sendCopy
  repeat' first
    | with_reducible assumption
    | intro _
    | (extract_lets +onlyGivenNames z; first | (refine State.Ok.cut (n := n) z ?_ ?_ <;> [(intro _; clear_value z); subst z]) | (refine State.Ok.cutPair (n := n) z ?_ ?_ <;> [(intro _; clear_value z); subst z]) | clear_value z)
    | with_reducible apply State.Ok.ite
    | with_reducible apply State.emit_ok
    | split

theorem State.bindingChanged_ok (n : Mark) (a1 : State) (a2) (a3) (a4) (a5) (ha1 : a1.Ok n) : (State.bindingChanged a1 a2 a3 a4 a5).Ok n := by
  unfold State.bindingChanged
  repeat' first
    | with_reducible assumption
    | intro _
    | (extract_lets +onlyGivenNames z; first | (refine State.Ok.cut (n := n) z ?_ ?_ <;> [(intro _; clear_value z); subst z]) | (refine State.Ok.cutPair (n := n) z ?_ ?_ <;> [(intro _; clear_value z); subst z]) | clear_value z)
    | with_reducible apply State.Ok.ite
    | with_reducible apply State.modVdp_ok
    | with_reducible apply State.showSlot_ok
    | with_reducible apply State.compareBinding_ok
    | split

theorem State.sharedChanged_ok (n : Mark) (a1 : State) (a2) (ha1 : a1.Ok n) : (State.sharedChanged a1 a2).Ok n := by
  unfold State.sharedChanged
  repeat' first
    | with_reducible assumption
    | intro _
    | (extract_lets +onlyGivenNames z; first | (refine State.Ok.cut (n := n) z ?_ ?_ <;> [(intro _; clear_value z); subst z]) | (refine State.Ok.cutPair (n := n) z ?_ ?_ <;> [(intro _; clear_value z); subst z]) | clear_value z)
    | with_reducible apply State.Ok.ite
    | with_reducible apply State.sharedStart_ok
    | with_reducible apply State.modShared_ok
    | split

theorem State.protFire_ok (n : Mark) (a1 : State) (a2) (ha1 : a1.Ok n) : (State.protFire a1 a2).Ok n := by
  unfold State.protFire
  repeat' first
    | with_reducible assumption
    | intro _
    | (extract_lets +onlyGivenNames z; first | (refine State.Ok.cut (n := n) z ?_ ?_ <;> [(intro _; clear_value z); subst z]) | (refine State.Ok.cutPair (n := n) z ?_ ?_ <;> [(intro _; clear_value z); subst z]) | clear_value z)
    | with_reducible apply State.Ok.ite
    | with_reducible apply State.modGates_ok
    | with_reducible apply State.protChanged_ok
    | with_reducible apply foldl_ok
    | with_reducible apply foldlState_ok
    | split

theorem State.keyGone_ok (n : Mark) (a1 : State) (a2) (ha1 : a1.Ok n) : (State.keyGone a1 a2).Ok n := by
  unfold State.keyGone
  repeat' first
    | with_reducible assumption
    | intro _
    | (extract_lets +onlyGivenNames z; first | (refine State.Ok.cut (n := n) z ?_ ?_ <;> [(intro _; clear_value z); subst z]) | (refine State.Ok.cutPair (n := n) z ?_ ?_ <;> [(intro _; clear_value z); subst z]) | clear_value z)
    | with_reducible apply State.Ok.ite
    | with_reducible apply State.modBocel_ok
    | with_reducible apply State.each_ok
    | with_reducible apply State.revalidateAfter_ok
    | with_reducible apply State.noteAt_ok
    | with_reducible apply State.setLeave_ok
    | split

theorem State.measure_ok (n : Mark) (a1 : State) (a2 : State) (a3) (ha1 : a1.Ok n) (ha2 : a2.Ok n) : (State.measure a1 a2 a3).Ok n := by
  unfold State.measure
  repeat' first
    | with_reducible assumption
    | intro _
    | (extract_lets +onlyGivenNames z; first | (refine State.Ok.cut (n := n) z ?_ ?_ <;> [(intro _; clear_value z); subst z]) | (refine State.Ok.cutPair (n := n) z ?_ ?_ <;> [(intro _; clear_value z); subst z]) | clear_value z)
    | with_reducible apply State.Ok.ite
    | with_reducible apply State.each_ok
    | with_reducible apply State.modPart_ok
    | split

theorem State.valueFired_ok (n : Mark) (a1 : State) (a2 : State) (a3) (ha1 : a1.Ok n) (ha2 : a2.Ok n) : (State.valueFired a1 a2 a3).Ok n := by
  unfold State.valueFired
  repeat' first
    | with_reducible assumption
    | intro _
    | (extract_lets +onlyGivenNames z; first | (refine State.Ok.cut (n := n) z ?_ ?_ <;> [(intro _; clear_value z); subst z]) | (refine State.Ok.cutPair (n := n) z ?_ ?_ <;> [(intro _; clear_value z); subst z]) | (refine State.Ok.cutFun (n := n) z ?_ ?_ <;> [(intro _; clear_value z); subst z]) | (refine State.Ok.cutFun2 (n := n) z ?_ ?_ <;> [(intro _; clear_value z); subst z]) | (refine State.Ok.cutFun3 (n := n) z ?_ ?_ <;> [(intro _; clear_value z); subst z]) | (refine State.Ok.cutFun4 (n := n) z ?_ ?_ <;> [(intro _; clear_value z); subst z]) | (refine State.Ok.cutFun5 (n := n) z ?_ ?_ <;> [(intro _; clear_value z); subst z]) | (refine State.Ok.cutFun6 (n := n) z ?_ ?_ <;> [(intro _; clear_value z); subst z]) | (refine State.Ok.cutFun7 (n := n) z ?_ ?_ <;> [(intro _; clear_value z); subst z]) | clear_value z)
    | with_reducible apply State.Ok.ite
    | with_reducible apply_assumption
    | with_reducible apply State.each_ok
    | with_reducible apply State.trunkRetrain_ok
    | with_reducible apply State.ownKeyChanged_ok
    | with_reducible apply State.rollKey_ok
    | (with_reducible refine State.modSec_ok _ rfl ?_)
    | with_reducible apply State.abortWaiters_ok
    | with_reducible apply State.modEngines_ok
    | with_reducible apply State.modFabric_ok
    | with_reducible apply State.giveUp_ok
    | split

theorem State.fireSet_ok (n : Mark) (a1 : State) (a2) (ha1 : a1.Ok n) : (State.fireSet a1 a2).Ok n := by
  unfold State.fireSet
  repeat' first
    | with_reducible assumption
    | intro _
    | (extract_lets +onlyGivenNames z; first | (refine State.Ok.cut (n := n) z ?_ ?_ <;> [(intro _; clear_value z); subst z]) | (refine State.Ok.cutPair (n := n) z ?_ ?_ <;> [(intro _; clear_value z); subst z]) | clear_value z)
    | with_reducible apply State.Ok.ite
    | with_reducible apply State.each_ok
    | with_reducible apply State.reduceAbort_ok
    | with_reducible apply State.partGone_ok
    | with_reducible apply State.partNew_ok
    | with_reducible apply State.protFire_ok
    | with_reducible apply State.sharedChanged_ok
    | with_reducible apply State.sendCopy_ok
    | with_reducible apply State.bindingChanged_ok
    | with_reducible apply State.valueFired_ok
    | with_reducible apply State.slotUpdate_ok
    | with_reducible apply State.measure_ok
    | with_reducible apply State.bumpGen_ok
    | with_reducible apply State.modSet_ok
    | with_reducible apply State.jSetState_ok
    | with_reducible apply State.noteFree_ok
    | with_reducible apply State.keyGone_ok
    | (with_reducible refine State.dict_ok _ (dictWf_fireDict _ _ (State.Ok.dict (n := n) ?_)) ?_)
    | split
    | (with_reducible refine State.Ok.lit _ _ _ _ _ _ _ _ _ _ _ _ _ _ _ _ _ rfl rfl rfl rfl rfl rfl ?_)

theorem dictionaryChangeFireEffect_ok (n : Mark) (a1 : State) (a2) (ha1 : a1.Ok n) : (dictionaryChangeFireEffect a1 a2).Ok n := by
  unfold dictionaryChangeFireEffect
  repeat' first
    | with_reducible assumption
    | intro _
    | (extract_lets +onlyGivenNames z; first | (refine State.Ok.cut (n := n) z ?_ ?_ <;> [(intro _; clear_value z); subst z]) | (refine State.Ok.cutPair (n := n) z ?_ ?_ <;> [(intro _; clear_value z); subst z]) | clear_value z)
    | with_reducible apply State.Ok.ite
    | with_reducible apply State.modSet_ok
    | with_reducible apply State.jSetState_ok
    | with_reducible apply State.postpone_ok
    | with_reducible apply State.revalidateAfter_ok
    | with_reducible apply State.fireSet_ok
    | with_reducible apply State.markFired_ok
    | split

theorem execDictionaryChangeFire_ok (n : Mark) (a1) (a2) (a3 : State) (ha3 : a3.Ok n) : OkH n (execDictionaryChangeFire a1 a2 a3) := by
  unfold execDictionaryChangeFire
  refine act2_ok _ _ (fun s hs => ?_) ha3
  try dsimp only
  repeat' first
    | with_reducible assumption
    | intro _
    | (extract_lets +onlyGivenNames z; first | (refine State.Ok.cut (n := n) z ?_ ?_ <;> [(intro _; clear_value z); subst z]) | (refine State.Ok.cutPair (n := n) z ?_ ?_ <;> [(intro _; clear_value z); subst z]) | clear_value z)
    | with_reducible apply State.Ok.ite
    | with_reducible apply dictionaryChangeFireEffect_ok
    | split

end Sys2Proof.Machine
end

