-- ==== Sys2Proof/Laws/KeepSecurity.lean ====
section
/-! SUPPORT. Every operation of Security.lean keeps the invariant, and the local count does not run back. -/

set_option linter.all false

namespace Sys2Proof.Machine

theorem State.spdmSay_ok (n : Mark) (a1 : State) (a2) (a3) (a4) (ha1 : a1.Ok n) : (State.spdmSay a1 a2 a3 a4).Ok n := by
  unfold State.spdmSay
  repeat' first
    | with_reducible assumption
    | intro _
    | (extract_lets +onlyGivenNames z; first | (refine State.Ok.cut (n := n) z ?_ ?_ <;> [(intro _; clear_value z); subst z]) | (refine State.Ok.cutPair (n := n) z ?_ ?_ <;> [(intro _; clear_value z); subst z]) | clear_value z)
    | with_reducible apply State.Ok.ite
    | with_reducible apply State.emit_ok
    | split

theorem State.spdmError_ok (n : Mark) (a1 : State) (a2) (ha1 : a1.Ok n) : (State.spdmError a1 a2).Ok n := by
  unfold State.spdmError
  repeat' first
    | with_reducible assumption
    | intro _
    | (extract_lets +onlyGivenNames z; first | (refine State.Ok.cut (n := n) z ?_ ?_ <;> [(intro _; clear_value z); subst z]) | (refine State.Ok.cutPair (n := n) z ?_ ?_ <;> [(intro _; clear_value z); subst z]) | clear_value z)
    | with_reducible apply State.Ok.ite
    | with_reducible apply State.spdmSay_ok
    | split

theorem State.modSpdm_ok (n : Mark) (a1 : State) (a2) (a3) (a4) (ha1 : a1.Ok n) : (State.modSpdm a1 a2 a3 a4).Ok n := by
  unfold State.modSpdm
  repeat' first
    | with_reducible assumption
    | intro _
    | (extract_lets +onlyGivenNames z; first | (refine State.Ok.cut (n := n) z ?_ ?_ <;> [(intro _; clear_value z); subst z]) | (refine State.Ok.cutPair (n := n) z ?_ ?_ <;> [(intro _; clear_value z); subst z]) | clear_value z)
    | with_reducible apply State.Ok.ite
    | with_reducible apply State.modPart_ok
    | split

theorem State.endSpdm_ok (n : Mark) (a1 : State) (a2) (a3) (ha1 : a1.Ok n) : (State.endSpdm a1 a2 a3).Ok n := by
  unfold State.endSpdm
  repeat' first
    | with_reducible assumption
    | intro _
    | (extract_lets +onlyGivenNames z; first | (refine State.Ok.cut (n := n) z ?_ ?_ <;> [(intro _; clear_value z); subst z]) | (refine State.Ok.cutPair (n := n) z ?_ ?_ <;> [(intro _; clear_value z); subst z]) | clear_value z)
    | with_reducible apply State.Ok.ite
    | with_reducible apply State.modPart_ok
    | split

theorem getVersionEffect_ok (n : Mark) (a1 : State) (a2) (ha1 : a1.Ok n) : (getVersionEffect a1 a2).Ok n := by
  unfold getVersionEffect
  repeat' first
    | with_reducible assumption
    | intro _
    | (extract_lets +onlyGivenNames z; first | (refine State.Ok.cut (n := n) z ?_ ?_ <;> [(intro _; clear_value z); subst z]) | (refine State.Ok.cutPair (n := n) z ?_ ?_ <;> [(intro _; clear_value z); subst z]) | clear_value z)
    | with_reducible apply State.Ok.ite
    | with_reducible apply State.spdmSay_ok
    | split

theorem execGetVersion_ok (n : Mark) (a1) (a2) (a3 : State) (ha3 : a3.Ok n) : OkH n (execGetVersion a1 a2 a3) := by
  unfold execGetVersion
  refine act1_ok _ _ (fun s hs => ?_) ha3
  try dsimp only
  repeat' first
    | with_reducible assumption
    | intro _
    | (extract_lets +onlyGivenNames z; first | (refine State.Ok.cut (n := n) z ?_ ?_ <;> [(intro _; clear_value z); subst z]) | (refine State.Ok.cutPair (n := n) z ?_ ?_ <;> [(intro _; clear_value z); subst z]) | clear_value z)
    | with_reducible apply State.Ok.ite
    | with_reducible apply getVersionEffect_ok
    | split

theorem getCapabilitiesEffect_ok (n : Mark) (a1 : State) (a2) (ha1 : a1.Ok n) : (getCapabilitiesEffect a1 a2).Ok n := by
  unfold getCapabilitiesEffect
  repeat' first
    | with_reducible assumption
    | intro _
    | (extract_lets +onlyGivenNames z; first | (refine State.Ok.cut (n := n) z ?_ ?_ <;> [(intro _; clear_value z); subst z]) | (refine State.Ok.cutPair (n := n) z ?_ ?_ <;> [(intro _; clear_value z); subst z]) | clear_value z)
    | with_reducible apply State.Ok.ite
    | with_reducible apply State.spdmSay_ok
    | split

theorem execGetCapabilities_ok (n : Mark) (a1) (a2) (a3 : State) (ha3 : a3.Ok n) : OkH n (execGetCapabilities a1 a2 a3) := by
  unfold execGetCapabilities
  refine act1_ok _ _ (fun s hs => ?_) ha3
  try dsimp only
  repeat' first
    | with_reducible assumption
    | intro _
    | (extract_lets +onlyGivenNames z; first | (refine State.Ok.cut (n := n) z ?_ ?_ <;> [(intro _; clear_value z); subst z]) | (refine State.Ok.cutPair (n := n) z ?_ ?_ <;> [(intro _; clear_value z); subst z]) | clear_value z)
    | with_reducible apply State.Ok.ite
    | with_reducible apply getCapabilitiesEffect_ok
    | split

theorem negotiateAlgorithmsEffect_ok (n : Mark) (a1 : State) (a2) (ha1 : a1.Ok n) : (negotiateAlgorithmsEffect a1 a2).Ok n := by
  unfold negotiateAlgorithmsEffect
  repeat' first
    | with_reducible assumption
    | intro _
    | (extract_lets +onlyGivenNames z; first | (refine State.Ok.cut (n := n) z ?_ ?_ <;> [(intro _; clear_value z); subst z]) | (refine State.Ok.cutPair (n := n) z ?_ ?_ <;> [(intro _; clear_value z); subst z]) | clear_value z)
    | with_reducible apply State.Ok.ite
    | with_reducible apply State.spdmSay_ok
    | split

theorem execNegotiateAlgorithms_ok (n : Mark) (a1) (a2) (a3 : State) (ha3 : a3.Ok n) : OkH n (execNegotiateAlgorithms a1 a2 a3) := by
  unfold execNegotiateAlgorithms
  refine act1_ok _ _ (fun s hs => ?_) ha3
  try dsimp only
  repeat' first
    | with_reducible assumption
    | intro _
    | (extract_lets +onlyGivenNames z; first | (refine State.Ok.cut (n := n) z ?_ ?_ <;> [(intro _; clear_value z); subst z]) | (refine State.Ok.cutPair (n := n) z ?_ ?_ <;> [(intro _; clear_value z); subst z]) | clear_value z)
    | with_reducible apply State.Ok.ite
    | with_reducible apply negotiateAlgorithmsEffect_ok
    | split

theorem getDigestsEffect_ok (n : Mark) (a1 : State) (a2) (ha1 : a1.Ok n) : (getDigestsEffect a1 a2).Ok n := by
  unfold getDigestsEffect
  repeat' first
    | with_reducible assumption
    | intro _
    | (extract_lets +onlyGivenNames z; first | (refine State.Ok.cut (n := n) z ?_ ?_ <;> [(intro _; clear_value z); subst z]) | (refine State.Ok.cutPair (n := n) z ?_ ?_ <;> [(intro _; clear_value z); subst z]) | clear_value z)
    | with_reducible apply State.Ok.ite
    | with_reducible apply State.spdmSay_ok
    | split

theorem execGetDigests_ok (n : Mark) (a1) (a2) (a3 : State) (ha3 : a3.Ok n) : OkH n (execGetDigests a1 a2 a3) := by
  unfold execGetDigests
  refine act1_ok _ _ (fun s hs => ?_) ha3
  try dsimp only
  repeat' first
    | with_reducible assumption
    | intro _
    | (extract_lets +onlyGivenNames z; first | (refine State.Ok.cut (n := n) z ?_ ?_ <;> [(intro _; clear_value z); subst z]) | (refine State.Ok.cutPair (n := n) z ?_ ?_ <;> [(intro _; clear_value z); subst z]) | clear_value z)
    | with_reducible apply State.Ok.ite
    | with_reducible apply getDigestsEffect_ok
    | split

theorem getCertificateEffect_ok (n : Mark) (a1 : State) (a2) (a3) (ha1 : a1.Ok n) : (getCertificateEffect a1 a2 a3).Ok n := by
  unfold getCertificateEffect
  repeat' first
    | with_reducible assumption
    | intro _
    | (extract_lets +onlyGivenNames z; first | (refine State.Ok.cut (n := n) z ?_ ?_ <;> [(intro _; clear_value z); subst z]) | (refine State.Ok.cutPair (n := n) z ?_ ?_ <;> [(intro _; clear_value z); subst z]) | clear_value z)
    | with_reducible apply State.Ok.ite
    | with_reducible apply State.spdmSay_ok
    | with_reducible apply State.spdmError_ok
    | split

theorem execGetCertificate_ok (n : Mark) (a1) (a2) (a3) (a4 : State) (ha4 : a4.Ok n) : OkH n (execGetCertificate a1 a2 a3 a4) := by
  unfold execGetCertificate
  refine act1_ok _ _ (fun s hs => ?_) ha4
  try dsimp only
  repeat' first
    | with_reducible assumption
    | intro _
    | (extract_lets +onlyGivenNames z; first | (refine State.Ok.cut (n := n) z ?_ ?_ <;> [(intro _; clear_value z); subst z]) | (refine State.Ok.cutPair (n := n) z ?_ ?_ <;> [(intro _; clear_value z); subst z]) | clear_value z)
    | with_reducible apply State.Ok.ite
    | with_reducible apply getCertificateEffect_ok
    | split

theorem challengeEffect_ok (n : Mark) (a1 : State) (a2) (a3) (ha1 : a1.Ok n) : (challengeEffect a1 a2 a3).Ok n := by
  unfold challengeEffect
  repeat' first
    | with_reducible assumption
    | intro _
    | (extract_lets +onlyGivenNames z; first | (refine State.Ok.cut (n := n) z ?_ ?_ <;> [(intro _; clear_value z); subst z]) | (refine State.Ok.cutPair (n := n) z ?_ ?_ <;> [(intro _; clear_value z); subst z]) | clear_value z)
    | with_reducible apply State.Ok.ite
    | with_reducible apply State.spdmError_ok
    | with_reducible apply State.spdmSay_ok
    | with_reducible apply State.drew_ok
    | split

theorem execChallenge_ok (n : Mark) (a1) (a2) (a3) (a4 : State) (ha4 : a4.Ok n) : OkH n (execChallenge a1 a2 a3 a4) := by
  unfold execChallenge
  refine act1_ok _ _ (fun s hs => ?_) ha4
  try dsimp only
  repeat' first
    | with_reducible assumption
    | intro _
    | (extract_lets +onlyGivenNames z; first | (refine State.Ok.cut (n := n) z ?_ ?_ <;> [(intro _; clear_value z); subst z]) | (refine State.Ok.cutPair (n := n) z ?_ ?_ <;> [(intro _; clear_value z); subst z]) | clear_value z)
    | with_reducible apply State.Ok.ite
    | with_reducible apply challengeEffect_ok
    | split

theorem getMeasurementsEffect_ok (n : Mark) (a1 : State) (a2) (a3) (ha1 : a1.Ok n) : (getMeasurementsEffect a1 a2 a3).Ok n := by
  unfold getMeasurementsEffect
  repeat' first
    | with_reducible assumption
    | intro _
    | (extract_lets +onlyGivenNames z; first | (refine State.Ok.cut (n := n) z ?_ ?_ <;> [(intro _; clear_value z); subst z]) | (refine State.Ok.cutPair (n := n) z ?_ ?_ <;> [(intro _; clear_value z); subst z]) | clear_value z)
    | with_reducible apply State.Ok.ite
    | with_reducible apply State.spdmError_ok
    | with_reducible apply State.spdmSay_ok
    | with_reducible apply State.drew_ok
    | with_reducible apply foldl_ok
    | with_reducible apply foldlState_ok
    | split

theorem execGetMeasurements_ok (n : Mark) (a1) (a2) (a3) (a4 : State) (ha4 : a4.Ok n) : OkH n (execGetMeasurements a1 a2 a3 a4) := by
  unfold execGetMeasurements
  refine act1_ok _ _ (fun s hs => ?_) ha4
  try dsimp only
  repeat' first
    | with_reducible assumption
    | intro _
    | (extract_lets +onlyGivenNames z; first | (refine State.Ok.cut (n := n) z ?_ ?_ <;> [(intro _; clear_value z); subst z]) | (refine State.Ok.cutPair (n := n) z ?_ ?_ <;> [(intro _; clear_value z); subst z]) | clear_value z)
    | with_reducible apply State.Ok.ite
    | with_reducible apply getMeasurementsEffect_ok
    | split

theorem keyExchangeEffect_ok (n : Mark) (a1 : State) (a2) (a3) (ha1 : a1.Ok n) : (keyExchangeEffect a1 a2 a3).Ok n := by
  unfold keyExchangeEffect
  repeat' first
    | with_reducible assumption
    | intro _
    | (extract_lets +onlyGivenNames z; first | (refine State.Ok.cut (n := n) z ?_ ?_ <;> [(intro _; clear_value z); subst z]) | (refine State.Ok.cutPair (n := n) z ?_ ?_ <;> [(intro _; clear_value z); subst z]) | clear_value z)
    | with_reducible apply State.Ok.ite
    | with_reducible apply State.spdmError_ok
    | with_reducible apply State.modPart_ok
    | with_reducible apply State.spdmSay_ok
    | with_reducible apply State.drew_ok
    | split

theorem execKeyExchange_ok (n : Mark) (a1) (a2) (a3) (a4 : State) (ha4 : a4.Ok n) : OkH n (execKeyExchange a1 a2 a3 a4) := by
  unfold execKeyExchange
  refine act1_ok _ _ (fun s hs => ?_) ha4
  try dsimp only
  repeat' first
    | with_reducible assumption
    | intro _
    | (extract_lets +onlyGivenNames z; first | (refine State.Ok.cut (n := n) z ?_ ?_ <;> [(intro _; clear_value z); subst z]) | (refine State.Ok.cutPair (n := n) z ?_ ?_ <;> [(intro _; clear_value z); subst z]) | clear_value z)
    | with_reducible apply State.Ok.ite
    | with_reducible apply keyExchangeEffect_ok
    | split

theorem finishEffect_ok (n : Mark) (a1 : State) (a2) (a3) (a4) (ha1 : a1.Ok n) : (finishEffect a1 a2 a3 a4).Ok n := by
  unfold finishEffect
  repeat' first
    | with_reducible assumption
    | intro _
    | (extract_lets +onlyGivenNames z; first | (refine State.Ok.cut (n := n) z ?_ ?_ <;> [(intro _; clear_value z); subst z]) | (refine State.Ok.cutPair (n := n) z ?_ ?_ <;> [(intro _; clear_value z); subst z]) | clear_value z)
    | with_reducible apply State.Ok.ite
    | with_reducible apply State.spdmError_ok
    | with_reducible apply State.spdmSay_ok
    | with_reducible apply State.modSpdm_ok
    | with_reducible apply State.endSpdm_ok
    | split

theorem execFinish_ok (n : Mark) (a1) (a2) (a3) (a4) (a5 : State) (ha5 : a5.Ok n) : OkH n (execFinish a1 a2 a3 a4 a5) := by
  unfold execFinish
  refine act1_ok _ _ (fun s hs => ?_) ha5
  try dsimp only
  repeat' first
    | with_reducible assumption
    | intro _
    | (extract_lets +onlyGivenNames z; first | (refine State.Ok.cut (n := n) z ?_ ?_ <;> [(intro _; clear_value z); subst z]) | (refine State.Ok.cutPair (n := n) z ?_ ?_ <;> [(intro _; clear_value z); subst z]) | clear_value z)
    | with_reducible apply State.Ok.ite
    | with_reducible apply finishEffect_ok
    | split

theorem heartbeatEffect_ok (n : Mark) (a1 : State) (a2) (a3) (ha1 : a1.Ok n) : (heartbeatEffect a1 a2 a3).Ok n := by
  unfold heartbeatEffect
  repeat' first
    | with_reducible assumption
    | intro _
    | (extract_lets +onlyGivenNames z; first | (refine State.Ok.cut (n := n) z ?_ ?_ <;> [(intro _; clear_value z); subst z]) | (refine State.Ok.cutPair (n := n) z ?_ ?_ <;> [(intro _; clear_value z); subst z]) | clear_value z)
    | with_reducible apply State.Ok.ite
    | with_reducible apply State.spdmSay_ok
    | with_reducible apply State.spdmError_ok
    | split

theorem execHeartbeat_ok (n : Mark) (a1) (a2) (a3) (a4 : State) (ha4 : a4.Ok n) : OkH n (execHeartbeat a1 a2 a3 a4) := by
  unfold execHeartbeat
  refine act1_ok _ _ (fun s hs => ?_) ha4
  try dsimp only
  repeat' first
    | with_reducible assumption
    | intro _
    | (extract_lets +onlyGivenNames z; first | (refine State.Ok.cut (n := n) z ?_ ?_ <;> [(intro _; clear_value z); subst z]) | (refine State.Ok.cutPair (n := n) z ?_ ?_ <;> [(intro _; clear_value z); subst z]) | clear_value z)
    | with_reducible apply State.Ok.ite
    | with_reducible apply heartbeatEffect_ok
    | split

theorem keyUpdateEffect_ok (n : Mark) (a1 : State) (a2) (a3) (ha1 : a1.Ok n) : (keyUpdateEffect a1 a2 a3).Ok n := by
  unfold keyUpdateEffect
  repeat' first
    | with_reducible assumption
    | intro _
    | (extract_lets +onlyGivenNames z; first | (refine State.Ok.cut (n := n) z ?_ ?_ <;> [(intro _; clear_value z); subst z]) | (refine State.Ok.cutPair (n := n) z ?_ ?_ <;> [(intro _; clear_value z); subst z]) | clear_value z)
    | with_reducible apply State.Ok.ite
    | with_reducible apply State.spdmSay_ok
    | with_reducible apply State.modSpdm_ok
    | with_reducible apply State.spdmError_ok
    | split

theorem execKeyUpdate_ok (n : Mark) (a1) (a2) (a3) (a4 : State) (ha4 : a4.Ok n) : OkH n (execKeyUpdate a1 a2 a3 a4) := by
  unfold execKeyUpdate
  refine act1_ok _ _ (fun s hs => ?_) ha4
  try dsimp only
  repeat' first
    | with_reducible assumption
    | intro _
    | (extract_lets +onlyGivenNames z; first | (refine State.Ok.cut (n := n) z ?_ ?_ <;> [(intro _; clear_value z); subst z]) | (refine State.Ok.cutPair (n := n) z ?_ ?_ <;> [(intro _; clear_value z); subst z]) | clear_value z)
    | with_reducible apply State.Ok.ite
    | with_reducible apply keyUpdateEffect_ok
    | split

theorem endSessionEffect_ok (n : Mark) (a1 : State) (a2) (a3) (ha1 : a1.Ok n) : (endSessionEffect a1 a2 a3).Ok n := by
  unfold endSessionEffect
  repeat' first
    | with_reducible assumption
    | intro _
    | (extract_lets +onlyGivenNames z; first | (refine State.Ok.cut (n := n) z ?_ ?_ <;> [(intro _; clear_value z); subst z]) | (refine State.Ok.cutPair (n := n) z ?_ ?_ <;> [(intro _; clear_value z); subst z]) | clear_value z)
    | with_reducible apply State.Ok.ite
    | with_reducible apply State.spdmSay_ok
    | with_reducible apply State.endSpdm_ok
    | with_reducible apply State.spdmError_ok
    | split

theorem execEndSession_ok (n : Mark) (a1) (a2) (a3) (a4 : State) (ha4 : a4.Ok n) : OkH n (execEndSession a1 a2 a3 a4) := by
  unfold execEndSession
  refine act1_ok _ _ (fun s hs => ?_) ha4
  try dsimp only
  repeat' first
    | with_reducible assumption
    | intro _
    | (extract_lets +onlyGivenNames z; first | (refine State.Ok.cut (n := n) z ?_ ?_ <;> [(intro _; clear_value z); subst z]) | (refine State.Ok.cutPair (n := n) z ?_ ?_ <;> [(intro _; clear_value z); subst z]) | clear_value z)
    | with_reducible apply State.Ok.ite
    | with_reducible apply endSessionEffect_ok
    | split

theorem ideKmRequestEffect_ok (n : Mark) (a1 : State) (a2) (a3) (a4) (a5) (ha1 : a1.Ok n) : (ideKmRequestEffect a1 a2 a3 a4 a5).Ok n := by
  unfold ideKmRequestEffect
  repeat' first
    | with_reducible assumption
    | intro _
    | (extract_lets +onlyGivenNames z; first | (refine State.Ok.cut (n := n) z ?_ ?_ <;> [(intro _; clear_value z); subst z]) | (refine State.Ok.cutPair (n := n) z ?_ ?_ <;> [(intro _; clear_value z); subst z]) | clear_value z)
    | with_reducible apply State.Ok.ite
    | with_reducible apply State.spdmError_ok
    | with_reducible apply State.spdmSay_ok
    | with_reducible apply State.modPart_ok
    | split

theorem execIdeKmRequest_ok (n : Mark) (a1) (a2) (a3) (a4) (a5) (a6 : State) (ha6 : a6.Ok n) : OkH n (execIdeKmRequest a1 a2 a3 a4 a5 a6) := by
  unfold execIdeKmRequest
  refine act1_ok _ _ (fun s hs => ?_) ha6
  try dsimp only
  repeat' first
    | with_reducible assumption
    | intro _
    | (extract_lets +onlyGivenNames z; first | (refine State.Ok.cut (n := n) z ?_ ?_ <;> [(intro _; clear_value z); subst z]) | (refine State.Ok.cutPair (n := n) z ?_ ?_ <;> [(intro _; clear_value z); subst z]) | clear_value z)
    | with_reducible apply State.Ok.ite
    | with_reducible apply ideKmRequestEffect_ok
    | split

theorem State.ideFail_ok (n : Mark) (a1 : State) (a2) (ha1 : a1.Ok n) : (State.ideFail a1 a2).Ok n := by
  unfold State.ideFail
  repeat' first
    | with_reducible assumption
    | intro _
    | (extract_lets +onlyGivenNames z; first | (refine State.Ok.cut (n := n) z ?_ ?_ <;> [(intro _; clear_value z); subst z]) | (refine State.Ok.cutPair (n := n) z ?_ ?_ <;> [(intro _; clear_value z); subst z]) | clear_value z)
    | with_reducible apply State.Ok.ite
    | with_reducible apply State.noteFree_ok
    | (with_reducible refine State.modSec_ok _ rfl ?_)
    | split

theorem ideEstablishTimeoutEffect_ok (n : Mark) (a1 : State) (a2) (ha1 : a1.Ok n) : (ideEstablishTimeoutEffect a1 a2).Ok n := by
  unfold ideEstablishTimeoutEffect
  repeat' first
    | with_reducible assumption
    | intro _
    | (extract_lets +onlyGivenNames z; first | (refine State.Ok.cut (n := n) z ?_ ?_ <;> [(intro _; clear_value z); subst z]) | (refine State.Ok.cutPair (n := n) z ?_ ?_ <;> [(intro _; clear_value z); subst z]) | clear_value z)
    | with_reducible apply State.Ok.ite
    | with_reducible apply State.ideFail_ok
    | split

theorem execIdeEstablishTimeout_ok (n : Mark) (a1) (a2) (a3 : State) (ha3 : a3.Ok n) : OkH n (execIdeEstablishTimeout a1 a2 a3) := by
  unfold execIdeEstablishTimeout
  refine act2_ok _ _ (fun s hs => ?_) ha3
  try dsimp only
  repeat' first
    | with_reducible assumption
    | intro _
    | (extract_lets +onlyGivenNames z; first | (refine State.Ok.cut (n := n) z ?_ ?_ <;> [(intro _; clear_value z); subst z]) | (refine State.Ok.cutPair (n := n) z ?_ ?_ <;> [(intro _; clear_value z); subst z]) | clear_value z)
    | with_reducible apply State.Ok.ite
    | with_reducible apply ideEstablishTimeoutEffect_ok
    | split

theorem ideStreamInsecureEffect_ok (n : Mark) (a1 : State) (a2) (ha1 : a1.Ok n) : (ideStreamInsecureEffect a1 a2).Ok n := by
  unfold ideStreamInsecureEffect
  repeat' first
    | with_reducible assumption
    | intro _
    | (extract_lets +onlyGivenNames z; first | (refine State.Ok.cut (n := n) z ?_ ?_ <;> [(intro _; clear_value z); subst z]) | (refine State.Ok.cutPair (n := n) z ?_ ?_ <;> [(intro _; clear_value z); subst z]) | clear_value z)
    | with_reducible apply State.Ok.ite
    | with_reducible apply State.ideFail_ok
    | (with_reducible refine State.modSec_ok _ rfl ?_)
    | split

theorem execIdeStreamInsecure_ok (n : Mark) (a1) (a2) (a3 : State) (ha3 : a3.Ok n) : OkH n (execIdeStreamInsecure a1 a2 a3) := by
  unfold execIdeStreamInsecure
  refine act2_ok _ _ (fun s hs => ?_) ha3
  try dsimp only
  repeat' first
    | with_reducible assumption
    | intro _
    | (extract_lets +onlyGivenNames z; first | (refine State.Ok.cut (n := n) z ?_ ?_ <;> [(intro _; clear_value z); subst z]) | (refine State.Ok.cutPair (n := n) z ?_ ?_ <;> [(intro _; clear_value z); subst z]) | clear_value z)
    | with_reducible apply State.Ok.ite
    | with_reducible apply ideStreamInsecureEffect_ok
    | split

theorem ideCheckFailEffect_ok (n : Mark) (a1 : State) (a2) (ha1 : a1.Ok n) : (ideCheckFailEffect a1 a2).Ok n := by
  unfold ideCheckFailEffect
  repeat' first
    | with_reducible assumption
    | intro _
    | (extract_lets +onlyGivenNames z; first | (refine State.Ok.cut (n := n) z ?_ ?_ <;> [(intro _; clear_value z); subst z]) | (refine State.Ok.cutPair (n := n) z ?_ ?_ <;> [(intro _; clear_value z); subst z]) | clear_value z)
    | with_reducible apply State.Ok.ite
    | with_reducible apply State.noteFree_ok
    | split

theorem execIdeCheckFail_ok (n : Mark) (a1) (a2) (a3 : State) (ha3 : a3.Ok n) : OkH n (execIdeCheckFail a1 a2 a3) := by
  unfold execIdeCheckFail
  refine act2_ok _ _ (fun s hs => ?_) ha3
  try dsimp only
  repeat' first
    | with_reducible assumption
    | intro _
    | (extract_lets +onlyGivenNames z; first | (refine State.Ok.cut (n := n) z ?_ ?_ <;> [(intro _; clear_value z); subst z]) | (refine State.Ok.cutPair (n := n) z ?_ ?_ <;> [(intro _; clear_value z); subst z]) | clear_value z)
    | with_reducible apply State.Ok.ite
    | with_reducible apply ideCheckFailEffect_ok
    | split

theorem State.endHold_ok (n : Mark) (a1 : State) (ha1 : a1.Ok n) : (State.endHold a1).Ok n := by
  unfold State.endHold
  repeat' first
    | with_reducible assumption
    | intro _
    | (extract_lets +onlyGivenNames z; first | (refine State.Ok.cut (n := n) z ?_ ?_ <;> [(intro _; clear_value z); subst z]) | (refine State.Ok.cutPair (n := n) z ?_ ?_ <;> [(intro _; clear_value z); subst z]) | clear_value z)
    | with_reducible apply State.Ok.ite
    | with_reducible apply State.startTraining_ok
    | (with_reducible refine State.modJournal_ok _ rfl ?_)
    | (with_reducible refine State.modSec_ok _ rfl ?_)
    | split

theorem testHoldTimeoutEffect_ok (n : Mark) (a1 : State) (ha1 : a1.Ok n) : (testHoldTimeoutEffect a1).Ok n := by
  unfold testHoldTimeoutEffect
  repeat' first
    | with_reducible assumption
    | intro _
    | (extract_lets +onlyGivenNames z; first | (refine State.Ok.cut (n := n) z ?_ ?_ <;> [(intro _; clear_value z); subst z]) | (refine State.Ok.cutPair (n := n) z ?_ ?_ <;> [(intro _; clear_value z); subst z]) | clear_value z)
    | with_reducible apply State.Ok.ite
    | with_reducible apply State.endHold_ok
    | split

theorem execTestHoldTimeout_ok (n : Mark) (a1) (a2 : State) (ha2 : a2.Ok n) : OkH n (execTestHoldTimeout a1 a2) := by
  unfold execTestHoldTimeout
  refine act1_ok _ _ (fun s hs => ?_) ha2
  try dsimp only
  repeat' first
    | with_reducible assumption
    | intro _
    | (extract_lets +onlyGivenNames z; first | (refine State.Ok.cut (n := n) z ?_ ?_ <;> [(intro _; clear_value z); subst z]) | (refine State.Ok.cutPair (n := n) z ?_ ?_ <;> [(intro _; clear_value z); subst z]) | clear_value z)
    | with_reducible apply State.Ok.ite
    | with_reducible apply testHoldTimeoutEffect_ok
    | split

theorem testStrapReleaseEffect_ok (n : Mark) (a1 : State) (ha1 : a1.Ok n) : (testStrapReleaseEffect a1).Ok n := by
  unfold testStrapReleaseEffect
  repeat' first
    | with_reducible assumption
    | intro _
    | (extract_lets +onlyGivenNames z; first | (refine State.Ok.cut (n := n) z ?_ ?_ <;> [(intro _; clear_value z); subst z]) | (refine State.Ok.cutPair (n := n) z ?_ ?_ <;> [(intro _; clear_value z); subst z]) | clear_value z)
    | with_reducible apply State.Ok.ite
    | with_reducible apply State.endHold_ok
    | (with_reducible refine State.modSec_ok _ rfl ?_)
    | split

theorem execTestStrapRelease_ok (n : Mark) (a1) (a2 : State) (ha2 : a2.Ok n) : OkH n (execTestStrapRelease a1 a2) := by
  unfold execTestStrapRelease
  refine act1_ok _ _ (fun s hs => ?_) ha2
  try dsimp only
  repeat' first
    | with_reducible assumption
    | intro _
    | (extract_lets +onlyGivenNames z; first | (refine State.Ok.cut (n := n) z ?_ ?_ <;> [(intro _; clear_value z); subst z]) | (refine State.Ok.cutPair (n := n) z ?_ ?_ <;> [(intro _; clear_value z); subst z]) | clear_value z)
    | with_reducible apply State.Ok.ite
    | with_reducible apply testStrapReleaseEffect_ok
    | split

theorem State.zeroize_ok (n : Mark) (a1 : State) (a2) (ha1 : a1.Ok n) : (State.zeroize a1 a2).Ok n := by
  unfold State.zeroize
  have h0 : (a1.endHold).Ok n := State.endHold_ok _ _ ha1
  refine State.noteFree_ok _ _ _ _ (State.jNow_ok _ _ _ (State.each_ok _ _ (fun s l h => State.powerLimb_ok _ _ _ h) (State.modTime_ok _ _ _ ?_)))
  exact ⟨⟨rfl, rfl, rfl, h0.1.counters, h0.1.trunks, h0.1.hports, h0.1.lanes, (List.length_map ..).trans h0.1.parts, List.length_replicate⟩,
    h0.2.now, fun _ => rfl, h0.2.latch⟩

end Sys2Proof.Machine
end

