-- ==== Sys2Proof/Laws/KeepDictionary.lean ====
section
/-! SUPPORT. Every operation of Dictionary.lean keeps the invariant, and the local count does not run back. -/

set_option linter.all false

namespace Sys2Proof.Machine

theorem State.mailboxAnswer_ok (n : Mark) (a1 : State) (a2) (a3) (ha1 : a1.Ok n) : (State.mailboxAnswer a1 a2 a3).Ok n := by
  unfold State.mailboxAnswer
  repeat' first
    | with_reducible assumption
    | intro _
    | (extract_lets +onlyGivenNames z; first | (refine State.Ok.cut (n := n) z ?_ ?_ <;> [(intro _; clear_value z); subst z]) | (refine State.Ok.cutPair (n := n) z ?_ ?_ <;> [(intro _; clear_value z); subst z]) | clear_value z)
    | with_reducible apply State.Ok.ite
    | with_reducible apply State.modPart_ok
    | with_reducible apply State.vector_ok
    | split

theorem State.deliverAnswer_ok (n : Mark) (a1 : State) (a2) (a3) (a4) (ha1 : a1.Ok n) : (State.deliverAnswer a1 a2 a3 a4).Ok n := by
  unfold State.deliverAnswer
  repeat' first
    | with_reducible assumption
    | intro _
    | (extract_lets +onlyGivenNames z; first | (refine State.Ok.cut (n := n) z ?_ ?_ <;> [(intro _; clear_value z); subst z]) | (refine State.Ok.cutPair (n := n) z ?_ ?_ <;> [(intro _; clear_value z); subst z]) | clear_value z)
    | with_reducible apply State.Ok.ite
    | with_reducible apply State.mailboxAnswer_ok
    | with_reducible apply State.emit_ok
    | split

theorem State.authEvent_ok (n : Mark) (a1 : State) (a2) (ha1 : a1.Ok n) : (State.authEvent a1 a2).Ok n := by
  unfold State.authEvent
  repeat' first
    | with_reducible assumption
    | intro _
    | (extract_lets +onlyGivenNames z; first | (refine State.Ok.cut (n := n) z ?_ ?_ <;> [(intro _; clear_value z); subst z]) | (refine State.Ok.cutPair (n := n) z ?_ ?_ <;> [(intro _; clear_value z); subst z]) | clear_value z)
    | with_reducible apply State.Ok.ite
    | with_reducible apply State.noteFree_ok
    | split

theorem State.countAnswer_ok (n : Mark) (a1 : State) (a2) (ha1 : a1.Ok n) : (State.countAnswer a1 a2).Ok n := by
  unfold State.countAnswer
  repeat' first
    | with_reducible assumption
    | intro _
    | (extract_lets +onlyGivenNames z; first | (refine State.Ok.cut (n := n) z ?_ ?_ <;> [(intro _; clear_value z); subst z]) | (refine State.Ok.cutPair (n := n) z ?_ ?_ <;> [(intro _; clear_value z); subst z]) | clear_value z)
    | with_reducible apply State.Ok.ite
    | with_reducible apply State.countHeart_ok
    | split

theorem State.cacheAnswer_ok (n : Mark) (a1 : State) (a2) (a3) (ha1 : a1.Ok n) : (State.cacheAnswer a1 a2 a3).Ok n := by
  unfold State.cacheAnswer
  repeat' first
    | with_reducible assumption
    | intro _
    | (extract_lets +onlyGivenNames z; first | (refine State.Ok.cut (n := n) z ?_ ?_ <;> [(intro _; clear_value z); subst z]) | (refine State.Ok.cutPair (n := n) z ?_ ?_ <;> [(intro _; clear_value z); subst z]) | clear_value z)
    | with_reducible apply State.Ok.ite
    | with_reducible apply State.modBocel_ok
    | split

theorem State.sendNotes_ok (n : Mark) (a1 : State) (ha1 : a1.Ok n) : (State.sendNotes a1).Ok n := by
  unfold State.sendNotes
  repeat' first
    | with_reducible assumption
    | intro _
    | (extract_lets +onlyGivenNames z; first | (refine State.Ok.cut (n := n) z ?_ ?_ <;> [(intro _; clear_value z); subst z]) | (refine State.Ok.cutPair (n := n) z ?_ ?_ <;> [(intro _; clear_value z); subst z]) | clear_value z)
    | with_reducible apply State.Ok.ite
    | with_reducible apply State.countHeart_ok
    | with_reducible apply State.drainNotes_ok
    | split

theorem State.respond_ok (n : Mark) (a1 : State) (a2) (a3) (ha1 : a1.Ok n) : (State.respond a1 a2 a3).Ok n := by
  unfold State.respond
  repeat' first
    | with_reducible assumption
    | intro _
    | (extract_lets +onlyGivenNames z; first | (refine State.Ok.cut (n := n) z ?_ ?_ <;> [(intro _; clear_value z); subst z]) | (refine State.Ok.cutPair (n := n) z ?_ ?_ <;> [(intro _; clear_value z); subst z]) | clear_value z)
    | with_reducible apply State.Ok.ite
    | with_reducible apply State.authEvent_ok
    | with_reducible apply State.countAnswer_ok
    | with_reducible apply State.cacheAnswer_ok
    | with_reducible apply State.deliverAnswer_ok
    | with_reducible apply State.modBocel_ok
    | split

theorem State.replay_ok (n : Mark) (a1 : State) (a2) (a3) (ha1 : a1.Ok n) : (State.replay a1 a2 a3).Ok n := by
  unfold State.replay
  repeat' first
    | with_reducible assumption
    | intro _
    | (extract_lets +onlyGivenNames z; first | (refine State.Ok.cut (n := n) z ?_ ?_ <;> [(intro _; clear_value z); subst z]) | (refine State.Ok.cutPair (n := n) z ?_ ?_ <;> [(intro _; clear_value z); subst z]) | clear_value z)
    | with_reducible apply State.Ok.ite
    | with_reducible apply State.deliverAnswer_ok
    | with_reducible apply State.countHeart_ok
    | with_reducible apply State.modBocel_ok
    | split

theorem State.touchSession_ok (n : Mark) (a1 : State) (a2) (ha1 : a1.Ok n) : (State.touchSession a1 a2).Ok n := by
  unfold State.touchSession
  repeat' first
    | with_reducible assumption
    | intro _
    | (extract_lets +onlyGivenNames z; first | (refine State.Ok.cut (n := n) z ?_ ?_ <;> [(intro _; clear_value z); subst z]) | (refine State.Ok.cutPair (n := n) z ?_ ?_ <;> [(intro _; clear_value z); subst z]) | clear_value z)
    | with_reducible apply State.Ok.ite
    | with_reducible apply State.modBocel_ok
    | split

theorem State.finishWith_ok (n : Mark) (a1 : State) (a2) (a3) (a4) (ha1 : a1.Ok n) : (State.finishWith a1 a2 a3 a4).Ok n := by
  unfold State.finishWith
  repeat' first
    | with_reducible assumption
    | intro _
    | (extract_lets +onlyGivenNames z; first | (refine State.Ok.cut (n := n) z ?_ ?_ <;> [(intro _; clear_value z); subst z]) | (refine State.Ok.cutPair (n := n) z ?_ ?_ <;> [(intro _; clear_value z); subst z]) | clear_value z)
    | with_reducible apply State.Ok.ite
    | with_reducible apply State.jForm_ok
    | with_reducible apply State.respond_ok
    | split

theorem State.refuseReq_ok (n : Mark) (a1 : State) (a2) (a3) (a4) (a5) (a6) (a7) (a8) (ha1 : a1.Ok n) : (State.refuseReq a1 a2 a3 a4 a5 a6 a7 a8).Ok n := by
  unfold State.refuseReq
  repeat' first
    | with_reducible assumption
    | intro _
    | (extract_lets +onlyGivenNames z; first | (refine State.Ok.cut (n := n) z ?_ ?_ <;> [(intro _; clear_value z); subst z]) | (refine State.Ok.cutPair (n := n) z ?_ ?_ <;> [(intro _; clear_value z); subst z]) | clear_value z)
    | with_reducible apply State.Ok.ite
    | with_reducible apply State.finishWith_ok
    | split

theorem State.serveRead_ok (n : Mark) (a1 : State) (a2) (a3) (a4) (a5) (a6) (ha1 : a1.Ok n) : (State.serveRead a1 a2 a3 a4 a5 a6).Ok n := by
  unfold State.serveRead
  repeat' first
    | with_reducible assumption
    | intro _
    | (extract_lets +onlyGivenNames z; first | (refine State.Ok.cut (n := n) z ?_ ?_ <;> [(intro _; clear_value z); subst z]) | (refine State.Ok.cutPair (n := n) z ?_ ?_ <;> [(intro _; clear_value z); subst z]) | clear_value z)
    | with_reducible apply State.Ok.ite
    | with_reducible apply State.refuseReq_ok
    | with_reducible apply State.finishWith_ok
    | with_reducible apply State.drew_ok
    | split

theorem State.serveWrite_ok (n : Mark) (a1 : State) (a2) (a3) (a4) (a5) (a6) (a7) (a8) (ha1 : a1.Ok n) : (State.serveWrite a1 a2 a3 a4 a5 a6 a7 a8).Ok n := by
  unfold State.serveWrite
  repeat' first
    | with_reducible assumption
    | intro _
    | (extract_lets +onlyGivenNames z; first | (refine State.Ok.cut (n := n) z ?_ ?_ <;> [(intro _; clear_value z); subst z]) | (refine State.Ok.cutPair (n := n) z ?_ ?_ <;> [(intro _; clear_value z); subst z]) | (refine State.Ok.cutFun (n := n) z ?_ ?_ <;> [(intro _; clear_value z); subst z]) | (refine State.Ok.cutFun2 (n := n) z ?_ ?_ <;> [(intro _; clear_value z); subst z]) | (refine State.Ok.cutFun3 (n := n) z ?_ ?_ <;> [(intro _; clear_value z); subst z]) | (refine State.Ok.cutFun4 (n := n) z ?_ ?_ <;> [(intro _; clear_value z); subst z]) | (refine State.Ok.cutFun5 (n := n) z ?_ ?_ <;> [(intro _; clear_value z); subst z]) | (refine State.Ok.cutFun6 (n := n) z ?_ ?_ <;> [(intro _; clear_value z); subst z]) | (refine State.Ok.cutFun7 (n := n) z ?_ ?_ <;> [(intro _; clear_value z); subst z]) | clear_value z)
    | with_reducible apply State.Ok.ite
    | with_reducible apply_assumption
    | with_reducible apply State.refuseReq_ok
    | with_reducible apply State.respond_ok
    | with_reducible apply State.jForm_ok
    | with_reducible apply State.applyWrite_ok
    | split

theorem State.serveOpenSet_ok (n : Mark) (a1 : State) (a2) (a3) (a4) (a5) (a6) (ha1 : a1.Ok n) : (State.serveOpenSet a1 a2 a3 a4 a5 a6).Ok n := by
  unfold State.serveOpenSet
  repeat' first
    | with_reducible assumption
    | intro _
    | (extract_lets +onlyGivenNames z; first | (refine State.Ok.cut (n := n) z ?_ ?_ <;> [(intro _; clear_value z); subst z]) | (refine State.Ok.cutPair (n := n) z ?_ ?_ <;> [(intro _; clear_value z); subst z]) | (refine State.Ok.cutFun (n := n) z ?_ ?_ <;> [(intro _; clear_value z); subst z]) | (refine State.Ok.cutFun2 (n := n) z ?_ ?_ <;> [(intro _; clear_value z); subst z]) | (refine State.Ok.cutFun3 (n := n) z ?_ ?_ <;> [(intro _; clear_value z); subst z]) | (refine State.Ok.cutFun4 (n := n) z ?_ ?_ <;> [(intro _; clear_value z); subst z]) | (refine State.Ok.cutFun5 (n := n) z ?_ ?_ <;> [(intro _; clear_value z); subst z]) | (refine State.Ok.cutFun6 (n := n) z ?_ ?_ <;> [(intro _; clear_value z); subst z]) | (refine State.Ok.cutFun7 (n := n) z ?_ ?_ <;> [(intro _; clear_value z); subst z]) | clear_value z)
    | with_reducible apply State.Ok.ite
    | with_reducible apply_assumption
    | with_reducible apply State.refuseReq_ok
    | with_reducible apply State.finishWith_ok
    | with_reducible apply State.modBocel_ok
    | split

theorem State.touchSet_ok (n : Mark) (a1 : State) (a2) (ha1 : a1.Ok n) : (State.touchSet a1 a2).Ok n := by
  unfold State.touchSet
  repeat' first
    | with_reducible assumption
    | intro _
    | (extract_lets +onlyGivenNames z; first | (refine State.Ok.cut (n := n) z ?_ ?_ <;> [(intro _; clear_value z); subst z]) | (refine State.Ok.cutPair (n := n) z ?_ ?_ <;> [(intro _; clear_value z); subst z]) | clear_value z)
    | with_reducible apply State.Ok.ite
    | with_reducible apply State.modSet_ok
    | split

theorem State.serveStage_ok (n : Mark) (a1 : State) (a2) (a3) (a4) (a5) (a6) (a7) (a8) (a9) (a10) (ha1 : a1.Ok n) : (State.serveStage a1 a2 a3 a4 a5 a6 a7 a8 a9 a10).Ok n := by
  unfold State.serveStage
  repeat' first
    | with_reducible assumption
    | intro _
    | (extract_lets +onlyGivenNames z; first | (refine State.Ok.cut (n := n) z ?_ ?_ <;> [(intro _; clear_value z); subst z]) | (refine State.Ok.cutPair (n := n) z ?_ ?_ <;> [(intro _; clear_value z); subst z]) | (refine State.Ok.cutFun (n := n) z ?_ ?_ <;> [(intro _; clear_value z); subst z]) | (refine State.Ok.cutFun2 (n := n) z ?_ ?_ <;> [(intro _; clear_value z); subst z]) | (refine State.Ok.cutFun3 (n := n) z ?_ ?_ <;> [(intro _; clear_value z); subst z]) | (refine State.Ok.cutFun4 (n := n) z ?_ ?_ <;> [(intro _; clear_value z); subst z]) | (refine State.Ok.cutFun5 (n := n) z ?_ ?_ <;> [(intro _; clear_value z); subst z]) | (refine State.Ok.cutFun6 (n := n) z ?_ ?_ <;> [(intro _; clear_value z); subst z]) | (refine State.Ok.cutFun7 (n := n) z ?_ ?_ <;> [(intro _; clear_value z); subst z]) | clear_value z)
    | with_reducible apply State.Ok.ite
    | with_reducible apply_assumption
    | with_reducible apply State.refuseReq_ok
    | with_reducible apply State.touchSet_ok
    | with_reducible apply State.finishWith_ok
    | with_reducible apply State.modSet_ok
    | split

theorem State.keySeqNow_ok (n : Mark) (a1 : State) (a2) (a3) (ha1 : a1.Ok n) : (State.keySeqNow a1 a2 a3).Ok n := by
  unfold State.keySeqNow
  repeat' first
    | with_reducible assumption
    | intro _
    | (extract_lets +onlyGivenNames z; first | (refine State.Ok.cut (n := n) z ?_ ?_ <;> [(intro _; clear_value z); subst z]) | (refine State.Ok.cutPair (n := n) z ?_ ?_ <;> [(intro _; clear_value z); subst z]) | clear_value z)
    | with_reducible apply State.Ok.ite
    | with_reducible apply State.jForm_ok
    | split

theorem State.serveCommit_ok (n : Mark) (a1 : State) (a2) (a3) (a4) (a5) (a6) (a7) (a8) (a9) (ha1 : a1.Ok n) : (State.serveCommit a1 a2 a3 a4 a5 a6 a7 a8 a9).Ok n := by
  unfold State.serveCommit
  repeat' first
    | with_reducible assumption
    | intro _
    | (extract_lets +onlyGivenNames z; first | (refine State.Ok.cut (n := n) z ?_ ?_ <;> [(intro _; clear_value z); subst z]) | (refine State.Ok.cutPair (n := n) z ?_ ?_ <;> [(intro _; clear_value z); subst z]) | (refine State.Ok.cutFun (n := n) z ?_ ?_ <;> [(intro _; clear_value z); subst z]) | (refine State.Ok.cutFun2 (n := n) z ?_ ?_ <;> [(intro _; clear_value z); subst z]) | (refine State.Ok.cutFun3 (n := n) z ?_ ?_ <;> [(intro _; clear_value z); subst z]) | (refine State.Ok.cutFun4 (n := n) z ?_ ?_ <;> [(intro _; clear_value z); subst z]) | (refine State.Ok.cutFun5 (n := n) z ?_ ?_ <;> [(intro _; clear_value z); subst z]) | (refine State.Ok.cutFun6 (n := n) z ?_ ?_ <;> [(intro _; clear_value z); subst z]) | (refine State.Ok.cutFun7 (n := n) z ?_ ?_ <;> [(intro _; clear_value z); subst z]) | clear_value z)
    | with_reducible apply State.Ok.ite
    | with_reducible apply_assumption
    | with_reducible apply State.refuseReq_ok
    | with_reducible apply State.touchSet_ok
    | with_reducible apply State.modSet_ok
    | with_reducible apply State.keySeqNow_ok
    | split

theorem State.serveCancel_ok (n : Mark) (a1 : State) (a2) (a3) (a4) (a5) (a6) (a7) (ha1 : a1.Ok n) : (State.serveCancel a1 a2 a3 a4 a5 a6 a7).Ok n := by
  unfold State.serveCancel
  repeat' first
    | with_reducible assumption
    | intro _
    | (extract_lets +onlyGivenNames z; first | (refine State.Ok.cut (n := n) z ?_ ?_ <;> [(intro _; clear_value z); subst z]) | (refine State.Ok.cutPair (n := n) z ?_ ?_ <;> [(intro _; clear_value z); subst z]) | (refine State.Ok.cutFun (n := n) z ?_ ?_ <;> [(intro _; clear_value z); subst z]) | (refine State.Ok.cutFun2 (n := n) z ?_ ?_ <;> [(intro _; clear_value z); subst z]) | (refine State.Ok.cutFun3 (n := n) z ?_ ?_ <;> [(intro _; clear_value z); subst z]) | (refine State.Ok.cutFun4 (n := n) z ?_ ?_ <;> [(intro _; clear_value z); subst z]) | (refine State.Ok.cutFun5 (n := n) z ?_ ?_ <;> [(intro _; clear_value z); subst z]) | (refine State.Ok.cutFun6 (n := n) z ?_ ?_ <;> [(intro _; clear_value z); subst z]) | (refine State.Ok.cutFun7 (n := n) z ?_ ?_ <;> [(intro _; clear_value z); subst z]) | clear_value z)
    | with_reducible apply State.Ok.ite
    | with_reducible apply_assumption
    | with_reducible apply State.refuseReq_ok
    | with_reducible apply State.touchSet_ok
    | with_reducible apply State.modSet_ok
    | with_reducible apply State.finishWith_ok
    | with_reducible apply State.keySeqNow_ok
    | with_reducible apply State.jForm_ok
    | with_reducible apply State.actDrop_ok
    | with_reducible apply State.revalidateAfter_ok
    | split

theorem State.serveSetStatus_ok (n : Mark) (a1 : State) (a2) (a3) (a4) (ha1 : a1.Ok n) : (State.serveSetStatus a1 a2 a3 a4).Ok n := by
  unfold State.serveSetStatus
  repeat' first
    | with_reducible assumption
    | intro _
    | (extract_lets +onlyGivenNames z; first | (refine State.Ok.cut (n := n) z ?_ ?_ <;> [(intro _; clear_value z); subst z]) | (refine State.Ok.cutPair (n := n) z ?_ ?_ <;> [(intro _; clear_value z); subst z]) | clear_value z)
    | with_reducible apply State.Ok.ite
    | with_reducible apply State.refuseReq_ok
    | with_reducible apply State.finishWith_ok
    | with_reducible apply State.touchSet_ok
    | split

theorem State.answerCommit_ok (n : Mark) (a1 : State) (a2) (a3) (ha1 : a1.Ok n) : (State.answerCommit a1 a2 a3).Ok n := by
  unfold State.answerCommit
  repeat' first
    | with_reducible assumption
    | intro _
    | (extract_lets +onlyGivenNames z; first | (refine State.Ok.cut (n := n) z ?_ ?_ <;> [(intro _; clear_value z); subst z]) | (refine State.Ok.cutPair (n := n) z ?_ ?_ <;> [(intro _; clear_value z); subst z]) | clear_value z)
    | with_reducible apply State.Ok.ite
    | with_reducible apply State.respond_ok
    | with_reducible apply State.modSet_ok
    | split

theorem setValidatedEffect_ok (n : Mark) (a1 : State) (a2) (ha1 : a1.Ok n) : (setValidatedEffect a1 a2).Ok n := by
  unfold setValidatedEffect
  split
  · exact ha1
  · refine .ite ha1 (.ite (State.answerCommit_ok _ _ _ _ ha1) ?_)
    split
    · exact .ite (State.revalidateAfter_ok _ _ _ (State.answerCommit_ok _ _ _ _ (State.setRefuse_ok _ _ _ _ ha1)))
        (State.answerCommit_ok _ _ _ _ (State.setRefuse_ok _ _ _ _ ha1))
    · extract_lets +onlyGivenNames placed
      have hp : State.OkOP n placed := by
        simp only [placed]
        split
        · refine State.OkOP.some_ ?_
          dsimp only
          apply State.modAct_ok
          exact ha1
        · split
          · rename_i h
            refine State.OkOP.some_ ?_
            exact State.OkO.get (State.actPut_ok _ _ _ _ _ _ _ ha1) h
          · exact .none_
      clear_value placed
      cases placed with
      | none => exact State.answerCommit_ok _ _ _ _ (State.modSet_ok _ _ _ _ ha1)
      | some q => exact State.jForm_ok _ _ _ _ _ _ _ _ _ (State.modSet_ok _ _ _ _ (hp.of_eq q rfl))

theorem execPartContain_ok (n : Mark) (a1) (a2) (a3) (a4 : State) (ha4 : a4.Ok n) : OkH n (execPartContain a1 a2 a3 a4) := by
  unfold execPartContain
  exact act2_ok _ _ (fun s hs => Verdict.state_ok _ _ _ (State.containBy_ok _ _ _ _ hs) hs) ha4

theorem execSetValidated_ok (n : Mark) (a1) (a2) (a3 : State) (ha3 : a3.Ok n) : OkH n (execSetValidated a1 a2 a3) := by
  unfold execSetValidated
  refine act2_ok _ _ (fun s hs => ?_) ha3
  try dsimp only
  repeat' first
    | with_reducible assumption
    | intro _
    | (extract_lets +onlyGivenNames z; first | (refine State.Ok.cut (n := n) z ?_ ?_ <;> [(intro _; clear_value z); subst z]) | (refine State.Ok.cutPair (n := n) z ?_ ?_ <;> [(intro _; clear_value z); subst z]) | clear_value z)
    | with_reducible apply State.Ok.ite
    | with_reducible apply setValidatedEffect_ok
    | split

theorem setExpireEffect_ok (n : Mark) (a1 : State) (a2) (ha1 : a1.Ok n) : (setExpireEffect a1 a2).Ok n := by
  unfold setExpireEffect
  repeat' first
    | with_reducible assumption
    | intro _
    | (extract_lets +onlyGivenNames z; first | (refine State.Ok.cut (n := n) z ?_ ?_ <;> [(intro _; clear_value z); subst z]) | (refine State.Ok.cutPair (n := n) z ?_ ?_ <;> [(intro _; clear_value z); subst z]) | clear_value z)
    | with_reducible apply State.Ok.ite
    | with_reducible apply State.modSet_ok
    | split

theorem execSetExpire_ok (n : Mark) (a1) (a2) (a3 : State) (ha3 : a3.Ok n) : OkH n (execSetExpire a1 a2 a3) := by
  unfold execSetExpire
  refine act1_ok _ _ (fun s hs => ?_) ha3
  try dsimp only
  repeat' first
    | with_reducible assumption
    | intro _
    | (extract_lets +onlyGivenNames z; first | (refine State.Ok.cut (n := n) z ?_ ?_ <;> [(intro _; clear_value z); subst z]) | (refine State.Ok.cutPair (n := n) z ?_ ?_ <;> [(intro _; clear_value z); subst z]) | clear_value z)
    | with_reducible apply State.Ok.ite
    | with_reducible apply setExpireEffect_ok
    | split

theorem State.serveOpenSession_ok (n : Mark) (a1 : State) (a2) (a3) (a4) (ha1 : a1.Ok n) : (State.serveOpenSession a1 a2 a3 a4).Ok n := by
  unfold State.serveOpenSession
  repeat' first
    | with_reducible assumption
    | intro _
    | (extract_lets +onlyGivenNames z; first | (refine State.Ok.cut (n := n) z ?_ ?_ <;> [(intro _; clear_value z); subst z]) | (refine State.Ok.cutPair (n := n) z ?_ ?_ <;> [(intro _; clear_value z); subst z]) | clear_value z)
    | with_reducible apply State.Ok.ite
    | with_reducible apply State.refuseReq_ok
    | with_reducible apply State.finishWith_ok
    | with_reducible apply State.modBocel_ok
    | with_reducible apply State.drew_ok
    | split

theorem sessionIdleCloseEffect_ok (n : Mark) (a1 : State) (a2) (ha1 : a1.Ok n) : (sessionIdleCloseEffect a1 a2).Ok n := by
  unfold sessionIdleCloseEffect
  repeat' first
    | with_reducible assumption
    | intro _
    | (extract_lets +onlyGivenNames z; first | (refine State.Ok.cut (n := n) z ?_ ?_ <;> [(intro _; clear_value z); subst z]) | (refine State.Ok.cutPair (n := n) z ?_ ?_ <;> [(intro _; clear_value z); subst z]) | clear_value z)
    | with_reducible apply State.Ok.ite
    | with_reducible apply State.modBocel_ok
    | split

theorem execSessionIdleClose_ok (n : Mark) (a1) (a2) (a3 : State) (ha3 : a3.Ok n) : OkH n (execSessionIdleClose a1 a2 a3) := by
  unfold execSessionIdleClose
  refine act1_ok _ _ (fun s hs => ?_) ha3
  try dsimp only
  repeat' first
    | with_reducible assumption
    | intro _
    | (extract_lets +onlyGivenNames z; first | (refine State.Ok.cut (n := n) z ?_ ?_ <;> [(intro _; clear_value z); subst z]) | (refine State.Ok.cutPair (n := n) z ?_ ?_ <;> [(intro _; clear_value z); subst z]) | clear_value z)
    | with_reducible apply State.Ok.ite
    | with_reducible apply sessionIdleCloseEffect_ok
    | split

theorem State.serveSubscribe_ok (n : Mark) (a1 : State) (a2) (a3) (a4) (ha1 : a1.Ok n) : (State.serveSubscribe a1 a2 a3 a4).Ok n := by
  unfold State.serveSubscribe
  repeat' first
    | with_reducible assumption
    | intro _
    | (extract_lets +onlyGivenNames z; first | (refine State.Ok.cut (n := n) z ?_ ?_ <;> [(intro _; clear_value z); subst z]) | (refine State.Ok.cutPair (n := n) z ?_ ?_ <;> [(intro _; clear_value z); subst z]) | clear_value z)
    | with_reducible apply State.Ok.ite
    | with_reducible apply State.modBocel_ok
    | with_reducible apply State.sendNotes_ok
    | with_reducible apply State.finishWith_ok
    | split

theorem State.serveJournalRead_ok (n : Mark) (a1 : State) (a2) (a3) (a4) (a5) (ha1 : a1.Ok n) : (State.serveJournalRead a1 a2 a3 a4 a5).Ok n := by
  unfold State.serveJournalRead
  repeat' first
    | with_reducible assumption
    | intro _
    | (extract_lets +onlyGivenNames z; first | (refine State.Ok.cut (n := n) z ?_ ?_ <;> [(intro _; clear_value z); subst z]) | (refine State.Ok.cutPair (n := n) z ?_ ?_ <;> [(intro _; clear_value z); subst z]) | clear_value z)
    | with_reducible apply State.Ok.ite
    | with_reducible apply State.finishWith_ok
    | split

theorem State.perform_ok (n : Mark) (a1 : State) (a2) (a3) (ha1 : a1.Ok n) : (State.perform a1 a2 a3).Ok n := by
  unfold State.perform
  repeat' first
    | with_reducible assumption
    | intro _
    | (extract_lets +onlyGivenNames z; first | (refine State.Ok.cut (n := n) z ?_ ?_ <;> [(intro _; clear_value z); subst z]) | (refine State.Ok.cutPair (n := n) z ?_ ?_ <;> [(intro _; clear_value z); subst z]) | clear_value z)
    | with_reducible apply State.Ok.ite
    | with_reducible apply State.serveRead_ok
    | with_reducible apply State.serveWrite_ok
    | with_reducible apply State.serveOpenSet_ok
    | with_reducible apply State.serveStage_ok
    | with_reducible apply State.serveCommit_ok
    | with_reducible apply State.serveCancel_ok
    | with_reducible apply State.serveSetStatus_ok
    | with_reducible apply State.serveOpenSession_ok
    | with_reducible apply State.finishWith_ok
    | with_reducible apply State.serveSubscribe_ok
    | with_reducible apply State.serveJournalRead_ok
    | split

theorem State.sigCounted_ok (n : Mark) (a1 : State) (a2) (ha1 : a1.Ok n) : (State.sigCounted a1 a2).Ok n := by
  unfold State.sigCounted
  repeat' first
    | with_reducible assumption
    | intro _
    | (extract_lets +onlyGivenNames z; first | (refine State.Ok.cut (n := n) z ?_ ?_ <;> [(intro _; clear_value z); subst z]) | (refine State.Ok.cutPair (n := n) z ?_ ?_ <;> [(intro _; clear_value z); subst z]) | clear_value z)
    | with_reducible apply State.Ok.ite
    | with_reducible apply State.countHeart_ok
    | split

theorem State.serve_ok (n : Mark) (a1 : State) (a2) (ha1 : a1.Ok n) : (State.serve a1 a2).Ok n := by
  unfold State.serve
  repeat' first
    | with_reducible assumption
    | intro _
    | (extract_lets +onlyGivenNames z; first | (refine State.Ok.cut (n := n) z ?_ ?_ <;> [(intro _; clear_value z); subst z]) | (refine State.Ok.cutPair (n := n) z ?_ ?_ <;> [(intro _; clear_value z); subst z]) | clear_value z)
    | with_reducible apply State.Ok.ite
    | with_reducible apply State.respond_ok
    | with_reducible apply State.sigCounted_ok
    | with_reducible apply State.replay_ok
    | with_reducible apply State.perform_ok
    | with_reducible apply State.touchSession_ok
    | split

theorem State.serveQueue_ok (n : Mark) (a1) (a2 : State) (ha2 : a2.Ok n) : (State.serveQueue a1 a2).Ok n := by
  induction a1 generalizing a2 with
  | zero => exact ha2
  | succ k ih =>
    unfold State.serveQueue
    refine .ite ha2 ?_
    split
    · exact ha2
    · exact ih _ (State.serve_ok _ _ _ (State.modBocel_ok _ _ _ ha2))

theorem State.gateway_ok (n : Mark) (a1 : State) (a2) (a3) (ha1 : a1.Ok n) : (State.gateway a1 a2 a3).Ok n := by
  unfold State.gateway
  repeat' first
    | with_reducible assumption
    | intro _
    | (extract_lets +onlyGivenNames z; first | (refine State.Ok.cut (n := n) z ?_ ?_ <;> [(intro _; clear_value z); subst z]) | (refine State.Ok.cutPair (n := n) z ?_ ?_ <;> [(intro _; clear_value z); subst z]) | clear_value z)
    | with_reducible apply State.Ok.ite
    | with_reducible apply State.respond_ok
    | with_reducible apply State.emit_ok
    | with_reducible apply State.countHeart_ok
    | with_reducible apply State.modBocel_ok
    | split

theorem State.arrive_ok (n : Mark) (a1 : State) (a2) (ha1 : a1.Ok n) : (State.arrive a1 a2).Ok n := by
  unfold State.arrive
  repeat' first
    | with_reducible assumption
    | intro _
    | (extract_lets +onlyGivenNames z; first | (refine State.Ok.cut (n := n) z ?_ ?_ <;> [(intro _; clear_value z); subst z]) | (refine State.Ok.cutPair (n := n) z ?_ ?_ <;> [(intro _; clear_value z); subst z]) | clear_value z)
    | with_reducible apply State.Ok.ite
    | with_reducible apply State.modBocel_ok
    | with_reducible apply State.gateway_ok
    | with_reducible apply State.respond_ok
    | with_reducible apply State.countHeart_ok
    | with_reducible apply State.serve_ok
    | split

theorem execRead_ok (n : Mark) (a1) (a2) (a3) (a4) (a5) (a6 : State) (ha6 : a6.Ok n) : OkH n (execRead a1 a2 a3 a4 a5 a6) := by
  unfold execRead
  refine act2_ok _ _ (fun s hs => ?_) ha6
  try dsimp only
  repeat' first
    | with_reducible assumption
    | intro _
    | (extract_lets +onlyGivenNames z; first | (refine State.Ok.cut (n := n) z ?_ ?_ <;> [(intro _; clear_value z); subst z]) | (refine State.Ok.cutPair (n := n) z ?_ ?_ <;> [(intro _; clear_value z); subst z]) | clear_value z)
    | with_reducible apply State.Ok.ite
    | with_reducible apply State.arrive_ok
    | split

theorem execWrite_ok (n : Mark) (a1) (a2) (a3) (a4) (a5) (a6) (a7) (a8 : State) (ha8 : a8.Ok n) : OkH n (execWrite a1 a2 a3 a4 a5 a6 a7 a8) := by
  unfold execWrite
  refine act2_ok _ _ (fun s hs => ?_) ha8
  try dsimp only
  repeat' first
    | with_reducible assumption
    | intro _
    | (extract_lets +onlyGivenNames z; first | (refine State.Ok.cut (n := n) z ?_ ?_ <;> [(intro _; clear_value z); subst z]) | (refine State.Ok.cutPair (n := n) z ?_ ?_ <;> [(intro _; clear_value z); subst z]) | clear_value z)
    | with_reducible apply State.Ok.ite
    | with_reducible apply State.arrive_ok
    | split

theorem execOpenSet_ok (n : Mark) (a1) (a2) (a3) (a4) (a5) (a6 : State) (ha6 : a6.Ok n) : OkH n (execOpenSet a1 a2 a3 a4 a5 a6) := by
  unfold execOpenSet
  refine act2_ok _ _ (fun s hs => ?_) ha6
  try dsimp only
  repeat' first
    | with_reducible assumption
    | intro _
    | (extract_lets +onlyGivenNames z; first | (refine State.Ok.cut (n := n) z ?_ ?_ <;> [(intro _; clear_value z); subst z]) | (refine State.Ok.cutPair (n := n) z ?_ ?_ <;> [(intro _; clear_value z); subst z]) | clear_value z)
    | with_reducible apply State.Ok.ite
    | with_reducible apply State.arrive_ok
    | split

theorem execStage_ok (n : Mark) (a1) (a2) (a3) (a4) (a5) (a6) (a7) (a8) (a9) (a10 : State) (ha10 : a10.Ok n) : OkH n (execStage a1 a2 a3 a4 a5 a6 a7 a8 a9 a10) := by
  unfold execStage
  refine act2_ok _ _ (fun s hs => ?_) ha10
  try dsimp only
  repeat' first
    | with_reducible assumption
    | intro _
    | (extract_lets +onlyGivenNames z; first | (refine State.Ok.cut (n := n) z ?_ ?_ <;> [(intro _; clear_value z); subst z]) | (refine State.Ok.cutPair (n := n) z ?_ ?_ <;> [(intro _; clear_value z); subst z]) | clear_value z)
    | with_reducible apply State.Ok.ite
    | with_reducible apply State.arrive_ok
    | split

theorem execCommit_ok (n : Mark) (a1) (a2) (a3) (a4) (a5) (a6) (a7) (a8) (a9 : State) (ha9 : a9.Ok n) : OkH n (execCommit a1 a2 a3 a4 a5 a6 a7 a8 a9) := by
  unfold execCommit
  refine act2_ok _ _ (fun s hs => ?_) ha9
  try dsimp only
  repeat' first
    | with_reducible assumption
    | intro _
    | (extract_lets +onlyGivenNames z; first | (refine State.Ok.cut (n := n) z ?_ ?_ <;> [(intro _; clear_value z); subst z]) | (refine State.Ok.cutPair (n := n) z ?_ ?_ <;> [(intro _; clear_value z); subst z]) | clear_value z)
    | with_reducible apply State.Ok.ite
    | with_reducible apply State.arrive_ok
    | split

theorem execCancelSet_ok (n : Mark) (a1) (a2) (a3) (a4) (a5) (a6) (a7 : State) (ha7 : a7.Ok n) : OkH n (execCancelSet a1 a2 a3 a4 a5 a6 a7) := by
  unfold execCancelSet
  refine act2_ok _ _ (fun s hs => ?_) ha7
  try dsimp only
  repeat' first
    | with_reducible assumption
    | intro _
    | (extract_lets +onlyGivenNames z; first | (refine State.Ok.cut (n := n) z ?_ ?_ <;> [(intro _; clear_value z); subst z]) | (refine State.Ok.cutPair (n := n) z ?_ ?_ <;> [(intro _; clear_value z); subst z]) | clear_value z)
    | with_reducible apply State.Ok.ite
    | with_reducible apply State.arrive_ok
    | split

theorem execSetStatus_ok (n : Mark) (a1) (a2) (a3) (a4 : State) (ha4 : a4.Ok n) : OkH n (execSetStatus a1 a2 a3 a4) := by
  unfold execSetStatus
  refine act2_ok _ _ (fun s hs => ?_) ha4
  try dsimp only
  repeat' first
    | with_reducible assumption
    | intro _
    | (extract_lets +onlyGivenNames z; first | (refine State.Ok.cut (n := n) z ?_ ?_ <;> [(intro _; clear_value z); subst z]) | (refine State.Ok.cutPair (n := n) z ?_ ?_ <;> [(intro _; clear_value z); subst z]) | clear_value z)
    | with_reducible apply State.Ok.ite
    | with_reducible apply State.arrive_ok
    | split

theorem execOpenSession_ok (n : Mark) (a1) (a2) (a3) (a4 : State) (ha4 : a4.Ok n) : OkH n (execOpenSession a1 a2 a3 a4) := by
  unfold execOpenSession
  refine act2_ok _ _ (fun s hs => ?_) ha4
  try dsimp only
  repeat' first
    | with_reducible assumption
    | intro _
    | (extract_lets +onlyGivenNames z; first | (refine State.Ok.cut (n := n) z ?_ ?_ <;> [(intro _; clear_value z); subst z]) | (refine State.Ok.cutPair (n := n) z ?_ ?_ <;> [(intro _; clear_value z); subst z]) | clear_value z)
    | with_reducible apply State.Ok.ite
    | with_reducible apply State.arrive_ok
    | split

theorem execCloseSession_ok (n : Mark) (a1) (a2) (a3 : State) (ha3 : a3.Ok n) : OkH n (execCloseSession a1 a2 a3) := by
  unfold execCloseSession
  refine act2_ok _ _ (fun s hs => ?_) ha3
  try dsimp only
  repeat' first
    | with_reducible assumption
    | intro _
    | (extract_lets +onlyGivenNames z; first | (refine State.Ok.cut (n := n) z ?_ ?_ <;> [(intro _; clear_value z); subst z]) | (refine State.Ok.cutPair (n := n) z ?_ ?_ <;> [(intro _; clear_value z); subst z]) | clear_value z)
    | with_reducible apply State.Ok.ite
    | with_reducible apply State.arrive_ok
    | split

theorem execSubscribe_ok (n : Mark) (a1) (a2) (a3 : State) (ha3 : a3.Ok n) : OkH n (execSubscribe a1 a2 a3) := by
  unfold execSubscribe
  refine act2_ok _ _ (fun s hs => ?_) ha3
  try dsimp only
  repeat' first
    | with_reducible assumption
    | intro _
    | (extract_lets +onlyGivenNames z; first | (refine State.Ok.cut (n := n) z ?_ ?_ <;> [(intro _; clear_value z); subst z]) | (refine State.Ok.cutPair (n := n) z ?_ ?_ <;> [(intro _; clear_value z); subst z]) | clear_value z)
    | with_reducible apply State.Ok.ite
    | with_reducible apply State.arrive_ok
    | split

theorem execUnsubscribe_ok (n : Mark) (a1) (a2) (a3 : State) (ha3 : a3.Ok n) : OkH n (execUnsubscribe a1 a2 a3) := by
  unfold execUnsubscribe
  refine act2_ok _ _ (fun s hs => ?_) ha3
  try dsimp only
  repeat' first
    | with_reducible assumption
    | intro _
    | (extract_lets +onlyGivenNames z; first | (refine State.Ok.cut (n := n) z ?_ ?_ <;> [(intro _; clear_value z); subst z]) | (refine State.Ok.cutPair (n := n) z ?_ ?_ <;> [(intro _; clear_value z); subst z]) | clear_value z)
    | with_reducible apply State.Ok.ite
    | with_reducible apply State.arrive_ok
    | split

theorem execJournalRead_ok (n : Mark) (a1) (a2) (a3) (a4) (a5 : State) (ha5 : a5.Ok n) : OkH n (execJournalRead a1 a2 a3 a4 a5) := by
  unfold execJournalRead
  refine act2_ok _ _ (fun s hs => ?_) ha5
  try dsimp only
  repeat' first
    | with_reducible assumption
    | intro _
    | (extract_lets +onlyGivenNames z; first | (refine State.Ok.cut (n := n) z ?_ ?_ <;> [(intro _; clear_value z); subst z]) | (refine State.Ok.cutPair (n := n) z ?_ ?_ <;> [(intro _; clear_value z); subst z]) | clear_value z)
    | with_reducible apply State.Ok.ite
    | with_reducible apply State.arrive_ok
    | split

theorem execTestUnlock_ok (n : Mark) (a1) (a2) (a3) (a4 : State) (ha4 : a4.Ok n) : OkH n (execTestUnlock a1 a2 a3 a4) := by
  unfold execTestUnlock
  refine act2_ok _ _ (fun s hs => ?_) ha4
  try dsimp only
  repeat' first
    | with_reducible assumption
    | intro _
    | (extract_lets +onlyGivenNames z; first | (refine State.Ok.cut (n := n) z ?_ ?_ <;> [(intro _; clear_value z); subst z]) | (refine State.Ok.cutPair (n := n) z ?_ ?_ <;> [(intro _; clear_value z); subst z]) | clear_value z)
    | with_reducible apply State.Ok.ite
    | with_reducible apply State.arrive_ok
    | split

theorem bocelGatewayForwardEffect_ok (n : Mark) (a1 : State) (a2) (a3) (ha1 : a1.Ok n) : (bocelGatewayForwardEffect a1 a2 a3).Ok n := by
  unfold bocelGatewayForwardEffect
  repeat' first
    | with_reducible assumption
    | intro _
    | (extract_lets +onlyGivenNames z; first | (refine State.Ok.cut (n := n) z ?_ ?_ <;> [(intro _; clear_value z); subst z]) | (refine State.Ok.cutPair (n := n) z ?_ ?_ <;> [(intro _; clear_value z); subst z]) | clear_value z)
    | with_reducible apply State.Ok.ite
    | with_reducible apply State.gateway_ok
    | split

theorem execBocelGatewayForward_ok (n : Mark) (a1) (a2) (a3) (a4 : State) (ha4 : a4.Ok n) : OkH n (execBocelGatewayForward a1 a2 a3 a4) := by
  unfold execBocelGatewayForward
  refine act2_ok _ _ (fun s hs => ?_) ha4
  try dsimp only
  repeat' first
    | with_reducible assumption
    | intro _
    | (extract_lets +onlyGivenNames z; first | (refine State.Ok.cut (n := n) z ?_ ?_ <;> [(intro _; clear_value z); subst z]) | (refine State.Ok.cutPair (n := n) z ?_ ?_ <;> [(intro _; clear_value z); subst z]) | clear_value z)
    | with_reducible apply State.Ok.ite
    | with_reducible apply bocelGatewayForwardEffect_ok
    | split

theorem State.unforward_ok (n : Mark) (a1 : State) (a2) (ha1 : a1.Ok n) : (State.unforward a1 a2).Ok n := by
  unfold State.unforward
  repeat' first
    | with_reducible assumption
    | intro _
    | (extract_lets +onlyGivenNames z; first | (refine State.Ok.cut (n := n) z ?_ ?_ <;> [(intro _; clear_value z); subst z]) | (refine State.Ok.cutPair (n := n) z ?_ ?_ <;> [(intro _; clear_value z); subst z]) | clear_value z)
    | with_reducible apply State.Ok.ite
    | with_reducible apply State.modBocel_ok
    | split

theorem bocelInbandResponseEffect_ok (n : Mark) (a1 : State) (a2) (a3) (a4) (ha1 : a1.Ok n) : (bocelInbandResponseEffect a1 a2 a3 a4).Ok n := by
  unfold bocelInbandResponseEffect
  repeat' first
    | with_reducible assumption
    | intro _
    | (extract_lets +onlyGivenNames z; first | (refine State.Ok.cut (n := n) z ?_ ?_ <;> [(intro _; clear_value z); subst z]) | (refine State.Ok.cutPair (n := n) z ?_ ?_ <;> [(intro _; clear_value z); subst z]) | clear_value z)
    | with_reducible apply State.Ok.ite
    | with_reducible apply State.modBocel_ok
    | with_reducible apply State.unforward_ok
    | with_reducible apply State.mailboxAnswer_ok
    | with_reducible apply State.emit_ok
    | split

theorem execBocelInbandResponse_ok (n : Mark) (a1) (a2) (a3) (a4) (a5 : State) (ha5 : a5.Ok n) : OkH n (execBocelInbandResponse a1 a2 a3 a4 a5) := by
  unfold execBocelInbandResponse
  refine act1_ok _ _ (fun s hs => ?_) ha5
  try dsimp only
  repeat' first
    | with_reducible assumption
    | intro _
    | (extract_lets +onlyGivenNames z; first | (refine State.Ok.cut (n := n) z ?_ ?_ <;> [(intro _; clear_value z); subst z]) | (refine State.Ok.cutPair (n := n) z ?_ ?_ <;> [(intro _; clear_value z); subst z]) | clear_value z)
    | with_reducible apply State.Ok.ite
    | with_reducible apply bocelInbandResponseEffect_ok
    | split

theorem bocelInbandTimeoutEffect_ok (n : Mark) (a1 : State) (a2) (ha1 : a1.Ok n) : (bocelInbandTimeoutEffect a1 a2).Ok n := by
  unfold bocelInbandTimeoutEffect
  repeat' first
    | with_reducible assumption
    | intro _
    | (extract_lets +onlyGivenNames z; first | (refine State.Ok.cut (n := n) z ?_ ?_ <;> [(intro _; clear_value z); subst z]) | (refine State.Ok.cutPair (n := n) z ?_ ?_ <;> [(intro _; clear_value z); subst z]) | clear_value z)
    | with_reducible apply State.Ok.ite
    | with_reducible apply State.respond_ok
    | with_reducible apply State.unforward_ok
    | split

theorem execBocelInbandTimeout_ok (n : Mark) (a1) (a2) (a3 : State) (ha3 : a3.Ok n) : OkH n (execBocelInbandTimeout a1 a2 a3) := by
  unfold execBocelInbandTimeout
  refine act2_ok _ _ (fun s hs => ?_) ha3
  try dsimp only
  repeat' first
    | with_reducible assumption
    | intro _
    | (extract_lets +onlyGivenNames z; first | (refine State.Ok.cut (n := n) z ?_ ?_ <;> [(intro _; clear_value z); subst z]) | (refine State.Ok.cutPair (n := n) z ?_ ?_ <;> [(intro _; clear_value z); subst z]) | clear_value z)
    | with_reducible apply State.Ok.ite
    | with_reducible apply bocelInbandTimeoutEffect_ok
    | split

theorem bocelRetryDelayEffect_ok (n : Mark) (a1 : State) (a2) (ha1 : a1.Ok n) : (bocelRetryDelayEffect a1 a2).Ok n := by
  unfold bocelRetryDelayEffect
  repeat' first
    | with_reducible assumption
    | intro _
    | (extract_lets +onlyGivenNames z; first | (refine State.Ok.cut (n := n) z ?_ ?_ <;> [(intro _; clear_value z); subst z]) | (refine State.Ok.cutPair (n := n) z ?_ ?_ <;> [(intro _; clear_value z); subst z]) | clear_value z)
    | with_reducible apply State.Ok.ite
    | with_reducible apply State.emit_ok
    | with_reducible apply State.modBocel_ok
    | split

theorem execBocelRetryDelay_ok (n : Mark) (a1) (a2) (a3 : State) (ha3 : a3.Ok n) : OkH n (execBocelRetryDelay a1 a2 a3) := by
  unfold execBocelRetryDelay
  refine act1_ok _ _ (fun s hs => ?_) ha3
  try dsimp only
  repeat' first
    | with_reducible assumption
    | intro _
    | (extract_lets +onlyGivenNames z; first | (refine State.Ok.cut (n := n) z ?_ ?_ <;> [(intro _; clear_value z); subst z]) | (refine State.Ok.cutPair (n := n) z ?_ ?_ <;> [(intro _; clear_value z); subst z]) | clear_value z)
    | with_reducible apply State.Ok.ite
    | with_reducible apply bocelRetryDelayEffect_ok
    | split

theorem setEndpointIdEffect_ok (n : Mark) (a1 : State) (a2) (ha1 : a1.Ok n) : (setEndpointIdEffect a1 a2).Ok n := by
  unfold setEndpointIdEffect
  repeat' first
    | with_reducible assumption
    | intro _
    | (extract_lets +onlyGivenNames z; first | (refine State.Ok.cut (n := n) z ?_ ?_ <;> [(intro _; clear_value z); subst z]) | (refine State.Ok.cutPair (n := n) z ?_ ?_ <;> [(intro _; clear_value z); subst z]) | clear_value z)
    | with_reducible apply State.Ok.ite
    | with_reducible apply State.emit_ok
    | with_reducible apply State.modBocel_ok
    | split

theorem execSetEndpointId_ok (n : Mark) (a1) (a2) (a3 : State) (ha3 : a3.Ok n) : OkH n (execSetEndpointId a1 a2 a3) := by
  unfold execSetEndpointId
  refine act1_ok _ _ (fun s hs => ?_) ha3
  try dsimp only
  repeat' first
    | with_reducible assumption
    | intro _
    | (extract_lets +onlyGivenNames z; first | (refine State.Ok.cut (n := n) z ?_ ?_ <;> [(intro _; clear_value z); subst z]) | (refine State.Ok.cutPair (n := n) z ?_ ?_ <;> [(intro _; clear_value z); subst z]) | clear_value z)
    | with_reducible apply State.Ok.ite
    | with_reducible apply setEndpointIdEffect_ok
    | split

theorem getEndpointIdEffect_ok (n : Mark) (a1 : State) (ha1 : a1.Ok n) : (getEndpointIdEffect a1).Ok n := by
  unfold getEndpointIdEffect
  repeat' first
    | with_reducible assumption
    | intro _
    | (extract_lets +onlyGivenNames z; first | (refine State.Ok.cut (n := n) z ?_ ?_ <;> [(intro _; clear_value z); subst z]) | (refine State.Ok.cutPair (n := n) z ?_ ?_ <;> [(intro _; clear_value z); subst z]) | clear_value z)
    | with_reducible apply State.Ok.ite
    | with_reducible apply State.emit_ok
    | split

theorem execGetEndpointId_ok (n : Mark) (a1) (a2 : State) (ha2 : a2.Ok n) : OkH n (execGetEndpointId a1 a2) := by
  unfold execGetEndpointId
  refine act1_ok _ _ (fun s hs => ?_) ha2
  try dsimp only
  repeat' first
    | with_reducible assumption
    | intro _
    | (extract_lets +onlyGivenNames z; first | (refine State.Ok.cut (n := n) z ?_ ?_ <;> [(intro _; clear_value z); subst z]) | (refine State.Ok.cutPair (n := n) z ?_ ?_ <;> [(intro _; clear_value z); subst z]) | clear_value z)
    | with_reducible apply State.Ok.ite
    | with_reducible apply getEndpointIdEffect_ok
    | split

theorem getMctpVersionSupportEffect_ok (n : Mark) (a1 : State) (ha1 : a1.Ok n) : (getMctpVersionSupportEffect a1).Ok n := by
  unfold getMctpVersionSupportEffect
  repeat' first
    | with_reducible assumption
    | intro _
    | (extract_lets +onlyGivenNames z; first | (refine State.Ok.cut (n := n) z ?_ ?_ <;> [(intro _; clear_value z); subst z]) | (refine State.Ok.cutPair (n := n) z ?_ ?_ <;> [(intro _; clear_value z); subst z]) | clear_value z)
    | with_reducible apply State.Ok.ite
    | with_reducible apply State.emit_ok
    | split

theorem execGetMctpVersionSupport_ok (n : Mark) (a1) (a2 : State) (ha2 : a2.Ok n) : OkH n (execGetMctpVersionSupport a1 a2) := by
  unfold execGetMctpVersionSupport
  refine act1_ok _ _ (fun s hs => ?_) ha2
  try dsimp only
  repeat' first
    | with_reducible assumption
    | intro _
    | (extract_lets +onlyGivenNames z; first | (refine State.Ok.cut (n := n) z ?_ ?_ <;> [(intro _; clear_value z); subst z]) | (refine State.Ok.cutPair (n := n) z ?_ ?_ <;> [(intro _; clear_value z); subst z]) | clear_value z)
    | with_reducible apply State.Ok.ite
    | with_reducible apply getMctpVersionSupportEffect_ok
    | split

theorem getMessageTypeSupportEffect_ok (n : Mark) (a1 : State) (ha1 : a1.Ok n) : (getMessageTypeSupportEffect a1).Ok n := by
  unfold getMessageTypeSupportEffect
  repeat' first
    | with_reducible assumption
    | intro _
    | (extract_lets +onlyGivenNames z; first | (refine State.Ok.cut (n := n) z ?_ ?_ <;> [(intro _; clear_value z); subst z]) | (refine State.Ok.cutPair (n := n) z ?_ ?_ <;> [(intro _; clear_value z); subst z]) | clear_value z)
    | with_reducible apply State.Ok.ite
    | with_reducible apply State.emit_ok
    | split

theorem execGetMessageTypeSupport_ok (n : Mark) (a1) (a2 : State) (ha2 : a2.Ok n) : OkH n (execGetMessageTypeSupport a1 a2) := by
  unfold execGetMessageTypeSupport
  refine act1_ok _ _ (fun s hs => ?_) ha2
  try dsimp only
  repeat' first
    | with_reducible assumption
    | intro _
    | (extract_lets +onlyGivenNames z; first | (refine State.Ok.cut (n := n) z ?_ ?_ <;> [(intro _; clear_value z); subst z]) | (refine State.Ok.cutPair (n := n) z ?_ ?_ <;> [(intro _; clear_value z); subst z]) | clear_value z)
    | with_reducible apply State.Ok.ite
    | with_reducible apply getMessageTypeSupportEffect_ok
    | split

theorem icmpEchoEffect_ok (n : Mark) (a1 : State) (a2) (ha1 : a1.Ok n) : (icmpEchoEffect a1 a2).Ok n := by
  unfold icmpEchoEffect
  repeat' first
    | with_reducible assumption
    | intro _
    | (extract_lets +onlyGivenNames z; first | (refine State.Ok.cut (n := n) z ?_ ?_ <;> [(intro _; clear_value z); subst z]) | (refine State.Ok.cutPair (n := n) z ?_ ?_ <;> [(intro _; clear_value z); subst z]) | clear_value z)
    | with_reducible apply State.Ok.ite
    | with_reducible apply State.emit_ok
    | split

theorem execIcmpEcho_ok (n : Mark) (a1) (a2) (a3 : State) (ha3 : a3.Ok n) : OkH n (execIcmpEcho a1 a2 a3) := by
  unfold execIcmpEcho
  refine act1_ok _ _ (fun s hs => ?_) ha3
  try dsimp only
  repeat' first
    | with_reducible assumption
    | intro _
    | (extract_lets +onlyGivenNames z; first | (refine State.Ok.cut (n := n) z ?_ ?_ <;> [(intro _; clear_value z); subst z]) | (refine State.Ok.cutPair (n := n) z ?_ ?_ <;> [(intro _; clear_value z); subst z]) | clear_value z)
    | with_reducible apply State.Ok.ite
    | with_reducible apply icmpEchoEffect_ok
    | split

theorem neighbourDiscoveryEffect_ok (n : Mark) (a1 : State) (a2) (ha1 : a1.Ok n) : (neighbourDiscoveryEffect a1 a2).Ok n := by
  unfold neighbourDiscoveryEffect
  repeat' first
    | with_reducible assumption
    | intro _
    | (extract_lets +onlyGivenNames z; first | (refine State.Ok.cut (n := n) z ?_ ?_ <;> [(intro _; clear_value z); subst z]) | (refine State.Ok.cutPair (n := n) z ?_ ?_ <;> [(intro _; clear_value z); subst z]) | clear_value z)
    | with_reducible apply State.Ok.ite
    | with_reducible apply State.emit_ok
    | split

theorem execNeighbourDiscovery_ok (n : Mark) (a1) (a2) (a3 : State) (ha3 : a3.Ok n) : OkH n (execNeighbourDiscovery a1 a2 a3) := by
  unfold execNeighbourDiscovery
  refine act1_ok _ _ (fun s hs => ?_) ha3
  try dsimp only
  repeat' first
    | with_reducible assumption
    | intro _
    | (extract_lets +onlyGivenNames z; first | (refine State.Ok.cut (n := n) z ?_ ?_ <;> [(intro _; clear_value z); subst z]) | (refine State.Ok.cutPair (n := n) z ?_ ?_ <;> [(intro _; clear_value z); subst z]) | clear_value z)
    | with_reducible apply State.Ok.ite
    | with_reducible apply neighbourDiscoveryEffect_ok
    | split

end Sys2Proof.Machine
end

