-- ==== Sys2Proof/Laws/KeepEgress.lean ====
section
/-! SUPPORT. Every operation of Egress.lean keeps the invariant, and the local count does not run back. -/

set_option linter.all false

namespace Sys2Proof.Machine

theorem State.charge_ok (n : Mark) (a1 : State) (a2) (a3) (ha1 : a1.Ok n) : (State.charge a1 a2 a3).Ok n := by
  unfold State.charge
  repeat' first
    | with_reducible assumption
    | intro _
    | (extract_lets +onlyGivenNames z; first | (refine State.Ok.cut (n := n) z ?_ ?_ <;> [(intro _; clear_value z); subst z]) | (refine State.Ok.cutPair (n := n) z ?_ ?_ <;> [(intro _; clear_value z); subst z]) | clear_value z)
    | with_reducible apply State.Ok.ite
    | with_reducible apply State.c7Take_ok
    | with_reducible apply State.modCore_ok
    | split

theorem State.visits_ok (n : Mark) (a1 : State) (a2) (a3) (a4) (a5) (ha1 : a1.Ok n) : State.OkOP n (State.visits a1 a2 a3 a4 a5) := by
  induction a4 generalizing a1 a5 with
  | zero => exact State.OkOP.none_
  | succ k ih =>
    unfold State.visits
    split
    · exact State.OkOP.none_
    · refine State.OkOP.ite_ (State.OkOP.some_ ?_) (ih _ _ ?_)
      all_goals (try dsimp only)
      all_goals apply State.modCore_ok
      all_goals exact ha1

theorem State.schedule_ok (n : Mark) (a1 : State) (a2) (a3) (ha1 : a1.Ok n) : State.OkOP n (State.schedule a1 a2 a3) := by
  unfold State.schedule
  repeat' first
    | with_reducible assumption
    | intro _
    | (extract_lets +onlyGivenNames z; first | (refine State.Ok.cut (n := n) z ?_ ?_ <;> [(intro _; clear_value z); subst z]) | (refine State.Ok.cutPair (n := n) z ?_ ?_ <;> [(intro _; clear_value z); subst z]) | clear_value z)
    | with_reducible apply State.Ok.ite
    | (with_reducible refine State.OkOP.get (State.visits_ok _ _ _ _ _ _ ?_ ) (by with_reducible assumption))
    | (with_reducible refine State.OkOP.getPair (State.visits_ok _ _ _ _ _ _ ?_ ) (by with_reducible assumption))
    | with_reducible apply State.visits_ok
    | with_reducible exact State.OkOP.none_
    | with_reducible apply State.OkOP.ite_
    | with_reducible apply State.OkOP.some_
    | with_reducible apply State.OkOP.map_
    | with_reducible apply State.OkOP.orElse_
    | split

theorem State.served_ok (n : Mark) (a1 : State) (a2) (a3) (ha1 : a1.Ok n) : (State.served a1 a2 a3).Ok n := by
  unfold State.served
  repeat' first
    | with_reducible assumption
    | intro _
    | (extract_lets +onlyGivenNames z; first | (refine State.Ok.cut (n := n) z ?_ ?_ <;> [(intro _; clear_value z); subst z]) | (refine State.Ok.cutPair (n := n) z ?_ ?_ <;> [(intro _; clear_value z); subst z]) | clear_value z)
    | with_reducible apply State.Ok.ite
    | with_reducible apply State.modCore_ok
    | split

theorem State.checkCells_ok (n : Mark) (a1 : State) (a2) (a3) (a4) (ha1 : a1.Ok n) : (State.checkCells a1 a2 a3 a4).1.Ok n := by
  unfold State.checkCells
  repeat' first
    | with_reducible assumption
    | intro _
    | (extract_lets +onlyGivenNames z; first | (refine State.Ok.cut (n := n) z ?_ ?_ <;> [(intro _; clear_value z); subst z]) | (refine State.Ok.cutPair (n := n) z ?_ ?_ <;> [(intro _; clear_value z); subst z]) | clear_value z)
    | with_reducible apply State.Ok.ite
    | with_reducible apply State.Ok.iteFst
    | with_reducible apply State.injectItem_ok
    | with_reducible apply foldl_ok
    | with_reducible apply foldlState_ok
    | split
    | (refine State.Ok.ofPair (by with_reducible assumption) ?_)

theorem State.bufEvent_ok (n : Mark) (a1 : State) (a2) (a3) (ha1 : a1.Ok n) : (State.bufEvent a1 a2 a3).Ok n := by
  unfold State.bufEvent
  repeat' first
    | with_reducible assumption
    | intro _
    | (extract_lets +onlyGivenNames z; first | (refine State.Ok.cut (n := n) z ?_ ?_ <;> [(intro _; clear_value z); subst z]) | (refine State.Ok.cutPair (n := n) z ?_ ?_ <;> [(intro _; clear_value z); subst z]) | clear_value z)
    | with_reducible apply State.Ok.ite
    | with_reducible apply State.noteInj_ok
    | with_reducible apply State.countLimb_ok
    | split

theorem State.readCells_ok (n : Mark) (a1 : State) (a2) (a3) (a4) (ha1 : a1.Ok n) : (State.readCells a1 a2 a3 a4).1.Ok n := by
  unfold State.readCells
  repeat' first
    | with_reducible assumption
    | intro _
    | (extract_lets +onlyGivenNames z; first | (refine State.Ok.cut (n := n) z ?_ ?_ <;> [(intro _; clear_value z); subst z]) | (refine State.Ok.cutPair (n := n) z ?_ ?_ <;> [(intro _; clear_value z); subst z]) | clear_value z)
    | with_reducible apply State.Ok.ite
    | with_reducible apply State.Ok.iteFst
    | with_reducible apply State.checkCells_ok
    | with_reducible apply State.countLimb_ok
    | with_reducible apply State.bufEvent_ok
    | with_reducible apply State.modDesc_ok
    | split
    | (refine State.Ok.ofPair (by with_reducible assumption) ?_)

theorem State.nullify_ok (n : Mark) (a1 : State) (a2) (a3) (a4) (ha1 : a1.Ok n) : (State.nullify a1 a2 a3 a4).Ok n := by
  unfold State.nullify
  repeat' first
    | with_reducible assumption
    | intro _
    | (extract_lets +onlyGivenNames z; first | (refine State.Ok.cut (n := n) z ?_ ?_ <;> [(intro _; clear_value z); subst z]) | (refine State.Ok.cutPair (n := n) z ?_ ?_ <;> [(intro _; clear_value z); subst z]) | clear_value z)
    | with_reducible apply State.Ok.ite
    | with_reducible apply State.emit_ok
    | with_reducible apply State.modCore_ok
    | with_reducible apply State.modDesc_ok
    | split

theorem State.sentWhole_ok (n : Mark) (a1 : State) (a2) (a3) (ha1 : a1.Ok n) : (State.sentWhole a1 a2 a3).Ok n := by
  unfold State.sentWhole
  repeat' first
    | with_reducible assumption
    | intro _
    | (extract_lets +onlyGivenNames z; first | (refine State.Ok.cut (n := n) z ?_ ?_ <;> [(intro _; clear_value z); subst z]) | (refine State.Ok.cutPair (n := n) z ?_ ?_ <;> [(intro _; clear_value z); subst z]) | clear_value z)
    | with_reducible apply State.Ok.ite
    | with_reducible apply State.dequeue_ok
    | with_reducible apply State.countTwig_ok
    | with_reducible apply State.emit_ok
    | with_reducible apply State.traffic_ok
    | split

theorem State.readFor_ok (n : Mark) (a1 : State) (a2) (a3) (a4) (ha1 : a1.Ok n) : (State.readFor a1 a2 a3 a4).1.Ok n := by
  unfold State.readFor
  repeat' first
    | with_reducible assumption
    | intro _
    | (extract_lets +onlyGivenNames z; first | (refine State.Ok.cut (n := n) z ?_ ?_ <;> [(intro _; clear_value z); subst z]) | (refine State.Ok.cutPair (n := n) z ?_ ?_ <;> [(intro _; clear_value z); subst z]) | clear_value z)
    | with_reducible apply State.Ok.ite
    | with_reducible apply State.Ok.iteFst
    | with_reducible apply State.readCells_ok
    | split
    | (refine State.Ok.ofPair (by with_reducible assumption) ?_)

theorem State.sendFlit_ok (n : Mark) (a1 : State) (a2) (a3) (a4) (ha1 : a1.Ok n) : (State.sendFlit a1 a2 a3 a4).Ok n := by
  unfold State.sendFlit
  repeat' first
    | with_reducible assumption
    | intro _
    | (extract_lets +onlyGivenNames z; first | (refine State.Ok.cut (n := n) z ?_ ?_ <;> [(intro _; clear_value z); subst z]) | (refine State.Ok.cutPair (n := n) z ?_ ?_ <;> [(intro _; clear_value z); subst z]) | clear_value z)
    | with_reducible apply State.Ok.ite
    | with_reducible apply State.Ok.iteFst
    | with_reducible apply State.noteFree_ok
    | with_reducible apply State.countLimb_ok
    | with_reducible apply State.nullify_ok
    | with_reducible apply State.readFor_ok
    | with_reducible apply State.sentWhole_ok
    | with_reducible apply State.modCore_ok
    | with_reducible apply State.modDesc_ok
    | split
    | (refine State.Ok.ofPair (by with_reducible assumption) ?_)

theorem State.startC7_ok (n : Mark) (a1 : State) (a2) (a3) (a4) (ha1 : a1.Ok n) : (State.startC7 a1 a2 a3 a4).Ok n := by
  unfold State.startC7
  repeat' first
    | with_reducible assumption
    | intro _
    | (extract_lets +onlyGivenNames z; first | (refine State.Ok.cut (n := n) z ?_ ?_ <;> [(intro _; clear_value z); subst z]) | (refine State.Ok.cutPair (n := n) z ?_ ?_ <;> [(intro _; clear_value z); subst z]) | clear_value z)
    | with_reducible apply State.Ok.ite
    | with_reducible apply State.sendFlit_ok
    | with_reducible apply State.charge_ok
    | split

theorem State.sendPort_ok (n : Mark) (a1 : State) (a2) (a3) (ha1 : a1.Ok n) : (State.sendPort a1 a2 a3).Ok n := by
  unfold State.sendPort
  repeat' first
    | with_reducible assumption
    | intro _
    | (extract_lets +onlyGivenNames z; first | (refine State.Ok.cut (n := n) z ?_ ?_ <;> [(intro _; clear_value z); subst z]) | (refine State.Ok.cutPair (n := n) z ?_ ?_ <;> [(intro _; clear_value z); subst z]) | clear_value z)
    | with_reducible apply State.Ok.ite
    | with_reducible apply State.startC7_ok
    | with_reducible apply State.nullify_ok
    | with_reducible apply State.sendFlit_ok
    | (with_reducible refine State.OkOP.get (State.schedule_ok _ _ _ _ ?_ ) (by with_reducible assumption))
    | (with_reducible refine State.OkOP.getPair (State.schedule_ok _ _ _ _ ?_ ) (by with_reducible assumption))
    | with_reducible apply State.schedule_ok
    | with_reducible apply State.charge_ok
    | with_reducible apply State.served_ok
    | with_reducible exact State.OkOP.none_
    | with_reducible apply State.OkOP.ite_
    | with_reducible apply State.OkOP.some_
    | with_reducible apply State.OkOP.map_
    | with_reducible apply State.OkOP.orElse_
    | split

theorem State.trackSent_ok (n : Mark) (a1 : State) (a2) (ha1 : a1.Ok n) : (State.trackSent a1 a2).Ok n := by
  unfold State.trackSent
  repeat' first
    | with_reducible assumption
    | intro _
    | (extract_lets +onlyGivenNames z; first | (refine State.Ok.cut (n := n) z ?_ ?_ <;> [(intro _; clear_value z); subst z]) | (refine State.Ok.cutPair (n := n) z ?_ ?_ <;> [(intro _; clear_value z); subst z]) | clear_value z)
    | with_reducible apply State.Ok.ite
    | with_reducible apply State.modFabric_ok
    | split

theorem State.sendFu_ok (n : Mark) (a1 : State) (a2) (a3) (a4) (ha1 : a1.Ok n) : (State.sendFu a1 a2 a3 a4).Ok n := by
  unfold State.sendFu
  repeat' first
    | with_reducible assumption
    | intro _
    | (extract_lets +onlyGivenNames z; first | (refine State.Ok.cut (n := n) z ?_ ?_ <;> [(intro _; clear_value z); subst z]) | (refine State.Ok.cutPair (n := n) z ?_ ?_ <;> [(intro _; clear_value z); subst z]) | clear_value z)
    | with_reducible apply State.Ok.ite
    | with_reducible apply State.Ok.iteFst
    | with_reducible apply State.readFor_ok
    | with_reducible apply State.dequeue_ok
    | with_reducible apply State.countDrop_ok
    | with_reducible apply State.sendNew_ok
    | with_reducible apply State.modDesc_ok
    | with_reducible apply State.modTx_ok
    | with_reducible apply State.trackSent_ok
    | split
    | (refine State.Ok.ofPair (by with_reducible assumption) ?_)

theorem State.trunkPick_ok (n : Mark) (a1 : State) (a2) (a3) (a4) (ha1 : a1.Ok n) : State.OkOP n (State.trunkPick a1 a2 a3 a4) := by
  unfold State.trunkPick
  repeat' first
    | with_reducible assumption
    | intro _
    | (extract_lets +onlyGivenNames z; first | (refine State.Ok.cut (n := n) z ?_ ?_ <;> [(intro _; clear_value z); subst z]) | (refine State.Ok.cutPair (n := n) z ?_ ?_ <;> [(intro _; clear_value z); subst z]) | clear_value z)
    | with_reducible apply State.Ok.ite
    | with_reducible apply State.charge_ok
    | with_reducible apply State.served_ok
    | (with_reducible refine State.OkOP.get (State.schedule_ok _ _ _ _ ?_ ) (by with_reducible assumption))
    | (with_reducible refine State.OkOP.getPair (State.schedule_ok _ _ _ _ ?_ ) (by with_reducible assumption))
    | with_reducible apply State.schedule_ok
    | with_reducible exact State.OkOP.none_
    | with_reducible apply State.OkOP.ite_
    | with_reducible apply State.OkOP.some_
    | with_reducible apply State.OkOP.map_
    | with_reducible apply State.OkOP.orElse_
    | split

theorem State.sharePick_ok (n : Mark) (a1 : State) (a2) (a3) (ha1 : a1.Ok n) : State.OkOP n (State.sharePick a1 a2 a3) := by
  unfold State.sharePick
  repeat' first
    | with_reducible assumption
    | intro _
    | (extract_lets +onlyGivenNames z; first | (refine State.Ok.cut (n := n) z ?_ ?_ <;> [(intro _; clear_value z); subst z]) | (refine State.Ok.cutPair (n := n) z ?_ ?_ <;> [(intro _; clear_value z); subst z]) | clear_value z)
    | with_reducible apply State.Ok.ite
    | (with_reducible refine State.OkOP.get (State.schedule_ok _ _ _ _ ?_ ) (by with_reducible assumption))
    | (with_reducible refine State.OkOP.getPair (State.schedule_ok _ _ _ _ ?_ ) (by with_reducible assumption))
    | with_reducible apply State.schedule_ok
    | with_reducible apply State.modCore_ok
    | with_reducible apply State.charge_ok
    | with_reducible apply State.served_ok
    | with_reducible exact State.OkOP.none_
    | with_reducible apply State.OkOP.ite_
    | with_reducible apply State.OkOP.some_
    | with_reducible apply State.OkOP.map_
    | with_reducible apply State.OkOP.orElse_
    | split

theorem State.slotPick_ok (n : Mark) (a1 : State) (a2) (a3) (ha1 : a1.Ok n) : State.OkOP n (State.slotPick a1 a2 a3) := by
  unfold State.slotPick
  repeat' first
    | with_reducible assumption
    | intro _
    | (extract_lets +onlyGivenNames z; first | (refine State.Ok.cut (n := n) z ?_ ?_ <;> [(intro _; clear_value z); subst z]) | (refine State.Ok.cutPair (n := n) z ?_ ?_ <;> [(intro _; clear_value z); subst z]) | clear_value z)
    | with_reducible apply State.Ok.ite
    | (with_reducible refine State.OkOP.get (State.trunkPick_ok _ _ _ _ _ ?_ ) (by with_reducible assumption))
    | (with_reducible refine State.OkOP.getPair (State.trunkPick_ok _ _ _ _ _ ?_ ) (by with_reducible assumption))
    | with_reducible apply State.trunkPick_ok
    | (with_reducible refine State.OkOP.get (State.sharePick_ok _ _ _ _ ?_ ) (by with_reducible assumption))
    | (with_reducible refine State.OkOP.getPair (State.sharePick_ok _ _ _ _ ?_ ) (by with_reducible assumption))
    | with_reducible apply State.sharePick_ok
    | with_reducible exact State.OkOP.none_
    | with_reducible apply State.OkOP.ite_
    | with_reducible apply State.OkOP.some_
    | with_reducible apply State.OkOP.map_
    | with_reducible apply State.OkOP.orElse_
    | split

theorem State.replayFu_ok (n : Mark) (a1 : State) (a2) (a3) (ha1 : a1.Ok n) : (State.replayFu a1 a2 a3).Ok n := by
  unfold State.replayFu
  repeat' first
    | with_reducible assumption
    | intro _
    | (extract_lets +onlyGivenNames z; first | (refine State.Ok.cut (n := n) z ?_ ?_ <;> [(intro _; clear_value z); subst z]) | (refine State.Ok.cutPair (n := n) z ?_ ?_ <;> [(intro _; clear_value z); subst z]) | clear_value z)
    | with_reducible apply State.Ok.ite
    | with_reducible apply State.modTx_ok
    | with_reducible apply State.countTwig_ok
    | with_reducible apply State.transmit_ok
    | split

theorem State.newFu_ok (n : Mark) (a1 : State) (a2) (a3) (ha1 : a1.Ok n) : (State.newFu a1 a2 a3).Ok n := by
  unfold State.newFu
  repeat' first
    | with_reducible assumption
    | intro _
    | (extract_lets +onlyGivenNames z; first | (refine State.Ok.cut (n := n) z ?_ ?_ <;> [(intro _; clear_value z); subst z]) | (refine State.Ok.cutPair (n := n) z ?_ ?_ <;> [(intro _; clear_value z); subst z]) | (refine State.Ok.cutFun (n := n) z ?_ ?_ <;> [(intro _; clear_value z); subst z]) | (refine State.Ok.cutFun2 (n := n) z ?_ ?_ <;> [(intro _; clear_value z); subst z]) | (refine State.Ok.cutFun3 (n := n) z ?_ ?_ <;> [(intro _; clear_value z); subst z]) | (refine State.Ok.cutFun4 (n := n) z ?_ ?_ <;> [(intro _; clear_value z); subst z]) | (refine State.Ok.cutFun5 (n := n) z ?_ ?_ <;> [(intro _; clear_value z); subst z]) | (refine State.Ok.cutFun6 (n := n) z ?_ ?_ <;> [(intro _; clear_value z); subst z]) | (refine State.Ok.cutFun7 (n := n) z ?_ ?_ <;> [(intro _; clear_value z); subst z]) | clear_value z)
    | with_reducible apply State.Ok.ite
    | with_reducible apply_assumption
    | with_reducible apply State.sendIdle_ok
    | with_reducible apply State.sendCtl_ok
    | with_reducible apply State.modTx_ok
    | with_reducible apply State.c7Take_ok
    | with_reducible apply State.countTwig_ok
    | with_reducible apply State.sendFu_ok
    | with_reducible apply State.charge_ok
    | (with_reducible refine State.OkOP.get (State.slotPick_ok _ _ _ _ ?_ ) (by with_reducible assumption))
    | (with_reducible refine State.OkOP.getPair (State.slotPick_ok _ _ _ _ ?_ ) (by with_reducible assumption))
    | with_reducible apply State.slotPick_ok
    | with_reducible exact State.OkOP.none_
    | with_reducible apply State.OkOP.ite_
    | with_reducible apply State.OkOP.some_
    | with_reducible apply State.OkOP.map_
    | with_reducible apply State.OkOP.orElse_
    | split

theorem State.sendTrunk_ok (n : Mark) (a1 : State) (a2) (a3) (ha1 : a1.Ok n) : (State.sendTrunk a1 a2 a3).Ok n := by
  unfold State.sendTrunk
  repeat' first
    | with_reducible assumption
    | intro _
    | (extract_lets +onlyGivenNames z; first | (refine State.Ok.cut (n := n) z ?_ ?_ <;> [(intro _; clear_value z); subst z]) | (refine State.Ok.cutPair (n := n) z ?_ ?_ <;> [(intro _; clear_value z); subst z]) | clear_value z)
    | with_reducible apply State.Ok.ite
    | with_reducible apply keyPhaseToggleEffect_ok
    | with_reducible apply State.sendIdle_ok
    | with_reducible apply State.replayFu_ok
    | with_reducible apply State.countTwig_ok
    | with_reducible apply State.newFu_ok
    | split

theorem State.engineTake_ok (n : Mark) (a1 : State) (a2) (a3) (ha1 : a1.Ok n) : (State.engineTake a1 a2 a3).Ok n := by
  unfold State.engineTake
  repeat' first
    | with_reducible assumption
    | intro _
    | (extract_lets +onlyGivenNames z; first | (refine State.Ok.cut (n := n) z ?_ ?_ <;> [(intro _; clear_value z); subst z]) | (refine State.Ok.cutPair (n := n) z ?_ ?_ <;> [(intro _; clear_value z); subst z]) | clear_value z)
    | with_reducible apply State.Ok.ite
    | with_reducible apply reducePartialEffect_ok
    | with_reducible apply State.result_ok
    | with_reducible apply State.countHeart_ok
    | with_reducible apply reduceAbortMessageEffect_ok
    | split

theorem State.intakeTake_ok (n : Mark) (a1 : State) (a2) (ha1 : a1.Ok n) : (State.intakeTake a1 a2).Ok n := by
  unfold State.intakeTake
  repeat' first
    | with_reducible assumption
    | intro _
    | (extract_lets +onlyGivenNames z; first | (refine State.Ok.cut (n := n) z ?_ ?_ <;> [(intro _; clear_value z); subst z]) | (refine State.Ok.cutPair (n := n) z ?_ ?_ <;> [(intro _; clear_value z); subst z]) | clear_value z)
    | with_reducible apply State.Ok.ite
    | with_reducible apply State.Ok.iteFst
    | with_reducible apply State.dequeue_ok
    | with_reducible apply State.heartAccess_ok
    | with_reducible apply State.heartDone_ok
    | with_reducible apply State.countStem_ok
    | with_reducible apply State.complete_ok
    | with_reducible apply datagramReceiveEffect_ok
    | with_reducible apply State.engineTake_ok
    | split
    | (refine State.Ok.ofPair (by with_reducible assumption) ?_)

theorem State.serveIntake_ok (n : Mark) (a1 : State) (a2) (ha1 : a1.Ok n) : (State.serveIntake a1 a2).Ok n := by
  unfold State.serveIntake
  repeat' first
    | with_reducible assumption
    | intro _
    | (extract_lets +onlyGivenNames z; first | (refine State.Ok.cut (n := n) z ?_ ?_ <;> [(intro _; clear_value z); subst z]) | (refine State.Ok.cutPair (n := n) z ?_ ?_ <;> [(intro _; clear_value z); subst z]) | clear_value z)
    | with_reducible apply State.Ok.ite
    | with_reducible apply State.intakeTake_ok
    | split

theorem egressStartEffect_ok (n : Mark) (a1 : State) (a2) (a3) (ha1 : a1.Ok n) : (egressStartEffect a1 a2 a3).Ok n := by
  unfold egressStartEffect
  repeat' first
    | with_reducible assumption
    | intro _
    | (extract_lets +onlyGivenNames z; first | (refine State.Ok.cut (n := n) z ?_ ?_ <;> [(intro _; clear_value z); subst z]) | (refine State.Ok.cutPair (n := n) z ?_ ?_ <;> [(intro _; clear_value z); subst z]) | clear_value z)
    | with_reducible apply State.Ok.ite
    | with_reducible apply State.serveIntake_ok
    | with_reducible apply State.sendTrunk_ok
    | with_reducible apply State.sendPort_ok
    | split

theorem execEgressStart_ok (n : Mark) (a1) (a2) (a3) (a4 : State) (ha4 : a4.Ok n) : OkH n (execEgressStart a1 a2 a3 a4) := by
  unfold execEgressStart
  refine act2_ok _ _ (fun s hs => ?_) ha4
  try dsimp only
  repeat' first
    | with_reducible assumption
    | intro _
    | (extract_lets +onlyGivenNames z; first | (refine State.Ok.cut (n := n) z ?_ ?_ <;> [(intro _; clear_value z); subst z]) | (refine State.Ok.cutPair (n := n) z ?_ ?_ <;> [(intro _; clear_value z); subst z]) | clear_value z)
    | with_reducible apply State.Ok.ite
    | with_reducible apply egressStartEffect_ok
    | split

theorem State.grant_ok (n : Mark) (a1 : State) (a2) (ha1 : a1.Ok n) : (State.grant a1 a2).Ok n := by
  unfold State.grant
  repeat' first
    | with_reducible assumption
    | intro _
    | (extract_lets +onlyGivenNames z; first | (refine State.Ok.cut (n := n) z ?_ ?_ <;> [(intro _; clear_value z); subst z]) | (refine State.Ok.cutPair (n := n) z ?_ ?_ <;> [(intro _; clear_value z); subst z]) | clear_value z)
    | with_reducible apply State.Ok.ite
    | with_reducible apply State.modCore_ok
    | with_reducible apply foldl_ok
    | with_reducible apply foldlState_ok
    | split

theorem execAllotmentGrant_ok (n : Mark) (a1) (a2 : State) (ha2 : a2.Ok n) : OkH n (execAllotmentGrant a1 a2) := by
  unfold execAllotmentGrant
  refine act1_ok _ _ (fun s hs => ?_) ha2
  try dsimp only
  repeat' first
    | with_reducible assumption
    | intro _
    | (extract_lets +onlyGivenNames z; first | (refine State.Ok.cut (n := n) z ?_ ?_ <;> [(intro _; clear_value z); subst z]) | (refine State.Ok.cutPair (n := n) z ?_ ?_ <;> [(intro _; clear_value z); subst z]) | clear_value z)
    | with_reducible apply State.Ok.ite
    | with_reducible apply State.each_ok
    | with_reducible apply State.grant_ok
    | split

end Sys2Proof.Machine
end

