-- ==== Sys2Proof/Laws/KeepSchedule.lean ====
section
/-! SUPPORT. Every operation of Schedule.lean keeps the invariant, and the local count does not run back. -/

set_option linter.all false

namespace Sys2Proof.Machine

theorem State.fireSlot_ok (n : Mark) (a1 : State) (a2) (ha1 : a1.Ok n) : (State.fireSlot a1 a2).Ok n := by
  unfold State.fireSlot
  repeat' first
    | with_reducible assumption
    | intro _
    | (extract_lets +onlyGivenNames z; first | (refine State.Ok.cut (n := n) z ?_ ?_ <;> [(intro _; clear_value z); subst z]) | (refine State.Ok.cutPair (n := n) z ?_ ?_ <;> [(intro _; clear_value z); subst z]) | clear_value z)
    | with_reducible apply State.Ok.ite
    | with_reducible apply snapshotFireEffect_ok
    | with_reducible apply slotSwapEffect_ok
    | with_reducible apply dictionaryChangeFireEffect_ok
    | with_reducible apply firmwareActivationEffect_ok
    | split

theorem State.runDue_ok (n : Mark) (a1 : State) (a2) (ha1 : a1.Ok n) : (State.runDue a1 a2).Ok n := by
  induction a2 generalizing a1 with
  | zero => exact ha1
  | succ k ih =>
    unfold State.runDue
    split
    · exact ha1
    · exact ih _ (State.fireSlot_ok _ _ _ ha1)

theorem timeAnnounceReceiveEffect_ok (n : Mark) (a1 : State) (a2) (a3) (ha1 : a1.Ok n) : (timeAnnounceReceiveEffect a1 a2 a3).Ok n := by
  unfold timeAnnounceReceiveEffect
  repeat' first
    | with_reducible assumption
    | intro _
    | (extract_lets +onlyGivenNames z; first | (refine State.Ok.cut (n := n) z ?_ ?_ <;> [(intro _; clear_value z); subst z]) | (refine State.Ok.cutPair (n := n) z ?_ ?_ <;> [(intro _; clear_value z); subst z]) | clear_value z)
    | with_reducible apply State.Ok.ite
    | with_reducible apply State.markHeard_ok
    | with_reducible apply State.modTime_ok
    | with_reducible apply State.takeAnnounce_ok
    | with_reducible apply State.sendControl_ok
    | with_reducible apply State.runDue_ok
    | split

theorem execTimeAnnounceReceive_ok (n : Mark) (a1) (a2) (a3) (a4 : State) (ha4 : a4.Ok n) : OkH n (execTimeAnnounceReceive a1 a2 a3 a4) := by
  unfold execTimeAnnounceReceive
  refine act2_ok _ _ (fun s hs => ?_) ha4
  try dsimp only
  repeat' first
    | with_reducible assumption
    | intro _
    | (extract_lets +onlyGivenNames z; first | (refine State.Ok.cut (n := n) z ?_ ?_ <;> [(intro _; clear_value z); subst z]) | (refine State.Ok.cutPair (n := n) z ?_ ?_ <;> [(intro _; clear_value z); subst z]) | clear_value z)
    | with_reducible apply State.Ok.ite
    | with_reducible apply timeAnnounceReceiveEffect_ok
    | split

theorem markerEffect_ok (n : Mark) (a1 : State) (a2) (a3) (ha1 : a1.Ok n) : (markerEffect a1 a2 a3).Ok n := by
  unfold markerEffect
  repeat' first
    | with_reducible assumption
    | intro _
    | (extract_lets +onlyGivenNames z; first | (refine State.Ok.cut (n := n) z ?_ ?_ <;> [(intro _; clear_value z); subst z]) | (refine State.Ok.cutPair (n := n) z ?_ ?_ <;> [(intro _; clear_value z); subst z]) | clear_value z)
    | with_reducible apply State.Ok.ite
    | with_reducible apply State.modTrunk_ok
    | with_reducible apply State.takeOffset_ok
    | with_reducible apply State.runDue_ok
    | split

theorem alignmentMarkerReceiveEffect_ok (n : Mark) (a1 : State) (a2) (a3) (ha1 : a1.Ok n) : (alignmentMarkerReceiveEffect a1 a2 a3).Ok n := by
  unfold alignmentMarkerReceiveEffect
  repeat' first
    | with_reducible assumption
    | intro _
    | (extract_lets +onlyGivenNames z; first | (refine State.Ok.cut (n := n) z ?_ ?_ <;> [(intro _; clear_value z); subst z]) | (refine State.Ok.cutPair (n := n) z ?_ ?_ <;> [(intro _; clear_value z); subst z]) | clear_value z)
    | with_reducible apply State.Ok.ite
    | with_reducible apply State.modTrunk_ok
    | with_reducible apply State.trunkRetrain_ok
    | with_reducible apply markerEffect_ok
    | split

theorem execAlignmentMarkerReceive_ok (n : Mark) (a1) (a2) (a3) (a4 : State) (ha4 : a4.Ok n) : OkH n (execAlignmentMarkerReceive a1 a2 a3 a4) := by
  unfold execAlignmentMarkerReceive
  refine act2_ok _ _ (fun s hs => ?_) ha4
  try dsimp only
  repeat' first
    | with_reducible assumption
    | intro _
    | (extract_lets +onlyGivenNames z; first | (refine State.Ok.cut (n := n) z ?_ ?_ <;> [(intro _; clear_value z); subst z]) | (refine State.Ok.cutPair (n := n) z ?_ ?_ <;> [(intro _; clear_value z); subst z]) | clear_value z)
    | with_reducible apply State.Ok.ite
    | with_reducible apply alignmentMarkerReceiveEffect_ok
    | split

end Sys2Proof.Machine
end

