-- ==== Sys2Proof/Laws/KeepReceive.lean ====
section
/-! SUPPORT. Every operation of Receive.lean keeps the invariant, and the local count does not run back. -/

set_option linter.all false

namespace Sys2Proof.Machine

theorem State.ackTo_ok (n : Mark) (a1 : State) (a2) (a3) (ha1 : a1.Ok n) : (State.ackTo a1 a2 a3).Ok n := by
  unfold State.ackTo
  repeat' first
    | with_reducible assumption
    | intro _
    | (extract_lets +onlyGivenNames z; first | (refine State.Ok.cut (n := n) z ?_ ?_ <;> [(intro _; clear_value z); subst z]) | (refine State.Ok.cutPair (n := n) z ?_ ?_ <;> [(intro _; clear_value z); subst z]) | clear_value z)
    | with_reducible apply State.Ok.ite
    | with_reducible apply State.modTx_ok
    | with_reducible apply State.releaseTo_ok
    | split

theorem State.takeLinkFields_ok (n : Mark) (a1 : State) (a2) (a3) (ha1 : a1.Ok n) : (State.takeLinkFields a1 a2 a3).Ok n := by
  unfold State.takeLinkFields
  repeat' first
    | with_reducible assumption
    | intro _
    | (extract_lets +onlyGivenNames z; first | (refine State.Ok.cut (n := n) z ?_ ?_ <;> [(intro _; clear_value z); subst z]) | (refine State.Ok.cutPair (n := n) z ?_ ?_ <;> [(intro _; clear_value z); subst z]) | clear_value z)
    | with_reducible apply State.Ok.ite
    | with_reducible apply State.modTrunk_ok
    | with_reducible apply State.ackTo_ok
    | with_reducible apply State.startReplay_ok
    | split

theorem State.hopLimit_ok (n : Mark) (a1 : State) (a2) (a3) (ha1 : a1.Ok n) : (State.hopLimit a1 a2 a3).Ok n := by
  unfold State.hopLimit
  repeat' first
    | with_reducible assumption
    | intro _
    | (extract_lets +onlyGivenNames z; first | (refine State.Ok.cut (n := n) z ?_ ?_ <;> [(intro _; clear_value z); subst z]) | (refine State.Ok.cutPair (n := n) z ?_ ?_ <;> [(intro _; clear_value z); subst z]) | clear_value z)
    | with_reducible apply State.Ok.ite
    | with_reducible apply State.noteAt_ok
    | with_reducible apply State.countBough_ok
    | split

theorem State.transit_ok (n : Mark) (a1 : State) (a2) (a3) (ha1 : a1.Ok n) : State.OkE n (State.transit a1 a2 a3) := by
  unfold State.transit
  repeat' first
    | with_reducible assumption
    | intro _
    | (extract_lets +onlyGivenNames z; first | (refine State.Ok.cut (n := n) z ?_ ?_ <;> [(intro _; clear_value z); subst z]) | (refine State.Ok.cutPair (n := n) z ?_ ?_ <;> [(intro _; clear_value z); subst z]) | clear_value z)
    | with_reducible apply State.Ok.ite
    | with_reducible apply State.Ok.iteFst
    | with_reducible apply State.undeliverable_ok
    | with_reducible apply State.hopLimit_ok
    | with_reducible apply State.countBough_ok
    | with_reducible apply State.stick_ok
    | with_reducible apply State.placeC6_ok
    | with_reducible apply State.coloured_ok
    | with_reducible apply State.enterAll_ok
    | with_reducible exact State.OkE.error_
    | with_reducible apply State.OkE.ite_
    | with_reducible apply State.OkE.ok_
    | split
    | (refine State.Ok.ofPair (by with_reducible assumption) ?_)

theorem State.trackedCompletion_ok (n : Mark) (a1 : State) (a2) (a3) (a4) (ha1 : a1.Ok n) : (State.trackedCompletion a1 a2 a3 a4).1.Ok n := by
  unfold State.trackedCompletion
  repeat' first
    | with_reducible assumption
    | intro _
    | (extract_lets +onlyGivenNames z; first | (refine State.Ok.cut (n := n) z ?_ ?_ <;> [(intro _; clear_value z); subst z]) | (refine State.Ok.cutPair (n := n) z ?_ ?_ <;> [(intro _; clear_value z); subst z]) | clear_value z)
    | with_reducible apply State.Ok.ite
    | with_reducible apply State.Ok.iteFst
    | with_reducible apply State.countHeart_ok
    | with_reducible apply State.modFabric_ok
    | with_reducible apply State.noteAt_ok
    | with_reducible apply State.backTo_ok
    | split
    | (refine State.Ok.ofPair (by with_reducible assumption) ?_)

theorem State.trunkMessage_ok (n : Mark) (a1 : State) (a2) (a3) (a4) (ha1 : a1.Ok n) : (State.trunkMessage a1 a2 a3 a4).1.Ok n := by
  unfold State.trunkMessage
  repeat' first
    | with_reducible assumption
    | intro _
    | (extract_lets +onlyGivenNames z; first | (refine State.Ok.cut (n := n) z ?_ ?_ <;> [(intro _; clear_value z); subst z]) | (refine State.Ok.cutPair (n := n) z ?_ ?_ <;> [(intro _; clear_value z); subst z]) | clear_value z)
    | with_reducible apply State.Ok.ite
    | with_reducible apply State.Ok.iteFst
    | with_reducible apply State.modFabric_ok
    | with_reducible apply State.countDrop_ok
    | with_reducible apply State.toVdp_ok
    | with_reducible apply State.toHost_ok
    | split
    | (refine State.Ok.ofPair (by with_reducible assumption) ?_)

theorem State.trunkRequest_ok (n : Mark) (a1 : State) (a2) (a3) (a4) (ha1 : a1.Ok n) : (State.trunkRequest a1 a2 a3 a4).1.Ok n := by
  unfold State.trunkRequest
  repeat' first
    | with_reducible assumption
    | intro _
    | (extract_lets +onlyGivenNames z; first | (refine State.Ok.cut (n := n) z ?_ ?_ <;> [(intro _; clear_value z); subst z]) | (refine State.Ok.cutPair (n := n) z ?_ ?_ <;> [(intro _; clear_value z); subst z]) | clear_value z)
    | with_reducible apply State.Ok.ite
    | with_reducible apply State.Ok.iteFst
    | with_reducible apply State.deliverTo_ok
    | with_reducible apply State.decodeTo_ok
    | with_reducible apply State.toVdp_ok
    | split
    | (refine State.Ok.ofPair (by with_reducible assumption) ?_)

theorem State.trunkMulticast_ok (n : Mark) (a1 : State) (a2) (a3) (a4) (a5) (ha1 : a1.Ok n) : (State.trunkMulticast a1 a2 a3 a4 a5).1.Ok n := by
  unfold State.trunkMulticast
  repeat' first
    | with_reducible assumption
    | intro _
    | (extract_lets +onlyGivenNames z; first | (refine State.Ok.cut (n := n) z ?_ ?_ <;> [(intro _; clear_value z); subst z]) | (refine State.Ok.cutPair (n := n) z ?_ ?_ <;> [(intro _; clear_value z); subst z]) | clear_value z)
    | with_reducible apply State.Ok.ite
    | with_reducible apply State.Ok.iteFst
    | with_reducible apply State.multicast_ok
    | with_reducible apply State.countBough_ok
    | split
    | (refine State.Ok.ofPair (by with_reducible assumption) ?_)

theorem State.trunkTlp_ok (n : Mark) (a1 : State) (a2) (a3) (a4) (a5) (ha1 : a1.Ok n) : (State.trunkTlp a1 a2 a3 a4 a5).1.Ok n := by
  unfold State.trunkTlp
  repeat' first
    | with_reducible assumption
    | intro _
    | (extract_lets +onlyGivenNames z; first | (refine State.Ok.cut (n := n) z ?_ ?_ <;> [(intro _; clear_value z); subst z]) | (refine State.Ok.cutPair (n := n) z ?_ ?_ <;> [(intro _; clear_value z); subst z]) | clear_value z)
    | with_reducible apply State.Ok.ite
    | with_reducible apply State.Ok.iteFst
    | with_reducible apply State.violation_ok
    | with_reducible apply State.trunkMulticast_ok
    | with_reducible apply State.trackedCompletion_ok
    | with_reducible apply State.trunkMessage_ok
    | with_reducible apply State.trunkRequest_ok
    | split
    | (refine State.Ok.ofPair (by with_reducible assumption) ?_)

theorem State.tryTlp_ok (n : Mark) (a1 : State) (a2) (a3) (a4) (a5) (ha1 : a1.Ok n) : State.OkE n (State.tryTlp a1 a2 a3 a4 a5) := by
  unfold State.tryTlp
  repeat' first
    | with_reducible assumption
    | intro _
    | (extract_lets +onlyGivenNames z; first | (refine State.Ok.cut (n := n) z ?_ ?_ <;> [(intro _; clear_value z); subst z]) | (refine State.Ok.cutPair (n := n) z ?_ ?_ <;> [(intro _; clear_value z); subst z]) | clear_value z)
    | with_reducible apply State.Ok.ite
    | with_reducible apply State.Ok.iteFst
    | with_reducible apply State.trunkTlp_ok
    | with_reducible apply State.coloured_ok
    | with_reducible apply State.enterAll_ok
    | with_reducible exact State.OkE.error_
    | with_reducible apply State.OkE.ite_
    | with_reducible apply State.OkE.ok_
    | split
    | (refine State.Ok.ofPair (by with_reducible assumption) ?_)

theorem State.tryDatagram_ok (n : Mark) (a1 : State) (a2) (a3) (ha1 : a1.Ok n) : (State.tryDatagram a1 a2 a3).Ok n := by
  unfold State.tryDatagram
  repeat' first
    | with_reducible assumption
    | intro _
    | (extract_lets +onlyGivenNames z; first | (refine State.Ok.cut (n := n) z ?_ ?_ <;> [(intro _; clear_value z); subst z]) | (refine State.Ok.cutPair (n := n) z ?_ ?_ <;> [(intro _; clear_value z); subst z]) | clear_value z)
    | with_reducible apply State.Ok.ite
    | with_reducible apply State.placeC6_ok
    | split
    | (with_reducible refine State.Ok.lit _ _ _ _ _ _ _ _ _ _ _ _ _ _ _ _ _ rfl rfl rfl rfl rfl rfl ?_)

theorem State.tryEngine_ok (n : Mark) (a1 : State) (a2) (a3) (a4) (ha1 : a1.Ok n) : State.OkE n (State.tryEngine a1 a2 a3 a4) := by
  unfold State.tryEngine
  repeat' first
    | with_reducible assumption
    | intro _
    | (extract_lets +onlyGivenNames z; first | (refine State.Ok.cut (n := n) z ?_ ?_ <;> [(intro _; clear_value z); subst z]) | (refine State.Ok.cutPair (n := n) z ?_ ?_ <;> [(intro _; clear_value z); subst z]) | clear_value z)
    | with_reducible apply State.Ok.ite
    | with_reducible apply State.Ok.iteFst
    | with_reducible apply State.coloured_ok
    | with_reducible apply State.enterAll_ok
    | with_reducible apply State.countBough_ok
    | with_reducible exact State.OkE.error_
    | with_reducible apply State.OkE.ite_
    | with_reducible apply State.OkE.ok_
    | split
    | (refine State.Ok.ofPair (by with_reducible assumption) ?_)

theorem State.strayMsg_ok (n : Mark) (a1 : State) (a2) (a3) (ha1 : a1.Ok n) : (State.strayMsg a1 a2 a3).Ok n := by
  unfold State.strayMsg
  repeat' first
    | with_reducible assumption
    | intro _
    | (extract_lets +onlyGivenNames z; first | (refine State.Ok.cut (n := n) z ?_ ?_ <;> [(intro _; clear_value z); subst z]) | (refine State.Ok.cutPair (n := n) z ?_ ?_ <;> [(intro _; clear_value z); subst z]) | clear_value z)
    | with_reducible apply State.Ok.ite
    | with_reducible apply State.gateFault_ok
    | with_reducible apply State.countBough_ok
    | with_reducible apply State.logDiscard_ok
    | with_reducible apply State.countViol_ok
    | with_reducible apply State.noteAt_ok
    | split

theorem State.refuseMsg_ok (n : Mark) (a1 : State) (a2) (a3) (ha1 : a1.Ok n) : (State.refuseMsg a1 a2 a3).Ok n := by
  unfold State.refuseMsg
  repeat' first
    | with_reducible assumption
    | intro _
    | (extract_lets +onlyGivenNames z; first | (refine State.Ok.cut (n := n) z ?_ ?_ <;> [(intro _; clear_value z); subst z]) | (refine State.Ok.cutPair (n := n) z ?_ ?_ <;> [(intro _; clear_value z); subst z]) | clear_value z)
    | with_reducible apply State.Ok.ite
    | with_reducible apply State.refuseNp_ok
    | with_reducible apply State.postedFailed_ok
    | with_reducible apply State.countDrop_ok
    | split

theorem State.tryMsg_ok (n : Mark) (a1 : State) (a2) (a3) (ha1 : a1.Ok n) : State.OkE n (State.tryMsg a1 a2 a3) := by
  unfold State.tryMsg
  repeat' first
    | with_reducible assumption
    | intro _
    | (extract_lets +onlyGivenNames z; first | (refine State.Ok.cut (n := n) z ?_ ?_ <;> [(intro _; clear_value z); subst z]) | (refine State.Ok.cutPair (n := n) z ?_ ?_ <;> [(intro _; clear_value z); subst z]) | clear_value z)
    | with_reducible apply State.Ok.ite
    | with_reducible apply State.strayMsg_ok
    | with_reducible apply State.refuseMsg_ok
    | (with_reducible refine State.OkE.get (State.tryTlp_ok _ _ _ _ _ _ ?_ ) (by with_reducible assumption))
    | with_reducible apply State.tryTlp_ok
    | (with_reducible refine State.OkE.get (State.transit_ok _ _ _ _ ?_ ) (by with_reducible assumption))
    | with_reducible apply State.transit_ok
    | with_reducible apply State.tryDatagram_ok
    | (with_reducible refine State.OkE.get (State.tryEngine_ok _ _ _ _ _ ?_ ) (by with_reducible assumption))
    | with_reducible apply State.tryEngine_ok
    | with_reducible exact State.OkE.error_
    | with_reducible apply State.OkE.ite_
    | with_reducible apply State.OkE.ok_
    | split

theorem State.retryPool_ok (n : Mark) (a1 : State) (a2) (a3) (ha1 : a1.Ok n) : (State.retryPool a1 a2 a3).Ok n := by
  unfold State.retryPool
  repeat' first
    | with_reducible assumption
    | intro _
    | (extract_lets +onlyGivenNames z; first | (refine State.Ok.cut (n := n) z ?_ ?_ <;> [(intro _; clear_value z); subst z]) | (refine State.Ok.cutPair (n := n) z ?_ ?_ <;> [(intro _; clear_value z); subst z]) | clear_value z)
    | with_reducible apply State.Ok.ite
    | (with_reducible refine State.OkE.get (State.tryMsg_ok _ _ _ _ ?_ ) (by with_reducible assumption))
    | with_reducible apply State.tryMsg_ok
    | with_reducible apply State.countLimb_ok
    | with_reducible apply State.answerQueries_ok
    | with_reducible apply State.modRx_ok
    | with_reducible apply foldl_ok
    | with_reducible apply foldlState_ok
    | with_reducible exact State.OkE.error_
    | with_reducible apply State.OkE.ite_
    | with_reducible apply State.OkE.ok_
    | split

theorem State.poolArrive_ok (n : Mark) (a1 : State) (a2) (a3) (ha1 : a1.Ok n) : (State.poolArrive a1 a2 a3).Ok n := by
  unfold State.poolArrive
  repeat' first
    | with_reducible assumption
    | intro _
    | (extract_lets +onlyGivenNames z; first | (refine State.Ok.cut (n := n) z ?_ ?_ <;> [(intro _; clear_value z); subst z]) | (refine State.Ok.cutPair (n := n) z ?_ ?_ <;> [(intro _; clear_value z); subst z]) | (refine State.Ok.cutFun (n := n) z ?_ ?_ <;> [(intro _; clear_value z); subst z]) | (refine State.Ok.cutFun2 (n := n) z ?_ ?_ <;> [(intro _; clear_value z); subst z]) | (refine State.Ok.cutFun3 (n := n) z ?_ ?_ <;> [(intro _; clear_value z); subst z]) | (refine State.Ok.cutFun4 (n := n) z ?_ ?_ <;> [(intro _; clear_value z); subst z]) | (refine State.Ok.cutFun5 (n := n) z ?_ ?_ <;> [(intro _; clear_value z); subst z]) | (refine State.Ok.cutFun6 (n := n) z ?_ ?_ <;> [(intro _; clear_value z); subst z]) | (refine State.Ok.cutFun7 (n := n) z ?_ ?_ <;> [(intro _; clear_value z); subst z]) | clear_value z)
    | with_reducible apply State.Ok.ite
    | with_reducible apply_assumption
    | with_reducible apply State.modRx_ok
    | (with_reducible refine State.OkE.get (State.tryMsg_ok _ _ _ _ ?_ ) (by with_reducible assumption))
    | with_reducible apply State.tryMsg_ok
    | with_reducible apply State.countLimb_ok
    | with_reducible exact State.OkE.error_
    | with_reducible apply State.OkE.ite_
    | with_reducible apply State.OkE.ok_
    | split

theorem State.controlTransit_ok (n : Mark) (a1 : State) (a2) (a3) (a4) (ha1 : a1.Ok n) : (State.controlTransit a1 a2 a3 a4).Ok n := by
  unfold State.controlTransit
  repeat' first
    | with_reducible assumption
    | intro _
    | (extract_lets +onlyGivenNames z; first | (refine State.Ok.cut (n := n) z ?_ ?_ <;> [(intro _; clear_value z); subst z]) | (refine State.Ok.cutPair (n := n) z ?_ ?_ <;> [(intro _; clear_value z); subst z]) | clear_value z)
    | with_reducible apply State.Ok.ite
    | with_reducible apply State.hopLimit_ok
    | with_reducible apply State.countBough_ok
    | with_reducible apply State.controlTo_ok
    | split

theorem State.takeControl_ok (n : Mark) (a1 : State) (a2) (a3) (ha1 : a1.Ok n) : (State.takeControl a1 a2 a3).Ok n := by
  unfold State.takeControl
  repeat' first
    | with_reducible assumption
    | intro _
    | (extract_lets +onlyGivenNames z; first | (refine State.Ok.cut (n := n) z ?_ ?_ <;> [(intro _; clear_value z); subst z]) | (refine State.Ok.cutPair (n := n) z ?_ ?_ <;> [(intro _; clear_value z); subst z]) | clear_value z)
    | with_reducible apply State.Ok.ite
    | with_reducible apply timeAnnounceReceiveEffect_ok
    | with_reducible apply farFailureNoticeEffect_ok
    | with_reducible apply containmentMessageEffect_ok
    | with_reducible apply pruneSetReceiveEffect_ok
    | with_reducible apply snapshotMessageEffect_ok
    | with_reducible apply fateQueryEffect_ok
    | with_reducible apply fateAnswerEffect_ok
    | with_reducible apply fenceNoticeEffect_ok
    | with_reducible apply rekeyOfferEffect_ok
    | with_reducible apply rekeyAcceptEffect_ok
    | split

theorem State.controlIn_ok (n : Mark) (a1 : State) (a2) (a3) (a4) (ha1 : a1.Ok n) : (State.controlIn a1 a2 a3 a4).Ok n := by
  unfold State.controlIn
  repeat' first
    | with_reducible assumption
    | intro _
    | (extract_lets +onlyGivenNames z; first | (refine State.Ok.cut (n := n) z ?_ ?_ <;> [(intro _; clear_value z); subst z]) | (refine State.Ok.cutPair (n := n) z ?_ ?_ <;> [(intro _; clear_value z); subst z]) | clear_value z)
    | with_reducible apply State.Ok.ite
    | with_reducible apply State.controlTransit_ok
    | with_reducible apply State.takeControl_ok
    | split

theorem State.msgComplete_ok (n : Mark) (a1 : State) (a2) (a3) (a4) (ha1 : a1.Ok n) : (State.msgComplete a1 a2 a3 a4).Ok n := by
  unfold State.msgComplete
  repeat' first
    | with_reducible assumption
    | intro _
    | (extract_lets +onlyGivenNames z; first | (refine State.Ok.cut (n := n) z ?_ ?_ <;> [(intro _; clear_value z); subst z]) | (refine State.Ok.cutPair (n := n) z ?_ ?_ <;> [(intro _; clear_value z); subst z]) | clear_value z)
    | with_reducible apply State.Ok.ite
    | with_reducible apply State.modRx_ok
    | with_reducible apply State.poolArrive_ok
    | with_reducible apply State.countViol_ok
    | with_reducible apply State.logEntry_ok
    | split

theorem State.assemble_ok (n : Mark) (a1 : State) (a2) (a3) (a4) (ha1 : a1.Ok n) : (State.assemble a1 a2 a3 a4).Ok n := by
  unfold State.assemble
  repeat' first
    | with_reducible assumption
    | intro _
    | (extract_lets +onlyGivenNames z; first | (refine State.Ok.cut (n := n) z ?_ ?_ <;> [(intro _; clear_value z); subst z]) | (refine State.Ok.cutPair (n := n) z ?_ ?_ <;> [(intro _; clear_value z); subst z]) | clear_value z)
    | with_reducible apply State.Ok.ite
    | with_reducible apply State.modRx_ok
    | with_reducible apply State.msgComplete_ok
    | split

theorem State.acceptFu_ok (n : Mark) (a1 : State) (a2) (a3) (a4) (ha1 : a1.Ok n) : (State.acceptFu a1 a2 a3 a4).Ok n := by
  unfold State.acceptFu
  repeat' first
    | with_reducible assumption
    | intro _
    | (extract_lets +onlyGivenNames z; first | (refine State.Ok.cut (n := n) z ?_ ?_ <;> [(intro _; clear_value z); subst z]) | (refine State.Ok.cutPair (n := n) z ?_ ?_ <;> [(intro _; clear_value z); subst z]) | clear_value z)
    | with_reducible apply State.Ok.ite
    | with_reducible apply State.countTwig_ok
    | with_reducible apply State.modRx_ok
    | with_reducible apply State.assemble_ok
    | with_reducible apply State.controlIn_ok
    | with_reducible apply State.takeLinkFields_ok
    | split

theorem State.fuAtE_ok (n : Mark) (a1 : State) (a2) (a3) (ha1 : a1.Ok n) : (State.fuAtE a1 a2 a3).Ok n := by
  unfold State.fuAtE
  repeat' first
    | with_reducible assumption
    | intro _
    | (extract_lets +onlyGivenNames z; first | (refine State.Ok.cut (n := n) z ?_ ?_ <;> [(intro _; clear_value z); subst z]) | (refine State.Ok.cutPair (n := n) z ?_ ?_ <;> [(intro _; clear_value z); subst z]) | clear_value z)
    | with_reducible apply State.Ok.ite
    | with_reducible apply State.fuViolation_ok
    | with_reducible apply State.countTwig_ok
    | with_reducible apply State.takeLinkFields_ok
    | with_reducible apply State.modRx_ok
    | with_reducible apply State.acceptFu_ok
    | split

theorem State.fuDuplicate_ok (n : Mark) (a1 : State) (a2) (a3) (a4) (ha1 : a1.Ok n) : (State.fuDuplicate a1 a2 a3 a4).Ok n := by
  unfold State.fuDuplicate
  repeat' first
    | with_reducible assumption
    | intro _
    | (extract_lets +onlyGivenNames z; first | (refine State.Ok.cut (n := n) z ?_ ?_ <;> [(intro _; clear_value z); subst z]) | (refine State.Ok.cutPair (n := n) z ?_ ?_ <;> [(intro _; clear_value z); subst z]) | clear_value z)
    | with_reducible apply State.Ok.ite
    | with_reducible apply State.countTwig_ok
    | with_reducible apply State.takeLinkFields_ok
    | with_reducible apply State.fuViolation_ok
    | split

theorem State.fuCheckFail_ok (n : Mark) (a1 : State) (a2) (ha1 : a1.Ok n) : (State.fuCheckFail a1 a2).Ok n := by
  unfold State.fuCheckFail
  repeat' first
    | with_reducible assumption
    | intro _
    | (extract_lets +onlyGivenNames z; first | (refine State.Ok.cut (n := n) z ?_ ?_ <;> [(intro _; clear_value z); subst z]) | (refine State.Ok.cutPair (n := n) z ?_ ?_ <;> [(intro _; clear_value z); subst z]) | clear_value z)
    | with_reducible apply State.Ok.ite
    | with_reducible apply State.countTwig_ok
    | with_reducible apply State.nakEvent_ok
    | with_reducible apply State.modRx_ok
    | split

theorem State.fuArrive_ok (n : Mark) (a1 : State) (a2) (a3) (a4) (ha1 : a1.Ok n) : (State.fuArrive a1 a2 a3 a4).Ok n := by
  unfold State.fuArrive
  repeat' first
    | with_reducible assumption
    | intro _
    | (extract_lets +onlyGivenNames z; first | (refine State.Ok.cut (n := n) z ?_ ?_ <;> [(intro _; clear_value z); subst z]) | (refine State.Ok.cutPair (n := n) z ?_ ?_ <;> [(intro _; clear_value z); subst z]) | clear_value z)
    | with_reducible apply State.Ok.ite
    | with_reducible apply State.fuCheckFail_ok
    | with_reducible apply State.fuAtE_ok
    | with_reducible apply State.fuDuplicate_ok
    | split

theorem State.takeCodeword_ok (n : Mark) (a1 : State) (a2) (a3) (ha1 : a1.Ok n) : (State.takeCodeword a1 a2 a3).Ok n := by
  unfold State.takeCodeword
  repeat' first
    | with_reducible assumption
    | intro _
    | (extract_lets +onlyGivenNames z; first | (refine State.Ok.cut (n := n) z ?_ ?_ <;> [(intro _; clear_value z); subst z]) | (refine State.Ok.cutPair (n := n) z ?_ ?_ <;> [(intro _; clear_value z); subst z]) | clear_value z)
    | with_reducible apply State.Ok.ite
    | with_reducible apply State.modTrunk_ok
    | with_reducible apply State.countTwig_ok
    | split

theorem fuReceiveEffect_ok (n : Mark) (a1 : State) (a2) (a3) (a4) (ha1 : a1.Ok n) : (fuReceiveEffect a1 a2 a3 a4).Ok n := by
  unfold fuReceiveEffect
  repeat' first
    | with_reducible assumption
    | intro _
    | (extract_lets +onlyGivenNames z; first | (refine State.Ok.cut (n := n) z ?_ ?_ <;> [(intro _; clear_value z); subst z]) | (refine State.Ok.cutPair (n := n) z ?_ ?_ <;> [(intro _; clear_value z); subst z]) | clear_value z)
    | with_reducible apply State.Ok.ite
    | with_reducible apply State.Ok.iteFst
    | with_reducible apply State.takeCodeword_ok
    | with_reducible apply State.adaptTaps_ok
    | with_reducible apply State.trunkRetrain_ok
    | with_reducible apply State.injectItem_ok
    | with_reducible apply State.answerQueries_ok
    | with_reducible apply State.fuArrive_ok
    | split
    | (refine State.Ok.ofPair (by with_reducible assumption) ?_)

theorem execFuReceive_ok (n : Mark) (a1) (a2) (a3) (a4) (a5 : State) (ha5 : a5.Ok n) : OkH n (execFuReceive a1 a2 a3 a4 a5) := by
  unfold execFuReceive
  refine act2_ok _ _ (fun s hs => ?_) ha5
  try dsimp only
  repeat' first
    | with_reducible assumption
    | intro _
    | (extract_lets +onlyGivenNames z; first | (refine State.Ok.cut (n := n) z ?_ ?_ <;> [(intro _; clear_value z); subst z]) | (refine State.Ok.cutPair (n := n) z ?_ ?_ <;> [(intro _; clear_value z); subst z]) | clear_value z)
    | with_reducible apply State.Ok.ite
    | with_reducible apply fuReceiveEffect_ok
    | split

theorem rxSlotFreedEffect_ok (n : Mark) (a1 : State) (a2) (a3) (a4) (ha1 : a1.Ok n) : (rxSlotFreedEffect a1 a2 a3 a4).Ok n := by
  unfold rxSlotFreedEffect
  repeat' first
    | with_reducible assumption
    | intro _
    | (extract_lets +onlyGivenNames z; first | (refine State.Ok.cut (n := n) z ?_ ?_ <;> [(intro _; clear_value z); subst z]) | (refine State.Ok.cutPair (n := n) z ?_ ?_ <;> [(intro _; clear_value z); subst z]) | clear_value z)
    | with_reducible apply State.Ok.ite
    | with_reducible apply State.modRx_ok
    | split

theorem execRxSlotFreed_ok (n : Mark) (a1) (a2) (a3) (a4) (a5 : State) (ha5 : a5.Ok n) : OkH n (execRxSlotFreed a1 a2 a3 a4 a5) := by
  unfold execRxSlotFreed
  refine act1_ok _ _ (fun s hs => ?_) ha5
  try dsimp only
  repeat' first
    | with_reducible assumption
    | intro _
    | (extract_lets +onlyGivenNames z; first | (refine State.Ok.cut (n := n) z ?_ ?_ <;> [(intro _; clear_value z); subst z]) | (refine State.Ok.cutPair (n := n) z ?_ ?_ <;> [(intro _; clear_value z); subst z]) | clear_value z)
    | with_reducible apply State.Ok.ite
    | with_reducible apply rxSlotFreedEffect_ok
    | split

theorem retryEffect_ok (n : Mark) (a1 : State) (a2) (a3) (ha1 : a1.Ok n) : (retryEffect a1 a2 a3).Ok n := by
  unfold retryEffect
  repeat' first
    | with_reducible assumption
    | intro _
    | (extract_lets +onlyGivenNames z; first | (refine State.Ok.cut (n := n) z ?_ ?_ <;> [(intro _; clear_value z); subst z]) | (refine State.Ok.cutPair (n := n) z ?_ ?_ <;> [(intro _; clear_value z); subst z]) | clear_value z)
    | with_reducible apply State.Ok.ite
    | with_reducible apply State.retryPool_ok
    | with_reducible apply admissionRetryEffect_ok
    | split

theorem execAdmissionRetry_ok (n : Mark) (a1) (a2) (a3) (a4 : State) (ha4 : a4.Ok n) : OkH n (execAdmissionRetry a1 a2 a3 a4) := by
  unfold execAdmissionRetry
  refine act2_ok _ _ (fun s hs => ?_) ha4
  try dsimp only
  repeat' first
    | with_reducible assumption
    | intro _
    | (extract_lets +onlyGivenNames z; first | (refine State.Ok.cut (n := n) z ?_ ?_ <;> [(intro _; clear_value z); subst z]) | (refine State.Ok.cutPair (n := n) z ?_ ?_ <;> [(intro _; clear_value z); subst z]) | clear_value z)
    | with_reducible apply State.Ok.ite
    | with_reducible apply retryEffect_ok
    | split

end Sys2Proof.Machine
end

