-- ==== Sys2Proof/Laws/KeepRecords.lean ====
section
/-! SUPPORT. Every operation of Records.lean keeps the invariant, and the local count does not run back. -/

set_option linter.all false

namespace Sys2Proof.Machine

theorem State.takeSeq_ok (n : Mark) (a1 : State) (a2) (ha1 : a1.Ok n) : (State.takeSeq a1 a2).Ok n := by
  unfold State.takeSeq
  repeat' first
    | with_reducible assumption
    | intro _
    | (extract_lets +onlyGivenNames z; first | (refine State.Ok.cut (n := n) z ?_ ?_ <;> [(intro _; clear_value z); subst z]) | (refine State.Ok.cutPair (n := n) z ?_ ?_ <;> [(intro _; clear_value z); subst z]) | clear_value z)
    | with_reducible apply State.Ok.ite
    | (with_reducible refine State.dict_ok _ (dictWf_replaySeq _ _ _ (State.Ok.dict (n := n) ?_)) ?_)
    | split
    | (with_reducible refine State.Ok.lit _ _ _ _ _ _ _ _ _ _ _ _ _ _ _ _ _ rfl rfl rfl rfl rfl rfl ?_)

theorem State.takeWrite_ok (n : Mark) (a1 : State) (a2) (ha1 : a1.Ok n) : (State.takeWrite a1 a2).Ok n := by
  unfold State.takeWrite
  repeat' first
    | with_reducible assumption
    | intro _
    | (extract_lets +onlyGivenNames z; first | (refine State.Ok.cut (n := n) z ?_ ?_ <;> [(intro _; clear_value z); subst z]) | (refine State.Ok.cutPair (n := n) z ?_ ?_ <;> [(intro _; clear_value z); subst z]) | clear_value z)
    | with_reducible apply State.Ok.ite
    | with_reducible apply State.zeroize_ok
    | with_reducible apply State.applyWrite_ok
    | split

theorem State.takeSet_ok (n : Mark) (a1 : State) (a2) (ha1 : a1.Ok n) : (State.takeSet a1 a2).Ok n := by
  unfold State.takeSet
  repeat' first
    | with_reducible assumption
    | intro _
    | (extract_lets +onlyGivenNames z; first | (refine State.Ok.cut (n := n) z ?_ ?_ <;> [(intro _; clear_value z); subst z]) | (refine State.Ok.cutPair (n := n) z ?_ ?_ <;> [(intro _; clear_value z); subst z]) | clear_value z)
    | with_reducible apply State.Ok.ite
    | with_reducible apply State.fireSet_ok
    | with_reducible apply State.markFired_ok
    | split

theorem State.recordTaken_ok (n : Mark) (a1 : State) (a2) (ha1 : a1.Ok n) : (State.recordTaken a1 a2).Ok n := by
  unfold State.recordTaken
  repeat' first
    | with_reducible assumption
    | intro _
    | (extract_lets +onlyGivenNames z; first | (refine State.Ok.cut (n := n) z ?_ ?_ <;> [(intro _; clear_value z); subst z]) | (refine State.Ok.cutPair (n := n) z ?_ ?_ <;> [(intro _; clear_value z); subst z]) | clear_value z)
    | with_reducible apply State.Ok.ite
    | with_reducible apply State.takeSet_ok
    | with_reducible apply State.takeWrite_ok
    | with_reducible apply State.takeSeq_ok
    | with_reducible apply State.jWhole_ok
    | (with_reducible refine State.modJournal_ok _ rfl ?_)
    | with_reducible apply State.respond_ok
    | split

theorem recordWholeEffect_ok (n : Mark) (a1 : State) (a2) (a3) (ha1 : a1.Ok n) : (recordWholeEffect a1 a2 a3).Ok n := by
  unfold recordWholeEffect
  repeat' first
    | with_reducible assumption
    | intro _
    | (extract_lets +onlyGivenNames z; first | (refine State.Ok.cut (n := n) z ?_ ?_ <;> [(intro _; clear_value z); subst z]) | (refine State.Ok.cutPair (n := n) z ?_ ?_ <;> [(intro _; clear_value z); subst z]) | clear_value z)
    | with_reducible apply State.Ok.ite
    | with_reducible apply State.flashProgram_ok
    | with_reducible apply State.recordTaken_ok
    | (with_reducible refine State.modJournal_ok _ rfl ?_)
    | with_reducible apply State.compactIfFull_ok
    | with_reducible apply State.serveQueue_ok
    | split

theorem execRecordWhole_ok (n : Mark) (a1) (a2) (a3) (a4 : State) (ha4 : a4.Ok n) : OkH n (execRecordWhole a1 a2 a3 a4) := by
  unfold execRecordWhole
  refine act2_ok _ _ (fun s hs => ?_) ha4
  try dsimp only
  repeat' first
    | with_reducible assumption
    | intro _
    | (extract_lets +onlyGivenNames z; first | (refine State.Ok.cut (n := n) z ?_ ?_ <;> [(intro _; clear_value z); subst z]) | (refine State.Ok.cutPair (n := n) z ?_ ?_ <;> [(intro _; clear_value z); subst z]) | clear_value z)
    | with_reducible apply State.Ok.ite
    | with_reducible apply recordWholeEffect_ok
    | split

theorem inputLossWarningEndEffect_ok (n : Mark) (a1 : State) (ha1 : a1.Ok n) : (inputLossWarningEndEffect a1).Ok n := by
  unfold inputLossWarningEndEffect
  repeat' first
    | with_reducible assumption
    | intro _
    | (extract_lets +onlyGivenNames z; first | (refine State.Ok.cut (n := n) z ?_ ?_ <;> [(intro _; clear_value z); subst z]) | (refine State.Ok.cutPair (n := n) z ?_ ?_ <;> [(intro _; clear_value z); subst z]) | clear_value z)
    | with_reducible apply State.Ok.ite
    | (with_reducible refine State.modJournal_ok _ rfl ?_)
    | with_reducible apply State.modPower_ok
    | with_reducible apply State.each_ok
    | with_reducible apply State.respond_ok
    | with_reducible apply State.inputBack_ok
    | split

theorem execInputLossWarningEnd_ok (n : Mark) (a1) (a2 : State) (ha2 : a2.Ok n) : OkH n (execInputLossWarningEnd a1 a2) := by
  unfold execInputLossWarningEnd
  refine act2_ok _ _ (fun s hs => ?_) ha2
  try dsimp only
  repeat' first
    | with_reducible assumption
    | intro _
    | (extract_lets +onlyGivenNames z; first | (refine State.Ok.cut (n := n) z ?_ ?_ <;> [(intro _; clear_value z); subst z]) | (refine State.Ok.cutPair (n := n) z ?_ ?_ <;> [(intro _; clear_value z); subst z]) | clear_value z)
    | with_reducible apply State.Ok.ite
    | with_reducible apply inputLossWarningEndEffect_ok
    | split

end Sys2Proof.Machine
end

