-- ==== Sys2Proof/Laws/Lines.lean ====
section
/-! SUPPORT. Reading, checking and confirming a pool line changes no byte and no owner of fabric memory. -/

namespace Sys2Proof.Machine

/-- The bytes and the owners of fabric memory are the same in both states. -/
def State.SameLines (s u : State) : Prop := u.mem.cells = s.mem.cells ∧ u.mem.owners = s.mem.owners

theorem State.SameLines.trans {s t u : State} (a : s.SameLines t) (b : t.SameLines u) : s.SameLines u :=
  ⟨b.1.trans a.1, b.2.trans a.2⟩

theorem State.SameLines.of_mem {s u : State} (h : u.mem = s.mem) : s.SameLines u := by
  rw [State.SameLines, h]
  exact ⟨rfl, rfl⟩

theorem State.SameLines.owner {s u : State} (h : s.SameLines u) (n : Nat) : u.lineOwner n = s.lineOwner n := by
  rw [State.lineOwner, h.2]
  rfl

theorem State.memLog_sameLines (s : State) (k g p : Nat) : s.SameLines (s.memLog k g p) := ⟨rfl, rfl⟩

theorem State.modChannel_sameLines (s : State) (d : Nat) (f : Channel → Channel) : s.SameLines (s.modChannel d f) := ⟨rfl, rfl⟩

theorem State.countHeart_sameLines (s : State) (a b : Nat) : s.SameLines (s.countHeart a b) := .of_mem (by simp [State.countHeart])

theorem State.note_sameLines (s : State) (e : Ev) : s.SameLines (s.note e) := .of_mem (by simp)

theorem State.noteAt_sameLines (s : State) (a b c : Nat) : s.SameLines (s.noteAt a b c) := .of_mem (by simp)

theorem State.channelFail_sameLines (s : State) (d c : Nat) : s.SameLines (s.channelFail d c) :=
  (s.modChannel_sameLines d _).trans (State.note_sameLines _ _)

theorem State.each_sameLines {α : Type} (l : List α) (f : State → α → State) (h : ∀ (s : State) (a : α), s.SameLines (f s a)) (s : State) :
    s.SameLines (s.each l f) := by
  unfold State.each
  induction l generalizing s with
  | nil => exact ⟨rfl, rfl⟩
  | cons a l ih => exact (h s a).trans (ih _)

theorem State.transfers_sameLines (s : State) (n r : Nat) : s.SameLines (s.transfers n r) := by
  have h := State.each_sameLines (List.range (min r 3)) (fun s _ => (s.countHeart 0x394 1).noteAt 0xC0A (lineDevice n) 1)
    (fun s _ => (s.countHeart_sameLines _ _).trans (State.noteAt_sameLines _ _ _ _)) s
  unfold State.transfers
  simp only []
  split
  · exact h.trans ((State.memLog_sameLines _ _ _ _).trans (State.channelFail_sameLines _ _ _))
  · exact h

theorem State.confirmed_sameLines (s : State) (a b c d : Nat) : s.SameLines (s.confirmed a b c d) :=
  (((s.countHeart_sameLines _ _).trans (State.memLog_sameLines _ _ _ _)).trans (State.modChannel_sameLines _ _ _)).trans
    (State.noteAt_sameLines _ _ _ _)

theorem State.injectItem_sameLines (s : State) (a : List Nat) (b c : Nat) : s.SameLines (s.injectItem a b c).1 := by
  apply State.SameLines.of_mem
  unfold State.injectItem
  repeat' split
  all_goals simp

theorem State.drew_sameLines (s : State) : s.SameLines s.drew := ⟨rfl, rfl⟩

/-- A line read and checked. -/
theorem State.fetchLine_sameLines (s : State) (n k : Nat) (rd : LineRead) : s.SameLines (s.fetchLine n k rd).1 := by
  unfold State.fetchLine
  have h := s.transfers_sameLines n rd.retries
  generalize s.transfers n rd.retries = u at h
  simp only []
  have g : s.SameLines (if Config.tagMiss u.draws = true then u.drew.countHeart 0x398 1 else u.drew) := by
    split
    · exact h.trans ((State.drew_sameLines _).trans (State.countHeart_sameLines _ _ _))
    · exact h.trans (State.drew_sameLines _)
  generalize (if Config.tagMiss u.draws = true then u.drew.countHeart 0x398 1 else u.drew) = v at g
  have i := g.trans (v.injectItem_sameLines [6] 3 (lineDevice n))
  generalize (v.injectItem [6] 3 (lineDevice n)).1 = w at i
  split
  · exact i
  · exact i.trans (State.confirmed_sameLines _ _ _ _ _)

/-! ### What a read is checked against -/

/-- What CHECK, the ciphertext and the rows of the pool rest on is the same in both states. -/
def State.SameRows (s u : State) : Prop :=
  u.dict = s.dict ∧ u.mem.cells = s.mem.cells ∧ u.mem.owners = s.mem.owners ∧ u.mem.remaps = s.mem.remaps ∧
    u.mem.keyDraw = s.mem.keyDraw ∧ u.mem.keyWraps = s.mem.keyWraps

theorem State.SameRows.trans {s t u : State} (a : s.SameRows t) (b : t.SameRows u) : s.SameRows u := by
  obtain ⟨a1, a2, a3, a4, a5, a6⟩ := a
  obtain ⟨b1, b2, b3, b4, b5, b6⟩ := b
  exact ⟨b1.trans a1, b2.trans a2, b3.trans a3, b4.trans a4, b5.trans a5, b6.trans a6⟩

theorem State.SameRows.of_mem {s u : State} (d : u.dict = s.dict) (h : u.mem = s.mem) : s.SameRows u := by
  rw [State.SameRows, d, h]
  exact ⟨rfl, rfl, rfl, rfl, rfl, rfl⟩

theorem State.SameRows.plaOf {s u : State} (h : s.SameRows u) (n : Nat) : u.plaOf n = s.plaOf n := by
  rw [State.plaOf, h.2.2.2.1]
  rfl

theorem State.SameRows.passes {s u : State} (h : s.SameRows u) (pla : Nat) (g : LineGot) : u.passes pla g = s.passes pla g := by
  obtain ⟨d, c, o, r, k, w⟩ := h
  have line : u.lineOwner = s.lineOwner := funext fun x => by rw [State.lineOwner, State.lineOwner, o]
  have own : u.ownerAt = s.ownerAt := funext fun x => by rw [State.ownerAt, State.ownerAt, State.poolLineAt, State.poolLineAt, line, r]
  have stored : u.rowStored = s.rowStored := by
    funext x
    simp only [State.rowStored, State.rowPlain, State.reservedPlain, State.lineKey, State.tweakOf, State.poolLineAt, State.get, own, d, c, r, k, w]
  simp only [State.passes, State.rowCheck, own, stored]
  rfl

theorem State.each_sameRows {α : Type} (l : List α) (f : State → α → State) (h : ∀ (s : State) (a : α), s.SameRows (f s a)) (s : State) :
    s.SameRows (s.each l f) := by
  unfold State.each
  induction l generalizing s with
  | nil => exact .of_mem rfl rfl
  | cons a l ih => exact (h s a).trans (ih _)

theorem State.countHeart_sameRows (s : State) (a b : Nat) : s.SameRows (s.countHeart a b) :=
  .of_mem (by simp [State.countHeart]) (by simp [State.countHeart])

theorem State.drew_sameRows (s : State) : s.SameRows s.drew := .of_mem rfl rfl

theorem State.failed_sameRows (s : State) (a b c d e : Nat) : s.SameRows ((s.memLog a b c).channelFail d e) :=
  .trans (t := (s.memLog a b c).modChannel d (fun k => { k with state := 3 })) ⟨rfl, rfl, rfl, rfl, rfl, rfl⟩ (.of_mem (by simp [State.channelFail]) (by simp [State.channelFail]))

theorem State.transfers_sameRows (s : State) (n r : Nat) : s.SameRows (s.transfers n r) := by
  have h := State.each_sameRows (List.range (min r 3)) (fun s _ => (s.countHeart 0x394 1).noteAt 0xC0A (lineDevice n) 1)
    (fun s _ => (s.countHeart_sameRows 0x394 1).trans (.of_mem (by simp) (by simp))) s
  unfold State.transfers
  simp only []
  split
  · exact h.trans (State.failed_sameRows _ _ _ _ _ _)
  · exact h

theorem State.injectItem_sameRows (s : State) (a : List Nat) (b c : Nat) : s.SameRows (s.injectItem a b c).1 := by
  refine .of_mem ?_ ?_ <;> unfold State.injectItem <;> repeat' split
  all_goals simp

/-- A failure is confirmed exactly where neither read passes. -/
theorem State.fetchLine_confirmed (s : State) (n k : Nat) (rd : LineRead) :
    (s.fetchLine n k rd).2 = !(s.passes (s.plaOf n) rd.first || s.passes (s.plaOf n) rd.second) := by
  unfold State.fetchLine
  have h := s.transfers_sameRows n rd.retries
  generalize s.transfers n rd.retries = u at h
  simp only []
  have g : s.SameRows (if Config.tagMiss u.draws = true then u.drew.countHeart 0x398 1 else u.drew) := by
    split
    · exact h.trans ((State.drew_sameRows _).trans (State.countHeart_sameRows _ _ _))
    · exact h.trans (State.drew_sameRows _)
  generalize (if Config.tagMiss u.draws = true then u.drew.countHeart 0x398 1 else u.drew) = v at g
  have i := g.trans (v.injectItem_sameRows [6] 3 (lineDevice n))
  generalize (v.injectItem [6] 3 (lineDevice n)).1 = w at i
  rw [i.plaOf, i.passes, i.passes]
  generalize s.passes (s.plaOf n) rd.first = x
  generalize s.passes (s.plaOf n) rd.second = y
  cases x <;> cases y <;> rfl

/-- A line read back after a write of the whole. -/
theorem State.readBack_sameLines (s : State) (n : Nat) (ok : Bool) : s.SameLines (s.readBack n ok) := by
  unfold State.readBack
  simp only []
  repeat' split
  · exact ⟨rfl, rfl⟩
  · exact State.modChannel_sameLines _ _ _
  · exact State.memLog_sameLines _ _ _ _
  all_goals simp only [State.SameLines, State.noteAt_mem, State.memLog, State.countHeart, State.modChannel, State.modMem, State.countFrom_mem]
  all_goals exact ⟨trivial, trivial⟩

/-- The bytes that a read of a line answers when one of its two reads passes. -/
theorem State.readLine_bytes (s : State) (o : Owner) (a len : Nat) (rd : LineRead)
    (h : ((s.countHeart 0x390 1).fetchLine (a / 256) 1 rd).2 = false) :
    (s.readLine o a len rd).2.1 = if s.lineOwner (a / 256) = o then cellsGet s.mem.cells a len else List.replicate len 0 := by
  unfold State.readLine
  simp only [h]
  split
  · simp [State.lineBytes]
  · rfl

/-- What a write of a whole line leaves. -/
theorem State.writeLine_lines (s : State) (o : Owner) (n retries : Nat) (data : List Byte) (ok : Bool) :
    (s.writeLine o n data retries ok).mem.cells = cellsPut s.mem.cells (256 * n) data ∧
      (s.writeLine o n data retries ok).mem.owners = (s.mem.setOwner n o).owners := by
  unfold State.writeLine
  simp only []
  have h := (s.transfers_sameLines n retries).trans (State.countHeart_sameLines _ 0x391 1)
  generalize (s.transfers n retries).countHeart 0x391 1 = u at h
  have g := State.readBack_sameLines (u.modMem (fun m => { m with cells := cellsPut m.cells (256 * n) data }.setOwner n o)) n ok
  refine ⟨g.1.trans ?_, g.2.trans ?_⟩
  · rw [← h.1]
    simp [State.modMem, Memory.setOwner]
  · simp only [State.modMem, Memory.setOwner]
    rw [h.2]

end Sys2Proof.Machine
end

