-- ==== Sys2Proof/Laws/Requests.lean ====
section
/-! SUPPORT. How a request that is heard comes to be served. -/

namespace Sys2Proof.Machine

/-- Counting a signature changes nothing that serving looks at. -/
theorem State.sigCounted_serves (s : State) (r : Req) (c : Caller) (via : Transport) (op index sub : Nat) (hc : s.claimed = true)
    (hh : s.sec.hold = none) (hr : s.journal.recovery = false) :
    (s.sigCounted r).mayServe c via op index sub = true ∧ (s.sigCounted r).claiming c via op = false ∧
      (s.sigCounted r).recoveryServes op index = false := by
  have e : (s.sigCounted r).dict = s.dict ∧ (s.sigCounted r).sec = s.sec ∧ (s.sigCounted r).journal = s.journal := by
    unfold State.sigCounted
    split
    · split <;> simp
    · simp
  have k : (s.sigCounted r).claimed = true := by
    have g : (s.sigCounted r).get Key.CLAIM_STATE = s.get Key.CLAIM_STATE := by
      unfold State.get
      rw [e.1]
    unfold State.claimed at *
    rw [g]
    exact hc
  simp [State.mayServe, State.claiming, State.recoveryServes, e.2.1, e.2.2, hh, hr, k]

/-- A request that is heard and whose sender is known is performed, in a state in which its signature is counted and its session
touched. -/
theorem State.arrive_known (s : State) (i : Instr) (r : Req) (op index sub : Nat) (c : Caller) (hi : requestOf i = some (r, op, index, sub))
    (h : s.Heard r) (hb : bodyOk i = true) (ha : (s.sigCounted r).authenticate r = .known c) (hm : c.may op index = true) :
    s.arrive i = ((s.sigCounted r).touchSession r).perform c i := by
  obtain ⟨h1, h2, h3, h4, h5, h6, h7, h8, h9⟩ := h
  have m := s.sigCounted_serves r c r.via op index sub h7 h8 h9
  have a : s.arrive i = s.serve i := by
    unfold State.arrive
    simp only [hi, h1, h4, h5, h6]
    rcases h2 with h2 | h2 <;> cases hv : r.via <;> simp [h2]
  rw [a]
  unfold State.serve
  simp [hi, h3, hb, ha, hm, m.1, m.2.1, m.2.2]

/-- A request that is heard and that authentication refuses is answered so. -/
theorem State.arrive_refused (s : State) (i : Instr) (r : Req) (op index sub status : Nat) (hi : requestOf i = some (r, op, index, sub))
    (h : s.Heard r) (hb : bodyOk i = true) (ha : (s.sigCounted r).authenticate r = .refused status) :
    s.arrive i = (s.sigCounted r).respond r (failing op status 0 index sub) := by
  obtain ⟨h1, h2, h3, h4, h5, h6, h7, h8, h9⟩ := h
  have a : s.arrive i = s.serve i := by
    unfold State.arrive
    simp only [hi, h1, h4, h5, h6]
    rcases h2 with h2 | h2 <;> cases hv : r.via <;> simp [h2]
  rw [a]
  unfold State.serve
  simp [hi, h3, hb, ha]

end Sys2Proof.Machine
end

