-- ==== Sys2Proof/Laws/Step.lean ====
section
/-! SUPPORT. The two shapes of a meaning, what they leave, and when the collectors have nothing to do. -/

namespace Sys2Proof.Machine

/-- A meaning of the first shape answers its effect. -/
theorem after_act1 {c : Instr} {s u : State} (t : Nat) (f : State → State) (h : exec c s = act1 s t f) (e : f (s.tick t) = u) :
    After c s u := by
  rw [After, h, act1, e]

/-- A meaning of the second shape answers its effect and what the collectors make of it. -/
theorem afterAll_act2 {c : Instr} {s u : State} (t : Nat) (f : State → State) (h : exec c s = act2 s t f) (e : f (s.tick t) = u) :
    AfterAll c s u := by
  rw [AfterAll, h, act2, e]

/-- The collectors have nothing to do where no storm, no limit and no crown-wide step is due. -/
theorem State.settle_calm (s : State) (h1 : s.stormsDue = []) (h2 : s.violsDue = []) (h3 : s.faults.due = 0) : s.settle = s := by
  have h : s.modFaults (fun f => { f with due := 0 }) = s := by
    rw [State.modFaults, ← h3]
  simp [State.settle, h1, h2, State.each, State.crownSteps, h3, h]

/-- The queue after a step of the first shape. -/
theorem act1_pending {s t : State} {n : Nat} {f : State → State} (h : act1 s n f = .next t) : t.pending = s.pending := by
  unfold act1 at h
  cases h
  rfl

/-- The queue after a step of the second shape. -/
theorem act2_pending {s t : State} {n : Nat} {f : State → State} (h : act2 s n f = .next t) : t.pending = s.pending := by
  unfold act2 at h
  cases h
  rfl

/-- What a trunk's field reads after a change that leaves that field of every trunk. -/
theorem State.trunk_modTrunk_keeps {α : Type} (g : Trunk → α) (s : State) (q r : Nat) (f : Trunk → Trunk) (h : ∀ k, g (f k) = g k) :
    g ((s.modTrunk q f).trunk r) = g (s.trunk r) := by
  simp only [State.trunk, State.modTrunk, List.getD_eq_getElem?_getD, List.getElem?_modify]
  cases s.trunks[r]? with
  | none => rfl
  | some k => simp only [Option.getD_some]; split <;> simp_all

theorem State.trunkUp_modTrunk (s : State) (q r : Nat) (f : Trunk → Trunk) (h : ∀ k, (f k).tstate = k.tstate) :
    (s.modTrunk q f).trunkUp r = s.trunkUp r := by
  rw [State.trunkUp, State.trunk_modTrunk_keeps (·.tstate) s q r f h, State.trunkUp]

theorem State.oneWayNs_modTrunk (s : State) (q r : Nat) (f : Trunk → Trunk) (h : ∀ k, (f k).delayPs = k.delayPs) :
    (s.modTrunk q f).oneWayNs r = s.oneWayNs r := by
  have e := State.trunk_modTrunk_keeps (·.delayPs) s q r f h
  simp only [State.oneWayNs, State.get, State.modTrunk_dict, e]
  rfl

end Sys2Proof.Machine
end

