-- ==== Sys2Proof/Machine/Package.lean ====
section
/-! DEFINITION. The contacts of the package (R543, R544), the clock domains and the power budget (R538, R539), and the latency bounds of
the switch core (R188 to R191): tables that no command changes. -/

namespace Sys2Proof.Machine

/-- A contact: row and column of the grid of 72 rows and 96 columns, from 1 (R543). -/
structure Contact where
  row : Nat
  col : Nat
  deriving DecidableEq, Repr

/-- R543: the four contacts of slot channel `c`: GATE, SENSE_P, SENSE_N and VOUT. -/
def slotContacts (c : Nat) : List Contact := [⟨7, 2 * c + 1⟩, ⟨7, 2 * c + 2⟩, ⟨8, 2 * c + 1⟩, ⟨8, 2 * c + 2⟩]

/-- R543: the reference pairs of H-bough `h` (9·s + b) and of stem `s`, P then N. -/
def boughClockContacts (h : Nat) : List Contact := [⟨9, 2 * h + 1⟩, ⟨9, 2 * h + 2⟩]
def stemClockContacts (s : Nat) : List Contact := [⟨9, 73 + 2 * s⟩, ⟨9, 74 + 2 * s⟩]

/-- R543: the single signals, in order from 9:81 and from 10:1. -/
def clockSignals : List String := ["REF25", "TIME_REF_PPS", "TIME_REF_10M"]
def controlSignals : List String :=
  ["RESET_N", "INTAKE_EN", "TEST_STRAP", "SLEW0", "SLEW1", "PG_OUT", "ALERT_N", "I3C0 SCL", "I3C0 SDA", "I3C1 SCL", "I3C1 SDA",
   "MI3C SCL", "MI3C SDA", "SGMII TXP", "TXN", "RXP", "RXN", "TCK", "TMS", "TDI", "TDO", "TRST_N"]

def signalContact (name : String) : Option Contact :=
  match clockSignals.findIdx? (· == name) with
  | some k => some ⟨9, 81 + k⟩
  | none => (controlSignals.findIdx? (· == name)).map (fun k => ⟨10, 1 + k⟩)

/-- R544: lane `j`, 0 to 159, of stem `s`: TX P, TX N, RX P, RX N. -/
def stemLaneContacts (s j : Nat) : List Contact :=
  let u := j / 2
  let v := u / 4
  let c := 24 * s + 6 * (u % 4) + 1 + 3 * (j % 2)
  [⟨11 + 3 * v, c⟩, ⟨11 + 3 * v, c + 1⟩, ⟨13 + 3 * v, c⟩, ⟨13 + 3 * v, c + 1⟩]

/-- R544: host lane HL `n` and trunk lane TL `n`. -/
def hostLaneContacts (n : Nat) : List Contact := stemLaneContacts (n / 144) (n % 144)
def trunkLaneContacts (n : Nat) : List Contact := stemLaneContacts (n / 16) (144 + n % 16)

/-- R543: how many contacts of each group the grid has. -/
def contactGroups : List (String × Nat) :=
  [("VIN", 288), ("VIN_RTN", 288), ("slot channels", 192), ("REFCLK_H", 72), ("REFCLK_T", 8), ("REF25 and TIME_REF", 3), ("ground of row 9", 13),
   ("control", 22), ("ground of row 10", 74), ("lane field", 5760), ("reserved", 8), ("ground of rows 71 and 72", 184)]

/-- R539: the clock domains of each kind. -/
def clockDomains : List (String × Nat) :=
  [("H-lane receive", 576), ("H-twig transmit", 144), ("T-lane receive", 64), ("T-twig transmit", 16), ("H-bough reference", 36),
   ("trunk reference", 4), ("limb core", 8), ("stem die core", 4), ("die-to-die link", 20), ("GDDR7 channel", 24), ("sapwood engine", 32),
   ("heartwood core", 1), ("standby", 1), ("management Ethernet", 1), ("I3C", 1), ("debug port", 1), ("intake controller", 1)]

/-- R154, R539: the core clock in kHz: 2.0 GHz with 0.5 % down-spread. -/
def coreClockMax : Nat := 2000000
def coreClockMin : Nat := coreClockMax * 995 / 1000

/-- R538: the loads in W, and the maximum power at an efficiency of 0.92. -/
def powerLoads : List (String × Nat) :=
  [("H-lanes", 432), ("trunk lanes", 102), ("stems", 180), ("heartwood", 150), ("GDDR7", 132)]
def maximumPower : Nat := ((powerLoads.map (·.2)).sum * 100 + 91) / 92

/-- R188: the terms of a C7 TLP's way through an x4 port pair on two stems, in ns; R190: those of a trunk hop. -/
def c7Terms : List Nat := [14, 4, 6, 8, 10, 4, 6, 10, 8]
def hopTerms : List Nat := [3, 12, 8, 2, 10, 14, 25, 12, 8, 10, 8]

/-- R188 to R190: the bound on a C7 TLP's way, in ns, with the FLIT time of each port, the FLITs or FUs of C7 ahead of it, and the one-way
delay of each hop. -/
def c7Bound (flitIn flitOut ahead : Nat) (hops : List Nat) : Nat :=
  (c7Terms.sum - 8) + flitIn + flitOut + ahead * flitOut + hops.foldl (fun n d => n + hopTerms.sum + d) 0

/-- R191: what a link-level replay adds at most on a hop of a one-way delay. -/
def replayBound (oneWay : Nat) : Nat := 410 + 2 * (oneWay - 50)

end Sys2Proof.Machine
end

