-- ==== Sys2Proof/WellFormed.lean ====
section
/-! DEFINITION. The commands whose numbers name something: every unit, partition, crown and slot that a command names is one that the
spec gives. A number outside names no unit. -/

namespace Sys2Proof

/-- R10: a module twig. -/
def isTwig (n : Nat) : Bool := decide (n < 160)
/-- R10: a trunk. -/
def isTrunk (n : Nat) : Bool := decide (n < 16)
/-- R10: a host port. -/
def isHostPort (n : Nat) : Bool := decide (n < 144)
/-- R10: a module bough. -/
def isBough (n : Nat) : Bool := decide (n < 40)
/-- R10: a module limb. -/
def isLimb (n : Nat) : Bool := decide (n < 8)
/-- R4: a stem. -/
def isStem (n : Nat) : Bool := decide (n < 4)
/-- R4: a die: a stem, or the heartwood, 4. -/
def isDie (n : Nat) : Bool := decide (n < 5)
/-- R10: a lane of the host ports. -/
def isLane (n : Nat) : Bool := decide (n < 576)
/-- R198: a crown partition. -/
def isPart (n : Nat) : Bool := decide (n < 64)
/-- R203: a virtual downstream port. -/
def isVdp (n : Nat) : Bool := decide (n < 256)
/-- R507: a slot channel. -/
def isChannel (n : Nat) : Bool := decide (n < 48)
/-- R258: a gate. -/
def isGate (n : Nat) : Bool := decide (n < 160)
/-- R25: a crown. -/
def isCrown (n : Nat) : Bool := decide (n < 1024)
/-- R198: a grove partition. -/
def isGrovePart (n : Nat) : Bool := decide (n < 4096)
/-- R119: a traffic class, C0 to C7. -/
def isClass (n : Nat) : Bool := decide (n < 8)
/-- R309: a memory device. -/
def isDevice (n : Nat) : Bool := decide (n < 24)
/-- R337: a message-queue function. -/
def isMq (n : Nat) : Bool := decide (n < 8)
/-- R337: a function: PF0, 16 engine VFs, 8 message-queue functions. -/
def isFunction (n : Nat) : Bool := decide (n < 25)
/-- The intake behind a stem, as an egress. -/
def isHeartPort (n : Nat) : Bool := decide (160 ≤ n) && decide (n < 164)
/-- R337: an engine VF, by its place among the functions. -/
def isVf (n : Nat) : Bool := decide (1 ≤ n) && decide (n ≤ 16)

/-- R438: the key slots of the roles. -/
def Role.wf : Role → Bool
  | .anonymous => true
  | .operator slot => decide (slot < 72)
  | .installer slot => decide (slot < 8)
  | .maker slot => decide (slot < 2)
/-- R10, R28: a unit. -/
def UnitId.wf : UnitId → Bool
  | .twig g => isTwig g
  | .bough b => isBough b
  | .limb l => isLimb l
  | .die d => isStem d
  | .crown => true
/-- R6: six links between stems, four to the heartwood. -/
def DieLinkId.wf : DieLinkId → Bool
  | .stemStem k => decide (k < 6)
  | .stemHeartwood s => isStem s
/-- The one who asks for a warm reset. -/
def WarmCause.wf : WarmCause → Bool
  | .request who => who.wf
  | .watchdog | .resetPin | .inputLoss | .faultWindow | .activation => true
/-- R430: a transport; in band, the crown that forwards. -/
def Transport.wf : Transport → Bool
  | .mctpPcie part => isPart part
  | .i3c | .udp => true
  | .inBand source => isCrown source
  | .mailbox part => isPart part
/-- R414: the fields of a request. -/
def Req.wf (r : Req) : Bool := r.via.wf && decide (r.reqId < 2 ^ 32) && decide (r.target < 2 ^ 16)
/-- R39: the fields of an announcement. -/
def Announce.wf (a : Announce) : Bool := decide (a.hops < 256) && decide (a.masterState < 8) && isCrown a.sender
/-- R119: the fields of a flow unit's header. -/
def FuHeader.wf (h : FuHeader) : Bool :=
  decide (h.type < 16) && isClass h.cls && isClass h.crClass && isCrown h.destCrown && isCrown h.srcCrown && isGrovePart h.gpart &&
    decide (h.flow < 256) && decide (h.len < 256) && decide (h.hops < 16)
/-- R286: the crowns of a fence notice. -/
def FenceMsg.wf (n : FenceMsg) : Bool := isCrown n.crown && isCrown n.issuer
/-- R293: a far-failure notice. -/
def FarMsg.wf (n : FarMsg) : Bool := isCrown n.reporter && isGrovePart n.gpart
/-- R380: a containment message. -/
def ContainMsg.wf (m : ContainMsg) : Bool := isCrown m.reporter && isTwig m.twig && isGrovePart m.gpart
/-- R374: an error signal. -/
def ErrorSig.wf (e : ErrorSig) : Bool :=
  decide (e.source < 4096) && e.unit.all UnitId.wf && e.part.all isPart && e.injSlot.all (fun k => decide (k < 16))
/-- R203, R337: whose configuration space it is. -/
def CfgTarget.wf : CfgTarget → Bool
  | .upstream => true
  | .vdp n => isVdp n
  | .function f => isFunction f
  | .device v _ => isVdp v
/-- Where a descriptor runs. -/
def RingPos.wf (x : RingPos) : Bool := isPart x.part && isVf x.vf
/-- R301: a port has six inputs. -/
def PortPoll.wf (x : PortPoll) : Bool := isHostPort x.port && x.levels.all (fun l => l.length == 6)
/-- R299: a gate of this crown, the space of a partition, or a target at another crown. -/
def BridgeTarget.wf : BridgeTarget → Bool
  | .gate g => isGate g
  | .part => true
  | .grove c k _ => isCrown c && decide (k < 4)
/-- R309: a line has 256 bytes. -/
def LineGot.wf (x : LineGot) : Bool := x.err.all (fun e => decide (e.1 < 256))
def LineRead.wf (x : LineRead) : Bool := x.first.wf && x.second.wf

/-- Every number that a command carries names something. -/
def Instr.wf : Instr → Bool
  | .dieLinkLaneFail _ link => link.wf
  | .twigReset _ who g => who.wf && isTwig g
  | .boughReset _ who b => who.wf && isBough b
  | .limbReset _ who l => who.wf && isLimb l
  | .dieReset _ who d => who.wf && isStem d
  | .warmReset _ cause => cause.wf
  | .resetComplete _ u => u.wf
  | .timeAnnounceSend _ => true
  | .timeAnnounceReceive _ q a => isTrunk q && a.wf
  | .masterLost _ => true
  | .electionSettled _ => true
  | .takeOffice _ => true
  | .selfElect _ => true
  | .timeRefPulse _ _ => true
  | .timeRefPulseMissing _ => true
  | .alignmentMarkerReceive _ q _ => isTrunk q
  | .markerLoss _ => true
  | .timeOpenMode _ => true
  | .scheduledModeReturn _ => true
  | .dictionaryChangeFire _ slot => decide (slot < 256)
  | .slotSwapRequest _ who _ => who.wf
  | .slotSwap _ => true
  | .pruneSetReceive _ q _ _ _ => isTrunk q
  | .pruneSetApply _ q => isTrunk q
  | .hLaneMaintenance _ lane _ _ _ => isLane lane
  | .trunkTxMaintenanceStep _ q _ => isTrunk q
  | .trunkRxMaintenanceStep _ q _ => isTrunk q
  | .refreshBatch _ _ retries failed => retries.all isDevice && failed.all isDevice
  | .hpSymbolLockTimeout _ lane _ => isLane lane
  | .hpL0Reached _ p _ _ _ _ _ _ => isHostPort p
  | .hpEqAttemptEnd _ p _ _ => isHostPort p
  | .hpCoeffRequest _ p _ => isHostPort p
  | .hpLinkRecovery _ p _ => isHostPort p
  | .hpLinkDown _ p _ => isHostPort p
  | .dfeUpdate _ lane _ => isLane lane
  | .refclkLost _ b => isBough b
  | .refclkRestored _ b => isBough b
  | .l0pNarrow _ p => isHostPort p
  | .l0pWiden _ p => isHostPort p
  | .l0pPartnerRequest _ p _ => isHostPort p
  | .l1EntryInitiate _ p => isHostPort p
  | .l1PartnerRequest _ p => isHostPort p
  | .l1Exit _ p => isHostPort p
  | .trunkSignalDetect _ q => isTrunk q
  | .trunkAlignComplete _ q _ => isTrunk q
  | .capsFrame _ q frame => isTrunk q && decide (frame.length = 128)
  | .keyexFrame _ q frame => isTrunk q && decide (frame.length = 128)
  | .delayFrame _ q frame _ => isTrunk q && decide (frame.length = 128)
  | .stepFrame _ q frame => isTrunk q && decide (frame.length = 128)
  | .eqFrame _ q frame => isTrunk q && decide (frame.length = 128)
  | .holdFrame _ q frame => isTrunk q && decide (frame.length = 128)
  | .holdFramesCeased _ q => isTrunk q
  | .heldReevaluate _ q => isTrunk q
  | .trunkStateTimeout _ q => isTrunk q
  | .linkInitExchange _ q _ _ rsv _ => isTrunk q && decide (rsv.length = 8)
  | .fuReceive _ q fu _ => isTrunk q && fu.hdr.wf
  | .nakRepeat _ q => isTrunk q
  | .replayTimer _ q => isTrunk q
  | .trunkLinkLoss _ q => isTrunk q
  | .tpRetrain _ who q => who.wf && isTrunk q
  | .rekeyOfferSend _ q => isTrunk q
  | .rekeyOffer _ q _ _ => isTrunk q
  | .rekeyAccept _ q _ _ => isTrunk q
  | .keyPhaseToggle _ q => isTrunk q
  | .fateQuery _ via querier trunk _ => isTrunk via && isCrown querier && isTrunk trunk
  | .fateQueryHoldExpire _ trunk => isTrunk trunk
  | .fateQueryResend _ q => isTrunk q
  | .fateAnswer _ via trunk answerer _ _ => isTrunk via && isTrunk trunk && isCrown answerer
  | .trunkDiscard _ q => isTrunk q
  | .rxSlotFreed _ q cls _ => isTrunk q && isClass cls
  | .tlpIngress _ g _ => (isTwig g && g % 40 < 36)
  | .admissionRetry _ g _ => (isTwig g || isHeartPort g)
  | .cutThroughStart _ _ _ _ => true
  | .egressStart _ g _ => (isTwig g || isHeartPort g)
  | .cutResend _ _ => true
  | .bufStructFault _ l => isLimb l
  | .cellFreeDone _ l => isLimb l
  | .classMapRelease _ part tc => isPart part && isClass tc
  | .classMapHold _ part tc => isPart part && isClass tc
  | .configRequest _ part _ _ target _ _ => isPart part && target.wf
  | .secondaryBusReset _ part vdp _ => isPart part && vdp.all isVdp
  | .hotResetReceived _ part _ => isPart part
  | .partResetStepsDone _ part => isPart part
  | .partResetCauseEnd _ part => isPart part
  | .resetNotice _ home gpart => isCrown home && isGrovePart gpart
  | .powerControllerControl _ part vdp _ => isPart part && isVdp vdp
  | .linkDisable _ part vdp _ => isPart part && isVdp vdp
  | .retrainLink _ part vdp => isPart part && vdp.all isVdp
  | .msixEnable _ part => isPart part
  | .vectorUnmask _ part vec => isPart part && decide (vec < 2048)
  | .forwardedEvent _ gpart _ source _ _ _ => isGrovePart gpart && decide (source < 4096)
  | .eventSoft _ who source => who.wf && decide (source < 4096)
  | .bindingCopy _ sender gpart vdp _ => isCrown sender && isGrovePart gpart && isVdp vdp
  | .sharedResetRequest _ who g => who.wf && isTwig g
  | .sharedResetForce _ who g => who.wf && isTwig g
  | .sharedPerstEnd _ g => isTwig g
  | .sharedEnumDone _ g _ _ => isTwig g
  | .sharedResetFail _ g => isTwig g
  | .sliceFlrDone _ part vdp => isPart part && isVdp vdp
  | .allotmentGrant _ => true
  | .winFetchDone _ stem w _ => isDie stem && decide (w < 65536)
  | .protDrainComplete _ _ => true
  | .protDrainSlow _ => true
  | .gateScrubVisit _ gate _ => isGate gate
  | .gateCopyError _ stem gate _ => isDie stem && isGate gate
  | .gateReloadDone _ stem gate => isDie stem && isGate gate
  | .rebalanceStart _ q => isTrunk q
  | .routeRebalance _ who dest => who.wf && isCrown dest
  | .rebalanceComplete _ _ => true
  | .rebalanceAbandoned _ _ => true
  | .routeUnreachable _ dest => isCrown dest
  | .fenceByTrunkLoss _ crown => isCrown crown
  | .fenceNotice _ q n => isTrunk q && n.wf
  | .fenceForceSet _ who crown => who.wf && isCrown crown
  | .fenceForceClear _ who crown => who.wf && isCrown crown
  | .npTimeoutExpired _ _ => true
  | .trackQuarantineEnd _ _ => true
  | .proxyTagTimeout _ p _ => isHostPort p
  | .farFailureSend _ crown gpart => isCrown crown && isGrovePart gpart
  | .farFailureNotice _ q n => isTrunk q && n.wf
  | .lockTimeout _ b => isBough b
  | .unlock _ part => isPart part
  | .bridgeRead _ _ part target _ _ => part.all isPart && target.wf
  | .bridgeWrite _ _ part target _ _ => part.all isPart && target.wf
  | .bridgeReadTimeout _ _ => true
  | .bridgeReadRetry _ _ => true
  | .sidebandPoll _ answers => answers.all PortPoll.wf
  | .poolRead _ _ part _ _ rd => isPart part && rd.wf
  | .poolWrite _ _ part _ _ _ _ => isPart part
  | .poolPartialWrite _ _ part _ _ rd => isPart part && rd.wf
  | .poolAtomic _ _ part _ _ _ _ _ rd => isPart part && rd.wf
  | .epochSweepDone _ gp => isGrovePart gp
  | .memTrainingDone _ _ failed => failed.all isDevice
  | .memInitSweepDone _ => true
  | .patrolScrubRead _ _ rd => rd.wf
  | .memHotChange _ device _ => isDevice device
  | .ringTail _ part vf _ => isPart part && isVf vf
  | .ringEnable _ part vf => isPart part && isVf vf
  | .ringReset _ part vf => isPart part && isVf vf
  | .descriptorFetchDone _ part vf _ => isPart part && isVf vf
  | .nop _ at_ _ => at_.wf
  | .copy _ at_ _ _ => at_.wf
  | .fill _ at_ _ => at_.wf
  | .gather _ at_ _ _ _ => at_.wf
  | .scatter _ at_ _ _ _ => at_.wf
  | .crcGen _ at_ _ _ => at_.wf
  | .crcCheck _ at_ _ _ => at_.wf
  | .afcGen _ at_ _ _ => at_.wf
  | .afcCheck _ at_ _ _ _ => at_.wf
  | .reduceContrib _ at_ _ _ => at_.wf
  | .reducePair _ at_ _ _ _ => at_.wf
  | .descriptorComplete _ at_ _ _ _ _ => at_.wf
  | .reducePartial _ q _ child round _ _ => isTrunk q && decide (child < 16) && decide (round < 16)
  | .resultChunk _ _ round _ _ => decide (round < 16)
  | .reduceTimeout _ _ => true
  | .reduceAbortMessage _ _ round => decide (round < 16)
  | .engFault _ e => decide (e < 32)
  | .sendDoorbell _ part m k _ _ => isPart part && isMq m && decide (k < 16)
  | .receiveDoorbell _ part m k _ _ => isPart part && isMq m && decide (k < 16)
  | .datagramReceive _ part _ => isPart part
  | .busMasterEnableClear _ part f => isPart part && isFunction f
  | .functionLevelReset _ part f => isPart part && isFunction f
  | .flrComplete _ part f => isPart part && isFunction f
  | .functionCompletionTimeout _ part f tag => isPart part && isFunction f && decide (tag < 512)
  | .errorSignal _ e => e.wf
  | .pathBroken _ u => u.wf
  | .f1Interval _ => true
  | .violationInterval _ => true
  | .faultWindowExpire _ _ => true
  | .f3WindowExpire _ => true
  | .faultAck _ who _ => who.wf
  | .partRelease _ who part => who.wf && isPart part
  | .partContain _ who part => who.wf && isPart part
  | .containmentMessage _ q m => isTrunk q && m.wf
  | .injectArm _ who slot _ => who.wf && decide (slot < 16)
  | .injectDisarm _ who slot => who.wf && decide (slot < 16)
  | .bypass _ => true
  | .idcode _ => true
  | .samplePreload _ _ => true
  | .extest _ => true
  | .dbgAccess _ => true
  | .dbgCmdUpdate _ _ _ => true
  | .read _ r index subFirst subLast => r.wf && decide (index < 65536) && decide (subFirst < 256) && decide (subLast < 256)
  | .write _ r index sub _ _ _ => r.wf && decide (index < 65536) && decide (sub < 256)
  | .openSet _ r partition part _ => r.wf && (!partition || isPart part)
  | .stage _ r _ _ index sub _ _ _ => r.wf && decide (index < 65536) && decide (sub < 256)
  | .commit _ r _ _ _ _ _ _ => r.wf
  | .setValidated _ _ => true
  | .cancelSet _ r _ _ _ _ => r.wf
  | .setStatus _ r _ => r.wf
  | .setExpire _ _ => true
  | .openSession _ r _ => r.wf
  | .closeSession _ r => r.wf
  | .sessionIdleClose _ _ => true
  | .subscribe _ r => r.wf
  | .unsubscribe _ r => r.wf
  | .journalRead _ r _ _ => r.wf
  | .mbDoorbell _ part _ => isPart part
  | .mbReadyClear _ part => isPart part
  | .bocelGatewayForward _ r _ => r.wf
  | .bocelInbandResponse _ _ _ _ => true
  | .bocelInbandTimeout _ _ => true
  | .bocelRetryDelay _ _ => true
  | .setEndpointId _ _ => true
  | .getEndpointId _ => true
  | .getMctpVersionSupport _ => true
  | .getMessageTypeSupport _ => true
  | .icmpEcho _ _ => true
  | .neighbourDiscovery _ _ => true
  | .getVersion _ part => isPart part
  | .getCapabilities _ part => isPart part
  | .negotiateAlgorithms _ part => isPart part
  | .getDigests _ part => isPart part
  | .getCertificate _ part _ => isPart part
  | .challenge _ part _ => isPart part
  | .getMeasurements _ part _ => isPart part
  | .keyExchange _ part _ => isPart part
  | .finish _ part _ _ => isPart part
  | .heartbeat _ part _ => isPart part
  | .keyUpdate _ part _ => isPart part
  | .endSession _ part _ => isPart part
  | .ideKmRequest _ part _ _ _ => isPart part
  | .ideEstablishTimeout _ g => isTwig g
  | .ideStreamInsecure _ g => isTwig g
  | .ideCheckFail _ g => isTwig g
  | .tamper _ => true
  | .testUnlock _ r _ => r.wf
  | .testHoldTimeout _ => true
  | .testStrapRelease _ => true
  | .recordWhole _ _ _ => true
  | .compactNow _ who => who.wf
  | .compactionSnapEnd _ => true
  | .ringEraseDone _ _ _ => true
  | .graftChunk _ who _ data => who.wf && decide (data.length = 1024)
  | .graftApply _ who => who.wf
  | .graftApplyDone _ => true
  | .graftActFt _ who _ => who.wf
  | .firmwareActivation _ => true
  | .bootStart _ _ => true
  | .startOk _ => true
  | .startWatchdog _ => true
  | .intakeInputRise _ _ => true
  | .intakeEnAssert _ => true
  | .intakeEnDeassert _ => true
  | .precheckEnd _ _ => true
  | .gateFullyOn _ => true
  | .fastTrip _ _ _ => true
  | .rampTimeout _ => true
  | .intakeOvercurrent _ _ _ => true
  | .curveTrip _ k => decide (k < 16)
  | .tripRestart _ => true
  | .fetDamageDetect _ => true
  | .inputRemoved _ => true
  | .inputLoss _ _ => true
  | .inputLossWarningEnd _ => true
  | .storeSupplyLimit _ _ _ => true
  | .governorStepDown _ _ _ => true
  | .intakeDip _ _ _ _ _ => true
  | .intakeSenseDiverge _ _ _ => true
  | .intakePeakClear _ who => who.wf
  | .slotDemandChange _ p => isHostPort p
  | .slotClear _ who c => who.wf && isChannel c
  | .slotFastTrip _ c _ => isChannel c
  | .slotCurveTrip _ c k _ _ _ => isChannel c && decide (k < 16)
  | .slotRampFail _ c => isChannel c
  | .slotFetFailed _ c => isChannel c
  | .slotPg _ p _ => isHostPort p
  | .perstRelease _ p => isHostPort p
  | .limbGate _ who l => who.wf && isLimb l
  | .limbPowerOn _ who l => who.wf && isLimb l
  | .limbRunning _ l => isLimb l
  | .partStartActive _ part => isPart part
  | .thermHigh _ die => isDie die
  | .thermTrip _ die => isDie die
  | .thermCool _ => true
  | .reftLost _ stem => isStem stem
  | .reftRestored _ stem => isStem stem
  | .ref25Lost _ => true
  | .ref25Good _ => true
  | .resetNAssert _ => true
  | .cntEventSelect _ who n _ => who.wf && decide (n < 3136)
  | .cntClear _ who n => who.wf && decide (n < 3136)
  | .cntOvfClear _ who n => who.wf && decide (n < 3136)
  | .cntFreezeSet _ who _ => who.wf
  | .cntFreezeResume _ who _ => who.wf
  | .snapRequest _ who _ _ _ => who.wf
  | .snapshotMessage _ q m => isTrunk q && isCrown m.origin
  | .snapshotFire _ slot => decide (slot < 256)
  | .snapComplete _ => true
  | .resetNRelease _ _ _ _ => true
  | .timeRef10mLost _ => true
  | .storeExhausted _ => true
  | .l1PartnerExit _ p => isHostPort p
  | .marginCommand _ lane _ => isLane lane
  | .indicatorBlink _ p _ => isHostPort p
  | .remoteSlotState _ sender gpart vdp _ => isCrown sender && isGrovePart gpart && isVdp vdp

end Sys2Proof
end

