-- ==== Sys2Proof/Tests/Slice0.lean ====
section
/-! SUPPORT. Tests: for every clause with hypotheses of every statement a state and operands that meet them; ill-formed commands; and
the manual's worked examples. -/

set_option maxRecDepth 4000
set_option Elab.async false

namespace Sys2Proof.Tests
open Machine
/-! ### States and operands that the witnesses use -/

def wTlp : Tlp :=
  { kind := .memWrite, tc := 0, addr := 4096, lenBytes := 4, hdrLen := 16, reqId := 256, tag := 0, data := [1, 2, 3, 4], ro := false,
    ido := false, ns := false, poisoned := false, specOk := true }
def wDesc : Desc :=
  { id := 0, egress := 7, cells := 1, cls := 0, kind := 0, ro := false, ido := false, ns := false, mcast := none, cut := false,
    colour := 0, mark := false, poison := false, part := 2, src := 8, reqId := 256, len := 256, order := 0, destCrown := 5, gpart := 9,
    flow := 0, hops := 0, srcCrown := 5, msg := .tlp Carrier.zero wTlp, rclass := .host, arrived := 256, eligible := true,
    nullified := false, endedOnce := false, sentFus := 0, lastSeq := none, epoch := 0, heart := none }
def wFu : Fu :=
  { hdr := { type := 0, cls := 0, pool := false, nak := false, keyPhase := false, first := true, last := true, ackSeq := 0xFFFF,
             crClass := 0, crRsv := 0, crShared := 0, nonceCtr := 0, destCrown := 5, srcCrown := 6, gpart := 9, flow := 0, len := 0,
             hops := 0 },
    wire := [], tag := 0, check := 0 }
def wCaps : Caps := { crown := 6, trunk := 3, rateCeiling := 3, cryptPolicy := 0, cryptSupport := true, version := 1 }
def wSet : ChangeSet :=
  { id := 1, partition := false, part := 0, joint := false, stages := [], state := .open_, prior := .open_, commitNo := 0, ft := 0,
    digest := 0, sigA := { keyId := 0, key := 0 }, sigB := { keyId := 0, key := 0 }, opener := 0x2000, order := 0, lastReq := 0,
    claim := false, answerTo := none }
def wReq : Req :=
  { via := .i3c, reqId := 1, target := 0xFFFF, wellFormed := true, sig := some { keyId := 0x2000, keySeq := 1, key := 7, digest := 0 },
    mac := none }
def wInst : Caller := { who := .installer 0, keyId := 0x2000, signed := true, inSession := false }
def wSession : Session := { id := 7, keyId := 0x2000, key := 7, lastSeq := 0, outSeq := 0, lastReq := 0, subscribed := false }
def wSess : Req := { wReq with sig := none, mac := some { session := 7, sessionSeq := 1, ok := true } }
def wSessCaller : Caller := { who := .installer 0, keyId := 0x2000, signed := false, inSession := true }
/-- A claimed crown with two installer keys and an open session. -/
def wClaimed : State :=
  (((((State.reset.set Key.CLAIM_STATE 1).set Key.CROWN_ID 5).set Key.INST_KEY 7).set (Key.INST_KEY + 1) 8).modBocel
    (fun b => { b with sessions := [wSession] }))
/-- A home crown whose partition 2 is active. -/
def wHome : State :=
  (((State.reset.set Key.CROWN_ID 5).set (Key.PART_GROVE_ID + 2) 9).set (Key.PART_UPSTREAM + 2) (5 * 65536 + 8)).modPart 2
    (fun x => { x with state := .active })
def wBridge : BridgeRead := { core := 0, since := 0, part := none, target := .gate 3, parts := bridgeParts 0 4096 4 }
def wTrack : Track :=
  { index := 4, part := 2, reqId := 256, tag := 1, cls := 0, dest := 6, src := 8, descBits := 0, header := 0, sent := 1, quarantined := none }
def wFar : FarPending :=
  { crown := 6, note := { reporter := 6, gpart := 9, cause := 0, more := 0, ft := 0, rclass := 0, vdp := 0, desc := 0, header := 0 } }
def wLock : LockState := { bough := 1, part := 2, twig := 8, via := none, since := 0 }
/-- Fabric memory open, with a region that admits every class. -/
def wPool : State :=
  ((State.reset.set (Key.GATE_REG_ADDR + 256 * 0x90) 1281).set (Key.GATE_REG_RIGHTS + 256 * 0x90) 0xFF80000000000000).modMem
    (fun m => { m with mode := 2 })
/-- Engines of partition 2: VF 1 has a started ring with one descriptor fetched, and there is a message-queue function. -/
def wEng : State :=
  ((wHome.modPart 2 (fun x => { x with vfMax := 16, mqCount := 1 })).modFn 2 0 (fun x => { x with fields := [(.vfEnable, 1), (.numVfs, 16)] })).modFn 2 1
    (fun x => { x with busMaster := true, ring := { Ring.reset with enable := true, state := 1, log2Size := 4, tail := 1, fetched := 1, head := 1 } })
def wAt : RingPos := { part := 2, vf := 1, index := 0 }
def wOp (op : Nat) : Descriptor :=
  { opcode := op, format := 0, redop := 0, cls := 0, sat := false, intr := false, len := 0, src := 0, dst := 0, aux := 0, round := 0,
    contrib := 0, ctx := 0, user := 0, reservedOk := true }
/-- The same with a valid reduction context 0 of partition 2 that has one child. -/
def wRed : State := wEng.set Key.REDUCE_CTX (4 * 256 ^ 32 + 0x80 * 256 ^ 29 + 256 ^ 26 + 256 ^ 25 + 10 * 256 ^ 16 + 8 * 256 ^ 12)
def wFmt : Fmt := ⟨1, 0, 0⟩
def wSig : ErrorSig := { source := 0xA04, code := 0, cls := 2, unit := none, part := none, f4cause := 0, injSlot := none }
def wHist : HistEntry :=
  { ft := 0, inj := false, seq := 1, cls := 2, level := 0, unit := some (.twig 4), source := 0, action := 1, code := 0, window := some 0 }
def wOff : State :=
  State.reset.modPower (fun x => { x with phase := .off, powerGood := false, standby := false, inputUp := false, enabled := true })
def wSlot : State := (State.reset.set (Key.SLOT_MAP + 4) 0x8005).modSlot 4 (fun x => { x with state := 1 })
def wFwd : Forwarded := { op := 1, reqId := 1, via := .i3c, target := 6, since := 0, busySeen := false, busyAt := none }
def wEntry (i n : Nat) : Entry := (entryAt i n).getD ⟨"", 0, 0, 0, 0, .u8, .r, .r, .r, .volatile, .immediate, 0⟩
def wPend : PendingRecord :=
  { record := { rno := 4, timeState := 0, ft := 0, keyId := 0, parts := 0, body := .keySeq 1 }, req := none, who := .anonymous,
    write := none, answer := none }
def wBusy : State := wClaimed.modJournal (fun j => { j with inFlight := [wPend] })
def wBoot : State := State.reset.modJournal (fun j => { j with started := false })
def wSpdm : State := wHome.modPart 2 (fun x => { x with spdm := [{ id := 7, finished := true, keyPhase := 0 }] })
def wIde : State := (State.reset.set (Key.LINK_IDE_POLICY + 8) 2).modHPort (portOfG 8) (fun h => { h with lstate := .l0 })
/-- A sealed set whose answer is owed, with the digest of its stages. -/
def wSealed : ChangeSet := { wSet with state := .sealed, answerTo := some wReq, digest := wSet.setDigest }
def wBadSet : State :=
  (State.reset.modBocel (fun b => { b with sets := [wSealed] })).modFaults (fun f => { f with crown := .f3Open })

def wSnap (ft : Nat) : ActSlot :=
  { ft := ft, kind := .snapshot, joint := false, state := .pending, seq := 0, ref := 3, origin := 5, stamp := 0 }
/-- A crown with eight snapshots pending. -/
def wSnaps : State := State.reset.modAct (fun x => { x with slots := (List.range 8).map wSnap ++ x.slots.drop 8 })
/-- Counter 3 counts ticks of 40 ns. -/
def wTick : State := { State.reset with dict := dictPut State.reset.dict (Key.CNT_CTL + 3) (2 ^ 31 + 2) }
/-- A master whose slot 0 is due. -/
def wDue (k : ActKind) (ref : Nat) (joint : Bool) : State :=
  (State.reset.modTime (fun x => { x with mode := .master, ft := 100 })).modAct (fun x => { x with slots := [{ wSnap 5 with kind := k, ref := ref, joint := joint }] ++ x.slots.drop 1 })

/-- Some value is not in a list of 1,025. -/
theorem fresh64 (L : List (BitVec 64)) (h : L.length < 1026) : ∃ c, c ∉ L := by
  by_contra hn
  simp only [not_exists, not_not] at hn
  have hd : ((List.range 1026).map (BitVec.ofNat 64)).Nodup := by
    rw [List.nodup_map_iff_inj_on List.nodup_range]
    intro a ha b hb e
    have e := congrArg BitVec.toNat e
    simp only [List.mem_range] at ha hb
    simp only [BitVec.toNat_ofNat] at e
    omega
  have := (hd.subperm (fun c _ => hn c)).length_le
  simp at this; omega

/-- A check that belongs to no sequence number from `e - 1024` to `e`. -/
theorem fresh_check (e : Seq16) (fu : Fu) :
    ∃ c, c ≠ fuCheck e { fu with check := c } ∧ dupSeq e { fu with check := c } = none := by
  obtain ⟨c, hc⟩ := fresh64 (fuCheck e fu :: (List.range 1024).map (fun k => fuCheck (e - BitVec.ofNat 16 (k + 1)) fu)) (by simp)
  simp only [List.mem_cons, not_or, List.mem_map, not_exists, not_and] at hc
  refine ⟨c, hc.1, ?_⟩
  unfold dupSeq
  rw [List.find?_eq_none]
  intro k hk
  simp only [List.mem_map] at hk
  obtain ⟨n, hn, rfl⟩ := hk
  simp only [beq_iff_eq]
  exact fun h => hc.2 n hn h.symm

/-- A sealed set that changes nothing, in a crown with two installers' keys. -/
def wEmpty : ChangeSet := { wSealed with ft := 5 }
def wValid (a b : Nat) : State :=
  ((State.reset.set Key.INST_KEY a).set (Key.INST_KEY + 1) b).modBocel (fun x => { x with sets := [wEmpty] })
theorem valid_keys : ∃ a b, (a = 1 ∧ b = 2 ∨ a = 3 ∧ b = 4 ∨ a = 5 ∧ b = 6) ∧ a ≠ Config.makerRoot 0 ∧ a ≠ Config.makerRoot 1 ∧
    b ≠ Config.makerRoot 0 ∧ b ≠ Config.makerRoot 1 := by
  generalize Config.makerRoot 0 = m
  generalize Config.makerRoot 1 = n
  by_cases h1 : (1 ≠ m ∧ 1 ≠ n ∧ 2 ≠ m ∧ 2 ≠ n)
  · exact ⟨1, 2, .inl ⟨rfl, rfl⟩, h1⟩
  · by_cases h2 : (3 ≠ m ∧ 3 ≠ n ∧ 4 ≠ m ∧ 4 ≠ n)
    · exact ⟨3, 4, .inr (.inl ⟨rfl, rfl⟩), h2⟩
    · exact ⟨5, 6, .inr (.inr ⟨rfl, rfl⟩), by omega⟩
/-- The activation queue counts for no counter. -/
theorem calm_act (s : State) (f : Activation → Activation) (h : s.selected = []) : (s.modAct f).reach 0 = (s.modAct f).tick 0 :=
  (State.tick_calm _ _ (show (s.modAct f).selected = [] from h)).symm
theorem wValid_valid : ∃ a b, (wValid a b).selected = [] ∧ (wValid a b).validate wEmpty = none ∧ (wValid a b).actFind .change 1 = none ∧ (wValid a b).actFree = some 0 := by
  obtain ⟨a, b, hp, h1, h2, h3, h4⟩ := valid_keys
  refine ⟨a, b, ?_, ?_, ?_⟩
  · rcases hp with ⟨rfl, rfl⟩ | ⟨rfl, rfl⟩ | ⟨rfl, rfl⟩ <;> decide +kernel
  · have hh : (keySlots.map (fun k => (k, ((wValid a b).afterSet wEmpty).get k))).filter (fun e => e.2 ≠ 0) =
        [(Key.INST_KEY, a), (Key.INST_KEY + 1, b)] := by
      rcases hp with ⟨rfl, rfl⟩ | ⟨rfl, rfl⟩ | ⟨rfl, rfl⟩ <;> decide +kernel
    have hk : ((wValid a b).afterSet wEmpty).keyFaults = [] := by
      unfold State.keyFaults
      simp only [hh]
      have hab : a ≠ b := by omega
      simp [h1, h2, h3, h4, hab, hab.symm, Key.INST_KEY]
    unfold State.validate
    rw [if_neg (fun h => h rfl)]
    unfold State.validateDict
    simp only [hk]
    rcases hp with ⟨rfl, rfl⟩ | ⟨rfl, rfl⟩ | ⟨rfl, rfl⟩ <;> decide +kernel
  · rcases hp with ⟨rfl, rfl⟩ | ⟨rfl, rfl⟩ | ⟨rfl, rfl⟩ <;> decide +kernel

def wReads : StartReads :=
  { copy0 := true, copy1 := true, imageOk := true, otherOk := true, subordinateOk := true, flash0 := true, flash1 := true, truncatedAt := none }
def wProxy : Proxy :=
  { port := 7, tag := 3, part := 2, crown := 6, track := 0, reqId := 256, reqTag := 1, cls := 0, at_ := 0, want := { left := 4, lower := 0, parts := false, completer := none } }

/-- A line that comes as it is stored passes. -/
theorem passes_good (s : State) (pla : Nat) : s.passes pla goodRead.first = true := by
  simp [State.passes, goodRead, asStored]

theorem reset_inv : State.reset.Inv :=
  ⟨by decide, by decide, by decide, by decide, List.length_replicate, List.length_replicate, List.length_replicate, List.length_replicate, List.length_replicate⟩
/-- A training frame on lane 0. -/
def wFrame (type : Nat) (c : List Byte) : List Byte := trainingFrame 0 type 5 c
/-! ### States and operands that meet the hypotheses of the statements: `w_` with the statement's name and the clause's number -/

theorem w_StepRunsTheFrontCommand : ∃ (c : Instr) (s : State) (rest : List Instr), s.pending = c :: rest :=
  ⟨.markerLoss 5, { State.reset with pending := [.markerLoss 5] }, [], rfl⟩
theorem w_EmptyQueueIdles : ∃ (s : State), s.pending = [] :=
  ⟨State.reset, rfl⟩
theorem w_StepKeepsInvariant : ∃ (s u : State), s.Inv ∧ step s = .next u :=
  by
  refine ⟨State.reset, State.reset, ⟨by decide +kernel, ?_, ?_, ?_, rfl, rfl, rfl, rfl, rfl⟩, rfl⟩ <;> decide +kernel
theorem w_LocalCountNeverRunsBack : ∃ (s u : State), s.Inv ∧ step s = .next u :=
  by
  refine ⟨State.reset, State.reset, ⟨by decide +kernel, ?_, ?_, ?_, rfl, rfl, rfl, rfl, rfl⟩, rfl⟩ <;> decide +kernel
theorem w_TestModeIsLeftOnlyByPowerCycle : ∃ (c : Instr) (s u : State), s.sec.testMode = true ∧ (∀ t, c ≠ .inputRemoved t) ∧ exec c s = .next u :=
  ⟨.markerLoss 5, State.reset.modSec (fun x => { x with testMode := true }), _, rfl, (fun _ h => nomatch h), rfl⟩
theorem w_LatchHoldsUntilInputRemoved : (∃ (c : Instr) (s u : State), s.faults.crown = .f4Latched ∧ (∀ t, c ≠ .inputRemoved t) ∧ exec c s = .next u) ∧ (∃ (s : State) (seq : BitVec 15) (h : HistEntry), s.histEntry seq = some h ∧ h.cls = 4) :=
  ⟨⟨.markerLoss 5, State.reset.modFaults (fun x => { x with crown := .f4Latched }), _, rfl, (fun _ h => nomatch h), rfl⟩, State.reset.modFaults (fun x => { x with history := [{ wHist with cls := 4 }] }), 1, { wHist with cls := 4 }, rfl, rfl⟩
theorem w_DictionaryReadsBack : (∃ s : State, s.Inv) ∧ ∃ (s u : State), s.Inv ∧ u.Inv ∧ (∀ k, s.get k = u.get k) :=
  ⟨⟨State.reset, reset_inv⟩, State.reset, State.reset, reset_inv, reset_inv, fun _ => rfl⟩
theorem w_MemoryReadsBack : ∃ (m n : Memory), m.wf = true ∧ n.wf = true ∧ (∀ a, cellGet m.cells a = cellGet n.cells a) ∧ (∀ l, (sortedGet m.owners l).getD Owner.module = (sortedGet n.owners l).getD Owner.module) :=
  ⟨State.reset.mem, State.reset.mem, by decide, by decide, fun _ => rfl, fun _ => rfl⟩
theorem w_LinesBelongToTheirOwner : ∃ (s w x : State) (o p : Owner) (n k a : Nat) (data part : List Byte) (rd : LineRead), s.Inv ∧ data.length = 256 ∧ p ≠ o ∧ k ≠ n ∧ a % 256 + part.length ≤ 256 ∧ 1 ≤ part.length ∧ w = s.writeLine o n data 0 true ∧ x = (s.writePart o a part rd).1 ∧ w.passes (w.plaOf n) rd.first = true ∧ w.passes (w.plaOf k) rd.first = true ∧ s.passes (s.plaOf k) rd.first = true ∧ s.passes (s.plaOf (a / 256)) rd.first = true ∧ x.passes (x.plaOf (a / 256)) rd.first = true :=
  ⟨State.reset, _, _, { gp := 1, epoch := 1 }, { gp := 2, epoch := 1 }, 3, 4, 255, List.replicate 256 0, [7], goodRead, reset_inv, by decide, by decide, by decide, by decide, by decide, rfl, rfl, passes_good _ _, passes_good _ _, passes_good _ _, passes_good _ _, passes_good _ _⟩
theorem w_EpochErasesLines : ∃ (s : State) (gp : Nat) (o : Owner) (a : Nat), gp < 4096 ∧ s.lineOwner (a / 256) = { gp := BitVec.ofNat 12 gp, epoch := s.epochOf gp } ∧ o.epoch = (s.rollKey gp).epochOf o.gp.toNat :=
  ⟨State.reset.modMem (fun m => { m with owners := [(0, { gp := 5, epoch := 1 })] }), 5, { gp := 5, epoch := 2 }, 0, by decide, by decide, by decide⟩
theorem w_CheckTellsSequences : ∃ (a b : Seq16) (fu : Fu), fuCheck a fu = fuCheck b fu :=
  ⟨0, 0, wFu, rfl⟩
theorem w_WeightsRefused : (wClaimed.tick 0).Heard wReq ∧ ((wClaimed.tick 0).sigCounted wReq).authenticate wReq = .known wInst ∧ wInst.may Op.write 0x6600 = true ∧ (∃ e, entryAt 0x6600 0 = some e) :=
  by
  refine ⟨by unfold Machine.State.Heard; decide +kernel, ?_, ?_, wEntry 0x6600 0, ?_⟩ <;> decide +kernel
theorem w_BoughWidthRefused : (wClaimed.tick 0).Heard wReq ∧ ((wClaimed.tick 0).sigCounted wReq).authenticate wReq = .known wInst ∧ wInst.may Op.write 0x3100 = true :=
  by
  refine ⟨by unfold Machine.State.Heard; decide +kernel, ?_, ?_⟩ <;> decide +kernel
theorem w_MakerRangeHidden : ((wClaimed.tick 0).Heard wReq ∧ ((wClaimed.tick 0).sigCounted wReq).authenticate wReq = .known wInst ∧ wInst.may Op.write 0xF000 = true ∧ formOk 2 255 1 = true) ∧ ∃ (s : State) (c : Caller) (id : Nat) (x : ChangeSet), s.setOf id = some x ∧ x.state = .open_ ∧ x.opener = c.keyId :=
  by
  refine ⟨⟨by unfold Machine.State.Heard; decide +kernel, ?_, ?_, ?_⟩, wClaimed.modBocel (fun b => { b with sets := [wSet] }), wInst, 1, wSet, ?_, rfl, rfl⟩ <;> decide +kernel
theorem w_HierarchyResults_1 : ∃ (s u : State) (t : Nat) (k : ℕ), u = s.tick t ∧ (k < 6) ∧ (0 < u.hier.stemLinkSpares.getD k 0) :=
  by
  refine ⟨(State.reset.modHier (fun h => { h with stemLinkSpares := [1, 1, 1, 1, 1, 1] })), _, 0, 1, rfl, ?_, ?_⟩ <;> decide +kernel
theorem w_HierarchyResults_2 : ∃ (s u : State) (t : Nat) (k : ℕ), u = s.tick t ∧ (k < 6) ∧ (u.hier.stemLinkSpares.getD k 0 = 0) :=
  by
  refine ⟨(State.reset.modHier (fun h => { h with stemLinkSpares := [0, 0] })), _, 0, 1, rfl, ?_, ?_⟩ <;> decide +kernel
theorem w_HierarchyResults_3 : ∃ (s u : State) (t : Nat) (d : ℕ), u = s.tick t ∧ (d < 4) ∧ (0 < u.hier.heartLinkSpares.getD d 0) :=
  by
  refine ⟨(State.reset.modHier (fun h => { h with heartLinkSpares := [1, 1, 1, 1] })), _, 0, 3, rfl, ?_, ?_⟩ <;> decide +kernel
theorem w_HierarchyResults_4 : ∃ (s u : State) (t : Nat) (d : ℕ), u = s.tick t ∧ (d < 4) ∧ (u.hier.heartLinkSpares.getD d 0 = 0) :=
  by
  refine ⟨(State.reset.modHier (fun h => { h with heartLinkSpares := [] })), _, 0, 3, rfl, ?_, ?_⟩ <;> decide +kernel
theorem w_HierarchyResults_5 : ∃ (s u : State) (t : Nat) (g : ℕ), u = s.tick t ∧ (g < 160) ∧ (u.resetsBarred = false) :=
  by
  refine ⟨(State.reset), _, 0, 159, rfl, ?_, ?_⟩ <;> decide +kernel
theorem w_HierarchyResults_6 : ∃ (s u : State) (t : Nat) (p : ℕ) (g : ℕ), u = s.tick t ∧ (g < 160) ∧ (p < 64) ∧ (u.holdsWhole p g = true) ∧ (u.resetsBarred = false) :=
  by
  refine ⟨((State.reset.set Key.CROWN_ID 5).set (Key.VDP_BIND + 256 * 2) (2 ^ 62 + 5 * 2 ^ 52 + 8 * 2 ^ 44)), _, 0, 2, 8, rfl, ?_, ?_, ?_, ?_⟩ <;> decide +kernel
theorem w_HierarchyResults_7 : ∃ (s u : State) (t : Nat) (p : ℕ) (g : ℕ), u = s.tick t ∧ (u.holdsWhole p g = false) :=
  ⟨(State.reset), _, 0, 2, 8, rfl, by decide +kernel⟩
theorem w_HierarchyResults_8 : ∃ (s u : State) (t : Nat) (b : ℕ), u = s.tick t ∧ (b < 40) ∧ (u.resetsBarred = false) :=
  by
  refine ⟨(State.reset), _, 0, 39, rfl, ?_, ?_⟩ <;> decide +kernel
theorem w_HierarchyResults_9 : ∃ (s u : State) (t : Nat) (l : ℕ), u = s.tick t ∧ (l < 8) ∧ (u.resetsBarred = false) :=
  by
  refine ⟨(State.reset), _, 0, 7, rfl, ?_, ?_⟩ <;> decide +kernel
theorem w_HierarchyResults_10 : ∃ (s u : State) (t : Nat) (d : ℕ), u = s.tick t ∧ (d < 4) ∧ (u.resetsBarred = false) :=
  by
  refine ⟨(State.reset), _, 0, 3, rfl, ?_, ?_⟩ <;> decide +kernel
theorem w_HierarchyResults_11 : ∃ (s u : State) (t : Nat) (b : ℕ), u = s.tick t ∧ (b < 40) ∧ (isTBough b = false) ∧ (UnitId.bough b ∈ u.hier.resets) :=
  by
  refine ⟨(State.reset.modHier (fun h => { h with resets := [.bough 4] })), _, 0, 4, rfl, ?_, ?_, ?_⟩ <;> decide +kernel
theorem w_TimeElectionResults_1 : ∃ (s u : State) (t : Nat), u = s.tick t ∧ (u.time.mode = .master) :=
  ⟨(State.reset.modTime (fun x => { x with mode := .master })), _, 0, rfl, by decide +kernel⟩
theorem w_TimeElectionResults_2 : ∃ (s u : State) (t : Nat), u = s.tick t ∧ (u.time.mode = .holdover) ∧ (u.timePriority ≠ 0xFF) :=
  by
  refine ⟨(State.reset.modTime (fun x => { x with mode := .holdover })), _, 0, rfl, ?_, ?_⟩ <;> decide +kernel
theorem w_TimeElectionResults_3 : ∃ (s u : State) (t : Nat), u = s.tick t ∧ (u.time.mode = .holdover) ∧ (u.timePriority = 0xFF) :=
  by
  refine ⟨((State.reset.modTime (fun x => { x with mode := .holdover })).set Key.TIME_PRIORITY 0xFF), _, 0, rfl, ?_, ?_⟩ <;> decide +kernel
theorem w_TimeElectionResults_4 : ∃ (s u : State) (t : Nat) (q : ℕ) (a : Announce) (x : Machine.State) (v : Machine.State) (w : Machine.State), u = s.tick t ∧ (u.trunkUp q = true) ∧ (u.time.mode = .free) ∧ (a.masterState = 4) ∧ (assocGet u.time.lastSeq (a.key % 1024) = none) ∧ (x = ((u.markHeard q (a.key % 1024) a.hops a.key).modTime (fun x => { x with lastSeq := assocPut x.lastSeq (a.key % 1024) a.seq, heardAny := u.now })).modTime (fun x => { x with mode := .acquiring, ft := a.ft, fresh := true, offset := 0, goodMarkers := 0, fast := false, running := true, heardMaster := u.now })) ∧ (v = (if u.time.ft < a.ft then x.noteFree 0xBE6 0 else x).follow (a.key % 1024) a.key) ∧ (w = (if v.bestHeld a then v.sendControl (fun r => r ≠ q) (.announce { a with hops := (a.hops + 1) % 256, sender := v.crownId % 1024 }) else v)) :=
  by
  refine ⟨(State.reset.modTrunk 3 (fun k => { k with tstate := .l0 })), _, 0, 3, ({ hops := 0, key := 5, masterState := 4, seq := 1, ft := 77, sender := 5 }), _, _, _, rfl, ?_, ?_, ?_, ?_, rfl, rfl, rfl⟩ <;> decide +kernel
theorem w_TimeElectionResults_5 : ∃ (s u : State) (t : Nat) (q : ℕ) (a : Announce) (l : Seq16), u = s.tick t ∧ (u.trunkUp q = true) ∧ (assocGet u.time.lastSeq (a.key % 1024) = some l) ∧ (newer16 a.seq l = false) ∧ (l ≠ a.seq) :=
  by
  refine ⟨((State.reset.modTrunk 3 (fun k => { k with tstate := .l0 })).modTime (fun x => { x with lastSeq := [(5, 2)] })), _, 0, 3, ({ hops := 0, key := 5, masterState := 4, seq := 1, ft := 77, sender := 5 }), 2, rfl, ?_, ?_, ?_, ?_⟩ <;> decide +kernel
theorem w_TimeElectionResults_6 : ∃ (s u : State) (t : Nat) (q : ℕ) (a : Announce), u = s.tick t ∧ (u.trunkUp q = true) ∧ (assocGet u.time.lastSeq (a.key % 1024) = some a.seq) :=
  by
  refine ⟨((State.reset.modTrunk 3 (fun k => { k with tstate := .l0 })).modTime (fun x => { x with lastSeq := [(5, 1)] })), _, 0, 3, ({ hops := 0, key := 5, masterState := 4, seq := 1, ft := 77, sender := 5 }), rfl, ?_, ?_⟩ <;> decide +kernel
theorem w_TimeElectionResults_7 : ∃ (s u : State) (t : Nat), u = s.tick t ∧ (u.time.mode = .locked) ∧ (u.after u.time.heardMaster 3000000 = true) :=
  by
  refine ⟨(State.reset.modTime (fun x => { x with mode := .locked })), _, 3000000, rfl, ?_, ?_⟩ <;> decide +kernel
theorem w_TimeElectionResults_8 : ∃ (s u : State) (t : Nat), u = s.tick t ∧ (u.time.mode = .locked) ∧ (u.after u.time.heardMaster 3000000 = false) :=
  by
  refine ⟨(State.reset.modTime (fun x => { x with mode := .locked })), _, 2999999, rfl, ?_, ?_⟩ <;> decide +kernel
theorem w_TimeElectionResults_9 : ∃ (s u : State) (t : Nat), u = s.tick t ∧ (u.time.mode = .holdover) ∧ (u.anyTrunkUp = true) ∧ (u.after u.time.lowestSince 10000000 = true) ∧ (u.electable = true) ∧ (u.ownKey ≤ u.time.lowestKey) :=
  by
  refine ⟨((State.reset.modTrunk 3 (fun k => { k with tstate := .l0 })).modTime (fun x => { x with mode := .holdover })), _, 10000000, rfl, ?_, ?_, ?_, ?_, ?_⟩ <;> decide +kernel
theorem w_TimeElectionResults_10 : ∃ (s u : State) (t : Nat), u = s.tick t ∧ (u.time.mode = .holdover) ∧ (u.anyTrunkUp = true) ∧ (u.after u.time.lowestSince 10000000 = true) ∧ (u.time.lowestKey < u.ownKey) ∧ (u.time.lowestKey < 0x7FFFF) :=
  by
  refine ⟨((State.reset.modTrunk 3 (fun k => { k with tstate := .l0 })).modTime (fun x => { x with mode := .holdover, lowestKey := 5 })), _, 10000000, rfl, ?_, ?_, ?_, ?_, ?_⟩ <;> decide +kernel
theorem w_TimeElectionResults_11 : ∃ (s u : State) (t : Nat) (t0 : ℕ), u = s.tick t ∧ (u.time.officeSince = some t0) ∧ (u.time.mode = .locked) ∧ (u.electable = true) ∧ (u.ownKey < u.time.masterKey) ∧ (u.after t0 10000000 = true) :=
  by
  refine ⟨(State.reset.modTime (fun x => { x with mode := .locked, officeSince := some 0, masterKey := 0x7FFFF })), _, 10000000, 0, rfl, ?_, ?_, ?_, ?_, ?_⟩ <;> decide +kernel
theorem w_TimeElectionResults_12 : ∃ (s u : State) (t : Nat), u = s.tick t ∧ (u.time.mode = .free) ∧ (u.electable = true) ∧ (u.after u.time.heardAny 10000000 = true) :=
  by
  refine ⟨(State.reset), _, 10000000, rfl, ?_, ?_, ?_⟩ <;> decide +kernel
theorem w_TimeReferenceAndMarkers_1 : ∃ (s u : State) (t : Nat) (n : ℕ), u = s.tick t ∧ (u.get Key.TIME_REF_ENABLE ≠ 0) ∧ (u.faults.debugInstr ≠ .extest) ∧ (999999000 ≤ n) ∧ (n ≤ 1000001000) ∧ (u.time.mode = .free) :=
  by
  refine ⟨(State.reset.set Key.TIME_REF_ENABLE 1), _, 0, 1000000000, rfl, ?_, ?_, ?_, ?_, ?_⟩ <;> decide +kernel
theorem w_TimeReferenceAndMarkers_2 : ∃ (s u : State) (t : Nat) (n : ℕ), u = s.tick t ∧ (u.get Key.TIME_REF_ENABLE ≠ 0) ∧ (u.faults.debugInstr ≠ .extest) ∧ ((n < 999999000 ∨ 1000001000 < n)) :=
  by
  refine ⟨(State.reset.set Key.TIME_REF_ENABLE 1), _, 0, 5, rfl, ?_, ?_, ?_⟩ <;> decide +kernel
theorem w_TimeReferenceAndMarkers_5 : ∃ (s u : State) (t : Nat) (q : ℕ) (lanes : List (List Byte)) (m : Marker) (v : Machine.State), u = s.tick t ∧ (u.trunkUp q = true) ∧ (commaMissing lanes = false) ∧ (markerPick lanes = some m) ∧ (m.checkOk = true) ∧ (m.timeState = 0) ∧ (v = u.modTrunk q (fun k => { k with lineRx := { k.lineRx with missRun := 0 } })) :=
  by
  refine ⟨(State.reset.modTrunk 3 (fun k => { k with tstate := .l0 })), _, 0, 3, ((List.range 4).map (fun k => markerBytes k 0 5 1000 7)), ({ sender := 5, count := 7, ftStamp := 1000, timeState := 0, checkOk := true }), _, rfl, ?_, ?_, ?_, ?_, ?_, rfl⟩ <;> decide +kernel
theorem w_TimeReferenceAndMarkers_6 : ∃ (s u : State) (t : Nat) (q : ℕ) (lanes : List (List Byte)) (m : Marker) (v : Machine.State) (w : Machine.State), u = s.tick t ∧ (u.trunkUp q = true) ∧ (commaMissing lanes = false) ∧ (markerPick lanes = some m) ∧ (m.checkOk = true) ∧ (m.timeState ≠ 0) ∧ (u.time.upstream = some q) ∧ (u.time.mode = .locked) ∧ (v = (u.modTrunk q (fun k => { k with lineRx := { k.lineRx with missRun := 0 } })).modTrunk q (fun k => { k with farStamp := m.ftStamp + k.delayPs / 1000, lastMarker := u.now })) ∧ (w = (v.modTrunk q (fun k => { k with validAt := u.now })).takeOffset ((u.time.ft : Int) - ((m.ftStamp : Int) + u.oneWayNs q))) :=
  by
  refine ⟨((State.reset.modTrunk 3 (fun k => { k with tstate := .l0 })).modTime (fun x => { x with mode := .locked, upstream := some 3 })), _, 0, 3, ((List.range 4).map (fun k => markerBytes k 4 5 1000 7)), ({ sender := 5, count := 7, ftStamp := 1000, timeState := 4, checkOk := true }), _, _, rfl, ?_, ?_, ?_, ?_, ?_, ?_, ?_, rfl, rfl⟩ <;> decide +kernel
theorem w_TimeReferenceAndMarkers_7 : ∃ (s u : State) (t : Nat) (q : ℕ) (lanes : List (List Byte)), u = s.tick t ∧ (u.trunkUp q = true) ∧ (commaMissing lanes = false) ∧ (markerPick lanes = none) :=
  by
  refine ⟨(State.reset.modTrunk 3 (fun k => { k with tstate := .l0 })), _, 0, 3, ((List.range 4).map (fun k => (markerBytes k 4 5 1000 7).take 39 ++ [1])), rfl, ?_, ?_, ?_⟩ <;> decide +kernel
theorem w_TimeReferenceAndMarkers_8 : ∃ (s u : State) (t : Nat) (q : ℕ) (lanes : List (List Byte)), u = s.tick t ∧ (u.trunkUp q = true) ∧ (commaMissing lanes = true) ∧ ((u.trunk q).lineRx.missRun = 1) :=
  by
  refine ⟨(State.reset.modTrunk 3 (fun k => { k with tstate := .l0, lineRx := { k.lineRx with missRun := 1 } })), _, 0, 3, ([]), rfl, ?_, ?_, ?_⟩ <;> decide +kernel
theorem w_TimeReferenceAndMarkers_9 : ∃ (s u : State) (t : Nat) (q : ℕ), u = s.tick t ∧ (u.time.upstream = some q) ∧ (u.time.mode = .locked) ∧ (u.after (u.trunk q).validAt (4 * markerPeriodNs (u.trunk q).rate) = true) :=
  by
  refine ⟨(State.reset.modTime (fun x => { x with mode := .locked, upstream := some 3 })), _, 41804, 3, rfl, ?_, ?_, ?_⟩ <;> decide +kernel
theorem w_TimeReferenceAndMarkers_10 : ∃ (s u : State) (t : Nat), u = s.tick t ∧ (u.time.mode = .holdover) ∧ (1000 < u.uncertainty) ∧ (u.time.openMode = false) :=
  by
  refine ⟨(State.reset.modTime (fun x => { x with mode := .holdover, holdBase := 1001 })), _, 0, rfl, ?_, ?_, ?_⟩ <;> decide +kernel
theorem w_TimeReferenceAndMarkers_11 : ∃ (s u : State) (t : Nat), u = s.tick t ∧ (u.time.openMode = true) ∧ (u.locked = true) ∧ (u.time.ft % 8192 = 0) :=
  by
  refine ⟨(State.reset.modTime (fun x => { x with mode := .master, openMode := true, ft := 16384 })), _, 0, rfl, ?_, ?_, ?_⟩ <;> decide +kernel
theorem w_ScheduleAndMaintenance_1 : ∃ (s u : State) (t : Nat) (n : ℕ) (c : ChangeSet), u = s.tick t ∧ ((u.act.slots.getD n ActSlot.reset).kind = .change) ∧ (u.actTurn n = true) ∧ (u.setInFlight (u.act.slots.getD n ActSlot.reset).ref = false) ∧ (u.setOf (u.act.slots.getD n ActSlot.reset).ref = some c) ∧ (u.locked = true) :=
  by
  refine ⟨(((State.reset.modBocel (fun b => { b with sets := [wSet] })).modTime (fun x => { x with mode := .master, ft := 100 })).modAct (fun x => { x with slots := x.slots.set 0 { ActSlot.reset with kind := .change, state := .pending, joint := false, ref := 1 } })), _, 0, 0, wSet, rfl, ?_, ?_, ?_, ?_, ?_⟩ <;> decide +kernel
theorem w_ScheduleAndMaintenance_2 : ∃ (s u : State) (t : Nat) (n : ℕ) (c : ChangeSet), u = s.tick t ∧ ((u.act.slots.getD n ActSlot.reset).kind = .change) ∧ (u.actTurn n = true) ∧ (u.setInFlight (u.act.slots.getD n ActSlot.reset).ref = false) ∧ (u.setOf (u.act.slots.getD n ActSlot.reset).ref = some c) ∧ (u.locked = false) ∧ ((u.act.slots.getD n ActSlot.reset).joint = true) :=
  by
  refine ⟨(((State.reset.modBocel (fun b => { b with sets := [wSet] })).modTime (fun x => { x with mode := .holdover, ft := 100 })).modAct (fun x => { x with slots := x.slots.set 0 { ActSlot.reset with kind := .change, state := .pending, joint := true, ref := 1 } })), _, 0, 0, wSet, rfl, ?_, ?_, ?_, ?_, ?_, ?_⟩ <;> decide +kernel
theorem w_ScheduleAndMaintenance_3 : ∃ (s u : State) (t : Nat) (n : ℕ) (c : ChangeSet), u = s.tick t ∧ ((u.act.slots.getD n ActSlot.reset).kind = .change) ∧ (u.actTurn n = true) ∧ (u.setInFlight (u.act.slots.getD n ActSlot.reset).ref = false) ∧ (u.setOf (u.act.slots.getD n ActSlot.reset).ref = some c) ∧ (u.time.mode = .holdover) ∧ ((u.act.slots.getD n ActSlot.reset).joint = false) :=
  by
  refine ⟨(((State.reset.modBocel (fun b => { b with sets := [wSet] })).modTime (fun x => { x with mode := .holdover, ft := 100 })).modAct (fun x => { x with slots := x.slots.set 0 { ActSlot.reset with kind := .change, state := .pending, joint := false, ref := 1 } })), _, 0, 0, wSet, rfl, ?_, ?_, ?_, ?_, ?_, ?_⟩ <;> decide +kernel
theorem w_ScheduleAndMaintenance_4 : ∃ (s u : State) (t : Nat) (n : ℕ), u = s.tick t ∧ ((u.act.slots.getD n ActSlot.reset).kind = .change) ∧ (u.time.mode = .free ∨ u.time.mode = .acquiring) ∧ ((u.act.slots.getD n ActSlot.reset).joint = false) :=
  by
  refine ⟨(State.reset.modAct (fun x => { x with slots := x.slots.set 0 { ActSlot.reset with kind := .change, state := .pending, joint := false, ref := 1 } })), _, 0, 0, rfl, ?_, ?_, ?_⟩ <;> decide +kernel
theorem w_ScheduleAndMaintenance_5 : ∃ (s u : State) (t : Nat) (ft : ℕ) (v : Machine.State), u = s.tick t ∧ (u.slotBankFault = none) ∧ (u.actFind .swap 0 = none) ∧ (u.actPut (ceilDiv ft 8192 * 8192) .swap false 0 0xFFFF = some v) :=
  by
  refine ⟨(State.reset), _, 0, 8193, (((State.tick (State.reset) 0).actPut (ceilDiv (8193) 8192 * 8192) .swap false 0 0xFFFF).getD State.reset), rfl, ?_, ?_, rfl⟩ <;> decide +kernel
theorem w_ScheduleAndMaintenance_6 : ∃ (s u : State) (t : Nat) (n : ℕ), u = s.tick t ∧ (u.slotBankFault = none) ∧ (u.actFind .swap 0 = some n) :=
  by
  refine ⟨(((State.reset.actPut 16384 .swap false 0 0xFFFF).getD State.reset)), _, 0, 0, rfl, ?_, ?_⟩ <;> decide +kernel
theorem w_ScheduleAndMaintenance_7 : ∃ (s u : State) (t : Nat) (d : ℕ), u = s.tick t ∧ (u.slotBankFault = some d) :=
  ⟨((List.range 128).foldl (fun (x : State) n => x.set (Key.TRUNK_SLOT + n) 0x20000000) State.reset), _, 0, 0x100, rfl, by decide +kernel⟩
theorem w_ScheduleAndMaintenance_8 : ∃ (s u : State) (t : Nat) (ft : ℕ), u = s.tick t ∧ (u.slotBankFault = none) ∧ (u.actFind .swap 0 = none) ∧ (u.actPut (ceilDiv ft 8192 * 8192) .swap false 0 0xFFFF = none) :=
  by
  refine ⟨(State.reset.modAct (fun x => { x with slots := List.replicate 256 { ActSlot.reset with kind := .snapshot, state := .pending } })), _, 0, 8193, rfl, ?_, ?_, ?_⟩ <;> decide +kernel
theorem w_ScheduleAndMaintenance_10 : ∃ (s u : State) (t : Nat) (n : ℕ), u = s.tick t ∧ (u.actFind .swap 0 = some n) ∧ (u.actTurn n = true) ∧ (u.locked = true) :=
  by
  refine ⟨((State.reset.modTime (fun x => { x with mode := .master, ft := 100 })).modAct (fun x => { x with slots := x.slots.set 0 { ActSlot.reset with kind := .swap, state := .pending } })), _, 0, 0, rfl, ?_, ?_, ?_⟩ <;> decide +kernel
theorem w_ScheduleAndMaintenance_11 : ∃ (s u : State) (t : Nat) (n : ℕ), u = s.tick t ∧ (u.actFind .swap 0 = some n) ∧ (u.actTurn n = true) ∧ (u.time.mode = .holdover) :=
  by
  refine ⟨((State.reset.modTime (fun x => { x with mode := .holdover, ft := 100 })).modAct (fun x => { x with slots := x.slots.set 0 { ActSlot.reset with kind := .swap, state := .pending } })), _, 0, 0, rfl, ?_, ?_, ?_⟩ <;> decide +kernel
theorem w_ScheduleAndMaintenance_12 : ∃ (s u : State) (t : Nat), u = s.tick t ∧ (u.time.mode = .free ∨ u.time.mode = .acquiring) :=
  ⟨(State.reset), _, 0, rfl, by decide +kernel⟩
theorem w_ScheduleAndMaintenance_13 : ∃ (s u : State) (t : Nat) (q : ℕ), u = s.tick t ∧ (u.trunkUp q = true) :=
  ⟨(State.reset.modTrunk 3 (fun k => { k with tstate := .l0 })), _, 0, 3, rfl, by decide +kernel⟩
theorem w_ScheduleAndMaintenance_14 : ∃ (s u : State) (t : Nat) (q : ℕ) (ft : ℕ), u = s.tick t ∧ (u.trunkUp q = true) ∧ (ft ≠ 0) :=
  by
  refine ⟨(State.reset.modTrunk 3 (fun k => { k with tstate := .l0 })), _, 0, 3, 8192, rfl, ?_, ?_⟩ <;> decide +kernel
theorem w_ScheduleAndMaintenance_15 : ∃ (s u : State) (t : Nat) (q : ℕ) (ft : ℕ) (prune : BitVec 128), u = s.tick t ∧ ((u.trunk q).nextPrune = some (ft, prune)) ∧ (ft ≤ u.farClock q) :=
  by
  refine ⟨(State.reset.modTrunk 3 (fun k => { k with nextPrune := some (8192, 1) })), _, 8192, 3, 8192, 1, rfl, ?_, ?_⟩ <;> decide +kernel
theorem w_ScheduleAndMaintenance_16 : ∃ (s u : State) (t : Nat) (q : ℕ) (ft : ℕ) (prune : BitVec 128), u = s.tick t ∧ ((u.trunk q).nextPrune = some (ft, prune)) ∧ (u.farClock q < ft) :=
  by
  refine ⟨(State.reset.modTrunk 3 (fun k => { k with nextPrune := some (8192, 1) })), _, 8191, 3, 8192, 1, rfl, ?_, ?_⟩ <;> decide +kernel
theorem w_ScheduleAndMaintenance_17 : ∃ (s u : State) (t : Nat) (q : ℕ) (dur : ℕ), u = s.tick t ∧ (u.trunkUp q = true) ∧ ((u.pruneSet q).getLsbD u.slotNow = true) ∧ (u.ringNow % 64 + dur ≤ 64) :=
  by
  refine ⟨(State.reset.modTrunk 3 (fun k => { k with tstate := .l0 })), _, 8128, 3, 64, rfl, ?_, ?_, ?_⟩ <;> decide +kernel
theorem w_ScheduleAndMaintenance_18 : ∃ (s u : State) (t : Nat) (q : ℕ) (dur : ℕ), u = s.tick t ∧ ((u.pruneSet q).getLsbD u.slotNow = false ∨ 64 < u.ringNow % 64 + dur) :=
  ⟨(State.reset), _, 8128, 3, 65, rfl, by decide +kernel⟩
theorem w_ScheduleAndMaintenance_19 : ∃ (s u : State) (t : Nat) (q : ℕ) (dur : ℕ) (v : Machine.State), u = s.tick t ∧ (u.trunkUp q = true) ∧ ((u.trunk q).farPrune.getLsbD (u.farClock q % 8192 / 64) = true) ∧ (4 ≤ u.farClock q % 64) ∧ (u.farClock q % 64 + dur ≤ 60) ∧ (v = u.adaptTaps q) :=
  by
  refine ⟨(State.reset.modTrunk 3 (fun k => { k with tstate := .l0, farPrune := 1 })), _, 4, 3, 56, _, rfl, ?_, ?_, ?_, ?_, rfl⟩ <;> decide +kernel
theorem w_ScheduleAndMaintenance_20 : ∃ (s u : State) (t : Nat) (q : ℕ) (dur : ℕ), u = s.tick t ∧ ((u.trunk q).farPrune.getLsbD (u.farClock q % 8192 / 64) = false ∨ u.farClock q % 64 < 4 ∨ 60 < u.farClock q % 64 + dur) :=
  ⟨(State.reset), _, 4, 3, 57, rfl, by decide +kernel⟩
theorem w_HostPortTraining_1 : ∃ (s u : State) (t : Nat) (n : ℕ) (left : ℕ), u = s.tick t ∧ (n < 576) ∧ ((u.hport (u.laneOf n).1).lstate = .detect ∨ (u.hport (u.laneOf n).1).lstate = .polling) ∧ ((u.hport (u.laneOf n).1).detectAt ≤ left) ∧ (u.after left 24000000 = true) :=
  by
  refine ⟨(State.reset), _, 24000005, 575, 5, rfl, ?_, ?_, ?_, ?_⟩ <;> decide +kernel
theorem w_HostPortTraining_2 : ∃ (s u : State) (t : Nat) (n : ℕ), u = s.tick t ∧ ((u.hport (u.laneOf n).1).up = true) :=
  ⟨(State.reset.modHPort 0 (fun h => { h with lstate := .l0 })), _, 24000000, 3, rfl, by decide +kernel⟩
theorem w_HostPortTraining_3 : ∃ (s u : State) (t : Nat) (p : ℕ) (lanes : ℕ) (reversed : Bool) (w : ℕ), u = s.tick t ∧ (u.mayTrain p = true) ∧ ((u.hport p).up = false) ∧ (w = widthFor (workingLanes (u.hport p).badLanes reversed (u.formedLanes p) lanes)) ∧ (w ≠ 0) :=
  by
  refine ⟨(State.reset.modPower (fun x => { x with refclk := List.replicate 40 true })), _, 0, 7, 4, false, _, rfl, ?_, ?_, rfl, ?_⟩ <;> decide +kernel
theorem w_HostPortTraining_4 : ∃ (s u : State) (t : Nat) (p : ℕ), u = s.tick t ∧ (u.mayTrain p = false) :=
  ⟨(State.reset), _, 0, 7, rfl, by decide +kernel⟩
theorem w_HostPortTraining_5 : ∃ (s u : State) (t : Nat) (p : ℕ) (rate : ℕ), u = s.tick t ∧ ((u.hport p).up = false) ∧ (rate ≠ 1) :=
  by
  refine ⟨(State.reset), _, 0, 7, 2, rfl, ?_, ?_⟩ <;> decide +kernel
theorem w_HostPortTraining_6 : ∃ (s u : State) (t : Nat) (p : ℕ) (lanes : ℕ) (w : ℕ), u = s.tick t ∧ (u.mayTrain p = true) ∧ ((u.hport p).up = true) ∧ (w = min (widthFor (workingLanes (u.hport p).badLanes (u.hport p).reversed (u.formedLanes p) lanes)) (u.hport p).width) ∧ (w ≠ 0) ∧ ((u.hport p).rate + 1 ≤ min (u.targetRate p (u.hport p).partnerMax (u.hport p).flit) (u.hport p).eqCeiling) ∧ ((u.hport p).rate + 1 < 3 ∨ (u.hport p).eqOk = true) :=
  by
  refine ⟨((State.reset.modPower (fun x => { x with refclk := List.replicate 40 true })).modHPort 7 (fun h => { h with lstate := .l0, rate := 1, flit := true, partnerMax := 7, width := 4 })), _, 0, 7, 4, _, rfl, ?_, ?_, rfl, ?_, ?_, ?_⟩ <;> decide +kernel
theorem w_HostPortTraining_7 : ∃ (s u : State) (t : Nat) (p : ℕ), u = s.tick t ∧ ((u.hport p).up = true) ∧ (3 ≤ (u.hport p).rate + 1) ∧ ((u.hport p).eqOk = false) :=
  by
  refine ⟨(State.reset.modHPort 7 (fun h => { h with lstate := .l0, rate := 2, width := 4 })), _, 0, 7, rfl, ?_, ?_, ?_⟩ <;> decide +kernel
theorem w_HostPortTraining_8 : ∃ (s u : State) (t : Nat) (p : ℕ) (lanes : ℕ) (w : ℕ), u = s.tick t ∧ (u.mayTrain p = true) ∧ ((u.hport p).up = true) ∧ (w = widthFor (workingLanes (u.hport p).badLanes (u.hport p).reversed (u.formedLanes p) lanes)) ∧ ((u.hport p).width ≤ w) ∧ ((u.hport p).width ≠ 0) :=
  by
  refine ⟨((State.reset.modPower (fun x => { x with refclk := List.replicate 40 true })).modHPort 7 (fun h => { h with lstate := .recovery, rate := 1, width := 4 })), _, 0, 7, 4, _, rfl, ?_, ?_, rfl, ?_, ?_⟩ <;> decide +kernel
theorem w_HostPortTraining_9 : ∃ (s u : State) (t : Nat) (p : ℕ), u = s.tick t ∧ (p < 144) ∧ ((u.hport p).up = true) ∧ (2 ≤ (u.hport p).rate) ∧ ((u.hport p).eqOk = false) ∧ ((u.hport p).rate < min (u.targetRate p (u.hport p).partnerMax (u.hport p).flit) (u.hport p).eqCeiling) :=
  by
  refine ⟨(State.reset.modHPort 7 (fun h => { h with lstate := .l0, rate := 2, partnerMax := 7, flit := true, eqCeiling := 7 })), _, 0, 7, rfl, ?_, ?_, ?_, ?_, ?_⟩ <;> decide +kernel
theorem w_HostPortTraining_10 : ∃ (s u : State) (t : Nat) (p : ℕ), u = s.tick t ∧ (p < 144) ∧ ((u.hport p).up = true) ∧ (2 ≤ (u.hport p).rate) ∧ ((u.hport p).eqOk = false) ∧ ((u.hport p).rate < min (u.targetRate p (u.hport p).partnerMax (u.hport p).flit) (u.hport p).eqCeiling) ∧ ((u.hport p).eqTries < 2) :=
  by
  refine ⟨(State.reset.modHPort 7 (fun h => { h with lstate := .l0, rate := 2, partnerMax := 7, flit := true, eqCeiling := 7 })), _, 0, 7, rfl, ?_, ?_, ?_, ?_, ?_, ?_⟩ <;> decide +kernel
theorem w_HostPortTraining_11 : ∃ (s u : State) (t : Nat) (p : ℕ), u = s.tick t ∧ (p < 144) ∧ ((u.hport p).up = true) ∧ (2 ≤ (u.hport p).rate) ∧ ((u.hport p).eqOk = false) ∧ ((u.hport p).rate < min (u.targetRate p (u.hport p).partnerMax (u.hport p).flit) (u.hport p).eqCeiling) ∧ ((u.hport p).eqTries = 2) :=
  by
  refine ⟨(State.reset.modHPort 7 (fun h => { h with lstate := .l0, rate := 2, partnerMax := 7, flit := true, eqCeiling := 7, eqTries := 2 })), _, 0, 7, rfl, ?_, ?_, ?_, ?_, ?_, ?_⟩ <;> decide +kernel
theorem w_HostPortTraining_12 : ∃ (p : ℕ) (n : ℕ), (p < 144) ∧ (n ≤ 10) :=
  by
  refine ⟨143, 10, ?_, ?_⟩ <;> decide +kernel
theorem w_HostPortTraining_13 : ∃ (p : ℕ) (n : ℕ), (p < 144) ∧ (10 < n) :=
  by
  refine ⟨143, 11, ?_, ?_⟩ <;> decide +kernel
theorem w_HostPortTraining_14 : ∃ (p : ℕ), (p < 144) :=
  ⟨143, by decide +kernel⟩
theorem w_HostPortTraining_15 : ∃ (s u : State) (t : Nat) (p : ℕ), u = s.tick t ∧ (p < 144) ∧ ((u.hport p).up = true) :=
  by
  refine ⟨(State.reset.modHPort 7 (fun h => { h with lstate := .l0 })), _, 0, 7, rfl, ?_, ?_⟩ <;> decide +kernel
theorem w_HostPortTraining_16 : ∃ (s u : State) (t : Nat) (p : ℕ), u = s.tick t ∧ (p < 144) ∧ ((u.hport p).lstate = .l0) :=
  by
  refine ⟨(State.reset.modHPort 7 (fun h => { h with lstate := .l0 })), _, 0, 7, rfl, ?_, ?_⟩ <;> decide +kernel
theorem w_HostPortTraining_17 : ∃ (s u : State) (t : Nat) (p : ℕ), u = s.tick t ∧ (p < 144) ∧ ((u.hport p).up = true) :=
  by
  refine ⟨(State.reset.modHPort 7 (fun h => { h with lstate := .l0 })), _, 0, 7, rfl, ?_, ?_⟩ <;> decide +kernel
theorem w_HostPortTraining_18 : ∃ (s u : State) (t : Nat) (p : ℕ), u = s.tick t ∧ (p < 144) ∧ ((u.hport p).up = true) :=
  by
  refine ⟨(State.reset.modHPort 7 (fun h => { h with lstate := .l0 })), _, 0, 7, rfl, ?_, ?_⟩ <;> decide +kernel
theorem w_HostPortTraining_19 : ∃ (s u : State) (t : Nat) (p : ℕ) (cause : ℕ), u = s.tick t ∧ (p < 144) ∧ ((u.hport p).up = true) ∧ (1 ≤ cause) ∧ (cause ≤ 6) :=
  by
  refine ⟨(State.reset.modHPort 143 (fun h => { h with lstate := .l0 })), _, 0, 143, 6, rfl, ?_, ?_, ?_, ?_⟩ <;> decide +kernel
theorem w_HostPortTraining_20 : ∃ (s u : State) (t : Nat) (p : ℕ), u = s.tick t ∧ (p < 144) ∧ ((u.hport p).up = true) ∧ ((u.hpDown p 7 2).isShared (gOfPort p) = false) :=
  by
  refine ⟨(State.reset.modHPort 143 (fun h => { h with lstate := .l0 })), _, 0, 143, rfl, ?_, ?_, ?_⟩ <;> decide +kernel
theorem w_HostPortTraining_21 : ∃ (s u : State) (t : Nat) (p : ℕ), u = s.tick t ∧ (p < 144) ∧ ((u.hport p).up = true) ∧ ((u.hpDown p 7 2).isShared (gOfPort p) = true) :=
  by
  refine ⟨((State.reset.set (Key.SHARED_DEV + 8) 0x80000000).modHPort 8 (fun h => { h with lstate := .l0 })), _, 0, 8, rfl, ?_, ?_, ?_⟩ <;> decide +kernel
theorem w_HostPortTraining_22 : ∃ (s u : State) (t : Nat) (p : ℕ), u = s.tick t ∧ ((u.hport p).up = false) :=
  ⟨(State.reset), _, 0, 143, rfl, by decide +kernel⟩
theorem w_HostPortTraining_23 : ∃ (s u : State) (t : Nat) (p : ℕ) (part : ℕ) (v : Machine.State), u = s.tick t ∧ (u.upTwig part = some p) ∧ ((u.hport (u.hportOfG p)).up = true) ∧ (v = u.modHPort (u.hportOfG p) (fun h => { h with lstate := .recovery, eqCeiling := 7, eqTries := 0, eqOk := false })) :=
  by
  refine ⟨(((State.reset.set Key.CROWN_ID 5).set (Key.PART_GROVE_ID + 2) 9).set (Key.PART_UPSTREAM + 2) (5 * 65536 + 8) |>.modHPort 8 (fun h => { h with lstate := .l0 })), _, 0, 8, 2, _, rfl, ?_, ?_, rfl⟩ <;> decide +kernel
theorem w_HostPortTraining_24 : ∃ (s u : State) (t : Nat) (part : ℕ) (d : ℕ) (v : Machine.State), u = s.tick t ∧ ((u.bind part d).kind = 1) ∧ ((u.bind part d).crown = u.crownId) ∧ ((u.hport (u.hportOfG (u.bind part d).twig)).up = true) ∧ (v = u.modHPort (u.hportOfG (u.bind part d).twig) (fun h => { h with lstate := .recovery, eqCeiling := 7, eqTries := 0, eqOk := false })) :=
  by
  refine ⟨(((State.reset.set Key.CROWN_ID 5).set (Key.VDP_BIND + 256 * 2) (2 ^ 62 + 5 * 2 ^ 52 + 8 * 2 ^ 44)).modHPort 8 (fun h => { h with lstate := .l0 })), _, 0, 2, 0, _, rfl, ?_, ?_, ?_, rfl⟩ <;> decide +kernel
theorem w_HostPortTraining_25 : ∃ (s u : State) (t : Nat) (part : ℕ) (d : ℕ), u = s.tick t ∧ ((u.bind part d).kind = 1) ∧ ((u.bind part d).crown ≠ u.crownId) ∧ (u.isHome part = true) :=
  by
  refine ⟨(((((State.reset.set Key.CROWN_ID 5).set (Key.PART_GROVE_ID + 2) 9).set (Key.PART_UPSTREAM + 2) (5 * 65536 + 8)).set (Key.VDP_BIND + 256 * 2) (2 ^ 62 + 6 * 2 ^ 52 + 8 * 2 ^ 44))), _, 0, 2, 0, rfl, ?_, ?_, ?_⟩ <;> decide +kernel
theorem w_HostPortLanesAndPower_1 : ∃ (s u : State) (t : Nat) (n : ℕ), u = s.tick t ∧ (n < 576) ∧ (u.laneAdapts n = false) :=
  by
  refine ⟨(State.reset), _, 0, 575, rfl, ?_, ?_⟩ <;> decide +kernel
theorem w_HostPortLanesAndPower_2 : ∃ (s u : State) (t : Nat) (n : ℕ) (sums : List ℤ) (acc : List ℤ) (new : List ℤ) (v : Machine.State), u = s.tick t ∧ (n < 576) ∧ (u.laneAdapts n = true) ∧ (acc = (List.range 12).map (fun k => (u.lane n).acc.getD k 0 + sums.getD k 0)) ∧ (new = ((u.lane n).taps.zip acc).map (fun e => tapStep e.1 e.2)) ∧ (v = (u.modLane n (fun l => { l with taps := new, acc := List.replicate 12 0 })).countTwig (gOfPort (n / 4)) 0x10E (((u.lane n).taps.zip new).filter (fun e => e.1 ≠ e.2)).length) :=
  by
  refine ⟨(State.reset.modHPort 0 (fun h => { h with lstate := .l0, l0pWidth := 4 })), _, 0, 3, ([4096, -4096]), _, _, _, rfl, ?_, ?_, rfl, rfl, rfl⟩ <;> decide +kernel
theorem w_HostPortLanesAndPower_3 : ∃ (s u : State) (t : Nat) (n : ℕ) (dur : ℕ), u = s.tick t ∧ (n < 576) ∧ (u.inCrownPrune = true) ∧ (u.ringNow % 64 + dur ≤ 64) :=
  by
  refine ⟨(State.reset), _, 0, 575, 64, rfl, ?_, ?_, ?_⟩ <;> decide +kernel
theorem w_HostPortLanesAndPower_4 : ∃ (s u : State) (t : Nat) (n : ℕ) (dur : ℕ), u = s.tick t ∧ (n < 576) ∧ (u.inCrownPrune = true) ∧ (u.ringNow % 64 + dur ≤ 64) :=
  by
  refine ⟨(State.reset), _, 0, 575, 64, rfl, ?_, ?_, ?_⟩ <;> decide +kernel
theorem w_HostPortLanesAndPower_5 : ∃ (s u : State) (t : Nat) (dur : ℕ), u = s.tick t ∧ (u.inCrownPrune = false ∨ 64 < u.ringNow % 64 + dur) :=
  ⟨(State.reset), _, 0, 65, rfl, by decide +kernel⟩
theorem w_HostPortLanesAndPower_6 : ∃ (s u : State) (t : Nat) (n : ℕ), u = s.tick t ∧ (n < 576) ∧ ((u.hport (u.laneOf n).1).lstate = .l0) ∧ (4 ≤ (u.hport (u.laneOf n).1).rate) :=
  by
  refine ⟨(State.reset.modHPort 0 (fun h => { h with lstate := .l0, rate := 4 })), _, 0, 3, rfl, ?_, ?_, ?_⟩ <;> decide +kernel
theorem w_HostPortLanesAndPower_7 : ∃ (s u : State) (t : Nat) (n : ℕ), u = s.tick t ∧ ((u.hport (u.laneOf n).1).rate < 4) :=
  ⟨(State.reset), _, 0, 3, rfl, by decide +kernel⟩
theorem w_HostPortLanesAndPower_8 : ∃ (n : ℕ), (n < 576) :=
  ⟨575, by decide +kernel⟩
theorem w_HostPortLanesAndPower_9 : ∃ (s u : State) (t : Nat) (b : ℕ) (v : Machine.State), u = s.tick t ∧ (b < 40) ∧ (isTBough b = false) ∧ (u.power.refclk.getD b false = true) ∧ (v = (u.modPower (fun x => { x with refclk := x.refclk.set b false })).noteFree (srcTwig (4 * b) 5) 2) :=
  by
  refine ⟨(State.reset.modPower (fun x => { x with refclk := List.replicate 40 true })), _, 0, 38, _, rfl, ?_, ?_, ?_, rfl⟩ <;> decide +kernel
theorem w_HostPortLanesAndPower_10 : ∃ (s u : State) (t : Nat) (b : ℕ), u = s.tick t ∧ (u.power.refclk.getD b false = false) :=
  ⟨(State.reset), _, 0, 38, rfl, by decide +kernel⟩
theorem w_HostPortLanesAndPower_11 : ∃ (s u : State) (t : Nat) (b : ℕ) (v : Machine.State), u = s.tick t ∧ (b < 40) ∧ (isTBough b = false) ∧ (v = u.modPower (fun x => { x with refclk := x.refclk.set b true })) :=
  by
  refine ⟨(State.reset), _, 0, 38, _, rfl, ?_, ?_, rfl⟩ <;> decide +kernel
theorem w_HostPortLanesAndPower_12 : ∃ (s u : State) (t : Nat) (p : ℕ), u = s.tick t ∧ (p < 144) ∧ ((u.hport p).lstate = .l0) ∧ ((u.hport p).flit = true) ∧ (u.powerEnabled p 3 = true) ∧ (u.get (Key.HP_L0P_IDLE + p) ≠ 0) ∧ (u.after (u.lastTlp p) (1000 * u.get (Key.HP_L0P_IDLE + p)) = true) ∧ (u.l0pMin p < (u.hport p).l0pWidth) :=
  by
  refine ⟨(((State.reset.set (Key.HP_POWER_CTL + 7) 8).set (Key.HP_L0P_IDLE + 7) 5).modHPort 7 (fun h => { h with lstate := .l0, flit := true, width := 4, l0pWidth := 4 })), _, 1000000000, 7, rfl, ?_, ?_, ?_, ?_, ?_, ?_, ?_⟩ <;> decide +kernel
theorem w_HostPortLanesAndPower_13 : ∃ (s u : State) (t : Nat) (p : ℕ), u = s.tick t ∧ (u.powerEnabled p 3 = false ∨ u.after (u.lastTlp p) (1000 * u.get (Key.HP_L0P_IDLE + p)) = false) :=
  ⟨(State.reset), _, 0, 7, rfl, by decide +kernel⟩
theorem w_HostPortLanesAndPower_14 : ∃ (s u : State) (t : Nat) (p : ℕ), u = s.tick t ∧ (p < 144) ∧ ((u.hport p).lstate = .l0) ∧ ((u.hport p).l0pWidth < (u.hport p).width) ∧ (u.power.govLevel < 3) ∧ (2048 < u.queuedBytes (gOfPort p) ∨ (u.hport p).narrowedAt ≤ u.lastTlp p) :=
  by
  refine ⟨((State.reset.modHPort 7 (fun h => { h with lstate := .l0, flit := true, width := 4, l0pWidth := 1, narrowedAt := 9 })).modCore (fun c => { c with queues := [{ wDesc with egress := 7, len := 4096 }] })), _, 0, 7, rfl, ?_, ?_, ?_, ?_, ?_⟩ <;> decide +kernel
theorem w_HostPortLanesAndPower_15 : ∃ (s u : State) (t : Nat), u = s.tick t ∧ (3 ≤ u.power.govLevel) :=
  ⟨(State.reset.modPower (fun x => { x with govLevel := 3 })), _, 0, rfl, by decide +kernel⟩
theorem w_HostPortLanesAndPower_16 : ∃ (s u : State) (t : Nat) (p : ℕ) (w : ℕ), u = s.tick t ∧ (p < 144) ∧ ((u.hport p).lstate = .l0) ∧ ((u.hport p).flit = true) ∧ (u.powerEnabled p 3 = true) ∧ (w ∈ [1, 2, 4, 8, 16]) ∧ (w ≤ (u.hport p).width) :=
  by
  refine ⟨((State.reset.set (Key.HP_POWER_CTL + 7) 8).modHPort 7 (fun h => { h with lstate := .l0, flit := true, width := 4, l0pWidth := 1 })), _, 0, 7, 4, rfl, ?_, ?_, ?_, ?_, ?_, ?_⟩ <;> decide +kernel
theorem w_HostPortLanesAndPower_17 : ∃ (s u : State) (t : Nat) (p : ℕ), u = s.tick t ∧ (u.powerEnabled p 3 = false) :=
  ⟨(State.reset.set (Key.HP_POWER_CTL + 7) 0), _, 0, 7, rfl, by decide +kernel⟩
theorem w_HostPortLanesAndPower_18 : ∃ (s u : State) (t : Nat) (p : ℕ) (part : ℕ), u = s.tick t ∧ (u.upstreamPart (gOfPort p) = some part) ∧ (p < 144) ∧ ((u.hport p).lstate = .l0) ∧ (u.powerEnabled p 0 = true) ∧ (u.get (Key.HP_L1_IDLE + p) ≠ 0) ∧ (u.after (u.lastTlp p) (1000 * u.get (Key.HP_L1_IDLE + p)) = true) ∧ (u.partAwake part = false) ∧ (u.partQuiet part (1000 * u.get (Key.HP_L1_IDLE + p)) = true) :=
  by
  refine ⟨(((((State.reset.set Key.CROWN_ID 5).set (Key.PART_GROVE_ID + 2) 9).set (Key.PART_UPSTREAM + 2) (5 * 65536 + 8)).set (Key.HP_POWER_CTL + 8) 1).modHPort 8 (fun h => { h with lstate := .l0 }) |>.modPart 2 (fun p => { p with upstream := { p.upstream with fields := [(.aspmControl, 2)] } })), _, 1000000000, 8, 2, rfl, ?_, ?_, ?_, ?_, ?_, ?_, ?_, ?_⟩ <;> decide +kernel
theorem w_HostPortLanesAndPower_19 : ∃ (s u : State) (t : Nat) (p : ℕ) (part : ℕ), u = s.tick t ∧ (u.upstreamPart (gOfPort p) = some part) ∧ (p < 144) ∧ ((u.hport p).lstate = .l0) ∧ (u.partAwake part = false) ∧ (u.powerEnabled p 0 = false) ∧ (bitOf (u.get (Key.HP_POWER_CTL + p)) 0 = true) ∧ (u.partAsleep part = true) ∧ (u.partQuiet part 0 = true) :=
  by
  refine ⟨((((((State.reset.set Key.CROWN_ID 5).set (Key.PART_GROVE_ID + 2) 9).set (Key.PART_UPSTREAM + 2) (5 * 65536 + 8)).set (Key.HP_POWER_CTL + 8) 1).modHPort 8 (fun h => { h with lstate := .l0 })).each (List.range 25) (fun w f => w.modFn 2 f (fun x => { x with fields := [(.powerState, 3)] }))), _, 1000000000, 8, 2, rfl, ?_, ?_, ?_, ?_, ?_, ?_, ?_, ?_⟩ <;> decide +kernel
theorem w_HostPortLanesAndPower_20 : ∃ (s u : State) (t : Nat) (p : ℕ), u = s.tick t ∧ (u.upstreamPart (gOfPort p) = none) ∧ (p < 144) ∧ ((u.hport p).lstate = .l0) ∧ (u.powerEnabled p 0 = true) ∧ (u.get (Key.HP_L1_IDLE + p) ≠ 0) ∧ (u.after (u.lastTlp p) (1000 * u.get (Key.HP_L1_IDLE + p)) = true) ∧ (u.core.queues = []) :=
  by
  refine ⟨((State.reset.set (Key.HP_POWER_CTL + 8) 1).modHPort 8 (fun h => { h with lstate := .l0 })), _, 1000000000, 8, rfl, ?_, ?_, ?_, ?_, ?_, ?_, ?_⟩ <;> decide +kernel
theorem w_HostPortLanesAndPower_21 : ∃ (s u : State) (t : Nat) (p : ℕ), u = s.tick t ∧ (u.upstreamPart (gOfPort p) = none) ∧ (p < 144) ∧ ((u.hport p).lstate = .l0) ∧ (u.powerEnabled p 0 = false ∨ u.after (u.lastTlp p) (1000 * u.get (Key.HP_L1_IDLE + p)) = false ∨ u.queuedBytes (gOfPort p) ≠ 0) :=
  by
  refine ⟨((State.reset.set (Key.HP_POWER_CTL + 8) 0x40).modHPort 8 (fun h => { h with lstate := .l0 })), _, 0, 8, rfl, ?_, ?_, ?_, ?_⟩ <;> decide +kernel
theorem w_HostPortLanesAndPower_22 : ∃ (s u : State) (t : Nat) (p : ℕ), u = s.tick t ∧ (p < 144) ∧ ((u.hport p).lstate = .l1) :=
  by
  refine ⟨(State.reset.modHPort 8 (fun h => { h with lstate := .l1 })), _, 0, 8, rfl, ?_, ?_⟩ <;> decide +kernel
theorem w_HostPortLanesAndPower_23 : ∃ (s u : State) (t : Nat) (p : ℕ), u = s.tick t ∧ (p < 144) ∧ ((u.hport p).lstate = .l11 ∨ (u.hport p).lstate = .l12) :=
  by
  refine ⟨(State.reset.modHPort 8 (fun h => { h with lstate := .l12 })), _, 0, 8, rfl, ?_, ?_⟩ <;> decide +kernel
theorem w_HostPortLanesAndPower_24 : ∃ (s u : State) (t : Nat) (p : ℕ), u = s.tick t ∧ (p < 144) ∧ ((u.hport p).inL1 = true) :=
  by
  refine ⟨(State.reset.modHPort 8 (fun h => { h with lstate := .l11 })), _, 0, 8, rfl, ?_, ?_⟩ <;> decide +kernel
theorem w_TrunkTrainingResults_1 : ∃ (s u : State) (t : Nat) (q : ℕ), u = s.tick t ∧ ((u.trunk q).tstate = .detect ∨ (u.trunk q).tstate = .disabled) ∧ (u.trunkMay q = true) :=
  by
  refine ⟨(((State.reset.set (Key.TP_ENABLE + 3) 1).modPower (fun x => { x with reft := List.replicate 4 true })).modTrunk 3 (fun k => { k with tstate := .detect })), _, 0, 3, rfl, ?_, ?_⟩ <;> decide +kernel
theorem w_TrunkTrainingResults_2 : ∃ (s u : State) (t : Nat) (q : ℕ), u = s.tick t ∧ (u.trunkMay q = false) :=
  ⟨(State.reset), _, 0, 16, rfl, by decide +kernel⟩
theorem w_TrunkTrainingResults_3 : ∃ (s u : State) (t : Nat) (q : ℕ) (lanes : List (List Byte × ℕ)) (m : BitVec 8) (p : BitVec 4), u = s.tick t ∧ (alignLanes lanes = some (m, p)) ∧ ((u.trunk q).tstate = .align) :=
  by
  refine ⟨(State.reset.modTrunk 3 (fun k => { k with tstate := .align })), _, 0, 3, ((List.range 4).map (fun k => (commaBytes k ++ [BitVec.ofNat 8 k], 50 * (k % 2)))), (0xE4#8), (0#4), rfl, ?_, ?_⟩ <;> decide +kernel
theorem w_TrunkTrainingResults_4 : ∃ (lanes : List (List Byte × ℕ)), (alignLanes lanes = none) :=
  ⟨((List.range 4).map (fun k => (commaBytes 0 ++ [0], 0))), by decide +kernel⟩
theorem w_TrunkTrainingResults_5 : ∃ (frame : List Byte), (frameContent 1 frame = none) ∧ (frameContent 2 frame = none) ∧ (frameContent 3 frame = none) ∧ (frameContent 4 frame = none) ∧ (frameContent 5 frame = none) ∧ (frameContent 6 frame = none) :=
  by
  refine ⟨((trainingFrame 0 1 5 []).take 127 ++ [7]), ?_, ?_, ?_, ?_, ?_, ?_⟩ <;> decide +kernel
theorem w_TrunkTrainingResults_6 : ∃ (s u : State) (t : Nat) (q : ℕ) (frame : List Byte) (lane : ℕ) (c : List Byte), u = s.tick t ∧ (frameContent 1 frame = some (lane, c)) ∧ ((u.trunk q).tstate = .held) :=
  by
  refine ⟨(State.reset.modTrunk 3 (fun k => { k with tstate := .held })), _, 0, 3, (wFrame 1 [0, 6, 3, 3, 0, 1, 1]), ((0 : Nat)), (padTo 100 [0, 6, 3, 3, 0, 1, 1]), rfl, ?_, ?_⟩ <;> decide +kernel
theorem w_TrunkTrainingResults_7 : ∃ (s u : State) (t : Nat) (q : ℕ) (frame : List Byte) (lane : ℕ) (c : List Byte) (v : Machine.State), u = s.tick t ∧ (frameContent 1 frame = some (lane, c)) ∧ ((u.trunk q).tstate = .negotiate) ∧ (v = u.modTrunk q (fun k => { k with peer := some ((capsOf c).crown % 1024, (capsOf c).trunk % 16), train := { k.train with farCaps := some (capsOf c), farRaw := c } })) ∧ (v.holdCause q ≠ 0) :=
  by
  refine ⟨(State.reset.modTrunk 3 (fun k => { k with tstate := .negotiate })), _, 0, 3, (wFrame 1 [0, 6, 3, 3, 0, 1, 1]), ((0 : Nat)), (padTo 100 [0, 6, 3, 3, 0, 1, 1]), _, rfl, ?_, ?_, rfl, ?_⟩ <;> decide +kernel
theorem w_TrunkTrainingResults_8 : ∃ (s u : State) (t : Nat) (q : ℕ) (frame : List Byte) (lane : ℕ) (c : List Byte) (v : Machine.State), u = s.tick t ∧ (frameContent 1 frame = some (lane, c)) ∧ ((u.trunk q).tstate = .negotiate) ∧ (v = u.modTrunk q (fun k => { k with peer := some ((capsOf c).crown % 1024, (capsOf c).trunk % 16), train := { k.train with farCaps := some (capsOf c), farRaw := c } })) ∧ (v.holdCause q = 0) :=
  by
  refine ⟨((State.reset.set Key.CROWN_ID 5).modTrunk 3 (fun k => { k with tstate := .negotiate })), _, 0, 3, (wFrame 1 [0, 6, 3, 3, 0, 1, 1]), ((0 : Nat)), (padTo 100 [0, 6, 3, 3, 0, 1, 1]), _, rfl, ?_, ?_, rfl, ?_⟩ <;> decide +kernel
theorem w_TrunkTrainingResults_9 : ∃ (s u : State) (t : Nat) (q : ℕ) (frame : List Byte) (lane : ℕ) (c : List Byte), u = s.tick t ∧ (frameContent 2 frame = some (lane, c)) ∧ ((u.trunk q).tstate = .negotiate) ∧ ((u.trunk q).train.farCaps.isSome = true) ∧ (keyexLimit (beField c 0 0) < beField c 2 3) :=
  by
  refine ⟨(State.reset.modTrunk 3 (fun k => { k with tstate := .negotiate, train := { k.train with farCaps := some wCaps } })), _, 0, 3, (wFrame 2 [1, 0, 0, 98, 0, 0, 0, 1, 5]), ((0 : Nat)), (padTo 100 [1, 0, 0, 98, 0, 0, 0, 1, 5]), rfl, ?_, ?_, ?_, ?_⟩ <;> decide +kernel
theorem w_TrunkTrainingResults_10 : ∃ (s u : State) (t : Nat) (q : ℕ) (frame : List Byte) (lane : ℕ) (c : List Byte), u = s.tick t ∧ (frameContent 2 frame = some (lane, c)) ∧ ((u.trunk q).tstate = .negotiate) ∧ ((u.trunk q).train.farCaps.isSome = true) ∧ ((u.trunk q).train.keyex = []) ∧ (beField c 2 3 ≤ keyexLimit (beField c 0 0)) ∧ (1 ≤ beField c 6 7) ∧ (beField c 6 7 ≤ 92) ∧ (beField c 4 5 + beField c 6 7 ≤ beField c 2 3) :=
  by
  refine ⟨(State.reset.modTrunk 3 (fun k => { k with tstate := .negotiate, train := { k.train with farCaps := some wCaps } })), _, 0, 3, (wFrame 2 [1, 0, 0, 97, 0, 0, 0, 1, 5]), ((0 : Nat)), (padTo 100 [1, 0, 0, 97, 0, 0, 0, 1, 5]), rfl, ?_, ?_, ?_, ?_, ?_, ?_, ?_, ?_⟩ <;> decide +kernel
theorem w_TrunkTrainingResults_11 : ∃ (s u : State) (t : Nat) (q : ℕ) (off : ℕ) (seg : List Byte), u = s.tick t ∧ ((u.trunk q).train.keyex = []) ∧ (q < u.trunks.length) ∧ (0 < seg.length) ∧ (off + seg.length < 97) :=
  by
  refine ⟨(State.reset.modTrunk 3 (fun k => { k with tstate := .negotiate, train := { k.train with farCaps := some wCaps } })), _, 0, 3, 0, ([1]), rfl, ?_, ?_, ?_, ?_⟩ <;> decide +kernel
theorem w_TrunkTrainingResults_12 : ∃ (s u : State) (t : Nat) (q : ℕ) (frame : List Byte) (lane : ℕ) (c : List Byte), u = s.tick t ∧ (frameContent 3 frame = some (lane, c)) ∧ (((u.trunk q).tstate = .negotiate ∨ (u.trunk q).tstate = .step106 ∨ (u.trunk q).tstate = .step212)) ∧ ((delayOf c).role = 1) :=
  by
  refine ⟨(State.reset.modTrunk 3 (fun k => { k with tstate := .step106 })), _, 0, 3, (wFrame 3 [1, 0, 0, 0, 0, 0, 0, 0, 0, 0, 0, 5]), ((0 : Nat)), (padTo 100 [1, 0, 0, 0, 0, 0, 0, 0, 0, 0, 0, 5]), rfl, ?_, ?_, ?_⟩ <;> decide +kernel
theorem w_TrunkTrainingResults_13 : ∃ (s u : State) (t : Nat) (q : ℕ) (frame : List Byte) (at_ : ℕ) (c : List Byte) (v : Machine.State), u = s.tick t ∧ (frameContent 3 frame = some (0, c)) ∧ (((u.trunk q).tstate = .negotiate ∨ (u.trunk q).tstate = .step106 ∨ (u.trunk q).tstate = .step212)) ∧ ((delayOf c).role = 2) ∧ ((delayOf c).exchange = (u.trunk q).train.exchange) ∧ (v = u.modTrunk q (fun k => { k with delayPs := oneWayPs (delayOf c) at_, train := { k.train with delayDone := true, exchange := (k.train.exchange + 1) % 65536 } })) :=
  by
  refine ⟨(State.reset.modTrunk 3 (fun k => { k with tstate := .step106 })), _, 0, 3, (wFrame 3 [2]), 512, (padTo 100 [2]), _, rfl, ?_, ?_, ?_, ?_, rfl⟩ <;> decide +kernel
theorem w_TrunkTrainingResults_14 : ∃ (s u : State) (t : Nat) (q : ℕ) (frame : List Byte) (lane : ℕ) (c : List Byte), u = s.tick t ∧ (frameContent 4 frame = some (lane, c)) ∧ (((u.trunk q).tstate = .negotiate ∨ (u.trunk q).tstate = .step106 ∨ (u.trunk q).tstate = .step212)) ∧ (beField c 1 1 = 1) :=
  by
  refine ⟨(State.reset.modTrunk 3 (fun k => { k with tstate := .step106 })), _, 0, 3, (wFrame 4 [2, 1]), ((0 : Nat)), (padTo 100 [2, 1]), rfl, ?_, ?_, ?_⟩ <;> decide +kernel
theorem w_TrunkTrainingResults_15 : ∃ (s u : State) (t : Nat) (q : ℕ) (frame : List Byte) (lane : ℕ) (c : List Byte), u = s.tick t ∧ (frameContent 4 frame = some (lane, c)) ∧ (((u.trunk q).tstate = .negotiate ∨ (u.trunk q).tstate = .step106 ∨ (u.trunk q).tstate = .step212)) ∧ (beField c 1 1 = 2) ∧ (beField c 2 3 = 0) ∧ (beField c 0 0 = u.stepTarget q) :=
  by
  refine ⟨(State.reset.modTrunk 3 (fun k => { k with tstate := .step106, train := { k.train with farCaps := some { wCaps with rateCeiling := 2 } } })), _, 0, 3, (wFrame 4 [2, 2, 0, 0]), ((0 : Nat)), (padTo 100 [2, 2, 0, 0]), rfl, ?_, ?_, ?_, ?_, ?_⟩ <;> decide +kernel
theorem w_TrunkTrainingResults_16 : ∃ (s u : State) (t : Nat) (q : ℕ) (frame : List Byte) (lane : ℕ) (c : List Byte), u = s.tick t ∧ (frameContent 5 frame = some (lane, c)) ∧ (((u.trunk q).tstate = .step106 ∨ (u.trunk q).tstate = .step212)) ∧ ((eqOf c).lane < 4) ∧ ((eqOf c).kind = 1) ∧ ((eqOf c).preset < 8) :=
  by
  refine ⟨(State.reset.modTrunk 3 (fun k => { k with tstate := .step106 })), _, 0, 3, (wFrame 5 [3, 1, 7]), ((0 : Nat)), (padTo 100 [3, 1, 7]), rfl, ?_, ?_, ?_, ?_, ?_⟩ <;> decide +kernel
theorem w_TrunkTrainingResults_17 : ∃ (s u : State) (t : Nat) (q : ℕ) (frame : List Byte) (lane : ℕ) (c : List Byte), u = s.tick t ∧ (frameContent 5 frame = some (lane, c)) ∧ (((u.trunk q).tstate = .step106 ∨ (u.trunk q).tstate = .step212)) ∧ ((eqOf c).lane < 4) ∧ ((eqOf c).kind = 2) ∧ (coeffLegal (eqOf c).coeff = true) :=
  by
  refine ⟨(State.reset.modTrunk 3 (fun k => { k with tstate := .step106 })), _, 0, 3, (wFrame 5 [3, 2, 0, 0, 0, 0, 64, 0]), ((0 : Nat)), (padTo 100 [3, 2, 0, 0, 0, 0, 64, 0]), rfl, ?_, ?_, ?_, ?_, ?_⟩ <;> decide +kernel
theorem w_TrunkTrainingResults_18 : ∃ (s u : State) (t : Nat) (q : ℕ) (frame : List Byte) (lane : ℕ) (c : List Byte), u = s.tick t ∧ (frameContent 5 frame = some (lane, c)) ∧ (((u.trunk q).tstate = .step106 ∨ (u.trunk q).tstate = .step212)) ∧ ((eqOf c).lane < 4) ∧ (((eqOf c).kind = 1 ∧ 8 ≤ (eqOf c).preset) ∨ ((eqOf c).kind = 2 ∧ coeffLegal (eqOf c).coeff = false)) :=
  by
  refine ⟨(State.reset.modTrunk 3 (fun k => { k with tstate := .step212 })), _, 0, 3, (wFrame 5 [3, 2, 0, 0, 0, 0, 65, 0]), ((0 : Nat)), (padTo 100 [3, 2, 0, 0, 0, 0, 65, 0]), rfl, ?_, ?_, ?_, ?_⟩ <;> decide +kernel
theorem w_TrunkTrainingResults_19 : ∃ (s u : State) (t : Nat) (q : ℕ) (frame : List Byte) (lane : ℕ) (c : List Byte) (r : ℕ × ℕ × ℕ), u = s.tick t ∧ (frameContent 5 frame = some (lane, c)) ∧ (((u.trunk q).tstate = .step106 ∨ (u.trunk q).tstate = .step212)) ∧ ((eqOf c).lane < 4) ∧ ((eqOf c).kind = 3) ∧ ((u.trunk q).train.eqReq.find? (fun r => r.1 = (eqOf c).lane && r.2.1 = (eqOf c).reqNo) = some r) :=
  by
  refine ⟨(State.reset.modTrunk 3 (fun k => { k with tstate := .step212, train := { k.train with eqReq := [(3, 9, 5)] } })), _, 0, 3, (wFrame 5 [3, 3, 0, 0, 0, 0, 0, 0, 0, 9]), ((0 : Nat)), (padTo 100 [3, 3, 0, 0, 0, 0, 0, 0, 0, 9]), ((3, 9, 5)), rfl, ?_, ?_, ?_, ?_, ?_⟩ <;> decide +kernel
theorem w_TrunkTrainingResults_20 : ∃ (s u : State) (t : Nat) (q : ℕ) (frame : List Byte) (lane : ℕ) (c : List Byte) (r : ℕ × ℕ × ℕ), u = s.tick t ∧ (frameContent 5 frame = some (lane, c)) ∧ (((u.trunk q).tstate = .step106 ∨ (u.trunk q).tstate = .step212)) ∧ ((eqOf c).lane < 4) ∧ ((eqOf c).kind = 4) ∧ ((u.trunk q).train.eqReq.find? (fun r => r.1 = (eqOf c).lane && r.2.1 = (eqOf c).reqNo) = some r) :=
  by
  refine ⟨(State.reset.modTrunk 3 (fun k => { k with tstate := .step212, train := { k.train with eqReq := [(3, 9, 5)] } })), _, 0, 3, (wFrame 5 [3, 4, 0, 0, 0, 0, 0, 0, 0, 9]), ((0 : Nat)), (padTo 100 [3, 4, 0, 0, 0, 0, 0, 0, 0, 9]), ((3, 9, 5)), rfl, ?_, ?_, ?_, ?_, ?_⟩ <;> decide +kernel
theorem w_TrunkTrainingResults_21 : ∃ (s u : State) (t : Nat) (q : ℕ) (frame : List Byte) (lane : ℕ) (c : List Byte), u = s.tick t ∧ (frameContent 5 frame = some (lane, c)) ∧ (((u.trunk q).tstate = .step106 ∨ (u.trunk q).tstate = .step212)) ∧ ((eqOf c).lane < 4) ∧ ((eqOf c).kind = 5) :=
  by
  refine ⟨(State.reset.modTrunk 3 (fun k => { k with tstate := .step212 })), _, 0, 3, (wFrame 5 [3, 5]), ((0 : Nat)), (padTo 100 [3, 5]), rfl, ?_, ?_, ?_, ?_⟩ <;> decide +kernel
theorem w_TrunkTrainingResults_22 : ∃ (s u : State) (t : Nat) (q : ℕ) (frame : List Byte) (lane : ℕ) (c : List Byte) (v : Machine.State), u = s.tick t ∧ (frameContent 6 frame = some (lane, c)) ∧ ((u.trunk q).tstate = .negotiate) ∧ (v = u.modTrain q (fun x => { x with lastHold := some u.now, farCaps := none, farRaw := [], keyex := [], keyexOk := false, readySent := false, farTarget := 0, countSent := false, countSeen := false })) :=
  by
  refine ⟨(State.reset.modTrunk 3 (fun k => { k with tstate := .negotiate })), _, 0, 3, (wFrame 6 [1]), ((0 : Nat)), (padTo 100 [1]), _, rfl, ?_, ?_, rfl⟩ <;> decide +kernel
theorem w_TrunkTrainingResults_23 : ∃ (s u : State) (t : Nat) (q : ℕ) (t0 : ℕ), u = s.tick t ∧ ((u.trunk q).train.lastHold = some t0) ∧ ((u.trunk q).tstate = .negotiate) ∧ (u.after t0 2000000 = true) :=
  by
  refine ⟨(State.reset.modTrunk 3 (fun k => { k with tstate := .negotiate, train := { k.train with lastHold := some 0 } })), _, 2000000, 3, 0, rfl, ?_, ?_, ?_⟩ <;> decide +kernel
theorem w_TrunkTrainingResults_24 : ∃ (s u : State) (t : Nat) (q : ℕ), u = s.tick t ∧ ((u.trunk q).tstate = .held) ∧ (u.holdCause q = 0) :=
  by
  refine ⟨((State.reset.set Key.CROWN_ID 5).modTrunk 3 (fun k => { k with tstate := .held })), _, 0, 3, rfl, ?_, ?_⟩ <;> decide +kernel
theorem w_TrunkTrainingResults_25 : ∃ (s u : State) (t : Nat) (q : ℕ), u = s.tick t ∧ ((u.trunk q).tstate = .held) ∧ (u.holdCause q ≠ 0) :=
  by
  refine ⟨(State.reset.modTrunk 3 (fun k => { k with tstate := .held })), _, 0, 3, rfl, ?_, ?_⟩ <;> decide +kernel
theorem w_TrunkTrainingResults_26 : ∃ (s u : State) (t : Nat) (q : ℕ), u = s.tick t ∧ ((u.trunk q).tstate = .align) ∧ (u.after (u.trunk q).train.since 10000000 = true) :=
  by
  refine ⟨(State.reset.modTrunk 3 (fun k => { k with tstate := .align })), _, 10000000, 3, rfl, ?_, ?_⟩ <;> decide +kernel
theorem w_TrunkTrainingResults_27 : ∃ (s u : State) (t : Nat) (q : ℕ), u = s.tick t ∧ ((u.trunk q).tstate = .negotiate) ∧ (u.after (u.trunk q).train.since 50000000 = true) ∧ ((u.trunk q).train.lastHold = none) :=
  by
  refine ⟨(State.reset.modTrunk 3 (fun k => { k with tstate := .negotiate })), _, 50000000, 3, rfl, ?_, ?_, ?_⟩ <;> decide +kernel
theorem w_TrunkTrainingResults_28 : ∃ (s u : State) (t : Nat) (q : ℕ), u = s.tick t ∧ ((u.trunk q).tstate = .linkInit) ∧ (u.after (u.trunk q).train.since 1000000 = true) :=
  by
  refine ⟨(State.reset.modTrunk 3 (fun k => { k with tstate := .linkInit })), _, 1000000, 3, rfl, ?_, ?_⟩ <;> decide +kernel
theorem w_TrunkTrainingResults_29 : ∃ (s u : State) (t : Nat) (q : ℕ) (lim : ℕ), u = s.tick t ∧ (trainLimit (u.trunk q).tstate = some lim) ∧ (u.after (u.trunk q).train.since lim = false) :=
  by
  refine ⟨(State.reset.modTrunk 3 (fun k => { k with tstate := .align })), _, 9999999, 3, 10000000, rfl, ?_, ?_⟩ <;> decide +kernel
theorem w_TrunkTrainingResults_30 : ∃ (s u : State) (t : Nat) (q : ℕ), u = s.tick t ∧ (((u.trunk q).tstate = .step106 ∨ (u.trunk q).tstate = .step212)) ∧ (u.after (u.trunk q).train.since 20000000 = true) ∧ ((u.trunk q).train.retried = false) :=
  by
  refine ⟨(State.reset.modTrunk 3 (fun k => { k with tstate := .step212 })), _, 20000000, 3, rfl, ?_, ?_, ?_⟩ <;> decide +kernel
theorem w_TrunkTrainingResults_31 : ∃ (s u : State) (t : Nat) (q : ℕ), u = s.tick t ∧ (((u.trunk q).tstate = .step106 ∨ (u.trunk q).tstate = .step212)) ∧ (u.after (u.trunk q).train.since 20000000 = true) ∧ ((u.trunk q).train.retried = true) ∧ ((u.trunk q).train.settled = none) :=
  by
  refine ⟨(State.reset.modTrunk 3 (fun k => { k with tstate := .step212, train := { k.train with retried := true } })), _, 20000000, 3, rfl, ?_, ?_, ?_, ?_⟩ <;> decide +kernel
theorem w_TrunkTrainingResults_32 : ∃ (s u : State) (t : Nat) (q : ℕ), u = s.tick t ∧ (((u.trunk q).tstate = .step106 ∨ (u.trunk q).tstate = .step212)) ∧ (u.after (u.trunk q).train.since 20000000 = true) ∧ ((u.trunk q).train.retried = true) ∧ ((u.trunk q).train.settled.isSome = true) :=
  by
  refine ⟨(State.reset.modTrunk 3 (fun k => { k with tstate := .step106, train := { k.train with retried := true, settled := some 1 } })), _, 20000000, 3, rfl, ?_, ?_, ?_, ?_⟩ <;> decide +kernel
theorem w_TrunkEpochAndFlowUnits_1 : ∃ (s u : State) (t : Nat) (q : ℕ) (rxLast : Seq16) (v : Machine.State), u = s.tick t ∧ ((u.trunk q).tstate = .linkInit) ∧ ((u.trunk q).tx.handedOver = false) ∧ (v = u.releaseTo q rxLast) :=
  by
  refine ⟨(State.reset.modTrunk 3 (fun k => { k with tstate := .linkInit })), _, 0, 3, 7, _, rfl, ?_, ?_, rfl⟩ <;> decide +kernel
theorem w_TrunkEpochAndFlowUnits_2 : ∃ (s u : State) (t : Nat) (q : ℕ), u = s.tick t ∧ ((u.trunk q).tstate = .linkInit) ∧ ((u.trunk q).tx.handedOver = true) :=
  by
  refine ⟨(State.reset.modTrunk 3 (fun k => { k with tstate := .linkInit, tx := { k.tx with handedOver := true } })), _, 0, 3, rfl, ?_, ?_⟩ <;> decide +kernel
theorem w_TrunkEpochAndFlowUnits_3 : ∃ (s u : State) (t : Nat) (q : ℕ), u = s.tick t ∧ (q < u.trunks.length) :=
  ⟨(State.reset), _, 0, 3, rfl, by decide +kernel⟩
theorem w_TrunkEpochAndFlowUnits_4 : ∃ (s u : State) (t : Nat) (q : ℕ), u = s.tick t ∧ (u.trunkUp q = false) :=
  ⟨(State.reset), _, 0, 3, rfl, by decide +kernel⟩
theorem w_TrunkEpochAndFlowUnits_5 : ∃ (s u : State) (t : Nat) (q : ℕ) (errs : ℕ) (v : Machine.State), u = s.tick t ∧ (q < 16) ∧ (u.trunkUp q = true) ∧ (v = (u.adaptTaps q).takeCodeword q errs) ∧ (8 ≤ (v.trunk q).lineRx.badRun) :=
  by
  refine ⟨(State.reset.modTrunk 3 (fun k => { k with tstate := .l0, lineRx := { k.lineRx with badRun := 7 } })), _, 0, 3, 16, _, rfl, ?_, ?_, rfl, ?_⟩ <;> decide +kernel
theorem w_TrunkEpochAndFlowUnits_6 : ∃ (s u : State) (t : Nat) (q : ℕ) (fu : Fu) (errs : ℕ) (v : Machine.State), u = s.tick t ∧ (q < 16) ∧ (u.trunkUp q = true) ∧ (v = (u.adaptTaps q).takeCodeword q errs) ∧ ((v.trunk q).lineRx.badRun < 8) ∧ ((u.trunk q).lineRx.fails errs = true) ∧ (fu.hdr.type = 0) :=
  by
  refine ⟨(State.reset.modTrunk 3 (fun k => { k with tstate := .l0 })), _, 0, 3, wFu, 16, _, rfl, ?_, ?_, rfl, ?_, ?_, ?_⟩ <;> decide +kernel
theorem w_TrunkEpochAndFlowUnits_7 : ∃ (s u : State) (t : Nat) (q : ℕ) (fu : Fu) (errs : ℕ) (v : Machine.State), u = s.tick t ∧ (q < 16) ∧ (u.trunkUp q = true) ∧ (v = (u.adaptTaps q).takeCodeword q errs) ∧ ((v.trunk q).lineRx.badRun < 8) ∧ ((u.trunk q).lineRx.fails errs = false) ∧ ((fu.hdr.type = 0 ∨ v.injectItem [4] 0 (gOfTrunk q) = (v, none))) ∧ (fu.check = fuCheck (v.trunk q).rx.expect fu) :=
  by
  refine ⟨(State.reset.modTrunk 3 (fun k => { k with tstate := .l0 })), _, 0, 3, ({ wFu with check := fuCheck 0 wFu }), 0, _, rfl, ?_, ?_, rfl, ?_, ?_, .inl rfl, ?_⟩ <;> decide +kernel
theorem w_TrunkEpochAndFlowUnits_8 : ∃ (s u : State) (t : Nat) (q : ℕ) (fu : Fu) (errs : ℕ) (v : Machine.State) (seq : Seq16), u = s.tick t ∧ (q < 16) ∧ (u.trunkUp q = true) ∧ (v = (u.adaptTaps q).takeCodeword q errs) ∧ ((v.trunk q).lineRx.badRun < 8) ∧ ((u.trunk q).lineRx.fails errs = false) ∧ ((fu.hdr.type = 0 ∨ v.injectItem [4] 0 (gOfTrunk q) = (v, none))) ∧ (fu.check ≠ fuCheck (v.trunk q).rx.expect fu) ∧ (dupSeq (v.trunk q).rx.expect fu = some seq) :=
  by
  refine ⟨(State.reset.modTrunk 3 (fun k => { k with tstate := .l0 })), _, 0, 3, ({ wFu with check := fuCheck 0xFFFF wFu }), 0, _, 0xFFFF, rfl, ?_, ?_, rfl, ?_, ?_, .inl rfl, ?_, ?_⟩ <;> decide +kernel
theorem w_TrunkEpochAndFlowUnits_9 : ∃ (s u : State) (t : Nat) (q : ℕ) (fu : Fu) (errs : ℕ) (v : Machine.State), u = s.tick t ∧ (q < 16) ∧ (u.trunkUp q = true) ∧ (v = (u.adaptTaps q).takeCodeword q errs) ∧ ((v.trunk q).lineRx.badRun < 8) ∧ ((u.trunk q).lineRx.fails errs = false) ∧ ((fu.hdr.type = 0 ∨ v.injectItem [4] 0 (gOfTrunk q) = (v, none))) ∧ (fu.check ≠ fuCheck (v.trunk q).rx.expect fu) ∧ (dupSeq (v.trunk q).rx.expect fu = none) :=
  by
  obtain ⟨c, hc, hd⟩ := fresh_check 0 wFu
  exact ⟨State.reset.modTrunk 3 (fun k => { k with tstate := .l0, rx := { k.rx with nakPending := true, expect := 0 } }), _, 0, 3, { wFu with check := c }, 0, _, rfl,
    by decide, by decide +kernel, rfl, by decide +kernel, by decide +kernel, .inl rfl, hc, hd⟩
theorem w_TrunkEpochAndFlowUnits_10 : ∃ (s u : State) (t : Nat) (q : ℕ), u = s.tick t ∧ ((u.trunk q).rx.nakPending = true) :=
  ⟨(State.reset.modTrunk 3 (fun k => { k with tstate := .l0, rx := { k.rx with nakPending := true } })), _, 0, 3, rfl, by decide +kernel⟩
theorem w_TrunkEpochAndFlowUnits_11 : ∃ (s u : State) (t : Nat) (q : ℕ), u = s.tick t ∧ ((u.trunk q).rx.nakPending = false) :=
  ⟨(State.reset.modTrunk 3 (fun k => { k with tstate := .l0 })), _, 0, 3, rfl, by decide +kernel⟩
theorem w_TrunkEpochAndFlowUnits_12 : ∃ (s u : State) (t : Nat) (q : ℕ), u = s.tick t ∧ (u.trunkUp q = true) ∧ ((u.trunk q).rx.nakPending = true) ∧ (u.after (u.trunk q).rx.nakSince (u.nakRepeatNs q) = true) :=
  by
  refine ⟨(State.reset.modTrunk 3 (fun k => { k with tstate := .l0, rx := { k.rx with nakPending := true } })), _, 1000, 3, rfl, ?_, ?_, ?_⟩ <;> decide +kernel
theorem w_TrunkEpochAndFlowUnits_13 : ∃ (s u : State) (t : Nat) (q : ℕ), u = s.tick t ∧ (u.trunkUp q = true) ∧ ((u.trunk q).tx.nextTx ≠ (u.trunk q).tx.oldest) ∧ (u.after (u.trunk q).tx.lastAdvance (2 * u.nakRepeatNs q) = true) :=
  by
  refine ⟨(State.reset.modTrunk 3 (fun k => { k with tstate := .l0, tx := { k.tx with nextTx := 1 } })), _, 2000, 3, rfl, ?_, ?_, ?_⟩ <;> decide +kernel
theorem w_TrunkEpochAndFlowUnits_14 : ∃ (s u : State) (t : Nat) (q : ℕ), u = s.tick t ∧ (u.trunkUp q = true) :=
  ⟨(State.reset.modTrunk 3 (fun k => { k with tstate := .l0 })), _, 0, 3, rfl, by decide +kernel⟩
theorem w_TrunkEpochAndFlowUnits_15 : ∃ (q : ℕ), (q < 16) :=
  ⟨15, by decide +kernel⟩
theorem w_TrunkEpochAndFlowUnits_17 : ∃ (s u : State) (t : Nat) (q : ℕ) (cls : ℕ), u = s.tick t ∧ (q < 16) ∧ (cls < 8) ∧ ((u.trunk q).rx.freeable cls false ≠ 0) :=
  by
  refine ⟨(State.reset.modTrunk 3 (fun k => { k with rx := { k.rx with freeRsv := List.replicate 8 63 } })), _, 0, 3, 7, rfl, ?_, ?_, ?_⟩ <;> decide +kernel
theorem w_TrunkEpochAndFlowUnits_18 : ∃ (s u : State) (t : Nat) (q : ℕ) (cls : ℕ), u = s.tick t ∧ (q < 16) ∧ (cls < 8) ∧ ((u.trunk q).rx.freeable cls true ≠ 0) :=
  by
  refine ⟨(State.reset.modTrunk 3 (fun k => { k with rx := { k.rx with freeShared := 3583 } })), _, 0, 3, 0, rfl, ?_, ?_, ?_⟩ <;> decide +kernel
theorem w_TrunkEpochAndFlowUnits_19 : ∃ (q : ℕ), (q < 16) :=
  ⟨15, by decide +kernel⟩
theorem w_TrunkEpochAndFlowUnits_20 : ∃ (g : ℕ), (isT g = false) :=
  ⟨0, by decide +kernel⟩
theorem w_TrunkKeysAndFate_1 : ∃ (s u : State) (t : Nat) (q : ℕ), u = s.tick t ∧ (u.trunkUp q = true) ∧ ((u.trunk q).crypt = true) ∧ (2 ^ 28 - 2 ^ 16 ≤ (u.trunk q).tx.txCount) ∧ ((u.trunk q).tx.offerOut = none) ∧ ((u.trunk q).tx.newKey = none) :=
  by
  refine ⟨(State.reset.modTrunk 3 (fun k => { k with tstate := .l0, crypt := true, tx := { k.tx with txCount := 268369920 } })), _, 0, 3, rfl, ?_, ?_, ?_, ?_, ?_⟩ <;> decide +kernel
theorem w_TrunkKeysAndFate_2 : ∃ (s u : State) (t : Nat) (q : ℕ), u = s.tick t ∧ (u.trunkUp q = true) ∧ ((u.trunk q).crypt = true) :=
  by
  refine ⟨(State.reset.modTrunk 3 (fun k => { k with tstate := .l0, crypt := true })), _, 0, 3, rfl, ?_, ?_⟩ <;> decide +kernel
theorem w_TrunkKeysAndFate_3 : ∃ (s u : State) (t : Nat) (q : ℕ) (epoch : ℕ), u = s.tick t ∧ (u.trunkUp q = true) ∧ ((u.trunk q).crypt = true) ∧ (epoch ≠ ((u.trunk q).rx.keyEpoch + 1).toNat) :=
  by
  refine ⟨(State.reset.modTrunk 3 (fun k => { k with tstate := .l0, crypt := true })), _, 0, 3, 7, rfl, ?_, ?_, ?_⟩ <;> decide +kernel
theorem w_TrunkKeysAndFate_4 : ∃ (s u : State) (t : Nat) (q : ℕ) (epoch : ℕ) (priv : ℕ), u = s.tick t ∧ (u.trunkUp q = true) ∧ ((u.trunk q).crypt = true) ∧ ((u.trunk q).tx.offerOut = some (epoch, priv)) :=
  by
  refine ⟨(State.reset.modTrunk 3 (fun k => { k with tstate := .l0, crypt := true, tx := { k.tx with offerOut := some (1, 9) } })), _, 0, 3, 1, 9, rfl, ?_, ?_, ?_⟩ <;> decide +kernel
theorem w_TrunkKeysAndFate_5 : ∃ (s u : State) (t : Nat) (q : ℕ), u = s.tick t ∧ (u.trunkUp q = true) ∧ ((u.trunk q).crypt = true) ∧ ((u.trunk q).tx.offerOut = none) :=
  by
  refine ⟨(State.reset.modTrunk 3 (fun k => { k with tstate := .l0, crypt := true })), _, 0, 3, rfl, ?_, ?_, ?_⟩ <;> decide +kernel
theorem w_TrunkKeysAndFate_6 : ∃ (s u : State) (t : Nat) (q : ℕ) (key : ℕ), u = s.tick t ∧ (u.trunkUp q = true) ∧ ((u.trunk q).crypt = true) ∧ (2 ^ 28 ≤ (u.trunk q).tx.txCount) ∧ ((u.trunk q).tx.newKey = some key) :=
  by
  refine ⟨(State.reset.modTrunk 3 (fun k => { k with tstate := .l0, crypt := true, tx := { k.tx with txCount := 268435456, newKey := some 4 } })), _, 0, 3, 4, rfl, ?_, ?_, ?_, ?_⟩ <;> decide +kernel
theorem w_TrunkKeysAndFate_7 : ∃ (s u : State) (t : Nat) (q : ℕ), u = s.tick t ∧ (u.trunkUp q = true) ∧ ((u.trunk q).crypt = true) ∧ (2 ^ 28 ≤ (u.trunk q).tx.txCount) ∧ ((u.trunk q).tx.newKey = none) :=
  by
  refine ⟨(State.reset.modTrunk 3 (fun k => { k with tstate := .l0, crypt := true, tx := { k.tx with txCount := 268435456 } })), _, 0, 3, rfl, ?_, ?_, ?_, ?_⟩ <;> decide +kernel
theorem w_TrunkKeysAndFate_8 : ∃ (s u : State) (t : Nat) (x : ℕ) (trunk : ℕ) (far : ℕ), u = s.tick t ∧ (trunk < 16) ∧ ((u.trunk trunk).peer = some (x, far)) :=
  by
  refine ⟨(State.reset.modTrunk 3 (fun k => { k with peer := some (9, 1) })), _, 0, 9, 3, 1, rfl, ?_, ?_⟩ <;> decide +kernel
theorem w_TrunkKeysAndFate_9 : ∃ (s u : State) (t : Nat) (trunk : ℕ), u = s.tick t ∧ ((u.trunk trunk).peer = none) :=
  ⟨(State.reset), _, 0, 3, rfl, by decide +kernel⟩
theorem w_TrunkKeysAndFate_10 : ∃ (s u : State) (t : Nat) (trunk : ℕ), u = s.tick t ∧ (u.trunkUp trunk = true) ∧ ((u.trunk trunk).rx.queries.any (fun e => u.after e.2.2.2 10000) = true) :=
  by
  refine ⟨(State.reset.modTrunk 3 (fun k => { k with tstate := .l0, rx := { k.rx with queries := [(2, 9, 1, 0)] } })), _, 10000, 3, rfl, ?_, ?_⟩ <;> decide +kernel
theorem w_TrunkKeysAndFate_11 : ∃ (s u : State) (t : Nat) (trunk : ℕ), u = s.tick t ∧ (u.trunkUp trunk = false) :=
  ⟨(State.reset), _, 10000, 3, rfl, by decide +kernel⟩
theorem w_TrunkKeysAndFate_12 : ∃ (s u : State) (t : Nat) (q : ℕ), u = s.tick t ∧ (u.trunkUp q = false) ∧ ((u.trunk q).tx.frozen = true) ∧ (u.after (u.trunk q).tx.fateSent 16000 = true) ∧ (u.now < (u.trunk q).tx.lostAt + 1000000000) :=
  by
  refine ⟨(State.reset.modTrunk 3 (fun k => { k with tx := { k.tx with frozen := true } })), _, 16000, 3, rfl, ?_, ?_, ?_, ?_⟩ <;> decide +kernel
theorem w_TrunkKeysAndFate_13 : ∃ (s u : State) (t : Nat) (trunk : ℕ) (x : ℕ) (no : Seq16) (q : ℕ), u = s.tick t ∧ ((List.range 16).find? (fun q => (u.trunk q).peer == some (x, trunk) && (u.trunk q).tx.frozen && !u.trunkUp q) = some q) ∧ ((u.trunk q).tx.fateNo = no) :=
  by
  refine ⟨(State.reset.modTrunk 3 (fun k => { k with peer := some (9, 1), tx := { k.tx with frozen := true, fateNo := 4 } })), _, 0, 1, 9, 4, 3, rfl, ?_, ?_⟩ <;> decide +kernel
theorem w_TrunkKeysAndFate_14 : ∃ (s u : State) (t : Nat) (trunk : ℕ) (x : ℕ) (no : Seq16) (q : ℕ), u = s.tick t ∧ ((List.range 16).find? (fun q => (u.trunk q).peer == some (x, trunk) && (u.trunk q).tx.frozen && !u.trunkUp q) = some q) ∧ ((u.trunk q).tx.fateNo ≠ no) :=
  by
  refine ⟨(State.reset.modTrunk 3 (fun k => { k with peer := some (9, 1), tx := { k.tx with frozen := true, fateNo := 4 } })), _, 0, 1, 9, 5, 3, rfl, ?_, ?_⟩ <;> decide +kernel
theorem w_TrunkKeysAndFate_15 : ∃ (s u : State) (t : Nat) (q : ℕ), u = s.tick t ∧ (q < 16) ∧ (u.trunkUp q = false) ∧ (u.after (u.trunk q).tx.lostAt 1000000000 = true) :=
  by
  refine ⟨(State.reset), _, 1000000000, 15, rfl, ?_, ?_, ?_⟩ <;> decide +kernel
theorem w_SwitchCoreResults_1 : ∃ (s u : State) (t : Nat) (g : ℕ) (x : Tlp) (i : Machine.State × Option ℕ) (v : Machine.State) (w : Machine.State), u = s.tick t ∧ (g < 160) ∧ (isT g = false) ∧ (u.twigOffline g = false) ∧ ((u.hport (portOfG (u.portLowG g))).up = true) ∧ (u.fcCovers (portOfG (u.portLowG g)) x = true) ∧ (i = u.injectItem [5] 0 g) ∧ (v = (if i.2.isSome then i.1.countTwig (u.portLowG g) 0x106 1 else i.1)) ∧ (w = (v.fcTake (portOfG (u.portLowG g)) x).modHPort (portOfG (u.portLowG g)) (fun h => { h with order := h.order + 1, lastTlp := v.now })) :=
  by
  refine ⟨(State.reset.modHPort 7 (fun h => { h with lstate := .l0, fcFreed := [(64, 64), (64, 64), (64, 64)] })), _, 0, 7, wTlp, _, _, _, rfl, ?_, ?_, ?_, ?_, ?_, rfl, rfl, rfl⟩ <;> decide +kernel
theorem w_SwitchCoreResults_2 : ∃ (s u : State) (t : Nat) (g : ℕ) (x : Tlp), u = s.tick t ∧ (g < 160) ∧ (isT g = false) ∧ (u.twigOffline g = false) ∧ ((u.hport (portOfG (u.portLowG g))).up = true) ∧ (u.fcCovers (portOfG (u.portLowG g)) x = false) :=
  by
  refine ⟨(State.reset.modHPort 7 (fun h => { h with lstate := .l0, fcRcvd := [(100000, 100000), (100000, 100000), (100000, 100000)] })), _, 0, 7, ({ wTlp with data := List.replicate 4096 0 }), rfl, ?_, ?_, ?_, ?_, ?_⟩ <;> decide +kernel
theorem w_SwitchCoreResults_3 : ∃ (s u : State) (t : Nat) (g : ℕ), u = s.tick t ∧ ((160 ≤ g ∨ isT g = true ∨ u.twigOffline g = true ∨ (u.hport (portOfG (u.portLowG g))).up = false)) :=
  ⟨(State.reset), _, 0, 7, rfl, by decide +kernel⟩
theorem w_SwitchCoreResults_4 : ∃ (s u : State) (t : Nat) (n : ℕ) (d : Desc), u = s.tick t ∧ (u.core.queues.find? (fun d => d.id == n && d.cut && decide (d.arrived < d.len)) = some d) :=
  ⟨(State.reset.modCore (fun c => { c with queues := [{ wDesc with len := 512, cut := true, arrived := 64 }] })), _, 0, 0, ({ wDesc with len := 512, cut := true, arrived := 64 }), rfl, by decide +kernel⟩
theorem w_SwitchCoreResults_5 : ∃ (s u : State) (t : Nat) (n : ℕ) (d : Desc), u = s.tick t ∧ (u.core.queues.find? (fun d => d.id == n && d.cut && decide (d.arrived < d.len)) = some d) :=
  ⟨(State.reset.modCore (fun c => { c with queues := [{ wDesc with len := 512, cut := true, arrived := 64 }] })), _, 0, 0, ({ wDesc with len := 512, cut := true, arrived := 64 }), rfl, by decide +kernel⟩
theorem w_SwitchCoreResults_6 : ∃ (s u : State) (t : Nat) (n : ℕ), u = s.tick t ∧ (u.core.queues.find? (fun d => d.id == n && d.cut && decide (d.arrived < d.len)) = none) :=
  ⟨(State.reset), _, 0, 0, rfl, by decide +kernel⟩
theorem w_SwitchCoreResults_8 : ∃ (l : ℕ), (l < 8) :=
  ⟨7, by decide +kernel⟩
theorem w_SwitchCoreResults_9 : ∃ (l : ℕ), (8 ≤ l) :=
  ⟨8, by decide +kernel⟩
theorem w_SwitchCoreResults_11 : ∃ (s u : State) (t : Nat) (p : ℕ) (tc : ℕ), u = s.tick t ∧ (u.heldClass p tc = true) ∧ (u.oldClassLeft p tc (u.classFor p tc) = false) :=
  by
  refine ⟨(State.reset.modCore (fun c => { c with holds := [{ part := 2, tc := 1, since := 0, raised := false }] })), _, 0, 2, 1, rfl, ?_, ?_⟩ <;> decide +kernel
theorem w_SwitchCoreResults_12 : ∃ (s u : State) (t : Nat) (p : ℕ) (tc : ℕ), u = s.tick t ∧ (u.heldClass p tc = false ∨ u.oldClassLeft p tc (u.classFor p tc) = true) :=
  ⟨(State.reset), _, 0, 2, 0, rfl, by decide +kernel⟩
theorem w_SwitchCoreResults_13 : ∃ (s u : State) (t : Nat) (p : ℕ) (tc : ℕ) (h : ClassHold), u = s.tick t ∧ (u.core.holds.find? (fun h => h.part == p && h.tc == tc) = some h) ∧ (h.raised = false) ∧ (u.after h.since 10000000 = true) :=
  by
  refine ⟨(State.reset.modCore (fun c => { c with holds := [{ part := 2, tc := 0, since := 0, raised := false }] })), _, 10000000, 2, 0, ({ part := 2, tc := 0, since := 0, raised := false }), rfl, ?_, ?_, ?_⟩ <;> decide +kernel
theorem w_SwitchCoreResults_14 : ∃ (s u : State) (t : Nat) (p : ℕ) (tc : ℕ), u = s.tick t ∧ ((∀ h ∈ u.core.holds, h.part = p ∧ h.tc = tc → h.raised = true ∨ u.after h.since 10000000 = false)) :=
  ⟨(State.reset), _, 0, 2, 0, rfl, by decide +kernel⟩
theorem w_SwitchCoreResults_17 : ∃ (s u : State) (t : Nat) (st : ℕ) (w : ℕ) (v : Machine.State), u = s.tick t ∧ (v = (u.modGates (fun x => x.cachePut st w)).modGates (fun x => { x with misses := x.misses.filter (fun m => !(m.stem == st && m.window == w)), heldTlps := x.heldTlps.filter (fun e => !(stemOf e.1 == st)) })) :=
  ⟨(State.reset), _, 0, 0, 5, _, rfl, rfl⟩
theorem w_SwitchCoreResults_18 : ∃ (s u : State) (t : Nat) (st : ℕ) (gate : ℕ) (v : Machine.State), u = s.tick t ∧ (v = u.modGates (fun x => { x with heldGates := eraseAll x.heldGates (st, gate), heldTlps := x.heldTlps.filter (fun e => !(e.1 < 160 && stemOf e.1 == st)) })) :=
  ⟨(State.reset), _, 0, 0, 0, _, rfl, rfl⟩
theorem w_SwitchCoreResults_19 : ∃ (s u : State) (t : Nat) (g : ℕ), u = s.tick t ∧ (g < 160) ∧ (isT g = false) ∧ (u.twigOffline (u.portLowG g) = false) ∧ ((u.hport (portOfG (u.portLowG g))).lstate = .l0) :=
  by
  refine ⟨(State.reset.modHPort 7 (fun h => { h with lstate := .l0 })), _, 0, 7, rfl, ?_, ?_, ?_, ?_⟩ <;> decide +kernel
theorem w_SwitchCoreResults_20 : ∃ (s u : State) (t : Nat) (q : ℕ) (sq : Seq16), u = s.tick t ∧ (q < 16) ∧ (u.trunkUp q = true) ∧ ((u.trunk q).crypt = false) ∧ ((u.trunk q).tx.replayAt = some sq) ∧ (u.slotUse q ≠ .prune) :=
  by
  refine ⟨(State.reset.modTrunk 3 (fun k => { k with tstate := .l0, tx := { k.tx with replayAt := some 5 } })), _, 0, 3, 5, rfl, ?_, ?_, ?_, ?_, ?_⟩ <;> decide +kernel
theorem w_SwitchCoreResults_21 : ∃ (s u : State) (t : Nat) (q : ℕ), u = s.tick t ∧ (q < 16) ∧ (u.trunkUp q = true) ∧ ((u.trunk q).crypt = false) ∧ ((u.trunk q).tx.replayAt = none) ∧ ((u.trunk q).tx.paused = true) :=
  by
  refine ⟨(State.reset.modTrunk 3 (fun k => { k with tstate := .l0, tx := { k.tx with paused := true } })), _, 0, 3, rfl, ?_, ?_, ?_, ?_, ?_⟩ <;> decide +kernel
theorem w_SwitchCoreResults_22 : ∃ (s u : State) (t : Nat) (q : ℕ), u = s.tick t ∧ (q < 16) ∧ (u.trunkUp q = true) ∧ ((u.trunk q).crypt = false) ∧ ((u.trunk q).tx.replayAt = none) ∧ ((u.trunk q).tx.paused = false) ∧ ((u.trunk q).tx.buf.length < 1024) :=
  by
  refine ⟨(State.reset.modTrunk 3 (fun k => { k with tstate := .l0 })), _, 0, 3, rfl, ?_, ?_, ?_, ?_, ?_, ?_⟩ <;> decide +kernel
theorem w_SwitchCoreResults_23 : ∃ (s u : State) (t : Nat) (q : ℕ), u = s.tick t ∧ (q < 16) ∧ (u.trunkUp q = false) :=
  by
  refine ⟨(State.reset), _, 0, 3, rfl, ?_, ?_⟩ <;> decide +kernel
theorem w_SwitchCoreResults_24 : ∃ (s u : State) (t : Nat) (g : ℕ), u = s.tick t ∧ (160 ≤ g) ∧ (g < 164) ∧ (u.awake = true) :=
  by
  refine ⟨(State.reset), _, 0, 163, rfl, ?_, ?_, ?_⟩ <;> decide +kernel
theorem w_SwitchCoreResults_25 : ∃ (g : ℕ), (164 ≤ g) :=
  ⟨164, by decide +kernel⟩
theorem w_PartitionConfiguration_1 : ∃ (s u : State) (t : Nat) (p : ℕ), u = s.tick t ∧ (p < 64) ∧ (u.isHome p = true) ∧ ((u.part p).state = .resetting ∨ (u.part p).state = .held) :=
  by
  refine ⟨(wHome.modPart 2 (fun x => { x with state := .resetting })), _, 0, 2, rfl, ?_, ?_, ?_⟩ <;> decide +kernel
theorem w_PartitionConfiguration_2 : ∃ (s u : State) (t : Nat) (p : ℕ), u = s.tick t ∧ (p < 64) ∧ (u.isHome p = true) ∧ ((u.part p).state ≠ .resetting) ∧ ((u.part p).state ≠ .held) ∧ (u.fabric.bridge = []) :=
  by
  refine ⟨(wHome), _, 0, 2, rfl, ?_, ?_, ?_, ?_, ?_⟩ <;> decide +kernel
theorem w_PartitionConfiguration_3 : ∃ (s u : State) (t : Nat) (p : ℕ), u = s.tick t ∧ (p < 64) ∧ (u.isHome p = true) ∧ ((u.part p).state ≠ .resetting) ∧ ((u.part p).state ≠ .held) ∧ (u.fabric.bridge = []) :=
  by
  refine ⟨(wHome), _, 0, 2, rfl, ?_, ?_, ?_, ?_, ?_⟩ <;> decide +kernel
theorem w_PartitionConfiguration_4 : ∃ (s u : State) (t : Nat) (p : ℕ) (n : ℕ), u = s.tick t ∧ (p < 64) ∧ (u.isHome p = true) ∧ ((u.part p).state ≠ .resetting) ∧ ((u.part p).state ≠ .held) ∧ (u.fabric.bridge = []) ∧ (u.vdpPresent p n = true) :=
  by
  refine ⟨(wHome.set (Key.VDP_BIND + 512) (2 ^ 62 + 5 * 2 ^ 52 + 12 * 2 ^ 44)), _, 0, 2, 0, rfl, ?_, ?_, ?_, ?_, ?_, ?_⟩ <;> decide +kernel
theorem w_PartitionConfiguration_5 : ∃ (s u : State) (t : Nat) (p : ℕ) (n : ℕ), u = s.tick t ∧ (p < 64) ∧ (u.isHome p = true) ∧ ((u.part p).state ≠ .resetting) ∧ ((u.part p).state ≠ .held) ∧ (u.fabric.bridge = []) ∧ (u.vdpPresent p n = true) :=
  by
  refine ⟨(wHome.set (Key.VDP_BIND + 512) (2 ^ 62 + 5 * 2 ^ 52 + 12 * 2 ^ 44)), _, 0, 2, 0, rfl, ?_, ?_, ?_, ?_, ?_, ?_⟩ <;> decide +kernel
theorem w_PartitionConfiguration_6 : ∃ (s u : State) (t : Nat) (p : ℕ) (n : ℕ), u = s.tick t ∧ (p < 64) ∧ (u.isHome p = true) ∧ ((u.part p).state ≠ .resetting) ∧ ((u.part p).state ≠ .held) ∧ (u.fabric.bridge = []) ∧ (u.vdpPresent p n = false) :=
  by
  refine ⟨(wHome), _, 0, 2, 7, rfl, ?_, ?_, ?_, ?_, ?_, ?_⟩ <;> decide +kernel
theorem w_PartitionConfiguration_7 : ∃ (s u : State) (t : Nat) (p : ℕ) (n : ℕ), u = s.tick t ∧ (p < 64) ∧ (u.isHome p = true) ∧ ((u.part p).state ≠ .resetting) ∧ ((u.part p).state ≠ .held) ∧ (u.fabric.bridge = []) ∧ (u.fnReached p n = true) :=
  by
  refine ⟨(wHome), _, 0, 2, 0, rfl, ?_, ?_, ?_, ?_, ?_, ?_⟩ <;> decide +kernel
theorem w_PartitionConfiguration_8 : ∃ (s u : State) (t : Nat) (p : ℕ) (n : ℕ), u = s.tick t ∧ (p < 64) ∧ (u.isHome p = true) ∧ ((u.part p).state ≠ .resetting) ∧ ((u.part p).state ≠ .held) ∧ (u.fabric.bridge = []) ∧ (u.fnReached p n = true) :=
  by
  refine ⟨(wHome), _, 0, 2, 0, rfl, ?_, ?_, ?_, ?_, ?_, ?_⟩ <;> decide +kernel
theorem w_PartitionConfiguration_9 : ∃ (s u : State) (t : Nat) (p : ℕ) (n : ℕ), u = s.tick t ∧ (p < 64) ∧ (u.isHome p = true) ∧ ((u.part p).state ≠ .resetting) ∧ ((u.part p).state ≠ .held) ∧ (u.fabric.bridge = []) ∧ (u.fnReached p n = false) :=
  by
  refine ⟨(wHome), _, 0, 2, 40, rfl, ?_, ?_, ?_, ?_, ?_, ?_⟩ <;> decide +kernel
theorem w_PartitionConfiguration_10 : ∃ (s u : State) (t : Nat) (p : ℕ) (target : CfgTarget), u = s.tick t ∧ (p < 64) ∧ (u.isHome p = true) ∧ ((u.part p).state ≠ .resetting) ∧ ((u.part p).state ≠ .held) ∧ (u.fabric.bridge ≠ []) ∧ ((∀ n m, target ≠ .device n m)) :=
  by
  refine ⟨(wHome.modFabric (fun f => { f with bridge := [wBridge] })), _, 0, 2, .upstream, rfl, ?_, ?_, ?_, ?_, ?_, (by intro _ _ h; cases h)⟩ <;> decide +kernel
theorem w_PartitionConfiguration_11 : ∃ (s u : State) (t : Nat) (p : ℕ) (n : ℕ) (m : ℕ), u = s.tick t ∧ (p < 64) ∧ (u.isHome p = true) ∧ ((u.part p).state ≠ .resetting) ∧ ((u.part p).state ≠ .held) ∧ ((u.part p).state ≠ .contained) ∧ (n ≠ 0xFF) ∧ ((u.bind p n).kind ≠ 0) ∧ ((m < 8 ∨ ((u.part p).vdp n).fld .ariForwarding ≠ 0)) :=
  by
  refine ⟨(wHome.set (Key.VDP_BIND + 512) (2 ^ 62 + 5 * 2 ^ 52 + 12 * 2 ^ 44)), _, 0, 2, 0, 0, rfl, ?_, ?_, ?_, ?_, ?_, ?_, ?_, ?_⟩ <;> decide +kernel
theorem w_PartitionConfiguration_12 : ∃ (s u : State) (t : Nat) (p : ℕ) (n : ℕ) (m : ℕ), u = s.tick t ∧ (p < 64) ∧ (u.isHome p = true) ∧ ((u.part p).state ≠ .resetting) ∧ ((u.part p).state ≠ .held) ∧ ((u.part p).state ≠ .contained) ∧ ((n = 0xFF ∨ (u.bind p n).kind = 0 ∨ (8 ≤ m ∧ ((u.part p).vdp n).fld .ariForwarding = 0))) :=
  by
  refine ⟨(wHome.set (Key.VDP_BIND + 512) (2 ^ 62 + 5 * 2 ^ 52 + 12 * 2 ^ 44)), _, 0, 2, 9, 0, rfl, ?_, ?_, ?_, ?_, ?_, ?_⟩ <;> decide +kernel
theorem w_PartitionConfiguration_13 : ∃ (s u : State) (t : Nat) (p : ℕ), u = s.tick t ∧ (p < 64) ∧ (u.isHome p = true) ∧ ((u.part p).state = .contained) :=
  by
  refine ⟨(wHome.modPart 2 (fun x => { x with state := .contained })), _, 0, 2, rfl, ?_, ?_, ?_⟩ <;> decide +kernel
theorem w_PartitionConfiguration_14 : ∃ (s u : State) (t : Nat) (p : ℕ), u = s.tick t ∧ ((64 ≤ p ∨ u.isHome p = false)) :=
  ⟨(State.reset), _, 0, 2, rfl, by decide +kernel⟩
theorem w_PartitionResets_1 : ∃ (s u : State) (t : Nat) (p : ℕ) (n : ℕ), u = s.tick t ∧ (p < 64) ∧ (u.isHome p = true) ∧ ((u.part p).state ≠ .resetting) ∧ ((u.part p).state ≠ .held) ∧ (u.vdpPresent p n = true) :=
  by
  refine ⟨(wHome.set (Key.VDP_BIND + 512) (2 ^ 62 + 5 * 2 ^ 52 + 12 * 2 ^ 44)), _, 0, 2, 0, rfl, ?_, ?_, ?_, ?_, ?_⟩ <;> decide +kernel
theorem w_PartitionResets_2 : ∃ (s u : State) (t : Nat) (p : ℕ) (n : ℕ), u = s.tick t ∧ (u.vdpPresent p n = false) :=
  ⟨(wHome), _, 0, 2, 7, rfl, by decide +kernel⟩
theorem w_PartitionResets_3 : ∃ (s u : State) (t : Nat) (p : ℕ) (b : Bool) (v : Machine.State), u = s.tick t ∧ (p < 64) ∧ (u.isHome p = true) ∧ ((u.part p).state ≠ .resetting) ∧ ((u.part p).state ≠ .held) ∧ (v = u.modBridge p none (fun x => { x with sbr := b })) :=
  by
  refine ⟨(wHome), _, 0, 2, true, _, rfl, ?_, ?_, ?_, ?_, rfl⟩ <;> decide +kernel
theorem w_PartitionResets_4 : ∃ (s u : State) (t : Nat) (p : ℕ), u = s.tick t ∧ ((64 ≤ p ∨ u.isHome p = false ∨ (u.part p).state = .resetting ∨ (u.part p).state = .held)) :=
  ⟨(wHome.modPart 2 (fun x => { x with state := .held })), _, 0, 2, rfl, by decide +kernel⟩
theorem w_PartitionResets_5 : ∃ (s u : State) (t : Nat) (p : ℕ) (g : ℕ), u = s.tick t ∧ (p < 64) ∧ (u.upTwig p = some g) :=
  by
  refine ⟨(wHome), _, 0, 2, 8, rfl, ?_, ?_⟩ <;> decide +kernel
theorem w_PartitionResets_6 : ∃ (s u : State) (t : Nat) (p : ℕ) (g : ℕ), u = s.tick t ∧ (p < 64) ∧ (u.upTwig p = some g) :=
  by
  refine ⟨(wHome), _, 0, 2, 8, rfl, ?_, ?_⟩ <;> decide +kernel
theorem w_PartitionResets_7 : ∃ (s u : State) (t : Nat) (p : ℕ), u = s.tick t ∧ ((64 ≤ p ∨ u.upTwig p = none)) :=
  ⟨(State.reset), _, 0, 2, rfl, by decide +kernel⟩
theorem w_PartitionResets_8 : ∃ (s u : State) (t : Nat) (p : ℕ), u = s.tick t ∧ (p < 64) ∧ ((u.part p).state = .resetting) ∧ ((u.part p).causeOn = true) :=
  by
  refine ⟨(wHome.modPart 2 (fun x => { x with state := .resetting, causeOn := true })), _, 0, 2, rfl, ?_, ?_, ?_⟩ <;> decide +kernel
theorem w_PartitionResets_9 : ∃ (s u : State) (t : Nat) (p : ℕ), u = s.tick t ∧ (p < 64) ∧ ((u.part p).state = .resetting) ∧ ((u.part p).causeOn = false) :=
  by
  refine ⟨(wHome.modPart 2 (fun x => { x with state := .resetting })), _, 0, 2, rfl, ?_, ?_, ?_⟩ <;> decide +kernel
theorem w_PartitionResets_10 : ∃ (s u : State) (t : Nat) (p : ℕ), u = s.tick t ∧ ((64 ≤ p ∨ (u.part p).state ≠ .resetting)) :=
  ⟨(wHome), _, 0, 2, rfl, by decide +kernel⟩
theorem w_PartitionResets_11 : ∃ (s u : State) (t : Nat) (p : ℕ), u = s.tick t ∧ (p < 64) ∧ ((∀ c, u.homeCrown p = some c → c = u.crownId ∨ u.fenced c = false)) :=
  by
  refine ⟨(wHome), _, 0, 2, rfl, ?_, ?_⟩ <;> decide +kernel
theorem w_PartitionResets_12 : ∃ (s u : State) (t : Nat) (p : ℕ) (c : ℕ), u = s.tick t ∧ (u.homeCrown p = some c) ∧ (c ≠ u.crownId) ∧ (u.fenced c = true) :=
  by
  refine ⟨(((State.reset.set Key.CROWN_ID 5).set (Key.PART_GROVE_ID + 2) 9).set (Key.PART_UPSTREAM + 2) (6 * 65536 + 8) |>.modFabric (fun f => { f with fences := [(6, .notice)] })), _, 0, 2, 6, rfl, ?_, ?_, ?_⟩ <;> decide +kernel
theorem w_PartitionResets_13 : ∃ (s u : State) (t : Nat) (c : ℕ) (gp : ℕ) (p : ℕ), u = s.tick t ∧ (u.fabric.bridge = []) ∧ (u.partOfGp gp = some p) ∧ (c ≠ u.crownId) ∧ (u.homeCrown p = some c) :=
  by
  refine ⟨(((State.reset.set Key.CROWN_ID 5).set (Key.PART_GROVE_ID + 2) 9).set (Key.PART_UPSTREAM + 2) (6 * 65536 + 8)), _, 0, 6, 9, 2, rfl, ?_, ?_, ?_, ?_⟩ <;> decide +kernel
theorem w_PartitionResets_14 : ∃ (s u : State) (t : Nat) (c : ℕ) (gp : ℕ), u = s.tick t ∧ (u.fabric.bridge = []) ∧ ((∀ p, u.partOfGp gp = some p → c = u.crownId ∨ u.homeCrown p ≠ some c)) :=
  by
  refine ⟨(State.reset), _, 0, 6, 9, rfl, ?_, ?_⟩ <;> decide +kernel
theorem w_PartitionResets_15 : ∃ (s u : State) (t : Nat), u = s.tick t ∧ (u.fabric.bridge ≠ []) :=
  ⟨(wHome.modFabric (fun f => { f with bridge := [wBridge] })), _, 0, rfl, by decide +kernel⟩
theorem w_PartitionResets_16 : ∃ (s u : State) (t : Nat) (p : ℕ) (n : ℕ), u = s.tick t ∧ (u.serves p n = true) :=
  ⟨(wHome.set (Key.VDP_BIND + 512) (2 ^ 62 + 5 * 2 ^ 52 + 12 * 2 ^ 44)), _, 0, 2, 0, rfl, by decide +kernel⟩
theorem w_PartitionResets_17 : ∃ (s u : State) (t : Nat) (p : ℕ) (n : ℕ), u = s.tick t ∧ (u.serves p n = true) :=
  ⟨(wHome.set (Key.VDP_BIND + 512) (2 ^ 62 + 5 * 2 ^ 52 + 12 * 2 ^ 44)), _, 0, 2, 0, rfl, by decide +kernel⟩
theorem w_PartitionResets_18 : ∃ (s u : State) (t : Nat) (p : ℕ) (n : ℕ), u = s.tick t ∧ (u.serves p n = false) :=
  ⟨(State.reset), _, 0, 2, 0, rfl, by decide +kernel⟩
theorem w_PartitionResets_19 : ∃ (s u : State) (t : Nat) (p : ℕ) (n : ℕ), u = s.tick t ∧ (u.serves p n = false) :=
  ⟨(State.reset), _, 0, 2, 0, rfl, by decide +kernel⟩
theorem w_PartitionResets_20 : ∃ (s u : State) (t : Nat) (p : ℕ) (n : ℕ), u = s.tick t ∧ (p < 64) ∧ (((u.part p).vdp n).flrRunning = true) :=
  by
  refine ⟨(wHome.modVdp 2 0 (fun b => { b with flrRunning := true })), _, 0, 2, 0, rfl, ?_, ?_⟩ <;> decide +kernel
theorem w_PartitionEventsAndSharedDevices_1 : ∃ (s u : State) (t : Nat) (p : ℕ), u = s.tick t ∧ (p < 64) ∧ (u.isHome p = true) ∧ (((u.part p).fn 0).msixEnable = false) :=
  by
  refine ⟨(wHome), _, 0, 2, rfl, ?_, ?_, ?_⟩ <;> decide +kernel
theorem w_PartitionEventsAndSharedDevices_2 : ∃ (s u : State) (t : Nat) (p : ℕ), u = s.tick t ∧ ((64 ≤ p ∨ u.isHome p = false ∨ ((u.part p).fn 0).msixEnable = true)) :=
  ⟨(State.reset), _, 0, 2, rfl, by decide +kernel⟩
theorem w_PartitionEventsAndSharedDevices_3 : ∃ (s u : State) (t : Nat) (p : ℕ) (n : ℕ), u = s.tick t ∧ (p < 64) ∧ (u.isHome p = true) ∧ (n < 2048) :=
  by
  refine ⟨(wHome), _, 0, 2, 2047, rfl, ?_, ?_, ?_⟩ <;> decide +kernel
theorem w_PartitionEventsAndSharedDevices_4 : ∃ (s u : State) (t : Nat) (gp : ℕ) (p : ℕ), u = s.tick t ∧ (u.partOfGp gp = some p) ∧ (u.isHome p = true) ∧ (u.fabric.bridge = []) :=
  by
  refine ⟨(wHome), _, 0, 9, 2, rfl, ?_, ?_, ?_⟩ <;> decide +kernel
theorem w_PartitionEventsAndSharedDevices_5 : ∃ (s u : State) (t : Nat) (gp : ℕ) (p : ℕ), u = s.tick t ∧ (u.partOfGp gp = some p) ∧ (u.isHome p = true) ∧ (u.fabric.bridge ≠ []) :=
  by
  refine ⟨(wHome.modFabric (fun f => { f with bridge := [wBridge] })), _, 0, 9, 2, rfl, ?_, ?_, ?_⟩ <;> decide +kernel
theorem w_PartitionEventsAndSharedDevices_6 : ∃ (src : ℕ), (0xC40 ≤ src) ∧ (src ≤ 0xFFF) :=
  by
  refine ⟨0xFFF, ?_, ?_⟩ <;> decide +kernel
theorem w_PartitionEventsAndSharedDevices_7 : ∃ (s u : State) (t : Nat) (p : ℕ) (src : ℕ), u = s.tick t ∧ (0xC40 ≤ src) ∧ (src ≤ 0xFFF) ∧ (bitOf (u.get (Key.EVENT_MAP + src)) 31 = true) ∧ (field (u.get (Key.EVENT_MAP + src)) 29 24 = p) :=
  by
  refine ⟨(State.reset.set (Key.EVENT_MAP + 0xC40) 0x82000000), _, 0, 2, 0xC40, rfl, ?_, ?_, ?_, ?_⟩ <;> decide +kernel
theorem w_PartitionEventsAndSharedDevices_8 : ∃ (s u : State) (t : Nat) (who : Role) (src : ℕ), u = s.tick t ∧ ((src < 0xC40 ∨ 0xFFF < src ∨ (who.isInstaller = false ∧ ∀ p, who.operatorOf = some p → bitOf (u.get (Key.EVENT_MAP + src)) 31 = false ∨ field (u.get (Key.EVENT_MAP + src)) 29 24 ≠ p))) :=
  ⟨(State.reset), _, 0, (.operator 2), 0xC40, rfl, by decide +kernel⟩
theorem w_PartitionEventsAndSharedDevices_9 : ∃ (s u : State) (t : Nat) (c : ℕ) (gp : ℕ) (p : ℕ) (n : ℕ), u = s.tick t ∧ (u.fabric.bridge = []) ∧ (u.partOfGp gp = some p) ∧ ((u.isHome p = true ∧ (u.bind p n).crown = c ∨ u.isHome p = false ∧ u.homeCrown p = some c)) ∧ (n < 255) ∧ (c ≠ u.crownId) :=
  by
  refine ⟨(wHome.set (Key.VDP_BIND + 512) (2 ^ 62 + 6 * 2 ^ 52 + 12 * 2 ^ 44)), _, 0, 6, 9, 2, 0, rfl, ?_, ?_, ?_, ?_, ?_⟩ <;> decide +kernel
theorem w_PartitionEventsAndSharedDevices_10 : ∃ (s u : State) (t : Nat) (c : ℕ) (gp : ℕ) (p : ℕ) (n : ℕ), u = s.tick t ∧ (u.fabric.bridge = []) ∧ (u.partOfGp gp = some p) ∧ (u.isHome p = true) ∧ ((u.bind p n).kind ≠ 0) ∧ ((u.bind p n).crown = c) ∧ (c ≠ u.crownId) ∧ (((u.part p).vdp n).live = true) :=
  by
  refine ⟨(wHome.set (Key.VDP_BIND + 512) (2 ^ 62 + 6 * 2 ^ 52 + 12 * 2 ^ 44)), _, 0, 6, 9, 2, 0, rfl, ?_, ?_, ?_, ?_, ?_, ?_, ?_⟩ <;> decide +kernel
theorem w_PartitionEventsAndSharedDevices_11 : ∃ (s u : State) (t : Nat) (c : ℕ) (gp : ℕ) (p : ℕ) (n : ℕ), u = s.tick t ∧ (u.fabric.bridge = []) ∧ (u.partOfGp gp = some p) ∧ (u.isHome p = false) ∧ ((u.bind p n).kind ≠ 0) ∧ ((u.bind p n).crown = u.crownId) ∧ (u.homeCrown p = some c) :=
  by
  refine ⟨((((State.reset.set Key.CROWN_ID 5).set (Key.PART_GROVE_ID + 2) 9).set (Key.PART_UPSTREAM + 2) (6 * 65536 + 8)).set (Key.VDP_BIND + 512) (2 ^ 62 + 5 * 2 ^ 52 + 12 * 2 ^ 44)), _, 0, 6, 9, 2, 0, rfl, ?_, ?_, ?_, ?_, ?_, ?_⟩ <;> decide +kernel
theorem w_PartitionEventsAndSharedDevices_12 : ∃ (g : ℕ), (g < 160) :=
  ⟨159, by decide +kernel⟩
theorem w_PartitionEventsAndSharedDevices_13 : ∃ (s u : State) (t : Nat) (p : ℕ) (g : ℕ), u = s.tick t ∧ (g < 160) ∧ (p ∈ u.holdersOf g) :=
  by
  refine ⟨((wHome.set (Key.SHARED_DEV + 12) 0x80000000).set (Key.VDP_BIND + 512) (2 * 2 ^ 62 + 5 * 2 ^ 52 + 12 * 2 ^ 44)), _, 0, 2, 12, rfl, ?_, ?_⟩ <;> decide +kernel
theorem w_PartitionEventsAndSharedDevices_14 : ∃ (s u : State) (t : Nat) (p : ℕ) (g : ℕ), u = s.tick t ∧ (p ∉ u.holdersOf g) :=
  ⟨(State.reset), _, 0, 2, 12, rfl, by decide +kernel⟩
theorem w_PartitionEventsAndSharedDevices_15 : ∃ (g : ℕ), (g < 160) :=
  ⟨159, by decide +kernel⟩
theorem w_PartitionEventsAndSharedDevices_16 : ∃ (who : Role), (who.isInstaller = false) :=
  ⟨(.operator 2), by decide +kernel⟩
theorem w_PartitionEventsAndSharedDevices_17 : ∃ (s u : State) (t : Nat) (g : ℕ), u = s.tick t ∧ (g < 160) ∧ ((u.sharedOf g).mode = .resetting) ∧ ((u.sideband (portOfG g)).perst = true) ∧ (u.after (u.sharedOf g).since 1000000 = true) :=
  by
  refine ⟨(State.reset.modShared 12 (fun x => { x with mode := .resetting })), _, 1000000, 12, rfl, ?_, ?_, ?_, ?_⟩ <;> decide +kernel
theorem w_PartitionEventsAndSharedDevices_18 : ∃ (s u : State) (t : Nat) (g : ℕ), u = s.tick t ∧ (u.after (u.sharedOf g).since 1000000 = false) :=
  ⟨(State.reset), _, 0, 12, rfl, by decide +kernel⟩
theorem w_PartitionEventsAndSharedDevices_19 : ∃ (s u : State) (t : Nat) (g : ℕ) (rid : ℕ) (stride : ℕ) (v : Machine.State) (w : Machine.State), u = s.tick t ∧ (g < 160) ∧ ((u.sharedOf g).mode = .enumerating) ∧ (u.ideFailed g = false) ∧ (v = u.modShared g (fun x => { x with mode := .idle, rid := rid, stride := stride })) ∧ (w = v.each (v.slicesOf g) (fun x b => ((x.modVdp b.1 b.2.1 (fun y => { y with present := true })).slotEvent b.1 b.2.1 0).sliceLink b.1 b.2.1)) :=
  by
  refine ⟨(State.reset.modShared 12 (fun x => { x with mode := .enumerating })), _, 0, 12, 256, 1, _, _, rfl, ?_, ?_, ?_, rfl, rfl⟩ <;> decide +kernel
theorem w_PartitionEventsAndSharedDevices_20 : ∃ (s u : State) (t : Nat) (g : ℕ), u = s.tick t ∧ (g < 160) ∧ ((u.sharedOf g).mode = .resetting) ∧ ((u.hport (portOfG g)).up = false) ∧ (u.after (u.sharedOf g).since 1000000000 = true) :=
  by
  refine ⟨(State.reset.modShared 12 (fun x => { x with mode := .resetting })), _, 1000000000, 12, rfl, ?_, ?_, ?_, ?_⟩ <;> decide +kernel
theorem w_GateCommands_1 : ∃ (s u : State) (t : Nat) (n : ℕ), u = s.tick t ∧ (n ≤ u.gates.epoch.toNat) ∧ (u.gates.drained.toNat < n) ∧ (u.drainedTo n = true) :=
  by
  refine ⟨(State.reset.modGates (fun x => { x with epoch := 1 })), _, 0, 1, rfl, ?_, ?_, ?_⟩ <;> decide +kernel
theorem w_GateCommands_2 : ∃ (s u : State) (t : Nat) (n : ℕ), u = s.tick t ∧ ((u.gates.epoch.toNat < n ∨ n ≤ u.gates.drained.toNat ∨ u.drainedTo n = false)) :=
  ⟨((State.reset.modGates (fun x => { x with epoch := 1 })).modCore (fun c => { c with queues := [wDesc] })), _, 0, 1, rfl, by decide +kernel⟩
theorem w_GateCommands_3 : ∃ (s u : State) (t : Nat), u = s.tick t ∧ (u.gates.drained ≠ u.gates.epoch) ∧ (u.gates.slowRaised = false) ∧ (u.after u.gates.epochAt 10000000 = true) :=
  by
  refine ⟨(State.reset.modGates (fun x => { x with epoch := 1 })), _, 10000000, rfl, ?_, ?_, ?_⟩ <;> decide +kernel
theorem w_GateCommands_4 : ∃ (s u : State) (t : Nat), u = s.tick t ∧ ((u.gates.drained = u.gates.epoch ∨ u.gates.slowRaised = true ∨ u.after u.gates.epochAt 10000000 = false)) :=
  ⟨(State.reset), _, 0, rfl, by decide +kernel⟩
theorem w_GateCommands_5 : ∃ (s u : State) (t : Nat) (gate : ℕ) (v : Machine.State) (w : Machine.State), u = s.tick t ∧ (gate < 160) ∧ (v = u.modGates (fun x => if (insertNew u.gates.scrubbed gate).length = 160 then { x with scrubbed := [], scrubPass := x.scrubPass + 1 } else { x with scrubbed := insertNew u.gates.scrubbed gate })) ∧ (w = (if overlapIn (u.regions gate) then v.noteAt 0xBCD gate 3 else v)) :=
  ⟨(State.reset.modGates (fun x => { x with scrubbed := List.range 159 })), _, 0, 159, _, _, rfl, by decide +kernel, rfl, rfl⟩
theorem w_GateCommands_6 : ∃ (gate : ℕ), (160 ≤ gate) :=
  ⟨160, by decide +kernel⟩
theorem w_GateCommands_7 : ∃ (st : ℕ) (gate : ℕ), (st < 4) ∧ (gate < 160) :=
  by
  refine ⟨3, 159, ?_, ?_⟩ <;> decide +kernel
theorem w_GateCommands_8 : ∃ (st : ℕ) (gate : ℕ), (st < 4) ∧ (gate < 160) :=
  by
  refine ⟨3, 159, ?_, ?_⟩ <;> decide +kernel
theorem w_GateCommands_9 : ∃ (st : ℕ) (gate : ℕ), ((4 ≤ st ∨ 160 ≤ gate)) :=
  ⟨4, 159, by decide +kernel⟩
theorem w_RoutingResults_1 : ∃ (s u : State) (t : Nat) (q : ℕ), u = s.tick t ∧ (q < 16) ∧ (u.trunkUp q = true) ∧ (u.get Key.ROUTE_SETTLE ≠ 0) ∧ (u.after (assocGetD u.fabric.settleAt q 0) (u.get Key.ROUTE_SETTLE * 1000000) = true) :=
  by
  refine ⟨((State.reset.set Key.ROUTE_SETTLE 5).modTrunk 3 (fun k => { k with tstate := .l0 })), _, 1000000000000, 3, rfl, ?_, ?_, ?_, ?_⟩ <;> decide +kernel
theorem w_RoutingResults_2 : ∃ (s u : State) (t : Nat) (q : ℕ), u = s.tick t ∧ ((u.trunkUp q = false ∨ u.get Key.ROUTE_SETTLE = 0 ∨ u.after (assocGetD u.fabric.settleAt q 0) (u.get Key.ROUTE_SETTLE * 1000000) = false)) :=
  ⟨(State.reset), _, 0, 3, rfl, by decide +kernel⟩
theorem w_RoutingResults_4 : ∃ (who : Role), (who.isInstaller = false) :=
  ⟨(.operator 2), by decide +kernel⟩
theorem w_RoutingResults_5 : ∃ (s u : State) (t : Nat) (r : ℕ), u = s.tick t ∧ (u.fabric.rebalances.filter (·.interim == r) ≠ []) ∧ (u.drained r = true) :=
  by
  refine ⟨((State.reset.modFabric (fun f => { f with rebalances := [{ interim := 3, home := 4, since := 0 }] })).modTrunk 3 (fun k => { k with tx := { k.tx with farRsv := List.replicate 8 64, farShared := 3584 } })), _, 0, 3, rfl, ?_, ?_⟩ <;> decide +kernel
theorem w_RoutingResults_6 : ∃ (s u : State) (t : Nat) (r : ℕ), u = s.tick t ∧ (u.drained r = false) :=
  ⟨((State.reset.modFabric (fun f => { f with rebalances := [{ interim := 3, home := 4, since := 0 }] }))), _, 0, 3, rfl, by decide +kernel⟩
theorem w_RoutingResults_7 : ∃ (s u : State) (t : Nat) (r : ℕ), u = s.tick t ∧ ((u.fabric.rebalances.filter (·.interim == r)).any (fun b => u.after b.since 100000) = true) ∧ (u.drained r = false) :=
  by
  refine ⟨(State.reset.modFabric (fun f => { f with rebalances := [{ interim := 3, home := 4, since := 0 }] })), _, 100000, 3, rfl, ?_, ?_⟩ <;> decide +kernel
theorem w_RoutingResults_8 : ∃ (s u : State) (t : Nat) (r : ℕ), u = s.tick t ∧ (((u.fabric.rebalances.filter (·.interim == r)).any (fun b => u.after b.since 100000) = false ∨ u.drained r = true)) :=
  ⟨(State.reset.modFabric (fun f => { f with rebalances := [{ interim := 3, home := 4, since := 0 }] })), _, 0, 3, rfl, by decide +kernel⟩
theorem w_RoutingResults_9 : ∃ (s u : State) (t : Nat) (d : ℕ), u = s.tick t ∧ (d < 1024) ∧ (d ≠ u.crownId) ∧ ((u.membersFor d).isEmpty = false) ∧ ((u.membersFor d).all u.trunkLost = true) :=
  by
  refine ⟨(((State.reset.set Key.CROWN_ID 5).set (Key.ROUTE + 6) (2 ^ 28 + 3))), _, 1000000000, 6, rfl, ?_, ?_, ?_, ?_⟩ <;> decide +kernel
theorem w_RoutingResults_10 : ∃ (s u : State) (t : Nat) (d : ℕ) (q : ℕ), u = s.tick t ∧ (q ∈ u.membersFor d) ∧ (u.trunkLost q = false) :=
  by
  refine ⟨(((State.reset.set Key.CROWN_ID 5).set (Key.ROUTE + 6) (2 ^ 28 + 3)).modTrunk 3 (fun k => { k with tstate := .l0 })), _, 0, 6, 3, rfl, ?_, ?_⟩ <;> decide +kernel
theorem w_RoutingResults_11 : ∃ (s u : State) (t : Nat) (c : ℕ), u = s.tick t ∧ (c < 1024) ∧ (c ≠ u.crownId) ∧ ((u.trunksTo c).isEmpty = false) ∧ ((u.trunksTo c).all u.trunkLost = true) ∧ ((u.membersFor c).all (fun q => !u.trunkUp q) = true) ∧ ((c, FenceCode.trunkLoss) ∉ u.fabric.fences) :=
  by
  refine ⟨(State.reset.modTrunk 3 (fun k => { k with peer := some (6, 1) })), _, 1000000000, 6, rfl, ?_, ?_, ?_, ?_, ?_, ?_⟩ <;> decide +kernel
theorem w_RoutingResults_12 : ∃ (s u : State) (t : Nat) (c : ℕ) (q : ℕ), u = s.tick t ∧ (q ∈ u.trunksTo c) ∧ (u.trunkLost q = false) :=
  by
  refine ⟨(State.reset.modTrunk 3 (fun k => { k with peer := some (6, 1), tstate := .l0 })), _, 0, 6, 3, rfl, ?_, ?_⟩ <;> decide +kernel
theorem w_RoutingResults_13 : ∃ (s u : State) (t : Nat) (q : ℕ) (n : FenceMsg) (v : Machine.State), u = s.tick t ∧ (n.issuer ≠ u.crownId) ∧ ((∀ k, assocGet u.fabric.fenceSeen (n.crown, n.issuer) = some k → newer16 n.number k = true)) ∧ (v = (u.modFabric (fun f => { f with fenceSeen := assocPut f.fenceSeen (n.crown, n.issuer) n.number })).sendControl (fun r => r ≠ q) (.fence n)) :=
  by
  refine ⟨(State.reset), (State.reset).tick 0, 0, 3, ({ crown := 6, issuer := 7, number := 1, set := true, ft := 0 }), _, rfl, by decide +kernel, ?_, rfl⟩
  intro k hk
  have e : assocGet ((State.reset).tick 0).fabric.fenceSeen (6, 7) = none := by decide +kernel
  exact absurd (e.symm.trans hk) nofun
theorem w_RoutingResults_14 : ∃ (s u : State) (t : Nat) (n : FenceMsg), u = s.tick t ∧ ((n.issuer = u.crownId ∨ ∃ k, assocGet u.fabric.fenceSeen (n.crown, n.issuer) = some k ∧ newer16 n.number k = false)) :=
  ⟨(State.reset.modFabric (fun f => { f with fenceSeen := [((6, 7), 1)] })), _, 0, ({ crown := 6, issuer := 7, number := 1, set := true, ft := 0 }), rfl,
    .inr ⟨1, by decide +kernel, by decide⟩⟩
theorem w_RoutingResults_15 : ∃ (s u : State) (t : Nat) (c : ℕ), u = s.tick t ∧ (c < 1024) ∧ (c ≠ u.crownId) :=
  by
  refine ⟨(State.reset), _, 0, 1023, rfl, ?_, ?_⟩ <;> decide +kernel
theorem w_RoutingResults_16 : ∃ (c : ℕ), (c < 1024) :=
  ⟨1023, by decide +kernel⟩
theorem w_RoutingResults_17 : ∃ (who : Role), (who.isInstaller = false) :=
  ⟨(.operator 2), by decide +kernel⟩
theorem w_RoutingResults_18 : ∃ (who : Role), (who.isInstaller = false) :=
  ⟨(.operator 2), by decide +kernel⟩
theorem w_RemoteRequests_1 : ∃ (s u : State) (t : Nat) (n : ℕ) (k : Track) (v : Machine.State) (w : Machine.State), u = s.tick t ∧ (u.fabric.tracks.find? (·.index == n) = some k) ∧ (k.quarantined = none) ∧ (k.sent ≠ 0) ∧ (u.after k.sent (u.npTimeout k.part) = true) ∧ (v = (u.endTrack k .aborted).modFabric (fun f => { f with tracks := f.tracks.map (fun e => if e.index = n then { e with quarantined := some (u.endTrack k .aborted).now } else e) })) ∧ (w = v.logEntry { desc := k.descBits, header := k.header, ft := v.stampFt, source := 0xC01, cause := 0, histSeq := none, inj := false }) :=
  by
  refine ⟨(State.reset.modFabric (fun f => { f with tracks := [wTrack] })), _, 20000001, 4, wTrack, _, _, rfl, ?_, ?_, ?_, ?_, rfl, rfl⟩ <;> decide +kernel
theorem w_RemoteRequests_2 : ∃ (s u : State) (t : Nat) (n : ℕ) (k : Track), u = s.tick t ∧ (u.fabric.tracks.find? (·.index == n) = some k) ∧ ((k.quarantined.isSome = true ∨ k.sent = 0 ∨ u.after k.sent (u.npTimeout k.part) = false)) :=
  by
  refine ⟨(State.reset.modFabric (fun f => { f with tracks := [wTrack] })), _, 20000000, 4, wTrack, rfl, ?_, ?_⟩ <;> decide +kernel
theorem w_RemoteRequests_3 : ∃ (s u : State) (t : Nat) (n : ℕ) (k : Track) (at_ : ℕ), u = s.tick t ∧ (u.fabric.tracks.find? (·.index == n) = some k) ∧ (k.quarantined = some at_) ∧ (u.after at_ (2 * u.npTimeout k.part) = true) :=
  by
  refine ⟨(State.reset.modFabric (fun f => { f with tracks := [{ wTrack with quarantined := some 0 }] })), _, 40000000, 4, ({ wTrack with quarantined := some 0 }), 0, rfl, ?_, ?_, ?_⟩ <;> decide +kernel
theorem w_RemoteRequests_4 : ∃ (s u : State) (t : Nat) (n : ℕ) (k : Track) (at_ : ℕ), u = s.tick t ∧ (u.fabric.tracks.find? (·.index == n) = some k) ∧ (k.quarantined = some at_) ∧ (u.after at_ (2 * u.npTimeout k.part) = false) :=
  by
  refine ⟨(State.reset.modFabric (fun f => { f with tracks := [{ wTrack with quarantined := some 0 }] })), _, 20000000, 4, ({ wTrack with quarantined := some 0 }), 0, rfl, ?_, ?_, ?_⟩ <;> decide +kernel
theorem w_RemoteRequests_5 : ∃ (s u : State) (t : Nat) (p : ℕ) (tag : ℕ) (k : Proxy), u = s.tick t ∧ (k ∈ u.fabric.proxies) ∧ (k.port = gOfPort p) ∧ (k.tag = tag) ∧ (u.after k.at_ 2000000000 = true) :=
  by
  refine ⟨(State.reset.modFabric (fun f => { f with proxies := [{ wProxy with port := gOfPort 7, tag := 3 }] })), _, 2000000000, 7, 3, ({ wProxy with port := gOfPort 7, tag := 3 }), rfl, ?_, ?_, ?_, ?_⟩ <;> decide +kernel
theorem w_RemoteRequests_6 : ∃ (s u : State) (t : Nat) (p : ℕ) (tag : ℕ), u = s.tick t ∧ ((∀ k ∈ u.fabric.proxies, k.port = gOfPort p → k.tag = tag → u.after k.at_ 2000000000 = false)) :=
  ⟨(State.reset), _, 0, 7, 3, rfl, by decide +kernel⟩
theorem w_RemoteRequests_7 : ∃ (s u : State) (t : Nat) (c : ℕ) (gp : ℕ) (k : FarPending) (q : ℕ) (v : Machine.State), u = s.tick t ∧ (u.fabric.farPending.find? (fun p => p.crown == c && p.note.gpart == gp) = some k) ∧ (u.fenced c = false) ∧ (u.routeUp c 0 = some q) ∧ (v = u.modFabric (fun f => { f with farPending := f.farPending.filter (fun p => !(p.crown == c && p.note.gpart == gp)) })) :=
  by
  refine ⟨(((State.reset.set (Key.ROUTE + 6) (2 ^ 28 + 3))).modTrunk 3 (fun k => { k with tstate := .l0 }) |>.modFabric (fun f => { f with farPending := [wFar] })), _, 0, 6, 9, wFar, 3, _, rfl, ?_, ?_, ?_, rfl⟩ <;> decide +kernel
theorem w_RemoteRequests_8 : ∃ (s u : State) (t : Nat) (c : ℕ) (gp : ℕ) (k : FarPending) (v : Machine.State), u = s.tick t ∧ (u.fabric.farPending.find? (fun p => p.crown == c && p.note.gpart == gp) = some k) ∧ ((u.fenced c = true ∨ u.routeUp c 0 = none)) ∧ (v = u.modFabric (fun f => { f with farPending := f.farPending.filter (fun p => !(p.crown == c && p.note.gpart == gp)) })) :=
  by
  refine ⟨(State.reset.modFabric (fun f => { f with farPending := [wFar] })), _, 0, 6, 9, wFar, _, rfl, ?_, ?_, rfl⟩ <;> decide +kernel
theorem w_RemoteRequests_9 : ∃ (s u : State) (t : Nat) (q : ℕ) (n : FarMsg) (p : ℕ) (r : RClass), u = s.tick t ∧ ((u.countBough (boughOf (gOfTrunk q)) 0x30D 1).partOfGp n.gpart = some p) ∧ (rclassOf n.rclass = some r) :=
  by
  refine ⟨(wHome), _, 0, 3, wFar.note, 2, .host, rfl, ?_, ?_⟩ <;> decide +kernel
theorem w_RemoteRequests_10 : ∃ (s u : State) (t : Nat) (q : ℕ) (n : FarMsg), u = s.tick t ∧ (((u.countBough (boughOf (gOfTrunk q)) 0x30D 1).partOfGp n.gpart = none ∨ rclassOf n.rclass = none)) :=
  ⟨(State.reset), _, 0, 3, wFar.note, rfl, by decide +kernel⟩
theorem w_RemoteRequests_11 : ∃ (s u : State) (t : Nat) (b : ℕ) (k : LockState), u = s.tick t ∧ (k ∈ u.fabric.locks) ∧ (k.bough = b) ∧ (u.after k.since 10000000 = true) :=
  by
  refine ⟨(State.reset.modFabric (fun f => { f with locks := [wLock] })), _, 10000000, 1, wLock, rfl, ?_, ?_, ?_⟩ <;> decide +kernel
theorem w_RemoteRequests_12 : ∃ (s u : State) (t : Nat) (b : ℕ), u = s.tick t ∧ ((∀ k ∈ u.fabric.locks, k.bough = b → u.after k.since 10000000 = false)) :=
  ⟨(State.reset), _, 0, 1, rfl, by decide +kernel⟩
theorem w_RemoteRequests_13 : ∃ (s u : State) (t : Nat) (p : ℕ) (g : ℕ) (i : Ingress) (x : Tlp), u = s.tick t ∧ (p < 64) ∧ (u.upTwig p = some g) ∧ (i = { src := u.portLowG g, part := p, rclass := .host, reqId := 0, entry := some none, key := none, trunk := none, srcCrown := u.crownId, gpart := u.groveId p, track := 0, flow := 0, hops := 0 }) ∧ (x = { kind := .unlock, tc := 0, addr := 0, lenBytes := 0, hdrLen := 16, reqId := 0, tag := 0, data := [], ro := false, ido := false, ns := false, poisoned := false, specOk := true }) :=
  by
  refine ⟨(wHome), _, 0, 2, 8, _, _, rfl, ?_, ?_, rfl, rfl⟩ <;> decide +kernel
theorem w_RemoteRequests_14 : ∃ (s u : State) (t : Nat) (p : ℕ), u = s.tick t ∧ (p < 64) ∧ (u.upTwig p = none) ∧ (u.fabric.locks.any (·.part == p) = true) :=
  by
  refine ⟨(State.reset.modFabric (fun f => { f with locks := [{ wLock with part := 2 }] })), _, 0, 2, rfl, ?_, ?_, ?_⟩ <;> decide +kernel
theorem w_RemoteRequests_15 : ∃ (s u : State) (t : Nat) (p : ℕ), u = s.tick t ∧ (p < 64) ∧ (u.upTwig p = none) ∧ (u.fabric.locks.any (·.part == p) = false) :=
  by
  refine ⟨(State.reset), _, 0, 2, rfl, ?_, ?_, ?_⟩ <;> decide +kernel
theorem w_ManagementBridge_1 : ∃ (s u : State) (t : Nat) (c : ℕ) (p : Option ℕ) (gate : BridgeTarget) (a : ℕ) (n : ℕ) (b : BridgeRead), u = s.tick t ∧ (c < 8) ∧ (u.fabric.bridge.any (·.core == c) = false) ∧ (bridgeParts c a n ≠ []) ∧ (b = { core := c, since := u.now, part := p, target := gate, parts := bridgeParts c a n }) :=
  by
  refine ⟨(State.reset), _, 0, 7, none, (.gate 3), 4096, 4, _, rfl, ?_, ?_, ?_, rfl⟩ <;> decide +kernel
theorem w_ManagementBridge_2 : ∃ (s u : State) (t : Nat) (c : ℕ) (a : ℕ) (n : ℕ), u = s.tick t ∧ (c < 8) ∧ (u.fabric.bridge.any (·.core == c) = false) ∧ (bridgeParts c a n = []) :=
  by
  refine ⟨(State.reset), _, 0, 7, 4096, 0, rfl, ?_, ?_, ?_⟩ <;> decide +kernel
theorem w_ManagementBridge_3 : ∃ (s u : State) (t : Nat) (c : ℕ), u = s.tick t ∧ ((8 ≤ c ∨ u.fabric.bridge.any (·.core == c) = true)) :=
  ⟨(State.reset.modFabric (fun f => { f with bridge := [{ wBridge with core := 7 }] })), _, 0, 7, rfl, by decide +kernel⟩
theorem w_ManagementBridge_4 : ∃ (c : ℕ), (c < 8) :=
  ⟨7, by decide +kernel⟩
theorem w_ManagementBridge_5 : ∃ (a : ℕ) (n : ℕ), (n ≤ 4096) ∧ (0 < n) ∧ (a % 4096 = 0) :=
  by
  refine ⟨4096, 4096, ?_, ?_, ?_⟩ <;> decide +kernel
theorem w_ManagementBridge_6 : ∃ (s u : State) (t : Nat) (c : ℕ) (b : BridgeRead) (v : Machine.State) (w : Machine.State), u = s.tick t ∧ (u.fabric.bridge.find? (·.core == c) = some b) ∧ (u.after b.since 50000000 = true) ∧ (v = u.modCore (fun x => { x with outstanding := x.outstanding.filter (fun r => r.src ≠ srcCore c) })) ∧ (w = v.modFabric (fun f => { f with lateReads := f.lateReads ++ (u.core.outstanding.filter (fun r => r.src == srcCore c)).map (fun r => (r.reqId, r.tag)), tracks := f.tracks.map (fun k => if k.src = srcCore c && k.quarantined.isNone then { k with quarantined := some u.now } else k), bridge := f.bridge.filter (·.core ≠ c) })) :=
  by
  refine ⟨(State.reset.modFabric (fun f => { f with bridge := [{ wBridge with core := 7 }] })), _, 50000000, 7, ({ wBridge with core := 7 }), _, _, rfl, ?_, ?_, rfl, rfl⟩ <;> decide +kernel
theorem w_ManagementBridge_7 : ∃ (s u : State) (t : Nat) (c : ℕ) (b : BridgeRead), u = s.tick t ∧ (u.fabric.bridge.find? (·.core == c) = some b) ∧ (u.after b.since 50000000 = false) :=
  by
  refine ⟨(State.reset.modFabric (fun f => { f with bridge := [{ wBridge with core := 7 }] })), _, 0, 7, ({ wBridge with core := 7 }), rfl, ?_, ?_⟩ <;> decide +kernel
theorem w_ManagementBridge_8 : ∃ (s u : State) (t : Nat) (c : ℕ) (b : BridgeRead) (due : BridgePart → Bool), u = s.tick t ∧ (u.fabric.bridge.find? (·.core == c) = some b) ∧ ((∀ k, due k = (k.retryAt.any (fun at_ => u.after at_ 1000)))) :=
  ⟨(State.reset.modFabric (fun f => { f with bridge := [{ wBridge with core := 7 }] })), _, 0, 7, ({ wBridge with core := 7 }), ((fun k => k.retryAt.any (fun at_ => (State.tick (State.reset.modFabric (fun f => { f with bridge := [{ wBridge with core := 7 }] })) 0).after at_ 1000))), rfl, by decide +kernel, fun _ => rfl⟩
theorem w_ManagementBridge_9 : ∃ (s u : State) (t : Nat), u = s.tick t ∧ (u.power.ref25 = true) :=
  ⟨(State.reset), _, 0, rfl, by decide +kernel⟩
theorem w_ManagementBridge_10 : ∃ (s u : State) (t : Nat), u = s.tick t ∧ (u.power.ref25 = false) :=
  ⟨(State.reset.modPower (fun p => { p with ref25 := false })), _, 0, rfl, by decide +kernel⟩
theorem w_ManagementBridge_11 : ∃ (s u : State) (t : Nat) (p : ℕ), u = s.tick t ∧ (p < 144) ∧ ((u.sideband p).attnBlink = true) :=
  by
  refine ⟨(State.reset.modSideband 143 (fun x => { x with attnBlink := true })), _, 0, 143, rfl, ?_, ?_⟩ <;> decide +kernel
theorem w_ManagementBridge_12 : ∃ (s u : State) (t : Nat) (p : ℕ), u = s.tick t ∧ (p < 144) ∧ ((u.sideband p).powerBlink = true) :=
  by
  refine ⟨(State.reset.modSideband 143 (fun x => { x with powerBlink := true })), _, 0, 143, rfl, ?_, ?_⟩ <;> decide +kernel
theorem w_ManagementBridge_13 : ∃ (s u : State) (t : Nat) (p : ℕ), u = s.tick t ∧ ((u.sideband p).attnBlink = false) :=
  ⟨(State.reset), _, 0, 143, rfl, by decide +kernel⟩
theorem w_ManagementBridge_14 : ∃ (s u : State) (t : Nat) (p : ℕ), u = s.tick t ∧ ((u.sideband p).powerBlink = false) :=
  ⟨(State.reset), _, 0, 143, rfl, by decide +kernel⟩
theorem w_FabricMemoryResults_1 : ∃ (s u : State) (t : Nat) (rc : RClass) (p : ℕ) (a : ℕ) (n : ℕ) (o : Owner), u = s.tick t ∧ (a + n ≤ poolBytes) ∧ (u.poolGrant rc p a true false = .owner o) ∧ (u.poolWaits o = false) :=
  by
  refine ⟨(wPool), _, 0, .fw, 0, 512, 8, Owner.module, rfl, ?_, ?_, ?_⟩ <;> decide +kernel
theorem w_FabricMemoryResults_2 : ∃ (s u : State) (t : Nat) (rc : RClass) (p : ℕ) (a : ℕ) (n : ℕ) (k2 : ℕ), u = s.tick t ∧ (a + n ≤ poolBytes) ∧ (u.poolGrant rc p a true false = .refused k2) :=
  by
  refine ⟨(wPool), _, 0, .host, 2, 512, 8, 2, rfl, ?_, ?_⟩ <;> decide +kernel
theorem w_FabricMemoryResults_3 : ∃ (a : ℕ) (n : ℕ), (poolBytes < a + n) :=
  ⟨0x1740000000, 8, by decide +kernel⟩
theorem w_FabricMemoryResults_4 : ∃ (s u : State) (t : Nat) (rc : RClass) (p : ℕ) (a : ℕ) (n : ℕ) (o : Owner), u = s.tick t ∧ (a + n ≤ poolBytes) ∧ (u.poolGrant rc p a true false = .owner o) ∧ (u.poolWaits o = true) :=
  by
  refine ⟨(wPool.modMem (fun m => { m with mode := 0 })), _, 0, .fw, 0, 512, 8, Owner.module, rfl, ?_, ?_, ?_⟩ <;> decide +kernel
theorem w_FabricMemoryResults_5 : ∃ (s u : State) (t : Nat) (rc : RClass) (p : ℕ) (a : ℕ) (d : List Byte) (o : Owner), u = s.tick t ∧ (a + d.length ≤ poolBytes) ∧ (u.poolGrant rc p a false true = .owner o) ∧ (u.poolWaits o = false) :=
  by
  refine ⟨(wPool), _, 0, .fw, 0, 512, ([1, 2]), Owner.module, rfl, ?_, ?_, ?_⟩ <;> decide +kernel
theorem w_FabricMemoryResults_6 : ∃ (s u : State) (t : Nat) (rc : RClass) (p : ℕ) (a : ℕ) (d : List Byte) (k2 : ℕ), u = s.tick t ∧ (a + d.length ≤ poolBytes) ∧ (u.poolGrant rc p a false true = .refused k2) :=
  by
  refine ⟨(wPool), _, 0, .host, 2, 512, ([1, 2]), 2, rfl, ?_, ?_⟩ <;> decide +kernel
theorem w_FabricMemoryResults_7 : ∃ (a : ℕ) (d : List Byte), (poolBytes < a + d.length) :=
  ⟨0x1740000000, ([1, 2]), by decide +kernel⟩
theorem w_FabricMemoryResults_8 : ∃ (s u : State) (t : Nat) (rc : RClass) (p : ℕ) (a : ℕ) (d : List Byte) (o : Owner), u = s.tick t ∧ (a + d.length ≤ poolBytes) ∧ (u.poolGrant rc p a false true = .owner o) ∧ (u.poolWaits o = true) :=
  by
  refine ⟨(wPool.modMem (fun m => { m with mode := 0 })), _, 0, .fw, 0, 512, ([1, 2]), Owner.module, rfl, ?_, ?_, ?_⟩ <;> decide +kernel
theorem w_FabricMemoryResults_9 : ∃ (s u : State) (t : Nat) (rc : RClass) (p : ℕ) (a : ℕ) (d : List Byte) (o : Owner), u = s.tick t ∧ (a + d.length ≤ poolBytes) ∧ (u.poolGrant rc p a false true = .owner o) ∧ (u.poolWaits o = false) :=
  by
  refine ⟨(wPool), _, 0, .fw, 0, 512, ([1, 2]), Owner.module, rfl, ?_, ?_, ?_⟩ <;> decide +kernel
theorem w_FabricMemoryResults_10 : ∃ (s u : State) (t : Nat) (rc : RClass) (p : ℕ) (a : ℕ) (d : List Byte) (k2 : ℕ), u = s.tick t ∧ (a + d.length ≤ poolBytes) ∧ (u.poolGrant rc p a false true = .refused k2) :=
  by
  refine ⟨(wPool), _, 0, .host, 2, 512, ([1, 2]), 2, rfl, ?_, ?_⟩ <;> decide +kernel
theorem w_FabricMemoryResults_11 : ∃ (a : ℕ) (d : List Byte), (poolBytes < a + d.length) :=
  ⟨0x1740000000, ([1, 2]), by decide +kernel⟩
theorem w_FabricMemoryResults_12 : ∃ (s u : State) (t : Nat) (rc : RClass) (p : ℕ) (a : ℕ) (d : List Byte) (o : Owner), u = s.tick t ∧ (a + d.length ≤ poolBytes) ∧ (u.poolGrant rc p a false true = .owner o) ∧ (u.poolWaits o = true) :=
  by
  refine ⟨(wPool.modMem (fun m => { m with mode := 0 })), _, 0, .fw, 0, 512, ([1, 2]), Owner.module, rfl, ?_, ?_, ?_⟩ <;> decide +kernel
theorem w_FabricMemoryResults_13 : ∃ (s u : State) (t : Nat) (rc : RClass) (p : ℕ) (a : ℕ) (n : ℕ) (o : Owner), u = s.tick t ∧ (a + n ≤ poolBytes) ∧ (u.poolGrant rc p a true true = .owner o) ∧ (u.poolWaits o = false) :=
  by
  refine ⟨(wPool), _, 0, .fw, 0, 512, 8, Owner.module, rfl, ?_, ?_, ?_⟩ <;> decide +kernel
theorem w_FabricMemoryResults_14 : ∃ (s u : State) (t : Nat) (rc : RClass) (p : ℕ) (a : ℕ) (n : ℕ) (k2 : ℕ), u = s.tick t ∧ (a + n ≤ poolBytes) ∧ (u.poolGrant rc p a true true = .refused k2) :=
  by
  refine ⟨(wPool), _, 0, .host, 2, 512, 8, 2, rfl, ?_, ?_⟩ <;> decide +kernel
theorem w_FabricMemoryResults_15 : ∃ (a : ℕ) (n : ℕ), (poolBytes < a + n) :=
  ⟨0x1740000000, 8, by decide +kernel⟩
theorem w_FabricMemoryResults_16 : ∃ (s u : State) (t : Nat) (rc : RClass) (p : ℕ) (a : ℕ) (n : ℕ) (o : Owner), u = s.tick t ∧ (a + n ≤ poolBytes) ∧ (u.poolGrant rc p a true true = .owner o) ∧ (u.poolWaits o = true) :=
  by
  refine ⟨(wPool.modMem (fun m => { m with mode := 0 })), _, 0, .fw, 0, 512, 8, Owner.module, rfl, ?_, ?_, ?_⟩ <;> decide +kernel
theorem w_FabricMemoryResults_17 : ∃ (s u : State) (t : Nat), u = s.tick t ∧ (u.mem.mode = 0) ∧ (u.sec.hold = none) :=
  by
  refine ⟨(State.reset), _, 0, rfl, ?_, ?_⟩ <;> decide +kernel
theorem w_FabricMemoryResults_18 : ∃ (s u : State) (t : Nat) (ok : Bool) (failed : List ℕ) (l : List ℕ), u = s.tick t ∧ (u.mem.mode = 0) ∧ (u.sec.hold = none) ∧ ((ok = false ∨ failed.filter (· < 24) ≠ [])) ∧ (l = (if ok = true ∨ failed ≠ [] then failed.filter (· < 24) else List.range 24)) :=
  by
  refine ⟨(State.reset), _, 0, false, ([23]), _, rfl, ?_, ?_, ?_, rfl⟩ <;> decide +kernel
theorem w_FabricMemoryResults_19 : ∃ (s u : State) (t : Nat), u = s.tick t ∧ ((u.mem.mode ≠ 0 ∨ u.sec.hold ≠ none)) :=
  ⟨(wPool), _, 0, rfl, by decide +kernel⟩
theorem w_FabricMemoryResults_20 : ∃ (s u : State) (t : Nat), u = s.tick t ∧ (u.mem.mode = 1) :=
  ⟨(State.reset.modMem (fun m => { m with mode := 1 })), _, 0, rfl, by decide +kernel⟩
theorem w_FabricMemoryResults_21 : ∃ (s u : State) (t : Nat), u = s.tick t ∧ (u.mem.mode ≠ 1) :=
  ⟨(State.reset), _, 0, rfl, by decide +kernel⟩
theorem w_FabricMemoryResults_22 : ∃ (s u : State) (t : Nat) (gp : ℕ) (l : List ℕ), u = s.tick t ∧ (gp ∈ u.mem.sweeping) ∧ (l = (u.mem.owners.filter (fun e => e.2.gp.toNat == gp && e.2 ≠ Owner.module)).map (·.1)) :=
  ⟨(State.reset.modMem (fun m => { m with sweeping := [9] })), _, 0, 9, _, rfl, by decide +kernel, rfl⟩
theorem w_FabricMemoryResults_23 : ∃ (s u : State) (t : Nat) (gp : ℕ), u = s.tick t ∧ (gp ∉ u.mem.sweeping) :=
  ⟨(State.reset), _, 0, 9, rfl, by decide +kernel⟩
theorem w_FabricMemoryResults_24 : ∃ (s u : State) (t : Nat) (pla : ℕ) (rd : LineRead) (v : Machine.State) (w : Machine.State), u = s.tick t ∧ (pla < 24 * 2 ^ 24) ∧ (pla % 2 ^ 24 < firstPattern) ∧ (u.mem.mode = 1 ∨ u.mem.mode = 2) ∧ (u.inCrownPrune = false) ∧ (v = (u.countHeart 0x399 1).each (List.range (min rd.retries 3)) (fun x _ => (x.countHeart 0x394 1).noteAt 0xC0A (pla / 2 ^ 24) 1)) ∧ (w = (if 3 < rd.retries then (v.memLog 4 (u.ownerAt pla).gp.toNat pla).channelFail (pla / 2 ^ 24) 3 else v)) :=
  by
  refine ⟨(wPool.modMem (fun m => { m with mode := 2 })), _, 64, 7, goodRead, _, _, rfl, ?_, ?_, ?_, ?_, rfl, rfl⟩ <;> decide +kernel
theorem w_FabricMemoryResults_25 : ∃ (s u : State) (t : Nat) (pla : ℕ), u = s.tick t ∧ ((24 * 2 ^ 24 ≤ pla ∨ firstPattern ≤ pla % 2 ^ 24 ∨ u.mem.mode = 0 ∨ u.mem.mode = 3 ∨ u.inCrownPrune = true)) :=
  ⟨(State.reset), _, 0, 7, rfl, by decide +kernel⟩
theorem w_FabricMemoryResults_26 : ∃ (d : ℕ), (d < 24) :=
  ⟨23, by decide +kernel⟩
theorem w_FabricMemoryResults_27 : ∃ (s u : State) (t : Nat) (n : ℕ) (l : List ℕ) (v : Machine.State) (w : Machine.State) (x : Machine.State), u = s.tick t ∧ (u.inCrownPrune = true) ∧ (u.stepFits n = true) ∧ (u.mem.refreshSlot ≠ some (u.ringClock / 64)) ∧ (u.mem.mode = 1 ∨ u.mem.mode = 2) ∧ (v = (u.refreshDue (u.ringClock / 8192)).modMem (fun m => { m with refreshSlot := some (u.ringClock / 64), channels := m.channels.map (fun c => { c with debt := max 0 (c.debt - 1) }) })) ∧ (w = v.countHeart 0x397 24) ∧ (x = w.each ((List.range 24).filter (· ∈ l)) (fun y d => (y.countHeart 0x394 1).noteAt 0xC0A d 1)) :=
  by
  refine ⟨(wPool), _, 0, 40, ([]), _, _, _, rfl, ?_, ?_, ?_, ?_, rfl, rfl, rfl⟩ <;> decide +kernel
theorem w_FabricMemoryResults_28 : ∃ (s u : State) (t : Nat) (n : ℕ), u = s.tick t ∧ ((u.inCrownPrune = false ∨ u.stepFits n = false ∨ u.mem.refreshSlot = some (u.ringClock / 64) ∨ (u.mem.mode ≠ 1 ∧ u.mem.mode ≠ 2))) :=
  ⟨(wPool), _, 64, 40, rfl, by decide +kernel⟩
theorem w_RingResults_1 : ∃ (s u : State) (t : Nat) (p : ℕ) (f : ℕ), u = s.tick t ∧ (u.isVf p f = true) :=
  ⟨(wEng), _, 0, 2, 1, rfl, by decide +kernel⟩
theorem w_RingResults_2 : ∃ (s u : State) (t : Nat) (p : ℕ) (f : ℕ), u = s.tick t ∧ (u.isVf p f = false) :=
  ⟨(wEng), _, 0, 2, 17, rfl, by decide +kernel⟩
theorem w_RingResults_3 : ∃ (s u : State) (t : Nat) (p : ℕ) (f : ℕ), u = s.tick t ∧ (u.isVf p f = false) :=
  ⟨(wEng), _, 0, 2, 17, rfl, by decide +kernel⟩
theorem w_RingResults_4 : ∃ (s u : State) (t : Nat) (p : ℕ) (f : ℕ), u = s.tick t ∧ (u.isVf p f = false) :=
  ⟨(wEng), _, 0, 2, 17, rfl, by decide +kernel⟩
theorem w_RingResults_5 : ∃ (s u : State) (t : Nat) (p : ℕ) (f : ℕ), u = s.tick t ∧ (u.isVf p f = true) :=
  ⟨(wEng), _, 0, 2, 1, rfl, by decide +kernel⟩
theorem w_RingResults_6 : ∃ (r : Machine.Ring), (r.state = 0) ∧ (4 ≤ r.log2Size) ∧ (r.log2Size ≤ 16) :=
  by
  refine ⟨({ Ring.reset with log2Size := 16 }), ?_, ?_, ?_⟩ <;> decide +kernel
theorem w_RingResults_7 : ∃ (r : Machine.Ring), ((r.state = 3 ∨ r.log2Size < 4 ∨ 16 < r.log2Size)) :=
  ⟨Ring.reset, by decide +kernel⟩
theorem w_RingResults_8 : ∃ (r : Machine.Ring) (n : ℕ), (r.state = 2) ∧ (4 ≤ r.log2Size) ∧ (r.log2Size ≤ 16) ∧ (n = (r.errIndex.toNat + 1) % 2 ^ r.log2Size) :=
  by
  refine ⟨({ Ring.reset with log2Size := 16, state := 2 }), _, ?_, ?_, ?_, rfl⟩ <;> decide +kernel
theorem w_RingResults_9 : ∃ (s u : State) (t : Nat) (p : ℕ) (f : ℕ), u = s.tick t ∧ (u.isVf p f = true) :=
  ⟨(wEng), _, 0, 2, 1, rfl, by decide +kernel⟩
theorem w_RingResults_10 : ∃ (s u : State) (t : Nat) (p : ℕ) (f : ℕ) (n : ℕ) (r : Machine.Ring) (m : ℕ) (v : Machine.State), u = s.tick t ∧ (u.isVf p f = true) ∧ (((u.part p).fn f).outstanding.any (·.2.1 == fetchMark) = true) ∧ (((u.part p).fn f).ring.state = 1) ∧ (r = ((u.part p).fn f).ring) ∧ (m = min n (min 8 r.waiting)) ∧ (v = (u.readsDone p f fetchMark).modFn p f (fun x => { x with ring := { x.ring with head := BitVec.ofNat 16 ((r.head.toNat + m) % 2 ^ r.log2Size), fetched := x.ring.fetched + m, passes := if 2 ^ r.log2Size ≤ r.head.toNat + m then x.ring.passes + 1 else x.ring.passes } })) :=
  by
  refine ⟨(wEng.modFn 2 1 (fun x => { x with outstanding := [(0, fetchMark, 0)] })), _, 0, 2, 1, 0, _, _, _, rfl, ?_, ?_, ?_, rfl, rfl, rfl⟩ <;> decide +kernel
theorem w_RingResults_11 : ∃ (s u : State) (t : Nat) (p : ℕ) (f : ℕ), u = s.tick t ∧ ((u.isVf p f = false ∨ ((u.part p).fn f).outstanding.any (·.2.1 == fetchMark) = false ∨ ((u.part p).fn f).ring.state ≠ 1)) :=
  ⟨(wEng), _, 0, 2, 1, rfl, by decide +kernel⟩
theorem w_RingResults_12 : ∃ (s u : State) (t : Nat) (e : ℕ), u = s.tick t ∧ (e < 32) ∧ (e ∉ u.engines.offline) :=
  by
  refine ⟨(State.reset), _, 0, 31, rfl, ?_, ?_⟩ <;> decide +kernel
theorem w_RingResults_13 : ∃ (e : ℕ), (32 ≤ e) :=
  ⟨32, by decide +kernel⟩
theorem w_RingResults_14 : ∃ (s u : State) (t : Nat) (e : ℕ), u = s.tick t ∧ (e ∈ u.engines.offline) :=
  ⟨(State.reset.modEngines (fun x => { x with offline := [31] })), _, 0, 31, rfl, by decide +kernel⟩
theorem w_RingResults_15 : ∃ (s u : State) (t : Nat) (p : ℕ) (f : ℕ), u = s.tick t ∧ (u.isFn p f = true) ∧ (((u.part p).fn f).busMaster = true) :=
  by
  refine ⟨(wEng), _, 0, 2, 1, rfl, ?_, ?_⟩ <;> decide +kernel
theorem w_RingResults_16 : ∃ (s u : State) (t : Nat) (p : ℕ) (f : ℕ), u = s.tick t ∧ ((u.isFn p f = false ∨ ((u.part p).fn f).busMaster = false)) :=
  ⟨(wEng), _, 0, 2, 99, rfl, by decide +kernel⟩
theorem w_RingResults_17 : ∃ (s u : State) (t : Nat) (p : ℕ) (f : ℕ), u = s.tick t ∧ (u.isFn p f = false) :=
  ⟨(wEng), _, 0, 2, 99, rfl, by decide +kernel⟩
theorem w_RingResults_18 : ∃ (s u : State) (t : Nat) (p : ℕ) (f : ℕ), u = s.tick t ∧ (u.isFn p f = false) :=
  ⟨(wEng), _, 0, 2, 99, rfl, by decide +kernel⟩
theorem w_RingResults_19 : ∃ (s u : State) (t : Nat) (p : ℕ) (f : ℕ), u = s.tick t ∧ (u.isFn p f = true) :=
  ⟨(wEng), _, 0, 2, 1, rfl, by decide +kernel⟩
theorem w_RingResults_20 : ∃ (s u : State) (t : Nat) (p : ℕ) (f : ℕ), u = s.tick t ∧ (u.isFn p f = true) :=
  ⟨(wEng), _, 0, 2, 1, rfl, by decide +kernel⟩
theorem w_RingResults_21 : ∃ (s u : State) (t : Nat) (p : ℕ) (f : ℕ) (tag : ℕ) (i : ℕ) (since : ℕ), u = s.tick t ∧ (((u.part p).fn f).outstanding.find? (·.1 == tag) = some (tag, i, since)) ∧ (u.isFn p f = true) ∧ (u.after since (u.cplTimeout p) = true) ∧ ((f = 0 ∨ 17 ≤ f)) :=
  by
  refine ⟨(wEng.modFn 2 17 (fun x => { x with outstanding := [(4, 0, 0)] })), _, 1000000000000, 2, 17, 4, 0, 0, rfl, ?_, ?_, ?_, ?_⟩ <;> decide +kernel
theorem w_RingResults_22 : ∃ (s u : State) (t : Nat) (p : ℕ) (f : ℕ) (tag : ℕ) (i : ℕ) (since : ℕ), u = s.tick t ∧ (((u.part p).fn f).outstanding.find? (·.1 == tag) = some (tag, i, since)) ∧ (u.isFn p f = true) ∧ (u.after since (u.cplTimeout p) = true) ∧ (1 ≤ f) ∧ (f ≤ 16) ∧ (i ≠ fetchMark) :=
  by
  refine ⟨(wEng.modFn 2 1 (fun x => { x with outstanding := [(4, 0, 0)] })), _, 1000000000000, 2, 1, 4, 0, 0, rfl, ?_, ?_, ?_, ?_, ?_, ?_⟩ <;> decide +kernel
theorem w_RingResults_23 : ∃ (s u : State) (t : Nat) (p : ℕ) (f : ℕ) (tag : ℕ) (i : ℕ) (since : ℕ) (v : Machine.State), u = s.tick t ∧ (((u.part p).fn f).outstanding.find? (·.1 == tag) = some (tag, i, since)) ∧ (u.isFn p f = true) ∧ (u.after since (u.cplTimeout p) = true) ∧ (1 ≤ f) ∧ (f ≤ 16) ∧ (i = fetchMark) ∧ (v = u.modFn p f (fun x => { x with ring := { x.ring with fetched := x.ring.fetched + 1 } })) :=
  by
  refine ⟨(wEng.modFn 2 1 (fun x => { x with outstanding := [(4, fetchMark, 0)] })), _, 1000000000000, 2, 1, 4, _, 0, _, rfl, ?_, ?_, ?_, ?_, ?_, rfl, rfl⟩ <;> decide +kernel
theorem w_RingResults_24 : ∃ (s u : State) (t : Nat) (p : ℕ) (f : ℕ) (tag : ℕ) (i : ℕ) (since : ℕ), u = s.tick t ∧ (((u.part p).fn f).outstanding.find? (·.1 == tag) = some (tag, i, since)) ∧ (u.after since (u.cplTimeout p) = false) :=
  by
  refine ⟨(wEng.modFn 2 17 (fun x => { x with outstanding := [(4, 0, 0)] })), _, 0, 2, 17, 4, 0, 0, rfl, ?_, ?_⟩ <;> decide +kernel
theorem w_DescriptorOperations_10 : ∃ (s u : State) (t : Nat) (x : RingPos), u = s.tick t ∧ (u.started x = false) :=
  ⟨(State.reset), _, 0, wAt, rfl, by decide +kernel⟩
theorem w_DescriptorOperations_11 : ∃ (s u : State) (t : Nat) (x : RingPos) (v : Machine.State), u = s.tick t ∧ (u.started x = true) ∧ (u.engineCheck x = (v, false)) :=
  ⟨((wEng.modEngines (fun e => { e with busy := [(0, 2, 1)] })).modFaults (fun f => { f with inject := [0xA4000000#32], injectLeft := [0] })), _, 0, wAt, (((State.tick ((wEng.modEngines (fun e => { e with busy := [(0, 2, 1)] })).modFaults (fun f => { f with inject := [0xA4000000#32], injectLeft := [0] })) 0).engineCheck (wAt)).1), rfl, by decide +kernel, Prod.ext rfl (by decide +kernel)⟩
theorem w_DescriptorOperations_12 : ∃ (s u : State) (t : Nat) (x : RingPos) (v : Machine.State), u = s.tick t ∧ (u.started x = true) ∧ (u.engineCheck x = (v, true)) :=
  ⟨(wEng), _, 0, wAt, (((State.tick (wEng) 0).engineCheck (wAt)).1), rfl, by decide +kernel, Prod.ext rfl (by decide +kernel)⟩
theorem w_DescriptorOperations_13 : ∃ (s u : State) (t : Nat) (x : RingPos) (v : Machine.State), u = s.tick t ∧ (u.started x = true) ∧ (u.engineCheck x = (v, true)) :=
  ⟨(wEng), _, 0, wAt, (((State.tick (wEng) 0).engineCheck (wAt)).1), rfl, by decide +kernel, Prod.ext rfl (by decide +kernel)⟩
theorem w_DescriptorOperations_15 : ∃ (r : ReadResult), ((∀ bs, r ≠ .data bs)) :=
  ⟨.poison, (by intro _ h; cases h)⟩
theorem w_DescriptorOperations_16 : ∃ (d : Descriptor) (e : SgEntry), (1 ≤ d.len) ∧ (e.zeroOk = true) ∧ (d.len ≤ e.len) :=
  by
  refine ⟨({ wOp 3 with aux := 7, len := 4 }), ({ addr := 64, len := 4, zeroOk := true }), ?_, ?_, ?_⟩ <;> decide +kernel
theorem w_DescriptorOperations_17 : ∃ (d : Descriptor) (e : SgEntry), (1 ≤ d.len) ∧ ((e.len = 0 ∨ e.zeroOk = false)) :=
  by
  refine ⟨({ wOp 3 with aux := 7, len := 4 }), ({ addr := 64, len := 0, zeroOk := true }), ?_, ?_⟩ <;> decide +kernel
theorem w_DescriptorOperations_18 : ∃ (s u : State) (t : Nat) (x : RingPos) (d : Descriptor), u = s.tick t ∧ (u.started x = true) ∧ (u.engineCheck x = (u, true)) ∧ (descLegal d 1 { src := true, dst := true } = true) ∧ (1 ≤ d.len) ∧ (d.src + d.len ≤ d.dst) :=
  by
  refine ⟨(wEng), _, 0, wAt, ({ wOp 1 with src := 0, dst := 256, len := 4 }), rfl, ?_, rfl, ?_, ?_, ?_⟩ <;> decide +kernel
theorem w_ReductionResults_3 : ∃ (s u : State) (t : Nat) (x : RingPos) (v : Machine.State), u = s.tick t ∧ (u.started x = true) ∧ (u.engineCheck x = (v, true)) :=
  ⟨(wEng), _, 0, wAt, (((State.tick (wEng) 0).engineCheck (wAt)).1), rfl, by decide +kernel, Prod.ext rfl (by decide +kernel)⟩
theorem w_ReductionResults_4 : ∃ (s u : State) (t : Nat) (x : RingPos) (v : Machine.State), u = s.tick t ∧ (u.started x = true) ∧ (u.engineCheck x = (v, true)) :=
  ⟨(wEng), _, 0, wAt, (((State.tick (wEng) 0).engineCheck (wAt)).1), rfl, by decide +kernel, Prod.ext rfl (by decide +kernel)⟩
theorem w_ReductionResults_5 : ∃ (s u : State) (t : Nat) (c : ℕ) (k : ℕ), u = s.tick t ∧ (((u.redCtx c).valid = false ∨ (u.redCtx c).childN ≤ k)) :=
  ⟨(State.reset), _, 0, 0, 0, rfl, by decide +kernel⟩
theorem w_ReductionResults_6 : ∃ (s u : State) (t : Nat) (c : ℕ) (k : ℕ) (r : ℕ), u = s.tick t ∧ ((u.redCtx c).valid = true) ∧ (k < (u.redCtx c).childN) ∧ (BitVec.ofNat 4 r ≠ (u.redRound c).round) ∧ (BitVec.ofNat 4 r = (u.redRound c).round + 1) :=
  by
  refine ⟨(wRed), _, 0, 0, 0, 1, rfl, ?_, ?_, ?_, ?_⟩ <;> decide +kernel
theorem w_ReductionResults_7 : ∃ (s u : State) (t : Nat) (c : ℕ) (k : ℕ) (r : ℕ), u = s.tick t ∧ ((u.redCtx c).valid = true) ∧ (k < (u.redCtx c).childN) ∧ (BitVec.ofNat 4 r ≠ (u.redRound c).round) ∧ (BitVec.ofNat 4 r ≠ (u.redRound c).round + 1) :=
  by
  refine ⟨(wRed), _, 0, 0, 0, 2, rfl, ?_, ?_, ?_, ?_⟩ <;> decide +kernel
theorem w_ReductionResults_8 : ∃ (s u : State) (t : Nat) (c : ℕ) (k : ℕ) (r : ℕ) (n : ℕ), u = s.tick t ∧ ((u.redCtx c).valid = true) ∧ (k < (u.redCtx c).childN) ∧ (BitVec.ofNat 4 r = (u.redRound c).round) ∧ ((n ∈ (u.redRound c).folded ∨ ((u.redRound c).of ((u.redCtx c).localN + k) n).isSome = true ∨ (u.redCtx c).chunks ≤ n)) :=
  by
  refine ⟨(wRed), _, 0, 0, 0, 0, 9, rfl, ?_, ?_, ?_, ?_⟩ <;> decide +kernel
theorem w_ReductionResults_9 : ∃ (s u : State) (t : Nat) (c : ℕ) (k : ℕ) (r : ℕ) (n : ℕ), u = s.tick t ∧ ((u.redCtx c).valid = true) ∧ (k < (u.redCtx c).childN) ∧ (BitVec.ofNat 4 r = (u.redRound c).round) ∧ (n ∉ (u.redRound c).folded) ∧ ((u.redRound c).of ((u.redCtx c).localN + k) n = none) ∧ (n < (u.redCtx c).chunks) :=
  by
  refine ⟨(wRed), _, 0, 0, 0, 0, 0, rfl, ?_, ?_, ?_, ?_, ?_, ?_⟩ <;> decide +kernel
theorem w_ReductionResults_11 : ∃ (s u : State) (t : Nat) (c : ℕ) (t0 : ℕ), u = s.tick t ∧ ((u.redRound c).started = some t0) ∧ (u.after t0 ((u.redCtx c).timeout * 100000) = true) :=
  by
  refine ⟨(wRed.setRound { wRed.redRound 0 with started := some 0 }), _, 1000000000000, 0, 0, rfl, ?_, ?_⟩ <;> decide +kernel
theorem w_ReductionResults_12 : ∃ (s u : State) (t : Nat) (c : ℕ) (t0 : ℕ), u = s.tick t ∧ ((u.redRound c).started = some t0) ∧ (u.after t0 ((u.redCtx c).timeout * 100000) = false) :=
  by
  refine ⟨(wRed.setRound { wRed.redRound 0 with started := some 0 }), _, 0, 0, 0, rfl, ?_, ?_⟩ <;> decide +kernel
theorem w_ReductionResults_13 : ∃ (s u : State) (t : Nat) (c : ℕ), u = s.tick t ∧ ((u.redRound c).started = none) :=
  ⟨(State.reset), _, 0, 0, rfl, by decide +kernel⟩
theorem w_ReductionResults_14 : ∃ (s u : State) (t : Nat) (c : ℕ) (r : ℕ), u = s.tick t ∧ ((u.redCtx c).valid = true) ∧ ((u.redRound c).round = BitVec.ofNat 4 r) :=
  by
  refine ⟨(wRed), _, 0, 0, 0, rfl, ?_, ?_⟩ <;> decide +kernel
theorem w_ReductionResults_15 : ∃ (s u : State) (t : Nat) (c : ℕ) (r : ℕ), u = s.tick t ∧ ((u.redCtx c).valid = true) ∧ ((u.redRound c).round ≠ BitVec.ofNat 4 r) :=
  by
  refine ⟨(wRed), _, 0, 0, 1, rfl, ?_, ?_⟩ <;> decide +kernel
theorem w_ReductionResults_16 : ∃ (s u : State) (t : Nat) (c : ℕ), u = s.tick t ∧ ((u.redCtx c).valid = false) :=
  ⟨(State.reset), _, 0, 0, rfl, by decide +kernel⟩
theorem w_ReductionResults_17 : ∃ (s u : State) (t : Nat) (x : RingPos) (st : ℕ), u = s.tick t ∧ (u.started x = true) ∧ (st ∈ [0, 1, 2, 3, 4, 5, 7, 8, 9]) :=
  by
  refine ⟨(wEng), _, 0, wAt, 9, rfl, ?_, ?_⟩ <;> decide +kernel
theorem w_ReductionResults_18 : ∃ (s u : State) (t : Nat) (x : RingPos) (st : ℕ), u = s.tick t ∧ ((u.started x = false ∨ st ∉ [0, 1, 2, 3, 4, 5, 7, 8, 9])) :=
  ⟨(State.reset), _, 0, wAt, 9, rfl, by decide +kernel⟩
theorem w_MessageQueueResults_1 : ∃ (s u : State) (t : Nat) (p : ℕ) (m : ℕ) (k : ℕ), u = s.tick t ∧ (u.isMq p m k = false) :=
  ⟨(wEng), _, 0, 2, 8, 0, rfl, by decide +kernel⟩
theorem w_MessageQueueResults_2 : ∃ (s u : State) (t : Nat) (p : ℕ) (m : ℕ) (k : ℕ), u = s.tick t ∧ (u.isMq p m k = true) ∧ (u.power.govLevel ≠ 0) :=
  by
  refine ⟨(wEng.modPower (fun x => { x with govLevel := 1 })), _, 0, 2, 0, 0, rfl, ?_, ?_⟩ <;> decide +kernel
theorem w_MessageQueueResults_3 : ∃ (s u : State) (t : Nat) (p : ℕ) (m : ℕ) (k : ℕ) (tail : BitVec 16) (v : Machine.State), u = s.tick t ∧ (u.isMq p m k = true) ∧ (v = u.modSendQ p (mqFn m) k (fun r => { r with tail := tail })) ∧ (((v.part p).fn (mqFn m)).fld .powerState ≠ 0) :=
  by
  refine ⟨(wEng.modFn 2 17 (fun x => { x with fields := [(.powerState, 3)] })), _, 0, 2, 0, 0, 1, _, rfl, ?_, rfl, ?_⟩ <;> decide +kernel
theorem w_MessageQueueResults_4 : ∃ (s u : State) (t : Nat) (p : ℕ) (m : ℕ) (k : ℕ), u = s.tick t ∧ (u.isMq p m k = false) :=
  ⟨(wEng), _, 0, 2, 8, 0, rfl, by decide +kernel⟩
theorem w_MessageQueueResults_5 : ∃ (s u : State) (t : Nat) (p : ℕ) (m : ℕ) (k : ℕ) (tail : BitVec 16) (v : Machine.State), u = s.tick t ∧ (u.isMq p m k = true) ∧ (v = u.modRecvQ p (mqFn m) k (fun r => { r with tail := tail })) ∧ (((queueOf ((u.part p).fn (mqFn m)).recvQ k).enable = false ∨ ((v.part p).fn (mqFn m)).busMaster = false)) :=
  by
  refine ⟨(wEng), _, 0, 2, 0, 0, 1, _, rfl, ?_, rfl, ?_⟩ <;> decide +kernel
theorem w_MessageQueueResults_6 : ∃ (s u : State) (t : Nat) (p : ℕ) (m : ℕ) (k : ℕ) (tail : BitVec 16) (v : Machine.State) (l : List (ℕ × ℕ)), u = s.tick t ∧ (u.isMq p m k = true) ∧ (v = u.modRecvQ p (mqFn m) k (fun r => { r with tail := tail })) ∧ (l = assocGetD ((u.part p).fn (mqFn m)).posted k []) ∧ ((queueOf ((u.part p).fn (mqFn m)).recvQ k).enable = true) ∧ (((v.part p).fn (mqFn m)).busMaster = true) :=
  by
  refine ⟨(wEng.modFn 2 17 (fun x => { x with busMaster := true, recvQ := [(0, { Ring.reset with enable := true, log2Size := 4 })] })), _, 0, 2, 0, 0, 1, _, _, rfl, ?_, rfl, rfl, ?_, ?_⟩ <;> decide +kernel
theorem w_MessageQueueResults_7 : ∃ (s u : State) (t : Nat) (p : ℕ) (m : ℕ) (k : ℕ) (tail : BitVec 16) (v : Machine.State), u = s.tick t ∧ (u.isMq p m k = true) ∧ (v = u.modSendQ p (mqFn m) k (fun r => { r with tail := tail })) ∧ (u.power.govLevel = 0) ∧ (((v.part p).fn (mqFn m)).fld .powerState = 0) :=
  by
  refine ⟨(wEng), _, 0, 2, 0, 0, 1, _, rfl, ?_, rfl, ?_, ?_⟩ <;> decide +kernel
theorem w_MessageQueueResults_8 : ∃ (s u : State) (t : Nat) (p : ℕ) (d : Datagram), u = s.tick t ∧ ((64 ≤ p ∨ 8 ≤ d.dstFn ∨ 16 ≤ d.dstQueue ∨ u.isHome p = false ∨ (u.part p).fnExists (mqFn d.dstFn) = false ∨ (queueOf ((u.part p).fn (mqFn d.dstFn)).recvQ d.dstQueue).enable = false ∨ ((u.part p).fn (mqFn d.dstFn)).busMaster = false)) :=
  ⟨(State.reset), _, 0, 2, ({ dstCrown := 5, dstFn := 7, dstQueue := 0, srcCrown := 5, srcFn := 0, srcQueue := 0, len := 4, cong := 0, payload := [1, 2, 3, 4] }), rfl, by decide +kernel⟩
theorem w_MessageQueueResults_9 : ∃ (s u : State) (t : Nat) (p : ℕ) (d : Datagram), u = s.tick t ∧ (p < 64) ∧ (d.dstFn < 8) ∧ (d.dstQueue < 16) ∧ (u.isHome p = true) ∧ ((u.part p).fnExists (mqFn d.dstFn) = true) ∧ ((queueOf ((u.part p).fn (mqFn d.dstFn)).recvQ d.dstQueue).enable = true) ∧ (((u.part p).fn (mqFn d.dstFn)).busMaster = true) ∧ (assocGetD ((u.part p).fn (mqFn d.dstFn)).posted d.dstQueue [] = []) :=
  by
  refine ⟨(wEng.modFn 2 17 (fun x => { x with busMaster := true, recvQ := [(0, { Ring.reset with enable := true, log2Size := 4 })], posted := [(0, [])] })), _, 0, 2, ({ dstCrown := 5, dstFn := 0, dstQueue := 0, srcCrown := 5, srcFn := 0, srcQueue := 0, len := 4, cong := 0, payload := [1, 2, 3, 4] }), rfl, ?_, ?_, ?_, ?_, ?_, ?_, ?_, ?_⟩ <;> decide +kernel
theorem w_MessageQueueResults_10 : ∃ (s u : State) (t : Nat) (p : ℕ) (d : Datagram) (a : ℕ) (n : ℕ) (rest : List (ℕ × ℕ)), u = s.tick t ∧ (p < 64) ∧ (d.dstFn < 8) ∧ (d.dstQueue < 16) ∧ (u.isHome p = true) ∧ ((u.part p).fnExists (mqFn d.dstFn) = true) ∧ ((queueOf ((u.part p).fn (mqFn d.dstFn)).recvQ d.dstQueue).enable = true) ∧ (((u.part p).fn (mqFn d.dstFn)).busMaster = true) ∧ (assocGetD ((u.part p).fn (mqFn d.dstFn)).posted d.dstQueue [] = (a, n) :: rest) ∧ (n < d.len) :=
  by
  refine ⟨(wEng.modFn 2 17 (fun x => { x with busMaster := true, recvQ := [(0, { Ring.reset with enable := true, log2Size := 4 })], posted := [(0, [(0, 3)])] })), _, 0, 2, ({ dstCrown := 5, dstFn := 0, dstQueue := 0, srcCrown := 5, srcFn := 0, srcQueue := 0, len := 4, cong := 0, payload := [1, 2, 3, 4] }), 0, 3, ([]), rfl, ?_, ?_, ?_, ?_, ?_, ?_, ?_, ?_, ?_⟩ <;> decide +kernel
theorem w_MessageQueueResults_11 : ∃ (s u : State) (t : Nat) (p : ℕ) (d : Datagram) (a : ℕ) (n : ℕ) (rest : List (ℕ × ℕ)) (q : Machine.Ring) (v : Machine.State) (w : Machine.State), u = s.tick t ∧ (p < 64) ∧ (d.dstFn < 8) ∧ (d.dstQueue < 16) ∧ (u.isHome p = true) ∧ ((u.part p).fnExists (mqFn d.dstFn) = true) ∧ ((queueOf ((u.part p).fn (mqFn d.dstFn)).recvQ d.dstQueue).enable = true) ∧ (((u.part p).fn (mqFn d.dstFn)).busMaster = true) ∧ (assocGetD ((u.part p).fn (mqFn d.dstFn)).posted d.dstQueue [] = (a, n) :: rest) ∧ (d.len ≤ n) ∧ (q = queueOf ((u.part p).fn (mqFn d.dstFn)).recvQ d.dstQueue) ∧ (v = (u.modFn p (mqFn d.dstFn) (fun x => { x with posted := assocPut x.posted d.dstQueue rest })).modRecvQ p (mqFn d.dstFn) d.dstQueue Ring.advance) ∧ (w = (v.issue p (mqFn d.dstFn) .func 6 a (d.payload.take d.len)).issue p (mqFn d.dstFn) .func 6 (q.cplBase + 16 * q.head.toNat) (leBytes 2 d.len ++ leBytes 2 d.srcCrown ++ leBytes 1 d.srcFn ++ leBytes 1 d.srcQueue ++ leBytes 1 ((if d.cong = 3 then 1 else 0) + 2 * q.phase) ++ leBytes 9 0)) :=
  by
  refine ⟨(wEng.modFn 2 17 (fun x => { x with busMaster := true, recvQ := [(0, { Ring.reset with enable := true, log2Size := 4 })], posted := [(0, [(0, 4)])] })), _, 0, 2, ({ dstCrown := 5, dstFn := 0, dstQueue := 0, srcCrown := 5, srcFn := 0, srcQueue := 0, len := 4, cong := 0, payload := [1, 2, 3, 4] }), 0, 4, ([]), _, _, _, rfl, ?_, ?_, ?_, ?_, ?_, ?_, ?_, ?_, ?_, rfl, rfl, rfl⟩ <;> decide +kernel
theorem w_ErrorSignalResults_1 : ∃ (s u : State) (t : Nat) (e : ErrorSig), u = s.tick t ∧ (((∃ x, unitOfSource e.source = some x ∧ u.collectorSilent x = true) ∨ sourceFires e.source = false ∨ 4 < e.cls)) :=
  ⟨(State.reset.modHier (fun h => { h with limbs := h.limbs.set 0 .gated })), _, 0, wSig, rfl, by decide +kernel⟩
theorem w_ErrorSignalResults_2 : ∃ (s u : State) (t : Nat) (e : ErrorSig) (v : Machine.State), u = s.tick t ∧ ((∀ x, unitOfSource e.source = some x → u.collectorSilent x = false)) ∧ (sourceFires e.source = true) ∧ (v = (match e.injSlot with | some k => u.injectHit k | none => u)) ∧ (e.cls < 2) :=
  by
  refine ⟨(State.reset), _, 0, ({ wSig with source := 0xB90, cls := 1 }), _, rfl, ?_, ?_, rfl, ?_⟩ <;> decide +kernel
theorem w_ErrorSignalResults_3 : ∃ (s u : State) (t : Nat) (e : ErrorSig) (v : Machine.State) (x : UnitId), u = s.tick t ∧ ((∀ x, unitOfSource e.source = some x → u.collectorSilent x = false)) ∧ (sourceFires e.source = true) ∧ (v = (match e.injSlot with | some k => u.injectHit k | none => u)) ∧ (e.cls = 2) ∧ (e.unit = some x) ∧ (x ≠ .crown) :=
  by
  refine ⟨(State.reset), _, 0, ({ wSig with source := 0xB90, unit := some (.twig 4) }), _, (.twig 4), rfl, ?_, ?_, rfl, ?_, ?_, ?_⟩ <;> decide +kernel
theorem w_ErrorSignalResults_4 : ∃ (s u : State) (t : Nat) (e : ErrorSig) (v : Machine.State) (p : ℕ), u = s.tick t ∧ ((∀ x, unitOfSource e.source = some x → u.collectorSilent x = false)) ∧ (sourceFires e.source = true) ∧ (v = (match e.injSlot with | some k => u.injectHit k | none => u)) ∧ (e.cls = 2) ∧ (e.unit = none) ∧ (e.part = some p) ∧ (p < 64) :=
  by
  refine ⟨(wHome), _, 0, ({ wSig with source := 0xB90, part := some 2 }), _, 2, rfl, ?_, ?_, rfl, ?_, ?_, ?_, ?_⟩ <;> decide +kernel
theorem w_ErrorSignalResults_5 : ∃ (s u : State) (t : Nat) (e : ErrorSig) (v : Machine.State), u = s.tick t ∧ ((∀ x, unitOfSource e.source = some x → u.collectorSilent x = false)) ∧ (sourceFires e.source = true) ∧ (v = (match e.injSlot with | some k => u.injectHit k | none => u)) ∧ (e.cls = 2) ∧ ((e.unit = some .crown ∨ e.unit = none ∧ ∀ p, e.part = some p → 64 ≤ p)) :=
  by
  refine ⟨(State.reset), _, 0, ({ wSig with source := 0xB90 }), _, rfl, ?_, ?_, rfl, ?_, ?_⟩ <;> decide +kernel
theorem w_ErrorSignalResults_6 : ∃ (s u : State) (t : Nat) (e : ErrorSig) (v : Machine.State), u = s.tick t ∧ ((∀ x, unitOfSource e.source = some x → u.collectorSilent x = false)) ∧ (sourceFires e.source = true) ∧ (v = (match e.injSlot with | some k => u.injectHit k | none => u)) ∧ (e.cls = 3) :=
  by
  refine ⟨(State.reset), _, 0, ({ wSig with source := 0xB90, cls := 3 }), _, rfl, ?_, ?_, rfl, ?_⟩ <;> decide +kernel
theorem w_ErrorSignalResults_7 : ∃ (s u : State) (t : Nat) (e : ErrorSig) (v : Machine.State), u = s.tick t ∧ ((∀ x, unitOfSource e.source = some x → u.collectorSilent x = false)) ∧ (sourceFires e.source = true) ∧ (v = (match e.injSlot with | some k => u.injectHit k | none => u)) ∧ (e.cls = 4) ∧ (e.f4cause = 1) :=
  by
  refine ⟨(State.reset), _, 0, ({ wSig with source := 0xB90, cls := 4, f4cause := 1 }), _, rfl, ?_, ?_, rfl, ?_, ?_⟩ <;> decide +kernel
theorem w_ErrorSignalResults_8 : ∃ (s u : State) (t : Nat) (e : ErrorSig) (v : Machine.State), u = s.tick t ∧ ((∀ x, unitOfSource e.source = some x → u.collectorSilent x = false)) ∧ (sourceFires e.source = true) ∧ (v = (match e.injSlot with | some k => u.injectHit k | none => u)) ∧ (e.cls = 4) ∧ (e.f4cause = 2) :=
  by
  refine ⟨(State.reset), _, 0, ({ wSig with source := 0xB90, cls := 4, f4cause := 2 }), _, rfl, ?_, ?_, rfl, ?_, ?_⟩ <;> decide +kernel
theorem w_ErrorSignalResults_9 : ∃ (s u : State) (t : Nat) (e : ErrorSig) (v : Machine.State), u = s.tick t ∧ ((∀ x, unitOfSource e.source = some x → u.collectorSilent x = false)) ∧ (sourceFires e.source = true) ∧ (v = (match e.injSlot with | some k => u.injectHit k | none => u)) ∧ (e.cls = 4) ∧ (e.f4cause = 3) :=
  by
  refine ⟨(State.reset), _, 0, ({ wSig with source := 0xB90, cls := 4, f4cause := 3 }), _, rfl, ?_, ?_, rfl, ?_, ?_⟩ <;> decide +kernel
theorem w_ErrorSignalResults_10 : ∃ (s u : State) (t : Nat) (e : ErrorSig) (v : Machine.State), u = s.tick t ∧ ((∀ x, unitOfSource e.source = some x → u.collectorSilent x = false)) ∧ (sourceFires e.source = true) ∧ (v = (match e.injSlot with | some k => u.injectHit k | none => u)) ∧ (e.cls = 4) ∧ ((e.f4cause = 0 ∨ 3 < e.f4cause)) :=
  by
  refine ⟨(State.reset), _, 0, ({ wSig with source := 0xB90, cls := 4 }), _, rfl, ?_, ?_, rfl, ?_, ?_⟩ <;> decide +kernel
theorem w_ErrorSignalResults_11 : ∃ (s u : State) (t : Nat) (x : UnitId), u = s.tick t ∧ (u.collectorSilent x = true) :=
  ⟨(State.reset.modHier (fun h => { h with limbs := h.limbs.set 0 .gated })), _, 0, (.limb 0), rfl, by decide +kernel⟩
theorem w_ErrorSignalResults_12 : ∃ (s u : State) (t : Nat) (x : ℕ), u = s.tick t ∧ (u.collectorSilent (.twig x) = false) :=
  ⟨(State.reset), _, 0, 2, rfl, by decide +kernel⟩
theorem w_ErrorSignalResults_13 : ∃ (s u : State) (t : Nat) (x : ℕ), u = s.tick t ∧ (u.collectorSilent (.bough x) = false) :=
  ⟨(State.reset), _, 0, 2, rfl, by decide +kernel⟩
theorem w_ErrorSignalResults_14 : ∃ (s u : State) (t : Nat) (x : ℕ), u = s.tick t ∧ (u.collectorSilent (.limb x) = false) :=
  ⟨(State.reset), _, 0, 2, rfl, by decide +kernel⟩
theorem w_ErrorSignalResults_15 : ∃ (s u : State) (t : Nat) (x : ℕ), u = s.tick t ∧ (u.collectorSilent (.die x) = false) :=
  ⟨(State.reset), _, 0, 2, rfl, by decide +kernel⟩
theorem w_ErrorSignalResults_18 : ∃ (s u : State) (t : Nat), u = s.tick t ∧ (u.faults.f1Second ≠ u.second) :=
  ⟨(State.reset), _, 1000000000, rfl, by decide +kernel⟩
theorem w_ErrorSignalResults_19 : ∃ (s u : State) (t : Nat), u = s.tick t ∧ (u.faults.f1Second = u.second) :=
  ⟨(State.reset), _, 0, rfl, by decide +kernel⟩
theorem w_ErrorSignalResults_20 : ∃ (s u : State) (t : Nat), u = s.tick t ∧ (u.faults.violSecond ≠ u.second) :=
  ⟨(State.reset), _, 1000000000, rfl, by decide +kernel⟩
theorem w_ErrorSignalResults_21 : ∃ (s u : State) (t : Nat), u = s.tick t ∧ (u.faults.violSecond = u.second) :=
  ⟨(State.reset), _, 0, rfl, by decide +kernel⟩
theorem w_FaultWindows_1 : ∃ (s u : State) (t : Nat) (seq : BitVec 15) (h : HistEntry) (w : ℕ) (x : UnitId), u = s.tick t ∧ (u.histEntry seq = some h) ∧ (h.window = some w) ∧ (h.cls = 2) ∧ (w ≤ u.now) ∧ (h.unit = some x) ∧ (1 ≤ h.action) ∧ (h.action ≤ 4) ∧ (x.up ≠ .crown) ∧ (ceilingCode x.up ≤ u.getDef Key.F2_CEILING 4) :=
  by
  refine ⟨(State.reset.modFaults (fun f => { f with history := [wHist] })), _, 0, 1, wHist, 0, (.twig 4), rfl, ?_, ?_, ?_, ?_, ?_, ?_, ?_, ?_, ?_⟩ <;> decide +kernel
theorem w_FaultWindows_2 : ∃ (s u : State) (t : Nat) (seq : BitVec 15) (h : HistEntry) (w : ℕ) (x : UnitId), u = s.tick t ∧ (u.histEntry seq = some h) ∧ (h.window = some w) ∧ (h.cls = 2) ∧ (w ≤ u.now) ∧ (h.unit = some x) ∧ (1 ≤ h.action) ∧ (h.action ≤ 4) ∧ (x.up = .crown) ∧ (ceilingCode x.up ≤ u.getDef Key.F2_CEILING 4) :=
  by
  refine ⟨((State.reset.modFaults (fun f => { f with history := [{ wHist with unit := some (.die 1), action := 4 }] })).set Key.F2_CEILING 5), _, 0, 1, ({ wHist with unit := some (.die 1), action := 4 }), 0, (.die 1), rfl, ?_, ?_, ?_, ?_, ?_, ?_, ?_, ?_, ?_⟩ <;> decide +kernel
theorem w_FaultWindows_3 : ∃ (s u : State) (t : Nat) (seq : BitVec 15) (h : HistEntry) (w : ℕ) (x : UnitId), u = s.tick t ∧ (u.histEntry seq = some h) ∧ (h.window = some w) ∧ (h.cls = 2) ∧ (w ≤ u.now) ∧ (h.unit = some x) ∧ ((h.action = 0 ∨ 4 < h.action)) :=
  by
  refine ⟨(State.reset.modFaults (fun f => { f with history := [{ wHist with action := 0 }] })), _, 0, 1, ({ wHist with action := 0 }), 0, (.twig 4), rfl, ?_, ?_, ?_, ?_, ?_, ?_⟩ <;> decide +kernel
theorem w_FaultWindows_4 : ∃ (s u : State) (t : Nat) (seq : BitVec 15) (h : HistEntry) (w : ℕ) (x : UnitId), u = s.tick t ∧ (u.histEntry seq = some h) ∧ (h.window = some w) ∧ (h.cls = 2) ∧ (w ≤ u.now) ∧ (h.unit = some x) ∧ (1 ≤ h.action) ∧ (h.action ≤ 4) ∧ (u.getDef Key.F2_CEILING 4 < ceilingCode x.up) :=
  by
  refine ⟨((State.reset.modFaults (fun f => { f with history := [wHist] })).set Key.F2_CEILING 1), _, 0, 1, wHist, 0, (.twig 4), rfl, ?_, ?_, ?_, ?_, ?_, ?_, ?_, ?_⟩ <;> decide +kernel
theorem w_FaultWindows_5 : ∃ (s u : State) (t : Nat) (seq : BitVec 15) (h : HistEntry) (w : ℕ), u = s.tick t ∧ (u.histEntry seq = some h) ∧ (h.window = some w) ∧ (h.cls = 2) ∧ (w ≤ u.now) ∧ (h.unit = none) :=
  by
  refine ⟨(State.reset.modFaults (fun f => { f with history := [{ wHist with unit := none }] })), _, 0, 1, ({ wHist with unit := none }), 0, rfl, ?_, ?_, ?_, ?_, ?_⟩ <;> decide +kernel
theorem w_FaultWindows_6 : ∃ (s u : State) (t : Nat) (seq : BitVec 15), u = s.tick t ∧ ((∀ h w, u.histEntry seq = some h → h.window = some w → h.cls ≠ 2 ∨ u.now < w)) :=
  ⟨(State.reset.modFaults (fun f => { f with history := [{ wHist with window := some 5 }] })), _, 0, 1, rfl, (fun h w e f => by have e2 : some { wHist with window := some 5 } = some h := e; cases e2; cases f; exact .inr (by decide +kernel))⟩
theorem w_FaultWindows_7 : ∃ (s u : State) (t : Nat) (h : HistEntry) (w : ℕ), u = s.tick t ∧ (u.f3Entry = some h) ∧ (h.window = some w) ∧ (w ≤ u.now) ∧ (u.faults.crown = .f3Open) :=
  by
  refine ⟨(State.reset.modFaults (fun f => { f with crown := .f3Open, history := [{ wHist with cls := 3 }] })), _, 0, ({ wHist with cls := 3 }), 0, rfl, ?_, ?_, ?_, ?_⟩ <;> decide +kernel
theorem w_FaultWindows_8 : ∃ (s u : State) (t : Nat), u = s.tick t ∧ ((∀ h w, u.f3Entry = some h → h.window = some w → u.faults.crown ≠ .f3Open ∨ u.now < w)) :=
  ⟨(State.reset), _, 0, rfl, fun _ _ _ _ => .inl (by decide +kernel)⟩
theorem w_FaultWindows_9 : ∃ (s u : State) (t : Nat) (who : Role) (seq : BitVec 15) (h : HistEntry) (v : Machine.State), u = s.tick t ∧ (((∃ k, who = .installer k) ∨ ∃ p, who = .operator p ∧ u.operatorMayAck p h = true)) ∧ (u.histEntry seq = some h) ∧ (h.ackOpen u.now = true) ∧ (h.cls ≠ 4) ∧ (v = (u.closeWindow seq).countHeart 0x3B3 1) :=
  by
  refine ⟨(State.reset.modFaults (fun f => { f with history := [{ wHist with window := some 5 }] })), _, 0, (.installer 0), 1, ({ wHist with window := some 5 }), _, rfl, .inl ⟨0, rfl⟩, ?_, ?_, ?_, rfl⟩ <;> decide +kernel
theorem w_FaultWindows_10 : ∃ (s u : State) (t : Nat) (p : ℕ) (seq : BitVec 15) (h : HistEntry), u = s.tick t ∧ (u.histEntry seq = some h) ∧ (u.operatorMayAck p h = false) :=
  by
  refine ⟨(State.reset.modFaults (fun f => { f with history := [{ wHist with window := some 5 }] })), _, 0, 2, 1, ({ wHist with window := some 5 }), rfl, ?_, ?_⟩ <;> decide +kernel
theorem w_FaultWindows_11 : ∃ (who : Role), ((∀ k, who ≠ .installer k)) ∧ ((∀ p, who ≠ .operator p)) :=
  ⟨.anonymous, (by intro _ h; cases h), (by intro _ h; cases h)⟩
theorem w_FaultWindows_12 : ∃ (s u : State) (t : Nat) (seq : BitVec 15), u = s.tick t ∧ ((∀ h, u.histEntry seq = some h → h.ackOpen u.now = false ∨ h.cls = 4)) :=
  ⟨(State.reset), _, 0, 1, rfl, by decide +kernel⟩
theorem w_ContainmentOfPartitions_1 : ∃ (s u : State) (t : Nat) (p : ℕ), u = s.tick t ∧ (p < 64) ∧ (u.partUsed p = true) :=
  by
  refine ⟨(wHome), _, 0, 2, rfl, ?_, ?_⟩ <;> decide +kernel
theorem w_ContainmentOfPartitions_2 : ∃ (s u : State) (t : Nat) (p : ℕ), u = s.tick t ∧ (p < 64) ∧ (u.partUsed p = true) :=
  by
  refine ⟨(wHome), _, 0, 2, rfl, ?_, ?_⟩ <;> decide +kernel
theorem w_ContainmentOfPartitions_3 : ∃ (who : Role) (p : ℕ), ((∀ k, who ≠ .installer k)) ∧ (who ≠ .operator p) :=
  ⟨(.operator 1), 2, (by intro _ h; cases h), by decide +kernel⟩
theorem w_ContainmentOfPartitions_4 : ∃ (s u : State) (t : Nat) (p : ℕ), u = s.tick t ∧ ((64 ≤ p ∨ u.partUsed p = false)) :=
  ⟨(State.reset), _, 0, 2, rfl, by decide +kernel⟩
theorem w_ContainmentOfPartitions_5 : ∃ (s u : State) (t : Nat) (p : ℕ) (v : Machine.State), u = s.tick t ∧ (p < 64) ∧ (u.resetsBarred = false) ∧ ((u.part p).state = .contained) ∧ (v = u.modPart p (fun x => { x with state := if u.causeHolds p then .held else .active, causeOn := u.causeHolds p, installerHeld := false, messageHeld := none })) ∧ ((u.part p).messageHeld = none) :=
  by
  refine ⟨(wHome.modPart 2 (fun x => { x with state := .contained })), _, 0, 2, _, rfl, ?_, ?_, ?_, rfl, ?_⟩ <;> decide +kernel
theorem w_ContainmentOfPartitions_6 : ∃ (s u : State) (t : Nat) (p : ℕ) (c : ℕ) (v : Machine.State), u = s.tick t ∧ (p < 64) ∧ (u.resetsBarred = false) ∧ ((u.part p).state = .contained) ∧ (v = u.modPart p (fun x => { x with state := if u.causeHolds p then .held else .active, causeOn := u.causeHolds p, installerHeld := false, messageHeld := none })) ∧ ((u.part p).messageHeld = some c) :=
  by
  refine ⟨(State.reset.modPart 3 (fun x => { x with state := .contained, messageHeld := some 6 })), _, 0, 3, 6, _, rfl, ?_, ?_, ?_, rfl, ?_⟩ <;> decide +kernel
theorem w_ContainmentOfPartitions_7 : ∃ (who : Role), (who.isInstaller = false) :=
  ⟨(.operator 2), by decide +kernel⟩
theorem w_ContainmentOfPartitions_8 : ∃ (s u : State) (t : Nat) (p : ℕ), u = s.tick t ∧ ((64 ≤ p ∨ u.resetsBarred = true ∨ (u.part p).state ≠ .contained)) :=
  ⟨(State.reset.modFaults (fun f => { f with crown := .f3Acked })), _, 0, 2, rfl, by decide +kernel⟩
theorem w_ContainmentOfPartitions_9 : ∃ (s u : State) (t : Nat) (m : ContainMsg) (v : Machine.State), u = s.tick t ∧ (m.reporter ≠ u.crownId) ∧ ((∀ k, assocGet u.fabric.containSeen m.reporter = some k → newer16 m.number k = true)) ∧ (((m.kind ≠ 1 ∧ m.kind ≠ 3) ∨ isT m.twig = false ∨ (∀ r p, r < 16 → (u.trunk r).peer = some p → p.1 ≠ m.reporter) ∨ (∃ r, r < 16 ∧ (u.trunk r).peer = some (m.reporter, trunkOfG m.twig)))) ∧ (v = u.modFabric (fun f => { f with containSeen := assocPut f.containSeen m.reporter m.number })) :=
  ⟨(wHome), _, 0, ({ reporter := 6, kind := 2, contained := true, twig := 0, gpart := 9, number := 1, ft := 0 }), _, rfl, by decide +kernel, (by intro _ h; cases (show (none : Option _) = some _ from h)), (by exact .inl (by decide)), rfl⟩
theorem w_ContainmentOfPartitions_10 : ∃ (s u : State) (t : Nat) (m : ContainMsg), u = s.tick t ∧ (m.reporter ≠ u.crownId) ∧ ((∀ k, assocGet u.fabric.containSeen m.reporter = some k → newer16 m.number k = true)) ∧ ((m.kind = 1 ∨ m.kind = 3)) ∧ (isT m.twig = true) ∧ ((∃ r p, r < 16 ∧ (u.trunk r).peer = some p ∧ p.1 = m.reporter)) ∧ ((∀ r, r < 16 → (u.trunk r).peer ≠ some (m.reporter, trunkOfG m.twig))) :=
  by
  refine ⟨(wHome.modTrunk 5 (fun k => { k with peer := some (6, 7) })), _, 0, ({ reporter := 6, kind := 1, contained := true, twig := gOfTrunk 3, gpart := 9, number := 1, ft := 0 }), rfl, ?_, (by intro _ h; cases (show (none : Option _) = some _ from h)), ?_, ?_, (by exact ⟨5, (6, 7), by decide, rfl, rfl⟩), ?_⟩ <;> decide +kernel
theorem w_ContainmentOfPartitions_11 : ∃ (s u : State) (t : Nat) (m : ContainMsg) (k : Seq16), u = s.tick t ∧ (assocGet u.fabric.containSeen m.reporter = some k) ∧ (newer16 m.number k = false) :=
  by
  refine ⟨(wHome.modFabric (fun f => { f with containSeen := [(6, 1)] })), _, 0, ({ reporter := 6, kind := 2, contained := true, twig := 0, gpart := 9, number := 1, ft := 0 }), 1, rfl, ?_, ?_⟩ <;> decide +kernel
theorem w_ContainmentOfPartitions_12 : ∃ (s u : State) (t : Nat) (m : ContainMsg), u = s.tick t ∧ (m.reporter = u.crownId) :=
  ⟨(wHome), _, 0, ({ reporter := 5, kind := 2, contained := true, twig := 0, gpart := 9, number := 1, ft := 0 }), rfl, by decide +kernel⟩
theorem w_InjectionAndDebug_1 : ∃ (n : ℕ) (v : ℕ), (n < 16) ∧ (v < 2 ^ 32) ∧ (injectLegal v = true) :=
  by
  refine ⟨0, 0xC09D0000, ?_, ?_, ?_⟩ <;> decide +kernel
theorem w_InjectionAndDebug_2 : ∃ (who : Role) (n : ℕ) (v : ℕ), ((who.isInstaller = false ∨ 16 ≤ n ∨ 2 ^ 32 ≤ v ∨ injectLegal v = false)) :=
  ⟨(.installer 0), 0, 0xF09D0000, by decide +kernel⟩
theorem w_InjectionAndDebug_3 : ∃ (n : ℕ), (n < 16) :=
  ⟨0, by decide +kernel⟩
theorem w_InjectionAndDebug_4 : ∃ (who : Role) (n : ℕ), ((who.isInstaller = false ∨ 16 ≤ n)) :=
  ⟨(.operator 2), 0, by decide +kernel⟩
theorem w_InjectionAndDebug_7 : ∃ (s u : State) (t : Nat), u = s.tick t ∧ (u.faults.debugShut = true) :=
  ⟨(State.reset.modFaults (fun f => { f with debugShut := true })), _, 0, rfl, by decide +kernel⟩
theorem w_InjectionAndDebug_8 : ∃ (s u : State) (t : Nat), u = s.tick t ∧ (u.faults.debugShut = false) :=
  ⟨(State.reset), _, 0, rfl, by decide +kernel⟩
theorem w_InjectionAndDebug_9 : ∃ (s u : State) (t : Nat), u = s.tick t ∧ ((u.debugBit 30 = false ∨ u.faults.debugShut = true)) :=
  ⟨(State.reset), _, 0, rfl, by decide +kernel⟩
theorem w_InjectionAndDebug_10 : ∃ (s u : State) (t : Nat), u = s.tick t ∧ (u.debugBit 30 = true) ∧ (u.faults.debugShut = false) :=
  by
  refine ⟨(State.reset.set Key.DEBUG_POLICY (2 ^ 30)), _, 0, rfl, ?_, ?_⟩ <;> decide +kernel
theorem w_InjectionAndDebug_11 : ∃ (s u : State) (t : Nat), u = s.tick t ∧ ((u.debugBit 31 = false ∨ u.faults.debugShut = true)) :=
  ⟨(State.reset), _, 0, rfl, by decide +kernel⟩
theorem w_InjectionAndDebug_12 : ∃ (s u : State) (t : Nat), u = s.tick t ∧ (u.debugBit 31 = true) ∧ (u.faults.debugShut = false) :=
  by
  refine ⟨(State.reset.set Key.DEBUG_POLICY (2 ^ 31)), _, 0, rfl, ?_, ?_⟩ <;> decide +kernel
theorem w_InjectionAndDebug_13 : ∃ (s u : State) (t : Nat), u = s.tick t ∧ (u.faults.debugInstr ≠ .dbgAccess) :=
  ⟨(State.reset), _, 0, rfl, by decide +kernel⟩
theorem w_InjectionAndDebug_14 : ∃ (s u : State) (t : Nat) (cmd : BitVec 96), u = s.tick t ∧ (u.faults.debugInstr = .dbgAccess) ∧ ((u.faults.debugShut = true ∨ u.debugBit 31 = false ∨ field cmd.toNat 80 64 ≠ 0 ∨ field cmd.toNat 63 0 % 8 ≠ 0 ∨ 0x9C < field cmd.toNat 95 88)) :=
  by
  refine ⟨(State.reset.modFaults (fun f => { f with debugInstr := .dbgAccess })), _, 0, 1, rfl, ?_, ?_⟩ <;> decide +kernel
theorem w_InjectionAndDebug_15 : ∃ (s u : State) (t : Nat) (cmd : BitVec 96), u = s.tick t ∧ (u.faults.debugInstr = .dbgAccess) ∧ (u.faults.debugShut = false) ∧ (u.debugBit 31 = true) ∧ (field cmd.toNat 95 88 ≤ 0x9C) ∧ (field cmd.toNat 80 64 = 0) ∧ (field cmd.toNat 63 0 % 8 = 0) :=
  by
  refine ⟨((State.reset.set Key.DEBUG_POLICY (2 ^ 31)).modFaults (fun f => { f with debugInstr := .dbgAccess })), _, 0, 0, rfl, ?_, ?_, ?_, ?_, ?_, ?_⟩ <;> decide +kernel
theorem w_RequestsServed_1 : ∃ (s u : State) (t : Nat) (r : Req) (c : Caller) (i : ℕ) (a : ℕ) (b : ℕ), u = s.tick t ∧ (u.Heard r) ∧ ((u.sigCounted r).authenticate r = .known c) ∧ ((i < 65536 ∧ a ≤ b ∧ b < 256)) ∧ (c.may Op.read i = true) :=
  by
  refine ⟨(wClaimed), _, 0, wSess, wSessCaller, 4096, 0, 1, rfl, by unfold Machine.State.Heard; decide +kernel, ?_, ?_, ?_⟩ <;> decide +kernel
theorem w_RequestsServed_2 : ∃ (s u : State) (t : Nat) (r : Req) (c : Caller) (i : ℕ) (n : ℕ) (ty : ℕ) (v : ℕ) (len : ℕ), u = s.tick t ∧ (u.Heard r) ∧ ((u.sigCounted r).authenticate r = .known c) ∧ ((i < 65536 ∧ n < 256 ∧ formOk ty v len = true)) ∧ (c.may Op.write i = true) :=
  by
  refine ⟨(wClaimed), _, 0, wReq, wInst, 0x1030, 1, 1, 0, 1, rfl, by unfold Machine.State.Heard; decide +kernel, ?_, ?_, ?_⟩ <;> decide +kernel
theorem w_RequestsServed_3 : ∃ (s u : State) (t : Nat) (r : Req) (c : Caller), u = s.tick t ∧ (u.Heard r) ∧ ((u.sigCounted r).authenticate r = .known c) ∧ (c.may Op.write 0xE030 = true) :=
  by
  refine ⟨(wClaimed), _, 0, wReq, wInst, rfl, by unfold Machine.State.Heard; decide +kernel, ?_, ?_⟩ <;> decide +kernel
theorem w_RequestsServed_4 : ∃ (s u : State) (t : Nat) (r : Req) (c : Caller), u = s.tick t ∧ (u.Heard r) ∧ ((u.sigCounted r).authenticate r = .known c) ∧ (c.may Op.openSet 0 = true) :=
  by
  refine ⟨(wClaimed), _, 0, wReq, wInst, rfl, by unfold Machine.State.Heard; decide +kernel, ?_, ?_⟩ <;> decide +kernel
theorem w_RequestsServed_5 : ∃ (s u : State) (t : Nat) (r : Req) (c : Caller) (i : ℕ) (n : ℕ) (ty : ℕ) (v : ℕ) (len : ℕ), u = s.tick t ∧ (u.Heard r) ∧ ((u.sigCounted r).authenticate r = .known c) ∧ ((i < 65536 ∧ n < 256 ∧ formOk ty v len = true)) ∧ (c.may Op.stage i = true) :=
  by
  refine ⟨(wClaimed), _, 0, wReq, wInst, 0x1030, 1, 1, 0, 1, rfl, by unfold Machine.State.Heard; decide +kernel, ?_, ?_, ?_⟩ <;> decide +kernel
theorem w_RequestsServed_6 : ∃ (s u : State) (t : Nat) (r : Req) (c : Caller), u = s.tick t ∧ (u.Heard r) ∧ ((u.sigCounted r).authenticate r = .known c) ∧ (c.may Op.commit 0 = true) :=
  by
  refine ⟨(wClaimed), _, 0, wReq, wInst, rfl, by unfold Machine.State.Heard; decide +kernel, ?_, ?_⟩ <;> decide +kernel
theorem w_RequestsServed_7 : ∃ (s u : State) (t : Nat) (r : Req) (c : Caller), u = s.tick t ∧ (u.Heard r) ∧ ((u.sigCounted r).authenticate r = .known c) ∧ (c.may Op.cancelSet 0 = true) :=
  by
  refine ⟨(wClaimed), _, 0, wReq, wInst, rfl, by unfold Machine.State.Heard; decide +kernel, ?_, ?_⟩ <;> decide +kernel
theorem w_RequestsServed_8 : ∃ (s u : State) (t : Nat) (r : Req) (c : Caller), u = s.tick t ∧ (u.Heard r) ∧ ((u.sigCounted r).authenticate r = .known c) ∧ (c.may Op.setStatus 0 = true) :=
  by
  refine ⟨(wClaimed), _, 0, wReq, wInst, rfl, by unfold Machine.State.Heard; decide +kernel, ?_, ?_⟩ <;> decide +kernel
theorem w_RequestsServed_9 : ∃ (s u : State) (t : Nat) (r : Req) (c : Caller), u = s.tick t ∧ (u.Heard r) ∧ ((u.sigCounted r).authenticate r = .known c) ∧ (c.may Op.openSession 0 = true) :=
  by
  refine ⟨(wClaimed), _, 0, wReq, wInst, rfl, by unfold Machine.State.Heard; decide +kernel, ?_, ?_⟩ <;> decide +kernel
theorem w_RequestsServed_10 : ∃ (s u : State) (t : Nat) (r : Req) (c : Caller), u = s.tick t ∧ (u.Heard r) ∧ ((u.sigCounted r).authenticate r = .known c) ∧ (c.may Op.closeSession 0 = true) :=
  by
  refine ⟨(wClaimed), _, 0, wSess, wSessCaller, rfl, by unfold Machine.State.Heard; decide +kernel, ?_, ?_⟩ <;> decide +kernel
theorem w_RequestsServed_11 : ∃ (s u : State) (t : Nat) (r : Req) (c : Caller), u = s.tick t ∧ (u.Heard r) ∧ ((u.sigCounted r).authenticate r = .known c) ∧ (c.may Op.subscribe 0 = true) :=
  by
  refine ⟨(wClaimed), _, 0, wSess, wSessCaller, rfl, by unfold Machine.State.Heard; decide +kernel, ?_, ?_⟩ <;> decide +kernel
theorem w_RequestsServed_12 : ∃ (s u : State) (t : Nat) (r : Req) (c : Caller), u = s.tick t ∧ (u.Heard r) ∧ ((u.sigCounted r).authenticate r = .known c) ∧ (c.may Op.subscribe 0 = true) :=
  by
  refine ⟨(wClaimed), _, 0, wSess, wSessCaller, rfl, by unfold Machine.State.Heard; decide +kernel, ?_, ?_⟩ <;> decide +kernel
theorem w_RequestsServed_13 : ∃ (s u : State) (t : Nat) (r : Req) (c : Caller), u = s.tick t ∧ (u.Heard r) ∧ ((u.sigCounted r).authenticate r = .known c) ∧ (c.may Op.journalRead 0 = true) :=
  by
  refine ⟨(wClaimed), _, 0, wSess, wSessCaller, rfl, by unfold Machine.State.Heard; decide +kernel, ?_, ?_⟩ <;> decide +kernel
theorem w_RequestsAnsweredUnserved_14 : ∃ (s u : State) (t : Nat) (i : Instr) (r : Req) (op : ℕ) (ix : ℕ) (sub : ℕ), u = s.tick t ∧ (requestOf i = some (r, op, ix, sub)) ∧ (u.takes r.via = false) ∧ ((∀ c, r.via ≠ .inBand c)) :=
  by
  refine ⟨(State.reset.modPower (fun x => { x with ref25 := false })), _, 0, (.journalRead 0 wReq 0 4), wReq, Op.journalRead, 0, 0, rfl, ?_, ?_, (by intro _ h; cases h)⟩ <;> decide +kernel
theorem w_RequestsAnsweredUnserved_15 : ∃ (s u : State) (t : Nat) (i : Instr) (r : Req) (op : ℕ) (ix : ℕ) (sub : ℕ) (c : ℕ), u = s.tick t ∧ (requestOf i = some (r, op, ix, sub)) ∧ (u.takes r.via = false) ∧ (r.via = .inBand c) ∧ (u.managed = true) ∧ (u.get Key.BOCEL_GPART = 0xFFFF) :=
  by
  refine ⟨(State.reset), _, 0, (.journalRead 0 { wReq with via := .inBand 6 } 0 4), ({ wReq with via := .inBand 6 }), Op.journalRead, 0, 0, 6, rfl, ?_, ?_, ?_, ?_, ?_⟩ <;> decide +kernel
theorem w_RequestsAnsweredUnserved_16 : ∃ (s u : State) (t : Nat) (i : Instr) (r : Req) (op : ℕ) (ix : ℕ) (sub : ℕ), u = s.tick t ∧ (requestOf i = some (r, op, ix, sub)) ∧ (u.takes r.via = true) ∧ (r.target ≠ 0xFFFF) ∧ (r.target ≠ u.crownId) :=
  by
  refine ⟨(wHome), _, 0, (.journalRead 0 { wReq with target := 6 } 0 4), ({ wReq with target := 6 }), Op.journalRead, 0, 0, rfl, ?_, ?_, ?_, ?_⟩ <;> decide +kernel
theorem w_RequestsAnsweredUnserved_17 : ∃ (s u : State) (t : Nat) (i : Instr) (r : Req) (op : ℕ) (ix : ℕ) (sub : ℕ) (c : ℕ), u = s.tick t ∧ (requestOf i = some (r, op, ix, sub)) ∧ (u.takes r.via = true) ∧ (r.target = 0xFFFF ∨ r.target = u.crownId) ∧ (r.via = .inBand c) ∧ (u.fabric.bridge ≠ []) :=
  by
  refine ⟨((wHome.set Key.BOCEL_GPART 9).modFabric (fun f => { f with bridge := [wBridge] })), _, 0, (.journalRead 0 { wReq with via := .inBand 6 } 0 4), ({ wReq with via := .inBand 6 }), Op.journalRead, 0, 0, 6, rfl, ?_, ?_, ?_, ?_, ?_⟩ <;> decide +kernel
theorem w_RequestsAnsweredUnserved_18 : ∃ (s u : State) (t : Nat) (i : Instr) (r : Req) (op : ℕ) (ix : ℕ) (sub : ℕ), u = s.tick t ∧ (requestOf i = some (r, op, ix, sub)) ∧ (u.takes r.via = true) ∧ (r.target = 0xFFFF ∨ r.target = u.crownId) ∧ ((u.fabric.bridge = [] ∨ ∀ c, r.via ≠ .inBand c)) ∧ ((u.serving = true ∨ u.bocel.queue ≠ [])) ∧ (u.bocel.queue.length < 64) :=
  by
  refine ⟨(wBusy), _, 0, (.journalRead 0 wReq 0 4), wReq, Op.journalRead, 0, 0, rfl, ?_, ?_, ?_, .inl (by decide +kernel), ?_, ?_⟩ <;> decide +kernel
theorem w_RequestsAnsweredUnserved_19 : ∃ (s u : State) (t : Nat) (i : Instr) (r : Req) (op : ℕ) (ix : ℕ) (sub : ℕ), u = s.tick t ∧ (requestOf i = some (r, op, ix, sub)) ∧ (u.takes r.via = true) ∧ (r.target = 0xFFFF ∨ r.target = u.crownId) ∧ ((u.fabric.bridge = [] ∨ ∀ c, r.via ≠ .inBand c)) ∧ (64 ≤ u.bocel.queue.length) :=
  by
  refine ⟨(wBusy.modBocel (fun b => { b with queue := List.replicate 64 (.closeSession 0 wReq) })), _, 0, (.journalRead 0 wReq 0 4), wReq, Op.journalRead, 0, 0, rfl, ?_, ?_, ?_, .inl (by decide +kernel), ?_⟩ <;> decide +kernel
theorem w_RequestsAnsweredUnserved_20 : ∃ (s u : State) (t : Nat) (i : Instr) (r : Req) (op : ℕ) (ix : ℕ) (sub : ℕ), u = s.tick t ∧ (requestOf i = some (r, op, ix, sub)) ∧ (u.takes r.via = true) ∧ (r.target = 0xFFFF ∨ r.target = u.crownId) ∧ ((u.fabric.bridge = [] ∨ ∀ c, r.via ≠ .inBand c)) ∧ (u.serving = false) ∧ (u.bocel.queue = []) :=
  by
  refine ⟨(wHome), _, 0, (.journalRead 0 wReq 0 4), wReq, Op.journalRead, 0, 0, rfl, ?_, ?_, ?_, .inl (by decide +kernel), ?_, ?_⟩ <;> decide +kernel
theorem w_RequestsAnsweredUnserved_21 : ∃ (i : Instr) (r : Req) (op : ℕ) (ix : ℕ) (sub : ℕ), (requestOf i = some (r, op, ix, sub)) ∧ ((r.wellFormed = false ∨ bodyOk i = false)) :=
  by
  refine ⟨(.journalRead 0 { wReq with wellFormed := false } 0 4), ({ wReq with wellFormed := false }), Op.journalRead, 0, 0, ?_, ?_⟩ <;> decide +kernel
theorem w_RequestsAnsweredUnserved_22 : ∃ (s u : State) (t : Nat) (i : Instr) (r : Req) (op : ℕ) (ix : ℕ) (sub : ℕ) (st : ℕ), u = s.tick t ∧ (requestOf i = some (r, op, ix, sub)) ∧ (r.wellFormed = true) ∧ (bodyOk i = true) ∧ ((u.sigCounted r).authenticate r = .refused st) :=
  by
  refine ⟨(wClaimed), _, 0, (.journalRead 0 { wReq with sig := some { keyId := 0x2000, keySeq := 1, key := 9, digest := 0 } } 0 4), ({ wReq with sig := some { keyId := 0x2000, keySeq := 1, key := 9, digest := 0 } }), Op.journalRead, 0, 0, Status.authFailed, rfl, ?_, ?_, ?_, ?_⟩ <;> decide +kernel
theorem w_RequestsAnsweredUnserved_23 : ∃ (s u : State) (t : Nat) (r : Req) (b : SigBlock), u = s.tick t ∧ (r.sig = some b) ∧ (u.sigGood b = false) :=
  by
  refine ⟨(wClaimed), _, 0, ({ wReq with sig := some { keyId := 0x2000, keySeq := 1, key := 9, digest := 0 } }), ({ keyId := 0x2000, keySeq := 1, key := 9, digest := 0 }), rfl, ?_, ?_⟩ <;> decide +kernel
theorem w_RequestsAnsweredUnserved_24 : ∃ (s u : State) (t : Nat) (r : Req) (m : MacBlock), u = s.tick t ∧ (r.mac = some m) ∧ (u.macSession m = none) :=
  by
  refine ⟨(State.reset), _, 0, ({ wSess with mac := some { session := 99, sessionSeq := 1, ok := true } }), ({ session := 99, sessionSeq := 1, ok := true }), rfl, ?_, ?_⟩ <;> decide +kernel
theorem w_RequestsAnsweredUnserved_25 : ∃ (s u : State) (t : Nat) (r : Req) (b : SigBlock), u = s.tick t ∧ (r.sig = some b) ∧ (u.sigGood b = true) ∧ (r.mac = none) ∧ (b.keySeq ≤ u.lastSeq b.keyId) ∧ ((∀ x ∈ u.bocel.cache, x.keyId = b.keyId → x.keySeq = b.keySeq → x.digest ≠ b.digest)) :=
  by
  refine ⟨(wClaimed), _, 0, ({ wReq with sig := some { keyId := 0x2000, keySeq := 0, key := 7, digest := 0 } }), ({ keyId := 0x2000, keySeq := 0, key := 7, digest := 0 }), rfl, ?_, ?_, ?_, ?_, ?_⟩ <;> decide +kernel
theorem w_RequestsAnsweredUnserved_26 : ∃ (s u : State) (t : Nat) (r : Req), u = s.tick t ∧ ((u.get Key.BOCEL_GPART = 0xFFFF ∨ u.unreachable r.target = true ∨ u.fenced r.target = true)) :=
  ⟨(wHome), _, 0, ({ wReq with target := 6 }), rfl, by decide +kernel⟩
theorem w_RequestsAnsweredUnserved_27 : ∃ (s u : State) (t : Nat) (r : Req), u = s.tick t ∧ (u.get Key.BOCEL_GPART ≠ 0xFFFF) ∧ (u.unreachable r.target = false) ∧ (u.fenced r.target = false) :=
  by
  refine ⟨((wHome.set Key.BOCEL_GPART 9).set (Key.ROUTE + 6) (2 ^ 28 + 3)), _, 0, ({ wReq with target := 6 }), rfl, ?_, ?_, ?_⟩ <;> decide +kernel
theorem w_RequestsAnsweredUnserved_28 : ∃ (s u : State) (t : Nat) (r : Req), u = s.tick t ∧ (u.takes r.via = true) ∧ (r.target ≠ 0xFFFF) ∧ (r.target ≠ u.crownId) :=
  by
  refine ⟨(wHome), _, 0, ({ wReq with target := 6 }), rfl, ?_, ?_, ?_⟩ <;> decide +kernel
theorem w_RequestsAnsweredUnserved_29 : ∃ (s u : State) (t : Nat) (r : Req), u = s.tick t ∧ ((u.takes r.via = false ∨ r.target = 0xFFFF ∨ r.target = u.crownId)) :=
  ⟨(State.reset), _, 0, wReq, rfl, by decide +kernel⟩
theorem w_RequestsAnsweredUnserved_30 : ∃ (s u : State) (t : Nat) (id : ℕ) (src : ℕ) (m : List Byte) (f : Forwarded), u = s.tick t ∧ (u.forwarded id = some f) ∧ (f.target = src) ∧ (beField m 14 15 ≠ Status.busyRetry) :=
  by
  refine ⟨(State.reset.modBocel (fun b => { b with forwards := [wFwd] })), _, 0, 1, 6, (List.replicate 24 0), wFwd, rfl, ?_, ?_, ?_⟩ <;> decide +kernel
theorem w_RequestsAnsweredUnserved_31 : ∃ (s u : State) (t : Nat) (id : ℕ) (src : ℕ) (m : List Byte) (f : Forwarded), u = s.tick t ∧ (u.forwarded id = some f) ∧ (f.target = src) ∧ (beField m 14 15 = Status.busyRetry) :=
  by
  refine ⟨(State.reset.modBocel (fun b => { b with forwards := [wFwd] })), _, 0, 1, 6, (List.replicate 14 0 ++ beBytes 2 Status.busyRetry), wFwd, rfl, ?_, ?_, ?_⟩ <;> decide +kernel
theorem w_RequestsAnsweredUnserved_32 : ∃ (s u : State) (t : Nat) (id : ℕ) (src : ℕ), u = s.tick t ∧ ((∀ f, u.forwarded id = some f → f.target ≠ src)) :=
  ⟨(State.reset), _, 0, 1, 6, rfl, by decide +kernel⟩
theorem w_RequestsAnsweredUnserved_33 : ∃ (s u : State) (t : Nat) (id : ℕ) (f : Forwarded), u = s.tick t ∧ (u.forwarded id = some f) ∧ (u.after f.since (1000000 * u.get Key.BOCEL_INBAND_TIMEOUT) = true) :=
  by
  refine ⟨(State.reset.modBocel (fun b => { b with forwards := [wFwd] })), _, 1000000000000, 1, wFwd, rfl, ?_, ?_⟩ <;> decide +kernel
theorem w_RequestsAnsweredUnserved_34 : ∃ (s u : State) (t : Nat) (id : ℕ) (f : Forwarded), u = s.tick t ∧ (u.forwarded id = some f) ∧ (u.after f.since (1000000 * u.get Key.BOCEL_INBAND_TIMEOUT) = false) :=
  by
  refine ⟨(State.reset.modBocel (fun b => { b with forwards := [wFwd] })), _, 0, 1, wFwd, rfl, ?_, ?_⟩ <;> decide +kernel
theorem w_RequestsAnsweredUnserved_35 : ∃ (s u : State) (t : Nat) (id : ℕ) (f : Forwarded) (a : ℕ), u = s.tick t ∧ (u.forwarded id = some f) ∧ (f.busyAt = some a) ∧ (u.after a 1000 = true) :=
  by
  refine ⟨(State.reset.modBocel (fun b => { b with forwards := [{ wFwd with busySeen := true, busyAt := some 0 }] })), _, 1000, 1, ({ wFwd with busySeen := true, busyAt := some 0 }), 0, rfl, ?_, ?_, ?_⟩ <;> decide +kernel
theorem w_RequestsAnsweredUnserved_36 : ∃ (s u : State) (t : Nat) (id : ℕ) (f : Forwarded), u = s.tick t ∧ (u.forwarded id = some f) ∧ ((∀ a, f.busyAt = some a → u.after a 1000 = false)) :=
  by
  refine ⟨(State.reset.modBocel (fun b => { b with forwards := [wFwd] })), _, 0, 1, wFwd, rfl, ?_, ?_⟩ <;> decide +kernel
theorem w_WritesAndReads_1 : ∃ (i : ℕ) (n : ℕ), (entryAt i n = none) :=
  ⟨0, 0, by decide +kernel⟩
theorem w_WritesAndReads_2 : ∃ (s u : State) (t : Nat) (c : Caller) (i : ℕ) (n : ℕ) (e : Entry), u = s.tick t ∧ (u.journal.recovery = false) ∧ (entryAt i n = some e) ∧ (e.writable c.who (256 * i + n) = false) :=
  by
  refine ⟨(State.reset), _, 0, ({ wInst with who := .anonymous }), 0x1000, 0, (wEntry 0x1000 0), rfl, ?_, ?_, ?_⟩ <;> decide +kernel
theorem w_WritesAndReads_3 : ∃ (s u : State) (t : Nat) (c : Caller) (i : ℕ) (n : ℕ) (ty : ℕ) (e : Entry), u = s.tick t ∧ (u.journal.recovery = false) ∧ (entryAt i n = some e) ∧ (e.writable c.who (256 * i + n) = true) ∧ (ty ≠ e.ty.code) :=
  by
  refine ⟨(State.reset), _, 0, wInst, 0x6600, 0, 15, (wEntry 0x6600 0), rfl, ?_, ?_, ?_, ?_⟩ <;> decide +kernel
theorem w_WritesAndReads_4 : ∃ (s u : State) (t : Nat) (c : Caller) (i : ℕ) (n : ℕ) (e : Entry), u = s.tick t ∧ (u.journal.recovery = false) ∧ (entryAt i n = some e) ∧ (e.writable c.who (256 * i + n) = true) ∧ (e.persist = .staged) :=
  by
  refine ⟨(State.reset), _, 0, wInst, 0xE001, 0, (wEntry 0xE001 0), rfl, ?_, ?_, ?_, ?_⟩ <;> decide +kernel
theorem w_WritesAndReads_5 : ∃ (s u : State) (t : Nat) (c : Caller) (i : ℕ) (n : ℕ) (v : ℕ) (len : ℕ) (e : Entry), u = s.tick t ∧ (u.journal.recovery = false) ∧ (entryAt i n = some e) ∧ (e.writable c.who (256 * i + n) = true) ∧ (e.persist ≠ .staged) ∧ (legalValue e (256 * i + n) v len = false) :=
  by
  refine ⟨(State.reset), _, 0, wInst, 0xB200, 0, 0xF0000000, 4, (wEntry 0xB200 0), rfl, ?_, ?_, ?_, ?_, ?_⟩ <;> decide +kernel
theorem w_WritesAndReads_6 : ∃ (s u : State) (t : Nat) (c : Caller) (i : ℕ) (n : ℕ) (v : ℕ) (len : ℕ) (e : Entry) (st : ℕ) (d : ℕ), u = s.tick t ∧ (u.journal.recovery = false) ∧ (entryAt i n = some e) ∧ (e.writable c.who (256 * i + n) = true) ∧ (e.persist ≠ .staged) ∧ (legalValue e (256 * i + n) v len = true) ∧ (u.writeAdmit c.who (256 * i + n) v = .stop st d) :=
  by
  refine ⟨((((wClaimed.set (Key.PART_GROVE_ID + 2) 9).set (Key.PART_UPSTREAM + 2) (5 * 65536 + 8)))), _, 0, wInst, 0x2010, 0, 0, 1, (wEntry 0x2010 0), ((match (((wClaimed.set (Key.PART_GROVE_ID + 2) 9).set (Key.PART_UPSTREAM + 2) (5 * 65536 + 8))).writeAdmit wInst.who (256 * 0x2010) 0 with | .stop a _ => a | .go => 0)), ((match (((wClaimed.set (Key.PART_GROVE_ID + 2) 9).set (Key.PART_UPSTREAM + 2) (5 * 65536 + 8))).writeAdmit wInst.who (256 * 0x2010) 0 with | .stop _ b => b | .go => 0)), rfl, ?_, ?_, ?_, ?_, ?_, ?_⟩ <;> decide +kernel
theorem w_WritesAndReads_7 : ∃ (s u : State) (t : Nat) (c : Caller) (i : ℕ) (n : ℕ) (v : ℕ) (len : ℕ) (e : Entry), u = s.tick t ∧ (u.journal.recovery = false) ∧ (entryAt i n = some e) ∧ (e.writable c.who (256 * i + n) = true) ∧ (e.persist = .journaled) ∧ (legalValue e (256 * i + n) v len = true) ∧ (u.writeAdmit c.who (256 * i + n) v = .go) :=
  by
  refine ⟨(wClaimed), _, 0, wInst, 0x6600, 0, 16, 2, (wEntry 0x6600 0), rfl, ?_, ?_, ?_, ?_, ?_, ?_⟩ <;> decide +kernel
theorem w_WritesAndReads_8 : ∃ (s u : State) (t : Nat) (c : Caller) (i : ℕ) (n : ℕ) (v : ℕ) (len : ℕ) (e : Entry), u = s.tick t ∧ (u.journal.recovery = false) ∧ (entryAt i n = some e) ∧ (e.writable c.who (256 * i + n) = true) ∧ (e.persist ≠ .staged) ∧ (e.persist ≠ .journaled) ∧ (legalValue e (256 * i + n) v len = true) ∧ (u.writeAdmit c.who (256 * i + n) v = .go) :=
  by
  refine ⟨(wClaimed), _, 0, wInst, 0x2003, 6, 1, 1, (wEntry 0x2003 6), rfl, ?_, ?_, ?_, ?_, ?_, ?_, ?_⟩ <;> decide +kernel
theorem w_WritesAndReads_9 : ∃ (i : ℕ) (a : ℕ) (b : ℕ) (n : ℕ), (((List.range (b + 1 - a)).map (a + ·)).find? (fun n => (entryAt i n).isNone) = some n) :=
  ⟨0, 0, 1, 0, by decide +kernel⟩
theorem w_WritesAndReads_10 : ∃ (s u : State) (t : Nat) (c : Caller) (i : ℕ) (a : ℕ) (b : ℕ) (n : ℕ), u = s.tick t ∧ (u.journal.recovery = false) ∧ (((List.range (b + 1 - a)).map (a + ·)).find? (fun n => (entryAt i n).isNone) = none) ∧ (((List.range (b + 1 - a)).map (a + ·)).find? (fun n => match entryAt i n with | some e => !e.readable c.who | none => false) = some n) :=
  by
  refine ⟨(State.reset), _, 0, ({ wInst with who := .anonymous }), 0x6600, 0, 0, 0, rfl, ?_, ?_, ?_⟩ <;> decide +kernel
theorem w_WritesAndReads_11 : ∃ (s u : State) (t : Nat) (r : Req) (c : Caller) (i : ℕ) (a : ℕ) (b : ℕ) (e : Entry) (out : List Byte × ℕ), u = s.tick t ∧ (u.journal.recovery = false) ∧ (((List.range (b + 1 - a)).map (a + ·)).find? (fun n => (entryAt i n).isNone) = none) ∧ (((List.range (b + 1 - a)).map (a + ·)).find? (fun n => match entryAt i n with | some e => !e.readable c.who | none => false) = none) ∧ (entryAt i a = some e) ∧ (out = u.gatherRead c.who i e.ty.code (4096 - 24 - 5 - (if r.mac.isSome then 24 else 0)) ((List.range (b + 1 - a)).map (a + ·)) [] a) :=
  by
  refine ⟨(State.reset), _, 0, wReq, wInst, 0x6600, 0, 0, (wEntry 0x6600 0), _, rfl, ?_, ?_, ?_, ?_, rfl⟩ <;> decide +kernel
theorem w_ChangeSetCommands_1 : ∃ (s u : State) (t : Nat), u = s.tick t ∧ (u.claimed = true) ∧ ((u.bocel.sets.filter ChangeSet.live).length < 16) :=
  by
  refine ⟨(wClaimed), _, 0, rfl, ?_, ?_⟩ <;> decide +kernel
theorem w_ChangeSetCommands_2 : ∃ (s u : State) (t : Nat) (c : Caller) (p : ℕ), u = s.tick t ∧ (c.signed = true) ∧ (c.who = .operator p) ∧ ((u.bocel.sets.filter ChangeSet.live).length < 16) :=
  by
  refine ⟨(wClaimed), _, 0, ({ wInst with who := .operator 2 }), 2, rfl, ?_, ?_, ?_⟩ <;> decide +kernel
theorem w_ChangeSetCommands_3 : ∃ (s u : State) (t : Nat), u = s.tick t ∧ (u.claimed = true) ∧ (16 ≤ (u.bocel.sets.filter ChangeSet.live).length) :=
  by
  refine ⟨(wClaimed.modBocel (fun b => { b with sets := List.replicate 16 wSet })), _, 0, rfl, ?_, ?_⟩ <;> decide +kernel
theorem w_ChangeSetCommands_4 : ∃ (s u : State) (t : Nat) (c : Caller) (id : ℕ) (k : ℕ) (i : ℕ) (n : ℕ) (ty : ℕ) (v : ℕ) (len : ℕ) (x : ChangeSet) (e : Entry), u = s.tick t ∧ (u.claimed = true) ∧ (u.setOf id = some x) ∧ (c.keyId = x.opener) ∧ (x.state = .open_) ∧ (k = x.stages.length) ∧ (checkEntry c.who false i n ty = .inl e) ∧ (e.persist = .staged) ∧ (legalValue e (256 * i + n) v len = true) ∧ (x.stages.length < 65536) ∧ ((((u.touchSet id).bocel.sets.filter ChangeSet.stored).map ChangeSet.stageBytes).sum + 12 + valueBytes (256 * i + n) ≤ 2 ^ 23) :=
  by
  refine ⟨(wClaimed.modBocel (fun b => { b with sets := [wSet] })), _, 0, wInst, 1, _, 0xE001, 0, 0xB, 0, 97, wSet, (wEntry 0xE001 0), rfl, ?_, ?_, ?_, ?_, rfl, ?_, ?_, ?_, ?_, ?_⟩ <;> decide +kernel
theorem w_ChangeSetCommands_5 : ∃ (s u : State) (t : Nat) (c : Caller) (id : ℕ) (k : ℕ) (x : ChangeSet), u = s.tick t ∧ (u.claimed = true) ∧ (u.setOf id = some x) ∧ (c.keyId = x.opener) ∧ (x.state = .open_) ∧ (k ≠ x.stages.length) :=
  by
  refine ⟨(wClaimed.modBocel (fun b => { b with sets := [wSet] })), _, 0, wInst, 1, 1, wSet, rfl, ?_, ?_, ?_, ?_, ?_⟩ <;> decide +kernel
theorem w_ChangeSetCommands_6 : ∃ (s u : State) (t : Nat) (c : Caller) (n : ℕ), u = s.tick t ∧ (c.who = .operator n) ∧ (n < 64) ∧ (u.claimed = true) ∧ ((u.bocel.sets.filter ChangeSet.live).length < 16) :=
  by
  refine ⟨(wClaimed), _, 0, ({ wInst with who := .operator 2 }), 2, rfl, ?_, ?_, ?_, ?_⟩ <;> decide +kernel
theorem w_ChangeSetCommands_7 : ∃ (s u : State) (t : Nat) (c : Caller) (id : ℕ) (x : ChangeSet), u = s.tick t ∧ (u.claimed = true) ∧ (u.setOf id = some x) ∧ (c.keyId ≠ x.opener) :=
  by
  refine ⟨(wClaimed.modBocel (fun b => { b with sets := [wSet] })), _, 0, ({ wInst with keyId := 0x2005 }), 1, wSet, rfl, ?_, ?_, ?_⟩ <;> decide +kernel
theorem w_ChangeSetCommands_8 : ∃ (s u : State) (t : Nat) (c : Caller) (id : ℕ) (k : ℕ) (i : ℕ) (n : ℕ) (ty : ℕ) (v : ℕ) (len : ℕ) (x : ChangeSet) (e : Entry), u = s.tick t ∧ (u.claimed = true) ∧ (u.setOf id = some x) ∧ (c.keyId = x.opener) ∧ (x.state = .open_) ∧ (k = x.stages.length) ∧ (checkEntry c.who false i n ty = .inl e) ∧ ((e.persist ≠ .staged ∨ legalValue e (256 * i + n) v len = false)) :=
  by
  refine ⟨(wClaimed.modBocel (fun b => { b with sets := [wSet] })), _, 0, wInst, 1, _, 0x6600, 0, 3, 0, 2, wSet, (wEntry 0x6600 0), rfl, ?_, ?_, ?_, ?_, rfl, ?_, ?_⟩ <;> decide +kernel
theorem w_ChangeSetCommands_9 : ∃ (s u : State) (t : Nat) (id : ℕ), u = s.tick t ∧ (u.setOf id = none) :=
  ⟨(State.reset), _, 0, 1, rfl, by decide +kernel⟩
theorem w_ChangeSetCommands_10 : ∃ (s u : State) (t : Nat) (id : ℕ) (k : ℕ) (x : ChangeSet), u = s.tick t ∧ (u.setOf id = some x) ∧ (k ≠ x.commitNo) :=
  by
  refine ⟨(wClaimed.modBocel (fun b => { b with sets := [wSet] })), _, 0, 1, 1, wSet, rfl, ?_, ?_⟩ <;> decide +kernel
theorem w_ChangeSetCommands_11 : ∃ (s u : State) (t : Nat) (id : ℕ) (a : SetSig) (b : SetSig) (x : ChangeSet), u = s.tick t ∧ (u.setOf id = some x) ∧ (x.state = .open_) ∧ (((u.touchSet id).sigOk x a = false ∨ (u.touchSet id).sigOk x b = false ∨ (u.touchSet id).pairOk x a.keyId b.keyId = false)) :=
  by
  refine ⟨(wClaimed.modBocel (fun b => { b with sets := [wSet] })), _, 0, 1, ({ keyId := 0x2000, key := 9 }), ({ keyId := 0x2001, key := 8 }), wSet, rfl, ?_, ?_, ?_⟩ <;> decide +kernel
theorem w_ChangeSetCommands_12 : ∃ (s u : State) (t : Nat) (id : ℕ), u = s.tick t ∧ (u.setOf id = none) :=
  ⟨(State.reset), _, 0, 1, rfl, by decide +kernel⟩
theorem w_ChangeSetCommands_13 : ∃ (s u : State) (t : Nat) (id : ℕ) (a : SetSig) (b : SetSig) (x : ChangeSet), u = s.tick t ∧ (u.setOf id = some x) ∧ (x.state = .open_) ∧ ((u.touchSet id).sigOk x a = true) ∧ ((u.touchSet id).sigOk x b = true) ∧ ((u.touchSet id).pairOk x a.keyId b.keyId = true) ∧ ((u.touchSet id).actCount < 256) :=
  by
  refine ⟨(wClaimed.modBocel (fun b => { b with sets := [wSet] })), _, 0, 1, ({ keyId := 0x2000, key := 7 }), ({ keyId := 0x2001, key := 8 }), wSet, rfl, ?_, ?_, ?_, ?_, ?_, ?_⟩ <;> decide +kernel
theorem w_ChangeSetCommands_14 : ∃ (s u : State) (t : Nat) (id : ℕ) (k : ℕ) (x : ChangeSet), u = s.tick t ∧ (u.setOf id = some x) ∧ (k ≠ x.commitNo) :=
  by
  refine ⟨(wClaimed.modBocel (fun b => { b with sets := [wSet] })), _, 0, 1, 1, wSet, rfl, ?_, ?_⟩ <;> decide +kernel
theorem w_ChangeSetCommands_15 : ∃ (s u : State) (t : Nat) (id : ℕ) (a : SetSig) (b : SetSig) (x : ChangeSet), u = s.tick t ∧ (u.setOf id = some x) ∧ (x.state = .open_) ∧ (a.keyId = x.opener) ∧ ((u.touchSet id).sigOk x a = true) ∧ (b.keyId = 0) :=
  by
  refine ⟨(wClaimed.modBocel (fun b => { b with sets := [wSet] })), _, 0, 1, ({ keyId := 0x2000, key := 7 }), ({ keyId := 0, key := 0 }), wSet, rfl, ?_, ?_, ?_, ?_, ?_⟩ <;> decide +kernel
theorem w_ChangeSetCommands_16 : ∃ (s u : State) (t : Nat) (id : ℕ) (x : ChangeSet) (r : Req) (reason : ℕ) (stage : ℕ) (v : Machine.State), u = s.tick t ∧ (u.setOf id = some x) ∧ (x.answerTo = some r) ∧ (x.state = .sealed) ∧ (u.validate x = some (reason, stage)) ∧ (v = (u.setRefuse x reason).answerCommit x (failing Op.commit Status.validationFailed (reason * 65536 + stage) 0 0)) :=
  ⟨(wBadSet), _, 0, 1, wSealed, wReq, 2, 0xFFFF, _, rfl, rfl, rfl, rfl, (by unfold State.validate; rw [if_neg (fun h => h rfl)]; decide +kernel), rfl⟩
theorem w_ChangeSetCommands_17 : ∃ (s u : State) (t : Nat) (id : ℕ) (x : ChangeSet) (r : Req) (n : ℕ) (v : Machine.State) (w : Machine.State), u = s.tick t ∧ (u.setOf id = some x) ∧ (x.answerTo = some r) ∧ (x.state = .sealed) ∧ (u.validate x = none) ∧ (u.actFind .change id = none) ∧ (u.actFree = some n) ∧ (u.actPut x.ft .change x.joint id 0xFFFF = some v) ∧ (w = v.modSet id (fun _ => { x with state := .queued, order := (v.act.slots.getD n ActSlot.reset).seq, answerTo := none })) :=
  by
  obtain ⟨a, b, hs, h1, h2, h3⟩ := wValid_valid
  exact ⟨wValid a b, (wValid a b).reach 0, 0, 1, wEmpty, wReq, 0, ((wValid a b).actPut 5 .change false 1 0xFFFF).getD State.reset, _, (State.tick_calm _ _ hs).symm, rfl, rfl, rfl, h1, h2, h3, rfl, rfl⟩
theorem w_ChangeSetCommands_18 : ∃ (s u : State) (t : Nat) (id : ℕ) (x : ChangeSet) (r : Req) (n : ℕ) (v : Machine.State) (w : Machine.State), u = s.tick t ∧ (u.setOf id = some x) ∧ (x.answerTo = some r) ∧ (x.state = .sealed) ∧ (u.validate x = none) ∧ (u.actFind .change id = some n) ∧ (v = u.modAct (fun y => { y with slots := y.slots.modify n (fun e => { e with ft := x.ft, state := .pending }) })) ∧ (w = v.modSet id (fun _ => { x with state := .queued, order := (v.act.slots.getD n ActSlot.reset).seq, answerTo := none })) :=
  by
  obtain ⟨a, b, hs, h1, h2, h3⟩ := wValid_valid
  exact ⟨(wValid a b).modAct (fun y => { y with slots := y.slots.modify 0 (fun e => { e with kind := .change, ref := 1, state := .pending }) }),
    ((wValid a b).modAct (fun y => { y with slots := y.slots.modify 0 (fun e => { e with kind := .change, ref := 1, state := .pending }) })).reach 0, 0, 1, wEmpty, wReq, 0, _, _,
    calm_act _ _ hs, rfl, rfl, rfl, h1, rfl, rfl, rfl⟩
theorem w_ChangeSetCommands_19 : ∃ (s u : State) (t : Nat) (id : ℕ) (x : ChangeSet) (r : Req), u = s.tick t ∧ (u.setOf id = some x) ∧ (x.answerTo = some r) ∧ (x.state = .sealed) ∧ (u.validate x = none) ∧ (u.actFind .change id = none) ∧ (u.actFree = none) :=
  by
  obtain ⟨a, b, hs, h1, h2, h3⟩ := wValid_valid
  exact ⟨(wValid a b).modAct (fun y => { y with slots := y.slots.map (fun e => { e with kind := .swap, state := .pending }) }),
    ((wValid a b).modAct (fun y => { y with slots := y.slots.map (fun e => { e with kind := .swap, state := .pending }) })).reach 0, 0, 1, wEmpty, wReq, calm_act _ _ hs, rfl, rfl, rfl, h1, rfl, rfl⟩
theorem w_ChangeSetCommands_20 : ∃ (s u : State) (t : Nat) (id : ℕ) (x : ChangeSet) (r : Req), u = s.tick t ∧ (u.setOf id = some x) ∧ (x.answerTo = some r) ∧ (x.state ≠ .sealed) :=
  by
  refine ⟨(State.reset.modBocel (fun b => { b with sets := [{ wSet with answerTo := some wReq }] })), _, 0, 1, ({ wSet with answerTo := some wReq }), wReq, rfl, ?_, ?_, ?_⟩ <;> decide +kernel
theorem w_ChangeSetCommands_21 : ∃ (s u : State) (t : Nat) (id : ℕ) (x : ChangeSet), u = s.tick t ∧ (u.setOf id = some x) ∧ (x.answerTo = none) :=
  by
  refine ⟨(State.reset.modBocel (fun b => { b with sets := [wSet] })), _, 0, 1, wSet, rfl, ?_, ?_⟩ <;> decide +kernel
theorem w_ChangeSetCommands_22 : ∃ (s u : State) (t : Nat) (id : ℕ), u = s.tick t ∧ (u.setOf id = none) :=
  ⟨(State.reset), _, 0, 1, rfl, by decide +kernel⟩
theorem w_ChangeSetCommands_23 : ∃ (s u : State) (t : Nat) (id : ℕ) (x : ChangeSet), u = s.tick t ∧ (u.setOf id = some x) ∧ (x.state = .open_) ∧ (u.after x.lastReq 600000000000 = true) :=
  by
  refine ⟨(State.reset.modBocel (fun b => { b with sets := [wSet] })), _, 600000000000, 1, wSet, rfl, ?_, ?_, ?_⟩ <;> decide +kernel
theorem w_ChangeSetCommands_24 : ∃ (s u : State) (t : Nat) (id : ℕ) (x : ChangeSet), u = s.tick t ∧ (u.setOf id = some x) ∧ ((x.state ≠ .open_ ∨ u.after x.lastReq 600000000000 = false)) :=
  by
  refine ⟨(State.reset.modBocel (fun b => { b with sets := [wSet] })), _, 0, 1, wSet, rfl, ?_, ?_⟩ <;> decide +kernel
theorem w_SessionsAndTransports_1 : ∃ (s u : State) (t : Nat) (n : ℕ) (x : Session), u = s.tick t ∧ (u.sessionOf n = some x) ∧ (u.after x.lastReq 300000000000 = true) :=
  by
  refine ⟨(State.reset.modBocel (fun b => { b with sessions := [wSession] })), _, 300000000000, 7, wSession, rfl, ?_, ?_⟩ <;> decide +kernel
theorem w_SessionsAndTransports_2 : ∃ (s u : State) (t : Nat) (n : ℕ), u = s.tick t ∧ ((∀ x, u.sessionOf n = some x → u.after x.lastReq 300000000000 = false)) :=
  ⟨(State.reset.modBocel (fun b => { b with sessions := [wSession] })), _, 0, 7, rfl, by decide +kernel⟩
theorem w_SessionsAndTransports_3 : ∃ (s u : State) (t : Nat) (p : ℕ) (len : ℕ), u = s.tick t ∧ (p < 64) ∧ (u.isHome p = true) ∧ ((u.part p).mailbox.busy = false) ∧ (24 ≤ len) ∧ (len ≤ 4096) :=
  by
  refine ⟨(wHome), _, 0, 2, 24, rfl, ?_, ?_, ?_, ?_, ?_⟩ <;> decide +kernel
theorem w_SessionsAndTransports_4 : ∃ (s u : State) (t : Nat) (p : ℕ) (len : ℕ), u = s.tick t ∧ (p < 64) ∧ (u.isHome p = true) ∧ ((u.part p).mailbox.busy = true ∨ len < 24 ∨ 4096 < len) :=
  by
  refine ⟨(wHome), _, 0, 2, 23, rfl, ?_, ?_, ?_⟩ <;> decide +kernel
theorem w_SessionsAndTransports_5 : ∃ (s u : State) (t : Nat) (p : ℕ), u = s.tick t ∧ ((64 ≤ p ∨ u.isHome p = false)) :=
  ⟨(State.reset), _, 0, 2, rfl, by decide +kernel⟩
theorem w_SessionsAndTransports_6 : ∃ (s u : State) (t : Nat) (p : ℕ), u = s.tick t ∧ ((64 ≤ p ∨ u.isHome p = false)) :=
  ⟨(State.reset), _, 0, 2, rfl, by decide +kernel⟩
theorem w_SessionsAndTransports_7 : ∃ (s u : State) (t : Nat) (p : ℕ), u = s.tick t ∧ (u.isHome p = true) ∧ (p < 64) :=
  by
  refine ⟨(wHome), _, 0, 2, rfl, ?_, ?_⟩ <;> decide +kernel
theorem w_SessionsAndTransports_8 : ∃ (s u : State) (t : Nat) (e : ℕ), u = s.tick t ∧ (u.takes .i3c = true) ∧ (1 ≤ e) ∧ (e ≤ 254) :=
  by
  refine ⟨(State.reset), _, 0, 9, rfl, ?_, ?_, ?_⟩ <;> decide +kernel
theorem w_SessionsAndTransports_9 : ∃ (s u : State) (t : Nat) (e : ℕ), u = s.tick t ∧ (u.takes .i3c = true) ∧ (e = 0 ∨ 254 < e) :=
  by
  refine ⟨(State.reset), _, 0, 0, rfl, ?_, ?_⟩ <;> decide +kernel
theorem w_SessionsAndTransports_10 : ∃ (s u : State) (t : Nat), u = s.tick t ∧ (u.takes .i3c = true) :=
  ⟨(State.reset), _, 0, rfl, by decide +kernel⟩
theorem w_SessionsAndTransports_11 : ∃ (s u : State) (t : Nat), u = s.tick t ∧ (u.takes .i3c = true) :=
  ⟨(State.reset), _, 0, rfl, by decide +kernel⟩
theorem w_SessionsAndTransports_12 : ∃ (s u : State) (t : Nat), u = s.tick t ∧ (u.takes .i3c = true) :=
  ⟨(State.reset), _, 0, rfl, by decide +kernel⟩
theorem w_SessionsAndTransports_13 : ∃ (s u : State) (t : Nat), u = s.tick t ∧ (u.takes .udp = true) :=
  ⟨(State.reset), _, 0, rfl, by decide +kernel⟩
theorem w_SessionsAndTransports_14 : ∃ (s u : State) (t : Nat), u = s.tick t ∧ (u.takes .udp = false) :=
  ⟨(State.reset.modPower (fun x => { x with ref25 := false })), _, 0, rfl, by decide +kernel⟩
theorem w_SessionsAndTransports_15 : ∃ (s u : State) (t : Nat), u = s.tick t ∧ (u.takes .i3c = false) :=
  ⟨(State.reset.modPower (fun x => { x with ref25 := false })), _, 0, rfl, by decide +kernel⟩
theorem w_SessionsAndTransports_16 : ∃ (s u : State) (t : Nat), u = s.tick t ∧ (u.takes .i3c = false) :=
  ⟨(State.reset.modPower (fun x => { x with ref25 := false })), _, 0, rfl, by decide +kernel⟩
theorem w_SessionsAndTransports_17 : ∃ (s u : State) (t : Nat), u = s.tick t ∧ (u.takes .i3c = false) :=
  ⟨(State.reset.modPower (fun x => { x with ref25 := false })), _, 0, rfl, by decide +kernel⟩
theorem w_SessionsAndTransports_18 : ∃ (s u : State) (t : Nat), u = s.tick t ∧ (u.takes .i3c = false) :=
  ⟨(State.reset.modPower (fun x => { x with ref25 := false })), _, 0, rfl, by decide +kernel⟩
theorem w_SessionsAndTransports_19 : ∃ (s u : State) (t : Nat) (a : ℕ), u = s.tick t ∧ (u.takes .udp = true) ∧ ((a = Config.linkLocal ∨ a ≠ 0 ∧ (a = u.get Key.MGMT_IPV6 ∨ a = u.get Key.MGMT_IPV4))) :=
  ⟨(State.reset), _, 0, Config.linkLocal, rfl, by decide +kernel, .inl rfl⟩
theorem w_SessionsAndTransports_20 : ∃ (s u : State) (t : Nat) (a : ℕ), u = s.tick t ∧ ((u.takes .udp = false ∨ a ≠ Config.linkLocal ∧ (a = 0 ∨ a ≠ u.get Key.MGMT_IPV6 ∧ a ≠ u.get Key.MGMT_IPV4))) :=
  ⟨(State.reset.modPower (fun x => { x with ref25 := false })), _, 0, 0, rfl, by decide +kernel⟩
theorem w_SpdmResults_1 : ∃ (s u : State) (t : Nat) (p : ℕ), u = s.tick t ∧ (u.doeServes p = true) :=
  ⟨(wHome), _, 0, 2, rfl, by decide +kernel⟩
theorem w_SpdmResults_2 : ∃ (s u : State) (t : Nat) (p : ℕ), u = s.tick t ∧ (u.doeServes p = true) :=
  ⟨(wHome), _, 0, 2, rfl, by decide +kernel⟩
theorem w_SpdmResults_3 : ∃ (s u : State) (t : Nat) (p : ℕ), u = s.tick t ∧ (u.doeServes p = true) :=
  ⟨(wHome), _, 0, 2, rfl, by decide +kernel⟩
theorem w_SpdmResults_4 : ∃ (s u : State) (t : Nat) (p : ℕ), u = s.tick t ∧ (u.doeServes p = true) :=
  ⟨(wHome), _, 0, 2, rfl, by decide +kernel⟩
theorem w_SpdmResults_5 : ∃ (s u : State) (t : Nat) (p : ℕ), u = s.tick t ∧ (u.doeServes p = true) :=
  ⟨(wHome), _, 0, 2, rfl, by decide +kernel⟩
theorem w_SpdmResults_6 : ∃ (s u : State) (t : Nat) (p : ℕ) (n : ℕ), u = s.tick t ∧ (u.doeServes p = true) ∧ (n ≠ 0) :=
  by
  refine ⟨(wHome), _, 0, 2, 1, rfl, ?_, ?_⟩ <;> decide +kernel
theorem w_SpdmResults_7 : ∃ (s u : State) (t : Nat) (p : ℕ) (n : ℕ) (b : ℕ), u = s.tick t ∧ (u.doeServes p = true) ∧ (u.sec.zeroized = false) ∧ (b = Config.spdmBody 0x83 (n + 2 ^ 256 * Config.random u.draws)) :=
  by
  refine ⟨(wHome), _, 0, 2, 9, _, rfl, ?_, ?_, rfl⟩ <;> decide +kernel
theorem w_SpdmResults_8 : ∃ (s u : State) (t : Nat) (p : ℕ), u = s.tick t ∧ (u.doeServes p = true) ∧ (u.sec.zeroized = true) :=
  by
  refine ⟨(wHome.modSec (fun x => { x with zeroized := true })), _, 0, 2, rfl, ?_, ?_⟩ <;> decide +kernel
theorem w_SpdmResults_9 : ∃ (s u : State) (t : Nat) (p : ℕ) (b : List ℕ), u = s.tick t ∧ (u.doeServes p = true) ∧ (u.sec.zeroized = false) ∧ (b = [Config.romDigest, u.journal.digests.getD u.journal.bootActive 0, Config.subordinateDigest (u.journal.digests.getD u.journal.bootActive 0), u.blockPolicy, u.blockPart p, Config.deviceSerial, u.crownId, u.groveId p, p, (u.part p).measGen.toNat] ++ u.blockMembers p) :=
  by
  refine ⟨(wSpdm), _, 0, 2, _, rfl, ?_, ?_, rfl⟩ <;> decide +kernel
theorem w_SpdmResults_10 : ∃ (s u : State) (t : Nat) (p : ℕ) (id : ℕ), u = s.tick t ∧ (u.doeServes p = true) ∧ (u.sec.zeroized = false) ∧ ((u.part p).spdm.length < 4) ∧ (u.spdmOf p id = none) :=
  by
  refine ⟨(wHome), _, 0, 2, 7, rfl, ?_, ?_, ?_, ?_⟩ <;> decide +kernel
theorem w_SpdmResults_11 : ∃ (s u : State) (t : Nat) (p : ℕ), u = s.tick t ∧ (u.doeServes p = true) ∧ (4 ≤ (u.part p).spdm.length) :=
  by
  refine ⟨(wHome.modPart 2 (fun x => { x with spdm := List.replicate 4 { id := 1, finished := true, keyPhase := 0 } })), _, 0, 2, rfl, ?_, ?_⟩ <;> decide +kernel
theorem w_SpdmResults_12 : ∃ (s u : State) (t : Nat) (p : ℕ) (id : ℕ) (x : SpdmSession), u = s.tick t ∧ (u.doeServes p = true) ∧ (u.spdmOf p id = some x) ∧ (x.finished = false) :=
  by
  refine ⟨(wHome.modPart 2 (fun x => { x with spdm := [{ id := 7, finished := false, keyPhase := 0 }] })), _, 0, 2, 7, ({ id := 7, finished := false, keyPhase := 0 }), rfl, ?_, ?_, ?_⟩ <;> decide +kernel
theorem w_SpdmResults_13 : ∃ (s u : State) (t : Nat) (p : ℕ) (id : ℕ) (x : SpdmSession), u = s.tick t ∧ (u.doeServes p = true) ∧ (u.spdmOf p id = some x) ∧ (x.finished = false) :=
  by
  refine ⟨(wHome.modPart 2 (fun x => { x with spdm := [{ id := 7, finished := false, keyPhase := 0 }] })), _, 0, 2, 7, ({ id := 7, finished := false, keyPhase := 0 }), rfl, ?_, ?_, ?_⟩ <;> decide +kernel
theorem w_SpdmResults_14 : ∃ (s u : State) (t : Nat) (p : ℕ) (id : ℕ), u = s.tick t ∧ (u.inSession p id = true) :=
  ⟨(wSpdm), _, 0, 2, 7, rfl, by decide +kernel⟩
theorem w_SpdmResults_15 : ∃ (s u : State) (t : Nat) (p : ℕ) (id : ℕ), u = s.tick t ∧ (u.inSession p id = false) ∧ (u.doeServes p = true) :=
  by
  refine ⟨(wHome), _, 0, 2, 7, rfl, ?_, ?_⟩ <;> decide +kernel
theorem w_SpdmResults_16 : ∃ (s u : State) (t : Nat) (p : ℕ) (id : ℕ), u = s.tick t ∧ (u.inSession p id = true) :=
  ⟨(wSpdm), _, 0, 2, 7, rfl, by decide +kernel⟩
theorem w_SpdmResults_17 : ∃ (s u : State) (t : Nat) (p : ℕ) (id : ℕ), u = s.tick t ∧ (u.inSession p id = true) :=
  ⟨(wSpdm), _, 0, 2, 7, rfl, by decide +kernel⟩
theorem w_SpdmResults_18 : ∃ (s u : State) (t : Nat) (p : ℕ) (id : ℕ) (x : SpdmSession), u = s.tick t ∧ (u.doeServes p = true) ∧ (u.spdmOf p id = some x) ∧ (x.finished = true) :=
  by
  refine ⟨(wSpdm), _, 0, 2, 7, ({ id := 7, finished := true, keyPhase := 0 }), rfl, ?_, ?_, ?_⟩ <;> decide +kernel
theorem w_SpdmResults_19 : ∃ (s u : State) (t : Nat) (p : ℕ) (id : ℕ), u = s.tick t ∧ (u.doeServes p = true) ∧ (u.spdmOf p id = none) :=
  by
  refine ⟨(wHome), _, 0, 2, 7, rfl, ?_, ?_⟩ <;> decide +kernel
theorem w_SpdmResults_20 : ∃ (s u : State) (t : Nat) (p : ℕ) (id : ℕ), u = s.tick t ∧ (u.inSession p id = false) ∧ (u.doeServes p = true) :=
  by
  refine ⟨(wHome), _, 0, 2, 7, rfl, ?_, ?_⟩ <;> decide +kernel
theorem w_SpdmResults_21 : ∃ (s u : State) (t : Nat) (p : ℕ) (id : ℕ), u = s.tick t ∧ (u.inSession p id = false) ∧ (u.doeServes p = true) :=
  by
  refine ⟨(wHome), _, 0, 2, 7, rfl, ?_, ?_⟩ <;> decide +kernel
theorem w_SpdmResults_22 : ∃ (s u : State) (t : Nat) (p : ℕ), u = s.tick t ∧ (u.doeServes p = true) ∧ (u.sec.zeroized = true) :=
  by
  refine ⟨(wHome.modSec (fun x => { x with zeroized := true })), _, 0, 2, rfl, ?_, ?_⟩ <;> decide +kernel
theorem w_SpdmResults_23 : ∃ (s u : State) (t : Nat) (p : ℕ) (id : ℕ), u = s.tick t ∧ (u.doeServes p = true) ∧ (u.sec.zeroized = true ∨ (u.spdmOf p id).isSome = true) :=
  by
  refine ⟨(wSpdm), _, 0, 2, 7, rfl, ?_, ?_⟩ <;> decide +kernel
theorem w_SpdmResults_24 : ∃ (s u : State) (t : Nat) (p : ℕ), u = s.tick t ∧ (u.doeServes p = false) :=
  ⟨(State.reset), _, 0, 2, rfl, by decide +kernel⟩
theorem w_SpdmResults_25 : ∃ (s u : State) (t : Nat) (p : ℕ), u = s.tick t ∧ (u.doeServes p = false) :=
  ⟨(State.reset), _, 0, 2, rfl, by decide +kernel⟩
theorem w_SpdmResults_26 : ∃ (s u : State) (t : Nat) (p : ℕ), u = s.tick t ∧ (u.doeServes p = false) :=
  ⟨(State.reset), _, 0, 2, rfl, by decide +kernel⟩
theorem w_SpdmResults_27 : ∃ (s u : State) (t : Nat) (p : ℕ), u = s.tick t ∧ (u.doeServes p = false) :=
  ⟨(State.reset), _, 0, 2, rfl, by decide +kernel⟩
theorem w_SpdmResults_28 : ∃ (s u : State) (t : Nat) (p : ℕ), u = s.tick t ∧ (u.doeServes p = false) :=
  ⟨(State.reset), _, 0, 2, rfl, by decide +kernel⟩
theorem w_SpdmResults_29 : ∃ (s u : State) (t : Nat) (p : ℕ), u = s.tick t ∧ (u.doeServes p = false) :=
  ⟨(State.reset), _, 0, 2, rfl, by decide +kernel⟩
theorem w_SpdmResults_30 : ∃ (s u : State) (t : Nat) (p : ℕ), u = s.tick t ∧ (u.doeServes p = false) :=
  ⟨(State.reset), _, 0, 2, rfl, by decide +kernel⟩
theorem w_SpdmResults_31 : ∃ (s u : State) (t : Nat) (p : ℕ), u = s.tick t ∧ (u.doeServes p = false) :=
  ⟨(State.reset), _, 0, 2, rfl, by decide +kernel⟩
theorem w_SpdmResults_32 : ∃ (s u : State) (t : Nat) (p : ℕ), u = s.tick t ∧ (u.doeServes p = false) :=
  ⟨(State.reset), _, 0, 2, rfl, by decide +kernel⟩
theorem w_SpdmResults_33 : ∃ (s u : State) (t : Nat) (p : ℕ), u = s.tick t ∧ (u.doeServes p = false) :=
  ⟨(State.reset), _, 0, 2, rfl, by decide +kernel⟩
theorem w_SpdmResults_34 : ∃ (s u : State) (t : Nat) (p : ℕ), u = s.tick t ∧ (u.doeServes p = false) :=
  ⟨(State.reset), _, 0, 2, rfl, by decide +kernel⟩
theorem w_SpdmResults_35 : ∃ (s u : State) (t : Nat) (p : ℕ), u = s.tick t ∧ (u.doeServes p = false) :=
  ⟨(State.reset), _, 0, 2, rfl, by decide +kernel⟩
theorem w_IdeAndTestMode_1 : ∃ (s u : State) (t : Nat) (p : ℕ) (id : ℕ), u = s.tick t ∧ (u.inSession p id = true) ∧ ((u.part p).ideStreams.length < 8) :=
  by
  refine ⟨(wSpdm), _, 0, 2, 7, rfl, ?_, ?_⟩ <;> decide +kernel
theorem w_IdeAndTestMode_2 : ∃ (s u : State) (t : Nat) (p : ℕ) (id : ℕ) (n : ℕ), u = s.tick t ∧ (u.inSession p id = true) ∧ (n ∉ (u.part p).ideStreams) ∧ (8 ≤ (u.part p).ideStreams.length) :=
  by
  refine ⟨(wSpdm.modPart 2 (fun x => { x with ideStreams := [0, 1, 2, 3, 4, 5, 6, 7] })), _, 0, 2, 7, 9, rfl, ?_, ?_, ?_⟩ <;> decide +kernel
theorem w_IdeAndTestMode_3 : ∃ (s u : State) (t : Nat) (p : ℕ) (id : ℕ), u = s.tick t ∧ (u.inSession p id = true) :=
  ⟨(wSpdm), _, 0, 2, 7, rfl, by decide +kernel⟩
theorem w_IdeAndTestMode_4 : ∃ (s u : State) (t : Nat) (g : ℕ), u = s.tick t ∧ (u.ideRequired g = true) ∧ (u.ideState g = 0) ∧ (u.after (u.hport (portOfG g)).l0At 100000000 = true) :=
  by
  refine ⟨(wIde.modSec (fun x => { x with ide := [(8, 0)] })), _, 100000000, 8, rfl, ?_, ?_, ?_⟩ <;> decide +kernel
theorem w_IdeAndTestMode_5 : ∃ (s u : State) (t : Nat) (g : ℕ), u = s.tick t ∧ ((u.ideRequired g = false ∨ u.ideState g = 1 ∨ u.after (u.hport (portOfG g)).l0At 100000000 = false)) :=
  ⟨(wIde.modSec (fun x => { x with ide := [(8, 1)] })), _, 100000000, 8, rfl, by decide +kernel⟩
theorem w_IdeAndTestMode_6 : ∃ (s u : State) (t : Nat) (g : ℕ), u = s.tick t ∧ (u.ideRequired g = true) :=
  ⟨(wIde), _, 0, 8, rfl, by decide +kernel⟩
theorem w_IdeAndTestMode_7 : ∃ (s u : State) (t : Nat) (g : ℕ), u = s.tick t ∧ (u.ideRequired g = false) ∧ (g < 160) ∧ (u.ideState g = 1) :=
  by
  refine ⟨(State.reset.modSec (fun x => { x with ide := [(8, 1)] })), _, 0, 8, rfl, ?_, ?_, ?_⟩ <;> decide +kernel
theorem w_IdeAndTestMode_8 : ∃ (s u : State) (t : Nat) (g : ℕ), u = s.tick t ∧ (u.ideRequired g = false) ∧ ((160 ≤ g ∨ u.ideState g ≠ 1)) :=
  by
  refine ⟨(State.reset), _, 0, 8, rfl, ?_, ?_⟩ <;> decide +kernel
theorem w_IdeAndTestMode_9 : ∃ (g : ℕ), (g < 160) ∧ (isT g = false) :=
  by
  refine ⟨8, ?_, ?_⟩ <;> decide +kernel
theorem w_IdeAndTestMode_10 : ∃ (g : ℕ), ((160 ≤ g ∨ isT g = true)) :=
  ⟨(gOfTrunk 0), by decide +kernel⟩
theorem w_IdeAndTestMode_11 : ∃ (s u : State) (t : Nat) (p : ℕ) (id : ℕ), u = s.tick t ∧ (u.inSession p id = false) ∧ (u.doeServes p = true) :=
  by
  refine ⟨(wHome), _, 0, 2, 7, rfl, ?_, ?_⟩ <;> decide +kernel
theorem w_IdeAndTestMode_12 : ∃ (s u : State) (t : Nat) (p : ℕ), u = s.tick t ∧ (u.doeServes p = false) :=
  ⟨(State.reset), _, 0, 2, rfl, by decide +kernel⟩
theorem w_IdeAndTestMode_13 : ∃ (s u : State) (t : Nat) (p : ℕ) (id : ℕ) (n : ℕ), u = s.tick t ∧ (u.inSession p id = true) ∧ (n ∈ (u.part p).ideStreams) :=
  by
  refine ⟨(wSpdm.modPart 2 (fun x => { x with ideStreams := [0, 1, 2, 3, 4, 5, 6, 7] })), _, 0, 2, 7, 3, rfl, ?_, ?_⟩ <;> decide +kernel
theorem w_IdeAndTestMode_14 : ∃ (s u : State) (t : Nat) (n : ℕ) (w : ℕ), u = s.tick t ∧ (u.sec.hold = some (n, w)) ∧ (u.after w 600000000000 = true) :=
  by
  refine ⟨(State.reset.modSec (fun x => { x with hold := some (5, 0) })), _, 600000000000, 5, 0, rfl, ?_, ?_⟩ <;> decide +kernel
theorem w_IdeAndTestMode_15 : ∃ (s u : State) (t : Nat) (n : ℕ) (w : ℕ), u = s.tick t ∧ (u.sec.hold = some (n, w)) ∧ (u.after w 600000000000 = false) :=
  by
  refine ⟨(State.reset.modSec (fun x => { x with hold := some (5, 0) })), _, 5, 5, 0, rfl, ?_, ?_⟩ <;> decide +kernel
theorem w_IdeAndTestMode_16 : ∃ (s u : State) (t : Nat), u = s.tick t ∧ (u.sec.hold = none) :=
  ⟨(State.reset), _, 0, rfl, by decide +kernel⟩
theorem w_IdeAndTestMode_17 : ∃ (s u : State) (t : Nat) (n : ℕ) (w : ℕ), u = s.tick t ∧ (u.sec.hold = some (n, w)) :=
  ⟨(State.reset.modSec (fun x => { x with hold := some (5, 0) })), _, 0, 5, 0, rfl, by decide +kernel⟩
theorem w_IdeAndTestMode_18 : ∃ (s u : State) (t : Nat), u = s.tick t ∧ (u.sec.hold = none) :=
  ⟨(State.reset), _, 0, rfl, by decide +kernel⟩
theorem w_RecordsAndCompaction_1 : ∃ (s u : State) (t : Nat) (p : PendingRecord) (rest : List PendingRecord) (f0 : Bool) (f1 : Bool) (v : Machine.State) (w : Machine.State), u = s.tick t ∧ (u.journal.inFlight = p :: rest) ∧ ((u.journal.warned = false ∨ u.journal.bodyDone = true)) ∧ (u.awake = true) ∧ (v = (u.flashProgram 0 f0).flashProgram 1 f1) ∧ (v.programmed f0 f1 = true) ∧ (w = (v.modJournal (fun j => { j with inFlight := rest, bodyDone := false })).recordTaken p) :=
  by
  refine ⟨(State.reset.modJournal (fun j => { j with inFlight := [wPend] })), _, 0, wPend, ([]), true, true, _, _, rfl, ?_, ?_, ?_, rfl, ?_, rfl⟩ <;> decide +kernel
theorem w_RecordsAndCompaction_2 : ∃ (s u : State) (t : Nat) (p : PendingRecord) (rest : List PendingRecord) (f0 : Bool) (f1 : Bool) (v : Machine.State), u = s.tick t ∧ (u.journal.inFlight = p :: rest) ∧ ((u.journal.warned = false ∨ u.journal.bodyDone = true)) ∧ (u.awake = true) ∧ (v = (u.flashProgram 0 f0).flashProgram 1 f1) ∧ (v.programmed f0 f1 = false) :=
  by
  refine ⟨(State.reset.modJournal (fun j => { j with inFlight := [wPend] })), _, 0, wPend, ([]), true, false, _, rfl, ?_, ?_, ?_, rfl, ?_⟩ <;> decide +kernel
theorem w_RecordsAndCompaction_3 : ∃ (s u : State) (t : Nat), u = s.tick t ∧ (u.journal.inFlight = []) :=
  ⟨(State.reset), _, 0, rfl, by decide +kernel⟩
theorem w_RecordsAndCompaction_4 : ∃ (s u : State) (t : Nat), u = s.tick t ∧ ((u.journal.warned = true ∧ u.journal.bodyDone = false ∨ u.awake = false)) :=
  ⟨(State.reset.modJournal (fun j => { j with warned := true })), _, 0, rfl, by decide +kernel⟩
theorem w_RecordsAndCompaction_5 : ∃ (p : PendingRecord) (r : Req) (a : Answer), (p.req = some r) ∧ (p.answer = some a) :=
  by
  refine ⟨({ wPend with req := some wReq, answer := some (failing 1 2 0 0 0) }), wReq, (failing 1 2 0 0 0), ?_, ?_⟩ <;> decide +kernel
theorem w_RecordsAndCompaction_6 : ∃ (p : PendingRecord), (p.req = none) :=
  ⟨wPend, by decide +kernel⟩
theorem w_RecordsAndCompaction_7 : ∃ (w : Machine.State), (75 ≤ w.journal.fill) :=
  ⟨(State.reset.modJournal (fun j => { j with usedRings := 192 })), by decide +kernel⟩
theorem w_RecordsAndCompaction_8 : ∃ (w : Machine.State), (w.journal.fill < 75) :=
  ⟨State.reset, by decide +kernel⟩
theorem w_RecordsAndCompaction_9 : ∃ (s u : State) (t : Nat) (d : ℕ), u = s.tick t ∧ (u.journal.works d = true) :=
  ⟨(State.reset), _, 0, 0, rfl, by decide +kernel⟩
theorem w_RecordsAndCompaction_10 : ∃ (s u : State) (t : Nat) (d : ℕ), u = s.tick t ∧ (u.journal.works d = true) ∧ (u.journal.flashFails.getD d 0 < 2) :=
  by
  refine ⟨(State.reset), _, 0, 0, rfl, ?_, ?_⟩ <;> decide +kernel
theorem w_RecordsAndCompaction_11 : ∃ (s u : State) (t : Nat) (d : ℕ), u = s.tick t ∧ (u.journal.works d = true) ∧ (2 ≤ u.journal.flashFails.getD d 0) :=
  by
  refine ⟨(State.reset.modJournal (fun j => { j with flashFails := [2, 0] })), _, 0, 0, rfl, ?_, ?_⟩ <;> decide +kernel
theorem w_RecordsAndCompaction_12 : ∃ (s u : State) (t : Nat) (d : ℕ), u = s.tick t ∧ (u.journal.works d = false) :=
  ⟨(State.reset), _, 0, 2, rfl, by decide +kernel⟩
theorem w_RecordsAndCompaction_13 : ∃ (p : PendingRecord) (key : ℕ) (v : ℕ), (p.write = some (key, v)) ∧ (key ≠ Key.TEST_UNLOCK) :=
  by
  refine ⟨({ wPend with write := some (0xB20000, 5) }), 0xB20000, 5, ?_, ?_⟩ <;> decide +kernel
theorem w_RecordsAndCompaction_14 : ∃ (p : PendingRecord) (v : ℕ), (p.write = some (Key.TEST_UNLOCK, v)) :=
  ⟨({ wPend with write := some (Key.TEST_UNLOCK, 5) }), 5, by decide +kernel⟩
theorem w_RecordsAndCompaction_16 : ∃ (s u : State) (t : Nat), u = s.tick t ∧ (u.journal.mode = 0) ∧ (u.journal.oldRings = 0) :=
  by
  refine ⟨(State.reset), _, 0, rfl, ?_, ?_⟩ <;> decide +kernel
theorem w_RecordsAndCompaction_17 : ∃ (s u : State) (t : Nat), u = s.tick t ∧ ((u.journal.mode ≠ 0 ∨ u.journal.oldRings ≠ 0)) :=
  ⟨(State.reset.modJournal (fun j => { j with oldRings := 2 })), _, 0, rfl, by decide +kernel⟩
theorem w_RecordsAndCompaction_18 : ∃ (w : Role), (w.isInstaller = false) :=
  ⟨(.operator 2), by decide +kernel⟩
theorem w_RecordsAndCompaction_19 : ∃ (s u : State) (t : Nat), u = s.tick t ∧ (u.journal.mode ≠ 1) :=
  ⟨(State.reset), _, 0, rfl, by decide +kernel⟩
theorem w_RecordsAndCompaction_20 : ∃ (s u : State) (t : Nat), u = s.tick t ∧ (u.journal.mode = 1) :=
  ⟨(State.reset.modJournal (fun j => { j with mode := 1, compactFrom := 0 })), _, 0, rfl, by decide +kernel⟩
theorem w_RecordsAndCompaction_22 : ∃ (j : Journal) (r : JRecord), (r ∈ j.records) ∧ (j.compactFrom < r.rno) :=
  by
  refine ⟨({ State.reset.journal with records := [{ rno := 4, timeState := 0, ft := 0, keyId := 0, parts := 0, body := .keySeq 1 }] }), ({ rno := 4, timeState := 0, ft := 0, keyId := 0, parts := 0, body := .keySeq 1 }), ?_, ?_⟩ <;> decide +kernel
theorem w_RecordsAndCompaction_23 : ∃ (j : Journal) (r : JRecord) (cs : ChangeSet), (r ∈ j.records) ∧ (r.rno ≤ j.compactFrom) ∧ (r.rno ≠ 0) ∧ (cs ∈ replaySets (j.records.filter (fun r => r.rno ≤ j.compactFrom && r.rno ≠ 0))) ∧ ((cs.state = .queued ∨ cs.state = .postponed)) ∧ ((∃ x c, r.body = .set x c ∧ x.id = cs.id)) :=
  by
  refine ⟨({ State.reset.journal with compactFrom := 4, records := [{ rno := 4, timeState := 0, ft := 0, keyId := 0, parts := 0, body := .set { wSet with state := .queued } [] }] }), ({ rno := 4, timeState := 0, ft := 0, keyId := 0, parts := 0, body := .set { wSet with state := .queued } [] }), ({ wSet with state := .queued }), ?_, ?_, ?_, ?_, ?_, ⟨_, _, rfl, rfl⟩⟩ <;> decide +kernel
theorem w_RecordsAndCompaction_24 : ∃ (j : Journal) (r : JRecord), (r ∈ j.compacted.records) ∧ (r.rno ≠ 0) :=
  by
  refine ⟨State.reset.journal, ({ rno := 1, timeState := 0, ft := 0, keyId := 0, parts := 0, body := .ringOpen 1 0 }), ?_, ?_⟩ <;> decide +kernel
theorem w_RecordsAndCompaction_25 : ∃ (s u : State) (t : Nat), u = s.tick t ∧ ((u.journal.oldRings = 0 ∨ u.journal.warned = true ∨ u.power.standby = false)) :=
  ⟨(State.reset), _, 0, rfl, by decide +kernel⟩
theorem w_RecordsAndCompaction_26 : ∃ (s u : State) (t : Nat) (f0 : Bool) (f1 : Bool) (v : Machine.State), u = s.tick t ∧ (0 < u.journal.oldRings) ∧ (u.journal.warned = false) ∧ (u.power.standby = true) ∧ (v = (u.flashProgram 0 f0).flashProgram 1 f1) ∧ (v.programmed f0 f1 = true) :=
  by
  refine ⟨(State.reset.modJournal (fun j => { j with oldRings := 2 })), _, 0, true, true, _, rfl, ?_, ?_, ?_, rfl, ?_⟩ <;> decide +kernel
theorem w_RecordsAndCompaction_27 : ∃ (s u : State) (t : Nat) (f0 : Bool) (f1 : Bool) (v : Machine.State), u = s.tick t ∧ (0 < u.journal.oldRings) ∧ (u.journal.warned = false) ∧ (u.power.standby = true) ∧ (v = (u.flashProgram 0 f0).flashProgram 1 f1) ∧ (v.programmed f0 f1 = false) :=
  by
  refine ⟨(State.reset.modJournal (fun j => { j with oldRings := 2 })), _, 0, true, false, _, rfl, ?_, ?_, ?_, rfl, ?_⟩ <;> decide +kernel
theorem w_GraftResults_1 : ∃ (s u : State) (t : Nat), u = s.tick t ∧ (u.journal.graftState ≠ 5) :=
  ⟨(State.reset), _, 0, rfl, by decide +kernel⟩
theorem w_GraftResults_2 : ∃ (s u : State) (t : Nat) (o : ℕ), u = s.tick t ∧ (u.journal.graftState = 1) ∧ (o = u.journal.graftReceived) ∧ (0 < o) ∧ (o % 1024 = 0) ∧ (o + 1024 ≤ 0x1000000) :=
  by
  refine ⟨(State.reset.modJournal (fun j => { j with graftState := 1, graftReceived := 1024 })), _, 0, _, rfl, ?_, rfl, ?_, ?_, ?_⟩ <;> decide +kernel
theorem w_GraftResults_3 : ∃ (s u : State) (t : Nat) (o : ℕ), u = s.tick t ∧ ((u.journal.graftState = 5 ∨ o % 1024 ≠ 0 ∨ 0x1000000 < o + 1024 ∨ 0 < o ∧ (u.journal.graftState ≠ 1 ∨ o ≠ u.journal.graftReceived))) :=
  ⟨(State.reset.modJournal (fun j => { j with graftState := 1, graftReceived := 1024 })), _, 0, 2048, rfl, by decide +kernel⟩
theorem w_GraftResults_4 : ∃ (w : Role), (w.isInstaller = false) :=
  ⟨(.operator 2), by decide +kernel⟩
theorem w_GraftResults_5 : ∃ (s u : State) (t : Nat) (c : ℕ), u = s.tick t ∧ (u.journal.graftState ≠ 5) ∧ (c = u.journal.graftCode (u.get Key.IMAGE_SVN_FLOOR)) ∧ (c ≠ 0) :=
  by
  refine ⟨(State.reset), _, 0, _, rfl, ?_, rfl, ?_⟩ <;> decide +kernel
theorem w_GraftResults_6 : ∃ (s u : State) (t : Nat), u = s.tick t ∧ (u.journal.graftState ≠ 5) :=
  ⟨(State.reset), _, 0, rfl, by decide +kernel⟩
theorem w_GraftResults_7 : ∃ (s u : State) (t : Nat), u = s.tick t ∧ (u.journal.graftState = 5) :=
  ⟨(State.reset.modJournal (fun j => { j with graftState := 5 })), _, 0, rfl, by decide +kernel⟩
theorem w_GraftResults_8 : ∃ (w : Role), (w.isInstaller = false) :=
  ⟨(.operator 2), by decide +kernel⟩
theorem w_GraftResults_10 : ∃ (s u : State) (t : Nat) (n : ℕ) (image : List Byte), u = s.tick t ∧ (u.journal.graftState = 3) ∧ (graftResult (u.journal.images.getD u.journal.bootActive []) u.journal.staged = some image) ∧ (n = u.journal.target) :=
  by
  refine ⟨(State.reset.modJournal (fun j => { j with graftState := 3, staged := List.replicate 1024 0 })), _, 0, _, ([]), rfl, ?_, ?_, rfl⟩ <;> decide +kernel
theorem w_GraftResults_11 : ∃ (s u : State) (t : Nat), u = s.tick t ∧ (u.journal.graftState ≠ 3) :=
  ⟨(State.reset), _, 0, rfl, by decide +kernel⟩
theorem w_GraftResults_12 : ∃ (s u : State) (t : Nat) (ft : ℕ) (v : Machine.State), u = s.tick t ∧ ((u.journal.graftState = 4 ∨ u.journal.graftState = 5)) ∧ (0 < ft) ∧ (u.time.ft + 100000000 ≤ ft) ∧ (u.actFind .firmware 0 = none) ∧ (u.actPut ft .firmware true 0 0xFFFF = some v) :=
  by
  refine ⟨(State.reset.modJournal (fun j => { j with graftState := 4 })), _, 0, 200000000, (((State.tick (State.reset.modJournal (fun j => { j with graftState := 4 })) 0).actPut (200000000) .firmware true 0 0xFFFF).getD State.reset), rfl, ?_, ?_, ?_, ?_, rfl⟩ <;> decide +kernel
theorem w_GraftResults_13 : ∃ (s u : State) (t : Nat) (ft : ℕ) (n : ℕ), u = s.tick t ∧ ((u.journal.graftState = 4 ∨ u.journal.graftState = 5)) ∧ (0 < ft) ∧ (u.time.ft + 100000000 ≤ ft) ∧ (u.actFind .firmware 0 = some n) :=
  by
  refine ⟨((((State.reset.modJournal (fun j => { j with graftState := 5 })).actPut 200000000 .firmware true 0 0xFFFF).getD State.reset)), _, 0, 300000000, 0, rfl, ?_, ?_, ?_, ?_⟩ <;> decide +kernel
theorem w_GraftResults_14 : ∃ (s u : State) (t : Nat) (n : ℕ), u = s.tick t ∧ ((u.journal.graftState = 4 ∨ u.journal.graftState = 5)) ∧ (u.actFind .firmware 0 = some n) :=
  by
  refine ⟨((((State.reset.modJournal (fun j => { j with graftState := 5 })).actPut 200000000 .firmware true 0 0xFFFF).getD State.reset)), _, 0, 0, rfl, ?_, ?_⟩ <;> decide +kernel
theorem w_GraftResults_15 : ∃ (s u : State) (t : Nat), u = s.tick t ∧ ((u.journal.graftState = 4 ∨ u.journal.graftState = 5)) ∧ (u.actFind .firmware 0 = none) :=
  by
  refine ⟨(State.reset.modJournal (fun j => { j with graftState := 4 })), _, 0, rfl, ?_, ?_⟩ <;> decide +kernel
theorem w_GraftResults_16 : ∃ (s u : State) (t : Nat) (ft : ℕ), u = s.tick t ∧ ((u.journal.graftState ≠ 4 ∧ u.journal.graftState ≠ 5 ∨ 0 < ft ∧ ft < u.time.ft + 100000000 ∨ 0 < ft ∧ u.actFind .firmware 0 = none ∧ u.actPut ft .firmware true 0 0xFFFF = none)) :=
  ⟨(State.reset.modJournal (fun j => { j with graftState := 4 })), _, 0, 5, rfl, by decide +kernel⟩
theorem w_GraftResults_17 : ∃ (w : Role), (w.isInstaller = false) :=
  ⟨(.operator 2), by decide +kernel⟩
theorem w_GraftResults_18 : ∃ (s u : State) (t : Nat) (n : ℕ) (v : Machine.State) (slot : ℕ), u = s.tick t ∧ (u.actFind .firmware 0 = some n) ∧ (u.actTurn n = true) ∧ (u.dueFate true ≠ .postpone) ∧ (v = u.markFired n) ∧ (slot = 1 - v.journal.bootActive) :=
  by
  refine ⟨(wDue .firmware 0 true), _, 0, 0, _, _, rfl, ?_, ?_, ?_, rfl, rfl⟩ <;> decide +kernel
theorem w_GraftResults_19 : ∃ (s u : State) (t : Nat) (n : ℕ), u = s.tick t ∧ (u.actFind .firmware 0 = some n) ∧ (u.actTurn n = false) :=
  by
  refine ⟨((((State.reset.modJournal (fun j => { j with graftState := 5 })).actPut 200000000 .firmware true 0 0xFFFF).getD State.reset)), _, 0, 0, rfl, ?_, ?_⟩ <;> decide +kernel
theorem w_GraftResults_20 : ∃ (s u : State) (t : Nat) (n : ℕ), u = s.tick t ∧ (u.actFind .firmware 0 = some n) ∧ (u.actTurn n = true) ∧ (u.dueFate true = .postpone) :=
  by
  refine ⟨((wDue .firmware 0 true).modTime (fun x => { x with mode := .holdover })), _, 0, 0, rfl, ?_, ?_, ?_⟩ <;> decide +kernel
theorem w_GraftResults_21 : ∃ (s u : State) (t : Nat), u = s.tick t ∧ (u.actFind .firmware 0 = none) :=
  ⟨(State.reset), _, 0, rfl, by decide +kernel⟩
theorem w_StartResults_1 : ∃ (s u : State) (t : Nat), u = s.tick t ∧ ((u.journal.started = true ∨ u.power.startUp = false ∨ u.power.standby = false ∨ u.power.resetPin = true ∨ u.power.phase ≠ .on)) :=
  ⟨(State.reset.modJournal (fun j => { j with started := true })), _, 0, rfl, by decide +kernel⟩
theorem w_StartResults_2 : ∃ (s u : State) (t : Nat) (r : StartReads) (v : Machine.State), u = s.tick t ∧ ((u.journal.started = false ∧ u.power.startUp = true ∧ u.power.standby = true ∧ u.power.resetPin = false ∧ u.power.phase = .on)) ∧ (v = u.startReads r) ∧ ((r.copy0 = false ∧ r.copy1 = false ∨ 2 ≤ v.journal.bootAttempts ∧ (r.otherOk = false ∨ v.journal.svn (1 - v.journal.bootActive) < (sortedGet v.journal.replay Key.IMAGE_SVN_FLOOR).getD 0))) :=
  by
  refine ⟨(wBoot), _, 0, ({ wReads with copy0 := false, copy1 := false }), _, rfl, ?_, rfl, ?_⟩ <;> decide +kernel
theorem w_StartResults_3 : ∃ (s u : State) (t : Nat) (r : StartReads) (v : Machine.State), u = s.tick t ∧ ((u.journal.started = false ∧ u.power.startUp = true ∧ u.power.standby = true ∧ u.power.resetPin = false ∧ u.power.phase = .on)) ∧ (v = u.startReads r) ∧ ((r.copy0 = true ∨ r.copy1 = true)) ∧ (v.journal.bootAttempts < 2) :=
  by
  refine ⟨(wBoot), _, 0, wReads, _, rfl, ?_, rfl, ?_, ?_⟩ <;> decide +kernel
theorem w_StartResults_4 : ∃ (s u : State) (t : Nat) (r : StartReads) (v : Machine.State), u = s.tick t ∧ ((u.journal.started = false ∧ u.power.startUp = true ∧ u.power.standby = true ∧ u.power.resetPin = false ∧ u.power.phase = .on)) ∧ (v = u.startReads r) ∧ ((r.copy0 = true ∨ r.copy1 = true)) ∧ (2 ≤ v.journal.bootAttempts) ∧ (r.otherOk = true) ∧ ((sortedGet v.journal.replay Key.IMAGE_SVN_FLOOR).getD 0 ≤ v.journal.svn (1 - v.journal.bootActive)) :=
  by
  refine ⟨(wBoot.modJournal (fun j => { j with boot := j.boot.map (fun b => { b with attempts := 2 }) })), _, 0, wReads, _, rfl, ?_, rfl, ?_, ?_, ?_, ?_⟩ <;> decide +kernel
theorem w_StartResults_5 : ∃ (v : Machine.State) (w : Machine.State) (a : Option (ℕ × Bool)), (w = ((v.modJournal (fun j => { j with recovery := false })).findJournal a).replayJournal.startLimbs) ∧ (w.power.prior = 0) ∧ (w.sec.strap = false) :=
  by
  refine ⟨State.reset, _, none, rfl, ?_, ?_⟩ <;> decide +kernel
theorem w_StartResults_6 : ∃ (v : Machine.State) (w : Machine.State) (a : Option (ℕ × Bool)), (w = ((v.modJournal (fun j => { j with recovery := false })).findJournal a).replayJournal.startLimbs) ∧ (w.power.prior ≠ 0) ∧ (w.sec.strap = false) :=
  by
  refine ⟨(State.reset.modPower (fun x => { x with prior := 4 })), _, none, rfl, ?_, ?_⟩ <;> decide +kernel
theorem w_StartResults_7 : ∃ (v : Machine.State) (w : Machine.State) (a : Option (ℕ × Bool)), (w = ((v.modJournal (fun j => { j with recovery := false })).findJournal a).replayJournal.startLimbs) ∧ (w.power.prior = 0) ∧ (w.sec.strap = true) :=
  by
  refine ⟨(State.reset.modSec (fun x => { x with strap := true })), _, none, rfl, ?_, ?_⟩ <;> decide +kernel
theorem w_StartResults_8 : ∃ (s u : State) (t : Nat) (a : Machine.State), u = s.tick t ∧ (a = ((u.jAppend (.start u.journal.bootActive u.journal.bootAttempts u.journal.lastStop)).modJournal (fun j => { j.bootWrite j.bootActive 0 with started := true })).modPower (fun x => { x with startUp := false })) ∧ (u.journal.started = false) ∧ (u.journal.recovery = false) ∧ (u.sec.hold = none) ∧ (u.mem.mode ≠ 0) ∧ (u.watchdogDue = false) ∧ (u.journal.fellBack = false) ∧ (u.journal.svn u.journal.bootActive ≤ a.get Key.IMAGE_SVN_FLOOR) :=
  by
  refine ⟨((State.reset.modMem (fun m => { m with mode := 2 })).modJournal (fun j => { j with started := false, svns := [0, 0] })), _, 0, _, rfl, rfl, ?_, ?_, ?_, ?_, ?_, ?_, ?_⟩ <;> decide +kernel
theorem w_StartResults_9 : ∃ (s u : State) (t : Nat) (a : Machine.State), u = s.tick t ∧ (a = ((u.jAppend (.start u.journal.bootActive u.journal.bootAttempts u.journal.lastStop)).modJournal (fun j => { j.bootWrite j.bootActive 0 with started := true })).modPower (fun x => { x with startUp := false })) ∧ (u.journal.started = false) ∧ (u.journal.recovery = false) ∧ (u.sec.hold = none) ∧ (u.mem.mode ≠ 0) ∧ (u.watchdogDue = false) ∧ (u.journal.fellBack = false) ∧ (a.get Key.IMAGE_SVN_FLOOR < u.journal.svn u.journal.bootActive) :=
  by
  refine ⟨((State.reset.modMem (fun m => { m with mode := 2 })).modJournal (fun j => { j with started := false, svns := [3, 0] })), _, 0, _, rfl, rfl, ?_, ?_, ?_, ?_, ?_, ?_, ?_⟩ <;> decide +kernel
theorem w_StartResults_10 : ∃ (s u : State) (t : Nat) (a : Machine.State), u = s.tick t ∧ (a = ((u.jAppend (.start u.journal.bootActive u.journal.bootAttempts u.journal.lastStop)).modJournal (fun j => { j.bootWrite j.bootActive 0 with started := true })).modPower (fun x => { x with startUp := false })) ∧ (u.journal.started = false) ∧ (u.journal.recovery = false) ∧ (u.sec.hold = none) ∧ (u.mem.mode ≠ 0) ∧ (u.watchdogDue = false) ∧ (u.journal.fellBack = true) ∧ (u.journal.svn u.journal.bootActive ≤ a.get Key.IMAGE_SVN_FLOOR) :=
  by
  refine ⟨((State.reset.modMem (fun m => { m with mode := 2 })).modJournal (fun j => { j with started := false, svns := [0, 0], fellBack := true })), _, 0, _, rfl, rfl, ?_, ?_, ?_, ?_, ?_, ?_, ?_⟩ <;> decide +kernel
theorem w_StartResults_11 : ∃ (s u : State) (t : Nat), u = s.tick t ∧ ((u.journal.started = true ∨ u.journal.recovery = true ∨ u.sec.hold.isSome = true ∨ u.mem.mode = 0 ∨ u.watchdogDue = true)) :=
  ⟨(State.reset.modJournal (fun j => { j with started := true })), _, 0, rfl, by decide +kernel⟩
theorem w_StartResults_12 : ∃ (s u : State) (t : Nat), u = s.tick t ∧ (u.watchdogDue = true) :=
  ⟨(wBoot), _, 5000000000, rfl, by decide +kernel⟩
theorem w_StartResults_13 : ∃ (s u : State) (t : Nat), u = s.tick t ∧ (u.watchdogDue = false) :=
  ⟨(State.reset), _, 0, rfl, by decide +kernel⟩
theorem w_StartResults_14 : ∃ (s u : State) (t : Nat), u = s.tick t ∧ (u.power.inputLost = false) :=
  ⟨(State.reset), _, 0, rfl, by decide +kernel⟩
theorem w_StartResults_15 : ∃ (s u : State) (t : Nat), u = s.tick t ∧ (u.power.resetPin = true) ∧ (u.power.inputLost = false) :=
  by
  refine ⟨(State.reset.modPower (fun x => { x with resetPin := true })), _, 0, rfl, ?_, ?_⟩ <;> decide +kernel
theorem w_StartResults_16 : ∃ (s u : State) (t : Nat), u = s.tick t ∧ (u.watchdogDue = true) :=
  ⟨(wBoot), _, 5000000000, rfl, by decide +kernel⟩
theorem w_StartResults_17 : ∃ (s u : State) (t : Nat), u = s.tick t ∧ (u.power.inputLost = true) ∧ (u.power.warningEnd = true) ∧ (u.power.inputUp = true) :=
  by
  refine ⟨(State.reset.modPower (fun x => { x with inputLost := true, warningEnd := true, inputUp := true })), _, 0, rfl, ?_, ?_, ?_⟩ <;> decide +kernel
theorem w_StartResults_18 : ∃ (s u : State) (t : Nat), u = s.tick t ∧ (u.faults.crown = .f3Open) :=
  ⟨(State.reset.modFaults (fun f => { f with crown := .f3Open })), _, 0, rfl, by decide +kernel⟩
theorem w_StartResults_19 : ∃ (s u : State) (t : Nat), u = s.tick t ∧ (u.journal.graftState = 5) :=
  ⟨(State.reset.modJournal (fun j => { j with graftState := 5 })), _, 0, rfl, by decide +kernel⟩
theorem w_StartResults_20 : ∃ (s u : State) (t : Nat) (c : WarmCause), u = s.tick t ∧ (u.warmAllowed c = false) :=
  ⟨(State.reset), _, 0, .faultWindow, rfl, by decide +kernel⟩
theorem w_StartResults_21 : ∃ (s u : State) (t : Nat), u = s.tick t ∧ (u.faults.crown = .f4Latched) :=
  ⟨(State.reset.modFaults (fun f => { f with crown := .f4Latched })), _, 0, rfl, by decide +kernel⟩
theorem w_StartResults_22 : ∃ (s u : State) (t : Nat) (a : Machine.State) (b : Machine.State), u = s.tick t ∧ (u.faults.crown ≠ .f4Latched) ∧ (a = (u.fenceNotice u.crownId true).flushNotice) ∧ (b = (if a.time.mode = .locked ∨ a.time.mode = .acquiring then a.enterHoldover else a)) :=
  ⟨(State.reset), _, 0, _, _, rfl, by decide +kernel, rfl, rfl⟩
theorem w_IntakeResults_1 : ∃ (s u : State) (t : Nat) (mv : ℕ) (v : Machine.State), u = s.tick t ∧ (v = (u.sampleVolts mv).modPower (fun x => { x with inputUp := true })) ∧ (u.power.inputLost = false) :=
  ⟨(wOff), _, 0, 12000, _, rfl, rfl, by decide +kernel⟩
theorem w_IntakeResults_2 : ∃ (s u : State) (t : Nat) (mv : ℕ) (v : Machine.State), u = s.tick t ∧ (v = (u.sampleVolts mv).modPower (fun x => { x with inputUp := true })) ∧ (u.power.inputLost = true) ∧ (u.power.warningEnd = true) :=
  by
  refine ⟨(State.reset.modPower (fun x => { x with inputLost := true, warningEnd := true })), _, 0, 12000, _, rfl, rfl, ?_, ?_⟩ <;> decide +kernel
theorem w_IntakeResults_3 : ∃ (s u : State) (t : Nat) (mv : ℕ) (v : Machine.State), u = s.tick t ∧ (v = (u.sampleVolts mv).modPower (fun x => { x with inputUp := true })) ∧ (u.power.inputLost = true) ∧ (u.power.warningEnd = false) :=
  by
  refine ⟨(State.reset.modPower (fun x => { x with inputLost := true })), _, 0, 12000, _, rfl, rfl, ?_, ?_⟩ <;> decide +kernel
theorem w_IntakeResults_4 : ∃ (w : Machine.State), (w.power.enabled = true) ∧ (w.power.inputUp = true) ∧ (w.power.phase = .off) :=
  by
  refine ⟨(wOff.modPower (fun x => { x with inputUp := true })), ?_, ?_, ?_⟩ <;> decide +kernel
theorem w_IntakeResults_5 : ∃ (w : Machine.State), ((w.power.enabled = false ∨ w.power.inputUp = false ∨ w.power.phase ≠ .off)) :=
  ⟨State.reset, by decide +kernel⟩
theorem w_IntakeResults_7 : ∃ (s u : State) (t : Nat) (v : Machine.State), u = s.tick t ∧ (v = u.modPower (fun x => { x with enabled := false })) ∧ ((u.power.phase = .on ∨ u.power.phase = .ramp ∨ u.power.phase = .precheck)) :=
  ⟨(State.reset), _, 0, _, rfl, rfl, by decide +kernel⟩
theorem w_IntakeResults_9 : ∃ (s u : State) (t : Nat), u = s.tick t ∧ (u.power.phase = .damaged) :=
  ⟨(State.reset.modPower (fun x => { x with phase := .damaged })), _, 0, rfl, by decide +kernel⟩
theorem w_IntakeResults_10 : ∃ (s u : State) (t : Nat), u = s.tick t ∧ ((u.power.phase = .lockedOut ∨ u.power.phase = .tripped ∨ u.power.phase = .off)) :=
  ⟨(State.reset.modPower (fun x => { x with phase := .lockedOut })), _, 0, rfl, by decide +kernel⟩
theorem w_IntakeResults_11 : ∃ (s u : State) (t : Nat) (o : ℕ) (v : Machine.State), u = s.tick t ∧ (u.power.phase = .precheck) ∧ (v = (if u.power.standby then u.powerOff else u)) ∧ (o < 10) :=
  by
  refine ⟨(wOff.modPower (fun x => { x with phase := .precheck })), _, 0, 0, _, rfl, ?_, rfl, ?_⟩ <;> decide +kernel
theorem w_IntakeResults_12 : ∃ (s u : State) (t : Nat) (o : ℕ), u = s.tick t ∧ (u.power.phase = .precheck) ∧ (10 ≤ o) ∧ ((o < 50 ∨ u.after u.power.offSince 5000000 = false)) :=
  by
  refine ⟨(wOff.modPower (fun x => { x with phase := .precheck })), _, 0, 10, rfl, ?_, ?_, ?_⟩ <;> decide +kernel
theorem w_IntakeResults_13 : ∃ (s u : State) (t : Nat) (o : ℕ), u = s.tick t ∧ (u.power.phase = .precheck) ∧ (50 ≤ o) ∧ (u.after u.power.offSince 5000000 = true) :=
  by
  refine ⟨(wOff.modPower (fun x => { x with phase := .precheck })), _, 5000000, 50, rfl, ?_, ?_, ?_⟩ <;> decide +kernel
theorem w_IntakeResults_14 : ∃ (s u : State) (t : Nat), u = s.tick t ∧ (u.power.phase ≠ .precheck) :=
  ⟨(State.reset), _, 0, rfl, by decide +kernel⟩
theorem w_IntakeResults_15 : ∃ (s u : State) (t : Nat), u = s.tick t ∧ (u.power.phase = .ramp) :=
  ⟨(wOff.modPower (fun x => { x with phase := .ramp })), _, 0, rfl, by decide +kernel⟩
theorem w_IntakeResults_16 : ∃ (s u : State) (t : Nat), u = s.tick t ∧ (u.power.phase ≠ .ramp) :=
  ⟨(State.reset), _, 0, rfl, by decide +kernel⟩
theorem w_IntakeResults_17 : ∃ (w : Machine.State), (w.power.phase = .on) ∧ (w.power.powerGood = false) ∧ (w.timersRest = true) :=
  by
  refine ⟨(wOff.modPower (fun x => { x with phase := .on })), ?_, ?_, ?_⟩ <;> decide +kernel
theorem w_IntakeResults_18 : ∃ (w : Machine.State), ((w.power.phase ≠ .on ∨ w.power.powerGood = true ∨ w.timersRest = false)) :=
  ⟨State.reset, by decide +kernel⟩
theorem w_IntakeResults_19 : ∃ (s u : State) (t : Nat) (a : ℕ) (b : ℕ) (v : Machine.State), u = s.tick t ∧ (v = u.sampleAmps a b) ∧ (u.power.phase = .ramp) ∧ (2000 * v.get Key.INTAKE_INRUSH < max a b) :=
  by
  refine ⟨(wOff.modPower (fun x => { x with phase := .ramp })), _, 0, 250000, 250000, _, rfl, rfl, ?_, ?_⟩ <;> decide +kernel
theorem w_IntakeResults_20 : ∃ (s u : State) (t : Nat) (a : ℕ) (b : ℕ) (v : Machine.State), u = s.tick t ∧ (v = u.sampleAmps a b) ∧ ((u.power.phase = .on ∨ u.power.phase = .ramp ∧ max a b ≤ 2000 * v.get Key.INTAKE_INRUSH)) ∧ (250000 < max a b) :=
  by
  refine ⟨(State.reset), _, 0, 250001, 0, _, rfl, rfl, ?_, ?_⟩ <;> decide +kernel
theorem w_IntakeResults_21 : ∃ (s u : State) (t : Nat) (a : ℕ) (b : ℕ) (v : Machine.State), u = s.tick t ∧ (v = u.sampleAmps a b) ∧ (max a b ≤ 250000) ∧ ((u.power.phase = .ramp → max a b ≤ 2000 * v.get Key.INTAKE_INRUSH)) :=
  by
  refine ⟨(State.reset), _, 0, 250000, 0, _, rfl, rfl, ?_, ?_⟩ <;> decide +kernel
theorem w_IntakeResults_22 : ∃ (s u : State) (t : Nat) (a : ℕ) (b : ℕ) (v : Machine.State), u = s.tick t ∧ (v = u.sampleAmps a b) ∧ (u.power.phase ≠ .on) ∧ (u.power.phase ≠ .ramp) :=
  by
  refine ⟨(wOff), _, 0, 250001, 0, _, rfl, rfl, ?_, ?_⟩ <;> decide +kernel
theorem w_IntakeResults_23 : ∃ (s u : State) (t : Nat), u = s.tick t ∧ (u.power.phase = .ramp) ∧ (u.after u.power.rampAt (1000000 * u.get Key.INTAKE_RAMP_TIMEOUT) = true) :=
  by
  refine ⟨(wOff.modPower (fun x => { x with phase := .ramp })), _, 100000000000, rfl, ?_, ?_⟩ <;> decide +kernel
theorem w_IntakeResults_24 : ∃ (s u : State) (t : Nat), u = s.tick t ∧ ((u.power.phase ≠ .ramp ∨ u.after u.power.rampAt (1000000 * u.get Key.INTAKE_RAMP_TIMEOUT) = false)) :=
  ⟨(State.reset), _, 0, rfl, by decide +kernel⟩
theorem w_IntakeResults_25 : ∃ (s u : State) (t : Nat) (k : ℕ), u = s.tick t ∧ (k < 16) ∧ ((u.power.phase = .ramp ∨ u.power.phase = .on)) ∧ (pointAmps (u.get (Key.INTAKE_CURVE + k)) ≠ 0) ∧ (pointTime (u.get (Key.INTAKE_CURVE + k)) ≤ u.intakeTimers.getD k 0) :=
  by
  refine ⟨((State.reset.modPower (fun x => { x with timers := x.timers.set 3 9 })).set (Key.INTAKE_CURVE + 3) (400 * 2 ^ 20 + 5)), _, 0, 3, rfl, ?_, ?_, ?_, ?_⟩ <;> decide +kernel
theorem w_IntakeResults_26 : ∃ (s u : State) (t : Nat) (k : ℕ), u = s.tick t ∧ ((16 ≤ k ∨ u.power.phase ≠ .ramp ∧ u.power.phase ≠ .on ∨ pointAmps (u.get (Key.INTAKE_CURVE + k)) = 0 ∨ u.intakeTimers.getD k 0 < pointTime (u.get (Key.INTAKE_CURVE + k)))) :=
  ⟨(State.reset), _, 0, 16, rfl, by decide +kernel⟩
theorem w_IntakeResults_27 : ∃ (w : Machine.State), (w.power.lastTrip = none) :=
  ⟨State.reset, by decide +kernel⟩
theorem w_IntakeResults_28 : ∃ (w : Machine.State) (n : ℕ), (w.power.lastTrip = some n) :=
  ⟨(State.reset.modPower (fun x => { x with lastTrip := some 0 })), 0, by decide +kernel⟩
theorem w_IntakeResults_29 : ∃ (s u : State) (t : Nat) (v : Machine.State), u = s.tick t ∧ (u.power.phase = .tripped) ∧ (u.after u.power.offSince 1000000000 = true) ∧ (v = (if u.power.standby then u.powerOff else u)) :=
  by
  refine ⟨(wOff.modPower (fun x => { x with phase := .tripped, inputUp := true })), _, 1000000000, _, rfl, ?_, ?_, rfl⟩ <;> decide +kernel
theorem w_IntakeResults_30 : ∃ (s u : State) (t : Nat), u = s.tick t ∧ ((u.power.phase ≠ .tripped ∨ u.after u.power.offSince 1000000000 = false)) :=
  ⟨(State.reset), _, 0, rfl, by decide +kernel⟩
theorem w_IntakeResults_31 : ∃ (s u : State) (t : Nat) (a : ℕ) (b : ℕ) (v : Machine.State), u = s.tick t ∧ (v = u.sampleAmps a b) ∧ ((u.power.phase = .ramp ∨ u.power.phase = .on)) ∧ ((u.intakeTimers.zipIdx.any (fun e => e.1 == 0 && pointAmps (u.get (Key.INTAKE_CURVE + e.2)) ≠ 0 && u.power.highAmps ≤ pointAmps (u.get (Key.INTAKE_CURVE + e.2)) && pointAmps (u.get (Key.INTAKE_CURVE + e.2)) < max a b)) = true) ∧ ((u.power.curveRunAt = none ∨ ∃ c, u.power.curveRunAt = some c ∧ u.after c 1000000 = true)) :=
  by
  refine ⟨(State.reset.set Key.INTAKE_CURVE (400 * 2 ^ 20 + 5)), _, 0, 2000000, 0, _, rfl, rfl, ?_, ?_, ?_⟩ <;> decide +kernel
theorem w_IntakeResults_32 : ∃ (s u : State) (t : Nat) (a : ℕ) (b : ℕ) (v : Machine.State) (c : ℕ), u = s.tick t ∧ (v = u.sampleAmps a b) ∧ ((u.power.phase = .ramp ∨ u.power.phase = .on)) ∧ ((u.intakeTimers.zipIdx.any (fun e => e.1 == 0 && pointAmps (u.get (Key.INTAKE_CURVE + e.2)) ≠ 0 && u.power.highAmps ≤ pointAmps (u.get (Key.INTAKE_CURVE + e.2)) && pointAmps (u.get (Key.INTAKE_CURVE + e.2)) < max a b)) = true) ∧ (u.power.curveRunAt = some c) ∧ (u.after c 1000000 = false) :=
  by
  refine ⟨((State.reset.set Key.INTAKE_CURVE (400 * 2 ^ 20 + 5)).modPower (fun x => { x with curveRunAt := some 0 })), _, 0, 2000000, 0, _, 0, rfl, rfl, ?_, ?_, ?_, ?_⟩ <;> decide +kernel
theorem w_IntakeResults_33 : ∃ (s u : State) (t : Nat) (a : ℕ) (b : ℕ) (v : Machine.State), u = s.tick t ∧ (v = u.sampleAmps a b) ∧ ((u.power.phase = .ramp ∨ u.power.phase = .on)) ∧ ((u.intakeTimers.zipIdx.any (fun e => e.1 == 0 && pointAmps (u.get (Key.INTAKE_CURVE + e.2)) ≠ 0 && u.power.highAmps ≤ pointAmps (u.get (Key.INTAKE_CURVE + e.2)) && pointAmps (u.get (Key.INTAKE_CURVE + e.2)) < max a b)) = false) :=
  by
  refine ⟨(State.reset), _, 0, 0, 0, _, rfl, rfl, ?_, ?_⟩ <;> decide +kernel
theorem w_IntakeResults_34 : ∃ (s u : State) (t : Nat) (a : ℕ) (b : ℕ) (v : Machine.State), u = s.tick t ∧ (v = u.sampleAmps a b) ∧ (u.power.phase ≠ .ramp) ∧ (u.power.phase ≠ .on) :=
  by
  refine ⟨(wOff), _, 0, 0, 0, _, rfl, rfl, ?_, ?_⟩ <;> decide +kernel
theorem w_IntakeResults_35 : ∃ (s u : State) (t : Nat), u = s.tick t ∧ ((u.power.phase = .off ∨ u.power.phase = .tripped ∨ u.power.phase = .lockedOut ∨ u.power.phase = .precheck)) ∧ (u.after u.power.offSince 5000000 = true) :=
  by
  refine ⟨(State.reset.modPower (fun x => { x with phase := .tripped })), _, 5000000, rfl, ?_, ?_⟩ <;> decide +kernel
theorem w_IntakeResults_36 : ∃ (s u : State) (t : Nat), u = s.tick t ∧ ((u.power.phase = .on ∨ u.power.phase = .ramp ∨ u.power.phase = .damaged ∨ u.after u.power.offSince 5000000 = false)) :=
  ⟨(State.reset), _, 0, rfl, by decide +kernel⟩
theorem w_IntakeResults_37 : ∃ (w : Machine.State), (w.power.standby = false) :=
  ⟨wOff, by decide +kernel⟩
theorem w_IntakeResults_38 : ∃ (w : Machine.State), (w.power.standby = true) :=
  ⟨State.reset, by decide +kernel⟩
theorem w_InputLossAndGovernor_1 : ∃ (s u : State) (t : Nat) (b : Bool) (v : Machine.State) (w : Machine.State), u = s.tick t ∧ ((u.power.inputLost = false ∧ u.power.standby = true)) ∧ (v = ((u.modFabric (fun f => { f with ownFenced := true })).fenceNotice u.crownId true).flushNotice) ∧ (w = (v.drew.modJournal (fun j => { j with warned := true, bodyDone := !j.inFlight.isEmpty && Config.bodyProgrammed v.draws })).modPower (fun x => { x with inputLost := true, warningEnd := false, inputUp := x.inputUp && !b, lack := if b then x.lack else max x.lack storeUsable })) :=
  ⟨(State.reset), _, 0, true, _, _, rfl, by decide +kernel, rfl, rfl⟩
theorem w_InputLossAndGovernor_2 : ∃ (s u : State) (t : Nat), u = s.tick t ∧ ((u.power.inputLost = true ∨ u.power.standby = false)) :=
  ⟨(wOff), _, 0, rfl, by decide +kernel⟩
theorem w_InputLossAndGovernor_3 : ∃ (s u : State) (t : Nat) (v : Machine.State), u = s.tick t ∧ (u.power.inputLost = true) ∧ (u.power.warningEnd = false) ∧ (v = ((u.modPower (fun x => { x with warningEnd := true })).modJournal (fun j => { j with warned := false, bodyDone := false, heldAnswers := [] })).each u.journal.heldAnswers (fun w e => w.respond e.1 e.2)) :=
  by
  refine ⟨(State.reset.modPower (fun x => { x with inputLost := true })), _, 0, _, rfl, ?_, ?_, rfl⟩ <;> decide +kernel
theorem w_InputLossAndGovernor_4 : ∃ (s u : State) (t : Nat), u = s.tick t ∧ ((u.power.inputLost = false ∨ u.power.warningEnd = true)) :=
  ⟨(State.reset), _, 0, rfl, by decide +kernel⟩
theorem w_InputLossAndGovernor_6 : ∃ (s u : State) (t : Nat), u = s.tick t ∧ ((u.power.inputLost = true ∨ u.power.powerGood = false)) :=
  ⟨(State.reset.modPower (fun x => { x with inputLost := true })), _, 0, rfl, by decide +kernel⟩
theorem w_InputLossAndGovernor_7 : ∃ (s u : State) (t : Nat), u = s.tick t ∧ (u.power.inputLost = false) ∧ (u.power.powerGood = true) :=
  by
  refine ⟨(State.reset), _, 0, rfl, ?_, ?_⟩ <;> decide +kernel
theorem w_InputLossAndGovernor_9 : ∃ (w : Machine.State) (ns : ℕ) (mv : ℕ) (load : ℕ) (lack : ℕ) (ends : ℕ), (lack = min storeEnergy ((w.power.lack + 1000 * load * ns) - drawnEnergy mv w.power.amps.toNat (w.currentTarget mv load) (w.get Key.INTAKE_SLEW) ns)) ∧ (ends = (if lack = 0 then min (slewed w.power.amps.toNat (w.currentTarget mv load) (w.get Key.INTAKE_SLEW) ns) (w.currentTarget mv load) else slewed w.power.amps.toNat (w.currentTarget mv load) (w.get Key.INTAKE_SLEW) ns)) :=
  ⟨State.reset, 100000, 12000, 880000, _, _, rfl, rfl⟩
theorem w_InputLossAndGovernor_11 : ∃ (s u : State) (t : Nat) (mv : ℕ) (load : ℕ) (v : Machine.State), u = s.tick t ∧ (v = u.converter 100000 mv load) ∧ (u.power.standby = true) ∧ (supplies mv load u.power.amps.toNat = true) ∧ (supplies mv load v.power.amps.toNat = true) :=
  by
  refine ⟨(State.reset), _, 0, 7000, 880000, _, rfl, rfl, ?_, ?_, ?_⟩ <;> decide +kernel
theorem w_InputLossAndGovernor_12 : ∃ (s u : State) (t : Nat) (mv : ℕ) (load : ℕ) (v : Machine.State), u = s.tick t ∧ (v = u.converter 100000 mv load) ∧ ((u.power.standby = false ∨ supplies mv load u.power.amps.toNat = false ∨ supplies mv load v.power.amps.toNat = false)) :=
  ⟨(State.reset), _, 0, 12000, 0, _, rfl, rfl, by decide +kernel⟩
theorem w_InputLossAndGovernor_13 : ∃ (s u : State) (t : Nat), u = s.tick t ∧ (u.power.govLevel ≠ 4) :=
  ⟨(State.reset), _, 0, rfl, by decide +kernel⟩
theorem w_InputLossAndGovernor_14 : ∃ (s u : State) (t : Nat), u = s.tick t ∧ (u.power.govLevel = 4) :=
  ⟨(State.reset.modPower (fun x => { x with govLevel := 4 })), _, 0, rfl, by decide +kernel⟩
theorem w_InputLossAndGovernor_15 : ∃ (s u : State) (t : Nat) (mv : ℕ) (d : ℕ) (ma : ℕ), u = s.tick t ∧ (0 < u.power.govLevel) ∧ (u.after u.power.steppedAt 10000000 = true) ∧ (10 * d < 9 * u.powerCap mv) ∧ (u.power.hotDies = []) ∧ (ma = u.currentTarget mv d) :=
  by
  refine ⟨(State.reset.modPower (fun x => { x with govLevel := 4 })), _, 10000000, 12000, 500000, _, rfl, ?_, ?_, ?_, ?_, rfl⟩ <;> decide +kernel
theorem w_InputLossAndGovernor_16 : ∃ (s u : State) (t : Nat) (mv : ℕ) (d : ℕ), u = s.tick t ∧ ((u.power.govLevel = 0 ∨ u.after u.power.steppedAt 10000000 = false ∨ 9 * u.powerCap mv ≤ 10 * d ∨ u.power.hotDies ≠ [])) :=
  ⟨(State.reset), _, 0, 12000, 500000, rfl, by decide +kernel⟩
theorem w_InputLossAndGovernor_17 : ∃ (n : ℕ), (n < 3) :=
  ⟨2, by decide +kernel⟩
theorem w_InputLossAndGovernor_18 : ∃ (s u : State) (t : Nat) (ns : ℕ) (mv : ℕ) (load : ℕ) (a : ℕ) (v : Machine.State) (w : Machine.State), u = s.tick t ∧ (v = (u.converter ns mv load).countHeart 0x3E0 (ns / 1000)) ∧ (w = v.converter (v.settleTime a load) a load) ∧ (supplies a load w.power.amps.toNat = true) :=
  ⟨(State.reset), _, 0, 61000, 7000, 880000, 7000, _, _, rfl, rfl, rfl, by decide +kernel⟩
theorem w_InputLossAndGovernor_19 : ∃ (s u : State) (t : Nat) (ns : ℕ) (mv : ℕ) (load : ℕ) (a : ℕ) (v : Machine.State) (w : Machine.State), u = s.tick t ∧ (v = (u.converter ns mv load).countHeart 0x3E0 (ns / 1000)) ∧ (w = v.converter (v.settleTime a load) a load) ∧ (supplies a load w.power.amps.toNat = false) ∧ ((w.power.dipAt = none ∨ ∃ c, w.power.dipAt = some c ∧ w.after c 1000000 = true)) :=
  by
  refine ⟨(State.reset), _, 0, 61000, 7000, 880000, 12000, _, _, rfl, rfl, rfl, ?_, ?_⟩ <;> decide +kernel
theorem w_InputLossAndGovernor_20 : ∃ (s u : State) (t : Nat) (ns : ℕ) (mv : ℕ) (load : ℕ) (a : ℕ) (v : Machine.State) (w : Machine.State) (c : ℕ), u = s.tick t ∧ (v = (u.converter ns mv load).countHeart 0x3E0 (ns / 1000)) ∧ (w = v.converter (v.settleTime a load) a load) ∧ (supplies a load w.power.amps.toNat = false) ∧ (w.power.dipAt = some c) ∧ (w.after c 1000000 = false) :=
  by
  refine ⟨(State.reset.modPower (fun x => { x with dipAt := some 0 })), _, 0, 61000, 7000, 880000, 12000, _, _, 0, rfl, rfl, rfl, ?_, ?_, ?_⟩ <;> decide +kernel
theorem w_InputLossAndGovernor_21 : ∃ (a : ℕ) (b : ℕ), ((a + b) / 2 * 2 + 100000 < 100 * (max a b - min a b)) :=
  ⟨50000, 60000, by decide +kernel⟩
theorem w_InputLossAndGovernor_22 : ∃ (a : ℕ) (b : ℕ), (100 * (max a b - min a b) ≤ (a + b) / 2 * 2 + 100000) :=
  ⟨50000, 51000, by decide +kernel⟩
theorem w_InputLossAndGovernor_24 : ∃ (w : Role), (w.isInstaller = false) :=
  ⟨(.operator 2), by decide +kernel⟩
theorem w_SlotChannelResults_1 : ∃ (p : ℕ), (p < 144) :=
  ⟨5, by decide +kernel⟩
theorem w_SlotChannelResults_2 : ∃ (p : ℕ), (144 ≤ p) :=
  ⟨144, by decide +kernel⟩
theorem w_SlotChannelResults_4 : ∃ (s u : State) (t : Nat) (c : ℕ) (ma : ℕ) (v : Machine.State), u = s.tick t ∧ (v = u.modSlot c (fun x => if x.live then { x with amps := ma } else x)) ∧ ((1000 * v.get (Key.SLOT_FAST_TRIP + c) < ma ∨ (u.slotChan c).state = 1 ∧ 2000 * v.get (Key.SLOT_INRUSH + c) < ma)) :=
  ⟨(wSlot), _, 0, 4, 200000, _, rfl, rfl, by decide +kernel⟩
theorem w_SlotChannelResults_5 : ∃ (s u : State) (t : Nat) (c : ℕ) (ma : ℕ) (v : Machine.State), u = s.tick t ∧ (v = u.modSlot c (fun x => if x.live then { x with amps := ma } else x)) ∧ (ma ≤ 1000 * v.get (Key.SLOT_FAST_TRIP + c)) ∧ (((u.slotChan c).state = 1 → ma ≤ 2000 * v.get (Key.SLOT_INRUSH + c))) :=
  by
  refine ⟨(wSlot), _, 0, 4, 0, _, rfl, rfl, ?_, ?_⟩ <;> decide +kernel
theorem w_SlotChannelResults_6 : ∃ (w : Machine.State) (c : ℕ) (p : ℕ), (w.portOfChannel c = some p) ∧ ((w.slotChan c).live = true) :=
  by
  refine ⟨wSlot, 4, 5, ?_, ?_⟩ <;> decide +kernel
theorem w_SlotChannelResults_7 : ∃ (w : Machine.State) (c : ℕ), ((w.portOfChannel c = none ∨ (w.slotChan c).live = false)) :=
  ⟨State.reset, 4, by decide +kernel⟩
theorem w_SlotChannelResults_8 : ∃ (s u : State) (t : Nat) (c : ℕ) (mv : ℕ) (ma : ℕ) (ns : ℕ) (p : ℕ) (v : Machine.State) (timers : List ℕ) (leaves : Bool), u = s.tick t ∧ (u.portOfChannel c = some p) ∧ ((u.slotChan c).live = true) ∧ (timers = u.slotTimers c ma (ns / 1000)) ∧ (leaves = (u.slotChan c).timers.zipIdx.any (fun e => e.1 == 0 && timers.getD e.2 0 ≠ 0)) ∧ (v = u.modSlot c (fun x => { x with timers := timers, volts := mv, amps := ma, energy := x.energy + mv * ma * ns })) ∧ (leaves = false) :=
  by
  refine ⟨(wSlot), _, 0, 4, 12000, 0, 1000, 5, _, _, _, rfl, ?_, ?_, rfl, rfl, rfl, rfl⟩ <;> decide +kernel
theorem w_SlotChannelResults_9 : ∃ (s u : State) (t : Nat) (c : ℕ) (mv : ℕ) (ma : ℕ) (ns : ℕ) (p : ℕ) (v : Machine.State) (w : Machine.State) (timers : List ℕ), u = s.tick t ∧ (u.portOfChannel c = some p) ∧ ((u.slotChan c).live = true) ∧ (timers = u.slotTimers c ma (ns / 1000)) ∧ ((u.slotChan c).timers.zipIdx.any (fun e => e.1 == 0 && timers.getD e.2 0 ≠ 0) = true) ∧ (v = u.modSlot c (fun x => { x with timers := timers, volts := mv, amps := ma, energy := x.energy + mv * ma * ns })) ∧ (w = (if (u.slotChan c).runAt = none ∨ (∃ b, (u.slotChan c).runAt = some b ∧ v.after b 1000000 = true) then (v.modSlot c (fun x => { x with runAt := some v.now })).slotNote p c 1 1 else v)) :=
  by
  refine ⟨(wSlot.set (Key.SLOT_CURVE + 4) (400 * 2 ^ 20 + 5)), _, 0, 4, 12000, 2000000, 1000, 5, _, _, _, rfl, ?_, ?_, rfl, ?_, rfl, rfl⟩ <;> decide +kernel
theorem w_SlotChannelResults_10 : ∃ (s u : State) (t : Nat) (c : ℕ), u = s.tick t ∧ ((u.portOfChannel c = none ∨ (u.slotChan c).live = false)) :=
  ⟨(State.reset), _, 0, 4, rfl, by decide +kernel⟩
theorem w_SlotChannelResults_11 : ∃ (s u : State) (t : Nat) (c : ℕ), u = s.tick t ∧ ((u.slotChan c).state = 1) ∧ (u.after (u.slotChan c).rampAt (1000000 * u.get (Key.SLOT_RAMP_TIMEOUT + c)) = true) :=
  by
  refine ⟨(wSlot), _, 1000000000000, 4, rfl, ?_, ?_⟩ <;> decide +kernel
theorem w_SlotChannelResults_12 : ∃ (s u : State) (t : Nat) (c : ℕ), u = s.tick t ∧ (((u.slotChan c).state ≠ 1 ∨ u.after (u.slotChan c).rampAt (1000000 * u.get (Key.SLOT_RAMP_TIMEOUT + c)) = false)) :=
  ⟨(wSlot.modSlot 4 (fun x => { x with state := 2 })), _, 0, 4, rfl, by decide +kernel⟩
theorem w_SlotChannelResults_13 : ∃ (s u : State) (t : Nat) (c : ℕ) (p : ℕ), u = s.tick t ∧ (u.portOfChannel c = some p) ∧ ((u.slotChan c).state ≠ 4) ∧ ((u.slotChan c).state ≠ 2) ∧ (u.after (u.slotChan c).offAt 5000000 = true) :=
  by
  refine ⟨(wSlot), _, 5000000, 4, 5, rfl, ?_, ?_, ?_, ?_⟩ <;> decide +kernel
theorem w_SlotChannelResults_14 : ∃ (s u : State) (t : Nat) (c : ℕ), u = s.tick t ∧ ((u.portOfChannel c = none ∨ (u.slotChan c).state = 4 ∨ (u.slotChan c).state = 2 ∨ u.after (u.slotChan c).offAt 5000000 = false)) :=
  ⟨(State.reset), _, 0, 4, rfl, by decide +kernel⟩
theorem w_SlotChannelResults_15 : ∃ (w : Machine.State) (p : ℕ) (c : ℕ) (st : ℕ) (cause : ℕ) (point : ℕ) (a : Machine.State) (b : Machine.State), (a = w.modSlot c (fun x => x.turnOff w.now st cause point)) ∧ (b = a.each ((a.channelsOf p).filter (fun d => d ≠ c && (a.slotChan d).live)) (fun x d => x.modSlot d (fun y => y.turnOff x.now 3 6 0))) :=
  ⟨wSlot, 5, 4, 3, 1, 0, _, _, rfl, rfl⟩
theorem w_SlotChannelResults_16 : ∃ (s u : State) (t : Nat) (c : ℕ) (p : ℕ), u = s.tick t ∧ (c < 48) ∧ (u.portOfChannel c = some p) :=
  by
  refine ⟨(wSlot), _, 0, 4, 5, rfl, ?_, ?_⟩ <;> decide +kernel
theorem w_SlotChannelResults_17 : ∃ (s u : State) (t : Nat) (w : Role) (c : ℕ), u = s.tick t ∧ ((w.isInstaller = false ∨ 48 ≤ c ∨ u.portOfChannel c = none)) :=
  ⟨(State.reset), _, 0, (.operator 2), 4, rfl, by decide +kernel⟩
theorem w_SlotChannelResults_18 : ∃ (s u : State) (t : Nat) (p : ℕ) (c : ℕ) (cs : List ℕ), u = s.tick t ∧ ((u.channelsOf p).filter (fun c => (u.slotChan c).state = 1) = c :: cs) ∧ ((c :: cs).any (fun d => (u.slotChan d).timers.any (· ≠ 0)) = false) :=
  by
  refine ⟨(wSlot), _, 0, 5, 4, ([]), rfl, ?_, ?_⟩ <;> decide +kernel
theorem w_SlotChannelResults_19 : ∃ (s u : State) (t : Nat) (p : ℕ), u = s.tick t ∧ (((u.channelsOf p).filter (fun c => (u.slotChan c).state = 1)).any (fun d => (u.slotChan d).timers.any (· ≠ 0)) = true) :=
  ⟨(wSlot.modSlot 4 (fun x => { x with timers := x.timers.set 0 3 })), _, 0, 5, rfl, by decide +kernel⟩
theorem w_SlotChannelResults_20 : ∃ (s u : State) (t : Nat) (p : ℕ), u = s.tick t ∧ ((u.channelsOf p).filter (fun c => (u.slotChan c).state = 1) = []) :=
  ⟨(State.reset), _, 0, 5, rfl, by decide +kernel⟩
theorem w_SlotChannelResults_21 : ∃ (s u : State) (t : Nat) (p : ℕ) (ok : Bool), u = s.tick t ∧ (ok = (if (u.upstreamPart (gOfPort p)).isSome then true else if (u.sharedOf (u.portLowG (gOfPort p))).mode = .resetting && u.isShared (u.portLowG (gOfPort p)) then false else if (u.channelsOf p).isEmpty then (u.isShared (u.portLowG (gOfPort p)) || (u.wholeVdp (gOfPort p)).isSome) && u.bindDemand p && u.power.powerGood && u.after u.power.pgAt 100000000 && u.limbRuns (limbOf (gOfPort p)) else (u.channelsOf p).all (fun c => (u.slotChan c).state = 2 && u.after (u.slotChan c).pgAt 100000000) && u.limbRuns (limbOf (gOfPort p)))) ∧ (p < 144) ∧ (ok = true) ∧ ((u.sideband p).perst = true) :=
  by
  refine ⟨(wHome.modSideband 8 (fun b => { b with perst := true })), _, 0, 8, _, rfl, rfl, ?_, rfl, ?_⟩ <;> decide +kernel
theorem w_SlotChannelResults_22 : ∃ (s u : State) (t : Nat) (p : ℕ) (ok : Bool), u = s.tick t ∧ (ok = (if (u.upstreamPart (gOfPort p)).isSome then true else if (u.sharedOf (u.portLowG (gOfPort p))).mode = .resetting && u.isShared (u.portLowG (gOfPort p)) then false else if (u.channelsOf p).isEmpty then (u.isShared (u.portLowG (gOfPort p)) || (u.wholeVdp (gOfPort p)).isSome) && u.bindDemand p && u.power.powerGood && u.after u.power.pgAt 100000000 && u.limbRuns (limbOf (gOfPort p)) else (u.channelsOf p).all (fun c => (u.slotChan c).state = 2 && u.after (u.slotChan c).pgAt 100000000) && u.limbRuns (limbOf (gOfPort p)))) ∧ ((144 ≤ p ∨ ok = false ∨ (u.sideband p).perst = false)) :=
  ⟨(State.reset), _, 0, 7, _, rfl, rfl, by decide +kernel⟩
theorem w_LimbPowerThermalAndReferences_1 : ∃ (s u : State) (t : Nat) (l : ℕ), u = s.tick t ∧ (l < 8) ∧ (u.mayGate l = true) :=
  by
  refine ⟨(State.reset), _, 0, 3, rfl, ?_, ?_⟩ <;> decide +kernel
theorem w_LimbPowerThermalAndReferences_2 : ∃ (s u : State) (t : Nat) (w : Role) (l : ℕ), u = s.tick t ∧ ((w.isInstaller = false ∨ 8 ≤ l ∨ u.mayGate l = false)) :=
  ⟨(State.reset), _, 0, (.operator 2), 3, rfl, by decide +kernel⟩
theorem w_LimbPowerThermalAndReferences_3 : ∃ (l : ℕ), (l < 8) :=
  ⟨3, by decide +kernel⟩
theorem w_LimbPowerThermalAndReferences_4 : ∃ (w : Role) (l : ℕ), ((w.isInstaller = false ∨ 8 ≤ l)) :=
  ⟨(.operator 2), 3, by decide +kernel⟩
theorem w_LimbPowerThermalAndReferences_5 : ∃ (w : Machine.State) (l : ℕ), (w.limbGated l = true) :=
  ⟨(State.reset.modHier (fun h => { h with limbs := h.limbs.set 3 .gated })), 3, by decide +kernel⟩
theorem w_LimbPowerThermalAndReferences_6 : ∃ (w : Machine.State) (l : ℕ), (w.limbGated l = false) :=
  ⟨State.reset, 3, by decide +kernel⟩
theorem w_LimbPowerThermalAndReferences_7 : ∃ (w : Machine.State) (l : ℕ), (w.limbGated l = true) :=
  ⟨(State.reset.modHier (fun h => { h with limbs := h.limbs.set 3 .gated })), 3, by decide +kernel⟩
theorem w_LimbPowerThermalAndReferences_8 : ∃ (s u : State) (t : Nat) (l : ℕ) (v : Machine.State), u = s.tick t ∧ (u.hier.powering.head? = some l) ∧ ((u.power.thermTripped = false ∨ u.power.hotDies = [])) ∧ (u.hier.contained.any (fun v => (UnitId.limb l).inside v) = false) ∧ (v = (u.modHier (fun h => { h with limbs := h.limbs.set l .running, powering := h.powering.drop 1 })).each (UnitId.boughs (.limb l)) State.formBough) :=
  by
  refine ⟨(State.reset.modHier (fun h => { h with limbs := h.limbs.set 3 .inReset, powering := [3] })), _, 0, 3, _, rfl, ?_, ?_, ?_, rfl⟩ <;> decide +kernel
theorem w_LimbPowerThermalAndReferences_9 : ∃ (s u : State) (t : Nat) (l : ℕ), u = s.tick t ∧ (u.hier.powering.head? = some l) ∧ ((u.power.thermTripped = false ∨ u.power.hotDies = [])) ∧ (u.hier.contained.any (fun v => (UnitId.limb l).inside v) = true) :=
  by
  refine ⟨(State.reset.modHier (fun h => { h with limbs := h.limbs.set 3 .inReset, powering := [3], contained := [.crown] })), _, 0, 3, rfl, ?_, ?_, ?_⟩ <;> decide +kernel
theorem w_LimbPowerThermalAndReferences_10 : ∃ (s u : State) (t : Nat) (l : ℕ), u = s.tick t ∧ ((u.hier.powering.head? ≠ some l ∨ u.power.thermTripped = true ∧ u.power.hotDies ≠ [])) :=
  ⟨(State.reset), _, 0, 3, rfl, by decide +kernel⟩
theorem w_LimbPowerThermalAndReferences_11 : ∃ (s u : State) (t : Nat) (p : ℕ), u = s.tick t ∧ (u.partUsed p = true) ∧ ((u.part p).state = .held) ∧ ((u.part p).cause = 0) ∧ ((u.mem.mode = 2 ∨ u.mem.mode = 3)) ∧ ((∀ g, u.upTwig p = some g → (u.hport (u.hportOfG g)).up = true)) :=
  by
  refine ⟨(((wHome.modPart 2 (fun x => { x with state := .held, cause := 0 })).modMem (fun m => { m with mode := 2 })).modHPort (wHome.hportOfG 8) (fun h => { h with lstate := .l0 })), _, 0, 2, rfl, ?_, ?_, ?_, ?_, ?_⟩ <;> decide +kernel
theorem w_LimbPowerThermalAndReferences_12 : ∃ (s u : State) (t : Nat) (p : ℕ), u = s.tick t ∧ ((u.partUsed p = false ∨ (u.part p).state ≠ .held ∨ (u.part p).cause ≠ 0 ∨ u.mem.mode ≠ 2 ∧ u.mem.mode ≠ 3 ∨ (∃ g, u.upTwig p = some g ∧ (u.hport (u.hportOfG g)).up = false))) :=
  ⟨(State.reset), _, 0, 2, rfl, by decide +kernel⟩
theorem w_LimbPowerThermalAndReferences_13 : ∃ (s u : State) (t : Nat), u = s.tick t ∧ (u.faults.crown ≠ .f4Latched) ∧ (u.power.inputLost = false) ∧ (u.power.standby = true) ∧ (u.faults.debugInstr ≠ .extest) :=
  by
  refine ⟨(State.reset), _, 0, rfl, ?_, ?_, ?_, ?_⟩ <;> decide +kernel
theorem w_LimbPowerThermalAndReferences_14 : ∃ (s u : State) (t : Nat), u = s.tick t ∧ (u.faults.crown ≠ .f4Latched) ∧ (u.power.inputLost = false) ∧ (u.power.standby = false) ∧ (u.faults.debugInstr ≠ .extest) :=
  by
  refine ⟨(wOff), _, 0, rfl, ?_, ?_, ?_, ?_⟩ <;> decide +kernel
theorem w_LimbPowerThermalAndReferences_15 : ∃ (s u : State) (t : Nat), u = s.tick t ∧ ((u.faults.crown = .f4Latched ∨ u.power.inputLost = true ∨ u.faults.debugInstr = .extest)) :=
  ⟨(State.reset.modFaults (fun f => { f with crown := .f4Latched })), _, 0, rfl, by decide +kernel⟩
theorem w_LimbPowerThermalAndReferences_16 : ∃ (s u : State) (t : Nat), u = s.tick t ∧ (u.power.resetPin = true) :=
  ⟨(State.reset.modPower (fun x => { x with resetPin := true })), _, 0, rfl, by decide +kernel⟩
theorem w_LimbPowerThermalAndReferences_17 : ∃ (s u : State) (t : Nat), u = s.tick t ∧ (u.power.resetPin = false) :=
  ⟨(State.reset), _, 0, rfl, by decide +kernel⟩
theorem w_LimbPowerThermalAndReferences_18 : ∃ (s u : State) (t : Nat) (d : ℕ) (v : Machine.State), u = s.tick t ∧ (v = u.modPower (fun x => { x with hotDies := insertNew x.hotDies d })) :=
  ⟨(State.reset), _, 0, 2, _, rfl, rfl⟩
theorem w_LimbPowerThermalAndReferences_19 : ∃ (s u : State) (t : Nat) (d : ℕ) (v : Machine.State), u = s.tick t ∧ (v = u.modPower (fun x => { x with hotDies := insertNew x.hotDies d, thermTripped := true })) :=
  ⟨(State.reset), _, 0, 2, _, rfl, rfl⟩
theorem w_LimbPowerThermalAndReferences_21 : ∃ (s u : State) (t : Nat) (d : ℕ) (v : Machine.State), u = s.tick t ∧ (d < 4) ∧ (u.power.reft.getD d false = true) ∧ (v = (u.modPower (fun x => { x with reft := x.reft.set d false })).noteAt 0xC1F d 2) :=
  by
  refine ⟨(State.reset), _, 0, 1, _, rfl, ?_, ?_, rfl⟩ <;> decide +kernel
theorem w_LimbPowerThermalAndReferences_22 : ∃ (s u : State) (t : Nat) (d : ℕ), u = s.tick t ∧ ((4 ≤ d ∨ u.power.reft.getD d false = false)) :=
  ⟨(State.reset), _, 0, 4, rfl, by decide +kernel⟩
theorem w_LimbPowerThermalAndReferences_23 : ∃ (d : ℕ), (d < 4) :=
  ⟨1, by decide +kernel⟩
theorem w_LimbPowerThermalAndReferences_24 : ∃ (d : ℕ), (4 ≤ d) :=
  ⟨4, by decide +kernel⟩
theorem w_LimbPowerThermalAndReferences_25 : ∃ (s u : State) (t : Nat), u = s.tick t ∧ (u.power.ref25 = true) ∧ (u.power.standby = true) :=
  by
  refine ⟨(State.reset), _, 0, rfl, ?_, ?_⟩ <;> decide +kernel
theorem w_LimbPowerThermalAndReferences_26 : ∃ (s u : State) (t : Nat), u = s.tick t ∧ (u.power.ref25 = true) ∧ (u.power.standby = false) :=
  by
  refine ⟨(wOff), _, 0, rfl, ?_, ?_⟩ <;> decide +kernel
theorem w_LimbPowerThermalAndReferences_27 : ∃ (s u : State) (t : Nat), u = s.tick t ∧ (u.power.ref25 = false) :=
  ⟨(State.reset.modPower (fun x => { x with ref25 := false })), _, 0, rfl, by decide +kernel⟩
theorem w_LimbPowerThermalAndReferences_28 : ∃ (s u : State) (t : Nat), u = s.tick t ∧ (u.power.standby = true) :=
  ⟨(State.reset), _, 0, rfl, by decide +kernel⟩
theorem w_LimbPowerThermalAndReferences_29 : ∃ (s u : State) (t : Nat), u = s.tick t ∧ (u.power.standby = false) ∧ (u.power.powerGood = true) :=
  by
  refine ⟨(wOff.modPower (fun x => { x with powerGood := true })), _, 0, rfl, ?_, ?_⟩ <;> decide +kernel
theorem w_LimbPowerThermalAndReferences_30 : ∃ (s u : State) (t : Nat), u = s.tick t ∧ (u.power.standby = false) ∧ (u.power.powerGood = false) :=
  by
  refine ⟨(wOff), _, 0, rfl, ?_, ?_⟩ <;> decide +kernel
theorem w_CounterCommands_1 : ∃ (n : ℕ) (v : ℕ), (n < 3136) ∧ (v < 2 ^ 32) ∧ (field v 27 10 = 0) ∧ (cntEventAllowed n (field v 9 0) = true) :=
  by
  refine ⟨0, 1, ?_, ?_, ?_, ?_⟩ <;> decide +kernel
theorem w_CounterCommands_4 : ∃ (w : Role) (n : ℕ) (v : ℕ), ((w.isInstaller = false ∨ 3136 ≤ n ∨ 2 ^ 32 ≤ v ∨ field v 27 10 ≠ 0 ∨ cntEventAllowed n (field v 9 0) = false)) :=
  ⟨(.operator 2), 0, 1, by decide +kernel⟩
theorem w_CounterCommands_5 : ∃ (s u : State) (t : Nat) (n : ℕ) (v : ℕ), u = s.tick t ∧ (v = u.getDef (Key.CNT_CTL + n) 0 + 2 ^ 28) ∧ (cntCtlLegal n v = true) :=
  ⟨(State.reset), _, 0, 0, _, rfl, rfl, by decide +kernel⟩
theorem w_CounterCommands_6 : ∃ (s u : State) (t : Nat) (w : Role) (n : ℕ), u = s.tick t ∧ ((w.isInstaller = false ∨ cntCtlLegal n (u.getDef (Key.CNT_CTL + n) 0 + 2 ^ 28) = false)) :=
  ⟨(State.reset), _, 0, (.operator 2), 0, rfl, by decide +kernel⟩
theorem w_CounterCommands_7 : ∃ (s u : State) (t : Nat) (n : ℕ) (v : ℕ), u = s.tick t ∧ (v = u.getDef (Key.CNT_CTL + n) 0 + 2 ^ 30) ∧ (cntCtlLegal n v = true) :=
  ⟨(State.reset), _, 0, 0, _, rfl, rfl, by decide +kernel⟩
theorem w_CounterCommands_8 : ∃ (s u : State) (t : Nat) (w : Role) (n : ℕ), u = s.tick t ∧ ((w.isInstaller = false ∨ cntCtlLegal n (u.getDef (Key.CNT_CTL + n) 0 + 2 ^ 30) = false)) :=
  ⟨(State.reset), _, 0, (.operator 2), 0, rfl, by decide +kernel⟩
theorem w_CounterCommands_9 : ∃ (m : BitVec 16), (m.toNat < 2 ^ 13) :=
  ⟨1, by decide +kernel⟩
theorem w_CounterCommands_10 : ∃ (m : BitVec 16), (m.toNat < 2 ^ 13) :=
  ⟨1, by decide +kernel⟩
theorem w_CounterCommands_11 : ∃ (w : Role) (m : BitVec 16), ((w.isInstaller = false ∨ 2 ^ 13 ≤ m.toNat)) :=
  ⟨(.installer 0), 0x2000, by decide +kernel⟩
theorem w_CounterCommands_12 : ∃ (w : Role) (m : BitVec 16), ((w.isInstaller = false ∨ 2 ^ 13 ≤ m.toNat)) :=
  ⟨(.installer 0), 0x2000, by decide +kernel⟩
theorem w_CounterCommands_13 : ∃ (s u : State) (t : Nat) (n : _), u = s.tick t ∧ (s.power.standby = true) ∧ (s.power.ref25 = true) ∧ (s.selected = [n]) ∧ (field (s.get (Key.CNT_CTL + n)) 9 0 = 2) ∧ ((s.counter n).value.toNat + (max s.now t / 40 - s.now / 40) < 2 ^ 48) :=
  by
  refine ⟨(wTick), _, 0, 3, rfl, ?_, ?_, ?_, ?_, ?_⟩ <;> decide +kernel
theorem w_SnapshotResults_1 : ∃ (s u : State) (t : Nat) (ft : ℕ) (id : ℕ) (v : Machine.State) (n : ℕ), u = s.tick t ∧ (u.snapQueue ft id u.crownId = some (v, n)) :=
  ⟨(State.reset), _, 0, 0, 3, ((((State.tick (State.reset) 0).snapQueue (0) (3) (State.tick (State.reset) 0).crownId).getD (State.reset, 0)).1), ((((State.tick (State.reset) 0).snapQueue (0) (3) (State.tick (State.reset) 0).crownId).getD (State.reset, 0)).2), rfl, rfl⟩
theorem w_SnapshotResults_2 : ∃ (s u : State) (t : Nat) (ft : ℕ) (id : ℕ) (v : Machine.State) (n : ℕ), u = s.tick t ∧ (u.stampFt + 1000000 ≤ ft) ∧ (u.snapQueue ft id u.crownId = some (v, n)) :=
  ⟨(State.reset), _, 0, 2000000, 3, ((((State.tick (State.reset) 0).snapQueue (2000000) (3) (State.tick (State.reset) 0).crownId).getD (State.reset, 0)).1), ((((State.tick (State.reset) 0).snapQueue (2000000) (3) (State.tick (State.reset) 0).crownId).getD (State.reset, 0)).2), rfl, by decide +kernel, rfl⟩
theorem w_SnapshotResults_3 : ∃ (s u : State) (t : Nat) (ft : ℕ) (id : ℕ) (b : Bool), u = s.tick t ∧ ((u.snapQueue ft id u.crownId = none ∨ b = true ∧ ft < u.stampFt + 1000000)) :=
  ⟨(wSnaps), _, 0, 99, 3, false, rfl, by decide +kernel⟩
theorem w_SnapshotResults_4 : ∃ (w : Role), (w.isInstaller = false) :=
  ⟨(.operator 2), by decide +kernel⟩
theorem w_SnapshotResults_5 : ∃ (s u : State) (t : Nat) (ft : ℕ) (a : ActSlot), u = s.tick t ∧ (u.snapsPending.find? (fun a => a.ft = ft) = some a) :=
  ⟨(wSnaps), _, 0, 5, (wSnap 5), rfl, by decide +kernel⟩
theorem w_SnapshotResults_6 : ∃ (s u : State) (t : Nat) (ft : ℕ), u = s.tick t ∧ (u.snapsPending.find? (fun a => a.ft = ft) = none) ∧ (u.snapsPending.length < 8) :=
  by
  refine ⟨(State.reset), _, 0, 5, rfl, ?_, ?_⟩ <;> decide +kernel
theorem w_SnapshotResults_7 : ∃ (s u : State) (t : Nat) (ft : ℕ), u = s.tick t ∧ (u.snapsPending.find? (fun a => a.ft = ft) = none) ∧ (8 ≤ u.snapsPending.length) :=
  by
  refine ⟨(wSnaps), _, 0, 99, rfl, ?_, ?_⟩ <;> decide +kernel
theorem w_SnapshotResults_8 : ∃ (s u : State) (t : Nat) (q : ℕ) (m : SnapMsg) (v : Machine.State) (w : Machine.State) (n : ℕ), u = s.tick t ∧ (u.trunkUp q = true) ∧ ((assocGet u.act.snapSeen m.origin = none ∨ ∃ l, assocGet u.act.snapSeen m.origin = some l ∧ newer16 m.number l = true)) ∧ (m.origin ≠ u.crownId) ∧ (v = (u.modAct (fun a => { a with snapSeen := assocPut a.snapSeen m.origin m.number })).sendControl (fun r => r ≠ q) (.snapshot m)) ∧ (v.snapQueue m.ft m.snapId m.origin = some (w, n)) :=
  by
  refine ⟨(State.reset.modTrunk 3 (fun k => { k with tstate := .l0 })), _, 0, 3, ({ origin := 6, number := 1, ft := 77, snapId := 3 }), _, ((((((State.tick (State.reset.modTrunk 3 (fun k => { k with tstate := .l0 })) 0).modAct (fun a => { a with snapSeen := assocPut a.snapSeen ({ origin := 6, number := 1, ft := 77, snapId := 3 } : SnapMsg).origin ({ origin := 6, number := 1, ft := 77, snapId := 3 } : SnapMsg).number })).sendControl (fun r => r ≠ (3)) (.snapshot ({ origin := 6, number := 1, ft := 77, snapId := 3 } : SnapMsg))).snapQueue ({ origin := 6, number := 1, ft := 77, snapId := 3 } : SnapMsg).ft ({ origin := 6, number := 1, ft := 77, snapId := 3 } : SnapMsg).snapId ({ origin := 6, number := 1, ft := 77, snapId := 3 } : SnapMsg).origin).getD (State.reset, 0)).1), ((((((State.tick (State.reset.modTrunk 3 (fun k => { k with tstate := .l0 })) 0).modAct (fun a => { a with snapSeen := assocPut a.snapSeen ({ origin := 6, number := 1, ft := 77, snapId := 3 } : SnapMsg).origin ({ origin := 6, number := 1, ft := 77, snapId := 3 } : SnapMsg).number })).sendControl (fun r => r ≠ (3)) (.snapshot ({ origin := 6, number := 1, ft := 77, snapId := 3 } : SnapMsg))).snapQueue ({ origin := 6, number := 1, ft := 77, snapId := 3 } : SnapMsg).ft ({ origin := 6, number := 1, ft := 77, snapId := 3 } : SnapMsg).snapId ({ origin := 6, number := 1, ft := 77, snapId := 3 } : SnapMsg).origin).getD (State.reset, 0)).2), rfl, ?_, ?_, ?_, rfl, rfl⟩ <;> decide +kernel
theorem w_SnapshotResults_9 : ∃ (s u : State) (t : Nat) (q : ℕ) (m : SnapMsg) (v : Machine.State), u = s.tick t ∧ (u.trunkUp q = true) ∧ ((assocGet u.act.snapSeen m.origin = none ∨ ∃ l, assocGet u.act.snapSeen m.origin = some l ∧ newer16 m.number l = true)) ∧ (m.origin ≠ u.crownId) ∧ (v = (u.modAct (fun a => { a with snapSeen := assocPut a.snapSeen m.origin m.number })).sendControl (fun r => r ≠ q) (.snapshot m)) ∧ (v.snapQueue m.ft m.snapId m.origin = none) :=
  by
  refine ⟨(wSnaps.modTrunk 3 (fun k => { k with tstate := .l0 })), _, 0, 3, ({ origin := 6, number := 1, ft := 77, snapId := 3 }), _, rfl, ?_, ?_, ?_, rfl, ?_⟩ <;> decide +kernel
theorem w_SnapshotResults_10 : ∃ (s u : State) (t : Nat) (q : ℕ) (m : SnapMsg), u = s.tick t ∧ ((u.trunkUp q = false ∨ m.origin = u.crownId ∨ ∃ l, assocGet u.act.snapSeen m.origin = some l ∧ newer16 m.number l = false)) :=
  ⟨(State.reset), _, 0, 3, ({ origin := 6, number := 1, ft := 0, snapId := 3 }), rfl, by decide +kernel⟩
theorem w_SnapshotResults_11 : ∃ (s u : State) (t : Nat) (n : ℕ) (a : ActSlot), u = s.tick t ∧ (n < 256) ∧ (a = u.act.slots.getD n ActSlot.reset) ∧ (a.kind = .snapshot) ∧ (u.actTurn n = true) ∧ (u.dueFate false ≠ .wait) :=
  by
  refine ⟨(wDue .snapshot 3 false), _, 0, 0, _, rfl, ?_, rfl, ?_, ?_, ?_⟩ <;> decide +kernel
theorem w_SnapshotResults_12 : ∃ (s u : State) (t : Nat) (n : ℕ), u = s.tick t ∧ ((256 ≤ n ∨ (u.act.slots.getD n ActSlot.reset).kind ≠ .snapshot ∨ u.actTurn n = false ∨ u.dueFate false = .wait)) :=
  ⟨(State.reset), _, 0, 0, rfl, by decide +kernel⟩
theorem w_SnapshotResults_14 : ∃ (s u : State) (t : Nat) (vs : List (ℕ × Counter)) (ft : ℕ) (id : ℕ) (o : ℕ) (x : ℕ), u = s.tick t ∧ (u.counters.staging = some (vs, ft, id, o, x)) :=
  ⟨(State.reset.modCounters (fun c => { c with staging := some ([], 0, 3, 5, 0) })), _, 0, ([]), 0, 3, 5, 0, rfl, by decide +kernel⟩
theorem w_SnapshotResults_15 : ∃ (s u : State) (t : Nat), u = s.tick t ∧ (u.counters.staging = none) :=
  ⟨(State.reset), _, 0, rfl, by decide +kernel⟩

/-! ### Commands that name something, and commands that name nothing -/

theorem test_wf : [Instr.twigReset 0 (.operator 71) 159, .trunkLinkLoss 0 15, .l0pWiden 0 143, .boughReset 0 (.installer 7) 39,
    .limbRunning 0 7, .egressStart 0 163 0, .snapshotFire 0 255].all Instr.wf = true := by decide
theorem test_wf_units : [Instr.twigReset 0 .anonymous 160, .trunkLinkLoss 0 16, .l0pWiden 0 144, .boughReset 0 .anonymous 40,
    .limbRunning 0 8, .dieReset 0 .anonymous 4, .thermHigh 0 5, .dfeUpdate 0 576 [], .slotFastTrip 0 48 1, .gateScrubVisit 0 160 true,
    .memHotChange 0 24 0, .egressStart 0 164 0, .dieLinkLaneFail 0 (.stemStem 6), .dieLinkLaneFail 0 (.stemHeartwood 4),
    .tlpIngress 0 36 wTlp, .engFault 0 32].all (fun c => !c.wf) = true := by decide
theorem test_wf_partitions : [Instr.unlock 0 64, .sliceFlrDone 0 0 256, .classMapHold 0 0 8, .epochSweepDone 0 4096, .routeUnreachable 0 1024,
    .vectorUnmask 0 0 2048, .retrainLink 0 0 (some 256), .bridgeRead 0 0 (some 64) (.gate 0) 0 0, .bridgeRead 0 0 none (.gate 160) 0 4, .ringEnable 0 0 0, .ringEnable 0 0 17,
    .flrComplete 0 0 25, .functionCompletionTimeout 0 0 0 512, .sendDoorbell 0 0 8 0 0 [], .sendDoorbell 0 0 0 16 0 [],
    .nop 0 { part := 64, vf := 1, index := 0 } (wOp 0), .configRequest 0 0 0 0 (.vdp 256) .memEnable none].all (fun c => !c.wf) = true := by decide
theorem test_wf_roles : [Instr.twigReset 0 (.operator 72) 0, .twigReset 0 (.installer 8) 0, .twigReset 0 (.maker 2) 0,
    .warmReset 0 (.request (.maker 2)), .subscribe 0 { wReq with via := .mailbox 64 }, .subscribe 0 { wReq with via := .inBand 1024 },
    .subscribe 0 { wReq with reqId := 2 ^ 32 }, .subscribe 0 { wReq with target := 65536 }].all (fun c => !c.wf) = true := by decide
theorem test_wf_fields : [Instr.dictionaryChangeFire 0 256, .winFetchDone 0 0 65536 true, .injectArm 0 .anonymous 16 0, .cntClear 0 .anonymous 3136,
    .read 0 wReq 65536 0 0, .read 0 wReq 0 256 0, .read 0 wReq 0 0 256, .resultChunk 0 0 16 0 [], .reducePartial 0 0 0 16 0 0 [],
    .eventSoft 0 .anonymous 4096, .openSet 0 wReq true 64 false,
    .resetComplete 0 (.die 4), .timeAnnounceReceive 0 0 { hops := 0, key := 0, masterState := 4, seq := 0, ft := 0, sender := 1024 },
    .capsFrame 0 0 [], .eqFrame 0 16 (List.replicate 128 0),
    .fuReceive 0 0 { wFu with hdr := { wFu.hdr with cls := 8 } } 0, .fenceNotice 0 0 { crown := 1024, issuer := 0, set := true, number := 0, ft := 0 },
    .farFailureNotice 0 0 { wFar.note with gpart := 4096 }, .errorSignal 0 { wSig with source := 4096 },
    .containmentMessage 0 0 { reporter := 0, kind := 0, contained := true, twig := 160, gpart := 0, number := 0, ft := 0 },
    .sidebandPoll 0 [{ port := 0, levels := some [true] }], .refreshBatch 0 0 [24] [], .refreshBatch 0 0 [] [24]].all (fun c => !c.wf) = true := by decide

/-! ### The manual's worked examples -/

/-- R124: the check over the nine ASCII bytes "123456789". -/
theorem test_check_of_nine_digits : crc64 [0x31, 0x32, 0x33, 0x34, 0x35, 0x36, 0x37, 0x38, 0x39] = 0x62EC59E3F1A4F00A#64 := by decide +kernel
/-- 01, a mixed bough: code 0x01 gives twigs 28 to 31 the ports H28 (x8), H30 and H31 (x4). -/
theorem test_mixed_bough : [0, 1, 2, 3].map (portLow 1) = [0, 0, 2, 3] ∧ [0, 1, 2, 3].map (portSpan 1) = [2, 2, 1, 1] := by decide
/-- 08, routes between the Larch crowns: 0xF000_FEDC names T12 to T15, 0x1000_0008 names T8. -/
theorem test_larch_routes : routeMembers 0xF000FEDC = [12, 13, 14, 15] ∧ routeMembers 0x10000008 = [8] := by decide
/-- The same example: the home member of FLOW 0x5B is T15. -/
theorem test_larch_home_member : (State.reset.set (Key.ROUTE + 2) 0xF000FEDC).homeMember 2 0x5B = some 15 := by decide +kernel
/-- 02, holdover on the remote crown: 2 ns at once, 502 ns after 5 s, 3,002 ns after 30 s. -/
theorem test_holdover_uncertainty :
    [0, 5000000000, 30000000000].map (fun n => ({ State.reset.modTime (fun x => { x with mode := .holdover, holdBase := hopBound 1 }) with now := n }).uncertainty) =
      [2, 502, 3002] := by decide +kernel
/-- 10, an order-fixed sum: 2048 + 1 in FP16 is a tie and rounds to 2048. -/
theorem test_fp16_tie : (fmtOf 0xB).map (fun f => f.combine 0 false [0x00, 0x68] [0x00, 0x3C]) = some [0x00, 0x68] := by decide +kernel
/-- The same example in arrival order: 1 + 1 is 2, and 2 + 2048 is 2050. -/
theorem test_fp16_arrival_order :
    (fmtOf 0xB).map (fun f => f.combine 0 false (f.combine 0 false [0x00, 0x3C] [0x00, 0x3C]) [0x00, 0x68]) = some [0x01, 0x68] := by decide +kernel
/-- The windows and the pool region of 07, a Larch host reaching memory on the other crown. -/
def wLarch : State :=
  ((((((State.reset.set Key.CROWN_ID 1).set (Key.WIN_MAP + 0x40) 0x8160004000000000).set (Key.WIN_TARGET + 0x40) 0x0020010000000000).set
    (Key.GATE_REG_ADDR + 256 * 0x90) 0x0000000400000581).set (Key.GATE_REG_PARTS + 256 * 0x90) 1).set (Key.GATE_REG_RIGHTS + 256 * 0x90)
    0xE1A4000000000000).modMem (fun m => { m with mode := 2 })
/-- Steps 3 and 4: the window leads to crown 0x002 with fabric address 0x8004_1234_5080. -/
theorem test_larch_window : wLarch.windowAt 0 0x4012345080 = some (0x40, 0x8160004000000000) ∧
    wLarch.throughWindow 0x40 0x8160004000000000 0x4012345080 = .remote 2 0 0 0x800412345080 := by decide +kernel
/-- Step 5: region 0 admits the host of P0, with RO set; a device of P1 is denied. -/
theorem test_larch_region : wLarch.gateDecide 0x90 .host 0 0x0412345080 true false = .allow false true false false ∧
    wLarch.gateDecide 0x90 .device 1 0x0412345080 false true = .fault 2 := by decide +kernel
/-- 09, one read traced to the device: line 68,301,904 is line 2,845,912 of device 16, PLA 0x102B_6CD8. -/
theorem test_pool_line : lineDevice 68301904 = 16 ∧ lineIn 68301904 = 2845912 ∧ State.reset.plaOf 68301904 = 0x102B6CD8 := by decide +kernel
/-- 06, a slice of a Larch accelerator: the fields of 0x8013_8010_1030_0000. -/
theorem test_slice_binding : Binding.ofNat 0x8013801010300000 = { kind := 2, crown := 1, twig := 0x38, fnFirst := 0x101, fnCount := 3 } := by decide
/-- R121: a write of 4,096 bytes with a 16-byte header takes 19 flow units. -/
theorem test_flow_units : { wDesc with len := 16 + 4096 }.fus = 19 := by decide
/-- R10: T12 is module twig 156, H52 module twig 56. -/
theorem test_names : gOfTrunk 12 = 156 ∧ gOfPort 52 = 56 ∧ portOfG 56 = 52 := by decide

/-- 17: TL32 stands at 65:49 to 67:50, HL208 at 35:25; RESET_N and SENSE_N of channel 2. -/
theorem test_contacts : trunkLaneContacts 32 = [⟨65, 49⟩, ⟨65, 50⟩, ⟨67, 49⟩, ⟨67, 50⟩] ∧ (hostLaneContacts 208).head? = some ⟨35, 25⟩ ∧
    signalContact "RESET_N" = some ⟨10, 1⟩ ∧ slotContacts 2 = [⟨7, 5⟩, ⟨7, 6⟩, ⟨8, 5⟩, ⟨8, 6⟩] := by decide
theorem test_contact_count : (contactGroups.map (·.2)).sum = 6912 ∧ (clockDomains.map (·.2)).sum = 934 ∧ maximumPower = 1083 := by decide
/-- 05, a C7 notice from port to port: 70 ns on one crown, 112 ns a hop more; a replay at 250 ns adds 810. -/
theorem test_latency : c7Terms.sum = 70 ∧ hopTerms.sum = 112 ∧ replayBound 250 = 810 ∧ c7Bound 1 1 0 [250] = 426 := by decide

/-! ### Commands on the crown after reset -/

/-- An empty queue idles, and a command in front runs. -/
theorem test_step : step State.reset = .next State.reset := rfl
/-- The instant of a command becomes the local count. -/
theorem test_time : (match exec (.markerLoss 5) State.reset with | .next s => s.now | _ => 0) = 5 := by decide +kernel

/-- 15, the dip on the Larch rail: at 7.0 V the cap is 95 A; before it, 880 W from 12.0 V draw 73.334 A. -/
theorem test_dip_cap : State.reset.currentTarget 7000 880000 = 95000 ∧ State.reset.currentTarget 12000 880000 = 73334 := by decide +kernel

/-- R524: ticks of the 25 MHz reference come by themselves: 25 of them in 1 µs. -/
theorem test_reference_ticks : ((wTick.tick 1000).counter 3).value = 25 := by decide +kernel

end Sys2Proof.Tests
end

section
/-! SUPPORT. That answering a request changes no entry, and the WRITE of a width that BOUGH_WIDTH cannot take (R16, R409). -/

namespace Sys2Proof.Machine

/-! ### Answering a request changes no entry (R409) -/

theorem State.countAnswer_eventOnly (s : State) (status : Nat) : s.EventOnly (s.countAnswer status) := by
  have heart (u : State) (ev : Nat) : u.EventOnly (u.countHeart ev 1) := State.countFrom_eventOnly _ _ _ _ _
  exact .ite (heart s _) (.ite ((heart s _).trans (heart _ _)) (heart s _))

theorem State.authEvent_eventOnly (s : State) (status : Nat) : s.EventOnly (s.authEvent status) :=
  .ite (s.note_eventOnly _) (.rfl' s)

theorem State.mailboxAnswer_eventOnly (s : State) (p : Nat) (bs : List Byte) : s.EventOnly (s.mailboxAnswer p bs) :=
  .ite (.trans (t := s.modPart p _) rfl (State.vector_eventOnly _ _ _ _)) rfl

theorem State.deliverAnswer_eventOnly (s : State) (r : Req) (a : Answer) (replayed : Bool) :
    s.EventOnly (s.deliverAnswer r a replayed) := by
  unfold State.deliverAnswer
  split
  · exact s.mailboxAnswer_eventOnly _ _
  · rfl

theorem State.cacheAnswer_eventOnly (s : State) (r : Req) (a : Answer) : s.EventOnly (s.cacheAnswer r a) := by
  unfold State.cacheAnswer
  split
  · exact .ite (.rfl' s) rfl
  · rfl

/-- A response reaches what events reach: it leaves, is counted and cached, and its session moves on. -/
theorem State.respond_eventOnly (s : State) (r : Req) (a : Answer) : s.EventOnly (s.respond r a) := by
  have sent : s.EventOnly ((((s.countAnswer a.status).authEvent a.status).deliverAnswer r a false).cacheAnswer r a) :=
    (((s.countAnswer_eventOnly _).trans (State.authEvent_eventOnly _ _)).trans (State.deliverAnswer_eventOnly _ _ _ _)).trans
      (State.cacheAnswer_eventOnly _ _ _)
  unfold State.respond
  cases r.mac with
  | none => exact sent
  | some m => exact .ite (sent.trans rfl) (sent.trans rfl)

@[simp] theorem State.respond_dict (s : State) (r : Req) (a : Answer) : (s.respond r a).dict = s.dict :=
  (s.respond_eventOnly r a).dict

@[simp] theorem State.jForm_dict (s : State) (keyId : Nat) (parts : BitVec 64) (req : Option Req) (who : Role)
    (write : Option (Nat × Nat)) (answer : Option Answer) (b : JBody) :
    (s.jForm keyId parts req who write answer b).dict = s.dict := rfl

@[simp] theorem State.finishWith_dict (s : State) (r : Req) (c : Caller) (a : Answer) : (s.finishWith r c a).dict = s.dict := by
  unfold State.finishWith
  split
  · split <;> simp
  · simp

@[simp] theorem State.refuseReq_dict (s : State) (r : Req) (c : Caller) (op status detail index sub : Nat) :
    (s.refuseReq r c op status detail index sub).dict = s.dict := s.finishWith_dict r c _

/-- A refusal leaves what every entry reads. -/
@[simp] theorem State.refuseReq_get (s : State) (r : Req) (c : Caller) (op status detail index sub key : Nat) :
    (s.refuseReq r c op status detail index sub).get key = s.get key := by
  simp [State.get]

/-! ### Counting a signature and touching a session -/

theorem State.sigCounted_eventOnly (s : State) (r : Req) : s.EventOnly (s.sigCounted r) := by
  unfold State.sigCounted
  split
  · exact .ite (State.countFrom_eventOnly _ _ _ _ _) (.rfl' s)
  · rfl

theorem State.touchSession_eventOnly (s : State) (r : Req) : s.EventOnly (s.touchSession r) := by
  unfold State.touchSession
  split <;> rfl

/-- What is counted and touched before a request is performed is the business of events and sessions. -/
theorem State.taken_eventOnly (s : State) (r : Req) : s.EventOnly ((s.sigCounted r).touchSession r) :=
  (s.sigCounted_eventOnly r).trans (State.touchSession_eventOnly _ r)

/-- Outside recovery no entry is served without a key (R488). -/
theorem State.recoveryServes_eq_false {s : State} (h : s.journal.recovery = false) (op index : Nat) :
    s.recoveryServes op index = false := by
  simp [State.recoveryServes, h]

/-! ### WRITE of a value that its entry cannot take (R409 steps 3 to 7) -/

/-- A WRITE of the entry's own type, to an entry that is not staged, of a value that is not legal is refused: for the role, else for the
value. -/
theorem State.serveWrite_illegal {s : State} (r : Req) (c : Caller) {index sub v len : Nat} {e : Entry}
    (open_ : s.recoveryServes Op.write index = false) (entry : entryAt index sub = some e) (persist : e.persist ≠ .staged)
    (illegal : legalValue e (256 * index + sub) v len = false) :
    s.serveWrite r c index sub e.ty.code v len =
      s.refuseReq r c Op.write
        (if e.writable c.who (256 * index + sub) then Status.valueRefused else Status.accessDenied) 0 index sub := by
  cases may : e.writable c.who (256 * index + sub) <;>
    simp [State.serveWrite, checkEntry, open_, entry, persist, illegal, may]

/-! ### BOUGH_WIDTH (R16) -/

/-- The row of BOUGH_WIDTH in the table of chapter 01. -/
def boughWidthEntry : Entry :=
  ⟨"BOUGH_WIDTH", 0x3100, 0x00, 0x3100, 0x27, .u8, .r, .rw, .r, .journaled, .nextRetrain, 0⟩

theorem entryAt_boughWidth {n : Nat} (h : n < 40) : entryAt 0x3100 n = some boughWidthEntry := by
  have found : entries01_0.find? (fun e => e.holds 0x3100 n) = some boughWidthEntry := by
    have sub : n ≤ 0x27 := by omega
    simp [entries01_0, Entry.holds, Entry.spansIndices, boughWidthEntry, sub]
  simp only [entryAt, entries, List.append_assoc, List.find?_append, found, Option.some_or]

/-- No value above 0x04 is a width of a bough. -/
theorem legalValue_boughWidth_eq_false {n v : Nat} (hn : n < 40) (hv : 4 < v) (len : Nat) :
    legalValue boughWidthEntry (256 * 0x3100 + n) v len = false := by
  have index : (256 * 0x3100 + n) / 256 = 0x3100 := by omega
  simp [legalValue, index, legal3, hv]

end Sys2Proof.Machine

open Sys2Proof Sys2Proof.Machine

/-- Settles O17: the row of BOUGH_WIDTH takes no value above 0x04, so the WRITE ends at the caller's role or at the value (R409 steps 4
and 7), and a refusal changes no entry. -/
theorem boughWidthRefused : Obligations.BoughWidthRefused := by
  intro s u t r c n v hu heard known may hn hv hv'
  subst hu
  set w := ((s.tick t).sigCounted r).touchSession r
  have only : (s.tick t).EventOnly w := State.taken_eventOnly _ r
  have recovery : w.journal.recovery = false := by
    obtain ⟨-, -, -, -, -, -, -, -, out⟩ := heard
    rw [only.journal, out]
  have body : bodyOk (.write t r 0x3100 n 2 v 1) = true := by
    simp [bodyOk, formOk, typeWidth, hv']
    omega
  have served : (s.tick t).arrive (.write t r 0x3100 n 2 v 1) = w.serveWrite r c 0x3100 n boughWidthEntry.ty.code v 1 :=
    State.arrive_known _ _ r Op.write 0x3100 n c rfl heard body known may
  have shape : exec (.write t r 0x3100 n 2 v 1) s = act2 s t (fun x => x.arrive (.write t r 0x3100 n 2 v 1)) := rfl
  refine ⟨if boughWidthEntry.writable c.who (256 * 0x3100 + n) then Status.valueRefused else Status.accessDenied, ?_, ?_, ?_⟩
  · split
    · exact .inr rfl
    · exact .inl rfl
  · exact afterAll_act2 t _ shape (served.trans (State.serveWrite_illegal r c (State.recoveryServes_eq_false recovery _ _)
      (entryAt_boughWidth hn) (by decide) (legalValue_boughWidth_eq_false hn hv 1)))
  · rw [State.refuseReq_get, State.get, only.dict, State.get]

end

section
/-! SUPPORT. The effects of the hierarchy's commands: failing lanes of die-to-die links, reset requests, a bough's completed reset (R7 to
R9, R28 to R31). -/

namespace Sys2Proof.Machine

/-! ### A lane of a die-to-die link fails (R7 to R9) -/

theorem dieLinkLaneFail_stemStem_spare {s : State} {k : Nat} (hk : k < 6) (spare : 0 < s.hier.stemLinkSpares.getD k 0) :
    dieLinkLaneFailEffect s (.stemStem k) =
      (s.modHier (fun h => { h with stemLinkSpares := h.stemLinkSpares.modify k (· - 1) })).noteFree (srcStem (stemPairLow k) 0) 1 := by
  simp only [dieLinkLaneFailEffect, if_neg (Nat.not_le.2 hk), if_pos spare]

theorem dieLinkLaneFail_stemStem_last {s : State} {k : Nat} (hk : k < 6) (none_ : s.hier.stemLinkSpares.getD k 0 = 0) :
    dieLinkLaneFailEffect s (.stemStem k) =
      s.note { Ev.plain (srcStem (stemPairLow k) 0) k 3 with level := 4, unit := some .crown, action := 7 } := by
  simp only [dieLinkLaneFailEffect, if_neg (Nat.not_le.2 hk), none_, lt_irrefl, if_false]

theorem dieLinkLaneFail_stemHeartwood_spare {s : State} {d : Nat} (hd : d < 4) (spare : 0 < s.hier.heartLinkSpares.getD d 0) :
    dieLinkLaneFailEffect s (.stemHeartwood d) =
      (s.modHier (fun h => { h with heartLinkSpares := h.heartLinkSpares.modify d (· - 1) })).noteFree (srcStem d 0) 1 := by
  simp only [dieLinkLaneFailEffect, if_neg (Nat.not_le.2 hd), if_pos spare]

theorem dieLinkLaneFail_stemHeartwood_last {s : State} {d : Nat} (hd : d < 4) (none_ : s.hier.heartLinkSpares.getD d 0 = 0) :
    dieLinkLaneFailEffect s (.stemHeartwood d) = (s.contain (.die d)).note { Ev.plain (srcStem d 0) 4 2 with action := 4 } := by
  simp only [dieLinkLaneFailEffect, if_neg (Nat.not_le.2 hd), none_, lt_irrefl, if_false]

/-! ### Requests for a reset (R28, R29) -/

/-- The unit is one of those below the crown that R28 gives a reset of their own. -/
def Resettable : UnitId → Prop
  | .twig g => g < 160
  | .bough b => b < 40
  | .limb l => l < 8
  | .die d => d < 4
  | .crown => False

theorem State.requestReset_allowed {s : State} {who : Role} {u : UnitId} (unit : Resettable u) (may : s.mayReset who u = true)
    (free : s.resetsBarred = false) : s.requestReset who u = some (s.startReset u) := by
  cases u <;> simp_all [State.requestReset, Resettable]

theorem State.requestReset_refused {s : State} {who : Role} {u : UnitId} (may : s.mayReset who u = false) :
    s.requestReset who u = none := by
  simp [State.requestReset, may]

@[simp] theorem State.mayReset_installer (s : State) (k : Nat) (u : UnitId) : s.mayReset (.installer k) u = true := rfl

@[simp] theorem State.mayReset_operator_twig (s : State) (p g : Nat) :
    s.mayReset (.operator p) (.twig g) = (decide (p < 64) && s.holdsWhole p g) := rfl

/-! ### A reset completes (R31) -/

/-- A bough's reset that completes does nothing but strike the reset, give the bough its new form and start its links from Detect, so
that what no trunk and no host port changes reads as after the first two. -/
theorem resetComplete_bough_reads {β : Type} (g : State → β) (trunk : ∀ (s : State) q f, g (s.modTrunk q f) = g s)
    (port : ∀ (s : State) p f, g (s.modHPort p f) = g s) {s : State} {b : Nat} (running : UnitId.bough b ∈ s.hier.resets) :
    g (resetCompleteEffect s (.bough b)) =
      g ((s.modHier (fun h => { h with resets := h.resets.filter (fun w => w ≠ .bough b) })).formBough b) := by
  have all : (s.resetUnits (.bough b)).all (fun v => v ∈ s.hier.resets) = true := by
    simp [State.resetUnits, running]
  rw [resetCompleteEffect, if_pos all]
  refine (State.each_keeps g _ _ (fun _ _ => port _ _ _) _).trans ((State.each_keeps g _ _ (fun _ _ => trunk _ _ _) _).trans ?_)
  simp [State.resetUnits, UnitId.boughs, Hier.mark, State.each]

theorem State.formBough_hier {b : Nat} (s : State) (h : isTBough b = false) :
    (s.formBough b).hier = { s.hier with
      widthActive := s.hier.widthActive.set b (s.get (Key.BOUGH_WIDTH + b))
      refclkMode := s.hier.refclkMode.set b (s.get (Key.BOUGH_REFCLK + b)) } := by
  simp [State.formBough, h]

@[simp] theorem State.formBough_dict (s : State) (b : Nat) : (s.formBough b).dict = s.dict := by
  unfold State.formBough
  split <;> rfl

end Sys2Proof.Machine

open Sys2Proof Sys2Proof.Machine

/-- Settles O19: each command's meaning is its effect, and each effect is given by the lemma on its case. -/
theorem hierarchyResults : Obligations.HierarchyResults := by
  intro s u t hu
  subst hu
  have lane (link) : exec (.dieLinkLaneFail t link) s = act2 s t (fun x => dieLinkLaneFailEffect x link) := rfl
  have twig (w g) : exec (.twigReset t w g) s = act2 s t (fun x => (x.requestReset w (.twig g)).getD x) := rfl
  have bough (w b) : exec (.boughReset t w b) s = act2 s t (fun x => (x.requestReset w (.bough b)).getD x) := rfl
  have limb (w l) : exec (.limbReset t w l) s = act2 s t (fun x => (x.requestReset w (.limb l)).getD x) := rfl
  have die (w d) : exec (.dieReset t w d) s = act2 s t (fun x => (x.requestReset w (.die d)).getD x) := rfl
  have complete (v) : exec (.resetComplete t v) s = act1 s t (fun x => resetCompleteEffect x v) := rfl
  have granted {w : Role} {v : UnitId} (unit : Resettable v) (may : (s.tick t).mayReset w v = true)
      (free : (s.tick t).resetsBarred = false) : ((s.tick t).requestReset w v).getD (s.tick t) = (s.tick t).startReset v := by
    rw [State.requestReset_allowed unit may free, Option.getD_some]
  refine ⟨?_, ?_, ?_, ?_, ?_, ?_, ?_, ?_, ?_, ?_, ?_⟩
  · exact fun k hk spare => afterAll_act2 t _ (lane _) (dieLinkLaneFail_stemStem_spare hk spare)
  · exact fun k hk last => afterAll_act2 t _ (lane _) (dieLinkLaneFail_stemStem_last hk last)
  · exact fun d hd spare => afterAll_act2 t _ (lane _) (dieLinkLaneFail_stemHeartwood_spare hd spare)
  · exact fun d hd last => afterAll_act2 t _ (lane _) (dieLinkLaneFail_stemHeartwood_last hd last)
  · exact fun k g hg free => afterAll_act2 t _ (twig _ _) (granted (v := .twig g) hg rfl free)
  · intro p g hg hp whole free
    have may : (s.tick t).mayReset (.operator p) (.twig g) = true := by
      simp [State.mayReset_operator_twig, hp, whole]
    exact afterAll_act2 t _ (twig _ _) (granted (v := .twig g) hg may free)
  · intro p g part
    have no : (s.tick t).mayReset (.operator p) (.twig g) = false := by
      simp [State.mayReset_operator_twig, part]
    exact afterAll_act2 t _ (twig _ _) (by rw [State.requestReset_refused no, Option.getD_none])
  · exact fun k b hb free => afterAll_act2 t _ (bough _ _) (granted (v := .bough b) hb rfl free)
  · exact fun k l hl free => afterAll_act2 t _ (limb _ _) (granted (v := .limb l) hl rfl free)
  · exact fun k d hd free => afterAll_act2 t _ (die _ _) (granted (v := .die d) hd rfl free)
  · intro b hb port running
    have hier := resetComplete_bough_reads State.hier (fun _ _ _ => rfl) (fun _ _ _ => rfl) running
    have dict := resetComplete_bough_reads State.dict (fun _ _ _ => rfl) (fun _ _ _ => rfl) running
    rw [State.formBough_hier _ port] at hier
    refine ⟨_, after_act1 t _ (complete _) rfl, ?_, ?_, ?_, ?_⟩
    · rw [hier]; rfl
    · rw [hier]; rfl
    · rw [hier]; rfl
    · rw [dict, State.formBough_dict]; rfl

end

section
/-! SUPPORT. The effects of a start and of the warm reset, case by case (R35, R486 to R488). -/

namespace Sys2Proof.Machine

/-! ### Every start (R486, R488) -/

/-- The module is ready for the boot ROM: start-up under way, powered, RESET_N released, and no START_OK yet. -/
def State.BootReady (s : State) : Prop :=
  s.journal.started = false ∧ s.power.startUp = true ∧ s.power.standby = true ∧ s.power.resetPin = false ∧ s.power.phase = .on

/-- The SVN floor that the journal holds before it is replayed. -/
def State.bootFloor (s : State) : Nat := (sortedGet s.journal.replay Key.IMAGE_SVN_FLOOR).getD 0

/-- The other slot may run after two attempts of the active one: it verifies and is not below the SVN floor. -/
def State.OtherRuns (s : State) (r : StartReads) : Prop :=
  r.otherOk = true ∧ s.bootFloor ≤ s.journal.svn (1 - s.journal.bootActive)

theorem bootStart_idle {s : State} (r : StartReads) (h : s.journal.started = true ∨ s.power.startUp = false ∨ s.power.standby = false ∨
    s.power.resetPin = true ∨ s.power.phase ≠ .on) : bootStartEffect s r = s := by
  have barred : (s.journal.started || !s.power.startUp || !s.power.standby || s.power.resetPin || s.power.phase ≠ .on) = true := by
    simpa [or_assoc] using h
  rw [bootStartEffect, if_pos barred]

/-- Without a valid copy of the boot record, or with two attempts made and no other slot to run, the boot ROM holds in recovery. -/
theorem bootStart_recovery {s : State} {r : StartReads} (ready : s.BootReady)
    (stuck : r.copy0 = false ∧ r.copy1 = false ∨ 2 ≤ (s.startReads r).journal.bootAttempts ∧ ¬ (s.startReads r).OtherRuns r) :
    bootStartEffect s r = (s.startReads r).modJournal (fun j => { j with recovery := true }) := by
  obtain ⟨started, startUp, standby, pin, phase⟩ := ready
  simp only [State.OtherRuns, State.bootFloor] at stuck
  rcases stuck with ⟨copy0, copy1⟩ | ⟨two, other⟩
  · simp [bootStartEffect, started, startUp, standby, pin, phase, copy0, copy1]
  · simp [bootStartEffect, started, startUp, standby, pin, phase, two, other]

/-- Before the second attempt the active slot is tried, with one attempt more. -/
theorem bootStart_active {s v w : State} {r : StartReads} (ready : s.BootReady) (hv : v = s.startReads r)
    (copy : r.copy0 = true ∨ r.copy1 = true) (left : v.journal.bootAttempts < 2)
    (hw : w = v.modJournal (fun j => j.bootWrite v.journal.bootActive (j.bootAttempts + 1))) :
    bootStartEffect s r = if r.imageOk && r.subordinateOk then w.bootRun r.truncatedAt else w.warmReset 2 := by
  obtain ⟨started, startUp, standby, pin, phase⟩ := ready
  subst hv hw
  have copies : (!r.copy0 && !r.copy1) = false := by
    rcases copy with h | h <;> simp [h]
  cases verified : r.imageOk && r.subordinateOk <;>
    simp [bootStartEffect, started, startUp, standby, pin, phase, copies, Nat.not_le.2 left, verified]

/-- After two attempts the other slot is tried where it may run, as a fallback and for the first time. -/
theorem bootStart_other {s v w : State} {r : StartReads} (ready : s.BootReady) (hv : v = s.startReads r)
    (copy : r.copy0 = true ∨ r.copy1 = true) (two : 2 ≤ v.journal.bootAttempts) (other : v.OtherRuns r)
    (hw : w = v.modJournal (fun j => { j.bootWrite (1 - v.journal.bootActive) 1 with fellBack := true })) :
    bootStartEffect s r = if r.subordinateOk then w.bootRun r.truncatedAt else w.warmReset 2 := by
  obtain ⟨started, startUp, standby, pin, phase⟩ := ready
  obtain ⟨verifies, floor⟩ := other
  subst hv hw
  have copies : (!r.copy0 && !r.copy1) = false := by
    rcases copy with h | h <;> simp [h]
  rw [State.bootFloor] at floor
  cases subordinate : r.subordinateOk <;>
    simp [bootStartEffect, started, startUp, standby, pin, phase, copies, two, verifies, floor, subordinate]

/-! ### What a start does once its images verify (R488) -/

/-- What a start replays and powers up before it looks at the intake's prior cause and at TEST_STRAP. -/
def State.bootReplayed (v : State) (truncatedAt : Option (Nat × Bool)) : State :=
  ((v.modJournal (fun j => { j with recovery := false })).findJournal truncatedAt).replayJournal.startLimbs

theorem State.bootRun_plain {v w : State} {a : Option (Nat × Bool)} (hw : w = v.bootReplayed a) (prior : w.power.prior = 0)
    (strap : w.sec.strap = false) : v.bootRun a = w.startTraining := by
  rw [State.bootReplayed] at hw
  simp [State.bootRun, ← hw, prior, strap]

theorem State.bootRun_prior {v w : State} {a : Option (Nat × Bool)} (hw : w = v.bootReplayed a) (prior : w.power.prior ≠ 0)
    (strap : w.sec.strap = false) : v.bootRun a = (w.noteAt 0xB80 w.power.prior 0).startTraining := by
  rw [State.bootReplayed] at hw
  simp [State.bootRun, ← hw, prior, strap]

theorem State.bootRun_strap {v w : State} {a : Option (Nat × Bool)} (hw : w = v.bootReplayed a) (prior : w.power.prior = 0)
    (strap : w.sec.strap = true) :
    v.bootRun a = ((w.modSec (fun x => { x with hold := some (Config.random w.draws, w.now) })).drew).noteFree 0xBF7 0 := by
  rw [State.bootReplayed] at hw
  simp [State.bootRun, ← hw, prior, strap]

/-! ### START_OK (R487) -/

/-- START_OK finds a start to end: GDDR7 trained, neither held nor in recovery, and its 5 s not over. -/
def State.StartDue (s : State) : Prop :=
  s.journal.started = false ∧ s.journal.recovery = false ∧ s.sec.hold = none ∧ s.mem.mode ≠ 0 ∧ s.watchdogDue = false

/-- What START_OK writes and ends before it looks at the SVN floor and at a fallback. -/
def State.startEnded (s : State) : State :=
  ((s.jAppend (.start s.journal.bootActive s.journal.bootAttempts s.journal.lastStop)).modJournal
    (fun j => { j.bootWrite j.bootActive 0 with started := true })).modPower (fun x => { x with startUp := false })

/-- START_OK lifts the SVN floor to its image's. -/
def State.floorLifted (s : State) (svn : Nat) : State :=
  if s.get Key.IMAGE_SVN_FLOOR < svn then s.setJ Key.IMAGE_SVN_FLOOR svn else s

theorem startOk_idle {s : State} (h : s.journal.started = true ∨ s.journal.recovery = true ∨ s.sec.hold.isSome = true ∨ s.mem.mode = 0 ∨
    s.watchdogDue = true) : startOkEffect s = s := by
  have barred : (s.journal.started || s.journal.recovery || s.sec.hold.isSome || s.mem.mode = 0 || s.watchdogDue) = true := by
    simpa [or_assoc] using h
  rw [startOkEffect, if_pos barred]

/-- A start that is due ends, lifts the floor, and after a fallback says so. -/
theorem startOk_due {s a b : State} (due : s.StartDue) (ha : a = s.startEnded) (hb : b = a.floorLifted (s.journal.svn s.journal.bootActive)) :
    startOkEffect s =
      if s.journal.fellBack then (b.modJournal (fun j => { j with fellBack := false, graftState := 7 })).noteFree 0xC1A 2 else b := by
  obtain ⟨started, recovery, hold, mode, watchdog⟩ := due
  subst ha hb
  have goes : (s.journal.started || s.journal.recovery || s.sec.hold.isSome || s.mem.mode = 0 || s.watchdogDue) = false := by
    simp [started, recovery, hold, mode, watchdog]
  rw [startOkEffect, if_neg (Bool.eq_false_iff.1 goes)]
  rfl

theorem State.floorLifted_above {s : State} {svn : Nat} (h : s.get Key.IMAGE_SVN_FLOOR < svn) :
    s.floorLifted svn = s.setJ Key.IMAGE_SVN_FLOOR svn := if_pos h

theorem State.floorLifted_within {s : State} {svn : Nat} (h : svn ≤ s.get Key.IMAGE_SVN_FLOOR) : s.floorLifted svn = s :=
  if_neg (Nat.not_lt.2 h)

/-! ### The warm reset (R35) -/

theorem State.warmAllowed_installer {s : State} (k : Nat) (input : s.power.inputLost = false) :
    s.warmAllowed (.request (.installer k)) = true := by
  simp [State.warmAllowed, Role.isInstaller, input]

theorem State.warmAllowed_resetPin {s : State} (pin : s.power.resetPin = true) (input : s.power.inputLost = false) :
    s.warmAllowed .resetPin = true := by
  simp [State.warmAllowed, pin, input]

theorem State.warmAllowed_inputLoss {s : State} (lost : s.power.inputLost = true) (ended : s.power.warningEnd = true)
    (up : s.power.inputUp = true) : s.warmAllowed .inputLoss = true := by
  simp [State.warmAllowed, lost, ended, up]

theorem State.warmReset_latched {s : State} (h : s.faults.crown = .f4Latched) (stop : Nat) : s.warmReset stop = s := by
  rw [State.warmReset, if_pos h]

theorem State.warmReset_free {s a b : State} (h : s.faults.crown ≠ .f4Latched) (stop : Nat)
    (ha : a = (s.fenceNotice s.crownId true).flushNotice)
    (hb : b = if a.time.mode = .locked ∨ a.time.mode = .acquiring then a.enterHoldover else a) :
    s.warmReset stop = ((b.finishRecord).modJournal (fun j => { j with lastStop := stop })).reborn := by
  subst ha hb
  simp [State.warmReset, h]

end Sys2Proof.Machine

open Sys2Proof Sys2Proof.Machine

/-- Settles O54: a command's meaning is its effect, and each effect is given by the lemma on its case. -/
theorem startResults : Obligations.StartResults := by
  intro s u t hu
  subst hu
  have boot (r) : exec (.bootStart t r) s = act2 s t (fun x => bootStartEffect x r) := rfl
  have ok : exec (.startOk t) s = act1 s t startOkEffect := rfl
  have watch : exec (.startWatchdog t) s = act1 s t (fun x => if x.watchdogDue then x.warmReset 2 else x) := rfl
  have warm (c) : exec (.warmReset t c) s = act1 s t (fun x => if x.warmAllowed c then x.warmReset (warmCode c) else x) := rfl
  have restarts {c : WarmCause} (allowed : (s.tick t).warmAllowed c = true) :
      After (.warmReset t c) s ((s.tick t).warmReset (warmCode c)) := after_act1 t _ (warm c) (if_pos allowed)
  refine ⟨?_, ?_, ?_, ?_, ?_, ?_, ?_, ?_, ?_, ?_, ?_, ?_, ?_, ?_, ?_, ?_, ?_, ?_, ?_, ?_, ?_, ?_, ?_⟩
  · exact fun r idle => afterAll_act2 t _ (boot r) (bootStart_idle r idle)
  · intro r v ready hv stuck
    subst hv
    refine afterAll_act2 t _ (boot r) (bootStart_recovery ready (stuck.imp_right (And.imp_right fun other runs => ?_)))
    obtain ⟨verifies, floor⟩ := runs
    exact other.elim (fun h => by simp [h] at verifies) (Nat.not_lt.2 floor)
  · exact fun r v ready hv copy left => afterAll_act2 t _ (boot r) (bootStart_active ready hv copy left rfl)
  · exact fun r v ready hv copy two verifies floor =>
      afterAll_act2 t _ (boot r) (bootStart_other ready hv copy two ⟨verifies, floor⟩ rfl)
  · exact fun v w a hw prior strap => State.bootRun_plain hw prior strap
  · exact fun v w a hw prior strap => State.bootRun_prior hw prior strap
  · exact fun v w a hw prior strap => State.bootRun_strap hw prior strap
  · intro a ha started recovery hold mode watchdog fellBack within
    exact after_act1 t _ ok ((startOk_due ⟨started, recovery, hold, mode, watchdog⟩ ha (State.floorLifted_within within).symm).trans
      (if_neg (Bool.eq_false_iff.1 fellBack)))
  · intro a ha started recovery hold mode watchdog fellBack above
    exact after_act1 t _ ok ((startOk_due ⟨started, recovery, hold, mode, watchdog⟩ ha (State.floorLifted_above above).symm).trans
      (if_neg (Bool.eq_false_iff.1 fellBack)))
  · intro a ha started recovery hold mode watchdog fellBack within
    exact after_act1 t _ ok ((startOk_due ⟨started, recovery, hold, mode, watchdog⟩ ha (State.floorLifted_within within).symm).trans
      (if_pos fellBack))
  · exact fun idle => after_act1 t _ ok (startOk_idle idle)
  · exact fun due => after_act1 t _ watch (if_pos due)
  · exact fun sooner => after_act1 t _ watch (if_neg (by simp [sooner]))
  · exact fun k input => restarts (c := .request (.installer k)) (State.warmAllowed_installer k input)
  · exact fun pin input => restarts (c := .resetPin) (State.warmAllowed_resetPin pin input)
  · exact fun due => restarts (c := .watchdog) due
  · exact fun lost ended up => restarts (c := .inputLoss) (State.warmAllowed_inputLoss lost ended up)
  · exact fun window => restarts (c := .faultWindow) (decide_eq_true window)
  · exact fun queued => restarts (c := .activation) (decide_eq_true queued)
  · exact fun c refused => after_act1 t _ (warm c) (if_neg (by simp [refused]))
  · exact fun n latched => State.warmReset_latched latched n
  · exact fun n a b free ha hb => State.warmReset_free free n ha hb
  · exact ⟨rfl, rfl, rfl, rfl, rfl, rfl, rfl, rfl, rfl⟩

end

section
/-! SUPPORT. Every command keeps the invariant and loses nothing that had been reached. -/

namespace Sys2Proof.Machine

/-- Whatever the command, exec keeps the invariant, and the local count, test mode and the F4 latch as far as they had come; the
removal of the input, which ends test mode and the latch, does so where neither had been reached. -/
theorem exec_ok {n : Mark} {s : State} (c : Instr) (removal : ∀ t, c = .inputRemoved t → n.latch = false ∧ n.test = false)
    (h : s.Ok n) : OkH n (exec c s) :=
  match c with
  | .dieLinkLaneFail .. => execDieLinkLaneFail_ok n _ _ s h
  | .twigReset .. => execTwigReset_ok n _ _ _ s h
  | .boughReset .. => execBoughReset_ok n _ _ _ s h
  | .limbReset .. => execLimbReset_ok n _ _ _ s h
  | .dieReset .. => execDieReset_ok n _ _ _ s h
  | .warmReset .. => execWarmReset_ok n _ _ s h
  | .resetComplete .. => execResetComplete_ok n _ _ s h
  | .timeAnnounceSend .. => execTimeAnnounceSend_ok n _ s h
  | .timeAnnounceReceive .. => execTimeAnnounceReceive_ok n _ _ _ s h
  | .masterLost .. => execMasterLost_ok n _ s h
  | .electionSettled .. => execElectionSettled_ok n _ s h
  | .takeOffice .. => execTakeOffice_ok n _ s h
  | .selfElect .. => execSelfElect_ok n _ s h
  | .timeRefPulse .. => execTimeRefPulse_ok n _ _ s h
  | .timeRefPulseMissing .. => execTimeRefPulseMissing_ok n _ s h
  | .alignmentMarkerReceive .. => execAlignmentMarkerReceive_ok n _ _ _ s h
  | .markerLoss .. => execMarkerLoss_ok n _ s h
  | .timeOpenMode .. => execTimeOpenMode_ok n _ s h
  | .scheduledModeReturn .. => execScheduledModeReturn_ok n _ s h
  | .dictionaryChangeFire .. => execDictionaryChangeFire_ok n _ _ s h
  | .slotSwapRequest .. => execSlotSwapRequest_ok n _ _ _ s h
  | .slotSwap .. => execSlotSwap_ok n _ s h
  | .pruneSetReceive _ _ number .. => execPruneSetReceive_ok n _ _ number _ _ s h
  | .pruneSetApply .. => execPruneSetApply_ok n _ _ s h
  | .hLaneMaintenance .. => execHLaneMaintenance_ok n _ _ _ _ _ s h
  | .trunkTxMaintenanceStep .. => execTrunkTxMaintenanceStep_ok n _ _ _ s h
  | .trunkRxMaintenanceStep .. => execTrunkRxMaintenanceStep_ok n _ _ _ s h
  | .refreshBatch .. => execRefreshBatch_ok n _ _ _ _ s h
  | .hpSymbolLockTimeout .. => execHpSymbolLockTimeout_ok n _ _ _ s h
  | .hpL0Reached .. => execHpL0Reached_ok n _ _ _ _ _ _ _ _ s h
  | .hpEqAttemptEnd .. => execHpEqAttemptEnd_ok n _ _ _ _ s h
  | .hpCoeffRequest .. => execHpCoeffRequest_ok n _ _ _ s h
  | .hpLinkRecovery .. => execHpLinkRecovery_ok n _ _ _ s h
  | .hpLinkDown .. => execHpLinkDown_ok n _ _ _ s h
  | .dfeUpdate .. => execDfeUpdate_ok n _ _ _ s h
  | .refclkLost .. => execRefclkLost_ok n _ _ s h
  | .refclkRestored .. => execRefclkRestored_ok n _ _ s h
  | .l0pNarrow .. => execL0pNarrow_ok n _ _ s h
  | .l0pWiden .. => execL0pWiden_ok n _ _ s h
  | .l0pPartnerRequest .. => execL0pPartnerRequest_ok n _ _ _ s h
  | .l1EntryInitiate .. => execL1EntryInitiate_ok n _ _ s h
  | .l1PartnerRequest .. => execL1PartnerRequest_ok n _ _ s h
  | .l1Exit .. => execL1Exit_ok n _ _ s h
  | .trunkSignalDetect .. => execTrunkSignalDetect_ok n _ _ s h
  | .trunkAlignComplete .. => execTrunkAlignComplete_ok n _ _ _ s h
  | .capsFrame .. => execCapsFrame_ok n _ _ _ s h
  | .keyexFrame .. => execKeyexFrame_ok n _ _ _ s h
  | .delayFrame .. => execDelayFrame_ok n _ _ _ _ s h
  | .stepFrame .. => execStepFrame_ok n _ _ _ s h
  | .eqFrame .. => execEqFrame_ok n _ _ _ s h
  | .holdFrame .. => execHoldFrame_ok n _ _ _ s h
  | .holdFramesCeased .. => execHoldFramesCeased_ok n _ _ s h
  | .heldReevaluate .. => execHeldReevaluate_ok n _ _ s h
  | .trunkStateTimeout .. => execTrunkStateTimeout_ok n _ _ s h
  | .linkInitExchange .. => execLinkInitExchange_ok n _ _ _ _ _ _ s h
  | .fuReceive .. => execFuReceive_ok n _ _ _ _ s h
  | .nakRepeat .. => execNakRepeat_ok n _ _ s h
  | .replayTimer .. => execReplayTimer_ok n _ _ s h
  | .trunkLinkLoss .. => execTrunkLinkLoss_ok n _ _ s h
  | .tpRetrain .. => execTpRetrain_ok n _ _ _ s h
  | .rekeyOfferSend .. => execRekeyOfferSend_ok n _ _ s h
  | .rekeyOffer .. => execRekeyOffer_ok n _ _ _ _ s h
  | .rekeyAccept .. => execRekeyAccept_ok n _ _ _ _ s h
  | .keyPhaseToggle .. => execKeyPhaseToggle_ok n _ _ s h
  | .fateQuery .. => execFateQuery_ok n _ _ _ _ _ s h
  | .fateQueryHoldExpire .. => execFateQueryHoldExpire_ok n _ _ s h
  | .fateQueryResend .. => execFateQueryResend_ok n _ _ s h
  | .fateAnswer _ via .. => execFateAnswer_ok n _ via _ _ _ _ s h
  | .trunkDiscard .. => execTrunkDiscard_ok n _ _ s h
  | .rxSlotFreed .. => execRxSlotFreed_ok n _ _ _ _ s h
  | .tlpIngress .. => execTlpIngress_ok n _ _ _ s h
  | .admissionRetry .. => execAdmissionRetry_ok n _ _ _ s h
  | .cutThroughStart .. => execCutThroughStart_ok n _ _ _ _ s h
  | .egressStart .. => execEgressStart_ok n _ _ _ s h
  | .cutResend .. => execCutResend_ok n _ _ s h
  | .bufStructFault .. => execBufStructFault_ok n _ _ s h
  | .cellFreeDone .. => execCellFreeDone_ok n _ _ s h
  | .classMapRelease .. => execClassMapRelease_ok n _ _ _ s h
  | .classMapHold .. => execClassMapHold_ok n _ _ _ s h
  | .configRequest .. => execConfigRequest_ok n _ _ _ _ _ _ _ s h
  | .secondaryBusReset .. => execSecondaryBusReset_ok n _ _ _ _ s h
  | .hotResetReceived .. => execHotResetReceived_ok n _ _ _ s h
  | .partResetStepsDone .. => execPartResetStepsDone_ok n _ _ s h
  | .partResetCauseEnd .. => execPartResetCauseEnd_ok n _ _ s h
  | .resetNotice .. => execResetNotice_ok n _ _ _ s h
  | .powerControllerControl .. => execPowerControllerControl_ok n _ _ _ _ s h
  | .linkDisable .. => execLinkDisable_ok n _ _ _ _ s h
  | .retrainLink .. => execRetrainLink_ok n _ _ _ s h
  | .msixEnable .. => execMsixEnable_ok n _ _ s h
  | .vectorUnmask .. => execVectorUnmask_ok n _ _ _ s h
  | .forwardedEvent .. => execForwardedEvent_ok n _ _ _ _ _ _ _ s h
  | .eventSoft .. => execEventSoft_ok n _ _ _ s h
  | .bindingCopy .. => execBindingCopy_ok n _ _ _ _ _ s h
  | .sharedResetRequest .. => execSharedResetRequest_ok n _ _ _ s h
  | .sharedResetForce .. => execSharedResetForce_ok n _ _ _ s h
  | .sharedPerstEnd .. => execSharedPerstEnd_ok n _ _ s h
  | .sharedEnumDone .. => execSharedEnumDone_ok n _ _ _ _ s h
  | .sharedResetFail .. => execSharedResetFail_ok n _ _ s h
  | .sliceFlrDone .. => execSliceFlrDone_ok n _ _ _ s h
  | .allotmentGrant .. => execAllotmentGrant_ok n _ s h
  | .winFetchDone .. => execWinFetchDone_ok n _ _ _ _ s h
  | .protDrainComplete .. => execProtDrainComplete_ok n _ _ s h
  | .protDrainSlow .. => execProtDrainSlow_ok n _ s h
  | .gateScrubVisit .. => execGateScrubVisit_ok n _ _ _ s h
  | .gateCopyError .. => execGateCopyError_ok n _ _ _ _ s h
  | .gateReloadDone .. => execGateReloadDone_ok n _ _ _ s h
  | .rebalanceStart .. => execRebalanceStart_ok n _ _ s h
  | .routeRebalance .. => execRouteRebalance_ok n _ _ _ s h
  | .rebalanceComplete .. => execRebalanceComplete_ok n _ _ s h
  | .rebalanceAbandoned .. => execRebalanceAbandoned_ok n _ _ s h
  | .routeUnreachable .. => execRouteUnreachable_ok n _ _ s h
  | .fenceByTrunkLoss .. => execFenceByTrunkLoss_ok n _ _ s h
  | .fenceNotice .. => execFenceNotice_ok n _ _ _ s h
  | .fenceForceSet .. => execFenceForceSet_ok n _ _ _ s h
  | .fenceForceClear .. => execFenceForceClear_ok n _ _ _ s h
  | .npTimeoutExpired .. => execNpTimeoutExpired_ok n _ _ s h
  | .trackQuarantineEnd .. => execTrackQuarantineEnd_ok n _ _ s h
  | .proxyTagTimeout .. => execProxyTagTimeout_ok n _ _ _ s h
  | .farFailureSend .. => execFarFailureSend_ok n _ _ _ s h
  | .farFailureNotice .. => execFarFailureNotice_ok n _ _ _ s h
  | .lockTimeout .. => execLockTimeout_ok n _ _ s h
  | .unlock .. => execUnlock_ok n _ _ s h
  | .bridgeRead .. => execBridgeRead_ok n _ _ _ _ _ _ s h
  | .bridgeWrite .. => execBridgeWrite_ok n _ _ _ _ _ _ s h
  | .bridgeReadTimeout .. => execBridgeReadTimeout_ok n _ _ s h
  | .bridgeReadRetry .. => execBridgeReadRetry_ok n _ _ s h
  | .sidebandPoll .. => execSidebandPoll_ok n _ _ s h
  | .poolRead .. => execPoolRead_ok n _ _ _ _ _ _ s h
  | .poolWrite .. => execPoolWrite_ok n _ _ _ _ _ _ _ s h
  | .poolPartialWrite .. => execPoolPartialWrite_ok n _ _ _ _ _ _ s h
  | .poolAtomic .. => execPoolAtomic_ok n _ _ _ _ _ _ _ _ _ s h
  | .epochSweepDone .. => execEpochSweepDone_ok n _ _ s h
  | .memTrainingDone .. => execMemTrainingDone_ok n _ _ _ s h
  | .memInitSweepDone .. => execMemInitSweepDone_ok n _ s h
  | .patrolScrubRead .. => execPatrolScrubRead_ok n _ _ _ s h
  | .memHotChange .. => execMemHotChange_ok n _ _ _ s h
  | .ringTail .. => execRingTail_ok n _ _ _ _ s h
  | .ringEnable .. => execRingEnable_ok n _ _ _ s h
  | .ringReset .. => execRingReset_ok n _ _ _ s h
  | .descriptorFetchDone .. => execDescriptorFetchDone_ok n _ _ _ _ s h
  | .nop .. => execNop_ok n _ _ _ s h
  | .copy .. => execCopy_ok n _ _ _ _ s h
  | .fill .. => execFill_ok n _ _ _ s h
  | .gather .. => execGather_ok n _ _ _ _ _ s h
  | .scatter .. => execScatter_ok n _ _ _ _ _ s h
  | .crcGen .. => execCrcGen_ok n _ _ _ _ s h
  | .crcCheck .. => execCrcCheck_ok n _ _ _ _ s h
  | .afcGen .. => execAfcGen_ok n _ _ _ _ s h
  | .afcCheck .. => execAfcCheck_ok n _ _ _ _ _ s h
  | .reduceContrib .. => execReduceContrib_ok n _ _ _ _ s h
  | .reducePair .. => execReducePair_ok n _ _ _ _ _ s h
  | .descriptorComplete .. => execDescriptorComplete_ok n _ _ _ _ _ _ s h
  | .reducePartial .. => execReducePartial_ok n _ _ _ _ _ _ _ s h
  | .resultChunk .. => execResultChunk_ok n _ _ _ _ _ s h
  | .reduceTimeout .. => execReduceTimeout_ok n _ _ s h
  | .reduceAbortMessage .. => execReduceAbortMessage_ok n _ _ _ s h
  | .engFault .. => execEngFault_ok n _ _ s h
  | .sendDoorbell .. => execSendDoorbell_ok n _ _ _ _ _ _ s h
  | .receiveDoorbell .. => execReceiveDoorbell_ok n _ _ _ _ _ _ s h
  | .datagramReceive .. => execDatagramReceive_ok n _ _ _ s h
  | .busMasterEnableClear .. => execBusMasterEnableClear_ok n _ _ _ s h
  | .functionLevelReset .. => execFunctionLevelReset_ok n _ _ _ s h
  | .flrComplete .. => execFlrComplete_ok n _ _ _ s h
  | .functionCompletionTimeout .. => execFunctionCompletionTimeout_ok n _ _ _ _ s h
  | .errorSignal .. => execErrorSignal_ok n _ _ s h
  | .pathBroken .. => execPathBroken_ok n _ _ s h
  | .f1Interval .. => execF1Interval_ok n _ s h
  | .violationInterval .. => execViolationInterval_ok n _ s h
  | .faultWindowExpire .. => execFaultWindowExpire_ok n _ _ s h
  | .f3WindowExpire .. => execF3WindowExpire_ok n _ s h
  | .faultAck .. => execFaultAck_ok n _ _ _ s h
  | .partRelease .. => execPartRelease_ok n _ _ _ s h
  | .partContain .. => execPartContain_ok n _ _ _ s h
  | .containmentMessage .. => execContainmentMessage_ok n _ _ _ s h
  | .injectArm .. => execInjectArm_ok n _ _ _ _ s h
  | .injectDisarm .. => execInjectDisarm_ok n _ _ _ s h
  | .bypass .. => execBypass_ok n _ s h
  | .idcode .. => execIdcode_ok n _ s h
  | .samplePreload .. => execSamplePreload_ok n _ _ s h
  | .extest .. => execExtest_ok n _ s h
  | .dbgAccess .. => execDbgAccess_ok n _ s h
  | .dbgCmdUpdate .. => execDbgCmdUpdate_ok n _ _ _ s h
  | .read .. => execRead_ok n _ _ _ _ _ s h
  | .write .. => execWrite_ok n _ _ _ _ _ _ _ s h
  | .openSet .. => execOpenSet_ok n _ _ _ _ _ s h
  | .stage .. => execStage_ok n _ _ _ _ _ _ _ _ _ s h
  | .commit .. => execCommit_ok n _ _ _ _ _ _ _ _ s h
  | .setValidated .. => execSetValidated_ok n _ _ s h
  | .cancelSet .. => execCancelSet_ok n _ _ _ _ _ _ s h
  | .setStatus .. => execSetStatus_ok n _ _ _ s h
  | .setExpire .. => execSetExpire_ok n _ _ s h
  | .openSession .. => execOpenSession_ok n _ _ _ s h
  | .closeSession .. => execCloseSession_ok n _ _ s h
  | .sessionIdleClose .. => execSessionIdleClose_ok n _ _ s h
  | .subscribe .. => execSubscribe_ok n _ _ s h
  | .unsubscribe .. => execUnsubscribe_ok n _ _ s h
  | .journalRead .. => execJournalRead_ok n _ _ _ _ s h
  | .mbDoorbell .. => execMbDoorbell_ok n _ _ _ s h
  | .mbReadyClear .. => execMbReadyClear_ok n _ _ s h
  | .bocelGatewayForward .. => execBocelGatewayForward_ok n _ _ _ s h
  | .bocelInbandResponse .. => execBocelInbandResponse_ok n _ _ _ _ s h
  | .bocelInbandTimeout .. => execBocelInbandTimeout_ok n _ _ s h
  | .bocelRetryDelay .. => execBocelRetryDelay_ok n _ _ s h
  | .setEndpointId .. => execSetEndpointId_ok n _ _ s h
  | .getEndpointId .. => execGetEndpointId_ok n _ s h
  | .getMctpVersionSupport .. => execGetMctpVersionSupport_ok n _ s h
  | .getMessageTypeSupport .. => execGetMessageTypeSupport_ok n _ s h
  | .icmpEcho .. => execIcmpEcho_ok n _ _ s h
  | .neighbourDiscovery .. => execNeighbourDiscovery_ok n _ _ s h
  | .getVersion .. => execGetVersion_ok n _ _ s h
  | .getCapabilities .. => execGetCapabilities_ok n _ _ s h
  | .negotiateAlgorithms .. => execNegotiateAlgorithms_ok n _ _ s h
  | .getDigests .. => execGetDigests_ok n _ _ s h
  | .getCertificate .. => execGetCertificate_ok n _ _ _ s h
  | .challenge .. => execChallenge_ok n _ _ _ s h
  | .getMeasurements .. => execGetMeasurements_ok n _ _ _ s h
  | .keyExchange .. => execKeyExchange_ok n _ _ _ s h
  | .finish .. => execFinish_ok n _ _ _ _ s h
  | .heartbeat .. => execHeartbeat_ok n _ _ _ s h
  | .keyUpdate .. => execKeyUpdate_ok n _ _ _ s h
  | .endSession .. => execEndSession_ok n _ _ _ s h
  | .ideKmRequest .. => execIdeKmRequest_ok n _ _ _ _ _ s h
  | .ideEstablishTimeout .. => execIdeEstablishTimeout_ok n _ _ s h
  | .ideStreamInsecure .. => execIdeStreamInsecure_ok n _ _ s h
  | .ideCheckFail .. => execIdeCheckFail_ok n _ _ s h
  | .tamper .. => execTamper_ok n _ s h
  | .testUnlock .. => execTestUnlock_ok n _ _ _ s h
  | .testHoldTimeout .. => execTestHoldTimeout_ok n _ s h
  | .testStrapRelease .. => execTestStrapRelease_ok n _ s h
  | .recordWhole .. => execRecordWhole_ok n _ _ _ s h
  | .compactNow .. => execCompactNow_ok n _ _ s h
  | .compactionSnapEnd .. => execCompactionSnapEnd_ok n _ s h
  | .ringEraseDone .. => execRingEraseDone_ok n _ _ _ s h
  | .graftChunk .. => execGraftChunk_ok n _ _ _ _ s h
  | .graftApply .. => execGraftApply_ok n _ _ s h
  | .graftApplyDone .. => execGraftApplyDone_ok n _ s h
  | .graftActFt .. => execGraftActFt_ok n _ _ _ s h
  | .firmwareActivation .. => execFirmwareActivation_ok n _ s h
  | .bootStart .. => execBootStart_ok n _ _ s h
  | .startOk .. => execStartOk_ok n _ s h
  | .startWatchdog .. => execStartWatchdog_ok n _ s h
  | .intakeInputRise .. => execIntakeInputRise_ok n _ _ s h
  | .intakeEnAssert .. => execIntakeEnAssert_ok n _ s h
  | .intakeEnDeassert .. => execIntakeEnDeassert_ok n _ s h
  | .precheckEnd .. => execPrecheckEnd_ok n _ _ s h
  | .gateFullyOn .. => execGateFullyOn_ok n _ s h
  | .fastTrip .. => execFastTrip_ok n _ _ _ s h
  | .rampTimeout .. => execRampTimeout_ok n _ s h
  | .intakeOvercurrent .. => execIntakeOvercurrent_ok n _ _ _ s h
  | .curveTrip .. => execCurveTrip_ok n _ _ s h
  | .tripRestart .. => execTripRestart_ok n _ s h
  | .fetDamageDetect .. => execFetDamageDetect_ok n _ s h
  | .inputRemoved t =>
    have ⟨latch, test⟩ := removal t rfl
    execInputRemoved_ok n t s latch test h
  | .inputLoss .. => execInputLoss_ok n _ _ s h
  | .inputLossWarningEnd .. => execInputLossWarningEnd_ok n _ s h
  | .storeSupplyLimit .. => execStoreSupplyLimit_ok n _ _ _ s h
  | .governorStepDown .. => execGovernorStepDown_ok n _ _ _ s h
  | .intakeDip .. => execIntakeDip_ok n _ _ _ _ _ s h
  | .intakeSenseDiverge .. => execIntakeSenseDiverge_ok n _ _ _ s h
  | .intakePeakClear .. => execIntakePeakClear_ok n _ _ s h
  | .slotDemandChange .. => execSlotDemandChange_ok n _ _ s h
  | .slotClear .. => execSlotClear_ok n _ _ _ s h
  | .slotFastTrip .. => execSlotFastTrip_ok n _ _ _ s h
  | .slotCurveTrip .. => execSlotCurveTrip_ok n _ _ _ _ _ _ s h
  | .slotRampFail .. => execSlotRampFail_ok n _ _ s h
  | .slotFetFailed .. => execSlotFetFailed_ok n _ _ s h
  | .slotPg .. => execSlotPg_ok n _ _ _ s h
  | .perstRelease .. => execPerstRelease_ok n _ _ s h
  | .limbGate .. => execLimbGate_ok n _ _ _ s h
  | .limbPowerOn .. => execLimbPowerOn_ok n _ _ _ s h
  | .limbRunning .. => execLimbRunning_ok n _ _ s h
  | .partStartActive .. => execPartStartActive_ok n _ _ s h
  | .thermHigh .. => execThermHigh_ok n _ _ s h
  | .thermTrip .. => execThermTrip_ok n _ _ s h
  | .thermCool .. => execThermCool_ok n _ s h
  | .reftLost .. => execReftLost_ok n _ _ s h
  | .reftRestored .. => execReftRestored_ok n _ _ s h
  | .ref25Lost .. => execRef25Lost_ok n _ s h
  | .ref25Good .. => execRef25Good_ok n _ s h
  | .resetNAssert .. => execResetNAssert_ok n _ s h
  | .cntEventSelect .. => execCntEventSelect_ok n _ _ _ _ s h
  | .cntClear .. => execCntClear_ok n _ _ _ s h
  | .cntOvfClear .. => execCntOvfClear_ok n _ _ _ s h
  | .cntFreezeSet .. => execCntFreezeSet_ok n _ _ _ s h
  | .cntFreezeResume .. => execCntFreezeResume_ok n _ _ _ s h
  | .snapRequest .. => execSnapRequest_ok n _ _ _ _ _ s h
  | .snapshotMessage .. => execSnapshotMessage_ok n _ _ _ s h
  | .snapshotFire .. => execSnapshotFire_ok n _ _ s h
  | .snapComplete .. => execSnapComplete_ok n _ s h
  | .resetNRelease .. => execResetNRelease_ok n _ _ _ _ s h
  | .timeRef10mLost .. => execTimeRef10mLost_ok n _ s h
  | .storeExhausted .. => execStoreExhausted_ok n _ s h
  | .l1PartnerExit .. => execL1PartnerExit_ok n _ _ s h
  | .marginCommand .. => execMarginCommand_ok n _ _ _ s h
  | .indicatorBlink .. => execIndicatorBlink_ok n _ _ _ s h
  | .remoteSlotState .. => execRemoteSlotState_ok n _ _ _ _ _ s h

/-- What had been reached in a state that stands at an instant, with nothing said of test mode or the latch. -/
def Mark.atInstant (t : Nat) : Mark := ⟨t, false, false⟩

theorem State.Inv.okAtInstant {s : State} (h : s.Inv) : s.Ok (.atInstant s.now) :=
  ⟨h, Nat.le_refl _, nofun, nofun⟩

/-- The queue of waiting commands is nothing to the invariant or to what had been reached. -/
theorem State.Ok.withPending {n : Mark} {s : State} (q : List Instr) (h : s.Ok n) : State.Ok n { s with pending := q } :=
  .same (s := s) rfl rfl rfl rfl rfl rfl rfl rfl rfl rfl rfl rfl rfl h

/-- A step loses nothing where neither test mode nor the latch had been reached: an empty queue idles, and a command is run. -/
theorem step_ok {n : Mark} {s u : State} (latch : n.latch = false) (test : n.test = false) (h : s.Ok n) (go : step s = .next u) : u.Ok n := by
  unfold step at go
  split at go
  case h_1 =>
    cases go
    exact h
  case h_2 c rest _ => exact (exec_ok c (fun _ _ => ⟨latch, test⟩) (h.withPending rest)).of_eq u go

end Sys2Proof.Machine

open Sys2Proof Sys2Proof.Machine

/-- Settles O8: every command keeps what had been reached (`exec_ok`), the local count among it. -/
theorem localCountNeverRunsBack : Obligations.LocalCountNeverRunsBack := by
  intro s u inv go
  obtain ⟨-, reached⟩ := step_ok rfl rfl inv.okAtInstant go
  exact reached.now

end

section
/-! SUPPORT. What every entry reads at reset. -/

namespace Sys2Proof.Machine

/-- The dictionary lists nothing at reset, so every entry reads its default. -/
@[simp] theorem State.reset_get (key : Nat) : State.reset.get key = defaultOf key := rfl

/-- A crown has no ID until an installer gives it one (R26). -/
theorem defaultOf_CROWN_ID : defaultOf Key.CROWN_ID = 0xFFFF := by decide

/-- A crown is unclaimed until it is claimed (R443). -/
theorem defaultOf_CLAIM_STATE : defaultOf Key.CLAIM_STATE = 0 := by decide

/-- Every partition stands as yet unused (R198). -/
theorem State.reset_part {p : Nat} (h : p < 64) : State.reset.part p = Part.reset := List.getD_replicate _ h

end Sys2Proof.Machine

open Sys2Proof Sys2Proof.Machine

/-- Settles O6: every entry reads its default, every partition stands at its own reset, and the rest is written out in `State.reset`. -/
theorem resetValues : Obligations.ResetValues := by
  have claimed : State.reset.claimed = false := by
    simp [State.claimed, defaultOf_CLAIM_STATE]
  exact ⟨State.reset_get, defaultOf_CROWN_ID, claimed, rfl, fun p h => congrArg Part.state (State.reset_part h),
    rfl, rfl, rfl, rfl, rfl, rfl, rfl, rfl⟩

end

section
/-! SUPPORT. The effects of the election of a time master, case by case (R39 to R42, R551). -/

namespace Sys2Proof.Machine

/-! ### Announcing (R39, R40) -/

/-- What a crown sends when it announces a key of its own: its next sequence number on every trunk in L0. -/
def State.announced (s : State) (st : Nat) : State :=
  (s.modTime (fun u => { u with annSeq := s.time.annSeq + 1 })).sendControl (fun _ => true)
    (.announce (s.ownAnnounce st (s.time.annSeq + 1)))

theorem timeAnnounceSend_master {s : State} (mode : s.time.mode = .master) : timeAnnounceSendEffect s = s.announced 4 := by
  simp [timeAnnounceSendEffect, State.announces, State.announced, mode]

theorem timeAnnounceSend_holdover {s : State} (mode : s.time.mode = .holdover) (counts : s.timePriority ≠ 0xFF) :
    timeAnnounceSendEffect s = s.announced 3 := by
  simp [timeAnnounceSendEffect, State.announces, State.announced, State.electable, mode, counts]

theorem timeAnnounceSend_silent {s : State} (mode : s.time.mode = .holdover) (counts : s.timePriority = 0xFF) :
    timeAnnounceSendEffect s = s := by
  simp [timeAnnounceSendEffect, State.announces, State.electable, mode, counts]

/-! ### A copy of an announcement (R39, R48) -/

/-- The first copy of a crown's announcement is taken; where it is the best held it goes on, and the activations that FT has passed
are processed. -/
theorem timeAnnounceReceive_first {s v w : State} {q : Nat} {a : Announce} (up : s.trunkUp q = true)
    (first : assocGet s.time.lastSeq (a.key % 1024) = none)
    (hv : v = ((s.markHeard q (a.key % 1024) a.hops a.key).modTime
      (fun x => { x with lastSeq := assocPut x.lastSeq (a.key % 1024) a.seq, heardAny := s.now })).takeAnnounce a)
    (hw : w = if v.bestHeld a then
        v.sendControl (fun r => r ≠ q) (.announce { a with hops := (a.hops + 1) % 256, sender := v.crownId % 1024 }) else v) :
    timeAnnounceReceiveEffect s q a = if s.time.ft < w.time.ft then w.runDue 256 else w := by
  subst hv hw
  simp only [timeAnnounceReceiveEffect, if_pos up, first, Bool.true_or, if_true]
  rfl

/-- A copy older than the last one taken of the same crown does nothing. -/
theorem timeAnnounceReceive_older {s : State} {q : Nat} {a : Announce} {l : Seq16}
    (last : assocGet s.time.lastSeq (a.key % 1024) = some l) (older : newer16 a.seq l = false) (other : l ≠ a.seq) :
    timeAnnounceReceiveEffect s q a = s := by
  simp [timeAnnounceReceiveEffect, last, older, other]

/-- A further copy of the last announcement taken marks its trunk and no more. -/
theorem timeAnnounceReceive_again {s : State} {q : Nat} {a : Announce} (up : s.trunkUp q = true)
    (last : assocGet s.time.lastSeq (a.key % 1024) = some a.seq) :
    timeAnnounceReceiveEffect s q a = s.markHeard q (a.key % 1024) a.hops a.key := by
  simp [timeAnnounceReceiveEffect, up, last, newer16]

/-- A master's announcement seeds a crown in FREE, with an event where FT steps forward, and the crown follows it. -/
theorem State.takeAnnounce_free {s x : State} {a : Announce} (mode : s.time.mode = .free) (master : a.masterState = 4)
    (hx : x = s.modTime (fun u => { u with mode := .acquiring, ft := a.ft, fresh := true, offset := 0, goodMarkers := 0,
                                           fast := false, running := true, heardMaster := s.now })) :
    s.takeAnnounce a = (if s.time.ft < a.ft then x.noteFree 0xBE6 0 else x).follow (a.key % 1024) a.key := by
  subst hx
  simp [State.takeAnnounce, mode, master]

/-! ### The master is lost, an election settles (R40) -/

theorem masterLost_locked {s : State} (mode : s.time.mode = .locked) :
    masterLostEffect s = if s.after s.time.heardMaster 3000000 then s.enterHoldover else s := by
  simp [masterLostEffect, mode]

/-- Whether an election in holdover has settled: a trunk is in L0, and the lowest key has stayed for 10 ms. -/
def State.ElectionOver (s : State) : Prop :=
  s.time.mode = .holdover ∧ s.anyTrunkUp = true ∧ s.after s.time.lowestSince 10000000 = true

theorem electionSettled_own {s : State} (settled : s.ElectionOver) (counts : s.electable = true) (lowest : s.ownKey ≤ s.time.lowestKey) :
    electionSettledEffect s = s.becomeMaster := by
  obtain ⟨mode, up, stayed⟩ := settled
  simp [electionSettledEffect, mode, up, stayed, counts, lowest]

theorem electionSettled_other {s : State} (settled : s.ElectionOver) (lower : s.time.lowestKey < s.ownKey)
    (heard : s.time.lowestKey < 0x7FFFF) :
    electionSettledEffect s =
      (s.modTime (fun u => { u with mode := .acquiring, goodMarkers := 0, offset := 0, heardMaster := s.now })).follow
        (s.time.lowestKey % 1024) s.time.lowestKey := by
  obtain ⟨mode, up, stayed⟩ := settled
  simp [electionSettledEffect, mode, up, stayed, Nat.not_le.2 lower, heard]

/-! ### Taking office, electing oneself (R42, R551) -/

theorem takeOffice_due {s : State} {since : Nat} (office : s.time.officeSince = some since) (mode : s.time.mode = .locked)
    (counts : s.electable = true) (lower : s.ownKey < s.time.masterKey) (stayed : s.after since 10000000 = true) :
    takeOfficeEffect s =
      (s.becomeMaster.modTime (fun u => { u with annSeq := s.becomeMaster.time.annSeq + 1 })).sendControl (fun _ => true)
        (.announce (s.becomeMaster.ownAnnounce 4 (s.becomeMaster.time.annSeq + 1))) := by
  simp [takeOfficeEffect, office, mode, counts, lower, stayed]

theorem selfElect_alone {s : State} (mode : s.time.mode = .free) (counts : s.electable = true)
    (silent : s.after s.time.heardAny 10000000 = true) :
    selfElectEffect s = (s.modTime (fun u => { u with ft := s.coldFt, running := !s.refOk })).becomeMaster := by
  simp [selfElectEffect, mode, counts, silent]

end Sys2Proof.Machine

open Sys2Proof Sys2Proof.Machine

/-- Settles O20: each command's meaning is its effect, and each effect is given by the lemma on its case. -/
theorem timeElectionResults : Obligations.TimeElectionResults := by
  intro s u t hu
  subst hu
  have send : exec (.timeAnnounceSend t) s = act1 s t timeAnnounceSendEffect := rfl
  have receive (q a) : exec (.timeAnnounceReceive t q a) s = act2 s t (fun x => timeAnnounceReceiveEffect x q a) := rfl
  have lost : exec (.masterLost t) s = act1 s t masterLostEffect := rfl
  have settled : exec (.electionSettled t) s = act1 s t electionSettledEffect := rfl
  have office : exec (.takeOffice t) s = act1 s t takeOfficeEffect := rfl
  have self : exec (.selfElect t) s = act1 s t selfElectEffect := rfl
  refine ⟨?_, ?_, ?_, ?_, ?_, ?_, ?_, ?_, ?_, ?_, ?_, ?_⟩
  · exact fun mode => after_act1 t _ send (timeAnnounceSend_master mode)
  · exact fun mode counts => after_act1 t _ send (timeAnnounceSend_holdover mode counts)
  · exact fun mode counts => after_act1 t _ send (timeAnnounceSend_silent mode counts)
  · intro q a x v w up mode master first hx hv hw
    have taken := State.takeAnnounce_free (s := ((s.tick t).markHeard q (a.key % 1024) a.hops a.key).modTime
      (fun x => { x with lastSeq := assocPut x.lastSeq (a.key % 1024) a.seq, heardAny := (s.tick t).now })) mode master hx
    exact afterAll_act2 t _ (receive q a) (timeAnnounceReceive_first up first (hv.trans taken.symm) hw)
  · exact fun q a l _ last older other => afterAll_act2 t _ (receive q a) (timeAnnounceReceive_older last older other)
  · exact fun q a up last => afterAll_act2 t _ (receive q a) (timeAnnounceReceive_again up last)
  · exact fun mode silent => after_act1 t _ lost ((masterLost_locked mode).trans (if_pos silent))
  · exact fun mode heard => after_act1 t _ lost ((masterLost_locked mode).trans (if_neg (Bool.eq_false_iff.1 heard)))
  · exact fun mode up stayed counts lowest => after_act1 t _ settled (electionSettled_own ⟨mode, up, stayed⟩ counts lowest)
  · exact fun mode up stayed lower heard => after_act1 t _ settled (electionSettled_other ⟨mode, up, stayed⟩ lower heard)
  · exact fun since was mode counts lower stayed => after_act1 t _ office (takeOffice_due was mode counts lower stayed)
  · exact fun mode counts silent => after_act1 t _ self (selfElect_alone mode counts silent)

end

section
/-! SUPPORT. The effects of the external reference, of alignment markers and of open mode, case by case (R43 to R51, R114, R117). -/

namespace Sys2Proof.Machine

/-! ### The external reference (R43, R44) -/

/-- What of the time unit neither a measured rate nor a changed election key touches: its mode, FT, and where the reference stands. -/
def TimeUnit.reference (u : TimeUnit) : TimeMode × Nat × Nat × Bool := (u.mode, u.ft, u.goodPulses, u.refValid)

theorem State.takeRate_reference (s : State) (n : Nat) : (s.takeRate n).time.reference = s.time.reference := by
  simp only [State.takeRate, State.modTime_time]
  split
  · split <;> rfl
  · rfl

theorem State.setMaster_reference (s : State) (m : Option Nat) (key : Nat) : (s.setMaster m key).time.reference = s.time.reference := by
  rw [State.setMaster]
  split
  · rfl
  · rw [State.noteAt_time]; rfl

theorem State.ownKeyChanged_reference (s : State) (old : Nat) : (s.ownKeyChanged old).time.reference = s.time.reference := by
  have office (x : State) : x.officeCheck.time.reference = x.time.reference := rfl
  rw [State.ownKeyChanged]
  split
  · rfl
  · rw [office]
    split
    · rfl
    · split
      · exact s.setMaster_reference _ _
      · rfl

/-- A pulse is seen: the reference is enabled, and EXTEST does not hold the contacts. -/
def State.SeesPulses (s : State) : Prop := s.get Key.TIME_REF_ENABLE ≠ 0 ∧ s.faults.debugInstr ≠ .extest

@[simp] theorem State.modTime_get (s : State) (f : TimeUnit → TimeUnit) (k : Nat) : (s.modTime f).get k = s.get k := rfl

/-- The state in which a good pulse has been counted and its rate taken. -/
def State.pulseCounted (s : State) (spacing : Nat) : State :=
  let v := s.modTime (fun u => { u with ref10m := true })
  ((v.modTime (fun u => { u with goodPulses := u.goodPulses + 1, refValid := u.refValid || 3 ≤ u.goodPulses + 1 })).takeRate
    spacing).ownKeyChanged v.ownKey

theorem State.pulseCounted_reference (s : State) (spacing : Nat) :
    (s.pulseCounted spacing).time.reference =
      (s.time.mode, s.time.ft, s.time.goodPulses + 1, s.time.refValid || decide (3 ≤ s.time.goodPulses + 1)) := by
  rw [State.pulseCounted, State.ownKeyChanged_reference, State.takeRate_reference]
  rfl

/-- A good pulse of a crown that is not master is counted and no more. -/
theorem timeRefPulse_good {s : State} {n : Nat} (sees : s.SeesPulses) (low : 999999000 ≤ n) (high : n ≤ 1000001000)
    (slave : s.time.mode ≠ .master) : timeRefPulseEffect s n = s.pulseCounted n := by
  obtain ⟨enabled, contacts⟩ := sees
  have mode : (s.pulseCounted n).time.mode = s.time.mode := congrArg Prod.fst (s.pulseCounted_reference n)
  have still : ¬ (decide ((s.pulseCounted n).time.mode = .master) && (s.pulseCounted n).time.refValid) = true := by
    simp [mode, slave]
  rw [State.pulseCounted] at still ⊢
  simp only [timeRefPulseEffect, State.modTime_get, State.modTime_faults, enabled, contacts, low, high, decide_true, decide_false,
    Bool.or_false, Bool.and_true, Bool.false_eq_true, if_true, if_false, if_neg still]

/-- A pulse out of place makes the reference invalid. -/
theorem timeRefPulse_bad {s : State} {n : Nat} (sees : s.SeesPulses) (off : n < 999999000 ∨ 1000001000 < n) :
    timeRefPulseEffect s n = (s.modTime (fun u => { u with ref10m := true })).refInvalid := by
  obtain ⟨enabled, contacts⟩ := sees
  have bad : (decide (999999000 ≤ n) && decide (n ≤ 1000001000)) = false := by
    simpa [imp_iff_not_or] using off
  simp [timeRefPulseEffect, enabled, contacts, bad]

/-! ### Alignment markers (R45, R51, R114, R117) -/

/-- The trunk with the run of missing comma words counted. -/
def State.missCounted (s : State) (q n : Nat) : State := s.modTrunk q (fun k => { k with lineRx := { k.lineRx with missRun := n } })

/-- With every comma word in its place the run of missing ones ends, and the marker picked takes effect. -/
theorem alignmentMarkerReceive_picked {s : State} {q : Nat} {lanes : List (List Byte)} {m : Marker} (up : s.trunkUp q = true)
    (comma : commaMissing lanes = false) (pick : markerPick lanes = some m) :
    alignmentMarkerReceiveEffect s q lanes = markerEffect (s.missCounted q 0) q m := by
  simp [alignmentMarkerReceiveEffect, up, comma, pick, State.missCounted]

/-- Where no lane's marker is valid, no more than that happens. -/
theorem alignmentMarkerReceive_unpicked {s : State} {q : Nat} {lanes : List (List Byte)} (up : s.trunkUp q = true)
    (comma : commaMissing lanes = false) (pick : markerPick lanes = none) :
    alignmentMarkerReceiveEffect s q lanes = s.missCounted q 0 := by
  simp [alignmentMarkerReceiveEffect, up, comma, pick, State.missCounted]

/-- A comma word missing for the second period in a row retrains the trunk. -/
theorem alignmentMarkerReceive_missing {s : State} {q : Nat} {lanes : List (List Byte)} (up : s.trunkUp q = true)
    (comma : commaMissing lanes = true) (run : (s.trunk q).lineRx.missRun = 1) :
    alignmentMarkerReceiveEffect s q lanes = (s.missCounted q 2).trunkRetrain q false := by
  simp [alignmentMarkerReceiveEffect, up, comma, run, State.missCounted]

/-- A valid marker's stamp and the trunk's delay give the far slot clock. -/
def State.farStamped (s : State) (q : Nat) (m : Marker) : State :=
  s.modTrunk q (fun k => { k with farStamp := m.ftStamp + k.delayPs / 1000, lastMarker := s.now })

/-- A marker whose sender tells no time moves the far slot clock and no more. -/
theorem marker_timeless {s : State} {q : Nat} {m : Marker} (up : s.trunkUp q = true) (valid : m.checkOk = true) (state : m.timeState = 0) :
    markerEffect s q m = s.farStamped q m := by
  simp [markerEffect, up, valid, state, State.farStamped]

/-- A marker on the upstream trunk of a LOCKED crown gives the offset that is removed; the activations that FT has passed are
processed. -/
theorem marker_upstream {s w : State} {q : Nat} {m : Marker} (up : s.trunkUp q = true) (valid : m.checkOk = true) (state : m.timeState ≠ 0)
    (upstream : s.time.upstream = some q) (mode : s.time.mode = .locked)
    (hw : w = ((s.farStamped q m).modTrunk q (fun k => { k with validAt := s.now })).takeOffset
      ((s.time.ft : Int) - ((m.ftStamp : Int) + s.oneWayNs q))) :
    markerEffect s q m = if s.time.ft < w.time.ft then w.runDue 256 else w := by
  subst hw
  have counts : (s.trunkUp q && m.checkOk) = true := by
    simp [up, valid]
  have follows : (decide (s.time.upstream = some q) && (decide (s.time.mode = .acquiring) || decide (s.time.mode = .locked))) = true := by
    simp [upstream, mode]
  rw [markerEffect, if_pos counts]
  exact (if_neg state).trans (if_pos follows)

@[simp] theorem State.missCounted_trunkUp (s : State) (q r n : Nat) : (s.missCounted q n).trunkUp r = s.trunkUp r :=
  State.trunkUp_modTrunk _ _ _ _ (fun _ => rfl)

@[simp] theorem State.missCounted_oneWayNs (s : State) (q r n : Nat) : (s.missCounted q n).oneWayNs r = s.oneWayNs r :=
  State.oneWayNs_modTrunk _ _ _ _ (fun _ => rfl)

/-! ### Markers are lost, open mode begins and ends (R47, R50) -/

theorem markerLoss_locked {s : State} {q : Nat} (upstream : s.time.upstream = some q) (mode : s.time.mode = .locked)
    (silent : s.after (s.trunk q).validAt (4 * markerPeriodNs (s.trunk q).rate) = true) :
    markerLossEffect s = (s.modTrunk q (fun k => { k with heard := [] })).upstreamLost := by
  simp [markerLossEffect, upstream, mode, silent]

theorem timeOpenMode_begins {s : State} (mode : s.time.mode = .holdover) (far : 1000 < s.uncertainty) (closed : s.time.openMode = false) :
    timeOpenModeEffect s = (s.modTime (fun x => { x with openMode := true })).noteFree 0xBE5 0 := by
  simp [timeOpenModeEffect, mode, far, closed]

theorem scheduledModeReturn_due {s : State} (open_ : s.time.openMode = true) (locked : s.locked = true) (boundary : s.time.ft % 8192 = 0) :
    scheduledModeReturnEffect s = (s.modTime (fun x => { x with openMode := false })).noteFree 0xBE5 0 := by
  simp [scheduledModeReturnEffect, open_, locked, boundary]

end Sys2Proof.Machine

open Sys2Proof Sys2Proof.Machine

/-- Settles O21: each command's meaning is its effect, and each effect is given by the lemma on its case. -/
theorem timeReferenceAndMarkers : Obligations.TimeReferenceAndMarkers := by
  intro s u t hu
  subst hu
  have pulse (n) : exec (.timeRefPulse t n) s = act2 s t (fun x => timeRefPulseEffect x n) := rfl
  have missing : exec (.timeRefPulseMissing t) s = act2 s t State.refInvalid := rfl
  have lost10m : exec (.timeRef10mLost t) s = act2 s t timeRef10mLostEffect := rfl
  have receive (q lanes) : exec (.alignmentMarkerReceive t q lanes) s = act2 s t (fun x => alignmentMarkerReceiveEffect x q lanes) := rfl
  have loss : exec (.markerLoss t) s = act1 s t markerLossEffect := rfl
  have opens : exec (.timeOpenMode t) s = act1 s t timeOpenModeEffect := rfl
  have returns : exec (.scheduledModeReturn t) s = act1 s t scheduledModeReturnEffect := rfl
  refine ⟨?_, ?_, ?_, ?_, ?_, ?_, ?_, ?_, ?_, ?_, ?_⟩
  · intro n enabled contacts low high mode
    have reads := (s.tick t).pulseCounted_reference n
    simp only [TimeUnit.reference, Prod.mk.injEq] at reads
    obtain ⟨-, ft, good, valid⟩ := reads
    exact ⟨_, afterAll_act2 t _ (pulse n) (timeRefPulse_good ⟨enabled, contacts⟩ low high (by rw [mode]; nofun)), good, valid, ft⟩
  · exact fun n enabled contacts off => afterAll_act2 t _ (pulse n) (timeRefPulse_bad ⟨enabled, contacts⟩ off)
  · exact afterAll_act2 t _ missing rfl
  · exact afterAll_act2 t _ lost10m rfl
  · intro q lanes m v up comma pick valid state hv
    subst hv
    have upAfter : ((s.tick t).missCounted q 0).trunkUp q = true := by
      rw [State.missCounted_trunkUp, up]
    exact afterAll_act2 t _ (receive q lanes) ((alignmentMarkerReceive_picked up comma pick).trans (marker_timeless upAfter valid state))
  · intro q lanes m v w up comma pick valid state upstream mode hv hw
    subst hv
    have upAfter : ((s.tick t).missCounted q 0).trunkUp q = true := by
      rw [State.missCounted_trunkUp, up]
    rw [← State.missCounted_oneWayNs _ q q 0] at hw
    exact afterAll_act2 t _ (receive q lanes)
      ((alignmentMarkerReceive_picked up comma pick).trans (marker_upstream upAfter valid state upstream mode hw))
  · exact fun q lanes up comma pick => afterAll_act2 t _ (receive q lanes) (alignmentMarkerReceive_unpicked up comma pick)
  · exact fun q lanes up comma run => afterAll_act2 t _ (receive q lanes) (alignmentMarkerReceive_missing up comma run)
  · exact fun q upstream mode silent => after_act1 t _ loss (markerLoss_locked upstream mode silent)
  · exact fun mode far closed => after_act1 t _ opens (timeOpenMode_begins mode far closed)
  · exact fun open_ locked boundary => after_act1 t _ returns (scheduledModeReturn_due open_ locked boundary)

end

section
/-! SUPPORT. The effects of the activation queue's change sets, of the slot schedule's swap, of pruning sets and of maintenance steps,
case by case (R54, R55, R63, R64, R110, R552). -/

namespace Sys2Proof.Machine

/-! ### How an entry that is due fares (R55) -/

theorem State.dueFate_locked {s : State} (locked : s.locked = true) (joint : Bool) : s.dueFate joint = .fire := if_pos locked

theorem State.dueFate_joint {s : State} (unlocked : s.locked = false) : s.dueFate true = .postpone := by
  simp [State.dueFate, unlocked]

theorem State.dueFate_holdover {s : State} (mode : s.time.mode = .holdover) : s.dueFate false = .inHoldover := by
  simp [State.dueFate, State.locked, mode]

theorem State.dueFate_waits {s : State} (mode : s.time.mode = .free ∨ s.time.mode = .acquiring) : s.dueFate false = .wait := by
  rcases mode with mode | mode <;> simp [State.dueFate, State.locked, mode]

/-! ### Change sets (R54, R55, R428) -/

/-- The entry of a change set whose turn has come and whose records are whole. -/
structure State.ChangeDue (s : State) (n : Nat) (c : ChangeSet) : Prop where
  kind : (s.act.slots.getD n ActSlot.reset).kind = .change
  turn : s.actTurn n = true
  whole : s.setInFlight (s.act.slots.getD n ActSlot.reset).ref = false
  set : s.setOf (s.act.slots.getD n ActSlot.reset).ref = some c

theorem State.ChangeDue.ready {s : State} {n : Nat} {c : ChangeSet} (due : s.ChangeDue n c) :
    ¬ (decide ((s.act.slots.getD n ActSlot.reset).kind ≠ .change) || !s.actTurn n ||
      s.setInFlight (s.act.slots.getD n ActSlot.reset).ref) = true := by
  rw [due.kind, due.turn, due.whole]
  decide

theorem dictionaryChangeFire_fires {s : State} {n : Nat} {c : ChangeSet} (due : s.ChangeDue n c)
    (fate : s.dueFate (s.act.slots.getD n ActSlot.reset).joint = .fire ∨
      s.dueFate (s.act.slots.getD n ActSlot.reset).joint = .inHoldover) :
    dictionaryChangeFireEffect s n = (s.markFired n).fireSet c := by
  rw [dictionaryChangeFireEffect, if_neg due.ready]
  rcases fate with fate | fate <;> simp only [due.set, fate]

theorem dictionaryChangeFire_postponed {s : State} {n : Nat} {c : ChangeSet} (due : s.ChangeDue n c)
    (fate : s.dueFate (s.act.slots.getD n ActSlot.reset).joint = .postpone) :
    dictionaryChangeFireEffect s n =
      (((s.postpone n).jSetState c .postponed).modSet c.id (fun x =>
        if x.state = .sealed then { x with prior := .postponed } else { x with state := .postponed })).revalidateAfter c.order := by
  rw [dictionaryChangeFireEffect, if_neg due.ready]
  simp only [due.set, fate]

theorem dictionaryChangeFire_waits {s : State} {n : Nat} (fate : s.dueFate (s.act.slots.getD n ActSlot.reset).joint = .wait) :
    dictionaryChangeFireEffect s n = s := by
  rw [dictionaryChangeFireEffect]
  split
  · rfl
  · cases s.setOf (s.act.slots.getD n ActSlot.reset).ref <;> simp only [fate]

/-! ### The swap of the slot schedule (R64, R552) -/

/-- What an installer's write of SLOT_SWAP_FT does, where it is taken and where it is refused (R64). -/
def slotSwapRequestEffect (s : State) (who : Role) (ft : Nat) : State :=
  if who.isInstaller then
    match s.slotSwapWrite ft with
    | .ok v => v.jAppend (.write 0x6830 0 (s.get Key.SLOT_SWAP_FT) ft 0)
    | .error _ => s
  else s

theorem exec_slotSwapRequest (t : Nat) (who : Role) (ft : Nat) (s : State) :
    exec (.slotSwapRequest t who ft) s = act1 s t (fun x => slotSwapRequestEffect x who ft) := rfl

theorem slotSwapRequest_taken {s v : State} {k ft : Nat} (taken : s.slotSwapWrite ft = .ok v) :
    slotSwapRequestEffect s (.installer k) ft = v.jAppend (.write 0x6830 0 (s.get Key.SLOT_SWAP_FT) ft 0) := by
  simp [slotSwapRequestEffect, Role.isInstaller, taken]

theorem slotSwapRequest_refused {s : State} {who : Role} {ft : Nat} {r : QueueRefusal} (refused : s.slotSwapWrite ft = .error r) :
    slotSwapRequestEffect s who ft = s := by
  simp [slotSwapRequestEffect, refused]

theorem slotSwapRequest_operator (s : State) (p ft : Nat) : slotSwapRequestEffect s (.operator p) ft = s := if_neg Bool.false_ne_true

theorem State.slotSwapWrite_invalid {s : State} {d : Nat} (fault : s.slotBankFault = some d) (ft : Nat) :
    s.slotSwapWrite ft = .error (.state d) := by
  simp only [State.slotSwapWrite, fault]

theorem State.slotSwapWrite_moved {s : State} {n : Nat} (valid : s.slotBankFault = none) (queued : s.actFind .swap 0 = some n) (ft : Nat) :
    s.slotSwapWrite ft =
      .ok ((s.modAct (fun x => { x with slots := x.slots.modify n (fun a => { a with ft := ceilDiv ft 8192 * 8192 }) })).set
        Key.SLOT_SWAP_FT ft) := by
  simp only [State.slotSwapWrite, valid, queued]

theorem State.slotSwapWrite_put {s v : State} {ft : Nat} (valid : s.slotBankFault = none) (unqueued : s.actFind .swap 0 = none)
    (put : s.actPut (ceilDiv ft 8192 * 8192) .swap false 0 0xFFFF = some v) :
    s.slotSwapWrite ft = .ok (v.set Key.SLOT_SWAP_FT ft) := by
  simp only [State.slotSwapWrite, valid, unqueued, put]

theorem State.slotSwapWrite_full {s : State} {ft : Nat} (valid : s.slotBankFault = none) (unqueued : s.actFind .swap 0 = none)
    (full : s.actPut (ceilDiv ft 8192 * 8192) .swap false 0 0xFFFF = none) : s.slotSwapWrite ft = .error .full := by
  simp only [State.slotSwapWrite, valid, unqueued, full]

theorem slotSwap_fires {s : State} {n : Nat} (queued : s.actFind .swap 0 = some n) (turn : s.actTurn n = true)
    (fate : s.dueFate false ≠ .wait) : slotSwapEffect s = (s.markFired n).swapNow := by
  simp [slotSwapEffect, queued, turn, fate]

theorem slotSwap_waits {s : State} (fate : s.dueFate false = .wait) : slotSwapEffect s = s := by
  rw [slotSwapEffect]
  cases s.actFind .swap 0 <;> simp [fate]

/-! ### Pruning sets of the far end (R63) -/

theorem pruneSetReceive_now {s : State} {q : Nat} (up : s.trunkUp q = true) (prune : BitVec 128) :
    pruneSetReceiveEffect s q 0 prune = s.modTrunk q (fun k => { k with farPrune := prune, nextPrune := none }) := by
  simp [pruneSetReceiveEffect, up]

theorem pruneSetReceive_later {s : State} {q ft : Nat} (up : s.trunkUp q = true) (later : ft ≠ 0) (prune : BitVec 128) :
    pruneSetReceiveEffect s q ft prune = s.modTrunk q (fun k => { k with nextPrune := some (ft, prune) }) := by
  simp [pruneSetReceiveEffect, up, later]

theorem pruneSetApply_kept {s : State} {q ft : Nat} {prune : BitVec 128} (kept : (s.trunk q).nextPrune = some (ft, prune)) :
    pruneSetApplyEffect s q =
      if ft ≤ s.farClock q then s.modTrunk q (fun k => { k with farPrune := prune, nextPrune := none }) else s := by
  simp only [pruneSetApplyEffect, kept]

/-! ### Maintenance steps of a trunk (R63, R110) -/

theorem trunkTxMaintenance_runs {s : State} {q dur : Nat} (up : s.trunkUp q = true) (own : (s.pruneSet q).getLsbD s.slotNow = true)
    (inside : s.ringNow % 64 + dur ≤ 64) :
    trunkTxMaintenanceEffect s q dur = s.emit (.answer "trunk tx maintenance" [q, s.slotNow]) := by
  simp [trunkTxMaintenanceEffect, State.stepFits, up, own, inside]

theorem trunkTxMaintenance_idle {s : State} {q dur : Nat} (out : (s.pruneSet q).getLsbD s.slotNow = false ∨ 64 < s.ringNow % 64 + dur) :
    trunkTxMaintenanceEffect s q dur = s := by
  rw [trunkTxMaintenanceEffect, State.stepFits]
  rcases out with foreign | long
  · simp [foreign]
  · simp [Nat.not_le.2 long]

/-- The far slot clock stands in a slot that the far end marks, and a step of `dur` ns keeps 4 ns from either end of it. -/
def State.RxFits (s : State) (q dur : Nat) : Prop :=
  (s.trunk q).farPrune.getLsbD (s.farClock q % 8192 / 64) = true ∧ 4 ≤ s.farClock q % 64 ∧ s.farClock q % 64 + dur ≤ 60

theorem trunkRxMaintenance_runs {s v : State} {q dur : Nat} (up : s.trunkUp q = true) (fits : s.RxFits q dur) (hv : v = s.adaptTaps q) :
    trunkRxMaintenanceEffect s q dur =
      (v.drew.modTrunk q (fun k => { k with
        taps := k.taps.map (fun l => l.take 32 ++ freeTaps v.draws 16 256), tapsAt := k.tapsAt + dur,
        adc := (List.range 4).map (fun l => Config.trunkTap (64 * v.draws + 16 + l)),
        cdr := (List.range 4).map (fun l => Config.trunkTap (64 * v.draws + 20 + l)) })).emit
        (.answer "trunk rx maintenance" [q, s.farClock q % 8192 / 64]) := by
  obtain ⟨marked, start, stop⟩ := fits
  subst hv
  simp [trunkRxMaintenanceEffect, up, marked, start, stop]

theorem trunkRxMaintenance_idle {s : State} {q dur : Nat} (out : ¬ s.RxFits q dur) : trunkRxMaintenanceEffect s q dur = s := by
  have barred : ¬ (s.trunkUp q && (s.trunk q).farPrune.getLsbD (s.farClock q % 8192 / 64) && decide (4 ≤ s.farClock q % 64) &&
      decide (s.farClock q % 64 + dur ≤ 60)) = true := by
    simp only [Bool.and_eq_true, decide_eq_true_eq]
    exact fun ⟨⟨⟨_, marked⟩, start⟩, stop⟩ => out ⟨marked, start, stop⟩
  exact if_neg barred

end Sys2Proof.Machine

open Sys2Proof Sys2Proof.Machine

/-- Settles O22: each command's meaning is its effect, and each effect is given by the lemma on its case. -/
theorem scheduleAndMaintenance : Obligations.ScheduleAndMaintenance := by
  intro s u t hu
  subst hu
  have change (n) : exec (.dictionaryChangeFire t n) s = act2 s t (fun x => dictionaryChangeFireEffect x n) := rfl
  have swap : exec (.slotSwap t) s = act1 s t slotSwapEffect := rfl
  have prunes (q number ft prune) :
      exec (.pruneSetReceive t q number ft prune) s = act1 s t (fun x => pruneSetReceiveEffect x q ft prune) := rfl
  have applies (q) : exec (.pruneSetApply t q) s = act1 s t (fun x => pruneSetApplyEffect x q) := rfl
  have tx (q dur) : exec (.trunkTxMaintenanceStep t q dur) s = act1 s t (fun x => trunkTxMaintenanceEffect x q dur) := rfl
  have rx (q dur) : exec (.trunkRxMaintenanceStep t q dur) s = act1 s t (fun x => trunkRxMaintenanceEffect x q dur) := rfl
  have written {k ft v} (taken : (s.tick t).slotSwapWrite ft = .ok v) :
      After (.slotSwapRequest t (.installer k) ft) s (v.jAppend (.write 0x6830 0 ((s.tick t).get Key.SLOT_SWAP_FT) ft 0)) :=
    after_act1 t _ (exec_slotSwapRequest t _ ft s) (slotSwapRequest_taken taken)
  have unwritten {k ft r} (refused : (s.tick t).slotSwapWrite ft = .error r) :
      After (.slotSwapRequest t (.installer k) ft) s (s.tick t) :=
    after_act1 t _ (exec_slotSwapRequest t _ ft s) (slotSwapRequest_refused refused)
  refine ⟨?_, ?_, ?_, ?_, ?_, ?_, ?_, ?_, ?_, ?_, ?_, ?_, ?_, ?_, ?_, ?_, ?_, ?_, ?_, ?_⟩
  · exact fun n c kind turn whole set locked =>
      afterAll_act2 t _ (change n) (dictionaryChangeFire_fires ⟨kind, turn, whole, set⟩ (.inl (State.dueFate_locked locked _)))
  · intro n c kind turn whole set unlocked joint
    have fate := State.dueFate_joint unlocked
    rw [← joint] at fate
    exact afterAll_act2 t _ (change n) (dictionaryChangeFire_postponed ⟨kind, turn, whole, set⟩ fate)
  · intro n c kind turn whole set mode single
    have fate := State.dueFate_holdover mode
    rw [← single] at fate
    exact afterAll_act2 t _ (change n) (dictionaryChangeFire_fires ⟨kind, turn, whole, set⟩ (.inr fate))
  · intro n _ mode single
    have fate := State.dueFate_waits mode
    rw [← single] at fate
    exact afterAll_act2 t _ (change n) (dictionaryChangeFire_waits fate)
  · exact fun k ft v valid unqueued put => written (State.slotSwapWrite_put valid unqueued put)
  · exact fun k ft n valid queued => written (State.slotSwapWrite_moved valid queued ft)
  · exact fun k ft d fault => unwritten (State.slotSwapWrite_invalid fault ft)
  · exact fun k ft valid unqueued full => unwritten (State.slotSwapWrite_full valid unqueued full)
  · exact fun p ft => after_act1 t _ (exec_slotSwapRequest t _ ft s) (slotSwapRequest_operator _ p ft)
  · exact fun n queued turn locked =>
      after_act1 t _ swap (slotSwap_fires queued turn (by rw [State.dueFate_locked locked]; nofun))
  · exact fun n queued turn mode =>
      after_act1 t _ swap (slotSwap_fires queued turn (by rw [State.dueFate_holdover mode]; nofun))
  · exact fun mode => after_act1 t _ swap (slotSwap_waits (State.dueFate_waits mode))
  · exact fun q number prune up => after_act1 t _ (prunes q number 0 prune) (pruneSetReceive_now up prune)
  · exact fun q number ft prune up later => after_act1 t _ (prunes q number ft prune) (pruneSetReceive_later up later prune)
  · exact fun q ft prune kept reached => after_act1 t _ (applies q) ((pruneSetApply_kept kept).trans (if_pos reached))
  · exact fun q ft prune kept before => after_act1 t _ (applies q) ((pruneSetApply_kept kept).trans (if_neg (Nat.not_le.2 before)))
  · exact fun q dur up own inside => after_act1 t _ (tx q dur) (trunkTxMaintenance_runs up own inside)
  · exact fun q dur out => after_act1 t _ (tx q dur) (trunkTxMaintenance_idle out)
  · exact fun q dur v up marked start stop hv => after_act1 t _ (rx q dur) (trunkRxMaintenance_runs up ⟨marked, start, stop⟩ hv)
  · intro q dur out
    refine after_act1 t _ (rx q dur) (trunkRxMaintenance_idle fun ⟨marked, start, stop⟩ => ?_)
    rcases out with foreign | early | late
    · simp [foreign] at marked
    · omega
    · omega

end

section
/-! SUPPORT. The effects of a host port's training, recovery and link-down, case by case (R71 to R76, R86, R97, R98). -/

namespace Sys2Proof.Machine

/-! ### Link states -/

theorem HPort.up_of_l0 {h : HPort} (l0 : h.lstate = .l0) : h.up = true := by
  simp [HPort.up, l0]

/-- A link that is up is past Detect and Polling. -/
theorem HPort.not_training_of_up {h : HPort} (up : h.up = true) : ¬ (h.lstate = .detect ∨ h.lstate = .polling) := by
  rintro (lstate | lstate) <;> simp [HPort.up, lstate] at up

/-! ### A lane finds no symbol lock (R71) -/

/-- What the end of a lane's time for symbol lock finds: the lane's port still trains, and left Detect 24 ms before. -/
structure State.LockOver (s : State) (n left : Nat) : Prop where
  lane : n < 576
  trains : (s.hport (s.laneOf n).1).lstate = .detect ∨ (s.hport (s.laneOf n).1).lstate = .polling
  from_ : (s.hport (s.laneOf n).1).detectAt ≤ left
  elapsed : s.after left 24000000 = true

theorem hpSymbolLockTimeoutEffect_eq (s : State) (n left : Nat) : hpSymbolLockTimeoutEffect s n left =
    if n < 576 && ((s.hport (s.laneOf n).1).lstate = .detect || (s.hport (s.laneOf n).1).lstate = .polling) &&
        (s.hport (s.laneOf n).1).detectAt ≤ left && s.after left 24000000 then
      s.modHPort (s.laneOf n).1 (fun h => { h with lstate := .polling, badLanes := insertNew h.badLanes (s.laneOf n).2 })
    else s := rfl

theorem hpSymbolLockTimeout_marks {s : State} {n left : Nat} (due : s.LockOver n left) :
    hpSymbolLockTimeoutEffect s n left =
      s.modHPort (s.laneOf n).1 (fun h => { h with lstate := .polling, badLanes := insertNew h.badLanes (s.laneOf n).2 }) := by
  obtain ⟨lane, trains, from_, elapsed⟩ := due
  rw [hpSymbolLockTimeoutEffect_eq, if_pos (by simpa [lane, from_, elapsed] using trains)]

theorem hpSymbolLockTimeout_up {s : State} {n : Nat} (left : Nat) (up : (s.hport (s.laneOf n).1).up = true) :
    hpSymbolLockTimeoutEffect s n left = s := by
  have trained := HPort.not_training_of_up up
  rw [hpSymbolLockTimeoutEffect_eq, if_neg]
  simp only [Bool.and_eq_true, Bool.or_eq_true, decide_eq_true_eq]
  rintro ⟨⟨⟨-, trains⟩, -⟩, -⟩
  exact trained trains

/-! ### A port reaches L0 (R71 to R76) -/

/-- The width that a link which is up can run at with `lanes` working lanes. -/
def State.reachableWidth (s : State) (p lanes : Nat) : Nat :=
  widthFor (workingLanes (s.hport p).badLanes (s.hport p).reversed (s.formedLanes p) lanes)

/-- The highest rate that the link may now run at: the target, but no more than where equalization settled it. -/
def State.rateLimit (s : State) (p : Nat) : Nat := min (s.targetRate p (s.hport p).partnerMax (s.hport p).flit) (s.hport p).eqCeiling

section
variable {s : State} {p rate lanes partnerMax : Nat} {flit reversed : Bool} {polarity : BitVec 16}

theorem hpL0Reached_barred (barred : s.mayTrain p = false) : hpL0ReachedEffect s p rate lanes partnerMax flit reversed polarity = s := by
  simp [hpL0ReachedEffect, barred]

theorem hpL0Reached_first {w : Nat} (may : s.mayTrain p = true) (down : (s.hport p).up = false)
    (hw : w = widthFor (workingLanes (s.hport p).badLanes reversed (s.formedLanes p) lanes)) (wide : w ≠ 0) :
    hpL0ReachedEffect s p 1 lanes partnerMax flit reversed polarity =
      s.hpFirstL0 p w (s.formedLanes p) partnerMax flit reversed polarity := by
  subst hw
  simp [hpL0ReachedEffect, may, down, wide]

theorem hpL0Reached_otherRate (down : (s.hport p).up = false) (other : rate ≠ 1) :
    hpL0ReachedEffect s p rate lanes partnerMax flit reversed polarity = s := by
  simp [hpL0ReachedEffect, down, other]

/-- The rate goes up one step, within the limit, from 8.0 GT/s upward after an attempt that ended well. -/
theorem hpL0Reached_stepsUp {w : Nat} (may : s.mayTrain p = true) (up : (s.hport p).up = true)
    (hw : w = min (s.reachableWidth p lanes) (s.hport p).width) (wide : w ≠ 0) (within : (s.hport p).rate + 1 ≤ s.rateLimit p)
    (equalized : (s.hport p).rate + 1 < 3 ∨ (s.hport p).eqOk = true) :
    hpL0ReachedEffect s p ((s.hport p).rate + 1) lanes partnerMax flit reversed polarity = s.hpNewRate p ((s.hport p).rate + 1) w := by
  subst hw
  rw [State.reachableWidth] at wide
  rw [State.rateLimit] at within
  simp only [hpL0ReachedEffect, may, up, Bool.not_true, Bool.false_eq_true, if_false, if_neg wide, Nat.succ_ne_self, State.reachableWidth]
  exact if_pos (by simpa [within] using equalized)

/-- From 8.0 GT/s upward no step is made without an attempt that ended well. -/
theorem hpL0Reached_unequalized (up : (s.hport p).up = true) (fast : 3 ≤ (s.hport p).rate + 1) (failed : (s.hport p).eqOk = false) :
    hpL0ReachedEffect s p ((s.hport p).rate + 1) lanes partnerMax flit reversed polarity = s := by
  simp [hpL0ReachedEffect, up, failed, Nat.not_lt.2 fast]

/-- A link that comes back from Recovery with lanes enough keeps its width. -/
theorem hpL0Reached_returns (may : s.mayTrain p = true) (up : (s.hport p).up = true)
    (enough : (s.hport p).width ≤ s.reachableWidth p lanes) (wide : (s.hport p).width ≠ 0) :
    hpL0ReachedEffect s p (s.hport p).rate lanes partnerMax flit reversed polarity =
      (s.modHPort p (fun h => { h with
        lstate := .l0, width := (s.hport p).width, l0pWidth := min h.l0pWidth (s.hport p).width, l0At := s.now })).modSec
        (fun x => { x with ide := assocErase x.ide (gOfPort p) }) := by
  rw [State.reachableWidth] at enough
  simp [hpL0ReachedEffect, may, up, Nat.min_eq_right enough, wide]

end

/-! ### An equalization attempt ends (R75) -/

/-- An attempt at the next rate is under way: the link runs at 5.0 GT/s or more and below its limit. -/
structure State.Equalizing (s : State) (p : Nat) : Prop where
  port : p < 144
  up : (s.hport p).up = true
  rate : 2 ≤ (s.hport p).rate
  open_ : (s.hport p).eqOk = false
  below : (s.hport p).rate < s.rateLimit p

/-- The attempt is counted, with its outcome and the preset asked for last. -/
def State.attemptCounted (s : State) (p preset : Nat) (ok : Bool) : State :=
  (s.modHPort p (fun h => { h with
    eqTries := (s.hport p).eqTries + 1, eqOk := ok, partnerPreset := if preset ≤ 10 then preset else h.partnerPreset })).countTwig
    (gOfPort p) 0x10F 1

/-- A port's lanes depend on how the boughs are formed and on nothing else. -/
theorem State.lanesOf_of_hier {s v : State} (same : v.hier = s.hier) (p : Nat) : v.lanesOf p = s.lanesOf p := by
  simp only [State.lanesOf, State.formedLanes, State.portTwigs, State.widthCode, same]

@[simp] theorem State.attemptCounted_lanesOf (s : State) (p preset : Nat) (ok : Bool) :
    (s.attemptCounted p preset ok).lanesOf p = s.lanesOf p :=
  State.lanesOf_of_hier (State.countTwig_hier _ _ _ _) p

theorem hpEqAttemptEnd_running {s : State} {p : Nat} (running : s.Equalizing p) (preset : Nat) (ok : Bool) :
    hpEqAttemptEndEffect s p preset ok =
      if ok then (s.attemptCounted p preset ok).each (s.lanesOf p) State.recalibrate
      else if 3 ≤ (s.hport p).eqTries + 1 then
        ((s.attemptCounted p preset ok).modHPort p (fun h => { h with eqCeiling := h.rate, eqTries := 0 })).noteFree (srcTwig (gOfPort p) 3) 1
      else s.attemptCounted p preset ok := by
  obtain ⟨port, up, rate, open_, below⟩ := running
  rw [State.rateLimit] at below
  rw [← State.attemptCounted_lanesOf s p preset ok, hpEqAttemptEndEffect, if_pos (by simp [port, up, rate, open_, below])]
  rfl

theorem hpEqAttemptEnd_well {s : State} {p : Nat} (running : s.Equalizing p) (preset : Nat) :
    hpEqAttemptEndEffect s p preset true = (s.attemptCounted p preset true).each (s.lanesOf p) State.recalibrate :=
  hpEqAttemptEnd_running running preset true

theorem hpEqAttemptEnd_failed {s : State} {p : Nat} (running : s.Equalizing p) (preset : Nat) (early : (s.hport p).eqTries < 2) :
    hpEqAttemptEndEffect s p preset false = s.attemptCounted p preset false := by
  rw [hpEqAttemptEnd_running running, if_neg Bool.false_ne_true, if_neg (by omega)]

/-- The third failure in a row settles the link at the rate in force. -/
theorem hpEqAttemptEnd_third {s : State} {p : Nat} (running : s.Equalizing p) (preset : Nat) (third : (s.hport p).eqTries = 2) :
    hpEqAttemptEndEffect s p preset false =
      ((s.attemptCounted p preset false).modHPort p (fun h => { h with eqCeiling := h.rate, eqTries := 0 })).noteFree
        (srcTwig (gOfPort p) 3) 1 := by
  rw [hpEqAttemptEnd_running running, if_neg Bool.false_ne_true, if_pos (by omega)]

/-! ### The partner's preset and coefficient requests (R86) -/

theorem hpCoeffRequest_preset {s : State} {p : Nat} (port : p < 144) (n : Nat) :
    hpCoeffRequestEffect s p (.preset n) =
      if n ≤ 10 then
        (s.modHPort p (fun h => { h with txPreset := n, txCoeff := Config.presetCoeff (s.hport p).rate n })).emit (.link p "preset accepted" n)
      else s.emit (.link p "preset rejected" n) := by
  rw [hpCoeffRequestEffect, if_neg (Nat.not_le.2 port)]

theorem hpCoeffRequest_coefficients {s : State} {p : Nat} (port : p < 144) (c : List Int) :
    hpCoeffRequestEffect s p (.coefficients c) =
      if Config.legalCoeff (s.hport p).rate c then
        (s.modHPort p (fun h => { h with txCoeff := c })).emit (.link p "coefficients accepted" 0)
      else s.emit (.link p "coefficients rejected" 0) := by
  rw [hpCoeffRequestEffect, if_neg (Nat.not_le.2 port)]

/-! ### Replays, entries to Recovery, corrected FLITs (R97, R98) -/

section
variable {s : State} {p : Nat}

theorem hpLinkRecovery_replay (port : p < 144) (up : (s.hport p).up = true) :
    hpLinkRecoveryEffect s p .replay = (s.countTwig (gOfPort p) 0x107 1).noteFree (srcTwig (gOfPort p) 7) 1 := by
  simp [hpLinkRecoveryEffect, port, up]

theorem hpLinkRecovery_l0 (port : p < 144) (l0 : (s.hport p).lstate = .l0) :
    hpLinkRecoveryEffect s p .recovery =
      ((s.modHPort p (fun h => { h with lstate := .recovery })).countTwig (gOfPort p) 0x108 1).noteFree (srcTwig (gOfPort p) 7) 1 := by
  simp [hpLinkRecoveryEffect, port, HPort.up_of_l0 l0, l0]

theorem hpLinkRecovery_fec (port : p < 144) (up : (s.hport p).up = true) (n : Nat) :
    hpLinkRecoveryEffect s p (.fec n) = s.countTwig (gOfPort p) 0x105 n := by
  simp [hpLinkRecoveryEffect, port, up]

theorem hpLinkRecovery_nakSent (port : p < 144) (up : (s.hport p).up = true) :
    hpLinkRecoveryEffect s p .nakSent = s.countTwig (gOfPort p) 0x106 1 := by
  simp [hpLinkRecoveryEffect, port, up]

/-! ### A link goes down (R98, R213) -/

/-- A shared device whose link failed asks for the deferred reset besides. -/
theorem hpLinkDown_up {cause : Nat} (port : p < 144) (up : (s.hport p).up = true) (low : 1 ≤ cause) (high : cause ≤ 7) :
    hpLinkDownEffect s p cause =
      if (s.hpDown p cause 2).isShared (gOfPort p) && cause = 7 then (s.hpDown p cause 2).sharedRequest (gOfPort p) 3
      else s.hpDown p cause 2 := by
  rw [hpLinkDownEffect, if_pos (by simp [port, up, low, high])]

theorem hpLinkDown_other {cause : Nat} (port : p < 144) (up : (s.hport p).up = true) (low : 1 ≤ cause) (high : cause ≤ 6) :
    hpLinkDownEffect s p cause = s.hpDown p cause 2 := by
  have other : cause ≠ 7 := by omega
  rw [hpLinkDown_up port up low (by omega), if_neg (by simp [other])]

theorem hpLinkDown_failed (port : p < 144) (up : (s.hport p).up = true) :
    hpLinkDownEffect s p 7 =
      if (s.hpDown p 7 2).isShared (gOfPort p) then (s.hpDown p 7 2).sharedRequest (gOfPort p) 3 else s.hpDown p 7 2 := by
  simp [hpLinkDown_up port up]

theorem hpLinkDown_down {cause : Nat} (down : (s.hport p).up = false) : hpLinkDownEffect s p cause = s := by
  simp [hpLinkDownEffect, down]

end

/-! ### Retrain Link (R74) -/

theorem State.hpRetrain_up {s v : State} {p : Nat} (up : (s.hport p).up = true)
    (hv : v = s.modHPort p (fun h => { h with lstate := .recovery, eqCeiling := 7, eqTries := 0, eqOk := false })) :
    s.hpRetrain p = (v.takeCeiling p).emit (.link p "retrain" 0) := by
  rw [hv, State.hpRetrain, if_pos up]

theorem retrainLink_upstream {s : State} {part g : Nat} (upstream : s.upTwig part = some g) :
    retrainLinkEffect s part none = s.hpRetrain (s.hportOfG g) := by
  simp only [retrainLinkEffect, upstream]

theorem retrainLink_here {s : State} {part d : Nat} (whole : (s.bind part d).kind = 1) (here : (s.bind part d).crown = s.crownId) :
    retrainLinkEffect s part (some d) = s.hpRetrain (s.hportOfG (s.bind part d).twig) := by
  simp [retrainLinkEffect, whole, here]

theorem retrainLink_elsewhere {s : State} {part d : Nat} (whole : (s.bind part d).kind = 1) (other : (s.bind part d).crown ≠ s.crownId)
    (home : s.isHome part = true) :
    retrainLinkEffect s part (some d) = s.emit (.signal (s.bind part d).crown (s.groveId part) "retrain" [d]) := by
  simp [retrainLinkEffect, whole, other, home]

end Sys2Proof.Machine

open Sys2Proof Sys2Proof.Machine

/-- Settles O23: each command's meaning is its effect, and each effect is given by the lemma on its case. -/
theorem hostPortTraining : Obligations.HostPortTraining := by
  intro s u t hu
  subst hu
  have lock (n left) : exec (.hpSymbolLockTimeout t n left) s = act1 s t (fun x => hpSymbolLockTimeoutEffect x n left) := rfl
  have l0 (p rate lanes partnerMax flit reversed polarity) : exec (.hpL0Reached t p rate lanes partnerMax flit reversed polarity) s =
      act2 s t (fun x => hpL0ReachedEffect x p rate lanes partnerMax flit reversed polarity) := rfl
  have attempt (p preset ok) : exec (.hpEqAttemptEnd t p preset ok) s = act2 s t (fun x => hpEqAttemptEndEffect x p preset ok) := rfl
  have coeff (p req) : exec (.hpCoeffRequest t p req) s = act1 s t (fun x => hpCoeffRequestEffect x p req) := rfl
  have recovery (p e) : exec (.hpLinkRecovery t p e) s = act2 s t (fun x => hpLinkRecoveryEffect x p e) := rfl
  have goesDown (p cause) : exec (.hpLinkDown t p cause) s = act2 s t (fun x => hpLinkDownEffect x p cause) := rfl
  have retrain (part d) : exec (.retrainLink t part d) s = act1 s t (fun x => retrainLinkEffect x part d) := rfl
  refine ⟨?_, ?_, ?_, ?_, ?_, ?_, ?_, ?_, ?_, ?_, ?_, ?_, ?_, ?_, ?_, ?_, ?_, ?_, ?_, ?_, ?_, ?_, ?_, ?_, ?_⟩
  · exact fun n left lane trains from_ elapsed => after_act1 t _ (lock n left) (hpSymbolLockTimeout_marks ⟨lane, trains, from_, elapsed⟩)
  · exact fun n left up => after_act1 t _ (lock n left) (hpSymbolLockTimeout_up left up)
  · exact fun p _ _ _ _ _ w may down hw wide => afterAll_act2 t _ (l0 p 1 _ _ _ _ _) (hpL0Reached_first may down hw wide)
  · exact fun p rate _ _ _ _ _ barred => afterAll_act2 t _ (l0 p rate _ _ _ _ _) (hpL0Reached_barred barred)
  · exact fun p rate _ _ _ _ _ down other => afterAll_act2 t _ (l0 p rate _ _ _ _ _) (hpL0Reached_otherRate down other)
  · exact fun p _ _ _ _ _ w may up hw wide within equalized =>
      afterAll_act2 t _ (l0 p _ _ _ _ _ _) (hpL0Reached_stepsUp may up hw wide within equalized)
  · exact fun p _ _ _ _ _ up fast failed => afterAll_act2 t _ (l0 p _ _ _ _ _ _) (hpL0Reached_unequalized up fast failed)
  · intro p lanes _ _ _ _ w may up hw enough wide
    exact afterAll_act2 t _ (l0 p _ lanes _ _ _ _) (hpL0Reached_returns may up (enough.trans_eq hw) wide)
  · exact fun p preset port up rate open_ below =>
      afterAll_act2 t _ (attempt p preset true) (hpEqAttemptEnd_well ⟨port, up, rate, open_, below⟩ preset)
  · exact fun p preset port up rate open_ below early =>
      afterAll_act2 t _ (attempt p preset false) (hpEqAttemptEnd_failed ⟨port, up, rate, open_, below⟩ preset early)
  · intro p preset port up rate open_ below third
    have settled := hpEqAttemptEnd_third ⟨port, up, rate, open_, below⟩ preset third
    rw [State.attemptCounted, third] at settled
    exact afterAll_act2 t _ (attempt p preset false) settled
  · exact fun p n port legal => after_act1 t _ (coeff p _) ((hpCoeffRequest_preset port n).trans (if_pos legal))
  · exact fun p n port outside => after_act1 t _ (coeff p _) ((hpCoeffRequest_preset port n).trans (if_neg (Nat.not_le.2 outside)))
  · exact fun p c port => after_act1 t _ (coeff p _) (hpCoeffRequest_coefficients port c)
  · exact fun p port up => afterAll_act2 t _ (recovery p _) (hpLinkRecovery_replay port up)
  · exact fun p port l0 => afterAll_act2 t _ (recovery p _) (hpLinkRecovery_l0 port l0)
  · exact fun p n port up => afterAll_act2 t _ (recovery p _) (hpLinkRecovery_fec port up n)
  · exact fun p port up => afterAll_act2 t _ (recovery p _) (hpLinkRecovery_nakSent port up)
  · exact fun p cause port up low high => afterAll_act2 t _ (goesDown p cause) (hpLinkDown_other port up low high)
  · exact fun p port up whole => afterAll_act2 t _ (goesDown p 7) ((hpLinkDown_failed port up).trans (if_neg (Bool.eq_false_iff.1 whole)))
  · exact fun p port up shared => afterAll_act2 t _ (goesDown p 7) ((hpLinkDown_failed port up).trans (if_pos shared))
  · exact fun p cause down => afterAll_act2 t _ (goesDown p cause) (hpLinkDown_down down)
  · exact fun p part v upstream up hv =>
      after_act1 t _ (retrain part none) ((retrainLink_upstream upstream).trans (State.hpRetrain_up up hv))
  · exact fun part d v whole here up hv =>
      after_act1 t _ (retrain part (some d)) ((retrainLink_here whole here).trans (State.hpRetrain_up up hv))
  · exact fun part d whole other home => after_act1 t _ (retrain part (some d)) (retrainLink_elsewhere whole other home)

end

section
/-! SUPPORT. The effects of a host port's lanes and power states, case by case: DFE taps, maintenance and margining, reference clocks, L0p
and L1 (R69, R81 to R92). -/

namespace Sys2Proof.Machine

/-! ### DFE taps, maintenance and margining of a lane (R69, R82 to R85) -/

theorem dfeUpdate_paused {s : State} {n : Nat} (lane : n < 576) (paused : s.laneAdapts n = false) (sums : List Int) :
    dfeUpdateEffect s n sums = s.modLane n (fun l => { l with acc := List.replicate 12 0 }) := by
  simp [dfeUpdateEffect, Nat.not_le.2 lane, paused]

/-- The taps move by the accumulators `acc`; the first one pushed against its limit since the link came up is an event. -/
theorem dfeUpdate_adapts {s v : State} {n : Nat} {sums acc new : List Int} (lane : n < 576) (adapts : s.laneAdapts n = true)
    (hacc : acc = (List.range 12).map (fun k => (s.lane n).acc.getD k 0 + sums.getD k 0))
    (hnew : new = ((s.lane n).taps.zip acc).map (fun e => tapStep e.1 e.2))
    (hv : v = (s.modLane n (fun l => { l with taps := new, acc := List.replicate 12 0 })).countTwig (gOfPort (n / 4)) 0x10E
      (((s.lane n).taps.zip new).filter (fun e => e.1 ≠ e.2)).length) :
    dfeUpdateEffect s n sums =
      if (((s.lane n).taps.zip acc).any (fun e => tapRail e.1 e.2) && !(v.hport (v.laneOf n).1).railRaised) = true then
        (v.modHPort (v.laneOf n).1 (fun h => { h with railRaised := true, railEvents := h.railEvents + 1 })).noteFree
          (srcTwig (gOfPort (v.laneOf n).1) 6) 0
      else v := by
  subst hv hnew hacc
  rw [dfeUpdateEffect, if_neg (Nat.not_le.2 lane), if_pos adapts]

/-- A step of `dur` ns stays inside one slot that the crown maintenance mask names. -/
def State.MaintenanceFits (s : State) (dur : Nat) : Prop := s.inCrownPrune = true ∧ s.ringNow % 64 + dur ≤ 64

theorem hLaneMaintenance_runs {s : State} {n dur : Nat} (lane : n < 576) (fits : s.MaintenanceFits dur) (eye : Nat) (corrected : Bool) :
    hLaneMaintenanceEffect s n dur eye corrected =
      if corrected then
        ((s.modLane n (fun l => { l with eye := min eye 0xFF, acc := List.replicate 12 0 })).recalibrate n).countTwig (gOfPort (n / 4)) 0x104 1
      else (s.modLane n (fun l => { l with eye := min eye 0xFF, acc := List.replicate 12 0 })).recalibrate n := by
  obtain ⟨slot, inside⟩ := fits
  rw [hLaneMaintenanceEffect, if_pos (by simp [State.stepFits, lane, slot, inside])]

theorem hLaneMaintenance_idle {s : State} {dur : Nat} (out : ¬ s.MaintenanceFits dur) (n eye : Nat) (corrected : Bool) :
    hLaneMaintenanceEffect s n dur eye corrected = s := by
  refine if_neg fun runs => out ?_
  simp only [State.stepFits, Bool.and_eq_true, decide_eq_true_eq] at runs
  obtain ⟨⟨-, slot⟩, inside⟩ := runs
  exact ⟨slot, inside⟩

theorem marginCommand_starts {s : State} {n : Nat} (lane : n < 576) (l0 : (s.hport (s.laneOf n).1).lstate = .l0)
    (fast : 4 ≤ (s.hport (s.laneOf n).1).rate) (m : Margin) :
    marginCommandEffect s n (some m) = s.modLane n (fun l => { l with margining := some m, acc := List.replicate 12 0 }) := by
  simp [marginCommandEffect, lane, l0, fast]

theorem marginCommand_slow {s : State} {n : Nat} (slow : (s.hport (s.laneOf n).1).rate < 4) (m : Margin) :
    marginCommandEffect s n (some m) = s := by
  simp [marginCommandEffect, Nat.not_le.2 slow]

theorem marginCommand_ends {s : State} {n : Nat} (lane : n < 576) :
    marginCommandEffect s n none = s.modLane n (fun l => { l with margining := none, acc := List.replicate 12 0 }) := by
  simp [marginCommandEffect, lane]

/-! ### The reference clock of a bough (R81) -/

theorem refclkLost_good {s v : State} {b : Nat} (bough : b < 40) (host : isTBough b = false) (good : s.power.refclk.getD b false = true)
    (hv : v = (s.modPower (fun x => { x with refclk := x.refclk.set b false })).noteFree (srcTwig (4 * b) 5) 2) :
    refclkLostEffect s b = v.each (v.boughPorts b) (fun s p => s.hpDown p 4 2) := by
  subst hv
  rw [refclkLostEffect, if_pos (by rw [host, good]; simp [bough])]

theorem refclkLost_already {s : State} {b : Nat} (lost : s.power.refclk.getD b false = false) : refclkLostEffect s b = s := by
  rw [refclkLostEffect, lost, Bool.and_false, if_neg Bool.false_ne_true]

theorem refclkRestored_starts {s v : State} {b : Nat} (bough : b < 40) (host : isTBough b = false)
    (hv : v = s.modPower (fun x => { x with refclk := x.refclk.set b true })) :
    refclkRestoredEffect s b =
      v.each (v.boughPorts b) (fun s p => s.modHPort p (fun h => if h.up then h else { h with detectAt := s.now })) := by
  subst hv
  rw [refclkRestoredEffect, if_pos (by simp [bough, host])]

/-! ### L0p (R87, R89, R495) -/

/-- No TLP has passed a port's link for as long as its entry `key` says, in µs; 0 there stands for never. -/
def State.IdleFor (s : State) (p key : Nat) : Prop := s.get (key + p) ≠ 0 ∧ s.after (s.lastTlp p) (1000 * s.get (key + p)) = true

section
variable {s : State} {p : Nat}

theorem State.l0pTo_narrower {w : Nat} (less : w < (s.hport p).l0pWidth) :
    s.l0pTo p w = (s.modHPort p (fun h => { h with l0pWidth := w, narrowedAt := s.now })).countTwig (gOfPort p) 0x109 1 := if_pos less

theorem State.l0pTo_notNarrower {w : Nat} (more : (s.hport p).l0pWidth ≤ w) :
    s.l0pTo p w = s.modHPort p (fun h => { h with l0pWidth := w, narrowedAt := s.now }) := if_neg (Nat.not_lt.2 more)

theorem l0pNarrow_idle (port : p < 144) (l0 : (s.hport p).lstate = .l0) (flit : (s.hport p).flit = true)
    (enabled : s.powerEnabled p 3 = true) (idle : s.IdleFor p Key.HP_L0P_IDLE) (wider : s.l0pMin p < (s.hport p).l0pWidth) :
    l0pNarrowEffect s p = (s.l0pTo p (s.l0pMin p)).emit (.link p "L0p width" (s.l0pMin p)) := by
  obtain ⟨set_, passed⟩ := idle
  simp [l0pNarrowEffect, port, l0, flit, enabled, set_, passed, wider]

theorem l0pNarrow_stays (unmet : s.powerEnabled p 3 = false ∨ s.after (s.lastTlp p) (1000 * s.get (Key.HP_L0P_IDLE + p)) = false) :
    l0pNarrowEffect s p = s := by
  rcases unmet with disabled | busy
  · simp [l0pNarrowEffect, disabled]
  · simp [l0pNarrowEffect, busy]

theorem l0pWiden_wanted (port : p < 144) (l0 : (s.hport p).lstate = .l0) (narrow : (s.hport p).l0pWidth < (s.hport p).width)
    (free : s.power.govLevel < 3) (wanted : 2048 < s.queuedBytes (gOfPort p) ∨ (s.hport p).narrowedAt ≤ s.lastTlp p) :
    l0pWidenEffect s p = (s.l0pTo p (s.hport p).width).emit (.link p "L0p width" (s.hport p).width) := by
  simp [l0pWidenEffect, port, l0, narrow, free, wanted]

theorem l0pWiden_withheld (withheld : 3 ≤ s.power.govLevel) : l0pWidenEffect s p = s := by
  simp [l0pWidenEffect, Nat.not_lt.2 withheld]

theorem l0pPartnerRequest_granted {w : Nat} (port : p < 144) (l0 : (s.hport p).lstate = .l0) (flit : (s.hport p).flit = true)
    (enabled : s.powerEnabled p 3 = true) (legal : w ∈ [1, 2, 4, 8, 16]) (within : w ≤ (s.hport p).width) :
    l0pPartnerRequestEffect s p w = (s.l0pTo p w).emit (.link p "L0p granted" w) := by
  rw [l0pPartnerRequestEffect, if_pos (by rw [List.contains_iff_mem.2 legal]; simp [port, l0, flit, enabled, within])]

theorem l0pPartnerRequest_disabled (disabled : s.powerEnabled p 3 = false) (w : Nat) : l0pPartnerRequestEffect s p w = s := by
  simp [l0pPartnerRequestEffect, disabled]

/-! ### L1 (R69, R90 to R92) -/

theorem l1EntryInitiate_idle {part : Nat} (upstream : s.upstreamPart (gOfPort p) = some part) (port : p < 144)
    (l0 : (s.hport p).lstate = .l0) (asleep : s.partAwake part = false) (enabled : s.powerEnabled p 0 = true)
    (idle : s.IdleFor p Key.HP_L1_IDLE) (quiet : s.partQuiet part (1000 * s.get (Key.HP_L1_IDLE + p)) = true) :
    l1EntryInitiateEffect s p = (s.enterL1 p false).emit (.link p "L1 entry" 0) := by
  obtain ⟨set_, passed⟩ := idle
  simp [l1EntryInitiateEffect, upstream, port, l0, asleep, enabled, set_, passed, quiet]

/-- Where L1 is not enabled in the governing registers, HP_POWER_CTL alone enables PCI-PM L1. -/
theorem l1EntryInitiate_pciPm {part : Nat} (upstream : s.upstreamPart (gOfPort p) = some part) (port : p < 144)
    (l0 : (s.hport p).lstate = .l0) (asleep : s.partAwake part = false) (disabled : s.powerEnabled p 0 = false)
    (control : bitOf (s.get (Key.HP_POWER_CTL + p)) 0 = true) (sleeps : s.partAsleep part = true) (quiet : s.partQuiet part 0 = true) :
    l1EntryInitiateEffect s p = (s.enterL1 p true).emit (.link p "PCI-PM L1 entry" 0) := by
  simp [l1EntryInitiateEffect, upstream, port, l0, asleep, disabled, control, sleeps, quiet]

theorem State.queuedBytes_of_empty (empty : s.core.queues = []) (g : Nat) : s.queuedBytes g = 0 := by
  simp [State.queuedBytes, empty]

theorem l1PartnerRequest_accepted (below : s.upstreamPart (gOfPort p) = none) (port : p < 144) (l0 : (s.hport p).lstate = .l0)
    (enabled : s.powerEnabled p 0 = true) (idle : s.IdleFor p Key.HP_L1_IDLE) (empty : s.core.queues = []) :
    l1PartnerRequestEffect s p = (s.enterL1 p false).emit (.link p "L1 accepted" 0) := by
  obtain ⟨set_, passed⟩ := idle
  simp [l1PartnerRequestEffect, below, port, l0, enabled, set_, passed, State.queuedBytes_of_empty, empty]

theorem l1PartnerRequest_refused (below : s.upstreamPart (gOfPort p) = none) (port : p < 144) (l0 : (s.hport p).lstate = .l0)
    (unmet : s.powerEnabled p 0 = false ∨ s.after (s.lastTlp p) (1000 * s.get (Key.HP_L1_IDLE + p)) = false ∨
      s.queuedBytes (gOfPort p) ≠ 0) :
    l1PartnerRequestEffect s p = s.emit (.link p "PM_Active_State_Nak" 0) := by
  rcases unmet with disabled | busy | queued
  · simp [l1PartnerRequestEffect, below, port, l0, disabled]
  · simp [l1PartnerRequestEffect, below, port, l0, busy]
  · simp [l1PartnerRequestEffect, below, port, l0, queued]

theorem l1Exit_l1 (port : p < 144) (l1 : (s.hport p).lstate = .l1) :
    l1ExitEffect s p = (s.modHPort p (fun h => { h with lstate := .recovery })).emit (.link p "L1 exit" 0) := by
  simp [l1ExitEffect, HPort.inL1, port, l1]

/-- From a substate the module asserts its CLKREQ#. -/
theorem l1Exit_substate (port : p < 144) (substate : (s.hport p).lstate = .l11 ∨ (s.hport p).lstate = .l12) :
    l1ExitEffect s p =
      (((s.modHPort p (fun h => { h with lstate := .recovery })).modSideband p (fun b => { b with clkreq := true })).driveOut p 1 true).emit
        (.link p "L1 exit" 0) := by
  rcases substate with l11 | l12
  · simp [l1ExitEffect, HPort.inL1, port, l11]
  · simp [l1ExitEffect, HPort.inL1, port, l12]

theorem l1PartnerExit_inL1 (port : p < 144) (l1 : (s.hport p).inL1 = true) :
    l1PartnerExitEffect s p = s.modHPort p (fun h => { h with lstate := .recovery }) := by
  simp [l1PartnerExitEffect, port, l1]

end

end Sys2Proof.Machine

open Sys2Proof Sys2Proof.Machine

/-- Settles O24: each command's meaning is its effect, and each effect is given by the lemma on its case. -/
theorem hostPortLanesAndPower : Obligations.HostPortLanesAndPower := by
  intro s u t hu
  subst hu
  have dfe (n sums) : exec (.dfeUpdate t n sums) s = act1 s t (fun x => dfeUpdateEffect x n sums) := rfl
  have maintenance (n dur eye c) : exec (.hLaneMaintenance t n dur eye c) s = act1 s t (fun x => hLaneMaintenanceEffect x n dur eye c) := rfl
  have margin (n m) : exec (.marginCommand t n m) s = act1 s t (fun x => marginCommandEffect x n m) := rfl
  have lost (b) : exec (.refclkLost t b) s = act2 s t (fun x => refclkLostEffect x b) := rfl
  have restored (b) : exec (.refclkRestored t b) s = act1 s t (fun x => refclkRestoredEffect x b) := rfl
  have narrow (p) : exec (.l0pNarrow t p) s = act1 s t (fun x => l0pNarrowEffect x p) := rfl
  have widen (p) : exec (.l0pWiden t p) s = act1 s t (fun x => l0pWidenEffect x p) := rfl
  have asks (p w) : exec (.l0pPartnerRequest t p w) s = act1 s t (fun x => l0pPartnerRequestEffect x p w) := rfl
  have enters (p) : exec (.l1EntryInitiate t p) s = act1 s t (fun x => l1EntryInitiateEffect x p) := rfl
  have partner (p) : exec (.l1PartnerRequest t p) s = act1 s t (fun x => l1PartnerRequestEffect x p) := rfl
  have exits (p) : exec (.l1Exit t p) s = act1 s t (fun x => l1ExitEffect x p) := rfl
  have leaves (p) : exec (.l1PartnerExit t p) s = act1 s t (fun x => l1PartnerExitEffect x p) := rfl
  refine ⟨?_, ?_, ?_, ?_, ?_, ?_, ?_, ?_, ?_, ?_, ?_, ?_, ?_, ?_, ?_, ?_, ?_, ?_, ?_, ?_, ?_, ?_, ?_, ?_⟩
  · exact fun n sums lane paused => after_act1 t _ (dfe n sums) (dfeUpdate_paused lane paused sums)
  · exact fun n sums acc new v lane adapts hacc hnew hv => after_act1 t _ (dfe n sums) (dfeUpdate_adapts lane adapts hacc hnew hv)
  · exact fun n dur eye lane slot inside =>
      after_act1 t _ (maintenance n dur eye false) (hLaneMaintenance_runs lane ⟨slot, inside⟩ eye false)
  · exact fun n dur eye lane slot inside =>
      after_act1 t _ (maintenance n dur eye true) (hLaneMaintenance_runs lane ⟨slot, inside⟩ eye true)
  · intro n dur eye c out
    refine after_act1 t _ (maintenance n dur eye c) (hLaneMaintenance_idle (fun ⟨slot, inside⟩ => ?_) n eye c)
    rcases out with foreign | long
    · simp [foreign] at slot
    · omega
  · exact fun n m lane l0 fast => after_act1 t _ (margin n _) (marginCommand_starts lane l0 fast m)
  · exact fun n m slow => after_act1 t _ (margin n _) (marginCommand_slow slow m)
  · exact fun n lane => after_act1 t _ (margin n none) (marginCommand_ends lane)
  · exact fun b v bough host good hv => afterAll_act2 t _ (lost b) (refclkLost_good bough host good hv)
  · exact fun b already => afterAll_act2 t _ (lost b) (refclkLost_already already)
  · exact fun b v bough host hv => after_act1 t _ (restored b) (refclkRestored_starts bough host hv)
  · intro p port l0 flit enabled set_ passed wider
    refine after_act1 t _ (narrow p) ?_
    rw [l0pNarrow_idle port l0 flit enabled ⟨set_, passed⟩ wider, State.l0pTo_narrower wider]
  · exact fun p unmet => after_act1 t _ (narrow p) (l0pNarrow_stays unmet)
  · intro p port l0 less free wanted
    refine after_act1 t _ (widen p) ?_
    rw [l0pWiden_wanted port l0 less free wanted, State.l0pTo_notNarrower less.le]
  · exact fun p withheld => after_act1 t _ (widen p) (l0pWiden_withheld withheld)
  · exact fun p w port l0 flit enabled legal within =>
      after_act1 t _ (asks p w) (l0pPartnerRequest_granted port l0 flit enabled legal within)
  · exact fun p w disabled => after_act1 t _ (asks p w) (l0pPartnerRequest_disabled disabled w)
  · exact fun p part upstream port l0 enabled set_ passed asleep quiet =>
      after_act1 t _ (enters p) (l1EntryInitiate_idle upstream port l0 asleep enabled ⟨set_, passed⟩ quiet)
  · exact fun p part upstream port l0 asleep disabled control sleeps quiet =>
      after_act1 t _ (enters p) (l1EntryInitiate_pciPm upstream port l0 asleep disabled control sleeps quiet)
  · exact fun p below port l0 enabled set_ passed empty =>
      after_act1 t _ (partner p) (l1PartnerRequest_accepted below port l0 enabled ⟨set_, passed⟩ empty)
  · exact fun p below port l0 unmet => after_act1 t _ (partner p) (l1PartnerRequest_refused below port l0 unmet)
  · exact fun p port l1 => after_act1 t _ (exits p) (l1Exit_l1 port l1)
  · exact fun p port substate => after_act1 t _ (exits p) (l1Exit_substate port substate)
  · exact fun p port l1 => after_act1 t _ (leaves p) (l1PartnerExit_inL1 port l1)

end

section
/-! SUPPORT. The effects of a partition's resets and of its slot and link controls, case by case (R98, R207, R215, R223 to R227, R287,
R300). -/

namespace Sys2Proof.Machine

/-! ### Secondary Bus Reset (R223, R227) -/

/-- A home partition that neither resets nor is held: its bridges take a reset. -/
structure State.TakesSbr (s : State) (p : Nat) : Prop where
  part : p < 64
  home : s.isHome p = true
  still : (s.part p).state ≠ .resetting
  free : (s.part p).state ≠ .held

theorem State.TakesSbr.unbarred {s : State} {p : Nat} (takes : s.TakesSbr p) :
    ¬ (64 ≤ p || !s.isHome p || (s.part p).state = .resetting || (s.part p).state = .held) = true := by
  obtain ⟨part, home, still, free⟩ := takes
  simp [part, home, still, free]

theorem secondaryBusReset_vdp {s : State} {p n : Nat} (takes : s.TakesSbr p) (present : s.vdpPresent p n = true) (on : Bool) :
    secondaryBusResetEffect s p (some n) on = s.vdpSbr p n on := by
  rw [secondaryBusResetEffect, if_neg takes.unbarred]
  exact if_pos present

theorem secondaryBusReset_absent {s : State} {p n : Nat} (absent : s.vdpPresent p n = false) (on : Bool) :
    secondaryBusResetEffect s p (some n) on = s := by
  simp [secondaryBusResetEffect, absent]

theorem secondaryBusReset_upstream {s v : State} {p : Nat} {on : Bool} (takes : s.TakesSbr p)
    (hv : v = s.modBridge p none (fun x => { x with sbr := on })) :
    secondaryBusResetEffect s p none on =
      v.each ((List.range 256).filter (fun n => n == 0xFF || (v.bind p n).kind ≠ 0)) (fun w n => w.vdpSbr p n on) := by
  subst hv
  exact if_neg takes.unbarred

theorem secondaryBusReset_barred {s : State} {p : Nat}
    (barred : 64 ≤ p ∨ s.isHome p = false ∨ (s.part p).state = .resetting ∨ (s.part p).state = .held) (n : Option Nat) (on : Bool) :
    secondaryBusResetEffect s p n on = s :=
  if_pos (by simpa [or_assoc] using barred)

/-! ### Hot reset and link-down of the upstream link (R98, R223) -/

theorem hotResetReceived_hot {s : State} {p g : Nat} (part : p < 64) (upstream : s.upTwig p = some g) :
    hotResetReceivedEffect s p false = (s.partReset p 1).hpDown (portOfG (s.portLowG g)) 1 1 := by
  simp [hotResetReceivedEffect, upstream, Nat.not_le.2 part]

theorem hotResetReceived_linkDown {s : State} {p g : Nat} (part : p < 64) (upstream : s.upTwig p = some g) :
    hotResetReceivedEffect s p true = s.partReset p 2 := by
  simp [hotResetReceivedEffect, upstream, Nat.not_le.2 part]

theorem hotResetReceived_none {s : State} {p : Nat} (none_ : 64 ≤ p ∨ s.upTwig p = none) (linkDown : Bool) :
    hotResetReceivedEffect s p linkDown = s := by
  rw [hotResetReceivedEffect]
  rcases none_ with above | rootless
  · cases s.upTwig p with
    | none => rfl
    | some g => exact if_pos above
  · simp only [rootless]

/-! ### The steps of a reset are complete, its cause ends (R226, R287) -/

theorem partResetStepsDone_held {s : State} {p : Nat} (part : p < 64) (resetting : (s.part p).state = .resetting)
    (cause : (s.part p).causeOn = true) : partResetStepsDoneEffect s p = s.modPart p (fun x => { x with state := .held }) := by
  simp [partResetStepsDoneEffect, part, resetting, cause]

theorem partResetStepsDone_active {s : State} {p : Nat} (part : p < 64) (resetting : (s.part p).state = .resetting)
    (ended : (s.part p).causeOn = false) :
    partResetStepsDoneEffect s p = (s.modPart p (fun x => { x with state := .active })).noteAt 0xBC1 p 0 := by
  simp [partResetStepsDoneEffect, part, resetting, ended]

theorem partResetStepsDone_idle {s : State} {p : Nat} (idle : 64 ≤ p ∨ (s.part p).state ≠ .resetting) :
    partResetStepsDoneEffect s p = s := by
  refine if_neg fun runs => ?_
  simp only [Bool.and_eq_true, decide_eq_true_eq] at runs
  obtain ⟨part, resetting⟩ := runs
  exact idle.elim (Nat.not_le.2 part) (absurd resetting)

/-- The home crown of the partition is another one, and fenced. -/
def State.HomeFenced (s : State) (p : Nat) : Prop := ∃ c, s.homeCrown p = some c ∧ c ≠ s.crownId ∧ s.fenced c = true

theorem partResetCauseEnd_fenced {s : State} {p : Nat} (fenced : s.HomeFenced p) : partResetCauseEndEffect s p = s := by
  obtain ⟨c, home, other, fence⟩ := fenced
  simp [partResetCauseEndEffect, home, other, fence]

theorem partResetCauseEnd_ends {s : State} {p : Nat} (part : p < 64) (reached : ¬ s.HomeFenced p) :
    partResetCauseEndEffect s p = s.partCauseEnd p := by
  rw [partResetCauseEndEffect]
  cases home : s.homeCrown p with
  | none => simp [part]
  | some c =>
    have unfenced : ¬ (c ≠ s.crownId ∧ s.fenced c = true) := fun fence => reached ⟨c, home, fence⟩
    exact if_pos (by simpa [part, or_iff_not_imp_left] using unfenced)

/-! ### A reset notice of the home crown (R226, R300) -/

theorem State.signalled_free {s : State} (free : s.fabric.bridge = []) (sender gp : Nat) (f : State → State) :
    s.signalled sender gp f = f s := by
  simp [State.signalled, free]

theorem State.signalled_held {s : State} (held : s.fabric.bridge ≠ []) (sender gp : Nat) (f : State → State) :
    s.signalled sender gp f = (s.countHeart 0x385 1).emit (.signal sender gp "retry later" []) := by
  simp [State.signalled, held]

theorem resetNotice_home {s : State} {c gp p : Nat} (free : s.fabric.bridge = []) (member : s.partOfGp gp = some p) (other : c ≠ s.crownId)
    (home : s.homeCrown p = some c) : resetNoticeEffect s c gp = s.partReset p 4 := by
  simp [resetNoticeEffect, State.signalled_free free, member, other, home]

theorem resetNotice_stranger {s : State} {c gp : Nat} (free : s.fabric.bridge = [])
    (stranger : ∀ p, s.partOfGp gp = some p → c = s.crownId ∨ s.homeCrown p ≠ some c) : resetNoticeEffect s c gp = s := by
  rw [resetNoticeEffect, State.signalled_free free]
  cases member : s.partOfGp gp with
  | none => rfl
  | some p =>
    rcases stranger p member with self | foreign
    · simp [self]
    · simp [foreign]

theorem resetNotice_later {s : State} (held : s.fabric.bridge ≠ []) (c gp : Nat) :
    resetNoticeEffect s c gp = (s.countHeart 0x385 1).emit (.signal c gp "retry later" []) :=
  State.signalled_held held c gp _

/-! ### A slice's function-level resets are complete (R224) -/

theorem sliceFlrDone_running {s : State} {p n : Nat} (part : p < 64) (running : ((s.part p).vdp n).flrRunning = true) :
    sliceFlrDoneEffect s p n = (s.modVdp p n (fun b => { b with flrRunning := false })).sliceLink p n := by
  simp [sliceFlrDoneEffect, part, running]

end Sys2Proof.Machine

open Sys2Proof Sys2Proof.Machine

/-- Settles O30: each command's meaning is its effect, and each effect is given by the lemma on its case; slot power and Link Disable
are conditional on what the VDP serves. -/
theorem partitionResets : Obligations.PartitionResets := by
  intro s u t hu
  subst hu
  have bus (p n b) : exec (.secondaryBusReset t p n b) s = act2 s t (fun x => secondaryBusResetEffect x p n b) := rfl
  have hot (p b) : exec (.hotResetReceived t p b) s = act2 s t (fun x => hotResetReceivedEffect x p b) := rfl
  have complete (p) : exec (.partResetStepsDone t p) s = act1 s t (fun x => partResetStepsDoneEffect x p) := rfl
  have causeEnd (p) : exec (.partResetCauseEnd t p) s = act1 s t (fun x => partResetCauseEndEffect x p) := rfl
  have notice (c gp) : exec (.resetNotice t c gp) s = act2 s t (fun x => resetNoticeEffect x c gp) := rfl
  have power (p n b) :
      exec (.powerControllerControl t p n b) s = act2 s t (fun x => if x.serves p n then x.slotPower p n b else x) := rfl
  have disable (p n b) : exec (.linkDisable t p n b) s = act2 s t (fun x => if x.serves p n then x.linkOff p n b else x) := rfl
  have flrDone (p n) : exec (.sliceFlrDone t p n) s = act1 s t (fun x => sliceFlrDoneEffect x p n) := rfl
  refine ⟨?_, ?_, ?_, ?_, ?_, ?_, ?_, ?_, ?_, ?_, ?_, ?_, ?_, ?_, ?_, ?_, ?_, ?_, ?_, ?_⟩
  · exact fun p n b part home still free present =>
      afterAll_act2 t _ (bus p _ b) (secondaryBusReset_vdp ⟨part, home, still, free⟩ present b)
  · exact fun p n b absent => afterAll_act2 t _ (bus p _ b) (secondaryBusReset_absent absent b)
  · exact fun p b v part home still free hv =>
      afterAll_act2 t _ (bus p none b) (secondaryBusReset_upstream ⟨part, home, still, free⟩ hv)
  · exact fun p n b barred => afterAll_act2 t _ (bus p n b) (secondaryBusReset_barred barred n b)
  · exact fun p g part upstream => afterAll_act2 t _ (hot p false) (hotResetReceived_hot part upstream)
  · exact fun p g part upstream => afterAll_act2 t _ (hot p true) (hotResetReceived_linkDown part upstream)
  · exact fun p b none_ => afterAll_act2 t _ (hot p b) (hotResetReceived_none none_ b)
  · exact fun p part resetting cause => after_act1 t _ (complete p) (partResetStepsDone_held part resetting cause)
  · exact fun p part resetting ended => after_act1 t _ (complete p) (partResetStepsDone_active part resetting ended)
  · exact fun p idle => after_act1 t _ (complete p) (partResetStepsDone_idle idle)
  · intro p part reached
    refine after_act1 t _ (causeEnd p) (partResetCauseEnd_ends part ?_)
    rintro ⟨c, home, other, fence⟩
    exact (reached c home).elim other (Bool.eq_false_iff.1 · fence)
  · exact fun p c home other fence => after_act1 t _ (causeEnd p) (partResetCauseEnd_fenced ⟨c, home, other, fence⟩)
  · exact fun c gp p free member other home => afterAll_act2 t _ (notice c gp) (resetNotice_home free member other home)
  · exact fun c gp free stranger => afterAll_act2 t _ (notice c gp) (resetNotice_stranger free stranger)
  · exact fun c gp held => afterAll_act2 t _ (notice c gp) (resetNotice_later held c gp)
  · exact fun p n b serves => afterAll_act2 t _ (power p n b) (if_pos serves)
  · exact fun p n b serves => afterAll_act2 t _ (disable p n b) (if_pos serves)
  · exact fun p n b unserved => afterAll_act2 t _ (power p n b) (if_neg (Bool.eq_false_iff.1 unserved))
  · exact fun p n b unserved => afterAll_act2 t _ (disable p n b) (if_neg (Bool.eq_false_iff.1 unserved))
  · exact fun p n part running => after_act1 t _ (flrDone p n) (sliceFlrDone_running part running)

end

section
/-! SUPPORT. What the CRC-64 of R124 tells: two messages that differ only in a burst of up to eight bytes have different checks. -/

namespace Sys2Proof.Machine

/-! ### One bit -/

/-- Two registers agree in their low `k` bits. -/
def AgreeBelow (k : Nat) (c d : BitVec 64) : Prop := ∀ i < k, c.getLsbD i = d.getLsbD i

theorem AgreeBelow.mono {j k : Nat} {c d : BitVec 64} (le : j ≤ k) (h : AgreeBelow k c d) : AgreeBelow j c d :=
  fun i hi => h i (by omega)

/-- The polynomial is added exactly where the bit shifted out differs from the message's. -/
theorem crc64Bit_eq (c : BitVec 64) (b : Bool) :
    crc64Bit c b = (c <<< 1) ^^^ (if c.msb != b then 0x42F0E1EBA9EA3693#64 else 0#64) := by
  simp only [crc64Bit]
  split <;> simp

/-- The polynomial's constant term is 1: the lowest bit says whether it was added. -/
theorem crc64Bit_low (c : BitVec 64) (b : Bool) : (crc64Bit c b).getLsbD 0 = (c.msb != b) := by
  rw [crc64Bit_eq]
  cases c.msb != b <;> simp

theorem crc64Bit_high (c : BitVec 64) (b : Bool) {i : Nat} (hi : i + 1 < 64) :
    (crc64Bit c b).getLsbD (i + 1) = (c.getLsbD i ^^ (if c.msb != b then 0x42F0E1EBA9EA3693#64 else 0#64).getLsbD (i + 1)) := by
  simp [crc64Bit_eq, hi, BitVec.getLsbD_eq_getElem (Nat.lt_of_succ_lt hi)]

/-- A step can be undone as far as the result is known: whether the polynomial was added, and all known bits but one of the register. -/
theorem crc64Bit_agree {k : Nat} {c d : BitVec 64} {b e : Bool} (hk : k + 1 ≤ 64) (h : AgreeBelow (k + 1) (crc64Bit c b) (crc64Bit d e)) :
    (c.msb != b) = (d.msb != e) ∧ AgreeBelow k c d := by
  have top : (c.msb != b) = (d.msb != e) := by
    rw [← crc64Bit_low, ← crc64Bit_low]
    exact h 0 (by omega)
  refine ⟨top, fun i hi => ?_⟩
  have next := h (i + 1) (by omega)
  rw [crc64Bit_high c b (by omega), crc64Bit_high d e (by omega), top] at next
  exact Bool.xor_left_inj.1 next

/-! ### Bits in a row -/

theorem crc64Bits_agree {k : Nat} {bs es : List Bool} {c d : BitVec 64} (len : bs.length = es.length) (hk : bs.length + k ≤ 64)
    (h : AgreeBelow (bs.length + k) (bs.foldl crc64Bit c) (es.foldl crc64Bit d)) : AgreeBelow k c d := by
  induction bs generalizing es c d k with
  | nil =>
    obtain rfl : es = [] := List.length_eq_zero_iff.1 len.symm
    simpa using h
  | cons b bs ih =>
    obtain _ | ⟨e, es⟩ := es
    · simp at len
    simp only [List.length_cons, Nat.add_right_cancel_iff, add_assoc, add_comm 1 k] at len hk h
    exact (crc64Bit_agree (by omega) (ih len hk h)).2

/-- From one register, up to 64 bits can be told from the result. -/
theorem crc64Bits_told {bs es : List Bool} {c : BitVec 64} (len : bs.length = es.length) (hk : bs.length ≤ 64)
    (h : AgreeBelow bs.length (bs.foldl crc64Bit c) (es.foldl crc64Bit c)) : bs = es := by
  induction bs generalizing es c with
  | nil => exact (List.length_eq_zero_iff.1 len.symm).symm
  | cons b bs ih =>
    obtain _ | ⟨e, es⟩ := es
    · simp at len
    simp only [List.length_cons, Nat.add_right_cancel_iff] at len hk h
    obtain ⟨top, -⟩ := crc64Bit_agree (k := 0) (by omega) (crc64Bits_agree len hk h)
    obtain rfl : b = e := by simpa using top
    rw [ih len (by omega) (h.mono (by omega))]

/-- The check moves on bit by bit, so that no register is reached from two. -/
theorem crc64Bit_injective (b : Bool) : Function.Injective (crc64Bit · b) := by
  intro c d h
  obtain ⟨top, low⟩ := crc64Bit_agree (k := 63) le_rfl (fun i _ => congrArg (·.getLsbD i) h)
  have msb : c.msb = d.msb := Bool.xor_left_inj.1 top
  rw [BitVec.msb_eq_getLsbD_last, BitVec.msb_eq_getLsbD_last] at msb
  refine BitVec.eq_of_getLsbD_eq fun i hi => ?_
  obtain below | rfl : i < 63 ∨ i = 63 := by omega
  · exact low i below
  · exact msb

theorem foldl_injective {α β : Type} (f : α → β → α) (h : ∀ b, Function.Injective (f · b)) (bs : List β) :
    Function.Injective (bs.foldl f) := by
  induction bs with
  | nil => exact Function.injective_id
  | cons b bs ih => exact ih.comp (h b)

/-! ### Bytes -/

theorem crc64Byte_eq (c : BitVec 64) (b : Byte) : crc64Byte c b = (byteBits b).foldl crc64Bit c := by
  rw [crc64Byte, byteBits, List.foldl_map]

theorem foldl_crc64Byte (bs : List Byte) (c : BitVec 64) : bs.foldl crc64Byte c = (bs.flatMap byteBits).foldl crc64Bit c := by
  simp only [List.foldl_flatMap, ← crc64Byte_eq]

theorem crc64Byte_injective (b : Byte) : Function.Injective (crc64Byte · b) := by
  simp only [crc64Byte_eq]
  exact foldl_injective crc64Bit crc64Bit_injective _

theorem byteBits_injective : Function.Injective byteBits := by
  intro b e h
  simp only [byteBits, List.map_inj_left] at h
  refine BitVec.eq_of_getLsbD_eq fun i hi => h i ?_
  interval_cases i <;> simp

@[simp] theorem length_byteBits (b : Byte) : (byteBits b).length = 8 := by
  simp [byteBits]

theorem length_flatMap_byteBits (bs : List Byte) : (bs.flatMap byteBits).length = 8 * bs.length := by
  simp [List.length_flatMap, mul_comm]

theorem flatMap_byteBits_injective : Function.Injective (List.flatMap byteBits) := by
  intro bs es h
  induction bs generalizing es with
  | nil =>
    cases es with
    | nil => rfl
    | cons e es => simp [byteBits] at h
  | cons b bs ih =>
    cases es with
    | nil => simp [byteBits] at h
    | cons e es =>
      obtain ⟨first, rest⟩ := List.append_inj h (by simp)
      rw [byteBits_injective first, ih rest]

/-- Two messages that differ only in a burst of up to eight bytes have different checks. -/
theorem crc64_burst {l r x y : List Byte} (len : x.length = y.length) (short : x.length ≤ 8)
    (h : crc64 (l ++ x ++ r) = crc64 (l ++ y ++ r)) : x = y := by
  simp only [crc64, List.foldl_append, BitVec.not_inj] at h
  have burst := foldl_injective crc64Byte crc64Byte_injective r h
  rw [foldl_crc64Byte x, foldl_crc64Byte y] at burst
  apply flatMap_byteBits_injective
  refine crc64Bits_told ?_ ?_ (fun i _ => congrArg (·.getLsbD i) burst)
  · simp only [length_flatMap_byteBits, len]
  · simp only [length_flatMap_byteBits]; omega

/-! ### Sequences -/

theorem beBytes_two_injective : Function.Injective (fun a : Seq16 => beBytes 2 a.toNat) := by
  intro a b h
  simp [beBytes, ← BitVec.toNat_inj] at h
  bv_omega

theorem fuCheck_injective (fu : Fu) : Function.Injective (fuCheck · fu) := by
  intro a b h
  simp only [fuCheck, checkOf, fuAad, List.append_assoc] at h
  exact beBytes_two_injective (crc64_burst (l := []) (by simp [beBytes]) (by simp [beBytes]) h)

end Sys2Proof.Machine

open Sys2Proof Sys2Proof.Machine

/-- Settles O15: the check of the nine digits is computed; a sequence and a single byte are bursts of at most eight bytes. -/
theorem checkTellsSequences : Obligations.CheckTellsSequences := by
  refine ⟨by decide +kernel, fun a b fu h => fuCheck_injective fu h, fun l r x y h => ?_⟩
  have same : [x] = [y] := crc64_burst (l := l) (r := r) rfl (by simp) (by simpa using h)
  simpa using same

end

section
/-! SUPPORT. The effects of a trunk's training commands, case by case (R102 to R108, R116). -/

namespace Sys2Proof.Machine

/-- Two changes that agree on the trunk as it stands change it alike. -/
theorem State.modTrunk_congr {s : State} {q : Nat} {f g : Trunk → Trunk} (h : f (s.trunk q) = g (s.trunk q)) :
    s.modTrunk q f = s.modTrunk q g := by
  have same : s.trunks.modify q f = s.trunks.modify q g := by
    refine List.ext_getElem? fun i => ?_
    rw [List.getElem?_modify, List.getElem?_modify]
    split
    · next here =>
      subst here
      rw [State.trunk, List.getD_eq_getElem?_getD] at h
      cases at_ : s.trunks[q]? <;> simp_all
    · rfl
  rw [State.modTrunk, State.modTrunk, same]

/-! ### DETECT and ALIGN (R102, R116) -/

theorem trunkSignalDetect_starts {s : State} {q : Nat} (waits : (s.trunk q).tstate = .detect ∨ (s.trunk q).tstate = .disabled)
    (may : s.trunkMay q = true) :
    trunkSignalDetectEffect s q = s.modTrunk q (fun k =>
      { k with tstate := .align, rate := 1, train := { Training.reset with since := s.now, failed := k.train.failed } }) := by
  simp [trunkSignalDetectEffect, waits, may]

theorem trunkSignalDetect_barred {s : State} {q : Nat} (barred : s.trunkMay q = false) : trunkSignalDetectEffect s q = s := by
  simp [trunkSignalDetectEffect, barred]

theorem trunkAlignComplete_taken {s : State} {q : Nat} {lanes : List (List Byte × Nat)} {m : BitVec 8} {p : BitVec 4}
    (words : alignLanes lanes = some (m, p)) (align : (s.trunk q).tstate = .align) :
    trunkAlignCompleteEffect s q lanes = (s.modTrain q (fun x => { x with laneMap := m, polarity := p })).enterNegotiate q := by
  simp [trunkAlignCompleteEffect, words, align]

theorem trunkAlignComplete_other {s : State} {q : Nat} {lanes : List (List Byte × Nat)} (words : alignLanes lanes = none) :
    trunkAlignCompleteEffect s q lanes = s := by
  simp [trunkAlignCompleteEffect, words]

/-! ### Training frames (R103) -/

theorem State.frameIn_discarded {type : Nat} {frame : List Byte} (bad : frameContent type frame = none) (s : State)
    (f : State → Nat → List Byte → State) : s.frameIn type frame f = s := by
  simp [State.frameIn, bad]

theorem State.frameIn_taken {type lane : Nat} {frame c : List Byte} (content : frameContent type frame = some (lane, c)) (s : State)
    (f : State → Nat → List Byte → State) : s.frameIn type frame f = f s lane c := by
  simp [State.frameIn, content]

/-- A command that brings a frame with a bad check changes nothing. -/
theorem after_badFrame {i : Instr} {s : State} {t type : Nat} {frame : List Byte} {f : State → Nat → List Byte → State}
    (h : exec i s = act1 s t (fun x => x.frameIn type frame f)) (bad : frameContent type frame = none) : After i s (s.tick t) :=
  after_act1 t _ h (State.frameIn_discarded bad _ _)

/-- A command that brings a good frame does what its content says. -/
theorem after_frame {i : Instr} {s u : State} {t type lane : Nat} {frame c : List Byte} {f : State → Nat → List Byte → State}
    (h : exec i s = act1 s t (fun x => x.frameIn type frame f)) (content : frameContent type frame = some (lane, c))
    (e : f (s.tick t) lane c = u) : After i s u :=
  after_act1 t _ h ((State.frameIn_taken content _ _).trans e)

/-! ### CAPS (R104, R106, R107) -/

/-- What a CAPS frame leaves on its trunk: the far identity. -/
def State.farKept (s : State) (q : Nat) (c : List Byte) : State :=
  s.modTrunk q (fun k =>
    { k with peer := some ((capsOf c).crown % 1024, (capsOf c).trunk % 16),
             train := { k.train with farCaps := some (capsOf c), farRaw := c } })

theorem capsFrame_held {s : State} {q : Nat} (held : (s.trunk q).tstate = .held) (c : List Byte) :
    capsFrameEffect s q c = s.farKept q c := by
  simp [capsFrameEffect, held, State.farKept]

/-- In NEGOTIATE a cause of R107 holds the trunk. -/
theorem capsFrame_holds {s : State} {q : Nat} {c : List Byte} (negotiate : (s.trunk q).tstate = .negotiate)
    (cause : (s.farKept q c).holdCause q ≠ 0) : capsFrameEffect s q c = (s.farKept q c).enterHeld q ((s.farKept q c).holdCause q) := by
  rw [State.farKept] at cause ⊢
  simp [capsFrameEffect, negotiate, cause]

/-- In NEGOTIATE without a cause the first CAPS frame starts the key exchange. -/
theorem capsFrame_goesOn {s : State} {q : Nat} {c : List Byte} (negotiate : (s.trunk q).tstate = .negotiate)
    (clear : (s.farKept q c).holdCause q = 0) :
    capsFrameEffect s q c = (if (s.trunk q).train.farCaps.isNone then (s.farKept q c).startKeyex q else s.farKept q c).trainOn q := by
  rw [State.farKept] at clear ⊢
  simp [capsFrameEffect, negotiate, clear]

/-! ### KEYEX (R105) -/

theorem keyexFrame_tooLong {s : State} {q : Nat} {c : List Byte} (negotiate : (s.trunk q).tstate = .negotiate)
    (caps : (s.trunk q).train.farCaps.isSome = true) (long : keyexLimit (beField c 0 0) < beField c 2 3) :
    keyexFrameEffect s q c = s.trainFailed q := by
  simp [keyexFrameEffect, negotiate, caps, long]

/-- The first segment, within its message and within the limit of a frame, is taken. -/
theorem keyexFrame_taken {s : State} {q : Nat} {c : List Byte} (negotiate : (s.trunk q).tstate = .negotiate)
    (caps : (s.trunk q).train.farCaps.isSome = true) (first : (s.trunk q).train.keyex = [])
    (total : beField c 2 3 ≤ keyexLimit (beField c 0 0)) (some_ : 1 ≤ beField c 6 7) (fits : beField c 6 7 ≤ 92)
    (within : beField c 4 5 + beField c 6 7 ≤ beField c 2 3) :
    keyexFrameEffect s q c =
      s.keyexSegment q (beField c 0 0) (beField c 2 3) (beField c 4 5) ((c.drop 8).take (beField c 6 7)) := by
  have length : beField c 6 7 ≠ 0 := by omega
  simp [keyexFrameEffect, negotiate, caps, first, segByte, Nat.not_lt.2 total, Nat.not_lt.2 within, Nat.not_lt.2 fits, length]

/-- A segment that ends before byte 96 leaves a message of 97 bytes incomplete. -/
theorem segWhole_short {off : Nat} {seg : List Byte} (short : off + seg.length < 97) : segWhole [(off, seg)] 97 = false := by
  have missing : segByte [(off, seg)] 96 = none := by
    have beyond : ¬ 96 < off + seg.length := by omega
    simp [segByte, beyond]
  rw [segWhole, List.all_eq_false]
  exact ⟨96, by simp, by simp [missing]⟩

/-- A first segment of message 0x01 that does not complete it is stored and no more. -/
theorem State.keyexSegment_stored {s : State} {q off : Nat} {seg : List Byte} (first : (s.trunk q).train.keyex = [])
    (trunk : q < s.trunks.length) (short : off + seg.length < 97) :
    s.keyexSegment q 1 97 off seg = s.modTrain q (fun x => { x with keyex := [(1, 97, [(off, seg)])] }) := by
  have stored : s.modTrain q (fun x => { x with keyex := x.keyex.filter (·.1 ≠ 1) ++ [(1, 97, [(off, seg)])] }) =
      s.modTrain q (fun x => { x with keyex := [(1, 97, [(off, seg)])] }) :=
    State.modTrunk_congr (by simp [first])
  have incomplete : (((s.modTrain q (fun x => { x with keyex := [(1, 97, [(off, seg)])] })).trunk q).train).whole 1 = false := by
    rw [State.modTrain, State.trunk_modTrunk _ _ _ trunk]
    simp [Training.whole, segWhole_short short]
  simp only [State.keyexSegment, first, List.find?_nil, Option.getD_none, List.nil_append, stored, incomplete]
  simp [State.keyexCheck, incomplete]

/-! ### DELAY and STEP (R104, R106) -/

/-- The states in which a trunk measures its delay and takes STEP frames. -/
def TState.steps (st : TState) : Prop := st = .negotiate ∨ st = .step106 ∨ st = .step212

theorem delayFrame_request {s : State} {q : Nat} {d : DelayContent} (steps : (s.trunk q).tstate.steps) (request : d.role = 1)
    (lane at_ : Nat) :
    delayFrameEffect s q lane d at_ =
      s.sendFrame q 3 ([2, 0] ++ beBytes 2 d.exchange ++ beBytes 8 d.t1 ++ beBytes 8 at_ ++ beBytes 8 (256 * s.now)) := by
  rw [TState.steps] at steps
  simp [delayFrameEffect, steps, request, or_assoc]

/-- The answer on lane 0 to the latest request sets TP_DELAY. -/
theorem delayFrame_answer {s v : State} {q : Nat} {d : DelayContent} {at_ : Nat} (steps : (s.trunk q).tstate.steps) (answer : d.role = 2)
    (latest : d.exchange = (s.trunk q).train.exchange)
    (hv : v = s.modTrunk q (fun k =>
      { k with delayPs := oneWayPs d at_, train := { k.train with delayDone := true, exchange := (k.train.exchange + 1) % 65536 } })) :
    delayFrameEffect s q 0 d at_ = (v.sendFrame q 3 (v.delayRequest q)).trainOn q := by
  rw [TState.steps] at steps
  subst hv
  simp [delayFrameEffect, steps, answer, latest, or_assoc]

theorem stepFrame_ready {s : State} {q : Nat} (steps : (s.trunk q).tstate.steps) (target count : Nat) :
    stepFrameEffect s q target 1 count = (s.modTrain q (fun x => { x with farTarget := target })).stepGo q := by
  rw [TState.steps] at steps
  simp [stepFrameEffect, steps, or_assoc]

/-- COUNT 0 of this end's target changes the receive rate. -/
theorem stepFrame_last {s : State} {q : Nat} (steps : (s.trunk q).tstate.steps) :
    stepFrameEffect s q (s.stepTarget q) 2 0 =
      (s.modTrain q (fun x => { x with farTarget := s.stepTarget q, countSeen := true, rxRate := s.stepTarget q })).stepGo q := by
  rw [TState.steps] at steps
  simp [stepFrameEffect, steps, or_assoc]

/-! ### EQ (R104) -/

/-- The step states, in which the trunk equalizes. -/
def TState.equalizes (st : TState) : Prop := st = .step106 ∨ st = .step212

/-- The request of this end that an EQ frame answers. -/
def Training.answered (x : Training) (e : EqContent) : Option (Nat × Nat × Nat) :=
  x.eqReq.find? (fun r => r.1 = e.lane && r.2.1 = e.reqNo)

section
variable {s : State} {q : Nat} {e : EqContent} (step : (s.trunk q).tstate.equalizes) (lane : e.lane < 4)
include step lane

theorem eqFrame_preset (kind : e.kind = 1) (preset : e.preset < 8) :
    eqFrameEffect s q e = (s.modTrunk q (fun k => { k with txCoeff := k.txCoeff.set e.lane (presetCoeff e.preset) })).sendFrame q 5
      (eqContent e.lane 3 0 e.reqNo) := by
  rw [TState.equalizes] at step
  simp [eqFrameEffect, step, lane, kind, preset]

theorem eqFrame_coefficients (kind : e.kind = 2) (legal : coeffLegal e.coeff = true) :
    eqFrameEffect s q e = (s.modTrunk q (fun k => { k with txCoeff := k.txCoeff.set e.lane e.coeff })).sendFrame q 5
      (eqContent e.lane 3 0 e.reqNo) := by
  rw [TState.equalizes] at step
  simp [eqFrameEffect, step, lane, kind, legal]

theorem eqFrame_rejected (bad : (e.kind = 1 ∧ 8 ≤ e.preset) ∨ (e.kind = 2 ∧ coeffLegal e.coeff = false)) :
    eqFrameEffect s q e = s.sendFrame q 5 (eqContent e.lane 4 0 e.reqNo) := by
  rw [TState.equalizes] at step
  rcases bad with ⟨kind, preset⟩ | ⟨kind, illegal⟩
  · simp [eqFrameEffect, step, lane, kind, Nat.not_lt.2 preset]
  · simp [eqFrameEffect, step, lane, kind, illegal]

theorem eqFrame_accepted {r : Nat × Nat × Nat} (kind : e.kind = 3) (mine : (s.trunk q).train.answered e = some r) :
    eqFrameEffect s q e = (s.eqLaneDone q e.lane).trainOn q := by
  rw [TState.equalizes] at step
  rw [Training.answered] at mine
  simp only [eqFrameEffect, kind, mine]
  simp [step, lane]

theorem eqFrame_refused {r : Nat × Nat × Nat} (kind : e.kind = 4) (mine : (s.trunk q).train.answered e = some r) :
    eqFrameEffect s q e = s.eqAsk q e.lane ((r.2.2 + 1) % 8) := by
  rw [TState.equalizes] at step
  rw [Training.answered] at mine
  simp only [eqFrameEffect, kind, mine]
  simp [step, lane]

theorem eqFrame_farDone (kind : e.kind = 5) :
    eqFrameEffect s q e = (s.modTrain q (fun x => { x with eqFar := insertNew x.eqFar e.lane })).trainOn q := by
  rw [TState.equalizes] at step
  simp [eqFrameEffect, step, lane, kind]

end

/-! ### HOLD and HELD (R107) -/

theorem holdFrame_negotiate {s v : State} {q : Nat} (negotiate : (s.trunk q).tstate = .negotiate)
    (hv : v = s.modTrain q (fun x =>
      { x with lastHold := some s.now, farCaps := none, farRaw := [], keyex := [], keyexOk := false, readySent := false, farTarget := 0,
               countSent := false, countSeen := false })) :
    holdFrameEffect s q = v.sendFrame q 1 (v.capsContent q) := by
  subst hv
  simp [holdFrameEffect, negotiate]

theorem holdFramesCeased_restarts {s : State} {q t0 : Nat} (last : (s.trunk q).train.lastHold = some t0)
    (negotiate : (s.trunk q).tstate = .negotiate) (silent : s.after t0 2000000 = true) :
    holdFramesCeasedEffect s q = s.modTrain q (fun x => { x with lastHold := none, since := s.now }) := by
  simp [holdFramesCeasedEffect, last, negotiate, silent]

theorem heldReevaluate_cleared {s : State} {q : Nat} (held : (s.trunk q).tstate = .held) (clear : s.holdCause q = 0) :
    heldReevaluateEffect s q = s.enterNegotiate q := by
  simp [heldReevaluateEffect, held, clear]

theorem heldReevaluate_stands {s : State} {q : Nat} (held : (s.trunk q).tstate = .held) (cause : s.holdCause q ≠ 0) :
    heldReevaluateEffect s q = (s.modTrain q (fun x => { x with heldCause := s.holdCause q })).sendHold q (s.holdCause q) := by
  simp [heldReevaluateEffect, held, cause]

/-! ### The limits of the training states (R102, R108) -/

theorem trunkStateTimeout_early {s : State} {q lim : Nat} (limit : trainLimit (s.trunk q).tstate = some lim)
    (early : s.after (s.trunk q).train.since lim = false) : trunkStateTimeoutEffect s q = s := by
  simp [trunkStateTimeoutEffect, limit, early]

/-- Outside the step states an expired limit fails the training, in NEGOTIATE unless HOLD frames come. -/
theorem trunkStateTimeout_fails {s : State} {q lim : Nat} (limit : trainLimit (s.trunk q).tstate = some lim)
    (expired : s.after (s.trunk q).train.since lim = true) (noStep : ¬ (s.trunk q).tstate.equalizes)
    (noHold : (s.trunk q).tstate = .negotiate → (s.trunk q).train.lastHold = none) : trunkStateTimeoutEffect s q = s.trainFailed q := by
  rw [TState.equalizes] at noStep
  have going : ¬ ((s.trunk q).tstate = .negotiate ∧ (s.trunk q).train.lastHold.isSome = true) := by
    rintro ⟨negotiate, hold⟩
    simp [noHold negotiate] at hold
  simp [trunkStateTimeoutEffect, limit, expired, noStep, going]

section
variable {s : State} {q : Nat} (step : (s.trunk q).tstate.equalizes) (expired : s.after (s.trunk q).train.since 20000000 = true)
include step expired

theorem trunkStateTimeout_retries (fresh : (s.trunk q).train.retried = false) :
    trunkStateTimeoutEffect s q =
      (s.modTrain q (fun x =>
        { x with retried := true, since := s.now, readySent := false, farTarget := 0, countSent := false,
                 countSeen := false })).eqBegin q := by
  rcases step with step | step <;> simp [trunkStateTimeoutEffect, trainLimit, step, expired, fresh]

theorem trunkStateTimeout_settles (again : (s.trunk q).train.retried = true) (unsettled : (s.trunk q).train.settled = none) :
    trunkStateTimeoutEffect s q =
      ((s.modTrain q (fun x =>
        { x with settled := some (if (s.trunk q).tstate = .step106 then 1 else 2), since := s.now, readySent := false, farTarget := 0,
                 countSent := false, countSeen := false })).noteFree (srcTwig (gOfTrunk q) 3) 1).sayReady q := by
  rcases step with step | step <;> simp [trunkStateTimeoutEffect, trainLimit, step, expired, again, unsettled]

theorem trunkStateTimeout_givesUp (again : (s.trunk q).train.retried = true) (settled : (s.trunk q).train.settled.isSome = true) :
    trunkStateTimeoutEffect s q = s.trainFailed q := by
  have some_ : (s.trunk q).train.settled ≠ none := Option.isSome_iff_ne_none.1 settled
  rcases step with step | step <;> simp [trunkStateTimeoutEffect, trainLimit, step, expired, again, some_]

end

end Sys2Proof.Machine

open Sys2Proof Sys2Proof.Machine

/-- Settles O25: each command's meaning is its effect, on the content of its frame where it brings one, and each effect is given by the
lemma on its case. -/
theorem trunkTrainingResults : Obligations.TrunkTrainingResults := by
  intro s u t hu
  subst hu
  have signal (q) : exec (.trunkSignalDetect t q) s = act1 s t (fun x => trunkSignalDetectEffect x q) := rfl
  have align (q lanes) : exec (.trunkAlignComplete t q lanes) s = act1 s t (fun x => trunkAlignCompleteEffect x q lanes) := rfl
  have caps (q frame) : exec (.capsFrame t q frame) s = act1 s t (fun x => x.frameIn 1 frame (fun x _ c => capsFrameEffect x q c)) := rfl
  have keyex (q frame) : exec (.keyexFrame t q frame) s = act1 s t (fun x => x.frameIn 2 frame (fun x _ c => keyexFrameEffect x q c)) := rfl
  have delay (q frame at_) : exec (.delayFrame t q frame at_) s =
      act1 s t (fun x => x.frameIn 3 frame (fun x lane c => delayFrameEffect x q lane (delayOf c) at_)) := rfl
  have step (q frame) : exec (.stepFrame t q frame) s =
      act1 s t (fun x => x.frameIn 4 frame (fun x _ c => stepFrameEffect x q (beField c 0 0) (beField c 1 1) (beField c 2 3))) := rfl
  have equalize (q frame) : exec (.eqFrame t q frame) s =
      act1 s t (fun x => x.frameIn 5 frame (fun x _ c => eqFrameEffect x q (eqOf c))) := rfl
  have hold (q frame) : exec (.holdFrame t q frame) s = act1 s t (fun x => x.frameIn 6 frame (fun x _ _ => holdFrameEffect x q)) := rfl
  have ceased (q) : exec (.holdFramesCeased t q) s = act1 s t (fun x => holdFramesCeasedEffect x q) := rfl
  have reevaluate (q) : exec (.heldReevaluate t q) s = act1 s t (fun x => heldReevaluateEffect x q) := rfl
  have timeout (q) : exec (.trunkStateTimeout t q) s = act2 s t (fun x => trunkStateTimeoutEffect x q) := rfl
  refine ⟨?_, ?_, ?_, ?_, ?_, ?_, ?_, ?_, ?_, ?_, ?_, ?_, ?_, ?_, ?_, ?_, ?_, ?_, ?_, ?_, ?_, ?_, ?_, ?_, ?_, ?_, ?_, ?_, ?_, ?_, ?_, ?_⟩
  · exact fun q waits may => after_act1 t _ (signal q) (trunkSignalDetect_starts waits may)
  · exact fun q barred => after_act1 t _ (signal q) (trunkSignalDetect_barred barred)
  · exact fun q lanes m p words waits => after_act1 t _ (align q lanes) (trunkAlignComplete_taken words waits)
  · exact fun q lanes words => after_act1 t _ (align q lanes) (trunkAlignComplete_other words)
  · exact fun q frame at_ bad1 bad2 bad3 bad4 bad5 bad6 =>
      ⟨after_badFrame (caps q frame) bad1, after_badFrame (keyex q frame) bad2,
        after_badFrame (delay q frame at_) bad3, after_badFrame (step q frame) bad4,
        after_badFrame (equalize q frame) bad5, after_badFrame (hold q frame) bad6⟩
  · exact fun q frame lane c content held => after_frame (caps q frame) content (capsFrame_held held c)
  · intro q frame lane c v content negotiate hv cause
    subst hv
    exact after_frame (caps q frame) content (capsFrame_holds negotiate cause)
  · intro q frame lane c v content negotiate hv clear
    subst hv
    exact after_frame (caps q frame) content (capsFrame_goesOn negotiate clear)
  · exact fun q frame lane c content negotiate far long => after_frame (keyex q frame) content (keyexFrame_tooLong negotiate far long)
  · exact fun q frame lane c content negotiate far first total some_ fits within =>
      after_frame (keyex q frame) content (keyexFrame_taken negotiate far first total some_ fits within)
  · exact fun q off seg first trunk _ short => State.keyexSegment_stored first trunk short
  · exact fun q frame at_ lane c content steps request =>
      after_frame (delay q frame at_) content (delayFrame_request steps request lane at_)
  · exact fun q frame at_ c v content steps answer latest hv =>
      after_frame (delay q frame at_) content (delayFrame_answer steps answer latest hv)
  · intro q frame lane c content steps phase
    refine after_frame (step q frame) content ?_
    rw [phase]
    exact stepFrame_ready steps _ _
  · intro q frame lane c content steps phase count target
    refine after_frame (step q frame) content ?_
    rw [phase, count, target]
    exact stepFrame_last steps
  · exact fun q frame lane c content st near kind preset => after_frame (equalize q frame) content (eqFrame_preset st near kind preset)
  · exact fun q frame lane c content st near kind legal => after_frame (equalize q frame) content (eqFrame_coefficients st near kind legal)
  · exact fun q frame lane c content st near bad => after_frame (equalize q frame) content (eqFrame_rejected st near bad)
  · exact fun q frame lane c r content st near kind mine => after_frame (equalize q frame) content (eqFrame_accepted st near kind mine)
  · exact fun q frame lane c r content st near kind mine => after_frame (equalize q frame) content (eqFrame_refused st near kind mine)
  · exact fun q frame lane c content st near kind => after_frame (equalize q frame) content (eqFrame_farDone st near kind)
  · exact fun q frame lane c v content negotiate hv => after_frame (hold q frame) content (holdFrame_negotiate negotiate hv)
  · exact fun q t0 last negotiate silent => after_act1 t _ (ceased q) (holdFramesCeased_restarts last negotiate silent)
  · exact fun q held clear => after_act1 t _ (reevaluate q) (heldReevaluate_cleared held clear)
  · exact fun q held cause => after_act1 t _ (reevaluate q) (heldReevaluate_stands held cause)
  · exact fun q st expired => afterAll_act2 t _ (timeout q)
      (trunkStateTimeout_fails (by rw [st]; rfl) expired (by rw [st]; nofun) (by rw [st]; nofun))
  · exact fun q st expired noHold => afterAll_act2 t _ (timeout q)
      (trunkStateTimeout_fails (by rw [st]; rfl) expired (by rw [st]; nofun) (fun _ => noHold))
  · exact fun q st expired => afterAll_act2 t _ (timeout q)
      (trunkStateTimeout_fails (by rw [st]; rfl) expired (by rw [st]; nofun) (by rw [st]; nofun))
  · exact fun q lim limit early => afterAll_act2 t _ (timeout q) (trunkStateTimeout_early limit early)
  · exact fun q st expired fresh => afterAll_act2 t _ (timeout q) (trunkStateTimeout_retries st expired fresh)
  · exact fun q st expired again unsettled => afterAll_act2 t _ (timeout q) (trunkStateTimeout_settles st expired again unsettled)
  · exact fun q st expired again settled => afterAll_act2 t _ (timeout q) (trunkStateTimeout_givesUp st expired again settled)

end

section
/-! SUPPORT. The effects of a link epoch's start, of flow units, of NAK and replay and of retrains, case by case (R112, R117, R125 to R133,
R142, R148, R171). -/

namespace Sys2Proof.Machine

/-! ### LINK_INIT ends (R133, R148) -/

/-- What the ends bring to an epoch of a trunk whose own buffer stands as `s` has it. -/
def State.epochStart (s : State) (q : Nat) (resume : Bool) (rsv : List (BitVec 8)) (shared : BitVec 13) (first : Seq16) : EpochStart :=
  { resume := resume, rsv := rsv, shared := shared, first := first, ctls := (s.trunk q).tx.heldControls,
    again := ((s.trunk q).tx.buf.filterMap (·.desc)).foldl insertNew [] }

section
variable {s : State} {q : Nat} (init : (s.trunk q).tstate = .linkInit) (resume : Bool) (rxLast : Seq16) (rsv : List (BitVec 8))
  (shared : BitVec 13)
include init

/-- This end resumes: what the far end has received is released, and the rest goes first. -/
theorem linkInitExchange_resumes (mine : (s.trunk q).tx.handedOver = false) :
    linkInitExchangeEffect s q resume rxLast rsv shared =
      (((s.releaseTo q rxLast).rewind q).newEpoch q
        ((s.releaseTo q rxLast).epochStart q resume rsv shared (rxLast + 1))).epochUp q := by
  simp [linkInitExchangeEffect, init, mine, State.epochStart]

/-- What has been handed over starts again from sequence 0. -/
theorem linkInitExchange_afresh (handed : (s.trunk q).tx.handedOver = true) :
    linkInitExchangeEffect s q resume rxLast rsv shared =
      ((s.rewind q).newEpoch q (s.epochStart q resume rsv shared 0)).epochUp q := by
  simp [linkInitExchangeEffect, init, handed, State.epochStart]

end

/-! ### Flow units (R112, R117, R125 to R127) -/

theorem fuReceive_down {s : State} {q : Nat} (down : s.trunkUp q = false) (fu : Fu) (errs : Nat) : fuReceiveEffect s q fu errs = s := by
  simp [fuReceiveEffect, down]

section
variable {s : State} {q errs : Nat} {fu : Fu} (trunk : q < 16) (up : s.trunkUp q = true)
include trunk up

/-- The eighth uncorrectable codeword in a row is link loss. -/
theorem fuReceive_linkLoss {v : State} (hv : v = (s.adaptTaps q).takeCodeword q errs) (run : 8 ≤ (v.trunk q).lineRx.badRun) :
    fuReceiveEffect s q fu errs = v.trunkRetrain q false := by
  subst hv
  simp [fuReceiveEffect, Nat.not_le.2 trunk, up, run]

/-- Where no injection spoils its check, a flow unit arrives as the line brings it. -/
theorem fuReceive_arrives {v : State} (hv : v = (s.adaptTaps q).takeCodeword q errs) (run : (v.trunk q).lineRx.badRun < 8)
    (sound : fu.hdr.type = 0 ∨ v.injectItem [4] 0 (gOfTrunk q) = (v, none)) :
    fuReceiveEffect s q fu errs = (v.fuArrive q fu ((s.trunk q).lineRx.fails errs)).answerQueries q := by
  subst hv
  have item : (if fu.hdr.type = 0 then ((s.adaptTaps q).takeCodeword q errs, none)
      else ((s.adaptTaps q).takeCodeword q errs).injectItem [4] 0 (gOfTrunk q)) = ((s.adaptTaps q).takeCodeword q errs, none) := by
    rcases sound with idle | spared
    · exact if_pos idle
    · rw [spared, ite_self]
  simp only [fuReceiveEffect, item]
  simp [Nat.not_le.2 trunk, up, Nat.not_le.2 run]

end

@[simp] theorem State.fuArrive_failed (s : State) (q : Nat) (fu : Fu) : s.fuArrive q fu true = s.fuCheckFail q := rfl

theorem State.fuArrive_expected {s : State} {q : Nat} {fu : Fu} (check : fu.check = fuCheck (s.trunk q).rx.expect fu) :
    s.fuArrive q fu false = s.fuAtE q fu := by
  simp [State.fuArrive, ← check]

theorem State.fuArrive_duplicate {s : State} {q : Nat} {fu : Fu} {seq : Seq16} (other : fu.check ≠ fuCheck (s.trunk q).rx.expect fu)
    (earlier : dupSeq (s.trunk q).rx.expect fu = some seq) : s.fuArrive q fu false = s.fuDuplicate q seq fu := by
  simp [State.fuArrive, other, earlier]

theorem State.fuArrive_unknown {s : State} {q : Nat} {fu : Fu} (other : fu.check ≠ fuCheck (s.trunk q).rx.expect fu)
    (none_ : dupSeq (s.trunk q).rx.expect fu = none) : s.fuArrive q fu false = s.fuCheckFail q := by
  simp [State.fuArrive, other, none_]

/-! ### NAK and replay (R126, R129) -/

@[simp] theorem State.countTwig_trunk (s : State) (g ev n q : Nat) : (s.countTwig g ev n).trunk q = s.trunk q := by
  rw [State.trunk, State.countTwig_trunks, State.trunk]

theorem State.fuCheckFail_counted {s : State} {q : Nat} (pending : (s.trunk q).rx.nakPending = true) :
    s.fuCheckFail q = s.countTwig (gOfTrunk q) 0x186 1 := by
  simp [State.fuCheckFail, pending]

theorem State.fuCheckFail_nak {s : State} {q : Nat} (none_ : (s.trunk q).rx.nakPending = false) :
    s.fuCheckFail q =
      ((s.countTwig (gOfTrunk q) 0x186 1).modRx q (fun x => { x with nakPending := true, nakSince := s.now })).nakEvent q := by
  simp [State.fuCheckFail, none_]

theorem nakRepeat_due {s : State} {q : Nat} (up : s.trunkUp q = true) (pending : (s.trunk q).rx.nakPending = true)
    (waited : s.after (s.trunk q).rx.nakSince (s.nakRepeatNs q) = true) :
    nakRepeatEffect s q = (s.modRx q (fun x => { x with nakSince := s.now })).nakEvent q := by
  simp [nakRepeatEffect, up, pending, waited]

theorem replayTimer_due {s : State} {q : Nat} (up : s.trunkUp q = true) (unacked : (s.trunk q).tx.nextTx ≠ (s.trunk q).tx.oldest)
    (still : s.after (s.trunk q).tx.lastAdvance (2 * s.nakRepeatNs q) = true) :
    replayTimerEffect s q = s.startReplay q (s.trunk q).tx.oldest := by
  simp [replayTimerEffect, up, unacked, still]

/-! ### Retrains (R117, R142) -/

theorem trunkLinkLoss_up {s : State} {q : Nat} (up : s.trunkUp q = true) : trunkLinkLossEffect s q = s.trunkRetrain q false := if_pos up

theorem tpRetrain_installer {s : State} {q : Nat} (trunk : q < 16) (k : Nat) :
    tpRetrainEffect s (.installer k) q = s.trunkRetrain q true := by
  simp [tpRetrainEffect, Role.isInstaller, trunk]

theorem tpRetrain_operator (s : State) (p q : Nat) : tpRetrainEffect s (.operator p) q = s := by
  simp [tpRetrainEffect, Role.isInstaller]

/-! ### Receive slots and what waits for admission (R132, R133, R171) -/

section
variable {s : State} {q cls : Nat} (trunk : q < 16) (class_ : cls < 8)
include trunk class_

theorem rxSlotFreed_reserve (held : (s.trunk q).rx.freeable cls false ≠ 0) :
    rxSlotFreedEffect s q cls false =
      s.modRx q (fun x => { x with freeRsv := x.freeRsv.modify cls (· + 1), grantedRsv := x.grantedRsv.modify cls (· + 1) }) := by
  simp [rxSlotFreedEffect, Nat.not_le.2 trunk, Nat.not_le.2 class_, held]

theorem rxSlotFreed_shared (held : (s.trunk q).rx.freeable cls true ≠ 0) :
    rxSlotFreedEffect s q cls true =
      s.modRx q (fun x => { x with freeShared := x.freeShared + 1, grantedShared := x.grantedShared + 1 }) := by
  simp [rxSlotFreedEffect, Nat.not_le.2 trunk, Nat.not_le.2 class_, held]

end

theorem isT_gOfTrunk (q : Nat) : isT (gOfTrunk q) = true := by
  rw [isT, gOfTrunk, decide_eq_true_eq]
  omega

theorem trunkOfG_gOfTrunk (q : Nat) : trunkOfG (gOfTrunk q) = q := by
  rw [trunkOfG, gOfTrunk]
  omega

theorem retry_trunk {s : State} {q : Nat} (trunk : q < 16) (kind : Nat) : retryEffect s (gOfTrunk q) kind = s.retryPool q kind := by
  have twig : gOfTrunk q < 160 := by rw [gOfTrunk]; omega
  simp [retryEffect, isT_gOfTrunk, trunkOfG_gOfTrunk, twig]

theorem retry_other {g : Nat} (other : isT g = false) (s : State) (kind : Nat) : retryEffect s g kind = admissionRetryEffect s g kind := by
  simp [retryEffect, other]

end Sys2Proof.Machine

open Sys2Proof Sys2Proof.Machine

/-- Settles O26: each command's meaning is its effect, and each effect is given by the lemma on its case; a new epoch's registers are
read off its definition. -/
theorem trunkEpochAndFlowUnits : Obligations.TrunkEpochAndFlowUnits := by
  intro s u t hu
  subst hu
  have init (q resume rxLast rsv shared) : exec (.linkInitExchange t q resume rxLast rsv shared) s =
      act1 s t (fun x => linkInitExchangeEffect x q resume rxLast rsv shared) := rfl
  have receive (q fu errs) : exec (.fuReceive t q fu errs) s = act2 s t (fun x => fuReceiveEffect x q fu errs) := rfl
  have nak (q) : exec (.nakRepeat t q) s = act1 s t (fun x => nakRepeatEffect x q) := rfl
  have replay (q) : exec (.replayTimer t q) s = act2 s t (fun x => replayTimerEffect x q) := rfl
  have loss (q) : exec (.trunkLinkLoss t q) s = act2 s t (fun x => trunkLinkLossEffect x q) := rfl
  have retrain (w q) : exec (.tpRetrain t w q) s = act1 s t (fun x => tpRetrainEffect x w q) := rfl
  have freed (q cls b) : exec (.rxSlotFreed t q cls b) s = act1 s t (fun x => rxSlotFreedEffect x q cls b) := rfl
  have retry (g kind) : exec (.admissionRetry t g kind) s = act2 s t (fun x => retryEffect x g kind) := rfl
  refine ⟨?_, ?_, ?_, ?_, ?_, ?_, ?_, ?_, ?_, ?_, ?_, ?_, ?_, ?_, ?_, ?_, ?_, ?_, ?_, ?_⟩
  · intro q resume rxLast rsv shared v state mine hv
    subst hv
    exact after_act1 t _ (init q resume rxLast rsv shared) (linkInitExchange_resumes state resume rxLast rsv shared mine)
  · exact fun q resume rxLast rsv shared state handed =>
      after_act1 t _ (init q resume rxLast rsv shared) (linkInitExchange_afresh state resume rxLast rsv shared handed)
  · intro q e trunk
    rw [State.newEpoch, State.trunk_modTrunk _ _ _ trunk]
    exact ⟨rfl, rfl, rfl, rfl, rfl, rfl, rfl, rfl, rfl, rfl, rfl⟩
  · exact fun q fu errs down => afterAll_act2 t _ (receive q fu errs) (fuReceive_down down fu errs)
  · exact fun q fu errs v trunk up hv run => afterAll_act2 t _ (receive q fu errs) (fuReceive_linkLoss trunk up hv run)
  · intro q fu errs v trunk up hv run broken idle
    have arrives := fuReceive_arrives (fu := fu) trunk up hv run (.inl idle)
    rw [broken, State.fuArrive_failed] at arrives
    exact afterAll_act2 t _ (receive q fu errs) arrives
  · intro q fu errs v trunk up hv run whole sound check
    have arrives := fuReceive_arrives (fu := fu) trunk up hv run sound
    rw [whole, State.fuArrive_expected check] at arrives
    exact afterAll_act2 t _ (receive q fu errs) arrives
  · intro q fu errs v seq trunk up hv run whole sound other earlier
    have arrives := fuReceive_arrives (fu := fu) trunk up hv run sound
    rw [whole, State.fuArrive_duplicate other earlier] at arrives
    exact afterAll_act2 t _ (receive q fu errs) arrives
  · intro q fu errs v trunk up hv run whole sound other none_
    have arrives := fuReceive_arrives (fu := fu) trunk up hv run sound
    rw [whole, State.fuArrive_unknown other none_] at arrives
    exact afterAll_act2 t _ (receive q fu errs) arrives
  · exact fun q pending => State.fuCheckFail_counted pending
  · exact fun q none_ => State.fuCheckFail_nak none_
  · exact fun q up pending waited => after_act1 t _ (nak q) (nakRepeat_due up pending waited)
  · exact fun q up unacked still => afterAll_act2 t _ (replay q) (replayTimer_due up unacked still)
  · exact fun q up => afterAll_act2 t _ (loss q) (trunkLinkLoss_up up)
  · exact fun k q trunk => after_act1 t _ (retrain _ q) (tpRetrain_installer trunk k)
  · exact fun p q => after_act1 t _ (retrain _ q) (tpRetrain_operator _ p q)
  · exact fun q cls trunk class_ held => after_act1 t _ (freed q cls false) (rxSlotFreed_reserve trunk class_ held)
  · exact fun q cls trunk class_ held => after_act1 t _ (freed q cls true) (rxSlotFreed_shared trunk class_ held)
  · exact fun q kind trunk => afterAll_act2 t _ (retry _ kind) (retry_trunk trunk kind)
  · exact fun g kind other => afterAll_act2 t _ (retry g kind) (retry_other other _ kind)

end

section
/-! SUPPORT. The effects of rekeying, of fate queries and of what becomes of a frozen trunk, case by case (R139, R143 to R146). -/

namespace Sys2Proof.Machine

/-! ### Rekeying (R139) -/

section
variable {s : State} {q : Nat} (up : s.trunkUp q = true) (crypt : (s.trunk q).crypt = true)
include up crypt

theorem rekeyOfferSend_once (count : 2 ^ 28 - 2 ^ 16 ≤ (s.trunk q).tx.txCount) (none_ : (s.trunk q).tx.offerOut = none)
    (old : (s.trunk q).tx.newKey = none) :
    rekeyOfferSendEffect s q = s.drew.modTx q (fun x =>
      { x with offerOut := some (((s.trunk q).tx.keyEpoch + 1).toNat, Config.random s.draws),
               ctl := x.ctl ++ [.rekeyOffer ((s.trunk q).tx.keyEpoch + 1).toNat (Config.publicKey (Config.random s.draws))] }) := by
  simp only [rekeyOfferSendEffect, up, crypt, none_, old, decide_eq_true count, Option.isNone_none, Bool.and_true, if_true]

/-- An offer of the next epoch is accepted with a key of this end, and the far direction's new key derived. -/
theorem rekeyOffer_next (key : Nat) :
    rekeyOfferEffect s q ((s.trunk q).rx.keyEpoch + 1).toNat key = s.drew.modTrunk q (fun k =>
      { k with
        rx := { k.rx with rekeyKey := some (k.rekeyed ((s.trunk q).rx.keyEpoch + 1).toNat (Config.random s.draws) key) }
        tx := { k.tx with
          ctl := k.tx.ctl ++ [.rekeyAccept ((s.trunk q).rx.keyEpoch + 1).toNat (Config.publicKey (Config.random s.draws))] } }) := by
  simp [rekeyOfferEffect, up, crypt]

theorem rekeyOffer_otherEpoch {epoch : Nat} (other : epoch ≠ ((s.trunk q).rx.keyEpoch + 1).toNat) (key : Nat) :
    rekeyOfferEffect s q epoch key = s.fuViolation q rekeyHeader 5 := by
  rw [rekeyOfferEffect, if_neg (by simp [up, crypt]), if_pos other]

theorem rekeyAccept_offered {epoch priv : Nat} (offer : (s.trunk q).tx.offerOut = some (epoch, priv)) (key : Nat) :
    rekeyAcceptEffect s q epoch key =
      s.modTrunk q (fun k => { k with tx := { k.tx with offerOut := none, newKey := some (k.rekeyed epoch priv key) } }) := by
  simp [rekeyAcceptEffect, up, crypt, offer]

theorem rekeyAccept_unasked (offer : (s.trunk q).tx.offerOut = none) (epoch key : Nat) :
    rekeyAcceptEffect s q epoch key = s.fuViolation q rekeyHeader 5 := by
  simp [rekeyAcceptEffect, up, crypt, offer]

theorem keyPhaseToggle_newKey {key : Nat} (count : 2 ^ 28 ≤ (s.trunk q).tx.txCount) (new : (s.trunk q).tx.newKey = some key) :
    keyPhaseToggleEffect s q = s.modTx q (fun x =>
      { x with keyPhase := !x.keyPhase, txCount := 0, keyEpoch := x.keyEpoch + 1, keyNo := key, newKey := none }) := by
  simp only [keyPhaseToggleEffect, up, crypt, new, decide_eq_true count, Bool.and_true, if_true]

theorem keyPhaseToggle_noKey (count : 2 ^ 28 ≤ (s.trunk q).tx.txCount) (new : (s.trunk q).tx.newKey = none) :
    keyPhaseToggleEffect s q = (s.noteFree (srcTwig (gOfTrunk q) 6) 2).trunkRetrain q false := by
  simp only [keyPhaseToggleEffect, up, crypt, new, decide_eq_true count, Bool.and_true, if_true]

end

/-! ### Fate queries (R143, R144) -/

theorem fateQuery_peer {s : State} {trunk x far : Nat} (member : trunk < 16) (peer : (s.trunk trunk).peer = some (x, far)) (via : Nat)
    (no : Seq16) :
    fateQueryEffect s via x trunk no =
      (s.modRx trunk (fun r => { r with queries := r.queries ++ [(via, x, no, s.now)] })).answerQueries trunk := by
  simp [fateQueryEffect, peer, member]

theorem fateQuery_stranger {s : State} {trunk : Nat} (peer : (s.trunk trunk).peer = none) (via x : Nat) (no : Seq16) :
    fateQueryEffect s via x trunk no = s.contradicts via := by
  simp [fateQueryEffect, peer]

theorem fateQueryHoldExpire_up {s : State} {trunk : Nat} (up : s.trunkUp trunk = true)
    (waited : (s.trunk trunk).rx.queries.any (fun e => s.after e.2.2.2 10000) = true) :
    fateQueryHoldExpireEffect s trunk = s.trunkRetrain trunk false := by
  rw [fateQueryHoldExpireEffect, up, waited]
  rfl

theorem fateQueryHoldExpire_down {s : State} {trunk : Nat} (down : s.trunkUp trunk = false) :
    fateQueryHoldExpireEffect s trunk = s.answerQueries trunk := by
  simp [fateQueryHoldExpireEffect, down]

/-! ### A frozen trunk (R143, R145, R146) -/

theorem fateQueryResend_due {s : State} {q : Nat} (down : s.trunkUp q = false) (frozen : (s.trunk q).tx.frozen = true)
    (unanswered : s.after (s.trunk q).tx.fateSent 16000 = true) (early : s.now < (s.trunk q).tx.lostAt + 1000000000) :
    fateQueryResendEffect s q = s.sendFateQuery q := by
  simp [fateQueryResendEffect, down, frozen, unanswered, early]

/-- A trunk of this crown waits for the fate of what it sent to a trunk of a far crown. -/
def State.awaitsFate (s : State) (x trunk q : Nat) : Bool :=
  (s.trunk q).peer == some (x, trunk) && (s.trunk q).tx.frozen && !s.trunkUp q

theorem fateAnswer_latest {s : State} {trunk x q : Nat} {no : Seq16} (awaits : (List.range 16).find? (s.awaitsFate x trunk) = some q)
    (latest : (s.trunk q).tx.fateNo = no) (rxLast : Seq16) : fateAnswerEffect s trunk x no rxLast = s.handover q x rxLast := by
  unfold State.awaitsFate at awaits
  simp [fateAnswerEffect, awaits, latest]

theorem fateAnswer_earlier {s : State} {trunk x q : Nat} {no : Seq16} (awaits : (List.range 16).find? (s.awaitsFate x trunk) = some q)
    (earlier : (s.trunk q).tx.fateNo ≠ no) (rxLast : Seq16) : fateAnswerEffect s trunk x no rxLast = s := by
  unfold State.awaitsFate at awaits
  simp [fateAnswerEffect, awaits, earlier]

theorem trunkDiscard_due {s : State} {q : Nat} (trunk : q < 16) (down : s.trunkUp q = false)
    (passed : s.after (s.trunk q).tx.lostAt 1000000000 = true) : trunkDiscardEffect s q = s.discardTrunk q := by
  simp [trunkDiscardEffect, trunk, down, passed]

end Sys2Proof.Machine

open Sys2Proof Sys2Proof.Machine

/-- Settles O27: each command's meaning is its effect, and each effect is given by the lemma on its case. -/
theorem trunkKeysAndFate : Obligations.TrunkKeysAndFate := by
  intro s u t hu
  subst hu
  have offerSend (q) : exec (.rekeyOfferSend t q) s = act1 s t (fun x => rekeyOfferSendEffect x q) := rfl
  have offer (q epoch key) : exec (.rekeyOffer t q epoch key) s = act2 s t (fun x => rekeyOfferEffect x q epoch key) := rfl
  have accept (q epoch key) : exec (.rekeyAccept t q epoch key) s = act2 s t (fun x => rekeyAcceptEffect x q epoch key) := rfl
  have toggle (q) : exec (.keyPhaseToggle t q) s = act2 s t (fun x => keyPhaseToggleEffect x q) := rfl
  have query (via x trunk no) : exec (.fateQuery t via x trunk no) s = act2 s t (fun y => fateQueryEffect y via x trunk no) := rfl
  have expire (trunk) : exec (.fateQueryHoldExpire t trunk) s = act2 s t (fun x => fateQueryHoldExpireEffect x trunk) := rfl
  have resend (q) : exec (.fateQueryResend t q) s = act1 s t (fun x => fateQueryResendEffect x q) := rfl
  have answer (via trunk x no rxLast) : exec (.fateAnswer t via trunk x no rxLast) s =
      act1 s t (fun y => fateAnswerEffect y trunk x no rxLast) := rfl
  have discard (q) : exec (.trunkDiscard t q) s = act2 s t (fun x => trunkDiscardEffect x q) := rfl
  refine ⟨?_, ?_, ?_, ?_, ?_, ?_, ?_, ?_, ?_, ?_, ?_, ?_, ?_, ?_, ?_⟩
  · exact fun q up crypt count none_ old => after_act1 t _ (offerSend q) (rekeyOfferSend_once up crypt count none_ old)
  · exact fun q key up crypt => afterAll_act2 t _ (offer q _ key) (rekeyOffer_next up crypt key)
  · exact fun q epoch key up crypt other => afterAll_act2 t _ (offer q epoch key) (rekeyOffer_otherEpoch up crypt other key)
  · exact fun q epoch priv key up crypt out => afterAll_act2 t _ (accept q epoch key) (rekeyAccept_offered up crypt out key)
  · exact fun q epoch key up crypt out => afterAll_act2 t _ (accept q epoch key) (rekeyAccept_unasked up crypt out epoch key)
  · exact fun q key up crypt count new => afterAll_act2 t _ (toggle q) (keyPhaseToggle_newKey up crypt count new)
  · exact fun q up crypt count new => afterAll_act2 t _ (toggle q) (keyPhaseToggle_noKey up crypt count new)
  · exact fun via x trunk far no member peer => afterAll_act2 t _ (query via x trunk no) (fateQuery_peer member peer via no)
  · exact fun via x trunk no peer => afterAll_act2 t _ (query via x trunk no) (fateQuery_stranger peer via x no)
  · exact fun trunk up waited => afterAll_act2 t _ (expire trunk) (fateQueryHoldExpire_up up waited)
  · exact fun trunk down => afterAll_act2 t _ (expire trunk) (fateQueryHoldExpire_down down)
  · exact fun q down frozen unanswered early => after_act1 t _ (resend q) (fateQueryResend_due down frozen unanswered early)
  · exact fun via trunk x no rxLast q awaits latest =>
      after_act1 t _ (answer via trunk x no rxLast) (fateAnswer_latest awaits latest rxLast)
  · exact fun via trunk x no rxLast q awaits earlier =>
      after_act1 t _ (answer via trunk x no rxLast) (fateAnswer_earlier awaits earlier rxLast)
  · exact fun q trunk down passed => afterAll_act2 t _ (discard q) (trunkDiscard_due trunk down passed)

end

section
/-! SUPPORT. The effects of the switch core's commands, case by case: TLPs entering, cut-through, buffers, class changes, fetched window
entries and reloaded gates, and what leaves at an egress time (R130, R157, R164, R171, R174, R175, R186, R244, R252, R272). -/

namespace Sys2Proof.Machine

/-! ### A TLP enters (R171, R244) -/

section
variable {s : State} {g : Nat}

/-- A TLP can enter at a twig: it is an H-twig of the module that is not offline, and its link is up. -/
def State.TlpEnters (s : State) (g : Nat) : Prop :=
  g < 160 ∧ isT g = false ∧ s.twigOffline g = false ∧ (s.hport (portOfG (s.portLowG g))).up = true

/-- What `tlpIngressEffect` asks first. -/
theorem State.TlpEnters.not_barred (enters : s.TlpEnters g) :
    ¬ (decide (160 ≤ g) || isT g || s.twigOffline g || !(s.hport (portOfG (s.portLowG g))).up) = true := by
  obtain ⟨twig, host, online, up⟩ := enters
  simp [Nat.not_le.2 twig, host, online, up]

/-- Within its credits a TLP is counted, uses them, takes the port's next order stamp and goes to the parse stage. -/
theorem tlpIngress_covered {x : Tlp} {i : State × Option Nat} {v w : State} (enters : s.TlpEnters g)
    (covered : s.fcCovers (portOfG (s.portLowG g)) x = true) (hi : i = s.injectItem [5] 0 g)
    (hv : v = if i.2.isSome then i.1.countTwig (s.portLowG g) 0x106 1 else i.1)
    (hw : w = (v.fcTake (portOfG (s.portLowG g)) x).modHPort (portOfG (s.portLowG g))
      (fun h => { h with order := h.order + 1, lastTlp := v.now })) :
    tlpIngressEffect s g x =
      (((w.countTwig (s.portLowG g) 0x100 1).countTwig (s.portLowG g) 0x102 x.data.length).ingress (s.portLowG g) x
        (w.hport (portOfG (s.portLowG g))).order).fcSettle s := by
  subst hw hv hi
  rw [tlpIngressEffect, if_neg enters.not_barred, if_neg (by simp [covered])]

theorem tlpIngress_overflow {x : Tlp} (enters : s.TlpEnters g) (beyond : s.fcCovers (portOfG (s.portLowG g)) x = false) :
    tlpIngressEffect s g x = hpLinkRecoveryEffect s (portOfG (s.portLowG g)) .overflow := by
  rw [tlpIngressEffect, if_neg enters.not_barred, if_pos (by simp [beyond])]

theorem tlpIngress_barred (barred : 160 ≤ g ∨ isT g = true ∨ s.twigOffline g = true ∨ (s.hport (portOfG (s.portLowG g))).up = false)
    (x : Tlp) : tlpIngressEffect s g x = s := by
  rw [tlpIngressEffect, if_pos (by simpa [or_assoc] using barred)]

end

/-! ### Cut-through and the buffer (R174, R175, R186) -/

/-- The cut-through TLP of a descriptor number whose last byte has not yet arrived. -/
def Desc.arriving (n : Nat) (d : Desc) : Bool := d.id == n && d.cut && decide (d.arrived < d.len)

section
variable {s : State} {n : Nat}

theorem cutThroughStart_arrives {d : Desc} (found : s.core.queues.find? (Desc.arriving n) = some d) (a : Nat) :
    cutThroughStartEffect s n a true = s.modDesc n (fun e =>
      { e with arrived := max d.arrived (min a d.len)
               eligible := e.eligible || decide (s.cutThreshold e ≤ max d.arrived (min a d.len)) }) := by
  unfold Desc.arriving at found
  simp [cutThroughStartEffect, found]

theorem cutThroughStart_badTail {d : Desc} (found : s.core.queues.find? (Desc.arriving n) = some d) (a : Nat) :
    cutThroughStartEffect s n a false = s.badTail d := by
  unfold Desc.arriving at found
  simp [cutThroughStartEffect, found]

theorem cutThroughStart_other (none_ : s.core.queues.find? (Desc.arriving n) = none) (a : Nat) (ok : Bool) :
    cutThroughStartEffect s n a ok = s := by
  unfold Desc.arriving at none_
  simp [cutThroughStartEffect, none_]

end

theorem bufStructFault_limb {l : Nat} (limb : l < 8) (s : State) :
    bufStructFaultEffect s l =
      (s.contain (.limb l)).note { Ev.plain (srcLimb l 3) (Config.eventCode (srcLimb l 3)) 2 with action := 3 } :=
  if_neg (Nat.not_le.2 limb)

theorem bufStructFault_noLimb {l : Nat} (none_ : 8 ≤ l) (s : State) : bufStructFaultEffect s l = s := if_pos none_

/-! ### A partition's change of class (R164) -/

section
variable {s : State} {p tc : Nat}

theorem classMapRelease_ends (held : s.heldClass p tc = true) (none_ : s.oldClassLeft p tc (s.classFor p tc) = false) :
    classMapReleaseEffect s p tc = s.reclass p tc (s.classFor p tc) := by
  rw [classMapReleaseEffect, if_neg (by simp [held, none_])]

theorem classMapRelease_waits (waits : s.heldClass p tc = false ∨ s.oldClassLeft p tc (s.classFor p tc) = true) :
    classMapReleaseEffect s p tc = s := by
  rw [classMapReleaseEffect, if_pos (by simpa using waits)]

/-- The first hold of a partition and traffic class, not yet reported and older than 10 ms, is marked and reported at each limb. -/
theorem classMapHold_reports {h : ClassHold} {v : State} (found : s.core.holds.find? (fun h => h.part == p && h.tc == tc) = some h)
    (fresh : h.raised = false) (long : s.after h.since 10000000 = true)
    (hv : v = s.modCore (fun c => { c with holds := c.holds.map (fun k => if k = h then { k with raised := true } else k) })) :
    classMapHoldEffect s p tc =
      v.each ((v.holdTwigs p tc).foldl (fun l g => insertNew l (limbOf g)) []) (fun x l => x.noteFree (srcLimb l 4) 0) := by
  subst hv
  simp [classMapHoldEffect, found, fresh, long]

/-- Where every hold of a partition and traffic class is reported or younger than 10 ms, there is nothing to report. -/
theorem classMapHold_rests
    (rests : ∀ h ∈ s.core.holds, h.part = p ∧ h.tc = tc → h.raised = true ∨ s.after h.since 10000000 = false) :
    classMapHoldEffect s p tc = s := by
  unfold classMapHoldEffect
  split
  · next h found =>
    have names : h.part = p ∧ h.tc = tc := by simpa using List.find?_some found
    have done : (h.raised || !s.after h.since 10000000) = true := by
      simpa using rests h (List.mem_of_find?_eq_some found) names
    rw [if_pos done]
  · rfl

end

/-! ### What waits for a window entry or a gate (R252, R272) -/

theorem winFetchDone_badTag (s : State) (st w : Nat) :
    winFetchDoneEffect s st w false =
      s.noteFree (if st < 4 then srcBough (((s.gates.misses.find? (fun m => m.stem == st && m.window == w)).map
        (fun m => boughOf m.src)).getD (10 * st)) 1 else 0xBCC) 1 := rfl

theorem winFetchDone_entry {s u v : State} {st w : Nat} (hu : u = s.modGates (fun x => x.cachePut st w))
    (hv : v = u.modGates (fun x =>
      { x with misses := x.misses.filter (fun m => !(m.stem == st && m.window == w))
               heldTlps := x.heldTlps.filter (fun e => !(stemOf e.1 == st)) })) :
    winFetchDoneEffect s st w true =
      ((v.each (u.gates.misses.filter (fun m => m.stem == st && m.window == w)) State.goOn).each
        (u.gates.heldTlps.filter (fun e => stemOf e.1 == st)) (fun x e => x.ingress e.1 e.2.1 e.2.2)).fcSettle s := by
  subst hv hu
  rfl

theorem gateReloadDone_goesOn {s v : State} {st gate : Nat}
    (hv : v = s.modGates (fun x =>
      { x with heldGates := eraseAll x.heldGates (st, gate)
               heldTlps := x.heldTlps.filter (fun e => !(e.1 < 160 && stemOf e.1 == st)) })) :
    gateReloadDoneEffect s st gate =
      (v.each (s.gates.heldTlps.filter (fun e => e.1 < 160 && stemOf e.1 == st)) (fun x e => x.ingress e.1 e.2.1 e.2.2)).fcSettle s := by
  subst hv
  rfl

/-! ### What leaves at an egress time (R130, R157) -/

/-- A trunk that does not encrypt has no key to change. -/
theorem keyPhaseToggle_plain {s : State} {q : Nat} (plain : (s.trunk q).crypt = false) : keyPhaseToggleEffect s q = s := by
  simp [keyPhaseToggleEffect, plain]

theorem State.sendTrunk_down {s : State} {q : Nat} (down : s.trunkUp q = false) (b : Nat) : s.sendTrunk q b = s := by
  simp [State.sendTrunk, down]

section
variable {s : State} {q : Nat} (up : s.trunkUp q = true) (plain : (s.trunk q).crypt = false)
include up plain

theorem State.sendTrunk_replay {sq : Seq16} (replay : (s.trunk q).tx.replayAt = some sq) (slot : s.slotUse q ≠ .prune) (b : Nat) :
    s.sendTrunk q b = s.replayFu q sq := by
  simp [State.sendTrunk, up, keyPhaseToggle_plain plain, replay, slot]

theorem State.sendTrunk_paused (none_ : (s.trunk q).tx.replayAt = none) (paused : (s.trunk q).tx.paused = true) (b : Nat) :
    s.sendTrunk q b = s.sendIdle q := by
  simp [State.sendTrunk, up, keyPhaseToggle_plain plain, none_, paused]

theorem State.sendTrunk_new (none_ : (s.trunk q).tx.replayAt = none) (runs : (s.trunk q).tx.paused = false)
    (room : (s.trunk q).tx.buf.length < 1024) (b : Nat) : s.sendTrunk q b = s.newFu q b := by
  simp [State.sendTrunk, up, keyPhaseToggle_plain plain, none_, runs, Nat.not_le.2 room]

end

theorem egressStart_port {s : State} {g : Nat} (twig : g < 160) (host : isT g = false) (online : s.twigOffline (s.portLowG g) = false)
    (l0 : (s.hport (portOfG (s.portLowG g))).lstate = .l0) (b : Nat) : egressStartEffect s g b = s.sendPort (s.portLowG g) b := by
  have beyond : ¬ 164 ≤ g := by omega
  simp [egressStartEffect, beyond, Nat.not_le.2 twig, host, online, l0]

theorem egressStart_trunk {q : Nat} (trunk : q < 16) (s : State) (b : Nat) : egressStartEffect s (gOfTrunk q) b = s.sendTrunk q b := by
  have twig : gOfTrunk q < 160 := by rw [gOfTrunk]; omega
  have beyond : ¬ 164 ≤ gOfTrunk q := by omega
  simp [egressStartEffect, beyond, Nat.not_le.2 twig, isT_gOfTrunk, trunkOfG_gOfTrunk]

theorem egressStart_intake {s : State} {g : Nat} (intake : 160 ≤ g) (last : g < 164) (awake : s.awake = true) (b : Nat) :
    egressStartEffect s g b = s.serveIntake g := by
  simp [egressStartEffect, Nat.not_le.2 last, intake, awake]

theorem egressStart_other {g : Nat} (other : 164 ≤ g) (s : State) (b : Nat) : egressStartEffect s g b = s := if_pos other

end Sys2Proof.Machine

open Sys2Proof Sys2Proof.Machine

/-- Settles O28: each command's meaning is its effect, and each effect is given by the lemma on its case. -/
theorem switchCoreResults : Obligations.SwitchCoreResults := by
  intro s u t hu
  subst hu
  have enter (g x) : exec (.tlpIngress t g x) s = act2 s t (fun y => tlpIngressEffect y g x) := rfl
  have cut (n a ok) : exec (.cutThroughStart t n a ok) s = act2 s t (fun x => cutThroughStartEffect x n a ok) := rfl
  have resend (n) : exec (.cutResend t n) s = act1 s t (fun x => cutResendEffect x n) := rfl
  have fault (l) : exec (.bufStructFault t l) s = act2 s t (fun x => bufStructFaultEffect x l) := rfl
  have freed (l) : exec (.cellFreeDone t l) s =
      act1 s t (fun x => x.modCore (fun c => { c with freeing := c.freeing.filter (fun f => limbOf f.egress ≠ l) })) := rfl
  have release (p tc) : exec (.classMapRelease t p tc) s = act1 s t (fun x => classMapReleaseEffect x p tc) := rfl
  have hold (p tc) : exec (.classMapHold t p tc) s = act1 s t (fun x => classMapHoldEffect x p tc) := rfl
  have allot : exec (.allotmentGrant t) s = act1 s t (fun x => x.each ((List.range 64).filter x.capped) State.grant) := rfl
  have fetch (st w ok) : exec (.winFetchDone t st w ok) s = act2 s t (fun x => winFetchDoneEffect x st w ok) := rfl
  have reload (st gate) : exec (.gateReloadDone t st gate) s = act2 s t (fun x => gateReloadDoneEffect x st gate) := rfl
  have egress (g b) : exec (.egressStart t g b) s = act2 s t (fun x => egressStartEffect x g b) := rfl
  have trunk_ {q b : Nat} {v : State} (trunk : q < 16) (sends : (s.tick t).sendTrunk q b = v) :
      AfterAll (.egressStart t (gOfTrunk q) b) s v :=
    afterAll_act2 t _ (egress _ b) ((egressStart_trunk trunk _ b).trans sends)
  refine ⟨?_, ?_, ?_, ?_, ?_, ?_, ?_, ?_, ?_, ?_, ?_, ?_, ?_, ?_, ?_, ?_, ?_, ?_, ?_, ?_, ?_, ?_, ?_, ?_, ?_⟩
  · exact fun g x i v w twig host online up covered hi hv hw =>
      afterAll_act2 t _ (enter g x) (tlpIngress_covered ⟨twig, host, online, up⟩ covered hi hv hw)
  · exact fun g x twig host online up beyond => afterAll_act2 t _ (enter g x) (tlpIngress_overflow ⟨twig, host, online, up⟩ beyond)
  · exact fun g x barred => afterAll_act2 t _ (enter g x) (tlpIngress_barred barred x)
  · exact fun n a d found => afterAll_act2 t _ (cut n a true) (cutThroughStart_arrives found a)
  · exact fun n a d found => afterAll_act2 t _ (cut n a false) (cutThroughStart_badTail found a)
  · exact fun n a ok none_ => afterAll_act2 t _ (cut n a ok) (cutThroughStart_other none_ a ok)
  · exact fun n => after_act1 t _ (resend n) rfl
  · exact fun l limb => afterAll_act2 t _ (fault l) (bufStructFault_limb limb _)
  · exact fun l none_ => afterAll_act2 t _ (fault l) (bufStructFault_noLimb none_ _)
  · exact fun l => after_act1 t _ (freed l) rfl
  · exact fun p tc held none_ => after_act1 t _ (release p tc) (classMapRelease_ends held none_)
  · exact fun p tc waits => after_act1 t _ (release p tc) (classMapRelease_waits waits)
  · exact fun p tc h found fresh long => after_act1 t _ (hold p tc) (classMapHold_reports found fresh long rfl)
  · exact fun p tc rests => after_act1 t _ (hold p tc) (classMapHold_rests rests)
  · exact after_act1 t _ allot rfl
  · exact fun st w => afterAll_act2 t _ (fetch st w false) (winFetchDone_badTag _ st w)
  · exact fun st w v hv => afterAll_act2 t _ (fetch st w true) (winFetchDone_entry rfl hv)
  · exact fun st gate v hv => afterAll_act2 t _ (reload st gate) (gateReloadDone_goesOn hv)
  · exact fun g b twig host online l0 => afterAll_act2 t _ (egress g b) (egressStart_port twig host online l0 b)
  · exact fun q b sq trunk up plain replay slot => trunk_ trunk (State.sendTrunk_replay up plain replay slot b)
  · exact fun q b trunk up plain none_ paused => trunk_ trunk (State.sendTrunk_paused up plain none_ paused b)
  · exact fun q b trunk up plain none_ runs room => trunk_ trunk (State.sendTrunk_new up plain none_ runs room b)
  · exact fun q b trunk down => trunk_ trunk (State.sendTrunk_down down b)
  · exact fun g b intake last awake => afterAll_act2 t _ (egress g b) (egressStart_intake intake last awake b)
  · exact fun g b other => afterAll_act2 t _ (egress g b) (egressStart_other other _ b)

end

section
/-! SUPPORT. A WRITE of a value that is not legal for an entry which is not staged, and the row of PART_WEIGHT (R237, R409). -/

namespace Sys2Proof.Machine

/-! ### A WRITE that is heard and not legal (R409 steps 4 and 7) -/

/-- By whatever caller that may write, it is refused: for the caller's role, else for the value. -/
theorem write_illegal_refused {s : State} {t : Nat} {r : Req} {c : Caller} {i n ty v len : Nat} {e : Entry} (heard : (s.tick t).Heard r)
    (known : ((s.tick t).sigCounted r).authenticate r = .known c) (may : c.may Op.write i = true)
    (body : bodyOk (.write t r i n ty v len) = true) (entry : entryAt i n = some e) (type : e.ty.code = ty)
    (persist : e.persist ≠ .staged) (illegal : legalValue e (256 * i + n) v len = false) :
    ∃ status, (status = Status.accessDenied ∨ status = Status.valueRefused) ∧
      AfterAll (.write t r i n ty v len) s ((((s.tick t).sigCounted r).touchSession r).refuseReq r c Op.write status 0 i n) := by
  have shape : exec (.write t r i n ty v len) s = act2 s t (fun x => x.arrive (.write t r i n ty v len)) := rfl
  have served : (s.tick t).arrive (.write t r i n ty v len) = (((s.tick t).sigCounted r).touchSession r).serveWrite r c i n ty v len :=
    State.arrive_known _ _ r Op.write i n c rfl heard body known may
  have recovery : (((s.tick t).sigCounted r).touchSession r).journal.recovery = false := by
    obtain ⟨-, -, -, -, -, -, -, -, out⟩ := heard
    rw [(State.taken_eventOnly _ r).journal, out]
  have refused := State.serveWrite_illegal r c (State.recoveryServes_eq_false recovery _ _) entry persist illegal
  rw [type] at refused
  refine ⟨_, ?_, afterAll_act2 t _ shape (served.trans refused)⟩
  cases e.writable c.who (256 * i + n) with
  | true => exact .inr rfl
  | false => exact .inl rfl

/-! ### PART_WEIGHT (R237) -/

/-- The row of PART_WEIGHT in the table of chapter 06. -/
def partWeightEntry : Entry :=
  ⟨"PART_WEIGHT", 0x6600, 0x00, 0x6606, 0x3F, .u16, .rw, .rw, .r, .journaled, .immediate, 0x0010⟩

/-- A row whose indices lie outside a range holds no place in it. -/
theorem Entry.holds_of_apart {e : Entry} {lo hi i : Nat} (apart : e.idxHi < lo ∨ hi < e.idxLo) (low : lo ≤ i) (high : i ≤ hi)
    (n : Nat) : e.holds i n = false := by
  rcases apart with below | above
  · simp [Entry.holds, Nat.not_le.2 (Nat.lt_of_lt_of_le below low)]
  · simp [Entry.holds, Nat.not_le.2 (Nat.lt_of_le_of_lt high above)]

/-- The rows that stand before PART_WEIGHT in the dictionary. -/
def rowsBeforePartWeight : List Entry :=
  entries01_0 ++ entries02_0 ++ entries03_0 ++ entries04_0 ++ entries05_0 ++ entries06_0.take 13

theorem entries_partWeight : ∃ after, entries = rowsBeforePartWeight ++ partWeightEntry :: after := by
  have row : entries06_0 = entries06_0.take 13 ++ partWeightEntry :: entries06_0.drop 14 := rfl
  rw [entries, row]
  simp only [rowsBeforePartWeight, List.append_assoc, List.cons_append]
  exact ⟨_, rfl⟩

theorem rowsBeforePartWeight_apart : ∀ e ∈ rowsBeforePartWeight, e.idxHi < 0x6600 ∨ 0x6606 < e.idxLo := by decide

theorem entryAt_partWeight {i n : Nat} (low : 0x6600 ≤ i) (high : i ≤ 0x6606) (hn : n < 64) : entryAt i n = some partWeightEntry := by
  have holds : partWeightEntry.holds i n = true := by
    simp [Entry.holds, Entry.spansIndices, partWeightEntry, low, high, Nat.le_of_lt_succ hn]
  obtain ⟨after, split⟩ := entries_partWeight
  exact List.find?_eq_some_iff_append.2 ⟨holds, _, after, split, fun e before => by
    rw [Entry.holds_of_apart (rowsBeforePartWeight_apart e before) low high, Bool.not_false]⟩

theorem legalValue_partWeight {i n : Nat} (low : 0x6600 ≤ i) (high : i ≤ 0x6606) (hn : n < 64) (v len : Nat) :
    legalValue partWeightEntry (256 * i + n) v len = within v 1 1024 := by
  have index : (256 * i + n) / 256 = i := by omega
  have page : i / 0x1000 = 6 := by omega
  have above {m : Nat} (h : m < 0x6600) : ¬ i ≤ m := by omega
  have class_ : i ≠ 0x6000 := by omega
  have last : i ≤ 0x660E := by omega
  simp [legalValue, typeLegal, partWeightEntry, index, page, legal6, above, class_, low, last]

end Sys2Proof.Machine

open Sys2Proof Sys2Proof.Machine

/-- Settles O16: the row of PART_WEIGHT takes the values from 1 to 1,024 and no other, and a WRITE of another is refused. -/
theorem weightsRefused : Obligations.WeightsRefused := by
  constructor
  · intro s u t r c i n v hu heard known may low high hn hv out
    subst hu
    have body : bodyOk (.write t r i n 3 v 2) = true := by
      simp [bodyOk, formOk, typeWidth, hv]
      omega
    have illegal : legalValue partWeightEntry (256 * i + n) v 2 = false := by
      rw [legalValue_partWeight low high hn, within]
      rcases out with zero | above
      · simp [zero]
      · simp [Nat.not_le.2 above]
    exact write_illegal_refused heard known may body (entryAt_partWeight low high hn) rfl nofun illegal
  · intro i n v e low high hn entry hv hv'
    obtain rfl : partWeightEntry = e := Option.some.inj ((entryAt_partWeight low high hn).symm.trans entry)
    simp [legalValue_partWeight low high hn, within, hv, hv']

end

section
/-! SUPPORT. The effects of a configuration request, case by case (R203, R205, R210, R226, R300, R378). -/

namespace Sys2Proof.Machine

/-! ### Requests that reach no register (R226, R300, R378) -/

theorem configRequest_elsewhere {s : State} {p : Nat} (elsewhere : 64 ≤ p ∨ s.isHome p = false) (rid tag : Nat) (target : CfgTarget)
    (f : CfgField) (val : Option Nat) : configRequestEffect s p rid tag target f val = s :=
  if_pos (by simpa using elsewhere)

theorem configRequest_resets {s : State} {p : Nat} (part : p < 64) (home : s.isHome p = true)
    (resets : (s.part p).state = .resetting ∨ (s.part p).state = .held) (rid tag : Nat) (target : CfgTarget) (f : CfgField)
    (val : Option Nat) : configRequestEffect s p rid tag target f val = s.cfgAnswer p rid tag .aborted 0 :=
  (if_neg (by simp [part, home])).trans (if_pos (by simpa using resets))

section
variable {s : State} {p : Nat} (takes : s.TakesSbr p) (rid tag : Nat) (f : CfgField)
include takes

/-- The host of such a partition is answered by what its request reaches. -/
theorem State.TakesSbr.hostServed :
    (64 ≤ p || !s.isHome p) = false ∧ (decide ((s.part p).state = .resetting) || decide ((s.part p).state = .held)) = false := by
  obtain ⟨part, home, still, free⟩ := takes
  simp [part, home, still, free]

theorem configRequest_later (held : s.fabric.bridge ≠ []) {target : CfgTarget} (local_ : ∀ n m, target ≠ .device n m)
    (val : Option Nat) : configRequestEffect s p rid tag target f val = (s.countHeart 0x385 1).cfgAnswer p rid tag .retry 0 := by
  cases target with
  | device n m => exact absurd rfl (local_ n m)
  | _ => simp [configRequestEffect, takes.hostServed, held]

/-! ### Requests to the partition's own bridges and functions (R203, R205, R210) -/

section
variable (free : s.fabric.bridge = [])
include free

theorem configRequest_upstream_read :
    configRequestEffect s p rid tag .upstream f none = s.cfgAnswer p rid tag .successful (s.bridgeRead p none f) := by
  simp [configRequestEffect, takes.hostServed, free]

theorem configRequest_upstream_write (x : Nat) :
    configRequestEffect s p rid tag .upstream f (some x) = (s.bridgeWrite p none f x).cfgAnswer p rid tag .successful 0 := by
  simp [configRequestEffect, takes.hostServed, free]

theorem configRequest_vdp_read {n : Nat} (present : s.vdpPresent p n = true) :
    configRequestEffect s p rid tag (.vdp n) f none = s.cfgAnswer p rid tag .successful (s.bridgeRead p (some n) f) := by
  simp [configRequestEffect, takes.hostServed, free, present]

theorem configRequest_vdp_write {n : Nat} (present : s.vdpPresent p n = true) (x : Nat) :
    configRequestEffect s p rid tag (.vdp n) f (some x) = (s.bridgeWrite p (some n) f x).cfgAnswer p rid tag .successful 0 := by
  simp [configRequestEffect, takes.hostServed, free, present]

theorem configRequest_vdp_absent {n : Nat} (absent : s.vdpPresent p n = false) (val : Option Nat) :
    configRequestEffect s p rid tag (.vdp n) f val = s.cfgAnswer p rid tag .unsupported 0 := by
  cases val <;> simp [configRequestEffect, takes.hostServed, free, absent]

theorem configRequest_function_read {n : Nat} (reached : s.fnReached p n = true) :
    configRequestEffect s p rid tag (.function n) f none = s.cfgAnswer p rid tag .successful (s.fnRead p n f) := by
  simp [configRequestEffect, takes.hostServed, free, reached]

theorem configRequest_function_write {n : Nat} (reached : s.fnReached p n = true) (x : Nat) :
    configRequestEffect s p rid tag (.function n) f (some x) = (s.fnWrite p n f x).cfgAnswer p rid tag .successful 0 := by
  simp [configRequestEffect, takes.hostServed, free, reached]

theorem configRequest_function_absent {n : Nat} (absent : s.fnReached p n = false) (val : Option Nat) :
    configRequestEffect s p rid tag (.function n) f val = s.cfgAnswer p rid tag .unsupported 0 := by
  cases val <;> simp [configRequestEffect, takes.hostServed, free, absent]

end

/-! ### Requests to a device below a VDP (R210, R378) -/

theorem configRequest_device {n m : Nat} (open_ : (s.part p).state ≠ .contained) (below : n ≠ 0xFF) (bound : (s.bind p n).kind ≠ 0)
    (number : m < 8 ∨ ((s.part p).vdp n).fld .ariForwarding ≠ 0) (val : Option Nat) :
    configRequestEffect s p rid tag (.device n m) f val = s.cfgDevice p n m f val rid tag := by
  have allowed : 8 ≤ m → ((s.part p).vdp n).fld .ariForwarding ≠ 0 := fun high => number.resolve_left (Nat.not_lt.2 high)
  simpa [configRequestEffect, takes.hostServed, open_, below, bound] using fun high off => absurd off (allowed high)

theorem configRequest_device_unsupported {n m : Nat} (open_ : (s.part p).state ≠ .contained)
    (no : n = 0xFF ∨ (s.bind p n).kind = 0 ∨ (8 ≤ m ∧ ((s.part p).vdp n).fld .ariForwarding = 0)) (val : Option Nat) :
    configRequestEffect s p rid tag (.device n m) f val = s.cfgAnswer p rid tag .unsupported 0 := by
  have barred : (n = 0xFF || (s.bind p n).kind = 0 || (8 ≤ m && ((s.part p).vdp n).fld .ariForwarding = 0)) = true := by
    simpa [or_assoc] using no
  simp only [configRequestEffect, takes.hostServed, open_, barred, Bool.false_eq_true, if_false, if_true]

end

theorem configRequest_contained {s : State} {p : Nat} (part : p < 64) (home : s.isHome p = true) (contained : (s.part p).state = .contained)
    (rid tag n m : Nat) (f : CfgField) (val : Option Nat) :
    configRequestEffect s p rid tag (.device n m) f val = s.cfgAnswer p rid tag .aborted 0 := by
  have takes : s.TakesSbr p := ⟨part, home, by rw [contained]; nofun, by rw [contained]; nofun⟩
  simp [configRequestEffect, takes.hostServed, contained]

end Sys2Proof.Machine

open Sys2Proof Sys2Proof.Machine

/-- Settles O29: the command's meaning is its effect, and the effect is given by the lemma on its case. -/
theorem partitionConfiguration : Obligations.PartitionConfiguration := by
  intro s u t hu
  subst hu
  have request (p rid tag target f val) : exec (.configRequest t p rid tag target f val) s =
      act2 s t (fun x => configRequestEffect x p rid tag target f val) := rfl
  have answer {p rid tag target f val} {v : State} (e : configRequestEffect (s.tick t) p rid tag target f val = v) :
      AfterAll (.configRequest t p rid tag target f val) s v := afterAll_act2 t _ (request p rid tag target f val) e
  refine ⟨?_, ?_, ?_, ?_, ?_, ?_, ?_, ?_, ?_, ?_, ?_, ?_, ?_, ?_⟩
  · exact fun p rid tag target f val part home resets => answer (configRequest_resets part home resets rid tag target f val)
  · exact fun p rid tag f part home still held free => answer (configRequest_upstream_read ⟨part, home, still, held⟩ rid tag f free)
  · exact fun p rid tag f x part home still held free =>
      answer (configRequest_upstream_write ⟨part, home, still, held⟩ rid tag f free x)
  · exact fun p rid tag n f part home still held free present =>
      answer (configRequest_vdp_read ⟨part, home, still, held⟩ rid tag f free present)
  · exact fun p rid tag n f x part home still held free present =>
      answer (configRequest_vdp_write ⟨part, home, still, held⟩ rid tag f free present x)
  · exact fun p rid tag n f val part home still held free absent =>
      answer (configRequest_vdp_absent ⟨part, home, still, held⟩ rid tag f free absent val)
  · exact fun p rid tag n f part home still held free reached =>
      answer (configRequest_function_read ⟨part, home, still, held⟩ rid tag f free reached)
  · exact fun p rid tag n f x part home still held free reached =>
      answer (configRequest_function_write ⟨part, home, still, held⟩ rid tag f free reached x)
  · exact fun p rid tag n f val part home still held free absent =>
      answer (configRequest_function_absent ⟨part, home, still, held⟩ rid tag f free absent val)
  · exact fun p rid tag target f val part home still held waits local_ =>
      answer (configRequest_later ⟨part, home, still, held⟩ rid tag f waits local_ val)
  · exact fun p rid tag n m f val part home still held open_ below bound number =>
      answer (configRequest_device ⟨part, home, still, held⟩ rid tag f open_ below bound number val)
  · exact fun p rid tag n m f val part home still held open_ no =>
      answer (configRequest_device_unsupported ⟨part, home, still, held⟩ rid tag f open_ no val)
  · exact fun p rid tag n m f val part home contained => answer (configRequest_contained part home contained rid tag n m f val)
  · exact fun p rid tag target f val elsewhere => answer (configRequest_elsewhere elsewhere rid tag target f val)

end

section
/-! SUPPORT. The effects on vectors, events, the bindings of other crowns and shared devices, case by case (R207, R211, R214 to R216, R220,
R222, R229 to R232, R300). -/

namespace Sys2Proof.Machine

/-! ### Forwarded and software events (R215, R220, R222, R300) -/

theorem forwardedEvent_delivered {s : State} {gp p : Nat} (member : s.partOfGp gp = some p) (home : s.isHome p = true)
    (free : s.fabric.bridge = []) (n src code cls ft : Nat) :
    forwardedEventEffect s gp n src code cls ft = s.deliverHome p n src code cls ft := by
  simp [forwardedEventEffect, member, home, free]

theorem forwardedEvent_later {s : State} {gp p : Nat} (member : s.partOfGp gp = some p) (home : s.isHome p = true)
    (held : s.fabric.bridge ≠ []) (n src code cls ft : Nat) :
    forwardedEventEffect s gp n src code cls ft = (s.countHeart 0x385 1).emit (.answer "retry later" [gp]) := by
  simp [forwardedEventEffect, member, home, held]

theorem State.maySoft_installer (s : State) (k : Nat) {src : Nat} (low : 0xC40 ≤ src) (high : src ≤ 0xFFF) :
    s.maySoft (.installer k) src = true := by
  simp [State.maySoft, Role.isInstaller, low, high]

/-- EVENT_MAP sends a source to a partition. -/
def State.SentTo (s : State) (src p : Nat) : Prop :=
  bitOf (s.get (Key.EVENT_MAP + src)) 31 = true ∧ field (s.get (Key.EVENT_MAP + src)) 29 24 = p

theorem State.maySoft_operator {s : State} {p src : Nat} (low : 0xC40 ≤ src) (high : src ≤ 0xFFF) (sent : s.SentTo src p) :
    s.maySoft (.operator p) src = true := by
  obtain ⟨mapped, part⟩ := sent
  simp [State.maySoft, Role.isInstaller, Role.operatorOf, low, high, mapped, part]

theorem State.maySoft_outside {s : State} {src : Nat} (outside : src < 0xC40 ∨ 0xFFF < src) (who : Role) : s.maySoft who src = false := by
  rcases outside with below | above
  · simp [State.maySoft, Nat.not_le.2 below]
  · simp [State.maySoft, Nat.not_le.2 above]

theorem State.maySoft_stranger {s : State} {who : Role} {src : Nat} (user : who.isInstaller = false)
    (unsent : ∀ p, who.operatorOf = some p → ¬ s.SentTo src p) : s.maySoft who src = false := by
  cases operator : who.operatorOf with
  | none => simp [State.maySoft, user, operator]
  | some p => simpa [State.maySoft, user, operator] using fun _ _ mapped part => unsent p operator ⟨mapped, part⟩

/-! ### Bindings to twigs of other crowns (R214, R215) -/

/-- The crown that sends a copy of a binding is the one that has the other copy: to the home crown the one that the binding names, to
another the home crown. -/
def State.OtherCopyAt (s : State) (p n c : Nat) : Prop :=
  s.isHome p = true ∧ (s.bind p n).crown = c ∨ s.isHome p = false ∧ s.homeCrown p = some c

theorem bindingCopy_taken {s : State} {c gp p n : Nat} (free : s.fabric.bridge = []) (member : s.partOfGp gp = some p)
    (sender : s.OtherCopyAt p n c) (hn : n < 255) (other : c ≠ s.crownId) (v : Nat) :
    bindingCopyEffect s c gp n v = (s.modVdp p n (fun b => { b with farCopy := some v })).compareBinding p n := by
  rw [bindingCopyEffect, State.signalled_free free]
  rcases sender with ⟨home, crown⟩ | ⟨away, crown⟩
  · simp [member, home, crown, hn, other]
  · simp [member, away, crown, hn, other]

section
variable {s : State} {c gp p n : Nat} (free : s.fabric.bridge = []) (member : s.partOfGp gp = some p) (bound : (s.bind p n).kind ≠ 0)
include free member bound

theorem remoteSlotState_shown (home : s.isHome p = true) (crown : (s.bind p n).crown = c) (other : c ≠ s.crownId)
    (live : ((s.part p).vdp n).live = true) (pr li x la : Bool) (ra wi ev : Nat) :
    remoteSlotStateEffect s c gp n (.state pr li x la ra wi ev) = s.showRemote p n pr li la ra wi ev := by
  rw [remoteSlotStateEffect, State.signalled_free free]
  simp [member, bound, home, crown, other, live]

theorem remoteSlotState_control (away : s.isHome p = false) (crown : (s.bind p n).crown = s.crownId) (sender : s.homeCrown p = some c)
    (m : SlotMsg) : remoteSlotStateEffect s c gp n m = s.slotControl p n m := by
  rw [remoteSlotStateEffect, State.signalled_free free]
  simp [member, bound, away, crown, sender]

end

/-! ### The deferred reset of a shared device (R229 to R231) -/

theorem sharedResetRequest_installer {s : State} {g : Nat} (twig : g < 160) (k : Nat) :
    sharedResetRequestEffect s (.installer k) g = s.sharedRequest g 1 := if_neg (Nat.not_le.2 twig)

theorem sharedResetRequest_holder {s : State} {g p : Nat} (twig : g < 160) (holder : p ∈ s.holdersOf g) :
    sharedResetRequestEffect s (.operator p) g = s.sharedRequest g 2 := (if_neg (Nat.not_le.2 twig)).trans (if_pos holder)

theorem sharedResetRequest_stranger {s : State} {g p : Nat} (stranger : p ∉ s.holdersOf g) :
    sharedResetRequestEffect s (.operator p) g = s := by
  simp [sharedResetRequestEffect, stranger]

/-! ### The reset of a shared device runs (R211, R232) -/

theorem sharedPerstEnd_releases {s : State} {g : Nat} (twig : g < 160) (mode : (s.sharedOf g).mode = .resetting)
    (asserted : (s.sideband (portOfG g)).perst = true) (long : s.after (s.sharedOf g).since 1000000 = true) :
    sharedPerstEndEffect s g =
      (s.perst (portOfG g) false).modHPort (portOfG g) (fun h => { h with lstate := .detect, detectAt := s.now }) :=
  if_pos (by simp [twig, mode, asserted, long])

theorem sharedPerstEnd_sooner {s : State} {g : Nat} (sooner : s.after (s.sharedOf g).since 1000000 = false) :
    sharedPerstEndEffect s g = s :=
  if_neg (by simp [sooner])

/-- The slot of a holder shows the enumerated device and its link. -/
def State.sliceAppears (s : State) (b : Nat × Nat × Binding) : State :=
  ((s.modVdp b.1 b.2.1 (fun y => { y with present := true })).slotEvent b.1 b.2.1 0).sliceLink b.1 b.2.1

theorem sharedEnumDone_enumerated {s v w : State} {g rid stride : Nat} (twig : g < 160) (mode : (s.sharedOf g).mode = .enumerating)
    (ide : s.ideFailed g = false) (hv : v = s.modShared g (fun x => { x with mode := .idle, rid := rid, stride := stride }))
    (hw : w = v.each (v.slicesOf g) State.sliceAppears) :
    sharedEnumDoneEffect s g rid stride = if (w.sharedOf g).cause = 0 then w else w.noteAt 0xBC4 g 0 := by
  subst hv hw
  rw [sharedEnumDoneEffect, if_pos (by simp [twig, mode, ide])]
  rfl

theorem sharedResetFail_fails {s : State} {g : Nat} (twig : g < 160) (mode : (s.sharedOf g).mode = .resetting)
    (down : (s.hport (portOfG g)).up = false) (long : s.after (s.sharedOf g).since 1000000000 = true) :
    sharedResetFailEffect s g = (s.modShared g (fun x => { x with mode := .idle })).noteAt 0xBC5 g 2 :=
  if_pos (by simp [twig, mode, down, long])

end Sys2Proof.Machine

open Sys2Proof Sys2Proof.Machine

/-- Settles O31: each command's meaning is its effect, and each effect is given by the lemma on its case; MSI-X Enable, the vectors, a
software event and the forced reset are conditional on who asks and what for. -/
theorem partitionEventsAndSharedDevices : Obligations.PartitionEventsAndSharedDevices := by
  intro s u t hu
  subst hu
  have msix (p) : exec (.msixEnable t p) s =
      act1 s t (fun x => if p < 64 && x.isHome p && !((x.part p).fn 0).msixEnable then x.msixOn p 0 else x) := rfl
  have unmask (p n) : exec (.vectorUnmask t p n) s =
      act1 s t (fun x => if p < 64 && x.isHome p && n < 2048 then x.unmask p 0 n else x) := rfl
  have forward (gp n src code cls ft) : exec (.forwardedEvent t gp n src code cls ft) s =
      act1 s t (fun x => forwardedEventEffect x gp n src code cls ft) := rfl
  have soft (who src) : exec (.eventSoft t who src) s = act1 s t (fun x => if x.maySoft who src then x.noteFree src 0 else x) := rfl
  have copy (c gp n v) : exec (.bindingCopy t c gp n v) s = act2 s t (fun x => bindingCopyEffect x c gp n v) := rfl
  have remote (c gp n m) : exec (.remoteSlotState t c gp n m) s = act2 s t (fun x => remoteSlotStateEffect x c gp n m) := rfl
  have request (w g) : exec (.sharedResetRequest t w g) s = act2 s t (fun x => sharedResetRequestEffect x w g) := rfl
  have force (w g) : exec (.sharedResetForce t w g) s = act2 s t (fun x => if w.isInstaller && g < 160 then x.sharedForce g else x) := rfl
  have perst (g) : exec (.sharedPerstEnd t g) s = act1 s t (fun x => sharedPerstEndEffect x g) := rfl
  have enum (g rid stride) : exec (.sharedEnumDone t g rid stride) s = act1 s t (fun x => sharedEnumDoneEffect x g rid stride) := rfl
  have fail (g) : exec (.sharedResetFail t g) s = act2 s t (fun x => sharedResetFailEffect x g) := rfl
  refine ⟨?_, ?_, ?_, ?_, ?_, ?_, ?_, ?_, ?_, ?_, ?_, ?_, ?_, ?_, ?_, ?_, ?_, ?_, ?_, ?_⟩
  · exact fun p part home clear => after_act1 t _ (msix p) (if_pos (by simp [part, home, clear]))
  · exact fun p none_ => after_act1 t _ (msix p) (if_neg (by simpa [imp_iff_not_or, or_assoc] using none_))
  · exact fun p n part home hn => after_act1 t _ (unmask p n) (if_pos (by simp [part, home, hn]))
  · exact fun gp p n src code cls ft member home free =>
      after_act1 t _ (forward gp n src code cls ft) (forwardedEvent_delivered member home free n src code cls ft)
  · exact fun gp p n src code cls ft member home held =>
      after_act1 t _ (forward gp n src code cls ft) (forwardedEvent_later member home held n src code cls ft)
  · exact fun k src low high => after_act1 t _ (soft _ src) (if_pos (State.maySoft_installer _ k low high))
  · exact fun p src low high mapped part => after_act1 t _ (soft _ src) (if_pos (State.maySoft_operator low high ⟨mapped, part⟩))
  · intro who src barred
    refine after_act1 t _ (soft who src) (if_neg (Bool.eq_false_iff.1 ?_))
    rcases barred with below | above | ⟨user, unsent⟩
    · exact State.maySoft_outside (.inl below) who
    · exact State.maySoft_outside (.inr above) who
    · exact State.maySoft_stranger user fun p operator sent =>
        (unsent p operator).elim (fun unmapped => Bool.eq_false_iff.1 unmapped sent.1) (fun foreign => foreign sent.2)
  · exact fun c gp p n v free member sender hn other => afterAll_act2 t _ (copy c gp n v) (bindingCopy_taken free member sender hn other v)
  · exact fun c gp p n pr li x la ra wi ev free member home bound crown other live =>
      afterAll_act2 t _ (remote c gp n _) (remoteSlotState_shown free member bound home crown other live pr li x la ra wi ev)
  · exact fun c gp p n m free member away bound crown sender =>
      afterAll_act2 t _ (remote c gp n m) (remoteSlotState_control free member bound away crown sender m)
  · exact fun k g twig => afterAll_act2 t _ (request _ g) (sharedResetRequest_installer twig k)
  · exact fun p g twig holder => afterAll_act2 t _ (request _ g) (sharedResetRequest_holder twig holder)
  · exact fun p g stranger => afterAll_act2 t _ (request _ g) (sharedResetRequest_stranger stranger)
  · exact fun k g twig => afterAll_act2 t _ (force _ g) (if_pos (by simp [Role.isInstaller, twig]))
  · exact fun who g user => afterAll_act2 t _ (force who g) (if_neg (by simp [user]))
  · exact fun g twig mode asserted long => after_act1 t _ (perst g) (sharedPerstEnd_releases twig mode asserted long)
  · exact fun g sooner => after_act1 t _ (perst g) (sharedPerstEnd_sooner sooner)
  · exact fun g rid stride v w twig mode ide hv hw => after_act1 t _ (enum g rid stride) (sharedEnumDone_enumerated twig mode ide hv hw)
  · exact fun g twig mode down long => afterAll_act2 t _ (fail g) (sharedResetFail_fails twig mode down long)

end

section
/-! SUPPORT. The effects of the SPDM responder's requests, case by case (R225, R373, R456, R457). -/

namespace Sys2Proof.Machine

section
variable {s : State} {p : Nat}

/-! ### Requests while the partition's configuration requests are not served (R225) -/

theorem State.not_doeServes (off : s.doeServes p = false) : (!s.doeServes p) = true := by
  rw [off, Bool.not_false]

theorem State.inSession_unserved (off : s.doeServes p = false) (id : Nat) : s.inSession p id = false := by
  simp [State.inSession, off]

/-! ### Requests within a session (R456) -/

/-- What a request within a finished session comes to: `v` in one, an error without one, nothing where the responder does not serve. -/
def State.withinSession (s : State) (p id : Nat) (v : State) : State :=
  if s.inSession p id then v else if s.doeServes p then s.spdmError p else s

theorem heartbeatEffect_eq (s : State) (p id : Nat) :
    heartbeatEffect s p id = s.withinSession p id (s.spdmSay p "HEARTBEAT_ACK" [id]) := rfl

theorem keyUpdateEffect_eq (s : State) (p id : Nat) : keyUpdateEffect s p id =
    s.withinSession p id ((s.modSpdm p id (fun x => { x with keyPhase := x.keyPhase + 1 })).spdmSay p "KEY_UPDATE_ACK" [id]) := rfl

theorem endSessionEffect_eq (s : State) (p id : Nat) :
    endSessionEffect s p id = s.withinSession p id ((s.endSpdm p id).spdmSay p "END_SESSION_ACK" [id]) := rfl

theorem State.withinSession_in {id : Nat} (session : s.inSession p id = true) (v : State) : s.withinSession p id v = v := if_pos session

theorem State.withinSession_none {id : Nat} (none_ : s.inSession p id = false) (serves : s.doeServes p = true) (v : State) :
    s.withinSession p id v = s.spdmError p := by
  simp [State.withinSession, none_, serves]

theorem State.withinSession_unserved (off : s.doeServes p = false) (id : Nat) (v : State) : s.withinSession p id v = s := by
  simp [State.withinSession, State.inSession_unserved off, off]

/-! ### What the identity key signs (R373, R457) -/

section
variable (serves : s.doeServes p = true)
include serves

theorem getCertificate_slot0 :
    getCertificateEffect s p 0 = s.emit (.answer "CERTIFICATE" [p, Config.rootCert, Config.identityCert]) := by
  simp [getCertificateEffect, serves, State.spdmSay]

theorem getCertificate_otherSlot {n : Nat} (other : n ≠ 0) : getCertificateEffect s p n = s.spdmError p := by
  simp [getCertificateEffect, serves, other]

theorem challenge_signed {n b : Nat} (key : s.sec.zeroized = false)
    (hb : b = Config.spdmBody 0x83 (n + 2 ^ 256 * Config.random s.draws)) :
    challengeEffect s p n =
      s.drew.emit (.answer "CHALLENGE_AUTH" [p, Config.chainDigest, Config.random s.draws, b, Config.identitySign b]) := by
  subst hb
  simp [challengeEffect, serves, State.canSign, key, State.spdmSay]

theorem challenge_zeroized (gone : s.sec.zeroized = true) (n : Nat) : challengeEffect s p n = s.spdmError p := by
  simp [challengeEffect, serves, State.canSign, gone]

/-- The blocks that a measurement answers, in the order of R457. -/
def State.measurementBlocks (s : State) (p : Nat) : List Nat :=
  [Config.romDigest, s.journal.digests.getD s.journal.bootActive 0,
    Config.subordinateDigest (s.journal.digests.getD s.journal.bootActive 0), s.blockPolicy, s.blockPart p, Config.deviceSerial, s.crownId,
    s.groveId p, p, (s.part p).measGen.toNat] ++ s.blockMembers p

theorem getMeasurements_signed {b : List Nat} (key : s.sec.zeroized = false) (hb : b = s.measurementBlocks p) (n : Nat) :
    getMeasurementsEffect s p n = s.drew.emit (.answer "MEASUREMENTS" (p :: (b ++ [Config.identitySign
      (Config.spdmBody 0xE0 (b.foldl (fun h b => Config.sha384 (beBytes 48 h ++ beBytes 48 b)) n))]))) := by
  subst hb
  rw [getMeasurementsEffect, if_neg (by simp [serves]), if_neg (by simp [State.canSign, key])]
  rfl

theorem getMeasurements_zeroized (gone : s.sec.zeroized = true) (n : Nat) : getMeasurementsEffect s p n = s.spdmError p := by
  simp [getMeasurementsEffect, serves, State.canSign, gone]

/-! ### A session begins and its handshake ends (R456) -/

theorem keyExchange_begins {id : Nat} (key : s.sec.zeroized = false) (room : (s.part p).spdm.length < 4) (fresh : s.spdmOf p id = none) :
    keyExchangeEffect s p id =
      (s.modPart p (fun x => { x with spdm := x.spdm ++ [{ id := id, finished := false, keyPhase := 0 }] })).drew.emit
        (.answer "KEY_EXCHANGE_RSP" [p, id, Config.spdmBody 0xE4 (Config.random s.draws),
          Config.identitySign (Config.spdmBody 0xE4 (Config.random s.draws))]) := by
  rw [keyExchangeEffect, if_neg (by simp [serves]), if_neg (by simp [State.canSign, key, room, fresh])]
  rfl

theorem keyExchange_refused {id : Nat} (no : s.sec.zeroized = true ∨ 4 ≤ (s.part p).spdm.length ∨ (s.spdmOf p id).isSome = true) :
    keyExchangeEffect s p id = s.spdmError p := by
  rw [keyExchangeEffect, if_neg (by simp [serves]), if_pos (by simpa [State.canSign, or_assoc] using no)]

theorem finish_begun {id : Nat} {x : SpdmSession} (begun : s.spdmOf p id = some x) (open_ : x.finished = false) (ok : Bool) :
    finishEffect s p id ok =
      if ok then (s.modSpdm p id (fun x => { x with finished := true })).emit (.answer "FINISH_RSP" [p, id])
      else (s.endSpdm p id).spdmError p := by
  simp [finishEffect, serves, begun, open_, State.spdmSay]

theorem finish_again {id : Nat} {x : SpdmSession} (begun : s.spdmOf p id = some x) (ended : x.finished = true) (ok : Bool) :
    finishEffect s p id ok = s.spdmError p := by
  simp [finishEffect, serves, begun, ended]

theorem finish_none {id : Nat} (none_ : s.spdmOf p id = none) (ok : Bool) : finishEffect s p id ok = s.spdmError p := by
  simp [finishEffect, serves, none_]

end

end

end Sys2Proof.Machine

open Sys2Proof Sys2Proof.Machine

/-- Settles O50: each command's meaning is its effect, and each effect is given by the lemma on its case; four requests are answered
wherever the responder serves. -/
theorem spdmResults : Obligations.SpdmResults := by
  intro s u t hu
  subst hu
  have version (p) : exec (.getVersion t p) s = act1 s t (fun x => getVersionEffect x p) := rfl
  have capabilities (p) : exec (.getCapabilities t p) s = act1 s t (fun x => getCapabilitiesEffect x p) := rfl
  have algorithms (p) : exec (.negotiateAlgorithms t p) s = act1 s t (fun x => negotiateAlgorithmsEffect x p) := rfl
  have digests (p) : exec (.getDigests t p) s = act1 s t (fun x => getDigestsEffect x p) := rfl
  have certificate (p n) : exec (.getCertificate t p n) s = act1 s t (fun x => getCertificateEffect x p n) := rfl
  have challenge (p n) : exec (.challenge t p n) s = act1 s t (fun x => challengeEffect x p n) := rfl
  have measurements (p n) : exec (.getMeasurements t p n) s = act1 s t (fun x => getMeasurementsEffect x p n) := rfl
  have exchange (p id) : exec (.keyExchange t p id) s = act1 s t (fun x => keyExchangeEffect x p id) := rfl
  have finish (p id ok) : exec (.finish t p id ok) s = act1 s t (fun x => finishEffect x p id ok) := rfl
  have heartbeat (p id) : exec (.heartbeat t p id) s = act1 s t (fun x => heartbeatEffect x p id) := rfl
  have update (p id) : exec (.keyUpdate t p id) s = act1 s t (fun x => keyUpdateEffect x p id) := rfl
  have end_ (p id) : exec (.endSession t p id) s = act1 s t (fun x => endSessionEffect x p id) := rfl
  refine ⟨?_, ?_, ?_, ?_, ?_, ?_, ?_, ?_, ?_, ?_, ?_, ?_, ?_, ?_, ?_, ?_, ?_, ?_, ?_, ?_,
    ?_, ?_, ?_, ?_, ?_, ?_, ?_, ?_, ?_, ?_, ?_, ?_, ?_, ?_, ?_⟩
  · exact fun p serves => after_act1 t _ (version p) (if_pos serves)
  · exact fun p serves => after_act1 t _ (capabilities p) (if_pos serves)
  · exact fun p serves => after_act1 t _ (algorithms p) (if_pos serves)
  · exact fun p serves => after_act1 t _ (digests p) (if_pos serves)
  · exact fun p serves => after_act1 t _ (certificate p 0) (getCertificate_slot0 serves)
  · exact fun p n serves other => after_act1 t _ (certificate p n) (getCertificate_otherSlot serves other)
  · exact fun p n b serves key hb => after_act1 t _ (challenge p n) (challenge_signed serves key hb)
  · exact fun p n serves gone => after_act1 t _ (challenge p n) (challenge_zeroized serves gone n)
  · exact fun p n b serves key hb => after_act1 t _ (measurements p n) (getMeasurements_signed serves key hb n)
  · exact fun p id serves key room fresh => after_act1 t _ (exchange p id) (keyExchange_begins serves key room fresh)
  · exact fun p id serves full => after_act1 t _ (exchange p id) (keyExchange_refused serves (.inr (.inl full)))
  · exact fun p id x serves begun open_ => after_act1 t _ (finish p id true) (finish_begun serves begun open_ true)
  · exact fun p id x serves begun open_ => after_act1 t _ (finish p id false) (finish_begun serves begun open_ false)
  · exact fun p id session => after_act1 t _ (heartbeat p id) ((heartbeatEffect_eq _ p id).trans (State.withinSession_in session _))
  · exact fun p id none_ serves => after_act1 t _ (heartbeat p id) ((heartbeatEffect_eq _ p id).trans (State.withinSession_none none_ serves _))
  · exact fun p id session => after_act1 t _ (update p id) ((keyUpdateEffect_eq _ p id).trans (State.withinSession_in session _))
  · exact fun p id session => after_act1 t _ (end_ p id) ((endSessionEffect_eq _ p id).trans (State.withinSession_in session _))
  · exact fun p id x ok serves begun ended => after_act1 t _ (finish p id ok) (finish_again serves begun ended ok)
  · exact fun p id ok serves none_ => after_act1 t _ (finish p id ok) (finish_none serves none_ ok)
  · exact fun p id none_ serves => after_act1 t _ (update p id) ((keyUpdateEffect_eq _ p id).trans (State.withinSession_none none_ serves _))
  · exact fun p id none_ serves => after_act1 t _ (end_ p id) ((endSessionEffect_eq _ p id).trans (State.withinSession_none none_ serves _))
  · exact fun p n serves gone => after_act1 t _ (measurements p n) (getMeasurements_zeroized serves gone n)
  · exact fun p id serves no => after_act1 t _ (exchange p id) (keyExchange_refused serves (no.imp_right .inr))
  · exact fun p off => after_act1 t _ (version p) (if_neg (Bool.eq_false_iff.1 off))
  · exact fun p off => after_act1 t _ (capabilities p) (if_neg (Bool.eq_false_iff.1 off))
  · exact fun p off => after_act1 t _ (algorithms p) (if_neg (Bool.eq_false_iff.1 off))
  · exact fun p off => after_act1 t _ (digests p) (if_neg (Bool.eq_false_iff.1 off))
  · exact fun p n off => after_act1 t _ (certificate p n) (if_pos (State.not_doeServes off))
  · exact fun p n off => after_act1 t _ (challenge p n) (if_pos (State.not_doeServes off))
  · exact fun p n off => after_act1 t _ (measurements p n) (if_pos (State.not_doeServes off))
  · exact fun p id off => after_act1 t _ (exchange p id) (if_pos (State.not_doeServes off))
  · exact fun p id ok off => after_act1 t _ (finish p id ok) (if_pos (State.not_doeServes off))
  · exact fun p id off => after_act1 t _ (heartbeat p id) ((heartbeatEffect_eq _ p id).trans (State.withinSession_unserved off id _))
  · exact fun p id off => after_act1 t _ (update p id) ((keyUpdateEffect_eq _ p id).trans (State.withinSession_unserved off id _))
  · exact fun p id off => after_act1 t _ (end_ p id) ((endSessionEffect_eq _ p id).trans (State.withinSession_unserved off id _))

end

section
/-! SUPPORT. The effects of the protection epoch and of the gate scrubber, case by case (R270 to R272). -/

namespace Sys2Proof.Machine

/-! ### The protection epoch (R270) -/

theorem protDrainComplete_drains {s : State} {n : Nat} (reached : n ≤ s.gates.epoch.toNat) (above : s.gates.drained.toNat < n)
    (gone : s.drainedTo n = true) : protDrainCompleteEffect s n = s.modGates (fun x => { x with drained := BitVec.ofNat 32 n }) :=
  if_pos (by simp [reached, above, gone])

theorem protDrainComplete_stays {s : State} {n : Nat}
    (no : s.gates.epoch.toNat < n ∨ n ≤ s.gates.drained.toNat ∨ s.drainedTo n = false) : protDrainCompleteEffect s n = s :=
  if_neg (by simpa [imp_iff_not_or, or_assoc] using no)

theorem protDrainSlow_raises {s : State} (trails : s.gates.drained ≠ s.gates.epoch) (first : s.gates.slowRaised = false)
    (long : s.after s.gates.epochAt 10000000 = true) :
    protDrainSlowEffect s = (s.modGates (fun x => { x with slowRaised := true })).noteFree 0xBCF 0 :=
  if_pos (by simp [trails, first, long])

theorem protDrainSlow_stays {s : State}
    (no : s.gates.drained = s.gates.epoch ∨ s.gates.slowRaised = true ∨ s.after s.gates.epochAt 10000000 = false) :
    protDrainSlowEffect s = s :=
  if_neg (by simpa [imp_iff_not_or, or_assoc] using no)

/-! ### The scrubber and the stems' copies (R271, R272) -/

/-- The regions looked at are those before the visit: they stand in the dictionary, which the scrubber's progress does not touch. -/
theorem gateScrubVisit_visits {s v w : State} {gate : Nat} (ok : Bool) (is : gate < 160)
    (hv : v = s.modGates (fun x => if (insertNew s.gates.scrubbed gate).length = 160 then
      { x with scrubbed := [], scrubPass := x.scrubPass + 1 } else { x with scrubbed := insertNew s.gates.scrubbed gate }))
    (hw : w = (if overlapIn (s.regions gate) then v.noteAt 0xBCD gate 3 else v)) :
    gateScrubVisitEffect s gate ok = if ok then w else w.noteAt 0xBCE gate 3 := by
  subst hv hw
  exact if_neg (Nat.not_le.2 is)

theorem gateScrubVisit_none {s : State} {gate : Nat} (ok : Bool) (none_ : 160 ≤ gate) : gateScrubVisitEffect s gate ok = s :=
  if_pos none_

theorem gateCopyError_event {s : State} {stem gate : Nat} (correctable : Bool) (hs : stem < 4) (hg : gate < 160) :
    gateCopyErrorEffect s stem gate correctable =
      (if correctable then s else s.modGates (fun x => { x with heldGates := insertNew x.heldGates (stem, gate) })).noteFree
        (srcBough (10 * stem) 2) 1 :=
  if_neg (by simp [hs, hg])

theorem gateCopyError_none {s : State} {stem gate : Nat} (correctable : Bool) (none_ : 4 ≤ stem ∨ 160 ≤ gate) :
    gateCopyErrorEffect s stem gate correctable = s :=
  if_pos (by simpa using none_)

end Sys2Proof.Machine

open Sys2Proof Sys2Proof.Machine

/-- Settles O32: each command's meaning is its effect, and each effect is given by the lemma on its case. -/
theorem gateCommands : Obligations.GateCommands := by
  intro s u t hu
  subst hu
  have drain (n) : exec (.protDrainComplete t n) s = act1 s t (fun x => protDrainCompleteEffect x n) := rfl
  have slow : exec (.protDrainSlow t) s = act1 s t protDrainSlowEffect := rfl
  have visit (gate ok) : exec (.gateScrubVisit t gate ok) s = act2 s t (fun x => gateScrubVisitEffect x gate ok) := rfl
  have error (st gate ok) : exec (.gateCopyError t st gate ok) s = act2 s t (fun x => gateCopyErrorEffect x st gate ok) := rfl
  refine ⟨?_, ?_, ?_, ?_, ?_, ?_, ?_, ?_, ?_⟩
  · exact fun n reached above gone => after_act1 t _ (drain n) (protDrainComplete_drains reached above gone)
  · exact fun n no => after_act1 t _ (drain n) (protDrainComplete_stays no)
  · exact fun trails first long => after_act1 t _ slow (protDrainSlow_raises trails first long)
  · exact fun no => after_act1 t _ slow (protDrainSlow_stays no)
  · exact fun gate ok v w is hv hw => afterAll_act2 t _ (visit gate ok) (gateScrubVisit_visits ok is hv hw)
  · exact fun gate ok none_ => afterAll_act2 t _ (visit gate ok) (gateScrubVisit_none ok none_)
  · exact fun st gate hs hg => afterAll_act2 t _ (error st gate false) (gateCopyError_event false hs hg)
  · exact fun st gate hs hg => afterAll_act2 t _ (error st gate true) (gateCopyError_event true hs hg)
  · exact fun st gate ok none_ => afterAll_act2 t _ (error st gate ok) (gateCopyError_none ok none_)

end

section
/-! SUPPORT. The effects of the management bridge and of the slot sideband signals, case by case (R268, R299 to R302, R541). -/

namespace Sys2Proof.Machine

/-! ### The parts of an access (R268) -/

/-- A piece that ends within its page is not split, whatever number of splits is left. -/
theorem split4K_withinPage {addr n : Nat} (some_ : 0 < n) (fits : n ≤ 4096 - addr % 4096) (k : Nat) : split4K addr k n = [(addr, n)] := by
  obtain ⟨m, rfl⟩ := Nat.exists_eq_succ_of_ne_zero some_.ne'
  cases k with
  | zero => simp [split4K]
  | succ k => simp [split4K, Nat.min_eq_left fits]

theorem parts4K_withinPage {addr n : Nat} (some_ : 0 < n) (fits : n ≤ 4096 - addr % 4096) : parts4K addr n = [(addr, n)] :=
  split4K_withinPage some_ fits _

/-! ### A core's reads and writes (R299) -/

section
variable {s : State} {core : Nat} (part : Option Nat) (target : BridgeTarget)

theorem bridgeRead_starts {addr len : Nat} {b : BridgeRead} (hc : core < 8) (free : s.fabric.bridge.any (·.core == core) = false)
    (parts : bridgeParts core addr len ≠ [])
    (hb : b = { core := core, since := s.now, part := part, target := target, parts := bridgeParts core addr len }) :
    bridgeReadEffect s core part target addr len =
      ((s.countHeart 0x383 1).modFabric (fun f => { f with bridge := f.bridge ++ [b] })).bridgeGo b b.parts := by
  subst hb
  exact (if_neg (by simp [hc, free])).trans (if_neg (by simpa using parts))

theorem bridgeRead_empty {addr len : Nat} (hc : core < 8) (free : s.fabric.bridge.any (·.core == core) = false)
    (none_ : bridgeParts core addr len = []) : bridgeReadEffect s core part target addr len = s.countHeart 0x383 1 :=
  (if_neg (by simp [hc, free])).trans (if_pos (by simp [none_]))

theorem bridgeRead_barred (addr len : Nat) (barred : 8 ≤ core ∨ s.fabric.bridge.any (·.core == core) = true) :
    bridgeReadEffect s core part target addr len = s :=
  if_pos (by simpa only [Bool.or_eq_true, decide_eq_true_eq] using barred)

theorem bridgeWrite_goes (addr : Nat) (data : List Byte) (hc : core < 8) :
    bridgeWriteEffect s core part target addr data =
      s.each (bridgeParts core addr data.length) (fun v k =>
        v.coreAccess core part target .memWrite k.tag k.addr k.len ((data.drop (k.addr - addr)).take k.len)) :=
  if_neg (Nat.not_le.2 hc)

end

/-! ### A read that is late, and one that is sent again (R299, R300) -/

section
variable {s : State} {core : Nat} {b : BridgeRead} (held : s.fabric.bridge.find? (·.core == core) = some b)
include held

theorem bridgeReadTimeout_ends {v w : State} (late : s.after b.since 50000000 = true)
    (hv : v = s.modCore (fun x => { x with outstanding := x.outstanding.filter (fun r => r.src ≠ srcCore core) }))
    (hw : w = v.modFabric (fun f => { f with
      lateReads := f.lateReads ++ (s.core.outstanding.filter (fun r => r.src == srcCore core)).map (fun r => (r.reqId, r.tag)),
      tracks := f.tracks.map (fun k =>
        if k.src = srcCore core && k.quarantined.isNone then { k with quarantined := some s.now } else k),
      bridge := f.bridge.filter (·.core ≠ core) })) :
    bridgeReadTimeoutEffect s core = ((w.countHeart 0x384 1).emit (.answer "bus error" [core])).noteAt 0xC08 core 0 := by
  subst hv hw
  rw [bridgeReadTimeoutEffect, held]
  exact if_neg (by simp [late])

theorem bridgeReadTimeout_sooner (sooner : s.after b.since 50000000 = false) : bridgeReadTimeoutEffect s core = s := by
  rw [bridgeReadTimeoutEffect, held]
  exact if_pos (by simp [sooner])

theorem bridgeReadRetry_again {due : BridgePart → Bool} (hdue : ∀ k, due k = k.retryAt.any (fun at_ => s.after at_ 1000)) :
    bridgeReadRetryEffect s core =
      (s.modFabric (fun f => { f with bridge := f.bridge.map (fun e =>
        if e.core = core then { e with parts := e.parts.map (fun k => if due k then { k with retryAt := none } else k) }
        else e) })).bridgeGo b (b.parts.filter due) := by
  obtain rfl : due = fun k => match k.retryAt with
      | some at_ => s.after at_ 1000
      | none => false := by
    funext k
    rw [hdue k]
    cases k.retryAt <;> rfl
  unfold bridgeReadRetryEffect
  rewrite [held]
  rfl

end

/-! ### Polls and indicators (R301, R541) -/

section
variable {s : State} {p : Nat}

theorem indicatorBlink_attention (port : p < 144) (blinks : (s.sideband p).attnBlink = true) :
    indicatorBlinkEffect s p false =
      (s.modSideband p (fun x => { x with attnOn := !x.attnOn })).driveOut p 2 (!(s.sideband p).attnOn) :=
  (if_neg (Nat.not_le.2 port)).trans (if_pos blinks)

theorem indicatorBlink_power (port : p < 144) (blinks : (s.sideband p).powerBlink = true) :
    indicatorBlinkEffect s p true =
      (s.modSideband p (fun x => { x with powerOn := !x.powerOn })).driveOut p 3 (!(s.sideband p).powerOn) :=
  (if_neg (Nat.not_le.2 port)).trans (if_pos blinks)

theorem indicatorBlink_attention_steady (steady : (s.sideband p).attnBlink = false) : indicatorBlinkEffect s p false = s := by
  simp [indicatorBlinkEffect, steady]

theorem indicatorBlink_power_steady (steady : (s.sideband p).powerBlink = false) : indicatorBlinkEffect s p true = s := by
  simp [indicatorBlinkEffect, steady]

end

end Sys2Proof.Machine

open Sys2Proof Sys2Proof.Machine

/-- Settles O35: each command's meaning is its effect, and each effect is given by the lemma on its case. -/
theorem managementBridge : Obligations.ManagementBridge := by
  intro s u t hu
  subst hu
  have read (c p gate a n) : exec (.bridgeRead t c p gate a n) s = act2 s t (fun x => bridgeReadEffect x c p gate a n) := rfl
  have write (c p gate a d) : exec (.bridgeWrite t c p gate a d) s = act2 s t (fun x => bridgeWriteEffect x c p gate a d) := rfl
  have timeout (c) : exec (.bridgeReadTimeout t c) s = act1 s t (fun x => bridgeReadTimeoutEffect x c) := rfl
  have retry (c) : exec (.bridgeReadRetry t c) s = act2 s t (fun x => bridgeReadRetryEffect x c) := rfl
  have poll (l) : exec (.sidebandPoll t l) s = act2 s t (fun x => sidebandPollEffect x l) := rfl
  have blink (p power) : exec (.indicatorBlink t p power) s = act1 s t (fun x => indicatorBlinkEffect x p power) := rfl
  refine ⟨?_, ?_, ?_, ?_, ?_, ?_, ?_, ?_, ?_, ?_, ?_, ?_, ?_, ?_⟩
  · exact fun c p gate a n b hc free parts hb => afterAll_act2 t _ (read c p gate a n) (bridgeRead_starts p gate hc free parts hb)
  · exact fun c p gate a n hc free none_ => afterAll_act2 t _ (read c p gate a n) (bridgeRead_empty p gate hc free none_)
  · exact fun c p gate a n barred => afterAll_act2 t _ (read c p gate a n) (bridgeRead_barred p gate a n barred)
  · exact fun c p gate a d hc => afterAll_act2 t _ (write c p gate a d) (bridgeWrite_goes p gate a d hc)
  · exact fun a n fits some_ aligned => parts4K_withinPage some_ (by omega)
  · exact fun c b v w held late hv hw => after_act1 t _ (timeout c) (bridgeReadTimeout_ends held late hv hw)
  · exact fun c b held sooner => after_act1 t _ (timeout c) (bridgeReadTimeout_sooner held sooner)
  · exact fun c b due held hdue => afterAll_act2 t _ (retry c) (bridgeReadRetry_again held hdue)
  · exact fun l runs => afterAll_act2 t _ (poll l) (if_pos runs)
  · exact fun l lost => afterAll_act2 t _ (poll l) (if_neg (Bool.eq_false_iff.1 lost))
  · exact fun p port blinks => after_act1 t _ (blink p false) (indicatorBlink_attention port blinks)
  · exact fun p port blinks => after_act1 t _ (blink p true) (indicatorBlink_power port blinks)
  · exact fun p steady => after_act1 t _ (blink p false) (indicatorBlink_attention_steady steady)
  · exact fun p steady => after_act1 t _ (blink p true) (indicatorBlink_power_steady steady)

end

section
/-! SUPPORT. The effects of rebalances, unreachable crowns and fences, case by case (R280, R282, R284 to R287). -/

namespace Sys2Proof.Machine

/-! ### Rebalances (R282) -/

theorem rebalanceStart_settled {s : State} {q : Nat} (trunk : q < 16) (up : s.trunkUp q = true) (on : s.get Key.ROUTE_SETTLE ≠ 0)
    (long : s.after (assocGetD s.fabric.settleAt q 0) (s.get Key.ROUTE_SETTLE * 1000000) = true) :
    rebalanceStartEffect s q = s.each (s.interimOf q) (fun v r => v.pauseFor r q) :=
  if_pos (by simp [trunk, up, on, long])

theorem rebalanceStart_unsettled {s : State} {q : Nat}
    (no : s.trunkUp q = false ∨ s.get Key.ROUTE_SETTLE = 0 ∨
      s.after (assocGetD s.fabric.settleAt q 0) (s.get Key.ROUTE_SETTLE * 1000000) = false) :
    rebalanceStartEffect s q = s := by
  refine if_neg ?_
  rcases no with down | off | early
  · simp [down]
  · simp [off]
  · simp [early]

/-- Step 1 for one interim flow: its trunk pauses where its home trunk is in L0. -/
def State.pauseInterim (s : State) (e : Nat × Nat × Nat) : State :=
  match s.homeMember e.1 e.2.1 with
  | some q => if s.trunkUp q then s.pauseFor e.2.2 q else s
  | none => s

theorem routeRebalanceEffect_eq (s : State) (d : Nat) :
    routeRebalanceEffect s d = s.each (s.fabric.interim.filter (fun e => d = 0xFFFF ∨ e.1 = d % 1024)) State.pauseInterim := by
  simp only [routeRebalanceEffect, Bool.decide_or]
  rfl

theorem rebalanceComplete_drained {s : State} {r : Nat} (held : s.fabric.rebalances.filter (·.interim == r) ≠ [])
    (drained : s.drained r = true) :
    rebalanceCompleteEffect s r =
      (s.each ((s.fabric.rebalances.filter (·.interim == r)).filter (fun b => s.trunkUp b.home))
        (fun v b => v.moveHome r b.home)).resumeTrunk r :=
  if_pos (by rw [drained, List.isEmpty_eq_false_iff.2 held]; rfl)

theorem rebalanceComplete_undrained {s : State} {r : Nat} (undrained : s.drained r = false) : rebalanceCompleteEffect s r = s :=
  if_neg (by simp [undrained])

theorem rebalanceAbandoned_late {s : State} {r : Nat}
    (late : (s.fabric.rebalances.filter (·.interim == r)).any (fun b => s.after b.since 100000) = true)
    (undrained : s.drained r = false) :
    rebalanceAbandonedEffect s r =
      ((s.modFabric (fun f => { f with
        settleAt := (s.fabric.rebalances.filter (·.interim == r)).foldl (fun l b => assocPut l b.home s.now) f.settleAt
      })).resumeTrunk r).noteAt 0xC05 r 0 :=
  if_pos (by rw [late, undrained]; rfl)

theorem rebalanceAbandoned_stays {s : State} {r : Nat}
    (no : (s.fabric.rebalances.filter (·.interim == r)).any (fun b => s.after b.since 100000) = false ∨ s.drained r = true) :
    rebalanceAbandonedEffect s r = s := by
  refine if_neg ?_
  rcases no with early | drained
  · simp only [early, Bool.false_and, Bool.false_eq_true, not_false_eq_true]
  · simp [drained]

/-! ### Lost trunks (R284, R285) -/

theorem State.all_trunkLost_eq_false {s : State} {l : List Nat} {q : Nat} (member : q ∈ l) (kept : s.trunkLost q = false) :
    l.all s.trunkLost = false :=
  List.all_eq_false.2 ⟨q, member, Bool.eq_false_iff.1 kept⟩

theorem routeUnreachable_lost {s : State} {d : Nat} (crown : d < 1024) (other : d ≠ s.crownId)
    (members : (s.membersFor d).isEmpty = false) (lost : (s.membersFor d).all s.trunkLost = true) :
    routeUnreachableEffect s d = s.giveUp d :=
  if_pos (by rw [members, lost]; simp [crown, other])

theorem routeUnreachable_stays {s : State} {d q : Nat} (member : q ∈ s.membersFor d) (kept : s.trunkLost q = false) :
    routeUnreachableEffect s d = s :=
  if_neg (by simp [State.all_trunkLost_eq_false member kept])

theorem fenceByTrunkLoss_lost {s : State} {c : Nat} (crown : c < 1024) (other : c ≠ s.crownId)
    (trunks : (s.trunksTo c).isEmpty = false) (lost : (s.trunksTo c).all s.trunkLost = true)
    (down : (s.membersFor c).all (fun q => !s.trunkUp q) = true) (unfenced : (c, FenceCode.trunkLoss) ∉ s.fabric.fences) :
    fenceByTrunkLossEffect s c = (s.fenceOn c .trunkLoss).fenceNotice c true :=
  if_pos (by rw [trunks, lost, down]; simp [crown, other, unfenced])

theorem fenceByTrunkLoss_stays {s : State} {c q : Nat} (trunk : q ∈ s.trunksTo c) (kept : s.trunkLost q = false) :
    fenceByTrunkLossEffect s c = s :=
  if_neg (by simp [State.all_trunkLost_eq_false trunk kept])

/-! ### Notices (R286) -/

@[simp] theorem State.sendControl_dict (s : State) (ok : Nat → Bool) (c : Control) : (s.sendControl ok c).dict = s.dict := by
  rw [State.sendControl]
  refine State.each_keeps State.dict _ _ ?_ s
  exact fun v q => v.modTx_dict q _

@[simp] theorem State.sendControl_crownId (s : State) (ok : Nat → Bool) (c : Control) : (s.sendControl ok c).crownId = s.crownId := by
  rw [State.crownId, State.get, State.sendControl_dict, State.crownId, State.get]

/-- A notice from another crown that is newer than the last of its issuer for its crown is kept, forwarded and acted on. -/
theorem fenceNotice_newer {s v : State} {q : Nat} {n : FenceMsg} (foreign : n.issuer ≠ s.crownId)
    (newer : ∀ k, assocGet s.fabric.fenceSeen (n.crown, n.issuer) = some k → newer16 n.number k = true)
    (hv : v = (s.modFabric (fun f => { f with fenceSeen := assocPut f.fenceSeen (n.crown, n.issuer) n.number })).sendControl
      (fun r => r ≠ q) (.fence n)) :
    fenceNoticeEffect s q n =
      if n.crown = s.crownId then (if n.set then v.modFabric (fun f => { f with ownFenced := true }) else v)
      else if n.set then v.fenceOn n.crown .notice else v.fenceOff n.crown .notice := by
  have crown : v.crownId = s.crownId := by
    rw [hv, State.sendControl_crownId]
    rfl
  rw [← crown]
  subst hv
  cases seen : assocGet s.fabric.fenceSeen (n.crown, n.issuer) with
  | none => simp [fenceNoticeEffect, seen, foreign]
  | some k => simp [fenceNoticeEffect, seen, foreign, newer k seen]

theorem fenceNotice_ignored {s : State} {n : FenceMsg} (q : Nat)
    (no : n.issuer = s.crownId ∨ ∃ k, assocGet s.fabric.fenceSeen (n.crown, n.issuer) = some k ∧ newer16 n.number k = false) :
    fenceNoticeEffect s q n = s := by
  rcases no with own | ⟨k, seen, older⟩
  · simp [fenceNoticeEffect, own]
  · simp [fenceNoticeEffect, seen, older]

end Sys2Proof.Machine

open Sys2Proof Sys2Proof.Machine

/-- Settles O33: each command's meaning is its effect, and each effect is given by the lemma on its case; a rebalance and a fence by hand
are conditional on who asks. -/
theorem routingResults : Obligations.RoutingResults := by
  intro s u t hu
  subst hu
  have start (q) : exec (.rebalanceStart t q) s = act1 s t (fun x => rebalanceStartEffect x q) := rfl
  have rebalance (who d) : exec (.routeRebalance t who d) s =
      act1 s t (fun x => if who.isInstaller then routeRebalanceEffect x d else x) := rfl
  have complete (r) : exec (.rebalanceComplete t r) s = act1 s t (fun x => rebalanceCompleteEffect x r) := rfl
  have abandon (r) : exec (.rebalanceAbandoned t r) s = act1 s t (fun x => rebalanceAbandonedEffect x r) := rfl
  have unreachable (d) : exec (.routeUnreachable t d) s = act2 s t (fun x => routeUnreachableEffect x d) := rfl
  have fence (c) : exec (.fenceByTrunkLoss t c) s = act2 s t (fun x => fenceByTrunkLossEffect x c) := rfl
  have notice (q n) : exec (.fenceNotice t q n) s = act2 s t (fun x => fenceNoticeEffect x q n) := rfl
  have force (who c) : exec (.fenceForceSet t who c) s =
      act2 s t (fun x => if who.isInstaller && c < 1024 && c ≠ x.crownId then x.fenceOn c .installer else x) := rfl
  have clear (who c) : exec (.fenceForceClear t who c) s =
      act1 s t (fun x => if who.isInstaller && c < 1024 then x.fenceOff c .installer else x) := rfl
  refine ⟨?_, ?_, ?_, ?_, ?_, ?_, ?_, ?_, ?_, ?_, ?_, ?_, ?_, ?_, ?_, ?_, ?_, ?_⟩
  · exact fun q trunk up on long => after_act1 t _ (start q) (rebalanceStart_settled trunk up on long)
  · exact fun q no => after_act1 t _ (start q) (rebalanceStart_unsettled no)
  · exact fun k d => after_act1 t _ (rebalance (.installer k) d) (routeRebalanceEffect_eq _ d)
  · exact fun who d user => after_act1 t _ (rebalance who d) (if_neg (Bool.eq_false_iff.1 user))
  · exact fun r held drained => after_act1 t _ (complete r) (rebalanceComplete_drained held drained)
  · exact fun r undrained => after_act1 t _ (complete r) (rebalanceComplete_undrained undrained)
  · exact fun r late undrained => after_act1 t _ (abandon r) (rebalanceAbandoned_late late undrained)
  · exact fun r no => after_act1 t _ (abandon r) (rebalanceAbandoned_stays no)
  · exact fun d crown other members lost => afterAll_act2 t _ (unreachable d) (routeUnreachable_lost crown other members lost)
  · exact fun d q member kept => afterAll_act2 t _ (unreachable d) (routeUnreachable_stays member kept)
  · exact fun c crown other trunks lost down unfenced =>
      afterAll_act2 t _ (fence c) (fenceByTrunkLoss_lost crown other trunks lost down unfenced)
  · exact fun c q trunk kept => afterAll_act2 t _ (fence c) (fenceByTrunkLoss_stays trunk kept)
  · exact fun q n v foreign newer hv => afterAll_act2 t _ (notice q n) (fenceNotice_newer foreign newer hv)
  · exact fun q n no => afterAll_act2 t _ (notice q n) (fenceNotice_ignored q no)
  · exact fun k c crown other => afterAll_act2 t _ (force _ c) (if_pos (by simp [Role.isInstaller, crown, other]))
  · exact fun k c crown => after_act1 t _ (clear _ c) (if_pos (by simp [Role.isInstaller, crown]))
  · exact fun who c user => afterAll_act2 t _ (force who c) (if_neg (by simp [user]))
  · exact fun who c user => after_act1 t _ (clear who c) (if_neg (by simp [user]))

end

section
/-! SUPPORT. The effects of tracking entries, proxy tags, far-failure notices and locks, case by case (R289 to R291, R293 to R298). -/

namespace Sys2Proof.Machine

/-! ### Tracking entries (R291) -/

section
variable {s : State} {n : Nat} {k : Track} (held : s.fabric.tracks.find? (·.index == n) = some k)
include held

theorem npTimeoutExpired_ends {v w : State} (active : k.quarantined = none) (sent : k.sent ≠ 0)
    (late : s.after k.sent (s.npTimeout k.part) = true)
    (hv : v = (s.endTrack k .aborted).modFabric (fun f => { f with
      tracks := f.tracks.map (fun e => if e.index = n then { e with quarantined := some (s.endTrack k .aborted).now } else e) }))
    (hw : w = v.logEntry { desc := k.descBits, header := k.header, ft := v.stampFt, source := 0xC01, cause := 0, histSeq := none,
                           inj := false }) :
    npTimeoutExpiredEffect s n = (w.countHeart 0x381 1).noteAt 0xC01 k.part 0 := by
  subst hv hw
  rw [npTimeoutExpiredEffect, held]
  exact if_neg (by simp [active, sent, late])

theorem npTimeoutExpired_left
    (no : k.quarantined.isSome = true ∨ k.sent = 0 ∨ s.after k.sent (s.npTimeout k.part) = false) :
    npTimeoutExpiredEffect s n = s := by
  rw [npTimeoutExpiredEffect, held]
  exact if_pos (by simpa [or_assoc] using no)

theorem trackQuarantineEnd_frees {at_ : Nat} (quarantined : k.quarantined = some at_)
    (late : s.after at_ (2 * s.npTimeout k.part) = true) :
    trackQuarantineEndEffect s n = s.modFabric (fun f => { f with tracks := f.tracks.filter (·.index ≠ n) }) := by
  simp only [trackQuarantineEndEffect, held, quarantined, late, if_true]

theorem trackQuarantineEnd_sooner {at_ : Nat} (quarantined : k.quarantined = some at_)
    (sooner : s.after at_ (2 * s.npTimeout k.part) = false) : trackQuarantineEndEffect s n = s := by
  simp [trackQuarantineEndEffect, held, quarantined, sooner]

end

/-! ### Proxy tags (R290) -/

theorem proxyTagTimeout_frees {s : State} {p tag : Nat} {k : Proxy} (member : k ∈ s.fabric.proxies) (port : k.port = gOfPort p)
    (tagged : k.tag = tag) (late : s.after k.at_ 2000000000 = true) :
    proxyTagTimeoutEffect s p tag = s.modFabric (fun f => { f with
      proxies := f.proxies.filter (fun k => !(k.port == gOfPort p && k.tag == tag && s.after k.at_ 2000000000)),
      lateReads := f.lateReads ++ [(Config.proxyId (gOfPort p), tag)] }) :=
  if_pos (List.any_eq_true.2 ⟨k, member, by simp [port, tagged, late]⟩)

theorem proxyTagTimeout_kept {s : State} {p tag : Nat}
    (younger : ∀ k ∈ s.fabric.proxies, k.port = gOfPort p → k.tag = tag → s.after k.at_ 2000000000 = false) :
    proxyTagTimeoutEffect s p tag = s :=
  if_neg (by simpa using younger)

/-! ### Far-failure notices (R293, R294) -/

section
variable {s v : State} {c gp : Nat} {k : FarPending}
  (pending : s.fabric.farPending.find? (fun p => p.crown == c && p.note.gpart == gp) = some k)
  (hv : v = s.modFabric (fun f => { f with farPending := f.farPending.filter (fun p => !(p.crown == c && p.note.gpart == gp)) }))
include pending hv

/-- Neither fences nor routes look at what is pending. -/
theorem farFailureSend_sent {q : Nat} (unfenced : s.fenced c = false) (route : s.routeUp c 0 = some q) :
    farFailureSendEffect s c gp =
      (v.modTx q (fun x => { x with ctl := x.ctl ++ [.farFailure c k.note] })).countBough (boughOf (gOfTrunk q)) 0x30C 1 := by
  have unfenced_v : v.fenced c = false := by rw [hv]; exact unfenced
  have route_v : v.routeUp c 0 = some q := by rw [hv]; exact route
  simp only [farFailureSendEffect, pending, ← hv, unfenced_v, route_v, Bool.false_eq_true, if_false]

theorem farFailureSend_dropped (no : s.fenced c = true ∨ s.routeUp c 0 = none) : farFailureSendEffect s c gp = v := by
  rcases no with fenced | noRoute
  · have fenced_v : v.fenced c = true := by rw [hv]; exact fenced
    simp only [farFailureSendEffect, pending, ← hv, fenced_v, if_true]
  · have noRoute_v : v.routeUp c 0 = none := by rw [hv]; exact noRoute
    simp only [farFailureSendEffect, pending, ← hv, noRoute_v, ite_self]

end

theorem farFailureNotice_known {s : State} {q p : Nat} {n : FarMsg} {r : RClass}
    (member : (s.countBough (boughOf (gOfTrunk q)) 0x30D 1).partOfGp n.gpart = some p) (class_ : rclassOf n.rclass = some r) :
    farFailureNoticeEffect s q n = (s.countBough (boughOf (gOfTrunk q)) 0x30D 1).farFailureHere p r n.vdp n.header := by
  simp only [farFailureNoticeEffect, member, class_]

theorem farFailureNotice_unknown {s : State} {q : Nat} {n : FarMsg}
    (no : (s.countBough (boughOf (gOfTrunk q)) 0x30D 1).partOfGp n.gpart = none ∨ rclassOf n.rclass = none) :
    farFailureNoticeEffect s q n = s.countBough (boughOf (gOfTrunk q)) 0x30D 1 := by
  rcases no with stranger | noClass
  · simp only [farFailureNoticeEffect, stranger]
  · cases member : (s.countBough (boughOf (gOfTrunk q)) 0x30D 1).partOfGp n.gpart <;> simp only [farFailureNoticeEffect, member, noClass]

/-! ### Locks (R297, R298) -/

/-- A lock at a bough has been held for 10 ms from its first locked read (R298). -/
def State.lockOverdue (s : State) (b : Nat) : Bool := s.fabric.locks.any (fun k => k.bough == b && s.after k.since 10000000)

theorem State.lockOverdue_of_mem {s : State} {b : Nat} {k : LockState} (member : k ∈ s.fabric.locks) (bough : k.bough = b)
    (late : s.after k.since 10000000 = true) : s.lockOverdue b = true :=
  List.any_eq_true.2 ⟨k, member, by simp [bough, late]⟩

theorem State.lockOverdue_eq_false {s : State} {b : Nat}
    (younger : ∀ k ∈ s.fabric.locks, k.bough = b → s.after k.since 10000000 = false) : s.lockOverdue b = false := by
  simpa [State.lockOverdue] using younger

/-- The Unlock of a partition's host, as it comes in at the twig of its upstream port. -/
def State.unlockIngress (s : State) (p g : Nat) : Ingress :=
  { src := s.portLowG g, part := p, rclass := .host, reqId := 0, entry := some none, key := none, trunk := none,
    srcCrown := s.crownId, gpart := s.groveId p, track := 0, flow := 0, hops := 0 }

/-- The Unlock itself, without data (R297). -/
def unlockTlp : Tlp :=
  { kind := .unlock, tc := 0, addr := 0, lenBytes := 0, hdrLen := 16, reqId := 0, tag := 0, data := [], ro := false, ido := false,
    ns := false, poisoned := false, specOk := true }

section
variable {s : State} {p : Nat}

theorem unlock_upstream {g : Nat} {i : Ingress} {x : Tlp} (twig : s.upTwig p = some g) (hi : i = s.unlockIngress p g)
    (hx : x = unlockTlp) :
    unlockEffect s p = s.withCredits i.src x (fun v =>
      (v.unlockPart i x).1.submit i.src (some 0) ((v.unlockPart i x).1.dress i x (v.unlockPart i x).2)) := by
  subst hi hx
  rw [unlockEffect, twig]
  rfl

theorem unlock_locked (noTwig : s.upTwig p = none) (locked : s.fabric.locks.any (·.part == p) = true) :
    unlockEffect s p = s.modFabric (fun f => { f with locks := f.locks.filter (·.part ≠ p) }) := by
  rw [unlockEffect, noTwig]
  exact if_pos locked

theorem unlock_unlocked (noTwig : s.upTwig p = none) (unlocked : s.fabric.locks.any (·.part == p) = false) :
    unlockEffect s p = s.countDrop 160 3 := by
  rw [unlockEffect, noTwig]
  exact if_neg (Bool.eq_false_iff.1 unlocked)

end

end Sys2Proof.Machine

open Sys2Proof Sys2Proof.Machine

/-- Settles O34: each command's meaning is its effect, and each effect is given by the lemma on its case. -/
theorem remoteRequests : Obligations.RemoteRequests := by
  intro s u t hu
  subst hu
  have expire (n) : exec (.npTimeoutExpired t n) s = act1 s t (fun x => npTimeoutExpiredEffect x n) := rfl
  have free (n) : exec (.trackQuarantineEnd t n) s = act1 s t (fun x => trackQuarantineEndEffect x n) := rfl
  have proxy (p tag) : exec (.proxyTagTimeout t p tag) s = act1 s t (fun x => proxyTagTimeoutEffect x p tag) := rfl
  have send (c gp) : exec (.farFailureSend t c gp) s = act1 s t (fun x => farFailureSendEffect x c gp) := rfl
  have notice (q n) : exec (.farFailureNotice t q n) s = act1 s t (fun x => farFailureNoticeEffect x q n) := rfl
  have lock (b) : exec (.lockTimeout t b) s = act1 s t (fun x => if x.lockOverdue b then x.breakLock b else x) := rfl
  have unlock (p) : exec (.unlock t p) s = act1 s t (fun x => if p < 64 then unlockEffect x p else x) := rfl
  refine ⟨?_, ?_, ?_, ?_, ?_, ?_, ?_, ?_, ?_, ?_, ?_, ?_, ?_, ?_, ?_⟩
  · exact fun n k v w held active sent late hv hw => after_act1 t _ (expire n) (npTimeoutExpired_ends held active sent late hv hw)
  · exact fun n k held no => after_act1 t _ (expire n) (npTimeoutExpired_left held no)
  · exact fun n k at_ held quarantined late => after_act1 t _ (free n) (trackQuarantineEnd_frees held quarantined late)
  · exact fun n k at_ held quarantined sooner => after_act1 t _ (free n) (trackQuarantineEnd_sooner held quarantined sooner)
  · exact fun p tag k member port tagged late => after_act1 t _ (proxy p tag) (proxyTagTimeout_frees member port tagged late)
  · exact fun p tag younger => after_act1 t _ (proxy p tag) (proxyTagTimeout_kept younger)
  · exact fun c gp k q v pending unfenced route hv => after_act1 t _ (send c gp) (farFailureSend_sent pending hv unfenced route)
  · exact fun c gp k v pending no hv => after_act1 t _ (send c gp) (farFailureSend_dropped pending hv no)
  · exact fun q n p r member class_ => after_act1 t _ (notice q n) (farFailureNotice_known member class_)
  · exact fun q n no => after_act1 t _ (notice q n) (farFailureNotice_unknown no)
  · exact fun b k member bough late => after_act1 t _ (lock b) (if_pos (State.lockOverdue_of_mem member bough late))
  · exact fun b younger => after_act1 t _ (lock b) (if_neg (Bool.eq_false_iff.1 (State.lockOverdue_eq_false younger)))
  · exact fun p g i x part twig hi hx => after_act1 t _ (unlock p) ((if_pos part).trans (unlock_upstream twig hi hx))
  · exact fun p part noTwig locked => after_act1 t _ (unlock p) ((if_pos part).trans (unlock_locked noTwig locked))
  · exact fun p part noTwig unlocked => after_act1 t _ (unlock p) ((if_pos part).trans (unlock_unlocked noTwig unlocked))

end

section
/-! SUPPORT. What the sparse stores read: the entries of a store by key, what a write, an erasure and a filter make of them, and that a
store is what it reads (R316, R323). -/

namespace Sys2Proof.Machine

/-! ### A sorted store by key -/

/-- A sorted store holds at a key the one entry with that key. -/
theorem sortedGet_eq_some_iff {α : Type} {l : List (Nat × α)} (ord : sortedKeys l = true) {a : Nat} {v : α} :
    sortedGet l a = some v ↔ (a, v) ∈ l := by
  induction l with
  | nil => simp [sortedGet]
  | cons e l ih =>
    obtain ⟨below, rest⟩ := List.pairwise_cons.1 ((sortedKeys_iff _).1 ord)
    have listed : (a, v) ∈ l → e.1 < a := below (a, v)
    rw [sortedGet, List.mem_cons, Prod.ext_iff]
    split
    · rename_i eq
      have off : (a, v) ∉ l := fun mem => absurd (listed mem) (by omega)
      simp [eq, off, eq_comm]
    · rename_i ne
      split
      · rename_i lt
        have off : (a, v) ∉ l := fun mem => absurd (listed mem) (by omega)
        simp [off, Ne.symm ne]
      · simp [ih ((sortedKeys_iff _).2 rest), Ne.symm ne]

/-- Two sorted stores that read alike are equal. -/
theorem eq_of_sortedGet_eq {α : Type} {l m : List (Nat × α)} (hl : sortedKeys l = true) (hm : sortedKeys m = true)
    (alike : ∀ a, sortedGet l a = sortedGet m a) : l = m := by
  have rising_l := (sortedKeys_iff l).1 hl
  have rising_m := (sortedKeys_iff m).1 hm
  have nodup {k : List (Nat × α)} (rising : k.Pairwise (fun a b => a.1 < b.1)) : k.Nodup :=
    rising.imp fun lt eq => absurd (congrArg Prod.fst eq) lt.ne
  have same (e : Nat × α) : e ∈ l ↔ e ∈ m := by
    rw [← sortedGet_eq_some_iff hl, ← sortedGet_eq_some_iff hm, alike]
  have perm : l.Perm m := (List.perm_ext_iff_of_nodup (nodup rising_l) (nodup rising_m)).2 same
  exact perm.eq_of_pairwise (fun _ _ _ _ lt gt => absurd gt lt.asymm) rising_l rising_m

theorem sortedGet_sortedPut {α : Type} (l : List (Nat × α)) (a b : Nat) (v : α) :
    sortedGet (sortedPut l a v) b = if b = a then some v else sortedGet l b := by
  induction l with
  | nil => simp [sortedPut, sortedGet, eq_comm]
  | cons e l ih =>
    obtain ⟨k, w⟩ := e
    rw [sortedPut]
    split
    · grind [sortedGet]
    · split
      · grind [sortedGet]
      · rw [sortedGet, ih]
        grind [sortedGet]

/-- A filter on keys takes the keys that it drops from what a sorted store reads. -/
theorem sortedGet_filter {α : Type} {l : List (Nat × α)} (ord : sortedKeys l = true) (p : Nat → Bool) (a : Nat) :
    sortedGet (l.filter (fun e => p e.1)) a = if p a then sortedGet l a else none := by
  ext v
  rw [sortedGet_eq_some_iff (sortedKeys_filter l _ ord), List.mem_filter]
  cases p a <;> simp [sortedGet_eq_some_iff ord]

/-- Erasing a key of a sorted store is a filter on keys. -/
theorem sortedErase_eq_filter {α : Type} {l : List (Nat × α)} (ord : sortedKeys l = true) (a : Nat) :
    sortedErase l a = l.filter (fun e => e.1 ≠ a) := by
  induction l with
  | nil => rfl
  | cons e l ih =>
    obtain ⟨below, rest⟩ := List.pairwise_cons.1 ((sortedKeys_iff _).1 ord)
    rw [sortedErase, ih ((sortedKeys_iff _).2 rest)]
    split
    · rename_i eq
      have kept : l.filter (fun e => e.1 ≠ a) = l :=
        List.filter_eq_self.2 fun x mem => by simpa using (eq ▸ below x mem).ne'
      rw [List.filter_cons_of_neg (by simp [eq]), kept]
    · rename_i ne
      rw [List.filter_cons_of_pos (by simpa using ne)]

/-! ### Stores that do not list a default -/

/-- What a store with the defaults `d` reads, after a write that lists no default. -/
theorem sortedGet_store_getD {α : Type} [DecidableEq α] {l : List (Nat × α)} (ord : sortedKeys l = true) (d : Nat → α) (a : Nat) (v : α)
    (b : Nat) :
    (sortedGet (if v = d a then sortedErase l a else sortedPut l a v) b).getD (d b) = if b = a then v else (sortedGet l b).getD (d b) := by
  split
  · rename_i isDefault
    rw [sortedErase_eq_filter ord, sortedGet_filter ord (fun k => decide (k ≠ a))]
    by_cases h : b = a <;> simp [h, isDefault]
  · rw [sortedGet_sortedPut]
    by_cases h : b = a <;> simp [h]

/-- Two sorted stores that list no default and read alike are equal. -/
theorem eq_of_sortedGet_getD_eq {α : Type} {l m : List (Nat × α)} (d : Nat → α) (hl : sortedKeys l = true) (hm : sortedKeys m = true)
    (dl : ∀ e ∈ l, e.2 ≠ d e.1) (dm : ∀ e ∈ m, e.2 ≠ d e.1)
    (alike : ∀ a, (sortedGet l a).getD (d a) = (sortedGet m a).getD (d a)) : l = m := by
  refine eq_of_sortedGet_eq hl hm fun a => ?_
  have notDefault {k : List (Nat × α)} (ord : sortedKeys k = true) (dk : ∀ e ∈ k, e.2 ≠ d e.1) : sortedGet k a ≠ some (d a) :=
    fun h => dk _ ((sortedGet_eq_some_iff ord).1 h) rfl
  have nl := notDefault hl dl
  have nm := notDefault hm dm
  have same := alike a
  generalize sortedGet l a = x at nl same
  generalize sortedGet m a = y at nm same
  cases x with
  | none => cases y with
    | none => rfl
    | some w => exact absurd (congrArg some same.symm) nm
  | some v => cases y with
    | none => exact absurd (congrArg some same) nl
    | some w => exact congrArg some same

/-! ### Fabric memory's bytes and owners -/

theorem cellsWf_sorted {l : List Host.Cell} (h : cellsWf l = true) : sortedKeys l = true := (Bool.and_eq_true_iff.1 h).1

theorem ownersWf_sorted {l : List (Nat × Owner)} (h : ownersWf l = true) : sortedKeys l = true := (Bool.and_eq_true_iff.1 h).1

theorem cellGet_cellPut {l : List Host.Cell} (h : cellsWf l = true) (a c : Nat) (b : Byte) :
    cellGet (cellPut l a b) c = if c = a then b else cellGet l c :=
  sortedGet_store_getD (cellsWf_sorted h) (fun _ => 0) a b c

/-- The bytes written from an offset on are read there, and the others are as before. -/
theorem cellGet_cellsPut {l : List Host.Cell} (h : cellsWf l = true) (a c : Nat) (bs : List Byte) :
    cellGet (cellsPut l a bs) c = if a ≤ c ∧ c < a + bs.length then bs.getD (c - a) 0 else cellGet l c := by
  induction bs generalizing l a with
  | nil => rw [cellsPut, List.length_nil, if_neg (by omega)]
  | cons b bs ih =>
    rw [cellsPut, ih (cellsWf_put l a b h), cellGet_cellPut h, List.length_cons]
    obtain lt | rfl | gt := Nat.lt_trichotomy c a
    · rw [if_neg (by omega), if_neg (by omega), if_neg (by omega)]
    · rw [if_neg (by omega), if_pos rfl, if_pos (by omega), Nat.sub_self, List.getD_cons_zero]
    · obtain ⟨k, rfl⟩ : ∃ k, c = a + 1 + k := Nat.exists_eq_add_of_lt gt |>.imp fun k e => by omega
      have first : a + 1 + k - a = k + 1 := by omega
      rw [first, List.getD_cons_succ, Nat.add_sub_cancel_left]
      by_cases inside : k < bs.length
      · rw [if_pos (by omega), if_pos (by omega)]
      · rw [if_neg (by omega), if_neg (by omega), if_neg (by omega)]

theorem cellGet_cellsClear {l : List Host.Cell} (h : cellsWf l = true) (a n c : Nat) :
    cellGet (cellsClear l a n) c = if a ≤ c ∧ c < a + n then 0 else cellGet l c := by
  rw [cellGet, cellsClear, sortedGet_filter (cellsWf_sorted h) (fun k => k < a || a + n ≤ k), cellGet]
  by_cases inside : a ≤ c ∧ c < a + n
  · have dropped : (decide (c < a) || decide (a + n ≤ c)) = false := by simp; omega
    rw [dropped, if_pos inside]
    rfl
  · have kept : (decide (c < a) || decide (a + n ≤ c)) = true := by simp; omega
    rw [kept, if_neg inside, if_pos rfl]

theorem cellsGet_eq_map (l : List Host.Cell) (a n : Nat) : cellsGet l a n = (List.range n).map (fun i => cellGet l (a + i)) := by
  induction n generalizing a with
  | zero => rfl
  | succ n ih => simp [cellsGet, ih, List.range_succ_eq_map, Nat.add_assoc, Nat.add_comm 1]

/-- Reading back what was written. -/
theorem cellsGet_cellsPut_self {l : List Host.Cell} (h : cellsWf l = true) (a : Nat) (bs : List Byte) :
    cellsGet (cellsPut l a bs) a bs.length = bs := by
  rw [cellsGet_eq_map]
  refine List.ext_getElem (by simp) fun i hi hb => ?_
  simp [cellGet_cellsPut h, hb]

theorem Memory.owner_setOwner {m : Memory} (h : m.wf = true) (n k : Nat) (o : Owner) :
    (sortedGet (m.setOwner n o).owners k).getD Owner.module = if k = n then o else (sortedGet m.owners k).getD Owner.module :=
  sortedGet_store_getD (ownersWf_sorted ((Memory.wf_iff m).1 h).2) (fun _ => Owner.module) n o k

/-- Two lists of cells in canonical form that read alike are equal. -/
theorem cells_eq_of_cellGet_eq {l m : List Host.Cell} (hl : cellsWf l = true) (hm : cellsWf m = true)
    (alike : ∀ a, cellGet l a = cellGet m a) : l = m := by
  simp only [cellsWf, Bool.and_eq_true, List.all_eq_true, decide_eq_true_eq] at hl hm
  exact eq_of_sortedGet_getD_eq (fun _ => 0) hl.1 hm.1 hl.2 hm.2 alike

theorem owners_eq_of_sortedGet_getD_eq {l m : List (Nat × Owner)} (hl : ownersWf l = true) (hm : ownersWf m = true)
    (alike : ∀ n, (sortedGet l n).getD Owner.module = (sortedGet m n).getD Owner.module) : l = m := by
  simp only [ownersWf, Bool.and_eq_true, List.all_eq_true, decide_eq_true_eq] at hl hm
  exact eq_of_sortedGet_getD_eq (fun _ => Owner.module) hl.1 hm.1 hl.2 hm.2 alike

end Sys2Proof.Machine

open Sys2Proof Sys2Proof.Machine

/-- Settles O12: what the sparse stores read after a write, and that a store in canonical form is what it reads. -/
theorem memoryReadsBack : Obligations.MemoryReadsBack := by
  refine ⟨fun m a c bs wf => ?_, fun m n hm hn => ?_, fun m n hm hn => ?_⟩
  · obtain ⟨cells, owners⟩ := (Memory.wf_iff m).1 wf
    exact ⟨cellGet_cellsPut cells a c bs, (Memory.wf_iff _).2 ⟨cellsWf_puts _ a bs cells, owners⟩⟩
  · exact cells_eq_of_cellGet_eq ((Memory.wf_iff m).1 hm).1 ((Memory.wf_iff n).1 hn).1
  · exact owners_eq_of_sortedGet_getD_eq ((Memory.wf_iff m).1 hm).2 ((Memory.wf_iff n).1 hn).2

end

section
/-! SUPPORT. What reads of pool lines answer, and what writes and key rolls leave of the bytes and their owners (R315, R316, R320). -/

namespace Sys2Proof.Machine

/-! ### Reads (R315) -/

/-- A read that its check passes answers its owner the bytes of the line, and any other zeros. -/
theorem State.readLine_passed {s : State} {rd : LineRead} {a : Nat}
    (passed : s.passes (s.plaOf (a / 256)) rd.first = true ∨ s.passes (s.plaOf (a / 256)) rd.second = true) (o : Owner) (len : Nat) :
    (s.readLine o a len rd).2.1 = if s.lineOwner (a / 256) = o then cellsGet s.mem.cells a len else List.replicate len 0 := by
  have rows := s.countHeart_sameRows 0x390 1
  refine s.readLine_bytes o a len rd ?_
  rw [State.fetchLine_confirmed, rows.plaOf, rows.passes, rows.passes, Bool.or_eq_true_iff.2 passed, Bool.not_true]

/-- Another owner reads zeros, whether the check passes or not. -/
theorem State.readLine_other {s : State} {o : Owner} {a : Nat} (other : s.lineOwner (a / 256) ≠ o) (len : Nat) (rd : LineRead) :
    (s.readLine o a len rd).2.1 = List.replicate len 0 := by
  unfold State.readLine
  simp only [if_neg other]
  split <;> rfl

/-- A passed read of a whole line, named by its number. -/
theorem State.readLine_whole {s : State} {rd : LineRead} {n : Nat}
    (passed : s.passes (s.plaOf n) rd.first = true ∨ s.passes (s.plaOf n) rd.second = true) (o : Owner) :
    (s.readLine o (256 * n) 256 rd).2.1 = if s.lineOwner n = o then cellsGet s.mem.cells (256 * n) 256 else List.replicate 256 0 := by
  have line : 256 * n / 256 = n := Nat.mul_div_cancel_left n (by decide)
  have read := State.readLine_passed (a := 256 * n) (line.symm ▸ passed) o 256
  rwa [line] at read

/-! ### Writes (R316) -/

section
variable {s : State} (inv : s.Inv)
include inv

theorem State.Inv.cells : cellsWf s.mem.cells = true := ((Memory.wf_iff s.mem).1 inv.mem).1

theorem State.lineOwner_writeLine (o : Owner) (n k retries : Nat) (data : List Byte) (ok : Bool) :
    (s.writeLine o n data retries ok).lineOwner k = if k = n then o else s.lineOwner k := by
  rw [State.lineOwner, (s.writeLine_lines o n retries data ok).2]
  exact Memory.owner_setOwner inv.mem n k o

theorem State.cellGet_writeLine (o : Owner) (n c retries : Nat) (data : List Byte) (ok : Bool) :
    cellGet (s.writeLine o n data retries ok).mem.cells c =
      if 256 * n ≤ c ∧ c < 256 * n + data.length then data.getD (c - 256 * n) 0 else cellGet s.mem.cells c := by
  rw [(s.writeLine_lines o n retries data ok).1]
  exact cellGet_cellsPut inv.cells _ c data

/-- A write of a whole line leaves the bytes of every other. -/
theorem State.cellsGet_writeLine_other {n k : Nat} (ne : k ≠ n) {data : List Byte} (whole : data.length = 256) (o : Owner)
    (retries : Nat) (ok : Bool) :
    cellsGet (s.writeLine o n data retries ok).mem.cells (256 * k) 256 = cellsGet s.mem.cells (256 * k) 256 := by
  rw [cellsGet_eq_map, cellsGet_eq_map]
  refine List.map_congr_left fun i hi => ?_
  have lt := List.mem_range.1 hi
  rw [State.cellGet_writeLine inv, whole, if_neg (by omega)]

omit inv in
/-- What a write of part of a line leaves when its read passes: the bytes of another owner's line are cleared first. -/
theorem State.writePart_lines {a : Nat} {rd : LineRead} (passed : s.passes (s.plaOf (a / 256)) rd.first = true) (o : Owner)
    (data : List Byte) :
    (s.writePart o a data rd).1.mem.cells =
        cellsPut (if s.lineOwner (a / 256) = o then s.mem.cells else cellsClear s.mem.cells (256 * (a / 256)) 256) a data ∧
      (s.writePart o a data rd).1.mem.owners = (s.mem.setOwner (a / 256) o).owners := by
  have rows := s.countHeart_sameRows 0x392 1
  have lines := (s.countHeart_sameLines 0x392 1).trans (State.fetchLine_sameLines _ (a / 256) 1 rd)
  have sound : ((s.countHeart 0x392 1).fetchLine (a / 256) 1 rd).2 = false := by
    rw [State.fetchLine_confirmed, rows.plaOf, rows.passes, passed, Bool.true_or, Bool.not_true]
  obtain ⟨cells, owners⟩ := lines
  simp [State.writePart, sound, State.modMem, Memory.mergeBytes, Memory.setOwner, cells, owners]

theorem State.lineOwner_writePart {a : Nat} {rd : LineRead} (passed : s.passes (s.plaOf (a / 256)) rd.first = true) (o : Owner)
    (data : List Byte) : (s.writePart o a data rd).1.lineOwner (a / 256) = o := by
  rw [State.lineOwner, (State.writePart_lines passed o data).2]
  exact (Memory.owner_setOwner inv.mem _ _ o).trans (if_pos rfl)

/-- A byte of the line after a write of part of it: a written one, else the old one of an own line and zero of another's. -/
theorem State.cellGet_writePart {a c : Nat} {rd : LineRead} (passed : s.passes (s.plaOf (a / 256)) rd.first = true)
    (inLine : 256 * (a / 256) ≤ c ∧ c < 256 * (a / 256) + 256) (o : Owner) (data : List Byte) :
    cellGet (s.writePart o a data rd).1.mem.cells c =
      if a ≤ c ∧ c < a + data.length then data.getD (c - a) 0
      else if s.lineOwner (a / 256) = o then cellGet s.mem.cells c else 0 := by
  rw [(State.writePart_lines passed o data).1]
  split
  · exact cellGet_cellsPut inv.cells a c data
  · rw [cellGet_cellsPut (cellsWf_clear _ _ _ inv.cells), cellGet_cellsClear inv.cells, if_pos inLine]

end

/-! ### Key rolls (R320) -/

theorem assocGetD_erase {κ α : Type} [DecidableEq κ] (l : List (κ × α)) (k : κ) (d : α) : assocGetD (assocErase l k) k d = d := by
  have none_ : (l.filter (fun e => ¬ e.1 = k)).find? (fun e => decide (e.1 = k)) = none := by
    simp [List.find?_eq_none]
  simp only [assocGetD, assocGet, assocErase, none_, Option.map_none, Option.getD_none]

theorem Memory.epoch_setEpoch (m : Memory) (gp : Nat) (e : BitVec 12) : assocGetD (m.setEpoch gp e).epochs gp 1 = e := by
  rw [Memory.setEpoch]
  split
  · rename_i first
    rw [first, assocGetD_erase]
  · rw [assocGetD, assocGet_put, Option.getD_some]

theorem State.epochOf_rollKey (s : State) (gp : Nat) :
    (s.rollKey gp).epochOf gp = if s.epochOf gp = 0xFFF then 1 else s.epochOf gp + 1 := by
  have rolled : (s.rollKey gp).epochOf gp =
      assocGetD (s.mem.setEpoch gp (if decide (s.epochOf gp = 0xFFF) then 1 else s.epochOf gp + 1)).epochs gp 1 := by
    rw [State.epochOf, State.rollKey, State.noteAt_mem]
    rfl
  rw [rolled, Memory.epoch_setEpoch]
  simp only [decide_eq_true_eq]

theorem State.epochOf_rollKey_ne (s : State) (gp : Nat) : (s.rollKey gp).epochOf gp ≠ s.epochOf gp := by
  rw [State.epochOf_rollKey]
  split
  · rename_i last
    rw [last]
    decide
  · bv_omega

/-- A key roll touches no line. -/
theorem State.rollKey_sameLines (s : State) (gp : Nat) : s.SameLines (s.rollKey gp) := by
  rw [State.rollKey, State.SameLines, State.noteAt_mem]
  exact ⟨rfl, rfl⟩

end Sys2Proof.Machine

open Sys2Proof Sys2Proof.Machine

/-- Settles O13: what a read answers is decided by the line's owner, and what each write leaves is given by the lemmas on it. -/
theorem linesBelongToTheirOwner : Obligations.LinesBelongToTheirOwner := by
  refine ⟨?_, ?_, ?_, ?_⟩
  · intro s w o n retries data ok rd inv whole hw passed
    have own : w.lineOwner n = o := by rw [hw, State.lineOwner_writeLine inv, if_pos rfl]
    rw [State.readLine_whole passed, if_pos own, hw, (State.writeLine_lines s o n retries data ok).1, ← whole]
    exact cellsGet_cellsPut_self inv.cells _ data
  · intro s o p n retries data ok rd inv whole other
    refine State.readLine_other ?_ 256 rd
    rw [Nat.mul_div_cancel_left n (by decide), State.lineOwner_writeLine inv, if_pos rfl]
    exact other.symm
  · intro s w o p n k retries data ok rd inv whole ne hw before after
    have own : w.lineOwner k = s.lineOwner k := by rw [hw, State.lineOwner_writeLine inv, if_neg ne]
    have bytes : cellsGet w.mem.cells (256 * k) 256 = cellsGet s.mem.cells (256 * k) 256 := by
      rw [hw, State.cellsGet_writeLine_other inv ne whole]
    exact ⟨own, by rw [State.readLine_whole (.inl after), State.readLine_whole (.inl before), own, bytes]⟩
  · intro s w o a data rd rd' inv _ _ hw before after
    have own : w.lineOwner (a / 256) = o := by rw [hw, State.lineOwner_writePart inv before]
    rw [State.readLine_whole (.inl after), if_pos own, cellsGet_eq_map, hw]
    refine List.map_congr_left fun i hi => ?_
    have lt := List.mem_range.1 hi
    have place : 256 * (a / 256) + i - a = i - a % 256 := by omega
    have inside : (a ≤ 256 * (a / 256) + i ∧ 256 * (a / 256) + i < a + data.length) ↔ (a % 256 ≤ i ∧ i < a % 256 + data.length) := by omega
    rw [State.cellGet_writePart inv before (by omega), place]
    simp only [inside]

/-- Settles O14: the new epoch differs from the old one, so that no owner at the current epoch is the line's (R320). -/
theorem epochErasesLines : Obligations.EpochErasesLines := by
  intro s gp o a len rd small old current
  obtain ⟨cells, owners⟩ := s.rollKey_sameLines gp
  refine ⟨State.readLine_other (fun own => ?_) len rd, cells, owners⟩
  rw [(s.rollKey_sameLines gp).owner, old] at own
  subst own
  have number : (BitVec.ofNat 12 gp).toNat = gp := by rw [BitVec.toNat_ofNat]; exact Nat.mod_eq_of_lt small
  rw [number] at current
  exact s.epochOf_rollKey_ne gp current.symm

end

section
/-! SUPPORT. The effects of accesses to fabric memory, of its training and sweeps, of refresh and of the patrol scrubber, case by case (R308,
R314 to R316, R322 to R325, R330, R331). -/

namespace Sys2Proof.Machine

/-! ### An access and the pool's gate (R308, R314, R322) -/

section
variable {s : State} {rc : RClass} {p a n : Nat} {rd wr : Bool} (kind : TlpKind) (data : List Byte) (go : State → Owner → State)

theorem State.poolAccess_beyond (beyond : poolBytes < a + n) :
    s.poolAccess rc p kind a n data rd wr go = s.gateFault (s.poolIngress rc p) Carrier.zero (poolTlp kind a n data) 0x90 1 :=
  if_pos beyond

variable (within : a + n ≤ poolBytes)
include within

theorem State.poolAccess_refused {cause : Nat} (refused : s.poolGrant rc p a rd wr = .refused cause) :
    s.poolAccess rc p kind a n data rd wr go = s.gateFault (s.poolIngress rc p) Carrier.zero (poolTlp kind a n data) 0x90 cause := by
  rw [State.poolAccess, if_neg (Nat.not_lt.2 within), refused]

theorem State.poolAccess_waits {o : Owner} (granted : s.poolGrant rc p a rd wr = .owner o) (waits : s.poolWaits o = true) :
    s.poolAccess rc p kind a n data rd wr go = s.emit (.answer "pool wait" [a]) := by
  rw [State.poolAccess, if_neg (Nat.not_lt.2 within), granted]
  exact if_pos waits

theorem State.poolAccess_goes {o : Owner} (granted : s.poolGrant rc p a rd wr = .owner o) (free : s.poolWaits o = false) :
    s.poolAccess rc p kind a n data rd wr go = go s o := by
  rw [State.poolAccess, if_neg (Nat.not_lt.2 within), granted]
  exact if_neg (Bool.eq_false_iff.1 free)

end

/-! ### Training and sweeps (R322, R323, R330, R462) -/

section
variable {s : State}

/-- Fabric memory waits for its training: it is untrained and no test hold keeps it so. -/
def State.AwaitsTraining (s : State) : Prop := s.mem.mode = 0 ∧ s.sec.hold = none

theorem memTrainingDone_succeeds (awaits : s.AwaitsTraining) :
    memTrainingDoneEffect s true [] =
      s.drew.modMem (fun m => { m with
        mode := 1, progress := 0, cells := [], owners := [], epochs := [], keyDraw := s.draws, keyWraps := [],
        refreshRing := s.ringClock / 8192,
        channels := m.channels.map (fun c => { c with state := 2, debt := 0 }) }) := by
  obtain ⟨untrained, noHold⟩ := awaits
  exact if_neg (by simp [untrained, noHold])

theorem memTrainingDone_fails {ok : Bool} {failed l : List Nat} (awaits : s.AwaitsTraining)
    (fails : ok = false ∨ failed.filter (· < 24) ≠ [])
    (hl : l = if ok = true ∨ failed ≠ [] then failed.filter (· < 24) else List.range 24) :
    memTrainingDoneEffect s ok failed =
      (s.modMem (fun m => { m with mode := 3, channels := m.channels.map (fun c => { c with state := 2 }) })).each l
        (fun x d => x.channelFail d 2) := by
  obtain ⟨untrained, noHold⟩ := awaits
  have named : (if (ok || !failed.isEmpty) = true then failed.filter (· < 24) else List.range 24) = l := by
    rw [hl]
    simp
  rw [memTrainingDoneEffect, if_neg (by simp [untrained, noHold])]
  simp only [named]
  refine if_neg ?_
  rcases fails with no | some_
  · simp [no]
  · have listed : l ≠ [] := by
      have ne : failed ≠ [] := fun nil => some_ (by rw [nil]; rfl)
      rwa [hl, if_pos (.inr ne)]
    simp [listed]

theorem memTrainingDone_stays (no : s.mem.mode ≠ 0 ∨ s.sec.hold ≠ none) (ok : Bool) (failed : List Nat) :
    memTrainingDoneEffect s ok failed = s :=
  if_pos (by simpa [Option.isSome_iff_ne_none] using no)

/-! ### The patrol scrubber (R331) -/

theorem patrolScrubRead_reads {v w : State} {pla : Nat} {rd : LineRead} (device : pla < 24 * 2 ^ 24) (line : pla % 2 ^ 24 < firstPattern)
    (trained : s.mem.mode = 1 ∨ s.mem.mode = 2) (unpruned : s.inCrownPrune = false)
    (hv : v = (s.countHeart 0x399 1).each (List.range (min rd.retries 3)) (fun x _ => (x.countHeart 0x394 1).noteAt 0xC0A (pla / 2 ^ 24) 1))
    (hw : w = if 3 < rd.retries then (v.memLog 4 (s.ownerAt pla).gp.toNat pla).channelFail (pla / 2 ^ 24) 3 else v) :
    patrolScrubReadEffect s pla rd =
      if firstTagLine ≤ pla % 2 ^ 24 || w.passes pla rd.first || w.passes pla rd.second then w
      else w.confirmed (pla / 2 ^ 24) pla (s.ownerAt pla).gp.toNat 5 := by
  subst hv hw
  have mode : s.mem.mode ≠ 0 ∧ s.mem.mode ≠ 3 := by omega
  exact if_neg (by simpa [unpruned, mode] using And.intro device line)

theorem patrolScrubRead_none {pla : Nat}
    (no : 24 * 2 ^ 24 ≤ pla ∨ firstPattern ≤ pla % 2 ^ 24 ∨ s.mem.mode = 0 ∨ s.mem.mode = 3 ∨ s.inCrownPrune = true) (rd : LineRead) :
    patrolScrubReadEffect s pla rd = s :=
  if_pos (by simpa [or_assoc] using no)

/-! ### Refresh (R324, R325) -/

/-- A batch of `dur` ns is made now: in a maintenance slot that it fits in and that has had none, of memory that is trained. -/
def State.RefreshRuns (s : State) (dur : Nat) : Prop :=
  s.inCrownPrune = true ∧ s.stepFits dur = true ∧ s.mem.refreshSlot ≠ some (s.ringClock / 64) ∧ (s.mem.mode = 1 ∨ s.mem.mode = 2)

theorem refreshBatch_runs {v w x : State} {dur : Nat} (runs : s.RefreshRuns dur) (retries failed : List Nat)
    (hv : v = (s.refreshDue (s.ringClock / 8192)).modMem (fun m => { m with
      refreshSlot := some (s.ringClock / 64), channels := m.channels.map (fun c => { c with debt := max 0 (c.debt - 1) }) }))
    (hw : w = v.countHeart 0x397 24)
    (hx : x = w.each ((List.range 24).filter (· ∈ retries)) (fun y d => (y.countHeart 0x394 1).noteAt 0xC0A d 1)) :
    refreshBatchEffect s dur retries failed = x.each ((List.range 24).filter (· ∈ failed)) (fun y d => y.channelFail d 3) := by
  subst hv hw hx
  exact if_pos (by simpa [State.RefreshRuns, and_assoc] using runs)

theorem refreshBatch_none {dur : Nat} (no : ¬ s.RefreshRuns dur) (retries failed : List Nat) : refreshBatchEffect s dur retries failed = s :=
  if_neg (by simpa [State.RefreshRuns, and_assoc] using no)

end

end Sys2Proof.Machine

open Sys2Proof Sys2Proof.Machine

/-- Settles O36: each command's meaning is its effect, and each effect is given by the lemma on its case; the four accesses share those of
the pool's gate. -/
theorem fabricMemoryResults : Obligations.FabricMemoryResults := by
  intro s u t hu
  subst hu
  have read (rc p a n rd) : exec (.poolRead t rc p a n rd) s =
      act2 s t (fun x => x.poolAccess rc p .memRead a n [] true false
        (fun y o => (y.poolGet o a n rd).1.emit (.answer "pool data" (poolAnswer (y.poolGet o a n rd).2.1 (y.poolGet o a n rd).2.2)))) := rfl
  have write (rc p a d k b) : exec (.poolWrite t rc p a d k b) s =
      act2 s t (fun x => x.poolAccess rc p .memWrite a d.length d false true
        (fun y o => (y.poolPut o a d { goodRead with retries := k } b).1)) := rfl
  have part (rc p a d rd) : exec (.poolPartialWrite t rc p a d rd) s =
      act2 s t (fun x => x.poolAccess rc p .memWrite a d.length d false true
        (fun y o => if (y.poolPut o a d rd true).2 then
          (y.poolPut o a d rd true).1.logDiscard (mkDesc y (y.poolIngress rc p) Carrier.zero (poolTlp .memWrite a d.length d) 0 0) false 0xC0B 0
          else (y.poolPut o a d rd true).1)) := rfl
  have atomic (rc p op a n x c rd) : exec (.poolAtomic t rc p op a n x c rd) s =
      act2 s t (fun v => v.poolAccess rc p op a n [] true true
        (fun y o => (y.atomicLine o op a n x c rd).1.emit
          (.answer "pool data" (poolAnswer (y.atomicLine o op a n x c rd).2.1 (y.atomicLine o op a n x c rd).2.2)))) := rfl
  have trained (ok failed) : exec (.memTrainingDone t ok failed) s = act2 s t (fun x => memTrainingDoneEffect x ok failed) := rfl
  have initSweep : exec (.memInitSweepDone t) s = act1 s t memInitSweepDoneEffect := rfl
  have epochSweep (gp) : exec (.epochSweepDone t gp) s = act1 s t (fun x => epochSweepDoneEffect x gp) := rfl
  have patrol (pla rd) : exec (.patrolScrubRead t pla rd) s = act2 s t (fun x => patrolScrubReadEffect x pla rd) := rfl
  have hot (d k) : exec (.memHotChange t d k) s =
      act1 s t (fun x => if d < 24 then x.modChannel d (fun c => { c with temp := k, hot := decide (85 < k) }) else x) := rfl
  have refresh (n l f) : exec (.refreshBatch t n l f) s = act2 s t (fun x => refreshBatchEffect x n l f) := rfl
  refine ⟨?_, ?_, ?_, ?_, ?_, ?_, ?_, ?_, ?_, ?_, ?_, ?_, ?_, ?_, ?_, ?_, ?_, ?_, ?_, ?_, ?_, ?_, ?_, ?_, ?_, ?_, ?_, ?_⟩
  · exact fun rc p a n rd o within granted free =>
      afterAll_act2 t _ (read rc p a n rd) (State.poolAccess_goes _ _ _ within granted free)
  · exact fun rc p a n rd cause within refused =>
      afterAll_act2 t _ (read rc p a n rd) (State.poolAccess_refused _ _ _ within refused)
  · exact fun rc p a n rd beyond => afterAll_act2 t _ (read rc p a n rd) (State.poolAccess_beyond _ _ _ beyond)
  · exact fun rc p a n rd o within granted waits =>
      afterAll_act2 t _ (read rc p a n rd) (State.poolAccess_waits _ _ _ within granted waits)
  · exact fun rc p a d k b o within granted free =>
      afterAll_act2 t _ (write rc p a d k b) (State.poolAccess_goes _ _ _ within granted free)
  · exact fun rc p a d k b cause within refused =>
      afterAll_act2 t _ (write rc p a d k b) (State.poolAccess_refused _ _ _ within refused)
  · exact fun rc p a d k b beyond => afterAll_act2 t _ (write rc p a d k b) (State.poolAccess_beyond _ _ _ beyond)
  · exact fun rc p a d k b o within granted waits =>
      afterAll_act2 t _ (write rc p a d k b) (State.poolAccess_waits _ _ _ within granted waits)
  · exact fun rc p a d rd o within granted free =>
      afterAll_act2 t _ (part rc p a d rd) (State.poolAccess_goes _ _ _ within granted free)
  · exact fun rc p a d rd cause within refused =>
      afterAll_act2 t _ (part rc p a d rd) (State.poolAccess_refused _ _ _ within refused)
  · exact fun rc p a d rd beyond => afterAll_act2 t _ (part rc p a d rd) (State.poolAccess_beyond _ _ _ beyond)
  · exact fun rc p a d rd o within granted waits =>
      afterAll_act2 t _ (part rc p a d rd) (State.poolAccess_waits _ _ _ within granted waits)
  · exact fun rc p op a n x c rd o within granted free =>
      afterAll_act2 t _ (atomic rc p op a n x c rd) (State.poolAccess_goes _ _ _ within granted free)
  · exact fun rc p op a n x c rd cause within refused =>
      afterAll_act2 t _ (atomic rc p op a n x c rd) (State.poolAccess_refused _ _ _ within refused)
  · exact fun rc p op a n x c rd beyond => afterAll_act2 t _ (atomic rc p op a n x c rd) (State.poolAccess_beyond _ _ _ beyond)
  · exact fun rc p op a n x c rd o within granted waits =>
      afterAll_act2 t _ (atomic rc p op a n x c rd) (State.poolAccess_waits _ _ _ within granted waits)
  · exact fun untrained noHold => afterAll_act2 t _ (trained true []) (memTrainingDone_succeeds ⟨untrained, noHold⟩)
  · exact fun ok failed l untrained noHold fails hl =>
      afterAll_act2 t _ (trained ok failed) (memTrainingDone_fails ⟨untrained, noHold⟩ fails hl)
  · exact fun ok failed no => afterAll_act2 t _ (trained ok failed) (memTrainingDone_stays no ok failed)
  · exact fun sweeps => after_act1 t _ initSweep (if_pos sweeps)
  · exact fun no => after_act1 t _ initSweep (if_neg no)
  · intro gp l sweeps hl
    subst hl
    exact after_act1 t _ (epochSweep gp) (if_pos sweeps)
  · exact fun gp no => after_act1 t _ (epochSweep gp) (if_neg no)
  · exact fun pla rd v w device line ready unpruned hv hw =>
      afterAll_act2 t _ (patrol pla rd) (patrolScrubRead_reads device line ready unpruned hv hw)
  · exact fun pla rd no => afterAll_act2 t _ (patrol pla rd) (patrolScrubRead_none no rd)
  · exact fun d k device => after_act1 t _ (hot d k) (if_pos device)
  · exact fun n l f v w x slot fits first ready hv hw hx =>
      afterAll_act2 t _ (refresh n l f) (refreshBatch_runs ⟨slot, fits, first, ready⟩ l f hv hw hx)
  · intro n l f no
    refine afterAll_act2 t _ (refresh n l f) (refreshBatch_none (fun ⟨slot, fits, first, ready⟩ => ?_) l f)
    rcases no with out | long | made | ⟨notSweeping, notReady⟩
    · exact Bool.false_ne_true (out.symm.trans slot)
    · exact Bool.false_ne_true (long.symm.trans fits)
    · exact first made
    · exact ready.elim notSweeping notReady

end

section
/-! SUPPORT. The effects on engine rings and of what stops a module function, case by case (R338 to R340, R345, R363 to R366). -/

namespace Sys2Proof.Machine

/-! ### RING_CTL's ENABLE (R340) -/

section
variable {r : Ring}

theorem Ring.start_idle (idle : r.state = 0) (least : 4 ≤ r.log2Size) (most : r.log2Size ≤ 16) :
    r.start = { r with enable := true, state := 1 } := by
  rw [Ring.start, if_neg (by simp [idle, least, most]), if_neg (by simp [idle])]

theorem Ring.start_barred (barred : r.state = 3 ∨ r.log2Size < 4 ∨ 16 < r.log2Size) : r.start = r :=
  if_pos (by simpa [or_assoc] using barred)

/-- From an error the ring goes on behind the descriptor that stopped it. -/
theorem Ring.start_afterError {n : Nat} (stopped : r.state = 2) (least : 4 ≤ r.log2Size) (most : r.log2Size ≤ 16)
    (hn : n = (r.errIndex.toNat + 1) % 2 ^ r.log2Size) :
    r.start = { r with
      enable := true, state := 1, head := BitVec.ofNat 16 n, fetched := 0,
      passes := if n = 0 && r.head.toNat ≠ 0 then r.passes + 1 else r.passes } := by
  subst hn
  rw [Ring.start, if_neg (by simp [stopped, least, most]), if_pos stopped]

end

/-! ### Descriptors that arrive (R340, R345) -/

section
variable {s : State} {p f : Nat}

theorem descriptorFetchDone_starts {count m : Nat} {r : Ring} {v : State} (vf : s.isVf p f = true)
    (fetching : ((s.part p).fn f).outstanding.any (·.2.1 == fetchMark) = true) (runs : ((s.part p).fn f).ring.state = 1)
    (hr : r = ((s.part p).fn f).ring) (hm : m = min count (min 8 r.waiting))
    (hv : v = (s.readsDone p f fetchMark).modFn p f (fun x => { x with ring := { x.ring with
      head := BitVec.ofNat 16 ((r.head.toNat + m) % 2 ^ r.log2Size), fetched := x.ring.fetched + m,
      passes := if 2 ^ r.log2Size ≤ r.head.toNat + m then x.ring.passes + 1 else x.ring.passes } })) :
    descriptorFetchDoneEffect s p f count =
      v.each ((List.range m).map (fun k => (r.head.toNat + k) % 2 ^ r.log2Size)) (fun x i => x.issueRead p f i (r.base + 64 * i) 64) := by
  subst hv hm hr
  exact if_neg (by rw [vf, fetching]; simp [runs])

theorem descriptorFetchDone_none (count : Nat)
    (no : s.isVf p f = false ∨ ((s.part p).fn f).outstanding.any (·.2.1 == fetchMark) = false ∨ ((s.part p).fn f).ring.state ≠ 1) :
    descriptorFetchDoneEffect s p f count = s := by
  refine if_pos ?_
  rcases no with noVf | noFetch | halted
  · rw [noVf]; rfl
  · rw [noFetch]; simp
  · simp [halted]

/-! ### Faults of engines (R366) -/

theorem engFault_falls {e : Nat} (engine : e < 32) (online : e ∉ s.engines.offline) :
    engFaultEffect s e =
      (((s.engineOffline e).noteFree (srcEngine e 0) 2).each
        ((s.engines.rounds.filter (fun r => s.ctxEngine r.ctx == e)).map (·.ctx)) State.reduceSettle).serveRings :=
  if_neg (by simp [engine, online])

theorem engFault_none {e : Nat} (no : 32 ≤ e ∨ e ∈ s.engines.offline) : engFaultEffect s e = s :=
  if_pos (by simpa using no)

end

/-! ### Reads without completion (R338, R365) -/

section
variable {s : State} {p f tag idx since : Nat}
  (held : ((s.part p).fn f).outstanding.find? (·.1 == tag) = some (tag, idx, since))
include held

theorem functionCompletionTimeout_sooner (sooner : s.after since (s.cplTimeout p) = false) :
    functionCompletionTimeoutEffect s p f tag = s := by
  rw [functionCompletionTimeoutEffect, held]
  exact if_pos (by simp [sooner])

variable (fn : s.isFn p f = true) (late : s.after since (s.cplTimeout p) = true)
include fn late

theorem functionCompletionTimeout_otherFunction (other : f = 0 ∨ 17 ≤ f) :
    functionCompletionTimeoutEffect s p f tag = s.lateTags p f idx := by
  rw [functionCompletionTimeoutEffect, held]
  exact (if_neg (by simp [fn, late])).trans (if_pos (by simpa using other))

/-- An engine function's read: its descriptor completes with TIMEOUT; the one at the head does for a fetch, and counts as fetched. -/
theorem functionCompletionTimeout_engine (first : 1 ≤ f) (last : f ≤ 16) :
    functionCompletionTimeoutEffect s p f tag =
      ((((if idx = fetchMark then s.modFn p f (fun x => { x with ring := { x.ring with fetched := x.ring.fetched + 1 } })
        else s).lateTags p f idx).ringComplete
          { part := p, vf := f, index := if idx = fetchMark then ((s.part p).fn f).ring.head.toNat else idx } 5 0 0 false).issueRecords
        f .engine 0).keepRing p f 0 := by
  rw [functionCompletionTimeoutEffect, held]
  exact (if_neg (by simp [fn, late])).trans (if_neg (by simp; omega))

end

end Sys2Proof.Machine

open Sys2Proof Sys2Proof.Machine

/-- Settles O37: each command's meaning is its effect, and each effect is given by the lemma on its case; what RING_TAIL, RING_CTL, a
function-level reset and its end do is conditional on the function alone. -/
theorem ringResults : Obligations.RingResults := by
  intro s u t hu
  subst hu
  have tail (p f tail) : exec (.ringTail t p f tail) s =
      act2 s t (fun x => if x.isVf p f then x.doorbell p f tail else x) := rfl
  have enable (p f) : exec (.ringEnable t p f) s =
      act2 s t (fun x => if x.isVf p f then (x.modFn p f (fun y => { y with ring := y.ring.start })).serveRings else x) := rfl
  have reset (p f) : exec (.ringReset t p f) s = act2 s t (fun x => if x.isVf p f then x.ringClear p f else x) := rfl
  have fetched (p f n) : exec (.descriptorFetchDone t p f n) s = act1 s t (fun x => descriptorFetchDoneEffect x p f n) := rfl
  have fault (e) : exec (.engFault t e) s = act2 s t (fun x => engFaultEffect x e) := rfl
  have master (p f) : exec (.busMasterEnableClear t p f) s =
      act2 s t (fun x => if x.isFn p f && ((x.part p).fn f).busMaster then ((x.masterOff p f).letGo p f).serveRings else x) := rfl
  have flr (p f) : exec (.functionLevelReset t p f) s =
      act2 s t (fun x => if x.isFn p f then ((x.fnReset p f).letGo p f).serveRings else x) := rfl
  have flrEnd (p f) : exec (.flrComplete t p f) s =
      act1 s t (fun x => if x.isFn p f then x.modFn p f (fun y => { y with flrRunning := false }) else x) := rfl
  have timeout (p f tag) : exec (.functionCompletionTimeout t p f tag) s =
      act2 s t (fun x => functionCompletionTimeoutEffect x p f tag) := rfl
  refine ⟨?_, ?_, ?_, ?_, ?_, ?_, ?_, ?_, ?_, ?_, ?_, ?_, ?_, ?_, ?_, ?_, ?_, ?_, ?_, ?_, ?_, ?_, ?_, ?_⟩
  · exact fun p f n vf => afterAll_act2 t _ (tail p f n) (if_pos vf)
  · exact fun p f n noVf => afterAll_act2 t _ (tail p f n) (if_neg (Bool.eq_false_iff.1 noVf))
  · exact fun p f noVf => afterAll_act2 t _ (enable p f) (if_neg (Bool.eq_false_iff.1 noVf))
  · exact fun p f noVf => afterAll_act2 t _ (reset p f) (if_neg (Bool.eq_false_iff.1 noVf))
  · exact fun p f vf => afterAll_act2 t _ (enable p f) (if_pos vf)
  · exact fun r idle least most => Ring.start_idle idle least most
  · exact fun r barred => Ring.start_barred barred
  · exact fun r n stopped least most hn => Ring.start_afterError stopped least most hn
  · exact fun p f vf => afterAll_act2 t _ (reset p f) (if_pos vf)
  · exact fun p f n r m v vf fetching runs hr hm hv =>
      after_act1 t _ (fetched p f n) (descriptorFetchDone_starts vf fetching runs hr hm hv)
  · exact fun p f n no => after_act1 t _ (fetched p f n) (descriptorFetchDone_none n no)
  · exact fun e engine online => afterAll_act2 t _ (fault e) (engFault_falls engine online)
  · exact fun e beyond => afterAll_act2 t _ (fault e) (engFault_none (.inl beyond))
  · exact fun e offline => afterAll_act2 t _ (fault e) (engFault_none (.inr offline))
  · exact fun p f fn on => afterAll_act2 t _ (master p f) (if_pos (by rw [fn, on]; rfl))
  · exact fun p f no => afterAll_act2 t _ (master p f) (if_neg (by simpa only [Bool.and_eq_true, not_and_or, Bool.not_eq_true] using no))
  · exact fun p f noFn => afterAll_act2 t _ (flr p f) (if_neg (Bool.eq_false_iff.1 noFn))
  · exact fun p f noFn => after_act1 t _ (flrEnd p f) (if_neg (Bool.eq_false_iff.1 noFn))
  · exact fun p f fn => afterAll_act2 t _ (flr p f) (if_pos fn)
  · exact fun p f fn => after_act1 t _ (flrEnd p f) (if_pos fn)
  · exact fun p f tag i since held fn late other =>
      afterAll_act2 t _ (timeout p f tag) (functionCompletionTimeout_otherFunction held fn late other)
  · intro p f tag i since held fn late first last fetchedAlready
    exact afterAll_act2 t _ (timeout p f tag)
      ((functionCompletionTimeout_engine held fn late first last).trans (by rw [if_neg fetchedAlready, if_neg fetchedAlready]))
  · intro p f tag i since v held fn late first last fetch hv
    subst hv
    exact afterAll_act2 t _ (timeout p f tag)
      ((functionCompletionTimeout_engine held fn late first last).trans (by rw [if_pos fetch, if_pos fetch]))
  · exact fun p f tag i since held sooner => afterAll_act2 t _ (timeout p f tag) (functionCompletionTimeout_sooner held sooner)

end

section
/-! SUPPORT. The shared operation on a descriptor, its data and its lists, case by case (R341 to R343, R345, R366). -/

namespace Sys2Proof.Machine

/-! ### The shared operation on a descriptor (R341, R345, R366) -/

section
variable {s : State} {pos : RingPos} (d : Descriptor)

theorem State.operate_unstarted (unstarted : s.started pos = false) (legal : Bool) (go : State → State) : s.operate pos d legal go = s :=
  if_pos (by rw [unstarted]; rfl)

variable {v : State} (started : s.started pos = true)
include started

/-- An armed injection has taken the engine offline. -/
theorem State.operate_stopped (stopped : s.engineCheck pos = (v, false)) (legal : Bool) (go : State → State) :
    s.operate pos d legal go = v := by
  rw [State.operate, if_neg (by rw [started]; decide), stopped]
  rfl

variable (goesOn : s.engineCheck pos = (v, true))
include goesOn

theorem State.operate_illegal (go : State → State) : s.operate pos d false go = v.finish pos d 1 0 0 := by
  rw [State.operate, if_neg (by rw [started]; decide), goesOn]
  rfl

theorem State.operate_legal (go : State → State) : s.operate pos d true go = go v := by
  rw [State.operate, if_neg (by rw [started]; decide), goesOn]
  rfl

end

/-- A command whose effect is the shared operation answers what that makes of the state at the command's instant. -/
theorem afterAll_operate {c : Instr} {s : State} {t : Nat} {pos : RingPos} {d : Descriptor} {legal : Bool} {go : State → State}
    (h : exec c s = act2 s t (fun u => u.operate pos d legal go)) : AfterAll c s ((s.tick t).operate pos d legal go) :=
  afterAll_act2 t _ h rfl

/-! ### A descriptor's data and lists (R342, R343) -/

theorem State.withData_failed {r : ReadResult} (failed : ∀ bs, r ≠ .data bs) (s : State) (pos : RingPos) (d : Descriptor)
    (go : State → List Byte → State) : s.withData pos d r go = s.finish pos d (readStatus r) 0 0 := by
  cases r with
  | data bs => exact absurd rfl (failed bs)
  | poison => rfl
  | refused => rfl
  | timeout => rfl

section
variable {e : SgEntry} {n : Nat} (some_ : 1 ≤ n)
include some_

theorem sgPlan_whole (zero : e.zeroOk = true) (whole : n ≤ e.len) (l : List SgEntry) (off : Nat) :
    sgPlan (e :: l) off n = ([(e.addr, off, n)], false) := by
  obtain ⟨k, rfl⟩ := Nat.exists_eq_succ_of_ne_zero (Nat.ne_of_gt some_)
  have rest (o) : sgPlan l o 0 = ([], false) := by cases l <;> rfl
  rw [sgPlan, if_neg (by simp [zero]; omega), Nat.min_eq_right whole]
  simp only [Nat.succ_eq_add_one, Nat.sub_self, rest]

theorem sgPlan_broken (broken : e.len = 0 ∨ e.zeroOk = false) (l : List SgEntry) (off : Nat) : sgPlan (e :: l) off n = ([], true) := by
  obtain ⟨k, rfl⟩ := Nat.exists_eq_succ_of_ne_zero (Nat.ne_of_gt some_)
  exact if_pos (by simpa using broken)

end

end Sys2Proof.Machine

open Sys2Proof Sys2Proof.Machine

/-- Settles O38: each command's meaning is the shared operation with its own rule and effect, and the shared parts are given by the lemma
on their case. -/
theorem descriptorOperations : Obligations.DescriptorOperations := by
  intro s u t hu
  subst hu
  have copies : ∀ x d r, AfterAll (.copy t x d r) s ((s.tick t).operate x d
      (descLegal d 1 { src := true, dst := true } && 1 ≤ d.len && (d.src + d.len ≤ d.dst || d.dst + d.len ≤ d.src))
      (fun w => w.withData x d r (fun y bs => (y.engineWrite x d.cls d.dst bs).finish x d 0 0 d.len))) :=
    fun x d r => afterAll_operate rfl
  refine ⟨?_, ?_, ?_, ?_, ?_, ?_, ?_, ?_, ?_, ?_, ?_, ?_, ?_, ?_, ?_, ?_, ?_, ?_⟩
  · exact fun x d => afterAll_operate rfl
  · exact copies
  · exact fun x d => afterAll_operate rfl
  · exact fun x d l rs => afterAll_operate rfl
  · exact fun x d l r => afterAll_operate rfl
  · exact fun x d r => afterAll_operate rfl
  · exact fun x d r => afterAll_operate rfl
  · exact fun x d r => afterAll_operate rfl
  · exact fun x d r r2 => afterAll_operate rfl
  · exact fun x d ok go unstarted => State.operate_unstarted d unstarted ok go
  · exact fun x d ok go v started stopped => State.operate_stopped d started stopped ok go
  · exact fun x d go v started goesOn => State.operate_illegal d started goesOn go
  · exact fun x d go v started goesOn => State.operate_legal d started goesOn go
  · exact fun x d bs go => rfl
  · exact fun x d r go failed => State.withData_failed failed _ x d go
  · intro x d e bs some_ zero whole
    rw [sgPlan_whole some_ zero whole]
    rfl
  · exact fun d e some_ broken => sgPlan_broken some_ broken [] 0
  · intro x d bs started goesOn legal some_ below
    have rule : (descLegal d 1 { src := true, dst := true } && 1 ≤ d.len &&
        (d.src + d.len ≤ d.dst || d.dst + d.len ≤ d.src)) = true := by
      simp [legal, some_, below]
    have copied := copies x d (.data bs)
    rw [rule, State.operate_legal d started goesOn] at copied
    exact copied

end

section
/-! SUPPORT. The effects of reductions and of completing descriptors, case by case (R342, R345, R349 to R355). -/

namespace Sys2Proof.Machine

section
variable {s : State} {c : Nat}

/-! ### A child's chunk (R352, R354) -/

section
variable {child : Nat} (q round chunk : Nat) (data : List Byte)

theorem reducePartial_stray (no : (s.redCtx c).valid = false ∨ (s.redCtx c).childN ≤ child) :
    reducePartialEffect s q c child round chunk data = s.countHeart 0x3AB 1 :=
  if_pos (by simpa using no)

variable {round chunk} (valid : (s.redCtx c).valid = true) (known : child < (s.redCtx c).childN)
include valid known

theorem reducePartial_next (other : BitVec.ofNat 4 round ≠ (s.redRound c).round)
    (next : BitVec.ofNat 4 round = (s.redRound c).round + 1) :
    reducePartialEffect s q c child round chunk data =
      s.setRound { s.redRound c with early :=
        (s.redRound c).early ++ [(round, { input := (s.redCtx c).localN + child, chunk := chunk, data := data })] } := by
  rw [reducePartialEffect, if_neg (by simp [valid, known]), if_neg other, if_pos next]

theorem reducePartial_otherRound (other : BitVec.ofNat 4 round ≠ (s.redRound c).round)
    (notNext : BitVec.ofNat 4 round ≠ (s.redRound c).round + 1) :
    reducePartialEffect s q c child round chunk data = s.countHeart 0x3AB 1 := by
  rw [reducePartialEffect, if_neg (by simp [valid, known]), if_neg other, if_neg notNext]

variable (now : BitVec.ofNat 4 round = (s.redRound c).round)
include now

theorem reducePartial_taken
    (taken : chunk ∈ (s.redRound c).folded ∨ ((s.redRound c).of ((s.redCtx c).localN + child) chunk).isSome = true ∨
      (s.redCtx c).chunks ≤ chunk) :
    reducePartialEffect s q c child round chunk data = s.countHeart 0x3AB 1 := by
  rw [reducePartialEffect, if_neg (by simp [valid, known]), if_pos now]
  exact if_pos (by simpa [or_assoc] using taken)

theorem reducePartial_enters (unfolded : chunk ∉ (s.redRound c).folded)
    (new : (s.redRound c).of ((s.redCtx c).localN + child) chunk = none) (within : chunk < (s.redCtx c).chunks) :
    reducePartialEffect s q c child round chunk data =
      if 2 ≤ ((s.redRound c).inputs.filter (fun x => x.input == (s.redCtx c).localN + child)).length then
        s.emit (.answer "partial waits" [q, c, child, chunk])
      else s.takeInputs c [{ input := (s.redCtx c).localN + child, chunk := chunk, data := data }] := by
  rw [reducePartialEffect, if_neg (by simp [valid, known]), if_pos now]
  exact if_neg (by simp [unfolded, new, within])

end

/-! ### Aborts (R355) -/

theorem reduceTimeout_idle (idle : (s.redRound c).started = none) : reduceTimeoutEffect s c = s := by
  rw [reduceTimeoutEffect, idle]

section
variable {t0 : Nat} (started : (s.redRound c).started = some t0)
include started

theorem reduceTimeout_late (late : s.after t0 ((s.redCtx c).timeout * 100000) = true) :
    reduceTimeoutEffect s c = (s.reduceAbort c).reduceSettle c := by
  rw [reduceTimeoutEffect, started]
  exact if_pos late

theorem reduceTimeout_sooner (sooner : s.after t0 ((s.redCtx c).timeout * 100000) = false) : reduceTimeoutEffect s c = s := by
  rw [reduceTimeoutEffect, started]
  exact if_neg (Bool.eq_false_iff.1 sooner)

end

theorem reduceAbortMessage_stray (invalid : (s.redCtx c).valid = false) (round : Nat) : reduceAbortMessageEffect s c round = s :=
  if_pos (by rw [invalid]; rfl)

section
variable {round : Nat} (valid : (s.redCtx c).valid = true)
include valid

theorem reduceAbortMessage_now (now : (s.redRound c).round = BitVec.ofNat 4 round) :
    reduceAbortMessageEffect s c round = ((s.reduceAbortSend c round).reduceAbortHere c).reduceSettle c :=
  (if_neg (by rw [valid]; decide)).trans (if_pos now)

theorem reduceAbortMessage_otherRound (other : (s.redRound c).round ≠ BitVec.ofNat 4 round) :
    reduceAbortMessageEffect s c round = (s.abortWaiters c (BitVec.ofNat 4 round)).reduceSettle c :=
  (if_neg (by rw [valid]; decide)).trans (if_neg other)

end

end

end Sys2Proof.Machine

open Sys2Proof Sys2Proof.Machine

/-- Settles O39: each command's meaning is its effect, and each effect is given by the lemma on its case; the two operations on a
descriptor are the shared one, whose cases its own lemmas give. -/
theorem reductionResults : Obligations.ReductionResults := by
  intro s u t hu
  subst hu
  have contrib (x d r) : exec (.reduceContrib t x d r) s = act2 s t (fun y => reduceContribEffect y x d r) := rfl
  have child (q c k r n d) : exec (.reducePartial t q c k r n d) s = act2 s t (fun x => reducePartialEffect x q c k r n d) := rfl
  have timeout (c) : exec (.reduceTimeout t c) s = act2 s t (fun x => reduceTimeoutEffect x c) := rfl
  have abort (c r) : exec (.reduceAbortMessage t c r) s = act2 s t (fun x => reduceAbortMessageEffect x c r) := rfl
  have complete (x st r n i) : exec (.descriptorComplete t x st r n i) s =
      act2 s t (fun y =>
        if y.started x && [0, 1, 2, 3, 4, 5, 7, 8, 9].contains st then
          (((y.readsDone x.part x.vf x.index).ringComplete x st r.toNat n i).issueRecords x.vf .engine 0).keepRing x.part x.vf 0
        else y) := rfl
  refine ⟨?_, ?_, ?_, ?_, ?_, ?_, ?_, ?_, ?_, ?_, ?_, ?_, ?_, ?_, ?_, ?_, ?_, ?_⟩
  · exact fun x d r r2 => rfl
  · intro x d r
    refine afterAll_act2 t _ (contrib x d r) ?_
    -- the effect keeps its two tests of the round as Booleans
    simp only [reduceContribEffect, decide_eq_true_eq]
  · exact fun x d v started goesOn => State.operate_illegal d started goesOn _
  · exact fun x d v go started goesOn => State.operate_legal d started goesOn go
  · exact fun q c k r n d no => afterAll_act2 t _ (child q c k r n d) (reducePartial_stray q r n d no)
  · exact fun q c k r n d valid known other next =>
      afterAll_act2 t _ (child q c k r n d) (reducePartial_next q d valid known other next)
  · exact fun q c k r n d valid known other notNext =>
      afterAll_act2 t _ (child q c k r n d) (reducePartial_otherRound q d valid known other notNext)
  · exact fun q c k r n d valid known now taken =>
      afterAll_act2 t _ (child q c k r n d) (reducePartial_taken q d valid known now taken)
  · exact fun q c k r n d valid known now unfolded new within =>
      afterAll_act2 t _ (child q c k r n d) (reducePartial_enters q d valid known now unfolded new within)
  · exact fun c r n d => afterAll_act2 t (fun x => x.result c (BitVec.ofNat 4 r) n d) rfl rfl
  · exact fun c t0 started late => afterAll_act2 t _ (timeout c) (reduceTimeout_late started late)
  · exact fun c t0 started sooner => afterAll_act2 t _ (timeout c) (reduceTimeout_sooner started sooner)
  · exact fun c idle => afterAll_act2 t _ (timeout c) (reduceTimeout_idle idle)
  · exact fun c r valid now => afterAll_act2 t _ (abort c r) (reduceAbortMessage_now valid now)
  · exact fun c r valid other => afterAll_act2 t _ (abort c r) (reduceAbortMessage_otherRound valid other)
  · exact fun c r invalid => afterAll_act2 t _ (abort c r) (reduceAbortMessage_stray invalid r)
  · exact fun x st r n i started status =>
      afterAll_act2 t _ (complete x st r n i) (if_pos (by rw [started, List.contains_iff_mem.2 status]; rfl))
  · exact fun x st r n i no =>
      afterAll_act2 t _ (complete x st r n i)
        (if_neg (by simpa only [Bool.and_eq_true, List.contains_iff_mem, not_and_or, Bool.not_eq_true] using no))

end

section
/-! SUPPORT. The effects of message queues' doorbells and of datagrams, case by case (R357, R358, R361, R495). -/

namespace Sys2Proof.Machine

/-! ### Doorbells (R358, R361, R495) -/

section
variable {s : State} {p m k : Nat} {tail : BitVec 16}

theorem sendDoorbell_none (no : s.isMq p m k = false) (ds : List SendDesc) : sendDoorbellEffect s p m k tail ds = s :=
  if_pos (by rw [no]; rfl)

theorem receiveDoorbell_none (no : s.isMq p m k = false) (bufs : List (Nat × Nat)) : receiveDoorbellEffect s p m k tail bufs = s :=
  if_pos (by rw [no]; rfl)

section
variable {v : State} (mq : s.isMq p m k = true) (hv : v = s.modSendQ p (mqFn m) k (fun r => { r with tail := tail }))
include mq hv

/-- At a governor level above 0, and of a function that sleeps, no send starts. -/
theorem sendDoorbell_holds (held : v.power.govLevel ≠ 0 ∨ ((v.part p).fn (mqFn m)).fld .powerState ≠ 0) (ds : List SendDesc) :
    sendDoorbellEffect s p m k tail ds = v := by
  subst hv
  exact (if_neg (by rw [mq]; decide)).trans (if_pos (by simpa using held))

theorem sendDoorbell_sends (level : v.power.govLevel = 0) (awake : ((v.part p).fn (mqFn m)).fld .powerState = 0) (ds : List SendDesc) :
    sendDoorbellEffect s p m k tail ds =
      v.each (ds.take (queueOf ((v.part p).fn (mqFn m)).sendQ k).waiting) (fun w d => w.sendOne p m k d) := by
  subst hv
  exact (if_neg (by rw [mq]; decide)).trans (if_neg (by simp [level, awake]))

end

section
variable {v : State} (mq : s.isMq p m k = true) (hv : v = s.modRecvQ p (mqFn m) k (fun r => { r with tail := tail }))
include mq hv

theorem receiveDoorbell_holds
    (held : (queueOf ((s.part p).fn (mqFn m)).recvQ k).enable = false ∨ ((v.part p).fn (mqFn m)).busMaster = false)
    (bufs : List (Nat × Nat)) : receiveDoorbellEffect s p m k tail bufs = v := by
  subst hv
  exact (if_neg (by rw [mq]; decide)).trans (if_neg (by simpa only [Bool.and_eq_true, not_and_or, Bool.not_eq_true] using held))

theorem receiveDoorbell_posts {l : List (Nat × Nat)} (hl : l = assocGetD ((s.part p).fn (mqFn m)).posted k [])
    (enabled : (queueOf ((s.part p).fn (mqFn m)).recvQ k).enable = true) (master : ((v.part p).fn (mqFn m)).busMaster = true)
    (bufs : List (Nat × Nat)) :
    receiveDoorbellEffect s p m k tail bufs =
      v.modFn p (mqFn m) (fun x => { x with
        posted := assocPut x.posted k
          (l ++ bufs.take (Ring.waiting { queueOf ((s.part p).fn (mqFn m)).recvQ k with tail := tail } - l.length)) }) := by
  subst hv hl
  exact (if_neg (by rw [mq]; decide)).trans (if_pos (by simp [enabled, master]))

end

end

/-! ### Datagrams (R361) -/

/-- A datagram is for a queue that is there: enabled, of a bus master of a partition at home here. -/
structure State.Reaches (s : State) (p : Nat) (d : Datagram) : Prop where
  part : p < 64
  fn : d.dstFn < 8
  queue : d.dstQueue < 16
  home : s.isHome p = true
  there : (s.part p).fnExists (mqFn d.dstFn) = true
  enabled : (queueOf ((s.part p).fn (mqFn d.dstFn)).recvQ d.dstQueue).enable = true
  master : ((s.part p).fn (mqFn d.dstFn)).busMaster = true

/-- The conditions under which a datagram is dropped before its buffers are looked at fail. -/
theorem State.Reaches.passes {s : State} {p : Nat} {d : Datagram} (reaches : s.Reaches p d) :
    ¬ (64 ≤ p || 8 ≤ d.dstFn || 16 ≤ d.dstQueue || !s.isHome p || !(s.part p).fnExists (mqFn d.dstFn) ||
      !(queueOf ((s.part p).fn (mqFn d.dstFn)).recvQ d.dstQueue).enable || !((s.part p).fn (mqFn d.dstFn)).busMaster) = true := by
  obtain ⟨part, fn, queue, home, there, enabled, master⟩ := reaches
  simp [part, fn, queue, home, there, enabled, master]

theorem datagramReceive_unreachable {s : State} {p : Nat} {d : Datagram}
    (no : 64 ≤ p ∨ 8 ≤ d.dstFn ∨ 16 ≤ d.dstQueue ∨ s.isHome p = false ∨ (s.part p).fnExists (mqFn d.dstFn) = false ∨
      (queueOf ((s.part p).fn (mqFn d.dstFn)).recvQ d.dstQueue).enable = false ∨ ((s.part p).fn (mqFn d.dstFn)).busMaster = false) :
    datagramReceiveEffect s p d = s.countHeart 0x3A7 1 :=
  if_pos (by simpa [or_assoc] using no)

section
variable {s : State} {p : Nat} {d : Datagram} (reaches : s.Reaches p d)
include reaches

theorem datagramReceive_unposted (unposted : assocGetD ((s.part p).fn (mqFn d.dstFn)).posted d.dstQueue [] = []) :
    datagramReceiveEffect s p d = s.countHeart 0x3A7 1 := by
  rw [datagramReceiveEffect, if_neg reaches.passes, unposted]

variable {addr size : Nat} {rest : List (Nat × Nat)}
  (posted : assocGetD ((s.part p).fn (mqFn d.dstFn)).posted d.dstQueue [] = (addr, size) :: rest)
include posted

theorem datagramReceive_tooLong (long : size < d.len) : datagramReceiveEffect s p d = s.countHeart 0x3A7 1 := by
  rw [datagramReceiveEffect, if_neg reaches.passes, posted]
  exact if_pos long

theorem datagramReceive_taken {q : Ring} {v w : State} (fits : d.len ≤ size)
    (hq : q = queueOf ((s.part p).fn (mqFn d.dstFn)).recvQ d.dstQueue)
    (hv : v = (s.modFn p (mqFn d.dstFn) (fun x => { x with posted := assocPut x.posted d.dstQueue rest })).modRecvQ p (mqFn d.dstFn)
      d.dstQueue Ring.advance)
    (hw : w = (v.issue p (mqFn d.dstFn) .func 6 addr (d.payload.take d.len)).issue p (mqFn d.dstFn) .func 6
      (q.cplBase + 16 * q.head.toNat)
      (leBytes 2 d.len ++ leBytes 2 d.srcCrown ++ leBytes 1 d.srcFn ++ leBytes 1 d.srcQueue ++
        leBytes 1 ((if d.cong = 3 then 1 else 0) + 2 * q.phase) ++ leBytes 9 0)) :
    datagramReceiveEffect s p d =
      ((w.countHeart 0x3A6 1).when (d.cong = 3) (fun x => x.countHeart 0x3A8 1)).vector p (mqFn d.dstFn) d.dstQueue := by
  subst hq hv hw
  rw [datagramReceiveEffect, if_neg reaches.passes, posted]
  exact if_neg (Nat.not_lt.2 fits)

end

end Sys2Proof.Machine

open Sys2Proof Sys2Proof.Machine

/-- Settles O40: each command's meaning is its effect, and each effect is given by the lemma on its case. -/
theorem messageQueueResults : Obligations.MessageQueueResults := by
  intro s u t hu
  subst hu
  have send (p m k tail ds) : exec (.sendDoorbell t p m k tail ds) s = act2 s t (fun x => sendDoorbellEffect x p m k tail ds) := rfl
  have receive (p m k tail bufs) : exec (.receiveDoorbell t p m k tail bufs) s =
      act1 s t (fun x => receiveDoorbellEffect x p m k tail bufs) := rfl
  have datagram (p d) : exec (.datagramReceive t p d) s = act2 s t (fun x => datagramReceiveEffect x p d) := rfl
  refine ⟨?_, ?_, ?_, ?_, ?_, ?_, ?_, ?_, ?_, ?_, ?_⟩
  · exact fun p m k tail ds no => afterAll_act2 t _ (send p m k tail ds) (sendDoorbell_none no ds)
  · exact fun p m k tail ds mq level => afterAll_act2 t _ (send p m k tail ds) (sendDoorbell_holds mq rfl (.inl level) ds)
  · exact fun p m k tail ds v mq hv asleep => afterAll_act2 t _ (send p m k tail ds) (sendDoorbell_holds mq hv (.inr asleep) ds)
  · exact fun p m k tail bufs no => after_act1 t _ (receive p m k tail bufs) (receiveDoorbell_none no bufs)
  · exact fun p m k tail bufs v mq hv held => after_act1 t _ (receive p m k tail bufs) (receiveDoorbell_holds mq hv held bufs)
  · exact fun p m k tail bufs v l mq hv hl enabled master =>
      after_act1 t _ (receive p m k tail bufs) (receiveDoorbell_posts mq hv hl enabled master bufs)
  · intro p m k tail ds v mq hv level awake
    have same : v.power = (s.tick t).power := by rw [hv, State.modSendQ, State.modFn_power]
    exact afterAll_act2 t _ (send p m k tail ds) (sendDoorbell_sends mq hv (by rw [same, level]) awake ds)
  · exact fun p d no => afterAll_act2 t _ (datagram p d) (datagramReceive_unreachable no)
  · exact fun p d part fn queue home there enabled master unposted =>
      afterAll_act2 t _ (datagram p d) (datagramReceive_unposted ⟨part, fn, queue, home, there, enabled, master⟩ unposted)
  · exact fun p d a n rest part fn queue home there enabled master posted long =>
      afterAll_act2 t _ (datagram p d) (datagramReceive_tooLong ⟨part, fn, queue, home, there, enabled, master⟩ posted long)
  · exact fun p d a n rest q v w part fn queue home there enabled master posted fits hq hv hw =>
      afterAll_act2 t _ (datagram p d) (datagramReceive_taken ⟨part, fn, queue, home, there, enabled, master⟩ posted fits hq hv hw)

end

section
/-! SUPPORT. What the F4 latch bars and what clears it (R382, R385, R553). -/

namespace Sys2Proof.Machine

/-- What had been reached in a state with the F4 latch, with nothing said of its instant or of test mode. -/
def Mark.latched : Mark := ⟨0, false, true⟩

theorem State.Inv.okLatched {s : State} (h : s.Inv) (latched : s.faults.crown = .f4Latched) : s.Ok .latched :=
  ⟨h, Nat.zero_le _, nofun, fun _ => latched⟩

/-- A heartwood that stops without the latch starts afresh without a fault state. -/
theorem State.powerOff_crown {s : State} (h : s.faults.crown ≠ .f4Latched) : s.powerOff.faults.crown = .normal := by
  simp [State.powerOff, h]

theorem inputRemovedEffect_crown (s : State) : (inputRemovedEffect s).faults.crown = .normal :=
  State.powerOff_crown (by simp)

theorem State.resetsBarred_latched {s : State} (h : s.faults.crown = .f4Latched) : s.resetsBarred = true := by
  simp [State.resetsBarred, h]

@[simp] theorem Verdict.state_done (s u : State) : (Verdict.done u).state s = u := rfl
@[simp] theorem Verdict.state_denied (s : State) : Verdict.denied.state s = s := rfl
@[simp] theorem Verdict.state_refused (s : State) : Verdict.refused.state s = s := rfl

/-- Nothing is released while resets are barred, and no partition that is not contained or not there. -/
theorem State.release_refused {s : State} {p : Nat} (who : Role)
    (no : 64 ≤ p ∨ s.resetsBarred = true ∨ (s.part p).state ≠ .contained) : (s.release who p).state s = s := by
  rw [State.release]
  split
  case isTrue => rfl
  case isFalse => rw [if_pos (by simpa [or_assoc] using no), Verdict.state_refused]

/-- No acknowledgement of an entry that is not there, has no open window, or is of class F4. -/
theorem State.ackFault_refused {s : State} {seq : BitVec 15} (who : Role)
    (no : ∀ h, s.histEntry seq = some h → h.ackOpen s.now = false ∨ h.cls = 4) : (s.ackFault who seq).state s = s := by
  unfold State.ackFault
  extract_lets allowed
  split
  case isTrue => rfl
  case isFalse =>
    split
    case h_1 h held => rw [if_pos (by simpa using no h held), Verdict.state_refused]
    case h_2 => rfl

end Sys2Proof.Machine

open Sys2Proof Sys2Proof.Machine

/-- Settles O10: every command keeps the latch that had been reached (`exec_ok`), and what the latch bars changes nothing. -/
theorem latchHoldsUntilInputRemoved : Obligations.LatchHoldsUntilInputRemoved := by
  refine ⟨?_, ?_, ?_, ?_, ?_⟩
  · intro c s u inv latched stays go
    obtain ⟨-, reached⟩ := (exec_ok c (fun t removed => absurd removed (stays t)) (inv.okLatched latched)).of_eq u go
    exact reached.latch rfl
  · intro t s u go
    cases go
    exact inputRemovedEffect_crown _
  · exact fun s stop latched => State.warmReset_latched latched stop
  · exact fun s who p latched => State.release_refused who (.inr (.inl (State.resetsBarred_latched latched)))
  · intro s who seq h held f4
    refine State.ackFault_refused who fun k entry => .inr ?_
    rw [← Option.some.inj (held.symm.trans entry), f4]

end

section
/-! SUPPORT. The effects of error signals, broken paths, tamper and the one-second intervals, case by case (R371 to R377, R384, R385, R390,
R395). -/

namespace Sys2Proof.Machine

/-! ### Error signals (R373 to R377, R385, R395) -/

/-- A signal that its collector takes: of a unit that is not silent, from a source of the tables, of a class of R371. -/
structure State.Hears (s : State) (e : ErrorSig) : Prop where
  collector : ∀ x, unitOfSource e.source = some x → s.collectorSilent x = false
  fires : sourceFires e.source = true
  cls : e.cls ≤ 4

/-- The hit of the injection slot that a signal names, if it names one. -/
def State.hitNamed (s : State) : Option Nat → State
  | some k => s.injectHit k
  | none => s

/-- A signal's event as it is recorded where nothing is contained. -/
def errorEvent (e : ErrorSig) : Ev := { Ev.plain e.source e.code e.cls with inj := e.injSlot.isSome }

theorem errorSignal_unheard {s : State} {e : ErrorSig}
    (no : (∃ x, unitOfSource e.source = some x ∧ s.collectorSilent x = true) ∨ sourceFires e.source = false ∨ 4 < e.cls) :
    errorSignalEffect s e = s := by
  refine if_pos ?_
  rcases no with ⟨x, unit, silent⟩ | stranger | above
  · simp [unit, silent]
  · simp [stranger]
  · simp [above]

/-- What a signal brings by its class, once the injection slot that it names is hit (R374, R377, R384, R385). -/
def State.errorBrings (s : State) (e : ErrorSig) : State :=
  match e.cls with
  | 2 =>
    (match e.unit, e.part with
      | some .crown, _ => s.note (errorEvent e)
      | some x, _ => (s.contain x).note { errorEvent e with level := x.level, unit := some x, action := x.action }
      | none, some p =>
        if p < 64 then (s.containPart p false none).note { errorEvent e with level := 5, part := some p, action := 5 }
        else s.note (errorEvent e)
      | none, none => s.note (errorEvent e))
  | 3 => s.note { errorEvent e with level := 4, unit := some .crown, action := 7 }
  | 4 =>
    (match e.f4cause with
      | 1 => s.fetDamage
      | 2 => s.tampered
      | 3 => s.grave Config.rootSource (Config.eventCode Config.rootSource) 3
      | _ => s)
  | _ => s.note (errorEvent e)

theorem errorSignal_heard {s v : State} {e : ErrorSig} (hears : s.Hears e) (hv : v = s.hitNamed e.injSlot) :
    errorSignalEffect s e = v.errorBrings e := by
  obtain ⟨collector, fires, cls⟩ := hears
  subst hv
  refine (if_neg ?_).trans rfl
  cases unit : unitOfSource e.source with
  | none => simp [fires, cls]
  | some x => simp [fires, cls, collector x unit]

section
variable {s : State} {e : ErrorSig}

theorem State.errorBrings_minor (cls : e.cls < 2) : s.errorBrings e = s.note (errorEvent e) := by
  rw [State.errorBrings]
  split
  case h_4 => rfl
  all_goals omega

section
variable (cls : e.cls = 2)
include cls

theorem State.errorBrings_unit {x : UnitId} (unit : e.unit = some x) (below : x ≠ .crown) :
    s.errorBrings e = (s.contain x).note { errorEvent e with level := x.level, unit := some x, action := x.action } := by
  rw [State.errorBrings, cls, unit]
  cases x with
  | crown => exact absurd rfl below
  | twig | bough | limb | die => rfl

theorem State.errorBrings_part {p : Nat} (unit : e.unit = none) (named : e.part = some p) (part : p < 64) :
    s.errorBrings e = (s.containPart p false none).note { errorEvent e with level := 5, part := some p, action := 5 } := by
  rw [State.errorBrings, cls, unit, named]
  exact if_pos part

/-- An F2 error that names the crown, no unit and no partition, or a number that is no partition's, contains nothing. -/
theorem State.errorBrings_nothing (none_ : e.unit = some .crown ∨ e.unit = none ∧ ∀ p, e.part = some p → 64 ≤ p) :
    s.errorBrings e = s.note (errorEvent e) := by
  rcases none_ with crown | ⟨unit, noPart⟩
  · simp only [State.errorBrings, cls, crown]
  · cases named : e.part with
    | none => simp only [State.errorBrings, cls, unit, named]
    | some p =>
      rw [State.errorBrings, cls, unit, named]
      exact if_neg (Nat.not_lt.2 (noPart p named))

end

theorem State.errorBrings_F3 (cls : e.cls = 3) :
    s.errorBrings e = s.note { errorEvent e with level := 4, unit := some .crown, action := 7 } := by
  simp only [State.errorBrings, cls]

section
variable (cls : e.cls = 4)
include cls

theorem State.errorBrings_switchDamage (cause : e.f4cause = 1) : s.errorBrings e = s.fetDamage := by
  simp only [State.errorBrings, cls, cause]

theorem State.errorBrings_tamper (cause : e.f4cause = 2) : s.errorBrings e = s.tampered := by
  simp only [State.errorBrings, cls, cause]

theorem State.errorBrings_rootFault (cause : e.f4cause = 3) :
    s.errorBrings e = s.grave Config.rootSource (Config.eventCode Config.rootSource) 3 := by
  simp only [State.errorBrings, cls, cause]

theorem State.errorBrings_noCause (cause : e.f4cause = 0 ∨ 3 < e.f4cause) : s.errorBrings e = s := by
  simp only [State.errorBrings, cls]
  split
  case h_4 => rfl
  all_goals omega

end

end

/-! ### Broken paths (R374, R376) -/

/-- The F3 event of a collector that finds a path broken. -/
def brokenAt (src : Nat) : Ev :=
  { src := src, code := Config.eventCode src, cls := 3, level := 4, unit := some .crown, part := none, action := 7, inj := false }

section
variable {s : State}

theorem pathBroken_silent {x : UnitId} (silent : s.collectorSilent x = true) : pathBrokenEffect s x = s := if_pos silent

theorem pathBroken_twig {g : Nat} (speaks : s.collectorSilent (.twig g) = false) :
    pathBrokenEffect s (.twig g) = s.note (brokenAt (srcLimb (limbOf g) 7)) := if_neg (Bool.eq_false_iff.1 speaks)

theorem pathBroken_bough {b : Nat} (speaks : s.collectorSilent (.bough b) = false) :
    pathBrokenEffect s (.bough b) = s.note (brokenAt (srcLimb (limbOfBough b) 7)) := if_neg (Bool.eq_false_iff.1 speaks)

theorem pathBroken_limb {l : Nat} (speaks : s.collectorSilent (.limb l) = false) :
    pathBrokenEffect s (.limb l) = s.note (brokenAt (srcStem (l / 2) 7)) := if_neg (Bool.eq_false_iff.1 speaks)

theorem pathBroken_die {d : Nat} (speaks : s.collectorSilent (.die d) = false) :
    pathBrokenEffect s (.die d) = s.grave Config.rootSource (Config.eventCode Config.rootSource) 3 := if_neg (Bool.eq_false_iff.1 speaks)

theorem pathBroken_crown : pathBrokenEffect s .crown = s.grave Config.rootSource (Config.eventCode Config.rootSource) 3 := rfl

end

end Sys2Proof.Machine

open Sys2Proof Sys2Proof.Machine

/-- Settles O41: each command's meaning is its effect, and each effect is given by the lemma on its case; an error signal that is heard
hits its injection slot and then brings what its class says. -/
theorem errorSignalResults : Obligations.ErrorSignalResults := by
  intro s u t hu
  subst hu
  have signal (e) : exec (.errorSignal t e) s = act2 s t (fun x => errorSignalEffect x e) := rfl
  have heard {e : ErrorSig} {v w : State} (collector : ∀ x, unitOfSource e.source = some x → (s.tick t).collectorSilent x = false)
      (fires : sourceFires e.source = true) (hv : v = (s.tick t).hitNamed e.injSlot) (cls : e.cls ≤ 4) (brings : v.errorBrings e = w) :
      AfterAll (.errorSignal t e) s w :=
    afterAll_act2 t _ (signal e) ((errorSignal_heard ⟨collector, fires, cls⟩ hv).trans brings)
  have broken (x) : exec (.pathBroken t x) s = act2 s t (fun y => pathBrokenEffect y x) := rfl
  have tamper : exec (.tamper t) s = act2 s t State.tampered := rfl
  have roll : exec (.f1Interval t) s = act1 s t State.f1Roll := rfl
  have rollViolations : exec (.violationInterval t) s = act1 s t State.violRoll := rfl
  refine ⟨?_, ?_, ?_, ?_, ?_, ?_, ?_, ?_, ?_, ?_, ?_, ?_, ?_, ?_, ?_, ?_, ?_, ?_, ?_, ?_, ?_⟩
  · exact fun e no => afterAll_act2 t _ (signal e) (errorSignal_unheard no)
  · exact fun e v collector fires hv minor => heard collector fires hv (by omega) (State.errorBrings_minor minor)
  · exact fun e v x collector fires hv cls unit below => heard collector fires hv (by omega) (State.errorBrings_unit cls unit below)
  · exact fun e v p collector fires hv cls unit named part =>
      heard collector fires hv (by omega) (State.errorBrings_part cls unit named part)
  · exact fun e v collector fires hv cls none_ => heard collector fires hv (by omega) (State.errorBrings_nothing cls none_)
  · exact fun e v collector fires hv cls => heard collector fires hv (by omega) (State.errorBrings_F3 cls)
  · exact fun e v collector fires hv cls cause => heard collector fires hv (by omega) (State.errorBrings_switchDamage cls cause)
  · exact fun e v collector fires hv cls cause => heard collector fires hv (by omega) (State.errorBrings_tamper cls cause)
  · exact fun e v collector fires hv cls cause => heard collector fires hv (by omega) (State.errorBrings_rootFault cls cause)
  · exact fun e v collector fires hv cls cause => heard collector fires hv (by omega) (State.errorBrings_noCause cls cause)
  · exact fun x silent => afterAll_act2 t _ (broken x) (pathBroken_silent silent)
  · exact fun g speaks => afterAll_act2 t _ (broken (.twig g)) (pathBroken_twig speaks)
  · exact fun b speaks => afterAll_act2 t _ (broken (.bough b)) (pathBroken_bough speaks)
  · exact fun l speaks => afterAll_act2 t _ (broken (.limb l)) (pathBroken_limb speaks)
  · exact fun d speaks => afterAll_act2 t _ (broken (.die d)) (pathBroken_die speaks)
  · exact afterAll_act2 t _ (broken .crown) pathBroken_crown
  · exact afterAll_act2 t _ tamper rfl
  · exact fun new => after_act1 t _ roll (if_neg new)
  · exact fun same => after_act1 t _ roll (if_pos same)
  · exact fun new => after_act1 t _ rollViolations (if_neg new)
  · exact fun same => after_act1 t _ rollViolations (if_pos same)

end

section
/-! SUPPORT. The effects of the windows of history entries and of their acknowledgement, case by case (R382 to R384). -/

namespace Sys2Proof.Machine

/-! ### The window of an F2 entry ends (R383) -/

@[simp] theorem State.getDef_closeWindow (s : State) (seq : BitVec 15) (key d : Nat) :
    (s.closeWindow seq).getDef key d = s.getDef key d := rfl

theorem faultWindowExpire_open {s : State} {seq : BitVec 15}
    (no : ∀ h w, s.histEntry seq = some h → h.window = some w → h.cls ≠ 2 ∨ s.now < w) : faultWindowExpireEffect s seq = s := by
  rw [faultWindowExpireEffect]
  split
  case h_2 => rfl
  case h_1 h held =>
    split
    case h_2 => rfl
    case h_1 w window => exact if_pos (by simpa using no h w held window)

section
variable {s : State} {seq : BitVec 15} {h : HistEntry} {w : Nat}
  (held : s.histEntry seq = some h) (window : h.window = some w) (cls : h.cls = 2) (late : w ≤ s.now)
include held window cls late

theorem faultWindowExpire_noUnit (none_ : h.unit = none) :
    faultWindowExpireEffect s seq = (s.closeWindow seq).noteAt 0xBCA (h.source % 65536) 0 := by
  simp [faultWindowExpireEffect, held, window, cls, Nat.not_lt.2 late, none_]

variable {x : UnitId} (unit : h.unit = some x)
include unit

/-- An entry that contained no unit escalates to none. -/
theorem faultWindowExpire_noUnitAction (other : h.action = 0 ∨ 4 < h.action) :
    faultWindowExpireEffect s seq = (s.closeWindow seq).noteAt 0xBCA (unitCode x) 0 := by
  have action : ¬ (1 ≤ h.action ∧ h.action ≤ 4) := by omega
  simp [faultWindowExpireEffect, held, window, cls, Nat.not_lt.2 late, unit, action]

variable (least : 1 ≤ h.action) (most : h.action ≤ 4)
include least most

theorem faultWindowExpire_beyondCeiling (ceiling : s.getDef Key.F2_CEILING 4 < ceilingCode x.up) :
    faultWindowExpireEffect s seq = (s.closeWindow seq).noteAt 0xBCA (unitCode x) 0 := by
  simp [faultWindowExpireEffect, held, window, cls, Nat.not_lt.2 late, unit, least, most, ceiling]

theorem faultWindowExpire_toCrown (crown : x.up = .crown) (ceiling : ceilingCode x.up ≤ s.getDef Key.F2_CEILING 4) :
    faultWindowExpireEffect s seq = ((s.closeWindow seq).countHeart 0x3B2 1).note
      { src := 0xBC9, code := 0, cls := 3, level := 4, unit := some .crown, part := none, action := 7, inj := false } := by
  rw [crown] at ceiling
  simp [faultWindowExpireEffect, held, window, cls, Nat.not_lt.2 late, unit, least, most, crown, Nat.not_lt.2 ceiling]

theorem faultWindowExpire_escalates (below : x.up ≠ .crown) (ceiling : ceilingCode x.up ≤ s.getDef Key.F2_CEILING 4) :
    faultWindowExpireEffect s seq = (((s.closeWindow seq).countHeart 0x3B2 1).contain x.up).note
      { src := 0xBC9, code := unitCode x.up, cls := 2, level := x.up.level, unit := some x.up, part := none, action := x.up.action,
        inj := false } := by
  simp [faultWindowExpireEffect, held, window, cls, Nat.not_lt.2 late, unit, least, most, below, Nat.not_lt.2 ceiling]

end

/-! ### The window of the open F3 entry ends (R384) -/

theorem f3WindowExpire_resets {s : State} {h : HistEntry} {w : Nat} (held : s.f3Entry = some h) (window : h.window = some w)
    (late : w ≤ s.now) (crown : s.faults.crown = .f3Open) : f3WindowExpireEffect s = s.warmReset (warmCode .faultWindow) := by
  simp [f3WindowExpireEffect, held, window, late, crown]

theorem f3WindowExpire_open {s : State} (no : ∀ h w, s.f3Entry = some h → h.window = some w → s.faults.crown ≠ .f3Open ∨ s.now < w) :
    f3WindowExpireEffect s = s := by
  rw [f3WindowExpireEffect]
  split
  case h_2 => rfl
  case h_1 h held =>
    split
    case h_2 => rfl
    case h_1 w window => exact if_neg (by simpa [-not_and, not_and_or] using no h w held window)

/-! ### Acknowledgement (R382, R384) -/

section
variable {s v : State} {seq : BitVec 15} {h : HistEntry} (held : s.histEntry seq = some h)
include held

theorem State.ackFault_taken {who : Role} (may : (∃ k, who = .installer k) ∨ ∃ p, who = .operator p ∧ s.operatorMayAck p h = true)
    (window : h.ackOpen s.now = true) (cls : h.cls ≠ 4) (hv : v = (s.closeWindow seq).countHeart 0x3B3 1) :
    (s.ackFault who seq).state s =
      if h.cls = 3 && v.faults.crown = .f3Open then v.modFaults (fun f => { f with crown := .f3Acked }) else v := by
  subst hv
  rcases may with ⟨k, rfl⟩ | ⟨p, rfl, may⟩
  · simp [State.ackFault, held, window, cls]
  · simp [State.ackFault, held, may, window, cls]

theorem State.ackFault_otherOperator {p : Nat} (no : s.operatorMayAck p h = false) :
    (s.ackFault (.operator p) seq).state s = s := by
  simp [State.ackFault, held, no]

end

theorem State.ackFault_denied {s : State} {who : Role} (seq : BitVec 15) (installer : ∀ k, who ≠ .installer k)
    (operator : ∀ p, who ≠ .operator p) : (s.ackFault who seq).state s = s :=
  match who with
  | .anonymous => rfl
  | .maker _ => rfl
  | .installer k => absurd rfl (installer k)
  | .operator p => absurd rfl (operator p)

end Sys2Proof.Machine

open Sys2Proof Sys2Proof.Machine

/-- Settles O42: each command's meaning is its effect, and each effect is given by the lemma on its case. -/
theorem faultWindows : Obligations.FaultWindows := by
  intro s u t hu
  subst hu
  have expire (seq) : exec (.faultWindowExpire t seq) s = act2 s t (fun x => faultWindowExpireEffect x seq) := rfl
  have expire3 : exec (.f3WindowExpire t) s = act1 s t f3WindowExpireEffect := rfl
  have ack (who seq) : exec (.faultAck t who seq) s = act1 s t (fun x => (x.ackFault who seq).state x) := rfl
  refine ⟨?_, ?_, ?_, ?_, ?_, ?_, ?_, ?_, ?_, ?_, ?_, ?_⟩
  · exact fun seq h w x held window cls late unit least most below ceiling =>
      afterAll_act2 t _ (expire seq) (faultWindowExpire_escalates held window cls late unit least most below ceiling)
  · exact fun seq h w x held window cls late unit least most crown ceiling =>
      afterAll_act2 t _ (expire seq) (faultWindowExpire_toCrown held window cls late unit least most crown ceiling)
  · exact fun seq h w x held window cls late unit other =>
      afterAll_act2 t _ (expire seq) (faultWindowExpire_noUnitAction held window cls late unit other)
  · exact fun seq h w x held window cls late unit least most ceiling =>
      afterAll_act2 t _ (expire seq) (faultWindowExpire_beyondCeiling held window cls late unit least most ceiling)
  · exact fun seq h w held window cls late none_ =>
      afterAll_act2 t _ (expire seq) (faultWindowExpire_noUnit held window cls late none_)
  · exact fun seq no => afterAll_act2 t _ (expire seq) (faultWindowExpire_open no)
  · exact fun h w held window late crown => after_act1 t _ expire3 (f3WindowExpire_resets held window late crown)
  · exact fun no => after_act1 t _ expire3 (f3WindowExpire_open no)
  · exact fun who seq h v may held window cls hv => after_act1 t _ (ack who seq) (State.ackFault_taken held may window cls hv)
  · exact fun p seq h held no => after_act1 t _ (ack (.operator p) seq) (State.ackFault_otherOperator held no)
  · exact fun who seq installer operator => after_act1 t _ (ack who seq) (State.ackFault_denied seq installer operator)
  · exact fun who seq no => after_act1 t _ (ack who seq) (State.ackFault_refused who no)

end

section
/-! SUPPORT. The effects of containing and releasing a partition and of containment messages, case by case (R378, R380, R384 to R386,
R391, R400). -/

namespace Sys2Proof.Machine

/-! ### PART_CONTAIN (R400) -/

section
variable {s : State} {who : Role} {p : Nat}

theorem State.containBy_installer (k : Nat) (part : p < 64) (used : s.partUsed p = true) :
    (s.containBy (.installer k) p).state s = (s.containPart p true none).note
      { src := 0xBC7, code := p, cls := 2, level := 5, unit := none, part := some p, action := 5, inj := false } := by
  simp [State.containBy, Role.isInstaller, Nat.not_le.2 part, used]

theorem State.containBy_operator (part : p < 64) (used : s.partUsed p = true) :
    (s.containBy (.operator p) p).state s = (s.containPart p false none).note
      { src := 0xBC7, code := p, cls := 2, level := 5, unit := none, part := some p, action := 5, inj := false } := by
  simp [State.containBy, Role.isInstaller, part, Nat.not_le.2 part, used]

theorem State.containBy_denied (installer : ∀ k, who ≠ .installer k) (operator : who ≠ .operator p) :
    (s.containBy who p).state s = s :=
  match who with
  | .anonymous => rfl
  | .maker _ => rfl
  | .installer k => absurd rfl (installer k)
  | .operator n => by
    have other : n ≠ p := fun same => operator (congrArg Role.operator same)
    simp [State.containBy, other]

theorem State.containBy_unused (no : 64 ≤ p ∨ s.partUsed p = false) : (s.containBy who p).state s = s := by
  unfold State.containBy
  extract_lets allowed
  split
  case isTrue => rfl
  case isFalse => rw [if_pos (by simpa using no), Verdict.state_refused]

end

/-! ### PART_RELEASE (R384 to R386) -/

theorem State.release_denied {s : State} {who : Role} (p : Nat) (user : who.isInstaller = false) : (s.release who p).state s = s := by
  rw [State.release, user]
  rfl

/-- A partition that may be released is, and the other crowns hear of it unless their message contained it. -/
theorem State.release_taken {s : State} {p : Nat} (k : Nat) (part : p < 64) (free : s.resetsBarred = false)
    (contained : (s.part p).state = .contained) :
    (s.release (.installer k) p).state s = s.releasePart p (s.part p).messageHeld.isNone := by
  simp [State.release, Role.isInstaller, Nat.not_le.2 part, free, contained]

section
variable {s v : State} {p : Nat}
  (hv : v = s.modPart p (fun x => { x with
    state := if s.causeHolds p then .held else .active, causeOn := s.causeHolds p, installerHeld := false, messageHeld := none }))
include hv

theorem State.releasePart_told : s.releasePart p true =
    if s.causeHolds p then v.containMessage 2 false 0 (v.groveId p)
    else (v.containMessage 2 false 0 (v.groveId p)).noteAt 0xBC1 p 0 := by
  subst hv
  rfl

theorem State.releasePart_untold : s.releasePart p false = if s.causeHolds p then v else v.noteAt 0xBC1 p 0 := by
  subst hv
  rfl

end

/-! ### Containment messages (R380, R391) -/

/-- The far ends that this crown's trunks have found: crown and trunk (R104). -/
def State.farEnds (s : State) : List (Nat × Nat) := (List.range 16).filterMap (fun r => (s.trunk r).peer)

theorem State.mem_farEnds {s : State} {e : Nat × Nat} : e ∈ s.farEnds ↔ ∃ r < 16, (s.trunk r).peer = some e := by
  simp [State.farEnds]

theorem State.farEnds_any_crown {s : State} {c : Nat} :
    s.farEnds.any (fun e => e.1 == c) = true ↔ ∃ r p, r < 16 ∧ (s.trunk r).peer = some p ∧ p.1 = c := by
  simp only [List.any_eq_true, State.mem_farEnds, beq_iff_eq]
  exact ⟨fun ⟨p, ⟨r, h, peer⟩, at_⟩ => ⟨r, p, h, peer, at_⟩, fun ⟨r, p, h, peer, at_⟩ => ⟨p, ⟨r, h, peer⟩, at_⟩⟩

theorem State.farEnds_any_end {s : State} {c q : Nat} :
    s.farEnds.any (fun e => e.1 == c && e.2 == q) = true ↔ ∃ r, r < 16 ∧ (s.trunk r).peer = some (c, q) := by
  simp [State.mem_farEnds]

/-- Row 0x0B of R391: the message names a T-twig that is no far end of the trunks to its reporter, though there are such trunks (log
entry 193). -/
def State.misnames (s : State) (m : ContainMsg) : Bool :=
  (m.kind = 1 || m.kind = 3) && isT m.twig && s.farEnds.any (fun e => e.1 == m.reporter) &&
    !s.farEnds.any (fun e => e.1 == m.reporter && e.2 == trunkOfG m.twig)

section
variable {s : State} {q : Nat} {m : ContainMsg}

theorem State.misnames_eq_false
    (no : (m.kind ≠ 1 ∧ m.kind ≠ 3) ∨ isT m.twig = false ∨ (∀ r p, r < 16 → (s.trunk r).peer = some p → p.1 ≠ m.reporter) ∨
      ∃ r, r < 16 ∧ (s.trunk r).peer = some (m.reporter, trunkOfG m.twig)) : s.misnames m = false := by
  refine Bool.eq_false_iff.2 fun yes => ?_
  simp only [State.misnames, Bool.and_eq_true, Bool.or_eq_true, decide_eq_true_eq, Bool.not_eq_true', State.farEnds_any_crown] at yes
  obtain ⟨⟨⟨kind, twig⟩, r, p, trunk, peer, at_⟩, none_⟩ := yes
  rcases no with other | noT | strange | found
  · omega
  · exact Bool.false_ne_true (noT.symm.trans twig)
  · exact strange r p trunk peer at_
  · exact Bool.false_ne_true (none_.symm.trans (State.farEnds_any_end.2 found))

theorem State.misnames_eq_true (kind : m.kind = 1 ∨ m.kind = 3) (twig : isT m.twig = true)
    (known : ∃ r p, r < 16 ∧ (s.trunk r).peer = some p ∧ p.1 = m.reporter)
    (none_ : ∀ r, r < 16 → (s.trunk r).peer ≠ some (m.reporter, trunkOfG m.twig)) : s.misnames m = true := by
  have noEnd : s.farEnds.any (fun e => e.1 == m.reporter && e.2 == trunkOfG m.twig) = false :=
    Bool.eq_false_iff.2 fun found => by
      obtain ⟨r, trunk, peer⟩ := State.farEnds_any_end.1 found
      exact none_ r trunk peer
  rw [State.misnames, State.farEnds_any_crown.2 known, noEnd, twig]
  simpa using kind

/-- A containment message of this crown, or no newer than the last of its reporter. -/
theorem containmentMessage_ignored
    (no : m.reporter = s.crownId ∨ ∃ k, assocGet s.fabric.containSeen m.reporter = some k ∧ newer16 m.number k = false) :
    containmentMessageEffect s q m = s := by
  rcases no with own | ⟨k, seen, older⟩
  · exact if_pos (by simp [own])
  · exact if_pos (by simp [seen, older])

/-- One of another crown, newer than the last of its reporter, is acted on unless it misnames a T-twig. -/
theorem containmentMessage_newer (foreign : m.reporter ≠ s.crownId)
    (newer : ∀ k, assocGet s.fabric.containSeen m.reporter = some k → newer16 m.number k = true) :
    containmentMessageEffect s q m =
      if s.misnames m then s.contradicts q
      else (((s.modFabric (fun f => { f with containSeen := assocPut f.containSeen m.reporter m.number })).countHeart 0x3B6 1).sendControl
        (fun r => r ≠ q) (.containment m)).containTold m := by
  refine if_neg ?_
  cases seen : assocGet s.fabric.containSeen m.reporter with
  | none => simp [foreign]
  | some k => simp [foreign, newer k seen]

end

end Sys2Proof.Machine

open Sys2Proof Sys2Proof.Machine

/-- Settles O43: each command's meaning is its effect, and each effect is given by the lemma on its case. -/
theorem containmentOfPartitions : Obligations.ContainmentOfPartitions := by
  intro s u t hu
  subst hu
  have contain (who p) : exec (.partContain t who p) s = act2 s t (fun x => (x.containBy who p).state x) := rfl
  have release (who p) : exec (.partRelease t who p) s = act1 s t (fun x => (x.release who p).state x) := rfl
  have message (q m) : exec (.containmentMessage t q m) s = act2 s t (fun x => containmentMessageEffect x q m) := rfl
  refine ⟨?_, ?_, ?_, ?_, ?_, ?_, ?_, ?_, ?_, ?_, ?_, ?_⟩
  · exact fun k p part used => afterAll_act2 t _ (contain (.installer k) p) (State.containBy_installer k part used)
  · exact fun p part used => afterAll_act2 t _ (contain (.operator p) p) (State.containBy_operator part used)
  · exact fun who p installer operator => afterAll_act2 t _ (contain who p) (State.containBy_denied installer operator)
  · exact fun who p no => afterAll_act2 t _ (contain who p) (State.containBy_unused no)
  · intro k p v part free contained hv held
    refine after_act1 t _ (release (.installer k) p) ((State.release_taken k part free contained).trans ?_)
    rw [held]
    exact State.releasePart_told hv
  · intro k p c v part free contained hv held
    refine after_act1 t _ (release (.installer k) p) ((State.release_taken k part free contained).trans ?_)
    rw [held]
    exact State.releasePart_untold hv
  · exact fun who p user => after_act1 t _ (release who p) (State.release_denied p user)
  · exact fun who p no => after_act1 t _ (release who p) (State.release_refused who no)
  · intro q m v foreign newer right hv
    refine afterAll_act2 t _ (message q m) ((containmentMessage_newer foreign newer).trans ?_)
    rw [State.misnames_eq_false right, hv]
    rfl
  · intro q m foreign newer kind twig known none_
    refine afterAll_act2 t _ (message q m) ((containmentMessage_newer foreign newer).trans ?_)
    exact if_pos (State.misnames_eq_true kind twig known none_)
  · exact fun q m k seen older => afterAll_act2 t _ (message q m) (containmentMessage_ignored (.inr ⟨k, seen, older⟩))
  · exact fun q m own => afterAll_act2 t _ (message q m) (containmentMessage_ignored (.inl own))

end

section
/-! SUPPORT. The effects on injection slots and the debug port, case by case (R372, R393 to R397). -/

namespace Sys2Proof.Machine

/-! ### Injection slots (R393, R394) -/

/-- A write of INJECT_ARM is taken: by an installer, of a slot that is there, with a legal value of 32 bits. -/
theorem injectArm_taken {s : State} {n v : Nat} (k : Nat) (slot : n < 16) (width : v < 2 ^ 32) (legal : injectLegal v = true) :
    (if (Role.installer k).isInstaller && n < 16 && v < 2 ^ 32 && injectLegal v then s.arm n v else s) =
      s.modFaults (fun f => { f with inject := f.inject.set n (BitVec.ofNat 32 v), injectLeft := f.injectLeft.set n (v % 65536) }) :=
  (if_pos (by simp only [Role.isInstaller, slot, width, legal, decide_true, Bool.and_self])).trans (by simp [State.arm, field])

theorem injectArm_refused {s : State} {who : Role} {n v : Nat}
    (no : who.isInstaller = false ∨ 16 ≤ n ∨ 2 ^ 32 ≤ v ∨ injectLegal v = false) :
    (if who.isInstaller && n < 16 && v < 2 ^ 32 && injectLegal v then s.arm n v else s) = s :=
  if_neg (by
    simp only [Bool.and_eq_true, decide_eq_true_eq, not_and_or, not_lt, Bool.not_eq_true]
    simpa only [or_assoc] using no)

/-! ### Instructions of the debug port (R372, R396) -/

section
variable {s : State} {i : DebugInstr}

theorem State.debugLoad_allowed {allowed : Bool} (yes : allowed = true) (up : s.faults.debugShut = false) :
    s.debugLoad i allowed = s.modFaults (fun f => { f with debugInstr := i }) := by
  simp [State.debugLoad, State.modFaults, yes, up]

theorem State.debugLoad_barred {allowed : Bool} (no : allowed = false ∨ s.faults.debugShut = true) :
    s.debugLoad i allowed = s.modFaults (fun f => { f with debugInstr := .bypass }) := by
  rcases no with barred | shut
  · simp [State.debugLoad, barred]
  · simp [State.debugLoad, State.modFaults, shut]

/-- An instruction is loaded, and where it is the one that then stands in the port it does its work. -/
def State.loadThen (s : State) (i : DebugInstr) (allowed : Bool) (work : State → State) : State :=
  if (s.debugLoad i allowed).faults.debugInstr = i then work (s.debugLoad i allowed) else s.debugLoad i allowed

theorem State.loadThen_allowed {allowed : Bool} (work : State → State) (yes : allowed = true) (up : s.faults.debugShut = false) :
    s.loadThen i allowed work = work (s.modFaults (fun f => { f with debugInstr := i })) := by
  rw [State.loadThen, State.debugLoad_allowed yes up]
  exact if_pos rfl

theorem State.loadThen_barred {allowed : Bool} (work : State → State) (other : i ≠ .bypass)
    (no : allowed = false ∨ s.faults.debugShut = true) :
    s.loadThen i allowed work = s.modFaults (fun f => { f with debugInstr := .bypass }) := by
  rw [State.loadThen, State.debugLoad_barred no]
  exact if_neg other.symm

end

/-! ### DBG_CMD (R397) -/

section
variable {s : State} {cmd : BitVec 96} (data : BitVec 64)

theorem dbgCmdUpdate_unloaded (other : s.faults.debugInstr ≠ .dbgAccess) : dbgCmdUpdateEffect s cmd data = s :=
  if_pos other

variable (loaded : s.faults.debugInstr = .dbgAccess)
include loaded

/-- A command that the port does not take answers ERR with zeros, whatever was shifted in. -/
theorem dbgCmdUpdate_refused (no : s.faults.debugShut = true ∨ s.debugBit 31 = false ∨ field cmd.toNat 80 64 ≠ 0 ∨
      field cmd.toNat 63 0 % 8 ≠ 0 ∨ 0x9C < field cmd.toNat 95 88) :
    dbgCmdUpdateEffect s cmd data = s.modFaults (fun f => { f with dbgErr := true, dbgData := 0 }) := by
  refine (if_neg (not_not.2 loaded)).trans ((if_pos ?_).trans rfl)
  have bit : (s.modFaults (fun f => { f with dbgData := data })).debugBit 31 = s.debugBit 31 := rfl
  simp only [State.modFaults_faults, bit, Bool.or_eq_true, Bool.not_eq_true', decide_eq_true_eq]
  tauto

theorem dbgCmdUpdate_goes (up : s.faults.debugShut = false) (port : s.debugBit 31 = true) (gate : field cmd.toNat 95 88 ≤ 0x9C)
    (zeros : field cmd.toNat 80 64 = 0) (aligned : field cmd.toNat 63 0 % 8 = 0) :
    dbgCmdUpdateEffect s cmd data =
      (s.modFaults (fun f => { f with dbgData := data })).debugGo (field cmd.toNat 95 88) (field cmd.toNat 87 82)
        (field cmd.toNat 63 0) (bitOf cmd.toNat 81) := by
  refine (if_neg (not_not.2 loaded)).trans (if_neg ?_)
  have bit : (s.modFaults (fun f => { f with dbgData := data })).debugBit 31 = s.debugBit 31 := rfl
  simp [State.modFaults_faults, bit, up, port, gate, zeros, aligned]

end

end Sys2Proof.Machine

open Sys2Proof Sys2Proof.Machine

/-- Settles O44: each command's meaning is its effect; an injection slot's write is conditional on who asks and on its value, a debug
instruction's effect on its being loaded, and the effect of DBG_CMD is given by the lemma on its case. -/
theorem injectionAndDebug : Obligations.InjectionAndDebug := by
  intro s u t hu
  subst hu
  have arm (who n v) : exec (.injectArm t who n v) s =
      act1 s t (fun x => if who.isInstaller && n < 16 && v < 2 ^ 32 && injectLegal v then x.arm n v else x) := rfl
  have disarm (who n) : exec (.injectDisarm t who n) s = act1 s t (fun x =>
      if who.isInstaller && n < 16 then
        x.modFaults (fun f => { f with inject := f.inject.modify n (fun v => v &&& 0x7FFFFFFF#32) })
      else x) := rfl
  have sample (cs) : exec (.samplePreload t cs) s = act1 s t (fun x => x.loadThen .sample true (fun v =>
      (v.drew.modFaults (fun f => { f with boundary := cs })).emit (.answer "contacts" ((Config.contacts v.draws).map Bool.toNat)))) := rfl
  have extest : exec (.extest t) s = act1 s t (fun x => x.loadThen .extest (x.debugBit 30) (fun v =>
      v.emit (.answer "contacts driven" (v.faults.boundary.map Bool.toNat)))) := rfl
  have access : exec (.dbgAccess t) s = act1 s t (fun x => x.loadThen .dbgAccess (x.debugBit 31) (fun v =>
      v.emit (.answer "DBG_DATA" [v.faults.dbgErr.toNat, v.faults.dbgData.toNat]))) := rfl
  have command (cmd data) : exec (.dbgCmdUpdate t cmd data) s = act2 s t (fun x => dbgCmdUpdateEffect x cmd data) := rfl
  refine ⟨?_, ?_, ?_, ?_, ?_, ?_, ?_, ?_, ?_, ?_, ?_, ?_, ?_, ?_, ?_⟩
  · exact fun k n v slot width legal => after_act1 t _ (arm (.installer k) n v) (injectArm_taken k slot width legal)
  · exact fun who n v no => after_act1 t _ (arm who n v) (injectArm_refused no)
  · exact fun k n slot => after_act1 t _ (disarm (.installer k) n) (if_pos (by simp [Role.isInstaller, slot]))
  · exact fun who n no => after_act1 t _ (disarm who n) (if_neg (by simpa [-not_and, not_and_or] using no))
  · exact after_act1 t (fun x => x.modFaults (fun f => { f with debugInstr := .bypass })) rfl rfl
  · exact after_act1 t (fun x => (x.modFaults (fun f => { f with debugInstr := .idcode })).emit
      (.answer "idcode" [x.get Key.JTAG_IDCODE])) rfl rfl
  · exact fun cs shut => after_act1 t _ (sample cs) (State.loadThen_barred _ (by decide) (.inr shut))
  · exact fun cs up => after_act1 t _ (sample cs) (State.loadThen_allowed _ rfl up)
  · exact fun no => after_act1 t _ extest (State.loadThen_barred _ (by decide) no)
  · exact fun scan up => after_act1 t _ extest (State.loadThen_allowed _ scan up)
  · exact fun no => after_act1 t _ access (State.loadThen_barred _ (by decide) no)
  · exact fun port up => after_act1 t _ access (State.loadThen_allowed _ port up)
  · exact fun cmd data other => afterAll_act2 t _ (command cmd data) (dbgCmdUpdate_unloaded data other)
  · exact fun cmd data loaded no => afterAll_act2 t _ (command cmd data) (dbgCmdUpdate_refused data loaded no)
  · exact fun cmd data loaded up port gate zeros aligned =>
      afterAll_act2 t _ (command cmd data) (dbgCmdUpdate_goes data loaded up port gate zeros aligned)

end

section
/-! SUPPORT. The queue of waiting commands: what every command makes of it, and that a run empties it. -/

namespace Sys2Proof.Machine

/-- Whatever the command, its meaning answers a next state and leaves the queue. -/
theorem exec_next (c : Instr) (s : State) : ∃ u, exec c s = .next u ∧ u.pending = s.pending := by
  cases c <;> exact ⟨_, rfl, rfl⟩

theorem step_idle {s : State} (empty : s.pending = []) : step s = .next s := by
  simp [step, empty]

theorem step_front {c : Instr} {s : State} {rest : List Instr} (front : s.pending = c :: rest) :
    step s = exec c { s with pending := rest } := by
  simp [step, front]

/-- A run of one step more goes on from the state that its first step answers. -/
theorem core_run_succ {s v : State} (first : core.step s = .next v) (k : Nat) : core.run (k + 1) s = core.run k v := by
  simp only [Host.Core.run, first]

end Sys2Proof.Machine

open Sys2Proof Sys2Proof.Machine

/-- Settles O1: the step's own equation. -/
theorem stepRunsTheFrontCommand : Obligations.StepRunsTheFrontCommand :=
  fun _ _ _ front => step_front front

/-- Settles O2: no word spells a command, so that fetching one puts none in the queue. -/
theorem emptyQueueIdles : Obligations.EmptyQueueIdles :=
  ⟨fun _ empty => step_idle empty, fun _ _ _ => ⟨rfl, rfl⟩⟩

/-- Settles O3, by cases on the command. -/
theorem everyCommandAnswersNext : Obligations.EveryCommandAnswersNext := exec_next

/-- Settles O4, by induction on the queue: each step takes the front command and leaves the rest (`exec_next`). -/
theorem queueDrains : Obligations.QueueDrains := by
  intro s
  generalize waiting : s.pending = queue
  induction queue generalizing s with
  | nil => exact ⟨s, rfl, waiting⟩
  | cons c rest ih =>
    obtain ⟨v, go, left⟩ := exec_next c { s with pending := rest }
    obtain ⟨u, run, empty⟩ := ih v left
    have first : core.step s = .next v := (step_front waiting).trans go
    refine ⟨u, ?_, empty⟩
    exact (core_run_succ first rest.length).trans run

end

section
/-! SUPPORT. The invariant at reset and over every step. -/

open Sys2Proof Sys2Proof.Machine

/-- Settles O5: no store lists anything at reset, and each kind of unit stands there in its number. -/
theorem resetKeepsInvariant : Obligations.ResetKeepsInvariant where
  dict := rfl
  base := rfl
  mem := rfl
  counters := rfl
  trunks := List.length_replicate
  hports := List.length_replicate
  lanes := List.length_replicate
  parts := List.length_replicate
  shared := List.length_replicate

/-- Settles O7: an empty queue idles, and every command keeps the invariant (`exec_ok`). -/
theorem stepKeepsInvariant : Obligations.StepKeepsInvariant := by
  intro s u inv go
  obtain ⟨kept, -⟩ := step_ok rfl rfl inv.okAtInstant go
  exact kept

end

section
/-! SUPPORT. What holds test mode, and what the removal of the input makes of it (R464, R553). -/

namespace Sys2Proof.Machine

/-- What had been reached in a state in test mode, with nothing said of its instant or of the F4 latch. -/
def Mark.inTestMode : Mark := ⟨0, true, false⟩

theorem State.Inv.okInTestMode {s : State} (h : s.Inv) (test : s.sec.testMode = true) : s.Ok .inTestMode :=
  ⟨h, Nat.zero_le _, fun _ => test, nofun⟩

/-- Without its input the crown is in test mode where it was and TEST_STRAP stood when it was last sampled. -/
theorem inputRemovedEffect_testMode (s : State) : (inputRemovedEffect s).sec.testMode = (s.sec.testMode && s.sec.strap) := rfl

end Sys2Proof.Machine

open Sys2Proof Sys2Proof.Machine

/-- Settles O9: every command keeps test mode where it had been reached (`exec_ok`), and the removal of the input keeps it by the strap. -/
theorem testModeIsLeftOnlyByPowerCycle : Obligations.TestModeIsLeftOnlyByPowerCycle := by
  refine ⟨?_, ?_⟩
  · intro c s u inv test stays go
    obtain ⟨-, reached⟩ := (exec_ok c (fun t removed => absurd removed (stays t)) (inv.okInTestMode test)).of_eq u go
    exact reached.test rfl
  · intro t s u test go
    have removed : exec (.inputRemoved t) s = act1 s t inputRemovedEffect := rfl
    rw [removed, act1, Host.Outcome.next.injEq] at go
    subst go
    exact (inputRemovedEffect_testMode _).trans (by simp [test])

end

section
/-! SUPPORT. What a dictionary in canonical form reads (R404, R406). -/

namespace Sys2Proof.Machine

theorem State.get_set {s : State} (h : dictWf s.dict = true) (k v j : Nat) : (s.set k v).get j = if j = k then v else s.get j :=
  sortedGet_store_getD (Bool.and_eq_true_iff.1 h).1 defaultOf k v j

/-- Two dictionaries in canonical form that read alike are equal. -/
theorem dict_eq_of_get_eq {s u : State} (hs : dictWf s.dict = true) (hu : dictWf u.dict = true) (alike : ∀ k, s.get k = u.get k) :
    s.dict = u.dict := by
  simp only [dictWf, Bool.and_eq_true, List.all_eq_true, decide_eq_true_eq] at hs hu
  exact eq_of_sortedGet_getD_eq defaultOf hs.1 hu.1 hs.2 hu.2 alike

end Sys2Proof.Machine

open Sys2Proof Sys2Proof.Machine

/-- Settles O11: what the sparse store reads after a write, and that one in canonical form is what it reads. -/
theorem dictionaryReadsBack : Obligations.DictionaryReadsBack :=
  ⟨fun _ k v j inv => ⟨State.get_set inv.dict k v j, dictWf_put _ k v inv.dict⟩, fun _ _ hs hu => dict_eq_of_get_eq hs.dict hu.dict⟩

end

section
/-! SUPPORT. How a request that is heard and known becomes what its opcode does (R409, R410). -/

namespace Sys2Proof.Machine

/-- A request command that is heard, well formed and known answers what its opcode does once its sender is known, and then what the
collectors do. -/
theorem afterAll_perform {s : State} {t : Nat} {i : Instr} {r : Req} {op index sub : Nat} {c : Caller} (brings : requestOf i = some (r, op, index, sub))
    (shape : exec i s = act2 s t (fun u => u.arrive i)) (heard : (s.tick t).Heard r)
    (known : ((s.tick t).sigCounted r).authenticate r = .known c) (body : bodyOk i = true) (may : c.may op index = true) :
    AfterAll i s ((((s.tick t).sigCounted r).touchSession r).perform c i) :=
  afterAll_act2 t _ shape (State.arrive_known _ i r op index sub c brings heard body known may)

end Sys2Proof.Machine

open Sys2Proof Sys2Proof.Machine

/-- Settles O45: each command arrives as its request, and a request that is heard and known is performed (`State.arrive_known`). -/
theorem requestsServed : Obligations.RequestsServed := by
  intro s u t hu
  subst hu
  refine ⟨?_, ?_, ?_, ?_, ?_, ?_, ?_, ?_, ?_, ?_, ?_, ?_, ?_⟩
  · intro r c i a b heard known ⟨index, run, short⟩ may
    exact afterAll_perform rfl rfl heard known (by simp [bodyOk, index, run, short]) may
  · intro r c i n ty v len heard known ⟨index, short, form⟩ may
    exact afterAll_perform rfl rfl heard known (by simp [bodyOk, index, short, form]) may
  · exact fun r c nonce heard known may => afterAll_perform rfl rfl heard known rfl may
  · exact fun r c p n j heard known may => afterAll_perform rfl rfl heard known rfl may
  · intro r c id k i n ty v len heard known ⟨index, short, form⟩ may
    exact afterAll_perform rfl rfl heard known (by simp [bodyOk, index, short, form]) may
  · exact fun r c id k ft d a b heard known may => afterAll_perform rfl rfl heard known rfl may
  · exact fun r c id k a b heard known may => afterAll_perform rfl rfl heard known rfl may
  · exact fun r c id heard known may => afterAll_perform rfl rfl heard known rfl may
  · exact fun r c e heard known may => afterAll_perform rfl rfl heard known rfl may
  · exact fun r c heard known may => afterAll_perform rfl rfl heard known rfl may
  · exact fun r c heard known may => afterAll_perform rfl rfl heard known rfl may
  · exact fun r c heard known may => afterAll_perform rfl rfl heard known rfl may
  · exact fun r c a n heard known may => afterAll_perform rfl rfl heard known rfl may

end

section
/-! SUPPORT. Requests for an index from 0xF000 to 0xFFFF, where no entry stands (R413), and frames of what serves a request. -/

namespace Sys2Proof.Machine

/-- The dictionary's table ends below the makers' range. -/
theorem entryAt_makerRange {i : Nat} (h : 0xF000 ≤ i) (n : Nat) : entryAt i n = none := by
  have below : ∀ e ∈ entries, e.idxHi < 0xF000 := by decide +kernel
  rw [entryAt, List.find?_eq_none]
  intro e listed
  have := below e listed
  have past : ¬ i ≤ e.idxHi := by omega
  simp [Entry.holds, past]

theorem checkEntry_noEntry {i n : Nat} (h : entryAt i n = none) (who : Role) (open_ : Bool) (ty : Nat) :
    checkEntry who open_ i n ty = .inr Status.noEntry := by
  simp [checkEntry, h]

theorem State.serveWrite_noEntry {s : State} {i n : Nat} (h : entryAt i n = none) (r : Req) (c : Caller) (ty v len : Nat) :
    s.serveWrite r c i n ty v len = s.refuseReq r c Op.write Status.noEntry 0 i n := by
  simp [State.serveWrite, checkEntry_noEntry h]

/-- The subindices that a READ of a range names. -/
def readSubs (a b : Nat) : List Nat := (List.range (b + 1 - a)).map (a + ·)

theorem State.serveRead_noEntry {s : State} {i a b n : Nat} (first : (readSubs a b).find? (fun n => (entryAt i n).isNone) = some n)
    (r : Req) (c : Caller) : s.serveRead r c i a b = s.refuseReq r c Op.read Status.noEntry 0 i n := by
  rw [readSubs] at first
  simp only [State.serveRead, first]

/-- A range that runs upwards begins with its first subindex. -/
theorem readSubs_cons {a b : Nat} (h : a ≤ b) : readSubs a b = a :: readSubs (a + 1) b := by
  have count : b + 1 - a = b + 1 - (a + 1) + 1 := by omega
  simp only [readSubs, count, List.range_succ_eq_map, List.map_cons, List.map_map, Nat.add_zero, List.cons.injEq, true_and]
  exact List.map_congr_left fun k _ => by simp; omega

/-- Serving a READ changes no entry: it is refused, or its values are gathered and answered. -/
theorem State.serveRead_dict (s : State) (r : Req) (c : Caller) (i a b : Nat) : (s.serveRead r c i a b).dict = s.dict := by
  unfold State.serveRead
  extract_lets subs open_
  split
  case h_1 => exact State.refuseReq_dict ..
  case h_2 =>
    split
    case h_1 => exact State.refuseReq_dict ..
    case h_2 =>
      split
      case h_1 => rfl
      case h_2 => exact State.finishWith_dict ..

/-- The opener's STAGE into its OPEN set, under the next number, gets as far as the entry (R424). -/
theorem State.serveStage_noEntry {s : State} {r : Req} {c : Caller} {id : Nat} {x : ChangeSet} (set : s.setOf id = some x)
    (opened : x.state = .open_) (opener : x.opener = c.keyId) {i n ty v len : Nat} (entry : entryAt i n = none) :
    s.serveStage r c id x.stages.length i n ty v len = (s.touchSet id).refuseReq r c Op.stage Status.noEntry 0 i n := by
  simp [State.serveStage, set, opened, opener, checkEntry_noEntry entry]

/-- A STAGE for an entry that does not exist is refused in every case, and so changes no entry. -/
theorem State.serveStage_noEntry_dict {i n : Nat} (entry : entryAt i n = none) (s : State) (r : Req) (c : Caller) (id k ty v len : Nat) :
    (s.serveStage r c id k i n ty v len).dict = s.dict := by
  unfold State.serveStage
  extract_lets no
  have refused (w : State) (status detail : Nat) (h : w.dict = s.dict) : (no w status detail).dict = s.dict :=
    (State.refuseReq_dict ..).trans h
  split
  case h_1 => exact refused _ _ _ rfl
  case h_2 x _ =>
    simp only [checkEntry_noEntry entry]
    split
    case isTrue => exact refused _ _ _ rfl
    case isFalse =>
      split
      case isTrue => exact refused _ _ _ rfl
      case isFalse => split <;> exact refused _ _ _ rfl

theorem State.get_of_dict_eq {s u : State} (h : u.dict = s.dict) (j : Nat) : u.get j = s.get j := by
  rw [State.get, h, State.get]

end Sys2Proof.Machine

open Sys2Proof Sys2Proof.Machine

/-- Settles O18: no entry stands at such an index, so that each request of it ends in a refusal (R409, R416). -/
theorem makerRangeHidden : Obligations.MakerRangeHidden := by
  refine ⟨?_, ?_⟩
  · intro s u t r c i hu heard known range below
    subst hu
    have anyone : c.may Op.read i = true := by
      simp [Caller.may, range]
    refine ⟨fun a b run short => ?_, fun n ty v len may short form => ?_⟩
    · have first : (readSubs a b).find? (fun n => (entryAt i n).isNone) = some a := by
        rw [readSubs_cons run, List.find?_cons_of_pos (by simp [entryAt_makerRange range])]
      have body : bodyOk (.read t r i a b) = true := by
        simp [bodyOk, run, short, below]
      have served := afterAll_perform (s := s) (i := .read t r i a b) rfl rfl heard known body anyone
      rwa [State.perform, State.serveRead_noEntry first] at served
    · have body : bodyOk (.write t r i n ty v len) = true := by
        simp [bodyOk, short, form, below]
      have served := afterAll_perform (s := s) (i := .write t r i n ty v len) rfl rfl heard known body may
      rwa [State.perform, State.serveWrite_noEntry (entryAt_makerRange range n)] at served
  · intro s r c i range
    refine ⟨fun id n ty v len x set opened opener => State.serveStage_noEntry set opened opener (entryAt_makerRange range n),
      fun a b => State.get_of_dict_eq (s.serveRead_dict r c i a b), fun n ty v len j => ?_,
      fun id k n ty v len => State.get_of_dict_eq (State.serveStage_noEntry_dict (entryAt_makerRange range n) s r c id k ty v len)⟩
    rw [State.serveWrite_noEntry (entryAt_makerRange range n), State.refuseReq_get]

end

section
/-! SUPPORT. Where a request goes as it arrives, how one that is not served is answered, and what becomes of one that is forwarded, case by
case (R409, R410, R418 to R421, R431). -/

namespace Sys2Proof.Machine

/-! ### A request arrives (R410, R431) -/

/-- A request on a transport that takes it is for this crown. -/
def State.ForHere (s : State) (r : Req) : Prop := s.takes r.via = true ∧ (r.target = 0xFFFF ∨ r.target = s.crownId)

/-- A request in band meets a held bridged access. -/
def State.bridgeHeld (s : State) (r : Req) : Bool := match r.via with | .inBand _ => !s.fabric.bridge.isEmpty | _ => false

theorem State.bridgeHeld_inBand {s : State} {r : Req} {c : Nat} (via : r.via = .inBand c) (held : s.fabric.bridge ≠ []) :
    s.bridgeHeld r = true := by
  simp [State.bridgeHeld, via, held]

theorem State.bridgeHeld_free {s : State} {r : Req} (free : s.fabric.bridge = [] ∨ ∀ c, r.via ≠ .inBand c) : s.bridgeHeld r = false := by
  cases h : r.via with
  | inBand c => simp [State.bridgeHeld, h, free.resolve_right fun other => other c h]
  | _ => simp [State.bridgeHeld, h]

theorem State.arrive_untaken {s : State} {i : Instr} {r : Req} {op ix sub : Nat} (brings : requestOf i = some (r, op, ix, sub))
    (closed : s.takes r.via = false) (via : ∀ c, r.via ≠ .inBand c) : s.arrive i = s := by
  simp only [State.arrive, brings, closed]
  cases h : r.via with
  | inBand c => exact absurd h (via c)
  | _ => rfl

theorem State.arrive_dropped {s : State} {i : Instr} {r : Req} {op ix sub c : Nat} (brings : requestOf i = some (r, op, ix, sub))
    (closed : s.takes r.via = false) (via : r.via = .inBand c) (managed : s.managed = true) (carrier : s.get Key.BOCEL_GPART = 0xFFFF) :
    s.arrive i = s.modBocel (fun b => { b with inbandDropped := b.inbandDropped + 1 }) := by
  rw [via] at closed
  simp [State.arrive, brings, via, closed, managed, carrier]

theorem State.arrive_far {s : State} {i : Instr} {r : Req} {op ix sub : Nat} (brings : requestOf i = some (r, op, ix, sub))
    (taken : s.takes r.via = true) (named : r.target ≠ 0xFFFF) (far : r.target ≠ s.crownId) : s.arrive i = s.gateway r op := by
  simp [State.arrive, brings, taken, named, far]

/-- What a request for this crown meets once its transport takes it: a held bridged access, the service queue, or nobody. -/
theorem State.arrive_here {s : State} {i : Instr} {r : Req} {op ix sub : Nat} (brings : requestOf i = some (r, op, ix, sub))
    (here : s.ForHere r) : s.arrive i =
      if s.bridgeHeld r then (s.countHeart 0x385 1).respond r (failing op Status.busyRetry 0 ix sub)
      else if s.serving || !s.bocel.queue.isEmpty then
        if 64 ≤ s.bocel.queue.length then s.respond r (failing op Status.busyRetry 0 ix sub)
        else s.modBocel (fun b => { b with queue := b.queue ++ [i] })
      else s.serve i := by
  obtain ⟨taken, own⟩ := here
  have mine : (r.target ≠ 0xFFFF && r.target ≠ s.crownId) = false := by
    rcases own with h | h <;> simp [h]
  simp only [State.arrive, brings, taken, mine]
  rfl

theorem State.arrive_bridgeHeld {s : State} {i : Instr} {r : Req} {op ix sub c : Nat} (brings : requestOf i = some (r, op, ix, sub))
    (here : s.ForHere r) (via : r.via = .inBand c) (held : s.fabric.bridge ≠ []) :
    s.arrive i = (s.countHeart 0x385 1).respond r (failing op Status.busyRetry 0 ix sub) := by
  rw [State.arrive_here brings here, if_pos (State.bridgeHeld_inBand via held)]

theorem State.arrive_waits {s : State} {i : Instr} {r : Req} {op ix sub : Nat} (brings : requestOf i = some (r, op, ix, sub))
    (here : s.ForHere r) (free : s.bridgeHeld r = false) (busy : s.serving = true ∨ s.bocel.queue ≠ []) (room : s.bocel.queue.length < 64) :
    s.arrive i = s.modBocel (fun b => { b with queue := b.queue ++ [i] }) := by
  rw [State.arrive_here brings here, if_neg (by simp [free]), if_pos (by simpa using busy), if_neg (Nat.not_le.2 room)]

theorem State.arrive_queueFull {s : State} {i : Instr} {r : Req} {op ix sub : Nat} (brings : requestOf i = some (r, op, ix, sub))
    (here : s.ForHere r) (free : s.bridgeHeld r = false) (full : 64 ≤ s.bocel.queue.length) :
    s.arrive i = s.respond r (failing op Status.busyRetry 0 ix sub) := by
  have waits : s.bocel.queue ≠ [] := List.ne_nil_of_length_pos (by omega)
  rw [State.arrive_here brings here, if_neg (by simp [free]), if_pos (by simp [waits]), if_pos full]

theorem State.arrive_serves {s : State} {i : Instr} {r : Req} {op ix sub : Nat} (brings : requestOf i = some (r, op, ix, sub))
    (here : s.ForHere r) (free : s.bridgeHeld r = false) (idle : s.serving = false) (empty : s.bocel.queue = []) : s.arrive i = s.serve i := by
  rw [State.arrive_here brings here, if_neg (by simp [free]), if_neg (by simp [idle, empty])]

/-! ### A request is taken and refused (R409 steps 1 and 2, R418 to R421) -/

theorem State.serve_badMessage {s : State} {i : Instr} {r : Req} {op ix sub : Nat} (brings : requestOf i = some (r, op, ix, sub))
    (bad : r.wellFormed = false ∨ bodyOk i = false) : s.serve i = s.respond r (failing op Status.badMessage 0 ix sub) := by
  rcases bad with bad | bad <;> simp [State.serve, brings, bad]

theorem State.serve_refused {s : State} {i : Instr} {r : Req} {op ix sub status : Nat} (brings : requestOf i = some (r, op, ix, sub))
    (formed : r.wellFormed = true) (body : bodyOk i = true) (refused : (s.sigCounted r).authenticate r = .refused status) :
    s.serve i = (s.sigCounted r).respond r (failing op status 0 ix sub) := by
  simp [State.serve, brings, formed, body, refused]

theorem State.authenticate_badSignature {s : State} {r : Req} {b : SigBlock} (sig : r.sig = some b) (bad : s.sigGood b = false) :
    s.authenticate r = .refused Status.authFailed := by
  simp [State.authenticate, sig, bad]

theorem State.authenticate_badSession {s : State} {r : Req} {m : MacBlock} (mac : r.mac = some m) (none_ : s.macSession m = none) :
    s.authenticate r = .refused Status.authFailed := by
  simp [State.authenticate, mac, none_]

/-- A signature whose KEY_SEQ was used before, by a request that no cached answer knows, is stale. -/
theorem State.authenticate_stale {s : State} {r : Req} {b : SigBlock} (sig : r.sig = some b) (good : s.sigGood b = true) (mac : r.mac = none)
    (used : b.keySeq ≤ s.lastSeq b.keyId)
    (unknown : ∀ x ∈ s.bocel.cache, x.keyId = b.keyId → x.keySeq = b.keySeq → x.digest ≠ b.digest) :
    s.authenticate r = .refused Status.staleSeq := by
  have missed : s.bocel.cache.find? (fun x => x.keyId == b.keyId && x.keySeq == b.keySeq && x.digest == b.digest) = none := by
    rw [List.find?_eq_none]
    intro x cached
    simpa using unknown x cached
  simp [State.authenticate, sig, good, mac, used, missed]

/-! ### The gateway (R431) -/

/-- A request as the gateway keeps it, forwarded just now. -/
def Forwarded.fresh (r : Req) (op now : Nat) : Forwarded :=
  { op := op, reqId := r.reqId, via := r.via, target := r.target, since := now, busySeen := false, busyAt := none }

theorem State.gateway_unreachable {s : State} {r : Req} (no : s.get Key.BOCEL_GPART = 0xFFFF ∨ s.unreachable r.target = true ∨ s.fenced r.target = true)
    (op : Nat) : s.gateway r op = s.respond r (failing op Status.unreachable 0 0 0) := by
  rw [State.gateway, if_pos (by simpa [or_assoc] using no)]

theorem State.gateway_forwards {s : State} {r : Req} (carrier : s.get Key.BOCEL_GPART ≠ 0xFFFF) (reached : s.unreachable r.target = false)
    (free : s.fenced r.target = false) (op : Nat) :
    s.gateway r op =
      ((s.modBocel (fun b => { b with forwards := b.forwards ++ [Forwarded.fresh r op s.now] })).countHeart 0x3C5 1).emit
        (.forward r.target r.reqId (s.get Key.BOCEL_CLASS) (s.get Key.BOCEL_GPART)) := by
  rw [State.gateway, if_neg (by simp [carrier, reached, free])]
  rfl

theorem bocelGatewayForward_far {s : State} {r : Req} (taken : s.takes r.via = true) (named : r.target ≠ 0xFFFF) (far : r.target ≠ s.crownId)
    (op : Nat) : bocelGatewayForwardEffect s r op = s.gateway r op := by
  simp [bocelGatewayForwardEffect, taken, named, far]

theorem bocelGatewayForward_idle {s : State} {r : Req} (no : s.takes r.via = false ∨ r.target = 0xFFFF ∨ r.target = s.crownId) (op : Nat) :
    bocelGatewayForwardEffect s r op = s := by
  rcases no with h | h | h <;> simp [bocelGatewayForwardEffect, h]

/-! ### The target answers, is late, or asks to be tried again (R431) -/

/-- A target's response goes to the requester as it came. -/
def State.passOn (s : State) (f : Forwarded) (id : Nat) (m : List Byte) : State :=
  match f.via with
  | .mailbox p => s.mailboxAnswer p m
  | via => s.emit (.passed via id m)

theorem bocelInbandResponse_passed {s : State} {id src : Nat} {m : List Byte} {f : Forwarded} (waits : s.forwarded id = some f)
    (source : f.target = src) (final : beField m 14 15 ≠ Status.busyRetry) :
    bocelInbandResponseEffect s id src m = (s.unforward id).passOn f id m := by
  simp only [bocelInbandResponseEffect, waits, source, final, if_false, ne_eq, not_true_eq_false]
  rfl

theorem bocelInbandResponse_busy {s : State} {id src : Nat} {m : List Byte} {f : Forwarded} (waits : s.forwarded id = some f)
    (source : f.target = src) (busy : beField m 14 15 = Status.busyRetry) :
    bocelInbandResponseEffect s id src m = s.modBocel (fun b =>
      { b with forwards := b.forwards.map (fun x => if x.reqId = id then { x with busySeen := true, busyAt := some s.now } else x) }) := by
  simp [bocelInbandResponseEffect, waits, source, busy]

theorem bocelInbandResponse_other {s : State} {id src : Nat} (m : List Byte) (other : ∀ f, s.forwarded id = some f → f.target ≠ src) :
    bocelInbandResponseEffect s id src m = s := by
  unfold bocelInbandResponseEffect
  split
  case h_1 f waits => exact if_pos (other f waits)
  case h_2 => rfl

theorem bocelInbandTimeout_due {s : State} {id : Nat} {f : Forwarded} (waits : s.forwarded id = some f)
    (due : s.after f.since (1000000 * s.get Key.BOCEL_INBAND_TIMEOUT) = true) :
    bocelInbandTimeoutEffect s id =
      (s.unforward id).respond { via := f.via, reqId := id, target := f.target, wellFormed := true, sig := none, mac := none }
        (failing f.op (if f.busySeen then Status.busyRetry else Status.noResponse) 0 0 0) := by
  simp only [bocelInbandTimeoutEffect, waits, due, if_true]

theorem bocelInbandTimeout_sooner {s : State} {id : Nat} {f : Forwarded} (waits : s.forwarded id = some f)
    (sooner : s.after f.since (1000000 * s.get Key.BOCEL_INBAND_TIMEOUT) = false) : bocelInbandTimeoutEffect s id = s := by
  simp [bocelInbandTimeoutEffect, waits, sooner]

theorem bocelRetryDelay_due {s : State} {id at_ : Nat} {f : Forwarded} (waits : s.forwarded id = some f) (busy : f.busyAt = some at_)
    (due : s.after at_ 1000 = true) :
    bocelRetryDelayEffect s id =
      (s.modBocel (fun b => { b with forwards := b.forwards.map (fun x => if x.reqId = id then { x with busyAt := none } else x) })).emit
        (.forward f.target id (s.get Key.BOCEL_CLASS) (s.get Key.BOCEL_GPART)) := by
  simp [bocelRetryDelayEffect, waits, busy, due]

theorem bocelRetryDelay_sooner {s : State} {id : Nat} {f : Forwarded} (waits : s.forwarded id = some f)
    (sooner : ∀ a, f.busyAt = some a → s.after a 1000 = false) : bocelRetryDelayEffect s id = s := by
  cases busy : f.busyAt with
  | none => simp [bocelRetryDelayEffect, waits, busy]
  | some a => simp [bocelRetryDelayEffect, waits, busy, sooner a busy]

end Sys2Proof.Machine

open Sys2Proof Sys2Proof.Machine

/-- Settles O46: each command's meaning is the arrival of its request or its effect, and what either does is given by the lemma on its case. -/
theorem requestsAnsweredUnserved : Obligations.RequestsAnsweredUnserved := by
  intro s u t hu
  subst hu
  have forward (r op) : exec (.bocelGatewayForward t r op) s = act2 s t (fun x => bocelGatewayForwardEffect x r op) := rfl
  have response (id src m) : exec (.bocelInbandResponse t id src m) s = act1 s t (fun x => bocelInbandResponseEffect x id src m) := rfl
  have timeout (id) : exec (.bocelInbandTimeout t id) s = act2 s t (fun x => bocelInbandTimeoutEffect x id) := rfl
  have delay (id) : exec (.bocelRetryDelay t id) s = act1 s t (fun x => bocelRetryDelayEffect x id) := rfl
  refine ⟨?_, ?_, ?_, ?_, ?_, ?_, ?_, ?_, ?_, ?_, ?_, ?_, ?_, ?_, ?_, ?_, ?_, ?_, ?_, ?_, ?_, ?_, ?_, ?_, ?_, ?_, ?_, ?_, ?_, ?_, ?_, ?_, ?_, ?_,
    ?_, ?_⟩
  · exact fun r i a b => afterAll_act2 t (fun x => x.arrive (.read t r i a b)) rfl rfl
  · exact fun r i n ty v len => afterAll_act2 t (fun x => x.arrive (.write t r i n ty v len)) rfl rfl
  · exact fun r nonce => afterAll_act2 t (fun x => x.arrive (.testUnlock t r nonce)) rfl rfl
  · exact fun r q n j => afterAll_act2 t (fun x => x.arrive (.openSet t r q n j)) rfl rfl
  · exact fun r id k i n ty v len => afterAll_act2 t (fun x => x.arrive (.stage t r id k i n ty v len)) rfl rfl
  · exact fun r id k ft d a b => afterAll_act2 t (fun x => x.arrive (.commit t r id k ft d a b)) rfl rfl
  · exact fun r id k a b => afterAll_act2 t (fun x => x.arrive (.cancelSet t r id k a b)) rfl rfl
  · exact fun r id => afterAll_act2 t (fun x => x.arrive (.setStatus t r id)) rfl rfl
  · exact fun r e => afterAll_act2 t (fun x => x.arrive (.openSession t r e)) rfl rfl
  · exact fun r => afterAll_act2 t (fun x => x.arrive (.closeSession t r)) rfl rfl
  · exact fun r => afterAll_act2 t (fun x => x.arrive (.subscribe t r)) rfl rfl
  · exact fun r => afterAll_act2 t (fun x => x.arrive (.unsubscribe t r)) rfl rfl
  · exact fun r a n => afterAll_act2 t (fun x => x.arrive (.journalRead t r a n)) rfl rfl
  · exact fun i r op ix sub brings closed via => State.arrive_untaken brings closed via
  · exact fun i r op ix sub c brings closed via managed carrier => State.arrive_dropped brings closed via managed carrier
  · exact fun i r op ix sub brings taken named far => State.arrive_far brings taken named far
  · exact fun i r op ix sub c brings taken own via held => State.arrive_bridgeHeld brings ⟨taken, own⟩ via held
  · exact fun i r op ix sub brings taken own free busy room => State.arrive_waits brings ⟨taken, own⟩ (State.bridgeHeld_free free) busy room
  · exact fun i r op ix sub brings taken own free full => State.arrive_queueFull brings ⟨taken, own⟩ (State.bridgeHeld_free free) full
  · exact fun i r op ix sub brings taken own free idle empty =>
      State.arrive_serves brings ⟨taken, own⟩ (State.bridgeHeld_free free) idle empty
  · exact fun i r op ix sub brings bad => State.serve_badMessage brings bad
  · exact fun i r op ix sub st brings formed body refused => State.serve_refused brings formed body refused
  · exact fun r b sig bad => State.authenticate_badSignature sig bad
  · exact fun r m mac none_ => State.authenticate_badSession mac none_
  · exact fun r b sig good mac used unknown => State.authenticate_stale sig good mac used unknown
  · exact fun r op no => State.gateway_unreachable no op
  · exact fun r op carrier reached free => State.gateway_forwards carrier reached free op
  · exact fun r op taken named far => afterAll_act2 t _ (forward r op) (bocelGatewayForward_far taken named far op)
  · exact fun r op no => afterAll_act2 t _ (forward r op) (bocelGatewayForward_idle no op)
  · exact fun id src m f waits source final => after_act1 t _ (response id src m) (bocelInbandResponse_passed waits source final)
  · exact fun id src m f waits source busy => after_act1 t _ (response id src m) (bocelInbandResponse_busy waits source busy)
  · exact fun id src m other => after_act1 t _ (response id src m) (bocelInbandResponse_other m other)
  · exact fun id f waits due => afterAll_act2 t _ (timeout id) (bocelInbandTimeout_due waits due)
  · exact fun id f waits sooner => afterAll_act2 t _ (timeout id) (bocelInbandTimeout_sooner waits sooner)
  · exact fun id f a waits busy due => after_act1 t _ (delay id) (bocelRetryDelay_due waits busy due)
  · exact fun id f waits sooner => after_act1 t _ (delay id) (bocelRetryDelay_sooner waits sooner)

end

section
/-! SUPPORT. What serving a WRITE and a READ does, step by step of R409 and R416. -/

namespace Sys2Proof.Machine

/-! ### WRITE (R409 steps 3 to 9) -/

/-- Outside recovery the checks of steps 3 to 5 go by the entry's row: its role, then its type. -/
theorem checkEntry_found {who : Role} {i n : Nat} {e : Entry} (entry : entryAt i n = some e) (ty : Nat) :
    checkEntry who false i n ty =
      if e.writable who (256 * i + n) = false then .inr Status.accessDenied
      else if ty ≠ e.ty.code then .inr Status.typeMismatch
      else .inl e := by
  simp [checkEntry, entry]

/-- The KEY_SEQ that a request's signature uses up; 0 without one. -/
def usedSeq (r : Req) : Nat := match r.sig with | some b => b.keySeq | none => 0

section
variable {s : State} {i n : Nat} {c : Caller} {e : Entry} (r : Req) (out : s.journal.recovery = false) (entry : entryAt i n = some e)
include out entry

theorem State.serveWrite_denied (denied : e.writable c.who (256 * i + n) = false) (ty v len : Nat) :
    s.serveWrite r c i n ty v len = s.refuseReq r c Op.write Status.accessDenied 0 i n := by
  simp [State.serveWrite, State.recoveryServes_eq_false out, checkEntry_found entry, denied]

theorem State.serveWrite_otherType (may : e.writable c.who (256 * i + n) = true) {ty : Nat} (other : ty ≠ e.ty.code) (v len : Nat) :
    s.serveWrite r c i n ty v len = s.refuseReq r c Op.write Status.typeMismatch 0 i n := by
  simp [State.serveWrite, State.recoveryServes_eq_false out, checkEntry_found entry, may, other]

theorem State.serveWrite_staged (may : e.writable c.who (256 * i + n) = true) (staged : e.persist = .staged) (v len : Nat) :
    s.serveWrite r c i n e.ty.code v len = s.refuseReq r c Op.write Status.needsCommit 0 i n := by
  simp [State.serveWrite, State.recoveryServes_eq_false out, checkEntry_found entry, may, staged]

section
variable (may : e.writable c.who (256 * i + n) = true) (plain : e.persist ≠ .staged) {v len : Nat} (legal : legalValue e (256 * i + n) v len = true)
include may plain legal

theorem State.serveWrite_stopped {st d : Nat} (stop : s.writeAdmit c.who (256 * i + n) v = .stop st d) :
    s.serveWrite r c i n e.ty.code v len = s.refuseReq r c Op.write st d i n := by
  simp [State.serveWrite, State.recoveryServes_eq_false out, checkEntry_found entry, may, plain, legal, stop]

/-- A WRITE that passes every check: a journaled entry's waits for its record, a signed one's for that of its KEY_SEQ, and any other
takes effect at once (step 9). -/
theorem State.serveWrite_passes (go : s.writeAdmit c.who (256 * i + n) v = .go) :
    s.serveWrite r c i n e.ty.code v len =
      if e.persist = .journaled then
        if s.journal.warned then s.respond r (failing Op.write Status.busyRetry 0 i n)
        else s.jForm c.keyId (partsMask (writeParts (256 * i + n))) (some r) c.who (some (256 * i + n, v)) (some (passing Op.write []))
          (.write i n (s.get (256 * i + n)) (s.recordedValue (256 * i + n) v) (usedSeq r))
      else if c.signed then s.jForm c.keyId 0 (some r) c.who (some (256 * i + n, v)) (some (passing Op.write []))
        (.keySeq (usedSeq r))
      else (s.applyWrite c.who (256 * i + n) v).respond r (passing Op.write []) := by
  simp only [State.serveWrite, State.recoveryServes_eq_false out, checkEntry_found entry, may, plain, legal, go, ne_eq, not_true_eq_false,
    Bool.true_eq_false, Bool.not_true, Bool.false_eq_true, if_false]
  rfl

end
end

/-! ### READ (R416) -/

/-- The role may not read the entry there. -/
def deniesRead (who : Role) (i n : Nat) : Bool := match entryAt i n with | some e => !e.readable who | none => false

/-- What a READ of entries answers that a role may read: as many values of the range as fit. -/
def State.readAnswer (s : State) (r : Req) (c : Caller) (i a b : Nat) (e : Entry) : State :=
  let out := s.gatherRead c.who i e.ty.code (4096 - 24 - 5 - (if r.mac.isSome then 24 else 0)) (readSubs a b) [] a
  s.drew.finishWith r c
    { passing Op.read (beBytes 2 i ++ beBytes 1 a ++ beBytes 1 out.2 ++ beBytes 1 e.ty.code ++ out.1) with more := decide (out.2 < b) }

section
variable {s : State} {i a b : Nat} {c : Caller} (r : Req) (out : s.journal.recovery = false)
  (exist : (readSubs a b).find? (fun n => (entryAt i n).isNone) = none)
include out exist

/-- A READ of entries that all exist: the role, then the values. -/
theorem State.serveRead_exist : s.serveRead r c i a b =
    match (readSubs a b).find? (deniesRead c.who i) with
    | some n => s.refuseReq r c Op.read Status.accessDenied 0 i n
    | none => match entryAt i a with
      | none => s
      | some e => s.readAnswer r c i a b e := by
  rw [readSubs] at exist
  simp only [State.serveRead, exist, State.recoveryServes_eq_false out]
  rfl

theorem State.serveRead_denied {n : Nat} (denied : (readSubs a b).find? (deniesRead c.who i) = some n) :
    s.serveRead r c i a b = s.refuseReq r c Op.read Status.accessDenied 0 i n := by
  rw [State.serveRead_exist r out exist, denied]

theorem State.serveRead_gathered {e : Entry} (readable : (readSubs a b).find? (deniesRead c.who i) = none) (entry : entryAt i a = some e) :
    s.serveRead r c i a b = s.readAnswer r c i a b e := by
  rw [State.serveRead_exist r out exist, readable, entry]

end

end Sys2Proof.Machine

open Sys2Proof Sys2Proof.Machine

/-- Settles O47: the steps of R409 and of R416, each by the lemma on it. -/
theorem writesAndReads : Obligations.WritesAndReads := by
  intro s u t _
  refine ⟨?_, ?_, ?_, ?_, ?_, ?_, ?_, ?_, ?_, ?_, ?_⟩
  · exact fun r c i n ty v len missing => State.serveWrite_noEntry missing r c ty v len
  · exact fun r c i n ty v len e out entry denied => State.serveWrite_denied r out entry denied ty v len
  · exact fun r c i n ty v len e out entry may other => State.serveWrite_otherType r out entry may other v len
  · exact fun r c i n v len e out entry may staged => State.serveWrite_staged r out entry may staged v len
  · intro r c i n v len e out entry may plain illegal
    rw [State.serveWrite_illegal r c (State.recoveryServes_eq_false out _ _) entry plain illegal, if_pos may]
  · exact fun r c i n v len e st d out entry may plain legal stop => State.serveWrite_stopped r out entry may plain legal stop
  · intro r c i n v len e out entry may journaled legal go
    exact (State.serveWrite_passes r out entry may (by simp [journaled]) legal go).trans (if_pos journaled)
  · intro r c i n v len e out entry may plain volatile legal go
    exact (State.serveWrite_passes r out entry may plain legal go).trans (if_neg volatile)
  · exact fun r c i a b n missing => State.serveRead_noEntry missing r c
  · exact fun r c i a b n out exist denied => State.serveRead_denied r out exist denied
  · intro r c i a b e out' out exist readable entry gathered
    subst gathered
    exact State.serveRead_gathered r out exist readable entry

end

section
/-! SUPPORT. What the commands on change sets do, case by case (R423 to R427, R450, R452). -/

namespace Sys2Proof.Machine

/-- On a claimed crown nobody claims (R443). -/
theorem State.claiming_claimed {s : State} (claimed : s.claimed = true) (c : Caller) (via : Transport) (op : Nat) : s.claiming c via op = false := by
  simp [State.claiming, claimed]

/-- A claim is not signed (R443). -/
theorem State.claiming_signed (s : State) {c : Caller} (signed : c.signed = true) (via : Transport) (op : Nat) : s.claiming c via op = false := by
  simp [State.claiming, signed]

/-! ### OPEN_SET (R423) -/

/-- A set as it is opened. -/
def ChangeSet.opened (id : Nat) (partition : Bool) (part : Nat) (opener now : Nat) : ChangeSet :=
  { id := id, partition := partition, part := part, joint := false, stages := [], state := .open_, prior := .open_, commitNo := 0, ft := 0,
    digest := 0, sigA := { keyId := 0, key := 0 }, sigB := { keyId := 0, key := 0 }, opener := opener, order := 0, lastReq := now, claim := false,
    answerTo := none }

/-- A set is opened under the next SET_ID, and its opener told so. -/
def State.openedSet (s : State) (r : Req) (c : Caller) (partition : Bool) (part : Nat) : State :=
  (s.modBocel (fun b =>
    { b with sets := b.sets ++ [.opened s.bocel.nextSet partition part c.keyId s.now], nextSet := s.bocel.nextSet + 1 })).finishWith r c
      (passing Op.openSet (beBytes 4 s.bocel.nextSet))

/-- The role may open a set of that scope: an operator only one of its own partition (R439). -/
def mayOpen (who : Role) (partition : Bool) (part : Nat) : Bool :=
  match who with | .operator n => partition && n == part && n < 64 | _ => true

/-- OPEN_SET that claims nothing, of a scope that exists: the role, then the room for sets. -/
theorem State.serveOpenSet_plain {s : State} {r : Req} {c : Caller} (plain : s.claiming c r.via Op.openSet = false) {partition : Bool} {part : Nat}
    (scope : partition = false ∨ part < 64) :
    s.serveOpenSet r c partition part false =
      if mayOpen c.who partition part = false then s.refuseReq r c Op.openSet Status.accessDenied 0 0 0
      else if 16 ≤ (s.bocel.sets.filter ChangeSet.live).length then s.refuseReq r c Op.openSet Status.noResource 0 0 0
      else s.openedSet r c partition part := by
  have exists_ : (partition && decide (64 ≤ part)) = false := by
    rcases scope with h | h <;> simp [h]
  simp only [State.serveOpenSet, plain, exists_, mayOpen, Bool.or_false, Bool.false_and, Bool.false_eq_true, if_false, Bool.not_false, Bool.true_and,
    Bool.not_eq_true']
  rfl

theorem State.serveOpenSet_opens {s : State} {r : Req} {c : Caller} (plain : s.claiming c r.via Op.openSet = false) {partition : Bool} {part : Nat}
    (scope : partition = false ∨ part < 64) (may : mayOpen c.who partition part = true)
    (room : (s.bocel.sets.filter ChangeSet.live).length < 16) :
    s.serveOpenSet r c partition part false = s.openedSet r c partition part := by
  rw [State.serveOpenSet_plain plain scope, if_neg (by simp [may]), if_neg (Nat.not_le.2 room)]

theorem State.serveOpenSet_full {s : State} {r : Req} {c : Caller} (plain : s.claiming c r.via Op.openSet = false) {partition : Bool} {part : Nat}
    (scope : partition = false ∨ part < 64) (may : mayOpen c.who partition part = true)
    (full : 16 ≤ (s.bocel.sets.filter ChangeSet.live).length) :
    s.serveOpenSet r c partition part false = s.refuseReq r c Op.openSet Status.noResource 0 0 0 := by
  rw [State.serveOpenSet_plain plain scope, if_neg (by simp [may]), if_pos full]

theorem State.serveOpenSet_denied {s : State} {r : Req} {c : Caller} (plain : s.claiming c r.via Op.openSet = false) {partition : Bool} {part : Nat}
    (scope : partition = false ∨ part < 64) (no : mayOpen c.who partition part = false) :
    s.serveOpenSet r c partition part false = s.refuseReq r c Op.openSet Status.accessDenied 0 0 0 := by
  rw [State.serveOpenSet_plain plain scope, if_pos no]

/-! ### STAGE (R424) -/

section
variable {s : State} {r : Req} {c : Caller} {id i n ty v len : Nat} {x : ChangeSet} (claimed : s.claimed = true) (set : s.setOf id = some x)
include claimed set

theorem State.serveStage_otherKey (other : c.keyId ≠ x.opener) (k : Nat) :
    s.serveStage r c id k i n ty v len = (s.touchSet id).refuseReq r c Op.stage Status.authFailed 0 i n := by
  have plain : (s.touchSet id).claiming c r.via Op.stage = false := State.claiming_claimed claimed _ _ _
  simp [State.serveStage, set, plain, other]

variable (opener : c.keyId = x.opener) (opened : x.state = .open_)
include opener opened

theorem State.serveStage_otherNumber {k : Nat} (other : k ≠ x.stages.length) :
    s.serveStage r c id k i n ty v len = (s.touchSet id).refuseReq r c Op.stage Status.setState x.stages.length i n := by
  have plain : (s.touchSet id).claiming c r.via Op.stage = false := State.claiming_claimed claimed _ _ _
  simp [State.serveStage, set, plain, opener, opened, other]

/-- A STAGE of the next number by the opener into its OPEN set, of an entry that the opener may write: the value, then the room. -/
theorem State.serveStage_next {e : Entry} (entry : checkEntry c.who false i n ty = .inl e) :
    s.serveStage r c id x.stages.length i n ty v len =
      if e.persist ≠ .staged ∨ legalValue e (256 * i + n) v len = false then (s.touchSet id).refuseReq r c Op.stage Status.valueRefused 0 i n
      else if 65536 ≤ x.stages.length ∨
          2 ^ 23 < (((s.touchSet id).bocel.sets.filter ChangeSet.stored).map ChangeSet.stageBytes).sum + 12 + valueBytes (256 * i + n) then
        (s.touchSet id).refuseReq r c Op.stage Status.noResource 0 i n
      else ((s.touchSet id).modSet id (fun x => { x with stages := x.stages ++ [{ index := i, sub := n, value := v }] })).finishWith r c
        (passing Op.stage []) := by
  have plain : (s.touchSet id).claiming c r.via Op.stage = false := State.claiming_claimed claimed _ _ _
  simp [State.serveStage, set, plain, opener, opened, entry]

end

/-! ### COMMIT and CANCEL_SET (R425, R426, R450) -/

section
variable {s : State} {r : Req} {c : Caller} {id : Nat} {x : ChangeSet} (set : s.setOf id = some x)
include set

theorem State.serveCommit_otherNumber {k : Nat} (other : k ≠ x.commitNo) (ft d : Nat) (a b : SetSig) :
    s.serveCommit r c id k ft d a b = (s.touchSet id).refuseReq r c Op.commit Status.setState x.state.code 0 0 := by
  simp [State.serveCommit, set, other]

theorem State.serveCancel_otherNumber {k : Nat} (other : k ≠ x.commitNo) (a b : SetSig) :
    s.serveCancel r c id k a b = (s.touchSet id).refuseReq r c Op.cancelSet Status.setState x.state.code 0 0 := by
  simp [State.serveCancel, set, other]

variable (opened : x.state = .open_) {a b : SetSig}
include opened

theorem State.serveCommit_badSignatures (bad : (s.touchSet id).sigOk x a = false ∨ (s.touchSet id).sigOk x b = false ∨
    (s.touchSet id).pairOk x a.keyId b.keyId = false) (ft d : Nat) :
    s.serveCommit r c id x.commitNo ft d a b = (s.touchSet id).refuseReq r c Op.commit Status.authFailed 0 0 0 := by
  have barred : (!(s.touchSet id).sigOk x a || !(s.touchSet id).sigOk x b || !(s.touchSet id).pairOk x a.keyId b.keyId) = true := by
    simpa [or_assoc] using bad
  simp [State.serveCommit, set, opened, barred]

theorem State.serveCommit_seals (sigA : (s.touchSet id).sigOk x a = true) (sigB : (s.touchSet id).sigOk x b = true)
    (pair : (s.touchSet id).pairOk x a.keyId b.keyId = true) (room : (s.touchSet id).actCount < 256) (ft d : Nat) :
    s.serveCommit r c id x.commitNo ft d a b = ((s.touchSet id).keySeqNow r c).modSet id (fun y => { y with
      commitNo := y.commitNo + 1, prior := y.state, state := .sealed, ft := ft, digest := d, sigA := a, sigB := b, answerTo := some r }) := by
  simp [State.serveCommit, set, opened, sigA, sigB, pair, Nat.not_le.2 room]

theorem State.serveCancel_open (opener : a.keyId = x.opener) (sigA : (s.touchSet id).sigOk x a = true) (alone : b.keyId = 0) :
    s.serveCancel r c id x.commitNo a b =
      (((s.touchSet id).modSet id (fun x => { x with commitNo := x.commitNo + 1 })).modSet id (fun x => { x with state := .cancelled })).finishWith r c
        (passing Op.cancelSet (stateBody id SetState.cancelled.code none)) := by
  simp [State.serveCancel, set, opened, opener, sigA, alone]

end

theorem State.serveCommit_noSet {s : State} {id : Nat} (none_ : s.setOf id = none) (r : Req) (c : Caller) (k ft d : Nat) (a b : SetSig) :
    s.serveCommit r c id k ft d a b = s.refuseReq r c Op.commit Status.setState 0xFFFFFFFF 0 0 := by
  simp [State.serveCommit, none_]

theorem State.serveCancel_noSet {s : State} {id : Nat} (none_ : s.setOf id = none) (r : Req) (c : Caller) (k : Nat) (a b : SetSig) :
    s.serveCancel r c id k a b = s.refuseReq r c Op.cancelSet Status.setState 0xFFFFFFFF 0 0 := by
  simp [State.serveCancel, none_]

/-! ### SET_VALIDATED (R450 to R452) -/

/-- The set as it stands in the queue at a slot of the activation queue. -/
def ChangeSet.queuedAt (x : ChangeSet) (order : BitVec 16) : ChangeSet := { x with state := .queued, order := order, answerTo := none }

/-- A set is QUEUED at a slot, `v` with its entry there: its records form, and its COMMIT's answer waits for them. -/
def State.setQueued (v : State) (x : ChangeSet) (id n : Nat) : State :=
  let y := x.queuedAt (v.act.slots.getD n ActSlot.reset).seq
  let w := v.modSet id (fun _ => y)
  w.jForm 0 (partsMask (w.affected y)) x.answerTo .anonymous none
    (some (passing Op.commit (stateBody id (if x.claim then SetState.fired.code else SetState.queued.code) (some (if x.claim then 0xFF else n)))))
    (.set y (v.consentNeeded x))

theorem setValidated_noSet {s : State} {id : Nat} (none_ : s.setOf id = none) : setValidatedEffect s id = s := by
  simp [setValidatedEffect, none_]

section
variable {s : State} {id : Nat} {x : ChangeSet} (set : s.setOf id = some x)
include set

theorem setValidated_noCommit (none_ : x.answerTo = none) : setValidatedEffect s id = s := by
  simp [setValidatedEffect, set, none_]

variable {r : Req} (commit : x.answerTo = some r)
include commit

theorem setValidated_unsealed (other : x.state ≠ .sealed) :
    setValidatedEffect s id = s.answerCommit x (failing Op.commit Status.setState x.state.code 0 0) := by
  simp [setValidatedEffect, set, commit, other]

variable (sealed : x.state = .sealed)
include sealed

theorem setValidated_refused {reason stage : Nat} (refused : s.validate x = some (reason, stage)) {v : State}
    (hv : v = (s.setRefuse x reason).answerCommit x (failing Op.commit Status.validationFailed (reason * 65536 + stage) 0 0)) :
    setValidatedEffect s id = if x.prior = .queued then v.revalidateAfter x.order else v := by
  subst hv
  simp [setValidatedEffect, set, commit, sealed, refused]

variable (passes : s.validate x = none)
include passes

theorem setValidated_placed (new : s.actFind .change id = none) {n : Nat} (free : s.actFree = some n) {v : State}
    (put : s.actPut x.ft .change x.joint id 0xFFFF = some v) : setValidatedEffect s id = v.setQueued x id n := by
  simp only [setValidatedEffect, set, commit, sealed, passes, new, free, put, ne_eq, not_true_eq_false, if_false, Option.isNone_some,
    Bool.false_eq_true, State.setQueued, ChangeSet.queuedAt]

theorem setValidated_moved {n : Nat} (stands : s.actFind .change id = some n) {v : State}
    (hv : v = s.modAct (fun y => { y with slots := y.slots.modify n (fun e => { e with ft := x.ft, state := .pending }) })) :
    setValidatedEffect s id = v.setQueued x id n := by
  subst hv
  simp only [setValidatedEffect, set, commit, sealed, passes, stands, ne_eq, not_true_eq_false, if_false, Option.isNone_some,
    Bool.false_eq_true, State.setQueued, ChangeSet.queuedAt]

theorem setValidated_noRoom (new : s.actFind .change id = none) (full : s.actFree = none) :
    setValidatedEffect s id = (s.modSet id (fun c => { c with state := c.prior, commitNo := c.commitNo - 1 })).answerCommit x
      (failing Op.commit Status.noResource 0 0 0) := by
  simp only [setValidatedEffect, set, commit, sealed, passes, new, full, ne_eq, not_true_eq_false, if_false, Option.isNone_some,
    Bool.false_eq_true]

end

/-! ### SET_EXPIRE (R423) -/

theorem setExpire_due {s : State} {id : Nat} {x : ChangeSet} (set : s.setOf id = some x) (opened : x.state = .open_)
    (due : s.after x.lastReq 600000000000 = true) : setExpireEffect s id = s.modSet id (fun c => { c with state := .expired }) := by
  simp [setExpireEffect, set, opened, due]

theorem setExpire_stays {s : State} {id : Nat} {x : ChangeSet} (set : s.setOf id = some x)
    (no : x.state ≠ .open_ ∨ s.after x.lastReq 600000000000 = false) : setExpireEffect s id = s := by
  rcases no with h | h <;> simp [setExpireEffect, set, h]

end Sys2Proof.Machine

open Sys2Proof Sys2Proof.Machine

/-- Settles O48: what serves each request, and the effects of SET_VALIDATED and SET_EXPIRE, by the lemma on each case. -/
theorem changeSetCommands : Obligations.ChangeSetCommands := by
  intro s u t hu
  subst hu
  have validated (id) : exec (.setValidated t id) s = act2 s t (fun x => setValidatedEffect x id) := rfl
  have expire (id) : exec (.setExpire t id) s = act1 s t (fun x => setExpireEffect x id) := rfl
  refine ⟨?_, ?_, ?_, ?_, ?_, ?_, ?_, ?_, ?_, ?_, ?_, ?_, ?_, ?_, ?_, ?_, ?_, ?_, ?_, ?_, ?_, ?_, ?_, ?_⟩
  · exact fun r k p claimed room => State.serveOpenSet_opens (State.claiming_claimed claimed _ _ _) (.inl rfl) rfl room
  · intro r c p signed operator room
    exact State.serveOpenSet_denied (State.claiming_signed _ signed _ _) (.inl rfl) (by simp [mayOpen, operator])
  · exact fun r k p claimed full => State.serveOpenSet_full (State.claiming_claimed claimed _ _ _) (.inl rfl) rfl full
  · intro r c id k i n ty v len x e claimed set opener opened next entry staged legal count bytes
    subst next
    rw [State.serveStage_next claimed set opener opened entry, if_neg (by simp [staged, legal]), if_neg (by omega)]
  · exact fun r c id k i n ty v len x claimed set opener opened other => State.serveStage_otherNumber claimed set opener opened other
  · intro r c n operator part claimed room
    exact State.serveOpenSet_opens (State.claiming_claimed claimed _ _ _) (.inr part) (by simp [mayOpen, operator, part]) room
  · exact fun r c id k i n ty v len x claimed set other => State.serveStage_otherKey claimed set other k
  · intro r c id k i n ty v len x e claimed set opener opened next entry refused
    subst next
    rw [State.serveStage_next claimed set opener opened entry, if_pos refused]
  · exact fun r c id k a b none_ => State.serveCancel_noSet none_ r c k a b
  · exact fun r c id k a b x set other => State.serveCancel_otherNumber set other a b
  · exact fun r c id ft d a b x set opened bad => State.serveCommit_badSignatures set opened bad ft d
  · exact fun r c id k ft d a b none_ => State.serveCommit_noSet none_ r c k ft d a b
  · exact fun r c id ft d a b x set opened sigA sigB pair room => State.serveCommit_seals set opened sigA sigB pair room ft d
  · exact fun r c id k ft d a b x set other => State.serveCommit_otherNumber set other ft d a b
  · exact fun r c id a b x set opened opener sigA alone => State.serveCancel_open set opened opener sigA alone
  · exact fun id x r reason stage v set commit sealed refused hv =>
      afterAll_act2 t _ (validated id) (setValidated_refused set commit sealed refused hv)
  · intro id x r n v w set commit sealed passes new free put hw
    subst hw
    have queued := setValidated_placed set commit sealed passes new free put
    rw [State.setQueued, commit] at queued
    exact afterAll_act2 t _ (validated id) queued
  · intro id x r n v w set commit sealed passes stands hv hw
    subst hw
    have queued := setValidated_moved set commit sealed passes stands hv
    rw [State.setQueued, commit] at queued
    exact afterAll_act2 t _ (validated id) queued
  · exact fun id x r set commit sealed passes new full =>
      afterAll_act2 t _ (validated id) (setValidated_noRoom set commit sealed passes new full)
  · exact fun id x r set commit other => afterAll_act2 t _ (validated id) (setValidated_unsealed set commit other)
  · exact fun id x set none_ => afterAll_act2 t _ (validated id) (setValidated_noCommit set none_)
  · exact fun id none_ => afterAll_act2 t _ (validated id) (setValidated_noSet none_)
  · exact fun id x set opened due => after_act1 t _ (expire id) (setExpire_due set opened due)
  · exact fun id x set no => after_act1 t _ (expire id) (setExpire_stays set no)

end

section
/-! SUPPORT. The effects of sessions that idle, of the mailbox's registers and of the other management protocols, case by case (R422, R430,
R433). -/

namespace Sys2Proof.Machine

/-! ### Sessions (R422) -/

theorem sessionIdleClose_due {s : State} {n : Nat} {x : Session} (open_ : s.sessionOf n = some x) (due : s.after x.lastReq 300000000000 = true) :
    sessionIdleCloseEffect s n = s.modBocel (fun b => { b with sessions := b.sessions.filter (·.id ≠ n) }) := by
  simp [sessionIdleCloseEffect, open_, due]

theorem sessionIdleClose_stays {s : State} {n : Nat} (sooner : ∀ x, s.sessionOf n = some x → s.after x.lastReq 300000000000 = false) :
    sessionIdleCloseEffect s n = s := by
  unfold sessionIdleCloseEffect
  split
  case h_1 x open_ => exact if_neg (by simp [sooner x open_])
  case h_2 => rfl

/-! ### The mailbox (R433) -/

theorem mbDoorbell_taken {s : State} {p len : Nat} (part : p < 64) (home : s.isHome p = true) (free : (s.part p).mailbox.busy = false)
    (least : 24 ≤ len) (most : len ≤ 4096) :
    mbDoorbellEffect s p len = s.modPart p (fun x => { x with mailbox := { x.mailbox with busy := true, ready := false } }) := by
  rw [mbDoorbellEffect, if_neg (by simp [home, part]), if_neg (by simp [free, least, most])]

theorem mbDoorbell_ignored {s : State} {p len : Nat} (part : p < 64) (home : s.isHome p = true)
    (bad : (s.part p).mailbox.busy = true ∨ len < 24 ∨ 4096 < len) :
    mbDoorbellEffect s p len = (s.modBocel (fun b => { b with mbIgnored := b.mbIgnored + 1 })).countHeart 0x3C7 1 := by
  rw [mbDoorbellEffect, if_neg (by simp [part, home]), if_pos (by simpa [or_assoc] using bad)]

theorem mbDoorbell_away {s : State} {p : Nat} (away : 64 ≤ p ∨ s.isHome p = false) (len : Nat) : mbDoorbellEffect s p len = s :=
  if_pos (by simpa using away)

theorem mbReadyClear_home {s : State} {p : Nat} (part : p < 64) (home : s.isHome p = true) :
    mbReadyClearEffect s p = s.modPart p (fun x => { x with mailbox := { x.mailbox with ready := false } }) :=
  if_pos (by simp [part, home])

theorem mbReadyClear_away {s : State} {p : Nat} (away : 64 ≤ p ∨ s.isHome p = false) : mbReadyClearEffect s p = s :=
  if_neg (by rcases away with h | h <;> simp [h, Nat.not_lt.2])

/-! ### Over I3C (R430) -/

theorem setEndpointId_taken {s : State} {e : Nat} (served : s.takes .i3c = true) (least : 1 ≤ e) (most : e ≤ 254) :
    setEndpointIdEffect s e = (s.modBocel (fun b => { b with eid := e })).emit (.answer "set endpoint ID" [0, e]) := by
  simp [setEndpointIdEffect, served, least, most]

theorem setEndpointId_invalid {s : State} {e : Nat} (served : s.takes .i3c = true) (reserved : e = 0 ∨ 254 < e) :
    setEndpointIdEffect s e = s.emit (.answer "set endpoint ID" [2, s.bocel.eid]) := by
  rw [setEndpointIdEffect, if_neg (by simp [served]), if_neg (by simp; omega)]

theorem setEndpointId_unserved {s : State} (unserved : s.takes .i3c = false) (e : Nat) : setEndpointIdEffect s e = s :=
  if_pos (by simp [unserved])

/-! ### Over the management port (R430) -/

/-- An address that is the module's own: its link-local one, or one that it has been given. -/
def State.ownAddress (s : State) (a : Nat) : Prop := a = Config.linkLocal ∨ a ≠ 0 ∧ (a = s.get Key.MGMT_IPV6 ∨ a = s.get Key.MGMT_IPV4)

theorem neighbourDiscovery_own {s : State} {a : Nat} (served : s.takes .udp = true) (own : s.ownAddress a) :
    neighbourDiscoveryEffect s a = s.emit (.answer "neighbour advertisement" [a, Config.mgmtMac]) :=
  if_pos (by simpa [served, State.ownAddress] using own)

theorem neighbourDiscovery_other {s : State} {a : Nat} (other : s.takes .udp = false ∨ ¬ s.ownAddress a) : neighbourDiscoveryEffect s a = s :=
  if_neg (by
    simp only [Bool.and_eq_true, Bool.or_eq_true, decide_eq_true_eq, not_and, ne_eq]
    intro served own
    rcases other with h | h
    · simp [h] at served
    · exact h own)

end Sys2Proof.Machine

open Sys2Proof Sys2Proof.Machine

/-- Settles O49: each command's meaning is its effect, and each effect is given by the lemma on its case; what four of them answer is
conditional on their transport alone. -/
theorem sessionsAndTransports : Obligations.SessionsAndTransports := by
  intro s u t hu
  subst hu
  have idle (n) : exec (.sessionIdleClose t n) s = act1 s t (fun x => sessionIdleCloseEffect x n) := rfl
  have doorbell (p len) : exec (.mbDoorbell t p len) s = act1 s t (fun x => mbDoorbellEffect x p len) := rfl
  have ready (p) : exec (.mbReadyClear t p) s = act1 s t (fun x => mbReadyClearEffect x p) := rfl
  have endpoint (e) : exec (.setEndpointId t e) s = act1 s t (fun x => setEndpointIdEffect x e) := rfl
  have asked : exec (.getEndpointId t) s = act1 s t getEndpointIdEffect := rfl
  have version : exec (.getMctpVersionSupport t) s = act1 s t getMctpVersionSupportEffect := rfl
  have types : exec (.getMessageTypeSupport t) s = act1 s t getMessageTypeSupportEffect := rfl
  have echo (d) : exec (.icmpEcho t d) s = act1 s t (fun x => icmpEchoEffect x d) := rfl
  have neighbour (a) : exec (.neighbourDiscovery t a) s = act1 s t (fun x => neighbourDiscoveryEffect x a) := rfl
  refine ⟨?_, ?_, ?_, ?_, ?_, ?_, ?_, ?_, ?_, ?_, ?_, ?_, ?_, ?_, ?_, ?_, ?_, ?_, ?_, ?_⟩
  · exact fun n x open_ due => after_act1 t _ (idle n) (sessionIdleClose_due open_ due)
  · exact fun n sooner => after_act1 t _ (idle n) (sessionIdleClose_stays sooner)
  · exact fun p len part home free least most => after_act1 t _ (doorbell p len) (mbDoorbell_taken part home free least most)
  · exact fun p len part home bad => after_act1 t _ (doorbell p len) (mbDoorbell_ignored part home bad)
  · exact fun p len away => after_act1 t _ (doorbell p len) (mbDoorbell_away away len)
  · exact fun p away => after_act1 t _ (ready p) (mbReadyClear_away away)
  · exact fun p home part => after_act1 t _ (ready p) (mbReadyClear_home part home)
  · exact fun e served least most => after_act1 t _ (endpoint e) (setEndpointId_taken served least most)
  · exact fun e served reserved => after_act1 t _ (endpoint e) (setEndpointId_invalid served reserved)
  · exact fun served => after_act1 t _ asked (if_pos served)
  · exact fun served => after_act1 t _ version (if_pos served)
  · exact fun served => after_act1 t _ types (if_pos served)
  · exact fun d served => after_act1 t _ (echo d) (if_pos served)
  · exact fun d unserved => after_act1 t _ (echo d) (if_neg (by simp [unserved]))
  · exact fun e unserved => after_act1 t _ (endpoint e) (setEndpointId_unserved unserved e)
  · exact fun unserved => after_act1 t _ asked (if_neg (by simp [unserved]))
  · exact fun unserved => after_act1 t _ version (if_neg (by simp [unserved]))
  · exact fun unserved => after_act1 t _ types (if_neg (by simp [unserved]))
  · exact fun a served own => after_act1 t _ (neighbour a) (neighbourDiscovery_own served own)
  · intro a other
    refine after_act1 t _ (neighbour a) (neighbourDiscovery_other (other.imp_right ?_))
    rintro ⟨notLocal, notGiven⟩ (h | ⟨given, h⟩)
    · exact notLocal h
    · rcases notGiven with zero | ⟨six, four⟩
      · exact given zero
      · exact h.elim six four

end

section
/-! SUPPORT. The effects of IDE key management, of link IDE's failures and of the hold for a test unlock, case by case (R459 to R463). -/

namespace Sys2Proof.Machine

/-! ### IDE key management (R459) -/

/-- The keys of a stream are programmed: it is one of the partition's. -/
def State.ideProgram (s : State) (p n : Nat) : State :=
  (s.modPart p (fun x => { x with ideStreams := insertNew x.ideStreams n })).emit (.answer "IDE_KM" [p, n, 1])

theorem ideKmRequest_outside {s : State} {p id : Nat} (none_ : s.inSession p id = false) (n : Nat) (b : Bool) :
    ideKmRequestEffect s p id n b = if s.doeServes p then s.spdmError p else s := by
  simp [ideKmRequestEffect, none_]

section
variable {s : State} {p id : Nat} (session : s.inSession p id = true) {n : Nat}
include session

theorem ideKmRequest_programs (room : n ∈ (s.part p).ideStreams ∨ (s.part p).ideStreams.length < 8) :
    ideKmRequestEffect s p id n true = s.ideProgram p n := by
  rw [ideKmRequestEffect, if_neg (by simp [session]), if_neg (by simp)]
  exact if_pos (by simpa using room)

theorem ideKmRequest_ninth (new : n ∉ (s.part p).ideStreams) (full : 8 ≤ (s.part p).ideStreams.length) :
    ideKmRequestEffect s p id n true = s.emit (.answer "SPDM ERROR" [p]) := by
  rw [ideKmRequestEffect, if_neg (by simp [session]), if_neg (by simp)]
  exact if_neg (by simp [new, full])

theorem ideKmRequest_stops : ideKmRequestEffect s p id n false =
    (s.modPart p (fun x => { x with ideStreams := eraseAll x.ideStreams n })).emit (.answer "IDE_KM" [p, n, 0]) := by
  rw [ideKmRequestEffect, if_neg (by simp [session])]
  exact if_pos rfl

end

/-! ### Link IDE (R460, R461) -/

theorem ideEstablishTimeout_fails {s : State} {g : Nat} (required : s.ideRequired g = true) (absent : s.ideState g = 0)
    (due : s.after (s.hport (portOfG g)).l0At 100000000 = true) : ideEstablishTimeoutEffect s g = s.ideFail g :=
  if_pos (by simp [required, absent, due])

theorem ideEstablishTimeout_stays {s : State} {g : Nat}
    (no : s.ideRequired g = false ∨ s.ideState g = 1 ∨ s.after (s.hport (portOfG g)).l0At 100000000 = false) :
    ideEstablishTimeoutEffect s g = s :=
  if_neg (by rcases no with h | h | h <;> simp [h])

theorem ideStreamInsecure_fails {s : State} {g : Nat} (required : s.ideRequired g = true) : ideStreamInsecureEffect s g = s.ideFail g :=
  if_pos required

theorem ideStreamInsecure_off {s : State} {g : Nat} (free : s.ideRequired g = false) (twig : g < 160) (secure : s.ideState g = 1) :
    ideStreamInsecureEffect s g = s.modSec (fun x => { x with ide := assocPut x.ide g 0 }) := by
  simp [ideStreamInsecureEffect, free, twig, secure]

theorem ideStreamInsecure_stays {s : State} {g : Nat} (free : s.ideRequired g = false) (no : 160 ≤ g ∨ s.ideState g ≠ 1) :
    ideStreamInsecureEffect s g = s := by
  rw [ideStreamInsecureEffect, if_neg (by simp [free]), if_neg]
  rcases no with h | h <;> simp [h, Nat.not_lt.2]

/-! ### The hold for a test unlock (R462) -/

/-- Where the module is held, the hold ends and does not count in the 5 s. -/
theorem State.endHold_held {s : State} {n since : Nat} (held : s.sec.hold = some (n, since)) :
    s.endHold =
      ((s.modSec (fun x => { x with hold := none })).modJournal (fun j => { j with startSince := j.startSince + (s.now - since) })).startTraining := by
  simp [State.endHold, held]

theorem State.endHold_free {s : State} (free : s.sec.hold = none) : s.endHold = s := by
  simp [State.endHold, free]

theorem testHoldTimeout_due {s : State} {n since : Nat} (held : s.sec.hold = some (n, since)) (due : s.after since 600000000000 = true) :
    testHoldTimeoutEffect s = s.endHold := by
  simp [testHoldTimeoutEffect, held, due]

theorem testHoldTimeout_sooner {s : State} {n since : Nat} (held : s.sec.hold = some (n, since)) (sooner : s.after since 600000000000 = false) :
    testHoldTimeoutEffect s = s := by
  simp [testHoldTimeoutEffect, held, sooner]

theorem testHoldTimeout_free {s : State} (free : s.sec.hold = none) : testHoldTimeoutEffect s = s := by
  simp [testHoldTimeoutEffect, free]

end Sys2Proof.Machine

open Sys2Proof Sys2Proof.Machine

/-- Settles O51: each command's meaning is its effect, and each effect is given by the lemma on its case. -/
theorem ideAndTestMode : Obligations.IdeAndTestMode := by
  intro s u t hu
  subst hu
  have keys (p id n b) : exec (.ideKmRequest t p id n b) s = act1 s t (fun x => ideKmRequestEffect x p id n b) := rfl
  have establish (g) : exec (.ideEstablishTimeout t g) s = act2 s t (fun x => ideEstablishTimeoutEffect x g) := rfl
  have insecure (g) : exec (.ideStreamInsecure t g) s = act2 s t (fun x => ideStreamInsecureEffect x g) := rfl
  have check (g) : exec (.ideCheckFail t g) s = act2 s t (fun x => ideCheckFailEffect x g) := rfl
  have timeout : exec (.testHoldTimeout t) s = act1 s t testHoldTimeoutEffect := rfl
  have release : exec (.testStrapRelease t) s = act1 s t testStrapReleaseEffect := rfl
  refine ⟨?_, ?_, ?_, ?_, ?_, ?_, ?_, ?_, ?_, ?_, ?_, ?_, ?_, ?_, ?_, ?_, ?_, ?_⟩
  · exact fun p id n session room => after_act1 t _ (keys p id n true) (ideKmRequest_programs session (.inr room))
  · exact fun p id n session new full => after_act1 t _ (keys p id n true) (ideKmRequest_ninth session new full)
  · exact fun p id n session => after_act1 t _ (keys p id n false) (ideKmRequest_stops session)
  · exact fun g required absent due => afterAll_act2 t _ (establish g) (ideEstablishTimeout_fails required absent due)
  · exact fun g no => afterAll_act2 t _ (establish g) (ideEstablishTimeout_stays no)
  · exact fun g required => afterAll_act2 t _ (insecure g) (ideStreamInsecure_fails required)
  · exact fun g free twig secure => afterAll_act2 t _ (insecure g) (ideStreamInsecure_off free twig secure)
  · exact fun g free no => afterAll_act2 t _ (insecure g) (ideStreamInsecure_stays free no)
  · exact fun g twig hTwig => afterAll_act2 t _ (check g) (if_pos (by simp [twig, hTwig]))
  · exact fun g no => afterAll_act2 t _ (check g) (if_neg (by rcases no with h | h <;> simp [h, Nat.not_lt.2]))
  · exact fun p id n b none_ serves => after_act1 t _ (keys p id n b) ((ideKmRequest_outside none_ n b).trans (if_pos serves))
  · exact fun p id n b off => after_act1 t _ (keys p id n b)
      ((ideKmRequest_outside (State.inSession_unserved off id) n b).trans (if_neg (Bool.eq_false_iff.1 off)))
  · exact fun p id n session listed => after_act1 t _ (keys p id n true) (ideKmRequest_programs session (.inl listed))
  · exact fun n since held due => after_act1 t _ timeout ((testHoldTimeout_due held due).trans (State.endHold_held held))
  · exact fun n since held sooner => after_act1 t _ timeout (testHoldTimeout_sooner held sooner)
  · exact fun free => after_act1 t _ timeout (testHoldTimeout_free free)
  · intro n since held
    have stands : ((s.tick t).modSec (fun x => { x with strap := false })).sec.hold = some (n, since) := held
    exact after_act1 t _ release (State.endHold_held stands)
  · intro free
    have stands : ((s.tick t).modSec (fun x => { x with strap := false })).sec.hold = none := free
    exact after_act1 t _ release (State.endHold_free stands)

end

section
/-! SUPPORT. Journal records that become whole, zeroization, compaction and the erasure of old rings, case by case (R463, R469, R473 to R479). -/

namespace Sys2Proof.Machine

/-! ### A device of the mirror programs or fails to (R469) -/

section
variable {s : State} {d : Nat}

theorem State.flashProgram_out (out : s.journal.works d = false) (ok : Bool) : s.flashProgram d ok = s := by
  simp [State.flashProgram, out]

variable (works : s.journal.works d = true)
include works

theorem State.flashProgram_done : s.flashProgram d true = s.modJournal (fun j => { j with flashFails := j.flashFails.set d 0 }) := by
  simp [State.flashProgram, works]

theorem State.flashProgram_fails (few : s.journal.flashFails.getD d 0 < 2) : s.flashProgram d false =
    s.modJournal (fun j => { j with flashFails := j.flashFails.set d (s.journal.flashFails.getD d 0 + 1) }) := by
  have left : ¬ 3 ≤ s.journal.flashFails.getD d 0 + 1 := by omega
  simp only [State.flashProgram, works, left, Bool.not_true, Bool.false_eq_true, if_false]

theorem State.flashProgram_leaves (two : 2 ≤ s.journal.flashFails.getD d 0) : s.flashProgram d false =
    (s.modJournal (fun j =>
      { j with flash := j.flash.set d false, flashFails := j.flashFails.set d (s.journal.flashFails.getD d 0 + 1) })).noteFree 0xC15 2 := by
  have third : 3 ≤ s.journal.flashFails.getD d 0 + 1 := by omega
  simp only [State.flashProgram, works, third, Bool.not_true, Bool.false_eq_true, if_false, if_true]

end

/-! ### RECORD_WHOLE (R473, R474, R479) -/

theorem recordWhole_idle {s : State} (idle : s.journal.inFlight = []) (f0 f1 : Bool) : recordWholeEffect s f0 f1 = s := by
  simp [recordWholeEffect, idle]

theorem recordWhole_stopped {s : State} (stopped : s.journal.warned = true ∧ s.journal.bodyDone = false ∨ s.awake = false) (f0 f1 : Bool) :
    recordWholeEffect s f0 f1 = s := by
  unfold recordWholeEffect
  split
  case h_1 => rfl
  case h_2 => exact if_pos (by simpa using stopped)

section
variable {s v : State} {p : PendingRecord} {rest : List PendingRecord} {f0 f1 : Bool} (oldest : s.journal.inFlight = p :: rest)
  (goes : s.journal.warned = false ∨ s.journal.bodyDone = true) (awake : s.awake = true) (hv : v = (s.flashProgram 0 f0).flashProgram 1 f1)
include oldest goes awake hv

theorem recordWhole_waits (no : v.programmed f0 f1 = false) : recordWholeEffect s f0 f1 = v := by
  have runs : (s.journal.warned && !s.journal.bodyDone || !s.awake) = false := by
    rcases goes with h | h <;> simp [h, awake]
  subst hv
  simp [recordWholeEffect, oldest, runs, no]

theorem recordWhole_taken (whole : v.programmed f0 f1 = true) {w : State}
    (hw : w = (v.modJournal (fun j => { j with inFlight := rest, bodyDone := false })).recordTaken p) :
    recordWholeEffect s f0 f1 = (w.serveQueue w.bocel.queue.length).compactIfFull := by
  have runs : (s.journal.warned && !s.journal.bodyDone || !s.awake) = false := by
    rcases goes with h | h <;> simp [h, awake]
  subst hv hw
  simp [recordWholeEffect, oldest, runs, whole]

end

/-- A record joins the journal and takes effect, before its answer. -/
def State.recordApplied (s : State) (p : PendingRecord) : State := (((s.jWhole p.record).takeSeq p.record).takeWrite p).takeSet p.record

theorem State.recordTaken_answered {s : State} {p : PendingRecord} {r : Req} {a : Answer} (req : p.req = some r) (answer : p.answer = some a) :
    s.recordTaken p =
      if (s.recordApplied p).journal.warned then
        (s.recordApplied p).modJournal (fun j => { j with heldAnswers := j.heldAnswers ++ [(r, a)] })
      else (s.recordApplied p).respond r a := by
  simp only [State.recordTaken, req, answer]
  rfl

theorem State.recordTaken_own {s : State} {p : PendingRecord} (none_ : p.req = none) : s.recordTaken p = s.recordApplied p := by
  simp only [State.recordTaken, none_]
  rfl

theorem State.takeWrite_write {s : State} {p : PendingRecord} {key v : Nat} (write : p.write = some (key, v)) :
    s.takeWrite p = if key = Key.TEST_UNLOCK then s.zeroize p.record.keyId else s.applyWrite p.who key v := by
  simp only [State.takeWrite, write]

/-! ### Zeroization (R463) -/

/-- A reading of the state that no event, no draw and no change of the hierarchy, of time or of the journal moves. -/
structure ReadsPast {β : Type} (g : State → β) : Prop where
  event : ∀ s t : State, s.EventOnly t → g t = g s
  hier : ∀ (s : State) f, g (s.modHier f) = g s
  time : ∀ (s : State) f, g (s.modTime f) = g s
  journal : ∀ (s : State) f, g (s.modJournal f) = g s
  draw : ∀ s : State, g s.drew = g s

section
variable {β : Type} {g : State → β} (past : ReadsPast g)
include past

theorem State.jWhole_reads (s : State) (x : JRecord) : g (s.jWhole x) = g s := by
  have count (u : State) (ev n : Nat) : g (u.countHeart ev n) = g u := past.event _ _ (State.countFrom_eventOnly ..)
  rw [State.jWhole, count, count]
  split
  · exact past.journal _ _
  · exact (past.time _ _).trans (past.journal _ _)

theorem State.jAppend_reads (s : State) (b : JBody) : g (s.jAppend b) = g s := by
  unfold State.jAppend State.jForm
  exact past.journal s _

theorem State.jNow_reads (s : State) (b : JBody) : g (s.jNow b) = g s := by
  have joins (u : State) (p : PendingRecord) : g (u.jWhole p.record) = g u := State.jWhole_reads past u p.record
  unfold State.jNow
  exact (State.each_keeps g _ _ joins _).trans ((past.journal _ _).trans (State.jAppend_reads past s b))

theorem State.newSealKey_reads (s : State) : g s.newSealKey = g s := by
  simp only [State.newSealKey, past.journal, past.draw]

theorem State.powerLimb_reads (s : State) (l : Nat) : g (s.powerLimb l) = g s := by
  unfold State.powerLimb
  split
  · exact past.hier _ _
  · rfl

/-- After what it wipes, zeroization draws a sealing key, powers limbs, writes its record and raises its event. -/
theorem State.zeroizeEnd_reads (s : State) (f : TimeUnit → TimeUnit) (ls : List Nat) (b : JBody) :
    g ((((s.newSealKey.modTime f).each ls State.powerLimb).jNow b).noteFree 0xBF8 0) = g s := by
  rw [State.noteFree, State.noteAt, past.event _ _ (State.note_eventOnly _ _), State.jNow_reads past, State.each_keeps g _ _ (State.powerLimb_reads past), past.time,
    State.newSealKey_reads past]

end

theorem State.zeroize_wipes (s : State) (k : Nat) :
    (s.zeroize k).sec.testMode = true ∧ (s.zeroize k).dict = [] ∧ (s.zeroize k).mem.cells = [] := by
  have test : ReadsPast (fun u : State => u.sec.testMode) :=
    ⟨fun _ _ h => by rw [h.sec], fun _ _ => rfl, fun _ _ => rfl, fun _ _ => rfl, fun _ => rfl⟩
  have dict : ReadsPast State.dict := ⟨fun _ _ h => h.dict, fun _ _ => rfl, fun _ _ => rfl, fun _ _ => rfl, fun _ => rfl⟩
  have cells : ReadsPast (fun u : State => u.mem.cells) :=
    ⟨fun _ _ h => by rw [h.mem], fun _ _ => rfl, fun _ _ => rfl, fun _ _ => rfl, fun _ => rfl⟩
  exact ⟨(State.zeroizeEnd_reads test _ _ _ _).trans rfl, (State.zeroizeEnd_reads dict _ _ _ _).trans rfl,
    (State.zeroizeEnd_reads cells _ _ _ _).trans rfl⟩

/-! ### Compaction (R477) -/

theorem State.compactStart_free {s : State} (mode : s.journal.mode = 0) (rings : s.journal.oldRings = 0) :
    s.compactStart = s.modJournal (fun j => { j with mode := 1, compactFrom := (j.records.map (·.rno)).foldl max 0 }) := by
  simp [State.compactStart, mode, rings]

theorem State.compactStart_busy {s : State} (busy : s.journal.mode ≠ 0 ∨ s.journal.oldRings ≠ 0) : s.compactStart = s := by
  rcases busy with h | h <;> simp [State.compactStart, h]

theorem compactionSnapEnd_idle {s : State} (idle : s.journal.mode ≠ 1) : compactionSnapEndEffect s = s := if_pos idle

theorem compactionSnapEnd_done {s : State} (runs : s.journal.mode = 1) :
    compactionSnapEndEffect s = (s.modJournal Journal.compacted).noteFree 0xC17 0 := if_neg (by simp [runs])

/-- The records that a compaction from N finds. -/
def Journal.compactedFrom (j : Journal) : List JRecord := j.records.filter (fun r => r.rno ≤ j.compactFrom && r.rno ≠ 0)

/-- The new set of records holds two marks without a number around records of the old one. -/
theorem Journal.mem_compacted_numbered {j : Journal} {r : JRecord} (numbered : r.rno ≠ 0) (mem : r ∈ j.compacted.records) : r ∈ j.records := by
  simp only [Journal.compacted, List.mem_append, List.mem_cons, List.mem_filter, List.not_mem_nil, or_false] at mem
  rcases mem with (rfl | ⟨⟨old, -⟩, -⟩ | ⟨later, -⟩) | rfl
  · exact absurd rfl numbered
  · exact old
  · exact later
  · exact absurd rfl numbered

theorem Journal.mem_compacted_later {j : Journal} {r : JRecord} (mem : r ∈ j.records) (later : j.compactFrom < r.rno) :
    r ∈ j.compacted.records := by
  simp [Journal.compacted, mem, later]

/-- The records of a set that waits are kept whatever their age. -/
theorem Journal.mem_compacted_waiting {j : Journal} {r : JRecord} {cs x : ChangeSet} {c : List Nat} (mem : r ∈ j.records)
    (old : r.rno ≤ j.compactFrom) (numbered : r.rno ≠ 0) (set : cs ∈ replaySets j.compactedFrom)
    (waits : cs.state = .queued ∨ cs.state = .postponed) (body : r.body = .set x c) (id : x.id = cs.id) : r ∈ j.compacted.records := by
  have kept : x.id ∈ ((replaySets j.compactedFrom).filter (fun c => c.state = .queued || c.state = .postponed)).map (·.id) :=
    List.mem_map.2 ⟨cs, List.mem_filter.2 ⟨set, by simpa using waits⟩, id.symm⟩
  rw [Journal.compactedFrom] at kept
  simp only [Journal.compacted, List.mem_append, List.mem_cons, List.mem_filter]
  refine .inl (.inr (.inl ⟨⟨mem, by simp [old, numbered]⟩, ?_⟩))
  simp only [keptRecord, body, List.contains_iff_mem.2 kept, Bool.true_or]

/-! ### RING_ERASE_DONE (R469, R477) -/

theorem ringEraseDone_idle {s : State} (idle : s.journal.oldRings = 0 ∨ s.journal.warned = true ∨ s.power.standby = false) (f0 f1 : Bool) :
    ringEraseDoneEffect s f0 f1 = s := if_pos (by simpa [or_assoc] using idle)

/-- A ring of the old set counts as erased where every working device has erased it. -/
theorem ringEraseDone_goes {s v : State} {f0 f1 : Bool} (rings : 0 < s.journal.oldRings) (warned : s.journal.warned = false)
    (standby : s.power.standby = true) (hv : v = (s.flashProgram 0 f0).flashProgram 1 f1) :
    ringEraseDoneEffect s f0 f1 =
      if v.programmed f0 f1 then ((v.modJournal (fun j => { j with oldRings := j.oldRings - 1 })).countHeart 0x3D2 1).compactIfFull else v := by
  subst hv
  exact if_neg (by simp [warned, standby, rings.ne'])

end Sys2Proof.Machine

open Sys2Proof Sys2Proof.Machine

/-- Settles O52: each command's meaning is its effect, and each effect and each operation that it uses is given by the lemma on its case. -/
theorem recordsAndCompaction : Obligations.RecordsAndCompaction := by
  intro s u t hu
  subst hu
  have whole (f0 f1) : exec (.recordWhole t f0 f1) s = act2 s t (fun x => recordWholeEffect x f0 f1) := rfl
  have now (w) : exec (.compactNow t w) s = act1 s t (fun x => if w.isInstaller then x.compactStart else x) := rfl
  have snapEnd : exec (.compactionSnapEnd t) s = act1 s t compactionSnapEndEffect := rfl
  have erased (f0 f1) : exec (.ringEraseDone t f0 f1) s = act1 s t (fun x => ringEraseDoneEffect x f0 f1) := rfl
  refine ⟨?_, ?_, ?_, ?_, ?_, ?_, ?_, ?_, ?_, ?_, ?_, ?_, ?_, ?_, ?_, ?_, ?_, ?_, ?_, ?_, ?_, ?_, ?_, ?_, ?_, ?_, ?_⟩
  · exact fun p rest f0 f1 v w oldest goes awake hv programmed hw =>
      afterAll_act2 t _ (whole f0 f1) (recordWhole_taken oldest goes awake hv programmed hw)
  · exact fun p rest f0 f1 v oldest goes awake hv no => afterAll_act2 t _ (whole f0 f1) (recordWhole_waits oldest goes awake hv no)
  · exact fun f0 f1 idle => afterAll_act2 t _ (whole f0 f1) (recordWhole_idle idle f0 f1)
  · exact fun f0 f1 stopped => afterAll_act2 t _ (whole f0 f1) (recordWhole_stopped stopped f0 f1)
  · exact fun w p r a req answer => State.recordTaken_answered req answer
  · exact fun w p none_ => State.recordTaken_own none_
  · exact fun w full => if_pos full
  · exact fun w room => if_neg (Nat.not_le.2 room)
  · exact fun d works => State.flashProgram_done works
  · exact fun d works few => State.flashProgram_fails works few
  · exact fun d works two => State.flashProgram_leaves works two
  · exact fun d b out => State.flashProgram_out out b
  · exact fun p key v write other => (State.takeWrite_write write).trans (if_neg other)
  · exact fun p v write => (State.takeWrite_write write).trans (if_pos rfl)
  · exact fun k => State.zeroize_wipes _ k
  · exact fun k mode rings => after_act1 t _ (now _) (State.compactStart_free mode rings)
  · exact fun k busy => after_act1 t _ (now _) (State.compactStart_busy busy)
  · exact fun w other => after_act1 t _ (now w) (if_neg (by simp [other]))
  · exact fun idle => after_act1 t _ snapEnd (compactionSnapEnd_idle idle)
  · exact fun runs => after_act1 t _ snapEnd (compactionSnapEnd_done runs)
  · exact fun j => ⟨rfl, rfl, rfl, rfl, rfl⟩
  · exact fun j r mem later => Journal.mem_compacted_later mem later
  · exact fun j r cs mem old numbered set waits ⟨x, c, body, id⟩ => Journal.mem_compacted_waiting mem old numbered set waits body id
  · exact fun j r mem numbered => Journal.mem_compacted_numbered numbered mem
  · exact fun f0 f1 idle => after_act1 t _ (erased f0 f1) (ringEraseDone_idle idle f0 f1)
  · exact fun f0 f1 v rings warned standby hv programmed =>
      after_act1 t _ (erased f0 f1) ((ringEraseDone_goes rings warned standby hv).trans (if_pos programmed))
  · exact fun f0 f1 v rings warned standby hv no =>
      after_act1 t _ (erased f0 f1) ((ringEraseDone_goes rings warned standby hv).trans (if_neg (by simp [no])))

end

section
/-! SUPPORT. The effects of grafts and of their activation, case by case (R483 to R485). -/

namespace Sys2Proof.Machine

/-! ### Chunks (R483) -/

theorem State.graftChunkWrite_begins {s : State} (free : s.journal.graftState ≠ 5) (d : List Byte) : s.graftChunkWrite 0 d =
    some (s.modJournal (fun j => { j with graftState := 1, graftReason := 0, graftReceived := 1024, staged := d })) := by
  simp [State.graftChunkWrite, free]

theorem State.graftChunkWrite_extends {s : State} {o : Nat} (receiving : s.journal.graftState = 1) (next : o = s.journal.graftReceived)
    (later : 0 < o) (whole : o % 1024 = 0) (fits : o + 1024 ≤ 0x1000000) (d : List Byte) :
    s.graftChunkWrite o d = some (s.modJournal (fun j => { j with graftReceived := o + 1024, staged := j.staged ++ d })) := by
  subst next
  simp [State.graftChunkWrite, receiving, whole, Nat.not_lt.2 fits, later.ne']

theorem State.graftChunkWrite_refused {s : State} {o : Nat}
    (no : s.journal.graftState = 5 ∨ o % 1024 ≠ 0 ∨ 0x1000000 < o + 1024 ∨ 0 < o ∧ (s.journal.graftState ≠ 1 ∨ o ≠ s.journal.graftReceived))
    (d : List Byte) : s.graftChunkWrite o d = none := by
  rcases no with h | h | h | ⟨later, h⟩
  · simp [State.graftChunkWrite, h]
  · simp [State.graftChunkWrite, h]
  · simp [State.graftChunkWrite, h]
  · have other : ¬(s.journal.graftState = 1 ∧ o = s.journal.graftReceived) := fun ⟨one, next⟩ => h.elim (· one) (· next)
    simp [State.graftChunkWrite, later.ne', other]

/-! ### The checks and the application (R483) -/

theorem Journal.graftCode_eq (j : Journal) (floor : Nat) : j.graftCode floor =
    if graftHeaderOk j.staged = false then 1
    else if graftSigned j.staged = false then 2
    else if beField j.staged 8 55 ≠ 0 ∧ (j.recovery = true ∨ beField j.staged 8 55 ≠ j.digests.getD j.bootActive 0) then 3
    else if beField j.staged 112 113 < floor then 4
    else if graftResult (j.images.getD j.bootActive []) j.staged = none then 5
    else 0 := by
  simp [Journal.graftCode]

/-- What GRAFT_APPLY does outside an activation: it refuses with the code of the checks, or erases the target slot. -/
def State.graftApplied (s : State) : State :=
  if s.journal.graftCode (s.get Key.IMAGE_SVN_FLOOR) ≠ 0 then s.graftRefuse (s.journal.graftCode (s.get Key.IMAGE_SVN_FLOOR))
  else s.modJournal (fun j =>
    { j with graftState := 3, graftReason := 0, versions := j.versions.set j.target 0, images := j.images.set j.target [],
             digests := j.digests.set j.target (Config.sha384 []) })

theorem State.graftApplyWrite_free {s : State} (free : s.journal.graftState ≠ 5) : s.graftApplyWrite = some s.graftApplied := by
  simp only [State.graftApplyWrite, State.graftApplied, free, if_false]
  split <;> rfl

theorem State.graftApplyWrite_queued {s : State} (queued : s.journal.graftState = 5) : s.graftApplyWrite = none := if_pos queued

theorem graftApplyDone_idle {s : State} (idle : s.journal.graftState ≠ 3) : graftApplyDoneEffect s = s := if_pos idle

/-- The result stands in the target slot: refused where its digest or its signature fails, else the graft is whole. -/
theorem graftApplyDone_result {s v : State} {n : Nat} {image : List Byte} (applies : s.journal.graftState = 3)
    (result : graftResult (s.journal.images.getD s.journal.bootActive []) s.journal.staged = some image) (hn : n = s.journal.target)
    (hv : v = s.modJournal (fun j => { j with images := j.images.set n image, digests := j.digests.set n (Config.sha384 image) })) :
    graftApplyDoneEffect s =
      if Config.sha384 image ≠ beField s.journal.staged 56 103 ∨ Config.imageSigned image = false then v.graftRefuse 6
      else ((v.modJournal (fun j => { j with
          graftState := 4, versions := j.versions.set n (beField s.journal.staged 108 111),
          svns := j.svns.set n (beField s.journal.staged 112 113) })).jAppend
        (.graft 0 n (beField s.journal.staged 108 111) (Config.sha384 image))).noteFree 0xC18 0 := by
  subst hn hv
  simp only [graftApplyDoneEffect, applies, result, ne_eq, not_true_eq_false, if_false, Bool.or_eq_true, decide_eq_true_eq,
    Bool.not_eq_true']

/-! ### GRAFT_ACT_FT (R484) -/

section
variable {s : State} (whole : s.journal.graftState = 4 ∨ s.journal.graftState = 5)
include whole

theorem State.graftActWrite_cancels {n : Nat} (queued : s.actFind .firmware 0 = some n) :
    s.graftActWrite 0 = .ok ((s.actDrop n).modJournal (fun j => { j with graftState := 4 })) := by
  rcases whole with h | h <;> simp [State.graftActWrite, h, queued]

theorem State.graftActWrite_nothing (none_ : s.actFind .firmware 0 = none) :
    s.graftActWrite 0 = .ok (s.modJournal (fun j => { j with graftState := 4 })) := by
  rcases whole with h | h <;> simp [State.graftActWrite, h, none_]

/-- An activation far enough ahead: the one that is queued moves, or a new one is queued where there is room. -/
theorem State.graftActWrite_ahead {ft : Nat} (set : 0 < ft) (ahead : s.time.ft + 100000000 ≤ ft) :
    s.graftActWrite ft =
      match s.actFind .firmware 0 with
      | some n => .ok ((s.modAct (fun x =>
          { x with slots := x.slots.modify n (fun a => { a with ft := ft, state := .pending }) })).modJournal (fun j => { j with graftState := 5 }))
      | none => match s.actPut ft .firmware true 0 0xFFFF with
        | some v => .ok (v.modJournal (fun j => { j with graftState := 5 }))
        | none => .error .full := by
  rcases whole with h | h <;> simp only [State.graftActWrite, h, set.ne', Nat.not_lt.2 ahead] <;> rfl

end

theorem State.graftActWrite_refused {s : State} {ft : Nat}
    (no : s.journal.graftState ≠ 4 ∧ s.journal.graftState ≠ 5 ∨ 0 < ft ∧ ft < s.time.ft + 100000000 ∨
      0 < ft ∧ s.actFind .firmware 0 = none ∧ s.actPut ft .firmware true 0 0xFFFF = none) : ∃ q, s.graftActWrite ft = .error q := by
  by_cases whole : s.journal.graftState = 4 ∨ s.journal.graftState = 5
  · by_cases ahead : 0 < ft ∧ s.time.ft + 100000000 ≤ ft
    · obtain ⟨set, ahead⟩ := ahead
      obtain ⟨-, new, full⟩ := (no.resolve_left fun h => whole.elim h.1 h.2).resolve_left fun h => Nat.not_lt.2 ahead h.2
      exact ⟨.full, by rw [State.graftActWrite_ahead whole set ahead, new, full]⟩
    · have set : 0 < ft := (no.resolve_left fun h => whole.elim h.1 h.2).elim And.left And.left
      have sooner : ft < s.time.ft + 100000000 := Nat.not_le.1 fun h => ahead ⟨set, h⟩
      rcases whole with h | h <;> exact ⟨.state 0, by simp [State.graftActWrite, h, set.ne', sooner]⟩
  · have other : s.journal.graftState ≠ 4 ∧ s.journal.graftState ≠ 5 := not_or.1 whole
    exact ⟨.state 0, by simp [State.graftActWrite, other]⟩

/-- What the write of GRAFT_ACT_FT by an installer comes to. -/
def State.graftActFt (s : State) (ft : Nat) : State :=
  match s.graftActWrite ft with
  | .ok s' => s'.setJ Key.GRAFT_ACT_FT ft
  | .error _ => s

theorem State.graftActFt_ok {s v : State} {ft : Nat} (ok : s.graftActWrite ft = .ok v) : s.graftActFt ft = v.setJ Key.GRAFT_ACT_FT ft := by
  simp only [State.graftActFt, ok]

theorem State.graftActFt_error {s : State} {ft : Nat} (no : ∃ q, s.graftActWrite ft = .error q) : s.graftActFt ft = s := by
  obtain ⟨q, no⟩ := no
  simp only [State.graftActFt, no]

/-! ### The activation (R485) -/

/-- The boot record is no version and no digest of a slot. -/
theorem Journal.bootWrite_slots (j : Journal) (a b : Nat) : (j.bootWrite a b).versions = j.versions ∧ (j.bootWrite a b).digests = j.digests := by
  unfold Journal.bootWrite
  split <;> exact ⟨rfl, rfl⟩

theorem firmwareActivation_none {s : State} (none_ : s.actFind .firmware 0 = none) : firmwareActivationEffect s = s := by
  simp [firmwareActivationEffect, none_]

theorem firmwareActivation_waits {s : State} {n : Nat} (queued : s.actFind .firmware 0 = some n) (turn : s.actTurn n = false) :
    firmwareActivationEffect s = s := by
  simp [firmwareActivationEffect, queued, turn]

theorem firmwareActivation_postponed {s : State} {n : Nat} (queued : s.actFind .firmware 0 = some n) (turn : s.actTurn n = true)
    (fate : s.dueFate true = .postpone) : firmwareActivationEffect s = s.postpone n := by
  simp [firmwareActivationEffect, queued, turn, fate]

theorem firmwareActivation_fires {s v : State} {n slot : Nat} (queued : s.actFind .firmware 0 = some n) (turn : s.actTurn n = true)
    (fate : s.dueFate true ≠ .postpone) (hv : v = s.markFired n) (hslot : slot = 1 - v.journal.bootActive) :
    firmwareActivationEffect s =
      ((v.modJournal (fun j => { j.bootWrite slot 0 with graftState := 0 })).jNow
        (.graft 0x10 slot (v.journal.versions.getD slot 0) (v.journal.digests.getD slot 0))).warmReset 6 := by
  subst hv hslot
  obtain ⟨versions, digests⟩ := Journal.bootWrite_slots (s.markFired n).journal (1 - (s.markFired n).journal.bootActive) 0
  rw [← versions, ← digests]
  simp only [firmwareActivationEffect, queued, turn, Bool.not_true, Bool.false_eq_true, if_false]
  rfl

end Sys2Proof.Machine

open Sys2Proof Sys2Proof.Machine

/-- Settles O53: each command's meaning is its effect, and each effect is given by the lemma on its case. -/
theorem graftResults : Obligations.GraftResults := by
  intro s u t hu
  subst hu
  have chunk (w o d) : exec (.graftChunk t w o d) s = act1 s t (fun x => if w.isInstaller then (x.graftChunkWrite o d).getD x else x) := rfl
  have apply_ (w) : exec (.graftApply t w) s = act2 s t (fun x => if w.isInstaller then x.graftApplyWrite.getD x else x) := rfl
  have done : exec (.graftApplyDone t) s = act2 s t graftApplyDoneEffect := rfl
  have actFt (w ft) : exec (.graftActFt t w ft) s = act1 s t (fun x => if w.isInstaller then x.graftActFt ft else x) := rfl
  have activation : exec (.firmwareActivation t) s = act2 s t firmwareActivationEffect := rfl
  have chunkTaken {k o d v} (taken : (s.tick t).graftChunkWrite o d = some v) : After (.graftChunk t (.installer k) o d) s v :=
    after_act1 t _ (chunk _ o d) ((if_pos rfl).trans (congrArg (Option.getD · (s.tick t)) taken))
  have applied (k : Nat) (free : (s.tick t).journal.graftState ≠ 5) : AfterAll (.graftApply t (.installer k)) s (s.tick t).graftApplied :=
    afterAll_act2 t _ (apply_ _) ((if_pos rfl).trans (congrArg (Option.getD · (s.tick t)) (State.graftApplyWrite_free free)))
  have queued {k ft v} (ok : (s.tick t).graftActWrite ft = .ok v) : After (.graftActFt t (.installer k) ft) s (v.setJ Key.GRAFT_ACT_FT ft) :=
    after_act1 t _ (actFt _ ft) ((if_pos rfl).trans (State.graftActFt_ok ok))
  refine ⟨?_, ?_, ?_, ?_, ?_, ?_, ?_, ?_, ?_, ?_, ?_, ?_, ?_, ?_, ?_, ?_, ?_, ?_, ?_, ?_, ?_⟩
  · exact fun k d free => chunkTaken (State.graftChunkWrite_begins free d)
  · exact fun k d o receiving next later whole fits => chunkTaken (State.graftChunkWrite_extends receiving next later whole fits d)
  · exact fun k d o no => after_act1 t _ (chunk _ o d)
      ((if_pos rfl).trans (congrArg (Option.getD · (s.tick t)) (State.graftChunkWrite_refused no d)))
  · exact fun w d o other => after_act1 t _ (chunk w o d) (if_neg (by simp [other]))
  · intro k c free hc refused
    subst hc
    have refuses : (s.tick t).graftApplied = (s.tick t).graftRefuse _ := if_pos refused
    exact refuses ▸ applied k free
  · exact fun k free => applied k free
  · exact fun k queued => afterAll_act2 t _ (apply_ _)
      ((if_pos rfl).trans (congrArg (Option.getD · (s.tick t)) (State.graftApplyWrite_queued queued)))
  · exact fun w other => afterAll_act2 t _ (apply_ w) (if_neg (by simp [other]))
  · exact fun j floor => Journal.graftCode_eq j floor
  · exact fun n image applies result hn => afterAll_act2 t _ done (graftApplyDone_result applies result hn rfl)
  · exact fun idle => afterAll_act2 t _ done (graftApplyDone_idle idle)
  · exact fun k ft v whole set ahead new put => queued (by rw [State.graftActWrite_ahead whole set ahead, new, put])
  · exact fun k ft n whole set ahead stands => queued (by rw [State.graftActWrite_ahead whole set ahead, stands])
  · exact fun k n whole stands => queued (State.graftActWrite_cancels whole stands)
  · exact fun k whole none_ => queued (State.graftActWrite_nothing whole none_)
  · exact fun k ft no => after_act1 t _ (actFt _ ft) ((if_pos rfl).trans (State.graftActFt_error (State.graftActWrite_refused no)))
  · exact fun w ft other => after_act1 t _ (actFt w ft) (if_neg (by simp [other]))
  · exact fun n v slot queued turn fate hv hslot => afterAll_act2 t _ activation (firmwareActivation_fires queued turn fate hv hslot)
  · exact fun n queued turn => afterAll_act2 t _ activation (firmwareActivation_waits queued turn)
  · exact fun n queued turn fate => afterAll_act2 t _ activation (firmwareActivation_postponed queued turn fate)
  · exact fun none_ => afterAll_act2 t _ activation (firmwareActivation_none none_)

end

section
/-! SUPPORT. The effects of the intake's start, of its gate and of its trips, case by case (R498 to R504, R553). -/

namespace Sys2Proof.Machine

/-! ### The start (R497, R498) -/

section
variable {s v : State} {mv : Nat} (hv : v = (s.sampleVolts mv).modPower (fun x => { x with inputUp := true }))
include hv

/-- As the input rises, the phase of an input loss decides. -/
theorem intakeInputRise_eq : intakeInputRiseEffect s mv =
    if s.power.inputLost then (if s.power.warningEnd then v.inputBack else v) else v.intakeStart := by
  subst hv
  rfl

theorem intakeInputRise_start (in_ : s.power.inputLost = false) : intakeInputRiseEffect s mv = v.intakeStart := by
  rw [intakeInputRise_eq hv, if_neg (by simp [in_])]

theorem intakeInputRise_back (lost : s.power.inputLost = true) (ended : s.power.warningEnd = true) :
    intakeInputRiseEffect s mv = v.inputBack := by
  rw [intakeInputRise_eq hv, if_pos lost, if_pos ended]

theorem intakeInputRise_warned (lost : s.power.inputLost = true) (warns : s.power.warningEnd = false) : intakeInputRiseEffect s mv = v := by
  rw [intakeInputRise_eq hv, if_pos lost, if_neg (by simp [warns])]

end

theorem State.intakeStart_off {s : State} (enabled : s.power.enabled = true) (up : s.power.inputUp = true) (off : s.power.phase = .off) :
    s.intakeStart = s.modPower (fun x => { x with phase := .precheck }) :=
  if_pos (by simp [enabled, up, off])

theorem State.intakeStart_stays {s : State} (no : s.power.enabled = false ∨ s.power.inputUp = false ∨ s.power.phase ≠ .off) :
    s.intakeStart = s :=
  if_neg (by rcases no with h | h | h <;> simp [h])

/-! ### INTAKE_EN is deasserted (R498) -/

/-- By the phase of the gate: damage stays latched, a wait or a lockout ends, an open gate turns off. -/
theorem intakeEnDeassert_eq {s v : State} (hv : v = s.modPower (fun x => { x with enabled := false })) :
    intakeEnDeassertEffect s =
      match s.power.phase with
      | .damaged => v
      | .off | .tripped | .lockedOut => v.modPower (fun x => { x with phase := .off })
      | .precheck | .ramp | .on => v.gateOff .off := by
  subst hv
  unfold intakeEnDeassertEffect
  cases h : s.power.phase <;> simp [h]

/-! ### The pre-check ends, the gate is fully on (R498, R499, R503, R504) -/

theorem precheckEnd_other {s : State} (other : s.power.phase ≠ .precheck) (o : Nat) : precheckEndEffect s o = s := if_pos other

section
variable {s : State} {o : Nat} (checks : s.power.phase = .precheck)
include checks

theorem precheckEnd_ramp {v : State} (hv : v = if s.power.standby then s.powerOff else s) (low : o < 10) :
    precheckEndEffect s o = v.modPower (fun x => { x with phase := .ramp, rampAt := v.now }) := by
  subst hv
  simp [precheckEndEffect, checks, low]

theorem precheckEnd_waits (least : 10 ≤ o) (between : o < 50 ∨ s.after s.power.offSince 5000000 = false) : precheckEndEffect s o = s := by
  have sound : ¬(50 ≤ o ∧ s.after s.power.offSince 5000000 = true) := by
    rintro ⟨half, off⟩
    rcases between with h | h
    · omega
    · simp [off] at h
  simp [precheckEndEffect, checks, Nat.not_lt.2 least, sound]

theorem precheckEnd_damage (half : 50 ≤ o) (off : s.after s.power.offSince 5000000 = true) : precheckEndEffect s o = s.fetDamage := by
  have least : ¬ o < 10 := by omega
  simp [precheckEndEffect, checks, least, half, off]

end

theorem State.givePowerGood_given {s : State} (on : s.power.phase = .on) (without : s.power.powerGood = false) (rest : s.timersRest = true) :
    s.givePowerGood =
      (s.modPower (fun x => { x with powerGood := true, pgAt := s.now, prior := x.keptCause, load := 0, lack := 0, energy := 0,
                                     timers := List.replicate 16 0, sampledAt := s.now, standby := x.ref25, standbyAt := s.now })).modJournal
        (fun j => { j with startSince := s.now }) :=
  if_pos (by simp [on, without, rest])

theorem State.givePowerGood_withheld {s : State} (no : s.power.phase ≠ .on ∨ s.power.powerGood = true ∨ s.timersRest = false) :
    s.givePowerGood = s :=
  if_neg (by rcases no with h | h | h <;> simp [h])

/-! ### Trips (R500, R501, R504) -/

theorem State.intakeTrip_first {s : State} (first : s.power.lastTrip = none) (cause : Nat) :
    s.intakeTrip cause = (s.gateOff .tripped).modPower (fun x => { x with keptCause := cause, lastTrip := some s.now }) := by
  simp [State.intakeTrip, first]

theorem State.intakeTrip_again {s : State} {n : Nat} (last : s.power.lastTrip = some n) (cause : Nat) :
    s.intakeTrip cause = (s.gateOff (if s.now < n + 60000000000 then .lockedOut else .tripped)).modPower
      (fun x => { x with keptCause := cause, lastTrip := some s.now }) := by
  simp [State.intakeTrip, last]

section
variable {s v : State} {a b : Nat} (hv : v = s.sampleAmps a b)
include hv

/-- The fast trip goes by the sample and by the phase of the gate before it. -/
theorem fastTrip_eq : fastTripEffect s a b =
    if s.power.phase = .ramp ∧ 2000 * v.get Key.INTAKE_INRUSH < max a b then v.intakeTrip 2
    else if (s.power.phase = .ramp ∨ s.power.phase = .on) ∧ 250000 < max a b then v.intakeTrip 1
    else v := by
  have phase : (s.sampleAmps a b).power.phase = s.power.phase := rfl
  subst hv
  simp only [fastTripEffect, phase, Bool.and_eq_true, Bool.or_eq_true, decide_eq_true_eq]

theorem fastTrip_inrush (ramp : s.power.phase = .ramp) (above : 2000 * v.get Key.INTAKE_INRUSH < max a b) :
    fastTripEffect s a b = v.intakeTrip 2 := by
  rw [fastTrip_eq hv, if_pos ⟨ramp, above⟩]

theorem fastTrip_limit (open_ : s.power.phase = .on ∨ s.power.phase = .ramp ∧ max a b ≤ 2000 * v.get Key.INTAKE_INRUSH)
    (above : 250000 < max a b) : fastTripEffect s a b = v.intakeTrip 1 := by
  rw [fastTrip_eq hv, if_neg, if_pos ⟨open_.elim .inr fun h => .inl h.1, above⟩]
  rintro ⟨ramp, inrush⟩
  rcases open_ with on | ⟨-, below⟩
  · simp [ramp] at on
  · exact Nat.not_lt.2 below inrush

theorem fastTrip_below (below : max a b ≤ 250000) (ramp : s.power.phase = .ramp → max a b ≤ 2000 * v.get Key.INTAKE_INRUSH) :
    fastTripEffect s a b = v := by
  rw [fastTrip_eq hv, if_neg fun h => Nat.not_lt.2 (ramp h.1) h.2, if_neg fun h => Nat.not_lt.2 below h.2]

theorem fastTrip_closed (on : s.power.phase ≠ .on) (ramp : s.power.phase ≠ .ramp) : fastTripEffect s a b = v := by
  rw [fastTrip_eq hv, if_neg fun h => ramp h.1, if_neg fun h => h.1.elim ramp on]

end

theorem rampTimeout_due {s : State} (ramp : s.power.phase = .ramp)
    (due : s.after s.power.rampAt (1000000 * s.get Key.INTAKE_RAMP_TIMEOUT) = true) : rampTimeoutEffect s = s.intakeTrip 3 :=
  if_pos (by simp [ramp, due])

theorem rampTimeout_sooner {s : State}
    (no : s.power.phase ≠ .ramp ∨ s.after s.power.rampAt (1000000 * s.get Key.INTAKE_RAMP_TIMEOUT) = false) : rampTimeoutEffect s = s :=
  if_neg (by rcases no with h | h <;> simp [h])

theorem curveTrip_due {s : State} {k : Nat} (point : k < 16) (open_ : s.power.phase = .ramp ∨ s.power.phase = .on)
    (set : pointAmps (s.get (Key.INTAKE_CURVE + k)) ≠ 0) (due : pointTime (s.get (Key.INTAKE_CURVE + k)) ≤ s.intakeTimers.getD k 0) :
    curveTripEffect s k = s.intakeTrip (16 + k) :=
  if_pos (by simp only [open_, point, set, due, Bool.and_eq_true, Bool.or_eq_true, decide_eq_true_eq, ne_eq, not_false_eq_true, and_self])

theorem curveTrip_sooner {s : State} {k : Nat} (no : 16 ≤ k ∨ s.power.phase ≠ .ramp ∧ s.power.phase ≠ .on ∨
    pointAmps (s.get (Key.INTAKE_CURVE + k)) = 0 ∨ s.intakeTimers.getD k 0 < pointTime (s.get (Key.INTAKE_CURVE + k))) :
    curveTripEffect s k = s := by
  refine if_neg fun due => ?_
  simp only [Bool.and_eq_true, Bool.or_eq_true, decide_eq_true_eq] at due
  obtain ⟨⟨⟨open_, point⟩, set⟩, time⟩ := due
  rcases no with h | ⟨ramp, on⟩ | h | h
  · omega
  · exact open_.elim ramp on
  · exact set h
  · omega

theorem tripRestart_due {s v : State} (tripped : s.power.phase = .tripped) (due : s.after s.power.offSince 1000000000 = true)
    (hv : v = if s.power.standby then s.powerOff else s) :
    tripRestartEffect s = (v.modPower (fun x => { x with phase := .off })).intakeStart := by
  subst hv
  exact if_pos (by simp [tripped, due])

theorem tripRestart_sooner {s : State} (no : s.power.phase ≠ .tripped ∨ s.after s.power.offSince 1000000000 = false) : tripRestartEffect s = s :=
  if_neg (by rcases no with h | h <;> simp [h])

/-! ### Samples of the current (R501, R503) -/

/-- A sample takes the timer of a point that the current passes from zero. -/
def State.curveLeaves (s : State) (a b : Nat) : Bool :=
  s.intakeTimers.zipIdx.any (fun e => e.1 == 0 && pointAmps (s.get (Key.INTAKE_CURVE + e.2)) ≠ 0 &&
    s.power.highAmps ≤ pointAmps (s.get (Key.INTAKE_CURVE + e.2)) && pointAmps (s.get (Key.INTAKE_CURVE + e.2)) < max a b)

/-- INTAKE_CURVE_RUN comes at most once in 1 ms. -/
def State.curveRunDue (s : State) : Prop := s.power.curveRunAt = none ∨ ∃ c, s.power.curveRunAt = some c ∧ s.after c 1000000 = true

section
variable {s v : State} {a b : Nat} (hv : v = s.sampleAmps a b)
include hv

theorem intakeOvercurrent_closed (ramp : s.power.phase ≠ .ramp) (on : s.power.phase ≠ .on) : intakeOvercurrentEffect s a b = v := by
  subst hv
  exact if_pos (by simpa using ⟨ramp, on⟩)

variable (open_ : s.power.phase = .ramp ∨ s.power.phase = .on)
include open_

/-- While the gate is open a sample takes a timer from zero, with its event where that is due, or else may let power-good be given. -/
theorem intakeOvercurrent_open : intakeOvercurrentEffect s a b =
    if s.curveLeaves a b then
      if (match s.power.curveRunAt with | none => true | some t => s.after t 1000000) then
        (v.modPower (fun x => { x with curveRunAt := some v.now })).noteFree 0xB84 1
      else v
    else v.givePowerGood := by
  subst hv
  exact if_neg (by rcases open_ with h | h <;> simp [State.sampleAmps, State.reading, h])

theorem intakeOvercurrent_raises (leaves : s.curveLeaves a b = true) (due : s.curveRunDue) :
    intakeOvercurrentEffect s a b = (v.modPower (fun x => { x with curveRunAt := some v.now })).noteFree 0xB84 1 := by
  rw [intakeOvercurrent_open hv open_, if_pos leaves]
  rcases due with none_ | ⟨c, last, due⟩
  · simp [none_]
  · simp [last, due]

theorem intakeOvercurrent_quiet {c : Nat} (leaves : s.curveLeaves a b = true) (last : s.power.curveRunAt = some c)
    (sooner : s.after c 1000000 = false) : intakeOvercurrentEffect s a b = v := by
  rw [intakeOvercurrent_open hv open_, if_pos leaves]
  simp [last, sooner]

theorem intakeOvercurrent_rests (stays : s.curveLeaves a b = false) : intakeOvercurrentEffect s a b = v.givePowerGood := by
  rw [intakeOvercurrent_open hv open_, if_neg (by simp [stays])]

end

/-! ### A damaged transistor (R499) -/

theorem fetDamageDetect_found {s : State}
    (closed : s.power.phase = .off ∨ s.power.phase = .tripped ∨ s.power.phase = .lockedOut ∨ s.power.phase = .precheck)
    (off : s.after s.power.offSince 5000000 = true) : fetDamageDetectEffect s = s.fetDamage :=
  if_pos (by rcases closed with h | h | h | h <;> simp [h, off])

theorem fetDamageDetect_none {s : State} (no : s.power.phase = .on ∨ s.power.phase = .ramp ∨ s.power.phase = .damaged ∨
    s.after s.power.offSince 5000000 = false) : fetDamageDetectEffect s = s :=
  if_neg (by rcases no with h | h | h | h <;> simp [h])

theorem State.fetDamage_stopped {s : State} (stopped : s.power.standby = false) :
    s.fetDamage = s.modPower (fun x => { x with phase := .damaged }) :=
  if_neg (by simp [stopped])

theorem State.fetDamage_runs {s : State} (runs : s.power.standby = true) : s.fetDamage =
    ((s.modPower (fun x => { x with phase := .damaged })).modFaults (fun f => { f with f4cause := 1 })).note
      { Ev.plain 0xB86 (Config.eventCode 0xB86) 4 with level := 4, unit := some .crown, action := 7 } :=
  if_pos runs

end Sys2Proof.Machine

open Sys2Proof Sys2Proof.Machine

/-- Settles O55: each command's meaning is its effect, and each effect and each operation that it uses is given by the lemma on its case. -/
theorem intakeResults : Obligations.IntakeResults := by
  intro s u t hu
  subst hu
  have rise (mv) : exec (.intakeInputRise t mv) s = act1 s t (fun x => intakeInputRiseEffect x mv) := rfl
  have assert_ : exec (.intakeEnAssert t) s = act1 s t (fun x => (x.modPower (fun y => { y with enabled := true })).intakeStart) := rfl
  have deassert : exec (.intakeEnDeassert t) s = act1 s t intakeEnDeassertEffect := rfl
  have precheck (o) : exec (.precheckEnd t o) s = act2 s t (fun x => precheckEndEffect x o) := rfl
  have fullyOn : exec (.gateFullyOn t) s = act1 s t gateFullyOnEffect := rfl
  have fast (a b) : exec (.fastTrip t a b) s = act1 s t (fun x => fastTripEffect x a b) := rfl
  have rampTime : exec (.rampTimeout t) s = act1 s t rampTimeoutEffect := rfl
  have curve (k) : exec (.curveTrip t k) s = act1 s t (fun x => curveTripEffect x k) := rfl
  have restart : exec (.tripRestart t) s = act1 s t tripRestartEffect := rfl
  have current (a b) : exec (.intakeOvercurrent t a b) s = act2 s t (fun x => intakeOvercurrentEffect x a b) := rfl
  have damage : exec (.fetDamageDetect t) s = act2 s t fetDamageDetectEffect := rfl
  have removed : exec (.inputRemoved t) s = act1 s t inputRemovedEffect := rfl
  refine ⟨?_, ?_, ?_, ?_, ?_, ?_, ?_, ?_, ?_, ?_, ?_, ?_, ?_, ?_, ?_, ?_, ?_, ?_, ?_, ?_, ?_, ?_, ?_, ?_, ?_, ?_, ?_, ?_, ?_, ?_, ?_, ?_, ?_, ?_,
    ?_, ?_, ?_, ?_, ?_⟩
  · exact fun mv v hv in_ => after_act1 t _ (rise mv) (intakeInputRise_start hv in_)
  · exact fun mv v hv lost ended => after_act1 t _ (rise mv) (intakeInputRise_back hv lost ended)
  · exact fun mv v hv lost warns => after_act1 t _ (rise mv) (intakeInputRise_warned hv lost warns)
  · exact fun w enabled up off => State.intakeStart_off enabled up off
  · exact fun w no => State.intakeStart_stays no
  · exact after_act1 t _ assert_ rfl
  · intro v hv open_
    refine after_act1 t _ deassert ((intakeEnDeassert_eq hv).trans ?_)
    rcases open_ with h | h | h <;> rw [h]
  · exact fun w ph => rfl
  · intro damaged
    exact after_act1 t _ deassert ((intakeEnDeassert_eq rfl).trans (by rw [damaged]))
  · intro waits
    refine after_act1 t _ deassert ((intakeEnDeassert_eq rfl).trans ?_)
    rcases waits with h | h | h <;> rw [h] <;> rfl
  · exact fun o v checks hv low => afterAll_act2 t _ (precheck o) (precheckEnd_ramp checks hv low)
  · exact fun o checks least between => afterAll_act2 t _ (precheck o) (precheckEnd_waits checks least between)
  · exact fun o checks half off => afterAll_act2 t _ (precheck o) (precheckEnd_damage checks half off)
  · exact fun o other => afterAll_act2 t _ (precheck o) (precheckEnd_other other o)
  · exact fun ramp => after_act1 t _ fullyOn (if_pos ramp)
  · exact fun other => after_act1 t _ fullyOn (if_neg other)
  · exact fun w on without rest => State.givePowerGood_given on without rest
  · exact fun w no => State.givePowerGood_withheld no
  · exact fun a b v hv ramp above => after_act1 t _ (fast a b) (fastTrip_inrush hv ramp above)
  · exact fun a b v hv open_ above => after_act1 t _ (fast a b) (fastTrip_limit hv open_ above)
  · exact fun a b v hv below ramp => after_act1 t _ (fast a b) (fastTrip_below hv below ramp)
  · exact fun a b v hv on ramp => after_act1 t _ (fast a b) (fastTrip_closed hv on ramp)
  · exact fun ramp due => after_act1 t _ rampTime (rampTimeout_due ramp due)
  · exact fun no => after_act1 t _ rampTime (rampTimeout_sooner no)
  · exact fun k point open_ set due => after_act1 t _ (curve k) (curveTrip_due point open_ set due)
  · exact fun k no => after_act1 t _ (curve k) (curveTrip_sooner no)
  · exact fun w cause first => State.intakeTrip_first first cause
  · exact fun w cause n last => State.intakeTrip_again last cause
  · exact fun v tripped due hv => after_act1 t _ restart (tripRestart_due tripped due hv)
  · exact fun no => after_act1 t _ restart (tripRestart_sooner no)
  · exact fun a b v hv open_ leaves due => afterAll_act2 t _ (current a b) (intakeOvercurrent_raises hv open_ leaves due)
  · exact fun a b v c hv open_ leaves last sooner => afterAll_act2 t _ (current a b) (intakeOvercurrent_quiet hv open_ leaves last sooner)
  · exact fun a b v hv open_ stays => afterAll_act2 t _ (current a b) (intakeOvercurrent_rests hv open_ stays)
  · exact fun a b v hv ramp on => afterAll_act2 t _ (current a b) (intakeOvercurrent_closed hv ramp on)
  · exact fun closed off => afterAll_act2 t _ damage (fetDamageDetect_found closed off)
  · exact fun no => afterAll_act2 t _ damage (fetDamageDetect_none no)
  · exact fun w stopped => State.fetDamage_stopped stopped
  · exact fun w runs => State.fetDamage_runs runs
  · exact after_act1 t _ removed rfl

end

section
/-! SUPPORT. The effects of input loss and of its end, of the converter and of the governor's levels, case by case (R493 to R497, R506, R516). -/

namespace Sys2Proof.Machine

/-! ### Input loss (R497) -/

/-- A second loss, or one without the standby domain, changes nothing. -/
theorem inputLoss_idle {s : State} (idle : s.power.inputLost = true ∨ s.power.standby = false) (b : Bool) : inputLossEffect s b = s :=
  if_pos (by simpa using idle)

/-- At a first loss the fence goes out, the journal is warned, and what hangs on the heartwood stops. -/
theorem inputLoss_first {s v w : State} {b : Bool} (in_ : s.power.inputLost = false) (standby : s.power.standby = true)
    (hv : v = ((s.modFabric (fun f => { f with ownFenced := true })).fenceNotice s.crownId true).flushNotice)
    (hw : w = (v.drew.modJournal (fun j => { j with warned := true, bodyDone := !j.inFlight.isEmpty && Config.bodyProgrammed v.draws })).modPower
      (fun x => { x with inputLost := true, warningEnd := false, inputUp := x.inputUp && !b, lack := if b then x.lack else max x.lack storeUsable })) :
    inputLossEffect s b = (((w.noteFree 0xB83 0).each (List.range 8) State.gateLimb).modEngines (fun e => { e with busy := [] })).modMem
      (fun m => { m with channels := m.channels.map (fun c => { c with state := 0 }) }) := by
  subst hv hw
  exact if_neg (by simp [in_, standby])

theorem inputLossWarningEnd_idle {s : State} (idle : s.power.inputLost = false ∨ s.power.warningEnd = true) :
    inputLossWarningEndEffect s = s :=
  if_neg (by rcases idle with h | h <;> simp [h])

/-- The warning ends: the held answers go, and the crown restarts where the input stands. -/
theorem inputLossWarningEnd_ends {s v : State} (lost : s.power.inputLost = true) (warns : s.power.warningEnd = false)
    (hv : v = ((s.modPower (fun x => { x with warningEnd := true })).modJournal
      (fun j => { j with warned := false, bodyDone := false, heldAnswers := [] })).each s.journal.heldAnswers (fun w e => w.respond e.1 e.2)) :
    inputLossWarningEndEffect s = if v.power.inputUp then v.inputBack else v := by
  subst hv
  exact if_pos (by simp [lost, warns])

theorem storeExhausted_stops {s : State} (needed : s.power.inputLost = true ∨ s.power.powerGood = false) : storeExhaustedEffect s =
    s.powerOff.modPower (fun x => { x with phase := if s.power.phase = .on ∨ s.power.phase = .ramp ∨ s.power.phase = .precheck then .off
                                                    else s.power.phase, offSince := s.now, lack := storeEnergy, load := 0 }) := by
  rw [storeExhaustedEffect, if_pos (by simpa using needed)]
  simp only [Bool.or_eq_true, decide_eq_true_eq, or_assoc]

theorem storeExhausted_idle {s : State} (in_ : s.power.inputLost = false) (good : s.power.powerGood = true) : storeExhaustedEffect s = s :=
  if_neg (by simp [in_, good])

/-! ### The converter (R493, R494) -/

/-- INTAKE_SLEW bounds how far the current moves, up or down. -/
theorem slewed_within (cur goal slew ns : Nat) : slewed cur goal slew ns ≤ cur + slew * ns ∧ cur ≤ slewed cur goal slew ns + slew * ns := by
  unfold slewed
  generalize slew * ns = most
  split <;> omega

/-! ### The governor (R495, R496) -/

section
variable {s v : State} {mv load : Nat} (hv : v = s.converter 100000 mv load)
include hv

/-- The store supplies before and after the 100 µs, and the standby domain is up, or else only the converter moves. -/
theorem storeSupplyLimit_eq : storeSupplyLimitEffect s mv load =
    if s.power.standby = true ∧ supplies mv load s.power.amps.toNat = true ∧ supplies mv load v.power.amps.toNat = true then
      (v.governFull.countHeart 0x3E0 100).noteFree 0xB82 0
    else v := by
  subst hv
  simp only [storeSupplyLimitEffect, Bool.and_eq_true, and_assoc]

theorem storeSupplyLimit_throughout (standby : s.power.standby = true) (before : supplies mv load s.power.amps.toNat = true)
    (after : supplies mv load v.power.amps.toNat = true) :
    storeSupplyLimitEffect s mv load = (v.governFull.countHeart 0x3E0 100).noteFree 0xB82 0 :=
  (storeSupplyLimit_eq hv).trans (if_pos ⟨standby, before, after⟩)

theorem storeSupplyLimit_broken (no : s.power.standby = false ∨ supplies mv load s.power.amps.toNat = false ∨
    supplies mv load v.power.amps.toNat = false) : storeSupplyLimitEffect s mv load = v :=
  (storeSupplyLimit_eq hv).trans (if_neg (by rcases no with h | h | h <;> simp [h]))

end

theorem State.governFull_rises {s : State} (below : s.power.govLevel ≠ 4) : s.governFull = (s.govern 4).countHeart 0x3E1 1 := if_neg below

theorem State.governFull_stays {s : State} (top : s.power.govLevel = 4) : s.governFull = s := if_pos top

theorem State.govern_below {s : State} {n : Nat} (low : n < 3) : s.govern n = s.modPower (fun x => { x with govLevel := n, steppedAt := s.now }) :=
  if_neg (by simp [Nat.not_le.2 low])

theorem governorStepDown_due {s : State} {mv d ma : Nat} (level : 0 < s.power.govLevel) (due : s.after s.power.steppedAt 10000000 = true)
    (draw : 10 * d < 9 * s.powerCap mv) (cool : s.power.hotDies = []) (hma : ma = s.currentTarget mv d) :
    governorStepDownEffect s mv d =
      ((s.reading mv (ma : Int) ma).modPower (fun x => { x with load := d, lack := 0 })).govern (s.power.govLevel - 1) := by
  subst hma
  exact if_pos (by simp [level, due, draw, cool])

theorem governorStepDown_stays {s : State} {mv d : Nat} (no : s.power.govLevel = 0 ∨ s.after s.power.steppedAt 10000000 = false ∨
    9 * s.powerCap mv ≤ 10 * d ∨ s.power.hotDies ≠ []) : governorStepDownEffect s mv d = s :=
  if_neg (by rcases no with h | h | h | h <;> simp [h, Nat.not_lt.2])

/-! ### Dips (R496) -/

section
variable {s v w : State} {ns mv load a : Nat} (hv : v = (s.converter ns mv load).countHeart 0x3E0 (ns / 1000))
  (hw : w = v.converter (v.settleTime a load) a load)
include hv hw

theorem intakeDip_lasts (supply : supplies a load w.power.amps.toNat = true) : intakeDipEffect s ns mv load a = w := by
  subst hv hw
  exact if_pos supply

variable (refills : supplies a load w.power.amps.toNat = false)
include refills

theorem intakeDip_raises (due : w.power.dipAt = none ∨ ∃ c, w.power.dipAt = some c ∧ w.after c 1000000 = true) :
    intakeDipEffect s ns mv load a = (w.modPower (fun x => { x with dipAt := some w.now })).noteFree 0xB81 0 := by
  subst hv hw
  refine (if_neg (by simp [refills])).trans (if_pos ?_)
  rcases due with none_ | ⟨c, last, due⟩
  · rw [none_]
  · rw [last]
    exact due

theorem intakeDip_quiet {c : Nat} (last : w.power.dipAt = some c) (sooner : w.after c 1000000 = false) : intakeDipEffect s ns mv load a = w := by
  subst hv hw
  refine (if_neg (by simp [refills])).trans (if_neg ?_)
  rw [last]
  simp [sooner]

end

end Sys2Proof.Machine

open Sys2Proof Sys2Proof.Machine

/-- Settles O56: each command's meaning is its effect, and each effect and each operation that it uses is given by the lemma on its case;
the converter's registers are written out in its definition. -/
theorem inputLossAndGovernor : Obligations.InputLossAndGovernor := by
  intro s u t hu
  subst hu
  have loss (b) : exec (.inputLoss t b) s = act2 s t (fun x => inputLossEffect x b) := rfl
  have warningEnd : exec (.inputLossWarningEnd t) s = act2 s t inputLossWarningEndEffect := rfl
  have exhausted : exec (.storeExhausted t) s = act1 s t storeExhaustedEffect := rfl
  have supply (mv load) : exec (.storeSupplyLimit t mv load) s = act1 s t (fun x => storeSupplyLimitEffect x mv load) := rfl
  have stepDown (mv d) : exec (.governorStepDown t mv d) s = act1 s t (fun x => governorStepDownEffect x mv d) := rfl
  have dip (ns mv load a) : exec (.intakeDip t ns mv load a) s = act1 s t (fun x => intakeDipEffect x ns mv load a) := rfl
  have diverge (a b) : exec (.intakeSenseDiverge t a b) s = act2 s t (fun x => intakeSenseDivergeEffect x a b) := rfl
  have clear (w) : exec (.intakePeakClear t w) s = act1 s t (fun x => if w.isInstaller then x.clearPeaks else x) := rfl
  refine ⟨?_, ?_, ?_, ?_, ?_, ?_, ?_, ?_, ?_, ?_, ?_, ?_, ?_, ?_, ?_, ?_, ?_, ?_, ?_, ?_, ?_, ?_, ?_, ?_⟩
  · exact fun b v w ⟨in_, standby⟩ hv hw => afterAll_act2 t _ (loss b) (inputLoss_first in_ standby hv hw)
  · exact fun b idle => afterAll_act2 t _ (loss b) (inputLoss_idle idle b)
  · exact fun v lost warns hv => afterAll_act2 t _ warningEnd (inputLossWarningEnd_ends lost warns hv)
  · exact fun idle => afterAll_act2 t _ warningEnd (inputLossWarningEnd_idle idle)
  · exact fun w => rfl
  · exact fun needed => after_act1 t _ exhausted (storeExhausted_stops needed)
  · exact fun in_ good => after_act1 t _ exhausted (storeExhausted_idle in_ good)
  · exact fun w mv load => ⟨rfl, rfl⟩
  · intro w ns mv load lack ends hlack hends
    subst hlack hends
    exact ⟨rfl, rfl, rfl, rfl⟩
  · exact slewed_within
  · exact fun mv load v hv standby before after => after_act1 t _ (supply mv load) (storeSupplyLimit_throughout hv standby before after)
  · exact fun mv load v hv no => after_act1 t _ (supply mv load) (storeSupplyLimit_broken hv no)
  · exact fun below => State.governFull_rises below
  · exact fun top => State.governFull_stays top
  · exact fun mv d ma level due draw cool hma => after_act1 t _ (stepDown mv d) (governorStepDown_due level due draw cool hma)
  · exact fun mv d no => after_act1 t _ (stepDown mv d) (governorStepDown_stays no)
  · exact fun n low => State.govern_below low
  · exact fun ns mv load a v w hv hw supply => after_act1 t _ (dip ns mv load a) (intakeDip_lasts hv hw supply)
  · exact fun ns mv load a v w hv hw refills due => after_act1 t _ (dip ns mv load a) (intakeDip_raises hv hw refills due)
  · exact fun ns mv load a v w c hv hw refills last sooner => after_act1 t _ (dip ns mv load a) (intakeDip_quiet hv hw refills last sooner)
  · exact fun a b apart => afterAll_act2 t _ (diverge a b) (if_pos apart)
  · exact fun a b close => afterAll_act2 t _ (diverge a b) (if_neg (Nat.not_lt.2 close))
  · exact fun k => after_act1 t _ (clear (.installer k)) rfl
  · exact fun w other => after_act1 t _ (clear w) (if_neg (by simp [other]))

end

section
/-! SUPPORT. The effects of limb power, of the start of partitions, of RESET_N, of the die temperature and of the reference clocks, case by case
(R512, R515, R541, R542, R547). -/

namespace Sys2Proof.Machine

/-! ### Limbs (R512) -/

theorem State.powerLimb_gated {s : State} {l : Nat} (gated : s.limbGated l = true) : s.powerLimb l =
    s.modHier (fun h => { h with limbs := h.limbs.set l .inReset, powering := h.powering.filter (· < l) ++ [l] ++ h.powering.filter (l < ·) }) :=
  if_pos gated

theorem State.powerLimb_powered {s : State} {l : Nat} (powered : s.limbGated l = false) : s.powerLimb l = s :=
  if_neg (by simp [powered])

theorem State.gateLimb_gated {s : State} {l : Nat} (gated : s.limbGated l = true) : s.gateLimb l = s := if_pos gated

section
variable {s : State} {l : Nat} (first : s.hier.powering.head? = some l) (cool : s.power.thermTripped = false ∨ s.power.hotDies = [])
include first cool

/-- A thermal trip holds the powering back only while a sensor is hot. -/
theorem limbMayRun : (s.hier.powering.head? = some l && !(s.power.thermTripped && !s.power.hotDies.isEmpty)) = true := by
  rcases cool with h | h <;> simp [first, h]

theorem limbRunning_starts {v : State} (whole : s.hier.contained.any (fun v => (UnitId.limb l).inside v) = false)
    (hv : v = (s.modHier (fun h => { h with limbs := h.limbs.set l .running, powering := h.powering.drop 1 })).each (UnitId.boughs (.limb l)) State.formBough) :
    limbRunningEffect s l = (v.each ((UnitId.limb l).twigs.filter isT) (fun w g => w.modTrunk (trunkOfG g) (fun k =>
      if w.get (Key.TP_ENABLE + trunkOfG g) = 0 then { k with tstate := .disabled } else { k with tstate := .detect, train := { k.train with since := w.now } }))).each
        ((UnitId.limb l).twigs.filter (fun g => !isT g)) (fun w g => w.modHPort (portOfG g) (fun h => { h with lstate := .detect, detectAt := w.now })) := by
  subst hv
  rw [limbRunningEffect, if_pos (limbMayRun first cool), whole]
  rfl

theorem limbRunning_contained (down : s.hier.contained.any (fun v => (UnitId.limb l).inside v) = true) : limbRunningEffect s l =
    (s.modHier (fun h => { h with limbs := h.limbs.set l .offline, powering := h.powering.drop 1 })).each (UnitId.boughs (.limb l)) State.formBough := by
  rw [limbRunningEffect, if_pos (limbMayRun first cool), down]
  rfl

end

theorem limbRunning_waits {s : State} {l : Nat}
    (no : s.hier.powering.head? ≠ some l ∨ s.power.thermTripped = true ∧ s.power.hotDies ≠ []) : limbRunningEffect s l = s :=
  if_neg (by
    rcases no with h | ⟨tripped, hot⟩
    · simp [h]
    · simp [tripped, hot])

/-! ### The start of partitions (R515) -/

/-- The upstream link of a partition stands, where it has one on this crown. -/
def State.upLinkStands (s : State) (p : Nat) : Bool :=
  match s.upTwig p with
  | some u => (s.hport (s.hportOfG u)).up
  | none => true

theorem State.upLinkStands_iff {s : State} {p : Nat} :
    s.upLinkStands p = true ↔ ∀ g, s.upTwig p = some g → (s.hport (s.hportOfG g)).up = true := by
  unfold State.upLinkStands
  cases s.upTwig p <;> simp

theorem partStartActive_eq (s : State) (p : Nat) : partStartActiveEffect s p =
    if s.partUsed p && (s.part p).state = .held && (s.part p).cause = 0 && (s.mem.mode = 2 || s.mem.mode = 3) && s.upLinkStands p then
      (s.modPart p (fun x => { x with state := .active, causeOn := false })).noteAt 0xBC1 p 0
    else s := rfl

theorem partStartActive_starts {s : State} {p : Nat} (used : s.partUsed p = true) (held : (s.part p).state = .held) (cause : (s.part p).cause = 0)
    (mem : s.mem.mode = 2 ∨ s.mem.mode = 3) (up : ∀ g, s.upTwig p = some g → (s.hport (s.hportOfG g)).up = true) :
    partStartActiveEffect s p = (s.modPart p (fun x => { x with state := .active, causeOn := false })).noteAt 0xBC1 p 0 :=
  (partStartActive_eq s p).trans (if_pos (by simp [used, held, cause, mem, State.upLinkStands_iff.2 up]))

theorem partStartActive_holds {s : State} {p : Nat} (no : s.partUsed p = false ∨ (s.part p).state ≠ .held ∨ (s.part p).cause ≠ 0 ∨
      s.mem.mode ≠ 2 ∧ s.mem.mode ≠ 3 ∨ (∃ g, s.upTwig p = some g ∧ (s.hport (s.hportOfG g)).up = false)) : partStartActiveEffect s p = s := by
  refine (partStartActive_eq s p).trans (if_neg ?_)
  rcases no with h | h | h | ⟨h2, h3⟩ | ⟨g, twig, down⟩
  · simp [h]
  · simp [h]
  · simp [h]
  · simp [h2, h3]
  · have : s.upLinkStands p = false := by
      rw [← Bool.not_eq_true, State.upLinkStands_iff]
      exact fun up => by simp [up g twig] at down
    simp [this]

/-! ### RESET_N (R542) -/

section
variable {s : State} (free : s.faults.crown ≠ .f4Latched) (in_ : s.power.inputLost = false) (mission : s.faults.debugInstr ≠ .extest)
include free in_ mission

theorem resetNAssert_warm (standby : s.power.standby = true) :
    resetNAssertEffect s = (s.modPower (fun x => { x with resetPin := true })).warmReset 3 := by
  rw [resetNAssertEffect, if_neg (by simp [free, in_, mission]), if_neg (by simp [standby])]

theorem resetNAssert_early (standby : s.power.standby = false) : resetNAssertEffect s = s.modPower (fun x => { x with resetPin := true }) := by
  rw [resetNAssertEffect, if_neg (by simp [free, in_, mission]), if_pos (by simp [standby])]

end

theorem resetNAssert_ignored {s : State} (no : s.faults.crown = .f4Latched ∨ s.power.inputLost = true ∨ s.faults.debugInstr = .extest) :
    resetNAssertEffect s = s :=
  if_pos (by simpa [or_assoc] using no)

/-! ### Reference clocks (R541) -/

theorem reftLost_good {s v : State} {d : Nat} (stem : d < 4) (good : s.power.reft.getD d false = true)
    (hv : v = (s.modPower (fun x => { x with reft := x.reft.set d false })).noteAt 0xC1F d 2) :
    reftLostEffect s d = v.each ((List.range 4).map (4 * d + ·)) (fun w q => w.trunkRetrain q false) := by
  subst hv
  rw [reftLostEffect, if_pos (by simp only [stem, good]; rfl)]

theorem reftLost_none {s : State} {d : Nat} (no : 4 ≤ d ∨ s.power.reft.getD d false = false) : reftLostEffect s d = s := by
  refine if_neg ?_
  rcases no with h | h
  · simp [Nat.not_lt.2 h]
  · simp only [h, Bool.and_false]; decide

theorem ref25Lost_running {s : State} (good : s.power.ref25 = true) (standby : s.power.standby = true) : ref25LostEffect s =
    ((s.modPower (fun x => { x with ref25 := false })).modTime (fun x => { x with running := false })).note
      { Ev.plain 0xC20 (Config.eventCode 0xC20) 3 with level := 4, unit := some .crown, action := 7 } := by
  rw [ref25LostEffect, if_pos good, if_pos (by simp [standby])]

theorem ref25Lost_early {s : State} (good : s.power.ref25 = true) (standby : s.power.standby = false) :
    ref25LostEffect s = s.modPower (fun x => { x with ref25 := false }) := by
  rw [ref25LostEffect, if_pos good, if_neg (by simp [standby])]

theorem ref25Good_standby {s : State} (standby : s.power.standby = true) :
    ref25GoodEffect s = (s.modPower (fun x => { x with ref25 := true })).modTime (fun x => { x with running := true }) :=
  if_pos standby

section
variable {s : State} (waiting : s.power.standby = false)
include waiting

theorem ref25Good_starts (power : s.power.powerGood = true) : ref25GoodEffect s =
    (s.modPower (fun x => { x with ref25 := true, standby := true, standbyAt := s.now })).modJournal (fun j => { j with startSince := s.now }) := by
  rw [ref25GoodEffect, if_neg (by simp [waiting]), if_pos (by simp [power])]
  rfl

theorem ref25Good_unpowered (power : s.power.powerGood = false) : ref25GoodEffect s = s.modPower (fun x => { x with ref25 := true }) := by
  rw [ref25GoodEffect, if_neg (by simp [waiting]), if_neg (by simp [power])]

end

end Sys2Proof.Machine

open Sys2Proof Sys2Proof.Machine

/-- Settles O58: each command is its effect on the state that its instant has reached, and each effect takes the case whose guard the clause
gives. -/
theorem limbPowerThermalAndReferences : Obligations.LimbPowerThermalAndReferences := by
  intro s u t hu
  subst hu
  have gate (w l) : exec (.limbGate t w l) s = act2 s t (fun x =>
    if w.isInstaller && l < 8 && x.mayGate l then (x.setJ (Key.LIMB_POWER + l) 0).gateLimb l else x) := rfl
  have power (w l) : exec (.limbPowerOn t w l) s = act1 s t (fun x =>
    if w.isInstaller && l < 8 then (x.setJ (Key.LIMB_POWER + l) 1).powerLimb l else x) := rfl
  have running (l) : exec (.limbRunning t l) s = act1 s t (fun x => limbRunningEffect x l) := rfl
  have partStart (p) : exec (.partStartActive t p) s = act1 s t (fun x => partStartActiveEffect x p) := rfl
  have assert_ : exec (.resetNAssert t) s = act1 s t resetNAssertEffect := rfl
  have release (a b c) : exec (.resetNRelease t a b c) s = act1 s t (fun x => resetNReleaseEffect x a b c) := rfl
  have high (d) : exec (.thermHigh t d) s = act2 s t (fun x => thermHighEffect x d) := rfl
  have trip (d) : exec (.thermTrip t d) s = act2 s t (fun x => thermTripEffect x d) := rfl
  have cool : exec (.thermCool t) s = act1 s t (fun x => x.modPower (fun y => { y with hotDies := [], thermTripped := false })) := rfl
  have reftOut (d) : exec (.reftLost t d) s = act2 s t (fun x => reftLostEffect x d) := rfl
  have reftBack (d) : exec (.reftRestored t d) s = act1 s t (fun x => reftRestoredEffect x d) := rfl
  have ref25Out : exec (.ref25Lost t) s = act2 s t ref25LostEffect := rfl
  have ref25Back : exec (.ref25Good t) s = act1 s t ref25GoodEffect := rfl
  refine ⟨?_, ?_, ?_, ?_, ?_, ?_, ?_, ?_, ?_, ?_, ?_, ?_, ?_, ?_, ?_, ?_, ?_, ?_, ?_, ?_, ?_, ?_, ?_, ?_, ?_, ?_, ?_, ?_, ?_, ?_⟩
  · exact fun k l limb may => afterAll_act2 t _ (gate (.installer k) l) (if_pos (by simp [Role.isInstaller, limb, may]))
  · exact fun w l no => afterAll_act2 t _ (gate w l) (if_neg (by rcases no with h | h | h <;> simp [h]))
  · exact fun k l limb => after_act1 t _ (power (.installer k) l) (if_pos (by simp [Role.isInstaller, limb]))
  · exact fun w l no => after_act1 t _ (power w l) (if_neg (by rcases no with h | h <;> simp [h]))
  · exact fun w l gated => State.powerLimb_gated gated
  · exact fun w l powered => State.powerLimb_powered powered
  · exact fun w l gated => State.gateLimb_gated gated
  · exact fun l v first sensors whole hv => after_act1 t _ (running l) (limbRunning_starts first sensors whole hv)
  · exact fun l first sensors down => after_act1 t _ (running l) (limbRunning_contained first sensors down)
  · exact fun l no => after_act1 t _ (running l) (limbRunning_waits no)
  · exact fun p used held cause mem up => after_act1 t _ (partStart p) (partStartActive_starts used held cause mem up)
  · exact fun p no => after_act1 t _ (partStart p) (partStartActive_holds no)
  · exact fun free in_ standby mission => after_act1 t _ assert_ (resetNAssert_warm free in_ mission standby)
  · exact fun free in_ standby mission => after_act1 t _ assert_ (resetNAssert_early free in_ mission standby)
  · exact fun no => after_act1 t _ assert_ (resetNAssert_ignored no)
  · exact fun a b c pin => after_act1 t _ (release a b c) (if_pos pin)
  · exact fun a b c pin => after_act1 t _ (release a b c) (if_neg (Bool.eq_false_iff.1 pin))
  · exact fun d v hv => afterAll_act2 t _ (high d) (by subst hv; rfl)
  · exact fun d v hv => afterAll_act2 t _ (trip d) (by subst hv; rfl)
  · exact after_act1 t _ cool rfl
  · exact fun d v stem good hv => afterAll_act2 t _ (reftOut d) (reftLost_good stem good hv)
  · exact fun d no => afterAll_act2 t _ (reftOut d) (reftLost_none no)
  · exact fun d stem => after_act1 t _ (reftBack d) (if_pos stem)
  · exact fun d none_ => after_act1 t _ (reftBack d) (if_neg (Nat.not_lt.2 none_))
  · exact fun good standby => afterAll_act2 t _ ref25Out (ref25Lost_running good standby)
  · exact fun good standby => afterAll_act2 t _ ref25Out (ref25Lost_early good standby)
  · exact fun lost => afterAll_act2 t _ ref25Out (if_neg (Bool.eq_false_iff.1 lost))
  · exact fun standby => after_act1 t _ ref25Back (ref25Good_standby standby)
  · exact fun waiting power => after_act1 t _ ref25Back (ref25Good_starts waiting power)
  · exact fun waiting power => after_act1 t _ ref25Back (ref25Good_unpowered waiting power)

end

section
/-! SUPPORT. Writes of CNT_CTL and of CNT_FREEZE, and what time counts by itself (R524 to R529, R533). -/

namespace Sys2Proof.Machine

/-! ### CNT_CTL (R525, R526) -/

theorem cntCtlLegal_iff {n v : Nat} :
    cntCtlLegal n v = true ↔ n < 3136 ∧ v < 2 ^ 32 ∧ field v 27 10 = 0 ∧ cntEventAllowed n (field v 9 0) = true := by
  simp [cntCtlLegal, and_assoc]

theorem cntCtlLegal_false_iff {n v : Nat} :
    cntCtlLegal n v = false ↔ 3136 ≤ n ∨ 2 ^ 32 ≤ v ∨ field v 27 10 ≠ 0 ∨ cntEventAllowed n (field v 9 0) = false := by
  rw [← Bool.not_eq_true, cntCtlLegal_iff]
  simp only [not_and_or, Nat.not_lt, Bool.not_eq_true, ne_eq]

/-- The selection keeps its place in the dictionary; the value and OVF are the counter's own. -/
theorem State.cntCtlWrite_counters (s : State) (n v : Nat) : (s.cntCtlWrite n v).counters =
    (s.setCounter n { value := if field (s.getDef (Key.CNT_CTL + n) 0) 9 0 ≠ field v 9 0 ∨ bitOf v 28 = true then 0 else (s.counter n).value,
                      ovf := (s.counter n).ovf && !(field (s.getDef (Key.CNT_CTL + n) 0) 9 0 ≠ field v 9 0 : Bool) && !bitOf v 30 }).counters := by
  simp only [State.cntCtlWrite, Bool.or_eq_true, decide_eq_true_eq]
  rfl

theorem State.cntCtlWrite_dict (s : State) (n v : Nat) : (s.cntCtlWrite n v).dict =
    dictPut s.dict (Key.CNT_CTL + n) ((if bitOf v 31 then 2 ^ 31 else 0) + (if bitOf v 29 then 2 ^ 29 else 0) + field v 9 0) := rfl

/-- A legal write of the installer is made and journaled with what the entry held and then holds. -/
theorem State.cntCtlBy_legal {s : State} {n v : Nat} (legal : cntCtlLegal n v = true) (k : Nat) : s.cntCtlBy (.installer k) n v =
    (s.cntCtlWrite n v).jAppend (.write ((Key.CNT_CTL + n) / 256) ((Key.CNT_CTL + n) % 256) (s.getDef (Key.CNT_CTL + n) 0)
      ((s.cntCtlWrite n v).getDef (Key.CNT_CTL + n) 0) 0) :=
  if_pos (by simp [Role.isInstaller, legal])

theorem State.cntCtlBy_refused {s : State} {w : Role} {n v : Nat} (no : w.isInstaller = false ∨ cntCtlLegal n v = false) :
    s.cntCtlBy w n v = s :=
  if_neg (by rcases no with h | h <;> simp [h])

/-! ### CNT_FREEZE (R529) -/

theorem Role.mayFreeze_iff {w : Role} {m : BitVec 16} :
    (w.isInstaller && m.toNat < 2 ^ 13) = true ↔ ¬ (w.isInstaller = false ∨ 2 ^ 13 ≤ m.toNat) := by
  rw [Bool.and_eq_true, decide_eq_true_iff, not_or, Nat.not_le, Bool.not_eq_false]

/-! ### Time counts by itself (R524) -/

/-- Event 2 counts the ticks of 40 ns of the local count. -/
theorem State.timeCount_ticks {s : State} {n : Nat} (ref : s.power.ref25 = true) (event : field (s.get (Key.CNT_CTL + n)) 9 0 = 2) (to_ : Nat) :
    s.timeCount to_ n = to_ / 40 - s.now / 40 := by
  simp only [State.timeCount, event, ref, if_true]

/-- An amount that does not wrap is added, and raises nothing. -/
theorem State.addCounterEv_small {s : State} {n amt : Nat} (small : (s.counter n).value.toNat + amt < 2 ^ 48) :
    s.addCounterEv n amt = s.setCounter n { value := BitVec.ofNat 48 ((s.counter n).value.toNat + amt), ovf := (s.counter n).ovf } := by
  have fits : decide (2 ^ 48 ≤ (s.counter n).value.toNat + amt) = false := decide_eq_false (Nat.not_le.2 small)
  rw [State.addCounterEv, if_neg (Bool.eq_false_iff.1 fits), State.addCounter]
  simp only [fits, Bool.or_false]

/-- The counter that alone counts gets what the passing time brings. -/
theorem State.tick_counts_alone {s : State} {n : Nat} (standby : s.power.standby = true) (alone : s.selected = [n]) (t : Nat) :
    s.tick t = (s.reach t).addCounterEv n (s.timeCount (max s.now t) n) := by
  rw [State.tick, if_pos standby, alone]
  rfl

end Sys2Proof.Machine

open Sys2Proof Sys2Proof.Machine

/-- Settles O59: the writes of CNT_CTL are one write of a legal value, the freezing ones set the mask, and the passing of time adds its ticks. -/
theorem counterCommands : Obligations.CounterCommands := by
  intro s u t hu
  subst hu
  have select (w n v) : exec (.cntEventSelect t w n v) s = act1 s t (fun x => x.cntCtlBy w n v) := rfl
  have clear (w n) : exec (.cntClear t w n) s = act1 s t (fun x => x.cntCtlBy w n (x.getDef (Key.CNT_CTL + n) 0 + 2 ^ 28)) := rfl
  have ovfClear (w n) : exec (.cntOvfClear t w n) s = act1 s t (fun x => x.cntCtlBy w n (x.getDef (Key.CNT_CTL + n) 0 + 2 ^ 30)) := rfl
  have freeze (w m) : exec (.cntFreezeSet t w m) s = act1 s t (fun x =>
    if w.isInstaller && m.toNat < 2 ^ 13 then x.cntFreezeWrite (x.counters.freeze ||| m) else x) := rfl
  have resume (w m) : exec (.cntFreezeResume t w m) s = act1 s t (fun x =>
    if w.isInstaller && m.toNat < 2 ^ 13 then x.cntFreezeWrite (x.counters.freeze &&& ~~~m) else x) := rfl
  refine ⟨?_, ?_, ?_, ?_, ?_, ?_, ?_, ?_, ?_, ?_, ?_, ?_, ?_⟩
  · exact fun k n v counter word reserved event =>
      after_act1 t _ (select (.installer k) n v) (State.cntCtlBy_legal (cntCtlLegal_iff.2 ⟨counter, word, reserved, event⟩) k)
  · exact fun n v => State.cntCtlWrite_counters _ n v
  · exact fun n v => State.cntCtlWrite_dict _ n v
  · exact fun w n v no => after_act1 t _ (select w n v) (State.cntCtlBy_refused (no.imp_right cntCtlLegal_false_iff.2))
  · exact fun k n v hv legal => after_act1 t _ (clear (.installer k) n) (by subst hv; exact State.cntCtlBy_legal legal k)
  · exact fun w n no => after_act1 t _ (clear w n) (State.cntCtlBy_refused no)
  · exact fun k n v hv legal => after_act1 t _ (ovfClear (.installer k) n) (by subst hv; exact State.cntCtlBy_legal legal k)
  · exact fun w n no => after_act1 t _ (ovfClear w n) (State.cntCtlBy_refused no)
  · exact fun k m mask => after_act1 t _ (freeze (.installer k) m) (if_pos (Role.mayFreeze_iff.2 (by simpa [Role.isInstaller] using mask)))
  · exact fun k m mask => after_act1 t _ (resume (.installer k) m) (if_pos (Role.mayFreeze_iff.2 (by simpa [Role.isInstaller] using mask)))
  · exact fun w m no => after_act1 t _ (freeze w m) (if_neg (fun may => Role.mayFreeze_iff.1 may no))
  · exact fun w m no => after_act1 t _ (resume w m) (if_neg (fun may => Role.mayFreeze_iff.1 may no))
  · intro n standby ref alone event small
    rw [State.tick_counts_alone standby alone, State.timeCount_ticks ref event]
    exact State.addCounterEv_small small

end

section
/-! SUPPORT. Snapshots: how one is queued, heard of, fired and banked (R530 to R532). -/

namespace Sys2Proof.Machine

/-! ### Queueing (R531) -/

/-- A pending snapshot of the same FT absorbs the request. -/
theorem State.snapQueue_joins {s : State} {ft : Nat} {a : ActSlot} (same : s.snapsPending.find? (fun a => a.ft = ft) = some a) (id org : Nat) :
    s.snapQueue ft id org = some (s, a.ref) := by
  simp only [State.snapQueue, same]

section
variable {s : State} {ft : Nat} (new : s.snapsPending.find? (fun a => a.ft = ft) = none)
include new

theorem State.snapQueue_enters (room : s.snapsPending.length < 8) (id org : Nat) :
    s.snapQueue ft id org = (s.actPut ft .snapshot false id org).map (fun v => (v, id)) := by
  simp only [State.snapQueue, new, if_neg (Nat.not_le.2 room)]

theorem State.snapQueue_full (full : 8 ≤ s.snapsPending.length) (id org : Nat) : s.snapQueue ft id org = none := by
  simp only [State.snapQueue, new, if_pos full]

end

/-! ### Requests (R531, R533) -/

/-- One for the grove sooner than 1 ms ahead is refused. -/
theorem State.snapWrite_sooner {s : State} {ft : Nat} (sooner : ft < s.stampFt + 1000000) (id : Nat) :
    s.snapWrite ft id true = .error (.state 0) :=
  if_pos (by rw [Bool.true_and]; exact decide_eq_true sooner)

section
variable {s : State} {ft : Nat} {grove : Bool} (ahead : grove = true → s.stampFt + 1000000 ≤ ft)
include ahead

/-- One that is not sooner is not refused for its FT. -/
theorem State.snapWrite_ahead : ¬ (grove && ft < s.stampFt + 1000000) = true := fun sooner => by
  obtain ⟨hg, hft⟩ := Bool.and_eq_true_iff.1 sooner
  exact absurd (ahead hg) (Nat.not_le.2 (of_decide_eq_true hft))

theorem State.snapWrite_full {id : Nat} (full : s.snapQueue ft id s.crownId = none) : s.snapWrite ft id grove = .error .full := by
  rw [State.snapWrite, if_neg (State.snapWrite_ahead ahead), full]

theorem State.snapWrite_queued {v : State} {id n : Nat} (queued : s.snapQueue ft id s.crownId = some (v, n)) : s.snapWrite ft id grove = .ok
    (if grove then
      (v.modAct (fun a => { a with snapNumber := v.act.snapNumber + 1 })).sendControl (fun _ => true)
        (.snapshot { origin := s.crownId % 1024, number := v.act.snapNumber + 1, ft := ft, snapId := n })
     else v) := by
  rw [State.snapWrite, if_neg (State.snapWrite_ahead ahead), queued]
  cases grove <;> rfl

end

/-- What a write of SNAP_REQUEST leaves: what it accepts, else the state as it is. -/
def State.orAccepted (s : State) (answer : Except QueueRefusal State) : State :=
  match answer with
  | .ok s' => s'
  | .error _ => s

theorem execSnapRequest_eq (t : Nat) (w : Role) (ft id : Nat) (grove : Bool) (s : State) : execSnapRequest t w ft id grove s =
    act1 s t (fun x => if w.isInstaller then x.orAccepted (x.snapWrite ft id grove) else x) := by
  unfold execSnapRequest
  refine congrArg (act1 s t) (funext fun x => ?_)
  generalize x.snapWrite ft id grove = answer
  cases answer <;> rfl

theorem State.orAccepted_own {s v : State} {ft id n : Nat} (queued : s.snapQueue ft id s.crownId = some (v, n)) :
    s.orAccepted (s.snapWrite ft id false) = v := by
  rw [State.snapWrite_queued (by simp) queued]
  rfl

theorem State.orAccepted_grove {s v : State} {ft id n : Nat} (ahead : s.stampFt + 1000000 ≤ ft)
    (queued : s.snapQueue ft id s.crownId = some (v, n)) : s.orAccepted (s.snapWrite ft id true) =
      (v.modAct (fun a => { a with snapNumber := v.act.snapNumber + 1 })).sendControl (fun _ => true)
        (.snapshot { origin := s.crownId % 1024, number := v.act.snapNumber + 1, ft := ft, snapId := n }) := by
  rw [State.snapWrite_queued (fun _ => ahead) queued]
  rfl

theorem State.orAccepted_refused {s : State} {ft id : Nat} {grove : Bool}
    (no : s.snapQueue ft id s.crownId = none ∨ grove = true ∧ ft < s.stampFt + 1000000) : s.orAccepted (s.snapWrite ft id grove) = s := by
  by_cases sooner : grove = true ∧ ft < s.stampFt + 1000000
  · obtain ⟨rfl, hft⟩ := sooner
    rw [State.snapWrite_sooner hft]
    rfl
  · have full := no.resolve_right sooner
    rw [State.snapWrite_full (fun hg => Nat.le_of_not_lt fun hft => sooner ⟨hg, hft⟩) full]
    rfl

/-! ### Scheduling messages (R531) -/

/-- A scheduling message is newer than the last one heard of its origin. -/
def State.snapFresh (s : State) (m : SnapMsg) : Bool :=
  match assocGet s.act.snapSeen m.origin with
  | none => true
  | some l => newer16 m.number l

theorem State.snapFresh_iff {s : State} {m : SnapMsg} : s.snapFresh m = true ↔
    assocGet s.act.snapSeen m.origin = none ∨ ∃ l, assocGet s.act.snapSeen m.origin = some l ∧ newer16 m.number l = true := by
  unfold State.snapFresh
  cases assocGet s.act.snapSeen m.origin <;> simp

/-- The snapshot of a message is queued, or is missed. -/
def State.snapFollow (s : State) (m : SnapMsg) : State :=
  match s.snapQueue m.ft m.snapId m.origin with
  | some (s', _) => s'
  | none => s.noteAt 0xC1C (m.snapId % 65536) 0

theorem snapshotMessage_eq (s : State) (q : Nat) (m : SnapMsg) : snapshotMessageEffect s q m =
    if s.trunkUp q && s.snapFresh m && m.origin ≠ s.crownId then
      ((s.modAct (fun a => { a with snapSeen := assocPut a.snapSeen m.origin m.number })).sendControl (fun r => r ≠ q) (.snapshot m)).snapFollow m
    else s := rfl

section
variable {s v : State} {q : Nat} {m : SnapMsg} (up : s.trunkUp q = true)
  (fresh : assocGet s.act.snapSeen m.origin = none ∨ ∃ l, assocGet s.act.snapSeen m.origin = some l ∧ newer16 m.number l = true)
  (other : m.origin ≠ s.crownId)
  (hv : v = (s.modAct (fun a => { a with snapSeen := assocPut a.snapSeen m.origin m.number })).sendControl (fun r => r ≠ q) (.snapshot m))
include up fresh other hv

theorem snapshotMessage_new : snapshotMessageEffect s q m = v.snapFollow m := by
  subst hv
  rw [snapshotMessage_eq, if_pos (by simp [up, State.snapFresh_iff.2 fresh, other])]

theorem snapshotMessage_queues {w : State} {n : Nat} (queued : v.snapQueue m.ft m.snapId m.origin = some (w, n)) :
    snapshotMessageEffect s q m = w := by
  rw [snapshotMessage_new up fresh other hv, State.snapFollow, queued]

theorem snapshotMessage_misses (full : v.snapQueue m.ft m.snapId m.origin = none) :
    snapshotMessageEffect s q m = v.noteAt 0xC1C (m.snapId % 65536) 0 := by
  rw [snapshotMessage_new up fresh other hv, State.snapFollow, full]

end

theorem snapshotMessage_old {s : State} {q : Nat} {m : SnapMsg} (no : s.trunkUp q = false ∨ m.origin = s.crownId ∨
    ∃ l, assocGet s.act.snapSeen m.origin = some l ∧ newer16 m.number l = false) : snapshotMessageEffect s q m = s := by
  rw [snapshotMessage_eq, if_neg]
  rcases no with h | h | ⟨l, heard, old⟩
  · simp [h]
  · simp [h]
  · simp [State.snapFresh, heard, old]

/-! ### Firing and banking (R529, R530, R532) -/

/-- The counters of a gated limb read as zero: they are not listed. -/
theorem State.mem_counterCopy {s : State} {e : Nat × Counter} :
    e ∈ s.counterCopy ↔ e ∈ s.counters.values ∧ ∀ l, counterLimb e.1 = some l → s.limbGated l = false := by
  rw [State.counterCopy, List.mem_filter]
  refine and_congr_right fun _ => ?_
  cases counterLimb e.1 <;> simp

theorem snapshotFire_due {s : State} {n : Nat} {a : ActSlot} (slot : n < 256) (ha : a = s.act.slots.getD n ActSlot.reset)
    (kind : a.kind = .snapshot) (turn : s.actTurn n = true) (fate : s.dueFate false ≠ .wait) : snapshotFireEffect s n =
      (s.modCounters (fun c => { c with
        staging := some (s.counterCopy, a.ft, a.ref, a.origin, s.time.mode.code * 2 ^ 32 + s.uncertainty) })).markFired n := by
  subst ha
  rw [snapshotFireEffect, if_pos (by simp only [kind, slot, turn, ne_eq, fate, not_false_eq_true, decide_true, Bool.and_self])]

theorem snapshotFire_waits {s : State} {n : Nat} (no : 256 ≤ n ∨ (s.act.slots.getD n ActSlot.reset).kind ≠ .snapshot ∨ s.actTurn n = false ∨
    s.dueFate false = .wait) : snapshotFireEffect s n = s := by
  refine if_neg ?_
  rcases no with h | h | h | h
  · simp [Nat.not_lt.2 h]
  · simp only [h, decide_false, Bool.false_and]; decide
  · simp [h]
  · simp [h]

theorem snapComplete_banks {s : State} {vs : List (Nat × Counter)} {ft id o x : Nat} (staged : s.counters.staging = some (vs, ft, id, o, x)) :
    snapCompleteEffect s = s.modCounters (fun c => { c with
      bank := vs, staging := none, snapSeq := c.snapSeq + 1, snapFt := ft, snapId := id, snapOrigin := o, snapTime := x }) := by
  rw [snapCompleteEffect, staged]

theorem snapComplete_idle {s : State} (none_ : s.counters.staging = none) : snapCompleteEffect s = s := by
  rw [snapCompleteEffect, none_]

end Sys2Proof.Machine

open Sys2Proof Sys2Proof.Machine

/-- Settles O60: each command is its effect on the state that its instant has reached, and each effect takes the case whose guard the clause
gives. -/
theorem snapshotResults : Obligations.SnapshotResults := by
  intro s u t hu
  subst hu
  have request (w ft id b) : exec (.snapRequest t w ft id b) s =
    act1 s t (fun x => if w.isInstaller then x.orAccepted (x.snapWrite ft id b) else x) := execSnapRequest_eq t w ft id b s
  have message (q m) : exec (.snapshotMessage t q m) s = act1 s t (fun x => snapshotMessageEffect x q m) := rfl
  have fire (n) : exec (.snapshotFire t n) s = act1 s t (fun x => snapshotFireEffect x n) := rfl
  have complete : exec (.snapComplete t) s = act1 s t snapCompleteEffect := rfl
  refine ⟨?_, ?_, ?_, ?_, ?_, ?_, ?_, ?_, ?_, ?_, ?_, ?_, ?_, ?_, ?_⟩
  · exact fun k ft id v n queued => after_act1 t _ (request (.installer k) ft id false) (State.orAccepted_own queued)
  · exact fun k ft id v n ahead queued => after_act1 t _ (request (.installer k) ft id true) (State.orAccepted_grove ahead queued)
  · exact fun k ft id b no => after_act1 t _ (request (.installer k) ft id b) (State.orAccepted_refused no)
  · exact fun w ft id b other => after_act1 t _ (request w ft id b) (if_neg (by simp [other]))
  · exact fun ft id org a same => State.snapQueue_joins same id org
  · exact fun ft id org new room => State.snapQueue_enters new room id org
  · exact fun ft id org new full => State.snapQueue_full new full id org
  · exact fun q m v w n up fresh other hv queued => after_act1 t _ (message q m) (snapshotMessage_queues up fresh other hv queued)
  · exact fun q m v up fresh other hv full => after_act1 t _ (message q m) (snapshotMessage_misses up fresh other hv full)
  · exact fun q m no => after_act1 t _ (message q m) (snapshotMessage_old no)
  · exact fun n a slot ha kind turn fate => after_act1 t _ (fire n) (snapshotFire_due slot ha kind turn fate)
  · exact fun n no => after_act1 t _ (fire n) (snapshotFire_waits no)
  · exact fun e => State.mem_counterCopy
  · exact fun vs ft id o x staged => after_act1 t _ complete (snapComplete_banks staged)
  · exact fun none_ => after_act1 t _ complete (snapComplete_idle none_)

end
